-- ==== Sys2Proof/Word.lean ====
section
/-! DEFINITION. Word types and the two small fixed-size containers (one value per axis, one per port). -/

-- The package compiles as one text, one declaration after the other: the memory of parallel elaboration is the limit there.
set_option Elab.async false

namespace Sys2Proof

/-- One byte, as slots, records and frames carry it. -/
abbrev Byte := BitVec 8

/-- A 32-bit word: host registers, frame and superframe counters (R6). -/
abbrev Word := BitVec 32

/-- Four values of one kind: axes, channels, AUX outputs, classes (index 0 to 3). -/
structure Quad (α : Type) where
  q0 : α
  q1 : α
  q2 : α
  q3 : α
deriving DecidableEq, Repr

namespace Quad

variable {α β : Type}

/-- The same value four times. -/
def all (a : α) : Quad α := ⟨a, a, a, a⟩

def get (q : Quad α) : Fin 4 → α
  | 0 => q.q0
  | 1 => q.q1
  | 2 => q.q2
  | 3 => q.q3

def set (q : Quad α) (n : Fin 4) (a : α) : Quad α :=
  match n with
  | 0 => { q with q0 := a }
  | 1 => { q with q1 := a }
  | 2 => { q with q2 := a }
  | 3 => { q with q3 := a }

def upd (q : Quad α) (n : Fin 4) (f : α → α) : Quad α := q.set n (f (q.get n))

def map (q : Quad α) (f : α → β) : Quad β := ⟨f q.q0, f q.q1, f q.q2, f q.q3⟩

def mapIdx (q : Quad α) (f : Fin 4 → α → β) : Quad β := ⟨f 0 q.q0, f 1 q.q1, f 2 q.q2, f 3 q.q3⟩

def toList (q : Quad α) : List α := [q.q0, q.q1, q.q2, q.q3]

end Quad

/-- Two values of one kind: coils, ports, compare units, divided outputs. -/
structure Duo (α : Type) where
  d0 : α
  d1 : α
deriving DecidableEq, Repr

namespace Duo

variable {α β : Type}

def all (a : α) : Duo α := ⟨a, a⟩

def get (d : Duo α) : Fin 2 → α
  | 0 => d.d0
  | 1 => d.d1

def set (d : Duo α) (n : Fin 2) (a : α) : Duo α :=
  match n with
  | 0 => { d with d0 := a }
  | 1 => { d with d1 := a }

def upd (d : Duo α) (n : Fin 2) (f : α → α) : Duo α := d.set n (f (d.get n))

def map (d : Duo α) (f : α → β) : Duo β := ⟨f d.d0, f d.d1⟩

def mapIdx (d : Duo α) (f : Fin 2 → α → β) : Duo β := ⟨f 0 d.d0, f 1 d.d1⟩

def toList (d : Duo α) : List α := [d.d0, d.d1]

end Duo

/-- The four axes, in ascending order. -/
def axes4 : List (Fin 4) := [0, 1, 2, 3]

/-- The two ports, coils or units, in ascending order. -/
def both2 : List (Fin 2) := [0, 1]

/-- PWMCLK ticks in a frame: 50 µs at 200 MHz (R6, Table ARCH-3). -/
def frameTicks : Nat := 10000

end Sys2Proof
end

