-- ==== Sys2Proof/Syntax.lean ====
section
/-! DEFINITION. The commands of the block and the data they carry from outside. -/

namespace Sys2Proof

/-- The eight power domains that are no axis domain (Table PWR-1). -/
inductive Domain where
  | aon | sys | ana | aux | fbk | net | twin | plan
deriving DecidableEq, Repr

/-- A sequenced unit: a domain or an axis domain (Tables PWR-5 to PWR-8). -/
inductive SeqUnit where
  | dom (d : Domain)
  | axis (n : Fin 4)
deriving DecidableEq, Repr

/-- A fabric frame as built or received: the 29-bit identifier and the payload (15). -/
structure AmFrame where
  ident : BitVec 29
  data  : List Byte
  /-- a CAN FD frame with a 29-bit identifier and bit rate switching (R454) -/
  fd    : Bool := true
deriving DecidableEq, Repr

/-- A frame of the ISO port (16). -/
structure IsoFrame where
  ident : BitVec 29
  data  : List Byte
  /-- a classic frame with a 29-bit identifier (R516) -/
  classic : Bool := true
deriving DecidableEq, Repr

/-- A feedback line whose raw level moved: its last samples, the newest last, and the 10 ns ticks for which the filtered level that
they give then holds (R363, R364). -/
structure LineIn where
  samples : List Bool
  held    : Nat
deriving DecidableEq, Repr

/-- The fall of a select: SCK level (R116), the other select low (R78), RDY high (R133). -/
structure SelFall where
  sckHigh : Bool
  other   : Bool
  rdy     : Bool
deriving DecidableEq, Repr

/-- A quantity that a row names, observed `off` ticks after the last boundary. -/
structure Moment where
  off : Nat
  val : Nat
deriving DecidableEq, Repr

/-- A CS0 frame on the pins between select fall and release: the levels of IO3 to IO0 at each sampling edge of SCK, IO0 as bit 0, and the
offsets of the data bytes that were not fetched in time (04, Table HOST-2, R126). -/
structure SckFrame where
  fall    : SelFall
  cycles  : List (BitVec 4)
  late    : List Nat
deriving DecidableEq, Repr

/-- A CS0 frame as the port reads it from its cycles (04, R118 to R129). -/
structure HostFrame where
  fall    : SelFall
  /-- command byte, as the command mode reads it; none when the frame ends before it is whole -/
  cmd     : Option Byte
  /-- whole address-phase bytes received, then the bytes of the data and CRC phases (write) -/
  addr    : List Byte
  data    : List Byte
  /-- cycles after the dummy cycles (read), the bytes begun in them, and the offsets of those not fetched in time (R122, R123, R126) -/
  clocks  : Nat
  count   : Nat
  late    : List Nat
  /-- the release falls inside a byte (R128) -/
  ragged  : Bool
deriving DecidableEq, Repr

/-- Fields of the command byte (Table HOST-1): LANES, CRC, MARK, DIR; 0xFF is the mode reset (R118, R120). -/
def HostFrame.lanes (f : HostFrame) : Nat := match f.cmd with | some c => c.toNat / 64 | none => 0
def HostFrame.crc (f : HostFrame) : Bool := match f.cmd with | some c => c.getLsbD 5 | none => false
def HostFrame.mark (f : HostFrame) : Nat := match f.cmd with | some c => c.toNat / 2 % 16 | none => 0
def HostFrame.isRead (f : HostFrame) : Bool := match f.cmd with | some c => c.getLsbD 0 | none => false
def HostFrame.isReset (f : HostFrame) : Bool := f.cmd == some 0xFF

/-- What a diagnostic slot of ADC1 measures (Table MON-4): the code read back less the code loaded of a comparator (the high
code of a window) or of a regulation DAC, a flip test with the input it measured, the check reference in µV, BS − SH in mV, the HBK pin in mV. -/
inductive DiagSlot where
  | readBack (comp : Fin 51) (high : Bool) (code : Int)
  | regDac (n : Fin 4) (c : Fin 2) (zero : Bool) (code : Int)
  | flip (comp : Fin 51) (mv : Int) (minus plus : Bool)
  | reference (conv : Fin 2) (uv : Nat)
  | boot (n b : Fin 4) (mv ns : Nat)
  | hbkPin (b : Fin 4) (mv us : Nat)
deriving DecidableEq, Repr

/-- Slots 0 to 8 of a unit of ADC1 (Table MON-3): the captures of the eight integrators in mV·µs, or the node voltages in mV of an axis
in an off-state test; and VM in mV. -/
structure UnitConv where
  caps : List Int
  vm   : Nat
deriving DecidableEq, Repr
/-- The commands of the block: one constructor per row of spec/opcode_table.json (95). Opcode rows carry the hopper
whose registered command is taken (R155). -/
inductive Instr where
  /-- R84: VBAT rises above 3.5 V and the device starts AON, SYS, ANA, AUX and the enabled domains in order toward IDLE. -/
  | powerOn (vbat : Nat)
  /-- R84: VBAT falls below 3.0 V, AON resets and retention content is lost. -/
  | powerOff (vbat : Nat)
  /-- R110: VBAT stays below 4.5 V for 5 µs, so every domain except AON goes down by the fault path, FT-0x1308 is recorded and the device enters SLEEP. -/
  | brownOut (vbat : Nat) (us : Nat)
  /-- R71: An accepted RESETN low resets every domain, and every pin takes its reset state within 1 µs. -/
  | reset
  /-- R71: RESETN rises, enable filters restart at their inactive level, ROLE and TSTEN are read, and the start sequence runs. -/
  | resetRelease (tsten : Bool) (roleUp : Bool) (roleDown : Bool)
  /-- R85: An enabled wake source qualifies in SLEEP or STANDBY, the domains start, the counters advance under R87 and EV-0x1305 is raised. -/
  | wakeSource (src : Fin 9) (periods : Nat) (us : Nat) (vbat : Nat) (level : Bool)
  /-- R92: A domain step reaches its checkpoint, and the sequencer continues, or reverses on a latched opposite request. -/
  | checkpointReached (u : SeqUnit) (vals : List Int)
  /-- R90: A domain step exceeds its maximum duration: FT-0x1305 is raised, or for SYS the device restarts up to three times. -/
  | checkpointTimeout (u : SeqUnit) (us : Nat)
  /-- R96: After its stagger or key-on delay an axis domain begins up step 1 by itself. -/
  | axisUpStart (n : Fin 4)
  /-- R108: VM below 6.0 V for 5 µs turns every switch and HBK output off, raises FT-0x1306 and sends every axis domain to Failed. -/
  | vmUndervoltage (vm : Nat) (us : Nat)
  /-- R109: VM above 6.5 V for 1 sf after FT-0x1306 raises EV-0x1306 and restarts the VGD step. -/
  | vmRestored (vm : Nat) (sf : Nat)
  /-- R107: VM above dev.sup.vm_ov puts every enabled axis in CLAMP within 2 µs and raises FT-0x1307. -/
  | vmOvervoltage (vm : Nat)
  /-- R107: VM below vm_ov minus hysteresis for 1 f releases the clamp to the configured reaction. -/
  | vmOvervoltageRelease (vm : Nat) (us : Nat)
  /-- R104: The SW1 comparator turns BRKG on above dev.sup.brk_on or off below the hysteresis level. -/
  | brakeChopperSwitch (vm : Nat) (off : Nat)
  /-- R105: BRKG exceeds its on-time or duty limit, so it is turned off and FT-0x130B is raised. -/
  | brakeChopperLimit (off : Nat)
  /-- R106: BRKG has been on for 2 ms without VM falling 0.5 V, and FT-0x130E is raised. -/
  | brakeDumpIneffective (vm : Nat) (off : Nat)
  /-- R111: VGD outside 9.0–13.0 V for 5 µs with an axis past step 1 turns every switch off and raises FT-0x130A. -/
  | vgdOutOfWindow (mv : Nat) (us : Nat)
  /-- R103: VBAT above 64 V, or VREG5, VREG33 or VCORE out of its window, raises FT-0x1309 or FT-0x130D. -/
  | supplyWindowFault (which : Fin 4) (mv : Nat) (us : Nat)
  /-- R100: The reverse-blocking controller drives RBG to RBCP once AON is Ready and RBS conditions hold. -/
  | reverseFetOn (rbs : Nat) (vbat : Nat) (us : Nat)
  /-- R101: Reverse current or RBS below 3.0 V pulls RBG to RBS within 1 µs, and EV-0x1303 is raised. -/
  | reverseFetOff (rbs : Nat) (vbat : Nat)
  /-- R102: RBS over VBAT by 300 mV or RBCP low for 1 sf raises FT-0x130C. -/
  | reverseFetNotEnhanced (rbs : Nat) (vbat : Nat) (rbcp : Nat) (sf : Nat)
  /-- R27: The frame timer reaches its count, shadow registers are applied, the snapshot is latched, the counters advance and the firmware frame runs. -/
  | frameBoundary (commit : Bool) (hbk : Quad Nat)
  /-- R31: The cores disagree, so all switches and HBK outputs turn off within 2 cycles, ACTO drops and FT-0x1202 sends the device SAFE. -/
  | lockstepMismatch
  /-- R19: The crystal stops or deviates by more than 4 %, PLLM moves to the RC and FT-0x1401 leads to HALT, listen-only and twin loss. -/
  | crystalLoss
  /-- R23: The crystal is qualified and every axis is at rest, so the restore is declared and the clock-return sequence starts. -/
  | crystalRestore (devs : List Nat)
  /-- R37: The PLLs lock within the settling window, EV-0x1402 is raised and held commands are released. -/
  | clockSettlingEnd
  /-- R24: A PLL is not locked 10 f after the restore, the matching fault is raised and the sequence is retried later. -/
  | pllLockTimeout (p : Fin 3)
  /-- R25: A PLL leaves ±1 % of its frequency and the device reacts for PLLM, PLLC or PLLT as stated. -/
  | pllLockLoss (p : Fin 3)
  /-- R25: A PLL that lost lock relocks, and its clocks, ports or link resume. -/
  | pllRelock (p : Fin 3) (us : Nat) (held : Nat) (gone : Nat)
  /-- R18: The LF oscillator is trimmed against the crystal every second, with FT-0x1405 when out of range. -/
  | lfTrim (dev : Int)
  /-- R76: A rising SYNC edge is accepted as frame reference, or rejected when closer than 45 µs. -/
  | syncEdge (off : Nat) (high : Bool)
  /-- R26: No SYNC edge for 1 sf returns the trim to 0 and raises EV-0x1202. -/
  | syncReferenceLoss (off : Nat)
  /-- R26: The trim has been held at dev.frame.trim_max for 20 frames, and EV-0x1201 is raised. -/
  | frameTrimLimit
  /-- R34: An idle axis begins its 2 f standstill recalibration once its conditions hold. -/
  | standstillRecalStart (n : Fin 4)
  /-- R37: A calibration window ends at boundary E, and the commands held by it start. -/
  | calibrationEnd (n : Fin 4)
  /-- R38: A held command that has not started by intake plus 8 f completes CAL_BUSY. -/
  | heldCommandTimeout (h : Fin 32)
  /-- R67: A STEP rising edge is accepted or rejected, DIR is sampled, and in STEPF the demand is raised by the multiplier. -/
  | stepPulse (n : Fin 4) (off : Nat) (high : Nat) (dir : Bool) (changed : Bool)
  /-- R317: AXENn or ENnCk goes filtered low, the governed switches turn off and the axis reacts under R318. -/
  | governingEnableFall (n : Fin 4) (k : Option (Fin 4))
  /-- R320: The governing enable goes filtered high, EV-0x0302 is raised and regulation resumes. -/
  | governingEnableRise (n : Fin 4) (k : Option (Fin 4))
  /-- R323: An INnCk edge held for psn.pin.min_pulse switches its half-bridge, or is suppressed and counted. -/
  | pinModeInEdge (n : Fin 4) (k : Fin 4) (level : Bool) (width : Moment) (vds : Nat) (bs : Nat)
  /-- R72: A SEAL change after boot has no effect and raises EV-0x0001. -/
  | sealChange (high : Bool)
  /-- R563: PRES goes filtered low and opens or restarts the presence window, raising EV-0x0901. -/
  | presPress
  /-- R73: PRES stays low for dev.pin.pres_stuck, is declared stuck and raises EV-0x0002. -/
  | presStuck (sec : Nat)
  /-- R563: The presence window reaches svc.pres_win, closes and raises EV-0x0902. -/
  | presenceWindowExpiry (ms : Nat)
  /-- R567: The tamper loop fails its checks, AON sets the latch, presence and debug are withdrawn, and FT-0x0901 is raised. -/
  | tamperLoopBroken (pulse : Bool × Bool) (gap : Bool × Bool)
  /-- R128: A CS0 write frame is released and is either applied to registers without behaviour of their own, slots or the bulk window, or aborted. -/
  | hostWriteFrame (f : SckFrame)
  /-- R130: An accepted write takes effect as one update within tAPPLY, and RDY rises. -/
  | writeApplied
  /-- R131: A CS0 read frame returns sampled data and CRC, counting underruns in RUNDR or aborting on its causes. -/
  | hostReadFrame (f : SckFrame)
  /-- R120: A CS0 frame whose command reads 0xFF returns the port to single-lane command mode at release. -/
  | modeReset (fall : SelFall)
  /-- R129: No SCK edge for 500 µs while selected aborts the frame with cause 0x0B. -/
  | hostSckTimeout (f : SckFrame)
  /-- R150: A DBELL write hands each named slot to the device and clears its HDONE bit, or refuses it with DBREJ when the slot is owned. -/
  | dbell (v : BitVec 16)
  /-- R135: A write of 1 to HDONE clears the completion bits. -/
  | hdoneClear (v : BitVec 16)
  /-- R135: A write of 1 to DBREJ clears the doorbell-refusal bits. -/
  | dbrejClear (v : BitVec 16)
  /-- R135: A write of 1 to ATTSRC HERR or WAKE clears that attention source. -/
  | attsrcClear (v : BitVec 16)
  /-- R135: A write of 1 to the W1C bits of STRSTAT clears them. -/
  | strstatClear (v : BitVec 32)
  /-- R142: Any write clears the STREARLY counter. -/
  | strearlyClear
  /-- R142: Any write clears the CRCERR counter. -/
  | crcerrClear
  /-- R142: Any write clears the ABORTCNT counter. -/
  | abortcntClear
  /-- R142: Any write clears ABORTWHY. -/
  | abortwhyClear
  /-- R142: Any write clears the RUNDR counter. -/
  | rundrClear
  /-- R136: A write to HWDOG kicks or arms the host watchdog, and raises EV-0x1001 after FT-0x1001. -/
  | hwdog (v : BitVec 32)
  /-- R136: The armed host watchdog gets no kick for dev.host.wdog and raises FT-0x1001. -/
  | hostWatchdogExpiry (us : Nat)
  /-- R127: A host write of 1 to CRCCTL.REQ makes CRC mandatory until reset. -/
  | crcctlSet (v : BitVec 32)
  /-- R120: Writing HCFG.CMDQ switches the port into or out of 4-4-4 command mode. -/
  | cmdqWrite (v : BitVec 32)
  /-- R140: A CS1 release with STRCTL.SRC = 1 starts a sensor-port transfer of the bits received. -/
  | sensorBridgeTransfer (fall : SelFall) (bits : List Bool)
  /-- R417: The sensor-port bridge transfer ends, BRDONE is set, or BRTO is set with a response of zeros. -/
  | bridgeTransferDone (read : List Bool)
  /-- R141: A CS1 transfer with STRCTL.SRC = 2 sends the 512-bit snapshot record latched at the last boundary. -/
  | snapshotReadout (fall : SelFall) (clocks : Nat)
  /-- R161: A command waiting for its tag starts in frame N−1, or starts late or completes TOO_LATE. -/
  | taggedCommandStart (h : Fin 32)
  /-- R158: A command waiting behind earlier commands or a barrier starts once its condition ends and a start is free. -/
  | waitingCommandStart (h : Fin 32)
  /-- R174: A BARRIER exceeds its timeout, completes TIMEOUT and cancels the commands waiting behind it. -/
  | barrierTimeout (h : Fin 32)
  /-- R185: The owner verdicts are recomputed after a working-set change, and survey-governed commands may be taken again. -/
  | verdictRecomputed
  /-- R197: In the first frame after SYS Ready, Fequel issues ENABLE_UNIT for dev.cfg.autoen through an internal hopper. -/
  | autoEnable
  /-- R207: The interval unit issues a microstep, updates position and index, and moves the profile through its phases. -/
  | microstep (n : Fin 4) (off : Nat)
  /-- R207: The interval check fails, microsteps stop at once and FT-0x0102 is raised. -/
  | intervalUnitFault (n : Fin 4)
  /-- R226: The axis has issued no microstep for ax.mot.still_t frames at zero velocity and enters standstill. -/
  | standstillReached (n : Fin 4)
  /-- R248: Standstill lasts axn.cur.hold_delay and the amplitude begins its ramp to ihold. -/
  | holdDelayExpiry (n : Fin 4)
  /-- R268: The hold ramp ends and the axis enters its standstill mode HOLD, QUIET or CLAMP. -/
  | holdRampEnd (n : Fin 4)
  /-- R250: The trip comparator trips after blanking, the off phase begins and a current sample is taken. -/
  | chopperTrip (n : Fin 4) (c : Fin 2) (code : Nat) (ton : Nat)
  /-- R253: Blanking ends, and a trip found already set escalates the fast-decay fraction. -/
  | blankingEnd (n : Fin 4) (c : Fin 2) (seen : Bool) (ton : Nat)
  /-- R250: The fast-decay fraction of the off time ends and the coil enters slow decay. -/
  | fastDecayEnd (n : Fin 4) (c : Fin 2) (gone : Nat)
  /-- R251: The zero comparator trips during fast decay and the coil enters slow decay at once. -/
  | zeroComparatorTrip (n : Fin 4) (c : Fin 2)
  /-- R250: The off time axn.chop.toff ends and the next on phase begins. -/
  | offTimeEnd (n : Fin 4) (c : Fin 2) (gone : Nat)
  /-- R258: A voltage-mode PWM period computes the duty and the integral from the coil model and the sample. -/
  | pwmPeriod (n : Fin 4) (c : Fin 2) (code : Nat)
  /-- R275: A 16-microstep window ends and its back-EMF, load angle and magnitude are formed. -/
  | wedgeWindowEnd (n : Fin 4) (va : Int) (vb : Int)
  /-- R282: A 64-window period ends, and is judged valid before the stall criteria and learning run. -/
  | wedgePeriodEnd (n : Fin 4)
  /-- R295: The 4 f settle after contact ends and the realign profile to x_ref starts. -/
  | homingSettleEnd (n : Fin 4)
  /-- R302: A switch command starts a turn-on or turn-off edge with the three-phase gate profile. -/
  | gateEdge (n : Fin 4) (b : Fin 4) (high : Bool) (on : Bool) (off : Nat) (vds : Nat) (bs : Nat)
  /-- R303: P2 of an edge ends on VDS, VGS or time, and the pre-charge time adapts. -/
  | gatePlateauEnd (n : Fin 4) (b : Fin 4) (high : Bool) (vds : Nat) (vgs : Nat) (len : Nat) (lag : Int)
  /-- R307: The dead time and gate confirmation allow the complementary switch to turn on. -/
  | deadTimeEnd (n : Fin 4) (b : Fin 4) (gone : Moment) (low : Nat) (vds : Nat) (bs : Nat)
  /-- R308: VGS has not fallen to 1.5 V in time, the switch is latched off and FT-0x0306 is raised. -/
  | gateOffTimeout (n : Fin 4) (b : Fin 4) (high : Bool) (vgs : Nat) (len : Moment)
  /-- R310: A half-bridge refresh timer expires with its high side on, and a refresh pulse is inserted. -/
  | bootstrapRefreshTimer (n : Fin 4) (b : Fin 4) (off : Nat)
  /-- R314: The recharge before a high-side turn-on misses 8.0 V within 20 µs, the high side is latched and FT-0x0308 is raised. -/
  | bootstrapRechargeTimeout (n : Fin 4) (b : Fin 4) (mv : Nat) (us : Moment)
  /-- R315: BS − SH below 7.0 V for 100 ns with the high side on latches it off and raises FT-0x0305. -/
  | bootstrapUndervoltage (n : Fin 4) (b : Fin 4) (mv : Nat) (ns : Nat) (len : Moment)
  /-- R328: A VDS or shunt-window fault turns off and latches the affected switches. -/
  | switchFaultDetect (n : Fin 4) (b : Fin 4) (high : Bool) (why : Fin 3) (val : Int) (on : Nat) (len : Moment)
  /-- R338: An ADC1 schedule unit converts the integrators, VM and its housekeeping slot. -/
  | adc1Unit (u : Fin 25) (conv : UnitConv) (val : Int) (slot : Option DiagSlot)
  /-- R334: A WIN input outside its window for mon.winw.filt raises FT-0x0405, and its return raises EV-0x0403. -/
  | winOutOfWindow (w : Fin 4) (mv : Nat) (us : Nat)
  /-- R343: An off-state test ends after 4 f and classifies each coil under Table MON-6. -/
  | offstateTestVerdict (n : Fin 4) (mv : List Int)
  /-- R346: An item's age reaches age_ins or age_max, and the item moves to AGEING or UNDIAGNOSED. -/
  | diagAgeLimit (item : Nat)
  /-- R349: An inserted measurement of an ageing coil, bootstrap or brake is made by itself. -/
  | diagInsertion (item : Nat) (val : Int)
  /-- R353: The HBK pull-in time ends and the output moves to economy PWM. -/
  | brakePullInEnd (b : Fin 4)
  /-- R358: mon.brkb.rel_t after brake turn-on, the waiting motion command acts. -/
  | brakeReleaseWaitEnd (b : Fin 4)
  /-- R360: With mon.brkb.still = 1, the brake output turns off after the standstill delay. -/
  | brakeStillEngage (b : Fin 4)
  /-- R357: HBK current above 3.0 A for 2 µs turns the output off and raises FT-0x0420. -/
  | hbkOvercurrent (b : Fin 4) (ma : Nat) (ns : Nat)
  /-- R364: An accepted feedback edge is stamped and decoded into a count, an index, a tooth or a capture. -/
  | feedbackEdge (n : Fin 4) (lines : Quad (Option LineIn)) (off : Nat)
  /-- R369: Hall code 0b000 or 0b111 persists for fbn.hall.inv_t and FT-0x0202 is raised. -/
  | hallInvalidTimeout (n : Fin 4) (us : Nat)
  /-- R382: No qualified edge for fbn.spd.tmo moves the speed state to STILL. -/
  | speedTimeout (n : Fin 4) (off : Nat)
  /-- R380: A count-mode gate ends, the speed is updated and the method may change. -/
  | speedGateEnd (n : Fin 4)
  /-- R390: 4 f after Ready, a bound channel confirms or contradicts the retained microstep index. -/
  | retainedIndexCheck (n : Fin 4)
  /-- R398: A compare pulse reaches fbn.cmpu.width and AUXn returns to idle. -/
  | comparePulseEnd (n : Fin 4) (u : Fin 2) (us : Nat)
  /-- R403: The divided-output width ends, the output goes idle, or the next backlog event is emitted. -/
  | dividedOutputWidthEnd (d : Fin 2) (gone : Nat)
  /-- R412: sp.start after each boundary, the port reads each select of the sensor chain. -/
  | sensorPortRead (reads : List (List Bool))
  /-- R438: A queued PLAN_QUERY becomes active at the boundary after the previous one ends, and latches its start. -/
  | queryActivation
  /-- R436: The active query finishes with a status, stores its road and PLAN_QUERY completes. -/
  | queryEnd
  /-- R439: A query still active at its deadline raises FT-0x0502 and ends NO_PATH. -/
  | queryDeadline
  /-- R425: The last cell of an edit is written, the map version rises and occupying edits mark roadmap edges, hold runs and end queries. -/
  | mapEditEffect
  /-- R449: The recheck of a road before segment 0 passes or fails. -/
  | runStartCheckDone
  /-- R444: The next road segment acts from its boundary, or FT-0x0502 is raised if it is not ready. -/
  | haulSegmentStart (ready : Bool)
  /-- R446: A ramp of λ reaches 0 or 1, holding or resuming the run, or ending it in STOPPING. -/
  | haulClockRampEnd
  /-- R452: The recheck after a map hold completes and resumes the run, or stops it with FT-0x0503. -/
  | runRecheckDone
  /-- R451: A map hold exceeds plan.hold_max and the run goes to STOPPING. -/
  | runHoldTimeout
  /-- R456: A CAN port reaches bus-off, raises FT-0x0601 or FT-0x0701, and stops after the third within 1 s. -/
  | canBusOff (p : Fin 3) (tec : Nat)
  /-- R456: A port recovers from bus-off by the ISO 11898-1 rule and resumes claiming. -/
  | canBusOffRecovery (p : Fin 3) (runs : Nat)
  /-- R493: A queued fabric frame completes transmission, and the next is offered by class. -/
  | canFrameTransmitted (p : Fin 3) (cls : Fin 4) (off : Nat) (gone : Nat)
  /-- R480: A BEACON is received, the offset is formed and the sync state and trim are updated. -/
  | beaconReceived (p : Fin 2) (f : AmFrame) (off : Int)
  /-- R481: Missing beacons move a port to HOLDOVER after 1 sf and to UNSYNCED after net.bcn_wait. -/
  | beaconTimeout (p : Fin 2)
  /-- R466: A CLAIM for an index is received and the port defends, yields or marks the index in use. -/
  | claimReceived (p : Fin 2) (f : AmFrame)
  /-- R466: The LISTEN period ends and the port sends a CLAIM for its wanted index. -/
  | claimListenEnd (p : Fin 2)
  /-- R466: No contrary CLAIM within 4 sf makes the index HELD, written to retention, with EV-0x0601. -/
  | claimHeld (p : Fin 2)
  /-- R470: A SEG request is forwarded upstream by a router or answered by the root with a grant. -/
  | segRequest (p : Fin 2) (f : AmFrame)
  /-- R470: A router without a downstream segment sends a SEG request every 64 sf. -/
  | segRequestTimer (p : Fin 2)
  /-- R471: A SEG grant sets the downstream port's segment at the next superframe boundary. -/
  | segGrant (p : Fin 2) (f : AmFrame)
  /-- R474: ROUTE entries update the route table and changes trigger updates. -/
  | routeReceived (p : Fin 2) (f : AmFrame)
  /-- R474: An entry not refreshed within three cycles becomes unreachable, and is advertised once and removed. -/
  | routeExpiry (seg : Nat)
  /-- R491: A CYCLIC frame of a consumed slot is latched at the next boundary. -/
  | cyclicReceived (p : Fin 2) (f : AmFrame)
  /-- R495: A complete CMD addressed to the device enters a fabric virtual hopper, or is answered BUSY. -/
  | fabricCmd (p : Fin 2) (f : AmFrame)
  /-- R494: A DATA message is assembled from its fragments and queued for NET_RECV. -/
  | dataReceived (p : Fin 2) (f : AmFrame)
  /-- R494: A fragmented message incomplete 4 sf after its first fragment is discarded. -/
  | reassemblyTimeout (p : Fin 2) (src : Nat) (tag : Nat)
  /-- R500: A SLEEP frame from the root is adopted as the plan, or ends it on cancel. -/
  | sleepReceived (p : Fin 2) (f : AmFrame)
  /-- R502: At a plan's sleep instant the device enters SLEEP or STANDBY, or stays awake with EV-0x0625. -/
  | sleepInstant
  /-- R505: A listen window ends without a beacon, EV-0x0624 is raised and the device sleeps with m + 1, or raises FT-0x0620. -/
  | listenWindowEnd
  /-- R508: An HBEAT refreshes a neighbour or watch entry and may return a lost node. -/
  | hbeatReceived (p : Fin 2) (f : AmFrame)
  /-- R508: A neighbour or watched node passes its deadline, is lost, and the watch action of R510 follows. -/
  | heartbeatDeadline (p : Fin 2) (addr : Nat)
  /-- R509: A router EVT of loss or return drives remote watches. -/
  | evtReceived (p : Fin 2) (f : AmFrame)
  /-- R513: A received NACK is counted by reason and raises EV-0x0628. -/
  | nackReceived (p : Fin 2) (f : AmFrame)
  /-- R517: An ISOBUS Address Claimed from another node is judged against the port's NAME. -/
  | addressClaimed (f : IsoFrame)
  /-- R517: 250 ms after its claim without contention, the ISO port reaches HELD. -/
  | isoClaimTimer
  /-- R517: After its random delay, the port sends Cannot Claim Address. -/
  | cannotClaimAddress
  /-- R518: A Commanded Address for the NAME is accepted under presence and re-claims the address, or is refused. -/
  | commandedAddress (src : Nat) (data : List (BitVec 8))
  /-- R519: A Request PGN 59904 is answered with Address Claimed, status or a NACK. -/
  | isoRequest (f : IsoFrame)
  /-- R520: A transport-protocol frame advances an RTS/CTS or BAM session. -/
  | isoTransportFrame (f : IsoFrame)
  /-- R520: A transport connection times out, its message is discarded and EV-0x0704 is raised. -/
  | isoTransportTimeout (peer : Nat) (rx : Bool) (bam : Bool)
  /-- R521: A Proprietary A command is taken into an ISOBUS virtual hopper, or answered BUSY. -/
  | isoCommand (src : Nat) (data : List (BitVec 8))
  /-- R523: Ground- or wheel-based speed is received as a speed-follow source. -/
  | isoSpeedMessage (f : IsoFrame)
  /-- R522: Each iso.stat_per, the HELD port sends its Proprietary B status. -/
  | isoStatusTimer
  /-- R528: Training completes with idles and the delay measured, so the link goes UP. -/
  | twinLinkUp (delay : Nat) (uid : BitVec 64) (idles : Nat)
  /-- R528: Code violations or silence take the link DOWN. -/
  | twinLinkDown (viol : Nat) (ns : Nat)
  /-- R542: A mirror record is accepted and loaded into the standby's shadow engines. -/
  | mirrorRecord (r : List (BitVec 8)) (off : Nat) (clean : Bool)
  /-- R540: A status record is accepted and drives role resolution and READY. -/
  | statusRecord (r : List (BitVec 8)) (off : Nat) (clean : Bool)
  /-- R546: ACTI goes low, starting the GPERM timer and, on a READY standby, the takeover. -/
  | actiFall
  /-- R538: ACTI and ACTO are both high, so ROLE-B drops within 200 ns and FT-0x0802 is raised. -/
  | actiRise
  /-- R536: ACTI low for 100 µs with ACTO high sets gate permission and the device becomes ACTIVE. -/
  | gpermSet (us : Nat)
  /-- R540: No record accepted for 2 f raises FT-0x0801 or FT-0x0803. -/
  | twinPartnerTimeout
  /-- R540: No partner for twin.alone_wait lets the device arm alone. -/
  | twinAloneWaitExpiry
  /-- R561: The partner shows no GPERM 4 f after the ACTO fall, so TWIN_SWITCH completes CANCELLED and re-arms. -/
  | twinSwitchTimeout
  /-- R579: A self-test of BIST_RUN finishes, passing or failing with its fault and state. -/
  | bistTestDone (pass : Bool) (qual : Nat)
  /-- R200: Writes up to nine parameters of one owner, all or none, after survey and verdict recomputation. -/
  | setParam (h : Fin 32)
  /-- R199: Returns working, running, stored or default values of parameters of one owner. -/
  | getParam (h : Fin 32)
  /-- R202: Judges the running configuration plus named owners and returns the survey report. -/
  | surveyRun (h : Fin 32)
  /-- R203: Enables the named units after the survey, powering their domains. -/
  | enableUnit (h : Fin 32)
  /-- R204: Disables the named units unless an enabled owner needs them. -/
  | disableUnit (h : Fin 32)
  /-- R198: CFG_IMAGE op 0 clears the staging buffer. -/
  | cfgImageClear (h : Fin 32)
  /-- R198: CFG_IMAGE op 1 copies the bulk window into staging at an offset. -/
  | cfgImageStage (h : Fin 32)
  /-- R193: CFG_IMAGE op 2 checks the staged image for validity. -/
  | cfgImageCheck (h : Fin 32)
  /-- R205: CFG_IMAGE op 3 applies the staged image to the working set, all or nothing. -/
  | cfgImageApply (h : Fin 32)
  /-- R194: CFG_IMAGE op 4 saves the staged image to the older store copy and reads it back. -/
  | cfgImageSaveStaged (h : Fin 32)
  /-- R194: CFG_IMAGE op 5 saves the working set's non-default values to the store. -/
  | cfgImageSaveWorking (h : Fin 32)
  /-- R198: CFG_IMAGE op 6 copies the newest valid stored copy into staging. -/
  | cfgImageLoadStored (h : Fin 32)
  /-- R166: CFG_IMAGE op 7 returns staging bytes through the bulk window. -/
  | cfgImageReadStaging (h : Fin 32)
  /-- R195: CFG_IMAGE op 8 erases both stored copies under presence. -/
  | cfgImageErase (h : Fin 32)
  /-- R584: Returns active fault entries with scope, reaction, class and counts. -/
  | faultStatus (h : Fin 32)
  /-- R597: Clears one or all active faults whose class and condition permit. -/
  | faultClear (h : Fin 32)
  /-- R600: Removes and returns the oldest event records. -/
  | eventRead (h : Fin 32)
  /-- R94: Sends the axis sequencer its on request and completes at Ready. -/
  | enableAxis (h : Fin 32)
  /-- R94: Sends the axis sequencer its off request, stopping through D1 to Off. -/
  | disableAxis (h : Fin 32)
  /-- R216: Runs a position profile to an absolute target. -/
  | moveTo (h : Fin 32)
  /-- R215: Runs a position profile to ENDPOS plus a delta. -/
  | moveBy (h : Fin 32)
  /-- R220: Ramps the axis to a target velocity. -/
  | jog (h : Fin 32)
  /-- R227: Ramps the axis to rest at its deceleration and cancels unstarted commands. -/
  | stop (h : Fin 32)
  /-- R228: Ramps the axis to rest at halt_dec and holds it HALTED. -/
  | halt (h : Fin 32)
  /-- R221: Enters step-follow mode from standstill. -/
  | followSteps (h : Fin 32)
  /-- R234: Sets the position keeping the electrical index, and sets the position state. -/
  | setPosition (h : Fin 32)
  /-- R213: Returns position, velocity, motion state and step-follow counters of an axis. -/
  | axisStatus (h : Fin 32)
  /-- R273: CHISEL op 0 validates the bulk table and makes it the working user table. -/
  | chiselLoad (h : Fin 32)
  /-- R273: CHISEL op 1 validates the bulk table without storing it. -/
  | chiselValidate (h : Fin 32)
  /-- R274: CHISEL op 2 saves the working user table to the store and reads it back. -/
  | chiselSave (h : Fin 32)
  /-- R245: CHISEL op 3 returns the working user table as a bulk result. -/
  | chiselRead (h : Fin 32)
  /-- R274: CHISEL op 4 reloads the working user table from the stored copy. -/
  | chiselReload (h : Fin 32)
  /-- R256: Returns regulation mode, amplitude, set-points, samples and duties. -/
  | curStatus (h : Fin 32)
  /-- R290: Runs face homing: approach, contact, realign, reference and back-off. -/
  | homeFace (h : Fin 32)
  /-- R287: Discards the Wedge baseline and restarts learning. -/
  | wedgeLearn (h : Fin 32)
  /-- R284: Returns the Wedge mode, learning state, amplitude and estimates. -/
  | wedgeStatus (h : Fin 32)
  /-- R382: Returns a feedback channel's counter, speed, position error and capture. -/
  | fbStatus (h : Fin 32)
  /-- R391: Sets the feedback counter at the next boundary and its reference state. -/
  | fbSetCount (h : Fin 32)
  /-- R404: Enters or retunes speed following at a ratio to a rate source. -/
  | followSpeed (h : Fin 32)
  /-- R410: Returns the speed-follow state, ratio, source value and target. -/
  | folStatus (h : Fin 32)
  /-- R396: Arms or disarms a compare unit at the next boundary under the skip rule. -/
  | cmpArm (h : Fin 32)
  /-- R393: Returns both compare units' states and counters. -/
  | cmpStatus (h : Fin 32)
  /-- R414: Returns divided-output backlogs and sensor slot results. -/
  | spStatus (h : Fin 32)
  /-- R329: Returns latched switches, causes, enable levels and gate counters. -/
  | gateStatus (h : Fin 32)
  /-- R342: Runs an off-state test on an axis at QUIET or CLAMP standstill. -/
  | offstateTest (h : Fin 32)
  /-- R346: Returns state, age and last measurement of diagnosed items. -/
  | diagStatus (h : Fin 32)
  /-- R423: MAP_LOAD op 0 clears both layers and the roadmap, marks the map invalid and aborts queries. -/
  | mapLoadBegin (h : Fin 32)
  /-- R420: MAP_LOAD op 1 copies bulk bytes into the map staging area. -/
  | mapLoadCopy (h : Fin 32)
  /-- R421: MAP_LOAD op 2 checks the staged image and builds the static layer at version 1. -/
  | mapLoadCommit (h : Fin 32)
  /-- R424: MAP_EDIT op 0 sets the cells meeting a box full in the dynamic layer. -/
  | mapEditOccupy (h : Fin 32)
  /-- R424: MAP_EDIT op 1 empties the dynamic cells wholly inside a box. -/
  | mapEditFree (h : Fin 32)
  /-- R425: MAP_EDIT op 2 clears the dynamic layer. -/
  | mapEditClear (h : Fin 32)
  /-- R423: MAP_EDIT op 3 marks a non-empty map valid. -/
  | mapEditMarkValid (h : Fin 32)
  /-- R423: MAP_EDIT op 4 marks the map invalid. -/
  | mapEditMarkInvalid (h : Fin 32)
  /-- R427: PLAN_CHAIN op 0 validates a bulk chain table and makes it the working table. -/
  | planChainLoad (h : Fin 32)
  /-- R427: PLAN_CHAIN op 1 validates a bulk chain table without storing it. -/
  | planChainValidate (h : Fin 32)
  /-- R428: PLAN_CHAIN op 2 saves the working chain table to the store. -/
  | planChainSave (h : Fin 32)
  /-- R428: PLAN_CHAIN op 3 returns the working chain table as a bulk result. -/
  | planChainRead (h : Fin 32)
  /-- R428: PLAN_CHAIN op 4 reloads the working chain table from the stored copy. -/
  | planChainReload (h : Fin 32)
  /-- R436: Queues a deterministic path query into a road slot. -/
  | planQuery (h : Fin 32)
  /-- R448: Starts running a stored haul road on the chain axes. -/
  | planRun (h : Fin 32)
  /-- R451: PLAN_STOP op 0 ramps λ to 0 and ends the run on the road. -/
  | planStop (h : Fin 32)
  /-- R451: PLAN_STOP op 1 holds the run by ramping λ to 0. -/
  | planHold (h : Fin 32)
  /-- R451: PLAN_STOP op 2 releases a user hold and ramps λ to 1. -/
  | planResume (h : Fin 32)
  /-- R443: Returns a stored road's waypoints and limits as a bulk result. -/
  | planRoad (h : Fin 32)
  /-- R481: Returns a fabric port's claim, sync, address, load and counters. -/
  | netStatus (h : Fin 32)
  /-- R473: Returns route table entries. -/
  | netRoute (h : Fin 32)
  /-- R494: Sends a DATA message, fragmented, and completes on acknowledgement. -/
  | netSend (h : Fin 32)
  /-- R494: Removes and returns the oldest received DATA message. -/
  | netRecv (h : Fin 32)
  /-- R487: NET_SCHED op 0 validates a bulk schedule and makes it the working schedule. -/
  | netSchedLoad (h : Fin 32)
  /-- R487: NET_SCHED op 1 validates a bulk schedule without storing it. -/
  | netSchedValidate (h : Fin 32)
  /-- R487: NET_SCHED op 2 saves the working schedule to the store. -/
  | netSchedSave (h : Fin 32)
  /-- R487: NET_SCHED op 3 returns the working schedule as a bulk result. -/
  | netSchedRead (h : Fin 32)
  /-- R487: NET_SCHED op 4 reloads the working schedule from the stored copy. -/
  | netSchedReload (h : Fin 32)
  /-- R499: On the root, NET_SLEEP op 0 announces a sleep plan and repeats SLEEP until START. -/
  | netSleepAnnounce (h : Fin 32)
  /-- R499: On the root, NET_SLEEP op 1 cancels the sleep plan. -/
  | netSleepCancel (h : Fin 32)
  /-- R501: NET_SLEEP op 2 returns the plan held, m, drift and next wake point. -/
  | netSleepStatus (h : Fin 32)
  /-- R515: Returns the queue, policing and NACK counters of a port. -/
  | netQstat (h : Fin 32)
  /-- R509: Returns the state of each watch. -/
  | netWatch (h : Fin 32)
  /-- R517: Returns the ISO claim state, address, NAME, speed and counters. -/
  | isoStatus (h : Fin 32)
  /-- R541: Returns role state, link, alignment and fingerprints of the pair. -/
  | twinStatus (h : Fin 32)
  /-- R561: Hands the active role to the READY partner. -/
  | twinSwitch (h : Fin 32)
  /-- R572: FW_UPDATE op 0 BEGIN erases the inactive bank under presence. -/
  | fwUpdateBegin (h : Fin 32)
  /-- R572: FW_UPDATE op 1 WRITE programs bulk-window bytes into the bank. -/
  | fwUpdateWrite (h : Fin 32)
  /-- R572: FW_UPDATE op 2 WRITE_INLINE programs payload bytes into the bank. -/
  | fwUpdateWriteInline (h : Fin 32)
  /-- R571: FW_UPDATE op 3 VERIFY checks the loaded package and makes the bank VERIFIED or INVALID. -/
  | fwUpdateVerify (h : Fin 32)
  /-- R572: FW_UPDATE op 4 COMMIT makes the verified bank PENDING under presence. -/
  | fwUpdateCommit (h : Fin 32)
  /-- R576: FW_UPDATE op 5 ACTIVATE restarts SYS into the pending bank as TRIAL. -/
  | fwUpdateActivate (h : Fin 32)
  /-- R575: FW_UPDATE op 6 CONFIRM confirms the trial image and raises the rollback minimum. -/
  | fwUpdateConfirm (h : Fin 32)
  /-- R572: FW_UPDATE op 7 ABORT makes the inactive bank INVALID. -/
  | fwUpdateAbort (h : Fin 32)
  /-- R569: Returns identity, banks, rollback, presence and tamper state. -/
  | svcIdent (h : Fin 32)
  /-- R563: SVC_OP op 1 closes the presence window. -/
  | svcOpCloseWindow (h : Fin 32)
  /-- R568: SVC_OP op 2 clears the tamper latch under a window with an intact loop. -/
  | svcOpTamperClear (h : Fin 32)
  /-- R583: SVC_OP op 3 erases stored configuration and tables and returns defaults. -/
  | svcOpFactoryReset (h : Fin 32)
  /-- R582: SVC_OP op 4 enables the debug port under presence by seal. -/
  | svcOpDebugEnable (h : Fin 32)
  /-- R577: Runs the requested self-tests in order after checking their preconditions. -/
  | bistRun (h : Fin 32)
  /-- R172: Completes when every earlier command in scope has completed, holding later ones. -/
  | barrier (h : Fin 32)
  /-- R171: Returns the per-source hopper counters. -/
  | hopStatus (h : Fin 32)
  /-- R115: Takes the device from IDLE into STANDBY or SLEEP with a wake mask. -/
  | powerState (h : Fin 32)
  /-- R348: A chopper on phase that has not tripped after diag.coil.ol_ton takes a forced current sample, which may count toward FT-0x0410. -/
  | forcedSample (n : Fin 4) (c : Fin 2) (code : Nat) (ton : Nat)
  /-- R313: In QUIET standstill each low side is turned on alone for psn.bs.pulse, at spacing psn.bs.period / 4. -/
  | quietRefreshPulse (n : Fin 4) (off : Nat)
  /-- R310: After psn.bs.pulse the refresh low side turns off, and an inserted pulse returns the high side under R307 and R314. -/
  | refreshPulseEnd (n : Fin 4) (b : Fin 4) (off : Nat)
  /-- R314: During a recharge before a high-side turn-on, BS − SH reaches 8.0 V, the low side turns off and the high-side turn-on proceeds. -/
  | bootstrapRecharged (n : Fin 4) (b : Fin 4) (mv : Moment)
  /-- R476: A router receives a unicast frame with NH equal to its own index, or a broadcast or multicast frame, and forwards it, drops it or polices it with a NACK. -/
  | frameForForwarding (p : Fin 2) (f : AmFrame)
  /-- R465: A CLAIM attempt ends in an error frame after arbitration, and the claimant's next attempt uses the next UID chunk. -/
  | claimErrorFrame (p : Fin 2) (mine : Bool)
  /-- R73: PRES goes filtered high, which ends a stuck declaration so that a later press can open a presence window. -/
  | presReleased
  /-- R129: CS1 falls while STRCTL.SRC is off, and the transfer is aborted with cause 0x0E and counted. -/
  | cs1TransferRefused (fall : SelFall)
  /-- R505: A device woken between listen windows has listened for A sf without a beacon and returns to sleep with m unchanged. -/
  | interimListenEnd
deriving DecidableEq, Repr

end Sys2Proof
end

