-- ==== Sys2Proof/Machine/State.lean ====
section
/-! DEFINITION. The state of the block as plain data: every register, counter, buffer and latch the spec gives it. -/

namespace Sys2Proof.Machine

/-- Crystal as the crystal monitor sees it (R19, R23). -/
inductive Crystal where
  | good        -- within its band, no loss standing
  | lost        -- FT-0x1401 declared; qualification not complete
  | qualified   -- qualified again, waiting for every axis to be at rest
deriving DecidableEq, Repr

/-- One PLL (Table ARCH-3): stopped, seeking lock, locked. -/
inductive Pll where
  | stopped | seeking | locked
deriving DecidableEq, Repr

/-- Clock tree state (01, R18 to R25). -/
structure ClockSt where
  crystal   : Crystal := .good
  /-- consecutive superframes within the band since the loss, as last measured, and the frame in which their count restarted (R23) -/
  qual      : Nat := 0
  lostAt    : BitVec 32 := 0
  /-- PLLM runs from the internal RC (R20, R22) -/
  onRc      : Bool := false
  pllm      : Pll := .stopped
  pllc      : Pll := .stopped
  pllt      : Pll := .stopped
  /-- clock-settling window open, with the frame of the restore declaration (R33, Table ARCH-4) -/
  settle    : Option (BitVec 32) := none
  /-- frame of the restore declaration while a PLL in use is still to lock (R24, Table ARCH-4) -/
  restored  : Option (BitVec 32) := none
  /-- frame from which a failed clock return may be retried (R24) -/
  retryAt   : Option (BitVec 32) := none
  /-- a settling window abandoned for a loss of the crystal or of a lock: it holds what it held until CAL_BUSY (01, edge case) -/
  abandoned : Option (BitVec 32) := none
  /-- CAN controllers in listen-only (R21) -/
  listen    : Bool := false
  /-- PLLM lost lock in operation: no frame runs, no command is taken (R25) -/
  halted    : Bool := false
  /-- PLLM did not relock within 10 ms: stays until RESETN or a VBAT cycle (R25) -/
  dead      : Bool := false
  /-- last measured deviation of the LF oscillator in units of 0.1 % of 32 kHz (R18, FT-0x1405) -/
  lfDev     : Int := 0
deriving DecidableEq, Repr

/-- The frame timer and its counters (01, R26 to R30; 02, R76). -/
structure FrameSt where
  counter    : BitVec 32 := 0
  index      : Nat := 0
  superframe : BitVec 32 := 0
  /-- commit flag of the frame that is ending (R16, R30) -/
  commit     : Bool := false
  /-- frames run (SYS Ready) -/
  running    : Bool := false
  /-- superframe counter and frame index that the next boundary takes over (R28, R481) -/
  realign    : Option (BitVec 32 × Nat) := none
  /-- trim of the last boundary, in cycles (R26) -/
  trim       : Int := 0
  /-- consecutive frames with the trim held at its limit (EV-0x1201) -/
  trimHeld   : Nat := 0
  /-- absolute PWMCLK tick of the last boundary (R26, R207) -/
  tickBase   : Nat := 0
  /-- SYNC lost and reported, until the next accepted edge (EV-0x1202) -/
  syncLost   : Bool := false
  /-- absolute PWMCLK tick of the last accepted SYNC edge, and the trim that it calls for in cycles per frame (R26, R76) -/
  syncLast   : Option Nat := none
  syncTrim   : Int := 0
  /-- EV-0x0003 already raised in this superframe (R76) -/
  syncRej    : Bool := false
  /-- EV-0x1304 already raised in this superframe (R104) -/
  brkSeen    : Bool := false
deriving DecidableEq, Repr

/-- ROLE as read at reset release (R74). -/
inductive RoleStrap where
  | a | b | floating
deriving DecidableEq, Repr

/-- Levels after conditioning, straps and reject counters (02). -/
structure PinSt where
  /-- RESETN accepted low: every pin in its reset state (R71) -/
  inReset  : Bool := true
  /-- TSTEN was high at release: no firmware starts (R75) -/
  testHeld : Bool := false
  /-- FT-0x0001 recorded in retention RAM, reported at the next start (R75) -/
  testRec  : Bool := false
  /-- the reset release read ROLE and TSTEN; AON's POR release does it after a power-on (R71, R74; log entry 23) -/
  strapsRead : Bool := false
  role     : RoleStrap := .a
  /-- ENnA1, ENnA2, ENnB1, ENnB2 filtered; the pin of the first is AXENn in serial mode (R57, R58, R69) -/
  pinEn    : Quad (Quad Bool) := Quad.all (Quad.all false)
  /-- INnCk as last accepted (R323) -/
  pinIn    : Quad (Quad Bool) := Quad.all (Quad.all false)
  /-- filtered SEAL level, high = not strapped, and the level read at the end of boot (R72) -/
  sealPin  : Bool := true
  sealed   : Option Bool := none
  /-- PRES filtered low (pressed), and declared stuck (R73) -/
  presLow  : Bool := false
  presStuck : Bool := false
  wake     : Bool := false
  acti     : Bool := false
  sync     : Bool := false
  aux      : Quad Bool := Quad.all false
  divo     : Duo Bool := Duo.all false
  /-- 16-bit saturating reject counters by package pin number (R66), pins in rising order, zero unlisted -/
  rejects  : List (Nat × Nat) := []
  /-- time in ns of the last accepted STEP rising edge (R67) -/
  stepLast : Quad (Option Nat) := Quad.all none
deriving DecidableEq, Repr

/-- Device power states (Table PWR-2). -/
inductive DevPower where
  | off | sleep | standby | idle | run
deriving DecidableEq, Repr

/-- Where a domain stands in its checkpoint table (Tables PWR-7). `up k` is up step k in progress. -/
inductive DomStage where
  | down | up (k : Nat) | ready | going (k : Nat) | failed
deriving DecidableEq, Repr

structure DomSt where
  stage   : DomStage := .down
  /-- frame in which the present step began (R88) -/
  stepAt  : BitVec 32 := 0
  /-- request latched during the step (R92): true = on -/
  latched : Option Bool := none
deriving DecidableEq, Repr

/-- Axis domain sequencer (Table PWR-8). -/
inductive AxSeq where
  | off
  /-- on request taken, step 1 not begun: stagger or key-on delay running (R96, R97) -/
  | waiting
  | up (k : Nat) | ready | d1 | d2 | d3 | failed
deriving DecidableEq, Repr

structure AxSeqSt where
  seq     : AxSeq := .off
  latched : Option Bool := none
  /-- AXSTATn.SEQ value of the last checkpoint reached (R94) -/
  lastCp  : Nat := 0
  /-- index at the last Ready checkpoint: 0 discarded, 1 retained and unverified, 0xFF Ready not reached (07, result of ENABLE_AXIS) -/
  idxByte : Nat := 0xFF
  /-- frame in which the present step began (R88), and the gate-supply switch is closed (Table PWR-5 step 1, Table PWR-6 D3) -/
  stepAt  : BitVec 32 := 0
  supply  : Bool := false
  /-- it waits after the reversal of D2: its microstep index is still to be written by D3 (Tables PWR-6 and PWR-8) -/
  viaD3   : Bool := false
  /-- measured shunt offsets of coils A and B, converter LSB (Table PWR-5 step 4) -/
  offsets : Duo Int := Duo.all 0
  /-- calibration window of the axis: boundary E at which it ends (R33, R36) -/
  calEnd  : Option (BitVec 32) := none
  /-- the window is the 2 f standstill recalibration (R34), not the offset calibration -/
  recal   : Bool := false
  /-- frame of the last completed (re)calibration (R34) -/
  calLast : BitVec 32 := 0
  /-- fault that failed the domain; a refusal of ENABLE_AXIS stands while it is active (Table PWR-8) -/
  failCode : Option Nat := none
  /-- step D1: frame in which the axis stood still and its brake output turned off (Table PWR-6) -/
  brakeAt  : Option (BitVec 32) := none
  /-- the gate-driver test of BIST_RUN drives the sequence: 0 no, 1 up to step 4, 2 once step 4 has passed (R577, Table SVC-4) -/
  bist     : Nat := 0
deriving DecidableEq, Repr

/-- Table FAB-5. -/
inductive ClaimState where
  | listen | claiming | held
deriving DecidableEq, Repr

/-- A sleep plan (Table EDGE-1): awake length A, START, cycle C, guard G, COUNT, ROOT (R498 to R501). -/
structure SleepPlan where
  awake : Nat
  start : BitVec 32
  cycle : Nat
  guard : Nat
  count : Nat
  root  : BitVec 64
deriving DecidableEq, Repr

/-- A neighbour entry (R508): port, address, superframe of the last HBEAT, its PERIOD, lost. -/
structure Neighbour where
  port   : Nat
  addr   : Nat
  last   : BitVec 32
  period : Nat
  lost   : Bool
deriving DecidableEq, Repr

/-- Table EDGE-3. -/
inductive WatchState where
  | off | unknown | alive | lost
deriving DecidableEq, Repr

/-- One watch (R508, R509): state, superframe of the last HBEAT or of the enable, PERIOD last heard. -/
structure WatchSt where
  st     : WatchState := .off
  since  : BitVec 32 := 0
  period : Nat := 0
  /-- remote watch: superframe at which the route came back (R509) -/
  back   : Option (BitVec 32) := none
deriving DecidableEq, Repr

/-- Retention RAM (03, R82). -/
structure RetentionSt where
  valid    : Bool := false
  /-- retained microstep indexes e mod 1024 (R236) -/
  index    : Quad (Option (BitVec 10)) := Quad.all none
  /-- Wedge baselines: learned Ke and motor fingerprint (R286) -/
  wedge    : Quad (Option (Nat × Nat)) := Quad.all none
  /-- last claimed fabric index with its segment ID, per port (R467) -/
  fabIndex : Duo (Option (Nat × Nat)) := Duo.all none
  /-- frame, superframe counters and index at entry to SLEEP or STANDBY (R87) -/
  frames   : BitVec 32 := 0
  sframes  : BitVec 32 := 0
  frIndex  : Nat := 0
  /-- start records reported at the next start (R599), oldest first, at most 8 -/
  records  : List (Nat × Nat) := []
  /-- adopted sleep plan with its progress m, and per port the segment, claim state, index and depth (R500) -/
  plan     : Option SleepPlan := none
  sleepM   : Nat := 0
  /-- wake point of the coming window, rate correction and frame of the last accepted beacon of the plan (R503, R506) -/
  sleepK   : Nat := 0
  sleepRate : Int := 0
  lastBcn  : BitVec 32 := 0
  ports    : Duo (Option Nat × ClaimState × Nat × Option Nat) := Duo.all (none, ClaimState.listen, 0, none)
  /-- superframe at which the coming listen window closes, and the watches and neighbours of a sleep under the plan (R505, R508) -/
  winEnd   : BitVec 32 := 0
  watches  : List WatchSt := List.replicate 16 {}
  neighbours : List Neighbour := []
deriving DecidableEq, Repr

/-- Power supplies, domains and sequencing (03). -/
structure PowerSt where
  dev      : DevPower := .off
  /-- power-state change in progress toward this state -/
  change   : Option DevPower := none
  aon      : DomSt := {}
  sys      : DomSt := {}
  ana      : DomSt := {}
  aux      : DomSt := {}
  fbk      : DomSt := {}
  net      : DomSt := {}
  twin     : DomSt := {}
  plan     : DomSt := {}
  axes     : Quad AxSeqSt := Quad.all {}
  /-- SYS restarts since the last good start (R90) -/
  sysTries : Nat := 0
  /-- SYS stays in reset until RESETN or a VBAT cycle (R90) -/
  sysHeld  : Bool := false
  /-- frame of the most recent begin of step 1 of each axis (R96) -/
  lastUp   : Quad (Option (BitVec 32)) := Quad.all none
  /-- key-on window: frames left, whether an axis has begun to power up in it, and the frame before which none may (R97) -/
  keyOn    : Nat := 0
  keyUsed  : Bool := false
  keyAt    : Option (BitVec 32) := none
  /-- frames of AUX's VGD step in which VM was below 6.5 V, which its maximum does not count (Table PWR-7) -/
  auxHold  : Nat := 0
  /-- wake mask and wake timer of POWER_STATE (R113), wake latched on the way down (R95) -/
  wakeMask : BitVec 8 := 0
  wakeTime : Nat := 0
  /-- frame in which the wake timer was loaded, frames that it ran before the counters froze, and AONCLK periods counted from
  there to the last wake (R85, R87) -/
  timerAt  : BitVec 32 := 0
  timerRan : Nat := 0
  aonCount : Nat := 0
  wakeLatched : Option Nat := none
  /-- a wake runs: EV-0x1305 is due when IDLE is reached; whole frames that passed while the device was down (R87) -/
  wakeRun  : Option Nat := none
  wakeGone : Nat := 0
  brownOut : Bool := false
  /-- last measured supplies in mV -/
  vm       : Nat := 0
  vbat     : Nat := 0
  vgd      : Nat := 0
  vreg5    : Int := 0
  vreg33   : Int := 0
  vcore    : Int := 0
  /-- VM under-voltage and over-voltage states (R107, R108) -/
  vmUv     : Bool := false
  vmOv     : Bool := false
  /-- outputs of VGD's low and high threshold (R103, R111) -/
  vgdLow   : Bool := false
  vgdHigh  : Bool := false
  /-- outputs of the low and of the high threshold of VBAT (high only), VREG5, VREG33 and VCORE, which return at their own return
  levels (R103) -/
  supLow   : BitVec 4 := 0
  supHigh  : BitVec 4 := 0
  /-- reverse-blocking FET driven on; last measured RBS, and the voltage that RBCP is kept charged to, in mV (R100) -/
  rbg      : Bool := false
  rbs      : Nat := 0
  rbcp     : Nat := 0
  /-- brake chopper gate on, and locked off until its fault is cleared (R104, R105) -/
  brkg     : Bool := false
  brkLock  : Bool := false
  /-- tick of the last turn-on with VM then in mV, and the earlier on-times of the last second by their ticks (R105, R106) -/
  brkOnAt  : Nat := 0
  brkOnVm  : Nat := 0
  brkLog   : List (Nat × Nat) := []
  /-- last temperature in 0.1 °C (Table HOST-6 TEMP) -/
  temp     : Int := 0
deriving DecidableEq, Repr

/-- One accepted host write waiting to be applied (R130): address and data in transfer order. -/
structure HostWrite where
  addr : Nat
  data : List (BitVec 8)
deriving DecidableEq, Repr

/-- Host serial port (04): the registers of Table HOST-6 that hold a value of their own, and the streams. -/
structure HostSt where
  hown     : BitVec 16 := 0
  hdone    : BitVec 16 := 0
  dbrej    : BitVec 16 := 0
  hseq     : BitVec 32 := 0
  herr     : Bool := false
  wakeAtt  : Bool := false
  attmsk   : BitVec 7 := 0x7F
  donemsk  : BitVec 16 := 0xFFFF
  /-- BULKCTL VALID, SLOT, LEN -/
  bulkValid : Bool := false
  bulkSlot : Nat := 0
  bulkLen  : Nat := 0
  bulkBusy : Bool := false
  strlen   : Nat := 32
  strSrc   : Nat := 0
  strQuad  : Bool := false
  strSsel  : Nat := 0
  strCnt   : Nat := 0
  strBrto  : Bool := false
  strBrdone : Bool := false
  strOver  : Bool := false
  strEarlyF : Bool := false
  strBrbusy : Bool := false
  strEarly : Nat := 0
  cmdq     : Bool := false
  dummy    : Nat := 8
  mode3    : Bool := false
  crcReq   : Bool := false
  crcErr   : Nat := 0
  abortWhy : Nat := 0
  rundr    : Nat := 0
  scratch0 : BitVec 32 := 0
  scratch1 : BitVec 32 := 0
  wakeSrc  : BitVec 9 := 0
  rstCause : Nat := 2
  loadpm   : BitVec 32 := 0
  vmMeas   : Nat := 0
  vbatMeas : Nat := 0
deriving DecidableEq, Repr

/-- Host port: link state beside the registers (04). -/
structure LinkSt where
  /-- previous CS0 frame aborted, or a write that has been applied (Table HOST-3) -/
  prevAbort : Bool := false
  prevWrite : Bool := false
  /-- accepted writes in release order, not yet applied (R130) -/
  writes   : List HostWrite := []
  /-- FSTAT last driven on IO1, and whether the device kept IO1 at 0 after it, until the data phase (R119) -/
  fstat    : BitVec 8 := 1
  io1Low   : Bool := false
  /-- what the last read frame drove: on four lanes or on IO1, the data bytes begun, its CRC where one of its bytes was begun, the 0x00
  bytes begun after it, and the cycles of them all up to the release (R123, R126, R131) -/
  rdQuad   : Bool := false
  rdData   : List (BitVec 8) := []
  rdCrc    : Option (BitVec 16) := none
  rdPad    : Nat := 0
  rdClocks : Nat := 0
  /-- host watchdog: armed, expired, frame of the last write to HWDOG (R136) -/
  wdArmed  : Bool := false
  wdFired  : Bool := false
  wdAt     : BitVec 32 := 0
  /-- bits received by the last CS1 transfer for the bridge, the select of the transfer, and the response held for the next one
  (R140) -/
  brSend   : List Bool := []
  brSel    : Nat := 0
  brResp   : List Bool := []
  /-- bits driven by the last CS1 transfer -/
  csOut    : List Bool := []
  /-- the 512-bit snapshot record latched at the last boundary, bit 511 first (R141) -/
  snapshot : List (BitVec 8) := []
deriving DecidableEq, Repr

/-- Table HOP-5: state of one hopper. -/
inductive HopStage where
  | free | rung | registered | waitTag | waitAxis | waitBarrier | held | started
  /-- completed, its response waiting for room in a queue (R512) -/
  | answering
deriving DecidableEq, Repr

/-- One hopper's book-keeping beside its 128 bytes (05). -/
structure HopSt where
  stage   : HopStage := .free
  /-- source address of a virtual hopper's command: fabric segment and index, or ISOBUS address -/
  srcAddr : Nat := 0
  /-- registration order and taking order (R156) -/
  regNo   : Nat := 0
  takeNo  : Nat := 0
  /-- intake frame of R35 and the boundary its window was last predicted to end at -/
  intake  : BitVec 32 := 0
  /-- start frame of R147; none while it has not started -/
  start   : Option (BitVec 32) := none
  late    : Bool := false
  heldF   : Bool := false
  /-- frame of taking, for the barrier time-out (R174) -/
  taken   : BitVec 32 := 0
  /-- reply of a fabric command: port, TAG, addressed to the pair, answered by no RSP (R495, R556, R557) -/
  port    : Nat := 0
  tag     : Nat := 0
  pair    : Bool := false
  mute    : Bool := false
  /-- sequence of a stop that cancels the command when it is taken (R163, first case) -/
  doomed  : Option (BitVec 16) := none
  /-- sequence of an ENABLE_AXIS it waited behind that failed (05, edge case) -/
  failedBy : Option (BitVec 16) := none
  /-- adopted at a takeover from a host or internal source of the failed device (R548): source number -/
  adopted : Option Nat := none
  /-- EXEC_FRAME is a fabric frame number, converted at registration (R496) -/
  ftime   : Bool := false
  /-- taken with the bulk window, which it owns until its completion (R166) -/
  bulk    : Bool := false
  /-- survey report made at its taking (R187, R203) -/
  report  : List (BitVec 8) := []
  /-- units that this ENABLE_UNIT has enabled while others of it wait for their domain (R177, R203) -/
  gave    : BitVec 10 := 0
deriving DecidableEq, Repr

/-- A taken STOP, HALT or DISABLE_AXIS that has not acted yet (R163). -/
structure StopMark where
  source  : Nat
  srcAddr : Nat
  seq     : BitVec 16
  axes    : BitVec 4
  /-- frame from which it acts -/
  acts    : BitVec 32
deriving DecidableEq, Repr

/-- Counters of one source (Table HOP-10). -/
structure SrcCount where
  taken   : Nat := 0
  refused : Nat := 0
  peak    : Nat := 0
  late    : Nat := 0
  calBusy : Nat := 0
deriving DecidableEq, Repr

/-- Sequence state of one fabric or ISOBUS source address (R153). -/
structure SeqState where
  iso  : Bool
  addr : Nat
  seq  : BitVec 16
  last : BitVec 32
deriving DecidableEq, Repr

/-- A command that completes when the verdicts are complete (R200): hopper, code, detail, result data, qualifier of the
EV-0x0903 it raises (0xFFFF none), and the IDs whose new values then go to the running set (R179, R180). -/
structure VerdictWait where
  hop    : Nat
  code   : Nat
  detail : Nat
  data   : List (BitVec 8)
  ev     : Nat
  ids    : List Nat
deriving DecidableEq, Repr

/-- Hoppers and command intake (05). -/
structure IntakeSt where
  /-- 32 hoppers: 0–15 host, 16–23 fabric, 24–27 ISOBUS, 28–31 internal -/
  hops     : List HopSt := List.replicate 32 {}
  /-- the 32 × 128 slot bytes; an unlisted byte reads 0x00 (R142) -/
  slots    : List Host.Cell := []
  /-- the bulk window, 4096 bytes (R142) -/
  bulk     : List Host.Cell := []
  hostSeq  : Option (BitVec 16) := none
  virtSeq  : List SeqState := []
  intSeq   : BitVec 16 := 0
  /-- starts left in the frame (R155), the source whose turn it is (R156) -/
  starts   : Nat := 0
  turn     : Nat := 0
  /-- the source at which the turn of the frame began -/
  turnBase : Nat := 0
  nextReg  : Nat := 0
  nextTake : Nat := 0
  counts   : Quad SrcCount := Quad.all {}
  stops    : List StopMark := []
  /-- EV-0x1101 and EV-0x1103 already raised in this superframe -/
  rejSeen  : Bool := false
  busySeen : Bool := false
  /-- frame by which the verdicts are complete; none when they are (R185) -/
  verdict  : Option (BitVec 32) := none
  /-- SET_PARAM and CFG_IMAGE commands that complete with the verdicts -/
  onVerdict : List VerdictWait := []
  /-- autoen ENABLE_UNIT still to be issued (R197) -/
  autoDue  : Bool := false
deriving DecidableEq, Repr

/-- One copy of the configuration store (R194). -/
structure StoreCopy where
  /-- the copy passes R193 -/
  valid : Bool
  saves : BitVec 32
  label : BitVec 32
  /-- FWMIN of the image (Table PAR-4) -/
  fwMin : Nat
  /-- its entries, by rising ID -/
  vals  : List (Nat × Nat)
deriving DecidableEq, Repr

/-- Parameters (06). A set lists the raw values that differ from the defaults, by rising ID. -/
structure ParamSt where
  working : List (Nat × Nat) := []
  running : List (Nat × Nat) := []
  /-- live values of enabled owners that reach the running set at the next boundary (R179, R180) -/
  commit  : List (Nat × Nat) := []
  copyA   : Option StoreCopy := none
  copyB   : Option StoreCopy := none
  /-- units enabled (Table PAR-2), and units requested whose domain is not yet at Ready -/
  units   : BitVec 10 := 0
  asked   : BitVec 10 := 0
  /-- units being disabled, whose domain (or claim) has not finished -/
  leaving : BitVec 10 := 0
  /-- staging buffer, 10,240 bytes (R198), and whether something is staged -/
  staging : List Host.Cell := []
  staged  : Bool := false
deriving DecidableEq, Repr

/-- Table MOT-9 byte 16. -/
inductive MotState where
  | idle | pos | vel | stepf | speedf | haul | stopping | halting | halted
deriving DecidableEq, Repr

/-- Table MOT-2. -/
inductive PosState where
  | unreferenced | referenced | retained
deriving DecidableEq, Repr

/-- One phase descriptor (R211): duration in seconds and the motion at its start; constant jerk. -/
structure Phase where
  dur : Rat
  v0  : Rat
  a0  : Rat
  j   : Rat
deriving DecidableEq, Repr

/-- A profile under way: absolute tick of its time 0, start position, phases, and what it ends in. -/
structure Profile where
  t0     : Nat
  x0     : Rat
  phases : List Phase
deriving DecidableEq, Repr

/-- Motion engine and interval unit of one axis (07). -/
structure MotionSt where
  state    : MotState := .idle
  p        : Int := 0
  /-- position at the last boundary (Table MOT-9) -/
  pAt      : Int := 0
  /-- SET_POSITION waiting for the boundary: value, REFERENCED (R234) -/
  setTo    : Option (Int × Bool) := none
  eloff    : Nat := 0
  posState : PosState := .unreferenced
  /-- AXSTATn [21]: index retained, unverified (Table MOT-3) -/
  retained : Bool := false
  /-- SRAM holds p and ELOFF of this SYS session (R236, R237) -/
  kept     : Bool := false
  profile  : Option Profile := none
  /-- commanded velocity at the last boundary, µsteps/s (R213) -/
  vel      : Rat := 0
  /-- acceleration at the last boundary -/
  acc      : Rat := 0
  /-- target of the running position profile (R215) -/
  target   : Int := 0
  /-- velocity held after the ramp of VEL or SPEEDF; 0 in the other states (R220) -/
  vt       : Rat := 0
  /-- accelerations captured by the running JOG or follow (R219) -/
  capAcc   : Nat := 0
  capDec   : Nat := 0
  /-- velocity limit (raw) and jerk captured by the profile in force (Table TWIN-2) -/
  capV     : Nat := 0
  capJ     : Nat := 0
  /-- a ramp to rest on a Ledge limit runs, toward the high side or the low (R231) -/
  ledge    : Option Bool := none
  /-- takeover frame of a MOVE_TO from STEPF or SPEEDF: target, acceleration, deceleration, jerk and velocity limit waiting (R214) -/
  takeover : Option (Int × Nat × Nat × Nat × Rat) := none
  /-- absolute tick of the last microstep, and its direction -/
  lastStep : Option Nat := none
  lastDir  : Int := 1
  /-- microsteps of this frame, the newest first: tick and direction, from which the position at an instant follows (R387) -/
  steps    : List (Nat × Int) := []
  /-- frames since the last microstep, and standstill (R226) -/
  idleF    : Nat := 0
  still    : Bool := true
  /-- frames in standstill, for R34 and Table CUR-4 -/
  stillF   : Nat := 0
  /-- of these, frames since a motion command last acted (R249, Table CUR-4) -/
  holdF    : Nat := 0
  /-- STEP pulse whose acceptance is still to come: its direction and the tick of the acceptance (R67, R222) -/
  stepWait : Option (Bool × Nat) := none
  /-- exact time, in ticks, of the last microstep of STEPF (R207, R222) -/
  paceAt   : Option Rat := none
  /-- the next microstep of STEPF is the first that its newest pulse owes, none being owed before it in that direction (R222) -/
  pulseFirst : Bool := false
  /-- step-follow: demand and microsteps issued since the acting boundary, last pulse tick and spacing (R221, R222) -/
  demand   : Int := 0
  issued   : Int := 0
  pulses   : Nat := 0
  pulseAt  : Option Nat := none
  pulseTp  : Option Nat := none
  dropped  : Nat := 0
  lagTrip  : Bool := false
  /-- hopper of the command the axis is running; of a waiting STOP or HALT -/
  cmd      : Option Nat := none
  stopCmd  : Option Nat := none
  /-- interval unit fault: the engine issues nothing (R207) -/
  halted   : Bool := false
  /-- EV-0x0101 already raised for a discard in this superframe (R232) -/
  ledgeSeen : Bool := false
  /-- EV-0x0145 raised for the running motion command (R284) -/
  unavail  : Bool := false
deriving DecidableEq, Repr

/-- Where a coil stands in the chopper cycle of Table CUR-5. -/
inductive ChopPhase where
  | blank | on | fast | slow | ended
deriving DecidableEq, Repr

/-- Read-backs of one DAC code (R335): mismatches in consecutive superframes, and the superframe of the last reading. -/
structure ReadBack where
  bad : Nat := 0
  sf  : Option (BitVec 32) := none
deriving DecidableEq, Repr

/-- One coil's regulation (08). -/
structure CoilSt where
  /-- set-point I*_code in current LSB (R247) and the one before (R258) -/
  setp    : Int := 0
  prevSet : Int := 0
  phase   : ChopPhase := .slow
  /-- the cycle under way drives the negative sign (R254) -/
  neg     : Bool := false
  /-- trip comparator seen tripped during blanking (R253) -/
  seen    : Bool := false
  /-- the last set-point change lowered |I*_code| (R252) -/
  falling : Bool := false
  /-- escalation level and fast-decay fraction in effect, sixteenths (R253) -/
  esc     : Nat := 0
  frac    : Nat := 0
  /-- last valid sample in current LSB (R256) -/
  sample  : Int := 0
  /-- duty and integral term, V (R258, R259) -/
  duty    : Rat := 0
  ux      : Rat := 0
  /-- compare values C1 and C2 of the present period (R257, R312) -/
  cmp1    : Nat := 0
  cmp2    : Nat := 0
  limited : Bool := false
  frozen  : Bool := false
  /-- consecutive samples over the limit, and saturated (R265) -/
  overN   : Nat := 0
  sat     : Nat := 0
  /-- a trip was seen in this quarter; the duty was limited all through it (R267) -/
  tripQ   : Bool := false
  limQ    : Bool := true
  /-- read-backs of the regulation DACs: trip and zero comparator (R266, R335) -/
  dac     : ReadBack := {}
  dacZ    : ReadBack := {}
  /-- insertions under way: t_s in ticks of an on phase; |d| asked for the next period, and the period runs; the leg (2 or 1) whose high
  side is turned on (R349, R350) -/
  insTo   : Option Nat := none
  raise   : Option Rat := none
  raised  : Bool := false
  probe   : Option Bool := none
deriving DecidableEq, Repr

/-- A Chisel user table (R244, Table CUR-13): label and 256 entries. -/
structure Chisel where
  label   : BitVec 32
  entries : List Nat
deriving DecidableEq, Repr

/-- Standstill and hold state of Table CUR-14 byte 1. -/
inductive HoldState where
  | off | moving | hold | quiet | clamp | haltHold | recal | ramp
deriving DecidableEq, Repr

/-- Current regulation of one axis (08). -/
structure CurrentSt where
  /-- working, stored user tables, and the one in use since Ready (R245, R274) -/
  userTab  : Option Chisel := none
  storeTab : Option Chisel := none
  liveTab  : Option Chisel := none
  /-- regulation mode in effect: voltage (true) or chopper (R261), requested and committed change -/
  voltage  : Bool := true
  request  : Option Bool := none
  /-- amplitude in mA, and amplitude code A in effect and committed for the next boundary (R247) -/
  iamp     : Nat := 0
  acode    : Nat := 0
  hold     : HoldState := .off
  /-- frames of the hold ramp done (Table CUR-4) -/
  rampF    : Nat := 0
  /-- the standstill began in HALT: it stays at hold current until a new one begins (R598, and the edge case of 08) -/
  sinceHalt : Bool := false
  coilA    : CoilSt := {}
  coilB    : CoilSt := {}
  /-- tick at which a PWM period began at counter 0 (R257, R262) -/
  pwmAt    : Nat := 0
  /-- a motion command acts from this boundary (R249) -/
  woken    : Bool := false
  /-- e at the start of the quarter that is being watched (R267) -/
  qFrom    : Option Nat := none
  escs     : Nat := 0
  shorts   : Nat := 0
  shortSeen : Bool := false
deriving DecidableEq, Repr

/-- Table WEDGE-11 byte 1. -/
inductive LearnState where
  | learning | check | learned
deriving DecidableEq, Repr

/-- Table WEDGE-4. -/
inductive HomeState where
  | none | ramp | armed | contact | settle | realign | backoff
  /-- after FT-0x0144, until its reaction may act (R293) -/
  | held
deriving DecidableEq, Repr

/-- HOME_FACE under way (09). -/
structure HomeSt where
  st       : HomeState := .none
  hop      : Nat := 0
  positive : Bool := false
  vel      : Rat := 0
  acc      : Nat := 0
  ihome    : Nat := 0
  backoff  : Nat := 0
  homePos  : Int := 0
  maxTravel : Nat := 0
  startP   : Int := 0
  mref     : Rat := 0
  collapsed : Nat := 0
  /-- position at the end of, and round(δ × 1024 / 360) of, the last window before the run of collapsed ones (R293) -/
  cleanP   : Int := 0
  cleanD   : Int := 0
  xref     : Int := 0
  lead     : Int := 0
  margin   : Int := 0
  settleF  : Nat := 0
  shift    : Int := 0
deriving DecidableEq, Repr

/-- A window that has ended (R275): the set-points of coils A and B integrated over it in LSB × ticks and their changes across it in
LSB, its length in ticks, and index, velocity, position and direction at its end. Of the last window of a period: whether the period met
R278, and whether I_w stood at ceil throughout. -/
structure WedgeWin where
  fin  : Option (Bool × Bool) := none
  /-- units of ADC1 whose end lies within it; sums of the captures brought, in mV·µs, and their number (R339) -/
  units : Nat
  capA : Int
  capB : Int
  capN : Nat
  sumA : Int
  sumB : Int
  dA   : Int
  dB   : Int
  dt   : Nat
  e    : Nat
  v    : Rat
  p    : Int
  dir  : Int
deriving DecidableEq, Repr

/-- Wedge of one axis (09). -/
structure WedgeSt where
  learn    : LearnState := .learning
  /-- I_w in mA (R280) -/
  iw       : Nat := 0
  ke       : Nat := 0
  finger   : BitVec 16 := 0
  /-- baseline source: 0 none, 1 learned, 2 retention, 3 mirror -/
  source   : Nat := 0
  /-- windows of the period so far and the sums of Es, Ec, m over them (R277, R292) -/
  windows  : Nat := 0
  sumEs    : Rat := 0
  sumEc    : Rat := 0
  sumM     : Rat := 0
  /-- the period so far meets R278; I_w stood at ceil throughout -/
  okPer    : Bool := true
  ceilPer  : Bool := true
  dirPer   : Int := 0
  /-- windows of the period under way that have ended -/
  wins     : Nat := 0
  /-- the window under way: tick and set-points at its start; none before the first boundary -/
  open_    : Option (Nat × Int × Int) := none
  /-- captures of its integrators so far in mV·µs, coil A and coil B, and their number (R339) -/
  capSum   : Int × Int := (0, 0)
  capN     : Nat := 0
  /-- its set-points integrated so far, up to a tick; number of the ADC1 unit in which it opened -/
  openSum  : Int × Int := (0, 0)
  openAt   : Nat := 0
  openUnit : Nat := 0
  /-- a period whose windows are all formed: whether it met R278, I_w at ceil throughout, and its direction -/
  ended    : Option (Bool × Bool × Int) := none
  /-- a window that has ended and is to be formed -/
  due      : Option WedgeWin := none
  /-- speed at the end of the period -/
  perV     : Rat := 0
  /-- last valid δ in degrees, |E| in mV -/
  delta    : Option Rat := none
  /-- the last period of the motion was valid -/
  dValid   : Bool := false
  mag      : Nat := 0
  /-- a valid period ended in this frame (Table WEDGE-1) -/
  fresh    : Bool := false
  /-- learning: valid periods counted and the sum of |E| / |fe| (R287); CHECK: valid periods, and whether one was off (R288) -/
  learnN   : Nat := 0
  learnSum : Rat := 0
  checkN   : Nat := 0
  checkBad : Bool := false
  /-- of the periods counted toward learning, those of the partner that a takeover adopted: their |E| / |fe| is not known -/
  learnFrom : Nat := 0
  /-- counters of Table WEDGE-2 and the declared fault waiting for the boundary (R283) -/
  cntAngle : Nat := 0
  cntColl  : Nat := 0
  stall    : Option Nat := none
  both     : Nat := 0
  valid    : Nat := 0
  invalid  : Nat := 0
  /-- windows above VM + 2 V in a row; criteria suspended (FT-0x0145) -/
  implaus  : Nat := 0
  suspended : Bool := false
  /-- the learning state becomes LEARNING at the next boundary (R288, WEDGE_LEARN) -/
  toLearn  : Bool := false
  /-- baseline to be written to retention at the next superframe (R287) -/
  toRet    : Bool := false
  home     : HomeSt := {}
deriving DecidableEq, Repr

/-- Where a switch stands in its gate profile (R302). -/
inductive GatePhase where
  | off | onP1 | onP2 | on | offP1 | offP2
  /-- P3 of a turn-off: the dead time and the confirmation of R307 are still to pass -/
  | offP3
deriving DecidableEq, Repr

/-- One external switch (10): its gate phase, latch cause (Table GATE-11), which is the latch that survives in retention
(R330), and adapted pre-charge times. -/
structure SwitchSt where
  phase   : GatePhase := .off
  /-- 0 none, 1 VDS, 2 shunt positive, 3 shunt negative, 4 bootstrap, 5 recharge, 6 gate-off (R329) -/
  cause   : Nat := 0
  tpreOn  : Nat := 0
  tpreOff : Nat := 0
  /-- held at the fault sink until VGS ≤ 1.5 V (R328) -/
  fault   : Bool := false
  /-- the turn-on edge under way skips P2 (R304) -/
  skip    : Bool := false
  /-- tick of the latch (R329) -/
  latchAt : Option Nat := none
deriving DecidableEq, Repr

/-- One half-bridge (10). -/
structure BridgeSt where
  lo       : SwitchSt := {}
  hi       : SwitchSt := {}
  /-- turn-on waiting for dead time: true = high side (R307) -/
  pending  : Option Bool := none
  /-- refresh timer expired and waiting, insertion running, recharge running (R310, R314) -/
  due      : Bool := false
  insert   : Bool := false
  recharge : Bool := false
  /-- altered period of voltage mode requested (R312) -/
  altered  : Bool := false
  /-- tick at which the low side's turn-on began, while it is on; tick of the last refresh (R309) -/
  lowAt    : Option Nat := none
  refreshAt : Nat := 0
  /-- test source on its phase node: pull-up or not, in µA (R342) -/
  source   : Option (Bool × Nat) := none
deriving DecidableEq, Repr

/-- Gate drive of one axis (10). -/
structure GateSt where
  a1 : BridgeSt := {}
  a2 : BridgeSt := {}
  b1 : BridgeSt := {}
  b2 : BridgeSt := {}
  /-- next half-bridge of the QUIET refresh order, and the tick of the last pulse or of the entry to QUIET (R313) -/
  quietH    : Nat := 0
  quietAt   : Nat := 0
  inserts   : Nat := 0
  platEnds  : Nat := 0
  faultsN   : Nat := 0
  platSeen  : Bool := false
  boundSeen : Bool := false
  /-- a filtered fall of the governing enable of half-bridge h has been seen since its last rise (R330) -/
  fell      : Quad Bool := Quad.all false
  /-- enable fell, rose, during this frame, for EV-0x0301 and EV-0x0302 at the boundary (R318, R320) -/
  fallNote  : Bool := false
  riseNote  : Bool := false
  fallMoved : Bool := false
  /-- switches cleared by a toggle, reported at the next boundary (R330) -/
  cleared   : BitVec 8 := 0
  /-- switches cleared and still waiting for the boundary after -/
  clearing  : BitVec 8 := 0
  /-- switch faults detected and raised at the next boundary: code, qualifier (R328) -/
  found     : List (Nat × Nat) := []
  /-- hardware off of another chapter stands (R31, R108, R111, R341) -/
  hwOff     : Bool := false
  /-- frames for which the enable has been back, regulation resumes at the second boundary (R320) -/
  enBack    : Nat := 0
deriving DecidableEq, Repr

/-- One of the 51 comparators (11, Table MON-2). -/
structure CompSt where
  /-- read-backs of the low and the high code; failed flip tests in a row (R335, R336) -/
  rbLo    : ReadBack := {}
  rbHi    : ReadBack := {}
  flipBad : Nat := 0
  /-- passed since the item was last refreshed: the read-backs of its codes, and a flip test (Table MON-7) -/
  okLo    : Bool := false
  okHi    : Bool := false
  okFlip  : Bool := false
deriving DecidableEq, Repr

/-- Table MON-8. -/
inductive ItemState where
  | notInService | ok | ageing | undiagnosed | faulted
deriving DecidableEq, Repr

/-- One diagnosed item (11, Table MON-7). -/
structure ItemSt where
  no      : Nat
  state   : ItemState := .notInService
  /-- state kept for the return into service -/
  kept    : ItemState := .ok
  age     : Nat := 0
  last    : Int := 0
  inserts : Nat := 0
  /-- a valid measurement since the last superframe boundary, and made by an insertion -/
  fresh   : Bool := false
  byIns   : Bool := false
  /-- fault code that made it FAULTED -/
  code    : Nat := 0
  /-- an insertion was made in this superframe (R352) -/
  insNow  : Bool := false
deriving DecidableEq, Repr

/-- Off-state test of one axis (11, R342). -/
structure OffTest where
  /-- step 4, inserted or commanded by hopper h -/
  source : Nat := 0
  hop    : Nat := 0
  startF : BitVec 32 := 0
  /-- sum in mV and count of the readings of V1 and V2 in T2, then in T3, of coil A and of coil B (R339, R342) -/
  acc    : List (Int × Nat) := List.replicate 8 (0, 0)
deriving DecidableEq, Repr

/-- One holding-brake output (11). -/
structure BrakeSt where
  on      : Bool := false
  economy : Bool := false
  /-- locked off by FT-0x0420 until cleared (R357) -/
  locked  : Bool := false
  /-- boundary of the last turn-on -/
  onAt    : BitVec 32 := 0
  /-- hopper of the motion command that waits for the release, none otherwise (R358) -/
  waiter  : Option Nat := none
  /-- frame whose period an insertion stretches (R356) -/
  stretchAt : Option (BitVec 32) := none
  low     : Nat := 0
  offLow  : Nat := 0
deriving DecidableEq, Repr

/-- Monitors, diagnostics and brake outputs (11). -/
structure MonSt where
  comps   : List CompSt := List.replicate 51 {}
  /-- next comparator of the flip test, and frame of the last one; its two step codes and what the test latch took in them (R336) -/
  flipNo  : Nat := 0
  flipAt  : Option (BitVec 32) := none
  flipCodes : Int × Int := (0, 0)
  flipLatch : Bool × Bool := (false, false)
  /-- next unit of ADC1 in this frame; last captures of its eight integrator slots in mV·µs (R338, R339) -/
  adcNext : Nat := 0
  caps    : List Int := List.replicate 8 0
  /-- last conversions of the WIN inputs in mV (Table MON-4) -/
  win     : Quad Int := Quad.all 0
  hot     : Bool := false
  shut    : Bool := false
  /-- filtered WIN state: out of window (R334) -/
  winOut  : Quad Bool := Quad.all false
  items   : List ItemSt := []
  tests   : Quad (Option OffTest) := Quad.all none
  /-- rows of Table MON-6 of coil A and coil B found in step 4, until its checkpoint (R344) -/
  rows4   : Quad (Option (Nat × Nat)) := Quad.all none
  coilBad : List Nat := List.replicate 8 0
  bootBad : List Nat := List.replicate 16 0
  /-- an insertion was made on the axis in this frame (R352) -/
  insFrame : Quad Bool := Quad.all false
  brakes  : Quad BrakeSt := Quad.all {}
deriving DecidableEq, Repr

/-- Table FBK-4. -/
inductive SpeedState where
  | invalid | valid | still | starting
deriving DecidableEq, Repr

/-- One feedback channel (12). -/
structure ChannelSt where
  count    : Int := 0
  /-- accepted levels of FA, FB, FZ, FX -/
  lvA      : Bool := false
  lvB      : Bool := false
  lvZ      : Bool := false
  lvX      : Bool := false
  /-- last valid Hall code (R369) -/
  hall     : Nat := 0
  ref      : Bool := false
  illFlag  : Bool := false
  ill      : Nat := 0
  illSf    : Nat := 0
  illSeen  : Bool := false
  dirNeg   : Bool := false
  /-- a count has been made since the enable, so that dirNeg holds the direction of one -/
  counted  : Bool := false
  revs     : Nat := 0
  revSeen  : Bool := false
  revNext  : Bool := false
  discards : Nat := 0
  onLedge  : Option Bool := none
  /-- index: a first one seen, direction of the last one, count travel since it (R368) -/
  idxSeen  : Bool := false
  idxNeg   : Bool := false
  idxCount : Int := 0
  travel   : Int := 0
  /-- speed: state, method, value in counts/s, sign source, stamps in 10 ns ticks (R378 to R382) -/
  spd      : SpeedState := .invalid
  countMode : Bool := false
  speed    : Rat := 0
  lastEdge : Option Nat := none
  lastInt  : Option Nat := none
  /-- interval between the last two qualified edges, and the signed weight of the last one (R379) -/
  spdInt   : Option Nat := none
  lastW    : Int := 0
  /-- the last interval is regular; the one before it, where that is regular; intervals still to pass by a mark (R372) -/
  regular  : Bool := false
  prevInt  : Option Nat := none
  notReg   : Nat := 0
  /-- gate: qualified edges, first and last stamp, weight of the edges after the first (R380) -/
  gateN    : Nat := 0
  gateT1   : Nat := 0
  gateTn   : Nat := 0
  gateW    : Int := 0
  gateF    : Nat := 0
  /-- extra tooth counted provisionally (R373) -/
  extra    : Bool := false
  /-- serial absolute value V, and consecutive rejected reads (R375, R376) -/
  ssiV     : Option Int := none
  ssiBad   : Nat := 0
  ssiRej   : Nat := 0
  ssiSeen  : Bool := false
  ssiFresh : Bool := false
  /-- latest accepted read: V as counted, and p latched at its sample instant (R389) -/
  ssiAt    : Option (Int × Int) := none
  /-- counter latched at the last boundary (Table FBK-9); stamp of the last qualified edge or reversal (R382) -/
  countAt  : Int := 0
  timeFrom : Nat := 0
  /-- axis position latched with countAt, moved with each shift (R389) -/
  pLatch   : Int := 0
  /-- codes of faults whose cause stands on this channel (R368, R369, R376) -/
  causes   : List Nat := []
  /-- capture (R385) -/
  capCount : Int := 0
  capFrame : BitVec 32 := 0
  capTick  : Nat := 0
  caps     : Nat := 0
  /-- alignment pair of the position error, the position error and its availability (R389) -/
  pAlign   : Int := 0
  cAlign   : Int := 0
  aligned  : Bool := false
  pe       : Option Int := none
  alignDue : Bool := false
  /-- index check of R390: frames since Ready while it is due -/
  idxCheck : Option Nat := none
  /-- counter write of FB_SET_COUNT waiting for the boundary: value, REFERENCED (R391) -/
  setTo    : Option (Int × Bool) := none
  /-- reference and check events of this frame, in order of their stamps: count and latched p, reference event (R387) -/
  events   : List (Int × Int × Bool) := []
deriving DecidableEq, Repr

/-- Table CMP-1. -/
inductive CmpState where
  | off | idle | armed | done
deriving DecidableEq, Repr

/-- One compare unit (13). `v` is V in 1/256 count. -/
structure CmpSt where
  st      : CmpState := .off
  v       : Int := 0
  hits    : Nat := 0
  merged  : Nat := 0
  supp    : Nat := 0
  skips   : Nat := 0
  /-- an active pulse runs (R398) -/
  pulse   : Bool := false
  toggle  : Bool := false
  mergeSeen : Bool := false
  /-- CMP_ARM commands waiting for their boundary: hopper, disarm, clear, start value (R396) -/
  arms    : List (Nat × Bool × Bool × Int) := []
deriving DecidableEq, Repr

/-- One divided output (R402, R403). -/
structure DivSt where
  acc     : Nat := 0
  backlog : Nat := 0
  lost    : Nat := 0
  /-- the output is active; a minimum-spacing interval runs -/
  active  : Bool := false
  busy    : Bool := false
  seen    : Bool := false
deriving DecidableEq, Repr

/-- Table CMP-3. -/
inductive FollowState where
  | none | wait | following | lost
deriving DecidableEq, Repr

/-- Speed following of one axis (R404 to R410). -/
structure FollowSt where
  st      : FollowState := .none
  src     : Nat := 0
  inst    : Nat := 0
  useDir  : Bool := false
  /-- ratio in effect, ramp start, ramp end, ramp length and frames done (R408) -/
  ratio   : Int := 0
  r0      : Int := 0
  r1      : Int := 0
  ramp    : Nat := 0
  rampJ   : Nat := 0
  /-- last valid R as taken (R407) -/
  lastR   : Int := 0
  /-- loss action 2 acts at the next boundary (R410) -/
  leave   : Bool := false
  /-- target set in this frame, acting from the next boundary -/
  target  : Option Int := none
  targetV : Int := 0
  /-- frames without a valid value (R410) -/
  ageF    : Nat := 0
  clamped : Bool := false
  clampSeen : Bool := false
deriving DecidableEq, Repr

/-- One slot of the sensor chain (R411 to R415). -/
structure SlotSt where
  status : Nat := 6
  failed : Nat := 0
  posF   : Nat := 0
  /-- a read of this frame, latched at the boundary, and the one latched there for step 10 (R415): failed flag, position field,
  sample stamp in 10 ns ticks, positions of the axes at the sample instant -/
  fresh  : Option (Bool × Nat × Nat × List Int) := none
  latched : Option (Bool × Nat × Nat × List Int) := none
deriving DecidableEq, Repr

/-- Sensor port beside its slots. -/
structure SensorSt where
  slots  : List SlotSt := List.replicate 16 {}
  failSeen : Bool := false
  /-- bridge transfer running: bits on the select (R417) -/
  bridge : Bool := false
deriving DecidableEq, Repr

/-- A layer of the pit map (R419, R420): child c = x + 2y + 4z. -/
inductive Oct where
  | empty | full
  | node (c0 c1 c2 c3 c4 c5 c6 c7 : Oct)
deriving DecidableEq, Repr

/-- An axis-aligned box in millimetres: minimum and maximum corner. -/
structure Box where
  lo : Int × Int × Int
  hi : Int × Int × Int
deriving DecidableEq, Repr

/-- A taken MAP_EDIT not yet in effect (R425). -/
structure Edit where
  hop   : Nat
  op    : Nat
  box   : Box
  cells : Nat
  /-- cells still to be written, and the frame after which their writing goes on (R424, R425) -/
  left  : Nat
  ready : BitVec 32
deriving DecidableEq, Repr

/-- One joint and one capsule of the chain table (Table PLAN-4). -/
structure Joint where
  axis   : Nat
  kind   : Nat
  dir    : Nat
  offset : Int × Int × Int
  scale  : Nat
  zero   : Int
deriving DecidableEq, Repr

structure Capsule where
  link   : Nat
  group  : Nat
  a      : Int × Int × Int
  b      : Int × Int × Int
  radius : Nat
deriving DecidableEq, Repr

/-- A valid chain table with the bytes it was loaded from (R427). -/
structure Chain where
  bytes  : List (BitVec 8)
  joints : List Joint
  caps   : List Capsule
deriving DecidableEq, Repr

/-- Captured limits of one chain axis (R431): vmax raw, acc, dec, jerk. -/
structure Limits where
  vmax : Nat
  acc  : Nat
  dec  : Nat
  jerk : Nat
deriving DecidableEq, Repr

/-- A haul road (R443). -/
structure Road where
  points  : List (List Int)
  limits  : List Limits
  version : BitVec 32
  boxes   : List Box
deriving DecidableEq, Repr

/-- One roadmap edge: its nodes, swept box and checked flag (R441). -/
structure RmEdge where
  a : List Int
  b : List Int
  box : Box
  checked : Bool
deriving DecidableEq, Repr

/-- A taken PLAN_QUERY (R438). -/
structure Query where
  hop    : Nat
  slot   : Nat
  cls    : Nat
  start  : Nat
  startSlot : Nat
  seed   : BitVec 32
  noMap  : Bool
  noLearn : Bool
  goal   : List Int
  given  : List Int
  /-- frame of taking, of activation -/
  taken  : BitVec 32
  active : BitVec 32
  /-- latched start, captured limits, map version and roadmap version at activation -/
  from_  : List Int
  limits : List Limits
  mapVer : BitVec 32
  rmVer  : BitVec 32
  /-- live parameters, effective occupancy and roadmap at activation (R434) -/
  bias   : Nat
  kNear  : Nat
  shortN : Nat
  occ    : Oct
  nodes  : List (List Int × Nat)
  edges  : List RmEdge
deriving DecidableEq, Repr

/-- Table PLAN-6. -/
inductive RunStage where
  | startCheck | running | heldUser | heldMap | stopping
deriving DecidableEq, Repr

/-- A PLAN_RUN in flight (R448 to R453). -/
structure Run where
  hop    : Nat
  slot   : Nat
  stage  : RunStage
  /-- running segment; frame at which the next one may start -/
  seg    : Nat
  segEnd : Option (BitVec 32)
  /-- λ at the last boundary in units of 1 / (plan.stop_t × 10,000), and the direction of its ramp (R446) -/
  lam    : Nat
  up     : Option Bool
  /-- haul time within the segment, in haul ticks, as of the last boundary -/
  haul   : Rat
  userHold : Bool
  /-- the segment was not ready at its start boundary (R445) -/
  segLate : Bool
  /-- frame in which the start check or the map hold began, and the segment and haul time of that hold (R449, R452) -/
  heldAt : BitVec 32
  heldSeg : Nat
  heldHaul : Rat
  /-- the hold began while the chain rested between segments: none starts until the recheck passes -/
  heldRest : Bool
  status : Nat
  late   : Nat
  /-- PLAN_STOP commands waiting for λ (hopper, op), and the sequence that stops the run -/
  waits   : List (Nat × Nat)
  stopSeq : Nat
  /-- last segment whose descriptors are generated; the road holds those of the first (R443, R445) -/
  gen     : Nat := 0
deriving DecidableEq, Repr

/-- Haul planner and pit map (14). -/
structure PlanSt where
  /-- staging area of MAP_LOAD: bytes and the length given at begin -/
  stage    : List Host.Cell := []
  stageLen : Nat := 0
  loaded   : Bool := false
  depth    : Nat := 0
  vox      : Nat := 0
  origin   : Int × Int × Int := (0, 0, 0)
  stat     : Oct := .empty
  dyn      : Oct := .empty
  version  : BitVec 32 := 0
  valid    : Bool := false
  /-- a valid-flag write of MAP_EDIT op 3 or 4 waiting for the boundary -/
  setValid : List (Nat × Bool) := []
  log      : List (Box × BitVec 32) := []
  /-- the log lost entries up to this version -/
  lostUpTo : BitVec 32 := 0
  edits    : List Edit := []
  chain    : Option Chain := none
  storeChain : Option Chain := none
  active   : Option Query := none
  queue    : List Query := []
  /-- frame in which the last query ended (R438) -/
  lastEnd  : Option (BitVec 32) := none
  roads    : Quad (Option Road) := Quad.all none
  nodes    : List (List Int × Nat) := []
  edges    : List RmEdge := []
  rmVer    : BitVec 32 := 0
  rmSeen   : Bool := false
  /-- captured limits that the roadmap's edges were checked with (R442) -/
  rmLimits : List Limits := []
  run      : Option Run := none
deriving DecidableEq, Repr

/-- A frame in a class queue: arrival number, and the hopper of the NET_SEND it belongs to. -/
structure QFrame where
  frame : AmFrame
  hop   : Option Nat
  last  : Bool
  frames : Nat
deriving DecidableEq, Repr

/-- Table FAB-7. -/
inductive SyncState where
  | unsynced | acquiring | synced | holdover
deriving DecidableEq, Repr

/-- A valid schedule (Tables FAB-8, FAB-9). -/
structure SchedEntry where
  slot  : Nat
  tx    : Nat
  len   : Nat
  cls   : Nat
  per   : Nat
  off   : Nat
  frame : Nat
  mask  : BitVec 64
deriving DecidableEq, Repr

structure Sched where
  bytes : List (BitVec 8)
  segment : Nat
  arb   : Nat
  data  : Nat
  w     : Nat
  crc   : BitVec 32
  entries : List SchedEntry
deriving DecidableEq, Repr

/-- A token bucket of R514: source address, CMD or DATA, tokens. -/
structure Bucket where
  src    : Nat
  cmd    : Bool
  tokens : Nat
  /-- superframe of the last frame from the source -/
  last   : BitVec 32
deriving DecidableEq, Repr

/-- One fabric port (15, 16). -/
structure PortSt where
  claim   : ClaimState := .listen
  rank    : Nat := 0
  want    : Nat := 0
  index   : Nat := 0
  /-- index last held, the one written to retention (R467) -/
  lastIdx : Option Nat := none
  inUse   : BitVec 64 := 0
  /-- superframes still to listen; the LISTEN follows a lost claim or a given-up index -/
  listenN : Nat := 0
  retry   : Bool := false
  /-- 0 until the own CLAIM has completed, then superframes since it plus 1 -/
  claimN  : Nat := 0
  /-- chunk of the next attempt, a CLAIM is to be queued, attempts are allowed (R465) -/
  chunk   : Nat := 0
  claimDue : Bool := false
  mayClaim : Bool := true
  /-- all 64 indexes were in use at the last LISTEN (FT-0x0603, qualifier 1) -/
  full    : Bool := false
  /-- rank-2 port that lost to another rank-2 claimant: silent until its unit is disabled (R467) -/
  barred  : Bool := false
  seg     : Option Nat := none
  /-- granted segment taking effect at the next superframe (R471), and superframes to the next SEG request -/
  segNext : Option Nat := none
  segTimer : Nat := 0
  lastGrant : Nat := 0xFFFF
  sync    : SyncState := .unsynced
  /-- depth and index of the accepted beacon source, and whether it is synced to the root (R481) -/
  depth   : Option Nat := none
  source  : Option Nat := none
  srcSync : Bool := false
  /-- last offset in ns and the frame of its beacon, beacons in a row within 2 µs, the last 8 offsets, own stamp of the last beacon -/
  offset  : Int := 0
  offAt   : Option (BitVec 32) := none
  inTol   : Nat := 0
  offsets : List Int := []
  prevRx  : Option Int := none
  /-- frame of the last accepted beacon, and its SCRC and FLAGS -/
  bcnAt   : BitVec 32 := 0
  scrc    : BitVec 32 := 0
  bcnFlags : Nat := 0
  /-- R504: nothing is sent until a beacon is accepted -/
  silent  : Bool := false
  /-- the beacon released in this superframe and not sent yet (R479, R497) -/
  bcnTx   : Option AmFrame := none
  /-- start of frame of the beacon sent in this superframe, in ns after its boundary (R479, R480) -/
  ptx     : Option Nat := none
  /-- CYCLIC frames released in this superframe and not sent yet (R488) -/
  cycTx   : List AmFrame := []
  busOff  : Bool := false
  busOffs : Nat := 0
  /-- frames of the bus-offs within the last second (R456) -/
  offTimes : List (BitVec 32) := []
  stopped : Bool := false
  listenOnly : Bool := false
  queues  : Quad (List QFrame) := Quad.all []
  sched   : Option Sched := none
  storeSched : Option Sched := none
  /-- SCRC or segment of the last beacon differs from the schedule's (R488) -/
  cycBad  : Bool := false
  lateCyc : Nat := 0
  /-- latched bodies by slot with the frame of their latch, and receptions of this frame waiting for the boundary (R491) -/
  latched : List (Nat × BitVec 32 × List (BitVec 8)) := []
  rxCyc   : List (Nat × List (BitVec 8)) := []
  discards : Nat := 0
  hopDrops : Nat := 0
  routeDrops : Nat := 0
  dups    : Nat := 0
  failed  : Nat := 0
  /-- NET_QSTAT counters by class: queued, sent, dropped, peak depth -/
  queuedN : Quad Nat := Quad.all 0
  sentN   : Quad Nat := Quad.all 0
  dropsPerClass : Quad Nat := Quad.all 0
  peaks   : Quad Nat := Quad.all 0
  policed : Nat := 0
  /-- per (SRC, reason): drops since the last NACK, and whether one went out in this superframe (R513) -/
  nacks   : List (Nat × Nat × Nat × Bool) := []
  nackTx  : Nat := 0
  nackRx  : Quad Nat := Quad.all 0
  /-- ROUTE cycle: superframes since it began, its length, the next entry to advertise (R474) -/
  rtClock : Nat := 0
  rtLen   : Nat := 0
  rtPos   : Option Nat := none
  buckets : List Bucket := []
  /-- last frame that completed transmission -/
  lastTx  : Option AmFrame := none
deriving DecidableEq, Repr

/-- One route table entry (R473). -/
structure Route where
  seg    : Nat
  port   : Nat
  nh     : Nat
  metric : Nat
  age    : Nat
  /-- still to be advertised as a triggered update on each port (R475) -/
  changed : Duo Bool
deriving DecidableEq, Repr

/-- A message being assembled (R494). -/
structure Asm where
  port  : Nat
  src   : Nat
  tag   : Nat
  kind  : Nat
  dmode : Nat
  cls   : Nat
  next  : Nat
  body  : List (BitVec 8)
  ftime : Bool
  /-- frame of the first fragment (R494) -/
  at_   : BitVec 32
  /-- discarded and counted: the fragments still to come are dropped with it (R494) -/
  dead  : Bool := false
deriving DecidableEq, Repr

/-- A received DATA message (NET_RECV). -/
structure DataMsg where
  port  : Nat
  src   : Nat
  dmode : Nat
  cls   : Nat
  body  : List (BitVec 8)
deriving DecidableEq, Repr

/-- Fabric state of the device as a whole (15, 16). -/
structure FabSt where
  routes   : List Route := []
  /-- root in use (R481) -/
  root     : Option (BitVec 64) := none
  /-- EV-0x0605 and, by qualifier, EV-0x0607 already raised in this superframe -/
  routeSeen : Bool := false
  fwdSeen  : Duo Bool := Duo.all false
  /-- frames that enter a class queue in the next frame (R478): port, class, arrival port -/
  fwd      : List (Fin 2 × Fin 4 × Fin 2 × AmFrame) := []
  /-- grants the root has given (R471): segment and superframe, at most 256 -/
  grants   : List (Nat × BitVec 32) := []
  /-- duplicate cache (R477): SRC, TAG, FSEQ, superframe, oldest first, at most 64 -/
  dedupe   : List (Nat × Nat × Nat × BitVec 32) := []
  asms     : List Asm := []
  /-- received DATA messages waiting for NET_RECV, at most 16 -/
  recv     : List DataMsg := []
  recvLost : Nat := 0
  /-- transmit tag and sequence counters (R459) -/
  tag      : Nat := 0
  /-- events of this superframe to be sent as EVT, and the count not sent (R511) -/
  evts     : List (Nat × Nat × BitVec 32) := []
  evtLost  : Nat := 0
  neighbours : List Neighbour := []
  watches  : List WatchSt := List.replicate 16 {}
  /-- internal commands of R510 still to be issued: axis and kind 2 STOP, 3 HALT, 4 DISABLE_AXIS -/
  actions  : List (Nat × Nat) := []
  /-- sleep plan held and in force (R500), m, drift of the last wake, rate correction in 1e-9 (R506) -/
  plan     : Option SleepPlan := none
  m        : Nat := 0
  drift    : Int := 0
  rate     : Int := 0
  /-- listening awake after FT-0x0620; asleep or listening since a wake; the wake fell between windows -/
  listening : Bool := false
  woken    : Bool := false
  interim  : Bool := false
  /-- frame of the last accepted beacon -/
  lastBcn  : BitVec 32 := 0
  /-- root: superframes left to the next SLEEP, and op of the plan being announced (R499) -/
  annTimer : Nat := 0
  announce : Option Nat := none
  /-- wake point the next window belongs to -/
  wakeK    : Nat := 0
  /-- superframe at which the listen window closes, of the last wake, of a wake between windows from which the awake window counts, and
  of the last sleep instant judged (R501, R503, R505) -/
  winEnd   : BitVec 32 := 0
  wokeAt   : BitVec 32 := 0
  awakeAt  : Option (BitVec 32) := none
  instAt   : Option (BitVec 32) := none
  /-- events already raised in this superframe -/
  nackSeen : Bool := false
  polSeen  : Bool := false
  dropSeen : Quad Bool := Quad.all false
deriving DecidableEq, Repr

/-- Table EDGE-7. -/
inductive IsoClaim where
  | off | claiming | held | cannot
deriving DecidableEq, Repr

/-- A transport session of R520: partner, receiving or sending, BAM, PGN, size, bytes so far, next packet. -/
structure TpSession where
  peer  : Nat
  rx    : Bool
  bam   : Bool
  pgn   : Nat
  size  : Nat
  next  : Nat
  body  : List (BitVec 8)
deriving DecidableEq, Repr

/-- ISOBUS port (16, R516 to R524). -/
structure IsoSt where
  claim    : IsoClaim := .off
  addr     : Nat := 0
  /-- addresses that claims heard on the bus hold: address and NAME -/
  heard    : List (Nat × BitVec 64) := []
  sessions : List TpSession := []
  /-- frames handed to the controller, oldest first -/
  tx       : List IsoFrame := []
  /-- newest speed of ground (first) and wheel (second): raw, direction bits, source, new since step 11 -/
  speed    : Duo (Option (Nat × Nat × Nat)) := Duo.all none
  /-- frame in which each was received -/
  spdAt    : Duo (BitVec 32) := Duo.all 0
  spdSrc   : Duo (Option Nat) := Duo.all none
  newest   : Option (Nat × Nat) := none
  counter  : Nat := 0
  /-- frame of the last claim sent; superframe at which HELD was reached, and of the last status message (R522) -/
  claimAt  : BitVec 32 := 0
  heldAt   : BitVec 32 := 0
  statAt   : Option (BitVec 32) := none
  /-- a Cannot Claim waits for its random delay, which runs from this frame (R517) -/
  cannotDue : Bool := false
  cannotAt : BitVec 32 := 0
  busOffs  : Nat := 0
  discards : Nat := 0
  aborts   : Nat := 0
  ignored  : Nat := 0
  /-- requests of the extended transport protocol (R520) -/
  etpCount : Nat := 0
  busOff   : Bool := false
  stopped  : Bool := false
  offTimes : List (BitVec 32) := []
  listenOnly : Bool := false
  etpSeen  : Bool := false
deriving DecidableEq, Repr

/-- Table TWIN-6. -/
inductive TwinRole where
  | off | standby | arming | active
deriving DecidableEq, Repr

/-- Twin link state (R528). -/
inductive TwinLink where
  | down | training | up
deriving DecidableEq, Repr

/-- Twin pair (17). -/
structure TwinSt where
  role     : TwinRole := .off
  link     : TwinLink := .down
  /-- one-way delay in ns, held until the link goes DOWN (R529) -/
  delay    : Nat := 0
  acto     : Bool := false
  gperm    : Bool := false
  /-- arming at start-up (2), alone (3), takeover (0) or after a switch (1): qualifier of EV-0x0801 -/
  cause    : Nat := 0
  alone    : Bool := false
  ready    : Bool := false
  /-- records accepted in a row, in all saturating; the last ones that were mirrors without a gap (R541) -/
  accepted : Nat := 0
  mirrors  : Nat := 0
  mirrorSeen : Bool := false
  lastFrame : BitVec 32 := 0
  /-- FRAME of the last accepted record as sent, and whether there is one since the link came UP -/
  lastSent : Option (BitVec 32) := none
  d        : BitVec 32 := 0
  rejected : Nat := 0
  rejSeen  : Bool := false
  takeovers : Nat := 0
  fpOwn    : BitVec 32 := 0
  fpOther  : BitVec 32 := 0
  /-- last offset of a record in ns, and the last 8 of them, newest first (R535) -/
  align    : Int := 0
  aligns   : List Int := []
  /-- claim of the pair's index while ACTIVE (R556): state, superframes since its CLAIM plus 1, CLAIM to be queued, chunk; UID of
  the partner as exchanged in TRAINING -/
  pairClaim : ClaimState := .listen
  pairN    : Nat := 0
  pairDue  : Bool := false
  pairChunk : Nat := 0
  pUid     : BitVec 64 := 0
  /-- one HBEAT of the pair's address is due for the new active (R559) -/
  pairHb   : Bool := false
  /-- header flags of the last accepted record (byte 10), AXES, axes at Ready of the partner -/
  pFlags   : BitVec 8 := 0
  pAxes    : BitVec 8 := 0
  pReady   : Nat := 0
  /-- an accepted record was a status record (the partner is STANDBY or OFF); frames without an accepted one (Table TWIN-6) -/
  pStatus  : Bool := false
  noStat   : Nat := 0
  /-- what this STANDBY last asked of each paired axis: up, down (R543) -/
  askedUp  : Quad (Option Bool) := Quad.all none
  /-- accepted mirror records: arrived in this frame, being processed (R542), and the last one (R546) -/
  recNew   : List (BitVec 8) := []
  recWork  : List (BitVec 8) := []
  recLast  : List (BitVec 8) := []
  /-- D of each of the three (R534) -/
  recD     : BitVec 32 × BitVec 32 × BitVec 32 := (0, 0, 0)
  /-- frames and superframes without an accepted record -/
  quiet    : Nat := 0
  quietSf  : Nat := 0
  /-- TWIN_SWITCH in progress: hopper, frames since the ACTO fall (none: not fallen yet) -/
  switch   : Option (Nat × Option Nat) := none
  /-- takeover decided for the next boundary: by a usable record -/
  takeover : Option Bool := none
  /-- ACTI fell while the device was STANDBY, to be judged at the next boundary (R550) -/
  fell     : Bool := false
  /-- the partner's run as its last record gives it, on the haul clock (R542, R549); its hopper and hold data have no meaning here -/
  run      : Option Run := none
  /-- the mirror or status record sent in the last frame -/
  sent     : List (BitVec 8) := []
deriving DecidableEq, Repr

/-- State of a flash bank (Table SVC-10 byte 22). -/
inductive BankState where
  | empty | valid | loading | verified | pending | invalid
deriving DecidableEq, Repr

/-- A package header as far as the device uses it (Table SVC-2). -/
structure Package where
  major : Nat
  minor : Nat
  build : Nat
  rollback : Nat
deriving DecidableEq, Repr

/-- One flash bank (18). -/
structure Bank where
  st     : BankState := .empty
  expect : Nat := 0
  /-- ranges programmed since BEGIN: offset, bytes -/
  spans  : List (Nat × List (BitVec 8)) := []
  pkg    : Option Package := none
deriving DecidableEq, Repr

/-- Service state (18). -/
structure SvcSt where
  /-- presence window: superframes left; none when closed (R563) -/
  window   : Option Nat := none
  /-- length of that window in ms -/
  winLen   : Nat := 0
  /-- window state latched at the boundary (R564) -/
  winBound : Bool := false
  /-- presence by seal latched at the boundary (R562, R564) -/
  sealBound : Bool := false
  /-- presence-window close recorded in retention by a reset or a brown-out: qualifier 3 or 4 -/
  closeRec : Option Nat := none
  refSeen  : Bool := false
  tamper   : Bool := false
  /-- loop checks passed in a row (R568), superframe at the last latch, latches, record waits for flash -/
  loopOk   : Nat := 0
  tamperAt : BitVec 32 := 0
  tamperN  : Nat := 0
  tamperDue : Option Nat := none
  tamperRec : Option (BitVec 32 × Nat) := none
  debug    : Bool := false
  /-- AON's copies of svc.tamper_en and svc.pres_win for the time SYS is down -/
  tamperEn : Bool := false
  presWin  : Nat := 60
  /-- banks A and B; the running one is B -/
  bankA    : Bank := { st := .valid }
  bankB    : Bank := {}
  runB     : Bool := false
  trial    : Bool := false
  rollMin  : Nat := 0
  keys     : BitVec 4 := 0
  /-- BIST_RUN: hopper, mask, axis mask, tests still to do, statuses, first fault, start frame -/
  bistHop  : Option Nat := none
  bistTodo : List Nat := []
  bistRes  : List Nat := List.replicate 6 0
  bistCode : Nat := 0
  bistQual : Nat := 0
  bistAt   : BitVec 32 := 0
  /-- frame in which the running test began -/
  bistFrom : BitVec 32 := 0
  bistMask : BitVec 6 := 0
  /-- a test failed and has not passed since (R580): bits of Table SVC-4 -/
  failed   : BitVec 6 := 0
  /-- the failure of the flash test made the device SAFE: it was not in the inactive bank (Table SVC-4) -/
  flashSafe : Bool := false
  /-- boot tests that have failed once in the present start: logic, SRAM (Table SVC-4) -/
  bootBad  : BitVec 2 := 0
  /-- axes whose gate test failed -/
  gateBad  : BitVec 4 := 0
  /-- ACTIVATE restarts SYS at the next boundary (R576) -/
  restart  : Bool := false
deriving DecidableEq, Repr

/-- One active fault entry (R584). -/
structure FaultEnt where
  code  : Nat
  qual  : Nat
  axes  : BitVec 4
  count : Nat
  first : BitVec 32
  last  : BitVec 32
  /-- reaction in effect (Table FLT-1); 0xFE for a fixed action only -/
  react : Nat
  /-- the state its owning chapter names as its cause stands (R596) -/
  cond  : Bool
  /-- raised as a start record or by a lock loss: clearing class that differs from the table's -/
  cls   : Nat
  /-- becomes inactive at the next boundary: 0 no, 1 its condition ended (class A), 2 FAULT_CLEAR, 3 an enable toggle -/
  going : Nat
  /-- frame from which the configured reaction acts (R585) -/
  acts  : BitVec 32
  /-- raised by a lock loss (R595) -/
  lock  : Bool := false
deriving DecidableEq, Repr

/-- Faults, safe states and the event queue (19). -/
structure FaultSt where
  /-- active entries by ascending code -/
  active  : List FaultEnt := []
  /-- AXSTATn [27:24]: 0 none, 2 HALT, 3 QUIET, 4 CLAMP (Table FLT-1), in effect or on record -/
  safe    : Quad Nat := Quad.all 0
  /-- the device is SAFE, and the code that caused it (R593) -/
  device  : Bool := false
  cause   : Nat := 0
  /-- axes that SAFE took to QUIET (R593) -/
  safeAx  : BitVec 4 := 0
  /-- SAFE becomes due at the next boundary -/
  safeDue : Option Nat := none
  /-- faults raised since the last boundary by hardware, raised in step 3 of the next frame: code, qualifier, axis mask,
  whether the state that causes it lasts -/
  raised  : List (Nat × Nat × BitVec 4 × Bool) := []
  /-- events to raise in step 3 of the next frame: code, qualifier -/
  evNext  : List (Nat × Nat) := []
  events  : List (Nat × Nat × BitVec 32) := []
  lost    : Nat := 0
  /-- most recently raised fault codes, newest first (Table EDGE-9) -/
  recent  : List Nat := []
deriving DecidableEq, Repr


/-- The whole block. `free` counts the free values handed out (log entry 2); `pending` is the queue of commands. -/
structure State where
  clock    : ClockSt := {}
  frame    : FrameSt := {}
  pins     : PinSt := {}
  power    : PowerSt := {}
  ret      : RetentionSt := {}
  host     : HostSt := {}
  link     : LinkSt := {}
  intake   : IntakeSt := {}
  params   : ParamSt := {}
  motion   : Quad MotionSt := Quad.all {}
  cur      : Quad CurrentSt := Quad.all {}
  wedge    : Quad WedgeSt := Quad.all {}
  gate     : Quad GateSt := Quad.all {}
  follow   : Quad FollowSt := Quad.all {}
  mon      : MonSt := {}
  channels : Quad ChannelSt := Quad.all {}
  cmp      : Quad (Duo CmpSt) := Quad.all (Duo.all {})
  divo     : Duo DivSt := Duo.all {}
  sensor   : SensorSt := {}
  plan     : PlanSt := {}
  ports    : Duo PortSt := Duo.all {}
  fab      : FabSt := {}
  iso      : IsoSt := {}
  twin     : TwinSt := {}
  svc      : SvcSt := {}
  faults   : FaultSt := {}
  free     : Nat := 0
  pending  : List Instr := []
deriving DecidableEq, Repr

/-- Reasons to stop. No meaning raises one: every fault of the manual is an entry of the fault table (R584). -/
inductive Fault where
  /-- Raised by no meaning of this model; it keeps the type inhabited (safe). -/
  | absent
deriving DecidableEq, Repr

/-- Reasons to refuse a command. -/
inductive Refusal where
  /-- Raised by a dispatch arm whose command has no meaning yet (safe). -/
  | notModelled (mnemonic : String)
deriving DecidableEq, Repr

/-- The block with RESETN held low after AON powered up with nothing in retention (R71, R82; log entry 3). -/
def State.reset : State := {}

end Sys2Proof.Machine
end

