-- ==== Sys2Proof/Machine/Bits.lean ====
section
/-! DEFINITION. Byte order, two's complement, CRCs, integer roots and small list helpers. -/

namespace Sys2Proof.Machine

/-- The low `n` bytes of `v`, least significant first. -/
def leBytes (n v : Nat) : List Byte :=
  match n with
  | 0 => []
  | k + 1 => BitVec.ofNat 8 v :: leBytes k (v / 256)

/-- The number that bytes spell, least significant first. -/
def leNat : List Byte → Nat
  | [] => 0
  | b :: r => b.toNat + 256 * leNat r

/-- Two's complement value of the low `w` bits. -/
def sgn (w v : Nat) : Int :=
  let m := v % 2 ^ w
  if m < 2 ^ (w - 1) then (m : Int) else (m : Int) - (2 ^ w : Nat)

/-- Two's complement encoding in `w` bits. -/
def enc (w : Nat) (v : Int) : Nat := (v % ((2 ^ w : Nat) : Int)).toNat

def le16 (v : Nat) : List Byte := leBytes 2 v
def le32 (v : Nat) : List Byte := leBytes 4 v
def leS16 (v : Int) : List Byte := leBytes 2 (enc 16 v)
def leS32 (v : Int) : List Byte := leBytes 4 (enc 32 v)
def b8 (v : Nat) : List Byte := [BitVec.ofNat 8 v]

/-- A saturating unsigned value of `w` bits. -/
def satU (w v : Nat) : Nat := min v (2 ^ w - 1)

/-- A saturating signed value of `w` bits. -/
def satS (w : Nat) (v : Int) : Int := max (-(2 ^ (w - 1) : Nat)) (min v ((2 ^ (w - 1) : Nat) - 1))

def clampI (lo hi v : Int) : Int := max lo (min v hi)

/-- Ceiling and rounded (half up) quotients. -/
def cdiv (a b : Nat) : Nat := if b = 0 then 0 else (a + b - 1) / b
def rdiv (a b : Nat) : Nat := if b = 0 then 0 else (2 * a + b) / (2 * b)

def bit (v k : Nat) : Bool := v.testBit k
def b01 (b : Bool) : Nat := if b then 1 else 0

/-- A Boolean list as a number, first element bit 0. -/
def maskOf (l : List Bool) : Nat := l.foldr (fun b a => b01 b + 2 * a) 0

/-- A Boolean list as a number, first element the most significant. -/
def msbNat (l : List Bool) : Nat := l.foldl (fun a b => 2 * a + b01 b) 0

/-- The `n` low bits of `v`, most significant first. -/
def msbBits (n v : Nat) : List Bool := (List.range n).map (fun i => v.testBit (n - 1 - i))

/-- Pad with `d` or cut to exactly `n` elements. -/
def fit {α : Type} (n : Nat) (d : α) (l : List α) : List α := (l ++ List.replicate n d).take n

def getB (l : List Byte) (i : Nat) : Nat := (l.getD i 0).toNat
def get16 (l : List Byte) (i : Nat) : Nat := getB l i + 256 * getB l (i + 1)
def get32 (l : List Byte) (i : Nat) : Nat := get16 l i + 65536 * get16 l (i + 2)
def getN (l : List Byte) (i n : Nat) : Nat := leNat ((l.drop i).take n)

/-- One bit step of a reflected CRC with (reflected) polynomial `p`. -/
def crcBit (p c : Nat) : Nat := if c % 2 = 1 then Nat.xor (c / 2) p else c / 2

def crcByte (p c : Nat) (b : Byte) : Nat :=
  let x := Nat.xor c b.toNat
  crcBit p (crcBit p (crcBit p (crcBit p (crcBit p (crcBit p (crcBit p (crcBit p x)))))))

/-- A CRC register run over bytes. The match has each byte's register value worked out before the next byte is taken, so that the
kernel can evaluate a CRC over a long file. -/
def crcRun (next : Nat → Byte → Nat) : List Byte → Nat → Nat
  | [], c => c
  | b :: l, c =>
    match next c b with
    | 0 => crcRun next l 0
    | n + 1 => crcRun next l (n + 1)

/-- CRC-32 of R192: polynomial 0x04C11DB7 reflected, initial value and final XOR 0xFFFFFFFF. -/
def crc32 (l : List Byte) : Nat := Nat.xor (crcRun (crcByte 0xEDB88320) l 0xFFFFFFFF) 0xFFFFFFFF

/-- CRC-16 with polynomial 0x1021, most significant bit first, initial value 0xFFFF (R127). -/
def crc16Bit (c : Nat) : Nat := if c ≥ 0x8000 then Nat.xor (c * 2 % 65536) 0x1021 else c * 2 % 65536

def crc16Byte (c : Nat) (b : Byte) : Nat :=
  let x := Nat.xor c (b.toNat * 256)
  crc16Bit (crc16Bit (crc16Bit (crc16Bit (crc16Bit (crc16Bit (crc16Bit (crc16Bit x)))))))

def crc16 (l : List Byte) : Nat := crcRun crc16Byte l 0xFFFF

/-- Integer square root by bisection from the bit `k` down: the largest r with r² ≤ v. -/
def isqrtGo (v : Nat) : Nat → Nat → Nat
  | 0, r => r
  | k + 1, r =>
    let c := r + 2 ^ k
    isqrtGo v k (if c * c ≤ v then c else r)

def isqrt (v : Nat) : Nat := isqrtGo v (v.log2 / 2 + 1) 0

/-- Square root of a non-negative rational at a resolution of 2⁻³² (log entry 11). -/
def ratSqrt (q : Rat) : Rat :=
  if q.num ≤ 0 then 0 else
  mkRat (isqrt (q.num.toNat * 2 ^ 64 / q.den) : Int) (2 ^ 32)

/-- Serial-number order of R154: `a` is newer than `b` modulo 2^w. -/
def newer (w a b : Nat) : Bool :=
  let d := (a + 2 ^ w - b % 2 ^ w) % 2 ^ w
  decide (1 ≤ d ∧ d < 2 ^ (w - 1))

/-- Canonical byte store: read an address, an unlisted one as 0x00 (R142). -/
def cellGet (m : List Host.Cell) (a : Nat) : Byte :=
  match m with
  | [] => 0
  | (k, v) :: r => if k = a then v else if a < k then 0 else cellGet r a

/-- Write one byte, keeping addresses rising and no entry 0x00. -/
def cellSet (m : List Host.Cell) (a : Nat) (b : Byte) : List Host.Cell :=
  match m with
  | [] => if b = 0 then [] else [(a, b)]
  | (k, v) :: r =>
    if k < a then (k, v) :: cellSet r a b
    else if k = a then (if b = 0 then r else (a, b) :: r)
    else if b = 0 then (k, v) :: r else (a, b) :: (k, v) :: r

def cellRead (m : List Host.Cell) (a n : Nat) : List Byte := (List.range n).map (fun i => cellGet m (a + i))

def cellWrite (m : List Host.Cell) (a : Nat) : List Byte → List Host.Cell
  | [] => m
  | b :: r => cellWrite (cellSet m a b) (a + 1) r

/-- The canonical form of a byte store: addresses strictly rising, no entry 0x00. -/
def cellWf : List Host.Cell → Bool
  | [] => true
  | (_, v) :: [] => v != 0
  | (k, v) :: (k', v') :: r => v != 0 && decide (k < k') && cellWf ((k', v') :: r)

/-- Sparse tables keyed by a rising number, as the parameter sets are kept. -/
def tabGet (l : List (Nat × Nat)) (k d : Nat) : Nat :=
  match l with
  | [] => d
  | (i, v) :: r => if i = k then v else tabGet r k d

/-- Set key `k` to `v`, dropping the entry when `v` is the default `d`. -/
def tabSet (l : List (Nat × Nat)) (k v d : Nat) : List (Nat × Nat) :=
  match l with
  | [] => if v = d then [] else [(k, v)]
  | (i, w) :: r =>
    if i < k then (i, w) :: tabSet r k v d
    else if i = k then (if v = d then r else (k, v) :: r)
    else if v = d then (i, w) :: r else (k, v) :: (i, w) :: r

def setAt {α : Type} (l : List α) (i : Nat) (a : α) : List α := l.set i a

def updAt {α : Type} (l : List α) (i : Nat) (f : α → α) : List α :=
  match l, i with
  | [], _ => []
  | a :: r, 0 => f a :: r
  | a :: r, k + 1 => a :: updAt r k f

/-- Insert into a list kept in the order of `lt`. -/
def insertBy {α : Type} (lt : α → α → Bool) (a : α) : List α → List α
  | [] => [a]
  | b :: r => if lt a b then a :: b :: r else b :: insertBy lt a r

def sortBy {α : Type} (lt : α → α → Bool) (l : List α) : List α := l.foldl (fun acc a => insertBy lt a acc) []

/-- A list without repeats, keeping first occurrences. -/
def dedup {α : Type} [BEq α] (l : List α) : List α :=
  l.foldl (fun acc a => if acc.contains a then acc else acc ++ [a]) []

end Sys2Proof.Machine
end

