-- ==== Sys2Proof/Machine/Kin.lean ====
section
/-! DEFINITION. Profiles of constant-jerk phases: ramps, position profiles and ramps to rest (07, R211 to R220). -/

namespace Sys2Proof.Machine

def Phase.xAt (p : Phase) (t : Rat) : Rat := p.v0 * t + p.a0 * t * t / 2 + p.j * t * t * t / 6
def Phase.vAt (p : Phase) (t : Rat) : Rat := p.v0 + p.a0 * t + p.j * t * t / 2
def Phase.aAt (p : Phase) (t : Rat) : Rat := p.a0 + p.j * t

/-- The same motion in the other direction. -/
def Phase.neg (p : Phase) : Phase := { p with v0 := -p.v0, a0 := -p.a0, j := -p.j }

def dirPhases (neg : Bool) (l : List Phase) : List Phase := if neg then l.map Phase.neg else l

/-- Distance and duration of a list of phases. -/
def phasesDist (l : List Phase) : Rat := (l.map (fun p => p.xAt p.dur)).foldl (· + ·) 0
def phasesTime (l : List Phase) : Rat := (l.map (·.dur)).foldl (· + ·) 0

/-- Position, velocity, acceleration at time `t`, and whether the phases are over; then the velocity `vend` is held. -/
def runPhases : List Phase → Rat → Rat → Rat → Rat × Rat × Rat × Bool
  | [], x, vend, t => (x + vend * t, vend, 0, true)
  | p :: r, x, vend, t =>
    if t < p.dur then (x + p.xAt t, p.vAt t, p.aAt t, false) else runPhases r (x + p.xAt p.dur) vend (t - p.dur)

/-- Times inside a phase at which the velocity is 0. -/
def Phase.turns (p : Phase) : List Rat :=
  let l : List Rat :=
    if p.j = 0 then (if p.a0 = 0 then [] else [-p.v0 / p.a0])
    else
      let q := p.a0 * p.a0 - 2 * p.j * p.v0
      if q < 0 then [] else [(-p.a0 - ratSqrt q) / p.j, (-p.a0 + ratSqrt q) / p.j]
  l.filter (fun t => decide (0 < t ∧ t < p.dur))

/-- Positions with their times at which phases that begin at (t, x) end or turn back: between two of them the motion keeps its
direction (R627). -/
def turnPoints : List Phase → Rat → Rat → List (Rat × Rat)
  | [], _, _ => []
  | p :: r, t, x => p.turns.map (fun u => (t + u, x + p.xAt u)) ++ (t + p.dur, x + p.xAt p.dur) :: turnPoints r (t + p.dur) (x + p.xAt p.dur)

/-- A speed ramp between va and vb, both not negative, with limit L, and jerk J (0: trapezoidal) (R216, R217). -/
def rampPhases (va vb L J : Rat) : List Phase :=
  let dv := if va < vb then vb - va else va - vb
  let sg : Rat := if va < vb then 1 else -1
  if dv = 0 then []
  else if J = 0 then [{ dur := dv / L, v0 := va, a0 := sg * L, j := 0 }]
  else if L * L / J ≤ dv then
    let t := L / J
    let mid := dv / L - t
    let w := sg * L * t / 2
    { dur := t, v0 := va, a0 := 0, j := sg * J } ::
      (if 0 < mid then [{ dur := mid, v0 := va + w, a0 := sg * L, j := 0 }] else []) ++
      [{ dur := t, v0 := vb - w, a0 := sg * L, j := -sg * J }]
  else
    let h := ratSqrt (dv / J)
    [{ dur := h, v0 := va, a0 := 0, j := sg * J },
     { dur := h, v0 := va + sg * J * h * h / 2, a0 := sg * J * h, j := -sg * J }]

/-- The phase that brings the acceleration to 0 at jerk J, and the velocity at its end (R217). -/
def zeroing (v a J : Rat) : List Phase × Rat :=
  if J = 0 ∨ a = 0 then ([], v)
  else
    let t := (if a < 0 then -a else a) / J
    ([{ dur := t, v0 := v, a0 := a, j := if a < 0 then J else -J }], v + a * t / 2)

/-- A ramp of a signed velocity with `A` while the speed rises and `Dc` while it falls, through 0 on a change of sign
(R220). -/
def velRamp (v a vt A Dc J : Rat) : List Phase :=
  let z := zeroing v a J
  let v := z.2
  let part (neg : Bool) (x y : Rat) : List Phase := dirPhases neg (rampPhases x y (if x < y then A else Dc) J)
  z.1 ++
    (if 0 ≤ v ∧ 0 ≤ vt then part false v vt
     else if v ≤ 0 ∧ vt ≤ 0 then part true (-v) (-vt)
     else if v < 0 then part true (-v) 0 ++ part false 0 vt
     else part false v 0 ++ part true 0 (-vt))

/-- The velocity passes 0 while jerk J brings the acceleration to 0. -/
def crossesZero (v a J : Rat) : Bool := decide (J ≠ 0 ∧ v * a < 0 ∧ (zeroing v a J).2 * v < 0)

/-- The part of the acceleration-zeroing phase up to the velocity 0. -/
def zeroCut (v a J : Rat) : List Phase :=
  let b := if a < 0 then -a else a
  let w := if v < 0 then -v else v
  [{ dur := (b - ratSqrt (b * b - 2 * J * w)) / J, v0 := v, a0 := a, j := if a < 0 then J else -J }]

/-- The ramp to rest of R227: nothing beyond the point where the velocity reaches 0. -/
def stopPhases (v a Dc J : Rat) : List Phase :=
  if v = 0 then [] else if crossesZero v a J then zeroCut v a J else velRamp v a 0 Dc Dc J

/-- Largest n in [lo, lo + 2^k) below `hi` that still satisfies `ok`, where `ok lo` and `ok` holds on an initial interval. -/
def bisect (ok : Nat → Bool) : Nat → Nat → Nat → Nat
  | 0, lo, _ => lo
  | k + 1, lo, hi =>
    if hi ≤ lo + 1 then lo
    else
      let m := (lo + hi) / 2
      if ok m then bisect ok k m hi else bisect ok k lo m

def rawV (r : Nat) : Rat := mkRat (r : Int) 256

/-- Distance of the two ramps v0 → vp → 0 of R217. -/
def twoRamps (v0 vp A Dc J : Rat) : Rat :=
  phasesDist (rampPhases v0 vp (if v0 < vp then A else Dc) J) + phasesDist (rampPhases vp 0 Dc J)

/-- Cruise speed of a jerk-limited profile: the largest raw value from 12 up to that of V that fits, v0 itself if it is a
Q24.8 value that is the largest; none when no raw value fits (R217). The distance rises with vp above v0, and below v0
first rises and then falls (log entry 14). -/
def cruiseSpeed (v0 D V A Dc J : Rat) : Option Rat :=
  let top := (Rat.floor (V * 256)).toNat
  let ok (r : Nat) : Bool := decide (twoRamps v0 (rawV r) A Dc J ≤ D)
  let up := max 12 (Rat.ceil (v0 * 256)).toNat
  if up ≤ top ∧ ok up then some (rawV (bisect ok 32 up (top + 1)))
  else
    let below := min top ((Rat.ceil (v0 * 256)).toNat - 1)
    if 12 ≤ below ∧ ok below then some (rawV below)
    else if 12 ≤ below ∧ ok 12 then some (rawV (bisect ok 32 12 below))
    else none

/-- Phases from speed v0 toward a target at distance D to rest on it, speeds not negative (R216, R217); none when no cruise
speed fits. The cruise covers the exact remainder. -/
def towards (v0 D V A Dc J : Rat) : Option (List Phase) :=
  let vp : Option Rat :=
    if J = 0 then
      (if V < v0 then some V
       else
         let q := ratSqrt ((2 * A * Dc * D + Dc * v0 * v0) / (A + Dc))
         some (min V (max v0 q)))
    else cruiseSpeed v0 D V A Dc J
  match vp with
  | none => none
  | some vp =>
    let up := rampPhases v0 vp (if v0 < vp then A else Dc) J
    let dn := rampPhases vp 0 Dc J
    let s2 := D - phasesDist up - phasesDist dn
    some (up ++ (if 0 < s2 ∧ 0 < vp then [{ dur := s2 / vp, v0 := vp, a0 := 0, j := 0 }] else []) ++ dn)

/-- From rest over a signed distance. A distance too short for any speed is covered by no phase (log entry 14). -/
def fromRest (d V A Dc J : Rat) : List Phase :=
  if d = 0 then [] else dirPhases (decide (d < 0)) ((towards 0 (if d < 0 then -d else d) V A Dc J).getD [])

/-- The position profile from (x, v, a) to rest at `target` (R214, R216 to R218). -/
def planTo (x v a target V A Dc J : Rat) : List Phase :=
  let z := zeroing v a J
  let x1 := x + phasesDist z.1
  let v1 := z.2
  if v1 = 0 then z.1 ++ fromRest (target - x1) V A Dc J
  else
    let neg := decide (v1 < 0)
    let d := if neg then x1 - target else target - x1
    let sp := if neg then -v1 else v1
    let rest := rampPhases sp 0 Dc J
    let back := dirPhases neg rest
    let again := z.1 ++ back ++ fromRest (target - x1 - phasesDist back) V A Dc J
    if d ≤ 0 ∨ d < phasesDist rest then again
    else match towards sp d V A Dc J with
      | some l => z.1 ++ dirPhases neg l
      | none => again

/-- A ramp to rest that ends exactly `d` further on in the direction of motion; the remainder beyond the stopping distance is
covered at the present speed (R231). -/
def stopAt (v a d Dc J : Rat) : List Phase :=
  if crossesZero v a J then zeroCut v a J else
  let z := zeroing v a J
  let neg := decide (z.2 < 0)
  let sp := if neg then -z.2 else z.2
  let ramp := rampPhases sp 0 Dc J
  let zd := if neg then -phasesDist z.1 else phasesDist z.1
  let left := d - zd - phasesDist ramp
  z.1 ++ dirPhases neg ((if 0 < left ∧ 0 < sp then [{ dur := left / sp, v0 := sp, a0 := 0, j := 0 }] else []) ++ ramp)

/-- Stopping distance from (v, a), not negative (R218, R231). -/
def stopDist (v a Dc J : Rat) : Rat :=
  let d := phasesDist (stopPhases v a Dc J)
  if d < 0 then -d else d

end Sys2Proof.Machine
end

