-- ==== Sys2Proof/Config.lean ====
section
/-! DEFINITION. What one device or implementation fixes and the manual leaves open: constants with no body. -/

namespace Sys2Proof

/-- A value the manual leaves open, one for each count of State.free (log entry 2). -/
opaque Config.freeValue : Nat → Nat

/-- Whether the read-back of the flash write that takes count `n` of State.free is good (R194, R274; log entry 33). -/
opaque Config.flashGood (n : Nat) : Bool

/-- Qualifier by which an event or a fault names up to two things, where the manual says that it names them and gives no numbers
(log entry 31). Arguments: the code, the two things. -/
opaque Config.nameQual (code a b : Nat) : Nat

/-- Drift that Fequel learns from the last 8 offsets, newest first, in cycles per frame (R482), and how much of the distance to a SYNC
edge, `phase` cycles after the nearest boundary, one frame makes up for (R26; log entry 25). -/
opaque Config.learnedDrift (offsets : List Int) : Int
opaque Config.syncGain (phase : Int) : Nat

/-- Ticks for which comparator `k` holds its output after a change to mode F, of which the manual gives the largest (R332; log entry 16). -/
opaque Config.compSettle (k : Nat) : Nat

/-- The 64-bit UID programmed at manufacture (R569). -/
opaque Config.uid : BitVec 64

/-- Silicon revision and firmware build of this device (R569, Table HOST-6; log entry 5). -/
opaque Config.silrev : Nat
opaque Config.fwBuild : Nat

/-- Key slots programmed at manufacture, and the verification of a signature under a slot's key (R571; log entry 6). -/
opaque Config.keySlots : BitVec 4
opaque Config.signatureOk (slot : Nat) (signed sigR sigS : List Byte) : Bool

/-- Firmware image fields of the bank that the part leaves the factory with (log entry 6). -/
opaque Config.factoryRollback : Nat

/-- Rounding of the device's trigonometric arithmetic, which the manual does not give: a number of 2⁻³¹ steps about 32768, for the
function and its arguments (log entry 7). -/
opaque Config.trigErr (fn : Nat) (x y : Rat) : Fin 65537

/-- Planner: the collision test and the enclosing box of the inflated capsules of one configuration,
in the fixed-point forward kinematics whose rounding the manual does not give (R430, R433; log entry 8). Arguments: chain table,
twice the check resolution and the margin in mm, the map cube, the occupied cells (corners in mm), the configuration. -/
opaque Config.cfgFree (chain : List Byte) (twoRes margin : Nat) (cube : (Int × Int × Int) × (Int × Int × Int))
  (full : List ((Int × Int × Int) × (Int × Int × Int))) (q : List Int) : Bool
opaque Config.cfgBox (chain : List Byte) (twoRes margin : Nat) (q : List Int) : (Int × Int × Int) × (Int × Int × Int)

end Sys2Proof
end

