-- ==== Sys2Proof/Machine/Params.lean ====
section
/-! DEFINITION. The parameter table of Fequel 3.2: IDs, types, ranges, defaults, access and owners (06, 21). -/

namespace Sys2Proof.Machine

/-- A row of the parameter tables: type code of Table PAR-5, range and default, access 0 live, 1 locked, 2 sealed. -/
structure PRow where
  id  : Nat
  ty  : Nat
  lo  : Int
  hi  : Int
  dv  : Int
  acc : Nat
deriving DecidableEq, Repr

/-- Class 0x0 of Table IDX-2, part 0: ID (replicated members folded), type, range, default, access. -/
def pTab0a : List PRow := [
  ⟨0x0010, 8, 0, 2, 0, 1⟩,
  ⟨0x0011, 8, 0, 2, 0, 1⟩,
  ⟨0x0012, 1, 0, 10, 10, 1⟩,
  ⟨0x0018, 2, 300, 2000, 600, 1⟩,
  ⟨0x0021, 2, 0, 3600, 300, 0⟩,
  ⟨0x0022, 2, 20, 20000, 2000, 0⟩,
  ⟨0x0030, 8, 0, 1, 0, 2⟩,
  ⟨0x0031, 2, 10, 1000, 100, 0⟩,
  ⟨0x0040, 2, 10, 10000, 50, 1⟩,
  ⟨0x0041, 2, 10, 10000, 5000, 2⟩,
  ⟨0x0042, 2, 10, 10000, 10000, 2⟩,
  ⟨0x0043, 2, 10, 10000, 1000, 1⟩,
  ⟨0x0044, 1, 5, 120, 30, 2⟩,
  ⟨0x0050, 2, 0, 50, 2, 1⟩,
  ⟨0x0051, 2, 0, 100, 8, 1⟩,
  ⟨0x0052, 2, 0, 10000, 2000, 1⟩,
  ⟨0x0053, 8, 0, 2, 0, 1⟩,
  ⟨0x0054, 1, 0, 63, 0, 1⟩,
  ⟨0x0055, 1, 4, 200, 20, 1⟩,
  ⟨0x0056, 2, 5, 1000, 50, 1⟩,
  ⟨0x0058, 2, 16000, 64000, 60000, 2⟩,
  ⟨0x0059, 2, 500, 4000, 1000, 2⟩,
  ⟨0x005A, 2, 16000, 64000, 62000, 2⟩,
  ⟨0x005B, 2, 1, 1000, 200, 2⟩,
  ⟨0x005C, 1, 1, 100, 25, 2⟩,
  ⟨0x005D, 7, 0, 1, 1, 2⟩,
  ⟨0x005E, 1, 10, 200, 50, 2⟩,
  ⟨0x0060, 7, 0, 1, 0, 1⟩,
  ⟨0x0061, 1, 2, 15, 8, 1⟩,
  ⟨0x0062, 2, 0, 60000, 0, 0⟩,
  ⟨0x0070, 3, 2, 1000000, 20000, 0⟩,
  ⟨0x0071, 7, 0, 1, 1, 1⟩]

/-- Class 0x0 of Table IDX-2, part 1: ID (replicated members folded), type, range, default, access. -/
def pTab0b : List PRow := [
  ⟨0x0072, 1, 1, 8, 4, 1⟩,
  ⟨0x0080, 2, 0, 1023, 0, 1⟩,
  ⟨0x0081, 3, 0, 4294967295, 0, 0⟩,
  ⟨0x0090, 8, 0, 5, 2, 2⟩,
  ⟨0x0091, 8, 0, 5, 0, 2⟩,
  ⟨0x0092, 8, 3, 5, 3, 2⟩,
  ⟨0x0093, 8, 3, 5, 3, 2⟩,
  ⟨0x0094, 8, 0, 5, 3, 2⟩,
  ⟨0x0095, 8, 0, 5, 2, 2⟩,
  ⟨0x0096, 8, 0, 5, 0, 2⟩,
  ⟨0x0097, 8, 0, 5, 0, 2⟩,
  ⟨0x0098, 8, 0, 5, 0, 2⟩,
  ⟨0x0099, 8, 2, 5, 2, 2⟩,
  ⟨0x009A, 8, 0, 5, 0, 2⟩,
  ⟨0x009B, 8, 0, 5, 0, 2⟩,
  ⟨0x009C, 8, 0, 5, 0, 2⟩,
  ⟨0x009D, 8, 0, 5, 0, 2⟩]

def pTab0 : List PRow := pTab0a ++ pTab0b

/-- Class 0x1 of Table IDX-2, part 0: ID (replicated members folded), type, range, default, access. -/
def pTab1a : List PRow := [
  ⟨0x1000, 1, 2, 32, 8, 0⟩,
  ⟨0x1001, 1, 0, 16, 4, 0⟩,
  ⟨0x1002, 1, 0, 16, 8, 0⟩,
  ⟨0x1003, 2, 8, 160, 80, 0⟩,
  ⟨0x1010, 8, 0, 2, 0, 1⟩,
  ⟨0x1011, 2, 100, 30000, 2000, 2⟩,
  ⟨0x1012, 2, 0, 30000, 1000, 0⟩,
  ⟨0x1013, 2, 0, 30000, 500, 0⟩,
  ⟨0x1014, 2, 0, 20000, 2000, 0⟩,
  ⟨0x1015, 2, 1, 20000, 200, 0⟩,
  ⟨0x1016, 8, 0, 2, 0, 0⟩,
  ⟨0x1017, 8, 0, 1, 0, 1⟩,
  ⟨0x1018, 2, 5, 1000, 100, 1⟩,
  ⟨0x1019, 8, 0, 3, 2, 1⟩,
  ⟨0x101A, 6, 256, 640000000, 13107200, 1⟩,
  ⟨0x101B, 6, 256, 640000000, 10485760, 1⟩,
  ⟨0x101C, 7, 0, 1, 0, 0⟩,
  ⟨0x1020, 1, 16, 100, 25, 1⟩,
  ⟨0x1021, 2, 10, 65000, 1500, 0⟩,
  ⟨0x1022, 2, 10, 65000, 3000, 0⟩,
  ⟨0x1023, 2, 0, 65000, 2000, 0⟩,
  ⟨0x1024, 1, 0, 90, 45, 0⟩,
  ⟨0x1025, 2, 0, 10000, 500, 0⟩,
  ⟨0x1026, 1, 80, 99, 96, 0⟩,
  ⟨0x1040, 1, 1, 15, 1, 1⟩,
  ⟨0x1041, 6, 12, 640000000, 51200000, 0⟩,
  ⟨0x1042, 3, 1, 1000000000, 1000000, 0⟩,
  ⟨0x1043, 3, 1, 1000000000, 1000000, 0⟩,
  ⟨0x1044, 3, 0, 4294967295, 0, 0⟩,
  ⟨0x1045, 3, 1, 1000000000, 4000000, 2⟩,
  ⟨0x1046, 5, -2147483648, 2147482623, -2147483648, 2⟩,
  ⟨0x1047, 5, -2147482624, 2147483647, 2147483647, 2⟩]

/-- Class 0x1 of Table IDX-2, part 1: ID (replicated members folded), type, range, default, access. -/
def pTab1b : List PRow := [
  ⟨0x1048, 7, 0, 1, 1, 1⟩,
  ⟨0x1049, 1, 1, 200, 2, 0⟩,
  ⟨0x104A, 2, 1, 256, 16, 1⟩,
  ⟨0x104B, 7, 0, 1, 0, 1⟩,
  ⟨0x104C, 3, 1, 1000000, 2560, 0⟩,
  ⟨0x1060, 8, 0, 2, 0, 1⟩,
  ⟨0x1061, 2, 0, 30000, 300, 0⟩,
  ⟨0x1062, 2, 100, 30000, 1500, 2⟩,
  ⟨0x1063, 2, 0, 30000, 1000, 0⟩,
  ⟨0x1064, 1, 1, 50, 5, 1⟩,
  ⟨0x1065, 1, 5, 80, 35, 0⟩,
  ⟨0x1066, 1, 10, 85, 55, 0⟩,
  ⟨0x1067, 1, 20, 120, 75, 0⟩,
  ⟨0x1068, 1, 45, 170, 95, 0⟩,
  ⟨0x1069, 1, 1, 16, 2, 0⟩,
  ⟨0x106A, 1, 10, 90, 40, 0⟩,
  ⟨0x106B, 1, 1, 100, 10, 0⟩,
  ⟨0x106C, 1, 1, 100, 2, 0⟩,
  ⟨0x106D, 1, 4, 255, 16, 1⟩,
  ⟨0x106E, 7, 0, 1, 1, 1⟩,
  ⟨0x106F, 8, 0, 1, 0, 1⟩,
  ⟨0x1070, 3, 16, 1000000, 512, 0⟩,
  ⟨0x1071, 1, 0, 127, 32, 0⟩,
  ⟨0x1072, 1, 2, 16, 4, 0⟩,
  ⟨0x1073, 1, 10, 90, 30, 0⟩,
  ⟨0x1080, 3, 1, 100000000, 5000, 0⟩,
  ⟨0x1081, 2, 10, 10000, 300, 0⟩,
  ⟨0x1082, 8, 0, 2, 1, 0⟩]

def pTab1 : List PRow := pTab1a ++ pTab1b

/-- Class 0x2 of Table IDX-2, part 0: ID (replicated members folded), type, range, default, access. -/
def pTab2a : List PRow := [
  ⟨0x2000, 8, 0, 5, 0, 1⟩,
  ⟨0x2001, 1, 0, 255, 0, 1⟩,
  ⟨0x2002, 1, 2, 8, 4, 1⟩,
  ⟨0x2003, 2, 20, 1000, 20, 1⟩,
  ⟨0x2004, 7, 0, 1, 0, 1⟩,
  ⟨0x2005, 7, 0, 1, 0, 1⟩,
  ⟨0x2006, 2, 1, 65535, 1, 1⟩,
  ⟨0x2007, 2, 1, 65535, 1, 1⟩,
  ⟨0x2008, 5, -2147483648, 2147483631, -2147483648, 2⟩,
  ⟨0x2009, 5, -2147483632, 2147483647, 2147483647, 2⟩,
  ⟨0x200A, 8, 0, 3, 0, 1⟩,
  ⟨0x200B, 5, -2147483648, 2147483647, 0, 1⟩,
  ⟨0x200C, 7, 0, 1, 0, 1⟩,
  ⟨0x200D, 5, -2147483648, 2147483647, 0, 1⟩,
  ⟨0x200E, 2, 1, 65535, 64, 0⟩,
  ⟨0x200F, 3, 0, 16777216, 0, 1⟩,
  ⟨0x2010, 1, 1, 255, 4, 0⟩,
  ⟨0x2011, 2, 10, 60000, 1000, 0⟩,
  ⟨0x2012, 1, 8, 120, 60, 1⟩,
  ⟨0x2013, 8, 0, 4, 0, 1⟩,
  ⟨0x2014, 1, 5, 40, 25, 1⟩,
  ⟨0x2015, 8, 0, 2, 0, 1⟩,
  ⟨0x2016, 1, 8, 160, 17, 1⟩,
  ⟨0x2017, 3, 1, 2147483648, 4096, 0⟩,
  ⟨0x2018, 3, 100, 10000000, 80000, 1⟩,
  ⟨0x2019, 1, 1, 200, 20, 1⟩,
  ⟨0x201A, 2, 1, 20000, 2000, 0⟩,
  ⟨0x201B, 8, 0, 3, 0, 1⟩,
  ⟨0x201C, 5, -2147483648, 2147483647, -2147483648, 0⟩,
  ⟨0x201D, 5, -2147483648, 2147483647, 2147483647, 0⟩,
  ⟨0x201E, 1, 0, 15, 0, 1⟩,
  ⟨0x201F, 7, 0, 1, 0, 1⟩]

/-- Class 0x2 of Table IDX-2, part 1: ID (replicated members folded), type, range, default, access. -/
def pTab2b : List PRow := [
  ⟨0x2040, 8, 0, 2, 0, 1⟩,
  ⟨0x2041, 8, 0, 1, 0, 1⟩,
  ⟨0x2042, 3, 256, 4294967295, 256, 0⟩,
  ⟨0x2043, 8, 0, 3, 0, 1⟩,
  ⟨0x2044, 2, 1, 10000, 100, 1⟩,
  ⟨0x2045, 5, -2147483648, 2147483647, -2147483648, 0⟩,
  ⟨0x2046, 5, -2147483648, 2147483647, 2147483647, 0⟩,
  ⟨0x2047, 3, 0, 4294967295, 0, 0⟩,
  ⟨0x2048, 7, 0, 1, 1, 0⟩,
  ⟨0x2060, 7, 0, 1, 0, 0⟩,
  ⟨0x2400, 2, 100, 10000, 1000, 1⟩,
  ⟨0x2401, 1, 1, 40, 20, 1⟩,
  ⟨0x2402, 1, 0, 20, 2, 1⟩,
  ⟨0x2403, 1, 0, 200, 0, 1⟩,
  ⟨0x2404, 7, 0, 1, 0, 1⟩,
  ⟨0x2405, 1, 1, 20, 5, 1⟩,
  ⟨0x2406, 7, 0, 1, 0, 1⟩,
  ⟨0x2410, 3, 0, 4294967295, 0, 1⟩,
  ⟨0x2440, 8, 0, 51, 0, 1⟩,
  ⟨0x2441, 3, 1, 2147483648, 1, 1⟩,
  ⟨0x2442, 3, 1, 2147483648, 1, 1⟩,
  ⟨0x2443, 8, 0, 1, 0, 1⟩,
  ⟨0x2444, 2, 10, 65535, 100, 1⟩,
  ⟨0x2445, 7, 0, 1, 0, 1⟩]

def pTab2 : List PRow := pTab2a ++ pTab2b

/-- Class 0x3 of Table IDX-2, part 0: ID (replicated members folded), type, range, default, access. -/
def pTab3a : List PRow := [
  ⟨0x3000, 8, 0, 1, 0, 1⟩,
  ⟨0x3001, 1, 1, 6, 4, 1⟩,
  ⟨0x3002, 1, 1, 8, 8, 1⟩,
  ⟨0x3003, 1, 0, 15, 8, 1⟩,
  ⟨0x3004, 1, 0, 15, 9, 1⟩,
  ⟨0x3005, 1, 0, 255, 20, 1⟩,
  ⟨0x3006, 1, 0, 255, 16, 1⟩,
  ⟨0x3007, 2, 10, 1000, 200, 1⟩,
  ⟨0x3008, 7, 0, 1, 1, 1⟩,
  ⟨0x3009, 1, 0, 40, 4, 1⟩,
  ⟨0x300A, 2, 4, 400, 40, 1⟩,
  ⟨0x300B, 1, 0, 15, 6, 1⟩,
  ⟨0x3010, 2, 100, 10000, 1000, 1⟩,
  ⟨0x3011, 2, 80, 400, 200, 1⟩,
  ⟨0x3012, 2, 100, 2500, 1000, 2⟩,
  ⟨0x3013, 2, 40, 1600, 400, 1⟩,
  ⟨0x3014, 2, 0, 400, 40, 1⟩,
  ⟨0x3015, 2, 100, 32000, 4000, 2⟩,
  ⟨0x3016, 2, 100, 32000, 4000, 2⟩,
  ⟨0x3017, 1, 0, 200, 20, 1⟩,
  ⟨0x3018, 2, 20, 1000, 100, 1⟩]

def pTab3 : List PRow := pTab3a

/-- Class 0x4 of Table IDX-2, part 0: ID (replicated members folded), type, range, default, access. -/
def pTab4a : List PRow := [
  ⟨0x4000, 8, 0, 4, 0, 1⟩,
  ⟨0x4001, 2, 0, 5115, 0, 1⟩,
  ⟨0x4002, 2, 0, 5115, 5115, 1⟩,
  ⟨0x4003, 2, 0, 10000, 100, 1⟩,
  ⟨0x4020, 8, 0, 4, 4, 1⟩,
  ⟨0x4021, 2, 10, 1000, 100, 0⟩,
  ⟨0x4022, 1, 10, 100, 50, 0⟩,
  ⟨0x4023, 2, 0, 1000, 50, 1⟩,
  ⟨0x4024, 2, 0, 1000, 80, 1⟩,
  ⟨0x4025, 7, 0, 1, 0, 1⟩,
  ⟨0x4026, 2, 5, 500, 20, 0⟩,
  ⟨0x4027, 2, 1, 65000, 200, 0⟩]

def pTab4 : List PRow := pTab4a

/-- Class 0x5 of Table IDX-2, part 0: ID (replicated members folded), type, range, default, access. -/
def pTab5a : List PRow := [
  ⟨0x5000, 2, 1000, 14000, 6000, 1⟩,
  ⟨0x5001, 2, 0, 320, 0, 1⟩,
  ⟨0x5002, 2, 0, 500, 20, 1⟩,
  ⟨0x5003, 2, 10, 2000, 200, 1⟩,
  ⟨0x5004, 1, 0, 50, 10, 0⟩,
  ⟨0x5005, 7, 0, 1, 1, 1⟩,
  ⟨0x5006, 2, 64, 4096, 1024, 1⟩,
  ⟨0x5007, 1, 1, 16, 6, 0⟩,
  ⟨0x5008, 1, 0, 64, 16, 0⟩,
  ⟨0x5009, 8, 0, 1, 1, 1⟩,
  ⟨0x500A, 2, 20, 4000, 400, 1⟩,
  ⟨0x500B, 1, 1, 4, 2, 1⟩,
  ⟨0x500C, 1, 0, 200, 0, 1⟩,
  ⟨0x500D, 8, 0, 1, 0, 1⟩,
  ⟨0x500E, 2, 20, 20000, 2000, 1⟩,
  ⟨0x5010, 2, 1, 16384, 500, 1⟩,
  ⟨0x5011, 3, 20, 200000, 2000, 1⟩]

def pTab5 : List PRow := pTab5a

/-- Class 0x6 of Table IDX-2, part 0: ID (replicated members folded), type, range, default, access. -/
def pTab6a : List PRow := [
  ⟨0x6000, 7, 0, 1, 0, 1⟩,
  ⟨0x6001, 7, 0, 1, 0, 2⟩,
  ⟨0x6002, 2, 0, 1023, 1, 2⟩,
  ⟨0x6003, 1, 8, 255, 32, 1⟩,
  ⟨0x6004, 1, 2, 100, 8, 0⟩,
  ⟨0x6008, 2, 0, 65535, 0, 1⟩,
  ⟨0x6010, 8, 0, 2, 0, 1⟩,
  ⟨0x6011, 1, 0, 127, 0, 1⟩,
  ⟨0x6012, 1, 0, 52, 0, 1⟩,
  ⟨0x6040, 2, 4, 256, 16, 1⟩,
  ⟨0x6041, 7, 0, 1, 0, 0⟩,
  ⟨0x6042, 2, 0, 65535, 0, 0⟩,
  ⟨0x6043, 8, 0, 1, 0, 1⟩,
  ⟨0x6044, 7, 0, 1, 1, 0⟩,
  ⟨0x6045, 7, 0, 1, 1, 1⟩,
  ⟨0x6046, 2, 1, 4096, 64, 1⟩,
  ⟨0x6047, 2, 1, 1024, 32, 1⟩,
  ⟨0x6048, 2, 1, 4096, 32, 1⟩,
  ⟨0x6049, 2, 1, 1024, 16, 1⟩,
  ⟨0x6050, 2, 0, 65535, 0, 1⟩,
  ⟨0x6051, 8, 0, 4, 0, 1⟩,
  ⟨0x6052, 1, 0, 15, 0, 1⟩,
  ⟨0x6100, 8, 0, 1, 0, 1⟩,
  ⟨0x6101, 8, 0, 2, 0, 1⟩,
  ⟨0x6102, 2, 0, 65535, 65535, 2⟩,
  ⟨0x6103, 1, 0, 255, 255, 2⟩,
  ⟨0x6104, 7, 0, 1, 0, 1⟩]

def pTab6 : List PRow := pTab6a

/-- Class 0x7 of Table IDX-2, part 0: ID (replicated members folded), type, range, default, access. -/
def pTab7a : List PRow := [
  ⟨0x7000, 9, 0, 18446744073709551615, 0, 2⟩,
  ⟨0x7001, 1, 0, 253, 128, 2⟩,
  ⟨0x7002, 1, 0, 255, 0, 1⟩,
  ⟨0x7003, 2, 0, 5000, 100, 1⟩,
  ⟨0x7004, 1, 0, 7, 6, 1⟩,
  ⟨0x7005, 7, 0, 1, 0, 1⟩,
  ⟨0x7006, 1, 0, 255, 255, 1⟩,
  ⟨0x7007, 1, 0, 255, 255, 1⟩,
  ⟨0x7008, 1, 0, 7, 6, 1⟩]

def pTab7 : List PRow := pTab7a

/-- Class 0x8 of Table IDX-2, part 0: ID (replicated members folded), type, range, default, access. -/
def pTab8a : List PRow := [
  ⟨0x8000, 1, 1, 15, 1, 1⟩,
  ⟨0x8001, 8, 0, 1, 0, 1⟩,
  ⟨0x8002, 8, 0, 1, 0, 1⟩,
  ⟨0x8003, 2, 0, 60000, 2000, 1⟩,
  ⟨0x8004, 2, 20, 20000, 200, 1⟩,
  ⟨0x8005, 2, 0, 65535, 0, 2⟩]

def pTab8 : List PRow := pTab8a

/-- Class 0x9 of Table IDX-2, part 0: ID (replicated members folded), type, range, default, access. -/
def pTab9a : List PRow := [
  ⟨0x9000, 2, 10, 600, 60, 2⟩,
  ⟨0x9001, 7, 0, 1, 0, 2⟩,
  ⟨0x9002, 3, 0, 4294967295, 0, 2⟩]

def pTab9 : List PRow := pTab9a

/-- Class 0xA of Table IDX-2, part 0: ID (replicated members folded), type, range, default, access. -/
def pTabAa : List PRow := [
  ⟨0xA000, 2, 10, 60000, 1000, 0⟩,
  ⟨0xA001, 2, 20, 60000, 5000, 2⟩,
  ⟨0xA002, 2, 10, 60000, 1000, 0⟩,
  ⟨0xA003, 2, 20, 60000, 5000, 2⟩,
  ⟨0xA004, 2, 10, 60000, 1000, 0⟩,
  ⟨0xA005, 2, 20, 60000, 5000, 2⟩,
  ⟨0xA006, 2, 10, 60000, 100, 2⟩,
  ⟨0xA007, 2, 2, 1000, 10, 2⟩,
  ⟨0xA010, 1, 0, 15, 15, 1⟩,
  ⟨0xA011, 2, 0, 65000, 2000, 0⟩,
  ⟨0xA012, 1, 0, 15, 15, 1⟩,
  ⟨0xA013, 2, 0, 65000, 500, 0⟩,
  ⟨0xA015, 1, 2, 64, 8, 0⟩,
  ⟨0xA016, 2, 20, 1000, 100, 0⟩,
  ⟨0xA017, 7, 0, 1, 1, 0⟩,
  ⟨0xA018, 7, 0, 1, 1, 2⟩]

def pTabA : List PRow := pTabAa

/-- Owners of Table PAR-1. -/
inductive Owner where
  | device | axis (n : Fin 4) | unit (b : Nat) | nets
deriving DecidableEq, Repr

/-- The row number of an ID: members of replicated groups and instances folded onto the first (R625). -/
def normId (id : Nat) : Nat :=
  let c := id / 4096; let n := id / 256 % 16; let i := id % 256
  match c with
  | 1 | 3 => if n < 4 then c * 4096 + i else 0xFFFF
  | 2 =>
    if n < 4 then (if 0x50 ≤ i ∧ i ≤ 0x5F then 0x2000 + i - 0x10 else 0x2000 + i)
    else if n = 4 then
      (if 0x10 ≤ i ∧ i ≤ 0x1F then 0x2410 else if 0x48 ≤ i ∧ i ≤ 0x4F then 0x2400 + i - 8 else 0x2400 + i)
    else 0xFFFF
  | 4 => if id < 0x4010 then 0x4000 + id % 4 else if 0x4020 ≤ id ∧ id < 0x4040 then 0x4020 + id % 8 else 0xFFFF
  | 5 => if 0x5010 ≤ id ∧ id < 0x5018 then 0x5010 + id % 2 else id
  | 6 =>
    if n = 0 then
      (if 0x6008 ≤ id ∧ id < 0x6010 then 0x6008 else if 0x6010 ≤ id ∧ id < 0x6030 then 0x6010 + id % 4
       else if 0x6050 ≤ id ∧ id < 0x6090 then 0x6050 + id % 4 else id)
    else if n = 1 ∨ n = 2 then 0x6100 + i else 0xFFFF
  | _ => id

def pTab (c : Nat) : List PRow :=
  match c with
  | 0 => pTab0
  | 1 => pTab1
  | 2 => pTab2
  | 3 => pTab3
  | 4 => pTab4
  | 5 => pTab5
  | 6 => pTab6
  | 7 => pTab7
  | 8 => pTab8
  | 9 => pTab9
  | 10 => pTabA
  | _ => []

/-- The row of an assigned ID; none for an unassigned one (R624). -/
def pRow (id : Nat) : Option PRow := (pTab (id / 4096)).find? (fun r => r.id == normId id)

/-- Width in bytes of a type code. -/
def tyWidth (ty : Nat) : Nat :=
  match ty with
  | 1 | 7 | 8 => 1
  | 2 | 4 => 2
  | 3 | 5 | 6 => 4
  | 9 => 8
  | _ => 0

def tySigned (ty : Nat) : Bool := ty == 4 || ty == 5 || ty == 6

/-- The value that a raw image of type `ty` stands for. -/
def tyVal (ty raw : Nat) : Int := if tySigned ty then sgn (8 * tyWidth ty) raw else raw

/-- The raw image of a value. -/
def tyRaw (ty : Nat) (v : Int) : Nat := enc (8 * tyWidth ty) v

/-- Ranges that are not one interval (the Range columns of the settings tables). -/
def pSpecial (nid : Nat) (v : Int) : Bool :=
  match nid with
  | 0x0021 => v == 0 || 10 ≤ v
  | 0x2001 => v % 4 != 3 && v / 4 % 4 != 3 && v / 16 % 4 != 3 && v / 64 != 3
  | 0x200F => v == 0 || 4 ≤ v
  | 0x2016 => v ≤ 32 || 0x88 ≤ v
  | 0x2410 => v / 2 ^ 28 == 0 && v % 256 ≤ 64
  | 0x2440 => v == 0 || (0x10 ≤ v && v % 16 < 4)
  | 0x6012 => v % 4 == 0
  | 0x6102 => v ≤ 1023 || v == 0xFFFF
  | 0x6103 => v ≤ 63 || v == 0xFF
  | 0x7003 => v == 0 || 10 ≤ v
  | 0x7006 | 0x7007 => v != 254
  | 0x8003 => v == 0 || 100 ≤ v
  | _ => true

/-- A raw value lies in the parameter's range and is not reserved (R183). -/
def pInRange (r : PRow) (raw : Nat) : Bool :=
  let v := tyVal r.ty raw
  decide (raw < 2 ^ (8 * tyWidth r.ty)) && decide (r.lo ≤ v) && decide (v ≤ r.hi) && pSpecial r.id v

/-- Raw default of an ID. -/
def pDefault (id : Nat) : Nat := match pRow id with | some r => tyRaw r.ty r.dv | none => 0

/-- Owner of a parameter ID (R175). -/
def pOwner (id : Nat) : Owner :=
  let n := id / 256 % 16
  match id / 4096 with
  | 1 | 3 => if h : n < 4 then .axis ⟨n, h⟩ else .device
  | 2 => .unit n
  | 5 => .unit 9
  | 6 => if n = 0 then .nets else .unit (4 + n)
  | 7 => .unit 7
  | 8 => .unit 8
  | _ => .device

/-- IDs of axis and channel groups. -/
def axId (n : Fin 4) (i : Nat) : Nat := 0x1000 + 0x100 * n.val + i
def psId (n : Fin 4) (i : Nat) : Nat := 0x3000 + 0x100 * n.val + i
def fbId (n : Fin 4) (i : Nat) : Nat := 0x2000 + 0x100 * n.val + i
def netId (p : Fin 2) (i : Nat) : Nat := 0x6100 + 0x100 * p.val + i

/-- A value of a set by ID, its default where the set does not list it. -/
def setVal (l : List (Nat × Nat)) (id : Nat) : Nat := tabGet l id (pDefault id)

def setInt (l : List (Nat × Nat)) (id : Nat) : Int :=
  match pRow id with
  | some r => tyVal r.ty (setVal l id)
  | none => 0

/-- The running value of a parameter (raw, unsigned). -/
def State.par (s : State) (id : Nat) : Nat := setVal s.params.running id

/-- The running value of a parameter as its type reads it. -/
def State.parI (s : State) (id : Nat) : Int := setInt s.params.running id

/-- The working value of a parameter. -/
def State.work (s : State) (id : Nat) : Nat := setVal s.params.working id

def State.workI (s : State) (id : Nat) : Int := setInt s.params.working id

/-- Axis and power-stage parameters of an axis, running values. -/
def State.ax (s : State) (n : Fin 4) (i : Nat) : Nat := s.par (axId n i)
def State.ps (s : State) (n : Fin 4) (i : Nat) : Nat := s.par (psId n i)
def State.fbp (s : State) (n : Fin 4) (i : Nat) : Nat := s.par (fbId n i)
def State.axI (s : State) (n : Fin 4) (i : Nat) : Int := s.parI (axId n i)
def State.fbpI (s : State) (n : Fin 4) (i : Nat) : Int := s.parI (fbId n i)

end Sys2Proof.Machine
end

