-- ==== Sys2Proof/Machine/Ops.lean ====
section
/-! DEFINITION. Shared operations: ticks, axes and units, hopper bytes, events, fault entries. -/

namespace Sys2Proof.Machine

/-- Absolute tick of an instant `off` ticks after the last boundary. -/
def State.tickAt (s : State) (off : Nat) : Nat := s.frame.tickBase + off

/-- The frame counter as a number. -/
def State.fr (s : State) : Nat := s.frame.counter.toNat

/-- Frames from `f` to the present frame, modulo 2³². -/
def State.since (s : State) (f : BitVec 32) : Nat := (s.frame.counter - f).toNat

/-- Frames from the present one to frame `f`, signed; negative when it has passed (R161). -/
def State.ahead (s : State) (f : BitVec 32) : Int := sgn 32 (f - s.frame.counter).toNat

/-- A free value and the state that has handed it out. -/
def State.fresh (s : State) : Nat × State := (Config.freeValue s.free, { s with free := s.free + 1 })

/-- A write to flash with its read-back (log entry 33). -/
def State.flashWrite (s : State) : Bool × State := (Config.flashGood s.free, { s with free := s.free + 1 })

/-! ### Axes and units -/

def State.axSt (s : State) (n : Fin 4) : AxSeqSt := s.power.axes.get n
def State.seq (s : State) (n : Fin 4) : AxSeq := (s.power.axes.get n).seq
def State.axReady (s : State) (n : Fin 4) : Bool := s.seq n == .ready
def State.axOff (s : State) (n : Fin 4) : Bool := s.seq n == .off

def State.setSeq (s : State) (n : Fin 4) (f : AxSeqSt → AxSeqSt) : State :=
  { s with power := { s.power with axes := s.power.axes.upd n f } }

def State.updMotion (s : State) (n : Fin 4) (f : MotionSt → MotionSt) : State := { s with motion := s.motion.upd n f }
def State.updCur (s : State) (n : Fin 4) (f : CurrentSt → CurrentSt) : State := { s with cur := s.cur.upd n f }
def State.updWedge (s : State) (n : Fin 4) (f : WedgeSt → WedgeSt) : State := { s with wedge := s.wedge.upd n f }
def State.updGate (s : State) (n : Fin 4) (f : GateSt → GateSt) : State := { s with gate := s.gate.upd n f }
def State.updFollow (s : State) (n : Fin 4) (f : FollowSt → FollowSt) : State := { s with follow := s.follow.upd n f }
def State.updChan (s : State) (n : Fin 4) (f : ChannelSt → ChannelSt) : State := { s with channels := s.channels.upd n f }
def State.updBrake (s : State) (b : Fin 4) (f : BrakeSt → BrakeSt) : State :=
  { s with mon := { s.mon with brakes := s.mon.brakes.upd b f } }
def State.updPort (s : State) (p : Fin 2) (f : PortSt → PortSt) : State := { s with ports := s.ports.upd p f }

/-- Fold an update over the four axes. -/
def forAxes (s : State) (f : Fin 4 → State → State) : State := f 3 (f 2 (f 1 (f 0 s)))
def forPorts (s : State) (f : Fin 2 → State → State) : State := f 1 (f 0 s)

/-- A unit of Table PAR-2 is enabled. -/
def State.unitOn (s : State) (b : Nat) : Bool := s.params.units.toNat.testBit b

/-- The device owner counts as enabled (Table PAR-1). -/
def State.deviceOn (s : State) : Bool :=
  axes4.any (fun n => !s.axOff n) || s.unitOn 5 || s.unitOn 6 || s.unitOn 7 || s.unitOn 8

/-- An owner counts as enabled (Table PAR-1). -/
def State.ownerOn (s : State) : Owner → Bool
  | .device => s.deviceOn
  | .axis n => !s.axOff n
  | .unit b => s.unitOn b
  | .nets => s.unitOn 5 || s.unitOn 6

/-- Axes of a 4-bit mask, ascending. -/
def maskAxes (m : Nat) : List (Fin 4) := axes4.filter (fun n => m.testBit n.val)

def axBit (n : Fin 4) : Nat := 2 ^ n.val

/-- AXENn, filtered: the pin that is ENnA1 in pin mode (R57, R69). -/
def State.axen (s : State) (n : Fin 4) : Bool := (s.pins.pinEn.get n).get 0

/-- Pin mode of an axis: running value while the axis is enabled (R58). -/
def State.pinMode (s : State) (n : Fin 4) : Bool := s.ps n 0 == 1

/-- Paired axes of an enabled twin (R526). -/
def State.paired (s : State) (n : Fin 4) : Bool := s.unitOn 8 && (s.par 0x8000).testBit n.val

/-- Axes of the chain table (14). -/
def State.chainMask (s : State) : Nat :=
  match s.plan.chain with
  | some c => (c.joints.map (fun j => 2 ^ j.axis)).foldl Nat.lor 0
  | none => 0

/-- Position of an axis as its 32-bit counter holds it (R7). -/
def wrap32 (v : Int) : Int := sgn 32 (enc 32 v)

/-- Electrical index e of R236: (p + ELOFF) mod 1024. -/
def MotionSt.elec (m : MotionSt) : Nat := ((m.p + m.eloff) % 1024).toNat

/-! ### Hoppers as bytes -/

/-- Byte `b` of hopper `h` (R146). -/
def State.hb (s : State) (h b : Nat) : Nat := (cellGet s.intake.slots (128 * h + b)).toNat
def State.h16 (s : State) (h b : Nat) : Nat := s.hb h b + 256 * s.hb h (b + 1)
def State.h32 (s : State) (h b : Nat) : Nat := s.h16 h b + 65536 * s.h16 h (b + 2)
def State.hS32 (s : State) (h b : Nat) : Int := sgn 32 (s.h32 h b)

/-- Payload byte, half word and word (offset 16 of the hopper). -/
def State.p8 (s : State) (h b : Nat) : Nat := s.hb h (16 + b)
def State.p16 (s : State) (h b : Nat) : Nat := s.h16 h (16 + b)
def State.p32 (s : State) (h b : Nat) : Nat := s.h32 h (16 + b)
def State.pS32 (s : State) (h b : Nat) : Int := s.hS32 h (16 + b)
def State.pBytes (s : State) (h a n : Nat) : List Byte := cellRead s.intake.slots (128 * h + 16 + a) n

def State.opcode (s : State) (h : Nat) : Nat := s.h16 h 0
def State.seqNo (s : State) (h : Nat) : Nat := s.h16 h 2
def State.flags (s : State) (h : Nat) : Nat := s.hb h 4
def State.axmask (s : State) (h : Nat) : Nat := s.hb h 5 % 16
def State.plen (s : State) (h : Nat) : Nat := s.hb h 6
def State.execFrame (s : State) (h : Nat) : BitVec 32 := BitVec.ofNat 32 (s.h32 h 8)

def State.putSlot (s : State) (a : Nat) (l : List Byte) : State :=
  { s with intake := { s.intake with slots := cellWrite s.intake.slots a l } }

def State.putBulk (s : State) (a : Nat) (l : List Byte) : State :=
  { s with intake := { s.intake with bulk := cellWrite s.intake.bulk a l } }

def State.bulkBytes (s : State) (a n : Nat) : List Byte := cellRead s.intake.bulk a n

def State.hop (s : State) (h : Nat) : HopSt := s.intake.hops.getD h {}

def State.setHop (s : State) (h : Nat) (f : HopSt → HopSt) : State :=
  { s with intake := { s.intake with hops := updAt s.intake.hops h f } }

def State.setProg (s : State) (h v : Nat) : State := s.putSlot (128 * h + 7) [BitVec.ofNat 8 v]

/-- Source of a hopper: 0 host, 1 fabric, 2 ISOBUS, 3 internal (Table HOP-1). -/
def srcOf (h : Nat) : Nat := if h < 16 then 0 else if h < 24 then 1 else if h < 28 then 2 else 3

/-- All hopper numbers. -/
def hops32 : List Nat := List.range 32

/-- Note the commands in flight of source `k` after a handover (Table HOP-10). -/
def State.notePeak (s : State) (k : Nat) : State :=
  let fly := (hops32.filter (fun h => srcOf h == k && (s.hop h).stage != .free)).length
  { s with intake := { s.intake with counts := s.intake.counts.upd (Fin.ofNat 4 k) (fun c => { c with peak := max c.peak fly }) } }

/-! ### Events (R600) and their fabric copies (R511) -/

def State.ev (s : State) (code qual : Nat) : State :=
  let rec_ := (code, qual % 65536, s.frame.counter)
  let q := s.faults.events
  let full := decide (255 ≤ q.length)
  let s := { s with faults := { s.faults with
    events := (if full then q.drop 1 else q) ++ [rec_]
    lost := if full then s.faults.lost + 1 else s.faults.lost } }
  if s.par 0x6041 == 1 && (s.unitOn 5 || s.unitOn 6) then
    (if s.fab.evts.length < 12 then { s with fab := { s.fab with evts := s.fab.evts ++ [rec_] } }
     else { s with fab := { s.fab with evtLost := s.fab.evtLost + 1 } })
  else s

/-- Event that names `a` and `b` (log entry 31). -/
def State.evNames (s : State) (code a b : Nat) : State := s.ev code (Config.nameQual code a b)

/-- Raise an event when a condition holds. -/
def State.evIf (s : State) (c : Bool) (code qual : Nat) : State := if c then s.ev code qual else s

/-! ### Fault entries (19) -/

/-- Group parameter that selects the reaction (Table FLT-3); none: the fixed action only. -/
def faultGroup (code : Nat) : Option Nat :=
  match code with
  | 0x0010 | 0x0011 | 0x0123 | 0x0901 | 0x1101 => some 0x009D
  | 0x0101 | 0x0140 | 0x0141 | 0x0142 => some 0x0090
  | 0x0102 | 0x0120 | 0x0121 | 0x0122 | 0x0145 => some 0x0092
  | 0x0103 | 0x0220 | 0x0221 | 0x0501 | 0x0502 | 0x0503 => some 0x0098
  | 0x0143 | 0x0144 => some 0x0091
  | 0x0201 | 0x0202 | 0x0203 | 0x0204 | 0x0205 | 0x0206 | 0x0207 | 0x0208 => some 0x0097
  | 0x0301 | 0x0302 | 0x0303 | 0x0304 | 0x0305 | 0x0306 | 0x0308 => some 0x0093
  | 0x0401 | 0x0402 | 0x0403 | 0x0405 | 0x0A01 => some 0x0096
  | 0x0410 | 0x0411 | 0x0412 | 0x0413 | 0x0414 | 0x0415 | 0x0416 => some 0x0094
  | 0x0420 | 0x0421 | 0x0422 | 0x0423 => some 0x0095
  | 0x0601 | 0x0602 | 0x0603 | 0x0604 | 0x0605 | 0x0606 | 0x0620 | 0x0701 | 0x0702 | 0x0703
  | 0x0801 | 0x0802 | 0x0803 | 0x0804 | 0x0806 => some 0x009B
  | 0x1001 => some 0x009C
  | 0x1307 | 0x1309 | 0x130A | 0x130D => some 0x0099
  | 0x130B | 0x130C | 0x130E | 0x1405 => some 0x009A
  | _ => none

/-- Clearing class (Tables FLT-2 and FLT-3): 0 A, 1 C, 2 T, 3 B, 4 P, 5 X, 6 S. -/
def faultClass (code : Nat) : Nat :=
  match code with
  | 0x0001 | 0x0902 | 0x0903 | 0x0904 | 0x1308 => 6
  | 0x0220 | 0x0401 | 0x0402 | 0x0403 | 0x0405 | 0x0601 | 0x0602 | 0x0603 | 0x0604 | 0x0605 | 0x0606 | 0x0620
  | 0x0701 | 0x0702 | 0x0703 | 0x0801 | 0x0802 | 0x0803 | 0x0804 | 0x0806 | 0x0A01 | 0x1001
  | 0x1402 | 0x1403 | 0x1404 | 0x1405 => 0
  | 0x0301 | 0x0302 | 0x0303 | 0x0304 | 0x0305 | 0x0306 | 0x0308 => 2
  | 0x0910 | 0x0911 | 0x0912 | 0x0913 | 0x0914 | 0x0915 | 0x0916 | 0x0917 => 3
  | 0x0901 => 4
  | 0x1201 | 0x1202 => 5
  | _ => 1

/-- Scope of a code (Table FLT-3): 0 the named axes, 1 device, 2 paired axes, 3 chain axes. -/
def faultScope (code : Nat) : Nat :=
  match code with
  | 0x0103 | 0x0501 | 0x0502 | 0x0503 => 3
  | 0x0801 | 0x0802 | 0x0803 | 0x0804 | 0x0805 | 0x0806 => 2
  | 0x0915 | 0x0A01 => 0
  | 0x1301 | 0x1302 | 0x1303 | 0x1304 | 0x1305 => 0
  | _ =>
    if code / 256 = 1 ∧ code ≠ 0x0123 then 0
    else if code / 256 = 2 ∧ code ≠ 0x0221 then 0
    else if code / 256 = 3 then 0
    else if 0x0410 ≤ code ∧ code ≤ 0x0423 then 0
    else 1

/-- A fixed action that stops or limits motion, drive or an output (R595). `lock`: raised by a lock loss. -/
def faultFixed (code : Nat) (lock : Bool) : Bool :=
  match code with
  | 0x0101 | 0x0140 | 0x0141 | 0x0142 | 0x0102 | 0x0103 | 0x0120 | 0x0121 | 0x0122 | 0x0143 | 0x0144 | 0x0220
  | 0x0301 | 0x0302 | 0x0303 | 0x0304 | 0x0305 | 0x0306 | 0x0307 | 0x0308 | 0x0404 | 0x0420 | 0x0501 | 0x0502 | 0x0503
  | 0x0805 | 0x0910 | 0x0911 | 0x0912 | 0x0913 | 0x0914 | 0x0915 | 0x0916 | 0x0917 | 0x1201 | 0x1202
  | 0x1301 | 0x1302 | 0x1303 | 0x1304 | 0x1305 | 0x1306 | 0x1307 | 0x130A | 0x130B | 0x1401 | 0x1402 => true
  | 0x1403 | 0x1404 => !lock
  | _ => false

/-- Axes on which a fault's axis reaction acts (R586). -/
def State.scopeOf (s : State) (e : FaultEnt) : Nat :=
  match faultScope e.code with
  | 0 => if e.code = 0x0A01 ∧ e.axes = 0 then 0xF else e.axes.toNat
  | 1 => 0xF
  | 2 => s.par 0x8000 % 16
  | _ => s.chainMask

/-- The stronger of two reactions in effect (Table FLT-1; 0xFE is a fixed action only). -/
def strongerReact (a b : Nat) : Nat := if a = 0xFE then b else if b = 0xFE then a else max a b

/-- A class A entry without a lasting condition goes at the next boundary while its reaction is EVENT or STOP (R596, Table FLT-2). -/
def goingOf (cls react : Nat) (cond : Bool) : Nat :=
  if cls = 0 ∧ cond = false ∧ (react ≤ 1 ∨ react = 0xFE) then 1 else 0

/-- Raise a fault: make its entry active or update it (R584, R585). `cls` overrides the table's class (log entry 9). -/
def State.raiseAs (s : State) (cls : Option Nat) (code qual : Nat) (axes : BitVec 4) (cond : Bool) : State :=
  let grp := match faultGroup code with | some p => s.par p | none => 0xFE
  let fr := s.frame.counter
  let qual := qual % 65536
  let act :=
    if s.faults.active.any (fun e => e.code == code) then
      s.faults.active.map (fun e =>
        if e.code = code then
          { e with qual := qual, axes := e.axes ||| axes, count := min 255 (e.count + 1), last := fr,
                   react := strongerReact e.react grp, cond := cond, cls := cls.getD e.cls,
                   going := goingOf (cls.getD e.cls) (strongerReact e.react grp) cond,
                   acts := if strongerReact e.react grp = e.react then e.acts else fr + 1 }
        else e)
    else insertBy (fun a b => decide (a.code < b.code))
      { code := code, qual := qual, axes := axes, count := 1, first := fr, last := fr, react := grp, cond := cond,
        cls := cls.getD (faultClass code), going := goingOf (cls.getD (faultClass code)) grp cond, acts := fr + 1 } s.faults.active
  { s with faults := { s.faults with active := act, recent := code :: s.faults.recent.erase code } }

/-- Firmware raises a fault in the present frame; it names `axes`. -/
def State.raise (s : State) (code qual : Nat) (axes : BitVec 4) (cond : Bool) : State := s.raiseAs none code qual axes cond

/-- Hardware notes a fault, raised in step 3 of the next frame (R585). -/
def State.note (s : State) (code qual : Nat) (axes : BitVec 4) (cond : Bool) : State :=
  { s with faults := { s.faults with raised := s.faults.raised ++ [(code, qual, axes, cond)] } }

/-- The entry of a code was raised by the loss of a PLL's lock (R25, R595). -/
def State.markLock (s : State) (code : Nat) : State :=
  { s with faults := { s.faults with active := s.faults.active.map (fun e => if e.code = code then { e with lock := true } else e) } }

/-- Hardware notes an event, raised in step 3 of the next frame. -/
def State.noteEv (s : State) (code qual : Nat) : State :=
  { s with faults := { s.faults with evNext := s.faults.evNext ++ [(code, qual)] } }

def axBits (n : Fin 4) : BitVec 4 := BitVec.ofNat 4 (2 ^ n.val)

def State.faultActive (s : State) (code : Nat) : Bool := s.faults.active.any (fun e => e.code == code)

/-- The cause of a fault has ended: a class A entry under EVENT or STOP goes at the next boundary (Table FLT-2). -/
def State.condEnd (s : State) (code : Nat) : State :=
  { s with faults := { s.faults with active := s.faults.active.map (fun e =>
      if e.code = code then
        { e with cond := false
                 going := max e.going (goingOf e.cls e.react false) }
      else e) } }

/-- FTSUM: bit n is 1 while a fault of area n is active (R584). -/
def State.ftsum (s : State) : Nat := (s.faults.active.map (fun e => 2 ^ (e.code / 256))).foldl Nat.lor 0

/-- VBAT is present: AON's request stands from POWER_ON to POWER_OFF. -/
def State.powered (s : State) : Bool := s.power.aon.latched == some true

/-- SYS has passed the checkpoint at which Fequel configures its pins, and is not yet without power. DESIGN CHOICE (log entry 32): the
manual does not say which checkpoint that is; the model takes SYS Ready. -/
def State.sysPins (s : State) : Bool := match s.power.sys.stage with | .ready | .going _ => true | _ => false

/-- FAULTN is driven low: its reset state while SYS is not configured (Table PIN-4, R64, R75, R90), or a fault (R595). Without supply
the pin is not driven. -/
def State.faultLow (s : State) : Bool :=
  s.powered && (!s.sysPins || s.faults.device || axes4.any (fun n => s.seq n == .failed) ||
  s.faults.active.any (fun e => (e.react != 0 && e.react != 0xFE) || faultFixed e.code e.lock) || s.faults.safeDue.isSome ||
  s.pins.inReset || s.pins.testHeld || s.power.sysHeld || s.clock.halted || s.clock.dead)

/-- Safe-state value of an axis from the active faults whose reactions act by now (R587). -/
def State.safeOf (s : State) (n : Fin 4) : Nat :=
  (s.faults.active.map (fun e =>
    if (s.scopeOf e).testBit n.val && decide ((s.frame.counter - e.acts).toNat < 2 ^ 31) && !(e.code == 0x1307 && s.power.vmOv) then
      (match e.react with
       | 2 => if s.pinMode n then 3 else 2
       | 1 => if s.pinMode n then 3 else 0
       | 3 => 3
       | 4 => 4
       | _ => if e.code = 0x0404 ∨ e.code = 0x0805 then 3 else if e.code = 0x1401 then (if s.pinMode n then 3 else 2) else 0)
    else 0)).foldl max 0

end Sys2Proof.Machine
end

