-- ==== Sys2Proof/Machine/Host.lean ====
section
/-! DEFINITION. Host serial port: registers, CS0 frames, write application, CS1 streams, host watchdog (04). -/

namespace Sys2Proof.Machine

/-! ### Status that registers show -/

/-- AXSTATn.SEQ (Table HOST-9). -/
def AxSeq.code : AxSeq → Nat
  | .off | .waiting => 0
  | .up k => min 5 k
  | .ready => 6
  | .d1 => 7
  | .d2 => 8
  | .d3 => 9
  | .failed => 10

/-- AXSTATn [27:24]: 0 none, 1 QUIET, 2 CLAMP, 3 HALT, from the value of Table FLT-1. -/
def safeCode (v : Nat) : Nat := match v with | 2 => 3 | 3 => 1 | 4 => 2 | _ => 0

/-- A bit of PWRSTAT: the domain stands at Ready. -/
def DomSt.isReady (d : DomSt) : Bool := d.stage == .ready

def State.dom (s : State) : Domain → DomSt
  | .aon => s.power.aon
  | .sys => s.power.sys
  | .ana => s.power.ana
  | .aux => s.power.aux
  | .fbk => s.power.fbk
  | .net => s.power.net
  | .twin => s.power.twin
  | .plan => s.power.plan

def State.setDom (s : State) (d : Domain) (f : DomSt → DomSt) : State :=
  { s with power :=
    match d with
    | .aon => { s.power with aon := f s.power.aon }
    | .sys => { s.power with sys := f s.power.sys }
    | .ana => { s.power with ana := f s.power.ana }
    | .aux => { s.power with aux := f s.power.aux }
    | .fbk => { s.power with fbk := f s.power.fbk }
    | .net => { s.power with net := f s.power.net }
    | .twin => { s.power with twin := f s.power.twin }
    | .plan => { s.power with plan := f s.power.plan } }

/-- A step of a domain begins (R88). -/
def State.beginStep (s : State) (d : Domain) (st : DomStage) (l : Option Bool) : State :=
  s.setDom d (fun _ => { stage := st, latched := l, stepAt := s.frame.counter })

/-- Number of a domain, and of an axis domain, in the order of Table PWR-1 (R90, R92). -/
def domNo : Domain → Nat
  | .aon => 0
  | .sys => 1
  | .ana => 2
  | .aux => 3
  | .fbk => 8
  | .net => 9
  | .twin => 10
  | .plan => 11
def axNo (n : Fin 4) : Nat := 4 + n.val

def State.domReady (s : State) (d : Domain) : Bool := (s.dom d).isReady

/-- SYS has reached Ready and not yet Quiesced, where RDY falls and the hoppers close (R115, Table PWR-7). -/
def State.sysServes (s : State) : Bool := match s.power.sys.stage with | .ready | .going 1 => true | _ => false

/-- RDY is high (R115, R132). -/
def State.rdy (s : State) : Bool :=
  s.sysServes && (s.power.dev == .idle || s.power.dev == .run) && s.link.writes.isEmpty && !s.clock.halted && !s.clock.dead

/-- HHOLD: hopper s holds a command held for calibration (R152). -/
def State.hhold (s : State) : Nat :=
  maskOf ((List.range 16).map (fun h => (s.hop h).stage == .held))

/-- ATTSRC (Table HOST-6). -/
def State.attsrc (s : State) : Nat :=
  maskOf [(s.host.hdone &&& s.host.donemsk) != 0, s.host.dbrej != 0, !s.faults.events.isEmpty, s.ftsum != 0,
    s.host.strBrdone, s.host.herr, s.host.wakeAtt]

/-- ATTN is asserted (R134). -/
def State.attn (s : State) : Bool := Nat.land s.attsrc s.host.attmsk.toNat != 0

/-- The saturating reject counter of a pin (R66). -/
def State.rejects (s : State) (pin : Nat) : Nat := tabGet s.pins.rejects pin 0

/-- Count a rejected event; EV-0x0004 when the counter reaches 0xFFFF (R66). DESIGN CHOICE (log entry 32): the manual says when it
"first" does; a counter that has been cleared raises the event again. -/
def State.bumpReject (s : State) (pin : Nat) : State :=
  let v := s.rejects pin
  let s' := { s with pins := { s.pins with rejects := tabSet s.pins.rejects pin (min 0xFFFF (v + 1)) 0 } }
  s'.evIf (v == 0xFFFE) 0x0004 pin

/-- AXENn as the axis sees it: the filtered AXEN level in serial mode. -/
def State.axenLvl (s : State) (n : Fin 4) : Bool := s.axen n

def State.axstat (s : State) (n : Fin 4) : Nat :=
  let st := s.axSt n
  let heldCal := hops32.any (fun h => (s.hop h).stage == .held && (s.axmask h).testBit n.val)
  st.seq.code * 2 ^ 28 + safeCode (s.faults.safe.get n) * 2 ^ 24 + b01 (s.axenLvl n) * 2 ^ 23 + b01 (s.pinMode n) * 2 ^ 22
    + b01 (s.motion.get n).retained * 2 ^ 21 + b01 heldCal * 2 ^ 20

/-- PWRST of HSTAT: 3 IDLE, 4 RUN. -/
def DevPower.code : DevPower → Nat
  | .off => 0
  | .sleep => 1
  | .standby => 2
  | .idle => 3
  | .run => 4

def State.sealedNow (s : State) : Bool := s.pins.sealed == some true

/-- Presence by seal (R562). -/
def State.sealPresence (s : State) : Bool := s.sealedNow && !s.svc.tamper

def State.fabSynced (s : State) : Bool :=
  s.ports.toList.any (fun p => p.sync == .synced)

def State.hstat (s : State) : Nat :=
  b01 (s.domReady .sys && !s.clock.halted) * 2 ^ 31 + b01 s.faults.device * 2 ^ 30 + b01 s.faultLow * 2 ^ 29
    + s.power.dev.code * 2 ^ 26 + b01 (!s.clock.onRc) * 2 ^ 25 + b01 s.clock.settle.isSome * 2 ^ 24
    + b01 s.fabSynced * 2 ^ 23 + b01 s.svc.window.isSome * 2 ^ 22 + b01 s.sealedNow * 2 ^ 21 + b01 s.svc.tamper * 2 ^ 20

def State.pwrstat (s : State) : Nat :=
  maskOf ([s.domReady .aon, s.domReady .sys, s.domReady .ana, s.domReady .aux] ++
    axes4.map (fun n => s.axReady n) ++ [s.domReady .fbk, s.domReady .net, s.domReady .twin, s.domReady .plan])

def State.pinlvl (s : State) : Nat :=
  maskOf (axes4.map (fun n => s.axenLvl n) ++
    [s.pins.sealPin, !s.pins.presLow, s.pins.role == .b, s.pins.role == .floating, s.pins.acti, s.pins.wake, s.pins.sync])

def State.idboot (s : State) : Nat :=
  b01 s.svc.runB * 2 ^ 30 + (match (if s.svc.runB then s.svc.bankB else s.svc.bankA).pkg with
    | some p => p.rollback
    | none => Config.factoryRollback % 65536)

/-- IDFW: the version of the running image (R569, Table HOST-6). -/
def State.idfw (s : State) : Nat :=
  match (if s.svc.runB then s.svc.bankB else s.svc.bankA).pkg with
  | some p => p.major * 2 ^ 24 + p.minor * 65536 + p.build
  | none => 0x03020000 + Config.fwBuild % 65536

/-- A register of Table HOST-6 as a read samples it (R131, R142). -/
def State.regRead (s : State) (a : Nat) : Nat :=
  match a with
  | 0x000 => 0x04580000 + Config.silrev % 256 * 256 + 0xD0
  | 0x004 => s.idfw
  | 0x008 => Config.uid.toNat % 2 ^ 32
  | 0x00C => Config.uid.toNat / 2 ^ 32
  | 0x010 => s.idboot
  | 0x014 => 0xF4
  | 0x018 => s.hstat
  | 0x01C => s.frame.counter.toNat
  | 0x024 => s.host.hown.toNat
  | 0x028 => s.host.hdone.toNat
  | 0x02C => s.hhold
  | 0x030 => s.host.dbrej.toNat
  | 0x034 => s.host.hseq.toNat
  | 0x038 => s.frame.superframe.toNat
  | 0x03C => s.frame.index
  | 0x040 => s.ftsum
  | 0x044 => min 255 s.faults.events.length
  | 0x048 => s.axstat 0
  | 0x04C => s.axstat 1
  | 0x050 => s.axstat 2
  | 0x054 => s.axstat 3
  | 0x058 => s.attsrc
  | 0x05C => s.host.attmsk.toNat
  | 0x060 => s.host.donemsk.toNat
  | 0x064 => b01 s.host.bulkValid * 2 ^ 31 + s.host.bulkSlot * 65536 + s.host.bulkLen
  | 0x068 => b01 s.host.bulkBusy
  | 0x06C => s.host.strlen
  | 0x070 => s.host.strSrc + 4 * b01 s.host.strQuad + 16 * s.host.strSsel
  | 0x074 => s.host.strCnt + maskOf [s.host.strBrto, s.host.strBrdone, s.host.strOver, s.host.strEarlyF, s.host.strBrbusy] * 2 ^ 13
  | 0x078 => s.host.strEarly
  | 0x07C => b01 s.host.cmdq + 16 * s.host.dummy + 256 * b01 s.host.mode3
  | 0x080 => b01 s.host.crcReq
  | 0x084 => s.host.crcErr
  | 0x088 => s.rejects 165
  | 0x08C => s.host.abortWhy
  | 0x090 => s.host.rundr
  | 0x098 => s.host.scratch0.toNat
  | 0x09C => s.host.scratch1.toNat
  | 0x0A0 => s.host.wakeSrc.toNat
  | 0x0A4 => s.pwrstat
  | 0x0A8 => s.host.rstCause
  | 0x0AC => enc 16 s.power.temp
  | 0x0B0 => s.host.vmMeas
  | 0x0B4 => s.host.vbatMeas
  | 0x0B8 => s.host.loadpm.toNat
  | 0x0BC => s.pinlvl
  | _ => 0

/-- A byte of the CS0 address map; unmapped addresses read 0x00 (Table HOST-4, R131). -/
def State.hostByte (s : State) (a : Nat) : Byte :=
  let a := a % 65536
  if a < 0xC0 then BitVec.ofNat 8 (s.regRead (a / 4 * 4) / 256 ^ (a % 4))
  else if 0x0800 ≤ a ∧ a < 0x1000 then cellGet s.intake.slots (a - 0x0800)
  else if 0x1000 ≤ a ∧ a < 0x2000 then cellGet s.intake.bulk (a - 0x1000)
  else 0

/-! ### Operations of single registers -/

/-- Hand slot `k` over, or refuse it (R150, Table HOP-5). -/
def dbellSlot (s : State) (k : Nat) : State :=
  if s.host.hown.getLsbD k then
    { s with host := { s.host with dbrej := s.host.dbrej ||| BitVec.ofNat 16 (2 ^ k) }
             intake := { s.intake with counts := s.intake.counts.upd 0 (fun c => { c with refused := c.refused + 1 })
                                       rejSeen := true } }
  else
    let s := { s with host := { s.host with hown := s.host.hown ||| BitVec.ofNat 16 (2 ^ k)
                                            hdone := s.host.hdone &&& ~~~ BitVec.ofNat 16 (2 ^ k) } }
    (((s.setHop k (fun _ => { stage := .rung })).setProg k 0).putSlot (128 * k + 12) [0])

/-- A doorbell write: every named slot, in ascending order; the first refusal of a superframe raises EV-0x1101 at the next boundary
(R150, Table HOP-8). -/
def dbellWrite (v : BitVec 16) (s : State) : State :=
  let refused := (List.range 16).filter (fun k => v.getLsbD k && s.host.hown.getLsbD k)
  let s' := (((List.range 16).filter (fun k => v.getLsbD k)).foldl dbellSlot s).notePeak 0
  match refused with
  | k :: _ => if s.intake.rejSeen then s' else s'.noteEv 0x1101 k
  | [] => s'

/-- A write to HWDOG (R136). -/
def hwdogWrite (s : State) : State :=
  let s1 := s.evIf s.link.wdFired 0x1001 0
  let s2 := if s.link.wdFired then s1.condEnd 0x1001 else s1
  { s2 with link := { s2.link with wdFired := false, wdAt := s2.frame.counter, wdArmed := s2.link.wdArmed || s2.par 0x0062 != 0 } }

def attsrcClear (v : Nat) (s : State) : State :=
  { s with host := { s.host with herr := s.host.herr && !bit v 5, wakeAtt := s.host.wakeAtt && !bit v 6 } }

def strstatClear (v : Nat) (s : State) : State :=
  { s with host := { s.host with strBrto := s.host.strBrto && !bit v 13, strBrdone := s.host.strBrdone && !bit v 14,
                                 strOver := s.host.strOver && !bit v 15, strEarlyF := s.host.strEarlyF && !bit v 16 } }

/-- One aligned register of an applied write (Table HOST-6). -/
def regWrite (a v : Nat) (s : State) : State :=
  match a with
  | 0x020 => dbellWrite (BitVec.ofNat 16 v) s
  | 0x028 => { s with host := { s.host with hdone := s.host.hdone &&& ~~~ BitVec.ofNat 16 v } }
  | 0x030 => { s with host := { s.host with dbrej := s.host.dbrej &&& ~~~ BitVec.ofNat 16 v } }
  | 0x058 => attsrcClear v s
  | 0x05C => { s with host := { s.host with attmsk := BitVec.ofNat 7 v } }
  | 0x060 => { s with host := { s.host with donemsk := BitVec.ofNat 16 v } }
  | 0x064 => { s with host := { s.host with bulkValid := bit v 31, bulkSlot := v / 65536 % 16, bulkLen := v % 8192 } }
  | 0x06C => { s with host := { s.host with strlen := v % 8192 } }
  | 0x070 => { s with host := { s.host with strSrc := v % 4, strQuad := bit v 2, strSsel := v / 16 % 4 } }
  | 0x074 => strstatClear v s
  | 0x078 => { s with host := { s.host with strEarly := 0 } }
  | 0x07C => { s with host := { s.host with cmdq := bit v 0, dummy := v / 16 % 16 } }
  | 0x080 => { s with host := { s.host with crcReq := s.host.crcReq || bit v 0 } }
  | 0x084 => { s with host := { s.host with crcErr := 0 } }
  | 0x088 => { s with pins := { s.pins with rejects := tabSet s.pins.rejects 165 0 0 } }
  | 0x08C => { s with host := { s.host with abortWhy := 0 } }
  | 0x090 => { s with host := { s.host with rundr := 0 } }
  | 0x094 => hwdogWrite s
  | 0x098 => { s with host := { s.host with scratch0 := BitVec.ofNat 32 v } }
  | 0x09C => { s with host := { s.host with scratch1 := BitVec.ofNat 32 v } }
  | _ => s

/-- A register value a host may write: access not RO, fields in range, reserved bits 0 (R128; cause 0x0C). -/
def regWritable (a v : Nat) : Bool :=
  match a with
  | 0x020 | 0x028 | 0x030 | 0x060 => decide (v < 65536)
  | 0x058 | 0x05C => decide (v < 128)
  | 0x064 => Nat.land v 0x7FF0E000 == 0 && decide (v % 8192 ≤ 4096)
  | 0x06C => decide (1 ≤ v) && decide (v ≤ 4096)
  | 0x070 => decide (v < 64) && v % 4 != 3 && !bit v 3 && (!bit v 2 || v % 4 == 2)
  | 0x074 => decide (v < 2 ^ 18)
  | 0x07C => decide (v < 512) && Nat.land v 0x0E == 0 && decide (2 ≤ v / 16 % 16)
  | 0x080 => decide (v < 2)
  | 0x078 | 0x084 | 0x088 | 0x08C | 0x090 | 0x094 | 0x098 | 0x09C => true
  | _ => false

/-! ### Lanes (R117, Table HOST-2) -/

/-- What the device drives in one SCK cycle: lanes IO0 to IO3 by number, with their levels. -/
abbrev LaneCycle := List (Nat × Bool)

/-- One nibble on four lanes, its most significant bit on IO3. -/
def nibbleCycle (v : Nat) : LaneCycle := [(3, bit v 3), (2, bit v 2), (1, bit v 1), (0, bit v 0)]

/-- The cycles of one byte, most significant bit first: two nibbles, high nibble first, or eight bits on one lane. -/
def byteCycles (quad : Bool) (lane : Nat) (b : Byte) : List LaneCycle :=
  if quad then [nibbleCycle (b.toNat / 16), nibbleCycle (b.toNat % 16)]
  else (msbBits 8 b.toNat).map (fun v => [(lane, v)])

/-- FSTAT on IO1 in a single-lane command phase (R119). -/
def State.fstatCycles (s : State) : List LaneCycle := byteCycles false 1 s.link.fstat

/-- The data and CRC phases of the last read frame as the device drove them up to the release, cycle by cycle (R117, R123). -/
def State.readCycles (s : State) : List LaneCycle :=
  let crc := match s.link.rdCrc with | some c => [BitVec.ofNat 8 (c.toNat / 256), BitVec.ofNat 8 c.toNat] | none => []
  ((s.link.rdData ++ crc ++ List.replicate s.link.rdPad 0).flatMap (byteCycles s.link.rdQuad 1)).take s.link.rdClocks

/-- The last CS1 transfer as the device drove it: one bit a cycle on IO1, or four on IO3 to IO0, the highest on IO3 (R137). -/
def quadCycles : List Bool → List LaneCycle
  | a :: b :: c :: d :: r => [(3, a), (2, b), (1, c), (0, d)] :: quadCycles r
  | _ => []
def State.streamCycles (s : State) (quad : Bool) : List LaneCycle :=
  if quad then quadCycles s.link.csOut else s.link.csOut.map (fun v => [(1, v)])

/-! ### CS0 frames -/

/-- The levels of the lanes of one cycle as a nibble, IO3 its most significant bit (R117). -/
def nibbleBits (c : BitVec 4) : List Bool := [c.getLsbD 3, c.getLsbD 2, c.getLsbD 1, c.getLsbD 0]

/-- The bits of a phase in the order received: four lanes, high nibble first, or IO0 alone (R117, Table HOST-2). -/
def phaseBits (quad : Bool) (l : List (BitVec 4)) : List Bool := if quad then l.flatMap nibbleBits else l.map (fun c => c.getLsbD 0)

/-- Whole bytes of a string of bits, most significant bit first. -/
def bytesOfBits : List Bool → List Byte
  | a :: b :: c :: d :: e :: f :: g :: h :: r => BitVec.ofNat 8 (maskOf [h, g, f, e, d, c, b, a]) :: bytesOfBits r
  | _ => []

/-- Cycles of one byte (Table HOST-2). -/
def cyclesPerByte (quad : Bool) : Nat := if quad then 2 else 8

/-- The phases of a CS0 frame from its cycles: command in the command mode, address on one lane or four, in a read the dummy cycles of
HCFG, then data (R117, R121, R122, Table HOST-2). -/
def State.hostFrame (s : State) (w : SckFrame) : HostFrame :=
  let cq := s.host.cmdq
  let nc := cyclesPerByte cq
  let cmd := (bytesOfBits (phaseBits cq (w.cycles.take nc))).head?
  let head : HostFrame := { fall := w.fall, cmd := cmd, addr := [], data := [], clocks := 0, count := 0, late := w.late, ragged := false }
  let aq := cq || head.lanes == 2
  let dq := cq || head.lanes != 0
  let rest := w.cycles.drop nc
  let na := (if head.isRead && head.crc then 4 else 2) * cyclesPerByte aq
  let addr := bytesOfBits (phaseBits aq (rest.take na))
  let body := rest.drop na
  let nb := cyclesPerByte dq
  let clocks := if head.isRead then body.length - s.host.dummy else 0
  let left := if cmd.isNone then w.cycles.length % nc
    else if rest.length < na then rest.length % cyclesPerByte aq else body.length % nb
  { head with addr := addr, data := if head.isRead then [] else bytesOfBits (phaseBits dq body)
              clocks := clocks, count := (clocks + nb - 1) / nb, ragged := left != 0 }

/-- The address of a frame, from its first two address bytes, most significant first (R121). -/
def hfAddr (f : HostFrame) : Nat := getB f.addr 0 * 256 + getB f.addr 1

/-- Byte count of a read with CRC (R121). -/
def hfCount (f : HostFrame) : Nat := getB f.addr 2 * 256 + getB f.addr 3

/-- The whole address phase was received: 32 bits in a read with CRC, else 16 (R121). -/
def hfAddressed (f : HostFrame) : Bool := decide ((if f.isRead && f.crc then 4 else 2) ≤ f.addr.length)

/-- The data of a write frame: with CRC all but the last two bytes (R123). -/
def hfData (f : HostFrame) : List Byte := if f.crc then f.data.take (f.data.length - 2) else f.data

/-- The bytes that the CRC of a frame covers before its data bytes (R124). -/
def hfHead (f : HostFrame) : List Byte := f.cmd.getD 0 :: f.addr

/-- Every byte of the write lies in one region of Table HOST-4. -/
def oneRegion (a n : Nat) : Bool :=
  decide (a + n ≤ 0xC0) || (decide (0x0800 ≤ a) && decide (a + n ≤ 0x1000)) || (decide (0x1000 ≤ a) && decide (a + n ≤ 0x2000))

/-- The words of a register write with their addresses. -/
def regWords (a : Nat) : List Byte → List (Nat × Nat)
  | b0 :: b1 :: b2 :: b3 :: r => (a, leNat [b0, b1, b2, b3]) :: regWords (a + 4) r
  | _ => []

/-- A byte of the write falls in a device-owned slot, or in the window while BUSY is 1 (cause 0x0F). -/
def State.ownedHit (s : State) (a n : Nat) : Bool :=
  if 0x0800 ≤ a ∧ a < 0x1000 then
    (List.range 16).any (fun k => s.host.hown.getLsbD k && decide (a < 0x0880 + 128 * k) && decide (0x0800 + 128 * k < a + n))
  else decide (0x1000 ≤ a) && decide (0 < n) && s.host.bulkBusy

/-- The command byte is no valid data command in the present command mode (R118). -/
def State.cmdUnknown (s : State) (f : HostFrame) : Bool :=
  f.mark != 10 || f.lanes == 3 || (s.host.cmdq && f.lanes != 0)

/-- Causes of a frame meant as a write, from 0x0B down the order of R129. -/
def writeCause (s : State) (f : HostFrame) (stalled : Bool) : Nat :=
  let d := hfData f
  let n := d.length
  let a := hfAddr f
  if stalled then 0x0B
  else if f.ragged then 0x03
  else if f.addr.length < 2 ∨ n = 0 then 0x04
  else if n > 4096 then 0x08
  else if f.crc ∧ crc16 (hfHead f ++ d) ≠ getB f.data n * 256 + getB f.data (n + 1) then 0x05
  else if !oneRegion a n then 0x09
  else if a < 0xC0 ∧ (a % 4 ≠ 0 ∨ n % 4 ≠ 0) then 0x0A
  else if a < 0xC0 ∧ (regWords a d).any (fun w => !regWritable w.1 w.2) then 0x0C
  else if s.ownedHit a n then 0x0F
  else 0

/-- The first cause of R129 that a frame meets, in the order of that rule; 0 for none. `stalled`: no SCK edge for 500 µs. A mode reset
is never aborted for what it carries (R120), and a read is aborted by 0x01, 0x02, 0x06, 0x07 and 0x08 only (04, after Table HOST-5). -/
def abortCause (s : State) (f : HostFrame) (stalled : Bool) : Nat :=
  if !f.fall.rdy then 0x01
  else if f.fall.other then 0x02
  else if f.isReset then 0
  else if f.cmd = none then (if stalled then 0x0B else if f.ragged then 0x03 else 0x04)
  else if s.cmdUnknown f then 0x07
  else if s.host.crcReq ∧ !f.crc then 0x06
  else if !f.isRead then writeCause s f stalled
  else if f.crc ∧ hfAddressed f ∧ (hfCount f = 0 ∨ hfCount f > 4096) then 0x08
  else 0

/-- FSTAT as driven in the frame that begins now (Table HOST-3). -/
def State.fstatNow (s : State) : BitVec 8 :=
  BitVec.ofNat 8 (1 + 16 * b01 s.link.prevWrite + 32 * b01 s.link.prevAbort + 64 * b01 s.attn)

/-- Count an aborted frame (R129). -/
def State.abort (s : State) (why : Nat) : State :=
  let s := s.bumpReject 165
  { s with host := { s.host with abortWhy := why, herr := true,
                                 crcErr := if why = 0x05 then min 0xFFFF (s.host.crcErr + 1) else s.host.crcErr } }

/-- A select falls while RDY is high: the SCK level is recorded (R116). While RDY is low the select is ignored (R133). DESIGN CHOICE
(log entry 32): R116 has each select's fall record the level, and R78 has a fall ignored while the other select is low; the model
records the level there too. -/
def State.selFall (s : State) (w : SelFall) : State :=
  if w.rdy then { s with host := { s.host with mode3 := w.sckHigh } } else s

/-- Select fall and command phase of a CS0 frame: FSTAT goes out on IO1 in a single-lane command phase, and IO1 is held in a 1-1-1
frame (R116, R119). -/
def State.cs0Fall (s : State) (w : SelFall) (hold : Bool) : State :=
  let t := s.selFall w
  if w.rdy && !w.other && !s.host.cmdq then { t with link := { t.link with fstat := s.fstatNow, io1Low := hold } } else t

/-- IO1 stays driven until the data phase (R119). -/
def hfHoldsIo1 (f : HostFrame) : Bool := f.cmd.isSome && f.lanes == 0

def State.cs0End (s : State) (aborted : Bool) : State :=
  { s with link := { s.link with prevAbort := aborted, prevWrite := false } }

/-- Single-lane command mode from the next frame on (R120). -/
def State.modeReset (s : State) : State := { s with host := { s.host with cmdq := false } }

/-- A write frame that passes R128 waits to be applied. -/
def State.acceptWrite (s : State) (f : HostFrame) : State :=
  { s with link := { s.link with writes := s.link.writes ++ [{ addr := hfAddr f, data := hfData f }] } }

/-- What a read frame drives: data, CRC, then 0x00, cycle by cycle until the release; nothing before its address is whole (R123).
`inverted`: the CRC goes out inverted (R126, R129). -/
def State.driveRead (s : State) (f : HostFrame) (bytes : List Byte) (inverted : Bool) : State :=
  let crc := crc16 (hfHead f ++ bytes)
  let sent := f.crc && hfAddressed f && decide (hfCount f < f.count)
  { s with link := { s.link with
      rdQuad := f.lanes != 0 || s.host.cmdq
      rdData := bytes
      rdCrc := if sent then some (BitVec.ofNat 16 (if inverted then Nat.xor crc 0xFFFF else crc)) else none
      rdPad := if sent then f.count - (hfCount f + 2) else 0
      rdClocks := if hfAddressed f then f.clocks else 0 } }

/-- Data bytes that a read frame begins to clock out (R123). -/
def hfClocked (f : HostFrame) : Nat :=
  if !hfAddressed f then 0 else if f.crc then min (hfCount f) f.count else f.count

/-- A read frame returns sampled data, a byte not fetched in time as 0xFF; the CRC is inverted on an underrun (R126, R131). -/
def State.readOut (s : State) (f : HostFrame) : State :=
  let n := hfClocked f
  let bytes := (List.range n).map (fun i => if f.late.contains i then (0xFF : Byte) else s.hostByte (hfAddr f + i))
  let under := f.late.any (fun i => decide (i < n))
  let t := s.driveRead f bytes under
  { t with host := { t.host with rundr := if under then min 0xFFFF (t.host.rundr + 1) else t.host.rundr } }

/-- An aborted read drives 0x00 and its CRC, if one was requested, inverted; one that was ignored from its select fall drives nothing
(R129, R133, R78). DESIGN CHOICE (log entry 32): that CRC stands where the counted bytes end. -/
def State.readZeros (s : State) (f : HostFrame) (why : Nat) : State :=
  if why ≤ 0x02 then { s with link := { s.link with rdData := [], rdCrc := none, rdPad := 0, rdClocks := 0 } }
  else s.driveRead f (List.replicate (hfClocked f) 0) true

/-- A released CS0 frame: mode reset, write or read, or aborted (R120, R128, R129, R131). A frame that is released after SYS has left
Ready is lost with the port. -/
def State.cs0Frame (s : State) (f : HostFrame) : State :=
  if f.fall.rdy && !s.rdy then s
  else
    let why := abortCause s f false
    let t := (s.cs0Fall f.fall (hfHoldsIo1 f)).cs0End (why != 0)
    if why ≠ 0 then (if f.isRead then t.readZeros f why else t).abort why
    else if f.isReset then t.modeReset
    else if f.isRead then t.readOut f
    else t.acceptWrite f

/-- HOST_WRITE_FRAME: a released write frame is accepted and waits to be applied, or is aborted (R128, R129). -/
def execHostWriteFrame (f : SckFrame) (s : State) : Host.Outcome State Fault Refusal := .next (s.cs0Frame (s.hostFrame f))

/-- Write the bytes of an accepted write in ascending address order, as one update (R130). -/
def applyWrite (w : HostWrite) (s : State) : State :=
  if w.addr < 0xC0 then (regWords w.addr w.data).foldl (fun s r => regWrite r.1 r.2 s) s
  else if w.addr < 0x1000 then s.putSlot (w.addr - 0x0800) w.data
  else s.putBulk (w.addr - 0x1000) w.data

/-- WRITE_APPLIED: the oldest accepted write takes effect and RDY rises (R130, R132). -/
def execWriteApplied (s : State) : Host.Outcome State Fault Refusal :=
  .next (match s.link.writes with
    | [] => s
    | w :: r =>
      let s' := applyWrite w { s with link := { s.link with writes := r } }
      { s' with link := { s'.link with prevWrite := !s'.link.prevAbort } })

/-- HOST_READ_FRAME: sampled data, and the CRC where asked for (R126, R131). -/
def execHostReadFrame (f : SckFrame) (s : State) : Host.Outcome State Fault Refusal := .next (s.cs0Frame (s.hostFrame f))

/-- A mode reset: a frame whose command phase reads 0xFF, whatever follows it. -/
def modeResetFrame (w : SelFall) : HostFrame :=
  { fall := w, cmd := some 0xFF, addr := [], data := [], clocks := 0, count := 0, late := [], ragged := false }

/-- MODE_RESET: single-lane command mode at release; nothing else changes (R120). -/
def execModeReset (w : SelFall) (s : State) : Host.Outcome State Fault Refusal := .next (s.cs0Frame (modeResetFrame w))

/-- HOST_SCK_TIMEOUT: no SCK edge for 500 µs while selected aborts the frame, but no mode reset and no read, which goes on, and no
frame that is ignored until its release (R120, R129, R133). -/
def execHostSckTimeout (w : SckFrame) (s : State) : Host.Outcome State Fault Refusal :=
  .next (
    let f := s.hostFrame w
    let why := abortCause s f true
    if !s.rdy || why ≤ 0x02 || (f.isRead && !s.cmdUnknown f) then s
    else (((s.cs0Fall f.fall (hfHoldsIo1 f)).cs0End true).abort why))

/-- DBELL: hand over or refuse each named slot (R150). -/
def execDbell (v : BitVec 16) (s : State) : Host.Outcome State Fault Refusal := .next (dbellWrite v s)

/-- HDONE_CLEAR: a written 1 clears the bit (R135). -/
def execHdoneClear (v : BitVec 16) (s : State) : Host.Outcome State Fault Refusal :=
  .next { s with host := { s.host with hdone := s.host.hdone &&& ~~~ v } }

def execDbrejClear (v : BitVec 16) (s : State) : Host.Outcome State Fault Refusal :=
  .next { s with host := { s.host with dbrej := s.host.dbrej &&& ~~~ v } }

def execAttsrcClear (v : BitVec 16) (s : State) : Host.Outcome State Fault Refusal := .next (attsrcClear v.toNat s)

/-- STRSTAT_CLEAR: bits [16:13] written as 1 clear (R135); `v` is the register value. -/
def execStrstatClear (v : BitVec 32) (s : State) : Host.Outcome State Fault Refusal := .next (strstatClear v.toNat s)

def execStrearlyClear (s : State) : Host.Outcome State Fault Refusal :=
  .next { s with host := { s.host with strEarly := 0 } }

def execCrcerrClear (s : State) : Host.Outcome State Fault Refusal :=
  .next { s with host := { s.host with crcErr := 0 } }

def execAbortcntClear (s : State) : Host.Outcome State Fault Refusal :=
  .next { s with pins := { s.pins with rejects := tabSet s.pins.rejects 165 0 0 } }

def execAbortwhyClear (s : State) : Host.Outcome State Fault Refusal :=
  .next { s with host := { s.host with abortWhy := 0 } }

def execRundrClear (s : State) : Host.Outcome State Fault Refusal :=
  .next { s with host := { s.host with rundr := 0 } }

/-- HWDOG: kick or arm the host watchdog (R136). -/
def execHwdog (_v : BitVec 32) (s : State) : Host.Outcome State Fault Refusal := .next (hwdogWrite s)

/-- HOST_WATCHDOG_EXPIRY: the armed watchdog got no kick for dev.host.wdog; `us`: time since the last one, which the frames since then
bound (R136). -/
def execHostWatchdogExpiry (us : Nat) (s : State) : Host.Outcome State Fault Refusal :=
  .next (if s.link.wdArmed && s.par 0x0062 != 0 && !s.link.wdFired && decide (1000 * s.par 0x0062 ≤ us) &&
      decide (us ≤ 50 * ((s.frame.counter - s.link.wdAt).toNat + 1)) then
      ({ s with link := { s.link with wdFired := true } } : State).note 0x1001 0 0 true
    else s)

/-- CRCCTL_SET: a host write of 1 sets REQ until reset; a write of 0 leaves it (R127). -/
def execCrcctlSet (v : BitVec 32) (s : State) : Host.Outcome State Fault Refusal :=
  .next { s with host := { s.host with crcReq := s.host.crcReq || v.getLsbD 0 } }

/-- CMDQ_WRITE: HCFG.CMDQ selects the command mode from the next frame on (R120). -/
def execCmdqWrite (v : BitVec 32) (s : State) : Host.Outcome State Fault Refusal :=
  .next { s with host := { s.host with cmdq := v.getLsbD 0 } }

/-! ### CS1 streams -/

/-- Record the count and flags of a CS1 release of `clocked` bits, and what the device sent: its string, and 0 beyond STRLEN (R137 to
R139). -/
def cs1Count (s : State) (clocked : Nat) (out : List Bool) : State :=
  let n := min clocked s.host.strlen
  { s with
    host := { s.host with
      strCnt := n
      strOver := s.host.strOver || decide (s.host.strlen < clocked)
      strEarlyF := s.host.strEarlyF || decide (n < s.host.strlen)
      strEarly := if n < s.host.strlen then min 0xFFFF (s.host.strEarly + 1) else s.host.strEarly }
    link := { s.link with csOut := fit clocked false (fit n false out) } }

/-- The bridge may take the sensor port (R416). -/
def State.bridgeOk (s : State) : Bool := s.unitOn 4 && s.par 0x2406 == 1

/-- Cause of Table HOST-5 that a CS1 transfer meets, 0x0D before 0x0E (R129, R133). -/
def cs1Cause (s : State) (w : SelFall) : Nat :=
  if !w.rdy then 0x01
  else if w.other then 0x02
  else if s.host.strBrbusy then 0x0D
  else if s.host.strSrc = 0 ∨ (s.host.strSrc = 1 ∧ !s.bridgeOk) then 0x0E
  else 0

/-- A CS1 transfer: aborted, or `k` (R129). One released after SYS has left Ready is lost with the port. -/
def State.cs1Frame (s : State) (f : SelFall) (k : State → State) : State :=
  if f.rdy && !s.rdy then s
  else
    let why := cs1Cause s f
    if why = 0 then k (s.selFall f) else (s.selFall f).abort why

/-- A release with SRC = 1: the response held goes out, and the bits received start a transfer on SSCS(STRCTL.SSEL) (R140). -/
def bridgeStart (bits : List Bool) (s : State) : State :=
  let n := min bits.length s.host.strlen
  let t := cs1Count s bits.length s.link.brResp
  let t := { t with link := { t.link with brResp := [] } }
  if n = 0 then t
  else { t with host := { t.host with strBrbusy := true }
                link := { t.link with brSend := bits.take n, brSel := s.host.strSsel }
                sensor := { t.sensor with bridge := true } }

/-- SENSOR_BRIDGE_TRANSFER: a CS1 release with SRC = 1 starts a transfer of the bits received (R140). -/
def execSensorBridgeTransfer (w : SelFall) (bits : List Bool) (s : State) : Host.Outcome State Fault Refusal :=
  .next (s.cs1Frame w (fun t => if t.host.strSrc = 1 then bridgeStart bits t else t))

/-- Failure of a read of a select under Table CMP-5, as a status of SP_STATUS (0 none, 2 SSDI low at the start, 3 no acknowledge), and
the bits sampled. `l`: the level of SSDI at the start, with sp.ack = 1 its level at the end of sp.tresp, then the samples. -/
def State.readHead (s : State) (l : List Bool) : Nat × List Bool :=
  let ack := s.par 0x2404 == 1
  (if !l.headD true then 2 else if ack && (l.drop 1).headD true then 3 else 0, l.drop (if ack then 2 else 1))

/-- The bridge transfer ends: BRDONE, or BRTO with a response of zeros (R140, R417). -/
def State.bridgeEnd (s : State) (timeout : Bool) (bits : List Bool) : State :=
  if s.host.strBrbusy then
    let n := s.link.brSend.length
    { s with host := { s.host with strBrbusy := false, strBrdone := true, strBrto := s.host.strBrto || timeout }
             link := { s.link with brSend := [], brResp := if timeout then List.replicate n false else fit n false bits }
             sensor := { s.sensor with bridge := false } }
  else s

/-- BRIDGE_TRANSFER_DONE: the transfer is judged under Table CMP-5 (R417). -/
def execBridgeTransferDone (read : List Bool) (s : State) : Host.Outcome State Fault Refusal :=
  .next (s.bridgeEnd ((s.readHead read).1 != 0) (s.readHead read).2)

/-- Bits of the snapshot record, bit 511 first, then zeros (R141). -/
def State.snapBits (s : State) (n : Nat) : List Bool :=
  fit n false (s.link.snapshot.flatMap (fun b => msbBits 8 b.toNat))

/-- A CS1 transfer of `clocks` cycles with SRC = 2 sends the record; received bits are discarded (R137, R141). DESIGN CHOICE (log entry
32): R140 has "the next CS1 transfer" send the bridge's response; this one sends its own string, and the response stays for the next
transfer with SRC = 1. -/
def snapshotOut (clocks : Nat) (s : State) : State :=
  let b := if s.host.strQuad then 4 * clocks else clocks
  cs1Count s b (s.snapBits (min b s.host.strlen))

/-- SNAPSHOT_READOUT: a CS1 transfer with SRC = 2 (R141). -/
def execSnapshotReadout (w : SelFall) (clocks : Nat) (s : State) : Host.Outcome State Fault Refusal :=
  .next (s.cs1Frame w (fun t => if t.host.strSrc = 2 then snapshotOut clocks t else t))

/-- CS1_TRANSFER_REFUSED: CS1 fell while RDY was low, the other select was low, the bridge was busy or not permitted, or SRC was off
(R129). -/
def execCs1TransferRefused (w : SelFall) (s : State) : Host.Outcome State Fault Refusal := .next (s.cs1Frame w id)

end Sys2Proof.Machine
end

