-- ==== Sys2Proof/Machine/Wire.lean ====
section
/-! DEFINITION. Building fabric and ISOBUS frames, the class queues and their counters (15, 16). -/

namespace Sys2Proof.Machine

/-! ### Fabric frames -/

/-- Segment of a port: fixed, else learned or granted (R469). -/
def State.portSeg (s : State) (p : Fin 2) : Option Nat :=
  if s.par (netId p 2) ≠ 0xFFFF then some (s.par (netId p 2)) else (s.ports.get p).seg

/-- Address of a port: segment in [15:6], index in [5:0]; segment 0 while it is not known (R462). -/
def State.portAddr (s : State) (p : Fin 2) : Nat := (s.portSeg p).getD 0 * 64 + (s.ports.get p).index

/-- Payload lengths of CAN FD used (R457). -/
def fdLen (n : Nat) : Nat :=
  if n ≤ 8 then 8 else if n ≤ 12 then 12 else if n ≤ 16 then 16 else if n ≤ 20 then 20 else if n ≤ 24 then 24
  else if n ≤ 32 then 32 else if n ≤ 48 then 48 else 64

/-- Fields of an Amister frame (Tables FAB-2 and FAB-4). -/
structure AmHead where
  cls    : Nat
  kind   : Nat
  disc   : Nat
  txidx  : Nat
  local_ : Bool
  ftime  : Bool
  hops   : Nat
  dmode  : Nat
  resp   : Bool
  more   : Bool
  fseq   : Nat
  dst    : Nat
  src    : Nat
  nh     : Nat
  tag    : Nat
deriving DecidableEq, Repr

/-- A frame from its fields and body (R457, R458). -/
def mkFrame (a : AmHead) (body : List Byte) : AmFrame :=
  { ident := BitVec.ofNat 29 (a.cls * 2 ^ 27 + a.kind * 2 ^ 23 + a.disc % 2 ^ 17 * 64 + a.txidx % 64)
    data := fit (fdLen (8 + body.length)) 0
      (b8 (0x40 + 32 * b01 a.local_ + 16 * b01 a.ftime + a.hops % 16)
        ++ b8 (a.dmode % 4 * 64 + 32 * b01 a.resp + 16 * b01 a.more + a.fseq % 16)
        ++ le16 a.dst ++ le16 a.src ++ b8 a.nh ++ b8 a.tag ++ body) }

/-- The fields of a received frame. -/
def headOf (f : AmFrame) : AmHead :=
  let i := f.ident.toNat
  let b0 := getB f.data 0
  let b1 := getB f.data 1
  { cls := i / 2 ^ 27 % 4, kind := i / 2 ^ 23 % 16, disc := i / 64 % 2 ^ 17, txidx := i % 64,
    local_ := bit b0 5, ftime := bit b0 4, hops := b0 % 16, dmode := b1 / 64, resp := bit b1 5, more := bit b1 4, fseq := b1 % 16,
    dst := get16 f.data 2, src := get16 f.data 4, nh := getB f.data 6, tag := getB f.data 7 }

def bodyOf (f : AmFrame) : List Byte := f.data.drop 8

/-- Class of a kind, and whether DISC must be 0 (Table FAB-3); none for a reserved kind. -/
def kindClass (kind cls : Nat) : Bool :=
  match kind with
  | 0x0 | 0xA => cls == 1
  | 0x1 | 0x2 | 0x3 | 0x5 | 0x6 | 0x9 => cls == 0
  | 0x4 => cls == 0 || cls == 2
  | 0x7 | 0x8 => cls == 2
  | 0xB => cls == 2 || cls == 3
  | _ => false

/-- A received frame obeys R459 and R460. -/
def frameOk (f : AmFrame) : Bool :=
  let a := headOf f
  decide (8 ≤ f.data.length) && kindClass a.kind a.cls &&
  (a.kind == 1 || (if a.kind = 4 then decide (a.disc < 128) else a.disc == 0)) &&
  getB f.data 0 / 64 == 1 && (!a.ftime || a.kind == 5) && (a.nh ≤ 0x40) &&
  !((a.dmode == 1 || a.dmode == 2) && a.dst != 0)

/-- Next hop towards an address: the segment's own nodes by DST; else the route entry; else the node that beacons the
segment, since a node that is no router knows no other next hop (log entry 12). -/
def State.nextHop (s : State) (p : Fin 2) (dst : Nat) : Nat :=
  if s.portSeg p = some (dst / 64) ∨ s.portSeg p = none then 0x40
  else
    match s.fab.routes.find? (fun r => r.seg == dst / 64 && r.port == p.val + 1 && decide (r.metric < 16)) with
    | some r => if r.metric = 1 then 0x40 else r.nh
    | none => match (s.ports.get p).source with | some i => i | none => 0x40

/-- Header of a frame that the device originates on a port. -/
def State.ownHead (s : State) (p : Fin 2) (cls kind dmode dst tag : Nat) (resp : Bool) : AmHead :=
  { cls := cls, kind := kind, disc := 0, txidx := (s.ports.get p).index, local_ := (s.portSeg p).isNone, ftime := false,
    hops := 15, dmode := dmode, resp := resp, more := false, fseq := 0, dst := dst, src := s.portAddr p,
    nh := if dmode = 0 then s.nextHop p dst else 0x40, tag := tag }

/-- Cut a body into fragments of at most 56 bytes (R494). -/
def fragments (n : Nat) (body : List Byte) : List (List Byte) :=
  match n with
  | 0 => []
  | k + 1 => if body.length ≤ 56 then [body] else body.take 56 :: fragments k (body.drop 56)

/-- The frames of a message: equal SRC and TAG, FSEQ from 0, MORE on all but the last (R494). -/
def msgFrames (a : AmHead) (body : List Byte) : List AmFrame :=
  let fs := fragments 16 body
  (List.range fs.length).map (fun i =>
    mkFrame { a with fseq := i, more := decide (i + 1 < fs.length) } (fs.getD i []))

/-! ### Class queues (R493, Table EDGE-4) -/

def classDepth (c : Fin 4) : Nat := match c with | 0 => 16 | 1 => 4 | 2 => 32 | 3 => 64

def PortSt.room (q : PortSt) (c : Fin 4) (n : Nat) : Bool := decide ((q.queues.get c).length + n ≤ classDepth c)

/-- Append frames to a class queue and count them. -/
def PortSt.push (q : PortSt) (c : Fin 4) (fs : List QFrame) : PortSt :=
  let l := q.queues.get c ++ fs
  { q with queues := q.queues.set c l
           queuedN := q.queuedN.upd c (· + fs.length)
           peaks := q.peaks.upd c (fun v => max v l.length) }

/-- Frames as queue entries of one message. -/
def asQueue (hop : Option Nat) (fs : List AmFrame) : List QFrame :=
  (List.range fs.length).map (fun i =>
    { frame := fs.getD i { ident := 0, data := [] }, hop := hop, last := i + 1 == fs.length, frames := fs.length })

/-- Queue a local control message whole, or say that there is no room and its producer waits (Table EDGE-4). -/
def State.queueControl (s : State) (p : Fin 2) (fs : List AmFrame) : Option State :=
  if (s.ports.get p).room 0 fs.length then some (s.updPort p (fun q => q.push 0 (asQueue none fs))) else none

/-! ### ISOBUS frames (R516 to R521) -/

/-- Identifier of a PDU1 or PDU2 message. -/
def isoIdent (prio pgn dst src : Nat) : BitVec 29 :=
  let pf := pgn / 256 % 256
  BitVec.ofNat 29 (prio % 8 * 2 ^ 26 + pgn / 65536 % 4 * 2 ^ 24 + pf * 65536
    + (if pf < 240 then dst % 256 else pgn % 256) * 256 + src % 256)

/-- PGN, destination and source of a received frame; a PDU2 message is global (255). -/
def isoPgn (f : IsoFrame) : Nat :=
  let i := f.ident.toNat
  let pf := i / 65536 % 256
  i / 2 ^ 24 % 4 * 65536 + pf * 256 + (if pf < 240 then 0 else i / 256 % 256)
def isoDst (f : IsoFrame) : Nat := if f.ident.toNat / 65536 % 256 < 240 then f.ident.toNat / 256 % 256 else 255
def isoSrc (f : IsoFrame) : Nat := f.ident.toNat % 256

/-- The ISO port of a twin device that is STANDBY or OFF only listens (R559). -/
def State.isoBarred (s : State) : Bool := s.unitOn 8 && (s.twin.role == .standby || s.twin.role == .off)

/-- Queue a frame for the ISO controller, unless the port sends nothing as a twin's second port, off the bus or stopped. While the
clocks settle, or PLLC is not locked, the frame waits in the queue (R41). -/
def State.isoSend (s : State) (f : IsoFrame) : State :=
  if s.isoBarred || s.iso.busOff || s.iso.stopped then s
  else { s with iso := { s.iso with tx := s.iso.tx ++ [f] } }

/-- The frame at the head of the ISO controller's queue has gone out: the controller runs, sends, and CANCLK is locked (R41, R516). -/
def State.isoSent (s : State) : State :=
  let i := s.iso
  if !s.unitOn 7 || i.busOff || i.stopped || i.listenOnly || s.clock.settle.isSome || s.clock.pllc != .locked then s
  else { s with iso := { i with tx := i.tx.drop 1 } }

def isoMsg (prio pgn dst src : Nat) (d : List Byte) : IsoFrame := { ident := isoIdent prio pgn dst src, data := d }

/-- Three bytes of a PGN, least significant first. -/
def pgn3 (pgn : Nat) : List Byte := leBytes 3 pgn

/-- Open a sending RTS/CTS connection: at most four, one per destination (R520). -/
def State.openTp (s : State) (dst pgn : Nat) (body : List Byte) : Option State :=
  let tx := s.iso.sessions.filter (fun t => !t.rx)
  if decide (4 ≤ tx.length) || tx.any (fun t => t.peer == dst) then none
  else
    let n := body.length
    let s := { s with iso := { s.iso with sessions := s.iso.sessions ++
      [({ peer := dst, rx := false, bam := false, pgn := pgn, size := n, next := 1, body := body } : TpSession)] } }
    some (s.isoSend (isoMsg (s.par 0x7008) 0xEC00 dst s.iso.addr (b8 16 ++ le16 n ++ b8 (cdiv n 7) ++ b8 0xFF ++ pgn3 pgn)))

end Sys2Proof.Machine
end

