-- ==== Sys2Proof/Machine/Survey.lean ====
section
/-! DEFINITION. The survey: owner rules, requires rules, deadlines, the bench check and the report (01, 06 and the survey
tables of the other chapters). -/

namespace Sys2Proof.Machine

/-- One finding of the survey: stage 1 to 5, code, qualifier (0xFF where its table gives none). -/
structure Finding where
  stage : Nat
  code  : Nat
  qual  : Nat
deriving DecidableEq, Repr

/-- A prospective configuration: mask of units (Table PAR-2) and of axes. -/
structure Cfg where
  units : Nat
  axes  : Nat
deriving DecidableEq, Repr

/-- Taken and not completed. -/
def HopStage.inFlight : HopStage → Bool
  | .waitTag | .waitAxis | .waitBarrier | .held | .started => true
  | _ => false

def State.flying (s : State) (h : Nat) : Bool := (s.hop h).stage.inFlight

/-- What accepted enables name, as a mask: units of ENABLE_UNIT, axes of ENABLE_AXIS commands in flight. -/
def State.enabling (s : State) (op : Nat) : Nat :=
  ((hops32.filter (fun h => s.flying h && s.opcode h == op)).map (fun h => if op = 4 then s.p16 h 0 % 1024 else s.axmask h)).foldl Nat.lor 0

/-- The running configuration with every accepted enable, also one that waits for its tag or behind a barrier (06, the survey; R187). -/
def State.cfg (s : State) : Cfg :=
  { units := Nat.lor (Nat.lor s.params.units.toNat s.params.asked.toNat) (s.enabling 0x0004)
    axes := Nat.lor (maskOf (axes4.map (fun n => !s.axOff n))) (s.enabling 0x0101) }

def Cfg.ax (c : Cfg) (n : Fin 4) : Bool := c.axes.testBit n.val
def Cfg.un (c : Cfg) (b : Nat) : Bool := c.units.testBit b
def Cfg.device (c : Cfg) : Bool := c.axes != 0 || c.un 5 || c.un 6 || c.un 7 || c.un 8

/-- A working set read by ID. -/
abbrev Vals := List (Nat × Nat)

def fnd (c : Bool) (stage code qual : Nat) : List Finding := if c then [{ stage := stage, code := code, qual := qual }] else []

/-! ### Currents and shapes used by rules (R240 to R246) -/

/-- Gain of code 0 to 3, V/V. -/
def gainOf (g : Nat) : Nat := 5 * 2 ^ (g % 4)

/-- I_LSB in mA: 3.3 V / 4096 / (G × R_sh), with R_sh in 0.1 mΩ (R240). -/
def iLsb (rsh gain : Nat) : Rat := mkRat (33000000 : Int) (4096 * rsh * gainOf gain)

/-- Largest allowed axn.cur.imax in mA: 0.9 × 2047 × I_LSB rounded down (R241). -/
def imaxLimit (rsh gain : Nat) : Nat := (18423 * 33000000) / (10 * 4096 * rsh * gainOf gain)

/-- The entries of a table with T(256) = 4095. -/
def tEntry (t : List Nat) (i : Nat) : Nat := if 256 ≤ i then 4095 else t.getD i 0

/-- First index below `n` that breaks a rule. -/
def firstBad (n : Nat) (ok : Nat → Bool) : Option Nat := (List.range n).find? (fun i => !ok i)

/-- Codes SV-0x0128 to SV-0x012B of Table CUR-3 with the lowest index of each. -/
def chiselFindings (t : List Nat) : List Finding :=
  (match firstBad 256 (fun i => decide (tEntry t i ≤ tEntry t (i + 1))) with
    | some i => [{ stage := 2, code := 0x0128, qual := i }] | none => []) ++
  (match firstBad 256 (fun i => decide ((tEntry t (i + 1) : Int) - tEntry t i ≤ 256)) with
    | some i => [{ stage := 2, code := 0x0129, qual := i }] | none => []) ++
  fnd (decide (255 < tEntry t 0)) 2 0x012A 0 ++
  fnd (!decide (255 < tEntry t 0) && decide (tEntry t 255 < 3840)) 2 0x012A 255 ++
  (match firstBad 257 (fun i => decide (3276 * 3276 ≤ tEntry t i * tEntry t i + tEntry t (256 - i) * tEntry t (256 - i))) with
    | some i => [{ stage := 2, code := 0x012B, qual := min i 0xFF }] | none => [])

/-! ### Owner rules (stage 2) -/

/-- Rules of one axis owner. -/
def axisRules (s : State) (w : Vals) (n : Fin 4) : List Finding :=
  let a (i : Nat) := setVal w (axId n i)
  let ai (i : Nat) := setInt w (axId n i)
  let g (i : Nat) := setVal w (psId n i)
  let pin := g 0 == 1
  let span : Rat := 2048 * iLsb (a 0x18) (a 0x19)
  fnd (pin && bit (a 0x40) 1) 2 0x0001 n.val ++
  fnd (decide (a 0x45 < a 0x43) || decide (a 0x45 < a 0x42)) 2 0x0101 n.val ++
  fnd (decide (ai 0x47 - ai 0x46 < 1024)) 2 0x0102 n.val ++
  fnd (decide (imaxLimit (a 0x18) (a 0x19) < a 0x11)) 2 0x0120 n.val ++
  fnd (decide (a 0x11 < a 0x12) || decide (a 0x11 < a 0x13)) 2 0x0121 n.val ++
  fnd (a 0x17 == 1 && (s.cur.get n).userTab.isNone) 2 0x0122 n.val ++
  fnd (a 0x10 == 2 && decide (8 * a 0x1A < 9 * a 0x1B)) 2 0x0123 n.val ++
  fnd (decide (2 * a 0x03 ≤ a 0x00)) 2 0x0124 n.val ++
  fnd (a 0x60 != 0 && pin) 2 0x0140 n.val ++
  fnd (a 0x60 != 0 && !(decide (a 0x61 ≤ a 0x63) && decide (a 0x63 ≤ a 0x62))) 2 0x0141 n.val ++
  fnd (a 0x60 != 0 && decide (a 0x11 < a 0x62)) 2 0x0142 n.val ++
  fnd (!(decide (a 0x65 < a 0x66) && decide (a 0x66 < a 0x67) && decide (a 0x67 ≤ a 0x68))) 2 0x0143 n.val ++
  fnd (pin && a 0x40 != 1) 2 0x0304 n.val ++
  fnd (decide (g 0x18 < g 0x0A + 20)) 2 0x0305 n.val ++
  fnd (decide (g 0x13 < 2 * g 0x05 + g 0x07)) 2 0x0306 n.val ++
  fnd (decide (g 0x10 * 200 < 50 * g 0x11)) 2 0x0307 n.val ++
  fnd (decide (10 * g 0x15 < 11 * a 0x11) || decide (10 * g 0x16 < 11 * a 0x11) ||
    decide (mkRat 98 100 * span < (g 0x15 : Rat)) || decide (mkRat 98 100 * span < (g 0x16 : Rat))) 2 0x0308 n.val

/-- Weight of a regular qualified edge (Table FBK-3). -/
def edgeWeight (mode : Nat) : Nat := if mode = 1 then 4 else 1

/-- Rules of unit FBn. -/
def fbRules (w : Vals) (n : Fin 4) : List Finding :=
  let f (i : Nat) := setVal w (fbId n i)
  let fi (i : Nat) := setInt w (fbId n i)
  let mode := f 0
  let pin := setVal w (psId n 0) == 1
  let gap := if f 0x13 = 4 then 0 else f 0x13
  let cu (u i : Nat) := f (0x40 + 0x10 * u + i)
  let cui (u i : Nat) := fi (0x40 + 0x10 * u + i)
  let drives (u : Nat) := cu u 0 != 0 && cu u 3 != 0
  fnd (pin && (mode != 0 || drives 0 || drives 1 || f 0x60 == 1)) 2 0x0001 n.val ++
  fnd (decide (fi 9 - fi 8 < 16) || decide (fi 0x0B < fi 8) || decide (fi 9 < fi 0x0B)) 2 0x0201 n.val ++
  fnd (mode == 4 && ((f 0x0A == 2 && f 0x13 == 0) || decide (f 0x12 < 8 + gap))) 2 0x0202 n.val ++
  fnd (f 0x1B != 0 && decide (fi 0x1D < fi 0x1C)) 2 0x0203 n.val ++
  fnd (decide (1 ≤ mode) && decide (mode ≤ 4) &&
    decide (7 * f 0x18 * f 0x19 * 50 < 16 * 8 * 1000000 * edgeWeight mode)) 2 0x0204 n.val ++
  fnd ((f 0x0A == 1 && mode != 1) || (f 0x0A == 2 && mode != 4) || (f 0x0A == 3 && mode != 5) ||
    ((f 0x0C == 1 || f 0x15 == 2) && f 5 == 0)) 2 0x0206 n.val ++
  ([0, 1].flatMap (fun u => fnd (decide (cui u 6 < cui u 5)) 2 0x0221 (2 * n.val + u))) ++
  ([0, 1].flatMap (fun u => fnd (cu u 0 == 1 && mode == 0) 2 0x0222 (2 * n.val + u))) ++
  fnd (drives 0 && drives 1 && (cu 0 3 != cu 1 3 || cu 0 3 == 3)) 2 0x0223 n.val

/-! #### Sensor chain (R411 to R413) -/

/-- Slots in use on select `j`, ascending. -/
def chainSlots (w : Vals) (j : Nat) : List Nat :=
  (List.range 16).filter (fun k => let v := setVal w (0x2410 + k); v % 256 != 0 && v / 2 ^ 25 % 4 == j)

def slotBits (w : Vals) (k : Nat) : Nat := setVal w (0x2410 + k) % 256

/-- Sum of FBITS on a select, and its TAIL from the highest slot in use. -/
def chainBits (w : Vals) (j : Nat) : Nat := ((chainSlots w j).map (slotBits w)).foldl (· + ·) 0
def chainTail (w : Vals) (j : Nat) : Nat :=
  match (chainSlots w j).getLast? with
  | some k => setVal w (0x2410 + k) / 2 ^ 27 % 2
  | none => 0

/-- T_j in units of 10 ns: 0.4 µs + (B + TAIL) / f_ss, plus sp.tresp with sp.ack (Table CMP-5). -/
def readTime (w : Vals) (bits : Nat) : Nat :=
  40 + bits * cdiv 100000 (setVal w 0x2400) + (if setVal w 0x2404 = 1 then 100 * setVal w 0x2405 else 0)

def selectTime (w : Vals) (j : Nat) : Nat := readTime w (chainBits w j + chainTail w j)

def usedSelects (w : Vals) : List Nat := [0, 1, 2, 3].filter (fun j => !(chainSlots w j).isEmpty)

/-- sp.start + ΣT_j in units of 10 ns. -/
def chainTime (w : Vals) : Nat :=
  100 * setVal w 0x2402 + ((usedSelects w).map (selectTime w)).foldl (· + ·) 0

/-- Bits b of the position field of the channels that name slot `k`. -/
def slotFieldBits (w : Vals) (k : Nat) : List Nat :=
  (axes4.filter (fun n => setVal w (fbId n 0) == 5 && setVal w (fbId n 0x1E) == k)).map (fun n => setVal w (fbId n 0x16) % 64)

/-- Rules of unit FBX. -/
def fbxRules (w : Vals) : List Finding :=
  let d (k i : Nat) := setVal w (0x2440 + 8 * k + i)
  ([0, 1].flatMap (fun k => fnd (d k 0 / 16 == 3 && setVal w (psId (Fin.ofNat 4 (d k 0 % 16)) 0) == 1) 2 0x0001 (d k 0 % 16))) ++
  ([0, 1].flatMap (fun k => fnd (decide (d k 2 < d k 1)) 2 0x0226 k)) ++
  ([0, 1].flatMap (fun k => fnd (d k 0 / 16 == 1 && setVal w (fbId (Fin.ofNat 4 (d k 0 % 16)) 0) == 0) 2 0x0227 k)) ++
  fnd (decide (4500 < chainTime w)) 2 0x0228 (min 0xFE (cdiv (chainTime w) 100)) ++
  ((usedSelects w).flatMap (fun j => fnd (decide (4990 < selectTime w j + 100 * setVal w 0x2401)) 2 0x0229 j)) ++
  ((List.range 16).flatMap (fun k =>
    let v := setVal w (0x2410 + k)
    let lsb := v / 256 % 256
    let eb := v / 65536 % 256
    fnd (if v % 256 = 0 then !(slotFieldBits w k).isEmpty
      else (eb != 0xFF && decide (v % 256 ≤ eb)) || decide (v % 256 ≤ lsb) ||
        (slotFieldBits w k).any (fun b => decide (v % 256 < lsb + b))) 2 0x022A k))

/-! #### Schedules (R487 to R490) -/

/-- Bit rates of a port in kbit/s. -/
def arbRate (v : Nat) : Nat := if v = 0 then 500 else 1000
def dataRate (v : Nat) : Nat := match v with | 0 => 2000 | 1 => 4000 | _ => 5000

/-- t(n) in nanoseconds times the data rate in Mbit/s (R461), as an exact rational of µs. -/
def busTime (arb data n : Nat) : Rat :=
  mkRat (57000 : Int) (arbRate arb) + mkRat ((((if n ≤ 16 then 33 else 38) + 10 * n) * 1000 : Nat) : Int) (dataRate data)

/-- Entries due in superframe `sf` (R488). -/
def dueIn (t : Sched) (sf : Nat) : List SchedEntry := t.entries.filter (fun e => sf % 2 ^ e.per == e.off)

/-- F(s) of R489 in µs. -/
def finishTime (t : Sched) (sf : Nat) : Rat :=
  let rel (f : Nat) : Rat :=
    ((dueIn t sf).filter (fun e => f ≤ e.frame)).foldl (fun a e => a + busTime t.arb t.data (fdLen (8 + e.len)))
      (if f = 0 then busTime t.arb t.data 32 else 0)
  (List.range t.w).foldl (fun m f => max m ((50 * f : Nat) + rel f)) 0

/-- Worst superframe of a schedule and its finish time; the lowest one among equals. -/
def worstFinish (t : Sched) : Nat × Rat :=
  let period := 2 ^ ((t.entries.map (·.per)).foldl max 0)
  (List.range period).foldl (fun m sf => let v := finishTime t sf; if m.2 < v then (sf, v) else m) (0, 0)

/-- Bus load in per mille (R489). -/
def busLoad (t : Sched) : Nat := (Rat.ceil (1000 * (worstFinish t).2 / (50 * t.w : Nat))).toNat

/-- Rules of unit NETp. -/
def netRules (s : State) (w : Vals) (p : Fin 2) : List Finding :=
  let v (i : Nat) := setVal w (netId p i)
  let port := p.val + 1
  if v 4 = 0 then [] else
  match (s.ports.get p).sched with
  | none => [{ stage := 2, code := 0x0604, qual := port }]
  | some t =>
    fnd (v 0 != t.arb || v 1 != t.data) 2 0x0603 port ++
    fnd (decide (((50 * (20 - t.w) : Nat) : Rat) < busTime (v 0) (v 1) 64)) 2 0x0607 port ++
    fnd (v 2 != 0xFFFF && v 2 != t.segment) 2 0x0609 port

/-- Stage 4 of unit NETp: the bus budget (R489). -/
def netDeadline (s : State) (w : Vals) (p : Fin 2) : List Finding :=
  if setVal w (netId p 4) = 0 then [] else
  match (s.ports.get p).sched with
  | none => []
  | some t => let x := worstFinish t; fnd (decide (((50 * t.w : Nat) : Rat) < x.2)) 4 0x0605 x.1

/-- Rules owned by NET1 and NET2 jointly. -/
def netsRules (s : State) (w : Vals) : List Finding :=
  ((List.range 16).flatMap (fun k =>
    let act := setVal w (0x6051 + 4 * k)
    fnd (decide (2 ≤ act) && setVal w (0x6052 + 4 * k) == 0) 2 0x0622 k)) ++
  ((List.range 8).flatMap (fun k =>
    let pt := setVal w (0x6010 + 4 * k)
    if pt = 0 then [] else
    match (s.ports.get (if pt = 1 then 0 else 1)).sched with
    | none => [{ stage := 2, code := 0x060B, qual := k }]
    | some t =>
      fnd (!(t.entries.any (fun e => e.slot == setVal w (0x6011 + 4 * k) && decide (setVal w (0x6012 + 4 * k) + 4 ≤ e.len))))
        2 0x060B k))

/-- Rules of unit ISO. -/
def isoRules (w : Vals) : List Finding :=
  let nm := setVal w 0x7000
  fnd (nm == 0 || nm / 2 ^ 60 % 8 != 2) 2 0x0701 0xFF

/-- Rules of unit TWIN. -/
def twinRules (w : Vals) : List Finding :=
  axes4.flatMap (fun n => fnd ((setVal w 0x8000).testBit n.val &&
    (setVal w (psId n 0) == 1 || bit (setVal w (axId n 0x40)) 1)) 2 0x0801 n.val)

/-! #### Planner (R427, R437, R439, R447) -/

/-- Check resolution r doubled, in mm: plan.res, or half the voxel edge (R430). -/
def twiceRes (s : State) (w : Vals) : Nat := if setVal w 0x5001 = 0 then 10 * s.plan.vox else 2 * setVal w 0x5001

/-- Capsule pairs tested against each other (R430): links 2 or more apart, not of one non-zero group. -/
def capsulePairs (c : Chain) : Nat :=
  let n := c.caps.length
  ((List.range n).flatMap (fun i => (List.range i).filter (fun j =>
    match c.caps[i]?, c.caps[j]? with
    | some a, some b => decide (b.link + 2 ≤ a.link ∨ a.link + 2 ≤ b.link) && !(a.group == b.group && a.group != 0)
    | _, _ => false))).length

/-- c_it in PLANCLK cycles (R437). -/
def iterCost (s : State) (w : Vals) (c : Chain) : Nat :=
  let chk := 400 + 250 * c.caps.length + 60 * capsulePairs c
  1500 + (cdiv (2 * setVal w 0x5003) (twiceRes s w) + 1) * chk

def planRules (s : State) (w : Vals) : List Finding :=
  match s.plan.chain with
  | none => [{ stage := 2, code := 0x0502, qual := 0xFF }]
  | some c =>
    c.joints.flatMap (fun j => let n := Fin.ofNat 4 j.axis
      fnd (!bit (setVal w (axId n 0x40)) 3 || setVal w (psId n 0) == 1) 2 0x0503 j.axis)

def planDeadline (s : State) (w : Vals) : List Finding :=
  match s.plan.chain with
  | none => []
  | some c =>
    ((List.range 4).flatMap (fun k => fnd (decide (setVal w 0x5000 * setVal w (0x5011 + 2 * k)
        < 20000 + setVal w (0x5010 + 2 * k) * iterCost s w c)) 4 0x0504 k)) ++
    (c.joints.flatMap (fun j => let n := Fin.ofNat 4 j.axis
      -- max(acc, dec) + vmax / (stop_t × 50 µs) > halt_dec, with vmax raw in 1/256 µsteps/s
      fnd (decide ((setVal w (axId n 0x45) : Rat) < (max (setVal w (axId n 0x42)) (setVal w (axId n 0x43)) : Nat)
          + mkRat ((setVal w (axId n 0x41) * 20000 : Nat) : Int) (256 * setVal w 0x500A))) 4 0x0505 j.axis))

/-- Rules of the device owner. -/
def deviceRules (w : Vals) : List Finding :=
  let d := setVal w
  let br (b i : Nat) := d (0x4020 + 8 * b + i)
  ((List.range 4).flatMap (fun b => fnd (decide (br b 0 < 4) && d (psId (Fin.ofNat 4 (br b 0)) 0) == 1) 2 0x0401 b)) ++
  ((List.range 4).flatMap (fun b => fnd (decide (br b 1 < br b 3)) 2 0x0402 b)) ++
  ((List.range 4).flatMap (fun n => fnd (decide (2 ≤ ((List.range 4).filter (fun b => br b 0 == n)).length)) 2 0x0403 n)) ++
  ((List.range 4).flatMap (fun k => fnd (d (0x4000 + 4 * k) != 0 && decide (d (0x4002 + 4 * k) ≤ d (0x4001 + 4 * k))) 2 0x0404 k)) ++
  fnd (decide (d 0xA001 ≤ d 0xA000)) 2 0x0A01 0 ++ fnd (decide (d 0xA003 ≤ d 0xA002)) 2 0x0A01 1 ++
  fnd (decide (d 0xA005 ≤ d 0xA004)) 2 0x0A01 2 ++
  fnd (decide (d 0x005A < d 0x0058 + 2000) || decide (d 0x0058 < 16000 + d 0x0059)) 2 0x1301 0xFF ++
  fnd (d 0x0010 == 2 && d 0x0011 != 0) 2 0x1402 0xFF

/-- Speed-follow deadline rule of a ratio on an axis (R409). -/
def ratioOver (w : Vals) (n : Fin 4) (ratio : Int) : Bool :=
  decide (256 * setVal w (axId n 0x41) < ratio.natAbs * setVal w (axId n 0x80))

/-- Stages 2 and 4 of every owner of a configuration. -/
def ownerFindings (s : State) (w : Vals) (c : Cfg) : List Finding :=
  (axes4.flatMap (fun n => if c.ax n then
      axisRules s w n ++
      (let f := s.follow.get n
       if f.st != .none then fnd (ratioOver w n f.r1 || ratioOver w n f.ratio) 4 0x0220 n.val else [])
    else [])) ++
  (axes4.flatMap (fun n => if c.un n.val then fbRules w n else [])) ++
  (if c.un 4 then fbxRules w else []) ++
  (both2.flatMap (fun p => if c.un (5 + p.val) then netRules s w p ++ netDeadline s w p else [])) ++
  (if c.un 5 || c.un 6 then netsRules s w else []) ++
  (if c.un 7 then isoRules w else []) ++
  (if c.un 8 then twinRules w else []) ++
  (if c.un 9 then planRules s w ++ planDeadline s w else
    (axes4.flatMap (fun n => match s.plan.chain with
      | some ch => if c.ax n && ch.joints.any (fun j => j.axis == n.val) then
          fnd (!bit (setVal w (axId n 0x40)) 3 || setVal w (psId n 0) == 1) 2 0x0503 n.val else []
      | none => []))) ++
  (if c.device then deviceRules w else [])

/-! ### Requires rules (stage 3) -/

/-- Units that an axis or a unit needs (SV-0x0010): pairs of owner (axis, or 0x10 + unit bit) and unit bit. DESIGN CHOICE (log entry 32):
`axn.wedge.low_src` = 1 needs the feedback channel only while `axn.wedge.mode` is not 0. -/
def needs (w : Vals) (c : Cfg) : List (Nat × Nat) :=
  (axes4.flatMap (fun n => if c.ax n then
      (if bit (setVal w (axId n 0x40)) 3 then [(n.val, 9)] else []) ++
      (if setVal w (axId n 0x6F) = 1 ∧ setVal w (axId n 0x60) ≠ 0 then [(n.val, n.val)] else [])
    else [])) ++
  (axes4.flatMap (fun n => if c.un n.val && setVal w (fbId n 0) == 5 then [(0x10 + n.val, 4)] else [])) ++
  (if c.un 4 then [0, 1].flatMap (fun k => let v := setVal w (0x2440 + 8 * k)
      if v / 16 = 1 then [(0x14, v % 16)] else []) else []) ++
  -- a router needs both ports (R472)
  (if c.un 5 && setVal w 0x6000 == 1 then [(0x15, 6)] else []) ++ (if c.un 6 && setVal w 0x6000 == 1 then [(0x16, 5)] else [])

def requireFindings (w : Vals) (c : Cfg) : List Finding :=
  let fixedSeg (p : Fin 2) := setVal w (netId p 2) != 0xFFFF && setVal w (netId p 3) != 0xFF
  ((needs w c).flatMap (fun x => fnd (!c.un x.2) 3 0x0010 x.2)) ++
  (axes4.flatMap (fun n => fnd (c.un n.val && setVal w (fbId n 0) == 5 && c.un 4 && setVal w 0x2406 == 1) 3 0x022C n.val)) ++
  fnd (c.un 5 && c.un 6 && setVal w 0x6000 == 0) 3 0x0601 0xFF ++
  (if setVal w 0x6001 = 1 then
    (both2.flatMap (fun p => fnd (c.un (5 + p.val) && !fixedSeg p) 3 0x0602 (p.val + 1))) ++
    fnd ((c.un 5 || c.un 6) && setVal w 0x0010 == 1) 3 0x0602 0xFF
   else []) ++
  (if c.un 8 && setVal w 0x8005 != 0 then
    let pa := setVal w 0x8005
    fnd (!both2.any (fun p => c.un (5 + p.val) && setVal w (netId p 2) == pa / 64)) 3 0x0802 0 ++
    fnd (both2.any (fun p => setVal w (netId p 3) == pa % 64)) 3 0x0802 1
   else []) ++
  fnd (c.device && setVal w 0x0010 == 1 && !(c.un 5 || c.un 6)) 3 0x1401 0xFF

/-! ### Bench check (R42 to R49) -/

/-- Cyclic messages of a port in (superframe, frame): transmitted and received (R490). -/
def cyclicAt (s : State) (w : Vals) (p : Fin 2) (sf f : Nat) : Nat :=
  if setVal w (netId p 4) = 0 then 0 else
  match (s.ports.get p).sched with
  | none => 0
  | some t =>
    let idx := setVal w (netId p 3)
    ((dueIn t sf).filter (fun e => e.frame == f &&
      (if idx ≠ 0xFF then e.tx == idx || e.mask.toNat.testBit idx
       else (List.range 8).any (fun k => setVal w (0x6010 + 4 * k) == p.val + 1 && setVal w (0x6011 + 4 * k) == e.slot)))).length

/-- Messages of the heaviest frame (R45). -/
def cyclicCount (s : State) (w : Vals) (c : Cfg) : Nat :=
  let on := both2.filter (fun p => c.un (5 + p.val) && setVal w (netId p 4) == 1)
  if on.isEmpty then 0 else
  let per := 2 ^ ((on.flatMap (fun p => match (s.ports.get p).sched with | some t => t.entries.map (·.per) | none => [])).foldl max 0)
  (List.range per).foldl (fun m sf => (List.range 15).foldl (fun m f =>
    max m ((on.map (fun p => cyclicAt s w p sf f)).foldl (· + ·) 0)) m) 0

/-- Row of Table ARCH-6 at which an axis is costed (R44, R212). -/
def axisRow (perm : Nat) : Nat :=
  if bit perm 3 then 4 else if bit perm 2 then 3 else if bit perm 0 then 1 else if bit perm 1 then 2 else 0

/-- Feature rows (number, unit cost, count, qualifier count) of the processor budget. -/
def benchRows (s : State) (w : Vals) (c : Cfg) : List (Nat × Nat × Nat) :=
  let on := axes4.filter c.ax
  let cnt (f : Fin 4 → Bool) := (on.filter f).length
  let fb := axes4.filter (fun n => c.un n.val)
  let fbc (f : Nat → Bool) := (fb.filter (fun n => f (setVal w (fbId n 0)))).length
  let slots := if c.un 4 then ((List.range 16).filter (fun k => slotBits w k != 0)).length else 0
  let units := (fb.flatMap (fun n => [0, 1].filter (fun u => setVal w (fbId n (0x40 + 0x10 * u)) != 0))).length
  let divs := if c.un 4 then ([0, 1].filter (fun k => setVal w (0x2440 + 8 * k) != 0)).length else 0
  let brk := ((List.range 4).filter (fun b => decide (setVal w (0x4020 + 8 * b) < 4))).length
  let row (n : Fin 4) := axisRow (setVal w (axId n 0x40))
  [(0x01, 420, cnt (fun n => row n == 1)), (0x02, 380, cnt (fun n => row n == 2)),
   (0x03, 520, cnt (fun n => row n == 3)), (0x04, 600, cnt (fun n => row n == 4)),
   (0x05, 120, cnt (fun n => setVal w (axId n 0x10) != 0)), (0x06, 350, cnt (fun n => setVal w (axId n 0x60) != 0)),
   (0x07, 90, fbc (fun m => m == 1 || m == 3)), (0x08, 110, fbc (· == 2)), (0x09, 240, fbc (· == 4)), (0x0A, 180, fbc (· == 5)),
   (0x0B, 150 + 25 * slots, if slots = 0 then 0 else 1), (0x0C, 60, units), (0x0D, 40, divs), (0x0E, 20, brk),
   (0x0F, 450, b01 (c.un 5) + b01 (c.un 6)), (0x10, 300, b01 (setVal w 0x6000 == 1 && c.un 5 && c.un 6)),
   (0x11, 30, cyclicCount s w c), (0x12, 500, b01 (c.un 7)), (0x13, 900, b01 (c.un 8)), (0x14, 350, b01 (c.un 9)),
   (0x15, 400, 1), (0x16, setVal w 0x0018, 1)]

/-- Rows of the planner accelerator budget (Table ARCH-7). -/
def accelRows (w : Vals) (c : Cfg) : List (Nat × Nat × Nat) :=
  if c.un 9 then
    [(0x41, 1000, 1), (0x42, setVal w 0x5000, 1), (0x43, 900, (axes4.filter (fun n => bit (setVal w (axId n 0x40)) 3)).length),
     (0x44, 600, setVal w 0x5005)]
  else []

def rowsTotal (r : List (Nat × Nat × Nat)) : Nat := (r.map (fun x => x.2.1 * x.2.2)).foldl (· + ·) 0

/-- The feature with the largest summed cost, the lower number among equals (R48), with its count. -/
def rowsWorst (r : List (Nat × Nat × Nat)) : Nat × Nat :=
  (r.foldl (fun m x => if m.2.2 < x.2.1 * x.2.2 then (x.1, x.2.2, x.2.1 * x.2.2) else m) (0, 0, 0)) |> fun m => (m.1, m.2.1)

def budgetFindings (s : State) (w : Vals) (c : Cfg) : List Finding :=
  let r := benchRows s w c
  let a := accelRows w c
  fnd (decide (8500 < rowsTotal r)) 5 (0x1200 + (rowsWorst r).1) (min 0xFE (rowsWorst r).2) ++
  fnd (decide (15000 < rowsTotal a)) 5 (0x1200 + (rowsWorst a).1) (min 0xFE (rowsWorst a).2)

/-! ### The survey and its report (R184 to R190) -/

def findingLt (a b : Finding) : Bool :=
  decide (a.stage < b.stage) || (a.stage == b.stage && (decide (a.code < b.code) || (a.code == b.code && decide (a.qual < b.qual))))

/-- Findings in the order of R188, repeats of one code and qualifier left out. -/
def orderFindings (l : List Finding) : List Finding :=
  (sortBy findingLt l).foldl (fun acc f => if acc.any (fun g => g.code == f.code && g.qual == f.qual) then acc else acc ++ [f]) []

/-- Stages 2 to 5 of a prospective configuration over a working set. -/
def surveyCfg (s : State) (w : Vals) (c : Cfg) : List Finding :=
  ownerFindings s w c ++ requireFindings w c ++ budgetFindings s w c

/-- Per-mille loads (R49). -/
def procLoad (s : State) (w : Vals) (c : Cfg) : Nat := cdiv (1000 * rowsTotal (benchRows s w c)) 8500
def accelLoad (w : Vals) (c : Cfg) : Nat := cdiv (1000 * rowsTotal (accelRows w c)) 15000

/-- BLOAD of a port: the load of its schedule when the port is in the configuration with one (Table PAR-3). -/
def portLoad (s : State) (w : Vals) (c : Cfg) (p : Fin 2) : Nat :=
  if c.un (5 + p.val) && setVal w (netId p 4) == 1 then
    (match (s.ports.get p).sched with | some t => busLoad t | none => 0)
  else 0

/-- The survey report, 44 bytes (Table PAR-3). -/
def surveyReport (s : State) (w : Vals) (c : Cfg) (l : List Finding) : List Byte :=
  let l := orderFindings l
  let first := fit 8 ({ stage := 0, code := 0, qual := 0xFF } : Finding) l
  le16 (satU 16 (procLoad s w c)) ++ le16 (satU 16 (accelLoad w c)) ++ le16 (satU 16 (portLoad s w c 0)) ++ le16 (satU 16 (portLoad s w c 1))
    ++ le32 (rowsTotal (benchRows s w c)) ++ le32 (rowsTotal (accelRows w c)) ++ b8 (min 255 l.length) ++ [0, 0, 0]
    ++ first.flatMap (fun f => le16 f.code) ++ first.flatMap (fun f => b8 (min f.qual 0xFF))

/-- LOADPM of the running configuration (R189). -/
def State.loadNow (s : State) : BitVec 32 :=
  let c := s.cfg
  BitVec.ofNat 32 (satU 16 (accelLoad s.params.working c) * 65536 + satU 16 (procLoad s s.params.working c))

end Sys2Proof.Machine
end

