-- ==== Sys2Proof/Machine/Hop.lean ====
section
/-! DEFINITION. Taking, checking, starting, waiting and completing commands: the hopper model (01, 05). -/

namespace Sys2Proof.Machine

/-! ### Opcodes (Table IDX-1) -/

/-- A row of Table IDX-1: axis rule 0 none, 1 one, 2 some, 3 by parameter; survey-governed always or in the listed
operations; kind 0 none, 1 M, 2 S, 3 M with op 2; first operation and number of operations that payload byte 0 names (0: no
operations); operations that read the bulk window (R165). -/
structure OpRow where
  op    : Nat
  axis  : Nat
  gov   : Bool
  govOps : List Nat
  kind  : Nat
  first : Nat
  ops   : Nat
  bulk  : List Nat
deriving DecidableEq, Repr

def opRowsA : List OpRow := [
  ⟨0x0001, 3, true, [], 0, 0, 0, []⟩,
  ⟨0x0002, 3, false, [], 0, 0, 0, []⟩,
  ⟨0x0003, 0, true, [], 0, 0, 0, []⟩,
  ⟨0x0004, 0, true, [], 0, 0, 0, []⟩,
  ⟨0x0005, 0, true, [], 0, 0, 0, []⟩,
  ⟨0x0006, 0, false, [3, 5], 0, 0, 9, [1]⟩,
  ⟨0x0010, 0, false, [], 0, 0, 0, []⟩,
  ⟨0x0011, 0, true, [], 0, 0, 0, []⟩,
  ⟨0x0012, 0, false, [], 0, 0, 0, []⟩,
  ⟨0x0101, 1, true, [], 0, 0, 0, []⟩,
  ⟨0x0102, 1, true, [], 2, 0, 0, []⟩,
  ⟨0x0103, 1, true, [], 1, 0, 0, []⟩,
  ⟨0x0104, 1, true, [], 1, 0, 0, []⟩,
  ⟨0x0105, 1, true, [], 1, 0, 0, []⟩,
  ⟨0x0106, 1, false, [], 2, 0, 0, []⟩,
  ⟨0x0107, 1, false, [], 2, 0, 0, []⟩,
  ⟨0x0108, 1, true, [], 1, 0, 0, []⟩,
  ⟨0x0109, 1, true, [], 0, 0, 0, []⟩,
  ⟨0x010A, 1, false, [], 0, 0, 0, []⟩,
  ⟨0x0120, 1, false, [0, 1], 0, 0, 5, [0, 1]⟩,
  ⟨0x0121, 1, false, [], 0, 0, 0, []⟩,
  ⟨0x0140, 1, true, [], 1, 0, 0, []⟩,
  ⟨0x0141, 1, false, [], 0, 0, 0, []⟩,
  ⟨0x0142, 1, false, [], 0, 0, 0, []⟩,
  ⟨0x0201, 0, false, [], 0, 0, 0, []⟩,
  ⟨0x0202, 0, true, [], 0, 0, 0, []⟩,
  ⟨0x0220, 1, true, [], 1, 0, 0, []⟩,
  ⟨0x0221, 1, false, [], 0, 0, 0, []⟩,
  ⟨0x0222, 0, true, [], 0, 0, 0, []⟩]

def opRowsB : List OpRow := [
  ⟨0x0223, 0, false, [], 0, 0, 0, []⟩,
  ⟨0x0224, 0, false, [], 0, 0, 0, []⟩,
  ⟨0x0301, 1, false, [], 0, 0, 0, []⟩,
  ⟨0x0401, 1, true, [], 0, 0, 0, []⟩,
  ⟨0x0501, 0, false, [0, 2], 0, 0, 3, [1]⟩,
  ⟨0x0502, 0, true, [], 0, 0, 5, []⟩,
  ⟨0x0503, 0, false, [0, 1], 0, 0, 5, [0, 1]⟩,
  ⟨0x0504, 0, true, [], 0, 0, 0, []⟩,
  ⟨0x0505, 2, true, [], 1, 0, 0, []⟩,
  ⟨0x0506, 0, false, [], 3, 0, 3, []⟩,
  ⟨0x0507, 0, false, [], 0, 0, 0, []⟩,
  ⟨0x0601, 0, false, [], 0, 0, 0, []⟩,
  ⟨0x0602, 0, false, [], 0, 0, 0, []⟩,
  ⟨0x0603, 0, true, [], 0, 0, 0, []⟩,
  ⟨0x0604, 0, false, [], 0, 0, 0, []⟩,
  ⟨0x0605, 0, false, [0, 4], 0, 0, 5, [0, 1]⟩,
  ⟨0x0620, 0, false, [0, 1], 0, 0, 3, []⟩,
  ⟨0x0621, 0, false, [], 0, 0, 0, []⟩,
  ⟨0x0622, 0, false, [], 0, 0, 0, []⟩,
  ⟨0x0701, 0, false, [], 0, 0, 0, []⟩,
  ⟨0x0801, 0, false, [], 0, 0, 0, []⟩,
  ⟨0x0802, 0, true, [], 0, 0, 0, []⟩,
  ⟨0x0901, 0, true, [], 0, 0, 8, [1]⟩,
  ⟨0x0902, 0, false, [], 0, 0, 0, []⟩,
  ⟨0x0903, 0, true, [], 0, 1, 4, []⟩,
  ⟨0x0904, 0, true, [], 0, 0, 0, []⟩,
  ⟨0x0A01, 0, false, [], 0, 0, 0, []⟩,
  ⟨0x1101, 0, false, [], 0, 0, 0, []⟩,
  ⟨0x1102, 0, false, [], 0, 0, 0, []⟩,
  ⟨0x1301, 0, true, [], 0, 0, 0, []⟩]

/-- Table IDX-1. -/
def opRows : List OpRow := opRowsA ++ opRowsB

def opRow (op : Nat) : Option OpRow := opRows.find? (fun r => r.op == op)

/-- STOP, HALT and DISABLE_AXIS (kind S, R623). -/
def isStopOp (op : Nat) : Bool := op == 0x0106 || op == 0x0107 || op == 0x0102

/-- Operation byte of a command; 0 for an opcode without operations. -/
def State.opByte (s : State) (h : Nat) : Nat :=
  match opRow (s.opcode h) with
  | some r => if r.ops = 0 then 0 else s.p8 h 0
  | none => 0

/-- The command in hopper `h` is a motion or output command (R623). -/
def State.isMotion (s : State) (h : Nat) : Bool :=
  match opRow (s.opcode h) with
  | some r => r.kind == 1 || (r.kind == 3 && s.p8 h 0 == 2)
  | none => false

/-- Survey-governed (R186, Table IDX-1). -/
def State.governed (s : State) (h : Nat) : Bool :=
  match opRow (s.opcode h) with
  | some r => r.gov || (r.ops != 0 && r.govOps.contains (s.p8 h 0))
  | none => false

/-- Changes the working set (Table PAR-11, R201); so do the loads and reloads of a Chisel or chain table (R245, R428). -/
def State.worksSet (s : State) (h : Nat) : Bool :=
  (s.opcode h == 0x0001 && !bit (s.p8 h 1) 0) || (s.opcode h == 0x0006 && s.p8 h 0 == 3) ||
  ((s.opcode h == 0x0120 || s.opcode h == 0x0503) && (s.p8 h 0 == 0 || s.p8 h 0 == 4))

/-- The opcode and the operation it names are assigned. -/
def State.opKnown (s : State) (h : Nat) : Bool :=
  match opRow (s.opcode h) with
  | some r => r.ops == 0 || (decide (r.first ≤ s.p8 h 0) && decide (s.p8 h 0 < r.first + r.ops))
  | none => false

/-! ### Header fields (Tables HOP-2 and HOP-3) -/

def State.tagged (s : State) (h : Nat) : Bool := bit (s.flags h) 0
def State.laterej (s : State) (h : Nat) : Bool := bit (s.flags h) 1
def State.preempt (s : State) (h : Nat) : Bool := bit (s.flags h) 2
def State.bulkFlag (s : State) (h : Nat) : Bool := bit (s.flags h) 3

/-- d of R161 for the tag of hopper `h`. -/
def State.dist (s : State) (h : Nat) : Int := s.ahead (s.execFrame h)

/-- The first payload byte of a header that breaks a rule (R14, R146, R160, R165, R628). DESIGN CHOICE (log entry 32): BULK = 0 on an
operation that needs the window is that bit's field error, as BULK = 1 is on one that does not use it. -/
def State.headerBad (s : State) (h need : Nat) (bulk : List Nat) : Option Nat :=
  let fl := s.flags h
  if 16 ≤ fl then some 4
  else if s.preempt h ∧ s.opcode h ≠ 0x0103 ∧ s.opcode h ≠ 0x0104 then some 4
  else if s.bulkFlag h ∧ (16 ≤ h ∨ !bulk.contains (s.p8 h 0)) then some 4
  else if !s.bulkFlag h ∧ bulk.contains (s.p8 h 0) then some 4
  else if 16 ≤ s.hb h 5 then some 5
  else if 112 < s.plen h ∨ s.plen h < need then some 6
  else none

/-! ### Stages -/

/-- Taken and waiting or held, not started. -/
def HopStage.waiting : HopStage → Bool
  | .waitTag | .waitAxis | .waitBarrier | .held => true
  | _ => false

def HopStage.prog : HopStage → Nat
  | .waitTag => 1
  | .waitAxis => 2
  | .waitBarrier => 3
  | .held => 4
  | .started => 5
  | _ => 0

def State.stage (s : State) (h : Nat) : HopStage := (s.hop h).stage
def State.rungCmd (s : State) (h : Nat) : Bool := s.stage h == .registered

def State.setStage (s : State) (h : Nat) (st : HopStage) : State :=
  (s.setHop h (fun x => { x with stage := st })).setProg h st.prog

/-- Two hoppers carry commands of one source: equal source and source address (R153). -/
def State.sameSource (s : State) (a b : Nat) : Bool :=
  srcOf a == srcOf b && (s.hop a).srcAddr == (s.hop b).srcAddr

/-! ### Completion -/

/-- Header bytes 0 to 15 and the result of a completed hopper. -/
def State.recordOf (s : State) (h : Nat) : List Byte :=
  cellRead s.intake.slots (128 * h) (16 + min 112 (s.plen h))

/-- Send a fabric response, or none when the control queue has no room (R495, R512, R556). -/
def State.respondFabric (s : State) (h : Nat) : Option State :=
  let x := s.hop h
  let p : Fin 2 := if x.port = 2 then 1 else 0
  let a := s.ownHead p 0 6 0 x.srcAddr x.tag true
  let pa := s.par 0x8005
  -- TWIN_SWITCH is answered from the device's own address (R561)
  let a := if x.pair && s.opcode h != 0x0802 then { a with src := pa, txidx := pa % 64 } else a
  s.queueControl p (msgFrames a (s.recordOf h))

/-- Send a Proprietary A response (R521, Table EDGE-8). -/
def State.respondIso (s : State) (h : Nat) : Option State :=
  s.openTp (s.hop h).srcAddr 0xEF00 (b8 0x4B ++ b8 0x4D ++ b8 2 ++ b8 0 ++ s.recordOf h)

def State.freeHop (s : State) (h : Nat) : State := s.setHop h (fun _ => {})

/-- Return a completion record that is written: HDONE, RSP, Proprietary A response or EV-0x1105 (Table HOP-1, R151). -/
def State.giveBack (s : State) (h : Nat) : State :=
  match srcOf h with
  | 0 =>
    let m := BitVec.ofNat 16 (2 ^ h)
    let s := { s with host := { s.host with hown := s.host.hown &&& ~~~ m, hdone := s.host.hdone ||| m } }
    s.freeHop h
  | 1 =>
    if (s.hop h).mute then s.freeHop h else
    (match s.respondFabric h with
     | some t => t.freeHop h
     | none => s.setHop h (fun x => { x with stage := .answering }))
  | 2 =>
    (match s.respondIso h with
     | some t => t.freeHop h
     | none => s.setHop h (fun x => { x with stage := .answering }))
  | _ =>
    let cc := s.hb h 12
    if (s.hop h).adopted == some 0 then (s.ev 0x0806 (s.seqNo h)).freeHop h else
    let auto := s.opcode h == 0x0004 && cc == 5
    let s := s.ev 0x1105 (cc * 256 + s.seqNo h % 256)
    (s.evIf auto 0x0011 (s.h16 h 14)).freeHop h

/-- The command's bulk transfer is over: VALID clears, and BUSY with it unless another bulk command is in flight (R166). -/
def State.endBulk (s : State) (h : Nat) : State :=
  if (s.hop h).bulk then
    let busy := hops32.any (fun x => x != h && (s.hop x).bulk)
    { s with host := { s.host with bulkBusy := busy, bulkValid := false } }
  else s

/-- Result data that go back in the bulk window, of a host command only (R166, R167). -/
def bigResult (h : Nat) (res : List Byte) : Bool := decide (104 < res.length) && decide (h < 16)

/-- Result data in the record itself. DESIGN CHOICE (log entry 32): more than 104 bytes for a virtual hopper, which has no bulk window
(R165), are dropped; the manual does not say where they go. -/
def resultBody (res : List Byte) : List Byte := if 104 < res.length then [] else res

/-- The completion record from byte 12 up to the result data: code, flags, detail, start frame, end frame (R147, R151). -/
def State.recordHead (s : State) (h code detail : Nat) (bulk : Bool) : List Byte :=
  let x := s.hop h
  let st := match x.start with | some f => f.toNat | none => 0xFFFFFFFF
  b8 code ++ b8 (b01 x.late + 2 * b01 x.heldF + 4 * b01 bulk) ++ le16 (min 0xFFFF detail) ++ le32 st ++ le32 s.fr

/-- The completion record from byte 12. -/
def State.completion (s : State) (h code detail : Nat) (res : List Byte) : List Byte :=
  s.recordHead h code detail (bigResult h res) ++ resultBody res

/-- Result data of a command: SET_PARAM returns its count where it returns no survey report (R200). -/
def State.resultOf (s : State) (h : Nat) (res : List Byte) : List Byte :=
  if s.opcode h = 0x0001 ∧ res = [] then b8 (s.p8 h 0) else res

/-- Put result data that do not fit the record into the bulk window (R167). -/
def State.putResult (s : State) (h : Nat) (res : List Byte) : State :=
  if bigResult h res then
    let t := s.putBulk 0 res
    { t with host := { t.host with bulkLen := res.length } }
  else s

/-- Count a CAL_BUSY completion of its source (Table HOP-10). -/
def State.countBusy (s : State) (h code : Nat) : State :=
  if code = 4 then { s with intake := { s.intake with counts := s.intake.counts.upd (Fin.ofNat 4 (srcOf h)) (fun c =>
      { c with calBusy := min 0xFFFF (c.calBusy + 1) }) } } else s

/-- Write the whole completion record and return it (R147, R151, R166, R167). -/
def State.finish (s : State) (h code detail : Nat) (data : List Byte) : State :=
  let res := s.resultOf h data
  let t := (((s.endBulk h).putResult h res).putSlot (128 * h + 6) (b8 (8 + (resultBody res).length))).putSlot (128 * h + 12)
    (s.completion h code detail res)
  (t.countBusy h code).giveBack h

/-- A stop that ends before it acts decides no start any more (R163). -/
def State.dropMark (s : State) (h : Nat) : State :=
  { s with intake := { s.intake with stops := s.intake.stops.filter (fun m =>
      !(m.source == srcOf h && m.srcAddr == (s.hop h).srcAddr && m.seq.toNat == s.seqNo h)) } }

/-- The run of a PLAN_RUN that has not acted is gone with it, and the PLAN_STOP commands that wait for it complete. -/
def State.runRefused (s : State) (h : Nat) : State :=
  match s.plan.run with
  | some r =>
    if r.hop = h then
      r.waits.foldl (fun t w => if t.stage w.1 == HopStage.started then t.finish w.1 1 0 [] else t)
        { s with plan := { s.plan with run := none } }
    else s
  | none => s

/-- Complete a command that never started; the first refusal of a superframe for want of presence raises EV-0x0907 (R564). -/
def State.refuse (s : State) (h code detail : Nat) (res : List Byte) : State :=
  let s := if code = 0x0F ∧ detail = 2 ∧ !s.svc.refSeen then
      let t := s.ev 0x0907 (srcOf h)
      { t with svc := { t.svc with refSeen := true } }
    else s
  let s := if isStopOp (s.opcode h) then s.dropMark h else s
  ((s.setHop h (fun x => { x with start := none, late := false })).finish h code detail res).runRefused h

/-- DONE with a bulk result: the bulk window whatever its length (R166); of a virtual hopper, which has no window, the record. -/
def State.doneBulk (s : State) (h : Nat) (res : List Byte) : State :=
  if 16 ≤ h then s.finish h 1 0 res
  else
    let t := (s.endBulk h).putBulk 0 res
    let t := { t with host := { t.host with bulkLen := res.length } }
    ((t.putSlot (128 * h + 6) (b8 8)).putSlot (128 * h + 12) (s.recordHead h 1 0 true)).giveBack h

/-- DONE with result data. -/
def State.doneWith (s : State) (h : Nat) (res : List Byte) : State := s.finish h 1 0 res

/-- Survey refusal with the report of a configuration over a set of values (R188). -/
def State.surveyReplyOf (s : State) (w : Vals) (c : Cfg) (l : List Finding) : Nat × Nat × List Byte :=
  (5, match orderFindings l with | f :: _ => f.code | [] => 0, surveyReport s w c l)

/-- Survey refusal over the working set. -/
def State.surveyReply (s : State) (c : Cfg) (l : List Finding) : Nat × Nat × List Byte := s.surveyReplyOf s.params.working c l

/-- A single finding against the running configuration. -/
def State.svReply (s : State) (code qual : Nat) : Nat × Nat × List Byte :=
  s.surveyReply s.cfg [{ stage := 1, code := code, qual := qual }]

/-- The findings as a reply against the running configuration, when there is one. -/
def State.findingReply (s : State) (l : List Finding) : Option (Nat × Nat × List Byte) :=
  match l with
  | [] => none
  | _ => some (s.surveyReply s.cfg l)

/-! ### Barriers (R172 to R174) -/

def State.isBarrier (s : State) (h : Nat) : Bool := s.opcode h == 0x1101 && s.flying h

/-- Command `x` is in the scope of barrier `b` (Table HOP-9). -/
def State.inScope (s : State) (b x : Nat) : Bool := s.p8 b 0 == 1 || s.sameSource b x

/-- A barrier taken before `h` is in flight over it (R173). -/
def State.barrierAhead (s : State) (h : Nat) : Bool :=
  hops32.any (fun b => b != h && s.isBarrier b && decide ((s.hop b).takeNo < (s.hop h).takeNo) && s.inScope b h)

/-- Every command in the scope of a started barrier that was taken before it has completed. -/
def State.barrierOver (s : State) (b : Nat) : Bool :=
  s.isBarrier b && s.stage b == .started &&
  !hops32.any (fun x => x != b && s.flying x && decide ((s.hop x).takeNo < (s.hop b).takeNo) && s.inScope b x)

/-- Hoppers in flight in taking order. -/
def State.byTaking (s : State) : List Nat :=
  sortBy (fun a b => decide ((s.hop a).takeNo < (s.hop b).takeNo)) (hops32.filter (fun h => s.flying h))

/-- Complete every barrier that is over, in taking order (R172). -/
def State.endBarriers (s : State) : State :=
  s.byTaking.foldl (fun t b => if t.barrierOver b then t.doneWith b [] else t) s

/-! ### Waiting and holding (R35 to R40, R158) -/

/-- Windows that may hold commands of axes `mask`: frames to the end boundary, and the begin frame (R33, R36). -/
def State.windows (s : State) (mask : Nat) : List (Int × BitVec 32) :=
  ((maskAxes mask).flatMap (fun n => match (s.axSt n).calEnd with
    | some e => if 0 < s.ahead e then [(s.ahead e, e - (if (s.axSt n).recal then 2 else 4))] else []
    | none => [])) ++
  (match s.clock.settle with
   | some d => [(max 2 (s.ahead (d + 6)), d)]
   | none => []) ++
  (match s.clock.abandoned with
   | some d => [(max 2 (s.ahead (d + 6)), d)]
   | none => [])

/-- Axes whose calibration concerns a motion command: its own, or the chain's for PLAN_STOP op 2. -/
def State.motionMask (s : State) (h : Nat) : Nat := if s.axmask h = 0 then s.chainMask else s.axmask h

/-- Intake frame of R35. -/
def State.intakeFrame (s : State) (h : Nat) : BitVec 32 :=
  if s.stage h == .held then (s.hop h).intake
  else if s.tagged h then s.execFrame h else s.frame.counter

/-- A window that ends after the next boundary holds `h`; one that began after its intake frame does not (R35, R37). -/
def State.windowHolds (s : State) (h : Nat) : Bool :=
  (s.windows (s.motionMask h)).any (fun w => decide (1 < w.1) && decide (s.ahead w.2 ≤ s.ahead (s.intakeFrame h)))

/-- Frames left of the windows over `h`. -/
def State.framesLeft (s : State) (h : Nat) : Nat :=
  ((s.windows (s.motionMask h)).map (fun w => w.1.toNat)).foldl max 0

/-- Opcodes that are never held and do not wait behind a held command (R40). -/
def neverHeld (op : Nat) : Bool :=
  [0x0001, 0x0002, 0x0504, 0x0010, 0x010A, 0x0121, 0x0142, 0x0201, 0x0221, 0x0223, 0x0224, 0x0301, 0x0601, 0x0701, 0x0801,
   0x0A01, 0x1102].contains op

/-- Earlier-taken commands that `h` waits behind (R157, R158, R160). -/
def State.earlier (s : State) (h : Nat) : List Nat :=
  if isStopOp (s.opcode h) || s.opcode h == 0x0101 || s.axmask h == 0 then []
  else hops32.filter (fun x => x != h && s.flying x && decide ((s.hop x).takeNo < (s.hop h).takeNo) &&
    Nat.land (s.axmask x) (s.axmask h) != 0 &&
    (!s.preempt h || isStopOp (s.opcode x) || s.opcode x == 0x0101) &&
    !(neverHeld (s.opcode h) && s.stage x == .held))

/-- A ramp to rest, of a stop or a reaction, keeps a motion command of the axis waiting (R213, Table MOT-1). -/
def State.rampBars (s : State) (h : Nat) : Bool :=
  (maskAxes (s.motionMask h)).any (fun n => s.axReady n &&
    (match (s.motion.get n).state with | .stopping | .halting => true | _ => false))

/-- What a taken, unstarted command waits for; none when it may start. -/
def State.waitOf (s : State) (h : Nat) : Option HopStage :=
  if !isStopOp (s.opcode h) && s.barrierAhead h then some .waitBarrier
  else if s.tagged h && decide (2 ≤ s.dist h) then some .waitTag
  else
    let e := s.earlier h
    if !e.isEmpty then
      (if s.isMotion h && e.any (fun x => s.stage x == .held) then some .held else some .waitAxis)
    else if s.isMotion h && s.axmask h != 0 && s.rampBars h then some .waitAxis
    else if s.isMotion h && s.windowHolds h then some .held
    else none

/-- Enter the stage that `waitOf` names; a hold beyond eight frames completes CAL_BUSY (R36). -/
def State.enterWait (s : State) (h : Nat) (st : HopStage) : State :=
  if s.stage h = st then s
  else if st = .held then
    let i := s.intakeFrame h
    if (s.framesLeft h : Int) > s.ahead i + 8 then s.refuse h 4 (s.framesLeft h) []
    else (s.setStage h .held).setHop h (fun x => { x with intake := i, heldF := true })
  else s.setStage h st

/-- Bring the stage of every waiting command up to date, in taking order. -/
def State.repark (s : State) : State :=
  s.byTaking.foldl (fun t h => if (t.stage h).waiting then
      (match t.waitOf h with | some st => t.enterWait h st | none => t) else t) s

/-! ### Order of starts (R155, R156, R186) -/

/-- Kept rung while the verdicts are recomputed (R186). -/
def State.keptRung (s : State) (h : Nat) : Bool :=
  s.intake.verdict.isSome && !isStopOp (s.opcode h) &&
  hops32.any (fun x => s.rungCmd x && s.sameSource x h && decide ((s.hop x).regNo ≤ (s.hop h).regNo) &&
    !isStopOp (s.opcode x) && (s.governed x || s.worksSet x))

/-- The least element under a strict order. -/
def bestOf (lt : Nat → Nat → Bool) : List Nat → Option Nat
  | [] => none
  | a :: r => some (r.foldl (fun m x => if lt x m then x else m) a)

/-- Step 2 of R156: due tags first, then overdue ones by tag frame, then taking order. DESIGN CHOICE (log entry 32): a command that
is not taken yet comes after the taken ones of its tag frame, by registration. -/
def State.tagLt (s : State) (a b : Nat) : Bool :=
  let key (h : Nat) : Nat × Int × Nat × Nat :=
    (b01 (s.dist h != 1), s.dist h, b01 (s.rungCmd h), if s.rungCmd h then (s.hop h).regNo else (s.hop h).takeNo)
  let x := key a; let y := key b
  decide (x.1 < y.1) || (x.1 == y.1 && (decide (x.2.1 < y.2.1) || (x.2.1 == y.2.1 &&
    (decide (x.2.2.1 < y.2.2.1) || (x.2.2.1 == y.2.2.1 && decide (x.2.2.2 < y.2.2.2))))))

/-- The hopper that takes the next start of the frame; none when no start is left or nothing may start (R156). -/
def State.nextStart (s : State) : Option Nat :=
  if s.intake.starts = 0 then none else
  let byReg (a b : Nat) := decide ((s.hop a).regNo < (s.hop b).regNo)
  match bestOf byReg (hops32.filter (fun h => s.rungCmd h && isStopOp (s.opcode h))) with
  | some h => some h
  | none =>
    match bestOf s.tagLt (hops32.filter (fun h => s.tagged h && decide (s.dist h ≤ 1) &&
        ((s.rungCmd h && !s.keptRung h) || ((s.stage h).waiting && s.waitOf h == none)))) with
    | some h => some h
    | none =>
      match bestOf (fun a b => decide ((s.hop a).takeNo < (s.hop b).takeNo))
          (hops32.filter (fun h => (s.stage h).waiting && s.waitOf h == none)) with
      | some h => some h
      | none =>
        [0, 1, 2, 3].findSome? (fun i =>
          bestOf byReg (hops32.filter (fun h => srcOf h == (s.intake.turn + i) % 4 && s.rungCmd h && !s.keptRung h)))

/-- Use a start. -/
def State.useStart (s : State) : State := { s with intake := { s.intake with starts := s.intake.starts - 1 } }

/-! ### Taking -/

/-- The command of `h` is taken in step 1 or 2 of R156, outside the turn of the sources. -/
def State.outOfTurn (s : State) (h : Nat) : Bool := isStopOp (s.opcode h) || (s.tagged h && decide (s.dist h ≤ 1))

/-- Mark the command of `h` taken (R147, R155, R171; HSEQ of Table HOST-6). -/
def State.beginTake (s : State) (h : Nat) : State :=
  let no := s.intake.nextTake
  let src : Fin 4 := Fin.ofNat 4 (srcOf h)
  let turn := if s.outOfTurn h then s.intake.turn else (srcOf h + 1) % 4
  let s := s.useStart
  let s := { s with
    intake := { s.intake with nextTake := no + 1, turn := turn,
                              counts := s.intake.counts.upd src (fun c => { c with taken := c.taken + 1 }) }
    host := if h < 16 then { s.host with hseq := BitVec.ofNat 32 (65536 * h + s.seqNo h) } else s.host }
  s.setHop h (fun x => { x with stage := .waitTag, takeNo := no, taken := s.frame.counter, start := none })

/-- Everything that an opcode adds to the common rules. `engine`: it names the boundary from which it acts (R147). -/
structure CmdSpec where
  op      : Nat
  sub     : Option Nat := none
  need    : Nat := 0
  engine  : Bool := false
  /-- lowest payload field that breaks a rule, as an offset of R628 -/
  field   : State → Nat → Option Nat := fun _ _ => none
  /-- AXMASK meets the axis rule of a command whose rule depends on its payload -/
  axisOk  : Option (State → Nat → Bool) := none
  bulkLen : State → Nat → Nat := fun _ _ => 0
  /-- detail of NOT_PERMITTED -/
  permit  : State → Nat → Option Nat := fun _ _ => none
  /-- detail of NOT_READY -/
  ready   : State → Nat → Option Nat := fun _ _ => none
  /-- prospective configuration and findings of the SURVEY check (R187) -/
  judge   : State → Nat → Option (Cfg × List Finding) := fun _ _ => none
  /-- the values that it is judged with: the working set, as a write would leave it (R182) -/
  values  : State → Nat → Vals := fun s _ => s.params.working
  /-- the opcode's own checks, made when it starts: code, detail, result data -/
  own     : State → Nat → Option (Nat × Nat × List Byte) := fun _ _ => none
  /-- the copies made when it is taken, whatever it then waits for (R178, R187) -/
  taken   : State → Nat → State := fun s _ => s
  /-- the effect of its start -/
  start   : State → Nat → State

def axisRuleOk (rule mask : Nat) : Bool :=
  match rule with
  | 0 => mask == 0
  | 1 => mask == 1 || mask == 2 || mask == 4 || mask == 8
  | 2 => mask != 0
  | _ => true

/-- Checks from UNKNOWN_OPCODE to BULK_ERROR (R168): code, detail, result data. -/
def firstChecks (c : CmdSpec) (s : State) (h : Nat) : Option (Nat × Nat × List Byte) :=
  match opRow (s.opcode h) with
  | none => some (7, 0, [])
  | some r =>
    let bad := match s.headerBad h c.need r.bulk with | some o => some o | none => c.field s h
    let okAxis := match c.axisOk with | some f => f s h | none => axisRuleOk r.axis (s.axmask h)
    match bad with
    | some o => some (8, o, [])
    | none =>
      if !okAxis then some (9, s.axmask h, [])
      else if s.bulkFlag h then
        (if !s.host.bulkValid then some (0x0D, 1, [])
         else if s.host.bulkSlot ≠ h then some (0x0D, 2, [])
         else if s.host.bulkLen < c.bulkLen s h then some (0x0D, 3, [])
         else none)
      else none

/-- An ENABLE_AXIS of an axis of `h` taken before it is in flight (R94, Table HOP-6 NOT_READY). -/
def State.enableAhead (s : State) (h : Nat) : Bool :=
  hops32.any (fun x => x != h && s.flying x && s.opcode x == 0x0101 && Nat.land (s.axmask x) (s.axmask h) != 0)

/-- DEVICE_SAFE stands against the command (R169). -/
def State.safeBars (s : State) (h : Nat) : Bool := s.faults.device && (s.isMotion h || s.opcode h == 0x0101)

/-- Checks from TOO_EARLY to SURVEY (R168). DESIGN CHOICE (log entry 32): "Frames late, at least 1" of TOO_LATE is 1 - d for every
opcode. -/
def lateChecks (c : CmdSpec) (s : State) (h : Nat) : Option (Nat × Nat × List Byte) :=
  if s.tagged h ∧ (s.par 0x0070 : Int) < s.dist h then some (0x0B, 0, [])
  else if s.tagged h ∧ s.dist h ≤ 0 ∧ s.laterej h then some (0x0C, (1 - s.dist h).toNat, [])
  else if s.safeBars h then some (0x10, s.faults.cause, [])
  else match c.permit s h with
  | some d => some (0x0F, d, [])
  | none =>
    match (if s.enableAhead h then none else c.ready s h) with
    | some d => some (0x0E, d, [])
    | none =>
      match c.judge s h with
      | some (g, f :: l) => some (s.surveyReplyOf (c.values s h) g (f :: l))
      | _ => none

/-- Boundary frame from which a stop acts (R161, R163). -/
def State.actsFrom (s : State) (h : Nat) : BitVec 32 :=
  if s.tagged h ∧ 1 ≤ s.dist h then s.execFrame h else s.frame.counter + 1

/-- A taken stop cancels the unstarted commands of its axes (R163, first case). -/
def State.stopWins (s : State) (h : Nat) : State :=
  let acts := s.actsFrom h
  let q := BitVec.ofNat 16 (s.seqNo h)
  let hit (x : Nat) : Bool := x != h && Nat.land (s.axmask x) (s.axmask h) != 0 &&
    (!s.tagged x || decide (s.ahead acts ≤ s.dist x))
  let taken := s.byTaking.filter (fun x => hit x && (s.stage x).waiting && decide ((s.hop x).takeNo < (s.hop h).takeNo))
  let untaken := hops32.filter (fun x => hit x && (s.stage x == .registered || s.stage x == .rung) && s.sameSource x h &&
    newer 16 (s.seqNo h) (s.seqNo x))
  let t := taken.foldl (fun t x => t.refuse x 3 q.toNat []) s
  let t := untaken.foldl (fun t x => t.setHop x (fun y => { y with doomed := some q })) t
  { t with intake := { t.intake with stops := t.intake.stops ++
      [{ source := srcOf h, srcAddr := (s.hop h).srcAddr, seq := q, axes := BitVec.ofNat 4 (s.axmask h), acts := acts }] } }

/-- Sequence of a taken stop that has not acted and whose acting frame is the tag of `h` (R163, second case). -/
def State.stopOver (s : State) (h : Nat) : Option Nat :=
  if s.tagged h then
    (s.intake.stops.find? (fun m => Nat.land m.axes.toNat (s.axmask h) != 0 && decide (0 < s.ahead m.acts) &&
      m.acts == s.execFrame h)).map (fun m => m.seq.toNat)
  else none

/-- Values written to the working set that reach the running set at the next boundary (R179, R180). -/
def State.queueRunning (s : State) (ids : List Nat) : State :=
  ids.foldl (fun t id =>
    match pRow id with
    | some r =>
      if (r.acc == 0 && t.ownerOn (pOwner id)) || (r.acc != 0 && pOwner id == .device) then
        { t with params := { t.params with commit := (t.params.commit.filter (fun e => e.1 != id)) ++ [(id, t.work id)] } }
      else t
    | none => t) s

/-- EV-0x0903 with qualifier `q`, none for 0xFFFF (R565). -/
def State.evProtected (s : State) (q : Nat) : State := s.evIf (q != 0xFFFF) 0x0903 q

/-- A write of an axis in `mask` that awaits the verdicts completes CANCELLED for a stop or a PREEMPT (R160, R164). The working set
holds its values since its start, and they take effect as those of any write (R179, R180). -/
def State.cancelWrites (s : State) (mask seq : Nat) : State :=
  let hit (x : VerdictWait) : Bool := Nat.land (s.axmask x.hop) mask != 0 && s.stage x.hop == .started
  let t := { s with intake := { s.intake with onVerdict := s.intake.onVerdict.filter (fun x => !hit x) } }
  (s.intake.onVerdict.filter hit).foldl (fun t x => ((t.queueRunning x.ids).evProtected x.ev).finish x.hop 2 seq []) t

/-- A PREEMPT command starts: unstarted commands of its axis that were taken before it are cancelled, and so is a motion
command that started and has not acted, in this frame or behind its brake (R160, R358, and the edge case of 07). -/
def State.preempts (s : State) (h : Nat) : State :=
  (s.byTaking.filter (fun x => x != h && decide ((s.hop x).takeNo < (s.hop h).takeNo) &&
      Nat.land (s.axmask x) (s.axmask h) != 0 && !isStopOp (s.opcode x) && s.opcode x != 0x0101 &&
      ((s.stage x).waiting || (s.isMotion x && ((s.hop x).start == some (s.frame.counter + 1) || (s.hop x).start.isNone))))).foldl
    (fun t x => t.refuse x 3 (s.seqNo h) []) s

/-- A late start, `n` frames behind its tag, is counted, marked and reported (R162). -/
def State.noteLate (s : State) (h n : Nat) : State :=
  let src : Fin 4 := Fin.ofNat 4 (srcOf h)
  let counts := s.intake.counts.upd src (fun x => { x with late := min 0xFFFF (x.late + 1) })
  (({ s with intake := { s.intake with counts := counts } } : State).setHop h (fun x => { x with late := true })).ev 0x1102 (min 0xFFFF n)

/-- A command has its start frame: it is late when that is after its tag (R162, R358). -/
def State.lateStart (s : State) (h : Nat) : State :=
  match (s.hop h).start with
  | none => s
  | some f =>
    let n := sgn 32 (f - s.execFrame h).toNat
    if s.tagged h && decide (0 < n) then s.noteLate h n.toNat else s

/-- A command whose checks are passed starts: what it preempts is cancelled, its start frame is noted, and a late start is counted
(R147, R160, R162). The start frame of a motion command stands only when its brake has released, that of a stop, of an ENABLE_AXIS and
of a DISABLE_AXIS when it acts: they call `State.lateStart` then. -/
def State.markStart (s : State) (c : CmdSpec) (h : Nat) : State :=
  let s := if s.preempt h then s.preempts h else s
  let f := if c.engine then s.frame.counter + 1 else s.frame.counter
  let s := (s.setStage h .started).setHop h (fun x => { x with start := some f, late := false })
  if s.isMotion h || isStopOp (s.opcode h) || s.opcode h == 0x0101 then s else s.lateStart h

/-- Start the command of `h` (R147, R161, R162). SAFE bars a motion command that waited as it bars a new one (R169); the NOT_READY check,
put off behind an ENABLE_AXIS, is made here, but for a stop, which does not wait for it (R157, Table HOP-6). -/
def startCmd (c : CmdSpec) (h : Nat) (s : State) : State :=
  let ready := if isStopOp (s.opcode h) && s.enableAhead h then none else c.ready s h
  match ready, (s.hop h).failedBy with
  | some _, some q => s.refuse h 3 q.toNat []
  | r, _ =>
    if s.safeBars h then s.refuse h 0x10 s.faults.cause []
    else match r with
    | some d => s.refuse h 0x0E d []
    | none =>
      match c.own s h with
      | some r => s.refuse h r.1 r.2.1 r.2.2
      | none => c.start (s.markStart c h) h

/-- A command that sets BULK owns the bulk window while it is in flight (R166). -/
def State.useBulk (s : State) (h : Nat) : State :=
  if s.bulkFlag h then ({ s with host := { s.host with bulkBusy := true } } : State).setHop h (fun x => { x with bulk := true }) else s

/-- A stop that passes its checks cancels at once; nothing else does (R163). -/
def State.stopTaken (s : State) (h : Nat) : State := if isStopOp (s.opcode h) then s.stopWins h else s

/-- Copy an owner's working values to its running values. -/
def State.copyOwner (s : State) (o : Owner) : State :=
  let keep := s.params.running.filter (fun e => pOwner e.1 != o)
  let add := s.params.working.filter (fun e => pOwner e.1 == o)
  { s with params := { s.params with running := add.foldl (fun l e => tabSet l e.1 e.2 (pDefault e.1)) keep } }

/-- Owners that an enable of axes and units newly enables are copied in the frame in which it is taken (R178). -/
def State.copyEnabled (s : State) (axes units : Nat) : State :=
  let dev := !s.deviceOn && (axes != 0 || Nat.land units 0x1E0 != 0)
  let nets := !s.ownerOn .nets && Nat.land units 0x60 != 0
  let s1 := (maskAxes axes).foldl (fun t n => if s.axOff n then t.copyOwner (.axis n) else t) s
  let s2 := ((List.range 10).filter (fun b => units.testBit b && !s.unitOn b)).foldl (fun t b => t.copyOwner (.unit b)) s1
  let s3 := if nets then s2.copyOwner .nets else s2
  if dev then s3.copyOwner .device else s3

/-- Take the command of `h` (R155, R163, R168). DESIGN CHOICE (log entry 32): a command that an earlier stop had already cancelled when it
was taken is refused before the checks, one that a taken stop cancels now after them; no rule orders R163 against R168. -/
def takeCmd (c : CmdSpec) (h : Nat) (s : State) : State :=
  let s := s.beginTake h
  match (s.hop h).doomed with
  | some q => s.refuse h 3 q.toNat []
  | none =>
    match firstChecks c s h with
    | some r => s.refuse h r.1 r.2.1 r.2.2
    | none =>
      let s := s.useBulk h
      match lateChecks c s h with
      | some r => s.refuse h r.1 r.2.1 r.2.2
      | none =>
        match s.stopOver h with
        | some q => s.refuse h 3 q []
        | none =>
          let s := c.taken (s.stopTaken h) h
          match s.waitOf h with
          | none => startCmd c h s
          | some .waitTag => s.setProg h 1
          | some st => s.enterWait h st

/-- Take commands whose opcode or operation is not assigned, while they are next: they only complete UNKNOWN_OPCODE or
BAD_FIELD (R168, R621). -/
def State.takeUnknown (s : State) : Nat → State
  | 0 => s
  | k + 1 =>
    match s.nextStart with
    | none => s
    | some h =>
      if s.opKnown h || (s.stage h).waiting then s
      else
        let t := s.beginTake h
        let t := match (t.hop h).doomed with
          | some q => t.refuse h 3 q.toNat []
          | none =>
            match opRow (t.opcode h) with
            | none => t.refuse h 7 0 []
            | some _ => t.refuse h 8 ((t.headerBad h 0 []).getD 16) []
        t.takeUnknown k

/-- Bring barriers, waiting stages and unassigned opcodes up to date after any change of the hoppers. -/
def State.settle (s : State) : State := (s.endBarriers.repark.endBarriers).takeUnknown 4

/-- The row of an opcode: it takes the command of hopper `h` when that command is the next to take a start (log entry 13). -/
def takeRow (c : CmdSpec) (h : Nat) (s : State) : State :=
  if s.nextStart == some h && s.rungCmd h && s.opcode h == c.op &&
      (match c.sub with | some o => s.p8 h 0 == o | none => true) then
    (takeCmd c h s).settle
  else s

/-- Start a waiting or held command when it is the next to take a start. -/
def startRow (c : CmdSpec) (h : Nat) (s : State) : State :=
  if s.nextStart == some h && (s.stage h).waiting then (startCmd c h s.useStart).settle else s

/-- BARRIER_TIMEOUT: TIMEOUT, EV-0x1104, and the commands waiting behind it are cancelled (R174). -/
def execBarrierTimeout (h : Fin 32) (s : State) : Host.Outcome State Fault Refusal :=
  let t := s.p16 h 2
  .next (
    if s.isBarrier h && t != 0 && decide (t ≤ s.since (s.hop h).taken) then
      let q := s.seqNo h
      let behind := s.byTaking.filter (fun x => s.stage x == .waitBarrier && s.inScope h x &&
        decide ((s.hop h).takeNo < (s.hop x).takeNo))
      let s := s.ev 0x1104 q
      let s := s.finish h 0x12 (s.since (s.hop h).taken) []
      (behind.foldl (fun t x => t.refuse x 3 q []) s).settle
    else s)

/-- HELD_COMMAND_TIMEOUT: a held command eight frames after its intake completes CAL_BUSY (R38). -/
def execHeldCommandTimeout (h : Fin 32) (s : State) : Host.Outcome State Fault Refusal :=
  .next (
    if s.stage h == .held && decide (s.ahead (s.hop h).intake ≤ -8) then (s.refuse h 4 (s.framesLeft h) []).settle
    else s)

/-- BARRIER (R172). It starts when it is taken or released, and is over when nothing in its scope is left. -/
def barrierSpec : CmdSpec where
  op := 0x1101
  need := 4
  field := fun s h => if 1 < s.p8 h 0 then some 16 else if s.p8 h 1 ≠ 0 then some 17 else none
  start := fun s _ => s

def execBarrier (h : Fin 32) (s : State) : Host.Outcome State Fault Refusal := .next (takeRow barrierSpec h s)

/-- Sixteen bytes of Table HOP-10 for one source; commands in flight include those handed over. -/
def State.hopCounts (s : State) (k : Nat) : List Byte :=
  let c := s.intake.counts.get (Fin.ofNat 4 k)
  let fly := (hops32.filter (fun h => srcOf h == k && s.stage h != .free)).length
  le32 c.taken ++ le32 c.refused ++ le16 fly ++ le16 (max c.peak fly) ++ le16 c.late ++ le16 c.calBusy

/-- HOP_STATUS (Table HOP-10). -/
def hopStatusSpec : CmdSpec where
  op := 0x1102
  need := 1
  field := fun s h => if 1 < s.p8 h 0 then some 16 else none
  start := fun s h =>
    let r := (List.range 4).flatMap (fun k => s.hopCounts k)
    let s := if s.p8 h 0 = 1 then
        { s with intake := { s.intake with counts := Quad.all {} } } else s
    s.doneWith h r

def execHopStatus (h : Fin 32) (s : State) : Host.Outcome State Fault Refusal := .next (takeRow hopStatusSpec h s)

end Sys2Proof.Machine
end

