-- ==== Sys2Proof/Machine/ParamCmd.lean ====
section
/-! DEFINITION. Parameter commands, units, configuration images and the store (06), and what an enable asks of the device. -/

namespace Sys2Proof.Machine

/-! ### Presence and the standby's refusals (R562, R564, R544) -/

/-- Presence of a request from the source of hopper `h`, as latched at the boundary. -/
def State.presence (s : State) (h : Nat) : Bool :=
  s.svc.winBound || (s.svc.sealBound && (srcOf h == 0 || srcOf h == 3))

/-- The device is the STANDBY one of an enabled pair. -/
def State.twinStandby (s : State) : Bool := s.unitOn 8 && s.twin.role == .standby

/-- The device is the STANDBY or ARMING one of an enabled pair. -/
def State.twinDown (s : State) : Bool := s.unitOn 8 && (s.twin.role == .standby || s.twin.role == .arming)

/-- A command that names a paired axis of such a device (R544). -/
def State.twinBars (s : State) (h : Nat) : Bool := s.twinDown && Nat.land (s.axmask h) (s.par 0x8000) != 0

/-! ### What an enable asks of the device (stage 1) -/

/-- Governing enables that read low (R321): the mask of half-bridges of the axis. -/
def State.enablesLow (s : State) (n : Fin 4) : Nat :=
  if s.work (psId n 0) = 1 then maskOf ((s.pins.pinEn.get n).toList.map (fun b => !b))
  else if s.axen n then 0 else 0xF

/-- Latched switches of an axis as the mask of R298. -/
def GateSt.latchMask (g : GateSt) : Nat :=
  maskOf ([g.a1, g.a2, g.b1, g.b2].flatMap (fun b => [b.lo.cause != 0, b.hi.cause != 0]))

/-- Device conditions of ENABLE_AXIS. -/
def State.axisEnableFindings (s : State) (n : Fin 4) : List Finding :=
  let m := s.motion.get n
  let p : Int := m.p
  fnd s.clock.onRc 1 0x1403 0xFF ++
  fnd (decide (s.power.vm < 7000) || !s.domReady .aux) 1 0x1302 0xFF ++
  fnd s.power.change.isSome 1 0x1303 0xFF ++
  fnd (s.faults.safe.get n != 0) 1 0x0021 n.val ++
  fnd (decide (p < s.workI (axId n 0x46)) || decide (s.workI (axId n 0x47) < p)) 1 0x0103 n.val ++
  fnd (s.enablesLow n != 0) 1 0x0301 (s.enablesLow n) ++
  fnd ((s.gate.get n).latchMask != 0) 1 0x0303 (s.gate.get n).latchMask ++
  fnd (s.svc.bistTodo.head? == some (8 + n.val)) 1 0x0907 (0x10 + n.val)

/-- Device conditions of ENABLE_UNIT. -/
def State.unitEnableFindings (s : State) (mask : Nat) : List Finding :=
  (if mask.testBit 8 && !s.unitOn 8 then
    fnd (s.pins.role == .floating) 1 0x0002 0xFF ++
    (axes4.flatMap (fun n => fnd ((s.work 0x8000).testBit n.val && !s.axOff n) 1 0x0803 n.val)) ++
    fnd (s.svc.failed.getLsbD 5) 1 0x090B 5
   else []) ++
  (if mask.testBit 9 && !s.unitOn 9 then fnd (s.svc.failed.getLsbD 4) 1 0x090B 4 else [])

/-- Prospective configuration with more axes and units. -/
def State.cfgPlus (s : State) (axes units : Nat) : Cfg :=
  { units := Nat.lor s.cfg.units units, axes := Nat.lor s.cfg.axes axes }

def State.cfgMinus (s : State) (axes units : Nat) : Cfg :=
  { units := Nat.land s.cfg.units (1023 - units % 1024), axes := Nat.land s.cfg.axes (15 - axes % 16) }

/-- Findings of enabling axes and units together (R187, R188). -/
def State.enableFindings (s : State) (axes units : Nat) : List Finding :=
  ((maskAxes axes).flatMap (fun n => s.axisEnableFindings n)) ++ s.unitEnableFindings units ++
    surveyCfg s s.params.working (s.cfgPlus axes units)

/-! ### Running values (R178 to R180) -/

/-- Frames within which the verdicts are complete (R185). -/
def State.verdictFrames (s : State) : Nat := cdiv 4800 (s.par 0x0018) + 1

/-! ### Configuration store (R191 to R195) -/

/-- Newest valid stored copy: true for copy A. -/
def State.newestCopy (s : State) : Option (Bool × StoreCopy) :=
  match s.params.copyA, s.params.copyB with
  | some a, some b =>
    if a.valid ∧ (!b.valid ∨ b.saves.toNat ≤ a.saves.toNat) then some (true, a)
    else if b.valid then some (false, b) else none
  | some a, none => if a.valid then some (true, a) else none
  | none, some b => if b.valid then some (false, b) else none
  | none, none => none

/-- The values of a set without those at their defaults. -/
def trimSet (l : List (Nat × Nat)) : List (Nat × Nat) :=
  l.foldl (fun acc e => tabSet acc e.1 e.2 (pDefault e.1)) []

/-- IDs at which two sets differ. -/
def diffIds (a b : List (Nat × Nat)) : List Nat :=
  (sortBy (fun x y => decide (x < y)) (dedup ((a ++ b).map (·.1)))).filter (fun id => setVal a id != setVal b id)

def isSealed (id : Nat) : Bool := match pRow id with | some r => r.acc == 2 | none => false

/-- Parameters whose change is an identity change (Table SVC-1). -/
def isIdentity (id : Nat) : Bool :=
  [0x7000, 0x7001, 0x6102, 0x6202, 0x6103, 0x6203, 0x6001, 0x6002, 0x8005, 0x9002].contains id

/-- Qualifier of EV-0x0903 for changed and for written IDs; 0xFFFF none (R565). -/
def protectedQual (changed written : List Nat) : Nat :=
  if changed.any isIdentity then 1 else if written.any isSealed then 2 else 0xFFFF

/-- The set that a save or erase is compared with (R195). -/
def State.storedSet (s : State) : List (Nat × Nat) :=
  match s.newestCopy with | some x => x.2.vals | none => []

/-- A save of these values changes a sealed one. -/
def State.saveSealed (s : State) (vals : List (Nat × Nat)) : Bool := (diffIds s.storedSet vals).any isSealed

/-- Write the copy that is not the newest valid one; `good`: it passes its read-back (R194). SAVES of a first save is a free value. DESIGN
CHOICE (log entry 32): with no valid copy it is copy A. -/
def State.saveCopy (s : State) (good : Bool) (label : BitVec 32) (fwMin : Nat) (vals : List (Nat × Nat)) : State :=
  match s.newestCopy with
  | some (isA, c) =>
    let n : StoreCopy := { valid := good, saves := c.saves + 1, label := label, fwMin := fwMin, vals := vals }
    { s with params := if isA then { s.params with copyB := some n } else { s.params with copyA := some n } }
  | none =>
    let (v, t) := s.fresh
    let n : StoreCopy := { valid := good, saves := BitVec.ofNat 32 v, label := label, fwMin := fwMin, vals := vals }
    { t with params := { t.params with copyA := some n } }

/-- A save: DONE, with EV-0x0903 for a changed sealed value; or, when the copy fails its read-back, FT-0x0010, and the previous newest
copy stays (R194, R565). DESIGN CHOICE (log entry 33): the command then completes FAULT with that code. -/
def State.saveAs (s : State) (h : Nat) (label : BitVec 32) (fwMin : Nat) (vals : List (Nat × Nat)) : State :=
  let q := if s.saveSealed vals then 2 else 0xFFFF
  let w := s.flashWrite
  let t := w.2.saveCopy w.1 label fwMin vals
  if w.1 then (t.evProtected q).doneWith h [] else (t.raise 0x0010 0 0 false).finish h 6 0x0010 []

/-- Image bytes of a copy (Tables PAR-4 and PAR-5). -/
def imageBytes (c : StoreCopy) : List Byte :=
  let n := c.vals.length
  let head := b8 0x4B ++ b8 0x43 ++ b8 0x46 ++ b8 0x47 ++ le16 1 ++ le16 n ++ le16 0x0458 ++ b8 3 ++ b8 c.fwMin
    ++ le32 c.label.toNat ++ le32 c.saves.toNat ++ le32 0 ++ le32 (32 + 12 * n)
  let body := c.vals.flatMap (fun e => le16 e.1 ++ b8 ((pRow e.1).map (·.ty) |>.getD 0) ++ b8 0 ++ leBytes 8 e.2)
  head ++ le32 (crc32 (head ++ body)) ++ body

/-- Staged bytes. -/
def State.stg (s : State) (a n : Nat) : List Byte := cellRead s.params.staging a n

def stagingSize : Nat := 10240

/-- Entries of the staged image: ID, TYPE, reserved byte, VALUE. -/
def State.stagedEntries (s : State) : List (Nat × Nat × Nat × Nat) :=
  (List.range (min 822 (get16 (s.stg 6 2) 0))).map (fun i =>
    let e := s.stg (32 + 12 * i) 12
    (get16 e 0, getB e 2, getB e 3, getN e 4 8))

/-- An entry names an assigned ID with its type and an in-range value. -/
def entryOk (e : Nat × Nat × Nat × Nat) : Bool :=
  match pRow e.1 with
  | some r => r.ty == e.2.1 && e.2.2.1 == 0 && pInRange r e.2.2.2
  | none => false

/-- First entry that is invalid, repeated or out of order (SV-0x0014). -/
def badEntry (l : List (Nat × Nat × Nat × Nat)) : Option Nat :=
  (List.range l.length).find? (fun i =>
    !entryOk (l.getD i (0, 0, 0, 0)) ||
    (i != 0 && decide ((l.getD i (0, 0, 0, 0)).1 ≤ (l.getD (i - 1) (0, 0, 0, 0)).1)))

/-- Checks of the staged image (R193, R205). An empty buffer holds no image. DESIGN CHOICE (log entry 32): a COUNT above 822 is SV-0x0015
with qualifier 1, and 822 entries are checked. -/
def State.imageFindings (s : State) : List Finding :=
  if !s.params.staged then [{ stage := 2, code := 0x0016, qual := 1 }] else
  let hd := s.stg 0 32
  let cnt := get16 hd 6
  let ents := s.stagedEntries
  fnd (get16 hd 8 != 0x0458) 2 0x0013 0 ++ fnd (get16 hd 4 != 1) 2 0x0013 1 ++
  fnd (getB hd 10 != 3 || decide (2 < getB hd 11)) 2 0x0013 2 ++
  (match badEntry ents with | some i => [{ stage := 2, code := 0x0014, qual := min i 0xFE }] | none => []) ++
  fnd (get32 hd 0 != 0x4746434B) 2 0x0015 0 ++
  fnd (decide (822 < cnt) || get32 hd 24 != 32 + 12 * cnt) 2 0x0015 1 ++
  fnd (get32 hd 28 != crc32 (s.stg 0 28 ++ s.stg 32 (12 * min 822 cnt))) 2 0x0015 2

/-- The set that the staged image describes. -/
def State.imageSet (s : State) : List (Nat × Nat) := s.stagedEntries.map (fun e => (e.1, e.2.2.2))

/-- Index of an ID among the staged entries, 0xFE when it is absent. -/
def State.imageIndex (s : State) (id : Nat) : Nat := min 0xFE (s.stagedEntries.findIdx (fun e => e.1 == id))
  |> fun i => if (s.stagedEntries.any (fun e => e.1 == id)) then i else 0xFE

/-- The working set at "Firmware started" (R196, Table PAR-6), and the running values of the device owner. -/
def State.bootParams (s : State) : State :=
  let blank := s.params.copyA.isNone && s.params.copyB.isNone
  let newestIsBad := match s.params.copyA, s.params.copyB with
    | some a, some b => (!a.valid && decide (b.saves.toNat ≤ a.saves.toNat)) || (!b.valid && decide (a.saves.toNat < b.saves.toNat))
    | _, _ => false
  let vals := trimSet s.storedSet
  let (q, t) := s.fresh
  let t := if blank then t.ev 0x0012 0
    else match s.newestCopy with
      | some _ => (t.evIf newestIsBad 0x0013 0).ev 0x0010 q
      | none => t.raise 0x0011 0 0 false
  { t with params := { t.params with
      working := vals, running := vals.filter (fun e => pOwner e.1 == .device), commit := [],
      units := 0, asked := 0, leaving := 0, staging := [], staged := false } }

/-! ### SET_PARAM -/

def State.setCount (s : State) (h : Nat) : Nat := s.p8 h 0

/-- Entries of a SET_PARAM: ID and VALUE. -/
def State.setEntries (s : State) (h : Nat) : List (Nat × Nat) :=
  (List.range (s.setCount h)).map (fun i => (s.p16 h (4 + 12 * i), getN (s.pBytes h (8 + 12 * i) 8) 0 8))

/-- Offset of the first field of entry `i` that breaks a rule (R183, R199, R628). -/
def State.setEntryBad (s : State) (h i : Nat) : Option Nat :=
  let b := 4 + 12 * i
  let id := s.p16 h b
  match pRow id with
  | none => some (16 + b)
  | some r =>
    if pOwner id ≠ pOwner (s.p16 h 4) then some (16 + b)
    else if s.p8 h (b + 2) ≠ r.ty then some (16 + b + 2)
    else if s.p8 h (b + 3) ≠ 0 then some (16 + b + 3)
    else if !pInRange r (getN (s.pBytes h (b + 4) 8) 0 8) then some (16 + b + 4)
    else none

/-- Rule one for parameters of an axis instance, else none (R148). -/
def State.paramAxisOk (s : State) (h : Nat) : Bool :=
  match pOwner (s.p16 h 4) with
  | .axis n => s.axmask h == axBit n
  | _ => s.axmask h == 0

/-- The working set with the entries written; a repeated ID takes its last value. -/
def State.setWorking (s : State) (h : Nat) : List (Nat × Nat) :=
  (s.setEntries h).foldl (fun l e => tabSet l e.1 e.2 (pDefault e.1)) s.params.working

/-- R182: the survey of the enabled owners over a new working set. -/
def State.writeFindings (s : State) (w : List (Nat × Nat)) : List Finding := surveyCfg s w s.cfg

/-- Findings against a write at its taking: a locked or sealed value of an enabled owner (R181), and then what every other stage finds
with the new values (R188). Without the former the new values are judged in the background (R185). -/
def State.barredWrite (s : State) (w : List (Nat × Nat)) (barred : List Finding) : List Finding :=
  if barred.isEmpty then [] else barred ++ s.writeFindings w

/-- A write that is judged completes with the verdicts (R200): write it, or keep it as a check. -/
def State.awaitVerdict (s : State) (h code detail : Nat) (data : List Byte) (ev : Nat) (ids : List Nat) : State :=
  { s with intake := { s.intake with onVerdict := s.intake.onVerdict ++
      [{ hop := h, code := code, detail := detail, data := data, ev := ev, ids := ids }] } }

/-- A write that takes an axis to pin mode: ENnA2, ENnB1 and ENnB2, which were no enables, begin filtered low under their pull-downs;
the pin of AXENn keeps its level as ENnA1 (02, edge case of a mode change). -/
def State.modePins (s : State) (w : List (Nat × Nat)) (n : Fin 4) : State :=
  if setVal w (psId n 0) = 1 ∧ s.work (psId n 0) ≠ 1 then
    { s with pins := { s.pins with pinEn := s.pins.pinEn.upd n (fun q => ⟨q.get 0, false, false, false⟩) } }
  else s

/-- Replace the working set and begin the recomputation of the verdicts (R185). -/
def State.writeWorking (s : State) (w : List (Nat × Nat)) : State :=
  let s := forAxes s (fun n t => t.modePins w n)
  { s with params := { s.params with working := w }
           intake := { s.intake with verdict := some (s.frame.counter + BitVec.ofNat 32 s.verdictFrames) } }

/-- Locked and sealed values that a SET_PARAM would write while their owner is enabled (R181). -/
def State.setBarred (s : State) (h : Nat) : List Finding :=
  (List.range (s.setCount h)).flatMap (fun i =>
    let id := s.p16 h (4 + 12 * i)
    fnd ((match pRow id with | some r => r.acc != 0 | none => false) && s.ownerOn (pOwner id)) 2 0x0012 i)

/-- NOT_PERMITTED of a SET_PARAM without the presence that a sealed value needs (R181). -/
def State.setUnseen (s : State) (h : Nat) : Option Nat :=
  if (s.setEntries h).any (fun e => isSealed e.1) ∧ !s.presence h then some 2 else none

/-- A check of NOT_PERMITTED made again when a command starts. -/
def againPermit (c : State → Nat → Option Nat) (s : State) (h : Nat) : Option (Nat × Nat × List Byte) :=
  (c s h).map (fun d => (0x0F, d, []))

/-- SET_PARAM (R199 to R201). What R181 asks for is asked at its taking and again when it starts. -/
def setParamSpec : CmdSpec where
  op := 0x0001
  need := 4
  field := fun s h =>
    let n := s.setCount h
    if 1 ≤ n ∧ n ≤ 9 ∧ s.plen h < 4 + 12 * n then some 6
    else if n = 0 ∨ 9 < n then some 16
    else if 1 < s.p8 h 1 then some 17
    else if s.p16 h 2 ≠ 0 then some 18
    else (List.range n).findSome? (fun i => s.setEntryBad h i)
  axisOk := some (fun s h => s.paramAxisOk h)
  permit := State.setUnseen
  judge := fun s h => some (s.cfg, s.barredWrite (s.setWorking h) (s.setBarred h))
  own := againPermit State.setUnseen
  values := fun s h => s.setWorking h
  start := fun s h =>
    let w := s.setWorking h
    let ids := (s.setEntries h).map (·.1)
    let n := b8 (s.setCount h)
    match s.setBarred h ++ s.writeFindings w with
    | f :: l =>
      let r := s.surveyReplyOf w s.cfg (f :: l)
      s.awaitVerdict h r.1 r.2.1 r.2.2 0xFFFF []
    | [] =>
      if bit (s.p8 h 1) 0 then s.awaitVerdict h 1 0 n 0xFFFF []
      else (s.writeWorking w).awaitVerdict h 1 0 n (protectedQual (diffIds s.params.working w) ids) (dedup ids)

def execSetParam (h : Fin 32) (s : State) : Host.Outcome State Fault Refusal := .next (takeRow setParamSpec h s)

/-- VERDICT_RECOMPUTED: the verdicts hold the new values, the writes complete, and the values of enabled owners go to the
running set at the next boundary (R179, R185, R200). -/
def execVerdictRecomputed (s : State) : Host.Outcome State Fault Refusal :=
  .next (
    if s.intake.verdict.isNone && s.intake.onVerdict.isEmpty then s
    else
      let l := s.intake.onVerdict
      let s := { s with intake := { s.intake with verdict := none, onVerdict := [] } }
      (l.foldl (fun t x => if t.stage x.hop == .started then
        ((t.queueRunning x.ids).evProtected x.ev).finish x.hop x.code x.detail x.data else t) s).settle)

/-! ### GET_PARAM -/

/-- One 12-byte entry and status of Table PAR-13. -/
def State.getEntry (s : State) (set id : Nat) : List Byte :=
  match pRow id with
  | none => []
  | some r =>
    let on := s.ownerOn (pOwner id)
    let stored := s.newestCopy
    let absent := (set == 1 && !on) || (set == 2 && stored.isNone)
    let v := match set with
      | 0 => s.work id
      | 1 => s.par id
      | 2 => setVal s.storedSet id
      | _ => pDefault id
    le16 id ++ b8 r.ty ++ b8 (b01 on + 2 * b01 (s.work id != s.par id) + 4 * r.acc + 16 * b01 absent)
      ++ leBytes 8 (if absent then 0 else v)

def getParamSpec : CmdSpec where
  op := 0x0002
  need := 4
  field := fun s h =>
    let n := s.p8 h 0
    if 1 ≤ n ∧ n ≤ 8 ∧ s.plen h < 4 + 2 * n then some 6
    else if n = 0 ∨ 8 < n then some 16
    else if 3 < s.p8 h 1 then some 17
    else if s.p16 h 2 ≠ 0 then some 18
    else (List.range n).findSome? (fun i =>
      let id := s.p16 h (4 + 2 * i)
      if (pRow id).isNone ∨ pOwner id ≠ pOwner (s.p16 h 4) then some (20 + 2 * i) else none)
  axisOk := some (fun s h => s.paramAxisOk h)
  start := fun s h =>
    s.doneWith h (b8 (s.p8 h 0) ++ b8 (s.p8 h 1) ++ [0, 0] ++
      (List.range (s.p8 h 0)).flatMap (fun i => s.getEntry (s.p8 h 1) (s.p16 h (4 + 2 * i))))

def execGetParam (h : Fin 32) (s : State) : Host.Outcome State Fault Refusal := .next (takeRow getParamSpec h s)

/-! ### SURVEY_RUN, ENABLE_UNIT, DISABLE_UNIT -/

/-- Keep the report of the survey made at a taking, over the configuration that it judged (R187, R203). -/
def State.keepReport (s : State) (h : Nat) (c : Cfg) : State :=
  s.setHop h (fun x => { x with report := surveyReport s s.params.working c [] })

def surveyRunSpec : CmdSpec where
  op := 0x0003
  need := 4
  field := fun s h => if 1023 < s.p16 h 0 then some 16 else if 15 < s.p8 h 2 then some 18
    else if s.p8 h 3 ≠ 0 then some 19 else none
  judge := fun s h => some (s.cfgPlus (s.p8 h 2) (s.p16 h 0), s.enableFindings (s.p8 h 2) (s.p16 h 0))
  taken := fun s h => s.keepReport h (s.cfgPlus (s.p8 h 2) (s.p16 h 0))
  start := fun s h => s.doneWith h (s.hop h).report

def execSurveyRun (h : Fin 32) (s : State) : Host.Outcome State Fault Refusal := .next (takeRow surveyRunSpec h s)

/-- Power domain of a unit (Table PAR-2). -/
def unitDomain (b : Nat) : Domain := if b < 5 then .fbk else if b < 8 then .net else if b = 8 then .twin else .plan

/-- Units of a power domain. -/
def domainUnits : Domain → Nat
  | .fbk => 0x01F
  | .net => 0x0E0
  | .twin => 0x100
  | .plan => 0x200
  | _ => 0

/-- An on or off request of a domain, latched for its next checkpoint (R92); a domain at rest takes it at the next
boundary (R88). -/
def State.domRequest (s : State) (d : Domain) (on : Bool) : State :=
  match (s.dom d).stage with
  | .down => if on then s.setDom d (fun x => { x with latched := some true }) else s.setDom d (fun x => { x with latched := none })
  | .ready => if on then s.setDom d (fun x => { x with latched := none }) else s.setDom d (fun x => { x with latched := some false })
  | .failed => if on then s else s.setDom d (fun _ => {})
  | _ => s.setDom d (fun x => { x with latched := some on })

/-- Request the domains of the units in a mask. -/
def State.requestUnits (s : State) (mask : Nat) (on : Bool) : State :=
  [Domain.fbk, .net, .twin, .plan].foldl (fun t d => if Nat.land mask (domainUnits d) != 0 then t.domRequest d on else t) s

def unitMaskBad (s : State) (h : Nat) : Option Nat :=
  if s.p16 h 0 = 0 ∨ 1023 < s.p16 h 0 then some 16 else if s.p16 h 2 ≠ 0 then some 18 else none

/-- ENABLE_UNIT (R177, R178, R203): it completes at the boundary at which every named unit is enabled. -/
def enableUnitSpec : CmdSpec where
  op := 0x0004
  need := 4
  field := unitMaskBad
  judge := fun s h => some (s.cfgPlus 0 (s.p16 h 0), s.enableFindings 0 (s.p16 h 0))
  taken := fun s h => (s.keepReport h (s.cfgPlus 0 (s.p16 h 0))).copyEnabled 0 (s.p16 h 0)
  start := fun s h =>
    let m := s.p16 h 0
    let new := Nat.land m (1023 - s.params.units.toNat)
    let s := { s with params := { s.params with asked := s.params.asked ||| BitVec.ofNat 10 new
                                                leaving := s.params.leaving &&& ~~~ BitVec.ofNat 10 m } }
    s.requestUnits m true

def execEnableUnit (h : Fin 32) (s : State) : Host.Outcome State Fault Refusal := .next (takeRow enableUnitSpec h s)

/-- AUTO_ENABLE: ENABLE_UNIT for dev.cfg.autoen through an internal hopper (R197). -/
def execAutoEnable (s : State) : Host.Outcome State Fault Refusal :=
  .next (
    match s.intake.autoDue, [28, 29, 30, 31].find? (fun h => s.stage h == .free) with
    | true, some h =>
      let q := s.intake.intSeq + 1
      let s := { s with intake := { s.intake with autoDue := false, intSeq := q } }
      ((s.setHop h (fun _ => { stage := .rung })).putSlot (128 * h)
        (le16 4 ++ le16 q.toNat ++ [0, 0, 4, 0] ++ le32 0 ++ le32 0 ++ le16 (s.par 0x0080) ++ [0, 0])).notePeak 3
    | _, _ => s)

/-- Owners outside the command that need a named unit (SV-0x0011), and the rules of the smaller configuration. -/
def State.disableFindings (s : State) (mask : Nat) : List Finding :=
  ((needs s.params.working s.cfg).flatMap (fun x =>
    fnd (mask.testBit x.2 && (decide (x.1 < 16) || !mask.testBit (x.1 - 16))) 3 0x0011 x.1)) ++
  (if mask.testBit 8 && s.unitOn 8 then
    axes4.flatMap (fun n => fnd ((s.par 0x8000).testBit n.val && !s.axOff n) 1 0x0804 n.val) else []) ++
  (surveyCfg s s.params.working (s.cfgMinus 0 mask)).filter (fun f => f.code != 0x0010)

/-- DISABLE_UNIT (R177, R204): it completes at the boundary at which every named unit is disabled. -/
def disableUnitSpec : CmdSpec where
  op := 0x0005
  need := 4
  field := unitMaskBad
  judge := fun s h => some (s.cfgMinus 0 (s.p16 h 0), s.disableFindings (s.p16 h 0))
  start := fun s h =>
    let m := BitVec.ofNat 10 (s.p16 h 0)
    { s with params := { s.params with asked := s.params.asked &&& ~~~ m
                                       leaving := s.params.leaving ||| (m &&& s.params.units) } }

def execDisableUnit (h : Fin 32) (s : State) : Host.Outcome State Fault Refusal := .next (takeRow disableUnitSpec h s)

/-! ### CFG_IMAGE (Table PAR-14) -/

def State.imgOffset (s : State) (h : Nat) : Nat := s.p32 h 4
def State.imgLength (s : State) (h : Nat) : Nat := s.p32 h 8

/-- Reserved bytes of a payload that begins with an operation byte and three reserved ones. -/
def opReserved (s : State) (h : Nat) : Option Nat := if s.p8 h 1 ≠ 0 ∨ s.p16 h 2 ≠ 0 then some 17 else none

def cfgClearSpec : CmdSpec where
  op := 0x0006
  sub := some 0
  need := 12
  field := opReserved
  start := fun s h => ({ s with params := { s.params with staging := [], staged := false } } : State).doneWith h []

def execCfgImageClear (h : Fin 32) (s : State) : Host.Outcome State Fault Refusal := .next (takeRow cfgClearSpec h s)

def cfgStageSpec : CmdSpec where
  op := 0x0006
  sub := some 1
  need := 12
  field := opReserved
  own := fun s h => if stagingSize < s.imgOffset h + s.host.bulkLen then some (s.svReply 0x0016 0) else none
  start := fun s h =>
    let d := s.bulkBytes 0 s.host.bulkLen
    ({ s with params := { s.params with staging := cellWrite s.params.staging (s.imgOffset h) d, staged := true } } : State).doneWith h []

def execCfgImageStage (h : Fin 32) (s : State) : Host.Outcome State Fault Refusal := .next (takeRow cfgStageSpec h s)

/-- SURVEY with the findings of the staged image, or none. -/
def State.imageReply (s : State) : Option (Nat × Nat × List Byte) :=
  match s.imageFindings with
  | [] => none
  | f :: l => some (s.surveyReply s.cfg (f :: l))

def cfgCheckSpec : CmdSpec where
  op := 0x0006
  sub := some 2
  need := 12
  field := opReserved
  own := fun s _ => s.imageReply
  start := fun s h => s.doneWith h []

def execCfgImageCheck (h : Fin 32) (s : State) : Host.Outcome State Fault Refusal := .next (takeRow cfgCheckSpec h s)

/-- IDs that applying the staged image changes. -/
def State.imageChanges (s : State) : List Nat := diffIds s.params.working s.imageSet

/-- Locked and sealed values that the staged image would change while their owner is enabled (R181). -/
def State.imageBarred (s : State) : List Finding :=
  s.imageChanges.flatMap (fun id =>
    fnd ((match pRow id with | some r => r.acc != 0 | none => false) && s.ownerOn (pOwner id)) 2 0x0012 (s.imageIndex id))

/-- NOT_PERMITTED of a valid staged image without the presence that it needs: `touched` says whether it touches a sealed value. -/
def State.imageUnseen (s : State) (h : Nat) (touched : Bool) : Option Nat :=
  if s.imageFindings.isEmpty ∧ touched ∧ !s.presence h then some 2 else none

def applyUnseen (s : State) (h : Nat) : Option Nat := s.imageUnseen h (s.imageChanges.any isSealed)

/-- APPLY. The image, R181 and presence are checked at its taking and, over the image then staged, when it starts (R205). -/
def cfgApplySpec : CmdSpec where
  op := 0x0006
  sub := some 3
  need := 12
  field := opReserved
  permit := applyUnseen
  judge := fun s _ =>
    some (s.cfg, if s.imageFindings.isEmpty then s.barredWrite (trimSet s.imageSet) s.imageBarred else s.imageFindings)
  own := fun s h => match againPermit applyUnseen s h with | some r => some r | none => s.imageReply
  values := fun s _ => if s.imageFindings.isEmpty then trimSet s.imageSet else s.params.working
  start := fun s h =>
    let w := trimSet s.imageSet
    let ids := s.imageChanges
    match s.imageBarred ++ s.writeFindings w with
    | f :: l =>
      let r := s.surveyReplyOf w s.cfg (f :: l)
      s.awaitVerdict h r.1 r.2.1 r.2.2 0xFFFF []
    | [] => (s.writeWorking w).awaitVerdict h 1 0 [] (protectedQual ids ids) ids

def execCfgImageApply (h : Fin 32) (s : State) : Host.Outcome State Fault Refusal := .next (takeRow cfgApplySpec h s)

def saveStagedUnseen (s : State) (h : Nat) : Option Nat := s.imageUnseen h (s.saveSealed s.imageSet)

/-- SAVE_STAGED: presence and the image are checked at its taking and again when it starts (R195, R205). -/
def cfgSaveStagedSpec : CmdSpec where
  op := 0x0006
  sub := some 4
  need := 12
  field := opReserved
  permit := saveStagedUnseen
  own := fun s h => match againPermit saveStagedUnseen s h with | some r => some r | none => s.imageReply
  start := fun s h => s.saveAs h (BitVec.ofNat 32 (get32 (s.stg 12 4) 0)) (getB (s.stg 11 1) 0) s.imageSet

def execCfgImageSaveStaged (h : Fin 32) (s : State) : Host.Outcome State Fault Refusal := .next (takeRow cfgSaveStagedSpec h s)

def saveWorkingUnseen (s : State) (h : Nat) : Option Nat :=
  if s.saveSealed s.params.working ∧ !s.presence h then some 2 else none

/-- SAVE_WORKING: presence is checked at its taking and again when it starts (R195). -/
def cfgSaveWorkingSpec : CmdSpec where
  op := 0x0006
  sub := some 5
  need := 12
  field := opReserved
  permit := saveWorkingUnseen
  own := againPermit saveWorkingUnseen
  start := fun s h => s.saveAs h (BitVec.ofNat 32 (s.work 0x0081)) 2 s.params.working

def execCfgImageSaveWorking (h : Fin 32) (s : State) : Host.Outcome State Fault Refusal := .next (takeRow cfgSaveWorkingSpec h s)

/-- LOAD_STORED (R198). DESIGN CHOICE (log entry 32): the staging bytes beyond the copied image become 0. -/
def cfgLoadStoredSpec : CmdSpec where
  op := 0x0006
  sub := some 6
  need := 12
  field := opReserved
  own := fun s _ => if s.newestCopy.isNone then some (s.svReply 0x0016 2) else none
  start := fun s h =>
    match s.newestCopy with
    | some x => ({ s with params := { s.params with staging := cellWrite [] 0 (imageBytes x.2), staged := true } } : State).doneWith h []
    | none => s.doneWith h []

def execCfgImageLoadStored (h : Fin 32) (s : State) : Host.Outcome State Fault Refusal := .next (takeRow cfgLoadStoredSpec h s)

/-- READ_STAGING (R198). DESIGN CHOICE (log entry 32): Table PAR-14 bounds the length at 4,096 and names no code; above it the length field
is bad. -/
def cfgReadStagingSpec : CmdSpec where
  op := 0x0006
  sub := some 7
  need := 12
  field := fun s h => match opReserved s h with | some o => some o | none => if 4096 < s.imgLength h then some 24 else none
  own := fun s h => s.findingReply (fnd (decide (stagingSize < s.imgOffset h + s.imgLength h)) 1 0x0016 0 ++ fnd (!s.params.staged) 1 0x0016 1)
  start := fun s h => s.doneBulk h (s.stg (s.imgOffset h) (s.imgLength h))

def execCfgImageReadStaging (h : Fin 32) (s : State) : Host.Outcome State Fault Refusal := .next (takeRow cfgReadStagingSpec h s)

def cfgEraseSpec : CmdSpec where
  op := 0x0006
  sub := some 8
  need := 12
  field := opReserved
  permit := fun s h => if !s.presence h then some 2 else none
  own := againPermit (fun s h => if !s.presence h then some 2 else none)
  start := fun s h =>
    let q := if s.saveSealed [] then 2 else 0xFFFF
    (({ s with params := { s.params with copyA := none, copyB := none } } : State).evProtected q).doneWith h []

def execCfgImageErase (h : Fin 32) (s : State) : Host.Outcome State Fault Refusal := .next (takeRow cfgEraseSpec h s)

end Sys2Proof.Machine
end

