-- ==== Sys2Proof/Machine/Axis.lean ====
section
/-! DEFINITION. What several families do to one axis: brakes, ending its running command, ramps to rest, leaving a run (07, 11,
14). -/

namespace Sys2Proof.Machine

/-! ### Brake outputs (R353, R358, R359) -/

/-- The brake output assigned to an axis. -/
def State.brakeOf (s : State) (n : Fin 4) : Option (Fin 4) :=
  axes4.find? (fun b => s.par (0x4020 + 8 * b.val) == n.val)

def State.brakeOut (s : State) (b : Fin 4) : State :=
  s.updBrake b (fun x => { x with on := false, economy := false, waiter := none, low := 0, offLow := 0 })

/-- The output of an assigned brake turns off; it stays off until the next motion command (R359). -/
def State.brakeOff (s : State) (n : Fin 4) : State :=
  match s.brakeOf n with | some b => s.brakeOut b | none => s

/-- Every output off: R31, R108, R341, SAFE. -/
def State.brakesOff (s : State) : State := forAxes s (fun b t => t.brakeOut b)

/-- The output conducts: a turn-on takes effect at the boundary after the start that asks for it (R27, R358). -/
def State.brakeIsOn (s : State) (b : Fin 4) : Bool :=
  (s.mon.brakes.get b).on && decide (s.ahead (s.mon.brakes.get b).onAt ≤ 0)

/-- A motion command of the axis starts: its brake turns on at the next boundary, and the command waits for the release (R358). -/
def State.brakeWait (s : State) (h : Nat) (n : Fin 4) : State :=
  match s.brakeOf n with
  | none => s
  | some b =>
    let x := s.mon.brakes.get b
    if x.locked then s
    else if x.on then
      (if x.waiter.isSome then
        -- a later command takes over the wait of the one it cancelled
        (s.updBrake b (fun y => { y with waiter := some h })).setHop h (fun y => { y with start := none })
       else s)
    else
      (s.updBrake b (fun y => { y with on := true, economy := false, onAt := s.frame.counter + 1, waiter := some h, low := 0 })).setHop h
        (fun y => { y with start := none })

/-! ### Motion of an axis at an instant -/

def tickHz : Rat := 200000000

/-- λ = 1 in the units of `Run.lam` (R446). -/
def State.lamTop (s : State) : Nat := 10000 * s.par 0x500A

/-- Haul time in haul ticks `d` PWMCLK ticks after the last boundary, for λ = 1 at `top` (R446). -/
def Run.haulAt (r : Run) (top : Nat) (d : Rat) : Rat :=
  let t : Rat := (top : Nat)
  let l : Rat := (r.lam : Nat)
  match r.up with
  | none => r.haul + l * d / t
  | some true => let x := min d (t - l); r.haul + (l * x + x * x / 2) / t + (d - x)
  | some false => let x := min d l; r.haul + (l * x - x * x / 2) / t

/-- λ `d` ticks after the last boundary, and its rate per second. -/
def Run.lamAt (r : Run) (top : Nat) (d : Rat) : Rat × Rat :=
  let t : Rat := (top : Nat)
  let l : Rat := (r.lam : Nat)
  match r.up with
  | none => (l / t, 0)
  | some true => if d < t - l then ((l + d) / t, tickHz / t) else (1, 0)
  | some false => if d < l then ((l - d) / t, -tickHz / t) else (0, 0)

/-- The run `len` ticks later: haul time, λ, and what is left of its ramp (R446). -/
def Run.advance (r : Run) (top len : Nat) : Run :=
  { r with
    haul := r.haulAt top len
    lam := match r.up with | some true => min top (r.lam + len) | some false => r.lam - len | none => r.lam
    up := match r.up with
      | some true => if top ≤ r.lam + len then none else r.up
      | some false => if r.lam ≤ len then none else r.up
      | none => none }

/-- The ramp that a stage asks for (R446). -/
def Run.ramp (r : Run) (top : Nat) : Run :=
  { r with up := match r.stage with
      | .startCheck => none
      | .running => if r.lam < top then some true else none
      | _ => if 0 < r.lam then some false else none }

/-- The run whose haul clock moves the axes in HAUL: the device's own, or the one its shadow follows (R446, R542). -/
def State.runNow (s : State) : Option Run := match s.plan.run with | some r => some r | none => s.twin.run

def State.haulAt (s : State) (d : Rat) : Rat := match s.runNow with | none => 0 | some r => r.haulAt s.lamTop d

def State.lamAt (s : State) (d : Rat) : Rat × Rat := match s.runNow with | none => (0, 0) | some r => r.lamAt s.lamTop d

/-- The axis runs in haul time; a ramp on a Ledge limit runs in real time (R446, R233). -/
def MotionSt.inHaul (m : MotionSt) : Bool := m.state == .haul && m.ledge.isNone

/-- Profile time in seconds at absolute tick `T` (R207, R446). -/
def State.profTime (s : State) (n : Fin 4) (pr : Profile) (T : Rat) : Rat :=
  if (s.motion.get n).inHaul then s.haulAt (T - (s.frame.tickBase : Rat)) / tickHz
  else (T - (pr.t0 : Rat)) / tickHz

/-- Velocity held after the last phase; that of the takeover frame at its end (R214). -/
def MotionSt.vEnd (m : MotionSt) : Rat :=
  match m.state with
  | .vel | .speedf => if m.ledge.isSome then 0 else m.vt
  | _ => match m.takeover, m.profile with | some _, some pr => (pr.phases.head?.map (·.v0)).getD 0 | _, _ => 0

/-- Continuous position, velocity, acceleration at tick `T`, and whether the profile is over (R627). A position profile ends
exactly on its target. -/
def State.xva (s : State) (n : Fin 4) (T : Rat) : Rat × Rat × Rat × Bool :=
  let m := s.motion.get n
  match m.profile with
  | none => ((m.p : Rat), 0, 0, true)
  | some pr =>
    let r := runPhases pr.phases pr.x0 m.vEnd (s.profTime n pr T)
    if m.state = .pos ∧ r.2.2.2 ∧ m.takeover.isNone then ((m.target : Rat), 0, 0, true)
    else if m.inHaul then
      let l := s.lamAt (T - (s.frame.tickBase : Rat))
      (r.1, l.1 * r.2.1, l.1 * l.1 * r.2.2.1 + l.2 * r.2.1, r.2.2.2)
    else r

/-- Rate of STEPF in µsteps/s (R222). -/
def State.stepRate (s : State) (n : Fin 4) : Rat :=
  let m := s.motion.get n
  let vmax : Rat := rawV (s.ax n 0x41)
  let mult := s.ax n 0x4A
  let lag := m.demand - m.issued
  if m.lagTrip ∨ (mult : Int) < lag.natAbs then vmax
  else match m.pulseTp with
    | none => vmax
    | some tp => if 2000000 < tp ∨ tp = 0 then vmax else min vmax ((mult : Rat) * tickHz / (tp : Rat))

/-- A position held at a Ledge limit where the counter stands on it: what lies beyond is no motion (R231). -/
def State.ledgeHold (s : State) (n : Fin 4) (x : Rat) : Rat :=
  let p := (s.motion.get n).p
  let hi := s.axI n 0x47
  let lo := s.axI n 0x46
  if hi ≤ p ∧ (hi : Rat) < x then (hi : Rat) else if p ≤ lo ∧ x < (lo : Rat) then (lo : Rat) else x

/-- State at the present boundary from which a command continues (R214). -/
def State.nowXva (s : State) (n : Fin 4) : Rat × Rat × Rat :=
  let m := s.motion.get n
  match m.state with
  | .stepf =>
    let lag := m.demand - m.issued
    ((m.p : Rat), if lag = 0 then 0 else if 0 < lag then s.stepRate n else -s.stepRate n, 0)
  | _ => let r := s.xva n (s.frame.tickBase : Rat); (s.ledgeHold n r.1, r.2.1, r.2.2.1)

/-- Give the axis a profile from time 0 at the present boundary (R208). -/
def State.setProfile (s : State) (n : Fin 4) (st : MotState) (x vt : Rat) (l : List Phase) : State :=
  s.updMotion n (fun m => { m with state := st, profile := some { t0 := s.frame.tickBase, x0 := x, phases := l }, vt := vt,
                                   ledge := none, takeover := none, lagTrip := false })

/-- Limits captured by the profile in force (R219, Table TWIN-2). -/
def MotionSt.capture (m : MotionSt) (V A D J : Nat) : MotionSt := { m with capV := V, capAcc := A, capDec := D, capJ := J }

/-- The axis is at rest in IDLE; any fraction is discarded (R627). -/
def MotionSt.toIdle (m : MotionSt) : MotionSt :=
  { m with state := .idle, profile := none, vel := 0, acc := 0, vt := 0, ledge := none, takeover := none, demand := 0, issued := 0,
           lagTrip := false, paceAt := none, pulseFirst := false }

/-- Motion state that the axis shows: IDLE outside Ready (R213). -/
def State.motState (s : State) (n : Fin 4) : MotState := if s.axReady n then (s.motion.get n).state else .idle

/-- Position state after drive is lost (R318, R590). -/
def State.lostPos (s : State) (n : Fin 4) (moved : Bool) : State :=
  s.updMotion n (fun m =>
    if moved then { m with posState := .unreferenced }
    else if m.posState = .referenced then { m with posState := .retained, retained := true } else m)

/-- A microstep was issued within ax.mot.still_t frames. -/
def State.movedLately (s : State) (n : Fin 4) : Bool := decide ((s.motion.get n).idleF < s.ax n 0x49)

/-! ### Completing what runs on an axis -/

/-- Result data of the command that an axis runs (Tables MOT-7 and WEDGE-10). -/
def State.moveResult (s : State) (n : Fin 4) (h : Nat) : List Byte :=
  let p := (s.motion.get n).p
  if s.opcode h = 0x0140 then
    let x := (s.wedge.get n).home
    (if x.st = .backoff then leS32 x.shift ++ le16 x.lead.toNat ++ b8 x.margin.toNat ++ [0] else List.replicate 8 0) ++ leS32 p
  else leS32 p

/-- End the running motion command of an axis (R164, R588 to R590). -/
def State.endCmd (s : State) (n : Fin 4) (code detail : Nat) : State :=
  let m := s.motion.get n
  let s1 := match m.cmd with
    | some h => if s.stage h == HopStage.started then s.finish h code detail (s.moveResult n h) else s
    | none => s
  let s2 := s1.updMotion n (fun m => { m with cmd := none, unavail := false })
  let s3 := s2.updWedge n (fun w => { w with home := { w.home with st := .none } })
  if (s3.follow.get n).st == .none then s3 else s3.updFollow n (fun _ => {})

/-- End the STOP or HALT that an axis runs. -/
def State.endStop (s : State) (n : Fin 4) (code detail : Nat) : State :=
  let m := s.motion.get n
  let s1 := match m.stopCmd with
    | some h => if s.stage h == HopStage.started then s.finish h code detail (leS32 m.p) else s
    | none => s
  s1.updMotion n (fun m => { m with stopCmd := none })

/-- End every STOP and HALT of an axis that has acted, also one that waits for the rest of another's ramp. -/
def State.endStops (s : State) (n : Fin 4) (code detail : Nat) : State :=
  let s := (s.byTaking.filter (fun h => s.stage h == .started && (s.opcode h == 0x0106 || s.opcode h == 0x0107) &&
      s.axmask h == axBit n && (match (s.hop h).start with | some f => decide (s.ahead f ≤ 0) | none => false))).foldl
    (fun t h => t.finish h code detail (leS32 (t.motion.get n).p)) s
  s.updMotion n (fun m => { m with stopCmd := none })

/-- Result data of PLAN_RUN. -/
def State.runResult (s : State) (r : Run) (status : Nat) : List Byte :=
  let pos := match s.plan.chain with
    | some c => c.joints.map (fun j => (s.motion.get (Fin.ofNat 4 j.axis)).p)
    | none => []
  b8 status ++ b8 r.seg ++ [0, 0] ++ le32 r.late ++ (fit 4 0 pos).flatMap leS32

/-- Result data of a motion command that has not acted. -/
def State.idleResult (s : State) (n : Fin 4) (h : Nat) : List Byte :=
  if s.opcode h = 0x0505 then (match s.plan.run with | some r => s.runResult r 3 | none => []) else s.moveResult n h

/-- The motion commands of an axis that started and have not acted yet (R358). -/
def State.endUnacted (s : State) (n : Fin 4) (code detail : Nat) : State :=
  (s.byTaking.filter (fun h => s.stage h == HopStage.started && s.isMotion h && Nat.land (s.motionMask h) (axBit n) != 0 &&
      decide (s.motion.toList.all (fun m => m.cmd != some h)) &&
      (match (s.hop h).start with | none => true | some f => f == s.frame.counter + 1))).foldl
    (fun t h => t.refuse h code detail (t.idleResult n h)) s

/-- Ramp to rest at `dec` from the state (x, v, a) (R227). An axis at rest becomes IDLE. -/
def State.rampFrom (s : State) (n : Fin 4) (x : Rat × Rat × Rat) (dec : Nat) : State :=
  if x.2.1 = 0 then s.updMotion n MotionSt.toIdle
  else (s.setProfile n .stopping x.1 0 (stopPhases x.2.1 x.2.2 (dec : Rat) (s.ax n 0x44 : Nat))).updMotion n (fun m => m.capture 0 0 dec (s.ax n 0x44))

/-- Ramp to rest at `dec` from the state at the present boundary (R227). -/
def State.rampToRest (s : State) (n : Fin 4) (dec : Nat) : State := s.rampFrom n (s.nowXva n) dec

/-! ### Leaving a haul road (R451, R453) -/

/-- The run ends: PLAN_RUN and the PLAN_STOP commands that wait complete. -/
def State.endRun (s : State) (code detail status : Nat) : State :=
  match s.plan.run with
  | none => s
  | some r =>
    let t := forAxes { s with plan := { s.plan with run := none } } (fun n t => t.updMotion n (fun m =>
      if m.cmd = some r.hop then { m with cmd := none } else m))
    let t := if s.stage r.hop == HopStage.started then t.finish r.hop code detail (s.runResult r status) else t
    r.waits.foldl (fun t w => if t.stage w.1 == HopStage.started then t.doneWith w.1 [] else t) t

/-- Axis `n` leaves HAUL: every other chain axis ramps to rest, and PLAN_RUN completes with `code` and status 3 (R453, R283). -/
def State.leaveRunAs (s : State) (n : Fin 4) (code detail : Nat) : State :=
  if (s.motion.get n).state == .haul && s.plan.run.isSome then
    let t := forAxes s (fun k t => if k != n && (t.motion.get k).state == .haul then t.rampToRest k (t.ax k 0x43) else t)
    (t.endRun code detail 3).ev 0x0505 0
  else s

/-- A command or a safe state takes axis `n` out of HAUL: PLAN_RUN completes CANCELLED (R453). -/
def State.leaveRun (s : State) (n : Fin 4) (detail : Nat) : State := s.leaveRunAs n 2 detail

/-- Everything that runs on an axis ends, its motion state becoming IDLE at once. -/
def State.dropAxis (s : State) (n : Fin 4) (code detail : Nat) : State :=
  let s := s.leaveRun n (if code = 2 then detail else 0xFFFF)
  let s := (s.endCmd n code detail).endStop n code detail
  s.updMotion n MotionSt.toIdle

/-- HALT of a fault or a command from the state (x, v, a): the ramp of R228; an axis at rest is HALTED. -/
def State.haltRamp (s : State) (n : Fin 4) (x : Rat × Rat × Rat) : State :=
  if x.2.1 = 0 then s.updMotion n (fun m => { m.toIdle with state := .halted })
  else (s.setProfile n .halting x.1 0 (stopPhases x.2.1 0 (s.ax n 0x45 : Nat) 0)).updMotion n (fun m => m.capture 0 0 (s.ax n 0x45) 0)

/-- The switch is on or turning on. -/
def SwitchSt.turning (x : SwitchSt) : Bool := x.phase == .onP1 || x.phase == .onP2 || x.phase == .on

/-- The turn-off of a switch begins, from its gate's present state (R302, R305). -/
def SwitchSt.startOff (x : SwitchSt) : SwitchSt := if x.turning then { x with phase := .offP1, skip := false } else x

/-- The low side's interval ends at tick `T`; `pulse` ticks of it refresh the half-bridge and restart its timer (R309). -/
def BridgeSt.lowEnds (b : BridgeSt) (T pulse : Nat) : BridgeSt :=
  match b.lowAt with
  | none => b
  | some t =>
    if t + pulse ≤ T then { b with lowAt := none, refreshAt := T, due := false, altered := false } else { b with lowAt := none }

/-- The turn-off of one switch of a half-bridge begins at tick `T`. -/
def BridgeSt.startOff (b : BridgeSt) (high : Bool) (T pulse : Nat) : BridgeSt :=
  if high then { b with hi := b.hi.startOff } else ({ b with lo := b.lo.startOff } : BridgeSt).lowEnds T pulse

/-- Both switches turn off from tick `T` on; the refresh timer keeps running (R31, R108, R317, R328). -/
def BridgeSt.allOff (b : BridgeSt) (T pulse : Nat) : BridgeSt :=
  { ((b.startOff true T pulse).startOff false T pulse) with pending := none, insert := false, recharge := false }

/-- Low side on, high side off, as CLAMP and the bootstrap pre-charge ask for; the turn-on waits for DEAD_TIME_END. `blocked`: the low
side may not be driven (rows 1 and 5 of Table GATE-2). -/
def BridgeSt.lowOn (b : BridgeSt) (blocked : Bool) (T pulse : Nat) : BridgeSt :=
  if blocked then b.allOff T pulse
  else { b.startOff true T pulse with insert := false, recharge := false, pending := if b.lo.turning then none else some false }

/-- A driver without power: no edge, no interval. -/
def BridgeSt.dead (b : BridgeSt) : BridgeSt :=
  { b with lo := { b.lo with phase := .off, fault := false }, hi := { b.hi with phase := .off, fault := false }, pending := none, due := false,
           insert := false, recharge := false, altered := false, lowAt := none }

/-- The same for each half-bridge. -/
def GateSt.mapBr (g : GateSt) (f : BridgeSt → BridgeSt) : GateSt := { g with a1 := f g.a1, a2 := f g.a2, b1 := f g.b1, b2 := f g.b2 }

/-- The turn-off of every switch of an axis begins. DESIGN CHOICE (log entry 32): an interval of a low side that ends with an event
without a tick is measured up to the last boundary. -/
def State.switchesOff (s : State) (n : Fin 4) : State :=
  s.updGate n (fun g => g.mapBr (fun b => b.allOff s.frame.tickBase (s.ps n 0x11)))

/-- The gate drivers of an axis lose their power (R82). -/
def State.gatesDead (s : State) (n : Fin 4) : State := s.updGate n (fun g => g.mapBr BridgeSt.dead)

end Sys2Proof.Machine
end

