-- ==== Sys2Proof/Machine/Motion.lean ====
section
/-! DEFINITION. Motion commands, and what they do at the boundary from which they act (07). -/

namespace Sys2Proof.Machine

/-! ### Checks that motion commands share -/

/-- Axis that a command of rule one names. DESIGN CHOICE (log entry 32): while AXMASK breaks the rule, which BAD_TARGET reports only
after the field checks (R168), those checks judge by the lowest axis named, or by axis 3. -/
def State.axisOf (s : State) (h : Nat) : Fin 4 :=
  if bit (s.axmask h) 0 then 0 else if bit (s.axmask h) 1 then 1 else if bit (s.axmask h) 2 then 2 else 3

/-- Value of an axis parameter: running while the axis is enabled, else working. -/
def State.axv (s : State) (n : Fin 4) (i : Nat) : Nat := if s.axOff n then s.work (axId n i) else s.ax n i
def State.axvI (s : State) (n : Fin 4) (i : Nat) : Int := if s.axOff n then s.workI (axId n i) else s.axI n i
def State.pinModeV (s : State) (n : Fin 4) : Bool := (if s.axOff n then s.work (psId n 0) else s.ps n 0) == 1

/-- NOT_PERMITTED: pin mode, and of a motion command its mode permission and the twin standby (R212, R326, R544, R623). -/
def motionPermit (fam : Option Nat) (pin : Bool) (s : State) (h : Nat) : Option Nat :=
  let n := s.axisOf h
  if pin ∧ s.pinModeV n then some 3
  else match fam with
    | some b => if !bit (s.axv n 0x40) b then some 1 else if s.twinBars h then some 4 else none
    | none => none

/-- NOT_READY unless the axis is at Ready. -/
def notReady (s : State) (h : Nat) : Option Nat :=
  let n := s.axisOf h
  if s.axReady n then none else some (s.seq n).code

/-- Findings of a motion or output command on an axis (R22, R229, R319, R591). -/
def State.motionFindings (s : State) (n : Fin 4) : List Finding :=
  let m := s.motion.get n
  fnd s.clock.onRc 1 0x1403 0xFF ++
  fnd (decide (3 ≤ s.faults.safe.get n)) 1 0x0020 n.val ++
  fnd (m.state == .halted) 1 0x0104 n.val ++
  fnd (!s.pinMode n && !s.axen n) 1 0x0302 n.val

/-- First payload field of a rate pair that is out of range (Table MOT-8). -/
def rateBad (s : State) (h off : Nat) : Option Nat := if 1000000000 < s.p32 h off then some (16 + off) else none

/-- A velocity limit: 0 or within R210. -/
def velOk (raw vmax : Nat) : Bool := raw == 0 || (decide (12 ≤ raw) && decide (raw ≤ vmax))

def State.inLedge (s : State) (n : Fin 4) (v : Int) : Bool :=
  decide (s.axvI n 0x46 ≤ v) && decide (v ≤ s.axvI n 0x47)

/-- ENDPOS (R215), a waiting SET_POSITION counted. -/
def State.endPos (s : State) (n : Fin 4) : Int :=
  let m := s.motion.get n
  if m.state = .pos then m.target else match m.setTo with | some x => x.1 | none => m.p

def orElse (a : Option Nat) (b : Option Nat) : Option Nat := match a with | some x => some x | none => b

/-- Fields of MOVE_TO and MOVE_BY after the first. -/
def moveFields (s : State) (h : Nat) : Option Nat :=
  if !velOk (s.p32 h 4) (s.axv (s.axisOf h) 0x41) then some 20 else orElse (rateBad s h 8) (rateBad s h 12)

/-- A field of 0 takes the live parameter (R219). -/
def State.orPar (s : State) (n : Fin 4) (v i : Nat) : Nat := if v = 0 then s.ax n i else v

/-- The motion command of `h` starts: its brake releases first (R358). -/
def startMotion (s : State) (h : Nat) : State := (s.brakeWait h (s.axisOf h)).lateStart h

/-! ### MOVE_TO, MOVE_BY -/

def moveToSpec : CmdSpec where
  op := 0x0103
  need := 16
  engine := true
  field := fun s h => if !s.inLedge (s.axisOf h) (s.pS32 h 0) then some 16 else moveFields s h
  permit := motionPermit (some 0) true
  ready := notReady
  judge := fun s h => some (s.cfg, s.motionFindings (s.axisOf h))
  own := fun s h => s.findingReply (s.motionFindings (s.axisOf h))
  start := startMotion

def execMoveTo (h : Fin 32) (s : State) : Host.Outcome State Fault Refusal := .next (takeRow moveToSpec h s)

def State.moveByFindings (s : State) (h : Nat) : List Finding :=
  let n := s.axisOf h
  let st := (s.motion.get n).state
  s.motionFindings n ++ fnd (st == .vel || st == .stepf || st == .speedf || st == .haul) 1 0x0106 n.val

def moveBySpec : CmdSpec where
  op := 0x0104
  need := 16
  engine := true
  field := moveFields
  permit := motionPermit (some 0) true
  ready := notReady
  judge := fun s h => some (s.cfg, s.moveByFindings h)
  own := fun s h =>
    let n := s.axisOf h
    match s.findingReply (s.moveByFindings h) with
    | some r => some r
    | none => if s.inLedge n (s.endPos n + s.pS32 h 0) then none else some (8, 16, [])
  start := startMotion

def execMoveBy (h : Fin 32) (s : State) : Host.Outcome State Fault Refusal := .next (takeRow moveBySpec h s)

/-- End what a motion command takes over from (R160, R214, R453). -/
def State.takeOver (s : State) (n : Fin 4) (seq : Nat) : State := ((s.cancelWrites (axBit n) seq).leaveRun n seq).endCmd n 2 seq

/-- A MOVE_TO or MOVE_BY acts (Table MOT-1, R214 to R218). -/
def actMove (h : Nat) (s : State) : State :=
  let n := s.axisOf h
  let m := s.motion.get n
  let target := if s.opcode h = 0x0104 then s.endPos n + s.pS32 h 0 else s.pS32 h 0
  let Vr := s.orPar n (s.p32 h 4) 0x41
  let V : Rat := rawV Vr
  let A := s.orPar n (s.p32 h 8) 0x42
  let D := s.orPar n (s.p32 h 12) 0x43
  let J := s.ax n 0x44
  let x := s.nowXva n
  let s := s.takeOver n (s.seqNo h)
  if m.state = .stepf ∨ m.state = .speedf then
    (s.setProfile n .pos x.1 0 [{ dur := 1 / 20000, v0 := x.2.1, a0 := 0, j := 0 }]).updMotion n
      (fun m => { (m.capture Vr A D J) with target := target, takeover := some (target, A, D, J, V), cmd := some h })
  else if x.2.1 = 0 ∧ x.2.2 = 0 ∧ x.1 = (target : Rat) then
    (s.updMotion n MotionSt.toIdle).doneWith h (leS32 m.p)
  else
    (s.setProfile n .pos x.1 0 (planTo x.1 x.2.1 x.2.2 target V A D J)).updMotion n
      (fun m => { (m.capture Vr A D J) with target := target, cmd := some h })

/-- The takeover frame ends: the profile starts from the state at its end (R214). -/
def State.endTakeover (s : State) (n : Fin 4) : State :=
  match (s.motion.get n).takeover with
  | none => s
  | some (target, A, D, J, V) =>
    let x := s.xva n (s.frame.tickBase : Rat)
    let cmd := (s.motion.get n).cmd
    (s.setProfile n .pos x.1 0 (planTo x.1 x.2.1 0 target V A D J)).updMotion n (fun m => { m with target := target, cmd := cmd })

/-! ### Ledge limits in velocity mode (R231) -/

/-- Limit ahead of a velocity, true for the high side. -/
def State.limitAhead (s : State) (n : Fin 4) (v : Rat) : Option (Bool × Int) :=
  if 0 < v then some (true, s.axI n 0x47) else if v < 0 then some (false, s.axI n 0x46) else none

/-- At a boundary from which VEL or SPEEDF begins, or at which ax.mot.dec may have changed: when the stopping distance already
exceeds the distance to the limit, the ramp to rest begins there (R231). -/
def State.ledgeNow (s : State) (n : Fin 4) : State :=
  let m := s.motion.get n
  if (m.state = .vel ∨ m.state = .speedf) ∧ m.ledge.isNone then
    let x := s.nowXva n
    let dec : Rat := (s.ax n 0x43 : Nat)
    let J : Rat := (s.ax n 0x44 : Nat)
    match s.limitAhead n x.2.1 with
    | none => s
    | some (hi, lim) =>
      let d := if hi then (lim : Rat) - x.1 else x.1 - (lim : Rat)
      if d < stopDist x.2.1 x.2.2 dec J then
        (s.setProfile n m.state x.1 m.vt (stopPhases x.2.1 x.2.2 dec J)).updMotion n (fun m => { m with ledge := some hi })
      else s
  else s

/-- The run of an axis leads beyond a limit: its segment ends there (R233). DEDUCED (log entry 14): a segment that ends within the
limits, from rest to rest, is no case of R233, whatever ax.mot.dec is (14, edge case). -/
def State.haulBeyond (s : State) (n : Fin 4) (hi : Bool) : Bool :=
  let t := (s.motion.get n).target
  if hi then decide (s.axI n 0x47 < t) else decide (t < s.axI n 0x46)

/-- The profile in force leads beyond a limit: the velocity that it ends at points there, or it turns back or ends behind it. -/
def State.leadsBeyond (s : State) (n : Fin 4) (hi : Bool) (lim : Int) : Bool :=
  let m := s.motion.get n
  let past (x : Rat) : Bool := if hi then decide ((lim : Rat) < x) else decide (x < (lim : Rat))
  (if hi then decide (0 < m.vEnd) else decide (m.vEnd < 0)) ||
    (match m.profile with | some pr => (turnPoints pr.phases 0 pr.x0).any (fun z => past z.2) | none => false)

/-- At a microstep at tick `T`: begin the ramp that ends on the limit when the stopping distance has reached it, or when it will have
before the next microstep of a profile that leads beyond it (R231, R233). -/
def State.ledgeStep (s : State) (n : Fin 4) (T : Nat) : State :=
  let m := s.motion.get n
  if (m.state = .vel ∨ m.state = .speedf ∨ m.state = .haul) ∧ m.ledge.isNone then
    let x := s.xva n (T : Rat)
    let dec : Rat := (s.ax n 0x43 : Nat)
    let J : Rat := (s.ax n 0x44 : Nat)
    match s.limitAhead n x.2.1 with
    | none => s
    | some (hi, lim) =>
      let d := if hi then (lim : Rat) - x.1 else x.1 - (lim : Rat)
      let a := x.2.2.1
      let look : Rat := if 0 < x.2.1 * a then (if a < 0 then -a else a) / dec else 0
      let near := if crossesZero x.2.1 a J then 0 else 1 + look
      let stop := stopDist x.2.1 a dec J
      if (if m.state = .haul then decide (d < stop + near) && s.haulBeyond n hi
          else decide (d < stop) || (decide (d < stop + near) && s.leadsBeyond n hi lim)) then
        let s := s.updMotion n (fun m => { m with
          profile := some { t0 := T, x0 := x.1, phases := stopAt x.2.1 a d dec J }, ledge := some hi })
        if m.state = .haul then s.note 0x0103 n.val (axBits n) false else s
      else s
  else s

/-! ### JOG -/

def jogSpec : CmdSpec where
  op := 0x0105
  need := 12
  engine := true
  field := fun s h =>
    if !velOk (s.pS32 h 0).natAbs (s.axv (s.axisOf h) 0x41) then some 16 else orElse (rateBad s h 4) (rateBad s h 8)
  permit := motionPermit (some 0) true
  ready := notReady
  judge := fun s h => some (s.cfg, s.motionFindings (s.axisOf h))
  own := fun s h => s.findingReply (s.motionFindings (s.axisOf h))
  start := startMotion

def execJog (h : Fin 32) (s : State) : Host.Outcome State Fault Refusal := .next (takeRow jogSpec h s)

/-- JOG acts (Table MOT-1, R220). -/
def actJog (h : Nat) (s : State) : State :=
  let n := s.axisOf h
  let m := s.motion.get n
  let vt : Rat := mkRat (s.pS32 h 0) 256
  let A := s.orPar n (s.p32 h 4) 0x42
  let D := s.orPar n (s.p32 h 8) 0x43
  let x := s.nowXva n
  let s := s.takeOver n (s.seqNo h)
  let still := decide (x.2.1 = 0 ∧ x.2.2 = 0)
  let onLimit := (decide (0 < vt) && decide (s.axI n 0x47 ≤ m.p)) || (decide (vt < 0) && decide (m.p ≤ s.axI n 0x46))
  let s := if still && (decide (vt = 0) || onLimit) then s.updMotion n MotionSt.toIdle
    else ((s.setProfile n .vel x.1 vt (velRamp x.2.1 x.2.2 vt A D (s.ax n 0x44 : Nat))).updMotion n
      (fun m => m.capture 0 A D (s.ax n 0x44))).ledgeNow n
  s.doneWith h (leS32 m.p)

/-! ### STOP and HALT -/

/-- Finish a stop at once: AXENn low, or safe state QUIET or CLAMP (R319, R591). -/
def State.stopAtOnce (s : State) (h : Nat) (n : Fin 4) : Option State :=
  let low := !s.axen n
  if low || decide (3 ≤ s.faults.safe.get n) then
    let s := if low && s.opcode h == 0x0107 then s.updMotion n (fun m => { m.toIdle with state := .halted }) else s
    let s := s.cancelWrites (axBit n) (s.seqNo h)
    some (((s.setHop h (fun x => { x with start := some s.frame.counter })).lateStart h).doneWith h (leS32 (s.motion.get n).p))
  else none

def startStop (s : State) (h : Nat) : State :=
  match s.stopAtOnce h (s.axisOf h) with | some t => t | none => s.lateStart h

def stopSpec : CmdSpec where
  op := 0x0106
  need := 4
  engine := true
  field := fun s h => rateBad s h 0
  permit := motionPermit none true
  ready := notReady
  start := startStop

def execStop (h : Fin 32) (s : State) : Host.Outcome State Fault Refusal := .next (takeRow stopSpec h s)

/-- HALT is no input of HALTED in Table MOT-1 (R213); with AXENn low it completes DONE (R319). -/
def State.haltFindings (s : State) (n : Fin 4) : List Finding :=
  fnd ((s.motion.get n).state == .halted && s.axen n && decide (s.faults.safe.get n < 3)) 1 0x0104 n.val

def haltSpec : CmdSpec where
  op := 0x0107
  engine := true
  permit := motionPermit none true
  ready := notReady
  judge := fun s h => some (s.cfg, s.haltFindings (s.axisOf h))
  own := fun s h => s.findingReply (s.haltFindings (s.axisOf h))
  start := startStop

def execHalt (h : Fin 32) (s : State) : Host.Outcome State Fault Refusal := .next (takeRow haltSpec h s)

/-- Every STOP and HALT of an axis that has acted completes DONE at rest. -/
def State.stopsDone (s : State) (n : Fin 4) : State := s.endStops n 1 0

/-- End the running commands of an axis for a stop of sequence `seq` (R164, R453, Table MOT-1). -/
def State.stopTakes (s : State) (n : Fin 4) (seq : Nat) : State :=
  let s := (s.leaveRun n seq).endCmd n 2 seq
  let s := s.endUnacted n 2 seq
  if (s.motion.get n).state = .stopping then s.endStop n 2 seq else s

/-- STOP acts (R227). In HALTING it waits for the rest. -/
def actStop (h : Nat) (s : State) : State :=
  let n := s.axisOf h
  let s := s.cancelWrites (axBit n) (s.seqNo h)
  let m := s.motion.get n
  let x := s.nowXva n
  let dec := s.orPar n (s.p32 h 0) 0x43
  match m.state with
  | .halted => s.doneWith h (leS32 m.p)
  | .halting => s
  | _ =>
    let t := s.stopTakes n (s.seqNo h)
    if x.2.1 = 0 then (t.updMotion n MotionSt.toIdle).doneWith h (leS32 m.p)
    else (t.setProfile n .stopping x.1 0 (stopPhases x.2.1 x.2.2 dec (s.ax n 0x44 : Nat))).updMotion n
      (fun m => { (m.capture 0 0 dec (s.ax n 0x44)) with stopCmd := some h })

/-- HALT acts (R228). -/
def actHalt (h : Nat) (s : State) : State :=
  let n := s.axisOf h
  let s := s.cancelWrites (axBit n) (s.seqNo h)
  let m := s.motion.get n
  let x := s.nowXva n
  match m.state with
  | .halted => s.doneWith h (leS32 m.p)
  | .halting => s
  | _ =>
    let t := s.stopTakes n (s.seqNo h)
    if x.2.1 = 0 then (t.updMotion n (fun m => { m.toIdle with state := .halted })).doneWith h (leS32 m.p)
    else (t.setProfile n .halting x.1 0 (stopPhases x.2.1 0 (s.ax n 0x45 : Nat) 0)).updMotion n
      (fun m => { (m.capture 0 0 (s.ax n 0x45) 0) with stopCmd := some h })

/-! ### FOLLOW_STEPS, SET_POSITION, AXIS_STATUS -/

/-- At standstill (R226). -/
def State.atStandstill (s : State) (n : Fin 4) : Bool := (s.motion.get n).still

def State.followStepsFindings (s : State) (n : Fin 4) : List Finding :=
  s.motionFindings n ++ fnd ((s.motion.get n).state != .stepf && !s.atStandstill n) 1 0x0105 n.val

def followStepsSpec : CmdSpec where
  op := 0x0108
  engine := true
  permit := motionPermit (some 1) true
  ready := notReady
  judge := fun s h => some (s.cfg, s.followStepsFindings (s.axisOf h))
  own := fun s h => s.findingReply (s.followStepsFindings (s.axisOf h))
  start := startMotion

def execFollowSteps (h : Fin 32) (s : State) : Host.Outcome State Fault Refusal := .next (takeRow followStepsSpec h s)

/-- FOLLOW_STEPS acts (R221, Table MOT-1). -/
def actFollowSteps (h : Nat) (s : State) : State :=
  let n := s.axisOf h
  let m := s.motion.get n
  let s := if m.state = .stepf then s else
    s.updMotion n (fun m => { m.toIdle with state := .stepf, pulses := 0, pulseAt := none, pulseTp := none, unavail := false })
  s.doneWith h (leS32 m.p)

/-- SET_POSITION needs standstill, or the sequencer Off or Failed (SV-0x0105). -/
def State.setPosFindings (s : State) (n : Fin 4) : List Finding :=
  let q := s.seq n
  fnd (!(q == .off || q == .failed || (q == .ready && s.atStandstill n))) 1 0x0105 n.val

def setPositionSpec : CmdSpec where
  op := 0x0109
  need := 8
  field := fun s h => if 1 < s.p8 h 4 then some 20 else if s.p8 h 5 ≠ 0 ∨ s.p16 h 6 ≠ 0 then some 21 else none
  permit := motionPermit none true
  judge := fun s h => some (s.cfg, s.setPosFindings (s.axisOf h))
  own := fun s h =>
    let n := s.axisOf h
    if !s.inLedge n (s.pS32 h 0) then some (8, 16, []) else s.findingReply (s.setPosFindings n)
  start := fun s h =>
    let n := s.axisOf h
    let m := s.motion.get n
    let was := match m.setTo with | some x => x.1 | none => m.p
    (s.updMotion n (fun m => { m with setTo := some (s.pS32 h 0, bit (s.p8 h 4) 0) })).doneWith h (leS32 was)

def execSetPosition (h : Fin 32) (s : State) : Host.Outcome State Fault Refusal := .next (takeRow setPositionSpec h s)

/-- Write the position keeping the electrical index; a profile in force moves with it, so that the rotor does not (R234, R388). -/
def MotionSt.putPos (m : MotionSt) (v : Int) : MotionSt :=
  { m with p := v, eloff := (((m.elec : Int) - v) % 1024).toNat
           profile := m.profile.map (fun x => { x with x0 := x.x0 + ((v - m.p : Int) : Rat) }) }

/-- The index is confirmed: the retained marking clears (R238). -/
def State.confirmIndex (s : State) (n : Fin 4) : State :=
  let m := s.motion.get n
  let s := s.updMotion n (fun m => { m with
    retained := false
    posState := if m.posState = .retained then .referenced else m.posState })
  s.evIf m.retained 0x0103 n.val

/-- SET_POSITION takes effect (R234, R235). -/
def State.applySetPos (s : State) (n : Fin 4) : State :=
  match (s.motion.get n).setTo with
  | none => s
  | some (v, ref) =>
    s.updMotion n (fun m => { m.putPos v with
      setTo := none
      kept := true
      posState := if ref then .referenced else .unreferenced })

def PosState.code : PosState → Nat
  | .unreferenced => 0
  | .referenced => 1
  | .retained => 2

def MotState.code : MotState → Nat
  | .idle => 0
  | .pos => 1
  | .vel => 2
  | .stepf => 3
  | .speedf => 4
  | .haul => 5
  | .stopping => 6
  | .halting => 7
  | .halted => 8

/-- Velocity as a signed q24.8 field. DESIGN CHOICE (log entry 32): the manual gives no rounding of the exact velocity; the model
takes the floor. -/
def velField (v : Rat) : Int := Rat.floor (v * 256)

/-- AXIS_STATUS result data (Table MOT-9). -/
def State.axisStatus (s : State) (n : Fin 4) : List Byte :=
  let m := s.motion.get n
  leS32 m.pAt ++ leS32 (velField m.vel) ++ leS32 (if s.motState n = .pos then m.target else m.pAt)
    ++ leS32 (if s.motState n = .stepf then m.demand - m.issued else 0)
    ++ b8 (s.motState n).code ++ b8 m.posState.code ++ le16 m.elec
    ++ b8 (b01 m.still + 2 * b01 (decide (m.p = s.axvI n 0x46)) + 4 * b01 (decide (m.p = s.axvI n 0x47)) + 8 * b01 m.retained)
    ++ [0, 0, 0] ++ le32 m.pulses ++ le16 (s.rejects (110 + 8 * n.val)) ++ le16 (satU 16 m.dropped)

def axisStatusSpec : CmdSpec where
  op := 0x010A
  start := fun s h => s.doneWith h (s.axisStatus (s.axisOf h))

def execAxisStatus (h : Fin 32) (s : State) : Host.Outcome State Fault Refusal := .next (takeRow axisStatusSpec h s)

/-! ### Rows of the engine -/

/-- INTERVAL_UNIT_FAULT: microsteps stop at once; FT-0x0102 at the next boundary (R207, Table MOT-6). -/
def execIntervalUnitFault (n : Fin 4) (s : State) : Host.Outcome State Fault Refusal :=
  .next ((s.updMotion n (fun m => { m with halted := true })).note 0x0102 n.val (axBits n) false)

/-- STANDSTILL_REACHED: zero velocity and no microstep for ax.mot.still_t frames (R226). -/
def execStandstillReached (n : Fin 4) (s : State) : Host.Outcome State Fault Refusal :=
  .next (
    let m := s.motion.get n
    if !m.still && decide (m.vel = 0) && decide (s.ax n 0x49 ≤ m.idleF) then
      s.updMotion n (fun m => { m with still := true, stillF := 0, holdF := 0 })
    else s)

/-! ### Ends of profiles at a boundary (Table MOT-1) -/

/-- The profile of an axis is over at the present boundary, and every microstep of it has been issued. In POS the last microstep decides,
which a tick holds that lies up to half a tick before the end (R207, Table MOT-1). -/
def State.profileOver (s : State) (n : Fin 4) : Bool :=
  let m := s.motion.get n
  let x := s.xva n ((s.frame.tickBase : Rat) + (if m.state = .pos then 1 / 2 else 0))
  m.profile.isSome && x.2.2.2 && decide (x.2.1 = 0) &&
    (decide (x.1 < (m.p : Rat) + 1 ∧ (m.p : Rat) - 1 < x.1) ||
      decide (m.p ≤ s.axI n 0x46 ∧ x.1 < (m.p : Rat)) || decide (s.axI n 0x47 ≤ m.p ∧ (m.p : Rat) < x.1))

/-- Rest at a boundary: POS, STOPPING and HALTING complete, VEL of velocity 0 or on a limit becomes IDLE. HOME_FACE keeps its
own steps (09). -/
def State.settleAxis (s : State) (n : Fin 4) : State :=
  let m := s.motion.get n
  if !s.profileOver n ∨ m.takeover.isSome then s
  else match m.state with
  | .pos =>
    if (s.wedge.get n).home.st != .none then s
    else (s.endCmd n 1 0).updMotion n MotionSt.toIdle
  | .vel =>
    if (s.wedge.get n).home.st != .none then s
    else s.updMotion n MotionSt.toIdle
  | .stopping => (s.updMotion n MotionSt.toIdle).stopsDone n
  | .halting => (s.updMotion n (fun m => { m.toIdle with state := if s.axReady n then .halted else .idle })).stopsDone n
  | _ => s

/-- The engine's book-keeping at a boundary: position and velocity of the snapshot, frames without a microstep (R226), and the
moved-to-still count. `stepped`: a microstep was issued in the frame that ends. -/
def State.boundAxis (s : State) (n : Fin 4) (stepped : Bool) : State :=
  let x := s.nowXva n
  s.updMotion n (fun m => { m with
    pAt := m.p
    steps := []
    vel := x.2.1
    acc := x.2.2
    idleF := if stepped then 0 else m.idleF + 1
    stillF := if m.still then m.stillF + 1 else 0
    holdF := if m.still then m.holdF + 1 else 0 })

end Sys2Proof.Machine
end

