-- ==== Sys2Proof/Machine/Gate.lean ====
section
/-! DEFINITION. Gate drive: switch precedence, edges, dead time, bootstrap refresh, governing enables, pin mode, switch faults
(10). -/

namespace Sys2Proof.Machine

/-- An event whose qualifier the manual does not state carries a free value (log entry 15). -/
def State.evFree (s : State) (code : Nat) : State := let x := s.fresh; x.2.ev code x.1
def State.noteFree (s : State) (code : Nat) (axes : BitVec 4) (cond : Bool) : State := let x := s.fresh; x.2.note code x.1 axes cond
def State.raiseFree (s : State) (code : Nat) (axes : BitVec 4) (cond : Bool) : State := let x := s.fresh; x.2.raise code x.1 axes cond

/-! ### Half-bridges and switches (R298) -/

def GateSt.br (g : GateSt) : Fin 4 → BridgeSt
  | 0 => g.a1
  | 1 => g.a2
  | 2 => g.b1
  | 3 => g.b2

def GateSt.updBr (g : GateSt) (b : Fin 4) (f : BridgeSt → BridgeSt) : GateSt :=
  match b with
  | 0 => { g with a1 := f g.a1 }
  | 1 => { g with a2 := f g.a2 }
  | 2 => { g with b1 := f g.b1 }
  | 3 => { g with b2 := f g.b2 }

def BridgeSt.sw (b : BridgeSt) (high : Bool) : SwitchSt := if high then b.hi else b.lo
def BridgeSt.updSw (b : BridgeSt) (high : Bool) (f : SwitchSt → SwitchSt) : BridgeSt :=
  if high then { b with hi := f b.hi } else { b with lo := f b.lo }

def State.bridge (s : State) (n b : Fin 4) : BridgeSt := (s.gate.get n).br b
def State.updBridge (s : State) (n b : Fin 4) (f : BridgeSt → BridgeSt) : State := s.updGate n (fun g => g.updBr b f)

/-- Switch number 2h + side. -/
def swNo (b : Fin 4) (high : Bool) : Nat := 2 * b.val + b01 high

/-- Coil of a half-bridge, and whether it is leg 2. -/
def coilOf (b : Fin 4) : Nat := b.val / 2
def isLeg2 (b : Fin 4) : Bool := b.val % 2 == 1

def CurrentSt.coil (c : CurrentSt) (k : Nat) : CoilSt := if k = 0 then c.coilA else c.coilB
def CurrentSt.updCoil (c : CurrentSt) (k : Nat) (f : CoilSt → CoilSt) : CurrentSt :=
  if k = 0 then { c with coilA := f c.coilA } else { c with coilB := f c.coilB }

/-- An on phase begins, in the direction of the set-point (R250, R254). -/
def CoilSt.onPhase (x : CoilSt) : CoilSt := { x with phase := .blank, neg := decide (x.setp < 0), seen := false, probe := none }

/-- The cycle under way gives way to fast decay of its own direction, F = 16; an inserted on phase is abandoned (R254, R255, R349). -/
def CoilSt.decay (x : CoilSt) : CoilSt := { x with phase := .fast, frac := 16, seen := false, insTo := none, probe := none }

/-- Insertions of the coil are abandoned. -/
def CoilSt.noInsert (x : CoilSt) : CoilSt := { x with insTo := none, raise := none, raised := false, probe := none }

/-! ### Who commands a switch (Table GATE-2) -/

/-- The governing enable of a half-bridge is filtered high (R58). -/
def State.enableOf (s : State) (n b : Fin 4) : Bool :=
  if s.pinModeV n then (s.pins.pinEn.get n).get b else s.axen n

/-- Row 9 in serial mode: low and high side of half-bridge `b`; none while a PWM leaves both open. -/
def CurrentSt.want (c : CurrentSt) (b : Fin 4) : Option (Bool × Bool) :=
  match c.hold, (c.coil (coilOf b)).probe with
  | .off, _ | .recal, _ => some (false, false)
  -- the inserted measurement of a bootstrap: its high side on, the other leg as R350 sets it
  | .quiet, some leg2 | .clamp, some leg2 => some (false, leg2 == isLeg2 b)
  | _, some leg2 => some (leg2 != isLeg2 b, leg2 == isLeg2 b)
  | .quiet, none => some (false, false)
  | .clamp, none => some (true, false)
  | _, none =>
    if c.voltage then none
    else
      let x := c.coil (coilOf b)
      -- a cycle that drives the positive sign has leg 1 high in its on phase and low in fast decay; the legs exchange for the negative
      let up := x.neg == isLeg2 b
      match x.phase with
      | .blank | .on => some (!up, up)
      | .fast => some (up, !up)
      | .slow | .ended => some (true, false)

/-- GPERM is clear, so that every switch of a paired axis is held off (R536); QUIET_REFRESH_PULSE has the exception of R554. -/
def State.permHeld (s : State) (n : Fin 4) : Bool := s.paired n && !s.twin.gperm

/-- A STANDBY or ARMING device of the shared-winding topology turns no switch of a paired axis on (R555). -/
def State.sharedDown (s : State) (n : Fin 4) : Bool := s.paired n && s.twinDown && s.par 0x8001 == 1

/-- A STANDBY device of the dual-winding topology gives a paired axis the refresh pulses of QUIET, whatever its shadow does (R554). -/
def State.pulsesOnly (s : State) (n : Fin 4) : Bool := s.paired n && s.twinDown && s.par 0x8001 == 0

/-- The state that Table GATE-2 gives a half-bridge: low and high side, none where the row leaves both open. -/
def State.switchWant (s : State) (n b : Fin 4) : Option (Bool × Bool) :=
  let q := s.seq n
  let g := s.gate.get n
  let x := g.br b
  let safe := s.faults.safe.get n
  if g.hwOff ∨ s.mon.shut ∨ s.faults.device then some (false, false)
  else if q = .off ∨ q = .waiting ∨ q = .up 1 ∨ q = .d2 ∨ q = .d3 ∨ q = .failed then some (false, false)
  else if s.permHeld n then some (false, false)
  else if !s.enableOf n b then some (false, false)
  else if s.power.vmOv ∨ safe = 4 then some (true, false)
  else if safe = 3 ∨ (safe = 2 ∧ s.pinMode n) then some (false, false)
  else if q = .up 2 then some (true, false)
  else if q = .up 3 then none
  else if q = .up 4 ∨ (q = .up 5 ∧ s.pinMode n ∧ (s.axSt n).brakeAt.isNone) then some (false, false)
  else if (s.mon.tests.get n).isSome then some (false, false)
  else if x.insert ∨ x.recharge then none
  else if s.pinMode n then
    let lvl := (s.pins.pinIn.get n).get b
    some (!lvl, lvl)
  -- regulation takes the switches again from the second boundary after a rise of AXENn (R320)
  else if g.enBack ≠ 0 then some (false, false)
  else (s.cur.get n).want b

/-- Row 1: a switch is latched, or cleared and not yet free to be driven (R330). -/
def State.swBlocked (s : State) (n b : Fin 4) (high : Bool) : Bool :=
  ((s.bridge n b).sw high).cause != 0 || (s.gate.get n).clearing.getLsbD (swNo b high)

/-- A switch may be turned on now. -/
def State.mayTurnOn (s : State) (n b : Fin 4) (high : Bool) : Bool :=
  !s.swBlocked n b high &&
  (match s.switchWant n b with | none => true | some w => if high then w.2 else w.1)

/-- Half-period P of the PWM in ticks (R257). -/
def State.pwmHalf (s : State) (n : Fin 4) : Nat := rdiv 100000000 (1000 * s.ax n 0x20)

/-! ### Edges (R302 to R308) -/

/-- Source (true) or sink that holds a gate, and the parameter of its current: strong in P1 and P3, weak in P2, the fault sink after a
switch fault (R302, R328). -/
def SwitchSt.drive (x : SwitchSt) : Bool × Nat :=
  match x.phase with
  | .onP1 | .on => (true, 0x01)
  | .onP2 => (true, 0x03)
  | .offP2 => (false, if x.fault then 0x0B else 0x04)
  | .off | .offP1 | .offP3 => (false, if x.fault then 0x0B else 0x02)

/-- Weak currents in mA by code (Table GATE-3). -/
def weakMa : List Nat := [10, 13, 16, 20, 25, 32, 40, 50, 63, 80, 101, 127, 160, 202, 254, 320]

/-- Gate current of a switch: source (true) or sink, in mA (Table GATE-3). -/
def State.gateMa (s : State) (n b : Fin 4) (high : Bool) : Bool × Nat :=
  let d := ((s.bridge n b).sw high).drive
  (d.1, if d.2 ≤ 0x02 then 250 * s.ps n d.2 else weakMa.getD (s.ps n d.2) 0)

/-- A turn-on begins at tick `T`. `vds`: its drain–source voltage in mV; at 1.0 V or less the edge skips P2 (R304). -/
def BridgeSt.edgeOn (b : BridgeSt) (high : Bool) (vds T : Nat) : BridgeSt :=
  { (b.updSw high (fun x => { x with phase := .onP1, skip := decide (vds ≤ 1000) })) with
    pending := none, lowAt := if high then b.lowAt else some T }

/-- Turn a switch on: at once when its partner is off for good, else after the dead time (R301, R305, R307). -/
def BridgeSt.turnOn (b : BridgeSt) (high : Bool) (vds T : Nat) : BridgeSt :=
  if (b.sw (!high)).phase = .off then b.edgeOn high vds T else { b with pending := some high }

/-- A high-side turn-on that is about to begin with BS − SH below 7.0 V gives way to a recharge: the low side is to turn on, under R307
and unless it is `blocked` (R314). `bs`: BS − SH in mV. -/
def BridgeSt.startOn (b : BridgeSt) (high blocked : Bool) (vds bs T : Nat) : BridgeSt :=
  if high && decide (bs < 7000) && (b.lo.phase == .off) then
    { b with recharge := true, pending := if blocked then none else some false }
  else b.turnOn high vds T

/-- Turn a switch off from tick `T` on; a pending turn-on of it is dropped. -/
def BridgeSt.turnOff (b : BridgeSt) (high : Bool) (T pulse : Nat) : BridgeSt :=
  let b := b.startOff high T pulse
  if b.pending = some high then { b with pending := none } else b

/-- Both low sides of every half-bridge for which Table GATE-2 calls for it now; every other switch off. -/
def State.clampOn (s : State) (n : Fin 4) : State :=
  let T := s.frame.tickBase
  axes4.foldl (fun t b => match t.switchWant n b with
    | some (true, false) => t.updBridge n b (fun y => y.lowOn (t.swBlocked n b false) T (s.ps n 0x11))
    | _ => t.updBridge n b (fun y => y.allOff T (s.ps n 0x11))) s

/-- Counter of the centre-aligned PWM at tick `T`: up to P, then down (R257). -/
def State.pwmCount (s : State) (n : Fin 4) (T : Nat) : Nat :=
  let P := s.pwmHalf n
  let k := (T - (s.cur.get n).pwmAt) % (2 * P)
  if k ≤ P then k else 2 * P - k

/-- Low and high side of half-bridge `b` in voltage mode at tick `T`: the leg is high while the counter is at or above its compare
value (R257). -/
def State.legWant (s : State) (n b : Fin 4) (T : Nat) : Bool × Bool :=
  let x := (s.cur.get n).coil (coilOf b)
  let up := decide ((if isLeg2 b then x.cmp2 else x.cmp1) ≤ s.pwmCount n T)
  (!up, up)

/-- The state that Table GATE-2 gives a half-bridge at tick `T`; none while a step or a refresh rule drives it (rows 7 and 8). -/
def State.edgeWant (s : State) (n b : Fin 4) (T : Nat) : Option (Bool × Bool) :=
  match s.switchWant n b with
  | some w => some w
  | none => if s.seq n == .up 3 || (s.bridge n b).insert || (s.bridge n b).recharge then none else some (s.legWant n b T)

/-- Whether an edge of a switch to `on` may start at tick `T`. Only the driver self-check moves single switches freely; a refresh
is driven by its own rows. -/
def State.edgeCalled (s : State) (n b : Fin 4) (high on : Bool) (T : Nat) : Bool :=
  match s.edgeWant n b T with
  | some w => (if high then w.2 else w.1) == on
  | none => s.seq n == .up 3

/-- GATE_EDGE: an edge that Table GATE-2 calls for starts, `off` ticks after the boundary. `vds`, `bs`: drain–source voltage of the
switch and BS − SH of its half-bridge then, in mV (R300, R302, R304, R305, R314). -/
def execGateEdge (n b : Fin 4) (high on : Bool) (off vds bs : Nat) (s : State) : Host.Outcome State Fault Refusal :=
  .next (
    let x := (s.bridge n b).sw high
    let T := s.tickAt off
    if on then
      (if !x.turning && !s.swBlocked n b high && s.edgeCalled n b high true T then
        s.updBridge n b (fun y => y.startOn high (s.swBlocked n b false) vds bs T) else s)
    else
      let want := !s.edgeCalled n b high false T
      if (x.turning || (s.bridge n b).pending == some high) && (!want || s.swBlocked n b high) then
        s.updBridge n b (fun y => y.turnOff high T (s.ps n 0x11))
      else s)

/-- Step an adapted pre-charge time between half and twice its configured value (R306). -/
def adaptStep (cfg v why : Nat) : Nat :=
  let w := if why = 1 then v - 1 else if why = 2 then v + 1 else v
  max (cfg / 2) (min (2 * cfg) w)

/-- What ends P2: 0 VDS with the lag on target, 1 VDS that moved early, 2 VDS with the lag long, 3 VGS, 4 the time limit; none while
no condition of R303 holds. `vds`, `vgs`: in mV; `len`: ticks that P2 has lasted; `lag`: ns from the end of P1 until VDS has moved
1.0 V, negative when it moved before (R303, R306). -/
def State.plateauWhy (s : State) (n : Fin 4) (rising : Bool) (vds vgs len : Nat) (lag : Int) : Option Nat :=
  if (if rising then decide (vds ≤ 1000) else decide (s.power.vm ≤ vds + 1000)) then
    some (if lag < -10 then 1 else if 5 * (s.ps n 9 : Int) + 10 < lag then 2 else 0)
  else if (if rising then decide (7000 ≤ vgs) else decide (vgs ≤ 1500)) then some 3
  else if s.ps n 7 ≤ len then some 4 else none

/-- A P2 ended for `why`: the first time that an adapted time stands at its bound, and the first end by the time limit, are reported, and
the ends by the limit are counted (R303, R306). -/
def State.notePlateau (s : State) (n : Fin 4) (bound : Bool) (why : Nat) : State :=
  let s := if bound && !(s.gate.get n).boundSeen then
      (s.updGate n (fun g => { g with boundSeen := true })).evFree 0x0305 else s
  if 4 ≤ why then
    let t := s.updGate n (fun g => { g with platEnds := min 0xFFFF (g.platEnds + 1) })
    if (t.gate.get n).platSeen then t else (t.updGate n (fun g => { g with platSeen := true })).evFree 0x0304
  else s

/-- P2 of an edge has lasted `len` ticks: it ends on a condition of R303, P3 follows and the pre-charge time adapts (R306). -/
def State.plateau (s : State) (n b : Fin 4) (high rising : Bool) (vds vgs len : Nat) (lag : Int) : State :=
  match s.plateauWhy n rising vds vgs len lag with
  | none => s
  | some why =>
    let x := (s.bridge n b).sw high
    let cfg := s.ps n (if rising then 5 else 6)
    let adapt := decide (why ≤ 2) && s.ps n 8 == 1
    let old := if rising then x.tpreOn else x.tpreOff
    let new := if adapt then adaptStep cfg old why else old
    let s := s.updBridge n b (fun y => y.updSw high (fun x => { x with
      phase := if rising then .on else .offP3
      tpreOn := if rising then new else x.tpreOn
      tpreOff := if rising then x.tpreOff else new }))
    s.notePlateau n (adapt && (new == cfg / 2 || new == 2 * cfg)) why

/-- GATE_PLATEAU_END: the phase of the edge under way has lasted `len` ticks. P1 ends after its pre-charge time, in P2, or in P3 where the
edge skips P2; P2 ends on one of the conditions of R303 (R302 to R304, R306). A switch that a fault turned off is at the fault sink until
its VGS is at most 1.5 V (R328). -/
def execGatePlateauEnd (n b : Fin 4) (high : Bool) (vds vgs len : Nat) (lag : Int) (s : State) : Host.Outcome State Fault Refusal :=
  .next (
    let x := (s.bridge n b).sw high
    let pass (p : GatePhase) : State := s.updBridge n b (fun y => y.updSw high (fun x => { x with phase := p, skip := false }))
    match x.phase with
    | .onP1 => if len < x.tpreOn then s else pass (if x.skip then .on else .onP2)
    | .onP2 => s.plateau n b high true vds vgs len lag
    | .on => s
    | p =>
      if x.fault then
        (if 1500 < vgs then s
         else s.updBridge n b (fun y => y.updSw high (fun x => { x with fault := false, phase := if p = .off then .off else .offP3 })))
      else match p with
      | .offP1 => if len < x.tpreOff then s else pass .offP2
      | .offP2 => s.plateau n b high false vds vgs len lag
      | _ => s)

/-- The switches of the axis are regulated: at Ready, and from D1 on, until D2 or a reversal has brought Ready back (Table PWR-8). -/
def State.curLive (s : State) (n : Fin 4) : Bool :=
  match s.seq n with
  | .ready | .d1 => true
  | .up 5 => (s.axSt n).brakeAt.isSome
  | _ => false

/-- The half-bridge regulates in voltage mode, where periods are altered in place of insertions (R310, R312). -/
def State.altersPeriod (s : State) (n : Fin 4) : Bool :=
  !s.pinMode n && (s.cur.get n).voltage && (s.cur.get n).hold != .quiet && (s.cur.get n).hold != .clamp

/-- When no insertion runs, that of the lowest half-bridge that waits begins: its high side turns off, and its low side is to turn on
(R310, Table GATE-4). -/
def State.nextInsert (s : State) (n : Fin 4) : State :=
  if s.altersPeriod n || axes4.any (fun k => (s.bridge n k).insert) then s
  else match axes4.find? (fun k => (s.bridge n k).due && (s.bridge n k).hi.turning && !s.swBlocked n k false) with
  | some k => (s.updBridge n k (fun y => { y.startOff true 0 0 with insert := true, due := false, pending := some false })).updGate n
      (fun g => { g with inserts := min 0xFFFF (g.inserts + 1) })
  | none => s

/-- The high side returns from an insertion in an on phase of the chopper: blanking restarts (R311). -/
def State.blankAgain (s : State) (n b : Fin 4) : State :=
  if s.pinMode n || (s.cur.get n).voltage then s
  else s.updCur n (fun x => x.updCoil (coilOf b) (fun z => if z.phase = .on ∨ z.phase = .blank then { z with phase := .blank, seen := false } else z))

/-- The turn-on that waited begins at tick `T`, its partner off for good; one that ends an insertion makes room for the next
(R307, R310, R311). -/
def State.pendingOn (s : State) (n b : Fin 4) (high : Bool) (vds bs T : Nat) : State :=
  let back := high && (s.bridge n b).insert
  let low := s.swBlocked n b false
  let t := s.updBridge n b (fun y =>
    ({ y.updSw (!high) (fun x => { x with phase := .off, fault := false }) with insert := y.insert && !high } : BridgeSt).startOn high low vds bs T)
  if back then (if (t.bridge n b).hi.turning then t.blankAgain n b else t).nextInsert n else t

/-- DEAD_TIME_END: `gone` ticks after the turn-off began and `low` ticks after its VGS fell to 1.5 V, the switch is off for good, and the
turn-on that waits for it begins (R307). `vds`, `bs`: as at GATE_EDGE. -/
def execDeadTimeEnd (n b : Fin 4) (gone : Moment) (low vds bs : Nat) (s : State) : Host.Outcome State Fault Refusal :=
  .next (
    if gone.val < s.ps n 0x0A ∨ low < 2 then s
    else match (s.bridge n b).pending with
    | none =>
      let rest (x : SwitchSt) : SwitchSt := if x.turning then x else { x with phase := .off, fault := false }
      s.updBridge n b (fun y => { y with lo := rest y.lo, hi := rest y.hi })
    | some high =>
      if s.swBlocked n b high then (s.updBridge n b (fun y => { y with pending := none, insert := y.insert && !high })).nextInsert n
      else if ((s.bridge n b).sw (!high)).turning then s
      else s.pendingOn n b high vds bs (s.tickAt gone.off))

/-! ### Switch faults (R328, R329) -/

/-- Place of a latch cause in the order of Table GATE-7. -/
def causeRank (c : Nat) : Nat := if c = 6 then 0 else c

/-- Latch a switch off with a cause at tick `T`. A latched switch keeps its first cause, of several in one tick that of the highest row
(R329). A gate-off that is not confirmed is held at the strong sink, any other fault at the fault sink (R308, R328). A latched low
side ends an insertion at once, and the high side returns (10, first edge case). -/
def State.latch (s : State) (n b : Fin 4) (high : Bool) (cause T : Nat) : State :=
  let x := (s.bridge n b).sw high
  if x.cause != 0 then
    (if x.latchAt == some T && decide (causeRank cause < causeRank x.cause) then
      s.updBridge n b (fun y => y.updSw high (fun x => { x with cause := cause })) else s)
  else
    ((s.updBridge n b (fun y =>
      let z := (y.turnOff high T (s.ps n 0x11)).updSw high (fun x => { x with cause := cause, fault := decide (cause ≠ 6), latchAt := some T })
      if high then { z with recharge := false }
      else if y.insert then { z with insert := false, pending := if z.hi.cause = 0 then some true else none }
      else z)).updGate n (fun g => { g with faultsN := min 0xFFFF (g.faultsN + 1) })).nextInsert n

/-- Latch, and raise the fault at the next boundary. -/
def State.switchFault (s : State) (n : Fin 4) (sw : List (Fin 4 × Bool)) (cause code qual T : Nat) : State :=
  (sw.foldl (fun t x => t.latch n x.1 x.2 cause T) s).note code qual (axBits n) true

/-- The switch is on, or another fault of tick `T` has turned it off in it (R329). -/
def SwitchSt.onAt (x : SwitchSt) (T : Nat) : Bool := x.turning || x.latchAt == some T

/-- Half-bridges of the coil of `b`. -/
def coilBridges (b : Fin 4) : List (Fin 4) := if coilOf b = 0 then [0, 1] else [2, 3]

/-- Rows 4 and 5 of Table GATE-7 affect every low side of the coil that is on, both when none is. -/
def State.shuntSwitches (s : State) (n b : Fin 4) (T : Nat) : List (Fin 4 × Bool) :=
  let on := (coilBridges b).filter (fun k => (s.bridge n k).lo.onAt T)
  (if on.isEmpty then coilBridges b else on).map (fun k => (k, false))

/-- The axis's comparators are armed: from step 3 on. -/
def State.gateArmed (s : State) (n : Fin 4) : Bool :=
  match s.seq n with | .up k => decide (3 ≤ k) | .ready | .d1 => true | _ => false

/-- Ticks for which comparator `k` holds its output after a change from mode M to mode F: at most 100 ns (R332; the time within that is
the hardware's, log entry 16). -/
def compHold (k : Nat) : Nat := min 20 (Config.compSettle k)

/-- The shunt windows of the axis have been in mode F for long enough at tick `T`: they change at the start of step 3 (Table MON-2). -/
def State.shuntLive (s : State) (n b : Fin 4) (T : Nat) : Bool :=
  s.seq n != .up 3 || decide (1 ≤ s.since (s.axSt n).stepAt) ||
    decide (s.frame.tickBase + compHold (32 + 2 * n.val + coilOf b) ≤ T)

/-- The condition of a row of Table GATE-7: `why` 0 VDS in mV, 1 and 2 the coil current in mA, for `len` ticks; `on`: ticks since the
turn-on of the switch began, with which its comparator goes to mode F. -/
def State.rowHolds (s : State) (n : Fin 4) (why : Fin 3) (val : Int) (on len : Nat) : Bool :=
  match why with
  | 0 => decide (s.ps n 0x13 ≤ on) && decide ((s.ps n 0x12 : Int) < val) && decide (s.ps n 0x14 ≤ len)
  | 1 => decide ((s.ps n 0x15 : Int) < val) && decide (s.ps n 0x17 ≤ len)
  | 2 => decide (val < -(s.ps n 0x16 : Int)) && decide (s.ps n 0x17 ≤ len)

/-- SWITCH_FAULT_DETECT: rows 2 to 5 of Table GATE-7; `why` 0 VDS of the switch, 1 shunt window positive, 2 negative. -/
def execSwitchFaultDetect (n b : Fin 4) (high : Bool) (why : Fin 3) (val : Int) (on : Nat) (len : Moment) (s : State) :
    Host.Outcome State Fault Refusal :=
  .next (
    let T := s.tickAt len.off
    if !s.rowHolds n why val on len.val then s
    else if why = 0 then
      (if ((s.bridge n b).sw high).onAt T then
        s.switchFault n [(b, high)] 1 (if high then 0x0301 else 0x0302) (4 * n.val + b.val) T else s)
    else if s.gateArmed n && s.shuntLive n b T then
      s.switchFault n (s.shuntSwitches n b T) (if why = 1 then 2 else 3) (if why = 1 then 0x0303 else 0x0304)
        (2 * n.val + coilOf b) T
    else s)

/-- GATE_OFF_TIMEOUT: VGS in mV still above 1.5 V, `len` ticks after the turn-off began (R308). -/
def execGateOffTimeout (n b : Fin 4) (high : Bool) (vgs : Nat) (len : Moment) (s : State) : Host.Outcome State Fault Refusal :=
  .next (
    let x := (s.bridge n b).sw high
    if (x.phase = .offP1 ∨ x.phase = .offP2 ∨ x.phase = .offP3) ∧ 1500 < vgs ∧ s.ps n 7 + 200 ≤ len.val then
      (s.updBridge n b (fun y => { y.updSw high (fun x => { x with fault := false }) with pending := none, insert := false })).switchFault n
        [(b, high)] 6 0x0306 (4 * n.val + b.val) (s.tickAt len.off)
    else s)

/-- BOOTSTRAP_UNDERVOLTAGE: BS − SH of `mv` mV for `ns` ns, the high side on for `len` ticks: from the end of its P1 (R315). -/
def execBootstrapUndervoltage (n b : Fin 4) (mv ns : Nat) (len : Moment) (s : State) : Host.Outcome State Fault Refusal :=
  .next (
    let T := s.tickAt len.off
    if (s.bridge n b).hi.onAt T && decide (mv < 7000) && decide (100 ≤ ns)
        && decide (max (s.bridge n b).hi.tpreOn (compHold (16 + 4 * n.val + b.val)) ≤ len.val) then
      s.switchFault n [(b, true)] 4 0x0305 (4 * n.val + b.val) T
    else s)

/-! ### Bootstrap refresh (R309 to R314) -/

/-- The low side that recharges the capacitor turns off at tick `T`. -/
def BridgeSt.endRecharge (y : BridgeSt) (next : Option Bool) (T pulse : Nat) : BridgeSt :=
  { (y.turnOff false T pulse) with recharge := false, pending := next }

/-- BOOTSTRAP_RECHARGED: BS − SH, in mV, has reached 8.0 V; the low side turns off and the high-side turn-on proceeds (R314). -/
def execBootstrapRecharged (n b : Fin 4) (mv : Moment) (s : State) : Host.Outcome State Fault Refusal :=
  .next (
    if (s.bridge n b).recharge && decide (8000 ≤ mv.val) then
      s.updBridge n b (fun y => y.endRecharge (if s.swBlocked n b true then none else some true) (s.tickAt mv.off) (s.ps n 0x11))
    else s)

/-- BOOTSTRAP_RECHARGE_TIMEOUT: BS − SH of `mv` mV below 8.0 V after the µs of `us` of recharge (R314). -/
def execBootstrapRechargeTimeout (n b : Fin 4) (mv : Nat) (us : Moment) (s : State) : Host.Outcome State Fault Refusal :=
  .next (
    let T := s.tickAt us.off
    if (s.bridge n b).recharge && decide (mv < 8000) && decide (20 ≤ us.val) then
      (s.updBridge n b (fun y => y.endRecharge none T (s.ps n 0x11))).switchFault n [(b, true)] 5 0x0308 (4 * n.val + b.val) T
    else s)

/-- BOOTSTRAP_REFRESH_TIMER: psn.bs.period after the last refresh a pulse is inserted, or waits for the one under way; in voltage mode
the next period is altered, for as long as regulation runs (R309, R310, R312, Table GATE-5). -/
def execBootstrapRefreshTimer (n b : Fin 4) (off : Nat) (s : State) : Host.Outcome State Fault Refusal :=
  .next (
    let y := s.bridge n b
    if s.tickAt off < y.refreshAt + 200 * s.ps n 0x10 then s
    else if s.altersPeriod n then
      (if s.curLive n then s.updBridge n b (fun y => { y with altered := true }) else s)
    else if y.hi.turning && !y.insert then (s.updBridge n b (fun y => { y with due := true })).nextInsert n
    else s)

/-- REFRESH_PULSE_END: psn.bs.pulse after the refresh low side began to turn on it turns off, and after an inserted pulse the high side is
to return (R309, R310, Table GATE-4). -/
def execRefreshPulseEnd (n b : Fin 4) (off : Nat) (s : State) : Host.Outcome State Fault Refusal :=
  .next (
    let y := s.bridge n b
    let T := s.tickAt off
    let whole := match y.lowAt with | some t => decide (t + s.ps n 0x11 ≤ T) | none => false
    if !whole then s
    else if y.insert then
      let back := !s.swBlocked n b true
      (s.updBridge n b (fun y => { y.startOff false T (s.ps n 0x11) with insert := back, pending := if back then some true else none })).nextInsert n
    else if !s.pinMode n && ((s.cur.get n).hold == .quiet || s.pulsesOnly n) then s.updBridge n b (fun y => y.turnOff false T (s.ps n 0x11))
    else s)

/-- QUIET_REFRESH_PULSE: in QUIET standstill, and on a STANDBY device of the dual-winding topology, the next low side of the order is to
turn on alone, psn.bs.period / 4 after the one before (Table GATE-5, R313, R554); a shared winding has none (R555). -/
def execQuietRefreshPulse (n : Fin 4) (off : Nat) (s : State) : Host.Outcome State Fault Refusal :=
  .next (
    let g := s.gate.get n
    let T := s.tickAt off
    let due := decide (g.quietAt + 50 * s.ps n 0x10 ≤ T)
    let b : Fin 4 := Fin.ofNat 4 g.quietH
    let ok := ((s.cur.get n).hold == .quiet || s.pulsesOnly n) && s.curLive n && decide (s.faults.safe.get n = 0) && !s.faults.device && !g.hwOff && !s.mon.shut
      && decide (g.enBack = 0) && s.enableOf n b && !s.power.vmOv && !s.pinMode n
      && !(s.permHeld n && !s.pulsesOnly n)
    if ok && due then
      let s := s.updGate n (fun g => { g with quietH := (g.quietH + 1) % 4, quietAt := T })
      if s.swBlocked n b false then s else s.updBridge n b (fun y => if y.lo.turning then y else { y with pending := some false })
    else s)

/-! ### Governing enables (R317 to R321, R330) -/

/-- Half-bridges that a governing enable governs. -/
def governedBy (k : Option (Fin 4)) : List (Fin 4) := match k with | some b => [b] | none => axes4

/-- Latched switches of half-bridges as a mask. -/
def GateSt.latchedIn (g : GateSt) (l : List (Fin 4)) : Nat :=
  (l.map (fun b => b01 ((g.br b).lo.cause != 0) * 2 ^ swNo b false + b01 ((g.br b).hi.cause != 0) * 2 ^ swNo b true)).foldl (· + ·) 0

/-- The pin `k` belongs to the axis's mode: AXENn in serial mode, ENnCk in pin mode. -/
def State.enableFits (s : State) (n : Fin 4) (k : Option (Fin 4)) : Bool := k.isSome == s.pinModeV n

/-- Filtered level of the pin; AXENn shares its pin with ENnA1 (R57). -/
def State.enableLevel (s : State) (n : Fin 4) (k : Option (Fin 4)) : Bool := (s.pins.pinEn.get n).get (k.getD 0)

def State.setEnable (s : State) (n : Fin 4) (k : Option (Fin 4)) (v : Bool) : State :=
  { s with pins := { s.pins with pinEn := s.pins.pinEn.upd n (fun q => q.set (k.getD 0) v) } }

/-- GOVERNING_ENABLE_FALL (R317, R318, R321, R359). Where the level is low already, as after a start of SYS, the fall says that the pin has
been seen low, which a toggle begins with (R330). -/
def execGoverningEnableFall (n : Fin 4) (k : Option (Fin 4)) (s : State) : Host.Outcome State Fault Refusal :=
  .next (
    if !s.enableFits n k then s
    else if !s.enableLevel n k then
      s.updGate n (fun g => { g with fell := (governedBy k).foldl (fun q b => q.set b true) g.fell })
    else
      let s := s.setEnable n k false
      let watch := match s.seq n with | .up j => decide (2 ≤ j) | .ready | .d1 => true | _ => false
      let moved := s.movedLately n
      let s := s.updGate n (fun g =>
        let g := (governedBy k).foldl (fun g b => g.updBr b (fun y => y.allOff s.frame.tickBase (s.ps n 0x11))) g
        { g with fell := (governedBy k).foldl (fun q b => q.set b true) g.fell
                 fallNote := g.fallNote || watch
                 fallMoved := if watch && !g.fallNote then moved else g.fallMoved })
      if k.isNone then s.brakeOff n else s)

/-- GOVERNING_ENABLE_RISE (R320, R330). -/
def execGoverningEnableRise (n : Fin 4) (k : Option (Fin 4)) (s : State) : Host.Outcome State Fault Refusal :=
  .next (
    if !s.enableFits n k || s.enableLevel n k then s
    else
      let s := s.setEnable n k true
      let live := s.seq n == .ready || s.seq n == .d1
      s.updGate n (fun g =>
        let toggled := (governedBy k).filter (fun b => g.fell.get b)
        { g with fell := (governedBy k).foldl (fun q b => q.set b false) g.fell
                 cleared := if s.domReady .sys then g.cleared ||| BitVec.ofNat 8 (g.latchedIn toggled) else g.cleared
                 -- AXENn wherever the sequencer stands, an ENnCk while it governs its half-bridge (R320)
                 riseNote := g.riseNote || live || k.isNone
                 -- the delay of R320 is AXENn's; an ENnCk alone governs its half-bridge (R58)
                 enBack := if live && k.isNone then 2 else g.enBack }))

/-! ### Pin mode (R322 to R324) -/

/-- Package pin of INnCk (Tables PIN-1 and PIN-3). -/
def inPin (n k : Fin 4) : Nat := 110 + 8 * n.val + (match k with | 0 => 0 | 1 => 1 | 2 => 4 | 3 => 5)

/-- Suppressed IN pulses are counted apart from the pin's serial-mode counter (R59). -/
def inKey (n k : Fin 4) : Nat := 1000 + inPin n k

/-- PIN_MODE_IN_EDGE: the level has lasted the ticks of `width` (R323). `vds`, `bs`: as at GATE_EDGE, for the switch that turns on. -/
def execPinModeInEdge (n k : Fin 4) (level : Bool) (width : Moment) (vds bs : Nat) (s : State) : Host.Outcome State Fault Refusal :=
  .next (
    let live := match s.seq n with | .up 5 | .ready | .d1 => true | _ => false
    if !s.pinModeV n || !live || (s.pins.pinIn.get n).get k == level then s
    else if width.val < s.ps n 0x18 then
      let v := s.rejects (inKey n k)
      let t := { s with pins := { s.pins with rejects := tabSet s.pins.rejects (inKey n k) (min 0xFFFF (v + 1)) 0 } }
      t.evIf (v == 0xFFFE) 0x0004 (inPin n k)
    else
      let s := { s with pins := { s.pins with pinIn := s.pins.pinIn.upd n (fun q => q.set k level) } }
      let T := s.tickAt width.off
      -- a low level ends an insertion or a recharge: the high side does not return (Table GATE-6)
      let s := s.updBridge n k (fun y =>
        let y := y.turnOff (!level) T (s.ps n 0x11)
        if level then y else { y with insert := false, recharge := false })
      let s := s.nextInsert n
      let on := s.mayTurnOn n k level && (s.seq n != .up 5 || (s.axSt n).brakeAt.isSome) && !((s.bridge n k).sw level).turning
      if on then s.updBridge n k (fun y => y.startOn level (s.swBlocked n k false) vds bs T) else s)

/-! ### GATE_STATUS (Table GATE-11) -/

def State.gateStatus (s : State) (n : Fin 4) : List Byte :=
  let g := s.gate.get n
  let sws := axes4.flatMap (fun b => [(g.br b).lo, (g.br b).hi])
  let cause (i : Nat) := (sws.getD i {}).cause
  b8 g.latchMask ++ (List.range 4).flatMap (fun i => b8 (cause (2 * i) + 16 * cause (2 * i + 1)))
    ++ b8 (maskOf (axes4.map (fun b => s.enableOf n b)) + 16 * b01 (s.pinModeV n)) ++ [0, 0]
    ++ sws.flatMap (fun x => b8 x.tpreOn ++ b8 x.tpreOff)
    ++ le16 g.inserts ++ le16 g.platEnds ++ le16 (satU 16 ((axes4.map (fun k => s.rejects (inKey n k))).foldl (· + ·) 0))
    ++ le16 g.faultsN

def gateStatusSpec : CmdSpec where
  op := 0x0301
  start := fun s h => s.doneWith h (s.gateStatus (s.axisOf h))

def execGateStatus (h : Fin 32) (s : State) : Host.Outcome State Fault Refusal := .next (takeRow gateStatusSpec h s)

/-! ### At a boundary (R318, R320, R330) -/

/-- The fall of AXENn noted in the frame that ends acts (R318). -/
def State.boundEnable (s : State) (n : Fin 4) : State :=
  let g := s.gate.get n
  let live := s.seq n == .ready || s.seq n == .d1
  let s := if g.fallNote && live then
      let t := (s.updGate n (fun g => { g with fallNote := false })).ev 0x0301 n.val
      if s.pinMode n then t
      else
        let t := (t.leaveRun n 0xFFFF).endCmd n 2 0xFFFF
        let t := (t.endUnacted n 2 0xFFFF).updMotion n MotionSt.toIdle
        (t.stopsDone n).lostPos n g.fallMoved
    else s
  let s := if g.enBack ≠ 0 then s.updGate n (fun g => { g with enBack := g.enBack - 1 }) else s
  if g.riseNote then (s.updGate n (fun g => { g with riseNote := false })).ev 0x0302 n.val else s

/-- A class T entry loses its last latched switch. -/
def State.toggleFaults (s : State) : State :=
  let any (cause : Nat) : Nat := maskOf (axes4.map (fun n => axes4.any (fun b =>
    (s.bridge n b).lo.cause == cause || (s.bridge n b).hi.cause == cause)))
  let left (code : Nat) : Nat :=
    match code with
    | 0x0301 => maskOf (axes4.map (fun n => axes4.any (fun b => (s.bridge n b).hi.cause == 1)))
    | 0x0302 => maskOf (axes4.map (fun n => axes4.any (fun b => (s.bridge n b).lo.cause == 1)))
    | 0x0303 => any 2
    | 0x0304 => any 3
    | 0x0305 => any 4
    | 0x0308 => any 5
    | _ => any 6
  { s with faults := { s.faults with active := s.faults.active.map (fun e =>
      if e.cls = 2 ∧ Nat.land (left e.code) e.axes.toNat = 0 then { e with going := 3, cond := false } else e) } }

/-- Latches cleared by a toggle: reported at this boundary, free to be driven from the next (R330). -/
def State.boundLatches (s : State) (n : Fin 4) : State :=
  let g := s.gate.get n
  let m := g.cleared
  let s := s.updGate n (fun g =>
    let clr (b : Fin 4) (high : Bool) (x : SwitchSt) : SwitchSt := if m.getLsbD (swNo b high) then { x with cause := 0 } else x
    let g := axes4.foldl (fun g b => g.updBr b (fun y => { y with lo := clr b false y.lo, hi := clr b true y.hi })) g
    { g with clearing := m, cleared := 0 })
  if m = 0 then s else (s.ev 0x0303 m.toNat).toggleFaults

end Sys2Proof.Machine
end

