-- ==== Sys2Proof/Machine/Diag.lean ====
section
/-! DEFINITION. Monitors, diagnosed items and their ages, off-state tests, converters and brake outputs (11). -/

namespace Sys2Proof.Machine

/-! ### Comparators (R332, R333) -/

/-- DAC codes, low and high, that comparator `k` works with at this moment, the code of its hysteresis among them (R333, Tables MON-2 and
PWR-10). A threshold that is no whole code is rounded to the nearest (log entry 16). -/
def State.dacCodes (s : State) (k : Nat) : Nat × Nat :=
  let n : Fin 4 := Fin.ofNat 4 (k % 16 / 4)
  let both (v : Nat) : Nat × Nat := (v, v)
  if k < 16 then both (rdiv (10 * s.ps n 0x12) 25)
  else if k < 32 then both (if ((s.gate.get n).br (Fin.ofNat 4 k)).recharge then 800 else 700)
  else if k < 40 then
    let a : Fin 4 := Fin.ofNat 4 ((k - 32) / 2)
    let lsb := 4 * iLsb (s.ax a 0x18) (s.ax a 0x19)
    let codes (v : Nat) : Nat := (Rat.floor ((v : Rat) / lsb + 1 / 2)).toNat
    (512 - codes (s.ps a 0x16), 512 + codes (s.ps a 0x15))
  else
    let w : Fin 4 := Fin.ofNat 4 (k - 47)
    match k with
    | 40 => (rdiv (if s.power.vmUv then 6500 else 6000) 64,
             rdiv (if s.power.vmOv then s.par 0x005A - s.par 0x0059 else s.par 0x005A) 64)
    | 41 => both (rdiv (if s.power.brkg then s.par 0x0058 - s.par 0x0059 else s.par 0x0058) 64)
    | 42 => (rdiv (if s.power.brownOut then 5000 else 4500) 64, rdiv (if s.power.supHigh.getLsbD 0 then 62000 else 64000) 64)
    | 43 => (rdiv (if s.power.vgdLow then 10000 else 9000) 16, rdiv (if s.power.vgdHigh then 12500 else 13000) 16)
    | 44 => (rdiv (if s.power.supLow.getLsbD 1 then 4700 else 4500) 8, rdiv (if s.power.supHigh.getLsbD 1 then 5300 else 5500) 8)
    | 45 => (rdiv (if s.power.supLow.getLsbD 2 then 3100 else 3000) 4, rdiv (if s.power.supHigh.getLsbD 2 then 3500 else 3600) 4)
    | 46 => (rdiv (if s.power.supLow.getLsbD 3 then 1067 else 1045) 2, rdiv (if s.power.supHigh.getLsbD 3 then 1133 else 1155) 2)
    | _ => (rdiv (s.par (0x4001 + 4 * w.val)) 5, rdiv (s.par (0x4002 + 4 * w.val)) 5)

/-- Mode in use of comparator `k` at this moment: 1 F, 2 M, 3 S, 4 U, 0 off (R332, Tables MON-1 and MON-2). The VDS comparators arm with
the turn-on that starts their blanking. -/
def State.compMode (s : State) (k : Nat) : Nat :=
  let n : Fin 4 := Fin.ofNat 4 (k % 16 / 4)
  let b : Fin 4 := Fin.ofNat 4 k
  let y := s.bridge n b
  if k < 16 then (if y.lo.phase != .off || y.hi.phase != .off then 1 else 2)
  else if k < 32 then (if y.hi.turning || y.recharge then 1 else 2)
  else if k < 40 then
    (match s.seq (Fin.ofNat 4 ((k - 32) / 2)) with | .up j => if 3 ≤ j then 1 else 2 | .ready | .d1 => 1 | _ => 2)
  else if k < 47 then (match s.power.dev with | .standby => 3 | .sleep => if s.power.wakeRun.isSome then 2 else 4 | _ => 2)
  else s.par (0x4000 + 4 * (k - 47))

/-- LSB of the threshold DAC of comparator `k`, in mV; of a shunt window in mA (Table MON-2). -/
def State.dacLsb (s : State) (k : Nat) : Rat :=
  if k < 16 then 5 / 2
  else if k < 32 then 10
  else if k < 40 then
    let a : Fin 4 := Fin.ofNat 4 ((k - 32) / 2)
    4 * iLsb (s.ax a 0x18) (s.ax a 0x19)
  else match k with | 40 | 41 | 42 => 64 | 43 => 16 | 44 => 8 | 45 => 4 | 46 => 2 | _ => 5

/-- Codes of the two steps of a flip test about the input `v`, in mV or mA: 16 LSB below and above it, within the span (R336). -/
def State.flipSteps (s : State) (k : Nat) (v : Int) : Int × Int :=
  let mid : Int := if 32 ≤ k ∧ k < 40 then 512 else 0
  let c : Int := mid + Rat.floor ((v : Rat) / s.dacLsb k + 1 / 2)
  (max 0 (min 1023 (c - 16)), max 0 (min 1023 (c + 16)))

def State.updComp (s : State) (k : Nat) (f : CompSt → CompSt) : State :=
  { s with mon := { s.mon with comps := updAt s.mon.comps k f } }

/-! ### Items (R346, Tables MON-7 and MON-8) -/

/-- Classes of Table MON-7; none for a reserved number. -/
inductive ItemClass where
  | coil | brake | boot | ref | cmp
deriving DecidableEq, Repr

def itemClass (k : Nat) : Option ItemClass :=
  if k ≤ 0x07 then some .coil
  else if k ≤ 0x0B then some .brake
  else if 0x10 ≤ k ∧ k ≤ 0x1F then some .boot
  else if k = 0x20 ∨ k = 0x21 then some .ref
  else if 0x40 ≤ k ∧ k ≤ 0x72 then some .cmp
  else none

/-- Every item number, rising. -/
def itemNos : List Nat := (List.range 0x73).filter (fun k => (itemClass k).isSome)

def State.item (s : State) (k : Nat) : ItemSt := (s.mon.items.find? (fun x => x.no == k)).getD { no := k }

def State.updItem (s : State) (k : Nat) (f : ItemSt → ItemSt) : State :=
  let l := insertBy (fun a b => decide (a.no < b.no)) (f (s.item k)) (s.mon.items.filter (fun x => x.no != k))
  { s with mon := { s.mon with items := l } }

/-- Axis of a coil or bootstrap item. -/
def itemAxis (k : Nat) : Fin 4 := if k < 8 then Fin.ofNat 4 (k / 2) else Fin.ofNat 4 ((k - 0x10) / 4)

/-- Axes that a fault of an item names. -/
def State.itemAxes (s : State) (k : Nat) : BitVec 4 :=
  match itemClass k with
  | some .coil | some .boot => axBits (itemAxis k)
  | some .brake => let a := s.par (0x4020 + 8 * (k - 8)); if a < 4 then BitVec.ofNat 4 (2 ^ a) else 0
  | _ => 0

/-- A domain is powered: its sequence has begun and it is not down or failed. -/
def State.domPowered (s : State) (d : Domain) : Bool :=
  match (s.dom d).stage with | .up _ | .ready => true | _ => false

/-- An item is in service (Table MON-7). -/
def State.inService (s : State) (k : Nat) : Bool :=
  match itemClass k with
  | some .coil => let n := itemAxis k; s.axReady n && !s.pinMode n && s.axen n && !s.sharedDown n
  | some .boot => let n := itemAxis k; s.axReady n && s.enableOf n (Fin.ofNat 4 k)
  | some .brake => decide (s.par (0x4020 + 8 * (k - 8)) < 4) && s.domReady .aux
  | some .ref => s.domReady .ana
  | some .cmp =>
    let c := k - 0x40
    if c < 40 then
      (match s.seq (Fin.ofNat 4 (if c < 32 then c % 16 / 4 else (c - 32) / 2)) with
        | .off | .waiting | .failed => false | _ => true)
    else if c < 47 then s.domPowered .aon
    else s.domPowered .aux
  | none => false

/-- Age at which an insertion begins, and the largest age (the same where the class has one limit). -/
def State.ageLimits (s : State) (c : ItemClass) : Nat × Nat :=
  match c with
  | .coil => (s.par 0xA000, s.par 0xA001)
  | .brake => (s.par 0xA002, s.par 0xA003)
  | .boot => (s.par 0xA004, s.par 0xA005)
  | .cmp => (s.par 0xA006, s.par 0xA006)
  | .ref => (s.par 0xA007, s.par 0xA007)

/-- A valid measurement of an item in service. -/
def State.measured (s : State) (k : Nat) (last : Int) (byIns : Bool) : State :=
  if s.inService k then s.updItem k (fun x => { x with fresh := true, byIns := byIns, last := last }) else s

/-- A conclusive failing measurement: the item's fault code is raised at the next boundary (Table MON-8). -/
def State.itemFault (s : State) (k code qual : Nat) (last : Int) : State :=
  (s.updItem k (fun x => { x with state := .faulted, code := code, last := last })).note code qual (s.itemAxes k) (decide (code < 0x0410))

/-- Items enter and leave service. -/
def State.itemService (s : State) : State :=
  itemNos.foldl (fun t k =>
    let x := t.item k
    if t.inService k then (if x.state = .notInService then t.updItem k (fun x => { x with state := x.kept }) else t)
    else if x.state = .notInService then t
    else t.updItem k (fun x => { x with state := .notInService, kept := x.state })) s

/-- FAULTED items whose code is no longer active are OK again, their age kept. -/
def State.itemClear (s : State) : State :=
  { s with mon := { s.mon with items := s.mon.items.map (fun x =>
      if x.state = .faulted ∧ !s.faultActive x.code ∧ !s.faults.raised.any (fun r => r.1 == x.code) then { x with state := .ok }
      else if x.state = .notInService ∧ x.kept = .faulted ∧ !s.faultActive x.code then { x with kept := .ok }
      else x) } }

/-- The superframe boundary of one item (R346, Table MON-8). -/
def State.itemAge (s : State) (k : Nat) : State :=
  let x := s.item k
  if x.state = .notInService then s
  else if x.fresh then
    let t := s.updItem k (fun x => { x with fresh := false, byIns := false, insNow := false, age := 0,
                                            state := if x.state = .faulted then .faulted else .ok })
    match x.state with
    | .ageing => t.evIf x.byIns 0x0A01 k
    | .undiagnosed =>
      let t := t.ev 0x0A02 k
      if t.mon.items.any (fun y => y.state == .undiagnosed) then t else t.condEnd 0x0A01
    | _ => t
  else s.updItem k (fun x => { x with age := min 0xFFFF (x.age + 1), insNow := false })

def State.itemsSuper (s : State) : State := itemNos.foldl State.itemAge s

/-! ### Coil and brake samples (R348, R350, R354, R355) -/

/-- A current in mA from LSB, rounded. -/
def State.lsbMa (s : State) (n : Fin 4) (v : Int) : Int :=
  let m : Rat := (v.natAbs : Rat) * iLsb (s.ax n 0x18) (s.ax n 0x19)
  let r : Int := Rat.floor (m + 1 / 2)
  if v < 0 then -r else r

/-- A valid sample of a coil with expected magnitude `E`, both in current LSB (R348). -/
def State.coilSample (s : State) (n : Fin 4) (c : Nat) (v : Int) (E : Nat) (byIns : Bool) : State :=
  let k := 2 * n.val + c
  let set (v : Nat) (t : State) : State := { t with mon := { t.mon with coilBad := setAt t.mon.coilBad k v } }
  if !s.inService k ∨ E < 16 then s
  else if E ≤ 2 * v.natAbs then set 0 (s.measured k (s.lsbMa n v) byIns)
  else if 4 * v.natAbs < E then
    let bad := s.mon.coilBad.getD k 0 + 1
    if s.par 0xA015 ≤ bad then set 0 (s.itemFault k 0x0410 k (s.lsbMa n v)) else set bad s
  else set 0 s

/-- A reading of BS − SH in mV (R350). -/
def State.bootSample (s : State) (n b : Fin 4) (mv : Nat) (byIns : Bool) : State :=
  let i := 4 * n.val + b.val
  let k := 0x10 + i
  let set (v : Nat) (t : State) : State := { t with mon := { t.mon with bootBad := setAt t.mon.bootBad i v } }
  if !s.inService k then s
  else if 8500 ≤ mv then set 0 (s.measured k mv byIns)
  else if mv < 8000 then
    let bad := s.mon.bootBad.getD i 0 + 1
    if bad = 3 then set 0 (s.itemFault k 0x0416 i mv) else set bad s
  else set 0 s

/-- A current sample of a brake output that is on, in mA (R354). -/
def State.brakeSample (s : State) (b : Fin 4) (ma : Nat) (byIns : Bool) : State :=
  let k := 8 + b.val
  if !s.inService k then s
  else if s.par (0x4026 + 8 * b.val) ≤ ma then (s.updBrake b (fun x => { x with low := 0 })).measured k ma byIns
  else if (s.mon.brakes.get b).low = 3 then (s.updBrake b (fun x => { x with low := 0 })).itemFault k 0x0421 b.val ma
  else s.updBrake b (fun x => { x with low := x.low + 1 })

/-- On-time of a period of economy PWM that no insertion stretches, in units of 0.1 µs (R353). -/
def State.brakePwm (s : State) (b : Fin 4) : Nat := 5 * s.par (0x4022 + 8 * b.val)

/-- On-time of the present period of economy PWM in units of 0.1 µs: 8.6 µs in one that an insertion stretches (R353, R356). -/
def State.brakeOn (s : State) (b : Fin 4) : Nat :=
  if (s.mon.brakes.get b).stretchAt == some s.frame.counter then max 86 (s.brakePwm b) else s.brakePwm b

/-- The brake samples of a frame (R354). -/
def State.brakeFrame (s : State) (hbk : Quad Nat) : State :=
  forAxes s (fun b t =>
    let x := t.mon.brakes.get b
    if x.on && decide (t.ahead x.onAt < 0) && (!x.economy || decide (84 ≤ t.brakeOn b)) then t.brakeSample b (hbk.get b) false else t)

/-- The pin of a brake output, in mV, measured while the output is off, or `us` after the last on edge of an output that is still
on then (R355). -/
def State.brakePin (s : State) (b : Fin 4) (mv us : Nat) : State :=
  let k := 8 + b.val
  let high := decide (s.power.vm ≤ 2 * mv)
  if !s.inService k then s
  else if (s.mon.brakes.get b).on then
    (if s.brakeIsOn b && decide (20 ≤ us) && (!(s.mon.brakes.get b).economy || decide (10 * us ≤ s.brakeOn b)) && decide (s.power.vm < 2 * mv) then s.itemFault k 0x0423 b.val mv else s)
  else if high then (s.updBrake b (fun x => { x with offLow := 0 })).measured k mv false
  else if (s.mon.brakes.get b).offLow = 2 then (s.updBrake b (fun x => { x with offLow := 0 })).itemFault k 0x0422 b.val mv
  else s.updBrake b (fun x => { x with offLow := x.offLow + 1 })

/-! ### Off-state tests (R342 to R345) -/

/-- Classes of a node voltage (R343). -/
inductive NodeClass where
  | l | m | h | v
deriving DecidableEq, Repr

def nodeClass (mv : Int) : NodeClass := if mv < 1000 then .l else if mv ≤ 3500 then .m else if mv ≤ 5500 then .h else .v

/-- Row of Table MON-6 for V1, V2 of T2 and of T3. -/
def verdictRow (a b c d : Int) : Nat :=
  let w := nodeClass a; let x := nodeClass b; let y := nodeClass c; let z := nodeClass d
  if [w, x, y, z].any (· == .v) then 1
  else if w = .l ∧ x = .l ∧ y = .l ∧ z = .l then 2
  else if w = .h ∧ x = .h ∧ y = .l ∧ z = .l then 3
  else if w = .h ∧ x = .l ∧ y = .l ∧ z = .h then 4
  else if w = .h ∧ x = .h ∧ y = .h ∧ z = .h then 5
  else if [w, x, y, z].any (· == .m) then 6
  else 7

def verdictCode (row : Nat) : Nat :=
  match row with | 1 => 0x0413 | 2 => 0x0412 | 3 => 0 | 4 => 0x0411 | 5 => 0x0414 | 6 => 0x0414 | _ => 0x0415

/-- Verdict rows of coil A and coil B from the eight voltages of a test. -/
def verdicts (mv : List Int) : Nat × Nat :=
  let v (i : Nat) := mv.getD i 0
  (verdictRow (v 0) (v 1) (v 2) (v 3), verdictRow (v 4) (v 5) (v 6) (v 7))

/-- Phase nodes of an axis take their test sources, leg 1 and leg 2 of each coil. -/
def State.setSources (s : State) (n : Fin 4) (leg1 leg2 : Option (Bool × Nat)) : State :=
  s.updGate n (fun g => (g.mapBr (fun y => { y with source := leg1 })).updBr 1 (fun y => { y with source := leg2 })
    |>.updBr 3 (fun y => { y with source := leg2 }))

/-- A test runs, or none does and the test sources are off. -/
def State.setTest (s : State) (n : Fin 4) (t : Option OffTest) : State :=
  let s := { s with mon := { s.mon with tests := s.mon.tests.set n t } }
  if t.isNone then s.setSources n none none else s

/-- Frames that a test has run for, at most 4; none before its first boundary. -/
def State.testFrame (s : State) (t : OffTest) : Option Nat :=
  let k := -(s.ahead t.startF)
  if k < 0 then none else some (min 4 k.toNat)

/-- The test sources of the present frame: T2 for 2 f, T3 for 2 f, then off (Table MON-5). -/
def State.testPhase (s : State) (n : Fin 4) : State :=
  match s.mon.tests.get n with
  | none => s
  | some t =>
    match s.testFrame t with
    | some 0 | some 1 => s.setSources n (some (true, 2000)) (some (false, 500))
    | some 2 | some 3 => s.setSources n (some (false, 2000)) (some (true, 500))
    | _ => s.setSources n none none

/-- A reading of both coils' nodes of one leg, in frame 1 or 3 of the test (R339, Table MON-5). -/
def OffTest.add (t : OffTest) (k : Nat) (leg2 : Bool) (a b : Int) : OffTest :=
  if k = 1 ∨ k = 3 then
    let i := (if k = 1 then 0 else 2) + b01 leg2
    let put (l : List (Int × Nat)) (j : Nat) (v : Int) : List (Int × Nat) := updAt l j (fun x => (x.1 + v, x.2 + 1))
    { t with acc := put (put t.acc i a) (4 + i) b }
  else t

/-- The eight averages of a test; where the slots brought no reading, that of the verdict's command (log entry 16). -/
def OffTest.averages (t : OffTest) (mv : List Int) : List Int :=
  (List.range 8).map (fun i =>
    let x := t.acc.getD i (0, 0)
    if x.2 = 0 then mv.getD i 0 else Rat.floor ((x.1 : Rat) / (x.2 : Rat) + 1 / 2))

/-- CLAMP closes again at the end of a test (R349). -/
def State.clampBack (s : State) (n : Fin 4) : State :=
  if (s.cur.get n).hold = .clamp then s.clampOn n else s

/-- A motion or output command, a safe state or the way down abandons a test outside step 4 (R164, R345). -/
def State.abandonTest (s : State) (n : Fin 4) (detail : Nat) : State :=
  match s.mon.tests.get n with
  | none => s
  | some t =>
    if t.source = 0 then s
    else
      let s := (s.setTest n none).clampBack n
      if t.source = 2 ∧ s.stage t.hop = .started then s.finish t.hop 2 detail [] else s

/-- A test begins: that of step 4 with the step, any other at the next boundary; CLAMP opens for its 4 f (R342, R349). -/
def State.beginTest (s : State) (n : Fin 4) (source h : Nat) : State :=
  let s := { s with mon := { s.mon with rows4 := s.mon.rows4.set n none } }
  let s := (s.setTest n (some { source := source, hop := h, startF := if source = 0 then s.frame.counter else s.frame.counter + 1 })).testPhase n
  if (s.cur.get n).hold = .clamp then s.switchesOff n else s

/-- Codes of both verdicts are raised, or the coils are refreshed (R344, Table MON-7). -/
def State.testOutcome (s : State) (n : Fin 4) (mv : List Int) (byIns : Bool) : State :=
  let r := verdicts mv
  let one (c row : Nat) (t : State) : State :=
    let k := 2 * n.val + c
    if row = 3 then t.measured k (t.item k).last byIns else t.itemFault k (verdictCode row) k (t.item k).last
  one 1 r.2 (one 0 r.1 s)

/-- At standstill in QUIET, or in CLAMP where the clamp may be released (SV-0x0405). -/
def State.testAllowed (s : State) (n : Fin 4) : Bool :=
  s.pulsesOnly n || (s.cur.get n).hold == .quiet || ((s.cur.get n).hold == .clamp && s.par 0xA017 == 1)

def State.offTestFindings (s : State) (n : Fin 4) : List Finding := fnd (!s.testAllowed n) 1 0x0405 n.val

def offstateTestSpec : CmdSpec where
  op := 0x0401
  judge := fun s h => some (s.cfg, s.offTestFindings (s.axisOf h))
  own := fun s h => s.findingReply (s.offTestFindings (s.axisOf h))
  start := fun s h => s.beginTest (s.axisOf h) 2 h

def execOffstateTest (h : Fin 32) (s : State) : Host.Outcome State Fault Refusal := .next (takeRow offstateTestSpec h s)

/-! ### Insertions (R349 to R352, R356) -/

/-- t_x of R351 in µs, and t_r, for a coil measurement in chopper or voltage mode. -/
def State.stretch (s : State) (n : Fin 4) (c : Nat) : Rat × Rat :=
  let x := s.cur.get n
  let k := x.coil c
  let lsb := iLsb (s.ax n 0x18) (s.ax n 0x19)
  let short : Rat := lsb * (16 - (k.setp.natAbs : Int))
  let L : Rat := (s.ax n 0x22 : Nat)
  let tadd : Rat := if short ≤ 0 ∨ s.power.vm = 0 then 0 else short * L / (s.power.vm : Rat)
  let ts : Rat := (s.ax n 0x00 : Rat) / 8 + 6 / 10 + tadd
  if x.voltage then
    let f : Nat := s.ax n 0x20
    let T : Rat := 1000 / (f : Rat)
    let P : Rat := (rdiv 100000000 (1000 * f) : Nat)
    let d : Rat := ts * 2 / (P * (5 / 1000))
    let cur : Rat := if k.duty < 0 then -k.duty else k.duty
    ((d - cur) * T, T)
  else (ts - (s.ax n 0x00 : Rat) / 8, (s.ax n 0x03 : Rat) / 4)

/-- The impulse VM × t_x / L × t_r in mA·µs is within diag.coil.imp_max, and the axis may be stretched (R351). -/
def State.impulseOk (s : State) (n : Fin 4) (tx tr : Rat) : Bool :=
  (s.par 0xA010).testBit n.val &&
    decide ((s.power.vm : Rat) * tx / (s.ax n 0x22 : Nat) * tr ≤ ((s.par 0xA011 : Nat) : Rat))

/-- An insertion for an item is permitted now (R349 to R351, R356); of a STANDBY device the off-state test, and no bootstrap's (R554,
R555). -/
def State.insertOk (s : State) (k : Nat) : Bool :=
  match itemClass k with
  | some .coil =>
    let n := itemAxis k
    if s.pulsesOnly n then true else
    (match (s.cur.get n).hold with
     | .moving | .hold | .haltHold | .ramp => let t := s.stretch n (k % 2); s.impulseOk n t.1 t.2
     | .quiet => true
     | .clamp => s.par 0xA017 == 1
     | _ => false)
  | some .boot =>
    let n := itemAxis k
    if s.paired n && s.twinDown then false else
    (match (s.cur.get n).hold with
     | .quiet => true
     | .clamp => s.par 0xA017 == 1
     | .moving | .hold | .haltHold | .ramp =>
       !(s.cur.get n).voltage && s.impulseOk n 2 ((s.ax n 0x03 : Rat) / 4)
     | _ => false)
  | some .brake =>
    let b : Fin 4 := Fin.ofNat 4 k
    let x := s.mon.brakes.get b
    let on := s.brakePwm b
    x.on && x.economy && decide (on < 86) && (s.par 0xA012).testBit b.val &&
      decide ((s.power.vm : Rat) * ((86 - on : Nat) : Rat) / 10 / ((s.par (0x4027 + 8 * b.val) : Nat) : Rat) / 1000 * 50
        ≤ ((s.par 0xA013 : Nat) : Rat))
  | _ => false

/-- Classes with an insertion. -/
def ItemClass.inserts : ItemClass → Bool | .coil | .brake | .boot => true | _ => false

/-- DIAG_AGE_LIMIT: an age reaches its limit (Table MON-8). -/
def execDiagAgeLimit (item : Nat) (s : State) : Host.Outcome State Fault Refusal :=
  .next (
    match itemClass item with
    | none => s
    | some c =>
      let x := s.item item
      let l := s.ageLimits c
      let tooOld (t : State) : State := (t.updItem item (fun x => { x with state := .undiagnosed })).note 0x0A01 item (t.itemAxes item) true
      match x.state with
      | .ok =>
        if l.1 ≤ x.age then
          (if c.inserts && s.insertOk item then s.updItem item (fun x => { x with state := .ageing }) else tooOld s)
        else s
      | .ageing => if l.2 ≤ x.age then tooOld s else s
      | _ => s)

/-- Axis that an insertion disturbs. -/
def insertAxis (k : Nat) : Option (Fin 4) :=
  match itemClass k with | some .coil | some .boot => some (itemAxis k) | _ => none

/-- An insertion of the item is under way, so that its measurement is next (R349, R350, R356). -/
def State.insertRuns (s : State) (k : Nat) : Bool :=
  match itemClass k with
  | some .coil => ((s.cur.get (itemAxis k)).coil (k % 2)).insTo.isSome
  | some .boot => ((s.cur.get (itemAxis k)).coil (k % 4 / 2)).probe == some (isLeg2 (Fin.ofNat 4 k))
  | some .brake => (s.mon.brakes.get (Fin.ofNat 4 k)).stretchAt == some s.frame.counter && s.brakeIsOn (Fin.ofNat 4 k)
  | _ => false

/-- The insertion of an item begins (R349, R350, R356): an on phase of t_s, a period of raised duty or an off-state test; the high side
turned on; the stretched period at the next boundary. -/
def State.insertBegin (s : State) (k : Nat) : State :=
  match itemClass k with
  | some .coil =>
    let n := itemAxis k
    let c := k % 2
    let t := s.stretch n c
    if s.testAllowed n then s.beginTest n 1 0
    else if (s.cur.get n).voltage then
      s.updCur n (fun x => x.updCoil c (fun y =>
        let d : Rat := if y.duty < 0 then -y.duty else y.duty
        { y with raise := some (d + t.1 / t.2) }))
    else
      let ts := (Rat.floor ((t.1 + (s.ax n 0x00 : Rat) / 8) * 200 + 1 / 2)).toNat
      s.updCur n (fun x => x.updCoil c (fun y => { (if y.phase = .blank ∨ y.phase = .on then y else y.onPhase) with insTo := some ts, seen := false }))
  | some .boot =>
    s.updCur (itemAxis k) (fun x => x.updCoil (k % 4 / 2) (fun y => { y with probe := some (isLeg2 (Fin.ofNat 4 k)) }))
  | some .brake => s.updBrake (Fin.ofNat 4 k) (fun x => { x with stretchAt := some (s.frame.counter + 1) })
  | _ => s

/-- The measurement of an insertion under way, which ends it: the on phase of a coil gives way to an off phase. -/
def State.insertEnd (s : State) (k : Nat) (val : Int) : State :=
  match itemClass k with
  | some .coil =>
    let n := itemAxis k
    let c := k % 2
    let y := (s.cur.get n).coil c
    let f := min 16 (s.ax n (if y.falling then 0x02 else 0x01) + y.esc)
    let s := s.updCur n (fun x => x.updCoil c (fun y => { y with insTo := none, phase := if f = 0 then .slow else .fast, frac := f, sample := val }))
    s.coilSample n c val (max 16 y.setp.natAbs) true
  | some .boot =>
    let s := s.updCur (itemAxis k) (fun x => x.updCoil (k % 4 / 2) (fun y => { y with probe := none }))
    s.bootSample (itemAxis k) (Fin.ofNat 4 k) val.toNat true
  | some .brake => (s.brakeSample (Fin.ofNat 4 k) val.toNat true).updBrake (Fin.ofNat 4 k) (fun x => { x with stretchAt := none })
  | _ => s

/-- DIAG_INSERTION: the insertion of an ageing item begins by itself, or, while it is under way, takes its measurement `val`: the current
in LSB of a coil, BS − SH in mV, or the brake current in mA. In QUIET and CLAMP a coil's insertion is an off-state test, and in voltage
mode PWM_PERIOD brings its sample (R349 to R352, R356; log entry 16). -/
def execDiagInsertion (item : Nat) (val : Int) (s : State) : Host.Outcome State Fault Refusal :=
  .next (
    let x := s.item item
    let free := match insertAxis item with | some n => !s.mon.insFrame.get n && (s.mon.tests.get n).isNone | none => true
    let slow := match itemClass item with
      | some .boot => s.testAllowed (itemAxis item) || ((s.cur.get (itemAxis item)).coil (item % 4 / 2)).phase == .slow
      | some .coil => s.testAllowed (itemAxis item) || (s.cur.get (itemAxis item)).voltage ||
          ((s.cur.get (itemAxis item)).coil (item % 2)).phase != .ended
      | _ => true
    if s.insertRuns item then s.insertEnd item val
    else if x.state == .ageing && !x.insNow && free && slow && s.insertOk item then
      let s := s.updItem item (fun x => { x with insNow := true, inserts := min 0xFFFF (x.inserts + 1) })
      let s := match insertAxis item with
        | some n => { s with mon := { s.mon with insFrame := s.mon.insFrame.set n true } }
        | none => s
      s.insertBegin item
    else s)

/-! ### Converters (R335 to R341) -/

/-- A reading of a DAC code in superframe `sf`: within 3 LSB of the loaded code or not (R335). -/
def ReadBack.read (r : ReadBack) (sf : BitVec 32) (good : Bool) : ReadBack :=
  { bad := if good then 0 else if r.sf = some sf then max 1 r.bad else if r.sf = some (sf - 1) then r.bad + 1 else 1
    sf := some sf }

/-- A mismatch on two consecutive superframes. -/
def ReadBack.fails (r : ReadBack) : Bool := decide (2 ≤ r.bad)

/-- A comparator that has passed the read-back of its codes and a flip test is refreshed (R346, Table MON-7). -/
def State.cmpRefresh (s : State) (k : Nat) (last : Int) : State :=
  let c := s.mon.comps.getD k {}
  if c.okLo && c.okHi && c.okFlip then
    (s.updComp k (fun c => { c with okLo := false, okHi := false, okFlip := false })).measured (0x40 + k) last false
  else s

/-- FT-0x0401's condition ends when no threshold or regulation DAC differs. -/
def State.dacsRight (s : State) : State :=
  let coil (k : CoilSt) : Bool := k.dac.fails || k.dacZ.fails
  if s.mon.comps.any (fun c => c.rbLo.fails || c.rbHi.fails) || s.cur.toList.any (fun x => coil x.coilA || coil x.coilB) then s
  else s.condEnd 0x0401

/-- Loaded code of a regulation DAC: the trip comparator at I*_code, the zero comparator at 2 % of axn.cur.imax against the drive
direction of the cycle under way, about 2048 and the stored offset (R250, Table CUR-15); rounded to the nearest code (log entry 16). -/
def State.regCode (s : State) (n : Fin 4) (c : Fin 2) (zero : Bool) : Int :=
  let k := (s.cur.get n).coil c.val
  let z : Int := Rat.floor (((s.ax n 0x11 : Nat) : Rat) / 50 / iLsb (s.ax n 0x18) (s.ax n 0x19) + 1 / 2)
  2048 + (s.axSt n).offsets.get c + (if zero then (if k.neg then z else -z) else k.setp)

/-- One diagnostic slot of ADC1: a threshold code or a regulation code read back, scaled to the DAC's LSB; a flip test with the input
it measured, in mV or mA, and the output at 16 LSB below and above it, taken by the test latch while the working code waits; a reference; BS − SH, `ns` after P3 of the high side began; the pin of a
brake output (R335, R336, R340, R346, R355). -/
def State.diagSlot (s : State) (d : DiagSlot) : State :=
  match d with
  | .readBack k high code =>
    let c := s.mon.comps.getD k.val {}
    let item := 0x40 + k.val
    let good := decide ((code - (if high then (s.dacCodes k.val).2 else (s.dacCodes k.val).1)).natAbs ≤ 3)
    let was := if high then c.rbHi else c.rbLo
    let now := was.read s.frame.superframe good
    if !s.inService item then s
    else
      let t := s.updComp k.val (fun c =>
        let c := if high then { c with rbHi := now } else { c with rbLo := now }
        -- one code serves a comparator that is no window
        { c with okLo := if high && decide (32 ≤ k.val) then c.okLo else good, okHi := if high || decide (k.val < 32) then good else c.okHi })
      if good then (t.dacsRight).cmpRefresh k.val (t.item item).last
      else if now.fails && !was.fails then t.itemFault item 0x0401 k.val (t.item item).last
      else t
  | .regDac n c zero code =>
    let k := (s.cur.get n).coil c.val
    let diff := (code - s.regCode n c zero).natAbs
    let was := if zero then k.dacZ else k.dac
    let now := was.read s.frame.superframe (decide (diff ≤ 3))
    let t := s.updCur n (fun x => x.updCoil c.val (fun y => if zero then { y with dacZ := now } else { y with dac := now }))
    let t := if 8 < diff then t.note 0x0122 (2 * n.val + c.val) (axBits n) false else t
    if now.bad = 0 then t.dacsRight else if now.fails && !was.fails then t.noteFree 0x0401 0 true else t
  | .flip k mv minus plus =>
    -- one comparator a frame, in ascending number
    let c := s.mon.comps.getD k.val {}
    let item := 0x40 + k.val
    if s.mon.flipAt == some s.frame.counter || s.mon.flipNo % 51 != k.val then s
    else
      let s := { s with mon := { s.mon with flipNo := (k.val + 1) % 51, flipAt := some s.frame.counter,
                                            flipCodes := s.flipSteps k.val mv, flipLatch := (minus, plus) } }
      if !s.inService item then s
      else if s.mon.flipLatch.1 != s.mon.flipLatch.2 then
        let t := s.updComp k.val (fun c => { c with flipBad := 0, okFlip := true })
        let t := if t.mon.comps.any (fun c => decide (2 ≤ c.flipBad)) then t else t.condEnd 0x0402
        t.cmpRefresh k.val mv
      else
        let t := s.updComp k.val (fun c => { c with flipBad := c.flipBad + 1, okFlip := false })
        if c.flipBad + 1 = 2 then t.itemFault item 0x0402 k.val mv else t
  | .reference k uv =>
    let item := 0x20 + k.val
    if 1237500 ≤ uv ∧ uv ≤ 1262500 then
      let t := s.measured item (uv / 1000 : Nat) false
      if (t.item (0x41 - k.val - 0x20)).code = 0x0403 ∧ (t.item (0x41 - k.val - 0x20)).state = .faulted then t else t.condEnd 0x0403
    else s.itemFault item 0x0403 k.val (uv / 1000 : Nat)
  | .boot n b mv ns =>
    -- on a STANDBY device of the shared-winding topology the reading alone refreshes (R555)
    if ((s.bridge n b).hi.phase == .on && decide (1000 ≤ ns)) || s.sharedDown n then s.bootSample n b mv false else s
  | .hbkPin b mv us => s.brakePin b mv us

/-- A temperature conversion in 0.1 °C (R341). -/
def State.temperature (s : State) (v : Int) : State :=
  let s := { s with power := { s.power with temp := v } }
  let s := if 1400 ≤ v ∧ !s.mon.hot then ({ s with mon := { s.mon with hot := true } } : State).noteEv 0x0401 0
    else if v < 1300 ∧ s.mon.hot then ({ s with mon := { s.mon with hot := false } } : State).noteEv 0x0402 0
    else s
  if 1650 ≤ v ∧ !s.mon.shut then
    let s := forAxes s (fun n t => (t.switchesOff n).updGate n (fun g => { g with hwOff := true }))
    (({ s with mon := { s.mon with shut := true } } : State).brakesOff).note 0x0404 0 0 true
  -- above 150 °C the condition persists, and clearing is refused
  else if v ≤ 1500 then s.condEnd 0x0404 else s

/-- Slots 0 to 7 of unit `u`: the captures of the integrators, in mV·µs, go to the windows under way; of an axis in an off-state test
they are node voltages in mV, leg 1 in even units and leg 2 in odd ones (R339; which leg is first: log entry 16). -/
def State.integrators (s : State) (u : Nat) (caps : List Int) : State :=
  let s := { s with mon := { s.mon with caps := fit 8 0 caps } }
  forAxes s (fun n t =>
    let a := caps.getD (2 * n.val) 0
    let b := caps.getD (2 * n.val + 1) 0
    match t.mon.tests.get n with
    | some x => (match t.testFrame x with
      | some k => { t with mon := { t.mon with tests := t.mon.tests.set n (some (x.add k (u % 2 == 1) a b)) } }
      | none => t)
    | none => t.updWedge n (fun w =>
        if w.open_.isSome then { w with capSum := (w.capSum.1 + a, w.capSum.2 + b), capN := w.capN + 1 } else w))

/-- ADC1_UNIT: unit `u` of the frame, in its order, converts the eight integrators, VM in mV, its housekeeping quantity `val` (mV, or
0.1 °C in unit 5) and, in units 10 to 24, what its diagnostic slot is given to (R338, R339, Tables MON-3 and MON-4). -/
def execAdc1Unit (u : Fin 25) (conv : UnitConv) (val : Int) (slot : Option DiagSlot) (s : State) : Host.Outcome State Fault Refusal :=
  .next (
    if !s.domReady .ana || decide (u.val < s.mon.adcNext) then s
    else
      let s := { s with power := { s.power with vm := conv.vm }, mon := { s.mon with adcNext := u.val + 1 } }
      let s := s.integrators u.val conv.caps
      match u.val with
      | 0 => { s with power := { s.power with vbat := val.toNat } }
      | 1 => { s with power := { s.power with vgd := val.toNat } }
      | 2 => { s with power := { s.power with vreg5 := val } }
      | 3 => { s with power := { s.power with vreg33 := val } }
      | 4 => { s with power := { s.power with vcore := val } }
      | 5 => s.temperature val
      | k =>
        if k < 10 then { s with mon := { s.mon with win := s.mon.win.set (Fin.ofNat 4 (k - 6)) val } }
        else match slot with | some d => s.diagSlot d | none => s)

/-- WIN_OUT_OF_WINDOW: the filtered level `mv` of input `w` has been on its side of the window for `us` (R334). -/
def execWinOutOfWindow (w : Fin 4) (mv us : Nat) (s : State) : Host.Outcome State Fault Refusal :=
  .next (
    let out := decide (mv < s.par (0x4001 + 4 * w.val)) || decide (s.par (0x4002 + 4 * w.val) < mv)
    if s.par (0x4000 + 4 * w.val) = 0 ∨ !s.domReady .aux ∨ us < s.par (0x4003 + 4 * w.val) ∨ s.mon.winOut.get w = out then s
    else
      let s := { s with mon := { s.mon with winOut := s.mon.winOut.set w out } }
      if out then s.note 0x0405 w.val 0 true
      else
        let s := s.noteEv 0x0403 w.val
        if s.mon.winOut.toList.any id then s else s.condEnd 0x0405)

/-! ### Brake outputs (R353, R357, R360) -/

/-- BRAKE_PULL_IN_END (R353). -/
def execBrakePullInEnd (b : Fin 4) (s : State) : Host.Outcome State Fault Refusal :=
  .next (
    let x := s.mon.brakes.get b
    if x.on && !x.economy && decide (s.ahead x.onAt + (20 * s.par (0x4021 + 8 * b.val) : Nat) ≤ 0) then
      s.updBrake b (fun x => { x with economy := true })
    else s)

/-- BRAKE_STILL_ENGAGE: standstill has lasted the hold delay less the engage time (R360). -/
def execBrakeStillEngage (b : Fin 4) (s : State) : Host.Outcome State Fault Refusal :=
  .next (
    let a := s.par (0x4020 + 8 * b.val)
    let n : Fin 4 := Fin.ofNat 4 a
    let m := s.motion.get n
    let x := s.mon.brakes.get b
    if a < 4 ∧ s.par (0x4025 + 8 * b.val) = 1 ∧ x.on ∧ x.waiter.isNone ∧ m.still ∧ m.state ≠ .haul ∧
        s.ax n 0x14 - 20 * s.par (0x4024 + 8 * b.val) ≤ m.holdF then s.brakeOut b
    else s)

/-- HBK_OVERCURRENT: the current `ma` of the output has been above 3.0 A for `ns` (R357). -/
def execHbkOvercurrent (b : Fin 4) (ma ns : Nat) (s : State) : Host.Outcome State Fault Refusal :=
  .next (
    if s.brakeIsOn b && decide (3000 < ma) && decide (2000 ≤ ns) then
      ((s.brakeOut b).updBrake b (fun x => { x with locked := true })).note 0x0420 b.val (s.itemAxes (8 + b.val)) false
    else s)

/-! ### DIAG_STATUS -/

def ItemState.code : ItemState → Nat
  | .notInService => 0
  | .ok => 1
  | .ageing => 2
  | .undiagnosed => 3
  | .faulted => 4

def State.itemRecord (s : State) (k : Nat) : List Byte :=
  if (itemClass k).isSome then
    let x := s.item k
    b8 k ++ b8 x.state.code ++ le16 (satU 16 x.age) ++ leS16 (satS 16 x.last) ++ le16 (satU 16 x.inserts)
  else b8 k ++ List.replicate 7 0

def diagStatusSpec : CmdSpec where
  op := 0x0A01
  need := 2
  field := fun s h => if s.p8 h 1 = 0 ∨ 12 < s.p8 h 1 then some 17 else none
  start := fun s h => s.doneWith h (b8 (s.p8 h 1) ++ (List.range (s.p8 h 1)).flatMap (fun i => s.itemRecord ((s.p8 h 0 + i) % 256)))

def execDiagStatus (h : Fin 32) (s : State) : Host.Outcome State Fault Refusal := .next (takeRow diagStatusSpec h s)

end Sys2Proof.Machine
end

