-- ==== Sys2Proof/Machine/Trig.lean ====
section
/-! DEFINITION. Sine, cosine and arc tangent of chapters 08, 09 and 14, to within the device's own rounding (log entry 7). -/

namespace Sys2Proof.Machine

/-- π, to 2⁻⁵⁰. -/
def piRat : Rat := mkRat 884279719003555 281474976710656

/-- The device's rounding of one result: at most 2⁻¹⁶ either way. -/
def trigRound (fn : Nat) (x y v : Rat) : Rat := v + mkRat (((Config.trigErr fn x y).val : Int) - 32768) (2 ^ 31)

/-- Terms of a power series in `z`: each is the one before times `z / (m (m + 1))`, with alternating sign. -/
def altSeries (z : Rat) : Nat → Nat → Rat → Rat
  | 0, _, _ => 0
  | k + 1, m, term => term + altSeries z k (m + 2) (-(term * z / ((m * (m + 1) : Nat) : Rat)))

/-- An angle in turns brought into [−1/2, 1/2). -/
def turnPart (t : Rat) : Rat := t - (Rat.floor (t + 1 / 2) : Rat)

/-- Cosine and sine of an angle in turns. -/
def cosTurn (t : Rat) : Rat := let x := 2 * piRat * turnPart t; trigRound 0 t 0 (altSeries (x * x) 12 1 1)
def sinTurn (t : Rat) : Rat := let x := 2 * piRat * turnPart t; trigRound 1 t 0 (altSeries (x * x) 12 2 x)

/-- Arc tangent in radians of `t` with |t| at most 1: three halvings of the angle, then the series. -/
def atanRat (t : Rat) : Rat :=
  let half (t : Rat) : Rat := t / (1 + ratSqrt (1 + t * t))
  let u := half (half (half t))
  8 * ((List.range 8).map (fun k => (if k % 2 = 0 then 1 else -1) * u ^ (2 * k + 1) / ((2 * k + 1 : Nat) : Rat))).foldl (· + ·) 0

/-- Angle in degrees, in (−180, 180], of the vector (x, y), before rounding. -/
def atanDeg (y x : Rat) : Rat :=
  let abs (v : Rat) : Rat := if v < 0 then -v else v
  let deg (r : Rat) : Rat := r * 180 / piRat
  if x = 0 ∧ y = 0 then 0
  else if abs y ≤ abs x then
    let a := deg (atanRat (y / x))
    if 0 < x then a else if y < 0 then a - 180 else a + 180
  else
    let a := deg (atanRat (x / y))
    if 0 < y then 90 - a else -90 - a

def atan2Deg (y x : Rat) : Rat := trigRound 2 y x (atanDeg y x)

end Sys2Proof.Machine
end

