-- ==== Sys2Proof/Machine/Current.lean ====
section
/-! DEFINITION. Chisel tables, set-points, chopper and voltage mode, change-over, standstill modes (08). -/

namespace Sys2Proof.Machine

/-! ### Shape and set-points (R242 to R248) -/

def chiselQ0 : List Nat := [
  0, 25, 50, 75, 100, 126, 151, 176, 201, 226, 251, 276, 301, 326, 351, 376,
  401, 426, 451, 476, 501, 526, 551, 576, 601, 626, 651, 675, 700, 725, 750, 774,
  799, 824, 848, 873, 897, 922, 946, 971, 995, 1019, 1044, 1068, 1092, 1116, 1141, 1165,
  1189, 1213, 1237, 1261, 1285, 1308, 1332, 1356, 1380, 1403, 1427, 1450, 1474, 1497, 1521, 1544]

def chiselQ1 : List Nat := [
  1567, 1590, 1613, 1636, 1659, 1682, 1705, 1728, 1751, 1774, 1796, 1819, 1841, 1864, 1886, 1908,
  1930, 1952, 1975, 1997, 2018, 2040, 2062, 2084, 2105, 2127, 2148, 2170, 2191, 2212, 2233, 2254,
  2275, 2296, 2317, 2337, 2358, 2378, 2399, 2419, 2439, 2460, 2480, 2500, 2519, 2539, 2559, 2578,
  2598, 2617, 2636, 2656, 2675, 2694, 2713, 2731, 2750, 2769, 2787, 2805, 2824, 2842, 2860, 2878]

def chiselQ2 : List Nat := [
  2896, 2913, 2931, 2948, 2966, 2983, 3000, 3017, 3034, 3051, 3068, 3084, 3101, 3117, 3133, 3149,
  3165, 3181, 3197, 3213, 3228, 3244, 3259, 3274, 3289, 3304, 3319, 3333, 3348, 3362, 3377, 3391,
  3405, 3419, 3433, 3446, 3460, 3473, 3486, 3499, 3512, 3525, 3538, 3551, 3563, 3575, 3588, 3600,
  3611, 3623, 3635, 3646, 3658, 3669, 3680, 3691, 3702, 3713, 3723, 3733, 3744, 3754, 3764, 3774]

def chiselQ3 : List Nat := [
  3783, 3793, 3802, 3811, 3821, 3830, 3838, 3847, 3856, 3864, 3872, 3880, 3888, 3896, 3904, 3911,
  3919, 3926, 3933, 3940, 3947, 3953, 3960, 3966, 3972, 3978, 3984, 3990, 3996, 4001, 4006, 4011,
  4016, 4021, 4026, 4030, 4035, 4039, 4043, 4047, 4051, 4054, 4058, 4061, 4064, 4067, 4070, 4073,
  4075, 4078, 4080, 4082, 4084, 4086, 4087, 4089, 4090, 4091, 4092, 4093, 4094, 4094, 4095, 4095]

/-- The built-in table: T(i) = round(4095 × sin(i × π / 512)) (R243). -/
def builtinTable : List Nat := chiselQ0 ++ chiselQ1 ++ chiselQ2 ++ chiselQ3

/-- The table in use since Ready (R243, R274). -/
def State.tableOf (s : State) (n : Fin 4) : List Nat :=
  if s.ax n 0x17 = 1 then (match (s.cur.get n).liveTab with | some t => t.entries | none => builtinTable) else builtinTable

/-- Signed shape values of coil A and coil B at index `e` (Table CUR-2). -/
def shapeOf (t : List Nat) (e : Nat) : Int × Int :=
  let i := e % 256
  let a : Int := tEntry t i
  let b : Int := tEntry t (256 - i)
  match e / 256 % 4 with
  | 0 => (a, b)
  | 1 => (b, -a)
  | 2 => (-a, -b)
  | _ => (-b, a)

/-- round(A × S / 4095), halves away from zero (R247; log entry 17). -/
def setCode (a : Nat) (sh : Int) : Int :=
  let m : Int := ((2 * a * sh.natAbs + 4095) / 8190 : Nat)
  if sh < 0 then -m else m

/-- round(I_amp / I_LSB) (R247). -/
def State.ampCode (s : State) (n : Fin 4) (ma : Nat) : Nat :=
  (Rat.floor ((ma : Rat) / iLsb (s.ax n 0x18) (s.ax n 0x19) + 1 / 2)).toNat

/-- A regulated state: moving, hold ramp, HOLD and HALTED hold. -/
def HoldState.regulated : HoldState → Bool
  | .moving | .hold | .haltHold | .ramp => true
  | _ => false

/-- An axis whose coils the chopper or voltage mode drives: serial mode, regulated. -/
def State.regulates (s : State) (n : Fin 4) : Bool := (s.cur.get n).hold.regulated && !s.pinMode n

/-- A set-point change of one coil (R252, R254, R255). A change of sign ends the cycle under way, in its off phase too (08, first edge
case; log entry 17). -/
def CoilSt.change (x : CoilSt) (chopper : Bool) (v : Int) : CoilSt :=
  let y := { x with setp := v, falling := decide (v.natAbs < x.setp.natAbs) }
  -- no cycle runs: the direction of the drive is that of the set-point, and at 0 that of the one before it
  if !chopper || x.phase == .ended then (if v = 0 then y else { y with neg := decide (v < 0) })
  else if v = 0 then (if x.setp = 0 then y else y.decay)
  else if x.setp = 0 then (if x.phase = .slow then y.onPhase else if x.insTo.isSome && decide (v < 0) then y.decay else y)
  else if (decide (v < 0)) != (decide (x.setp < 0)) then y.decay
  else y

/-- The set-points in effect are integrated over the window under way, up to tick `T` (R275). -/
def WedgeSt.integrate (w : WedgeSt) (a b : Int) (T : Nat) : WedgeSt :=
  let dt : Int := (T - w.openAt : Nat)
  { w with openSum := (w.openSum.1 + a * dt, w.openSum.2 + b * dt), openAt := T }

/-- Recompute both set-points at tick `T` from the amplitude code in effect and the index (R247). -/
def State.setPoints (s : State) (n : Fin 4) (T : Nat) : State :=
  let x := s.cur.get n
  let s := s.updWedge n (fun w => w.integrate x.coilA.setp x.coilB.setp T)
  let sh := shapeOf (s.tableOf n) (s.motion.get n).elec
  s.updCur n (fun x =>
    let c := !x.voltage
    { x with coilA := x.coilA.change c (setCode x.acode sh.1), coilB := x.coilB.change c (setCode x.acode sh.2) })

/-- Compare values C1 and C2 of a coil at duty `d` (R257). -/
def compareValues (P : Nat) (d : Rat) : Nat × Nat :=
  ((Rat.floor ((P : Rat) * (1 - d) / 2 + 1 / 2)).toNat, (Rat.floor ((P : Rat) * (1 + d) / 2 + 1 / 2)).toNat)

/-- The legs of a coil at duty `d` with half-period `P` (R257). -/
def CoilSt.atDuty (x : CoilSt) (P : Nat) (d : Rat) : CoilSt :=
  { x with duty := d, cmp1 := (compareValues P d).1, cmp2 := (compareValues P d).2 }

/-- A coil begins regulation: an on phase, or a PWM period (R262, R270). A drive that a check ended stays so (R265). -/
def CoilSt.begin_ (x : CoilSt) (voltage : Bool) (P : Nat) : CoilSt :=
  let y := { (x.noInsert).atDuty P (if voltage then x.duty else 0) with prevSet := x.setp, limited := false, overN := 0, sat := 0 }
  if voltage || x.phase == .ended then y else if x.setp = 0 then y.decay else y.onPhase

/-- Both coils begin regulation at tick `T`, a PWM period at counter 0 (R257, R262, R270). -/
def CurrentSt.begin_ (x : CurrentSt) (T P : Nat) : CurrentSt :=
  { x with coilA := x.coilA.begin_ x.voltage P, coilB := x.coilB.begin_ x.voltage P, pwmAt := T }

/-- The drive of a coil that a check ended is released (R265). -/
def CoilSt.release (x : CoilSt) : CoilSt := if x.phase = .ended then { x with phase := .slow } else x

/-- The reaction to FT-0x0120 or FT-0x0121 acts on the axis: its coils are driven again as the state then in force asks (R265). -/
def State.coilsBack (s : State) (n : Fin 4) : State :=
  let x := s.cur.get n
  if x.coilA.phase != .ended && x.coilB.phase != .ended then s
  else
    let s := s.updCur n (fun x => { x with coilA := x.coilA.release, coilB := x.coilB.release })
    if s.regulates n then s.updCur n (fun x => x.begin_ s.frame.tickBase (s.pwmHalf n)) else s

/-! ### Amplitude and standstill modes (R248, R249, R268 to R272) -/

/-- Moving amplitude: axn.cur.irun, the Wedge amplitude, or the reduced current of HOME_FACE (R248, R280, R291). -/
def State.movingAmp (s : State) (n : Fin 4) : Nat :=
  let w := s.wedge.get n
  min (s.ax n 0x11)
    (if w.home.st != .none then w.home.ihome
     else if 2 ≤ s.ax n 0x60 then w.iw else s.ax n 0x12)

/-- Standstill mode after the hold ramp (Table CUR-7, R269, R450). -/
def State.stillMode (s : State) (n : Fin 4) : HoldState :=
  match (s.motion.get n).state with
  | .stepf | .speedf | .haul => .hold
  | _ => match s.ax n 0x16 with | 1 => .quiet | 2 => .clamp | _ => .hold

/-- Amplitude of a hold state in mA (Table CUR-4). -/
def State.holdAmp (s : State) (n : Fin 4) (h : HoldState) (rampF : Nat) : Nat :=
  let imax := s.ax n 0x11
  match h with
  | .off | .recal => 0
  | .moving => s.movingAmp n
  | .ramp =>
    let a : Int := s.movingAmp n
    let b : Int := s.ax n 0x13
    let k : Rat := (min rampF (s.ax n 0x15) : Nat)
    min imax (Rat.floor ((a : Rat) + ((b - a : Int) : Rat) * k / (s.ax n 0x15 : Nat) + 1 / 2)).toNat
  | _ => min imax (s.ax n 0x13)

/-- Enter a hold state: QUIET opens the switches, CLAMP turns the low sides on, and leaving either begins regulation. -/
def State.enterHold (s : State) (n : Fin 4) (h : HoldState) : State :=
  let old := (s.cur.get n).hold
  let s := s.updCur n (fun x =>
    let x := { x with hold := h }
    -- insertions of a standstill mode end with it, those of a regulated state with regulation
    if old = h ∨ (old.regulated ∧ h.regulated) then x else { x with coilA := x.coilA.noInsert, coilB := x.coilB.noInsert })
  if old = h ∨ s.pinMode n then s
  else match h with
  | .quiet => (s.switchesOff n).updGate n (fun g => { g with quietH := 0, quietAt := s.frame.tickBase })
  | .recal | .off => s.switchesOff n
  | .clamp => s.clampOn n
  | _ => if old.regulated then s else (s.switchesOff n).updCur n (fun x => x.begin_ s.frame.tickBase (s.pwmHalf n))

/-- The axis moves, or a motion command acts or waits for its brake (R249, R358). -/
def State.curMoving (s : State) (n : Fin 4) : Bool :=
  let m := s.motion.get n
  !m.still || (match m.state with | .pos | .vel | .stopping | .halting => true | _ => false) ||
    (s.wedge.get n).home.st != .none || (match s.brakeOf n with | some b => (s.mon.brakes.get b).waiter.isSome | none => false)

/-- Hold state of the rows of Table CUR-4 after the hold delay: the ramp that is not over, then the standstill mode. A recalibration
resumes where it interrupted (R248, R271), and what HALT leaves is hold current (R598). -/
def State.stillNext (s : State) (n : Fin 4) : HoldState :=
  let x := s.cur.get n
  if x.sinceHalt then .hold
  else match x.hold with
  | .ramp => .ramp
  | .hold | .quiet | .clamp => s.stillMode n
  | .recal => if x.rampF = 0 then .moving else if x.rampF < 20000 then .ramp else s.stillMode n
  | _ => .moving

/-- Hold state that the axis takes at the present boundary (Table CUR-4). -/
def State.holdNext (s : State) (n : Fin 4) : HoldState :=
  if !s.curLive n then .off
  else if (s.axSt n).recal && (s.axSt n).calEnd.isSome then .recal
  else if (s.motion.get n).state = .halted then .haltHold
  else if s.curMoving n || (s.cur.get n).woken then .moving
  else s.stillNext n

/-- The amplitude code takes effect; the set-points follow (R247). -/
def State.takeAmp (s : State) (n : Fin 4) (ma : Nat) : State :=
  let a := s.ampCode n ma
  let old := (s.cur.get n).acode
  let s := s.updCur n (fun x => { x with iamp := ma, acode := a })
  if a = old then s else s.setPoints n s.frame.tickBase

/-- The Wedge period under way is invalid (R278). -/
def State.wedgeSpoil (s : State) (n : Fin 4) : State := s.updWedge n (fun w => { w with okPer := false })

/-- Hold state, amplitude and set-points from the present boundary on. The amplitude is 0 outside Ready, in D1 too, where the switches
stay regulated (R247 to R249, R270 to R272, Table CUR-4). -/
def State.curBoundary (s : State) (n : Fin 4) : State :=
  let x := s.cur.get n
  let next := s.holdNext n
  let rampF := match next with
    | .ramp => x.rampF + 1
    | .moving | .off | .haltHold => 0
    | _ => x.rampF
  let ma := if s.axReady n then s.holdAmp n next rampF else 0
  let since := match next with | .haltHold => true | .moving | .off => false | _ => x.sinceHalt
  let s := s.updCur n (fun x => { x with rampF := rampF, woken := false, sinceHalt := since })
  let s := if next = .recal then s.wedgeSpoil n else s
  if next = .off then
    (s.enterHold n .off).updCur n (fun x =>
      { x with iamp := 0, acode := 0, coilA := { x.coilA with setp := 0 }, coilB := { x.coilB with setp := 0 } })
  else (s.takeAmp n ma).enterHold n next

/-- Calibration windows that end here (R33, R34, R36). -/
def State.endRecal (s : State) (n : Fin 4) : State :=
  match (s.axSt n).calEnd with
  | some e =>
    if (s.axSt n).recal && decide (s.ahead e ≤ 0) then
      s.setSeq n (fun a => { a with calEnd := none, recal := false, calLast := s.frame.counter })
    else s
  | none => s

/-- HOLD_DELAY_EXPIRY: the amplitude begins its ramp to axn.cur.ihold (Table CUR-4); pin mode has no standstill mode (R325). -/
def execHoldDelayExpiry (n : Fin 4) (s : State) : Host.Outcome State Fault Refusal :=
  .next (
    let m := s.motion.get n
    if !s.pinMode n && (s.cur.get n).hold == .moving && m.still && !s.curMoving n && decide (s.ax n 0x14 ≤ m.holdF) then
      s.updCur n (fun x => { x with hold := .ramp, rampF := 0 })
    else s)

/-- HOLD_RAMP_END: the axis enters its standstill mode (R268, R269, R272). -/
def execHoldRampEnd (n : Fin 4) (s : State) : Host.Outcome State Fault Refusal :=
  .next (
    let x := s.cur.get n
    if !s.pinMode n && x.hold == .ramp && decide (s.ax n 0x15 ≤ x.rampF) then
      (s.enterHold n (s.stillMode n)).updCur n (fun x => { x with rampF := 20000 })
    else s)

/-! ### Change-over by speed (R260 to R263) -/

/-- Both coils change the regulation mode at tick `T` (R262). -/
def CurrentSt.changeOver (x : CurrentSt) (voltage : Bool) (T P : Nat) : CurrentSt :=
  ({ x with voltage := voltage, request := none } : CurrentSt).begin_ T P

/-- The decision of step 8 in automatic mode takes effect at the present boundary; a change to voltage at standstill is made
there (R261, R263). -/
def State.regBoundary (s : State) (n : Fin 4) : State :=
  let x := s.cur.get n
  let m := s.motion.get n
  let v : Rat := if m.vel < 0 then -m.vel else m.vel
  if s.ax n 0x10 ≠ 2 ∨ x.hold = .off then s
  else
    let r : Option Bool :=
      if x.voltage then (if rawV (s.ax n 0x1A) < v then some false else none)
      else if v < rawV (s.ax n 0x1B) then some true else none
    if r = some true ∧ m.still then (s.updCur n (fun x => x.changeOver true s.frame.tickBase (s.pwmHalf n))).ev 0x0120 1
    else s.updCur n (fun x => { x with request := r })

/-- The axis reaches Ready: tables, regulation mode and integrals (R260, R261, R274). -/
def State.curReady (s : State) (n : Fin 4) : State :=
  s.updCur n (fun x =>
    { x with
      liveTab := x.userTab
      voltage := s.ax n 0x10 != 0
      request := none
      hold := .off
      acode := 0
      rampF := 0
      sinceHalt := false
      coilA := ({} : CoilSt).atDuty (s.pwmHalf n) 0
      coilB := ({} : CoilSt).atDuty (s.pwmHalf n) 0
      qFrom := none
      escs := 0
      shorts := 0 })

/-! ### At a microstep (R247, R254, R262, R267) -/

/-- A quarter of an electrical period ended: report the coils that were short of their drive (R267). -/
def State.quarterEnd (s : State) (n : Fin 4) (e : Nat) : State :=
  let x := s.cur.get n
  let full := match x.qFrom with | some q => q != e | none => false
  let short (k : CoilSt) : Bool := full && s.regulates n && (if x.voltage then k.limQ && k.limited else !k.tripQ)
  let one (c : Nat) (b : Bool) (t : State) : State :=
    if b then
      let t := (t.updCur n (fun x => { x with shorts := min 0xFFFF (x.shorts + 1) })).wedgeSpoil n
      if (t.cur.get n).shortSeen then t
      else (t.updCur n (fun x => { x with shortSeen := true })).noteEv 0x0121 (2 * n.val + c)
    else t
  let s := one 1 (short x.coilB) (one 0 (short x.coilA) s)
  s.updCur n (fun x =>
    { x with
      qFrom := some e
      coilA := { x.coilA with tripQ := false, limQ := true }
      coilB := { x.coilB with tripQ := false, limQ := true } })

/-- The current regulation at a microstep just issued at tick `T`. -/
def State.curMicro (s : State) (n : Fin 4) (T : Nat) : State :=
  let e := (s.motion.get n).elec
  let s := s.setPoints n T
  if e % 256 ≠ 0 then s
  else
    let s := s.quarterEnd n e
    match (s.cur.get n).request with
    | some v => ((s.updCur n (fun x => x.changeOver v T (s.pwmHalf n))).wedgeSpoil n).noteEv 0x0120 (b01 v)
    | none => s

/-! ### Regulation checks (R265) -/

/-- The compare values of an altered period of leg 1 or leg 2 (R312). -/
def alteredValues (P pulse dead : Nat) (leg2 : Bool) (c : Nat × Nat) : Nat × Nat :=
  let need := cdiv pulse 2 + dead
  let up (own other : Nat) : Nat × Nat := (max own need, min P (other + (max own need - own)))
  if leg2 then let r := up c.2 c.1; (r.2, r.1) else up c.1 c.2

/-- The check of one sample: the state, and whether the coil drive ended. -/
def State.regCheck (s : State) (n : Fin 4) (c : Nat) (code : Nat) (v : Int) : State :=
  let x := (s.cur.get n).coil c
  let lsb := iLsb (s.ax n 0x18) (s.ax n 0x19)
  let high := decide (lsb * (v.natAbs : Rat) > lsb * (x.setp.natAbs : Rat) + (s.ax n 0x11 : Nat) / 8)
  let sat := code == 0 || decide (4095 ≤ code)
  let s := s.updCur n (fun y => y.updCoil c (fun z =>
    { z with overN := if high then z.overN + 1 else 0, sat := if sat then z.sat + 1 else 0 }))
  let ends (t : State) : State := t.updCur n (fun y => y.updCoil c (fun z => { z.atDuty (s.pwmHalf n) 0 with phase := .ended }))
  if x.phase = .ended then s
  else if high ∧ x.overN + 1 = 4 then (ends s).note 0x0120 (2 * n.val + c) (axBits n) false
  else if sat ∧ x.sat + 1 = 2 then (ends s).note 0x0121 (2 * n.val + c) (axBits n) false
  else s

/-- Signed sample of a converter code: 2048 plus the stored offset is zero current (R240). -/
def State.sampleOf (s : State) (n : Fin 4) (c : Fin 2) (code : Nat) : Int := (code : Int) - 2048 - (s.axSt n).offsets.get c

/-! ### Fixed-off-time chopper (R250 to R256) -/

/-- The chopper runs on the axis. -/
def State.chops (s : State) (n : Fin 4) : Bool := s.regulates n && !(s.cur.get n).voltage

/-- An insertion on a coil ends: its high side does not return (R311). -/
def State.dropInserts (s : State) (n : Fin 4) (c : Nat) : State :=
  ((coilBridges (Fin.ofNat 4 (2 * c))).foldl (fun t b => t.updBridge n b (fun y =>
    if y.insert then { y with insert := false, pending := none } else y)) s).nextInsert n

/-- Configured fast-decay fraction of the coil's next off phase (R252). -/
def State.fastOf (s : State) (n : Fin 4) (x : CoilSt) : Nat := s.ax n (if x.falling then 0x02 else 0x01)

/-- CHOPPER_TRIP: the off phase begins with F + escalation, and the converter samples the coil, `ton` ticks after the on phase
began (R250, R252, R253, R256, R265, R348). -/
def execChopperTrip (n : Fin 4) (c : Fin 2) (code ton : Nat) (s : State) : Host.Outcome State Fault Refusal :=
  .next (
    let x := (s.cur.get n).coil c.val
    -- an inserted on phase ignores the trip comparator (R349)
    if s.chops n && x.phase == .on && x.setp != 0 && x.insTo.isNone then
      let v := s.sampleOf n c code
      let esc := if x.seen then x.esc else x.esc - 4
      let f := min 16 (s.fastOf n x + esc)
      let s := s.updCur n (fun y => y.updCoil c.val (fun z => { z with
        phase := if f = 0 then .slow else .fast
        esc := esc
        frac := f
        seen := false
        sample := v
        tripQ := true }))
      let s := (s.dropInserts n c.val).regCheck n c.val code v
      if s.ax n 0x00 * 125 + 400 ≤ 5 * ton then s.coilSample n c.val v x.setp.natAbs false else s
    else s)

/-- BLANKING_END, `ton` ticks after the on phase began: a trip found already set raises the escalation level, what is added to F, by 4,
F and the level together to at most 16; a rise is counted (R250, R253; log entry 17). -/
def execBlankingEnd (n : Fin 4) (c : Fin 2) (seen : Bool) (ton : Nat) (s : State) : Host.Outcome State Fault Refusal :=
  .next (
    let x := (s.cur.get n).coil c.val
    if s.chops n && x.phase == .blank && decide (25 * s.ax n 0x00 ≤ ton) then
      let seen := seen && x.insTo.isNone
      let esc := if seen then min (x.esc + 4) (16 - s.fastOf n x) else x.esc
      let s := s.updCur n (fun y => y.updCoil c.val (fun z => { z with phase := .on, seen := seen, esc := esc }))
      if x.esc < esc then s.updCur n (fun y => { y with escs := min 0xFFFF (y.escs + 1) }) else s
    else s)

/-- FAST_DECAY_END: F/16 of the off-time after the trip slow decay follows (R250). With a set-point of 0 only the zero comparator ends
fast decay (R255). `gone`: ticks since the off phase began. -/
def execFastDecayEnd (n : Fin 4) (c : Fin 2) (gone : Nat) (s : State) : Host.Outcome State Fault Refusal :=
  .next (
    let x := (s.cur.get n).coil c.val
    if s.chops n && x.phase == .fast && x.setp != 0 && decide (50 * s.ax n 0x03 * x.frac ≤ 16 * gone) then
      s.updCur n (fun y => y.updCoil c.val (fun z => { z with phase := .slow }))
    else s)

/-- ZERO_COMPARATOR_TRIP: slow decay at once (R251). -/
def execZeroComparatorTrip (n : Fin 4) (c : Fin 2) (s : State) : Host.Outcome State Fault Refusal :=
  .next (
    if s.chops n && ((s.cur.get n).coil c.val).phase == .fast then
      s.updCur n (fun y => y.updCoil c.val (fun z => { z with phase := .slow }))
    else s)

/-- OFF_TIME_END: the off-time after the trip the next on phase begins (R250). -/
def execOffTimeEnd (n : Fin 4) (c : Fin 2) (gone : Nat) (s : State) : Host.Outcome State Fault Refusal :=
  .next (
    let x := (s.cur.get n).coil c.val
    if s.chops n && (x.phase == .fast || x.phase == .slow) && x.setp != 0 && decide (50 * s.ax n 0x03 ≤ gone) then
      s.updCur n (fun y => y.updCoil c.val CoilSt.onPhase)
    else s)

/-- FORCED_SAMPLE: the on phase has not tripped after diag.coil.ol_ton, `ton` ticks after it began (R348). -/
def execForcedSample (n : Fin 4) (c : Fin 2) (code ton : Nat) (s : State) : Host.Outcome State Fault Refusal :=
  .next (
    let x := (s.cur.get n).coil c.val
    if s.chops n && x.phase == .on && x.insTo.isNone && decide (200 * s.par 0xA016 ≤ ton) then s.coilSample n c.val (s.sampleOf n c code) x.setp.natAbs false else s)

/-! ### Voltage mode (R257 to R259) -/

/-- Load angle used by the feed-forward, degrees electrical (R258). -/
def State.ffDelta (s : State) (n : Fin 4) : Rat :=
  let w := s.wedge.get n
  match w.delta with | some d => if w.dValid then d else (s.ax n 0x24 : Nat) | none => (s.ax n 0x24 : Nat)

/-- PWM_PERIOD: the integral follows the sample of the period, and the next duty the coil model; `code` is the conversion at
counter value P/2 (R258, R259, R265, R348). The velocity is that of the last boundary (log entry 17). -/
def execPwmPeriod (n : Fin 4) (c : Fin 2) (code : Nat) (s : State) : Host.Outcome State Fault Refusal :=
  .next (
    if !(s.regulates n && (s.cur.get n).voltage) then s
    else
      let x := (s.cur.get n).coil c.val
      let abs (v : Rat) : Rat := if v < 0 then -v else v
      let lsb : Rat := iLsb (s.ax n 0x18) (s.ax n 0x19) / 1000
      let P : Rat := (s.pwmHalf n : Nat)
      let T : Rat := P / 100000000
      let vm : Rat := (s.power.vm : Rat) / 1000
      let valid := decide (((s.ax n 0x00 * 125 + 400 : Nat) : Rat) ≤ 5 * P * abs x.duty / 2)
      let v := s.sampleOf n c code
      let err : Rat := lsb * ((x.setp - v : Int) : Rat)
      let step : Rat := (s.ax n 0x25 : Nat) * err * T
      let into := x.limited && ((decide (0 < x.duty) && decide (0 < step)) || (decide (x.duty < 0) && decide (step < 0)))
      let ux0 := if valid && !into then x.ux + step else x.ux
      let ux := max (-(vm / 4)) (min (vm / 4) ux0)
      let m := s.motion.get n
      let sg : Rat := if 0 < m.vel then 1 else if m.vel < 0 then -1 else 0
      let th : Rat := (m.elec : Rat) / 1024 - s.ffDelta n / 360 * sg
      let ke : Rat := (s.ax n 0x23 : Nat) / 100000
      let ex : Rat := if c.val = 0 then ke * (m.vel / 1024) * cosTurn th else -(ke * (m.vel / 1024) * sinTurn th)
      let vx : Rat := (s.ax n 0x21 : Nat) / 1000 * (lsb * (x.setp : Rat))
        + (s.ax n 0x22 : Nat) / 1000000 * (lsb * ((x.setp - x.prevSet : Int) : Rat)) / T + ex + ux
      let dm : Rat := (s.ax n 0x26 : Nat) / 100
      let raw : Rat := if vm = 0 then 0 else vx / vm
      let lim := decide (dm < abs raw)
      let d := max (-dm) (min dm raw)
      -- an inserted measurement raises |d| for one period (R349)
      let d := match x.raise with
        | some ds => if d < 0 ∨ (d = 0 ∧ x.setp < 0) then min d (-ds) else max d ds
        | none => d
      let d := if x.phase = .ended then 0 else d
      let b1 : Fin 4 := Fin.ofNat 4 (2 * c.val)
      let alter (leg2 : Bool) (v : Nat × Nat) : Nat × Nat :=
        if (s.bridge n (if leg2 then b1 + 1 else b1)).altered then alteredValues (s.pwmHalf n) (s.ps n 0x11) (s.ps n 0x0A) leg2 v else v
      let cv := alter true (alter false (compareValues (s.pwmHalf n) d))
      let s := s.updCur n (fun y => y.updCoil c.val (fun z => { z with
        ux := ux
        cmp1 := cv.1
        cmp2 := cv.2
        frozen := !valid
        raise := none
        raised := x.raise.isSome
        duty := d
        limited := lim
        limQ := z.limQ && lim
        prevSet := z.setp
        sample := if valid then v else z.sample }))
      let s := (coilBridges (Fin.ofNat 4 (2 * c.val))).foldl (fun t b => t.updBridge n b (fun y => { y with altered := false })) s
      if x.raised then (s.regCheck n c.val code v).coilSample n c.val v (max 16 x.setp.natAbs) true
      else if valid then (s.regCheck n c.val code v).coilSample n c.val v x.setp.natAbs false else s)

/-! ### CHISEL (Tables CUR-12 and CUR-13) -/

def chiselSize : Nat := 528

/-- Entries of a table file. -/
def fileEntries (f : List Byte) : List Nat := (List.range 256).map (fun i => get16 f (16 + 2 * i))

/-- First byte of a table file that is reserved and not 0, or an entry wider than 12 bits. -/
def chiselWidth (f : List Byte) : Option Nat :=
  if get16 f 6 ≠ 0 then some 6
  else ((List.range 256).find? (fun i => decide (4096 ≤ get16 f (16 + 2 * i)))).map (fun i => 16 + 2 * i)

/-- Header findings. -/
def chiselHead (f : List Byte) : List Finding :=
  fnd (get32 f 0 != 0x4948434B) 2 0x0127 0 ++ fnd (get16 f 4 != 1) 2 0x0127 1 ++
  fnd (get32 f 12 != crc32 (f.take 12 ++ f.drop 16)) 2 0x0127 2

/-- Header findings, then the rules of Table CUR-3. -/
def chiselFile (f : List Byte) : List Finding := chiselHead f ++ chiselFindings (fileEntries f)

/-- The table file of a table. -/
def chiselBytes (t : Chisel) : List Byte :=
  let a := le32 0x4948434B ++ le16 1 ++ [0, 0] ++ le32 t.label.toNat
  let b := (fit 256 0 t.entries).flatMap le16
  a ++ le32 (crc32 (a ++ b)) ++ b

/-- The checks of operations 0 and 1 on the bulk table: the header, then Table CUR-3 with its Width rule first (R273). -/
def State.chiselOwn (s : State) : Option (Nat × Nat × List Byte) :=
  let f := s.bulkBytes 0 chiselSize
  match chiselHead f, chiselWidth f with
  | [], some o => some (8, 0x1000 + o, [])
  | _, _ => s.findingReply (chiselFile f)

def State.chiselAxis (s : State) (h : Nat) : List Finding :=
  let n := s.axisOf h
  fnd (!(s.seq n == .off || s.seq n == .failed)) 1 0x0125 n.val

/-- The working user table changes: a change of the working set (R245). -/
def State.setUserTab (s : State) (h : Nat) (t : Option Chisel) : State :=
  ((s.updCur (s.axisOf h) (fun x => { x with userTab := t })).writeWorking s.params.working).awaitVerdict h 1 0 [] 0xFFFF []

def chiselLoadSpec : CmdSpec where
  op := 0x0120
  sub := some 0
  need := 4
  field := opReserved
  bulkLen := fun _ _ => chiselSize
  judge := fun s h => some (s.cfg, s.chiselAxis h)
  own := fun s h => match s.findingReply (s.chiselAxis h) with | some r => some r | none => s.chiselOwn
  start := fun s h =>
    let f := s.bulkBytes 0 chiselSize
    s.setUserTab h (some { label := BitVec.ofNat 32 (get32 f 8), entries := fileEntries f })

def execChiselLoad (h : Fin 32) (s : State) : Host.Outcome State Fault Refusal := .next (takeRow chiselLoadSpec h s)

def chiselValidateSpec : CmdSpec where
  op := 0x0120
  sub := some 1
  need := 4
  field := opReserved
  bulkLen := fun _ _ => chiselSize
  own := fun s _ => s.chiselOwn
  start := fun s h => s.doneWith h []

def execChiselValidate (h : Fin 32) (s : State) : Host.Outcome State Fault Refusal := .next (takeRow chiselValidateSpec h s)

/-- SV-0x0126 while the working user table is invalid. -/
def State.chiselNone (s : State) (h : Nat) : Option (Nat × Nat × List Byte) :=
  let n := s.axisOf h
  if (s.cur.get n).userTab.isNone then some (s.svReply 0x0126 n.val) else none

/-- Save: a failed read-back raises FT-0x0123, and the previous stored copy stays in use (R274; log entry 33). -/
def chiselSaveSpec : CmdSpec where
  op := 0x0120
  sub := some 2
  need := 4
  field := opReserved
  own := State.chiselNone
  start := fun s h =>
    let w := s.flashWrite
    if w.1 then (w.2.updCur (s.axisOf h) (fun x => { x with storeTab := x.userTab })).doneWith h []
    else (w.2.raise 0x0123 0 0 false).finish h 6 0x0123 []

def execChiselSave (h : Fin 32) (s : State) : Host.Outcome State Fault Refusal := .next (takeRow chiselSaveSpec h s)

def chiselReadSpec : CmdSpec where
  op := 0x0120
  sub := some 3
  need := 4
  field := opReserved
  own := State.chiselNone
  start := fun s h =>
    match (s.cur.get (s.axisOf h)).userTab with
    | some t => s.doneWith h (chiselBytes t)
    | none => s.doneWith h []

def execChiselRead (h : Fin 32) (s : State) : Host.Outcome State Fault Refusal := .next (takeRow chiselReadSpec h s)

/-- The working user table takes the stored copy; a missing one leaves it invalid and raises EV-0x0122 (R245; log entry 17). -/
def chiselReloadSpec : CmdSpec where
  op := 0x0120
  sub := some 4
  need := 4
  field := opReserved
  start := fun s h =>
    let n := s.axisOf h
    let t := (s.cur.get n).storeTab
    (s.evIf t.isNone 0x0122 n.val).setUserTab h t

def execChiselReload (h : Fin 32) (s : State) : Host.Outcome State Fault Refusal := .next (takeRow chiselReloadSpec h s)

/-- At SYS checkpoint "Firmware started" every working user table is loaded from its stored copy (R245). -/
def State.bootTables (s : State) : State :=
  forAxes s (fun n t =>
    let c := (t.cur.get n).storeTab
    (t.updCur n (fun x => { x with userTab := c, liveTab := none })).evIf c.isNone 0x0122 n.val)

/-! ### CUR_STATUS (Table CUR-14) -/

def HoldState.code : HoldState → Nat
  | .off => 0
  | .moving => 1
  | .hold => 2
  | .quiet => 3
  | .clamp => 4
  | .haltHold => 5
  | .recal => 6
  | .ramp => 7

def State.curStatus (s : State) (n : Fin 4) : List Byte :=
  let x := s.cur.get n
  let ma (v : Int) := leS16 (satS 16 (s.lsbMa n v))
  let duty (k : CoilSt) := leS16 (if x.voltage then Rat.floor (k.duty * 10000 + 1 / 2) else 0)
  b8 (b01 x.voltage) ++ b8 x.hold.code ++ le16 x.iamp ++ ma x.coilA.setp ++ ma x.coilB.setp ++ ma x.coilA.sample ++ ma x.coilB.sample
    ++ duty x.coilA ++ duty x.coilB ++ b8 x.coilA.frac ++ b8 x.coilB.frac ++ le16 x.escs ++ le16 x.shorts
    ++ b8 (b01 x.coilA.limited + 2 * b01 x.coilB.limited + 4 * b01 x.request.isSome
        + 8 * b01 (x.voltage && (x.coilA.frozen || x.coilB.frozen))) ++ [0]

def curStatusSpec : CmdSpec where
  op := 0x0121
  start := fun s h => s.doneWith h (s.curStatus (s.axisOf h))

def execCurStatus (h : Fin 32) (s : State) : Host.Outcome State Fault Refusal := .next (takeRow curStatusSpec h s)

end Sys2Proof.Machine
end

