-- ==== Sys2Proof/Machine/Wedge.lean ====
section
/-! DEFINITION. Wedge current, stall criteria, learning and face homing (09). -/

namespace Sys2Proof.Machine

/-- The estimate and its criteria run: axn.wedge.mode is not 0 (R281). -/
def State.wedgeOn (s : State) (n : Fin 4) : Bool := s.ax n 0x60 != 0

def ratAbs (v : Rat) : Rat := if v < 0 then -v else v

/-- A rational rounded to the nearest integer, halves up. -/
def ratRound (v : Rat) : Int := Rat.floor (v + 1 / 2)

/-- Fingerprint of the motor data (R285). -/
def State.wedgePrint (s : State) (n : Fin 4) : BitVec 16 :=
  BitVec.ofNat 16 (crc16 (le16 (s.ax n 0x21) ++ le16 (s.ax n 0x22) ++ le16 (s.ax n 0x23) ++ le16 (s.ax n 0x18) ++
    b8 (s.ax n 0x19) ++ b8 (s.ax n 0x17)))

/-- |v| is at least 1024 × axn.wedge.fe_min (R278). -/
def State.feOk (s : State) (n : Fin 4) (v : Rat) : Bool := decide ((1024 * s.ax n 0x64 : Nat) ≤ ratAbs v)

/-! ### Windows (R275 to R277) -/

/-- Commanded velocity of an axis at a boundary: in STEPF the rate of R222 from the first microstep to standstill, also while nothing is
owed between two pulses (log entry 18). -/
def State.wedgeVel (s : State) (n : Fin 4) : Rat :=
  let m := s.motion.get n
  if m.state = .stepf then (if m.still then 0 else (m.lastDir : Rat) * s.stepRate n) else m.vel

/-- Commanded velocity at a microstep just issued at tick `T`; in STEPF the rate of R222 (log entry 18). -/
def State.stepVel (s : State) (n : Fin 4) (T : Nat) : Rat :=
  let m := s.motion.get n
  if m.state = .stepf then (m.lastDir : Rat) * s.stepRate n else (s.xva n (T : Rat)).2.1

/-- Number of the ADC1 unit of tick `T`: 25 units of 2 µs in each frame (R338). -/
def State.adcUnit (s : State) (T : Nat) : Nat := 25 * s.fr + min 25 ((T - s.frame.tickBase) / 400)

/-- A window opens at tick `T`, in unit `u` (R275). -/
def WedgeSt.openWin (w : WedgeSt) (T u : Nat) (a b : Int) : WedgeSt :=
  { w with open_ := some (T, a, b), openSum := (0, 0), openAt := T, openUnit := u, capSum := (0, 0), capN := 0 }

/-- A period begins (R277, R278). -/
def WedgeSt.beginPer (w : WedgeSt) (dir : Int) (ceil : Nat) : WedgeSt :=
  { w with wins := 0, okPer := true, ceilPer := w.iw == ceil, dirPer := dir }

/-- The window under way ends at tick `T` and the next one opens; after 64 the period has ended with its verdict, and the next period
begins (R275, R277). -/
def WedgeSt.endWin (w : WedgeSt) (m : MotionSt) (a b : Int) (v : Rat) (T u ceil : Nat) : WedgeSt :=
  match w.open_ with
  | none => (w.beginPer m.lastDir ceil).openWin T u a b
  | some o =>
    let last := w.wins == 63
    let x : WedgeWin := { fin := if last then some (w.okPer, w.ceilPer) else none
                          units := u - w.openUnit, capA := w.capSum.1, capB := w.capSum.2, capN := w.capN, sumA := w.openSum.1, sumB := w.openSum.2, dA := a - o.2.1, dB := b - o.2.2, dt := T - o.1, e := m.elec
                          v := v, p := m.p, dir := m.lastDir }
    let w := { w with due := some x, wins := w.wins + 1 }
    (if last then w.beginPer m.lastDir ceil else w).openWin T u a b

/-- A microstep at tick `T`: the first window opens at the first boundary e mod 16 = 0 at or after the first microstep of the motion, and
each later boundary ends one; each microstep of the period is held against R278 (R275, R277). -/
def State.wedgeMicro (s : State) (n : Fin 4) (T : Nat) : State :=
  if !s.wedgeOn n then s
  else
    let m := s.motion.get n
    let c := s.cur.get n
    let v := s.stepVel n T
    let ceil := s.ax n 0x62
    let ok := s.feOk n v && c.hold != .recal
    s.updWedge n (fun w =>
      let w := { w with okPer := w.okPer && ok && m.lastDir == w.dirPer }
      if m.elec % 16 = 0 then
        let w := w.endWin m c.coilA.setp c.coilB.setp v T (s.adcUnit T) ceil
        -- the microstep that opens a period belongs to it
        { w with okPer := w.okPer && ok }
      else w)

/-- The axis comes to rest or its drive is lost: the windows of the next motion begin anew (R277). -/
def WedgeSt.rest (w : WedgeSt) : WedgeSt :=
  { w with open_ := none, due := none, ended := none, windows := 0, wins := 0, sumEs := 0, sumEc := 0, sumM := 0,
           okPer := true, dValid := false }

/-- The integrated coil voltages over the window time, in mV: the sums of the captures; `va` and `vb` where ADC1_UNIT brought none
(R275, R339; log entry 18). -/
def WedgeWin.volts (x : WedgeWin) (va vb : Int) : Rat × Rat :=
  if x.capN = 0 then ((va : Rat), (vb : Rat)) else ((x.capA : Rat) / (2 * x.capN : Nat), (x.capB : Rat) / (2 * x.capN : Nat))

/-- Window values Es, Ec and m (R275, R276, R339), from the mean coil voltages in mV and the mean set-points. -/
def State.windowValues (s : State) (n : Fin 4) (x : WedgeWin) (va vb : Rat) : Rat × Rat × Rat :=
  let lsb := iLsb (s.ax n 0x18) (s.ax n 0x19)
  let R : Rat := (s.ax n 0x21 : Nat) / 1000
  let L : Rat := (s.ax n 0x22 : Nat)
  let us : Rat := (2 * (if x.capN = 0 then x.units else x.capN) : Nat)
  let emf (v : Rat) (sum d : Int) : Rat := v - R * (lsb * (sum : Rat) / (x.dt : Rat)) - L * (lsb * (d : Rat)) / us
  let ea := emf va x.sumA x.dA
  let eb := emf vb x.sumB x.dB
  let th : Rat := ((x.e : Rat) - 8 * (x.dir : Rat)) / 1024
  (ea * sinTurn th + eb * cosTurn th, ea * cosTurn th - eb * sinTurn th, ratSqrt (ea * ea + eb * eb))

/-- Load angle of Es and Ec in degrees, for direction `d` (R276). -/
def loadAngle (d : Int) (es ec : Rat) : Rat := atan2Deg es ((d : Rat) * ec)

/-! ### Homing contact (R292 to R294) -/

/-- x_ref: the position nearest `x` with e mod 256 = 0, the free side when `x` lies midway (R294). -/
def nearestFull (eloff : Nat) (x : Int) (s : Int) : Int :=
  let r := (x + eloff) % 256
  if r < 128 ∨ (r = 128 ∧ 0 < s) then x - r else x - r + 256

/-- Contact is declared at the end of a window: microsteps stop, and the stop estimate, the lead and x_ref are formed. -/
def State.homeContact (s : State) (n : Fin 4) : State :=
  let w := s.wedge.get n
  let m := s.motion.get n
  let g : Int := if w.home.positive then 1 else -1
  let xstop := w.home.cleanP - g * w.home.cleanD
  let lead := g * (m.p - xstop)
  let xref := nearestFull m.eloff xstop g
  let margin : Int := 128 - ((xstop - xref).natAbs : Int)
  let s := s.updWedge n (fun w => { w with home := { w.home with
    st := .contact
    xref := xref
    lead := lead
    margin := margin } })
  let cmd := m.cmd
  let s := (s.updMotion n (fun m => { m.toIdle with cmd := cmd })).noteEv 0x0143 n.val
  if margin < (s.ax n 0x71 : Int) then s.noteEv 0x0144 n.val else s

/-- One window of the approach: the last window before the collapsed run may lie before the arming (R292, R293). -/
def State.homeWindow (s : State) (n : Fin 4) (x : WedgeWin) (es ec mw : Rat) : State :=
  let h := (s.wedge.get n).home
  if h.st ≠ .armed ∧ h.st ≠ .ramp then s
  else if h.st = .armed ∧ mw < (s.ax n 0x73 : Nat) / 100 * h.mref then
    let t := s.updWedge n (fun w => { w with home := { w.home with collapsed := w.home.collapsed + 1 } })
    if s.ax n 0x72 ≤ h.collapsed + 1 then t.homeContact n else t
  else
    let d := ratRound (loadAngle x.dir es ec * 1024 / 360)
    s.updWedge n (fun w => { w with home := { w.home with collapsed := 0, cleanP := x.p, cleanD := d } })

/-- WEDGE_WINDOW_END: `va` and `vb` are the integrated coil voltages over the window time, in mV, of a window without captures (R275 to
R277, R292). -/
def execWedgeWindowEnd (n : Fin 4) (va vb : Int) (s : State) : Host.Outcome State Fault Refusal :=
  .next (
    let w := s.wedge.get n
    match w.due with
    | none => s
    | some x =>
      let v := x.volts va vb
      let r := s.windowValues n x v.1 v.2
      let lim : Rat := (s.power.vm + 2000 : Nat)
      let high := decide (lim < ratAbs v.1) || decide (lim < ratAbs v.2)
      let imp := if high then w.implaus + 1 else 0
      let s := s.updWedge n (fun w =>
        let base := if w.ended.isSome then { w with windows := 0, sumEs := 0, sumEc := 0, sumM := 0 } else w
        { base with
          due := none
          ended := x.fin.map (fun f => (f.1, f.2, x.dir))
          windows := base.windows + 1
          sumEs := base.sumEs + r.1
          sumEc := base.sumEc + r.2.1
          sumM := base.sumM + r.2.2
          perV := x.v
          implaus := imp
          suspended := w.suspended || decide (8 ≤ imp) })
      let s := if imp = 8 ∧ !w.suspended then s.note 0x0145 n.val (axBits n) false else s
      s.homeWindow n x r.1 r.2.1 r.2.2)

/-! ### Periods (R277 to R283, R287, R288, R292) -/

/-- A declared stall: microsteps stop at once, and the fault waits for the boundary (R283). -/
def State.declareStall (s : State) (n : Fin 4) (code : Nat) : State :=
  (s.updWedge n (fun w => { w with stall := some code })).updMotion n (fun m => { m with halted := true })

/-- The stall criteria at the end of a valid period (Table WEDGE-2). `ceil`: I_w stood at ceil throughout it. -/
def State.stallPeriod (s : State) (n : Fin 4) (ceil : Bool) (ang mag fe : Rat) : State :=
  let w := s.wedge.get n
  if w.suspended ∨ w.home.st ≠ .none ∨ w.stall.isSome then s
  else
    let aOn := w.learn != .learning
    let cOn := w.learn == .learned
    let aHit := decide ((s.ax n 0x68 : Nat) ≤ ratAbs ang) && (s.ax n 0x60 == 1 || ceil)
    let cHit := decide (mag < (s.ax n 0x6A : Nat) / 100 * ((w.ke : Rat) / 100) * ratAbs fe)
    let na := if !aOn then w.cntAngle else if aHit then w.cntAngle + 1 else 0
    let nc := if !cOn then w.cntColl else if cHit then w.cntColl + 1 else 0
    let lim := s.ax n 0x69
    let da := aOn && aHit && decide (lim ≤ na)
    let dc := cOn && cHit && decide (lim ≤ nc)
    let s := s.updWedge n (fun w => { w with cntAngle := na, cntColl := nc, both := if da && dc then min 0xFFFF (w.both + 1) else w.both })
    if da then s.declareStall n 0x0140 else if dc then s.declareStall n 0x0141 else s

/-- The baseline is discarded; LEARNING follows at the next boundary (R288). -/
def WedgeSt.discard (w : WedgeSt) : WedgeSt := { w with toLearn := true, learnN := 0, learnSum := 0, learnFrom := 0, checkN := 0, checkBad := false, ke := 0, source := 0, toRet := false }

/-- LEARNING that waited for the boundary begins (R288). -/
def State.learnBoundary (s : State) (n : Fin 4) : State :=
  s.updWedge n (fun w => if w.toLearn then { w with toLearn := false, learn := .learning, learnN := 0, learnSum := 0, learnFrom := 0 } else w)

/-- Learning and the plausibility check of a valid period (R287, R288). After a takeover the mean is that of the periods measured here
(log entry 18). -/
def State.learnPeriod (s : State) (n : Fin 4) (mag fe : Rat) : State :=
  let w := s.wedge.get n
  let k : Rat := mag * 100 / ratAbs fe
  match w.learn with
  | .learning =>
    let sum := w.learnSum + k
    let cnt := w.learnN + 1
    if s.ax n 0x6D ≤ cnt then
      let ke := (ratRound (sum / ((cnt - w.learnFrom : Nat) : Rat))).toNat
      (s.updWedge n (fun w => { w with learn := .learned, learnN := cnt, learnSum := sum, ke := ke, source := 1,
                                       finger := s.wedgePrint n, toRet := true })).noteEv 0x0140 ke
    else s.updWedge n (fun w => { w with learnN := cnt, learnSum := sum })
  | .check =>
    let bad := w.checkBad || decide ((w.ke : Rat) / 4 < ratAbs (k - (w.ke : Rat)))
    if w.toLearn then s
    else if w.checkN + 1 < 2 then s.updWedge n (fun w => { w with checkN := w.checkN + 1, checkBad := bad })
    else if bad then (s.updWedge n WedgeSt.discard).noteEv 0x0142 2
    else s.updWedge n (fun w => { w with checkN := w.checkN + 1, learn := .learned })
  | .learned => s

/-- WEDGE_PERIOD_END: a 64-window period ends (R277, R278). -/
def execWedgePeriodEnd (n : Fin 4) (s : State) : Host.Outcome State Fault Refusal :=
  .next (
    let w := s.wedge.get n
    match w.ended with
    | none => s
    | some (ok, ceil, dir) =>
      let fe := w.perV / 1024
      let reset (w : WedgeSt) : WedgeSt := { w with ended := none, windows := 0, sumEs := 0, sumEc := 0, sumM := 0 }
      if !ok ∨ fe = 0 then
        s.updWedge n (fun w => { reset w with invalid := min 0xFFFF (w.invalid + 1), dValid := false })
      else
        let es := w.sumEs / 64
        let ec := w.sumEc / 64
        let ang := loadAngle dir es ec
        let mag := ratSqrt (es * es + ec * ec)
        let s := s.updWedge n (fun w => { reset w with
          valid := min 0xFFFFFFFF (w.valid + 1)
          delta := some ang
          dValid := true
          mag := (ratRound mag).toNat
          fresh := true
          home := match w.home.st with
            | .ramp | .armed => { w.home with st := .armed, mref := w.sumM / 64 }
            | _ => w.home })
        (s.stallPeriod n ceil ang mag fe).learnPeriod n mag fe)

/-! ### Control law (Table WEDGE-1) -/

/-- I_w in detect-only mode (R281). -/
def State.detectAmp (s : State) (n : Fin 4) : Nat :=
  let h := (s.wedge.get n).home
  if h.st = .none then s.ax n 0x12 else h.ihome

/-- Step 9 of the frame that ends: the Wedge amplitude from the next boundary (R280, R281). After a declaration the amplitude in effect is
held (R283). -/
def State.wedgeStep (s : State) (n : Fin 4) : State :=
  if (s.wedge.get n).stall.isSome then s.updWedge n (fun w => { w with fresh := false })
  else if s.ax n 0x60 ≠ 2 then s.updWedge n (fun w => { w with iw := if s.ax n 0x60 = 1 then s.detectAmp n else w.iw, fresh := false })
  else
    let w := s.wedge.get n
    let floor : Rat := (s.ax n 0x61 : Nat)
    let ceil : Rat := (s.ax n 0x62 : Nat)
    let d : Rat := ratAbs (w.delta.getD 0)
    let iw : Rat := (w.iw : Nat)
    let v : Rat :=
      if w.learn = .learning then (s.ax n 0x63 : Nat)
      else if w.home.st ≠ .none then (w.home.ihome : Nat)
      else if !s.feOk n (s.wedgeVel n) then ceil
      else if !w.fresh then iw
      else if (s.ax n 0x67 : Nat) ≤ d then ceil
      else if (s.ax n 0x66 : Nat) < d then iw + (ceil - floor) * (s.ax n 0x6B : Nat) / 100
      else if (s.ax n 0x65 : Nat) ≤ d then iw
      else iw - (ceil - floor) * (s.ax n 0x6C : Nat) / 100
    let r := max (s.ax n 0x61) (min (s.ax n 0x62) (ratRound v).toNat)
    s.updWedge n (fun w => { w with iw := r, fresh := false, ceilPer := w.ceilPer && r == s.ax n 0x62 })

/-! ### At a boundary (R283, R284, R287) -/

/-- The position-error criterion (Table WEDGE-2). -/
def State.peStall (s : State) (n : Fin 4) : State :=
  let w := s.wedge.get n
  if s.wedgeOn n && s.ax n 0x6F == 1 && s.axReady n && !w.suspended && w.home.st == .none && w.stall.isNone then
    match (s.channels.get n).pe with
    | some e => if s.ax n 0x70 < e.natAbs then s.declareStall n 0x0142 else s
    | none => s
  else s

/-- The boundary after a declaration (R283). -/
def State.stallBoundary (s : State) (n : Fin 4) : State :=
  match (s.wedge.get n).stall with
  | none => s
  | some code =>
    let s := s.note code n.val (axBits n) false
    let s := (s.leaveRunAs n 6 code).endCmd n 6 code
    let s := s.updMotion n (fun m => { m.toIdle with halted := false, posState := .unreferenced, retained := false })
    (s.stopsDone n).updWedge n (fun w => { w.rest with stall := none, cntAngle := 0, cntColl := 0 })

/-- Stall detection as Table WEDGE-11 codes it: 0 available, 1 masked, 2 by feedback alone, 3 unavailable, 4 not moving (R281, R284). -/
def State.stallCode (s : State) (n : Fin 4) : Nat :=
  let v := s.wedgeVel n
  if v = 0 then 4
  else if !s.wedgeOn n then 3
  else if (s.wedge.get n).learn = .learning then 1
  else if s.feOk n v then 0
  else if s.ax n 0x6F = 1 then 2
  else 3

/-- EV-0x0145 in the first frame of a motion command without stall detection (R284). -/
def State.stallAvail (s : State) (n : Fin 4) : State :=
  if s.stallCode n == 3 && !(s.motion.get n).unavail then
    (s.updMotion n (fun m => { m with unavail := true })).ev 0x0145 n.val
  else s

/-- Learning state at Ready (Table WEDGE-3), whatever axn.wedge.mode is. -/
def State.wedgeReady (s : State) (n : Fin 4) : State :=
  let w := s.wedge.get n
  let fp := s.wedgePrint n
  let clear (l : LearnState) (w : WedgeSt) : WedgeSt :=
    { w.rest with learn := l, toLearn := false, learnN := 0, learnSum := 0, learnFrom := 0, checkN := 0, cntAngle := 0, cntColl := 0, stall := none, both := 0,
                  valid := 0, invalid := 0, implaus := 0, suspended := false, delta := none, mag := 0, fresh := false, home := {},
                  checkBad := false
                  iw := if s.ax n 0x60 = 1 then s.ax n 0x12 else if l = .learning then s.ax n 0x63 else s.ax n 0x62 }
  let fail (t : State) : State := t.updWedge n (fun w => { clear .learning w with ke := 0, source := 0 })
  if w.learn = .learned ∧ w.finger = fp then s.updWedge n (clear .learned)
  else if s.ax n 0x6E = 0 then fail s
  else if !s.ret.valid then (fail s).ev 0x0142 1
  else match s.ret.wedge.get n with
  | none => fail s
  | some (ke, f) =>
    if f = fp.toNat then
      (s.updWedge n (fun w => { clear .check w with ke := ke, finger := fp, source := 2 })).ev 0x0141 0
    else (fail s).ev 0x0142 0

/-- Baselines learned are written to retention at a superframe boundary, under a new CRC (R82, R287). -/
def State.wedgeSuper (s : State) : State :=
  forAxes s (fun n t =>
    let w := t.wedge.get n
    if w.toRet then
      let t := t.updWedge n (fun w => { w with toRet := false })
      { t with ret := { t.ret with valid := true, wedge := t.ret.wedge.set n (some (w.ke, w.finger.toNat)) } }
    else t)

/-! ### HOME_FACE (R290 to R297, Tables WEDGE-4 and WEDGE-9) -/

def State.homeSign (s : State) (h : Nat) : Int := if s.p8 h 0 = 1 then 1 else -1

def State.homeFindings (s : State) (h : Nat) : List Finding :=
  let n := s.axisOf h
  let vel := s.p32 h 4
  let hp := s.pS32 h 16
  let back := hp - s.homeSign h * (s.p16 h 14 : Int)
  s.motionFindings n ++
  fnd (decide (vel < 1280 * s.axv n 0x64 * 256) || decide (s.axv n 0x41 < vel)) 1 0x0144 n.val ++
  fnd (!s.inLedge n hp || !s.inLedge n back || decide (s.axv n 0x11 < s.p16 h 12)) 1 0x0145 n.val ++
  fnd (s.axv n 0x60 == 0) 1 0x0146 n.val ++
  fnd (!s.atStandstill n) 1 0x0147 n.val

def homeFaceSpec : CmdSpec where
  op := 0x0140
  need := 24
  engine := true
  field := fun s h =>
    if 1 < s.p8 h 0 then some 16
    else if s.p8 h 1 ≠ 0 then some 17 else if s.p8 h 2 ≠ 0 then some 18 else if s.p8 h 3 ≠ 0 then some 19
    else if s.pS32 h 4 ≤ 0 then some 20
    else if 1000000000 < s.p32 h 8 then some 24
    else if s.p16 h 12 < 100 ∨ 30000 < s.p16 h 12 then some 28
    else if s.p16 h 14 < 256 ∨ 16384 < s.p16 h 14 then some 30
    else if s.p32 h 20 < 1024 ∨ 2147483647 < s.p32 h 20 then some 36
    else none
  permit := motionPermit (some 0) true
  ready := notReady
  judge := fun s h => some (s.cfg, s.homeFindings h)
  own := fun s h => s.findingReply (s.homeFindings h)
  start := startMotion

def execHomeFace (h : Fin 32) (s : State) : Host.Outcome State Fault Refusal := .next (takeRow homeFaceSpec h s)

/-- HOME_FACE acts: the position of R291, then the ramp of R292. -/
def actHomeFace (h : Nat) (s : State) : State :=
  let n := s.axisOf h
  let g := s.homeSign h
  let vt : Rat := (g : Rat) * rawV (s.p32 h 4)
  let acc := s.orPar n (s.p32 h 8) 0x42
  let s := s.takeOver n (s.seqNo h)
  let free : Int := if g < 0 then s.axI n 0x47 else s.axI n 0x46
  let s := s.updMotion n (fun m => if m.posState = .referenced then m else m.putPos free)
  let p := (s.motion.get n).p
  let s := (s.setProfile n .vel (p : Rat) vt (velRamp 0 0 vt (acc : Rat) (acc : Rat) (s.ax n 0x44 : Nat))).updMotion n
    (fun m => { m with cmd := some h, capAcc := acc, capDec := acc })
  s.updWedge n (fun w =>
    { w.rest with home := { st := .ramp, hop := h, positive := decide (0 < g), vel := rawV (s.p32 h 4), acc := acc,
                            ihome := s.p16 h 12, backoff := s.p16 h 14, homePos := s.pS32 h 16, maxTravel := s.p32 h 20, startP := p } })

/-- A position profile of HOME_FACE from rest (R295). -/
def State.homeProfile (s : State) (n : Fin 4) (target : Int) : State :=
  let h := (s.wedge.get n).home
  let m := s.motion.get n
  let l := planTo (m.p : Rat) 0 0 (target : Rat) h.vel (h.acc : Rat) (s.ax n 0x43 : Nat) (s.ax n 0x44 : Nat)
  (s.setProfile n .pos (m.p : Rat) 0 l).updMotion n (fun m => { m with target := target })

/-- HOMING_SETTLE_END: the realign profile starts (R295). -/
def execHomingSettleEnd (n : Fin 4) (s : State) : Host.Outcome State Fault Refusal :=
  .next (
    let h := (s.wedge.get n).home
    if h.st == .settle && decide (4 ≤ h.settleF) then
      (s.updWedge n (fun w => { w with home := { w.home with st := .realign } })).homeProfile n h.xref
    else s)

/-- Travel or a Ledge limit ends the approach (Table WEDGE-4). -/
def State.homeLimit (s : State) (n : Fin 4) : Bool :=
  let h := (s.wedge.get n).home
  let m := s.motion.get n
  decide (h.maxTravel ≤ (m.p - h.startP).natAbs) ||
    (if h.positive then decide (s.axI n 0x47 ≤ m.p) else decide (m.p ≤ s.axI n 0x46)) ||
    (m.ledge.isSome && (s.xva n (s.frame.tickBase : Rat)).2.2.2)

/-- One boundary of HOME_FACE (Table WEDGE-4). -/
def State.homeBoundary (s : State) (n : Fin 4) : State :=
  let h := (s.wedge.get n).home
  match h.st with
  | .none => s
  | .ramp | .armed =>
    if s.homeLimit n then
      ((s.rampToRest n (s.ax n 0x43)).endCmd n 6 0x0143).note 0x0143 n.val (axBits n) false
    else s
  | .contact =>
    if 448 < h.lead then
      ((s.endCmd n 6 0x0144).updWedge n (fun w => { w with home := { h with st := .held } })).note 0x0144 n.val (axBits n) false
    else s.updWedge n (fun w => { w with home := { w.home with st := .settle, settleF := 0 } })
  | .settle => s.updWedge n (fun w => { w with home := { w.home with settleF := w.home.settleF + 1 } })
  | .realign =>
    if s.profileOver n then
      let shift := h.homePos - h.xref
      let s := s.updMotion n (fun m => { (m.toIdle.putPos (m.p + shift)) with posState := .referenced, kept := true, cmd := m.cmd })
      let s := s.confirmIndex n
      let s := s.updWedge n (fun w => { w with home := { w.home with st := .backoff, shift := shift } })
      s.homeProfile n (h.homePos - (if h.positive then 1 else -1) * (h.backoff : Int))
    else s
  | .held => s.updWedge n (fun w => { w with home := { w.home with st := .none } })
  | .backoff => if s.profileOver n then (s.endCmd n 1 0).updMotion n MotionSt.toIdle else s

/-! ### WEDGE_LEARN, WEDGE_STATUS -/

def wedgeLearnSpec : CmdSpec where
  op := 0x0141
  start := fun s h =>
    let n := s.axisOf h
    let s := s.updWedge n WedgeSt.discard
    let s := if s.axOff n then s.learnBoundary n else s
    let s : State := { s with ret := { s.ret with wedge := s.ret.wedge.set n none } }
    (s.ev 0x0142 3).doneWith h []

def execWedgeLearn (h : Fin 32) (s : State) : Host.Outcome State Fault Refusal := .next (takeRow wedgeLearnSpec h s)

def LearnState.code : LearnState → Nat
  | .learning => 0
  | .check => 1
  | .learned => 2

def State.wedgeStatus (s : State) (n : Fin 4) : List Byte :=
  let w := s.wedge.get n
  b8 (s.axv n 0x60) ++ b8 w.learn.code ++ b8 (s.stallCode n) ++ b8 (min 255 w.learnN) ++ le16 w.iw
    ++ (match w.delta with | some d => leS16 (ratRound (d * 10)) | none => le16 0x7FFF) ++ le16 (satU 16 w.mag) ++ le16 (satU 16 w.ke)
    ++ b8 (min 255 w.cntAngle) ++ b8 (min 255 w.cntColl) ++ le16 w.both ++ le32 w.valid ++ le16 w.invalid ++ b8 w.source ++ [0]

def wedgeStatusSpec : CmdSpec where
  op := 0x0142
  start := fun s h => s.doneWith h (s.wedgeStatus (s.axisOf h))

def execWedgeStatus (h : Fin 32) (s : State) : Host.Outcome State Fault Refusal := .next (takeRow wedgeStatusSpec h s)

end Sys2Proof.Machine
end

