-- ==== Sys2Proof/Machine/Compare.lean ====
section
/-! DEFINITION. Compare units, AUXn, divided outputs (13). -/

namespace Sys2Proof.Machine

/-! ### Compare units (R392 to R397) -/

/-- Value of a parameter of compare unit u of channel n (Table CMP-6). -/
def State.cp (s : State) (n : Fin 4) (u : Fin 2) (i : Nat) : Nat := s.fbp n (0x40 + 0x10 * u.val + i)
def State.cpI (s : State) (n : Fin 4) (u : Fin 2) (i : Nat) : Int := s.fbpI n (0x40 + 0x10 * u.val + i)

def State.cmpUnit (s : State) (n : Fin 4) (u : Fin 2) : CmpSt := (s.cmp.get n).get u
def State.updCmp (s : State) (n : Fin 4) (u : Fin 2) (f : CmpSt → CmpSt) : State :=
  { s with cmp := s.cmp.upd n (fun d => d.upd u f) }

/-- Present value of the source of a unit: counter or axis position. -/
def State.cmpSource (s : State) (n : Fin 4) (u : Fin 2) : Int :=
  if s.cp n u 0 = 2 then (s.motion.get n).p else (s.channels.get n).count

/-- ⌈V⌉ in the positive direction, ⌊V⌋ in the negative, V in 1/256 count. -/
def passValue (neg : Bool) (v : Int) : Int := if neg then v / 256 else -((-v) / 256)

/-- Number of compare values at or behind source value `x` (R394, R396). -/
def passed (neg : Bool) (v x : Int) (sp : Nat) : Nat :=
  let d := if neg then v - 256 * x else 256 * x - v
  if d < 0 then 0 else d.toNat / max 1 sp + 1

def advance (neg : Bool) (v : Int) (k sp : Nat) : Int := if neg then v - (k * sp : Nat) else v + (k * sp : Nat)

/-- The integer part of V is a signed 32-bit number. -/
def vFits (v : Int) : Bool := decide (-2147483648 ≤ v / 256 ∧ v / 256 ≤ 2147483647)

/-! ### AUXn (R398 to R400) -/

/-- A unit drives AUXn. -/
def State.cmpDrives (s : State) (n : Fin 4) (u : Fin 2) : Bool := s.unitOn n.val && s.cp n u 0 != 0 && s.cp n u 3 != 0

/-- Level that AUXn is driven to. -/
def State.auxLevel (s : State) (n : Fin 4) : Bool :=
  if !s.unitOn n.val || s.pinModeV n || !s.domReady .fbk then false
  else
    let l := both2.filter (fun u => s.cmpDrives n u)
    match l with
    | [] => s.fbp n 0x60 == 1
    | u :: _ =>
      let active := l.any (fun u => (s.cmpUnit n u).pulse)
      match s.cp n u 3 with
      | 1 => active
      | 2 => !active
      | _ => (s.cmpUnit n u).toggle

def State.driveAux (s : State) (n : Fin 4) : State := { s with pins := { s.pins with aux := s.pins.aux.set n (s.auxLevel n) } }

/-- First merged hit of the superframe (EV-0x0224). -/
def State.cmpMerged (s : State) (n : Fin 4) (u : Fin 2) (k : Nat) : State :=
  if k = 0 then s
  else
    let seen := (s.cmpUnit n u).mergeSeen || (s.cmpUnit n (1 - u)).mergeSeen
    let t := s.updCmp n u (fun x => { x with merged := min 0xFFFF (x.merged + k), mergeSeen := true })
    if seen then t else t.evFree 0x0224

/-- One output event of a unit (R398). -/
def State.cmpEvent (s : State) (n : Fin 4) (u : Fin 2) : State :=
  match s.cp n u 3 with
  | 0 => s
  | 3 => (s.updCmp n u (fun x => { x with toggle := !x.toggle })).driveAux n
  | _ =>
    if (s.cmpUnit n u).pulse then s.cmpMerged n u 1
    else (s.updCmp n u (fun x => { x with pulse := true })).driveAux n

/-- The source of a unit counted to `x` (R394, R395). -/
def State.cmpCountUnit (s : State) (n : Fin 4) (u : Fin 2) (old x : Int) : State :=
  let c := s.cmpUnit n u
  let neg := s.cp n u 1 == 1
  let sp := s.cp n u 2
  if c.st != .armed || (if neg then decide (old ≤ x) else decide (x ≤ old)) then s
  else
    let k := passed neg c.v x sp
    if k = 0 then s
    else
      let lo := s.cpI n u 5
      let hi := s.cpI n u 6
      let limit := s.cp n u 7
      -- value by value: in-window hits, suppressed ones, and where V stands
      let r := (List.range k).foldl (fun (a : Nat × Nat × Int × Option Nat) _ =>
        match a.2.2.2 with
        | some _ => a
        | none =>
          let pv := passValue neg a.2.2.1
          let inWin := decide (lo ≤ pv) && decide (pv ≤ hi)
          let h := if inWin then a.1 + 1 else a.1
          let sup := if inWin then a.2.1 else a.2.1 + 1
          let v := advance neg a.2.2.1 1 sp
          if !vFits v then (h, sup, a.2.2.1, some 1)
          else if inWin && limit != 0 && decide (limit ≤ c.hits + h) then (h, sup, v, some 0)
          else (h, sup, v, none)) (0, 0, c.v, none)
      let t := s.updCmp n u (fun x =>
        { x with
          v := r.2.2.1
          hits := (x.hits + r.1) % 4294967296
          supp := min 0xFFFF (x.supp + r.2.1)
          st := if r.2.2.2.isSome then .done else .armed })
      let t := if 0 < r.1 then (t.cmpEvent n u).cmpMerged n u (r.1 - 1) else t
      match r.2.2.2 with | some q => t.noteEv 0x0222 q | none => t

/-- The skip rule (R396). -/
def State.cmpSkip (s : State) (n : Fin 4) (u : Fin 2) : State :=
  let c := s.cmpUnit n u
  let neg := s.cp n u 1 == 1
  let sp := s.cp n u 2
  if c.st != .armed then s
  else
    let k := passed neg c.v (s.cmpSource n u) sp
    if k = 0 then s
    else
      -- the advances that keep the integer part within s32
      let room := (if neg then (c.v + 549755813888) / (max 1 sp : Nat) else (549755813887 - c.v) / (max 1 sp : Nat)).toNat
      let j := min k room
      let t := s.updCmp n u (fun x =>
        { x with skips := (x.skips + j) % 4294967296, v := advance neg c.v j sp, st := if j < k then .done else x.st })
      let t := if 0 < j then t.noteEv 0x0223 (2 * n.val + u.val) else t
      if j < k then t.noteEv 0x0222 1 else t

/-- A source (1 counter, 2 position) of channel `n` counted from `old` to `x`. -/
def State.cmpCount (s : State) (n : Fin 4) (src : Nat) (old x : Int) : State :=
  if !s.unitOn n.val then s
  else both2.foldl (fun t u => if t.cp n u 0 = src then t.cmpCountUnit n u old x else t) s

/-- A source jumped by `d` (R397). DESIGN CHOICE (log entry 32): a jump that would carry V outside s32 leaves it. -/
def State.cmpJump (s : State) (n : Fin 4) (src : Nat) (d : Int) : State :=
  if !s.unitOn n.val then s
  else both2.foldl (fun t u =>
    if t.cp n u 0 = src then
      (if t.cp n u 8 = 1 then
        (if (t.cmpUnit n u).st != .off && vFits ((t.cmpUnit n u).v + 256 * d) then
          t.updCmp n u (fun x => { x with v := x.v + 256 * d }) else t)
       else t.cmpSkip n u)
    else t) s

/-- COMPARE_PULSE_END, `us` after the unit's output event: the pulse has lasted fbn.cmpu.width (R398). -/
def execComparePulseEnd (n : Fin 4) (u : Fin 2) (us : Nat) (s : State) : Host.Outcome State Fault Refusal :=
  .next (if (s.cmpUnit n u).pulse && decide (s.cp n u 4 ≤ us) then (s.updCmp n u (fun x => { x with pulse := false })).driveAux n else s)

/-- FBn is enabled: counters cleared, active units IDLE (Table CMP-1). -/
def State.cmpEnable (s : State) (n : Fin 4) : State :=
  (both2.foldl (fun t u => t.updCmp n u (fun _ => { st := if t.cp n u 0 = 0 then .off else .idle, toggle := t.fbp n 0x60 == 1 })) s).driveAux n

/-- FBn is disabled: counters kept, waiting CMP_ARM commands cancelled. -/
def State.cmpDisable (s : State) (n : Fin 4) : State :=
  (both2.foldl (fun t u =>
    let l := (t.cmpUnit n u).arms
    let t := t.updCmp n u (fun x => { x with st := .off, pulse := false, arms := [] })
    l.foldl (fun t a => if t.stage a.1 == .started then t.finish a.1 2 0xFFFF [] else t) t) s).driveAux n

/-! ### CMP_ARM, CMP_STATUS -/

def State.cmpNo (s : State) (h : Nat) : Fin 4 × Fin 2 := (Fin.ofNat 4 (s.p8 h 0), Fin.ofNat 2 (s.p8 h 1))

def State.cmpFindings (s : State) (h : Nat) : List Finding :=
  let x := s.cmpNo h
  fnd ((s.cmpUnit x.1 x.2).st == .off) 1 0x022B (2 * x.1.val + x.2.val)

def cmpArmSpec : CmdSpec where
  op := 0x0222
  need := 8
  engine := true
  field := fun s h => if 3 < s.p8 h 0 then some 16 else if 1 < s.p8 h 1 then some 17 else if 3 < s.p8 h 2 then some 18 else none
  judge := fun s h => some (s.cfg, s.cmpFindings h)
  own := fun s h => s.findingReply (s.cmpFindings h)
  start := fun s h =>
    let x := s.cmpNo h
    s.updCmp x.1 x.2 (fun c => { c with arms := c.arms ++
      [(h, bit (s.p8 h 2) 0, bit (s.p8 h 2) 1, 256 * s.pS32 h 4 + (s.p8 h 3 : Int))] })

def execCmpArm (h : Fin 32) (s : State) : Host.Outcome State Fault Refusal := .next (takeRow cmpArmSpec h s)

/-- The CMP_ARM commands of a unit act at the boundary (R396). -/
def State.cmpBoundary (s : State) (n : Fin 4) (u : Fin 2) : State :=
  let l := (s.cmpUnit n u).arms
  let s := s.updCmp n u (fun x => { x with arms := [] })
  l.foldl (fun t a =>
    let t := if a.2.2.1 then t.updCmp n u (fun x => { x with hits := 0, merged := 0, supp := 0, skips := 0 }) else t
    let t :=
      if a.2.1 then t.updCmp n u (fun x => { x with st := .idle })
      else (t.updCmp n u (fun x => { x with st := .armed, v := a.2.2.2, toggle := t.fbp n 0x60 == 1 })).cmpSkip n u
    let t := t.driveAux n
    let v := (t.cmpUnit n u).v
    if t.stage a.1 == .started then
      t.doneWith a.1 (if a.2.1 then List.replicate 8 0 else leS32 (v / 256) ++ b8 (v % 256).toNat ++ [0, 0, 0])
    else t) s

def CmpState.code : CmpState → Nat
  | .off => 0
  | .idle => 1
  | .armed => 2
  | .done => 3

def State.cmpRecord (s : State) (n : Fin 4) (u : Fin 2) : List Byte :=
  let c := s.cmpUnit n u
  b8 c.st.code ++ b8 (b01 (s.auxLevel n) + 2 * b01 c.pulse) ++ b8 (c.v % 256).toNat ++ [0] ++ leS32 (c.v / 256)
    ++ le32 c.hits ++ le16 c.merged ++ le16 c.supp ++ le32 c.skips

def cmpStatusSpec : CmdSpec where
  op := 0x0223
  need := 4
  field := fun s h => if 3 < s.p8 h 0 then some 16 else if s.p8 h 1 ≠ 0 then some 17 else if s.p8 h 2 ≠ 0 then some 18
    else if s.p8 h 3 ≠ 0 then some 19 else none
  start := fun s h =>
    let n : Fin 4 := Fin.ofNat 4 (s.p8 h 0)
    s.doneWith h (s.cmpRecord n 0 ++ s.cmpRecord n 1)

def execCmpStatus (h : Fin 32) (s : State) : Host.Outcome State Fault Refusal := .next (takeRow cmpStatusSpec h s)

/-! ### Divided outputs (R401 to R403) -/

def divPar (d : Fin 2) (i : Nat) : Nat := 0x2440 + 8 * d.val + i

def State.updDiv (s : State) (d : Fin 2) (f : DivSt → DivSt) : State := { s with divo := s.divo.upd d f }

/-- Drive the pin: idle level by sp.divd.pol, inverted while active; without FBX it stands under its pull-down (Table PIN-4). -/
def State.driveDiv (s : State) (d : Fin 2) : State :=
  let lvl := s.unitOn 4 && s.domReady .fbk && ((s.divo.get d).active != (s.par (divPar d 5) == 1))
  { s with pins := { s.pins with divo := s.pins.divo.set d lvl } }

/-- Emit an output event: the pulse begins, or the level inverts (R403). -/
def State.divEmit (s : State) (d : Fin 2) : State :=
  (s.updDiv d (fun x => { x with active := if s.par (divPar d 3) = 1 then !x.active else true, busy := true })).driveDiv d

/-- One output event falls due. -/
def State.divEvent (s : State) (d : Fin 2) : State :=
  let x := s.divo.get d
  if !x.busy then s.divEmit d
  else if 65535 ≤ x.backlog then
    (s.updDiv d (fun x => { x with lost := min 0xFFFF (x.lost + 1) })).note 0x0221 d.val 0 false
  else
    let t := s.updDiv d (fun x => { x with backlog := x.backlog + 1, seen := true })
    if x.seen then t else t.evFree 0x0225

/-- `m` input counts of source `src` (R401, R402). -/
def State.divCount (s : State) (src m : Nat) : State :=
  if !s.unitOn 4 ∨ src = 0 then s
  else both2.foldl (fun t d =>
    if t.par (divPar d 0) = src then
      let num := t.par (divPar d 1)
      let den := max 1 (t.par (divPar d 2))
      let a := (t.divo.get d).acc + m * num
      (List.range (a / den)).foldl (fun t _ => t.divEvent d) (t.updDiv d (fun x => { x with acc := a % den }))
    else t) s

/-- DIVIDED_OUTPUT_WIDTH_END, `gone` times 10 ns after the output's last edge: the active or the idle width is over (R403). -/
def execDividedOutputWidthEnd (d : Fin 2) (gone : Nat) (s : State) : Host.Outcome State Fault Refusal :=
  .next (
    let x := s.divo.get d
    if !x.busy || decide (gone < s.par (divPar d 4)) then s
    else if s.par (divPar d 3) ≠ 1 ∧ x.active then (s.updDiv d (fun x => { x with active := false })).driveDiv d
    else if 0 < x.backlog then (s.updDiv d (fun x => { x with backlog := x.backlog - 1 })).divEmit d
    else s.updDiv d (fun x => { x with busy := false }))

/-- FBX is enabled or disabled: the dividers start from 0, outputs idle. -/
def State.divReset (s : State) : State := both2.foldl (fun t d => (t.updDiv d (fun _ => {})).driveDiv d) s

end Sys2Proof.Machine
end

