-- ==== Sys2Proof/Machine/Feedback.lean ====
section
/-! DEFINITION. Feedback channels: decoding, counter, speed, capture, reference, position error (12). -/

namespace Sys2Proof.Machine

/-- Rounded to the nearest integer, halves away from zero. -/
def ratNear (v : Rat) : Int := if v < 0 then -ratRound (-v) else ratRound v

def State.chan (s : State) (n : Fin 4) : ChannelSt := s.channels.get n

/-- Mode in use: 0 while the unit is disabled (Table FBK-1). -/
def State.fbMode (s : State) (n : Fin 4) : Nat := if s.unitOn n.val then s.fbp n 0 else 0

/-- Axes that a fault of channel `n` names (R586). -/
def State.chanAxes (s : State) (n : Fin 4) : BitVec 4 := if s.fbp n 5 = 1 then axBits n else 0

/-- A fault of the channel, raised at the next boundary. -/
def State.chanNote (s : State) (n : Fin 4) (code qual : Nat) (cond : Bool) : State := s.note code qual (s.chanAxes n) cond

/-- The same, with its cause noted on the channel. -/
def State.chanCause (s : State) (n : Fin 4) (code : Nat) : State :=
  (s.chanNote n code n.val true).updChan n (fun c => { c with causes := code :: c.causes.filter (· != code) })

/-- The cause of a fault ends on the channel; the fault's condition with the last channel that has it. -/
def State.chanEnd (s : State) (n : Fin 4) (code : Nat) : State :=
  if (s.chan n).causes.contains code then
    let t := s.updChan n (fun c => { c with causes := c.causes.filter (· != code) })
    if t.channels.toList.any (fun c => c.causes.contains code) then t else t.condEnd code
  else s

/-- The counter stands on a Ledge limit (R377, R389). -/
def State.onLimit (s : State) (n : Fin 4) : Bool := (s.chan n).count == s.fbpI n 0x08 || (s.chan n).count == s.fbpI n 0x09

/-- The channel becomes UNREFERENCED (R386). -/
def State.unref (s : State) (n : Fin 4) : State := s.updChan n (fun c => { c with ref := false })

/-- An event without a stated qualifier, raised at the next boundary (log entry 15). -/
def State.noteEvFree (s : State) (code : Nat) : State := let x := s.fresh; x.2.noteEv code (x.1 % 65536)

/-- Reading of the free-running 32-bit counter of 10 ns ticks at tick `T` (R365). -/
def stampOf (T : Nat) : Nat := T / 2 % 4294967296

/-- Interval from stamp `t` to stamp `T`, modulo 2³² (R365). -/
def stampGap (t T : Nat) : Nat := (T + 4294967296 - t % 4294967296) % 4294967296

/-- Stamp of an edge that takes effect `off` ticks after the boundary: the counter less the fixed delay (R365). -/
def State.stampAt (s : State) (n : Fin 4) (off : Nat) : Nat := stampGap (s.fbp n 2 + s.fbp n 3) (stampOf (s.tickAt off))

/-! ### Reference events (R386, R387) -/

/-- A reference event, or a check event of a REFERENCED channel, with the axis position `p` latched in the same tick. -/
def State.refEvent (s : State) (n : Fin 4) (isRef : Bool) (p : Int) : State :=
  let keep := isRef || (s.chan n).ref
  let s := s.updChan n (fun c => { c with events := if keep then c.events ++ [(c.count, p, isRef)] else c.events, ref := c.ref || isRef })
  if isRef then s.noteEvFree 0x0201 else s

/-- The axis position of the channel's axis moves by `d` without motion: what was latched moves with it (R387, R389). -/
def ChannelSt.rebase (c : ChannelSt) (d : Int) : ChannelSt :=
  { c with ssiAt := c.ssiAt.map (fun x => (x.1, x.2 + d)), events := c.events.map (fun e => (e.1, e.2.1 + d, e.2.2)),
           pLatch := c.pLatch + d, alignDue := true }

/-- The position of axis `n` was moved by `d` by assignment: its compare units, its channel and the positions latched with the reads of
the sensor port follow (R387, R389, R397). -/
def State.rebaseAxis (s : State) (n : Fin 4) (d : Int) : State :=
  let s := (s.cmpJump n 2 d).updChan n (fun c => c.rebase d)
  let move (x : Bool × Nat × Nat × List Int) : Bool × Nat × Nat × List Int := (x.1, x.2.1, x.2.2.1, updAt x.2.2.2 n.val (fun p => p + d))
  { s with sensor := { s.sensor with slots := s.sensor.slots.map (fun x => { x with fresh := x.fresh.map move, latched := x.latched.map move }) } }

/-- The counter is set by assignment: the counts since the last index event are none of the jump (R368, R377, R397). -/
def State.assignCount (s : State) (n : Fin 4) (v : Int) : State :=
  let old := (s.chan n).count
  let due := s.onLimit n
  (s.updChan n (fun c =>
    { c with count := v, idxCount := c.idxCount + (v - old), onLedge := none, alignDue := c.alignDue || due })).cmpJump n 1 (v - old)

/-! ### Counting (R377, R383) -/

/-- Count `d` (R377). -/
def State.chanCount (s : State) (n : Fin 4) (d : Int) : State :=
  if d = 0 then s
  else
    let c := s.chan n
    let lo := s.fbpI n 0x08
    let hi := s.fbpI n 0x09
    let v := clampI (min lo c.count) (max hi c.count) (c.count + d)
    let lost := (c.count + d - v).natAbs
    let side := if 0 < d then 1 else 0
    let due := s.onLimit n && v != c.count
    let s := s.updChan n (fun c =>
      { c with
        count := v
        travel := c.travel + v - c.count
        discards := min 0xFFFF (c.discards + lost)
        alignDue := c.alignDue || due
        onLedge := if 0 < lost then some (decide (0 < d)) else none })
    -- the first discard of a stay on this limit
    let s := if 0 < lost ∧ c.onLedge ≠ some (decide (0 < d)) then (s.unref n).ev 0x0202 side else s
    if v = c.count then s else (s.cmpCount n 1 c.count v).divCount (0x10 + n.val) (v - c.count).natAbs

/-- A reversal stamped `T` (R383): the timing is emptied. -/
def State.reversal (s : State) (n : Fin 4) (neg event : Bool) (T : Nat) : State :=
  let c := s.chan n
  let s := s.updChan n (fun c =>
    { c with
      dirNeg := neg
      timeFrom := T
      revs := min 0xFFFF (c.revs + 1)
      lastEdge := none
      lastInt := none
      spdInt := none
      prevInt := none
      regular := false
      spd := match c.spd with | .valid | .starting => .starting | x => x
      speed := match c.spd with | .valid | .starting => 0 | _ => c.speed
      revSeen := c.revSeen || event })
  if event ∧ !c.revSeen then s.evFree 0x0203 else s

/-- Direction of a count in quadrature and Hall modes. -/
def State.countDir (s : State) (n : Fin 4) (d : Int) (T : Nat) : State :=
  let c := s.chan n
  let neg := decide (d < 0)
  let s := if c.counted && c.dirNeg != neg then s.reversal n neg true T else s
  s.updChan n (fun c => { c with counted := true, dirNeg := neg })

/-! ### Speed (R378 to R384) -/

/-- A qualified edge of weight `w` with stamp `T` (R379, R382), entered into the gate (R380). -/
def State.speedEdge (s : State) (n : Fin 4) (w T : Nat) : State :=
  let c := s.chan n
  let sg : Int := if c.dirNeg then -1 else 1
  let dt := c.lastEdge.map (fun t => stampGap t T)
  let v : Rat := match dt with | some d => if d = 0 then 0 else (sg * (w : Int) : Int) * 100000000 / (d : Rat) | none => 0
  let per := !c.countMode
  s.updChan n (fun c =>
    { c with
      lastEdge := some T
      timeFrom := T
      lastInt := dt
      spdInt := dt
      lastW := sg * (w : Int)
      spd := match c.spd, dt with
        | .invalid, some _ => .valid
        | .invalid, none => .invalid
        | .valid, _ => .valid
        | .still, _ => .starting
        | .starting, some _ => .valid
        | .starting, none => .starting
      speed := match c.spd, dt with
        | .still, _ => 0
        | .valid, _ => if per then v else c.speed
        | _, some _ => v
        | _, none => 0
      gateN := c.gateN + 1
      gateT1 := if c.gateN = 0 then T else c.gateT1
      gateTn := T
      gateW := if c.gateN = 0 then 0 else c.gateW + sg * (w : Int) })

/-- Speed as reported when the counter of R365 reads `now`, counts/s: in period mode w / Δt of the last two qualified edges, w / t_e once
that is longer (R379, R382). -/
def State.chanSpeed (s : State) (n : Fin 4) (now : Nat) : Rat :=
  let c := s.chan n
  if c.spd ≠ .valid then 0
  else if c.countMode then c.speed
  else match c.lastEdge, c.spdInt with
    | some t, some d => (c.lastW * 100000000 : Int) / ((max d (stampGap t now) : Nat) : Rat)
    | _, _ => c.speed

/-- SPEED_TIMEOUT, `off` ticks after the boundary: no qualified edge for fbn.spd.tmo (R382). -/
def execSpeedTimeout (n : Fin 4) (off : Nat) (s : State) : Host.Outcome State Fault Refusal :=
  .next (
    let c := s.chan n
    let old := decide (5000 * s.fbp n 0x1A ≤ stampGap c.timeFrom (stampOf (s.tickAt off)))
    if s.fbMode n ≠ 0 ∧ (c.spd = .valid ∨ c.spd = .starting) ∧ old = true then
      s.updChan n (fun c => { c with spd := .still, speed := 0 })
    else s)

/-- SPEED_GATE_END (R380, R381). -/
def execSpeedGateEnd (n : Fin 4) (s : State) : Host.Outcome State Fault Refusal :=
  .next (
    let c := s.chan n
    let m := s.fbMode n
    if m = 0 ∨ c.gateF < s.fbp n 0x19 then s
    else
      let len := stampGap c.gateT1 c.gateTn
      let full := decide (2 ≤ c.gateN) && decide (0 < len)
      let gv : Rat := if full then (c.gateW : Rat) * 100000000 / (len : Rat) else c.speed
      let mag (v : Rat) : Rat := ratAbs v
      let vx : Rat := (s.fbp n 0x18 : Nat)
      let next : Bool :=
        if m = 5 then true
        else if c.countMode then full && !decide (mag gv < vx * 7 / 8)
        else decide (vx < mag (s.chanSpeed n (stampOf s.frame.tickBase)))
      let s := s.updChan n (fun c =>
        { c with
          speed := if c.countMode then gv else c.speed
          countMode := next
          gateN := 0
          gateW := 0
          gateF := 0 })
      s.evIf (next != c.countMode) 0x0204 (b01 next))

/-! ### Illegal transitions, index and Hall (R367 to R369) -/

/-- An illegal transition (R367). -/
def State.illegal (s : State) (n : Fin 4) : State :=
  let c := s.chan n
  let s := s.updChan n (fun c =>
    { c with illFlag := true, ill := min 0xFFFF (c.ill + 1), illSf := c.illSf + 1, illSeen := true })
  let s := if c.illSeen then s else s.evFree 0x0207
  if c.illSf + 1 = s.fbp n 0x10 then (s.unref n).chanNote n 0x0201 n.val false else s

/-- Step of Table FBK-2 for previous and next levels A, B; none when illegal. -/
def quadStep (pa pb a b : Bool) : Option Int :=
  match pa, pb, a, b with
  | false, false, true, false => some 1
  | true, false, true, true => some 1
  | true, true, false, true => some 1
  | false, true, false, false => some 1
  | false, false, false, true => some (-1)
  | false, true, true, true => some (-1)
  | true, true, true, false => some (-1)
  | true, false, false, false => some (-1)
  | _, _, _, _ => if pa = a ∧ pb = b then some 0 else none

/-- Missing index (R368). -/
def State.indexMissing (s : State) (n : Fin 4) : State :=
  let c := s.chan n
  let cpr := s.fbp n 0x0F
  if s.fbMode n = 1 ∧ cpr ≠ 0 ∧ 2 * cpr < c.travel.natAbs then
    let s := (s.updChan n (fun c => { c with travel := 0 })).chanCause n 0x0204
    if s.fbp n 0x0A = 1 then s.unref n else s
  else s

/-- An index event (R368). -/
def State.indexEvent (s : State) (n : Fin 4) : State :=
  let c := s.chan n
  let cpr : Int := s.fbp n 0x0F
  let first := s.fbp n 0x0A = 1 ∧ !c.idxSeen
  let p := (s.motion.get n).p
  let s := s.chanEnd n 0x0204
  let s :=
    if first then (s.assignCount n (s.fbpI n 0x0B)).refEvent n true p
    else
      let d := c.count - c.idxCount
      let want := if c.dirNeg then -cpr else cpr
      let s := if cpr ≠ 0 ∧ c.idxSeen ∧ c.idxNeg = c.dirNeg ∧ d ≠ want then s.chanNote n 0x0203 (enc 16 (satS 16 (d - want))) false else s
      s.refEvent n false p
  s.updChan n (fun c => { c with idxSeen := true, idxNeg := c.dirNeg, idxCount := c.count, travel := 0 })

/-- Position of a Hall code in the positive sequence; none for 0b000 and 0b111 (R369). -/
def hallPos (code : Nat) : Option Nat :=
  match code with | 1 => some 0 | 3 => some 1 | 2 => some 2 | 6 => some 3 | 4 => some 4 | 5 => some 5 | _ => none

def State.hallEdge (s : State) (n : Fin 4) (code T : Nat) : State :=
  let c := s.chan n
  match hallPos code with
  | none => s
  | some q =>
    let s := (s.updChan n (fun c => { c with hall := code })).chanEnd n 0x0202
    match hallPos c.hall with
    | none => s
    | some p =>
      let d := (q + 6 - p) % 6
      let inv := s.fbp n 4 == 1
      if d = 0 then s
      else if d = 1 ∨ d = 5 then
        let k : Int := if (d = 1) != inv then 1 else -1
        ((s.countDir n k T).chanCount n k).speedEdge n 1 T
      else s.illegal n

/-- HALL_INVALID_TIMEOUT: code 0b000 or 0b111 has stood for `us` (R369). -/
def execHallInvalidTimeout (n : Fin 4) (us : Nat) (s : State) : Host.Outcome State Fault Refusal :=
  .next (
    let c := s.chan n
    if s.fbMode n = 2 ∧ c.lvA = c.lvB ∧ c.lvB = c.lvZ ∧ s.fbp n 0x11 ≤ us ∧ !c.causes.contains 0x0202 then s.chanCause n 0x0202 else s)

/-! ### Tooth wheel (R371 to R374) -/

def State.toothG (s : State) (n : Fin 4) : Nat := let r := s.fbp n 0x13; if r = 4 then 0 else r

/-- A ratio of two intervals lies within `k` (1 ± tol), `k` in halves. -/
def State.ratioNear (s : State) (n : Fin 4) (a b half : Nat) : Bool :=
  let tol := s.fbp n 0x14
  decide (half * (100 - tol) * b ≤ 200 * a) && decide (200 * a ≤ half * (100 + tol) * b)

/-- Position in the wheel while REFERENCED. -/
def State.toothPos (s : State) (n : Fin 4) : Nat :=
  (((s.chan n).count - s.fbpI n 0x0B) % (s.fbp n 0x12 : Int)).toNat

/-- A tooth with stamp `T` in direction `neg`. -/
def State.tooth (s : State) (n : Fin 4) (neg : Bool) (T : Nat) : State :=
  let c0 := s.chan n
  let s := if c0.counted && c0.dirNeg != neg then s.reversal n neg false T else s
  let s := s.updChan n (fun c => { c with counted := true, dirNeg := neg })
  let c := s.chan n
  let g := s.toothG n
  let N := s.fbp n 0x12
  let sg : Int := if neg then -1 else 1
  let was := c.spd
  let tk := c.lastEdge.map (fun t => stampGap t T)
  let prev := if c.regular then c.lastInt else none
  let value := s.fbpI n 0x0B
  let pos := s.toothPos n
  -- mark of a gap at this tooth; mark of an extra tooth found at the tooth after it
  let isGap := s.fbp n 0x13 != 0 && s.fbp n 0x13 != 4
  let isExtra := s.fbp n 0x13 == 4
  let testable := if isExtra then c.prevInt.isSome else prev.isSome
  let found :=
    if isGap then (match prev, tk with | some a, some b => s.ratioNear n b a (2 * (g + 1)) | _, _ => false)
    else if isExtra then
      (match c.prevInt, c.lastInt, tk with | some a, some b, some d => s.ratioNear n b a 1 && s.ratioNear n d a 1 | _, _, _ => false)
    else false
  let predicted := c.ref &&
    (if isGap then (if neg then pos == 0 else pos == N - g - 1)
     else if isExtra then !c.extra && (if neg then pos == N - 1 else pos == 0)
     else false)
  -- a gap counts by prediction and by recognition, an extra tooth is withdrawn at its recognition (R372 to R374)
  let mark := found || (predicted && !(isExtra && testable))
  -- the first mark since the enable is the reference event of a channel whose source it is, FB_SET_COUNT or not; every later one is checked
  let first := s.fbp n 0x0A == 2 && !c.idxSeen
  let bad := c.ref && !first && testable && predicted != found
  -- counting
  let s := if isExtra ∧ mark then
      -- the count of the extra tooth is withdrawn, and its edge from the timing
      (s.chanCount n (-sg)).updChan n (fun c =>
        { c with lastEdge := match c.lastEdge, c.lastInt with | some t, some d => some (stampGap d t) | x, _ => x
                 gateN := c.gateN - 1, gateW := c.gateW - sg })
    else s
  let s := s.chanCount n (if isGap ∧ mark then sg * (g + 1 : Nat) else sg)
  let s := s.speedEdge n (if isGap ∧ mark then g + 1 else 1) T
  let reg := !mark && c.notReg == 0 && tk.isSome && was != .starting && was != .still
  let s := s.updChan n (fun x =>
    { x with
      lastInt := tk
      regular := reg
      prevInt := prev
      notReg := if mark then 1 else c.notReg - 1
      extra := isExtra && mark })
  -- reference and checks; after FT-0x0205 the reference returns at the next clean mark
  let p := (s.motion.get n).p
  if first then
    (if found then
      let back : Int := if isGap then (g + 1 : Nat) else 1
      (((s.assignCount n (if neg then value - back else value)).refEvent n true p).updChan n (fun c => { c with idxSeen := true }))
     else s)
  else if c.ref then
    (if bad then ((s.unref n).updChan n (fun c => { c with idxSeen := false })).chanNote n 0x0205 n.val false
     else if mark then s.refEvent n false p else s)
  else s

/-! ### Capture (R385) -/

def State.capture (s : State) (n : Fin 4) (rising : Bool) (off : Nat) : State :=
  let k := s.fbp n 0x1B
  let c := s.chan n
  if (k = 3 ∨ (k = 1 ∧ rising) ∨ (k = 2 ∧ !rising)) ∧ s.fbpI n 0x1C ≤ c.count ∧ c.count ≤ s.fbpI n 0x1D then
    let d : Int := (off / 2 : Nat) - ((s.fbp n 2 + s.fbp n 3 : Nat) : Int)
    let len : Int := 5000 + s.frame.trim / 2
    s.updChan n (fun c =>
      { c with
        capCount := c.count
        capFrame := if 0 ≤ d then s.frame.counter else s.frame.counter - 1
        capTick := if 0 ≤ d then d.toNat else (len + d).toNat
        caps := min 0xFFFF (c.caps + 1) })
  else s

/-! ### FEEDBACK_EDGE -/

/-- Level held by more than half of the last `f` samples; a tie keeps the level before (R363). -/
def majority (f : Nat) (l : List Bool) (was : Bool) : Bool :=
  let k := ((fit f was l.reverse).filter id).length
  if f < 2 * k then true else if 2 * k < f then false else was

/-- Pins FA, FB, FZ, FX that a channel's mode uses (Table FBK-1). -/
def State.usesLine (s : State) (n k : Fin 4) : Bool :=
  match s.fbMode n with
  | 0 => false
  | 1 | 2 => true
  | 3 => k != 2
  | 4 => k == 0 || k == 3 || (k == 1 && s.fbp n 0x15 == 1)
  | _ => k == 3

/-- Accepted level of a line that stood at `was`, and whether a level was discarded: a filtered edge counts only when its level holds
for fbn.edge_min (R363, R364). -/
def State.lineLevel (s : State) (n k : Fin 4) (was : Bool) (i : Option LineIn) : Bool × Bool :=
  match i with
  | none => (was, false)
  | some x =>
    let v := majority (s.fbp n 2) x.samples was
    if v == was || !s.usesLine n k then (was, false) else if x.held < s.fbp n 3 then (was, true) else (v, false)

/-- Quadrature (R366 to R368). -/
def State.decodeQuad (s : State) (n : Fin 4) (c : ChannelSt) (a b z : Bool) (T : Nat) : State :=
  let s := match quadStep c.lvA c.lvB a b with
    | none => s.illegal n
    | some 0 => s
    | some d =>
      let k := if s.fbp n 4 = 1 then -d else d
      (s.countDir n k T).chanCount n k
  -- every accepted rising edge of A is qualified (Table FBK-3)
  let s := if a && !c.lvA then s.speedEdge n 4 T else s
  (if z && !c.lvZ then s.indexEvent n else s).indexMissing n

/-- Pulse and direction: one count at each rising edge of FA (R370). -/
def State.decodePulse (s : State) (n : Fin 4) (b : Bool) (T : Nat) : State :=
  let c := s.chan n
  let neg := b == (s.fbp n 4 == 1)
  let s := if c.counted && c.dirNeg != neg then s.reversal n neg false T else s
  let s := s.updChan n (fun c => { c with counted := true, dirNeg := neg })
  (s.chanCount n (if neg then -1 else 1)).speedEdge n 1 T

/-- Direction of a tooth: positive, from FB, or from the commanded velocity of the bound axis (R371). -/
def State.toothNeg (s : State) (n : Fin 4) (b : Bool) (off : Nat) : Bool :=
  match s.fbp n 0x15 with
  | 0 => false
  | 1 => !b
  | _ => decide ((if (s.motion.get n).state = .stepf then s.wedgeVel n else (s.xva n (s.tickAt off : Rat)).2.1) < 0)

/-- The accepted levels decoded by the mode of the channel; `c`: the channel before them (R361). -/
def State.decodeLines (s : State) (n : Fin 4) (c : ChannelSt) (a b z : Bool) (T off : Nat) : State :=
  match s.fbMode n with
  | 1 => s.decodeQuad n c a b z T
  | 2 => if a != c.lvA || b != c.lvB || z != c.lvZ then s.hallEdge n (b01 a + 2 * b01 b + 4 * b01 z) T else s
  | 3 => if a && !c.lvA then s.decodePulse n b T else s
  | 4 => if a && !c.lvA then s.tooth n (s.toothNeg n b off) T else s
  | _ => s

/-- Discarded levels of the pins marked, each counted for its pin (R66, R364). -/
def State.rejectLines (s : State) (n : Fin 4) (bad : Quad Bool) : State :=
  axes4.foldl (fun t k => if bad.get k then t.bumpReject (113 + 8 * n.val + k.val) else t) s

/-- FEEDBACK_EDGE: filtered edges of FA, FB, FZ, FX whose acceptance is decided `off` ticks after the boundary. A discarded level is
counted for its pin; accepted levels are decoded (R363 to R374, R66). -/
def execFeedbackEdge (n : Fin 4) (lines : Quad (Option LineIn)) (off : Nat) (s : State) : Host.Outcome State Fault Refusal :=
  .next (
    if s.fbMode n = 0 then s
    else
      let c := s.chan n
      let la := s.lineLevel n 0 c.lvA (lines.get 0)
      let lb := s.lineLevel n 1 c.lvB (lines.get 1)
      let lz := s.lineLevel n 2 c.lvZ (lines.get 2)
      let lx := s.lineLevel n 3 c.lvX (lines.get 3)
      let s := (s.rejectLines n ⟨la.2, lb.2, lz.2, lx.2⟩).updChan n
        (fun c => { c with lvA := la.1, lvB := lb.1, lvZ := lz.1, lvX := lx.1 })
      let s := s.decodeLines n c la.1 lb.1 lz.1 (s.stampAt n off) off
      if lx.1 != c.lvX then s.capture n lx.1 off else s)

/-! ### Serial absolute (R375, R376) -/

def gray : Nat → Nat → Nat
  | 0, v => v
  | k + 1, v => gray k (Nat.xor v (v / 2 ^ (2 ^ k)))

/-- Value V of a position field (R375). -/
def State.ssiValue (s : State) (n : Fin 4) (field : Nat) : Int :=
  let cfg := s.fbp n 0x16
  let b := cfg % 64
  let v := field % 2 ^ b
  let v := if s.fbp n 0x1F = 1 then gray 5 v % 2 ^ b else v
  if 128 ≤ cfg then sgn b v else v

/-- One read of a channel's slot, with the axis position latched at its sample instant (R375, R376). -/
def State.ssiRead (s : State) (n : Fin 4) (failed : Bool) (field T : Nat) (p : Int) : State :=
  if s.fbMode n ≠ 5 then s
  else
    let c := s.chan n
    let b := s.fbp n 0x16 % 64
    let v := s.ssiValue n field
    let accept (t : State) : State :=
      t.updChan n (fun c => { c with ssiV := some v, ssiBad := 0, ssiFresh := true, ssiAt := some (c.count, p) })
    let reject (t : State) : State :=
      let t := t.updChan n (fun c => { c with ssiBad := c.ssiBad + 1, ssiRej := min 0xFFFF (c.ssiRej + 1), ssiSeen := true })
      let t := if c.ssiSeen then t else t.evFree 0x0208
      if c.ssiBad + 1 = 3 then
        ((t.updChan n (fun c => { c with ssiV := none, spd := .invalid, speed := 0, lastEdge := none, lastInt := none, spdInt := none, gateN := 0,
                                         gateW := 0 })).unref n).chanCause n 0x0206
      else t
    if failed then reject s
    else match c.ssiV with
    | none =>
      let s := accept ((s.chanEnd n 0x0206).assignCount n v)
      let s := s.speedEdge n 0 T
      if s.fbp n 0x0A = 3 then s.refEvent n true p else s
    | some old =>
      let d := sgn b (enc b (v - old))
      if s.fbp n 0x17 < d.natAbs then reject s
      else
        let s := s.updChan n (fun c => { c with dirNeg := if d = 0 then c.dirNeg else decide (d < 0), counted := true })
        accept ((s.chanCount n d).speedEdge n d.natAbs T)

/-! ### The bound axis (R387 to R390) -/

def State.scale (s : State) (n : Fin 4) (c : Int) : Int := ratNear ((c : Rat) * (s.fbp n 6 : Nat) / (s.fbp n 7 : Nat))

def State.pImpl (s : State) (n : Fin 4) (c : Int) : Int := s.fbpI n 0x0D + s.scale n (c - s.fbpI n 0x0B)

/-- Shift the axis position by `d`, keeping the electrical index (R388); none when a Ledge limit forbids it. -/
def State.shiftAxis (s : State) (n : Fin 4) (d : Int) : Option State :=
  let m := s.motion.get n
  if !s.inLedge n (m.p + d) || (m.state == .pos && !s.inLedge n (m.target + d)) then none
  else
    let t := s.updMotion n (fun m =>
      { (m.putPos (m.p + d)) with
        target := m.target + d
        takeover := m.takeover.map (fun x => (x.1 + d, x.2)) })
    some (t.rebaseAxis n d)

/-- A shift that references the axis (Table FBK-5). -/
def State.shiftRef (s : State) (n : Fin 4) (d : Int) (ev : Bool) : State :=
  match s.shiftAxis n d with
  | none => s.chanNote n 0x0208 n.val false
  | some t =>
    let t := t.updMotion n (fun m => { m with posState := .referenced, kept := true })
    if ev then t.ev 0x0205 (enc 16 (satS 16 d)) else t

/-- The channel acts on its axis. -/
def State.refsAxis (s : State) (n : Fin 4) : Bool := s.fbMode n != 0 && s.fbp n 5 == 1 && s.fbp n 0x0C == 1

/-- Reference and check events of the frame that ended, in the order of their stamps (R387). -/
def State.chanEvents (s : State) (n : Fin 4) : State :=
  let l := (s.chan n).events
  let s := s.updChan n (fun c => { c with events := [] })
  if !s.refsAxis n || !s.axReady n then s
  else
    (l.foldl (fun (a : State × Int) e =>
      let t := a.1
      let p := e.2.1 + a.2
      let d := t.pImpl n e.1 - p
      if (t.motion.get n).posState = .referenced then
        (if t.fbp n 0x0E < d.natAbs then t.chanNote n 0x0207 (enc 16 (satS 16 d)) false else t, a.2)
      else if e.2.2 then
        let u := t.shiftRef n d true
        (u, a.2 + (u.motion.get n).p - (t.motion.get n).p)
      else (t, a.2)) (s, 0)).1

/-- The channel has a position error where it is bound and its counter is off its limits (R389). -/
def State.peBound (s : State) (n : Fin 4) : Bool := s.fbMode n != 0 && s.fbp n 5 == 1 && !s.onLimit n

/-- Counter value and axis position that belong together: in serial mode those of the latest accepted read, where there is one (R389). -/
def State.pairNow (s : State) (n : Fin 4) : Int × Int :=
  let c := s.chan n
  if s.fbMode n = 5 then c.ssiAt.getD (c.count, (s.motion.get n).p) else (c.count, (s.motion.get n).p)

/-- The alignment pair is taken at this moment, or, before the first accepted read and on a limit, when it can be (R389). -/
def State.alignNow (s : State) (n : Fin 4) : State :=
  let pair := s.pairNow n
  if s.peBound n && (s.fbMode n != 5 || (s.chan n).ssiAt.isSome) then
    s.updChan n (fun c => { c with pAlign := pair.2, cAlign := pair.1, alignDue := false, aligned := true })
  else s.updChan n (fun c => { c with alignDue := true })

/-- The axis reaches Ready with a bound channel (Table FBK-5, R389, R390). -/
def State.chanReady (s : State) (n : Fin 4) : State :=
  if s.fbMode n = 0 ∨ s.fbp n 5 ≠ 1 then s
  else
    let c := s.chan n
    let m := s.motion.get n
    let pair := s.pairNow n
    let s := if s.refsAxis n && c.ref && m.posState != .referenced then s.shiftRef n (s.pImpl n pair.1 - pair.2) true else s
    (s.alignNow n).updChan n (fun c => { c with idxCheck := if m.retained then some 0 else none })

/-- Step 10: the position error of a bound channel from the count and position latched at the boundary, in serial mode from the latest
accepted read (R389). -/
def State.posError (s : State) (n : Fin 4) : State :=
  let c := s.chan n
  let serial := s.fbMode n == 5
  let avail := s.peBound n && s.axReady n && (!serial || c.ssiFresh)
  let at_ := if serial then c.ssiAt.getD (c.countAt, c.pLatch) else (c.countAt, c.pLatch)
  let pe := if avail && c.aligned && !c.alignDue then some (c.pAlign + s.scale n (at_.1 - c.cAlign) - at_.2) else none
  s.updChan n (fun c => { c with pe := pe, ssiFresh := false })

/-- RETAINED_INDEX_CHECK (R390). -/
def execRetainedIndexCheck (n : Fin 4) (s : State) : Host.Outcome State Fault Refusal :=
  .next (
    let c := s.chan n
    match c.idxCheck, c.pe with
    | some k, some pe =>
      if k < 4 ∨ 20 < k then s
      else
        let s := s.updChan n (fun c => { c with idxCheck := none })
        if pe.natAbs ≤ s.fbp n 0x0E then s.confirmIndex n
        else
          let s := (s.updMotion n (fun m => { m with retained := false })).ev 0x0206 (enc 16 (satS 16 pe))
          let pair := s.pairNow n
          if c.ref && s.fbp n 0x0C == 1 then (s.shiftRef n (s.pImpl n pair.1 - pair.2) false).alignNow n
          else s.updMotion n (fun m => { m with posState := .unreferenced })
    | _, _ => s)

/-- The book-keeping of a channel at a boundary: a waiting FB_SET_COUNT (R391), gate frames, and the index check's time. -/
def State.chanBoundary (s : State) (n : Fin 4) : State :=
  let c := s.chan n
  let s := match c.setTo with
    | some (v, r) =>
      (s.assignCount n v).updChan n (fun c => { c with setTo := none, ref := r, alignDue := true })
    | none => s
  let s := s.chanEvents n
  let s := if (s.chan n).alignDue then s.alignNow n else s
  let p := (s.motion.get n).p
  s.updChan n (fun c =>
    { c with
      gateF := c.gateF + 1
      countAt := c.count
      pLatch := p
      idxCheck := match c.idxCheck with | some k => if 20 ≤ k then none else some (k + 1) | none => none })

/-- Once in each superframe. -/
def State.chanSuper (s : State) (n : Fin 4) : State :=
  s.updChan n (fun c => { c with illSf := 0, illSeen := false, revSeen := false, ssiSeen := false })

/-- The unit is enabled: the channel starts at 0 within its limits (log entry 19), UNREFERENCED, speed invalid. -/
def State.chanEnable (s : State) (n : Fin 4) : State :=
  let v := clampI (s.fbpI n 0x08) (s.fbpI n 0x09) 0
  (s.updChan n (fun _ => { count := v, countAt := v, countMode := s.fbp n 0 == 5 })).cmpEnable n

def State.chanDisable (s : State) (n : Fin 4) : State :=
  let s := [0x0202, 0x0204, 0x0206].foldl (fun t k => t.chanEnd n k) s
  (s.updChan n (fun c => { c with ref := false, spd := .invalid, speed := 0, lastEdge := none, lastInt := none, spdInt := none, gateN := 0, gateW := 0,
                                  pe := none, aligned := false, events := [], idxCheck := none, setTo := none })).cmpDisable n

/-! ### FB_STATUS, FB_SET_COUNT -/

def SpeedState.code : SpeedState → Nat
  | .invalid => 0
  | .valid => 1
  | .still => 2
  | .starting => 3

/-- Speed in µsteps/s as q24.8, limited (R384). -/
def State.speedSteps (s : State) (n : Fin 4) (v : Rat) : Int :=
  if s.fbp n 5 = 1 then
    ratNear (max (-2500000) (min 2500000 (v * (s.fbp n 6 : Nat) / (s.fbp n 7 : Nat))) * 256)
  else 0

/-- Table FBK-9. -/
def State.fbStatus (s : State) (n : Fin 4) : List Byte :=
  let c := s.chan n
  let v := s.chanSpeed n (stampOf s.frame.tickBase)
  let pos := if s.fbMode n = 4 ∧ c.ref then s.toothPos n else 0xFFFF
  b8 (s.fbMode n)
    ++ b8 (b01 c.ref + 2 * b01 (c.countAt == s.fbpI n 0x08) + 4 * b01 (c.countAt == s.fbpI n 0x09) + 8 * b01 c.dirNeg + 16 * b01 c.illFlag)
    ++ b8 c.spd.code ++ b8 (b01 c.countMode) ++ leS32 c.countAt ++ leS32 (satS 32 (ratNear (v * 16))) ++ leS32 (s.speedSteps n v)
    ++ (match c.pe with | some e => leS32 e | none => le32 0x80000000)
    ++ le16 c.ill ++ le16 c.revs ++ le16 c.discards ++ le16 c.ssiRej ++ leS32 c.capCount ++ le32 c.capFrame.toNat ++ le16 c.capTick
    ++ le16 c.caps ++ le16 pos ++ [0, 0]

def fbStatusSpec : CmdSpec where
  op := 0x0201
  need := 4
  field := fun s h => if 3 < s.p8 h 0 then some 16 else if 1 < s.p8 h 1 then some 17 else if s.p8 h 2 ≠ 0 then some 18
    else if s.p8 h 3 ≠ 0 then some 19 else none
  start := fun s h =>
    let n : Fin 4 := Fin.ofNat 4 (s.p8 h 0)
    let r := s.fbStatus n
    let s := s.updChan n (fun c => { c with illFlag := false })
    let s := if s.p8 h 1 = 1 then s.updChan n (fun c => { c with ill := 0, revs := 0, discards := 0, ssiRej := 0 }) else s
    s.doneWith h r

def execFbStatus (h : Fin 32) (s : State) : Host.Outcome State Fault Refusal := .next (takeRow fbStatusSpec h s)

/-- SV-0x0205, on running values while the unit is enabled and on working values otherwise. -/
def State.setCountFindings (s : State) (h : Nat) : List Finding :=
  let n : Fin 4 := Fin.ofNat 4 (s.p8 h 0)
  let v (i : Nat) : Int := if s.unitOn n.val then s.fbpI n i else s.workI (fbId n i)
  fnd (decide (s.pS32 h 4 < v 0x08) || decide (v 0x09 < s.pS32 h 4)) 2 0x0205 0 ++
  fnd (decide (v 0x00 = 5)) 2 0x0205 1

def fbSetCountSpec : CmdSpec where
  op := 0x0202
  need := 8
  field := fun s h => if 3 < s.p8 h 0 then some 16 else if 1 < s.p8 h 1 then some 17 else if s.p8 h 2 ≠ 0 then some 18
    else if s.p8 h 3 ≠ 0 then some 19 else none
  judge := fun s h => some (s.cfg, s.setCountFindings h)
  own := fun s h => s.findingReply (s.setCountFindings h)
  start := fun s h =>
    let n : Fin 4 := Fin.ofNat 4 (s.p8 h 0)
    let r := leS32 (s.chan n).count
    (s.updChan n (fun c => { c with setTo := some (s.pS32 h 4, bit (s.p8 h 1) 0) })).doneWith h r

def execFbSetCount (h : Fin 32) (s : State) : Host.Outcome State Fault Refusal := .next (takeRow fbSetCountSpec h s)

end Sys2Proof.Machine
end

