-- ==== Sys2Proof/Machine/Follow.lean ====
section
/-! DEFINITION. Speed following and the sensor port (13). -/

namespace Sys2Proof.Machine

/-! ### Rate sources (R405, R410) -/

/-- Newest valid value of a rate source in the units of Table CMP-2, with the frames since it was taken. The magnitude is used
with USEDIR clear. -/
def State.folNow (s : State) (src inst : Nat) (useDir : Bool) : Option (Int × Nat) :=
  let mag (v : Int) : Int := if useDir then v else (v.natAbs : Int)
  if 3 < src then none else
  match src with
  | 0 =>
    let k : Fin 4 := Fin.ofNat 4 inst
    if s.fbMode k = 0 ∨ (s.chan k).spd = .invalid then none
    else some (mag (satS 32 (ratNear (s.chanSpeed k (stampOf s.frame.tickBase) * 16))), 0)
  | 3 =>
    let p : Fin 2 := if s.par (0x6010 + 4 * inst) = 2 then 1 else 0
    if s.par (0x6010 + 4 * inst) = 0 then none
    else match (s.ports.get p).latched.find? (fun e => e.1 == s.par (0x6011 + 4 * inst)) with
      | none => none
      | some e =>
        let v := get32 e.2.2 (s.par (0x6012 + 4 * inst))
        if v = 0x80000000 then none else some (mag (sgn 32 v), s.since e.2.1)
  | _ =>
    let k : Fin 2 := if src = 2 then 1 else 0
    match s.iso.speed.get k with
    | none => none
    | some (raw, dir, _) =>
      if 0xFAFF < raw ∨ (useDir ∧ 1 < dir) then none
      else some (if useDir ∧ dir = 0 then -(raw : Int) else (raw : Int), s.since (s.iso.spdAt.get k))

/-- Frames after which a source is stale (axn.fol.tmo). -/
def State.folLimit (s : State) (n : Fin 4) : Nat := 20 * s.ax n 0x81

/-- Target velocity as a raw value for a ratio and a rate, and whether the rate was clamped (R406). DESIGN CHOICE (log entry 32): R210
admits no magnitude from 1 to 11; the model takes 12 for it. -/
def State.folTarget (s : State) (n : Fin 4) (src : Nat) (ratio R : Int) : Int × Bool :=
  let most : Nat := if src = 0 then 16 * s.ax n 0x80 else s.ax n 0x80
  let r := clampI (-(most : Int)) most R
  let den : Int := if src = 0 then 4096 else 256
  let vmax : Int := s.ax n 0x41
  let v := clampI (-vmax) vmax (ratNear (mkRat (ratio * r) den.toNat))
  (if v = 0 ∨ 12 ≤ v.natAbs then v else if 0 < v then 12 else -12, decide (r ≠ R))

/-- Ratio in the j-th frame of a ratio ramp (R408). -/
def FollowSt.ratioAt (f : FollowSt) (j : Nat) : Int :=
  if f.ramp ≤ j then f.r1 else f.r0 + ratNear (mkRat ((f.r1 - f.r0) * (j : Int)) f.ramp)

/-! ### What the frame does for an axis in SPEEDF (R406 to R410) -/

/-- Step 7: the target from the ratio of the frame and the newest rate taken in an earlier frame. -/
def State.followUse (s : State) (n : Fin 4) : State :=
  let f := s.follow.get n
  if (s.motion.get n).state ≠ .speedf then s
  else match f.st with
    | .following =>
      let t := s.folTarget n f.src f.ratio f.lastR
      let s := s.updFollow n (fun f => { f with target := some t.1, clamped := t.2, clampSeen := f.clampSeen || t.2 })
      if t.2 && !f.clampSeen then s.evFree 0x0221 else s
    | .wait => s.updFollow n (fun f => { f with target := some 0, clamped := false })
    | .lost =>
      let loss := s.ax n 0x82
      s.updFollow n (fun f => { f with target := if loss = 0 then none else some 0, clamped := false, leave := decide (loss = 2) })
    | .none => s

/-- The cause of FT-0x0220 has ended on every axis. -/
def State.followCond (s : State) : State :=
  if axes4.any (fun n => (s.follow.get n).st == .lost) then s else s.condEnd 0x0220

/-- Steps 10 to 12: take the source value and judge its freshness (Table CMP-3). -/
def State.followTake (s : State) (n : Fin 4) : State :=
  let f := s.follow.get n
  if (s.motion.get n).state ≠ .speedf ∨ f.st = .none then s
  else
    let got := match s.folNow f.src f.inst f.useDir with
      | some (r, age) => if age = 0 then some r else none
      | none => none
    match got with
    | some r =>
      let back := decide (f.st = .wait) || (decide (f.st = .lost) && s.ax n 0x82 != 2)
      let s := s.updFollow n (fun f => { f with lastR := r, ageF := 0, st := if back then .following else f.st })
      if back then (s.noteEv 0x0220 n.val).followCond else s
    | none =>
      let age := f.ageF + 1
      let stale := decide (s.folLimit n ≤ age) || (decide (f.src = 0) && decide (f.st = .following))
      let s := s.updFollow n (fun f => { f with ageF := age })
      if stale && f.st != .lost then
        (s.updFollow n (fun f => { f with st := .lost })).raise 0x0220 n.val (axBits n) true
      else s

/-- Ramp SPEEDF to a new target under R220; at a limit it stays while the target points toward it (R231). -/
def State.followRamp (s : State) (n : Fin 4) (raw : Int) : State :=
  let m := s.motion.get n
  let vt : Rat := mkRat raw 256
  let x := s.nowXva n
  let toward := match m.ledge with | some true => decide (0 < vt) | some false => decide (vt < 0) | none => false
  let onLimit := (decide (0 < vt) && decide (s.axI n 0x47 ≤ m.p)) || (decide (vt < 0) && decide (m.p ≤ s.axI n 0x46))
  if toward then s.updMotion n (fun m => { m with vt := vt })
  else if onLimit && decide (x.2.1 = 0) then
    (s.setProfile n .speedf x.1 vt []).updMotion n (fun m => { m with ledge := some (decide (0 < vt)) })
  else (s.setProfile n .speedf x.1 vt (velRamp x.2.1 x.2.2 vt m.capAcc m.capDec (s.ax n 0x44 : Nat))).ledgeNow n

/-- SPEEDF at rest on a limit while its demand points away from it, the demand having reversed before the rest, moves off (R231). -/
def State.followOff (s : State) (n : Fin 4) : State :=
  let m := s.motion.get n
  let away := match m.ledge with | some true => decide (m.vt < 0) | some false => decide (0 < m.vt) | none => false
  if away && decide ((s.nowXva n).2.1 = 0) then s.followRamp n (s.follow.get n).targetV else s

/-- At a boundary: the target acts, loss action 2 leaves SPEEDF, and the ratio ramp goes on. -/
def State.followBoundary (s : State) (n : Fin 4) : State :=
  let f := s.follow.get n
  if (s.motion.get n).state ≠ .speedf then
    (if f.st = .none then s else (s.updFollow n (fun _ => {})).followCond)
  else if s.paired n && s.twinDown then
    -- a shadow runs the mirrored profile and ratio (R542); its source is judged all the same (R551)
    s.updFollow n (fun f => { f with target := none, leave := false, rampJ := min f.ramp (f.rampJ + 1) })
  else if f.leave then ((s.rampToRest n (s.ax n 0x43)).updFollow n (fun _ => {})).followCond
  else
    let s := match f.target with
      | some v => if v = f.targetV then s.followOff n else s.followRamp n v
      | none => s.followOff n
    s.updFollow n (fun f =>
      { f with
        target := none
        targetV := f.target.getD f.targetV
        rampJ := min f.ramp (f.rampJ + 1)
        ratio := f.ratioAt (f.rampJ + 1) })

/-! ### FOLLOW_SPEED, FOL_STATUS -/

/-- Units that a rate source needs, as findings (SV-0x0010, SV-0x0225). -/
def State.folNeeds (s : State) (src inst : Nat) : List Finding :=
  match src with
  | 0 => fnd (s.fbMode (Fin.ofNat 4 inst) == 0) 1 0x0225 inst
  | 3 =>
    let pt := s.work (0x6010 + 4 * inst)
    if pt = 0 then fnd (!s.unitOn 5 && !s.unitOn 6) 3 0x0010 5 else fnd (!s.unitOn (4 + pt)) 3 0x0010 (4 + pt)
  | _ => fnd (!s.unitOn 7) 3 0x0010 7

/-- Findings of FOLLOW_SPEED at its start (R229, R319, R404). -/
def State.followFindings (s : State) (h : Nat) : List Finding :=
  let n := s.axisOf h
  let st := (s.motion.get n).state
  s.motionFindings n ++ fnd (st == .stepf || st == .haul) 1 0x0224 n.val ++ s.folNeeds (s.p8 h 0) (s.p8 h 1)

def followSpeedSpec : CmdSpec where
  op := 0x0220
  need := 20
  engine := true
  field := fun s h =>
    let src := s.p8 h 0
    let most := match src with | 0 => 3 | 3 => 7 | _ => 0
    if 3 < src then some 16
    else if most < s.p8 h 1 then some 17
    else if 1 < s.p8 h 2 then some 18
    else if s.p8 h 3 ≠ 0 then some 19
    else if 20000 < s.p16 h 8 then some 24
    else if s.p16 h 10 ≠ 0 then some 26
    else orElse (rateBad s h 12) (rateBad s h 16)
  permit := motionPermit (some 2) true
  ready := notReady
  judge := fun s h =>
    let n := s.axisOf h
    some (s.cfg, s.followFindings h ++
      fnd (decide (256 * s.axv n 0x41 < (s.pS32 h 4).natAbs * s.axv n 0x80)) 4 0x0220 n.val)
  own := fun s h => s.findingReply (s.followFindings h)
  start := startMotion

def execFollowSpeed (h : Fin 32) (s : State) : Host.Outcome State Fault Refusal := .next (takeRow followSpeedSpec h s)

/-- SPEEDF begins from the state (x, v, a) of the boundary (R220, R231). -/
def State.followEnter (s : State) (n : Fin 4) (x : Rat × Rat × Rat) (vt : Rat) : State :=
  let m := s.motion.get n
  (s.setProfile n .speedf x.1 vt (velRamp x.2.1 x.2.2 vt m.capAcc m.capDec (s.ax n 0x44 : Nat))).ledgeNow n

/-- FOLLOW_SPEED acts (R404, R408, Table CMP-3). -/
def actFollowSpeed (h : Nat) (s : State) : State :=
  let n := s.axisOf h
  let m := s.motion.get n
  let old := s.follow.get n
  let src := s.p8 h 0
  let inst := s.p8 h 1
  let useDir := bit (s.p8 h 2) 0
  let same := m.state == .speedf && old.st != .none && old.src == src && old.inst == inst
  let r1 := s.pS32 h 4
  let ramp := if same then s.p16 h 8 else 0
  let now := match s.folNow src inst useDir with
    | some (r, age) => if age < s.folLimit n then some (r, age) else none
    | none => none
  let f0 : FollowSt :=
    if same then { old with useDir := useDir }
    else match now with
      | some (r, age) => { st := .following, src := src, inst := inst, useDir := useDir, lastR := r, ageF := age }
      | none => { st := .wait, src := src, inst := inst, useDir := useDir }
  let f1 : FollowSt :=
    { f0 with
      r0 := if 0 < ramp then old.ratio else r1
      r1 := r1
      ramp := ramp
      rampJ := 0 }
  let rNow := f1.ratioAt 0
  let v := match f1.st with
    | .following => (s.folTarget n src rNow f1.lastR).1
    | .lost => if s.ax n 0x82 = 0 then old.targetV else 0
    | _ => 0
  let x := s.nowXva n
  let A := s.orPar n (s.p32 h 12) 0x42
  let D := s.orPar n (s.p32 h 16) 0x43
  let s := s.takeOver n (s.seqNo h)
  let s := s.updMotion n (fun m => { m with capAcc := A, capDec := D })
  let s := s.updFollow n (fun _ => { f1 with targetV := v, rampJ := min ramp 1, ratio := f1.ratioAt 1, target := none, leave := false })
  ((if m.state = .speedf then s.followRamp n v else s.followEnter n x (mkRat v 256)).followCond).doneWith h (leS32 m.p)

def FollowState.code : FollowState → Nat
  | .none => 0
  | .wait => 1
  | .following => 2
  | .lost => 3

/-- FOL_STATUS result data (13). -/
def State.folStatus (s : State) (n : Fin 4) : List Byte :=
  let f := s.follow.get n
  b8 f.st.code ++ b8 f.src ++ b8 f.inst ++ b8 (b01 f.useDir + 2 * b01 f.clamped + 4 * b01 (decide (f.rampJ < f.ramp)))
    ++ leS32 f.ratio ++ leS32 f.lastR ++ leS32 f.targetV

def folStatusSpec : CmdSpec where
  op := 0x0221
  start := fun s h => s.doneWith h (s.folStatus (s.axisOf h))

def execFolStatus (h : Fin 32) (s : State) : Host.Outcome State Fault Refusal := .next (takeRow folStatusSpec h s)

/-! ### Sensor port (R411 to R415) -/

def State.slotFmt (s : State) (k : Nat) : Nat := s.par (0x2410 + k)

/-- The number whose bit i is the bit of index i, counted back from the last element. -/
def tailNum (l : List Bool) : Nat := msbNat l

/-- Bits b of the position field of a slot, where a channel names it. -/
def State.slotWidth (s : State) (k : Nat) : Option Nat :=
  (axes4.find? (fun n => s.fbMode n == 5 && s.fbp n 0x1E == k)).map (fun n => s.fbp n 0x16 % 64)

/-- Position of an axis at tick `T` of the present frame: what has been stepped since is taken back (R387). -/
def State.posAtTick (s : State) (n : Fin 4) (T : Nat) : Int :=
  let m := s.motion.get n
  m.p - ((m.steps.filter (fun x => decide (T < x.1))).map (·.2)).foldl (· + ·) 0

/-- One slot's part of a read with the sample instant `T`: its bits, and the status found for the whole select (0: none). The channels
that name the slot take their own bits of the field (R375, R415). -/
def State.slotRead (s : State) (k : Nat) (bits : List Bool) (whole T : Nat) : State :=
  let v := s.slotFmt k
  let num := tailNum bits
  let eb := v / 65536 % 256
  let flag := eb != 0xFF && (num.testBit eb == (v / 2 ^ 24 % 2 == 1))
  let st := if whole ≠ 0 then whole else if flag then 4 else 1
  let field := num / 2 ^ (v / 256 % 256)
  let shown := match s.slotWidth k with | some b => field % 2 ^ b | none => field % 2 ^ 32
  let ps := axes4.map (fun n => s.posAtTick n T)
  let s := { s with sensor := { s.sensor with slots := updAt s.sensor.slots k (fun x =>
    { x with status := st, failed := if st = 1 then x.failed else min 0xFFFF (x.failed + 1),
             posF := if st = 1 then shown else x.posF, fresh := some (st != 1, field, stampOf T, ps) }) } }
  if st ≠ 1 ∧ !s.sensor.failSeen then
    ({ s with sensor := { s.sensor with failSeen := true } } : State).noteEv 0x0226 k
  else s

/-- Distribute the bits of a select over its slots, the first bits to the lowest slot (R411). -/
def State.splitRead (s : State) (slots : List Nat) (bits : List Bool) (whole T : Nat) : State :=
  match slots with
  | [] => s
  | k :: r =>
    let n := s.slotFmt k % 256
    (s.slotRead k (fit n false (bits.take n)) whole T).splitRead r (bits.drop n) whole T

/-- Read of select `j` that starts `t` units of 10 ns after the boundary (Table CMP-5). -/
def State.selectRead (s : State) (j t : Nat) (l : List Bool) : State :=
  let r := s.readHead l
  let bits := r.2
  let n := chainBits s.params.running j
  let tail := chainTail s.params.running j == 1 && (bits.drop n).headD false
  let whole := if r.1 ≠ 0 then r.1 else if tail then 5 else 0
  s.splitRead (chainSlots s.params.running j) bits whole (s.frame.tickBase + 2 * (t + 20))

/-- The selects in use, back to back. -/
def State.readSelects (s : State) (t : Nat) : List Nat → List (List Bool) → State
  | [], _ => s
  | j :: r, l => (s.selectRead j t (l.headD [])).readSelects (t + selectTime s.params.running j) r (l.drop 1)

/-- SENSOR_PORT_READ: the reads of one frame (R412, R414). -/
def execSensorPortRead (reads : List (List Bool)) (s : State) : Host.Outcome State Fault Refusal :=
  .next (if s.unitOn 4 then s.readSelects (100 * s.par 0x2402) (usedSelects s.params.running) reads else s)

/-- At a boundary the reads of the frame are latched (R415). -/
def State.sensorLatch (s : State) : State :=
  { s with sensor := { s.sensor with slots := s.sensor.slots.map (fun x => { x with latched := x.fresh, fresh := none }) } }

/-- Step 10: the latched results reach the channels that name their slots (R415). -/
def State.sensorUse (s : State) : State :=
  let one (n : Fin 4) (s : State) : State :=
    if s.fbMode n ≠ 5 then s
    else match s.sensor.slots[s.fbp n 0x1E]? with
      | some x =>
        (match x.latched with
         | some (bad, v, stamp, ps) => s.ssiRead n bad v stamp (ps.getD n.val 0)
         | none => s)
      | none => s
  forAxes s one

/-- The port starts again when FBX is enabled. -/
def State.sensorEnable (s : State) : State := { s with sensor := {} }

/-- SP_STATUS result data. -/
def State.spStatus (s : State) (first count : Nat) : List Byte :=
  let d (k : Fin 2) := s.divo.get k
  le16 (d 0).backlog ++ le16 (d 1).backlog ++ le16 (min 0xFFFF (d 0).lost) ++ le16 (min 0xFFFF (d 1).lost) ++
  (List.range count).flatMap (fun i =>
    let k := first + i
    let x := s.sensor.slots.getD k {}
    b8 (if s.slotFmt k % 256 = 0 then 0 else x.status) ++ [0] ++ le16 x.failed ++ le32 x.posF)

def spStatusSpec : CmdSpec where
  op := 0x0224
  need := 2
  field := fun s h =>
    if 15 < s.p8 h 0 then some 16
    else if s.p8 h 1 = 0 ∨ 8 < s.p8 h 1 ∨ 16 < s.p8 h 0 + s.p8 h 1 then some 17 else none
  start := fun s h => s.doneWith h (s.spStatus (s.p8 h 0) (s.p8 h 1))

def execSpStatus (h : Fin 32) (s : State) : Host.Outcome State Fault Refusal := .next (takeRow spStatusSpec h s)

end Sys2Proof.Machine
end

