-- ==== Sys2Proof/Machine/Microstep.lean ====
section
/-! DEFINITION. STEP pulses and the microsteps the engine issues (02, 07). -/

namespace Sys2Proof.Machine

/-! ### STEP_PULSE (R67, R68, R221, R223) -/

/-- Microsteps of a demand change that lie beyond a Ledge limit (R232). -/
def State.beyond (s : State) (n : Fin 4) (d : Int) : Nat :=
  let m := s.motion.get n
  let p := m.p + (m.demand - m.issued) + d
  if 0 < d then min d.natAbs (p - s.axI n 0x47).toNat else min d.natAbs (s.axI n 0x46 - p).toNat

/-- An accepted pulse in STEPF adds ax.stepf.mult to the demand, but for what lies beyond a Ledge limit, and ends standstill (R221, R223,
R232, R249). -/
def State.stepDemand (s : State) (n : Fin 4) (up : Bool) (T : Nat) : State :=
  let m := s.motion.get n
  let mult := s.ax n 0x4A
  if m.lagTrip then s.updMotion n (fun m => { m with dropped := m.dropped + 1 })
  else
    let d : Int := if up != (s.ax n 0x4B == 1) then (mult : Int) else -(mult : Int)
    let cut := s.beyond n d
    let d' : Int := if 0 < d then d - cut else d + cut
    let owed := m.demand - m.issued
    let lag := owed + d'
    let trip := decide (s.ax n 0x4C < lag.natAbs)
    let s := s.updMotion n (fun m =>
      { m with
        still := false
        idleF := 0
        demand := m.demand + d'
        pulses := (m.pulses + 1) % 4294967296
        pulseTp := m.pulseAt.map (fun t => T - t)
        pulseAt := some T
        pulseFirst := decide (owed * d' ≤ 0 ∧ 0 < lag * d')
        dropped := m.dropped + cut
        ledgeSeen := m.ledgeSeen || decide (0 < cut)
        lagTrip := trip })
    let s := s.evIf (decide (0 < cut) && !m.ledgeSeen) 0x0101 (b01 (decide (0 < d)))
    if trip then s.note 0x0101 n.val (axBits n) false else s

/-- The pulse whose acceptance has come by tick `T` takes effect (R67, R222). -/
def State.stepSettle (s : State) (n : Fin 4) (T : Nat) : State :=
  match (s.motion.get n).stepWait with
  | none => s
  | some (up, t) =>
    if T < t then s
    else
      let s := (s.updMotion n (fun m => { m with stepWait := none })).divCount (0x30 + n.val) 1
      if (s.motion.get n).state = .stepf then s.stepDemand n up t else s

/-- STEP_PULSE: a rising edge `off` ticks after the boundary with high time `high` ticks; `dir` is the level of DIRn, which is
free where it changed inside the window of R68. -/
def execStepPulse (n : Fin 4) (off high : Nat) (dir changed : Bool) (s : State) : Host.Outcome State Fault Refusal :=
  .next (
    if !s.frame.running || s.pinModeV n then s
    else
      let at_ := s.tickAt off
      let spaced := match s.pins.stepLast.get n with | some t => decide (t + 1000 ≤ 5 * at_) | none => true
      if high < 40 || !spaced then s.bumpReject (110 + 8 * n.val)
      else
        let x := s.fresh
        let up := if changed then x.1 % 2 == 1 else dir
        let s := if changed then x.2 else s
        let s := { s with pins := { s.pins with stepLast := s.pins.stepLast.set n (some (5 * at_)) } }
        (s.stepSettle n at_).updMotion n (fun m => { m with stepWait := some (up, at_ + 40) }))

/-! ### MICROSTEP (R206, R207, R209, R222, R231 to R233, R627) -/

/-- The engine may issue microsteps on the axis. -/
def State.engineOn (s : State) (n : Fin 4) : Bool :=
  !(s.motion.get n).halted && !s.pinMode n && s.axen n && !(s.gate.get n).fallNote &&
  (match s.seq n with | .ready | .d1 => true | _ => false)

/-- Exact time in ticks of the next microstep of STEPF while the lag is not 0: the acceptance of the newest pulse when everything owed
before it has been issued, else the rate after the one before (R207, R222). -/
def State.stepfTime (s : State) (n : Fin 4) : Rat :=
  let m := s.motion.get n
  let a : Rat := ((m.pulseAt.getD 0 : Nat) : Rat)
  match m.paceAt with
  | some e => if m.pulseFirst then a else max (e + tickHz / s.stepRate n) a
  | none => a

/-- The profile of an axis ended before tick `T`. -/
def State.endedBefore (s : State) (n : Fin 4) (T : Rat) : Bool :=
  match (s.motion.get n).profile with
  | some pr => decide (phasesTime pr.phases < s.profTime n pr T)
  | none => true

/-- Positions at which the profile ends a phase or turns back from tick `T1` on and before tick `T2`. -/
def State.turnedIn (s : State) (n : Fin 4) (T1 T2 : Rat) : List Rat :=
  match (s.motion.get n).profile with
  | some pr =>
    let t1 := s.profTime n pr T1
    let t2 := s.profTime n pr T2
    ((turnPoints pr.phases 0 pr.x0).filter (fun z => decide (t1 ≤ z.1 ∧ z.1 < t2))).map (·.2)
  | none => []

/-- Direction of a microstep that is due at tick `T`; none when none is. A time midway between two ticks belongs to the later (R207;
log entry 20). A whole position that the motion reaches between two ticks and turns back from is due at the tick nearest (R627). -/
def State.stepDue (s : State) (n : Fin 4) (T : Nat) : Option Int :=
  let m := s.motion.get n
  let spaced := match m.lastStep with | some t => decide (t + 80 ≤ T) | none => true
  if !s.engineOn n || !spaced then none
  else if m.state = .stepf then
    let lag := m.demand - m.issued
    if lag ≠ 0 ∧ s.stepfTime n < (T : Rat) + 1 / 2 then some (if 0 < lag then 1 else -1) else none
  else
    let x := (s.xva n (T : Rat)).1
    let y := (s.xva n ((T : Rat) + 1 / 2)).1
    let p : Rat := (m.p : Rat)
    let done := s.endedBefore n ((T : Rat) + 1 / 2)
    let turned := s.turnedIn n ((T : Rat) - 1 / 2) ((T : Rat) + 1 / 2)
    if p + 1 ≤ x ∨ p + 1 < y ∨ (done ∧ p + 1 ≤ y) ∨ turned.any (fun z => decide (p + 1 ≤ z)) then some 1
    else if x ≤ p - 1 ∨ y < p - 1 ∨ (done ∧ y ≤ p - 1) ∨ turned.any (fun z => decide (z ≤ p - 1)) then some (-1)
    else none

/-- A microstep that would pass a Ledge limit is not issued (R231 to R233). -/
def State.stepBarred (s : State) (n : Fin 4) (d : Int) : State :=
  let m := s.motion.get n
  match m.state with
  | .stepf =>
    let s := s.updMotion n (fun m => { m with demand := m.demand - d, dropped := m.dropped + 1, ledgeSeen := true })
    if m.ledgeSeen then s else s.ev 0x0101 (b01 (decide (0 < d)))
  | .haul => if m.ledge.isSome then s else s.note 0x0103 n.val (axBits n) false
  | _ => s

/-- Issue a microstep at tick `T`. -/
def State.stepIssue (s : State) (n : Fin 4) (d : Int) (T : Nat) : State :=
  let old := (s.motion.get n).p
  let pace : Rat := max (s.stepfTime n) (match (s.motion.get n).lastStep with | some t => (t : Rat) + 80 | none => 0)
  let s := s.updMotion n (fun m =>
    { m with
      p := m.p + d
      issued := if m.state = .stepf then m.issued + d else m.issued
      paceAt := if m.state = .stepf then some pace else none
      pulseFirst := false
      lastStep := some T
      lastDir := d
      steps := (T, d) :: m.steps
      still := false
      idleF := 0 })
  let m := s.motion.get n
  let s := s.ledgeStep n T
  let atLimit := (decide (0 < d) && decide (m.p = s.axI n 0x47)) || (decide (d < 0) && decide (m.p = s.axI n 0x46))
  let s := s.evIf (atLimit && (s.motion.get n).ledge.isSome) 0x0101 (b01 (decide (0 < d)))
  (((s.curMicro n T).wedgeMicro n T).cmpCount n 2 old m.p).divCount (0x20 + n.val) 1

/-- MICROSTEP: the instant `off` ticks after the boundary; it changes the position when a microstep is due. -/
def execMicrostep (n : Fin 4) (off : Nat) (s : State) : Host.Outcome State Fault Refusal :=
  let T := s.tickAt off
  .next (
    let s := s.stepSettle n T
    match s.stepDue n T with
    | none => s
    | some d =>
      let m := s.motion.get n
      if (0 < d ∧ s.axI n 0x47 ≤ m.p) ∨ (d < 0 ∧ m.p ≤ s.axI n 0x46) then s.stepBarred n d else s.stepIssue n d T)

end Sys2Proof.Machine
end

