-- ==== Sys2Proof/Machine/Pit.lean ====
section
/-! DEFINITION. The pit map: octree layers, static image, edits; the chain table (14). -/

namespace Sys2Proof.Machine

/-! ### Octrees (R419 to R424) -/

/-- Child `c` of a cell; a leaf's children are leaves of its kind. -/
def Oct.child : Oct → Nat → Oct
  | .node c0 c1 c2 c3 c4 c5 c6 c7, c =>
    (match c with | 0 => c0 | 1 => c1 | 2 => c2 | 3 => c3 | 4 => c4 | 5 => c5 | 6 => c6 | _ => c7)
  | o, _ => o

/-- A node from its children, merged where all are empty or all full. -/
def octMake (f : Nat → Oct) : Oct :=
  let l := (List.range 8).map f
  if l.all (fun o => o == .empty) then .empty
  else if l.all (fun o => o == .full) then .full
  else .node (f 0) (f 1) (f 2) (f 3) (f 4) (f 5) (f 6) (f 7)

/-- Node words, and children coded full; a layer that is one full cell counts as one leaf. -/
def Oct.nodes : Oct → Nat
  | .node c0 c1 c2 c3 c4 c5 c6 c7 =>
    1 + c0.nodes + c1.nodes + c2.nodes + c3.nodes + c4.nodes + c5.nodes + c6.nodes + c7.nodes
  | _ => 0
def Oct.leaves : Oct → Nat
  | .node c0 c1 c2 c3 c4 c5 c6 c7 =>
    c0.leaves + c1.leaves + c2.leaves + c3.leaves + c4.leaves + c5.leaves + c6.leaves + c7.leaves
  | .full => 1
  | .empty => 0

/-- Corner of child `c` of a cell of size 2^(d+1) voxels at `x`. -/
def kidAt (x : Int × Int × Int) (d c : Nat) : Int × Int × Int :=
  let e : Int := (2 ^ d : Nat)
  (x.1 + (c % 2 : Nat) * e, x.2.1 + (c / 2 % 2 : Nat) * e, x.2.2 + (c / 4 : Nat) * e)

/-- A cell of `e` voxels at `x` lies outside, or wholly inside, a range of voxels given by its first and last voxel. -/
def cellOut (x : Int × Int × Int) (e : Int) (r : Box) : Bool :=
  decide (r.hi.1 < x.1 ∨ x.1 + e ≤ r.lo.1 ∨ r.hi.2.1 < x.2.1 ∨ x.2.1 + e ≤ r.lo.2.1 ∨ r.hi.2.2 < x.2.2 ∨ x.2.2 + e ≤ r.lo.2.2)
def cellIn (x : Int × Int × Int) (e : Int) (r : Box) : Bool :=
  decide (r.lo.1 ≤ x.1 ∧ x.1 + e - 1 ≤ r.hi.1 ∧ r.lo.2.1 ≤ x.2.1 ∧ x.2.1 + e - 1 ≤ r.hi.2.1 ∧ r.lo.2.2 ≤ x.2.2 ∧ x.2.2 + e - 1 ≤ r.hi.2.2)

/-- Write a range of voxels in a cell of 2^d voxels at `x` (R424). -/
def Oct.paint : Nat → Oct → Int × Int × Int → Box → Oct → Oct
  | 0, o, x, r, v => if cellOut x 1 r then o else v
  | d + 1, o, x, r, v =>
    if cellOut x (2 ^ (d + 1) : Nat) r then o
    else if cellIn x (2 ^ (d + 1) : Nat) r then v
    else octMake (fun c => Oct.paint d (o.child c) (kidAt x d c) r v)

/-- Cells of the greedy decomposition of a range of voxels (R424). -/
def cellCount : Nat → Int × Int × Int → Box → Nat
  | 0, x, r => if cellOut x 1 r then 0 else 1
  | d + 1, x, r =>
    if cellOut x (2 ^ (d + 1) : Nat) r then 0
    else if cellIn x (2 ^ (d + 1) : Nat) r then 1
    else ((List.range 8).map (fun c => cellCount d (kidAt x d c) r)).foldl (· + ·) 0

/-- Effective occupancy of two layers (R419). -/
def Oct.or : Nat → Oct → Oct → Oct
  | 0, a, b => if a = .full ∨ b = .full then .full else .empty
  | d + 1, a, b =>
    if a = .full ∨ b = .full then .full
    else if a = .empty then b else if b = .empty then a
    else octMake (fun c => Oct.or d (a.child c) (b.child c))

/-- Full cells as boxes in mm: voxel edge `e`, minimum corner `o` of the map. -/
def Oct.boxes : Nat → Oct → Int × Int × Int → Int → Int × Int × Int → List Box
  | _, .empty, _, _, _ => []
  | d, .full, x, e, o =>
    let n : Int := (2 ^ d : Nat)
    [{ lo := (o.1 + x.1 * e, o.2.1 + x.2.1 * e, o.2.2 + x.2.2 * e)
       hi := (o.1 + (x.1 + n) * e, o.2.1 + (x.2.1 + n) * e, o.2.2 + (x.2.2 + n) * e) }]
  | 0, .node .., _, _, _ => []
  | d + 1, o', x, e, o => (List.range 8).flatMap (fun c => Oct.boxes d (o'.child c) (kidAt x d c) e o)

/-! ### The map as a whole -/

/-- Voxel edge in mm. -/
def PlanSt.edge (p : PlanSt) : Int := (10 * p.vox : Nat)

/-- The cube in mm. -/
def PlanSt.cube (p : PlanSt) : Box :=
  let s := p.edge * (2 ^ p.depth : Nat)
  { lo := p.origin, hi := (p.origin.1 + s, p.origin.2.1 + s, p.origin.2.2 + s) }

def PlanSt.occ (p : PlanSt) : Oct := Oct.or p.depth p.stat p.dyn

def boxHits (a b : Box) : Bool :=
  decide (a.lo.1 ≤ b.hi.1 ∧ b.lo.1 ≤ a.hi.1 ∧ a.lo.2.1 ≤ b.hi.2.1 ∧ b.lo.2.1 ≤ a.hi.2.1 ∧ a.lo.2.2 ≤ b.hi.2.2 ∧ b.lo.2.2 ≤ a.hi.2.2)

def boxJoin (a b : Box) : Box :=
  { lo := (min a.lo.1 b.lo.1, min a.lo.2.1 b.lo.2.1, min a.lo.2.2 b.lo.2.2)
    hi := (max a.hi.1 b.hi.1, max a.hi.2.1 b.hi.2.1, max a.hi.2.2 b.hi.2.2) }

/-- First and last voxel along one axis of a box edge [lo, hi] in mm from the map's corner: the voxels that meet it, faces
included, or those wholly inside (R419, R424). -/
def voxRange (cover : Bool) (e n lo hi : Int) : Int × Int :=
  if cover then (max 0 (-((-lo) / e) - 1), min (n - 1) (hi / e))
  else (max 0 (-((-lo) / e)), min (n - 1) (hi / e - 1))

/-- The voxels of an edit's box. DESIGN CHOICE (log entry 32): an empty map has none. -/
def PlanSt.voxels (p : PlanSt) (cover : Bool) (b : Box) : Box :=
  if !p.loaded then { lo := (0, 0, 0), hi := (-1, -1, -1) } else
  let n : Int := (2 ^ p.depth : Nat)
  let e := p.edge
  let x := voxRange cover e n (b.lo.1 - p.origin.1) (b.hi.1 - p.origin.1)
  let y := voxRange cover e n (b.lo.2.1 - p.origin.2.1) (b.hi.2.1 - p.origin.2.1)
  let z := voxRange cover e n (b.lo.2.2 - p.origin.2.2) (b.hi.2.2 - p.origin.2.2)
  { lo := (x.1, y.1, z.1), hi := (x.2, y.2, z.2) }

/-- The range holds a voxel. -/
def rangeAny (r : Box) : Bool := decide (r.lo.1 ≤ r.hi.1 ∧ r.lo.2.1 ≤ r.hi.2.1 ∧ r.lo.2.2 ≤ r.hi.2.2)

/-- Box of the cells written, in mm (R426). -/
def PlanSt.writtenBox (p : PlanSt) (r : Box) : Box :=
  let e := p.edge
  let o := p.origin
  { lo := (o.1 + r.lo.1 * e, o.2.1 + r.lo.2.1 * e, o.2.2 + r.lo.2.2 * e)
    hi := (o.1 + (r.hi.1 + 1) * e, o.2.1 + (r.hi.2.1 + 1) * e, o.2.2 + (r.hi.2.2 + 1) * e) }

/-- The dynamic layer after an edit of operation `op` over a range of voxels. -/
def PlanSt.edited (p : PlanSt) (op : Nat) (r : Box) : Oct :=
  if op = 2 then .empty
  else if !rangeAny r then p.dyn
  else p.dyn.paint p.depth (0, 0, 0) r (if op = 0 then .full else .empty)

def PlanSt.cellsOf (p : PlanSt) (op : Nat) (r : Box) : Nat :=
  if op = 2 ∨ !rangeAny r then 0 else cellCount p.depth (0, 0, 0) r

/-! ### Static image (R420, R421) -/

/-- What reading a subtree gives: the cell, the words left, its full children, the index of the next node; or the index of the
node that breaks R421. -/
inductive ParseOut where
  | bad (i : Nat)
  | ok (o : Oct) (rest : List Nat) (full idx : Nat)
deriving DecidableEq, Repr

/-- Read the eight children of a node word, mixed ones by `sub`. -/
def readKids (sub : List Nat → Nat → ParseOut) (i w : Nat) (mayMix : Bool) :
    List Nat → List Oct → List Nat → Nat → Nat → ParseOut
  | [], acc, rest, full, idx =>
    if acc.all (fun o => o == .empty) || acc.all (fun o => o == .full) then .bad i
    else .ok (octMake (fun c => acc.getD c .empty)) rest full idx
  | c :: cs, acc, rest, full, idx =>
    match w / 4 ^ c % 4 with
    | 0 => readKids sub i w mayMix cs (acc ++ [.empty]) rest full idx
    | 1 => readKids sub i w mayMix cs (acc ++ [.full]) rest (full + 1) idx
    | 2 =>
      if !mayMix then .bad i
      else (match sub rest idx with
        | .bad k => .bad k
        | .ok o r f k => readKids sub i w mayMix cs (acc ++ [o]) r (full + f) k)
    | _ => .bad i

/-- Read a node with `d` levels below it, in pre-order. -/
def readNode : Nat → List Nat → Nat → ParseOut
  | 0, _, i => .bad i
  | _ + 1, [], i => .bad i
  | d + 1, w :: rest, i => readKids (readNode d) i w (decide (0 < d)) [0, 1, 2, 3, 4, 5, 6, 7] [] rest 0 (i + 1)

/-- Findings of a staged image, and the static layer of a valid one. -/
def readImage (f : List Byte) (given : Nat) : List Finding × Oct :=
  let n := get32 f 20
  let body := f.drop 32
  let depth := getB f 6
  let vox := getB f 7
  let head :=
    fnd (get32 f 0 != 0x5449504B) 2 0x0508 0 ++ fnd (get16 f 4 != 1) 2 0x0508 1 ++
    fnd (given != 32 + 2 * n) 2 0x0508 2 ++ fnd (get32 f 28 != crc32 (f.take 28 ++ body)) 2 0x0508 3
  if !head.isEmpty then (head, .empty)
  else if depth = 0 ∨ 9 < depth ∨ vox = 0 ∨ 64 < vox ∨ n = 0 ∨ 262144 < n ∨ 262144 < get32 f 24 then
    ([{ stage := 2, code := 0x0509, qual := 0 }], .empty)
  else match readNode depth ((List.range n).map (fun i => get16 body (2 * i))) 0 with
    | .bad i => ([{ stage := 2, code := 0x0509, qual := min 0xFFFE i }], .empty)
    | .ok o rest full i =>
      if !rest.isEmpty ∨ full ≠ get32 f 24 then ([{ stage := 2, code := 0x0509, qual := min 0xFFFE i }], .empty)
      else ([], o)

/-! ### Chain table (Table PLAN-4, R427) -/

def chainSize : Nat := 672

/-- Fields in ascending order: offset, and whether the field is within its range. -/
def chainChecks (f : List Byte) : List (Nat × Bool) :=
  let nj := getB f 6
  let nc := getB f 7
  let zero (a n : Nat) : List (Nat × Bool) := (List.range n).map (fun i => (a + i, getB f (a + i) == 0))
  let yaw := sgn 16 (get16 f 28)
  let axisOf (j : Nat) := getB f (32 + 32 * j)
  [(6, decide (1 ≤ nj ∧ nj ≤ 4)), (7, decide (1 ≤ nc ∧ nc ≤ 16)), (28, decide (-18000 ≤ yaw ∧ yaw ≤ 17999))] ++ zero 30 2 ++
  ((List.range 4).flatMap (fun j =>
    if j < nj then
      [(32 + 32 * j, decide (axisOf j < 4) && !(List.range j).any (fun i => axisOf i == axisOf j)),
       (33 + 32 * j, decide (getB f (33 + 32 * j) < 2)), (34 + 32 * j, decide (getB f (34 + 32 * j) < 6)),
       (35 + 32 * j, getB f (35 + 32 * j) == 0), (48 + 32 * j, decide (0x10000 ≤ get32 f (48 + 32 * j)))] ++ zero (56 + 32 * j) 8
    else zero (32 + 32 * j) 32)) ++
  ((List.range 16).flatMap (fun i =>
    if i < nc then
      [(160 + 32 * i, decide (getB f (160 + 32 * i) ≤ nj)), (162 + 32 * i, get16 f (162 + 32 * i) == 0),
       (188 + 32 * i, decide (1 ≤ get32 f (188 + 32 * i) ∧ get32 f (188 + 32 * i) ≤ 5000))]
    else zero (160 + 32 * i) 32))

/-- Findings of a chain table file (SV-0x050C, SV-0x050D). -/
def chainFindings (f : List Byte) : List Finding :=
  fnd (get32 f 0 != 0x4E48434B) 2 0x050C 0 ++ fnd (get16 f 4 != 1) 2 0x050C 1 ++
  fnd (get32 f 12 != crc32 (f.take 12 ++ f.drop 16)) 2 0x050C 2 ++
  (match (chainChecks f).find? (fun c => !c.2) with
   | some c => [{ stage := 2, code := 0x050D, qual := c.1 }]
   | none => [])

def vecAt (f : List Byte) (a : Nat) : Int × Int × Int := (sgn 32 (get32 f a), sgn 32 (get32 f (a + 4)), sgn 32 (get32 f (a + 8)))

/-- The chain table that a valid file holds. -/
def chainOf (f : List Byte) : Chain :=
  { bytes := f
    joints := (List.range (getB f 6)).map (fun j =>
      { axis := getB f (32 + 32 * j), kind := getB f (33 + 32 * j), dir := getB f (34 + 32 * j), offset := vecAt f (36 + 32 * j),
        scale := get32 f (48 + 32 * j), zero := sgn 32 (get32 f (52 + 32 * j)) })
    caps := (List.range (getB f 7)).map (fun i =>
      { link := getB f (160 + 32 * i), group := getB f (161 + 32 * i), a := vecAt f (164 + 32 * i), b := vecAt f (176 + 32 * i),
        radius := get32 f (188 + 32 * i) }) }

end Sys2Proof.Machine
end

