-- ==== Sys2Proof/Machine/Plan.lean ====
section
/-! DEFINITION. Edges as they will run, the path query, the roadmap, roads (14, R429 to R444). -/

namespace Sys2Proof.Machine

/-- What an edge and a query are judged against. -/
structure PlanCtx where
  chain  : Chain
  w      : List Rat
  twoRes : Nat
  margin : Nat
  cube   : Box
  full   : List Box
  lim    : List Limits
  sync   : Bool
  step   : Nat

/-! ### Weights (R429) -/

def vecLen (v : Int × Int × Int) : Rat := ratSqrt ((v.1 * v.1 + v.2.1 * v.2.1 + v.2.2 * v.2.2 : Int) : Rat)

/-- Reach of joint j in mm. -/
def Chain.reach (c : Chain) (j : Nat) : Rat :=
  ((c.joints.drop (j + 1)).map (fun x => vecLen x.offset)).foldl (· + ·) 0 +
  ((c.caps.filter (fun k => decide (j + 1 ≤ k.link))).map (fun k => max (vecLen k.a) (vecLen k.b) + (k.radius : Rat))).foldl max 0

def Chain.weights (c : Chain) : List Rat :=
  (List.range c.joints.length).map (fun j =>
    match c.joints[j]? with
    | some x => if x.kind = 0 then c.reach j * piRat * 65536 / (18000 * (x.scale : Rat)) else mkRat 65536 x.scale
    | none => 0)

/-- Weighted length between two configurations. -/
def PlanCtx.len (c : PlanCtx) (a b : List Int) : Rat :=
  ((List.range c.w.length).map (fun j => c.w.getD j 0 * ((a.getD j 0 - b.getD j 0).natAbs : Rat))).foldl (· + ·) 0

/-! ### Profiles of an edge (R431) -/

def phasesOf (l : Limits) (a b : Int) : List Phase := fromRest ((b - a : Int) : Rat) (rawV l.vmax) l.acc l.dec l.jerk

/-- Limits of an axis whose own duration `tj` is stretched to `t`, rounded down to raw values. -/
def stretch (l : Limits) (tj t : Rat) : Limits :=
  let k := tj / t
  { vmax := (Rat.floor ((l.vmax : Rat) * k)).toNat
    acc := max 1 (Rat.floor ((l.acc : Rat) * k * k)).toNat
    dec := max 1 (Rat.floor ((l.dec : Rat) * k * k)).toNat
    jerk := (Rat.floor ((l.jerk : Rat) * k * k * k)).toNat }

/-- Limits with which every chain axis runs the edge from `a` to `b`, those of a quicker axis stretched. -/
def edgeLimits (lim : List Limits) (sync : Bool) (a b : List Int) : List Limits :=
  let n := lim.length
  let l0 : Limits := ⟨0, 1, 1, 0⟩
  let own := (List.range n).map (fun j => phasesTime (phasesOf (lim.getD j l0) (a.getD j 0) (b.getD j 0)))
  let t := own.foldl max 0
  (List.range n).map (fun j =>
    let tj := own.getD j 0
    if sync && decide (0 < tj) && decide (tj < t) then stretch (lim.getD j l0) tj t else lim.getD j l0)

/-- Phases of every chain axis on the edge from `a` to `b`. -/
def edgePhases (lim : List Limits) (sync : Bool) (a b : List Int) : List (List Phase) :=
  let l := edgeLimits lim sync a b
  (List.range l.length).map (fun j => phasesOf (l.getD j ⟨0, 1, 1, 0⟩) (a.getD j 0) (b.getD j 0))

/-- Microsteps that a profile over distance `d` has made by tick `T` (R207, R627). -/
def stepsAt (ph : List Phase) (d : Int) (T : Nat) : Int :=
  let x := (runPhases ph 0 0 ((T : Rat) / tickHz)).1
  let y := (runPhases ph 0 0 (((T : Rat) + 1 / 2) / tickHz))
  let mag (v : Rat) : Rat := if v < 0 then -v else v
  if y.2.2.2 then d
  else
    let n := max (Rat.floor (mag x)) (Rat.ceil (mag y.1) - 1)
    let n := min (d.natAbs : Int) (max 0 n)
    if d < 0 then -n else n

/-- Configuration that the engines hold at tick `T` of an edge. -/
def configAt (phs : List (List Phase)) (a b : List Int) (T : Nat) : List Int :=
  (List.range phs.length).map (fun j => a.getD j 0 + stepsAt (phs.getD j []) (b.getD j 0 - a.getD j 0) T)

/-- First tick at which a profile over distance `d` has made `k` microsteps. -/
def tickOf (ph : List Phase) (d k : Int) : Nat :=
  if k = 0 then 0 else bisect (fun T => decide ((stepsAt ph d T).natAbs < k.natAbs)) 64 0 ((Rat.ceil (phasesTime ph * tickHz)).toNat + 1) + 1

/-- Tick of the last microstep of the slowest axis. -/
def edgeEnd (phs : List (List Phase)) (a b : List Int) : Nat :=
  let top := (Rat.ceil ((phs.map phasesTime).foldl max 0 * tickHz)).toNat + 1
  let q := fit phs.length 0 b
  if configAt phs a b 0 = q then 0 else bisect (fun T => configAt phs a b T != q) 64 0 top + 1

/-! ### Checking an edge (R430, R432, R433) -/

def tup (b : Box) : (Int × Int × Int) × (Int × Int × Int) := (b.lo, b.hi)

def PlanCtx.free (c : PlanCtx) (q : List Int) : Bool :=
  Config.cfgFree c.chain.bytes c.twoRes c.margin (tup c.cube) (c.full.map tup) q

/-- Check instants after `T`: each the latest at which the weighted travel does not exceed r. -/
def PlanCtx.instants (c : PlanCtx) (phs : List (List Phase)) (a b : List Int) (e : Nat) : Nat → Nat → List Nat
  | 0, _ => [e]
  | k + 1, T =>
    if e ≤ T then []
    else
      let q := configAt phs a b T
      let n := max (T + 1) (bisect (fun t => decide (2 * c.len (configAt phs a b t) q ≤ (c.twoRes : Rat))) 64 T (e + 1))
      n :: c.instants phs a b e k n

/-- Check instants of an edge with the configurations held there. -/
def PlanCtx.checks (c : PlanCtx) (a b : List Int) : List (Nat × List Int) :=
  let phs := edgePhases c.lim c.sync a b
  let e := edgeEnd phs a b
  let fuel := ((List.range phs.length).map (fun j => (b.getD j 0 - a.getD j 0).natAbs)).foldl (· + ·) 1
  (0 :: c.instants phs a b e fuel 0).map (fun t => (t, configAt phs a b t))

/-- The edge from tick `lo` to tick `hi` of its own time is free, checked at instants that begin at `lo` (R432, R452). -/
def PlanCtx.partFree (c : PlanCtx) (a b : List Int) (lo hi : Nat) : Bool :=
  let phs := edgePhases c.lim c.sync a b
  let e := min (edgeEnd phs a b) hi
  let t := min lo e
  let fuel := ((List.range phs.length).map (fun j => (b.getD j 0 - a.getD j 0).natAbs)).foldl (· + ·) 1
  (t :: c.instants phs a b e fuel t).all (fun t => c.free (configAt phs a b t))

def PlanCtx.edgeFree (c : PlanCtx) (a b : List Int) : Bool := (c.checks a b).all (fun x => c.free x.2)

/-- Swept box of an edge (R433). -/
def PlanCtx.swept (c : PlanCtx) (a b : List Int) : Box :=
  let box (q : List Int) : Box :=
    let x := Config.cfgBox c.chain.bytes c.twoRes c.margin q
    { lo := x.1, hi := x.2 }
  (c.checks a b).foldl (fun m x => boxJoin m (box x.2)) (box a)

/-- Length of a segment in frames with the haul clock at 1 (R444). -/
def segFrames (lim : List Limits) (sync : Bool) (a b : List Int) : Nat :=
  cdiv (edgeEnd (edgePhases lim sync a b) a b) 10000

/-! ### Random numbers and charges (R435, R436, Table PLAN-5) -/

/-- A search under way: random state and iterations charged. -/
structure Search where
  x : Nat
  n : Nat

def Search.draw (s : Search) (k : Nat) : Nat × Search :=
  let x := (s.x * 6364136223846793005 + 1442695040888963407) % 2 ^ 64
  (x / 2 ^ 32 * k / 2 ^ 32, { s with x := x })

def Search.charge (s : Search) (k : Nat) : Search := { s with n := s.n + k }

/-- Charge of checking an edge outside extend. -/
def PlanCtx.charge (c : PlanCtx) (a b : List Int) : Nat := max 1 (Rat.ceil (c.len a b / (max 1 c.step : Nat))).toNat

/-! ### Trees (R436) -/

abbrev Tree := List (List Int × Nat)

/-- Index of the nearest node; ties go to the lower index. -/
def PlanCtx.nearest (c : PlanCtx) (t : Tree) (q : List Int) : Nat :=
  ((List.range t.length).foldl (fun (m : Nat × Option Rat) i =>
    let d := c.len (t.getD i ([], 0)).1 q
    match m.2 with
    | none => (i, some d)
    | some b => if d < b then (i, some d) else m) (0, none)).1

/-- From `a` toward `q` by at most plan.step, each coordinate rounded toward `a`. -/
def PlanCtx.toward (c : PlanCtx) (a q : List Int) : List Int :=
  let l := c.len a q
  if l ≤ (c.step : Rat) then q
  else (List.range c.w.length).map (fun j =>
    let d := q.getD j 0 - a.getD j 0
    let m := (Rat.floor ((d.natAbs : Rat) * (c.step : Rat) / l)).toNat
    a.getD j 0 + (if d < 0 then -(m : Int) else (m : Int)))

def PlanCtx.extend (c : PlanCtx) (t : Tree) (q : List Int) : Tree × Option (List Int) :=
  let i := c.nearest t q
  let a := (t.getD i ([], 0)).1
  let b := c.toward a q
  if c.edgeFree a b then (t ++ [(b, i)], some b) else (t, none)

/-- Nodes from index `i` back to the root. -/
def routeBack (t : Tree) : Nat → Nat → List (List Int)
  | 0, _ => []
  | k + 1, i =>
    let x := t.getD i ([], 0)
    if i = 0 then [x.1] else x.1 :: routeBack t k x.2

/-- Outcome of a query: Table PLAN-12 status, path, search. -/
structure QueryOut where
  status : Nat
  path   : List (List Int)
  search : Search

/-- Extend the other tree toward `a` until it fails or arrives; none when the cap is spent. -/
def PlanCtx.connect (c : PlanCtx) (cap : Nat) (a : List Int) : Nat → Tree → Search → Option (Tree × Bool × Search)
  | 0, _, _ => none
  | k + 1, t, s =>
    if cap ≤ s.n then none
    else
      let r := c.extend t a
      match r.2 with
      | none => some (r.1, false, s.charge 1)
      | some b => if b = a then some (r.1, true, s.charge 1) else c.connect cap a k r.1 (s.charge 1)

/-- One sample toward `target` or within the Ledge limits. -/
def sample (bias : Nat) (target : List Int) (bounds : List (Int × Int)) (s : Search) : List Int × Search :=
  let d := s.draw 100
  if d.1 < bias then (target, d.2)
  else bounds.foldl (fun (a : List Int × Search) b =>
    let x := a.2.draw (b.2 - b.1 + 1).toNat
    (a.1 ++ [b.1 + (x.1 : Int)], x.2)) ([], d.2)

/-- The loop over two trees. `swapped`: the first tree is rooted at the goal. -/
def PlanCtx.grow (c : PlanCtx) (cap bias : Nat) (bounds : List (Int × Int)) (st gl : List Int) :
    Nat → Bool → Tree → Tree → Search → QueryOut
  | 0, _, _, _, s => ⟨3, [], s⟩
  | k + 1, swapped, ta, tb, s =>
    if cap ≤ s.n then ⟨3, [], s⟩
    else
      let q := sample bias (if swapped then st else gl) bounds s
      let r := c.extend ta q.1
      let s := q.2.charge 1
      match r.2 with
      | none => c.grow cap bias bounds st gl k (!swapped) tb r.1 s
      | some a =>
        match c.connect cap a (cap + 1) tb s with
        | none => ⟨3, [], s⟩
        | some (tb', hit, s) =>
          if hit then
            let pa := (routeBack r.1 r.1.length (r.1.length - 1)).reverse
            let pb := (routeBack tb' tb'.length (tb'.length - 1)).drop 1
            let p := pa ++ pb
            ⟨0, if swapped then p.reverse else p, s⟩
          else c.grow cap bias bounds st gl k (!swapped) tb' r.1 s

/-! ### Roadmap search (R436, R441) -/

/-- The k nearest roadmap nodes of `q`. -/
def PlanCtx.near (c : PlanCtx) (nodes : List (List Int)) (k : Nat) (q : List Int) : List (List Int) :=
  (sortBy (fun a b => decide (c.len a q < c.len b q)) nodes).take k

/-- Try the edges of one end to its nearest nodes. -/
def PlanCtx.attach (c : PlanCtx) (cap : Nat) (q : List Int) :
    List (List Int) → List (List Int × List Int) → Search → Option (List (List Int × List Int) × Search)
  | [], acc, s => some (acc, s)
  | v :: r, acc, s =>
    let s := s.charge (c.charge q v)
    if cap < s.n then none
    else c.attach cap q r (if c.edgeFree q v then acc ++ [(q, v)] else acc) s

/-- One round of relaxation of the routes from the start: configuration, duration, route reversed. -/
def relax (edges : List (List Int × List Int × Nat)) (l : List (List Int × Nat × List (List Int))) :
    List (List Int × Nat × List (List Int)) :=
  let go (l : List (List Int × Nat × List (List Int))) (a b : List Int) (d : Nat) :=
    match l.find? (fun x => x.1 == a) with
    | none => l
    | some x =>
      match l.find? (fun y => y.1 == b) with
      | none => l ++ [(b, x.2.1 + d, b :: x.2.2)]
      | some y => if x.2.1 + d < y.2.1 then l.map (fun z => if z.1 = b then (b, x.2.1 + d, b :: x.2.2) else z) else l
  edges.foldl (fun l e => go (go l e.1 e.2.1 e.2.2) e.2.1 e.1 e.2.2) l

/-- Shortest route by duration over a set of edges. -/
def PlanCtx.route (c : PlanCtx) (edges : List (List Int × List Int)) (st gl : List Int) : Option (List (List Int)) :=
  let es := edges.map (fun e => (e.1, e.2, edgeEnd (edgePhases c.lim c.sync e.1 e.2) e.1 e.2))
  let l := (List.range (edges.length + 1)).foldl (fun l _ => relax es l) [(st, 0, [st])]
  (l.find? (fun x => x.1 == gl)).map (fun x => x.2.2.reverse)

/-! ### The whole query (R436) -/

/-- Shorten a path by attempts that remove the waypoints between two. -/
def PlanCtx.shortcut (c : PlanCtx) (cap : Nat) : Nat → List (List Int) → Search → QueryOut
  | 0, p, s => ⟨0, p, s⟩
  | k + 1, p, s =>
    let m := p.length
    if m < 3 then ⟨0, p, s⟩
    else
      let d := s.draw (m - 2)
      let i := d.1
      let e := d.2.draw (m - i - 2)
      let j := i + 2 + e.1
      let a := p.getD i []
      let b := p.getD j []
      let s := e.2.charge (c.charge a b)
      if cap < s.n then ⟨3, [], s⟩
      else c.shortcut cap k (if c.edgeFree a b then p.take (i + 1) ++ p.drop j else p) s

/-- The search before the shortcuts. -/
def PlanCtx.search (c : PlanCtx) (q : Query) (cap : Nat) (bounds : List (Int × Int)) (useMap : Bool) : QueryOut :=
  let st := q.from_
  let gl := q.goal
  let s : Search := ⟨q.seed.toNat, 0⟩
  if !c.free st then ⟨1, [], s⟩
  else if !c.free gl then ⟨2, [], s⟩
  else
    let s := s.charge (c.charge st gl)
    if cap < s.n then ⟨3, [], s⟩
    else if c.edgeFree st gl then ⟨0, [st, gl], s⟩
    else
      let grow (s : Search) : QueryOut :=
        c.grow cap q.bias bounds st gl (cap + 1) false [(st, 0)] [(gl, 0)] s
      if !useMap then grow s
      else
        let nodes := q.nodes.map (·.1)
        match c.attach cap st (c.near nodes q.kNear st) [] s with
        | none => ⟨3, [], { s with n := cap }⟩
        | some (ea, s) =>
          match c.attach cap gl (c.near nodes q.kNear gl) [] s with
          | none => ⟨3, [], { s with n := cap }⟩
          | some (eb, s) =>
            let es := (q.edges.filter (·.checked)).map (fun e => (e.a, e.b)) ++ ea ++ eb
            let s := s.charge (cdiv es.length 64)
            if cap < s.n then ⟨3, [], s⟩
            else match c.route es st gl with
              | some p => ⟨0, p, s⟩
              | none => grow s

/-- The query's result; a path too long for a road keeps its path for the roadmap (R436). -/
def PlanCtx.query (c : PlanCtx) (q : Query) (cap : Nat) (bounds : List (Int × Int)) (useMap : Bool) : QueryOut :=
  let r := c.search q cap bounds useMap
  if r.status ≠ 0 then r
  else
    let r := c.shortcut cap q.shortN r.path r.search
    if r.status = 0 ∧ 64 < r.path.length then { r with status := 7 } else r

/-! ### Roads (R434, R443, R444) -/

def waypointBytes (p : List (List Int)) : List Byte := p.flatMap (fun q => (fit 4 0 q).flatMap leS32)
def limitBytes (l : List Limits) : List Byte := l.flatMap (fun x => le32 x.vmax ++ le32 x.acc ++ le32 x.dec ++ le32 x.jerk)

/-- Road hash. -/
def roadHash (r : Road) : Nat := crc32 (waypointBytes r.points ++ limitBytes r.limits)

/-- Consecutive waypoints. -/
def segmentsOf (p : List (List Int)) : List (List Int × List Int) := p.zip (p.drop 1)

/-- Duration of a road in frames. -/
def roadFrames (lim : List Limits) (sync : Bool) (dwell : Nat) (p : List (List Int)) : Nat :=
  let segs := segmentsOf p
  (segs.map (fun e => segFrames lim sync e.1 e.2)).foldl (· + ·) 0 + dwell * (segs.length - 1)

/-! ### The context of the device -/

/-- Twice the check resolution in mm (R430). -/
def State.planRes (s : State) : Nat := if s.par 0x5001 = 0 then s.plan.vox * 10 else 2 * s.par 0x5001

/-- The context for a chain, an occupancy and captured limits. -/
def State.planCtx (s : State) (c : Chain) (occ : Oct) (lim : List Limits) : PlanCtx :=
  { chain := c, w := c.weights, twoRes := s.planRes, margin := s.par 0x5002, cube := s.plan.cube,
    full := Oct.boxes s.plan.depth occ (0, 0, 0) s.plan.edge s.plan.origin, lim := lim, sync := s.par 0x5009 == 1, step := s.par 0x5003 }

/-- Limits of the chain axes as captured now (R431). -/
def State.captureLimits (s : State) (c : Chain) : List Limits :=
  c.joints.map (fun j =>
    let n : Fin 4 := Fin.ofNat 4 j.axis
    { vmax := s.ax n 0x41, acc := s.ax n 0x42, dec := s.ax n 0x43, jerk := s.ax n 0x44 })

def State.chainPos (s : State) (c : Chain) : List Int := c.joints.map (fun j => (s.motion.get (Fin.ofNat 4 j.axis)).p)

def State.chainBounds (s : State) (c : Chain) : List (Int × Int) :=
  c.joints.map (fun j => let n : Fin 4 := Fin.ofNat 4 j.axis; (s.axI n 0x46, s.axI n 0x47))

def chainAxes (c : Chain) : List (Fin 4) := c.joints.map (fun j => Fin.ofNat 4 j.axis)

end Sys2Proof.Machine
end

