-- ==== Sys2Proof/Machine/Haul.lean ====
section
/-! DEFINITION. Planner commands and events: map, edits, chain table, queries, runs (14). -/

namespace Sys2Proof.Machine

def State.updPlan (s : State) (f : PlanSt → PlanSt) : State := { s with plan := f s.plan }

/-- A PLAN_RUN is in flight. -/
def State.runOn (s : State) : Bool := s.plan.run.isSome

def State.updRun (s : State) (f : Run → Run) : State := s.updPlan (fun p => { p with run := p.run.map f })

/-! ### Roadmap (R441, R442) -/

def PlanSt.rmChanged (p : PlanSt) : PlanSt := { p with rmVer := p.rmVer + 1 }

/-- Clear the roadmap. -/
def PlanSt.rmClear (p : PlanSt) : PlanSt :=
  if p.nodes.isEmpty && p.edges.isEmpty then p else { p with nodes := [], edges := [] }.rmChanged

/-- The node with the fewest uses, the lower index among equals. -/
def leastUsed (l : List (List Int × Nat)) : Nat :=
  ((List.range l.length).foldl (fun (m : Nat × Option Nat) i =>
    let u := (l.getD i ([], 0)).2
    match m.2 with
    | none => (i, some u)
    | some b => if u < b then (i, some u) else m) (0, none)).1

/-- Add a configuration as a node, merging an equal one; a full store first loses its least used node and that node's edges. -/
def State.rmNode (s : State) (q : List Int) : State :=
  let p := s.plan
  if p.nodes.any (fun n => n.1 == q) then
    s.updPlan (fun p => { p with nodes := p.nodes.map (fun n => if n.1 = q then (n.1, n.2 + 1) else n) })
  else if p.nodes.length < s.par 0x5006 then s.updPlan (fun p => { p with nodes := p.nodes ++ [(q, 1)] })
  else
    let i := leastUsed p.nodes
    let v := (p.nodes.getD i ([], 0)).1
    let t := s.updPlan (fun p =>
      { p with
        nodes := p.nodes.eraseIdx i ++ [(q, 1)]
        edges := p.edges.filter (fun e => e.a != v && e.b != v)
        rmSeen := true })
    if p.rmSeen then t else t.evFree 0x0507

/-- Add a checked edge where the store has room and none joins the same nodes. -/
def State.rmEdge (s : State) (c : PlanCtx) (a b : List Int) : State :=
  let p := s.plan
  let known := p.edges.any (fun e => (e.a == a && e.b == b) || (e.a == b && e.b == a))
  let ends := p.nodes.any (fun n => n.1 == a) && p.nodes.any (fun n => n.1 == b)
  if known || !ends || decide (4 * s.par 0x5006 ≤ p.edges.length) then s
  else s.updPlan (fun p => { p with edges := p.edges ++ [{ a := a, b := b, box := c.swept a b, checked := true }] })

/-- A query that found a path adds it to the roadmap. -/
def State.rmLearn (s : State) (c : PlanCtx) (path : List (List Int)) : State :=
  let t := path.foldl (fun t q => t.rmNode q) s
  let t := (segmentsOf path).foldl (fun t e => t.rmEdge c e.1 e.2) t
  if t.plan.nodes.map (·.1) = s.plan.nodes.map (·.1) ∧ t.plan.edges = s.plan.edges then t else t.updPlan PlanSt.rmChanged

/-- Maintenance checks one unchecked edge again in each frame, in ascending index (R442; log entry 21). -/
def State.rmMaintain (s : State) : State :=
  match s.plan.chain, s.plan.edges.findIdx? (fun e => !e.checked) with
  | some ch, some i =>
    (match s.plan.edges[i]? with
     | some e =>
       let c := s.planCtx ch s.plan.occ s.plan.rmLimits
       let ok := c.edgeFree e.a e.b
       s.updPlan (fun p => { p with
         edges := if ok then updAt p.edges i (fun e => { e with checked := true }) else p.edges.eraseIdx i }.rmChanged)
     | none => s)
  | _, _ => s

/-! ### Queries (R436 to R440) -/

/-- Table PLAN-12. -/
def State.queryResult (s : State) (q : Query) (status n way frames hash : Nat) : List Byte :=
  b8 status ++ b8 way ++ [0, 0] ++ le32 n ++ le32 frames ++ le32 q.mapVer.toNat ++ le32 q.rmVer.toNat ++ le32 hash
    ++ le32 (s.frame.counter - q.active).toNat ++ le16 (min 0xFFFF (q.active - q.taken).toNat) ++ [0, 0]

/-- Complete a PLAN_QUERY with a status that is not FOUND. -/
def State.queryEnds (s : State) (q : Query) (status n : Nat) : State :=
  if s.stage q.hop == .started then s.doneWith q.hop (s.queryResult q status n 0 0 0) else s

/-- End the active query before it finished: how many iterations it had been charged is a free value. -/
def State.dropActive (s : State) (status : Nat) : State :=
  match s.plan.active with
  | none => s
  | some q =>
    let x := s.fresh
    (x.2.updPlan (fun p => { p with active := none, lastEnd := some s.frame.counter })).queryEnds q status (x.1 % (s.par (0x5010 + 2 * q.cls) + 1))

/-- End every query with status ABORTED. -/
def State.abortQueries (s : State) : State :=
  let s := s.dropActive 6
  let l := s.plan.queue
  l.foldl (fun t q => t.queryEnds { q with active := t.frame.counter } 6 0) (s.updPlan (fun p => { p with queue := [] }))

/-- QUERY_ACTIVATION: at a boundary after its taking and after the end of the query before it, the first queued query becomes active and latches its start, its map and its limits (R431, R434, R438). -/
def execQueryActivation (s : State) : Host.Outcome State Fault Refusal :=
  .next (State.settle (
    match s.plan.active, s.plan.queue, s.plan.chain with
    | none, q :: r, some ch =>
      if q.taken = s.frame.counter ∨ s.plan.lastEnd = some s.frame.counter then s else
      let lim := s.captureLimits ch
      let s := s.updPlan (fun p =>
        { (if p.rmLimits = lim then p else p.rmClear) with queue := r, rmLimits := lim })
      let q : Query :=
        { q with
          active := s.frame.counter
          limits := lim
          mapVer := s.plan.version
          rmVer := s.plan.rmVer
          bias := s.par 0x5004
          kNear := s.par 0x5007
          shortN := s.par 0x5008
          occ := s.plan.occ
          nodes := s.plan.nodes
          edges := s.plan.edges }
      (match q.start with
       | 0 =>
         if (chainAxes ch).all (fun n => (s.motion.get n).still) then
           s.updPlan (fun p => { p with active := some { q with from_ := s.chainPos ch } })
         else (s.updPlan (fun p => { p with lastEnd := some s.frame.counter })).queryEnds q 5 0
       | 1 => s.updPlan (fun p => { p with active := some { q with from_ := q.given } })
       | _ =>
         (match s.plan.roads.get (Fin.ofNat 4 q.startSlot) with
          | some rd => s.updPlan (fun p => { p with active := some { q with from_ := rd.points.getLastD [] } })
          | none => (s.updPlan (fun p => { p with lastEnd := some s.frame.counter })).queryEnds q 8 0))
    | _, _, _ => s))

/-- QUERY_END: the active query finishes; its status, road and iterations are those of R436. -/
def execQueryEnd (s : State) : Host.Outcome State Fault Refusal :=
  .next (State.settle (
    match s.plan.active, s.plan.chain with
    | some q, some ch =>
      let c := s.planCtx ch q.occ q.limits
      let cap := s.par (0x5010 + 2 * q.cls)
      let useMap := s.par 0x5005 == 1
      let r := c.query q cap (s.chainBounds ch) (useMap && !q.noMap)
      let n := min cap r.search.n
      let s := s.updPlan (fun p => { p with active := none, lastEnd := some s.frame.counter })
      let s := if useMap && !q.noLearn && !r.path.isEmpty then s.rmLearn c r.path else s
      if r.status ≠ 0 then s.queryEnds q r.status n
      else
        let rd : Road :=
          { points := r.path, limits := q.limits, version := q.mapVer,
            boxes := (segmentsOf r.path).map (fun e => c.swept e.1 e.2) }
        let s := s.updPlan (fun p => { p with roads := p.roads.set (Fin.ofNat 4 q.slot) (some rd) })
        if s.stage q.hop == .started then
          s.doneWith q.hop (s.queryResult q 0 n r.path.length (roadFrames q.limits c.sync (s.par 0x500C) r.path) (roadHash rd))
        else s
    | _, _ => s))

/-- QUERY_DEADLINE: a query still active at its deadline is a defect (R439). -/
def execQueryDeadline (s : State) : Host.Outcome State Fault Refusal :=
  .next (
    match s.plan.active with
    | some q =>
      if s.par (0x5011 + 2 * q.cls) ≤ s.since q.active then ((s.raiseFree 0x0502 0 false).dropActive 3).settle else s
    | none => s)

def State.coordBad (s : State) (h off : Nat) (used : Bool) : Option Nat :=
  let js := match s.plan.chain with | some c => c.joints | none => []
  (List.range 4).findSome? (fun j =>
    let v := s.pS32 h (off + 4 * j)
    match js[j]? with
    | some x => if used then
        (if s.inLedge (Fin.ofNat 4 x.axis) v then none else some (16 + off + 4 * j))
      else if v = 0 then none else some (16 + off + 4 * j)
    | none => if v = 0 then none else some (16 + off + 4 * j))

def planQuerySpec : CmdSpec where
  op := 0x0504
  need := 44
  field := fun s h =>
    if 3 < s.p8 h 0 then some 16
    else if 3 < s.p8 h 1 then some 17
    else if 2 < s.p8 h 2 then some 18
    else if 3 < s.p8 h 3 then some 19
    else if 3 < s.p8 h 8 then some 24
    else if s.p8 h 9 ≠ 0 ∨ s.p16 h 10 ≠ 0 then some 25
    else orElse (s.coordBad h 12 true) (s.coordBad h 28 (s.p8 h 2 == 1))
  judge := fun s h => some (s.cfg, fnd (!s.plan.valid) 1 0x0501 0xFF ++
    fnd (match s.plan.run with | some r => r.slot == s.p8 h 0 | none => false) 1 0x0507 (s.p8 h 0))
  own := fun s _ => if 2 ≤ s.plan.queue.length then some (0x11, 1, []) else none
  start := fun s h =>
    let n := match s.plan.chain with | some c => c.joints.length | none => 0
    let q : Query :=
      { hop := h, slot := s.p8 h 0, cls := s.p8 h 1, start := s.p8 h 2, startSlot := s.p8 h 3, seed := BitVec.ofNat 32 (s.p32 h 4),
        noMap := bit (s.p8 h 8) 0, noLearn := bit (s.p8 h 8) 1,
        goal := (List.range n).map (fun j => s.pS32 h (12 + 4 * j)), given := (List.range n).map (fun j => s.pS32 h (28 + 4 * j)),
        taken := s.frame.counter, active := s.frame.counter, from_ := [], limits := [], mapVer := 0, rmVer := 0, bias := 0, kNear := 0,
        shortN := 0, occ := .empty, nodes := [], edges := [] }
    s.updPlan (fun p => { p with queue := p.queue ++ [q] })

def execPlanQuery (h : Fin 32) (s : State) : Host.Outcome State Fault Refusal := .next (takeRow planQuerySpec h s)

/-! ### The run (R444 to R453) -/

/-- Give every chain axis the profile of segment `i` from its first waypoint. -/
def State.loadSegment (s : State) (c : Chain) (rd : Road) (i : Nat) : State :=
  let a := rd.points.getD i []
  let b := rd.points.getD (i + 1) []
  let lim := edgeLimits rd.limits (s.par 0x5009 == 1) a b
  let phs := edgePhases rd.limits (s.par 0x5009 == 1) a b
  let s := (List.range c.joints.length).foldl (fun t j =>
    let n : Fin 4 := Fin.ofNat 4 (match c.joints[j]? with | some x => x.axis | none => 0)
    let l := lim.getD j ⟨0, 0, 0, 0⟩
    (t.setProfile n .haul ((a.getD j 0 : Int) : Rat) 0 (phs.getD j [])).updMotion n (fun m =>
      { m.capture l.vmax l.acc l.dec l.jerk with target := b.getD j 0 })) s
  s.updRun (fun r => { r with seg := i, haul := 0, segEnd := none, segLate := false })

/-- The run ends and every chain axis still in HAUL becomes IDLE (R451). -/
def State.runEnds (s : State) (code detail status : Nat) : State :=
  forAxes (s.endRun code detail status) (fun n t => if (t.motion.get n).state == .haul then t.updMotion n MotionSt.toIdle else t)

/-- Send the run to STOPPING with the status it will end with; a run that has not acted ends at once. -/
def State.runStops (s : State) (status seq : Nat) : State :=
  match s.plan.run with
  | none => s
  | some r =>
    if r.stage = .startCheck then
      (if s.stage r.hop == .started then s.refuse r.hop 3 seq (s.runResult r status) else s)
    else s.updRun (fun r => if r.stage = .stopping then r else { r with stage := .stopping, status := status, stopSeq := seq })

/-- The ramp that the stage of a run asks for, beginning at the present boundary (R446). -/
def State.runRamp (s : State) : State := s.updRun (fun r => r.ramp s.lamTop)

/-- The haul clock over the frame of `len` ticks that ends, of the device's own run and of the one its shadow follows (R446, R542). -/
def State.runClock (s : State) (len : Nat) : State :=
  let top := s.lamTop
  { s.updRun (fun r => r.advance top len) with twin := { s.twin with run := s.twin.run.map (fun r => r.advance top len) } }

/-- The frame's profile generation: the descriptors of one segment, up to plan.ahead beyond the running one (R445). -/
def State.runGen (s : State) : State :=
  s.updRun (fun r => if r.stage = .startCheck then r else { r with gen := max r.gen (min (r.gen + 1) (r.seg + s.par 0x500B)) })

/-- At a boundary: a segment whose last microstep has been issued is over; after the last one a running run ends (R444, R451). -/
def State.runBoundary (s : State) : State :=
  match s.plan.run, s.plan.chain with
  | some r, some c =>
    (match s.plan.roads.get (Fin.ofNat 4 r.slot) with
     | some rd =>
       if r.stage ≠ .startCheck ∧ r.segEnd.isNone ∧ (s.hop r.hop).start.isSome ∧
          (chainAxes c).all (fun n => (s.motion.get n).state == .haul) ∧ s.chainPos c = rd.points.getD (r.seg + 1) [] then
         (if r.seg + 2 < rd.points.length then
            s.updRun (fun r => { r with segEnd := some (s.frame.counter + BitVec.ofNat 32 (s.par 0x500C)) })
          else if r.stage = .running then s.runEnds 1 0 0 else s)
       else s
     | none => s)
  | _, _ => s

/-- HAUL_SEGMENT_START: the next segment acts from the present boundary when its descriptors are generated and, by `ready`, loaded, as a motion command does for
the amplitude; none starts at λ = 0, or before the recheck of a hold that found the chain resting (R444 to R446, R450). -/
def execHaulSegmentStart (ready : Bool) (s : State) : Host.Outcome State Fault Refusal :=
  .next (
    match s.plan.run, s.plan.chain with
    | some r, some c =>
      (match s.plan.roads.get (Fin.ofNat 4 r.slot), r.segEnd with
       | some rd, some f =>
         if r.stage ≠ .startCheck ∧ !r.heldRest ∧ 0 < r.lam ∧ s.ahead f ≤ 0 then
           (if ready && decide (r.seg + 1 ≤ r.gen) then
              let late := if r.segLate then s.since f else 0
              let s := (chainAxes c).foldl (fun t n =>
                ((t.updCur n (fun x => { x with woken := true })).updMotion n (fun m => { m with holdF := 0 })).curBoundary n) s
              (s.loadSegment c rd (r.seg + 1)).updRun (fun x => { x with late := x.late + late })
            else
              let t := s.updRun (fun r => { r with segLate := true })
              if r.segLate then t else t.raiseFree 0x0502 0 false)
         else s
       | _, _ => s)
    | _, _ => s)

/-- HAUL_CLOCK_RAMP_END: λ has reached 0 or 1 (R446, Table PLAN-6). -/
def execHaulClockRampEnd (s : State) : Host.Outcome State Fault Refusal :=
  .next (State.settle (
    match s.plan.run with
    | none => s
    | some r =>
      if r.up.isSome then s
      else if r.lam = 0 then
        (if r.stage = .stopping then s.runEnds 2 r.stopSeq r.status
         else
          let done := r.waits.filter (fun w => w.2 == 1)
          done.foldl (fun t w => if t.stage w.1 == .started then t.doneWith w.1 [] else t)
            (s.updRun (fun r => { r with waits := r.waits.filter (fun w => w.2 != 1) })))
      else if r.lam = s.lamTop ∧ r.stage = .running then
        let done := r.waits.filter (fun w => w.2 == 2)
        done.foldl (fun t w => if t.stage w.1 == .started then t.doneWith w.1 [] else t)
          (s.updRun (fun r => { r with waits := r.waits.filter (fun w => w.2 != 2) }))
      else s))

/-- Segments from `i` on. -/
def roadFrom (rd : Road) (i : Nat) : List (List Int × List Int) := (segmentsOf rd.points).drop i

/-- Chain context with the road's own limits and the present map. -/
def State.roadCtx (s : State) (c : Chain) (rd : Road) : PlanCtx := s.planCtx c s.plan.occ rd.limits

/-- Segments that R449 checks again: those whose box meets a box logged since the road's version, or all. -/
def State.startChecks (s : State) (rd : Road) : List Nat :=
  let all := List.range rd.boxes.length
  if rd.version.toNat < s.plan.lostUpTo.toNat then all
  else
    let new := s.plan.log.filter (fun e => decide (rd.version.toNat < e.2.toNat))
    all.filter (fun i => match rd.boxes[i]? with | some b => new.any (fun e => boxHits b e.1) | none => false)

/-- A run whose check is over, or was not needed, acts from the next boundary, once its brakes have released (R358, R450). -/
def State.runGo (s : State) (h : Nat) : State :=
  let s := (s.setHop h (fun x => { x with start := some (s.frame.counter + 1) })).setProg h 5
  let s := s.updRun (fun r => { r with stage := .running, lam := s.lamTop })
  ((maskAxes (s.axmask h)).foldl (fun t n => t.brakeWait h n) s).lateStart h

/-- RUN_START_CHECK_DONE: the check of R449 ends. -/
def execRunStartCheckDone (s : State) : Host.Outcome State Fault Refusal :=
  .next (State.settle (
    match s.plan.run, s.plan.chain with
    | some r, some c =>
      if r.stage ≠ .startCheck then s
      else match s.plan.roads.get (Fin.ofNat 4 r.slot) with
      | none => s
      | some rd =>
        let ctx := s.roadCtx c rd
        let segs := segmentsOf rd.points
        let ok := (s.startChecks rd).all (fun i => match segs[i]? with | some e => ctx.edgeFree e.1 e.2 | none => true)
        if ok then
          let late := s.since r.heldAt
          ((s.updRun (fun r => { r with late := late })).evFree 0x0508).runGo r.hop
        else s.refuse r.hop 3 0xFFFF (s.runResult r 4)
    | _, _ => s))

/-- Parts of the road from tick `lo` to tick `hi` of segment `i`'s haul time, `hi` running on into the segments after it. -/
def haulParts (len : Nat → Nat) (n : Nat) : Nat → Nat → Nat → Nat → List (Nat × Nat × Nat)
  | 0, _, _, _ => []
  | k + 1, i, lo, hi =>
    if n ≤ i then []
    else if hi ≤ len i then [(i, lo, hi)]
    else (i, lo, len i) :: haulParts len n k (i + 1) 0 (hi - len i)

/-- RUN_RECHECK_DONE: the recheck of a map hold, first the part of the path stop, then the rest (R452). -/
def execRunRecheckDone (s : State) : Host.Outcome State Fault Refusal :=
  .next (
    match s.plan.run, s.plan.chain with
    | some r, some c =>
      if r.stage ≠ .heldMap then s
      else match s.plan.roads.get (Fin.ofNat 4 r.slot) with
      | none => s
      | some rd =>
        let ctx := s.roadCtx c rd
        let pt (i : Nat) : List Int := rd.points.getD i []
        let n := rd.points.length - 1
        -- haul ticks of a segment with its dwell (R444)
        let len (i : Nat) : Nat := (segFrames rd.limits ctx.sync (pt i) (pt (i + 1)) + s.par 0x500C) * 10000
        let lo := (Rat.floor r.heldHaul).toNat
        let hi := (Rat.ceil (r.heldHaul + (s.lamTop : Rat) / 2)).toNat
        let stop := if r.heldRest then [] else haulParts len n n r.heldSeg lo hi
        let free (x : Nat × Nat × Nat) : Bool := ctx.partFree (pt x.1) (pt (x.1 + 1)) x.2.1 x.2.2
        let part := stop.all free
        let rest := match stop.getLast? with
          | none => (roadFrom rd (r.heldSeg + 1)).all (fun e => ctx.edgeFree e.1 e.2)
          | some x => free (x.1, x.2.2, len x.1) && (roadFrom rd (x.1 + 1)).all (fun e => ctx.edgeFree e.1 e.2)
        if !part then
          ((s.noteFree 0x0503 (BitVec.ofNat 4 s.chainMask) false).runStops 5 0xFFFF)
        else if !rest then (s.evFree 0x0504).runStops 2 0xFFFF
        else if r.userHold then
          -- the user hold stands
          s.updRun (fun r => { r with stage := .heldUser, heldRest := false })
        else (s.updRun (fun r => { r with stage := .running, heldRest := false })).noteEvFree 0x0503
    | _, _ => s)

/-- RUN_HOLD_TIMEOUT: a map hold longer than plan.hold_max (Table PLAN-6). -/
def execRunHoldTimeout (s : State) : Host.Outcome State Fault Refusal :=
  .next (
    match s.plan.run with
    | some r =>
      if r.stage = .heldMap ∧ s.par 0x500E ≤ s.since r.heldAt then (s.evFree 0x0504).runStops 2 0xFFFF else s
    | none => s)

/-- The map hold that an occupying edit brings at the boundary at which it takes effect. -/
def State.runEdit (s : State) (box : Box) : State :=
  match s.plan.run with
  | none => s
  | some r =>
    match s.plan.roads.get (Fin.ofNat 4 r.slot) with
    | none => s
    | some rd =>
      let first := if r.segEnd.isSome then r.seg + 1 else r.seg
      let hit := (rd.boxes.drop first).any (fun b => boxHits b box)
      if hit && (r.stage == .running || r.stage == .heldUser) then
        let s := s.ev 0x0502 0
        let s := s.updRun (fun r => { r with heldRest := r.segEnd.isSome })
        if s.par 0x500D = 1 then (s.runStops 2 0xFFFF).runRamp
        else (s.updRun (fun r =>
          { r with stage := .heldMap, heldAt := s.frame.counter, heldSeg := r.seg, heldHaul := r.haul,
                   userHold := r.userHold || r.stage == .heldUser })).runRamp
      else s

/-! ### PLAN_RUN, PLAN_STOP -/

/-- NOT_PERMITTED of PLAN_RUN, by the mode permission of its axes, and of PLAN_STOP: twin standby bars both (R212, R544). -/
def chainPermit (axes : List (Fin 4)) (perm : Bool) (s : State) (_ : Nat) : Option Nat :=
  if perm ∧ axes.any (fun n => !bit (s.axv n 0x40) 3) then some 1 else if s.twinDown then some 4 else none

/-- Findings of PLAN_RUN at its taking (R448). -/
def State.planRunFindings (s : State) (h : Nat) : List Finding :=
  let rd := s.plan.roads.get (Fin.ofNat 4 (s.p8 h 0))
  let axes := maskAxes (s.axmask h)
  axes.flatMap (fun n => s.motionFindings n) ++ fnd (!s.plan.valid) 1 0x0501 0xFF ++ fnd rd.isNone 1 0x0507 (s.p8 h 0) ++
  (match rd, s.plan.chain with
   | some r, some c =>
     (List.range c.joints.length).flatMap (fun j =>
       let n : Fin 4 := Fin.ofNat 4 (match c.joints[j]? with | some x => x.axis | none => 0)
       let m := s.motion.get n
       fnd (!m.still || m.posState != .referenced || decide (m.p ≠ (r.points.headD []).getD j 0)) 1 0x0506 n.val)
   | _, _ => [])

def planRunSpec : CmdSpec where
  op := 0x0505
  need := 4
  engine := true
  field := fun s h => if 3 < s.p8 h 0 then some 16 else if s.p8 h 1 ≠ 0 ∨ s.p16 h 2 ≠ 0 then some 17 else none
  axisOk := some (fun s h => s.axmask h != 0 && s.axmask h == s.chainMask)
  permit := fun s h => chainPermit (maskAxes (s.axmask h)) true s h
  ready := fun s h => ((maskAxes (s.axmask h)).find? (fun n => !s.axReady n)).map (fun n => (s.seq n).code)
  judge := fun s h => some (s.cfg, s.planRunFindings h)
  own := fun s h => s.findingReply (s.planRunFindings h)
  start := fun s h =>
    let slot := s.p8 h 0
    let r : Run :=
      { hop := h, slot := slot, stage := .startCheck, seg := 0, segEnd := none, lam := 0, up := none, haul := 0, userHold := false,
        segLate := false, heldAt := s.frame.counter, heldSeg := 0, heldHaul := 0, heldRest := false, status := 0, late := 0, waits := [], stopSeq := 0xFFFF }
    let s := s.updPlan (fun p => { p with run := some r })
    let again := match s.plan.roads.get (Fin.ofNat 4 slot) with | some rd => !(s.startChecks rd).isEmpty | none => false
    if again then (s.setHop h (fun x => { x with start := none })).setProg h 1 else s.runGo h

def execPlanRun (h : Fin 32) (s : State) : Host.Outcome State Fault Refusal := .next (takeRow planRunSpec h s)

/-- PLAN_RUN acts: every chain axis enters HAUL with segment 0 (R444, R450). -/
def actPlanRun (h : Nat) (s : State) : State :=
  match s.plan.run, s.plan.chain with
  | some r, some c =>
    (match s.plan.roads.get (Fin.ofNat 4 r.slot) with
     | some rd =>
       let t := s.loadSegment c rd 0
       (chainAxes c).foldl (fun t n => t.updMotion n (fun m => { m with cmd := some h })) t
     | none => s)
  | _, _ => s

def planStopField (s : State) (h : Nat) : Option Nat := if s.p8 h 1 ≠ 0 ∨ s.p16 h 2 ≠ 0 then some 17 else none

/-- Axes of the chain. -/
def State.chainList (s : State) : List (Fin 4) := maskAxes s.chainMask

def State.waitLam (s : State) (h op : Nat) : State := s.updRun (fun r => { r with waits := r.waits ++ [(h, op)] })

/-- PLAN_STOP op 0: STOPPING; it completes with the run. -/
def planStopSpec : CmdSpec where
  op := 0x0506
  sub := some 0
  need := 4
  field := planStopField
  permit := fun s h => chainPermit s.chainList false s h
  start := fun s h =>
    match s.plan.run with
    | none => s.doneWith h []
    | some r =>
      if r.stage = .startCheck then (s.runStops 1 (s.seqNo h)).doneWith h []
      else (s.runStops 1 (s.seqNo h)).waitLam h 0

def execPlanStop (h : Fin 32) (s : State) : Host.Outcome State Fault Refusal := .next (takeRow planStopSpec h s)

/-- PLAN_STOP op 1: hold. -/
def planHoldSpec : CmdSpec where
  op := 0x0506
  sub := some 1
  need := 4
  field := planStopField
  permit := fun s h => chainPermit s.chainList false s h
  start := fun s h =>
    match s.plan.run with
    | none => s.doneWith h []
    | some r =>
      (match r.stage with
       | .running =>
         ((s.updRun (fun r => { r with stage := .heldUser, userHold := true })).noteEv 0x0502 1).waitLam h 1
       | .heldMap =>
         let t := s.updRun (fun r => { r with userHold := true })
         if r.lam = 0 then t.doneWith h [] else t.waitLam h 1
       | .stopping => s.waitLam h 0
       | .heldUser => if r.lam = 0 then s.doneWith h [] else s.waitLam h 1
       -- DESIGN CHOICE (log entry 32): before the run has started there is nothing to hold
       | .startCheck => s.doneWith h [])

def execPlanHold (h : Fin 32) (s : State) : Host.Outcome State Fault Refusal := .next (takeRow planHoldSpec h s)

/-- PLAN_STOP op 2: release the user hold. -/
def planResumeSpec : CmdSpec where
  op := 0x0506
  sub := some 2
  need := 4
  field := planStopField
  permit := fun s h => chainPermit s.chainList false s h
  judge := fun s _ => some (s.cfg, fnd s.clock.onRc 1 0x1403 0xFF)
  start := fun s h =>
    match s.plan.run with
    | none => s.doneWith h []
    | some r =>
      if !r.userHold then s.doneWith h []
      else match r.stage with
        | .heldUser =>
          let t := (s.updRun (fun r => { r with stage := .running, userHold := false })).noteEvFree 0x0503
          if r.lam = s.lamTop ∧ r.up = none then t.doneWith h [] else t.waitLam h 2
        | .heldMap => (s.updRun (fun r => { r with userHold := false })).waitLam h 2
        | _ => s.waitLam h 0

def execPlanResume (h : Fin 32) (s : State) : Host.Outcome State Fault Refusal := .next (takeRow planResumeSpec h s)

/-! ### MAP_EDIT (R422 to R426) -/

/-- Corners of an edit as an ordered box in mm. -/
def State.editBox (s : State) (h : Nat) : Box :=
  let v (i : Nat) := s.pS32 h (4 + 4 * i)
  { lo := (min (v 0) (v 3), min (v 1) (v 4), min (v 2) (v 5)), hi := (max (v 0) (v 3), max (v 1) (v 4), max (v 2) (v 5)) }

/-- The dynamic layer after the waiting edits. -/
def PlanSt.pendingDyn (p : PlanSt) : PlanSt := p.edits.foldl (fun p e => { p with dyn := p.edited e.op e.box }) p

/-- SV-0x050B. -/
def State.editFindings (s : State) (h op : Nat) : List Finding :=
  let p := s.plan.pendingDyn
  let r := p.voxels (decide (op = 0)) (s.editBox h)
  let d := p.edited op r
  fnd (decide (16384 < p.cellsOf op r)) 2 0x050B 0 ++ fnd (decide (262144 < p.stat.leaves + d.leaves)) 2 0x050B 1 ++
  fnd (decide (262144 < p.stat.nodes + d.nodes)) 2 0x050B 2

/-- Result data of MAP_EDIT. -/
def State.editResult (s : State) (cells : Nat) : List Byte :=
  le32 s.plan.version.toNat ++ le32 cells ++ le32 (s.plan.stat.leaves + s.plan.dyn.leaves)

/-- MAP_EDIT operations 0 to 2 wait for their boundary. -/
def mapEditSpec (op : Nat) : CmdSpec where
  op := 0x0502
  sub := some op
  need := 28
  field := opReserved
  judge := fun s h => some (s.cfg, s.editFindings h op)
  own := fun s h => s.findingReply (s.editFindings h op)
  start := fun s h =>
    let p := s.plan.pendingDyn
    let r := p.voxels (decide (op = 0)) (s.editBox h)
    s.updPlan (fun q => { q with edits := q.edits ++ [{ hop := h, op := op, box := r, cells := p.cellsOf op r, left := p.cellsOf op r, ready := s.frame.counter }] })

def execMapEditOccupy (h : Fin 32) (s : State) : Host.Outcome State Fault Refusal := .next (takeRow (mapEditSpec 0) h s)
def execMapEditFree (h : Fin 32) (s : State) : Host.Outcome State Fault Refusal := .next (takeRow (mapEditSpec 1) h s)
def execMapEditClear (h : Fin 32) (s : State) : Host.Outcome State Fault Refusal := .next (takeRow (mapEditSpec 2) h s)

/-- Operations 3 and 4 wait for the boundary after their taking. -/
def mapMarkSpec (op : Nat) (v : Bool) : CmdSpec where
  op := 0x0502
  sub := some op
  need := 28
  field := opReserved
  judge := fun s _ => some (s.cfg, fnd (v && !s.plan.loaded) 1 0x050F 0xFF)
  own := fun s _ => s.findingReply (fnd (v && !s.plan.loaded) 1 0x050F 0xFF)
  start := fun s h => s.updPlan (fun p => { p with setValid := p.setValid ++ [(h, v)] })

def execMapEditMarkValid (h : Fin 32) (s : State) : Host.Outcome State Fault Refusal := .next (takeRow (mapMarkSpec 3 true) h s)
def execMapEditMarkInvalid (h : Fin 32) (s : State) : Host.Outcome State Fault Refusal := .next (takeRow (mapMarkSpec 4 false) h s)

/-- The valid flag changes (R423); a run stops when it clears (Table PLAN-6). -/
def State.putValid (s : State) (v : Bool) : State :=
  let was := s.plan.valid
  let s := (s.updPlan (fun p => { p with valid := v })).evIf (was != v) 0x0501 (b01 v)
  if was && !v then s.runStops 6 0xFFFF else s

/-- At a boundary the waiting marks take effect. -/
def State.mapBoundary (s : State) : State :=
  let l := s.plan.setValid
  l.foldl (fun t x =>
    let t := t.putValid (x.2 && t.plan.loaded)
    if t.stage x.1 == .started then t.doneWith x.1 (t.editResult 0) else t) (s.updPlan (fun p => { p with setValid := [] }))

/-- The log of occupying edits holds the last 64 (R426). -/
def PlanSt.logEdit (p : PlanSt) (b : Box) : PlanSt :=
  let l := p.log ++ [(b, p.version)]
  if l.length ≤ 64 then { p with log := l }
  else { p with log := l.drop 1, lostUpTo := match l.head? with | some e => e.2 | none => p.lostUpTo }

/-- Roadmap edges whose box meets an edit's are unchecked (R442). -/
def PlanSt.rmUncheck (p : PlanSt) (b : Box) : PlanSt :=
  let one (x : RmEdge) : RmEdge := if boxHits x.box b then { x with checked := false } else x
  { p with edges := p.edges.map one, rmVer := p.rmVer + 1 }

/-- After an edit took effect in frame `now`, the next one's cells have been written at the earliest from the frame before it on, in
the room that the last cells of `e` left there (R424, R425). -/
def Edit.follows (x e : Edit) (now : BitVec 32) : Edit :=
  let gone := sgn 32 (now - x.ready).toNat
  let room := if e.cells = 0 then 256 else (256 - e.cells % 256) % 256
  if 2 ≤ gone then { x with ready := now - 1, left := max 1 (x.left - room) }
  else if gone = 1 then { x with left := max 1 x.left }
  else x

/-- MAP_EDIT_EFFECT: the oldest waiting edit takes effect at the boundary after the frame in which its last cell was written (R423 to
R426, R440, R442). -/
def execMapEditEffect (s : State) : Host.Outcome State Fault Refusal :=
  .next (State.settle (
    match s.plan.edits with
    | [] => s
    | e :: r =>
      if s.ahead (e.ready + BitVec.ofNat 32 (1 + (e.left + 255) / 256)) > 0 then s else
      let p := s.plan
      let d := p.edited e.op e.box
      let occ := decide (e.op = 0) && d != p.dyn
      let box := p.writtenBox e.box
      let hit := p.edges.filter (fun x => x.checked && boxHits x.box box)
      let s := s.updPlan (fun p => { p with edits := updAt r 0 (fun x => x.follows e s.frame.counter), dyn := d, version := p.version + 1 })
      let s := if !occ then s
        else
          let s := s.updPlan (fun p => p.logEdit box)
          let s := if hit.isEmpty then s
            else (s.updPlan (fun p => p.rmUncheck box)).ev 0x0506 (min 0xFFFF hit.length)
          (s.dropActive 4).runEdit box
      if s.stage e.hop == .started then s.doneWith e.hop (s.editResult e.cells) else s))

/-! ### MAP_LOAD (R420, R421, R423) -/

/-- Both layers, the log, the roadmap and the valid flag cleared; the version stands until a commit sets it (R423). -/
def State.mapClear (s : State) : State :=
  (s.putValid false).updPlan (fun p =>
    { p.rmClear with loaded := false, stat := .empty, dyn := .empty, log := [], lostUpTo := 0, depth := 0, vox := 0,
                     origin := (0, 0, 0) })

def mapLoadBeginSpec : CmdSpec where
  op := 0x0501
  sub := some 0
  need := 8
  field := opReserved
  judge := fun s _ => some (s.cfg, fnd s.runOn 1 0x050A 0xFF)
  own := fun s _ => s.findingReply (fnd s.runOn 1 0x050A 0xFF)
  start := fun s h =>
    ((s.abortQueries.mapClear).updPlan (fun p => { p with stage := [], stageLen := s.p32 h 4 })).doneWith h []

def execMapLoadBegin (h : Fin 32) (s : State) : Host.Outcome State Fault Refusal := .next (takeRow mapLoadBeginSpec h s)

/-- Bytes of the map region (Table PLAN-1). -/
def mapRegion : Nat := 655360

def mapLoadCopySpec : CmdSpec where
  op := 0x0501
  sub := some 1
  need := 8
  field := opReserved
  own := fun s h => if mapRegion < s.p32 h 4 + s.host.bulkLen then some (8, 20, []) else none
  start := fun s h =>
    let d := s.bulkBytes 0 s.host.bulkLen
    (s.updPlan (fun p => { p with stage := cellWrite p.stage (s.p32 h 4) d })).doneWith h []

def execMapLoadCopy (h : Fin 32) (s : State) : Host.Outcome State Fault Refusal := .next (takeRow mapLoadCopySpec h s)

/-- MAP_LOAD op 2: a failed commit leaves the map empty. -/
def mapLoadCommitSpec : CmdSpec where
  op := 0x0501
  sub := some 2
  need := 8
  field := opReserved
  start := fun s h =>
    let n := min mapRegion s.plan.stageLen
    let f := cellRead s.plan.stage 0 n
    let r := readImage f s.plan.stageLen
    match s.findingReply r.1 with
    | some x => s.mapClear.refuse h x.1 x.2.1 x.2.2
    | none =>
      (s.mapClear.updPlan (fun p =>
        { p with
          loaded := true
          stat := r.2
          depth := getB f 6
          vox := getB f 7
          origin := vecAt f 8
          version := 1 })).doneWith h []

def execMapLoadCommit (h : Fin 32) (s : State) : Host.Outcome State Fault Refusal := .next (takeRow mapLoadCommitSpec h s)

/-! ### PLAN_CHAIN (R427, R428) -/

/-- SV-0x050E. -/
def State.planBusy (s : State) : List Finding := fnd (s.cfg.un 9) 1 0x050E 0xFF

def State.chainOwn (s : State) : Option (Nat × Nat × List Byte) := s.findingReply (chainFindings (s.bulkBytes 0 chainSize))

/-- The working chain table changes: a change of the working set, and the roadmap is cleared (R245, R428, R442). -/
def State.setChain (s : State) (h : Nat) (c : Option Chain) : State :=
  ((s.updPlan (fun p => { p.rmClear with chain := c })).writeWorking s.params.working).awaitVerdict h 1 0 [] 0xFFFF []

def planChainLoadSpec : CmdSpec where
  op := 0x0503
  sub := some 0
  need := 4
  field := opReserved
  bulkLen := fun _ _ => chainSize
  judge := fun s _ => some (s.cfg, s.planBusy)
  own := fun s _ => match s.findingReply s.planBusy with | some r => some r | none => s.chainOwn
  start := fun s h => s.setChain h (some (chainOf (s.bulkBytes 0 chainSize)))

def execPlanChainLoad (h : Fin 32) (s : State) : Host.Outcome State Fault Refusal := .next (takeRow planChainLoadSpec h s)

def planChainValidateSpec : CmdSpec where
  op := 0x0503
  sub := some 1
  need := 4
  field := opReserved
  bulkLen := fun _ _ => chainSize
  own := fun s _ => s.chainOwn
  start := fun s h => s.doneWith h []

def execPlanChainValidate (h : Fin 32) (s : State) : Host.Outcome State Fault Refusal := .next (takeRow planChainValidateSpec h s)

/-- SV-0x0502 while the working chain table is invalid. -/
def State.chainNone (s : State) (_ : Nat) : Option (Nat × Nat × List Byte) :=
  if s.plan.chain.isNone then some (s.svReply 0x0502 0xFF) else none

def planChainSaveSpec : CmdSpec where
  op := 0x0503
  sub := some 2
  need := 4
  field := opReserved
  own := State.chainNone
  start := fun s h => (s.updPlan (fun p => { p with storeChain := p.chain })).doneWith h []

def execPlanChainSave (h : Fin 32) (s : State) : Host.Outcome State Fault Refusal := .next (takeRow planChainSaveSpec h s)

def planChainReadSpec : CmdSpec where
  op := 0x0503
  sub := some 3
  need := 4
  field := opReserved
  own := State.chainNone
  start := fun s h => s.doneBulk h (match s.plan.chain with | some c => c.bytes | none => [])

def execPlanChainRead (h : Fin 32) (s : State) : Host.Outcome State Fault Refusal := .next (takeRow planChainReadSpec h s)

/-- A missing stored copy leaves the working table invalid. -/
def planChainReloadSpec : CmdSpec where
  op := 0x0503
  sub := some 4
  need := 4
  field := opReserved
  judge := fun s _ => some (s.cfg, s.planBusy)
  own := fun s _ => s.findingReply s.planBusy
  start := fun s h => s.setChain h s.plan.storeChain

def execPlanChainReload (h : Fin 32) (s : State) : Host.Outcome State Fault Refusal := .next (takeRow planChainReloadSpec h s)

/-! ### PLAN_ROAD, and the PLAN domain -/

def planRoadSpec : CmdSpec where
  op := 0x0507
  need := 4
  field := fun s h => if 3 < s.p8 h 0 then some 16 else if s.p8 h 1 ≠ 0 ∨ s.p16 h 2 ≠ 0 then some 17 else none
  start := fun s h =>
    match s.plan.roads.get (Fin.ofNat 4 (s.p8 h 0)) with
    | some r => s.doneBulk h (b8 r.points.length ++ [0, 0, 0] ++ waypointBytes r.points ++ limitBytes r.limits)
    | none => s.doneBulk h [0, 0, 0, 0]

def execPlanRoad (h : Fin 32) (s : State) : Host.Outcome State Fault Refusal := .next (takeRow planRoadSpec h s)

/-- PLAN reaches Ready, or goes down: its SRAM holds nothing (R418). -/
def State.planReset (s : State) : State :=
  (s.putValid false).updPlan (fun p => { chain := p.chain, storeChain := p.storeChain, version := 0 })

/-- PLAN goes down: its queries end ABORTED (14, edge case), and edits and marks that have not taken effect are cancelled with a run
(R418; log entry 21). -/
def State.planLeave (s : State) : State :=
  let l := s.plan.edits.map (·.hop) ++ s.plan.setValid.map (·.1)
  let s := (s.abortQueries.endRun 2 0xFFFF 3).updPlan (fun p => { p with edits := [], setValid := [] })
  l.foldl (fun t h => if t.stage h == .started then t.refuse h 2 0xFFFF [] else t) s

end Sys2Proof.Machine
end

