-- ==== Sys2Proof/Machine/Fabric.lean ====
section
/-! DEFINITION. Fabric ports: reception, index claims, segments, beacons and the sync state (15). -/

namespace Sys2Proof.Machine

/-! ### Ports -/

/-- Unit NETp is enabled (Table PAR-2). -/
def State.netOn (s : State) (p : Fin 2) : Bool := s.unitOn (5 + p.val)

/-- The port is on the bus: enabled, neither in bus-off nor stopped (R456). -/
def State.portLive (s : State) (p : Fin 2) : Bool :=
  let q := s.ports.get p
  s.netOn p && !q.busOff && !q.stopped && s.clock.pllc == .locked

/-- The port holds its index and may take part (R468). -/
def State.portHeld (s : State) (p : Fin 2) : Bool := s.netOn p && (s.ports.get p).claim == .held

/-- Nothing but a claim is barred: the controller transmits (R21, R504). -/
def State.portSends (s : State) (p : Fin 2) : Bool :=
  s.portLive p && !(s.ports.get p).listenOnly && !(s.ports.get p).silent

def State.isRoot (s : State) : Bool := s.par 0x6001 == 1

/-- A device is a router while net.router = 1, with both ports enabled (R472). -/
def State.isRouter (s : State) : Bool := s.par 0x6000 == 1 && s.netOn 0 && s.netOn 1

/-- A u16 counter, saturating. -/
def inc16 (v : Nat) : Nat := min 0xFFFF (v + 1)

/-- Both ports but `p`. -/
def otherPort (p : Fin 2) : Fin 2 := if p = 0 then 1 else 0

/-- Address of the pair of a twin, none while it has none (R556). -/
def State.pairAddr (s : State) : Option Nat := if s.unitOn 8 && s.par 0x8005 != 0 then some (s.par 0x8005) else none

/-- The pair's segment is that of port `p`. -/
def State.pairHere (s : State) (p : Fin 2) : Bool :=
  match s.pairAddr with | some a => s.portSeg p == some (a / 64) | none => false

/-- Reception of a frame of kind `kind`: R454, R459 and R460, and the transmitter's index heard in use while this port listens. -/
def State.rx (s : State) (p : Fin 2) (f : AmFrame) (kind : Nat) (k : State → State) : State :=
  if !s.portLive p then s
  else if !f.fd then s.updPort p (fun q => { q with discards := inc16 q.discards })
  else if !frameOk f then s.updPort p (fun q => { q with discards := inc16 q.discards })
  else if (headOf f).kind != kind then s
  else
    let i := (headOf f).txidx
    k (s.updPort p (fun q =>
      if q.claim = .listen ∨ i ≠ q.index then { q with inUse := q.inUse ||| BitVec.ofNat 64 (2 ^ i) } else q))

/-! ### Index claims (R464 to R468, Table FAB-5) -/

/-- Index `i` has been heard in use. -/
def PortSt.heard (q : PortSt) (i : Nat) : Bool := q.inUse.toNat.testBit i

/-- Lowest index not heard in use. -/
def PortSt.lowest (q : PortSt) : Option Nat := (List.range 64).find? (fun i => !q.heard i)

/-- Enter LISTEN for `n` superframes. -/
def PortSt.toListen (q : PortSt) (n : Nat) (retry : Bool) : PortSt :=
  { q with claim := .listen, listenN := n, retry := retry, claimN := 0, claimDue := false, chunk := 0 }

/-- Lose or give up the wanted index: LISTEN for 4 sf, rank 0 unless it is 2. -/
def PortSt.lose (q : PortSt) (i : Nat) : PortSt :=
  let q := q.toListen 4 true
  { q with inUse := q.inUse ||| BitVec.ofNat 64 (2 ^ i), rank := if q.rank = 2 then 2 else 0 }

/-- UID chunk of an attempt (R464). -/
def uidChunk (uid chunk : Nat) : Nat :=
  match chunk with
  | 0 => uid / 2 ^ 47 % 2 ^ 17
  | 1 => uid / 2 ^ 30 % 2 ^ 17
  | 2 => uid / 2 ^ 13 % 2 ^ 17
  | _ => uid % 2 ^ 13 * 16

/-- A CLAIM frame (R464). -/
def State.claimFrame (s : State) (p : Fin 2) (uid chunk rank want : Nat) : AmFrame :=
  let a := s.ownHead p 0 1 1 0 0 false
  mkFrame { a with disc := uidChunk uid chunk, txidx := want, nh := 0x40 }
    (leBytes 8 uid ++ b8 rank ++ b8 want ++ [0, 0])

/-- Queue the port's CLAIM when one is due, attempts are allowed and the control queue has room. -/
def State.sendClaim (s : State) (p : Fin 2) : State :=
  let q := s.ports.get p
  if q.claimDue && q.mayClaim && s.portSends p then
    match s.queueControl p [s.claimFrame p Config.uid.toNat q.chunk q.rank (if q.claim = .held then q.index else q.want)] with
    | some t => t.updPort p (fun q => { q with claimDue := false })
    | none => s
  else s

/-- UID that the pair claims with: that of the ROLE-A device (R556). -/
def State.pairUid (s : State) : Nat := if s.pins.role = .a then Config.uid.toNat else s.twin.pUid.toNat

/-- Queue the pair's CLAIM, rank 2, when it is due (R556). -/
def State.sendPairClaim (s : State) (p : Fin 2) : State :=
  match s.pairAddr with
  | some a =>
    if s.pairHere p && s.twin.pairDue && (s.ports.get p).mayClaim && s.portSends p then
      match s.queueControl p [s.claimFrame p s.pairUid s.twin.pairChunk 2 (a % 64)] with
      | some t => { t with twin := { t.twin with pairDue := false } }
      | none => s
    else s
  | none => s

/-- FT-0x0603 stands while a port is barred or finds no free index. -/
def State.claimBad (s : State) : Bool :=
  both2.any (fun p => s.netOn p && (s.ports.get p).claim == .listen &&
    ((s.ports.get p).barred || (s.ports.get p).full))

def State.claimRecovered (s : State) : State := if s.claimBad then s else s.condEnd 0x0603

/-- The port holds its wanted index: retention and EV-0x0601 (R467). -/
def State.toHeld (s : State) (p : Fin 2) : State :=
  let s := s.updPort p (fun q =>
    { q with claim := .held, index := q.want, rank := max 1 q.rank, lastIdx := some q.want, claimN := 0, claimDue := false,
             retry := false })
  let q := s.ports.get p
  let s := { s with ret := { s.ret with fabIndex := s.ret.fabIndex.set p (some (q.index, (s.portSeg p).getD 0xFFFF)) } }
  (s.ev 0x0601 (s.portAddr p)).claimRecovered

/-- CLAIM_LISTEN_END: the wanted index by the rank, and its CLAIM (Table FAB-5). -/
def execClaimListenEnd (p : Fin 2) (s : State) : Host.Outcome State Fault Refusal :=
  .next (
    let q := s.ports.get p
    if !s.portSends p || q.claim != .listen || q.listenN != 0 || q.barred then s
    else
      let q := if q.rank == 1 && (match q.lastIdx with | some i => q.heard i | none => true) then { q with rank := 0, retry := true }
        else q
      let kept := match s.ret.fabIndex.get p with
        | some (i, seg) => if seg = (s.portSeg p).getD 0xFFFF ∧ !q.heard i then some i else none
        | none => none
      let want := match q.rank with
        | 2 => some (s.par (netId p 3))
        | 1 => q.lastIdx
        | _ => if q.retry then q.lowest else (match kept with | some i => some i | none => q.lowest)
      match want with
      | none =>
        ((s.updPort p (fun _ => { q with inUse := 0, listenN := 256, full := true })).raise 0x0603 1 0 true)
      | some i =>
        (s.updPort p (fun _ => { q with claim := .claiming, want := i, index := i, claimN := 0, claimDue := true,
                                        chunk := 0, full := false })).sendClaim p)

/-- CLAIM_HELD: 4 sf after the own CLAIM (Table FAB-5); the pair's index likewise (R556). -/
def execClaimHeld (p : Fin 2) (s : State) : Host.Outcome State Fault Refusal :=
  .next (
    let q := s.ports.get p
    if s.portLive p && q.claim == .claiming && decide (5 ≤ q.claimN) then s.toHeld p
    else if s.portLive p && s.pairHere p && s.twin.pairClaim == .claiming && decide (5 ≤ s.twin.pairN) then
      ({ s with twin := { s.twin with pairClaim := .held, pairN := 0 } } : State).ev 0x0601 (s.par 0x8005)
    else s)

/-- The entry is the CLAIM of the pair's index (R556). -/
def State.isPairClaim (s : State) (p : Fin 2) (e : QFrame) : Bool :=
  s.pairHere p && (headOf e.frame).txidx == s.par 0x8005 % 64 && s.twin.pairClaim != .listen

/-- CLAIMs that wait in the queue are taken back: those still wanted are due again, with the chunk of their next attempt (R465). -/
def State.recallClaims (s : State) (p : Fin 2) : State :=
  let l := (s.ports.get p).queues.get 0
  let old := l.filter (fun e => (headOf e.frame).kind == 1)
  let due := old.any (fun e => !s.isPairClaim p e)
  let pair := old.any (fun e => s.isPairClaim p e)
  let s := s.updPort p (fun q =>
    { q with queues := q.queues.set 0 (l.filter (fun e => (headOf e.frame).kind != 1)), claimDue := q.claimDue || due })
  { s with twin := { s.twin with pairDue := s.twin.pairDue || pair } }

/-- A CLAIM has completed without error: every claimant returns to chunk 0 (R465). -/
def State.claimsAnew (s : State) (p : Fin 2) : State :=
  let s := (s.recallClaims p).updPort p (fun q => { q with chunk := 0, mayClaim := true })
  if s.pairHere p then { s with twin := { s.twin with pairChunk := 0 } } else s

/-- CLAIM_ERROR_FRAME: the senders of the identifier go to the next chunk, the others wait (R465). -/
def execClaimErrorFrame (p : Fin 2) (mine : Bool) (s : State) : Host.Outcome State Fault Refusal :=
  .next (
    if !s.portLive p then s
    else
      let own := (s.ports.get p).queues.get 0
      match own.find? (fun e => (headOf e.frame).kind == 1) with
      | none => s
      | some e =>
        if !mine then (s.recallClaims p).updPort p (fun q => { q with mayClaim := false })
        else
          let s := s.updPort p (fun q => { q with queues := q.queues.set 0 (own.erase e) })
          let s := if s.isPairClaim p e then
              { s with twin := { s.twin with pairChunk := min 3 (s.twin.pairChunk + 1), pairDue := true } }
            else s.updPort p (fun q => { q with chunk := min 3 (q.chunk + 1), claimDue := true })
          (s.sendClaim p).sendPairClaim p)

/-- What a CLAIM for index `i` by `uid` changes (Table FAB-5). Beside the port's own index the pair's, held with rank 2, is defended
(R556). -/
def State.claimSeen (s : State) (p : Fin 2) (uid rank i : Nat) : State :=
  let q := s.ports.get p
  let mine := Config.uid.toNat
  if s.pairHere p && s.twin.pairClaim != .listen && i == s.par 0x8005 % 64 && uid != s.pairUid then
    if rank = 2 then
      let s := s.raise 0x0603 0 0 (decide (uid < s.pairUid))
      if uid < s.pairUid then { s with twin := { s.twin with pairClaim := .listen, pairDue := false } } else s
    else { s with twin := { s.twin with pairDue := true } }
  else if uid = mine ∨ q.claim = .listen ∨ i ≠ (if q.claim = .held then q.index else q.want) then s
  else if rank = 2 ∧ q.rank = 2 then
    let s := s.raise 0x0603 0 0 (decide (uid < mine))
    if mine < uid then (if q.claim = .claiming then s.toHeld p else s)
    else s.updPort p (fun q => { q.lose i with barred := true })
  else if q.claim = .claiming then
    if q.rank < rank ∨ (rank = q.rank ∧ q.claimN = 0) then s.updPort p (fun q => q.lose i)
    else if rank = q.rank then
      -- an equal CLAIM after the own one: the 4 sf of HELD begin with another own CLAIM (log entry 22)
      s.updPort p (fun q => { q with claimN := 0, claimDue := true })
    else s
  else if rank = 2 then (s.evFree 0x0602).updPort p (fun q => q.lose i)
  else s.updPort p (fun q => { q with claimDue := true })

/-- CLAIM_RECEIVED: what it changes, then the CLAIMs that are due (R465, R466). -/
def execClaimReceived (p : Fin 2) (f : AmFrame) (s : State) : Host.Outcome State Fault Refusal :=
  .next (s.rx p f 1 (fun s =>
    let b := bodyOf f
    (((s.claimsAnew p).claimSeen p (getN b 0 8) (getB b 8) (getB b 9)).sendClaim p).sendPairClaim p))

/-! ### Upstream, downstream and sync (R472, R481) -/

/-- The upstream port: of a router the one that hears the synced beacon of lowest depth, NET1 on a tie; NET1 of any other device. -/
def State.upstream (s : State) : Option (Fin 2) :=
  if s.isRoot then none
  else if s.isRouter then
    let hears (p : Fin 2) : Bool := (s.ports.get p).source.isSome && (s.ports.get p).srcSync
    let depth (p : Fin 2) : Nat := (s.ports.get p).depth.getD 16
    match hears 0, hears 1 with
    | true, true => if depth 1 < depth 0 then some 1 else some 0
    | true, false => some 0
    | false, true => some 1
    | false, false => none
  else some 0

/-- A downstream port of a router: both of a root, else the one that is not upstream. -/
def State.downstream (s : State) (p : Fin 2) : Bool :=
  if s.isRoot then s.netOn p else s.isRouter && (match s.upstream with | some u => u != p | none => false)

/-- Sync state of a port; a root's is SYNCED (Table FAB-7). -/
def State.portSync (s : State) (p : Fin 2) : SyncState := if s.isRoot then .synced else (s.ports.get p).sync

/-- The device is SYNCED or in HOLDOVER by its frame reference (R481, R496). -/
def State.devSynced (s : State) : Bool :=
  match s.upstream with
  | some u => s.netOn u && (s.portSync u == .synced || s.portSync u == .holdover)
  | none => s.isRoot

/-- Depth that the port stands at: of its accepted beacons, else that of its own beacons. -/
def State.portDepth (s : State) (p : Fin 2) : Option Nat :=
  if s.isRoot then some 0
  else match (s.ports.get p).depth with
    | some d => some d
    | none => if s.downstream p then (match s.upstream with | some u => (s.ports.get u).depth.map (· + 1) | none => none) else none

/-- The frame trim follows the beacons (R481). -/
def State.beaconTrim (s : State) : Bool := s.par 0x0010 == 1

/-- EV-0x0603. -/
def State.syncEv (s : State) (q : Nat) : State := s.ev 0x0603 q

/-- A beacon is accepted from the source of lowest depth, the lower index on a tie; from any source after 1 sf without one. -/
def State.acceptsBeacon (s : State) (p : Fin 2) (h i : Nat) : Bool :=
  let q := s.ports.get p
  match q.source with
  | none => true
  | some c => c == i || decide (20 < s.since q.bcnAt) ||
      (match q.depth with | some d => decide (h < d) || (h == d && decide (i < c)) | none => true)

/-- Offset wrapped to half a superframe either side, in ns. -/
def wrapSf (v : Int) : Int := (v + 500000) % 1000000 - 500000

/-- Sync transitions of Table FAB-7 at a beacon with offset `o`. -/
def State.syncStep (s : State) (p : Fin 2) (o : Option Int) : State :=
  let s := match (s.ports.get p).sync with
    | .unsynced => s.updPort p (fun q => { q with sync := .acquiring, inTol := 0 })
    | .holdover => s.updPort p (fun q => { q with sync := .synced })
    | _ => s
  match o with
  | none => s
  | some v =>
    match (s.ports.get p).sync with
    | .synced =>
      if 5000 < v.natAbs then (s.updPort p (fun q => { q with sync := .acquiring, inTol := 0 })).syncEv 1 else s
    | .acquiring =>
      if v.natAbs ≤ 2000 then
        let n := (s.ports.get p).inTol + 1
        if 2 ≤ n then (s.updPort p (fun q => { q with sync := .synced, inTol := 0 })).syncEv 2
        else s.updPort p (fun q => { q with inTol := n })
      else s.updPort p (fun q => { q with inTol := 0 })
    | _ => s

/-- Superframe counter and index of the next boundary when the boundary nearest to a beacon that began `off` ns after the last
superframe boundary is frame 0 of superframe `fsf` (R28, R481). -/
def State.realignTo (s : State) (fsf : Nat) (off : Int) : State :=
  let back : Int := (off + 25000) / 50000
  let now : Int := (fsf : Int) * 20 + (s.frame.index : Int) - back + 1
  { s with frame := { s.frame with realign := some (BitVec.ofInt 32 (now / 20), (now % 20).toNat) } }

/-- SCRC and segment of the beacons agree with the schedule in use (R488); EV-0x0606 once per change. -/
def State.checkCyc (s : State) (p : Fin 2) (seg : Nat) : State :=
  let q := s.ports.get p
  match q.sched with
  | none => s
  | some t =>
    if s.par (netId p 4) = 0 then s
    else
      let bad := q.scrc != t.crc || seg != t.segment
      let s := s.updPort p (fun q => { q with cycBad := bad })
      if bad != q.cycBad then s.evFree 0x0606 else s

/-- CYCLIC frames are being sent (R488). -/
def State.cycOn (s : State) (p : Fin 2) : Bool :=
  let q := s.ports.get p
  match q.sched with
  | none => false
  | some t =>
    s.portHeld p && s.par (netId p 4) == 1 && t.entries.any (fun e => s.par (netId p 3) == e.tx) &&
    (s.portSync p == .synced || s.portSync p == .holdover) && !q.cycBad &&
    (s.isRoot || (q.source.isSome && q.scrc == t.crc)) && s.portSeg p == some t.segment

/-- First beacon after a wake: drift and rate of a wake for a window, the awake window of a wake between windows, m = 0; a router's downstream port is released with it (R504, R506; log entry 22). `at_` is the local superframe of the
beacon's start of frame. -/
def State.afterWake (s : State) (p : Fin 2) (h : Nat) (at_ : BitVec 32) : State :=
  if !(s.ports.get p).silent then s
  else
    let s := forPorts s (fun x t => if x == p || t.downstream x then t.updPort x (fun q => { q with silent := false }) else t)
    if !s.fab.woken then s
    else
      let s := match s.fab.plan with
        | none => s
        | some pl =>
          let e := pl.start + BitVec.ofNat 32 (s.fab.wakeK * pl.cycle + 28 * h)
          let gap := s.since s.fab.lastBcn
          -- local time is corrected by the rate in force (R503, R506)
          let d := sgn 32 (at_ - e).toNat - ratNear (((gap : Int) * s.fab.rate : Int) / (20000000000 : Rat))
          let rate : Int := if gap = 0 then 0 else d * 20000000000 / (gap : Int)
          if s.fab.interim then s
          else
            let s := { s with fab := { s.fab with drift := d, rate := rate } }
            s.evIf (decide (pl.guard < d.natAbs)) 0x0623 (enc 16 (satS 16 d))
      let awake := if s.fab.interim then some s.fab.wokeAt else none
      let t := { s with fab := { s.fab with woken := false, listening := false, interim := false, m := 0, awakeAt := awake }
                        ret := { s.ret with sleepM := 0 } }
      t.condEnd 0x0620

/-- The plan ends (R501). -/
def State.endPlan (s : State) : State :=
  { s with fab := { s.fab with plan := none, announce := none }, ret := { s.ret with plan := none } }

/-- An accepted beacon. -/
def State.takeBeacon (s : State) (p : Fin 2) (f : AmFrame) (off : Int) : State :=
  let b := bodyOf f
  let i := (headOf f).txidx
  let segd := get16 b 8
  let h := segd / 4096
  let flags := getB b 14
  -- the stamp of the beacon before this one from the same source
  let prev := if (s.ports.get p).source = some i ∧ s.since (s.ports.get p).bcnAt ≤ 25 then (s.ports.get p).prevRx else none
  let o : Option Int := if bit flags 0 then prev.map (fun r => wrapSf (r - (get32 b 4 : Int))) else none
  let local_ := BitVec.ofInt 32 ((s.frame.superframe.toNat : Int) + off / 1000000)
  let s := s.afterWake p h local_
  let s := s.updPort p (fun q =>
    { q with source := some i, depth := some h, srcSync := bit flags 1, bcnAt := s.frame.counter,
             scrc := BitVec.ofNat 32 (get32 b 10), bcnFlags := flags, prevRx := some (wrapSf off) })
  let s := { s with fab := { s.fab with root := some (BitVec.ofNat 64 (getN b 16 8)), lastBcn := s.frame.counter } }
  let s := match o with
    | some v => s.updPort p (fun q => { q with offset := v, offAt := some s.frame.counter, offsets := ((v :: q.offsets).take 8) })
    | none => s
  -- a segment that its router has granted anew comes with the next beacon (15, edge case; log entry 22)
  let s := if s.par (netId p 2) = 0xFFFF ∧ !s.downstream p then
      s.updPort p (fun q => { q with seg := some (segd % 1024) }) else s
  let first := (s.ports.get p).sync == .unsynced
  let s := if s.beaconTrim then s.syncStep p o else s
  let s := if s.beaconTrim && first && s.upstream == some p then
      (s.realignTo (get32 b 0) off).updPort p (fun q => { q with prevRx := some (wrapSf (off - 50000 * ((off + 25000) / 50000))) }) else s
  let s := s.checkCyc p (segd % 1024)
  if !bit flags 2 && s.fab.plan.isSome then s.endPlan else s

/-- BEACON_TIMEOUT (Table FAB-7). -/
def execBeaconTimeout (p : Fin 2) (s : State) : Host.Outcome State Fault Refusal :=
  .next (
    let q := s.ports.get p
    let gone := s.since q.bcnAt
    if !s.netOn p || s.isRoot then s
    else match q.sync with
      | .synced => if 20 < gone then s.updPort p (fun q => { q with sync := .holdover }) else s
      | .unsynced => s
      | _ =>
        if 20 * s.par 0x6004 < gone then
          let s := (s.updPort p (fun q =>
            { q with sync := .unsynced, source := none, depth := none, srcSync := false, prevRx := none, inTol := 0 })).syncEv 0
          if both2.all (fun p => (s.ports.get p).source.isNone) then { s with fab := { s.fab with root := none } } else s
        else s)

/-! ### Segments (R469 to R471) -/

/-- Body of a SEG frame. -/
def segBody (uid : BitVec 64) (port seg : Nat) : List Byte := leBytes 8 uid.toNat ++ b8 port ++ le16 seg ++ [0]

/-- SEG_REQUEST_TIMER: `p` is the downstream port without a segment (R470; log entry 22). -/
def execSegRequestTimer (p : Fin 2) (s : State) : Host.Outcome State Fault Refusal :=
  .next (
    match s.upstream with
    | some u =>
      let q := s.ports.get p
      if s.isRouter && s.downstream p && (s.portSeg p).isNone && q.segTimer == 0 && s.portHeld u && s.portSends u &&
          s.portSync u == .synced then
        let tag := s.fab.tag
        match s.queueControl u [mkFrame (s.ownHead u 0 2 1 0 tag false) (segBody Config.uid (p.val + 1) q.lastGrant)] with
        | some t =>
          let t := { t with fab := { t.fab with tag := (tag + 1) % 256 } }
          t.updPort p (fun q => { q with segTimer := 64 })
        | none => s
      else s
    | none => s)

/-- A segment is neither in the root's route table nor granted in the last 3 × net.rt_period sf (R471). -/
def State.segFree (s : State) (seg : Nat) : Bool :=
  !(both2.any (fun p => s.netOn p && s.portSeg p == some seg)) &&
  !(s.fab.routes.any (fun r => r.seg == seg)) &&
  !(s.fab.grants.any (fun g => g.1 == seg && decide ((s.frame.superframe - g.2).toNat ≤ 3 * s.par 0x6003)))

/-- The segment that the root grants. -/
def State.segFor (s : State) (pref : Nat) : Option Nat :=
  if pref < 1024 && s.segFree pref then some pref
  else ((List.range 1024).map (fun k => (s.par 0x6002 + k) % 1024)).find? s.segFree

/-- SEG_GRANT at the requester: the segment takes effect at the next superframe boundary (R471). -/
def execSegGrant (p : Fin 2) (f : AmFrame) (s : State) : Host.Outcome State Fault Refusal :=
  .next (s.rx p f 2 (fun s =>
    let a := headOf f
    let b := bodyOf f
    let d : Fin 2 := if getB b 8 = 2 then 1 else 0
    let seg := get16 b 9
    if a.resp && s.isRouter && a.dmode == 0 && a.dst == s.portAddr p && getN b 0 8 == Config.uid.toNat && d != p &&
        decide (seg < 1024) && s.par (netId d 2) == 0xFFFF then
      s.updPort d (fun q => { q with segNext := some seg })
    else s))

/-! ### Enabling and disabling -/

/-- FT-0x0601 and FT-0x0602 stand while a fabric port is in bus-off or stopped. -/
def State.busRecovered (s : State) : State :=
  let s := if both2.any (fun p => (s.ports.get p).busOff) then s else s.condEnd 0x0601
  if both2.any (fun p => (s.ports.get p).stopped) then s else s.condEnd 0x0602

/-- Unit NETp is enabled: its domain stands at Ready (R466, R467). -/
def State.portEnable (s : State) (p : Fin 2) : State :=
  let fixed := s.par (netId p 3) != 0xFF
  let s := s.updPort p (fun q =>
    let q := { q with rank := if fixed then 2 else 0, inUse := 0, barred := false, full := false, mayClaim := true, seg := none, segNext := none,
                      segTimer := 0, sync := if s.isRoot then .synced else .unsynced, depth := none, source := none,
                      srcSync := false, prevRx := none, inTol := 0, offsets := [], busOff := false, stopped := false,
                      offTimes := [], queues := Quad.all [], silent := false, ptx := none, bcnTx := none, cycTx := [], latched := [],
                      rxCyc := [], nacks := [], buckets := [], cycBad := false, rtPos := none, rtClock := s.par 0x6003 }
    q.toListen (if fixed then 0 else 32) false)
  let s := { s with fab := { s.fab with watches := (List.range 16).map (fun w =>
    let x : WatchSt := s.fab.watches.getD w {}
    if s.par (0x6051 + 4 * w) = 0 then {}
    else if x.st = WatchState.off then { st := .unknown, since := s.frame.superframe, period := s.par 0x6040 } else x) } }
  s.claimRecovered.busRecovered

/-- Commands whose NET_SEND frames leave a queue unsent complete CANCELLED (R512). -/
def State.dropSends (s : State) (l : List QFrame) : State :=
  (dedup (l.filterMap (fun e => e.hop))).foldl (fun t h => if t.stage h = .started then t.finish h 2 0xFFFF [] else t) s

/-- Unit NETp is disabled. -/
def State.portDisable (s : State) (p : Fin 2) : State :=
  let l := (s.ports.get p).queues.toList.flatten
  let s := s.dropSends l
  let s := s.updPort p (fun q =>
    { (q.toListen 0 false) with queues := Quad.all [], seg := none, source := none, depth := none, srcSync := false,
                                sync := .unsynced, busOff := false, stopped := false, offTimes := [], silent := false,
                                barred := false, full := false, bcnTx := none, ptx := none, cycTx := [], latched := [], rxCyc := [] })
  let asms := s.fab.asms.filter (fun a => a.port != p.val + 1)
  let near := s.fab.neighbours.filter (fun n => n.port != p.val + 1)
  let routes := s.fab.routes.filter (fun r => r.port != p.val + 1)
  let s := { s with fab := { s.fab with asms := asms, neighbours := near, routes := routes } }
  let s := if s.netOn 0 || s.netOn 1 then s
    else ({ s with fab := { s.fab with watches := List.replicate 16 {}, root := none, evts := [] } } : State).endPlan
  s.claimRecovered.busRecovered

end Sys2Proof.Machine
end

