-- ==== Sys2Proof/Machine/Relay.lean ====
section
/-! DEFINITION. Fabric queues and their drop rules, NACKs, watches, routes, forwarding and transmission (15, 16). -/

namespace Sys2Proof.Machine

/-! ### Dropping and queueing (R512, Table EDGE-4) -/

/-- `n` frames of class `c` are dropped: counted, EV-0x0626 for the first of the class in each superframe. -/
def State.dropped (s : State) (p : Fin 2) (c : Fin 4) (n : Nat) : State :=
  let seen := s.fab.dropSeen.get c
  let s := s.updPort p (fun q => { q with dropsPerClass := q.dropsPerClass.upd c (fun v => min 0xFFFF (v + n)) })
  let s := { s with fab := { s.fab with dropSeen := s.fab.dropSeen.set c true } }
  s.evIf (!seen) 0x0626 c.val

def QFrame.isHbeat (e : QFrame) : Bool := (headOf e.frame).kind == 8

/-- Entries of one message: equal SRC and TAG, and the same NET_SEND. -/
def QFrame.sameMsg (e d : QFrame) : Bool :=
  e.hop == d.hop && (headOf e.frame).src == (headOf d.frame).src && (headOf e.frame).tag == (headOf d.frame).tag &&
  (headOf e.frame).kind == (headOf d.frame).kind && e.frames == d.frames && decide (1 < e.frames)

/-- Remove the oldest telemetry frame that is no HBEAT, with its message's other fragments. -/
def State.dropOldest (s : State) (p : Fin 2) : Option State :=
  let l := (s.ports.get p).queues.get 2
  match l.find? (fun e => !e.isHbeat) with
  | none => none
  | some d =>
    let gone := l.filter (fun e => e == d || e.sameMsg d)
    let rest := l.filter (fun e => !(e == d || e.sameMsg d))
    let s := s.updPort p (fun q => { q with queues := q.queues.set 2 rest })
    some ((s.dropped p 2 gone.length).dropSends gone)

/-- Make room in the telemetry queue for `n` frames, dropping at most `k` messages. -/
def State.makeRoom (s : State) (p : Fin 2) (n : Nat) : Nat → State
  | 0 => s
  | k + 1 =>
    if (s.ports.get p).room 2 n then s
    else match s.dropOldest p with
      | some t => t.makeRoom p n k
      | none => s

/-- A message arrives at a time, telemetry or bulk queue. -/
def State.enqueue (s : State) (p : Fin 2) (c : Fin 4) (m : List QFrame) : State :=
  if (s.ports.get p).room c m.length then s.updPort p (fun q => q.push c m)
  else if c = 2 then
    let src (e : QFrame) : Nat := (headOf e.frame).src
    let hb := m.any QFrame.isHbeat
    let old := (s.ports.get p).queues.get 2
    if hb && old.any (fun e => e.isHbeat && m.any (fun d => src d == src e)) then
      s.updPort p (fun q => { q with
        queues := q.queues.set 2 (old.map (fun e =>
          if e.isHbeat && m.any (fun d => src d == src e) then m.headD e else e))
        queuedN := q.queuedN.upd 2 (· + 1) })
    else
      let s := s.makeRoom p m.length 32
      if (s.ports.get p).room 2 m.length then s.updPort p (fun q => q.push 2 m) else (s.dropped p 2 m.length).dropSends m
  else (s.dropped p c m.length).dropSends m

/-- Port towards an address: the one on its segment, else that of its route, else the port that is enabled, NET1 first. -/
def State.outPort (s : State) (dst : Nat) : Option (Fin 2) :=
  match both2.find? (fun p => s.netOn p && s.portSeg p == some (dst / 64)) with
  | some p => some p
  | none =>
    match s.fab.routes.find? (fun r => r.seg == dst / 64 && decide (r.metric < 16)) with
    | some r => some (if r.port = 2 then 1 else 0)
    | none => both2.find? (fun p => s.netOn p)

def State.nextTag (s : State) : Nat × State := (s.fab.tag, { s with fab := { s.fab with tag := (s.fab.tag + 1) % 256 } })

/-! ### NACKs (R513, Table EDGE-5) -/

/-- Send a NACK for the dropped frame `a` out of port `p`; a NACK that finds the control queue full is dropped and counted. -/
def State.sendNack (s : State) (p by_ : Fin 2) (a : AmHead) (reason where_ drops : Nat) : State :=
  if !s.portHeld p then s
  else
    let (tag, s) := s.nextTag
    let f := mkFrame (s.ownHead p 0 9 0 a.src tag false)
      (b8 reason ++ b8 a.kind ++ b8 a.cls ++ b8 where_ ++ le16 a.dst ++ b8 a.tag ++ b8 a.fseq ++ le16 (s.portAddr by_)
        ++ le16 (satU 16 drops))
    match s.queueControl p [f] with
    | some t => t.updPort by_ (fun q => { q with nackTx := inc16 q.nackTx })
    | none => s.dropped p 0 1

/-- A unicast frame was dropped at port `by_`: at most one NACK per (SRC, reason) per superframe, counting every such drop. -/
def State.nackDrop (s : State) (p by_ : Fin 2) (a : AmHead) (reason : Nat) : State :=
  if a.dmode ≠ 0 then s
  else
    let l := (s.ports.get by_).nacks
    let hit (e : Nat × Nat × Nat × Bool) : Bool := e.1 == a.src && e.2.1 == reason
    match l.find? hit with
    | some e =>
      if e.2.2.2 then
        s.updPort by_ (fun q => { q with nacks := l.map (fun x => if hit x then (x.1, x.2.1, x.2.2.1 + 1, true) else x) })
      else
        (s.updPort by_ (fun q => { q with nacks := l.map (fun x => if hit x then (x.1, x.2.1, 0, true) else x) })).sendNack
          p by_ a reason 0 (e.2.2.1 + 1)
    | none =>
      (s.updPort by_ (fun q => { q with nacks := l ++ [(a.src, reason, 0, true)] })).sendNack p by_ a reason 0 1

/-! ### Partner loss (R508 to R510) -/

/-- The watched address lies on a segment of none of the device's ports. -/
def State.remote (s : State) (addr : Nat) : Bool := !both2.any (fun p => s.netOn p && s.portSeg p == some (addr / 64))

/-- A router's EVT of a loss (0x0620) or return (0x0621), as a fabric broadcast on both ports (R509, R511). -/
def State.sendLossEvt (s : State) (code addr : Nat) : State :=
  if !s.isRouter then s
  else
    let (tag, s) := s.nextTag
    forPorts s (fun p t =>
      if t.portHeld p then
        t.enqueue p 2 (asQueue none [mkFrame (t.ownHead p 2 7 2 0 tag false)
          ([1, 0, 0, 0] ++ le16 code ++ le16 addr ++ le32 t.fr)])
      else t)

def State.updWatch (s : State) (w : Nat) (f : WatchSt → WatchSt) : State :=
  { s with fab := { s.fab with watches := updAt s.fab.watches w f } }

/-- Ask for the watch's action on each of its axes; the stronger of two wins (R510). -/
def State.watchAction (s : State) (w : Nat) : State :=
  let act := s.par (0x6051 + 4 * w)
  if act < 2 then s
  else
    let ask (l : List (Nat × Nat)) (n : Fin 4) : List (Nat × Nat) :=
      if l.any (fun e => e.1 == n.val) then l.map (fun e => if e.1 = n.val then (e.1, max e.2 act) else e) else l ++ [(n.val, act)]
    { s with fab := { s.fab with actions := (maskAxes (s.par (0x6052 + 4 * w) % 16)).foldl ask s.fab.actions } }

/-- Watch `w` is lost: EV-0x0620 unless `quiet`, and its action, once per loss (Table EDGE-3). -/
def State.watchLost (s : State) (w : Nat) (quiet : Bool) : State :=
  let x := s.fab.watches.getD w {}
  if x.st == .unknown || x.st == .alive then
    let s := s.updWatch w (fun x => { x with st := .lost, back := none })
    (s.evIf (!quiet) 0x0620 (s.par (0x6050 + 4 * w))).watchAction w
  else s

/-- Watch `w` returns or is heard for the first time (Table EDGE-3). -/
def State.watchBack (s : State) (w : Nat) (quiet : Bool) : State :=
  let x := s.fab.watches.getD w {}
  match x.st with
  | .off => s
  | .lost => (s.updWatch w (fun x => { x with st := .alive, back := none })).evIf (!quiet) 0x0621 (s.par (0x6050 + 4 * w))
  | _ => s.updWatch w (fun x => { x with st := .alive, back := none })

def watch16 : List Nat := List.range 16

/-- Watches of an address. -/
def State.watchesOf (s : State) (addr : Nat) : List Nat :=
  watch16.filter (fun w => s.par (0x6050 + 4 * w) == addr && (s.fab.watches.getD w {}).st != .off)

/-- Remote watches follow the reachability of their segment (R509). -/
def State.watchRoutes (s : State) : State :=
  watch16.foldl (fun t w =>
    let addr := t.par (0x6050 + 4 * w)
    let x := t.fab.watches.getD w {}
    if x.st == .off || !t.remote addr then t
    else
      match t.fab.routes.find? (fun r => r.seg == addr / 64) with
      | none => t
      | some r =>
        if 16 ≤ r.metric then t.watchLost w false
        else if x.st == .lost && x.back.isNone then t.updWatch w (fun x => { x with back := some t.frame.superframe })
        else t) s

/-- A remote watch whose route has been back for 3 × net.hb_period + 1 sf without a LOSS returns. -/
def State.watchReturns (s : State) : State :=
  watch16.foldl (fun t w =>
    match (t.fab.watches.getD w {}).back with
    | some b => if 3 * t.par 0x6040 + 1 ≤ (t.frame.superframe - b).toNat then t.watchBack w false else t
    | none => t) s

/-- EV and router EVT of one address lost or back on a port, then its watches. -/
def State.nodeLost (s : State) (addr : Nat) : State :=
  let s := (s.ev 0x0620 addr).sendLossEvt 0x0620 addr
  (s.watchesOf addr).foldl (fun t w => t.watchLost w true) s

/-- HBEAT_RECEIVED (R508). -/
def execHbeatReceived (p : Fin 2) (f : AmFrame) (s : State) : Host.Outcome State Fault Refusal :=
  .next (s.rx p f 8 (fun s =>
    let a := headOf f
    let period := get16 (bodyOf f) 4
    let now := s.frame.superframe
    let here (n : Neighbour) : Bool := n.port == p.val + 1 && n.addr == a.src
    let was := s.fab.neighbours.any (fun n => here n && n.lost)
    let near := if s.isRouter then
        (if s.fab.neighbours.any here then
          s.fab.neighbours.map (fun n => if here n then { n with last := now, period := period, lost := false } else n)
        else s.fab.neighbours ++ [{ port := p.val + 1, addr := a.src, last := now, period := period, lost := false }])
      else s.fab.neighbours
    let s := { s with fab := { s.fab with neighbours := near } }
    let ws := s.watchesOf a.src
    let lostW := ws.any (fun w => (s.fab.watches.getD w {}).st == .lost)
    let s := ws.foldl (fun t w =>
      (t.watchBack w true).updWatch w (fun x => { x with since := now, period := period })) s
    if was || lostW then (s.noteEv 0x0621 a.src).sendLossEvt 0x0621 a.src else s))

/-- The deadline of a neighbour or watch has passed (R508). -/
def State.overdue (s : State) (last : BitVec 32) (period : Nat) : Bool :=
  decide (3 * period + 1 < (s.frame.superframe - last).toNat)

/-- HEARTBEAT_DEADLINE (R508, Table EDGE-3). -/
def execHeartbeatDeadline (p : Fin 2) (addr : Nat) (s : State) : Host.Outcome State Fault Refusal :=
  .next (
    let here (n : Neighbour) : Bool := n.port == p.val + 1 && n.addr == addr
    let near := s.fab.neighbours.any (fun n => here n && !n.lost && s.overdue n.last n.period)
    let ws := (s.watchesOf addr).filter (fun w =>
      let x := s.fab.watches.getD w {}
      (x.st == .unknown || x.st == .alive) && s.overdue x.since x.period)
    let watched := s.netOn p && s.portSeg p == some (addr / 64) && !ws.isEmpty
    if near || watched then
      ({ s with fab := { s.fab with neighbours := s.fab.neighbours.map (fun n => if here n then { n with lost := true } else n) } }
        : State).nodeLost addr
    else s)

/-- EVT_RECEIVED: a router's broadcast of a loss or return acts on remote watches (R509). -/
def execEvtReceived (p : Fin 2) (f : AmFrame) (s : State) : Host.Outcome State Fault Refusal :=
  .next (s.rx p f 7 (fun s =>
    let b := bodyOf f
    if (headOf f).dmode ≠ 2 then s
    else
      (List.range (min 6 (getB b 0))).foldl (fun t i =>
        let code := get16 b (4 + 8 * i)
        let addr := get16 b (6 + 8 * i)
        if !t.remote addr then t
        else (t.watchesOf addr).foldl (fun t w =>
          if code = 0x0620 then (t.watchLost w false).updWatch w (fun x => { x with back := none })
          else if code = 0x0621 then t.watchBack w false
          else t) t) s))

/-! ### Routes (R473 to R475) -/

/-- The table has changed: EV-0x0605 for the first change in each superframe, and remote watches. -/
def State.routesChanged (s : State) : State :=
  let seen := s.fab.routeSeen
  let s := { s with fab := { s.fab with routeSeen := true } }
  (if seen then s else s.evFree 0x0605).watchRoutes

/-- Flags of a triggered update: every port but the one the entry was learned on. -/
def trigger (port : Nat) : Duo Bool := ⟨port != 1, port != 2⟩

/-- Take one advertised entry from node `i` on port `p` (R474). -/
def State.learnRoute (s : State) (p : Fin 2) (i v : Nat) : State :=
  let seg := v / 64
  let m := min 16 (v % 32 + 1)
  let port := p.val + 1
  if both2.any (fun q => s.netOn q && s.portSeg q == some seg) then s.raise 0x0604 seg 0 false
  else match s.fab.routes.find? (fun r => r.seg == seg) with
    | none =>
      if 16 ≤ m then s
      else
        let r : Route := { seg := seg, port := port, nh := i, metric := m, age := 0, changed := trigger port }
        let l := insertBy (fun (a b : Route) => decide (a.seg < b.seg)) r s.fab.routes
        ({ s with fab := { s.fab with routes := l } } : State).routesChanged
    | some r =>
      let same := r.port == port && r.nh == i
      if m < r.metric || same || (r.metric == 16 && decide (m < 16)) then
        let new := r.metric != m || !same
        let put (x : Route) : Route := if x.seg = seg then
            { x with port := port, nh := i, metric := m, age := if m = 16 then x.age else 0,
                     changed := if new then trigger port else x.changed } else x
        let s := { s with fab := { s.fab with routes := s.fab.routes.map put } }
        if new then s.routesChanged else s
      else s

/-- ROUTE_RECEIVED: up to 26 entries (R473, R474). -/
def execRouteReceived (p : Fin 2) (f : AmFrame) (s : State) : Host.Outcome State Fault Refusal :=
  .next (s.rx p f 3 (fun s =>
    let b := bodyOf f
    let n := min (min 26 ((b.length - 4) / 2)) (get16 b 0 - get16 b 2)
    if !s.isRouter then s
    else (List.range n).foldl (fun t k => t.learnRoute p (headOf f).txidx (get16 b (4 + 2 * k))) s))

/-- Length in superframes after which an entry counts as not refreshed (R474). -/
def State.routeLife (s : State) : Nat := 3 * max (s.par 0x6003) (max (s.ports.get 0).rtLen (s.ports.get 1).rtLen)

/-- ROUTE_EXPIRY (R474). -/
def execRouteExpiry (seg : Nat) (s : State) : Host.Outcome State Fault Refusal :=
  .next (
    if s.isRouter && s.fab.routes.any (fun r => r.seg == seg && decide (r.metric < 16) && decide (s.routeLife ≤ r.age)) then
      ({ s with fab := { s.fab with routes := s.fab.routes.map (fun r =>
          if r.seg = seg then { r with metric := 16, changed := trigger r.port } else r) } } : State).routesChanged
    else s)

/-- Entries that port `p` advertises: segment and metric, by rising segment (R474; split horizon also for the port's own segment). -/
def State.advertised (s : State) (p : Fin 2) : List (Nat × Nat) :=
  let own := (both2.filter (fun q => q != p && s.netOn q)).filterMap (fun q => (s.portSeg q).map (fun v => (v, 0)))
  let far := (s.fab.routes.filter (fun r => r.port != p.val + 1 && decide (r.metric < 16))).map (fun r => (r.seg, r.metric))
  sortBy (fun a b => decide (a.1 < b.1)) (own ++ far)

/-- A ROUTE frame: total count, number of the first entry, the entries. -/
def State.routeFrame (s : State) (p : Fin 2) (total first : Nat) (l : List (Nat × Nat)) : AmFrame :=
  mkFrame (s.ownHead p 0 3 1 0 0 false) (le16 total ++ le16 first ++ l.flatMap (fun e => le16 (e.1 * 64 + e.2)))

/-- Triggered updates of one superframe: at most four frames of 26 entries (R475). -/
def State.sendTriggered (s : State) (p : Fin 2) : Nat → State
  | 0 => s
  | k + 1 =>
    let l := (s.fab.routes.filter (fun r => r.changed.get p)).map (fun r => (r.seg, r.metric))
    if l.isEmpty then s
    else
      let now := l.take 26
      match s.queueControl p [s.routeFrame p l.length 0 now] with
      | none => s
      | some t =>
        ({ t with fab := { t.fab with routes := t.fab.routes.map (fun r =>
            if now.any (fun e => e.1 == r.seg) then { r with changed := r.changed.set p false } else r) } } : State).sendTriggered p k

/-- The periodic cycle of one superframe: one frame (R474). -/
def State.sendPeriodic (s : State) (p : Fin 2) : State :=
  let q := s.ports.get p
  let s := match q.rtPos with
    | none => if s.par 0x6003 ≤ q.rtClock then s.updPort p (fun q => { q with rtPos := some 0, rtClock := 0 }) else s
    | some _ => s
  match (s.ports.get p).rtPos with
  | none => s
  | some k =>
    let l := s.advertised p
    let now := (l.drop k).take 26
    match s.queueControl p [s.routeFrame p l.length k now] with
    | none => s
    | some t => t.updPort p (fun q =>
        if k + 26 < l.length then { q with rtPos := some (k + 26) } else { q with rtPos := none, rtLen := q.rtClock + 1 })

/-- Route work of a port at a superframe boundary. -/
def State.routeSuper (s : State) (p : Fin 2) : State :=
  let s := s.updPort p (fun q => { q with rtClock := q.rtClock + 1 })
  if s.isRouter && s.portHeld p && s.portSends p && (s.portSeg p).isSome then (s.sendTriggered p 4).sendPeriodic p
  else { s with fab := { s.fab with routes := s.fab.routes.map (fun r => { r with changed := r.changed.set p false }) } }

/-- Ages rise, and an unreachable entry that every port has advertised is removed (R474). -/
def State.routesAge (s : State) : State :=
  { s with fab := { s.fab with routes := (s.fab.routes.filter (fun r =>
      decide (r.metric < 16) || r.changed.d0 || r.changed.d1)).map (fun r => { r with age := r.age + 1 }) } }

/-! ### Forwarding (R476 to R478, R514) -/

/-- Tokens in sixteenths. -/
def bucketFull (s : State) (cmd : Bool) : Nat := 16 * s.par (if cmd then 0x6049 else 0x6047)

/-- Take a token for `src`; the state with the token taken, or none when the frame is policed (R514). -/
def State.police (s : State) (p : Fin 2) (src : Nat) (cmd : Bool) : State × Bool :=
  if s.par 0x6045 = 0 then (s, true)
  else
    let q := s.ports.get p
    let now := s.frame.superframe
    let mine (b : Bucket) : Bool := b.src == src && b.cmd == cmd
    let others := q.buckets.filter (fun b => b.src != src)
    let srcs := dedup (others.map (·.src))
    let age (v : Nat) : Nat := (((others.filter (fun b => b.src == v)).map (fun b => (now - b.last).toNat)).foldl min (2 ^ 32))
    let oldest := srcs.foldl (fun (m : Option Nat) v => match m with | none => some v | some w => if age w < age v then some v else some w) none
    let isNew := !q.buckets.any (fun b => b.src == src)
    let keep := if isNew && decide (128 ≤ srcs.length) then others.filter (fun b => some b.src != oldest) else others
    let pair : List Bucket := if isNew then
        [{ src := src, cmd := true, tokens := bucketFull s true, last := now },
         { src := src, cmd := false, tokens := bucketFull s false, last := now }]
      else (q.buckets.filter (fun b => b.src == src)).map (fun b => { b with last := now })
    let ok := pair.any (fun b => mine b && decide (16 ≤ b.tokens))
    let pair := if ok then pair.map (fun b => if mine b then { b with tokens := b.tokens - 16 } else b) else pair
    (s.updPort p (fun q => { q with buckets := keep ++ pair }), ok)

/-- Buckets fill by the rate per 16 sf, up to the burst. -/
def State.fillBuckets (s : State) (p : Fin 2) : State :=
  s.updPort p (fun q => { q with buckets := q.buckets.map (fun b =>
    { b with tokens := min (bucketFull s b.cmd) (b.tokens + s.par (if b.cmd then 0x6048 else 0x6046)) }) })

/-- EV-0x0607, qualifier 0 hop limit, 1 no route, for the first such drop in each superframe. -/
def State.fwdEv (s : State) (k : Fin 2) : State :=
  let seen := s.fab.fwdSeen.get k
  ({ s with fab := { s.fab with fwdSeen := s.fab.fwdSeen.set k true } } : State).evIf (!seen) 0x0607 k.val

/-- Frame with HOPS, NH and the transmitter's index changed, everything else kept (R460). -/
def reFrame (f : AmFrame) (hops nh txidx : Nat) : AmFrame :=
  let b0 := getB f.data 0
  { ident := BitVec.ofNat 29 (f.ident.toNat / 64 * 64 + txidx % 64)
    data := (f.data.set 0 (BitVec.ofNat 8 (b0 / 16 * 16 + hops % 16))).set 6 (BitVec.ofNat 8 nh) }

/-- Port and next hop of a unicast frame (R476). -/
def State.routeTo (s : State) (dst : Nat) : Option (Fin 2 × Nat) :=
  match both2.find? (fun p => s.netOn p && s.portSeg p == some (dst / 64)) with
  | some p => some (p, 0x40)
  | none =>
    match s.fab.routes.find? (fun r => r.seg == dst / 64 && decide (r.metric < 16)) with
    | some r => some (if r.port = 2 then 1 else 0, if r.metric = 1 then 0x40 else r.nh)
    | none => none

/-- Duplicate within the last 2 sf; the cache with the frame entered (R477). -/
def State.duplicate (s : State) (a : AmHead) : State × Bool :=
  let now := s.frame.superframe
  let live := s.fab.dedupe.filter (fun e => decide ((now - e.2.2.2).toNat ≤ 2))
  let dup := live.any (fun e => e.1 == a.src && e.2.1 == a.tag && e.2.2.1 == a.fseq)
  let l := if dup then live else live ++ [(a.src, a.tag, a.fseq, now)]
  ({ s with fab := { s.fab with dedupe := l.drop (l.length - 64) } }, dup)

/-- A frame that neither hop limit nor routing stops is policed and set aside for the next frame (R478, R514). -/
def State.forwardOn (s : State) (p out : Fin 2) (nh : Nat) (f : AmFrame) : State :=
  let a := headOf f
  let (s, ok) := if a.kind == 9 || a.kind == 0xA then (s, true) else s.police p a.src (a.cls == 0)
  if ok then
    let g := reFrame f (a.hops - 1) nh (s.ports.get out).index
    { s with fab := { s.fab with fwd := s.fab.fwd ++ [(out, Fin.ofNat 4 a.cls, p, g)] } }
  else
    let seen := s.fab.polSeen
    let s := s.updPort p (fun q => { q with policed := inc16 q.policed })
    let s := { s with fab := { s.fab with polSeen := true } }
    (if seen then s else s.evFree 0x0627).nackDrop p p a 4

/-- FRAME_FOR_FORWARDING (R460, R463, R476, R477). -/
def execFrameForForwarding (p : Fin 2) (f : AmFrame) (s : State) : Host.Outcome State Fault Refusal :=
  .next (s.rx p f (headOf f).kind (fun s =>
    let a := headOf f
    let own := both2.any (fun q => s.portHeld q && a.dst == s.portAddr q)
    if !s.isRouter || a.local_ || a.dmode == 1 || a.kind == 0 || a.kind == 1 || a.kind == 3 || a.kind == 4 || a.kind == 8 ||
        !s.portHeld p || !s.portSends p then s
    else if a.dmode == 0 then
      if own || a.nh != (s.ports.get p).index then s
      else if a.hops == 0 then
        ((s.updPort p (fun q => { q with hopDrops := inc16 q.hopDrops })).fwdEv 0).nackDrop p p a 3
      else match s.routeTo a.dst with
        | none => ((s.updPort p (fun q => { q with routeDrops := inc16 q.routeDrops })).fwdEv 1).nackDrop p p a 2
        | some (out, nh) => if s.portHeld out then s.forwardOn p out nh f else s
    else
      let (s, dup) := s.duplicate a
      if dup then s.updPort p (fun q => { q with dups := inc16 q.dups })
      else if a.hops == 0 then (s.updPort p (fun q => { q with hopDrops := inc16 q.hopDrops })).fwdEv 0
      else if s.portHeld (otherPort p) then s.forwardOn p (otherPort p) 0x40 f
      else s))

/-- SEG_REQUEST: answered by the root, forwarded upstream by a router (R470, R471). -/
def execSegRequest (p : Fin 2) (f : AmFrame) (s : State) : Host.Outcome State Fault Refusal :=
  .next (s.rx p f 2 (fun s =>
    let a := headOf f
    let b := bodyOf f
    if a.resp || !s.portHeld p then s
    else if s.isRoot then
      let g := s.segFor (get16 b 9)
      let s := if g.isNone then s.raiseFree 0x0606 0 false else s
      let s := match g with
        | some v => { s with fab := { s.fab with grants := ((v, s.frame.superframe) :: s.fab.grants).take 256 } }
        | none => s
      let h := s.ownHead p 0 2 0 a.src a.tag true
      match s.queueControl p [mkFrame h (segBody (BitVec.ofNat 64 (getN b 0 8)) (getB b 8) (g.getD 0xFFFF))] with
      | some t => t
      | none => s
    else match s.upstream with
      | some u =>
        if !s.isRouter || u == p || a.local_ then s
        else if a.hops = 0 then (s.updPort p (fun q => { q with hopDrops := inc16 q.hopDrops })).fwdEv 0
        else if s.portHeld u then s.forwardOn p u 0x40 f
        else s
      | none => s))

/-- In the frame after its reception a forwarded frame enters its class queue (R478); a control frame that finds it full is
answered with a congestion NACK (Table EDGE-4). -/
def State.forwardStep (s : State) : State :=
  let l := s.fab.fwd
  let s := { s with fab := { s.fab with fwd := [] } }
  l.foldl (fun t e =>
    let (out, c, p, f) := e
    if !t.netOn out then t
    else if c = 0 then
      (match t.queueControl out [f] with
       | some u => u
       | none =>
         if (headOf f).kind = 9 then t.dropped out 0 1 else (t.dropped out 0 1).nackDrop p out (headOf f) 1)
    else t.enqueue out c (asQueue none [f])) s

/-! ### Transmission (R485, R493, R496) -/

/-- Length of the cyclic window in frames; 1 without a schedule (R485). -/
def State.cyclicWindow (s : State) (p : Fin 2) : Nat := match (s.ports.get p).sched with | some t => t.w | none => 1

/-- Class and entry that the port offers: the head of the lowest-numbered non-empty queue; while it is not HELD its CLAIM only. -/
def State.offered (s : State) (p : Fin 2) : Option (Fin 4 × QFrame) :=
  let q := s.ports.get p
  if q.claim != .held then
    ((q.queues.get 0).find? (fun e => (headOf e.frame).kind == 1)).map (fun e => (0, e))
  else ([0, 1, 2, 3] : List (Fin 4)).findSome? (fun c => (q.queues.get c).head?.map (fun e => (c, e)))

/-- A frame that the port offers in the event window has completed. -/
def State.sentOffered (s : State) (p : Fin 2) (cls : Fin 4) (start : Int) : State :=
    match s.offered p with
    | none => s
    | some (c, e) =>
      let t : Rat := 200 * busTime (s.par (netId p 0)) (s.par (netId p 1)) e.frame.data.length
      if c ≠ cls ∨ start < 10000 * (s.cyclicWindow p : Int) ∨ 200000 < (start : Rat) + t then s
      else
        let a := headOf e.frame
        let s := s.updPort p (fun q => { q with
          queues := q.queues.set c ((q.queues.get c).erase e)
          sentN := q.sentN.upd c inc16
          lastTx := some e.frame })
        let pair := s.isPairClaim p e
        let s := if a.kind ≠ 1 then s
          else
            let s := s.claimsAnew p
            if pair then { s with twin := { s.twin with pairN := if s.twin.pairClaim = .claiming then 1 else 0 } }
            else s.updPort p (fun q => { q with claimN := if q.claim = .claiming then 1 else 0 })
        match e.hop with
        | some h => if e.last ∧ s.stage h = .started then s.doneWith h (le32 s.fr) else s
        | none => s

/-- A frame of class `cls` completes on a fabric port `off` ticks after the last boundary, `gone` ticks after it started: the
beacon where it began in frame 0, a released CYCLIC frame where it began in the cyclic window, else the offered frame, which began in
the event window and by its time t(n) ends before the superframe does (R479, R480, R485, R488, R493). -/
def State.fabSent (s : State) (p : Fin 2) (cls : Fin 4) (off gone : Nat) : State :=
    let start : Int := 10000 * (s.frame.index : Int) + off - gone
    let q := s.ports.get p
    if !s.portSends p ∨ s.clock.settle.isSome then s
    else match (if cls = 1 ∧ 0 ≤ start ∧ start < 10000 then q.bcnTx else none) with
      | some f =>
        -- the stamp to 12.5 ns
        s.updPort p (fun q => { q with bcnTx := none, ptx := some (start.toNat * 2 / 5 * 25 / 2), lastTx := some f })
      | none =>
        match (if 0 ≤ start ∧ start < 10000 * (s.cyclicWindow p : Int) then q.cycTx.find? (fun f => (headOf f).cls == cls.val) else none) with
        | some f => s.updPort p (fun q => { q with cycTx := q.cycTx.erase f, lastTx := some f })
        | none => s.sentOffered p cls start

/-- CAN_FRAME_TRANSMITTED: on a fabric port (0 NET1, 1 NET2), or on the ISO port (2), whose frames leave in order of arrival (R41). -/
def execCanFrameTransmitted (p : Fin 3) (cls : Fin 4) (off gone : Nat) (s : State) : Host.Outcome State Fault Refusal :=
  .next (if p = 2 then s.isoSent else s.fabSent (if p = 1 then 1 else 0) cls off gone)

end Sys2Proof.Machine
end

