-- ==== Sys2Proof/Machine/Message.lean ====
section
/-! DEFINITION. Fabric messages to the device, the work of each superframe, and the NET commands (15, 16). -/

namespace Sys2Proof.Machine

/-! ### Addressing (R462, R463, R557) -/

/-- A multicast group of the device. -/
def State.inGroup (s : State) (g : Nat) : Bool := g != 0 && (List.range 8).any (fun k => s.par (0x6008 + k) == g)

/-- The frame is addressed to the pair, by its segment and index. -/
def State.forPair (s : State) (a : AmHead) : Bool := a.dmode == 0 && s.pairAddr == some a.dst

/-- The frame is addressed to this device. -/
def State.forMe (s : State) (p : Fin 2) (a : AmHead) : Bool :=
  match a.dmode with
  | 0 =>
    both2.any (fun q => s.netOn q && (s.portSeg q).isSome && a.dst == s.portAddr q) ||
    ((a.local_ || (s.portSeg p).isNone) && a.dst % 64 == (s.ports.get p).index) || s.forPair a
  | 1 | 2 => true
  | _ => s.inGroup a.dst

/-! ### Assembly (R494) -/

/-- One more failed reassembly on a port. -/
def State.asmFailed (s : State) (p : Fin 2) : State := s.updPort p (fun q => { q with failed := inc16 q.failed })

/-- Take a fragment; the whole body when the message is complete. A message that fails is discarded and counted once, with the
fragments of it that still come; a first fragment begins a new message (R494). -/
def State.assemble (s : State) (p : Fin 2) (f : AmFrame) : State × Option (List Byte) :=
  let a := headOf f
  let b := bodyOf f
  let mine (x : Asm) : Bool := x.port == p.val + 1 && x.src == a.src && x.tag == a.tag
  let rest := s.fab.asms.filter (fun x => !mine x)
  let put (l : List Asm) : State := { s with fab := { s.fab with asms := l } }
  let new : Asm := { port := p.val + 1, src := a.src, tag := a.tag, kind := a.kind, dmode := a.dmode, cls := a.cls,
                     next := 1, body := b, ftime := a.ftime, at_ := s.frame.counter }
  let dead (t : State) (x : Asm) : State :=
    if a.more && decide (a.fseq < 15) then { t with fab := { t.fab with asms := rest ++ [{ x with dead := true }] } } else t
  let begin_ (t : State) : State × Option (List Byte) :=
    if a.more then ({ t with fab := { t.fab with asms := rest ++ [new] } }, none) else (t, some b)
  match s.fab.asms.find? mine with
  | none => if a.fseq = 0 then begin_ s else (dead (s.asmFailed p) { new with body := [] }, none)
  | some x =>
    let over_ := decide (80 < s.since x.at_)
    let s := if over_ && !x.dead then s.asmFailed p else s
    let open_ := !over_ && !x.dead
    if a.fseq = 0 then begin_ (if open_ then (put rest).asmFailed p else put rest)
    else if over_ then (dead ((put rest).asmFailed p) { new with body := [] }, none)
    else if x.dead then (dead (put rest) x, none)
    else if a.fseq ≠ x.next ∨ a.kind ≠ x.kind ∨ (a.more ∧ a.fseq = 15) then (dead ((put rest).asmFailed p) x, none)
    else if a.more then (put (rest ++ [{ x with next := x.next + 1, body := x.body ++ b }]), none)
    else (put rest, some (x.body ++ b))

/-- REASSEMBLY_TIMEOUT: not complete 4 sf after the first fragment. -/
def execReassemblyTimeout (p : Fin 2) (src tag : Nat) (s : State) : Host.Outcome State Fault Refusal :=
  .next (
    let mine (x : Asm) : Bool := x.port == p.val + 1 && x.src == src && x.tag == tag
    if s.fab.asms.any (fun x => mine x && decide (80 ≤ s.since x.at_)) then
      let counts := s.fab.asms.any (fun x => mine x && !x.dead)
      let s : State := { s with fab := { s.fab with asms := s.fab.asms.filter (fun x => !mine x) } }
      if counts then s.asmFailed p else s
    else s)

/-! ### Commands (R495, R496, R170) -/

/-- First free hopper of a virtual source, and how many its source address holds. -/
def State.virtualFree (s : State) (lo n : Nat) : Option Nat := ((List.range n).map (· + lo)).find? (fun h => s.stage h == .free)
def State.virtualHeld (s : State) (lo n addr : Nat) : Nat :=
  (((List.range n).map (· + lo)).filter (fun h => s.stage h != .free && (s.hop h).srcAddr == addr)).length

/-- Put header bytes 0 to 11 and the payload into a virtual hopper and hand it over. -/
def State.handOver (s : State) (h : Nat) (x : HopSt) (cmd : List Byte) : State :=
  let body := cmd.take 12 ++ [0, 0, 0, 0] ++ (cmd.drop 12).take 112
  ((s.setHop h (fun _ => { x with stage := .rung })).putSlot (128 * h) ((fit 128 0 body).set 7 0)).notePeak (srcOf h)

/-- EV-0x1103 for the first such refusal in each superframe (R170). -/
def State.busyEv (s : State) : State :=
  let seen := s.intake.busySeen
  let s := { s with intake := { s.intake with busySeen := true } }
  if seen then s else s.evFree 0x1103

def State.countRefused (s : State) (k : Fin 4) : State :=
  { s with intake := { s.intake with counts := s.intake.counts.upd k (fun c => { c with refused := c.refused + 1 }) } }

/-- Opcodes that a STANDBY takes from the pair address (R557). -/
def standbyTakes (op : Nat) : Bool := op == 0x0001 || op == 0x0141 || op == 0x0502 || op == 0x0504

/-- A complete CMD: taken into a fabric hopper, or answered BUSY. -/
def State.takeFabric (s : State) (p : Fin 2) (a : AmHead) (ftime : Bool) (body : List Byte) : State :=
  let pair := s.forPair a
  let op := get16 body 0
  let role := s.twin.role
  if body.length < 12 + getB body 6 ∨ 112 < getB body 6 ∧ body.length < 124 then s.asmFailed p
  else if pair && !(role == .active || (role == .standby && standbyTakes op)) then s
  else
    let mute := pair && role != .active
    match s.virtualFree 16 8, decide (s.virtualHeld 16 8 a.src < s.par 0x0072) with
    | some h, true =>
      s.handOver h { srcAddr := a.src, port := p.val + 1, tag := a.tag, pair := pair, mute := mute, ftime := ftime } body
    | _, _ =>
      let s := s.busyEv.countRefused 1
      if a.dmode ≠ 0 ∨ mute then s else s.sendNack p p a 1 1 1

/-- FABRIC_CMD: a fragment of a CMD; the command is taken once the message is complete and the port is HELD (R468, R495). -/
def execFabricCmd (p : Fin 2) (f : AmFrame) (s : State) : Host.Outcome State Fault Refusal :=
  .next (s.rx p f 5 (fun s =>
    let a := headOf f
    if !s.forMe p a || a.dmode == 1 || a.dmode == 2 || !s.portHeld p || !s.portSends p then s
    else
      let (s, m) := s.assemble p f
      match m with
      | some body => s.takeFabric p a a.ftime body
      | none => s))

/-! ### DATA, NACK and CYCLIC -/

/-- DATA_RECEIVED: complete messages enter the 16-message queue (NET_RECV). -/
def execDataReceived (p : Fin 2) (f : AmFrame) (s : State) : Host.Outcome State Fault Refusal :=
  .next (s.rx p f 0xB (fun s =>
    let a := headOf f
    if !s.forMe p a then s
    else
      let (s, m) := s.assemble p f
      match m with
      | none => s
      | some body =>
        if 16 ≤ s.fab.recv.length then { s with fab := { s.fab with recvLost := s.fab.recvLost + 1 } }
        else
          let first := s.fab.recv.isEmpty
          let d : DataMsg := { port := p.val + 1, src := a.src, dmode := a.dmode, cls := a.cls, body := body }
          let s := { s with fab := { s.fab with recv := s.fab.recv ++ [d] } }
          if first then s.noteEvFree 0x0608 else s))

/-- NACK_RECEIVED: counted by reason, EV-0x0628 for the first in each superframe (R513). -/
def execNackReceived (p : Fin 2) (f : AmFrame) (s : State) : Host.Outcome State Fault Refusal :=
  .next (s.rx p f 9 (fun s =>
    let r := getB (bodyOf f) 0
    if !s.forMe p (headOf f) || r == 0 || decide (4 < r) then s
    else
      let seen := s.fab.nackSeen
      let s := s.updPort p (fun q => { q with nackRx := q.nackRx.upd (Fin.ofNat 4 (r - 1)) inc16 })
      ({ s with fab := { s.fab with nackSeen := true } } : State).evIf (!seen) 0x0628 r))

/-- This port consumes a slot (R490). -/
def State.consumes (s : State) (p : Fin 2) (e : SchedEntry) : Bool :=
  if s.par (netId p 3) ≠ 0xFF then e.mask.toNat.testBit (s.par (netId p 3))
  else (List.range 8).any (fun k => s.par (0x6010 + 4 * k) == p.val + 1 && s.par (0x6011 + 4 * k) == e.slot)

/-- CYCLIC_RECEIVED: held for the latch at the next boundary (R491). -/
def execCyclicReceived (p : Fin 2) (f : AmFrame) (s : State) : Host.Outcome State Fault Refusal :=
  .next (s.rx p f 4 (fun s =>
    let a := headOf f
    match (s.ports.get p).sched with
    | none => s
    | some t =>
      match t.entries.find? (fun e => e.slot == a.disc) with
      | none => s
      | some e =>
        if a.cls ≠ e.cls then s.updPort p (fun q => { q with discards := inc16 q.discards })
        else if s.consumes p e then
          s.updPort p (fun q => { q with rxCyc := q.rxCyc.filter (fun x => x.1 != e.slot) ++ [(e.slot, (bodyOf f).take e.len)] })
        else s))

/-- At a boundary the received bodies of consumed slots are latched (R491). -/
def State.cycLatch (s : State) (p : Fin 2) : State :=
  s.updPort p (fun q => { q with
    latched := q.latched.filter (fun x => !q.rxCyc.any (fun y => y.1 == x.1)) ++
      q.rxCyc.map (fun y => (y.1, s.frame.counter, y.2))
    rxCyc := [] })

/-! ### Work of a superframe -/

/-- HBEAT body (Table EDGE-2). -/
def State.hbeatBody (s : State) : List Byte :=
  let f := b01 s.faults.device + 2 * b01 (s.ftsum != 0) + 4 * b01 (s.power.dev == .run) + 8 * b01 (s.twin.role == .active)
    + 16 * b01 s.devSynced
  le32 s.frame.superframe.toNat ++ le16 (s.par 0x6040) ++ b8 f ++ [0] ++ le32 (s.ftsum % 2 ^ 21)

/-- Queue an HBEAT of an address with the given index (R507, R558). -/
def State.sendHbeat (s : State) (p : Fin 2) (addr : Nat) : State :=
  let (tag, s) := s.nextTag
  let a := s.ownHead p 2 8 1 0 tag false
  s.enqueue p 2 (asQueue none [mkFrame { a with src := addr, txidx := addr % 64, nh := 0x40 } s.hbeatBody])

/-- BEACON_RECEIVED: `off` is the start of frame in ns after the last superframe boundary of the port (R480, R481, R507). -/
def execBeaconReceived (p : Fin 2) (f : AmFrame) (off : Int) (s : State) : Host.Outcome State Fault Refusal :=
  .next (s.rx p f 0 (fun s =>
    let b := bodyOf f
    let seg := get16 b 8 % 1024
    let root := BitVec.ofNat 64 (getN b 16 8)
    let inUse := if s.isRoot then some Config.uid else s.fab.root
    if s.par (netId p 2) ≠ 0xFFFF ∧ s.par (netId p 2) ≠ seg then s.raise 0x0604 seg 0 false
    else if inUse.isSome ∧ inUse ≠ some root then
      let s := s.raiseFree 0x0605 0 false
      if !s.isRoot ∧ root < inUse.getD 0 then { s with fab := { s.fab with root := some root } } else s
    else if s.isRoot || !s.acceptsBeacon p (get16 b 8 / 4096) (headOf f).txidx then s
    else
      let woke := s.fab.woken && (s.ports.get p).silent
      let s := s.takeBeacon p f off
      -- one further HBEAT after a wake of a plan (R507)
      if woke && s.portHeld p && s.portSends p then s.sendHbeat p (s.portAddr p) else s))

/-- HBEATs due in this superframe (R507), those of the pair among them (R558). -/
def State.hbeatSuper (s : State) (p : Fin 2) : State :=
  if !s.portHeld p || !s.portSends p then s
  else
    let due (i : Nat) : Bool := s.frame.superframe.toNat % s.par 0x6040 == i % s.par 0x6040
    let s := if due (s.ports.get p).index then s.sendHbeat p (s.portAddr p) else s
    match s.pairAddr with
    | some a =>
      -- a new active sends one for the pair at once (R558)
      let s := if s.pairHere p && s.twin.role == .active && s.twin.pairHb && !due (a % 64) then s.sendHbeat p a else s
      if s.pairHere p && s.twin.role == .active && (s.twin.pairClaim == .held || s.twin.pairHb) && due (a % 64) then s.sendHbeat p a else s
    | none => s

/-- Events of the ended superframe as EVTs: at most two of six (R511). -/
def State.evtSuper (s : State) : State :=
  let l := s.fab.evts
  let s := { s with fab := { s.fab with evts := [] } }
  if l.isEmpty || s.par 0x6041 == 0 then s
  else match s.outPort (s.par 0x6042) with
    | none => s
    | some p =>
      if !s.portHeld p then s
      else
        let body (m : List (Nat × Nat × BitVec 32)) : List Byte :=
          b8 m.length ++ [0, 0, 0] ++ m.flatMap (fun e => le16 e.1 ++ le16 e.2.1 ++ le32 e.2.2.toNat)
        let one (s : State) (m : List (Nat × Nat × BitVec 32)) : State :=
          if m.isEmpty then s
          else
            let (tag, s) := s.nextTag
            s.enqueue p 2 (asQueue none [mkFrame (s.ownHead p 2 7 0 (s.par 0x6042) tag false) (body m)])
        one (one s (l.take 6)) ((l.drop 6).take 6)

/-- SLEEP body (Table EDGE-1). -/
def sleepBody (op : Nat) (pl : SleepPlan) : List Byte :=
  b8 op ++ [0] ++ le16 pl.awake ++ le32 pl.start.toNat ++ le32 pl.cycle ++ le16 pl.guard ++ le16 pl.count
    ++ leBytes 8 pl.root.toNat

/-- Queue a SLEEP as fabric broadcast in the time class on every enabled port (R498). -/
def State.sendSleep (s : State) (op : Nat) (pl : SleepPlan) : State :=
  let (tag, s) := s.nextTag
  forPorts s (fun p t =>
    if t.netOn p then t.enqueue p 1 (asQueue none [mkFrame (t.ownHead p 1 0xA 2 0 tag false) (sleepBody op pl)]) else t)

/-- The root repeats the SLEEP every 4 sf until START (R499). -/
def State.sleepSuper (s : State) : State :=
  match s.fab.plan, s.fab.announce with
  | some pl, some op =>
    if sgn 32 (pl.start - s.frame.superframe).toNat ≤ 0 then { s with fab := { s.fab with announce := none } }
    else if s.fab.annTimer ≤ 1 then
      ({ s with fab := { s.fab with annTimer := 4 } } : State).sendSleep op pl
    else { s with fab := { s.fab with annTimer := s.fab.annTimer - 1 } }
  | _, _ => s

/-- Own beacon of a port, released at a superframe boundary (R479, R481, Table FAB-6). -/
def State.beaconSuper (s : State) (p : Fin 2) : State :=
  let q := s.ports.get p
  let depth : Option Nat := if s.isRoot then some 0
    else if s.downstream p then (match s.upstream with
      | some u => if s.portSync u = .synced then (s.ports.get u).depth.map (· + 1) else none
      | none => none)
    else none
  let yields := match q.source, q.depth, depth with
    | some i, some d, some h => decide (d < h) || (d == h && decide (i < q.index))
    | _, _, _ => false
  match depth, s.portSeg p with
  | some h, some seg =>
    if s.portHeld p && s.portSends p && !yields && s.clock.settle.isNone then
      let root := if s.isRoot then Config.uid.toNat else (s.fab.root.getD 0).toNat
      let crc := match q.sched with | some t => t.crc.toNat | none => 0
      let body := le32 s.frame.superframe.toNat ++ le32 (q.ptx.getD 0) ++ le16 (h * 4096 + seg) ++ le32 crc
        ++ b8 (b01 q.ptx.isSome + 2 + 4 * b01 s.fab.plan.isSome) ++ [0] ++ leBytes 8 root
      s.updPort p (fun q => { q with bcnTx := some (mkFrame (s.ownHead p 1 0 1 0 0 false) body), ptx := none })
    else s.updPort p (fun q => { q with bcnTx := none, ptx := none })
  | _, _ => s.updPort p (fun q => { q with bcnTx := none, ptx := none })

/-- CYCLIC frames that the port releases at the present boundary; those left of the superframe before are late (R488, R493). The
bytes of a body are free values (log entry 22). -/
def State.cycRelease (s : State) (p : Fin 2) : State :=
  let s := if s.frame.index = 0 then
      s.updPort p (fun q => { q with lateCyc := min 0xFFFF (q.lateCyc + q.cycTx.length), cycTx := [] }) else s
  match (s.ports.get p).sched with
  | none => s
  | some t =>
    if !s.cycOn p || !s.portSends p then s
    else
      let due := (dueIn t s.frame.superframe.toNat).filter (fun e => e.frame == s.frame.index && e.tx == s.par (netId p 3))
      due.foldl (fun (s : State) e =>
        let (v, s) := s.fresh
        let a := s.ownHead p e.cls 4 1 0 0 false
        s.updPort p (fun q => { q with cycTx := q.cycTx ++ [mkFrame { a with disc := e.slot } (leBytes e.len v)] })) s

/-- A port at a superframe boundary: listening, claims, grants, timers, NACK marks, buckets. -/
def State.portSuper (s : State) (p : Fin 2) : State :=
  if !s.netOn p then s
  else
    let grant := (s.ports.get p).segNext
    let s := s.updPort p (fun q => { q with
      listenN := if q.claim = .listen ∧ !q.busOff then q.listenN - 1 else q.listenN
      claimN := if q.claimN = 0 then 0 else q.claimN + 1
      segTimer := q.segTimer - 1
      seg := match grant with | some g => some g | none => q.seg
      lastGrant := grant.getD q.lastGrant
      segNext := none
      nacks := (q.nacks.filter (fun e => decide (0 < e.2.2.1) || e.2.2.2)).map (fun e => (e.1, e.2.1, e.2.2.1, false)) })
    let s := if grant.isSome then s.evFree 0x0604 else s
    let s := s.fillBuckets p
    let s := { s with twin := { s.twin with
      pairN := if s.pairHere p ∧ s.twin.pairN ≠ 0 then s.twin.pairN + 1 else s.twin.pairN } }
    (((((s.sendClaim p).sendPairClaim p).beaconSuper p).routeSuper p).hbeatSuper p)

/-- All fabric work at a superframe boundary. -/
def State.fabSuper (s : State) : State :=
  let s := { s with fab := { s.fab with
    routeSeen := false, fwdSeen := Duo.all false, nackSeen := false, polSeen := false, dropSeen := Quad.all false } }
  let s := forPorts s (fun p t => t.portSuper p)
  ((s.routesAge.watchReturns).sleepSuper).evtSuper

/-- Opcodes of watch actions (R510). -/
def actionOp (k : Nat) : Nat := match k with | 4 => 0x0102 | 3 => 0x0107 | _ => 0x0106

def actionRank (op : Nat) : Nat := match op with | 0x0102 => 4 | 0x0107 => 3 | 0x0106 => 2 | _ => 0

/-- Issue a command through a free internal hopper (R144, R153); none when there is none. -/
def State.issueInternal (s : State) (op axes : Nat) (payload : List Byte) : Option State :=
  match [28, 29, 30, 31].find? (fun h => s.stage h == .free) with
  | none => none
  | some h =>
    let q := s.intake.intSeq + 1
    let s := { s with intake := { s.intake with intSeq := q } }
    some (s.handOver h {} (le16 op ++ le16 q.toNat ++ b8 0 ++ b8 axes ++ b8 payload.length ++ [0] ++ le32 0 ++ payload))

/-- One command per axis; none where an internal one of equal or stronger kind is in flight; a missing hopper puts it off (R510). -/
def State.issueActions (s : State) : State :=
  let l := s.fab.actions
  l.foldl (fun t e =>
    let (n, k) := e
    let busy := [28, 29, 30, 31].any (fun h => t.stage h != .free && (t.axmask h).testBit n && decide (k ≤ actionRank (t.opcode h)))
    if busy then t
    else match t.issueInternal (actionOp k) (2 ^ n) [] with
      | some u => u
      | none => { t with fab := { t.fab with actions := t.fab.actions ++ [e] } })
    { s with fab := { s.fab with actions := [] } }

/-! ### NET_STATUS, NET_ROUTE, NET_QSTAT, NET_WATCH -/

def portByteBad (s : State) (h : Nat) : Option Nat :=
  if s.p8 h 0 ≠ 1 ∧ s.p8 h 0 ≠ 2 then some 16 else if s.p8 h 1 ≠ 0 then some 17 else if s.p16 h 2 ≠ 0 then some 18 else none

def State.portByte (s : State) (h : Nat) : Fin 2 := if s.p8 h 0 = 2 then 1 else 0

def ClaimState.code : ClaimState → Nat | .listen => 0 | .claiming => 1 | .held => 2
def SyncState.code : SyncState → Nat | .unsynced => 0 | .acquiring => 1 | .synced => 2 | .holdover => 3

/-- Result data of NET_STATUS; the error counters of ISO 11898-1 are free values (log entry 22). -/
def State.netStatus (s : State) (p : Fin 2) : List Byte × State :=
  let q := s.ports.get p
  let (tec, s) := s.fresh
  let (rec_, s) := s.fresh
  (b8 q.claim.code ++ b8 (s.portSync p).code ++ b8 ((s.portDepth p).getD 0xFF)
    ++ b8 (b01 s.isRouter + 2 * b01 (s.upstream == some p) + 4 * b01 s.isRoot + 8 * b01 (s.portSeg p).isNone + 16 * b01 (s.cycOn p))
    ++ le16 (s.portAddr p) ++ le16 (portLoad s s.params.running s.cfg p) ++ leS32 q.offset
    ++ le32 (match q.sched with | some t => t.crc.toNat | none => 0) ++ b8 tec ++ b8 rec_
    ++ le16 q.busOffs ++ le16 q.discards ++ le16 q.hopDrops ++ le16 q.routeDrops ++ le16 q.dups ++ le16 q.failed ++ [0, 0], s)

def netStatusSpec : CmdSpec where
  op := 0x0601
  need := 4
  field := portByteBad
  start := fun s h => let r := s.netStatus (s.portByte h); r.2.doneWith h r.1

def execNetStatus (h : Fin 32) (s : State) : Host.Outcome State Fault Refusal := .next (takeRow netStatusSpec h s)

/-- Six bytes of one segment. -/
def State.routeEntry (s : State) (seg : Nat) : List Byte :=
  if both2.any (fun p => s.netOn p && s.portSeg p == some seg) then le16 seg ++ b8 3 ++ b8 0x40 ++ b8 0 ++ b8 0
  else match s.fab.routes.find? (fun r => r.seg == seg) with
    | some r => le16 seg ++ b8 r.port ++ b8 r.nh ++ b8 r.metric ++ b8 (min 255 r.age)
    | none => le16 seg ++ b8 0 ++ b8 0x40 ++ b8 16 ++ b8 0

def netRouteSpec : CmdSpec where
  op := 0x0602
  need := 4
  field := fun s h =>
    if 1024 ≤ s.p16 h 0 then some 16 else if s.p8 h 2 = 0 ∨ 16 < s.p8 h 2 then some 18
    else if s.p8 h 3 ≠ 0 then some 19 else none
  start := fun s h =>
    let own := (both2.filter (fun p => s.netOn p && (s.portSeg p).isSome)).length
    let first := s.p16 h 0
    let n := min (s.p8 h 2) (1024 - first)
    s.doneWith h (le16 (s.fab.routes.length + own) ++ le16 ((s.portSeg 0).getD 0xFFFF)
      ++ (List.range n).flatMap (fun k => s.routeEntry (first + k)))

def execNetRoute (h : Fin 32) (s : State) : Host.Outcome State Fault Refusal := .next (takeRow netRouteSpec h s)

/-- Result data of NET_QSTAT. -/
def State.netQstat (s : State) (p : Fin 2) : List Byte :=
  let q := s.ports.get p
  (([0, 1, 2, 3] : List (Fin 4)).flatMap (fun c =>
    le16 (satU 16 (q.queuedN.get c)) ++ le16 (satU 16 (q.sentN.get c)) ++ le16 (q.dropsPerClass.get c)
      ++ le16 (q.queues.get c).length ++ le16 (q.peaks.get c)))
  ++ le16 q.policed ++ le16 q.nackTx ++ le16 (satU 16 (q.nackRx.toList.foldl (· + ·) 0)) ++ le16 (satU 16 s.fab.evtLost)

def netQstatSpec : CmdSpec where
  op := 0x0621
  need := 4
  field := fun s h =>
    if s.p8 h 0 ≠ 1 ∧ s.p8 h 0 ≠ 2 then some 16 else if 1 < s.p8 h 1 then some 17 else if s.p16 h 2 ≠ 0 then some 18 else none
  start := fun s h =>
    let p := s.portByte h
    let r := s.netQstat p
    let s := if s.p8 h 1 = 1 then
        let t := s.updPort p (fun q => { q with
          queuedN := Quad.all 0, sentN := Quad.all 0, dropsPerClass := Quad.all 0, policed := 0, nackTx := 0, nackRx := Quad.all 0,
          peaks := q.queues.map (·.length) })
        { t with fab := { t.fab with evtLost := 0 } }
      else s
    s.doneWith h r

def execNetQstat (h : Fin 32) (s : State) : Host.Outcome State Fault Refusal := .next (takeRow netQstatSpec h s)

def WatchState.code : WatchState → Nat | .off => 0 | .unknown => 1 | .alive => 2 | .lost => 3

def netWatchSpec : CmdSpec where
  op := 0x0622
  start := fun s h => s.doneWith h (watch16.flatMap (fun w =>
    let x := s.fab.watches.getD w {}
    b8 x.st.code ++ b8 (b01 (x.st != .off && s.remote (s.par (0x6050 + 4 * w))))
      ++ le16 (if x.st = .off then 0 else satU 16 (s.frame.superframe - x.since).toNat)))

def execNetWatch (h : Fin 32) (s : State) : Host.Outcome State Fault Refusal := .next (takeRow netWatchSpec h s)

/-! ### NET_SEND and NET_RECV -/

/-- SV-0x060A: kind, class or length (Table FAB-11). -/
def State.sendFindings (s : State) (h : Nat) : List Finding :=
  fnd (s.p8 h 4 != 0xB || (s.p8 h 5 != 2 && s.p8 h 5 != 3) || s.p8 h 6 == 0 || decide (96 < s.p8 h 6)) 1 0x060A 0xFF

def netSendSpec : CmdSpec where
  op := 0x0603
  need := 8
  field := fun s h =>
    if 2 < s.p8 h 0 then some 16 else if 4 ≤ s.p8 h 1 then some 17
    else if (s.p8 h 1 = 1 ∨ s.p8 h 1 = 2) ∧ s.p16 h 2 ≠ 0 then some 18
    else if s.p8 h 7 ≠ 0 then some 23
    else if s.p8 h 6 ≤ 96 ∧ s.plen h < 8 + s.p8 h 6 then some 6 else none
  judge := fun s h => some (s.cfg, surveyCfg s s.params.running s.cfg ++ s.sendFindings h)
  start := fun s h =>
    let dst := s.p16 h 2
    let port : Option (Fin 2) := match s.p8 h 0 with
      | 1 => some 0
      | 2 => some 1
      | _ => if s.p8 h 1 = 0 then s.outPort dst else both2.find? (fun p => s.netOn p)
    match port with
    | none => s.finish h 2 0xFFFF []
    | some p =>
      if !s.netOn p then s.finish h 2 0xFFFF []
      else
        let (tag, s) := s.nextTag
        let c : Fin 4 := if s.p8 h 5 = 2 then 2 else 3
        let m := msgFrames (s.ownHead p c.val 0xB (s.p8 h 1) dst tag false) (s.pBytes h 8 (s.p8 h 6))
        s.enqueue p c (asQueue (some h) m)

def execNetSend (h : Fin 32) (s : State) : Host.Outcome State Fault Refusal := .next (takeRow netSendSpec h s)

def netRecvSpec : CmdSpec where
  op := 0x0604
  start := fun s h =>
    match s.fab.recv with
    | [] => s.doneWith h (List.replicate 8 0)
    | d :: r =>
      ({ s with fab := { s.fab with recv := r } } : State).doneWith h
        (b8 r.length ++ b8 d.port ++ le16 d.src ++ b8 d.dmode ++ b8 d.cls ++ b8 (min 255 d.body.length) ++ [0] ++ d.body)

def execNetRecv (h : Fin 32) (s : State) : Host.Outcome State Fault Refusal := .next (takeRow netRecvSpec h s)

/-! ### NET_SCHED (R487, Tables FAB-8 and FAB-9) -/

def schedEntryOf (l : List Byte) (i : Nat) : SchedEntry :=
  let o := 32 + 16 * i
  { slot := getB l o, tx := getB l (o + 1), len := getB l (o + 2), cls := getB l (o + 3), per := getB l (o + 4),
    off := getB l (o + 5), frame := getB l (o + 6), mask := BitVec.ofNat 64 (getN l (o + 8) 8) }

def schedOf (l : List Byte) : Sched :=
  let n := get16 l 6
  { bytes := l.take (32 + 16 * n), segment := get16 l 8, arb := getB l 10, data := getB l 11, w := getB l 12,
    crc := BitVec.ofNat 32 (get32 l 28), entries := (List.range n).map (schedEntryOf l) }

/-- Lowest header or entry byte of a schedule that breaks a range of Table FAB-8 or a reserved byte, as a bulk offset. -/
def schedField (l : List Byte) : Option Nat :=
  if 128 < get16 l 6 then some 6 else if 1024 ≤ get16 l 8 then some 8 else if 1 < getB l 10 then some 10
  else if 2 < getB l 11 then some 11 else if getB l 12 = 0 ∨ 15 < getB l 12 then some 12
  else if getB l 13 ≠ 0 ∨ get16 l 14 ≠ 0 then some 13 else if getN l 20 8 ≠ 0 then some 20
  else ((List.range (min 128 (get16 l 6))).find? (fun i => getB l (32 + 16 * i + 7) ≠ 0)).map (fun i => 32 + 16 * i + 7)

/-- SV-0x0604 and SV-0x0606. -/
def schedFindings (l : List Byte) (port : Nat) : List Finding :=
  let n := get16 l 6
  let t := schedOf l
  let bad (i : Nat) : Bool :=
    let e := t.entries.getD i (schedEntryOf l i)
    decide (127 < e.slot) || decide (63 < e.tx) || decide (56 < e.len) || (e.cls != 0 && e.cls != 2) || decide (8 < e.per) ||
    decide (2 ^ e.per ≤ e.off) || decide (t.w ≤ e.frame) || (t.entries.take i).any (fun d => d.slot == e.slot)
  fnd (l.take 4 != [0x4B, 0x53, 0x43, 0x48] || get16 l 4 != 1 ||
      crc32 (l.take 28 ++ (l.drop 32).take (16 * n)) != get32 l 28) 1 0x0604 port ++
  (match (List.range n).find? bad with | some i => fnd true 1 0x0606 i | none => [])

/-- The schedule in the bulk window. -/
def State.schedBulk (s : State) : List Byte := s.bulkBytes 0 (32 + 16 * (get16 (s.bulkBytes 0 8) 6))

def State.schedOwn (s : State) (h : Nat) : Option (Nat × Nat × List Byte) :=
  let l := s.schedBulk
  match schedField l with
  | some o => some (8, 0x1000 + o, [])
  | none => s.findingReply (schedFindings l (s.p8 h 1))

/-- SV-0x0608: the port's unit is enabled. -/
def State.schedPort (s : State) (h : Nat) : Fin 2 := if s.p8 h 1 = 2 then 1 else 0
def State.schedBusy (s : State) (h : Nat) : List Finding := fnd (s.netOn (s.schedPort h)) 1 0x0608 (s.p8 h 1)

def schedFieldBad (s : State) (h : Nat) : Option Nat :=
  if s.p8 h 1 ≠ 1 ∧ s.p8 h 1 ≠ 2 then some 17 else if s.p16 h 2 ≠ 0 then some 18 else none

/-- The bulk length that the header in the window asks for. -/
def State.schedLen (s : State) (_ : Nat) : Nat := 32 + 16 * min 128 (get16 (s.bulkBytes 0 8) 6)

/-- The working schedule changes: a change of the working set (R245, R487). -/
def State.setSched (s : State) (h : Nat) (t : Option Sched) : State :=
  ((s.updPort (s.schedPort h) (fun q => { q with sched := t })).writeWorking s.params.working).awaitVerdict h 1 0 [] 0xFFFF []

/-- SV-0x0604 while there is no valid working schedule. -/
def State.schedNone (s : State) (h : Nat) : Option (Nat × Nat × List Byte) :=
  if (s.ports.get (s.schedPort h)).sched.isNone then some (s.svReply 0x0604 (s.p8 h 1)) else none

def netSchedLoadSpec : CmdSpec where
  op := 0x0605
  sub := some 0
  need := 4
  field := schedFieldBad
  bulkLen := State.schedLen
  judge := fun s h => some (s.cfg, s.schedBusy h)
  own := fun s h => match s.findingReply (s.schedBusy h) with | some r => some r | none => s.schedOwn h
  start := fun s h => s.setSched h (some (schedOf s.schedBulk))

def execNetSchedLoad (h : Fin 32) (s : State) : Host.Outcome State Fault Refusal := .next (takeRow netSchedLoadSpec h s)

def netSchedValidateSpec : CmdSpec where
  op := 0x0605
  sub := some 1
  need := 4
  field := schedFieldBad
  bulkLen := State.schedLen
  own := State.schedOwn
  start := fun s h => s.doneWith h []

def execNetSchedValidate (h : Fin 32) (s : State) : Host.Outcome State Fault Refusal := .next (takeRow netSchedValidateSpec h s)

def netSchedSaveSpec : CmdSpec where
  op := 0x0605
  sub := some 2
  need := 4
  field := schedFieldBad
  own := State.schedNone
  start := fun s h => (s.updPort (s.schedPort h) (fun q => { q with storeSched := q.sched })).doneWith h []

def execNetSchedSave (h : Fin 32) (s : State) : Host.Outcome State Fault Refusal := .next (takeRow netSchedSaveSpec h s)

def netSchedReadSpec : CmdSpec where
  op := 0x0605
  sub := some 3
  need := 4
  field := schedFieldBad
  own := State.schedNone
  start := fun s h => s.doneBulk h (match (s.ports.get (s.schedPort h)).sched with | some t => t.bytes | none => [])

def execNetSchedRead (h : Fin 32) (s : State) : Host.Outcome State Fault Refusal := .next (takeRow netSchedReadSpec h s)

def netSchedReloadSpec : CmdSpec where
  op := 0x0605
  sub := some 4
  need := 4
  field := schedFieldBad
  judge := fun s h => some (s.cfg, s.schedBusy h)
  own := fun s h => s.findingReply (s.schedBusy h)
  start := fun s h => s.setSched h (s.ports.get (s.schedPort h)).storeSched

def execNetSchedReload (h : Fin 32) (s : State) : Host.Outcome State Fault Refusal := .next (takeRow netSchedReloadSpec h s)

/-- At "Firmware started" every working schedule is loaded from its stored copy (R245, R487). -/
def State.bootScheds (s : State) : State := forPorts s (fun p t => t.updPort p (fun q => { q with sched := q.storeSched }))

end Sys2Proof.Machine
end

