-- ==== Sys2Proof/Machine/Iso.lean ====
section
/-! DEFINITION. The ISOBUS port, and bus-off of the three CAN ports (15, 16). -/

namespace Sys2Proof.Machine

def State.isoOn (s : State) : Bool := s.unitOn 7
def State.isoName (s : State) : Nat := s.par 0x7000

/-- The port is on the bus and its controller runs. -/
def State.isoLive (s : State) : Bool := s.isoOn && !s.iso.busOff && !s.iso.stopped && s.clock.pllc == .locked

def State.updIso (s : State) (f : IsoSt → IsoSt) : State := { s with iso := f s.iso }

/-- Reception by the ISO port: a frame of another form is discarded and counted (R516). -/
def State.isoRx (s : State) (f : IsoFrame) (k : State → State) : State :=
  if !s.isoLive then s
  else if !f.classic then s.updIso (fun i => { i with discards := inc16 i.discards })
  else k s

/-! ### Address claim (R517, Table EDGE-7) -/

/-- Address Claimed (PGN 60928), or Cannot Claim Address from source 254. -/
def State.sendClaimed (s : State) (src : Nat) : State := s.isoSend (isoMsg 6 0xEE00 255 src (leBytes 8 s.isoName))

/-- Claim an address: CLAIMING, and the 250 ms timer started. -/
def State.isoClaimAt (s : State) (a : Nat) : State :=
  (s.updIso (fun i => { i with claim := .claiming, addr := a, claimAt := s.frame.counter, cannotDue := false })).sendClaimed a

/-- Unit ISO stands at Ready. -/
def State.isoEnable (s : State) : State :=
  (s.updIso (fun i => { i with heard := [], sessions := [], busOff := false, stopped := false, offTimes := [], tx := [],
                               listenOnly := s.clock.listen || s.isoBarred })).isoClaimAt (s.par 0x7001)

/-- The controllers run again after a stop of PLLC: the port claims its address anew behind the frames that wait (R25, R41, Table
EDGE-7). -/
def State.isoAgain (s : State) : State :=
  match s.iso.claim with
  | .claiming | .held => s.isoClaimAt s.iso.addr
  | _ => s

def State.isoDisable (s : State) : State :=
  ((s.updIso (fun i => { i with claim := .off, sessions := [], tx := [], busOff := false, stopped := false, offTimes := [],
                                cannotDue := false })).condEnd 0x0701).condEnd 0x0702 |>.condEnd 0x0703

/-- The next address upward from 128 to 247, wrapping, that no claim heard on the bus holds. -/
def State.nextIsoAddr (s : State) : Option Nat :=
  let from_ := if 128 ≤ s.iso.addr ∧ s.iso.addr < 247 then s.iso.addr + 1 else 128
  ((List.range 120).map (fun k => 128 + (from_ - 128 + k) % 120)).find? (fun a =>
    a != s.iso.addr && !s.iso.heard.any (fun e => e.1 == a))

/-- ADDRESS_CLAIMED by another node (Table EDGE-7). -/
def execAddressClaimed (f : IsoFrame) (s : State) : Host.Outcome State Fault Refusal :=
  .next (s.isoRx f (fun s =>
    let src := isoSrc f
    let name := BitVec.ofNat 64 (getN f.data 0 8)
    if isoPgn f != 0xEE00 || f.data.length != 8 || name.toNat == s.isoName then s
    else
      let others := s.iso.heard.filter (fun e => e.2 != name && e.1 != src)
      let s := s.updIso (fun i => { i with heard := if src < 254 then others ++ [(src, name)] else others })
      if src ≠ s.iso.addr ∨ (s.iso.claim ≠ .claiming ∧ s.iso.claim ≠ .held) then s
      else if s.isoName < name.toNat then s.sendClaimed src
      else match (if s.isoName.testBit 63 then s.nextIsoAddr else none) with
        | some a => (if s.iso.claim = .held then s.evFree 0x0702 else s).isoClaimAt a
        | none =>
          (s.updIso (fun i => { i with claim := .cannot, cannotDue := true, cannotAt := s.frame.counter })).raiseFree 0x0703 0 true))

/-- ISO_CLAIM_TIMER: 250 ms without contention (Table EDGE-7). -/
def execIsoClaimTimer (s : State) : Host.Outcome State Fault Refusal :=
  .next (
    if s.isoLive && s.iso.claim == .claiming && decide (5000 ≤ s.since s.iso.claimAt) then
      ((s.updIso (fun i => { i with claim := .held, heldAt := s.frame.superframe, statAt := none })).ev 0x0701 s.iso.addr).condEnd 0x0703
    else s)

/-- CANNOT_CLAIM_ADDRESS after its random delay of 0.6 ms × UID [7:0] (R517). -/
def execCannotClaimAddress (s : State) : Host.Outcome State Fault Refusal :=
  .next (
    if s.isoLive && s.iso.claim == .cannot && s.iso.cannotDue && decide (12 * (Config.uid.toNat % 256) ≤ s.since s.iso.cannotAt) then
      (s.updIso (fun i => { i with cannotDue := false })).sendClaimed 254
    else s)

/-- COMMANDED_ADDRESS: an identity change, accepted only under a presence window (R518). -/
def execCommandedAddress (src : Nat) (data : List (BitVec 8)) (s : State) : Host.Outcome State Fault Refusal :=
  .next (
    let a := getB data 8
    if !s.isoLive || data.length != 9 || getN data 0 8 != s.isoName || src == s.iso.addr then s
    else if s.svc.winBound && s.svc.window.isSome && decide (a ≤ 253) then
      let w := tabSet s.params.working 0x7001 a (pDefault 0x7001)
      (((s.writeWorking w).ev 0x0703 0)).isoClaimAt a
    else s.ev 0x0703 1)

/-! ### Requests and status (R519, R522, Table EDGE-9) -/

/-- Axes for which a predicate holds, as a mask. -/
def axisMask (f : Fin 4 → Bool) : Nat := maskOf (axes4.map f)

/-- Most recently raised fault that is still active; 0 if none. -/
def State.newestFault (s : State) : Nat := (s.faults.recent.find? (fun c => s.faultActive c)).getD 0

/-- Send the Proprietary B status message. -/
def State.sendStatus (s : State) : State :=
  let moving (n : Fin 4) : Bool := match s.motState n with | .idle | .halted => false | _ => true
  let b0 := b01 s.faults.device + 2 * b01 (s.ftsum != 0) + 4 * b01 (s.power.dev == .run) + 8 * b01 (s.twin.role == .active)
    + 16 * axisMask s.axReady
  let b1 := axisMask moving + 16 * axisMask (fun n => (s.motion.get n).state == .halted)
  let t : Int := (s.power.temp + 5) / 10 + 40
  let b6 := if s.domReady .ana then (clampI 0 254 t).toNat else 0xFF
  let body := b8 b0 ++ b8 b1 ++ le16 s.newestFault ++ le16 (satU 16 (rdiv s.power.vm 10)) ++ b8 b6 ++ b8 (s.iso.counter % 16)
  let s := s.isoSend (isoMsg (s.par 0x7004) (0xFF00 + s.par 0x7002) 255 s.iso.addr body)
  s.updIso (fun i => { i with counter := (i.counter + 1) % 16 })

/-- ISO_REQUEST (R519, Table EDGE-7). -/
def execIsoRequest (f : IsoFrame) (s : State) : Host.Outcome State Fault Refusal :=
  .next (s.isoRx f (fun s =>
    let pgn := getN f.data 0 3
    let dst := isoDst f
    let mine := dst == s.iso.addr && s.iso.claim == .held
    if isoPgn f != 0xEA00 || decide (f.data.length < 3) then s
    else if pgn = 0xEE00 then
      (match s.iso.claim with
       | .held => if mine || dst == 255 then s.sendClaimed s.iso.addr else s
       | .cannot => if s.iso.cannotDue then s else s.updIso (fun i => { i with cannotDue := true, cannotAt := s.frame.counter })
       | _ => s)
    else if s.iso.claim ≠ .held ∨ !(mine || dst == 255) then s
    else if pgn = 0xFF00 + s.par 0x7002 then s.sendStatus
    else if mine then
      s.isoSend (isoMsg 6 0xE800 255 s.iso.addr ([1, 0xFF, 0xFF, 0xFF] ++ b8 (isoSrc f) ++ pgn3 pgn))
    else s))

/-- ISO_STATUS_TIMER: the first superframe boundary of each iso.stat_per (R522). -/
def execIsoStatusTimer (s : State) : Host.Outcome State Fault Refusal :=
  .next (
    let per := s.par 0x7003
    let now := s.frame.superframe
    if s.isoLive && s.iso.claim == .held && per != 0 && s.frame.index == 0 && (now - s.iso.heldAt).toNat % per == 0 &&
        s.iso.statAt != some now then
      (s.sendStatus).updIso (fun i => { i with statAt := some now })
    else s)

/-! ### Transport protocol (R520) -/

/-- Connection management frame. -/
def State.sendCm (s : State) (dst : Nat) (body : List Byte) : State :=
  s.isoSend (isoMsg (s.par 0x7008) 0xEC00 dst s.iso.addr body)

/-- CTS for the next packets of a receiving connection, at most 16. -/
def State.sendCts (s : State) (t : TpSession) : State :=
  let left := cdiv t.size 7 + 1 - t.next
  s.sendCm t.peer (b8 17 ++ b8 (min 16 left) ++ b8 t.next ++ [0xFF, 0xFF] ++ pgn3 t.pgn)

def State.setSessions (s : State) (l : List TpSession) : State := s.updIso (fun i => { i with sessions := l })

/-- A connection ends by abort or time-out: EV-0x0704. -/
def State.tpLost (s : State) (reason : Nat) : State :=
  (s.updIso (fun i => { i with aborts := inc16 i.aborts })).ev 0x0704 reason

/-- The data packets that a CTS asks for. -/
def State.sendPackets (s : State) (t : TpSession) (first : Nat) (n : Nat) : State :=
  (List.range n).foldl (fun u k =>
    let no := first + k
    if cdiv t.size 7 < no ∨ no = 0 then u
    else u.isoSend (isoMsg (u.par 0x7008) 0xEB00 t.peer u.iso.addr (b8 no ++ fit 7 0xFF ((t.body.drop (7 * (no - 1))).take 7)))) s

/-- A request to send, or a broadcast announcement. -/
def State.tpOpen (s : State) (src pgn size : Nat) (bam : Bool) : State :=
  let same (t : TpSession) : Bool := t.rx && t.bam == bam && t.peer == src
  let rest := s.iso.sessions.filter (fun t => !same t)
  let open_ := (rest.filter (fun t => t.rx && t.bam == bam)).length
  let t : TpSession := { peer := src, rx := true, bam := bam, pgn := pgn, size := size, next := 1, body := [] }
  if size < 9 ∨ 1785 < size then s
  else if bam then (if open_ < 2 then s.setSessions (rest ++ [t]) else s)
  else if open_ < 4 then (s.setSessions (rest ++ [t])).sendCts t
  else s.sendCm src (b8 255 ++ b8 1 ++ [0xFF, 0xFF, 0xFF] ++ pgn3 pgn)

/-- A connection management frame to this port, or a BAM. -/
def State.tpManage (s : State) (f : IsoFrame) : State :=
  let d := f.data
  let src := isoSrc f
  let pgn := getN d 5 3
  let mine := isoDst f == s.iso.addr && s.iso.claim == .held
  let sends (t : TpSession) : Bool := !t.rx && t.peer == src && t.pgn == pgn
  match getB d 0 with
  | 16 => if mine then s.tpOpen src pgn (get16 d 1) false else s
  | 32 => if isoDst f = 255 then s.tpOpen src pgn (get16 d 1) true else s
  | 17 =>
    (match (if mine then s.iso.sessions.find? sends else none) with
     | some t => s.sendPackets t (getB d 2) (min 16 (getB d 1))
     | none => s)
  | 19 => if mine then s.setSessions (s.iso.sessions.filter (fun t => !sends t)) else s
  | 255 =>
    let hit (t : TpSession) : Bool := !t.bam && t.peer == src && t.pgn == pgn
    if mine && s.iso.sessions.any hit then (s.setSessions (s.iso.sessions.filter (fun t => !hit t))).tpLost (getB d 1) else s
  | _ => s

/-- A data packet of a receiving session. -/
def State.tpData (s : State) (f : IsoFrame) : State :=
  let src := isoSrc f
  let bam := isoDst f == 255
  let hit (t : TpSession) : Bool := t.rx && t.bam == bam && t.peer == src
  if !bam && !(isoDst f == s.iso.addr && s.iso.claim == .held) then s
  else match s.iso.sessions.find? hit with
    | none => s
    | some t =>
      let rest := s.iso.sessions.filter (fun t => !hit t)
      if getB f.data 0 ≠ t.next then
        let s := (s.setSessions rest).tpLost 7
        if bam then s else s.sendCm src (b8 255 ++ b8 7 ++ [0xFF, 0xFF, 0xFF] ++ pgn3 t.pgn)
      else
        let u : TpSession := { t with next := t.next + 1, body := (t.body ++ (f.data.drop 1).take 7).take t.size }
        if cdiv t.size 7 < u.next then
          let s := s.setSessions rest
          if bam then s
          else s.sendCm src (b8 19 ++ le16 t.size ++ b8 (cdiv t.size 7) ++ [0xFF] ++ pgn3 t.pgn)
        else
          let s := s.setSessions (rest ++ [u])
          if !bam && t.next % 16 == 0 then s.sendCts u else s

/-- ISO_TRANSPORT_FRAME; a connection request of the extended protocol only raises EV-0x0706 (R520). -/
def execIsoTransportFrame (f : IsoFrame) (s : State) : Host.Outcome State Fault Refusal :=
  .next (s.isoRx f (fun s =>
    match isoPgn f with
      | 60416 => s.tpManage f
      | 60160 => s.tpData f
      | 51712 =>
        if getB f.data 0 = 20 then
          let seen := s.iso.etpSeen
          let s := s.updIso (fun i => { i with etpSeen := true, etpCount := inc16 i.etpCount })
          if seen then s else s.evFree 0x0706
        else s
      | _ => s))

/-- ISO_TRANSPORT_TIMEOUT: the session's message is discarded (R520). -/
def execIsoTransportTimeout (peer : Nat) (rx bam : Bool) (s : State) : Host.Outcome State Fault Refusal :=
  .next (
    let hit (t : TpSession) : Bool := t.rx == rx && t.bam == bam && t.peer == peer
    match s.iso.sessions.find? hit with
    | none => s
    | some t =>
      let s := (s.setSessions (s.iso.sessions.filter (fun t => !hit t))).tpLost 3
      if bam || s.iso.claim != .held then s else s.sendCm peer (b8 255 ++ b8 3 ++ [0xFF, 0xFF, 0xFF] ++ pgn3 t.pgn))

/-! ### Commands and speed (R521, R523) -/

/-- ISO_COMMAND: a complete Proprietary A message (R521, R170). -/
def execIsoCommand (src : Nat) (data : List (BitVec 8)) (s : State) : Host.Outcome State Fault Refusal :=
  .next (
    let cmd := data.drop 4
    if !s.isoLive then s
    else if s.par 0x7005 ≠ 1 ∨ (s.par 0x7006 ≠ 255 ∧ s.par 0x7006 ≠ src) ∨ s.iso.claim ≠ .held ∨
        data.length ≠ 16 + getB cmd 6 ∨ data.take 4 ≠ [0x4B, 0x4D, 1, 0] then
      s.updIso (fun i => { i with ignored := inc16 i.ignored })
    else match s.virtualFree 24 4, decide (s.virtualHeld 24 4 src < 2) with
      | some h, true => s.handOver h { srcAddr := src } cmd
      | _, _ =>
        let s := s.busyEv.countRefused 2
        let rec_ := cmd.take 6 ++ b8 8 ++ [0] ++ (cmd.drop 8).take 4 ++ b8 0x11 ++ [0] ++ le16 3 ++ le32 0xFFFFFFFF ++ le32 s.fr
        match s.openTp src 0xEF00 (b8 0x4B ++ b8 0x4D ++ b8 2 ++ b8 0 ++ rec_) with
        | some t => t
        | none => s)

/-- ISO_SPEED_MESSAGE: ground- or wheel-based speed (R523, Table EDGE-10). -/
def execIsoSpeedMessage (f : IsoFrame) (s : State) : Host.Outcome State Fault Refusal :=
  .next (s.isoRx f (fun s =>
    let k : Option (Fin 2) := match isoPgn f with | 65097 => some 0 | 65096 => some 1 | _ => none
    let src := isoSrc f
    match k with
    | none => s
    | some k =>
      if f.data.length != 8 || (s.par 0x7007 != 255 && s.par 0x7007 != src) then s
      else
        let raw := get16 f.data 0
        let old := s.iso.spdSrc.get k
        let s := s.updIso (fun i => { i with
          speed := i.speed.set k (some (raw, getB f.data 7 % 4, src))
          spdAt := i.spdAt.set k s.frame.counter
          spdSrc := i.spdSrc.set k (some src)
          newest := some (raw, src) })
        s.evIf (old.isSome && old != some src) 0x0705 src))

/-! ### ISO_STATUS -/

/-- Result data of ISO_STATUS; the transmit error counter of ISO 11898-1 is a free value (log entry 22). -/
def State.isoReport (s : State) : List Byte × State :=
  let (tec, s) := s.fresh
  let i := s.iso
  let st := match i.claim with | .off => 0 | .claiming => 1 | .held => 2 | .cannot => 3
  let (spd, src) := i.newest.getD (0xFFFF, 0xFF)
  (b8 st ++ b8 i.addr ++ [0, 0] ++ leBytes 8 s.isoName ++ le16 spd ++ b8 src ++ b8 tec
    ++ le16 i.busOffs ++ le16 i.discards ++ le16 i.aborts ++ le16 i.ignored, s)

def isoStatusSpec : CmdSpec where
  op := 0x0701
  start := fun s h => let r := s.isoReport; r.2.doneWith h r.1

def execIsoStatus (h : Fin 32) (s : State) : Host.Outcome State Fault Refusal := .next (takeRow isoStatusSpec h s)

/-! ### Bus-off (R456, R516) -/

/-- Bus-offs of the last second, this one included. -/
def State.offsOf (s : State) (l : List (BitVec 32)) : List (BitVec 32) :=
  l.filter (fun t => decide (s.since t < 20000)) ++ [s.frame.counter]

/-- CAN_BUS_OFF: ports 0 and 1 are NET1 and NET2, port 2 is ISO; `tec` is the transmit error count, above 255 at bus-off
(ISO 11898-1, R456, R516). -/
def execCanBusOff (p : Fin 3) (tec : Nat) (s : State) : Host.Outcome State Fault Refusal :=
  .next (
    if tec ≤ 255 then s
    else if p = 2 then
      if !s.isoLive then s
      else
        let l := s.offsOf s.iso.offTimes
        let stop := decide (3 ≤ l.length)
        let s := s.updIso (fun i => { i with busOff := true, stopped := stop, offTimes := l, busOffs := inc16 i.busOffs, tx := [] })
        let s := s.noteFree 0x0701 0 true
        if stop then s.noteFree 0x0702 0 true else s
    else
      let q : Fin 2 := if p = 1 then 1 else 0
      if !s.portLive q then s
      else
        let l := s.offsOf (s.ports.get q).offTimes
        let stop := decide (3 ≤ l.length)
        let s := (s.recallClaims q).updPort q (fun x =>
          let x := { x with busOff := true, stopped := stop, offTimes := l, busOffs := inc16 x.busOffs }
          if x.claim = .held then
            { x.toListen 4 false with inUse := x.inUse &&& ~~~ BitVec.ofNat 64 (2 ^ x.index) }
          else if x.claim = .claiming then { x with claimN := 0, claimDue := true } else x)
        let s := s.note 0x0601 (q.val + 1) 0 true
        if stop then s.note 0x0602 (q.val + 1) 0 true else s)

/-- CAN_BUS_OFF_RECOVERY after `runs` occurrences of 11 recessive bits, at least 128 (R456, R467): a port listens for 4 sf and claims again; the ISO port claims its address again. -/
def execCanBusOffRecovery (p : Fin 3) (runs : Nat) (s : State) : Host.Outcome State Fault Refusal :=
  .next (
    if runs < 128 then s
    else if p = 2 then
      if !s.isoOn || !s.iso.busOff || s.iso.stopped then s
      else ((s.updIso (fun i => { i with busOff := false })).isoClaimAt s.iso.addr).condEnd 0x0701
    else
      let q : Fin 2 := if p = 1 then 1 else 0
      let x := s.ports.get q
      if !s.netOn q || !x.busOff || x.stopped then s
      else (s.updPort q (fun x => { x with busOff := false, listenN := if x.claim = .listen ∧ x.rank ≠ 2 then max 4 x.listenN
        else if x.claim = .listen then 4 else x.listenN })).busRecovered)

end Sys2Proof.Machine
end

