-- ==== Sys2Proof/Machine/Pair.lean ====
section
/-! DEFINITION. What other families do to a twin pair: the fingerprint, the fall of ACTO, enabling and disabling TWIN (17). -/

namespace Sys2Proof.Machine

/-- IDs of a block of 256 that are assigned. -/
def blockIds (base : Nat) : List Nat := ((List.range 256).map (· + base)).filter (fun id => (pRow id).isSome)

/-- IDs that the fingerprint covers, ascending (R527). -/
def State.printIds (s : State) : List Nat :=
  let mine (n : Fin 4) : Bool := (s.work 0x8000).testBit n.val
  [0x0010] ++ axes4.flatMap (fun n => if mine n then blockIds (axId n 0) else []) ++
  axes4.flatMap (fun n => if mine n && s.work (fbId n 5) == 1 then blockIds (fbId n 0) else []) ++
  axes4.flatMap (fun n => if mine n then blockIds (psId n 0) else []) ++ blockIds 0x5000 ++ blockIds 0x8000

/-- Configuration fingerprint over the working values; an absent table counts as 0 (R527, log entry 24). -/
def State.fingerprint (s : State) : BitVec 32 :=
  let tab (n : Fin 4) : List Byte :=
    if (s.work 0x8000).testBit n.val then
      le32 (match (s.cur.get n).userTab with | some t => crc32 (chiselBytes t) | none => 0)
    else []
  BitVec.ofNat 32 (crc32 (s.printIds.flatMap (fun id => le16 id ++ leBytes 8 (s.work id)) ++ axes4.flatMap tab ++
    le32 (match s.plan.chain with | some c => crc32 c.bytes | none => 0)))

def State.updTwin (s : State) (f : TwinSt → TwinSt) : State := { s with twin := f s.twin }

/-- ACTO falls: GPERM clears, and every switch of the paired axes is held off (R536, R537). -/
def State.actoClear (s : State) : State :=
  forAxes (s.updTwin (fun t => { t with acto := false, gperm := false }))
    (fun n t => if t.paired n then t.switchesOff n else t)

/-- TWIN stands at Ready: STANDBY with ACTO low, the link in TRAINING (Table TWIN-6, R528). The count of takeovers stays. -/
def State.twinEnable (s : State) : State :=
  let k := s.twin.takeovers
  let t : TwinSt := { role := .standby, link := if s.clock.pllt == .locked then .training else .down, takeovers := k, fpOwn := s.fingerprint }
  ({ s with twin := t } : State).noteEv 0x0802 0

/-- FT-0x0801, 0x0802, 0x0803, 0x0804 and 0x0806 have no condition without a pair. -/
def State.twinEnds (s : State) : State :=
  ((((s.condEnd 0x0801).condEnd 0x0802).condEnd 0x0803).condEnd 0x0804).condEnd 0x0806

/-- TWIN is disabled: OFF, ACTO cleared (Table TWIN-6, R537). -/
def State.twinDisable (s : State) : State :=
  let s := s.actoClear
  let k := s.twin.takeovers
  let f := s.twin.fpOwn
  let t : TwinSt := { role := .off, takeovers := k, fpOwn := f }
  ({ s with twin := t } : State).twinEnds

/-- Listen-only ports: all three on the loss of the crystal, and the ISO port of a twin device that is STANDBY or OFF (R21, R545, R559). -/
def State.busModes (s : State) : State :=
  let l := s.clock.listen
  let iso := l || s.isoBarred
  (forPorts s (fun p t => t.updPort p (fun q => { q with listenOnly := l }))).updIso (fun i => { i with listenOnly := iso })

end Sys2Proof.Machine
end

