-- ==== Sys2Proof/Machine/Seq.lean ====
section
/-! DEFINITION. Axis power domains: requests, staggered start, checkpoints, reversal, the fault path (03, R88 to R99; 07, R236). -/

namespace Sys2Proof.Machine

/-! ### Requests in flight (R94) -/

/-- ENABLE_AXIS (`op` 0x0101) or DISABLE_AXIS (0x0102) commands of an axis that have started, in taking order. -/
def State.axReqs (s : State) (n : Fin 4) (op : Nat) : List Nat :=
  s.byTaking.filter (fun h => s.stage h == .started && s.opcode h == op && (s.axmask h).testBit n.val)

/-- Result data of a request (07). -/
def State.reqResult (s : State) (n : Fin 4) (op : Nat) : List Byte :=
  let a := s.axSt n
  if op = 0x0101 then b8 a.lastCp ++ b8 a.idxByte else b8 a.lastCp

/-- The requests of one direction act in this frame, but for those that have acted before (R147). -/
def State.reqsAct (s : State) (n : Fin 4) (op : Nat) : State :=
  (s.axReqs n op).foldl (fun t h => match (t.hop h).start with
    | some _ => t
    | none => (t.setHop h (fun x => { x with start := some t.frame.counter })).lateStart h) s

/-- Requests of one direction complete; what completes DONE has acted by now. -/
def State.endReqs (s : State) (n : Fin 4) (op code detail : Nat) : State :=
  let s := if code = 1 then s.reqsAct n op else s
  (s.axReqs n op).foldl (fun t h => t.finish h code detail (t.reqResult n op)) s

/-- The domain goes in direction `on`: the requests that agree act, those that oppose it complete CANCELLED, naming the latest that
agrees (R94, R147). -/
def State.cancelOpposed (s : State) (n : Fin 4) (on : Bool) : State :=
  let q := match (s.axReqs n (if on then 0x0101 else 0x0102)).getLast? with | some h => s.seqNo h | none => 0xFFFF
  (s.reqsAct n (if on then 0x0101 else 0x0102)).endReqs n (if on then 0x0102 else 0x0101) 2 q

/-- The last axis domain reaches Off: RUN becomes IDLE (Table PWR-3). -/
def State.devIdle (s : State) : State :=
  if s.power.dev == .run && axes4.all (fun n => s.axOff n) then { s with power := { s.power with dev := .idle } } else s

/-- A step of the axis sequencer begins (R88). -/
def State.axStep (s : State) (n : Fin 4) (q : AxSeq) : State := s.setSeq n (fun a => { a with seq := q, stepAt := s.frame.counter })

/-- The key-on delay ends when no axis waits for it and none has begun (R97). -/
def State.keyDrop (s : State) : State :=
  if s.power.keyUsed || axes4.any (fun n => s.seq n == .waiting) then s
  else { s with power := { s.power with keyAt := none } }

/-- The axis domain settles at Off: off requests complete together. -/
def State.axToOff (s : State) (n : Fin 4) : State :=
  let s := s.setSeq n (fun a => { a with seq := .off, latched := none, lastCp := 0, stepAt := s.frame.counter, supply := false, viaD3 := false,
                                         brakeAt := none, calEnd := none, recal := false })
  ((((s.gatesDead n).cancelOpposed n false).endReqs n 0x0102 1 0).devIdle).keyDrop

/-- Write the microstep index to retention when ax.mot.retain asks for it; else retention keeps none and the retained marking clears
(Table PWR-6 D3, R236, R238). -/
def State.keepIndex (s : State) (n : Fin 4) : State :=
  let m := s.motion.get n
  if !m.kept then s
  else if s.ax n 0x48 = 1 then { s with ret := { s.ret with index := s.ret.index.set n (some (BitVec.ofNat 10 m.elec)) } }
  else ({ s with ret := { s.ret with index := s.ret.index.set n none } } : State).updMotion n (fun m => { m with retained := false })

/-- The fault path of an axis domain: outputs off at once, power removed, commands ended (R82, R91, R93). -/
def State.axFail (s : State) (n : Fin 4) (code : Nat) : State :=
  if s.seq n = .off ∨ s.seq n = .failed then s
  else
    let s := (s.switchesOff n).brakeOff n
    let s := if s.movedLately n && s.axReady n then s.updMotion n (fun m => { m with posState := .unreferenced }) else s
    let s := s.keepIndex n
    let s := ((s.abandonTest n 0xFFFF).setTest n none).gatesDead n
    let s := (s.dropAxis n 6 code).endUnacted n 6 code
    let ons := s.axReqs n 0x0101
    let s := match ons.getLast? with
      | some e =>
        let q := BitVec.ofNat 16 (s.seqNo e)
        let behind := s.byTaking.filter (fun x => (s.stage x).waiting && (s.axmask x).testBit n.val && decide ((s.hop e).takeNo < (s.hop x).takeNo))
        behind.foldl (fun (t : State) x => t.setHop x (fun y => { y with failedBy := some q })) s
      | none => s
    let s := s.setSeq n (fun a => { a with seq := .failed, latched := none, stepAt := s.frame.counter, supply := false, viaD3 := false,
                                           brakeAt := none, calEnd := none, recal := false, failCode := some code })
    let s := s.keyDrop
    let s := s.updCur n (fun x => { x with hold := .off })
    let s := s.endReqs n 0x0101 6 code
    -- an off request in flight takes the Failed domain to Off (Table PWR-8)
    if (s.axReqs n 0x0102).isEmpty then s else s.axToOff n

/-- A fault of a supply takes every axis domain to Failed, one at Off too (R108, Table PWR-8). -/
def State.axSupplyFail (s : State) (n : Fin 4) (code : Nat) : State :=
  if s.axOff n then s.setSeq n (fun a => { a with seq := .failed, latched := none, stepAt := s.frame.counter, failCode := some code })
  else s.axFail n code

/-- Raise a fault that names an axis and fail its domain. -/
def State.raiseFail (s : State) (n : Fin 4) (code qual : Nat) : State := (s.raise code qual (axBits n) false).axFail n code

/-! ### Start of the up sequence (R96 to R99) -/

/-- Bits [5:0] of the exclusive OR of the four words of the UID (R99). -/
def uidSlot (uid : BitVec 64) : Nat :=
  let u := uid.toNat
  (u ^^^ (u / 2 ^ 16) ^^^ (u / 2 ^ 32) ^^^ (u / 2 ^ 48)) % 64

/-- The slot of R98 and its source: 0 the fabric index, 1 the UID, 2 fixed. DESIGN CHOICE (log entry 32): where both ports have a
known index the manual does not say which one is the slot; the model takes NET1's. -/
def State.keySlot (s : State) : Nat × Nat :=
  match s.par 0x0053 with
  | 1 => (uidSlot Config.uid, 1)
  | 2 => (s.par 0x0054, 2)
  | _ =>
    let known (p : Fin 2) : Option Nat :=
      if s.work (netId p 3) != 0xFF then some (s.work (netId p 3))
      else match s.ret.fabIndex.get p with
        | some (i, seg) => if s.portSeg p == some seg then some i else none
        | none => none
    match known 0, known 1 with
    | some i, _ => (i, 0)
    | none, some i => (i, 0)
    | none, none => (uidSlot Config.uid, 1)

/-- Step 1 of a waiting axis may begin: the key-on delay is over, SYS, ANA and AUX stand at Ready, and dev.pwr.ax_stagger has passed
since the most recent begin of another axis (R81, R96, R97). -/
def State.mayBegin (s : State) (n : Fin 4) : Bool :=
  (match s.power.keyAt with | some f => decide (s.ahead f ≤ 0) | none => true) &&
  s.domReady .sys && s.domReady .ana && s.domReady .aux &&
  axes4.all (fun k => k == n || (match s.power.lastUp.get k with
    | some f => decide (20 * s.par 0x0050 ≤ s.since f)
    | none => true))

/-- Adapted pre-charge times start from their configured values (R306). -/
def State.gateReady (s : State) (n : Fin 4) : State :=
  let sw (x : SwitchSt) : SwitchSt := { x with tpreOn := s.ps n 5, tpreOff := s.ps n 6 }
  s.updGate n (fun g => { g.mapBr (fun y => { y with lo := sw y.lo, hi := sw y.hi }) with enBack := 0, hwOff := false })

/-- Up step 1 begins; the gate counters of Table GATE-11 start anew. -/
def State.beginUp (s : State) (n : Fin 4) : State :=
  let s := (s.gateReady n).updGate n (fun g => { g with inserts := 0, platEnds := 0 })
  let s := s.setSeq n (fun a => { a with seq := .up 1, stepAt := s.frame.counter, viaD3 := false, brakeAt := none })
  let s := { s with power := { s.power with lastUp := s.power.lastUp.set n (some s.frame.counter), keyUsed := true, keyAt := none } }
  s.reqsAct n 0x0101

/-- The up sequence follows a reversal, in its turn among the axes that wait (Table PWR-8, R96). `d3`: D3 is still to pass if an off
request comes first. -/
def State.tryUp (s : State) (n : Fin 4) (d3 : Bool) : State :=
  let s := s.setSeq n (fun a => { a with seq := .waiting, stepAt := s.frame.counter, viaD3 := d3 })
  if axes4.find? (fun k => s.seq k == .waiting) == some n && s.mayBegin n then s.beginUp n else s

/-- AXIS_UP_START: at a boundary after its request the lowest waiting axis starts by itself when it may begin (R88, R96). -/
def execAxisUpStart (n : Fin 4) (s : State) : Host.Outcome State Fault Refusal :=
  .next (
    if axes4.find? (fun k => s.seq k == .waiting) == some n && s.mayBegin n && decide (1 ≤ s.since (s.axSt n).stepAt) then s.beginUp n
    else s)

/-- An on request of an axis at Off. The key-on delay is computed when the request for the first axis to power up is taken (R97). -/
def State.axOnRequest (s : State) (n : Fin 4) : State :=
  let delay := !s.power.keyUsed && decide (0 < s.power.keyOn) && s.power.keyAt.isNone
  let k := s.keySlot
  let s := { s with power := { s.power with
    dev := .run
    keyAt := if delay then some (s.frame.counter + BitVec.ofNat 32 (20 * k.1 * s.par 0x0051)) else s.power.keyAt } }
  let s := s.setSeq n (fun a => { a with seq := .waiting, latched := none, idxByte := 0xFF, failCode := none, stepAt := s.frame.counter, viaD3 := false, bist := 0 })
  if delay then s.evNames 0x1302 k.1 k.2 else s

/-- Refused in Failed, and afterwards until the fault that failed the domain is cleared (Table PWR-8, log entry 23). -/
def State.axRefused (s : State) (n : Fin 4) : Option Nat :=
  let held := match (s.axSt n).failCode with | some c => s.faultActive c | none => false
  if s.seq n == .failed || (s.axOff n && held) then some (s.seq n).code else none

def twinPermit (s : State) (h : Nat) : Option Nat := if s.twinBars h && srcOf h != 3 then some 4 else none

/-- ENABLE_AXIS. DESIGN CHOICE (log entry 32): one taken after the DISABLE_AXIS of a Ready axis and before the next boundary replaces
it at once, and D1 never begins. -/
def enableAxisSpec : CmdSpec where
  op := 0x0101
  engine := true
  permit := twinPermit
  ready := fun s h => s.axRefused (s.axisOf h)
  judge := fun s h => some (s.cfgPlus (s.axmask h) 0, s.enableFindings (s.axmask h) 0)
  taken := fun s h => s.copyEnabled (s.axmask h) 0
  start := fun s h =>
    let n := s.axisOf h
    let s := s.setHop h (fun x => { x with start := none })
    match s.seq n with
    | .off => s.axOnRequest n
    | .waiting | .failed => s
    | .ready =>
      if (s.axSt n).latched == some false then
        ((s.setSeq n (fun a => { a with latched := none })).cancelOpposed n true).endReqs n 0x0101 1 0
      else s.endReqs n 0x0101 1 0
    | _ => s.setSeq n (fun a => { a with latched := some true })

def execEnableAxis (h : Fin 32) (s : State) : Host.Outcome State Fault Refusal := .next (takeRow enableAxisSpec h s)

def disableAxisSpec : CmdSpec where
  op := 0x0102
  engine := true
  permit := twinPermit
  start := fun s h =>
    let n := s.axisOf h
    let s := s.setHop h (fun x => { x with start := none })
    match s.seq n with
    | .waiting =>
      if (s.axSt n).viaD3 then (s.axStep n .d3).cancelOpposed n false else s.axToOff n
    | .off | .failed => s.axToOff n
    | _ => s.setSeq n (fun a => { a with latched := some false })

def execDisableAxis (h : Fin 32) (s : State) : Host.Outcome State Fault Refusal := .next (takeRow disableAxisSpec h s)

/-! ### Checkpoints (Tables PWR-5, PWR-6 and PWR-8) -/

/-- The engine at the Ready checkpoint: index, position and position state of Table MOT-3, standstill (R236, R237). -/
def State.restoreIndex (s : State) (n : Fin 4) : State :=
  let m := s.motion.get n
  let retain := s.ax n 0x48 == 1
  let rest (m : MotionSt) : MotionSt := { m.toIdle with still := true, stillF := 0, holdF := 0, idleF := s.ax n 0x49, halted := false, kept := true }
  let lost (m : MotionSt) (v : Int) : MotionSt :=
    { m with p := v, pAt := v, target := v, eloff := ((0 - v) % 1024).toNat, posState := .unreferenced, retained := false }
  match retain, s.ret.index.get n with
  | true, some e =>
    if m.kept then
      s.updMotion n (fun m => { rest m with
        eloff := ((e.toNat - m.p) % 1024).toNat
        posState := if m.posState = .unreferenced then .unreferenced else .retained
        retained := true })
    else s.updMotion n (fun m => { (lost (rest m) 0) with eloff := e.toNat, retained := true })
  | true, none => (s.updMotion n (fun m => lost (rest m) (if m.kept then m.p else 0))).ev 0x0102 n.val
  | false, _ => s.updMotion n (fun m => lost (rest m) (if m.kept then m.p else 0))

/-- Step 5 ends: the axis reaches Ready, and ENABLE_AXIS completes. -/
def State.axReadyNow (s : State) (n : Fin 4) : State :=
  let s := (s.axStep n .ready).setSeq n (fun a => { a with lastCp := 6 })
  let s := ((((s.restoreIndex n).gateReady n).curReady n).wedgeReady n).chanReady n
  let s := s.setSeq n (fun a => { a with idxByte := b01 (s.motion.get n).retained })
  s.endReqs n 0x0101 1 0

/-- D1 reversed: the switches never went off, and the engine keeps its position; what every Ready checkpoint sets is set (Table PWR-8, R286, R306). -/
def State.axBack (s : State) (n : Fin 4) : State :=
  let s := (s.axStep n .ready).setSeq n (fun a => { a with lastCp := 6, brakeAt := none })
  ((s.gateReady n).wedgeReady n).endReqs n 0x0101 1 0

/-- D1 begins: the STOP rule, without touching a ramp that already runs; the running command is cancelled (R164, R327). -/
def State.beginDown (s : State) (n : Fin 4) : State :=
  let q := match (s.axReqs n 0x0102).getLast? with | some h => s.seqNo h | none => 0xFFFF
  let x := s.nowXva n
  let s := (s.axStep n .d1).setSeq n (fun a => { a with latched := none, brakeAt := none })
  let s := ((s.reqsAct n 0x0102).cancelWrites (axBit n) q).abandonTest n q
  let s := (((s.leaveRun n q).endCmd n 2 q).endUnacted n 2 q).endStops n 2 q
  if s.pinMode n then s
  else match (s.motion.get n).state with
  | .stopping | .halting | .idle => s
  | .halted => s.updMotion n MotionSt.toIdle
  | _ => s.rampFrom n x (s.ax n 0x43)

/-- Each boundary of the sequencer: a latched off request of a Ready axis begins D1; at standstill in D1 the brake output turns
off and its engage time starts (Table PWR-6). -/
def State.axSeqFrame (s : State) (n : Fin 4) : State :=
  match s.seq n with
  | .ready => if (s.axSt n).latched == some false then s.beginDown n else s
  | .d1 =>
    if (s.axSt n).brakeAt.isNone && (s.pinMode n || (s.motion.get n).state == .idle) then
      (s.brakeOff n).setSeq n (fun a => { a with brakeAt := some s.frame.counter })
    else s
  | _ => s

/-- The work of D1 is done: standstill, and the engage time over. -/
def State.stillDown (s : State) (n : Fin 4) : Bool :=
  match (s.axSt n).brakeAt with
  | none => false
  | some f => match s.brakeOf n with
    | some b => s.pinMode n || decide (20 * s.par (0x4024 + 8 * b.val) ≤ s.since f)
    | none => true

/-- The work of up step `k` can be over: its duration has passed, and step 1 has found AUX at Ready and VGD at 10.0 V (Table PWR-5).
`vals`: step 1 VGD in mV. -/
def State.upDone (s : State) (n : Fin 4) (k : Nat) (vals : List Int) : Bool :=
  let gone := s.since (s.axSt n).stepAt
  match k with
  | 1 => decide (1 ≤ gone) && s.domReady .aux && decide (10000 ≤ vals.getD 0 0)
  | 2 => decide (s.par 0x0055 ≤ gone)
  | 3 => decide (2 ≤ gone)
  | 4 => decide (4 ≤ gone) && (s.mon.tests.get n).isNone && (match (s.axSt n).calEnd with | some e => decide (s.ahead e ≤ 0) | none => true)
  | _ => decide (1 ≤ gone)

/-- Verdicts other than OK of the off-state test of step 4, each with its coil (R344). -/
def State.stepFaults (s : State) (n : Fin 4) : List (Nat × Option Nat) :=
  match s.mon.rows4.get n with
  | some r => (if r.1 = 3 then [] else [(verdictCode r.1, some (2 * n.val))]) ++
      (if r.2 = 3 then [] else [(verdictCode r.2, some (2 * n.val + 1))])
  | none => []

/-- Work of up step `k`, judged at its checkpoint from what the step measured: the faults that fail it (Table PWR-5, R321, R344).
`vals`: step 2 the four BS–SH voltages in mV; step 3 the mask of failing switches; step 4 the offsets of coils A and B. -/
def State.upVerdict (s : State) (n : Fin 4) (k : Nat) (vals : List Int) : List (Nat × Option Nat) :=
  let fell := (s.gate.get n).fallNote || s.enablesLow n != 0
  match k with
  | 2 =>
    if fell then [(0x0307, none)]
    else ((axes4.filter (fun b => decide (vals.getD b.val 0 < 9000))).take 1).map (fun b => (0x1302, some (4 * n.val + b.val)))
  | 3 =>
    if fell then [(0x0307, none)]
    else (((List.range 8).filter (fun i => (vals.getD 0 0).toNat.testBit i)).take 1).map (fun i => (0x1303, some (8 * n.val + i)))
  | 4 => (if both2.any (fun c => decide (40 < (vals.getD c.val 0).natAbs)) then [(0x1304, none)] else []) ++
      (if s.par 0xA018 = 1 then s.stepFaults n else [])
  | _ => []

/-- The step after checkpoint `k` begins. -/
def State.upStep (s : State) (n : Fin 4) (k : Nat) (vals : List Int) : State :=
  let s := s.axStep n (.up (k + 1))
  match k with
  | 1 =>
    let s := s.setSeq n (fun a => { a with supply := true })
    let s := s.updGate n (fun g => { g with fallNote := false, riseNote := false, enBack := 0, hwOff := false })
    if s.sharedDown n || s.permHeld n then s else s.clampOn n
  | 2 => s.switchesOff n
  | 3 =>
    let s := axes4.foldl (fun t b => t.updItem (0x10 + 4 * n.val + b.val) (fun x => { x with age := 0 })) (s.switchesOff n)
    let s := s.setSeq n (fun a => { a with calEnd := some (s.frame.counter + 4), recal := false })
    if s.sharedDown n then s else s.beginTest n 0 0
  | _ =>
    let c := s.frame.counter
    s.setSeq n (fun a => { a with calEnd := none, calLast := c, offsets := ⟨vals.getD 0 0, vals.getD 1 0⟩ })

/-- The sequencer of an axis reverses at the checkpoint last reached (R92). -/
def State.axReversed (s : State) (n : Fin 4) : State := s.evNames 0x1301 (axNo n) (s.axSt n).lastCp

/-- A checkpoint of an axis domain: at most one in a frame (R88, R92, Table PWR-8). -/
def State.axCheckpoint (s : State) (n : Fin 4) (vals : List Int) : State :=
  let on := (s.axSt n).latched
  let clear (t : State) : State := t.setSeq n (fun a => { a with latched := none })
  let frame := decide (1 ≤ s.since (s.axSt n).stepAt)
  match s.seq n with
  | .up 5 =>
    if !frame then s
    else
      let s := ((clear s).setSeq n (fun a => { a with lastCp := 6 }))
      let s := if (s.axSt n).brakeAt.isSome then s.axBack n else s.axReadyNow n
      if on == some false then
        ((s.setSeq n (fun a => { a with latched := some false })).beginDown n).axReversed n
      else s.cancelOpposed n true
  | .up k =>
    if !s.upDone n k vals then s
    else match s.upVerdict n k vals with
    | (code, q) :: rest =>
      let s := rest.foldl (fun t x => t.raise x.1 (x.2.getD 0) (axBits n) false) s
      (match q with
       | some q => s.raiseFail n code q
       | none => let x := s.fresh; x.2.raiseFail n code x.1)
    | [] =>
      -- with diag.os_enforce = 0 the codes of step 4 are raised, and the domain proceeds (R344)
      let s := if k = 4 then (s.stepFaults n).foldl (fun t x => t.itemFault (x.2.getD 0) x.1 (x.2.getD 0) (t.item (x.2.getD 0)).last) s else s
      let s := s.setSeq n (fun a => { a with lastCp := k })
      if on == some false then
        let s := s.upStep n k vals
        let s := ((clear s).axStep n .d2).setSeq n (fun a => { a with calEnd := none })
        (((s.switchesOff n).setTest n none).cancelOpposed n false).axReversed n
      else if k = 4 ∧ (s.axSt n).bist = 1 then
        -- the gate test goes on with D2 and D3 (Table SVC-4)
        let s := (((clear s).upStep n k vals).axStep n .d2).setSeq n (fun a => { a with calEnd := none, bist := 2 })
        (s.switchesOff n).setTest n none
      else ((clear s).upStep n k vals).cancelOpposed n true
  | .d1 =>
    if !frame || !s.stillDown n then s
    else
      let s := clear (s.setSeq n (fun a => { a with lastCp := 7 }))
      if on == some true then ((s.axStep n (.up 5)).cancelOpposed n true).axReversed n
      else
        let s := (s.axStep n .d2).switchesOff n
        (s.setTest n none).cancelOpposed n false
  | .d2 =>
    if !frame then s
    else
      let s := clear (s.setSeq n (fun a => { a with lastCp := 8 }))
      if on == some true then ((s.tryUp n true).cancelOpposed n true).axReversed n
      else (s.axStep n .d3).cancelOpposed n false
  | .d3 =>
    if !frame then s
    else
      let s := ((clear s).setSeq n (fun a => { a with lastCp := 0, supply := false })).keepIndex n
      if on == some true then ((s.tryUp n false).cancelOpposed n true).axReversed n
      else s.axToOff n
  | _ => s

/-- OFFSTATE_TEST_VERDICT: a test has come to the end of its 4 f. `mv`: node voltages in mV as averaged, where ADC1_UNIT has not brought
the readings. The verdict of step 4 waits for its checkpoint (R342 to R344). -/
def execOffstateTestVerdict (n : Fin 4) (mv : List Int) (s : State) : Host.Outcome State Fault Refusal :=
  .next (
    match s.mon.tests.get n with
    | none => s
    | some t =>
      if -3 < s.ahead t.startF then s
      else
      let mv := t.averages mv
      let r := verdicts mv
      let s := s.setTest n none
      match t.source with
      | 0 =>
        let s := { s with mon := { s.mon with rows4 := s.mon.rows4.set n (some r) } }
        [2 * n.val, 2 * n.val + 1].foldl (fun t k => t.updItem k (fun x => { x with age := 0 })) s
      | 2 =>
        let s := (s.clampBack n).testOutcome n mv false
        if s.stage t.hop = .started then
          (s.finish t.hop 1 0 (b8 r.1 ++ b8 r.2 ++ (fit 8 0 mv).flatMap (fun v => le16 (satU 16 v.toNat)))).settle
        else s
      | _ => (s.clampBack n).testOutcome n mv true)

end Sys2Proof.Machine
end

