-- ==== Sys2Proof/Machine/Boot.lean ====
section
/-! DEFINITION. The start of SYS: what survives, start records, the choice of the firmware bank, SYS at Ready (03, 18 R573 to R577,
19 R599). -/

namespace Sys2Proof.Machine

/-- A start record for retention; a ninth replaces the oldest (R599). -/
def State.addRecord (s : State) (code qual : Nat) : State :=
  let l := s.ret.records ++ [(code, qual)]
  { s with ret := { s.ret with records := l.drop (l.length - 8) } }

/-- Latch causes, which survive in retention (R330). -/
def GateSt.onlyLatches (g : GateSt) : GateSt :=
  let sw (x : SwitchSt) : SwitchSt := { cause := x.cause }
  let br (y : BridgeSt) : BridgeSt := { lo := sw y.lo, hi := sw y.hi }
  { a1 := br g.a1, a2 := br g.a2, b1 := br g.b1, b2 := br g.b2 }

/-- Everything that SRAM and the SYS side hold is lost; AON, retention, flash, OTP and the levels of pins stay (R71, R82, R237).
`cause`: RSTCAUSE of the start that follows. -/
def State.sysClear (s : State) (cause : Nat) : State :=
  let q := s.power
  let v := s.svc
  let up := s.domReady .sys
  let tamperEn := if up then s.par 0x9001 == 1 else v.tamperEn
  let presWin := if up then s.par 0x9000 else v.presWin
  let pins : PinSt :=
    { inReset := s.pins.inReset, testHeld := s.pins.testHeld, testRec := s.pins.testRec, role := s.pins.role,
      strapsRead := s.pins.strapsRead, sealPin := s.pins.sealPin, sealed := s.pins.sealed, presStuck := s.pins.presStuck,
      acti := s.pins.acti }
  let power : PowerSt :=
    { dev := q.dev, change := q.change, aon := q.aon, sysTries := q.sysTries, sysHeld := q.sysHeld, keyOn := q.keyOn,
      keyUsed := q.keyUsed, wakeMask := q.wakeMask, wakeTime := q.wakeTime, timerRan := q.timerRan, aonCount := q.aonCount,
      wakeRun := q.wakeRun, wakeGone := q.wakeGone, brownOut := q.brownOut, vm := q.vm, vbat := q.vbat, vmUv := q.vmUv,
      rbg := q.rbg, rbs := q.rbs, rbcp := q.rbcp }
  -- the supply windows are AON's
  let comps := (List.range 51).map (fun k => if 40 ≤ k ∧ k < 47 then s.mon.comps.getD k {} else {})
  let svc : SvcSt :=
    { window := v.window, winLen := v.winLen, closeRec := v.closeRec, tamper := v.tamper, loopOk := v.loopOk, tamperAt := v.tamperAt,
      tamperN := v.tamperN, tamperDue := v.tamperDue, tamperRec := v.tamperRec, bankA := v.bankA, bankB := v.bankB, runB := v.runB,
      trial := v.trial, rollMin := v.rollMin, keys := v.keys, failed := v.failed, bootBad := v.bootBad,
      tamperEn := tamperEn, presWin := presWin }
  let host : HostSt := { rstCause := cause }
  let params : ParamSt := { copyA := s.params.copyA, copyB := s.params.copyB }
  let cur (n : Fin 4) : CurrentSt := { storeTab := (s.cur.get n).storeTab }
  let port (p : Fin 2) : PortSt := { storeSched := (s.ports.get p).storeSched }
  let gate (n : Fin 4) : GateSt := (s.gate.get n).onlyLatches
  let clock : ClockSt := { lfDev := s.clock.lfDev }
  let plan : PlanSt := { storeChain := s.plan.storeChain }
  let twin : TwinSt := { takeovers := s.twin.takeovers }
  { pins := pins, power := power, svc := svc, host := host, params := params, clock := clock, plan := plan, twin := twin,
    cur := ⟨cur 0, cur 1, cur 2, cur 3⟩, ports := ⟨port 0, port 1⟩, gate := ⟨gate 0, gate 1, gate 2, gate 3⟩,
    mon := { comps := comps }, ret := s.ret, free := s.free, pending := s.pending }

/-- Entry to SLEEP or a brown-out: the counters and the sleep plan's progress are written to retention (R82, R87). -/
def State.retSave (s : State) : State :=
  { s with ret := { s.ret with valid := true, frames := s.frame.counter, sframes := s.frame.superframe, frIndex := s.frame.index } }

/-- Whole frames in `n` AONCLK periods of 31.25 µs (R87). -/
def framesOf (n : Nat) : Nat := 5 * n / 8

/-- Counters after `gone` whole frames without a boundary (R87). -/
def FrameSt.advance (f : FrameSt) (gone : Nat) : FrameSt :=
  let total := f.superframe.toNat * 20 + f.index + gone
  { f with counter := f.counter + BitVec.ofNat 32 gone, superframe := BitVec.ofNat 32 (total / 20), index := total % 20,
           tickBase := f.tickBase + 10000 * gone }

/-- Frames run again, or not (`run`), after `gone` whole frames without a boundary; the key-on window has gone on (R25, R87, R97). -/
def State.framesGone (s : State) (gone : Nat) (run : Bool) : State :=
  { s with frame := { (s.frame.advance gone) with running := run, commit := true, trim := 0, realign := none, syncRej := false, brkSeen := false }
           power := { s.power with keyOn := s.power.keyOn - gone } }

/-- The deadlines of neighbours and watches have not run for `n` superframes of sleep (R508). -/
def State.shiftHeard (s : State) (n : Nat) : State :=
  let k := BitVec.ofNat 32 n
  { s with fab := { s.fab with neighbours := s.fab.neighbours.map (fun x => { x with last := x.last + k })
                               watches := s.fab.watches.map (fun x => { x with since := x.since + k })
                               wokeAt := s.frame.superframe } }

/-- AON leaves OFF or SLEEP: the key-on window starts (R97). -/
def State.keyStart (s : State) : State :=
  { s with power := { s.power with keyOn := 20 * setVal s.storedSet 0x0052, keyUsed := false, keyAt := none } }

/-- Requests that a start makes: SYS, ANA and AUX go up in order (Table PWR-3). -/
def State.requestStart (s : State) : State :=
  let on (t : State) (d : Domain) : State := t.setDom d (fun _ => { stage := .down, latched := some true })
  [Domain.sys, .ana, .aux].foldl on { s with power := { s.power with change := some .idle } }

/-- A start as from OFF: AON begins with its POR release (R90, Table PWR-3). -/
def State.startFromOff (s : State) (cause : Nat) : State :=
  let s := ((s.sysClear cause).keyStart).requestStart
  let s := { s with pins := { s.pins with sealed := none } }
  -- AON is back before its Ready, where the reverse-battery controller is not yet armed (Table PWR-7, R100)
  { s with power := { s.power with aon := { stage := if s.pins.inReset then .down else .up 1, latched := some true }, dev := .off,
                                   wakeRun := none, wakeGone := 0, rbg := false, rbcp := 0 } }

/-! ### Firmware started -/

def SvcSt.bank (v : SvcSt) (b : Bool) : Bank := if b then v.bankB else v.bankA
def SvcSt.updBank (v : SvcSt) (b : Bool) (f : Bank → Bank) : SvcSt :=
  if b then { v with bankB := f v.bankB } else { v with bankA := f v.bankA }

/-- Read ROLE and TSTEN (R74, R75). -/
def State.readStraps (s : State) (tsten roleUp roleDown : Bool) : State :=
  let role : RoleStrap := if roleUp != roleDown then .floating else if roleUp then .b else .a
  { s with pins := { s.pins with strapsRead := true, testHeld := tsten, role := role } }

/-- SYS stays in reset until RESETN or a VBAT cycle (R90, R573, Table SVC-4). -/
def State.holdSys (s : State) : State :=
  let s := s.setDom .sys (fun _ => { stage := .failed })
  { s with power := { s.power with sysHeld := true } }

/-- A bank fails its check: INVALID, FT-0x0902 (R573). -/
def State.bankFails (s : State) (b : Bool) : State :=
  ({ s with svc := s.svc.updBank b (fun x => { x with st := .invalid }) } : State).raiseAs (some 6) 0x0902 (b01 b) 0 false

/-- The boot loader: an unconfirmed TRIAL image becomes INVALID; a PENDING bank is started as TRIAL; a bank that fails the check
gives way to the other one (R573, R574). -/
def State.bootSelect (s : State) (okA okB : Bool) : State :=
  let ok (b : Bool) : Bool := if b then okB else okA
  let s := if s.svc.trial then
      let b := s.svc.runB
      let v := { (s.svc.updBank b (fun x => { x with st := .invalid })) with trial := false, runB := !b }
      ({ s with svc := v } : State).raiseFree 0x0903 0 false
    else s
  let pend := if s.svc.bankA.st == .pending then some false else if s.svc.bankB.st == .pending then some true else none
  let sel := pend.getD s.svc.runB
  let run (t : State) (b trial : Bool) : State := { t with svc := { (t.svc.updBank b (fun x => { x with st := .valid })) with runB := b, trial := trial } }
  if ok sel then run s sel pend.isSome
  else
    let s := s.bankFails sel
    if (s.svc.bank (!sel)).st == .valid then
      (if ok (!sel) then run s (!sel) false else ((s.bankFails (!sel)).addRecord 0x0904 0).holdSys)
    else (s.addRecord 0x0904 0).holdSys

/-- Fault code of a latch cause (R329). -/
def latchFault (cause : Nat) (high : Bool) : Nat :=
  match cause with
  | 1 => if high then 0x0301 else 0x0302
  | 2 => 0x0303
  | 3 => 0x0304
  | 4 => 0x0305
  | 5 => 0x0308
  | _ => 0x0306

/-- The fault table of a SYS start: the start records, removed from retention, and the faults of the latched switches (R599). -/
def State.startFaults (s : State) : State :=
  let l := s.ret.records
  let s := { s with ret := { s.ret with records := [] } }
  let s := l.foldl (fun (t : State) r => let x := t.fresh; x.2.raiseAs (some 6) r.1 x.1 0 false) s
  axes4.foldl (fun t n => axes4.foldl (fun t b =>
    let one (t : State) (high : Bool) : State :=
      let c := ((t.bridge n b).sw high).cause
      if c = 0 then t
      else
        let code := latchFault c high
        t.raise code (if code == 0x0303 || code == 0x0304 then 2 * n.val + coilOf b else 4 * n.val + b.val) (axBits n) true
    one (one t false) true) t) s

/-- A boot test fails: SYS restarts once, with a start record; a second failure holds SYS in reset (Table SVC-4). -/
def State.bootTestFails (s : State) (bit code : Nat) : State :=
  let again := s.svc.bootBad.getLsbD bit
  let s := s.addRecord code 0
  if again then s.holdSys
  else
    let m := BitVec.ofNat 2 (2 ^ bit)
    let s := { s with svc := { s.svc with bootBad := s.svc.bootBad ||| m } }
    let s := (s.sysClear 4).requestStart
    s.beginStep .sys (.up 1) none

/-- "Firmware started": boot loader, working set, tables, schedules, the tamper latch, the sleep plan held in retention (R196,
R245, R428, R487, R500, R567). -/
def State.firmwareStart (s : State) (okA okB : Bool) : State :=
  let s := s.bootSelect okA okB
  if s.power.sysHeld then s
  else
    let s := (((s.startFaults.bootParams).bootTables).bootScheds)
    let c := s.plan.storeChain
    let s := { s with plan := { s.plan with chain := c } }
    let s := { s with svc := { s.svc with tamper := s.svc.tamper || s.svc.tamperRec.isSome
                                          tamperAt := match s.svc.tamperDue, s.svc.tamperRec with | none, some r => r.1 | _, _ => s.svc.tamperAt
                                          tamperN := match s.svc.tamperRec with | some r => max r.2 s.svc.tamperN | none => s.svc.tamperN } }
    let woken := s.ret.plan.isSome && s.power.wakeRun.isSome && !s.isRoot
    let f : FabSt :=
      { s.fab with plan := s.ret.plan, m := s.ret.sleepM, woken := woken, interim := woken && s.power.wakeRun != some 4
                   wakeK := s.ret.sleepK, rate := s.ret.sleepRate, lastBcn := s.ret.lastBcn, winEnd := s.ret.winEnd
                   -- a watch that is LOST stays so over a sleep of the plan (Table EDGE-16; log entry 22)
                   watches := if woken then s.ret.watches else s.fab.watches
                   neighbours := if woken then s.ret.neighbours else s.fab.neighbours }
    { s with fab := f }

/-- A parameter that AON uses: its running value, or the stored one while SYS is not at Ready. -/
def State.aonVal (s : State) (id : Nat) : Nat := if s.domReady .sys then s.par id else setVal s.storedSet id

/-- The wake is reported (R87, R133). -/
def State.wakeEvent (s : State) : State :=
  match s.power.wakeRun with
  | none => s
  | some src =>
    let s := { s with power := { s.power with wakeRun := none, wakeGone := 0 }
                      host := { s.host with wakeSrc := BitVec.ofNat 9 (2 ^ src), wakeAtt := true } }
    s.evNames 0x1305 src 0

/-- SYS reaches Ready: frames run, registers stand at their reset values, the counters continue after a wake, SEAL is read.
`gone`: whole frames since the start began (R72, R87, R127, R142, R563, R567). -/
def State.sysReady (s : State) (gone : Nat) : State :=
  let woke := s.power.wakeRun.isSome
  let f : FrameSt := { running := true, commit := true }
  let base : FrameSt := { f with counter := s.ret.frames, superframe := s.ret.sframes, index := s.ret.frIndex }
  let f := if woke then base.advance (s.power.wakeGone + gone) else f
  let fault := s.svc.tamper
  let strapped := match s.pins.sealed with | some x => x | none => !s.pins.sealPin
  let s := { s with
    frame := f
    power := { s.power with dev := .idle, change := none, sysTries := 0, brownOut := false, keyOn := s.power.keyOn - gone }
    pins := { s.pins with sealed := some strapped, rejects := tabSet s.pins.rejects 165 0 0 }
    host := { rstCause := s.host.rstCause, crcReq := s.par 0x0060 == 1, dummy := s.par 0x0061 }
    link := {}
    svc := { s.svc with bootBad := 0 }
    intake := { s.intake with autoDue := s.par 0x0080 != 0, slots := [], bulk := [], hops := List.replicate 32 {} } }
  let s := match s.svc.closeRec with
    | some q => ({ s with svc := { s.svc with closeRec := none } } : State).ev 0x0902 q
    | none => s
  let s := if fault then s.raiseFree 0x0901 0 true else s
  let s := if woke && s.fab.woken then s.shiftHeard ((s.power.wakeGone + gone) / 20) else s
  -- VM below 6.0 V since before the start (R108)
  let s := if s.power.vmUv then (forAxes s (fun n t => t.axSupplyFail n 0x1306)).noteFree 0x1306 0 true else s
  s.wakeEvent

end Sys2Proof.Machine
end

