-- ==== Sys2Proof/Machine/Power.lean ====
section
/-! DEFINITION. Power domains, units, device power states, wake, supplies (03). -/

namespace Sys2Proof.Machine

/-- The cause of a fault ends, raised or still to be raised. -/
def State.causeEnd (s : State) (code : Nat) : State :=
  let s := s.condEnd code
  { s with faults := { s.faults with raised := s.faults.raised.map (fun r => if r.1 = code then (r.1, r.2.1, r.2.2.1, false) else r) } }

/-! ### Units and their domains (R176, R177) -/

/-- A unit's own work at its start: its domain stands at Ready, or stands there again after STANDBY (log entry 23). A port woken under a
sleep plan takes its claim and segment from retention and is silent until a beacon (R504). -/
def State.unitBegin (s : State) (b : Nat) : State :=
  if b < 4 then s.chanEnable (Fin.ofNat 4 b)
  else if b = 4 then s.divReset.sensorEnable
  else if b < 7 then
    let p : Fin 2 := Fin.ofNat 2 (b - 5)
    let t := s.portEnable p
    if t.fab.woken then
      let r := t.ret.ports.get p
      t.updPort p (fun q => { q with silent := true, seg := r.1, claim := r.2.1, index := r.2.2.1, depth := r.2.2.2, sync := .unsynced })
    else t
  else if b = 7 then s.isoEnable
  else if b = 8 then s.twinEnable
  else s

/-- A unit begins to work; its bus is listen-only where that holds. -/
def State.unitStart (s : State) (b : Nat) : State := (s.unitBegin b).busModes

/-- A unit stops working. -/
def State.unitStop (s : State) (b : Nat) : State :=
  let off (t : State) : State := { t with params := { t.params with units := t.params.units &&& ~~~ BitVec.ofNat 10 (2 ^ b) } }
  if b = 8 then off s.twinDisable
  else
    let s := off s
    if b < 4 then s.chanDisable (Fin.ofNat 4 b)
    else if b = 4 then ((s.bridgeEnd true []).divReset).sensorEnable
    else if b < 7 then s.portDisable (Fin.ofNat 2 (b - 5))
    else if b = 7 then s.isoDisable
    else s.planLeave

def unitsIn (m : Nat) : List Nat := (List.range 10).filter (fun b => m.testBit b)

/-- A domain serves an enabled or a requested unit, or the planner SRAM test (R177, Table SVC-4). -/
def State.domWanted (s : State) (d : Domain) : Bool :=
  Nat.land (s.params.units ||| s.params.asked).toNat (domainUnits d) != 0 || (d == .plan && s.svc.bistTodo.head? == some 4)

/-- ENABLE_UNIT (0x0004) or DISABLE_UNIT (0x0005) commands that have started, in taking order. -/
def State.unitReqs (s : State) (op : Nat) : List Nat := s.byTaking.filter (fun h => s.stage h == .started && s.opcode h == op)

/-- Each unit that an ENABLE_UNIT asks for is enabled once its own domain stands at Ready (R177). Commands that name none of `mask` are
left alone. -/
def State.unitsUp (s : State) (mask : Nat) : State :=
  (s.unitReqs 0x0004).foldl (fun (t : State) h =>
    let m := t.p16 h 0
    let l := (unitsIn (Nat.land t.params.asked.toNat m)).filter (fun b => t.domReady (unitDomain b))
    if Nat.land m mask = 0 then t
    else
      let k := BitVec.ofNat 10 ((l.map (fun b => 2 ^ b)).foldl (· + ·) 0)
      let t := { t with params := { t.params with units := t.params.units ||| k, asked := t.params.asked &&& ~~~ k } }
      l.foldl State.unitStart (t.setHop h (fun x => { x with gave := x.gave ||| k }))) s

/-- An ENABLE_UNIT ends without enabling every unit: those of it that no other one names are asked for no more, and those that it had
enabled are disabled again (R203). -/
def State.unitDrop (s : State) (h : Nat) : State :=
  let others := ((s.unitReqs 0x0004).filter (· != h)).foldl (fun a x => Nat.lor a (s.p16 x 0)) 0
  let m := BitVec.ofNat 10 (Nat.land (s.p16 h 0) (1023 - others % 1024))
  { s with params := { s.params with asked := s.params.asked &&& ~~~ m
                                     leaving := s.params.leaving ||| ((s.hop h).gave &&& m &&& s.params.units) } }

/-- Units being disabled stop; a domain that no unit wants any more gets its off request (R177, R204). -/
def State.unitsDown (s : State) : State :=
  let s := (unitsIn (s.params.leaving &&& s.params.units).toNat).foldl State.unitStop s
  [Domain.fbk, .net, .twin, .plan].foldl (fun t d =>
    let x := t.dom d
    let goes := match x.stage with | .down | .going _ => false | .failed => true | _ => true
    if !t.domWanted d && goes && x.latched != some false && t.power.change.isNone then t.domRequest d false else t) s

/-- ENABLE_UNIT and DISABLE_UNIT commands that are over (R203, R204; CANCELLED by a later opposite request, R92). -/
def State.unitCmds (s : State) : State :=
  let lastSeq (t : State) (op : Nat) (m : Nat) : Nat :=
    match ((t.unitReqs op).filter (fun h => Nat.land (t.p16 h 0) m != 0)).getLast? with | some h => t.seqNo h | none => 0xFFFF
  let s := (s.unitReqs 0x0004).foldl (fun t h =>
    let m := t.p16 h 0
    if (unitsIn m).all (fun b => t.unitOn b && !t.params.leaving.getLsbD b) then
      t.finish h 1 0 (t.hop h).report
    else if (unitsIn m).any (fun b => (t.params.asked.getLsbD b && (t.dom (unitDomain b)).stage == .failed)) then
      (t.unitDrop h).finish h 6 0x1305 []
    else if (unitsIn m).any (fun b => t.params.leaving.getLsbD b || (!t.unitOn b && !t.params.asked.getLsbD b)) then
      (t.unitDrop h).finish h 2 (lastSeq t 0x0005 m) []
    else t) s
  let s := (s.unitReqs 0x0005).foldl (fun t h =>
    let m := t.p16 h 0
    let ended (b : Nat) : Bool := !t.unitOn b && !t.params.asked.getLsbD b &&
      (t.domWanted (unitDomain b) || (t.dom (unitDomain b)).stage == .down || (t.dom (unitDomain b)).stage == .failed)
    if (unitsIn m).all ended then t.doneWith h []
    else if (unitsIn m).any (fun b => t.params.asked.getLsbD b || (t.unitOn b && !t.params.leaving.getLsbD b)) then
      t.finish h 2 (lastSeq t 0x0004 m) []
    else t) s
  { s with params := { s.params with leaving := s.params.leaving &&& s.params.units } }

/-- Units at a boundary, or when a domain reaches a checkpoint. -/
def State.unitsService (s : State) : State := ((s.unitsDown).unitsUp 1023).unitCmds

/-! ### Domains (R81, R88, R90, R92, Table PWR-7) -/

def upLast : Domain → Nat
  | .aon | .ana => 4
  | .sys => 5
  | _ => 3

def downLast : Domain → Nat | .ana => 1 | _ => 2

def domNeeds : Domain → Option Domain
  | .aon => none
  | .sys => some .aon
  | .aux => some .ana
  | _ => some .sys

def sideDomains : List Domain := [.ana, .aux, .fbk, .net, .twin, .plan]

/-- FBK's outputs are in their reset state: AUXn and DIVOd under their pull-downs (Table PIN-4). -/
def State.fbkPins (s : State) : State := { s with pins := { s.pins with aux := Quad.all false, divo := Duo.all false } }

/-- One second in PWMCLK ticks. -/
def secondTicks : Nat := 200000000

/-- BRKG's on-time in the second that ends at tick `now` (R105). -/
def PowerSt.brkOnTime (q : PowerSt) (now : Nat) : Nat :=
  let part (a b : Nat) : Nat := b - max a (now - secondTicks)
  (q.brkLog.map (fun x => part x.1 x.2)).foldl (· + ·) (if q.brkg then part q.brkOnAt now else 0)

/-- BRKG turns off at tick `now`; its on-time is kept for a second. -/
def PowerSt.brkgOff (q : PowerSt) (now : Nat) : PowerSt :=
  if q.brkg then { q with brkg := false, brkLog := (q.brkLog.filter (fun x => decide (now < x.2 + secondTicks))) ++ [(q.brkOnAt, now)] } else q

/-- The outputs of a domain that begins to go down take their quiet state. -/
def State.domQuiesce (s : State) (d : Domain) : State :=
  match d with
  | .aux => { s.brakesOff with power := s.brakesOff.power.brkgOff s.frame.tickBase }
  | .net =>
    let t := forPorts s (fun p t => (t.dropSends (t.ports.get p).queues.toList.flatten).updPort p (fun q => { q with queues := Quad.all [] }))
    t.updIso (fun i => { i with tx := [], sessions := [] })
  | .twin => s.actoClear.updTwin (fun t => { t with link := .down })
  | .fbk => s.fbkPins
  | .plan => s.planLeave
  | _ => s

/-- A domain is without power. -/
def State.domOff (s : State) (d : Domain) : State :=
  match d with
  | .fbk => s.fbkPins
  | .net => { s with clock := { s.clock with pllc := .stopped } }
  | .twin => { s with clock := { s.clock with pllt := .stopped } }
  | .plan => s.planReset
  | _ => s

/-- Fault path of a domain other than AON and SYS, and of those that depend on it (R82). -/
def State.domDrop (s : State) (d : Domain) (code : Nat) : State :=
  let one (t : State) (d : Domain) : State :=
    if (t.dom d).stage == .down then t else ((t.domQuiesce d).domOff d).setDom d (fun _ => {})
  match d with
  | .ana => forAxes (one (one s .aux) .ana) (fun n t => t.axFail n code)
  | .aux => forAxes (one s .aux) (fun n t => t.axFail n code)
  | _ => one s d

/-- Up step 1 of a domain begins. -/
def State.domBegins (s : State) (d : Domain) : State :=
  let t := s.beginStep d (.up 1) none
  if d == .aux then { t with power := { t.power with auxHold := 0 } } else t

/-- VGD's charge pump runs: from AUX's first step on, unless VM is in under-voltage (R108, R109, Table PWR-7). -/
def State.vgdPump (s : State) : Bool :=
  (match s.power.aux.stage with | .up _ | .ready | .going 1 => true | _ => false) && !s.power.vmUv

/-- Domains at rest with a latched request begin, in the up order (R81, R88). -/
def State.settleDoms (s : State) : State :=
  let one (t : State) (d : Domain) : State :=
    let x := t.dom d
    let mayUp := match domNeeds d with | some e => t.domReady e | none => true
    match x.stage, x.latched with
    | .down, some true => if mayUp then t.domBegins d else t
    | .ready, some false => (t.domQuiesce d).beginStep d (.going 1) none
    | _, _ => t
  let s := if s.power.sys.stage == .down && s.power.sys.latched == some true && s.domReady .aon && !s.pins.testHeld && !s.power.sysHeld then
      s.beginStep .sys (.up 1) none
    else s
  sideDomains.foldl one s

/-! ### Going to STANDBY or SLEEP (R84, R95, R115) -/

/-- Domains that go down for a target, in order (Table PWR-3). -/
def downOrder (t : DevPower) : List Domain := [.plan, .twin, .net, .fbk, .aux, .ana] ++ (if t == .sleep then [.sys] else [])

def State.restsDown (s : State) (d : Domain) : Bool := (s.dom d).stage == .down || (s.dom d).stage == .failed

/-- The ports' claims and segments, and the plan's progress, go to retention (R500). -/
def State.planSave (s : State) : State :=
  let r (p : Fin 2) : Option Nat × ClaimState × Nat × Option Nat :=
    let q := s.ports.get p
    (q.seg, q.claim, q.index, q.depth)
  { s with ret := { s.ret with
    sleepM := s.fab.m, sleepK := s.fab.wakeK, sleepRate := s.fab.rate, lastBcn := s.fab.lastBcn, ports := ⟨r 0, r 1⟩
    winEnd := s.fab.winEnd, watches := s.fab.watches, neighbours := s.fab.neighbours } }

/-- The counters freeze, and AON counts on (R87). -/
def State.timerFreeze (s : State) : State :=
  { s with power := { s.power with timerRan := s.since s.power.timerAt, aonCount := 0 } }

/-- The change is complete: STANDBY with frames stopped, or SLEEP with AON alone. -/
def State.changeEnd (s : State) : State :=
  match s.power.change with
  | some .standby =>
    if (downOrder .standby).all (fun d => s.restsDown d) then
      let s := s.retSave.timerFreeze
      { s with power := { s.power with dev := .standby, change := none }, frame := { s.frame with running := false } }
    else s
  | some .sleep =>
    if (downOrder .sleep).all (fun d => s.restsDown d) then
      let pres := s.pins.presLow
      let wake := s.pins.wake
      let s := ((s.retSave.planSave).timerFreeze).sysClear s.host.rstCause
      { s with pins := { s.pins with presLow := pres, wake := wake }
               power := { s.power with dev := .sleep, change := none } }
    else s
  | _ => s

/-- The first domain begins to go down: POWER_STATE completes (R115). -/
def State.downBegins (s : State) : State :=
  match s.power.change with
  | some .standby | some .sleep =>
    (s.byTaking.filter (fun h => s.stage h == .started && s.opcode h == 0x1301)).foldl (fun t h => t.doneWith h []) s
  | _ => s

/-- The next domain of the order begins to go down; one in an up step latches the off request and reverses at its checkpoint (R91,
R92, R95). DESIGN CHOICE (log entry 32): where no domain is left to go down, POWER_STATE completes as its state is entered. -/
def State.changeStep (s : State) : State :=
  match s.power.change with
  | some t =>
    if t != .standby && t != .sleep then s
    else match (downOrder t).find? (fun d => !s.restsDown d) with
    | none => s.downBegins.changeEnd
    | some d =>
      match (s.dom d).stage with
      | .ready => ((s.domQuiesce d).beginStep d (.going 1) none).downBegins
      | .up _ => s.setDom d (fun x => { x with latched := some false })
      | _ => s
  | none => s

/-- Domains that IDLE has are requested up again: ANA, AUX and those of the enabled units (R84, R95). -/
def State.requestIdle (s : State) : State :=
  (([Domain.ana, .aux] ++ [Domain.fbk, .net, .twin, .plan].filter (fun d => s.domWanted d))).foldl (fun t d => t.domRequest d true) s

/-- A wake latched on the way down acts at a checkpoint: the domains already down start up again (R95). Where SYS itself has reached its
down checkpoint `k`, the event names that checkpoint (R92). DESIGN CHOICE (log entry 32): its start then begins a new key-on window
although SLEEP was never reached. -/
def State.wakeBack (s : State) (src : Nat) : State :=
  let s := { s with power := { s.power with change := none, wakeLatched := none, wakeRun := some src, wakeGone := 0 } }
  let s := s.requestIdle
  match s.power.sys.stage with
  | .going k =>
    let s := ((s.retSave.planSave).sysClear 6).requestStart
    (s.keyStart.beginStep .sys (.up 1) none).evNames 0x1301 (domNo .sys) (upLast .sys + k)
  | _ => if s.domReady .aux then s.wakeEvent else s

/-- Outputs of a window's low and high threshold at `mv`, from the outputs `lo` and `hi` before: each trips at its own level and returns
at its own return level (Table PWR-10). `l`: low falling and rising, high rising and falling. -/
def windowOut (l : (Nat × Nat) × (Nat × Nat)) (mv : Nat) (lo hi : Bool) : Bool × Bool :=
  (if lo then decide (mv < l.1.2) else decide (mv < l.1.1), if hi then decide (l.2.2 < mv) else decide (l.2.1 < mv))

/-- Thresholds of SW3 in mV (Table PWR-10). -/
def vgdLimits : (Nat × Nat) × (Nat × Nat) := ((9000, 10000), (13000, 12500))

/-- RBS and VBAT are measured, in mV; from AON's Ready on the controller keeps RBCP 10 V above RBS (R100, Table PWR-7). -/
def State.rbSense (s : State) (rbs vbat : Nat) : State :=
  { s with power := { s.power with rbs := rbs, vbat := vbat, rbcp := if s.domReady .aon then rbs + 10000 else s.power.rbcp } }

/-! ### Checkpoints -/

/-- The step of a domain can be over: a frame has passed in a domain other than AON and SYS (R88), and VGD stands at 10.0 V in AUX's
first (Table PWR-7); a PLL locks only while the crystal runs (R21). `vals`: AUX 1 VGD in mV. -/
def State.stepDone (s : State) (d : Domain) (vals : List Int) : Bool :=
  let x := s.dom d
  match d, x.stage with
  | .aon, _ => true
  | .sys, .up _ => true
  | .aux, .up 1 => decide (1 ≤ s.since x.stepAt) && decide (10000 ≤ vals.getD 0 0)
  -- CANCLK and PLLT lock to the crystal
  | .net, .up 2 | .twin, .up 2 => decide (1 ≤ s.since x.stepAt) && s.clock.crystal == .good
  | _, _ => decide (1 ≤ s.since x.stepAt)

/-- Longest duration of up step `k` (Table PWR-7): in µs for AON and SYS, in frames for the others; none where the table gives none. -/
def upMax (d : Domain) (k : Nat) : Option Nat :=
  match d, k with
  | .aon, 1 => some 100
  | .aon, 2 => some 2000
  | .aon, 3 => some 500
  | .sys, 1 => some 1000
  | .sys, 2 => some 11000
  | .sys, 3 => some 3000
  | .sys, 4 => some 60000
  | .ana, 1 => some 4
  | .ana, 2 | .ana, 3 => some 2
  | .aux, 1 => some 100
  | .aux, 2 => some 1
  | .fbk, 1 | .fbk, 2 | .net, 1 | .twin, 1 | .plan, 1 => some 1
  | .net, 2 => some 6
  | .twin, 2 => some 10
  | .plan, 2 => some 20
  | _, _ => none

/-- Work of up checkpoint `k` of a domain. `vals`: AON 1 TSTEN and ROLE with pull-up and pull-down where no reset release has read
them; AON 3 the retention CRC passes; SYS 2 the crystal runs; SYS 3 the SRAM test passes; SYS 4 the logic test passes, banks A and B
pass their check; SYS 5 whole frames since the start began; AUX 3 the pins HBK0 to HBK3 in mV. -/
def State.cpWork (s : State) (d : Domain) (k : Nat) (vals : List Int) : State :=
  let v (i : Nat) : Int := vals.getD i 0
  match d, k with
  | .aon, 1 => if s.pins.strapsRead then s else s.readStraps (v 0 == 1) (v 1 == 1) (v 2 == 1)
  | .aon, 3 =>
    let s := if v 0 == 1 then { s with ret := { s.ret with valid := true } }
      else { s with ret := {}, gate := Quad.all {} }
    if s.pins.testHeld then s.addRecord 0x0001 0 else s
  | .sys, 2 =>
    if v 0 == 1 then { s with clock := { s.clock with crystal := .good, onRc := false, pllm := .locked } }
    else
      let c : ClockSt := { s.clock with crystal := .lost, onRc := true, pllm := .locked, listen := true }
      ({ s with clock := c } : State).raiseFree 0x1401 0 true
  | .sys, 3 => if v 0 == 1 then s else s.bootTestFails 1 0x0911
  | .sys, 4 => if v 0 == 1 then s.firmwareStart (v 1 == 1) (v 2 == 1) else s.bootTestFails 0 0x0910
  | .ana, 2 => [0x20, 0x21].foldl (fun t i => t.updItem i (fun x => { x with age := 0 })) s
  | .ana, 3 => ((List.range 51).map (· + 0x40)).foldl (fun t i => t.updItem i (fun x => { x with age := 0 })) s
  | .aux, 1 =>
    let o := windowOut vgdLimits (v 0).toNat s.power.vgdLow s.power.vgdHigh
    let t := { s with power := { s.power with vgd := (v 0).toNat, vgdLow := o.1, vgdHigh := o.2 } }
    if (s.power.vgdLow || s.power.vgdHigh) && !o.1 && !o.2 then t.causeEnd 0x130A else t
  | .net, 2 => { s with clock := { s.clock with pllc := .locked } }
  | .twin, 2 => { s with clock := { s.clock with pllt := .locked } }
  | .plan, 3 => s.planReset
  | _, _ => s

/-- AUX stands at Ready: the brake pins are read, one value of `vals` each, and the wake is reported. -/
def State.auxUp (s : State) (vals : List Int) : State :=
  let s := axes4.foldl (fun t b => t.updItem (8 + b.val) (fun x => { x with age := 0 })) s
  (axes4.foldl (fun t b => match vals[b.val]? with | some mv => (t.itemService).brakePin b mv.toNat 0 | none => t) s).wakeEvent

/-- A domain stands at Ready. -/
def State.domUp (s : State) (d : Domain) (vals : List Int) : State :=
  match d with
  | .aon => s.rbSense s.power.rbs s.power.vbat
  | .sys => s.sysReady (vals.getD 0 0).toNat
  | .aux => s.auxUp vals
  | .fbk | .net | .twin | .plan =>
    let again := unitsIn (Nat.land s.params.units.toNat (domainUnits d))
    ((again.foldl State.unitStart s).unitsUp (domainUnits d)).unitCmds
  | _ => s

/-- A checkpoint of a domain that is no axis domain (R88, R92). -/
def State.domCheckpoint (s : State) (d : Domain) (vals : List Int) : State :=
  let x := s.dom d
  let keep := if d == .aon then x.latched else none
  match x.stage with
  | .up k =>
    let s := s.cpWork d k vals
    if (s.dom d).stage != .up k then s
    else
    -- a latched wake withdraws the request to go down (R95)
    let back := s.power.wakeLatched.isSome
    let s := match s.power.wakeLatched with | some src => s.wakeBack src | none => s
    if !back && x.latched == some false then
      (((s.domQuiesce d).beginStep d (.going 1) none).evNames 0x1301 (domNo d) k).downBegins
    else if k < upLast d then s.beginStep d (.up (k + 1)) keep
    else (s.beginStep d .ready keep).domUp d vals
  | .going k =>
    match s.power.wakeLatched with
    | some src =>
      let s := if x.latched.isNone then s.setDom d (fun y => { y with latched := some true }) else s
      let s := s.wakeBack src
      if (s.dom d).stage == .going k then (s.domBegins d).evNames 0x1301 (domNo d) (upLast d + k) else s
    | none =>
      if x.latched == some true then (s.domBegins d).evNames 0x1301 (domNo d) (upLast d + k)
      else if k < downLast d then
        let t := s.beginStep d (.going (k + 1)) none
        -- Quiesced: the hoppers are closed
        if d == .sys then { t with intake := { t.intake with starts := 0 } } else t
      else ((s.domOff d).setDom d (fun _ => {})).unitCmds
  | _ => s

/-- CHECKPOINT_REACHED: the step of a domain in progress reaches its checkpoint. -/
def execCheckpointReached (u : SeqUnit) (vals : List Int) (s : State) : Host.Outcome State Fault Refusal :=
  .next (
    match u with
    | .axis n => ((s.axCheckpoint n vals).settleDoms).settle
    | .dom d =>
      let active := match (s.dom d).stage with | .up _ | .going _ => true | _ => false
      if !active || s.pins.inReset || !s.stepDone d vals then s
      else (((s.domCheckpoint d vals).changeStep).settleDoms).settle)

/-- The step of a domain has exceeded its longest duration, `us` µs after it began. -/
def State.stepOverdue (s : State) (d : Domain) (us : Nat) : Bool :=
  match (s.dom d).stage with
  | .up k =>
    (match upMax d k with
     | none => false
     | some m =>
       if d == .aon || d == .sys then decide (m ≤ us)
       else if d == .aux && k == 1 then decide (m + s.power.auxHold ≤ s.since (s.dom d).stepAt)
       else decide (m ≤ s.since (s.dom d).stepAt))
  | _ => false

/-- CHECKPOINT_TIMEOUT (R90, R574; Table PWR-5 step 1). `us`: time since a step of AON or SYS began. -/
def execCheckpointTimeout (u : SeqUnit) (us : Nat) (s : State) : Host.Outcome State Fault Refusal :=
  .next (
    match u with
    | .axis n =>
      if s.seq n == .up 1 && decide (100 ≤ s.since (s.axSt n).stepAt) then (let x := s.fresh; x.2.raiseFail n 0x1301 x.1).settle else s
    | .dom d =>
      if !s.stepOverdue d us || s.pins.inReset then s
      else match d, (s.dom d).stage with
      | .sys, .up _ =>
        if s.svc.trial then s.startFromOff 4
        else if 3 ≤ s.power.sysTries then s.holdSys
        else ({ s with power := { s.power with sysTries := s.power.sysTries + 1 } } : State).startFromOff 4
      | .aon, .up k =>
        (s.setDom .aon (fun x => { x with stage := .failed })).note 0x1305 (Config.nameQual 0x1305 (domNo .aon) k) 0 false
      | _, .up k =>
        let s := (s.domDrop d 0x1305).setDom d (fun _ => { stage := .failed })
        let s := (s.raise 0x1305 (Config.nameQual 0x1305 (domNo d) k) 0 false).unitCmds
        let m := BitVec.ofNat 10 (domainUnits d)
        ({ s with params := { s.params with asked := s.params.asked &&& ~~~ m } } : State).settle
      | _, _ => s)

/-! ### Device power states (Tables PWR-2 and PWR-3) -/

/-- POWER_ON: VBAT, now `vbat` mV, rises above 3.5 V. -/
def execPowerOn (vbat : Nat) (s : State) : Host.Outcome State Fault Refusal :=
  .next (if s.powered || decide (vbat ≤ 3500) then s else
    ({ s with pins := { s.pins with strapsRead := false }, power := { s.power with vbat := vbat } } : State).startFromOff 1)

/-- POWER_OFF: VBAT, now `vbat` mV, falls below 3.0 V; only flash, OTP and the levels outside stay. -/
def execPowerOff (vbat : Nat) (s : State) : Host.Outcome State Fault Refusal :=
  .next (
    if 3000 ≤ vbat then s
    else
    let t := s.sysClear 1
    let v := t.svc
    let svc : SvcSt :=
      { tamperRec := v.tamperRec, bankA := v.bankA, bankB := v.bankB, runB := v.runB, trial := v.trial, rollMin := v.rollMin,
        keys := v.keys, failed := v.failed }
    let pins : PinSt := { inReset := s.pins.inReset, sealPin := s.pins.sealPin, acti := s.pins.acti }
    { t with pins := pins, power := {}, ret := {}, gate := Quad.all {}, clock := {}, twin := {}, svc := svc,
             host := { rstCause := 1 } })

/-- RESET: an accepted RESETN low resets every domain (R71, R84); an open presence window closes (R563). -/
def execReset (s : State) : Host.Outcome State Fault Refusal :=
  .next (
    if s.pins.inReset then s
    else
      let on := s.powered
      let rec_ := if s.svc.window.isSome then some 3 else s.svc.closeRec
      let t := s.sysClear 2
      { t with
        pins := { t.pins with inReset := true, testHeld := false, strapsRead := false, presStuck := false, presLow := false, sealed := none }
        svc := { t.svc with window := none, closeRec := rec_, bootBad := 0, tamperEn := false, presWin := 60 }
        power := { t.power with dev := .off, change := none, sysTries := 0, sysHeld := false, rbg := false, rbcp := 0, wakeRun := none,
                                aon := { stage := .down, latched := if on then some true else none } } })

/-- RESET_RELEASE: RESETN rises; ROLE and TSTEN are read and the start sequence runs as from OFF (R71, R74, R75). -/
def execResetRelease (tsten roleUp roleDown : Bool) (s : State) : Host.Outcome State Fault Refusal :=
  .next (
    if !s.pins.inReset then s
    else
      let s := { s with pins := { s.pins with inReset := false } }
      if s.powered then (s.readStraps tsten roleUp roleDown).startFromOff (if s.host.rstCause = 1 then 1 else 2) else s)

/-- BROWN_OUT: VBAT at `vbat` mV, below 4.5 V, for `us` µs (R110). Table PWR-3 lists it for IDLE, RUN and STANDBY; in a start from
OFF or SLEEP, and with SYS held in reset, it has no effect on the power state (R84). DESIGN CHOICE (log entry 32): no other wake
source stays enabled in the SLEEP that follows. -/
def execBrownOut (vbat us : Nat) (s : State) : Host.Outcome State Fault Refusal :=
  .next (
    let lists := match s.power.dev with | .idle | .run | .standby => true | _ => false
    if !lists || decide (4500 ≤ vbat) || decide (us < 5) then s
    else
      let s := { s with power := { s.power with vbat := vbat } }
      let s := forAxes s (fun n t => if t.axOff n || t.seq n == .failed then t else t.keepIndex n)
      let rec_ := if s.svc.window.isSome then some 4 else s.svc.closeRec
      let ran := s.frame.running || s.power.dev == .standby
      let s := (if ran then s.retSave.planSave else s).addRecord 0x1308 0
      let s := s.sysClear 3
      { s with
        svc := { s.svc with window := none, closeRec := rec_ }
        power := { s.power with dev := .sleep, change := none, brownOut := true, wakeMask := 0, wakeTime := 0, aonCount := 0, timerRan := 0,
                                wakeRun := none } })

/-- A level held for `us` µs has stood for the filter time of parameter `id`, which in SLEEP and STANDBY is rounded up to whole AONCLK
periods of 31.25 µs (R69, R70). -/
def State.filterMet (s : State) (id us : Nat) : Bool :=
  let t := s.aonVal id
  if s.power.dev == .sleep || s.power.dev == .standby then decide (125 * ((4 * t + 124) / 125) ≤ 4 * us) else decide (t ≤ us)

/-- The condition of a wake source is met: it has held for its filter time of `us` µs, the wake timer has run out after `ran` µs, or
VBAT, at `vbat` mV, has been above 5.0 V for 1 ms (R85, Table PWR-4). -/
def State.wakeMet (s : State) (src ran us vbat : Nat) : Bool :=
  match src with
  | 0 => s.filterMet 0x0043 us
  | 1 | 2 | 3 => decide (s.aonVal 0x0056 ≤ us)
  | 4 => s.power.wakeTime != 0 && decide (1000 * s.power.wakeTime ≤ ran)
  | 5 => s.filterMet 0x0042 us
  | 7 => s.svc.tamper
  | 8 => decide (1000 ≤ us) && decide (5000 < vbat)
  | _ => true

/-- A wake source is enabled (R85): 0 to 7 by the wake mask, host select in STANDBY only, VBAT restored after a brown-out. -/
def State.wakeEnabled (s : State) (src : Nat) (target : DevPower) : Bool :=
  if src = 8 then s.power.brownOut && target == .sleep
  else s.power.wakeMask.getLsbD src && !(src == 6 && target == .sleep)

/-- Level that WAKE takes by its filter (R69). -/
def State.wakeLevel (s : State) (src us : Nat) (level : Bool) : State :=
  if src = 0 ∧ s.filterMet 0x0043 us then { s with pins := { s.pins with wake := level } } else s

/-- WAKE_SOURCE: the condition of source `src` has stood for `us` µs, `periods` AONCLK periods after the counters were frozen; `level`
is that of WAKE where it is the source, `vbat` the supply in mV (R69, R84, R85, R87, R95). -/
def execWakeSource (src : Fin 9) (periods us vbat : Nat) (level : Bool) (s : State) : Host.Outcome State Fault Refusal :=
  .next (
    let s := s.wakeLevel src.val us level
    let ran := match s.power.change with
      | some _ => 50 * s.since s.power.timerAt
      | none => 50 * s.power.timerRan + 125 * periods / 4
    if (src == 0 && !level) || !s.wakeMet src.val ran us vbat then s
    else match s.power.change with
    | some t =>
      if (t == .standby || t == .sleep) && s.wakeEnabled src.val t then { s with power := { s.power with wakeLatched := some src.val } } else s
    | none =>
      let gone := framesOf periods
      match s.power.dev with
      | .standby =>
        if !s.wakeEnabled src.val .standby then s
        else
          let s := s.framesGone gone true
          let s := { s with power := { s.power with dev := .idle, wakeRun := some src.val, aonCount := periods }
                            svc := { s.svc with window := s.svc.window.map (fun w => w - gone / 20) } }
          let woken := s.fab.plan.isSome && !s.isRoot
          let s := s.shiftHeard (gone / 20)
          let s := forPorts s (fun p t => if woken && t.netOn p then t.updPort p (fun q => { q with silent := true, sync := .unsynced }) else t)
          let s := { s with fab := { s.fab with woken := woken, interim := woken && src.val != 4 } }
          (s.requestIdle.settleDoms).wakeEvent
      | .sleep =>
        if !s.wakeEnabled src.val .sleep then s
        else
          -- at a SYS start every enable-class filter begins at its inactive level (R71)
          let s := (s.requestStart).keyStart
          { s with pins := { s.pins with wake := false, presLow := false }
                   power := { s.power with wakeRun := some src.val, wakeGone := gone, aonCount := periods, sys := { stage := .up 1 } }
                   host := { s.host with rstCause := if s.power.brownOut then 3 else 6 }
                   svc := { s.svc with window := s.svc.window.map (fun w => w - gone / 20) } }
      | _ => s)

def powerStateSpec : CmdSpec where
  op := 0x1301
  need := 8
  field := fun s h =>
    let t := s.p8 h 0
    if t ≠ 1 ∧ t ≠ 2 then some 16
    else if t = 2 ∧ (s.p8 h 1).testBit 6 then some 17
    else if s.p16 h 2 ≠ 0 then some 18
    else if s.p32 h 4 ≠ 0 ∧ !(s.p8 h 1).testBit 4 then some 20
    else none
  permit := fun s _ => if s.twinDown then some 4 else none
  judge := fun s _ => some (s.cfg, fnd s.power.change.isSome 1 0x1303 0xFF ++ fnd (s.power.dev == .run) 1 0x1304 0xFF)
  start := fun s h =>
    { s with power := { s.power with change := some (if s.p8 h 0 = 1 then .standby else .sleep), wakeMask := BitVec.ofNat 8 (s.p8 h 1),
                                     wakeTime := s.p32 h 4, timerAt := s.frame.counter, wakeLatched := none } }

def execPowerState (h : Fin 32) (s : State) : Host.Outcome State Fault Refusal := .next (takeRow powerStateSpec h s)

/-! ### Supplies (R100 to R111) -/

/-- VM_UNDERVOLTAGE: VM at `vm` mV, below 6.0 V, for `us` µs (R108, Table PWR-8). While SYS is not at Ready, FT-0x1306 follows when
it is. -/
def execVmUndervoltage (vm us : Nat) (s : State) : Host.Outcome State Fault Refusal :=
  .next (
    if s.power.vmUv ∨ 6000 ≤ vm ∨ us < 5 then s
    else
      let s := { s with power := { s.power with vmUv := true, vm := vm } }
      if !s.domReady .sys then s
      else
        let s := (forAxes s (fun n t => t.switchesOff n)).brakesOff
        ((forAxes s (fun n t => t.axSupplyFail n 0x1306)).noteFree 0x1306 0 true).settle)

/-- VM_RESTORED: VM at `vm` mV, above 6.5 V, for `sf` superframes: AUX restarts its VGD step (R109). -/
def execVmRestored (vm sf : Nat) (s : State) : Host.Outcome State Fault Refusal :=
  .next (
    if !s.power.vmUv ∨ vm ≤ 6500 ∨ sf = 0 then s
    else
      let s := { s with power := { s.power with vmUv := false, vm := vm } }
      if !s.domReady .sys then s
      else
        let s := (s.noteEvFree 0x1306).causeEnd 0x1306
        if s.domReady .aux then s.domBegins .aux else s)

/-- Hardware drives the switches of an axis as Table GATE-2 now calls for. -/
def State.forceWant (s : State) (n : Fin 4) : State :=
  axes4.foldl (fun t b => match t.switchWant n b with
    | some (true, false) => t.updBridge n b (fun y => y.lowOn (t.swBlocked n b false) t.frame.tickBase (t.ps n 0x11))
    | some (false, false) => t.updBridge n b (fun y => y.allOff t.frame.tickBase (t.ps n 0x11))
    | _ => t) s

/-- VM_OVERVOLTAGE: CLAMP on every enabled axis; an up sequence goes to Failed (R107 and the edge case of 03). -/
def execVmOvervoltage (vm : Nat) (s : State) : Host.Outcome State Fault Refusal :=
  .next (
    if s.power.vmOv ∨ vm ≤ s.par 0x005A ∨ !s.domReady .sys then s
    else
      let s := { s with power := { s.power with vmOv := true, vm := vm } }
      let s := forAxes s (fun n t => match t.seq n with
        | .up _ | .waiting => t.axFail n 0x1307
        | .ready | .d1 => t.forceWant n
        | _ => t)
      (s.noteFree 0x1307 0 true).settle)

/-- VM_OVERVOLTAGE_RELEASE: VM has stayed at or below `vm` mV for `us` µs, 1 f at least; the clamp is released to the configured
reaction, from the next boundary (R107, R585). -/
def execVmOvervoltageRelease (vm us : Nat) (s : State) : Host.Outcome State Fault Refusal :=
  .next (
    if !s.power.vmOv ∨ s.par 0x005A - s.par 0x0059 ≤ vm ∨ us < 50 then s
    else
      let s := ({ s with power := { s.power with vmOv := false, vm := vm } } : State).causeEnd 0x1307
      { s with faults := { s.faults with active := s.faults.active.map (fun e =>
          if e.code = 0x1307 then { e with acts := s.frame.counter + 1 } else e) } })

/-- BRAKE_CHOPPER_SWITCH: VM at `vm` mV, `off` ticks after the last boundary; BRKG follows SW1 while AUX is at Ready (R104). -/
def execBrakeChopperSwitch (vm off : Nat) (s : State) : Host.Outcome State Fault Refusal :=
  .next (
    let now := s.tickAt off
    if !s.domReady .aux then s
    else if s.par 0x005D = 1 && !s.power.brkg && !s.power.brkLock && decide (s.par 0x0058 < vm) then
      let s := { s with power := { s.power with brkg := true, vm := vm, brkOnAt := now, brkOnVm := vm } }
      if s.frame.brkSeen then s else ({ s with frame := { s.frame with brkSeen := true } } : State).noteEvFree 0x1304
    else if s.power.brkg && decide (vm < s.par 0x0058 - s.par 0x0059) then { s with power := { (s.power.brkgOff now) with vm := vm } }
    else s)

/-- BRAKE_CHOPPER_LIMIT: BRKG has been on for dev.sup.brk_ton_max, or for more than dev.sup.brk_duty_max of the last second, `off`
ticks after the last boundary (R105). -/
def execBrakeChopperLimit (off : Nat) (s : State) : Host.Outcome State Fault Refusal :=
  .next (
    let now := s.tickAt off
    let long := decide (200000 * s.par 0x005B ≤ now - s.power.brkOnAt)
    let much := decide (s.par 0x005C * secondTicks < 100 * s.power.brkOnTime now)
    if s.power.brkg && (long || much) then
      ({ s with power := { (s.power.brkgOff now) with brkLock := true } } : State).noteFree 0x130B 0 false
    else s)

/-- BRAKE_DUMP_INEFFECTIVE: BRKG on for 2 ms, `off` ticks after the last boundary, and VM, at `vm` mV, not 0.5 V lower (R106). -/
def execBrakeDumpIneffective (vm off : Nat) (s : State) : Host.Outcome State Fault Refusal :=
  .next (
    if s.power.brkg && decide (400000 ≤ s.tickAt off - s.power.brkOnAt) && decide (s.power.brkOnVm < vm + 500) then
      ({ s with power := { s.power with vm := vm } } : State).noteFree 0x130E 0 false
    else s)

/-- An axis domain is past step 1 (R111). -/
def State.pastStep1 (s : State) (n : Fin 4) : Bool :=
  match s.seq n with | .up k => decide (2 ≤ k) | .ready | .d1 | .d2 | .d3 => true | _ => false

/-- VGD_OUT_OF_WINDOW: VGD at `mv` mV for `us` µs. While an axis domain is past step 1 a threshold that trips turns every switch off and
raises FT-0x130A; its condition ends when both outputs have returned (R103, R111, Table PWR-8). -/
def execVgdOutOfWindow (mv us : Nat) (s : State) : Host.Outcome State Fault Refusal :=
  .next (
    let o := windowOut vgdLimits mv s.power.vgdLow s.power.vgdHigh
    let bad := s.power.vgdLow || s.power.vgdHigh
    let trips := (o.1 && !s.power.vgdLow) || (o.2 && !s.power.vgdHigh)
    if trips && (decide (us < 5) || !axes4.any (fun n => s.pastStep1 n)) then s
    else
      let s := { s with power := { s.power with vgdLow := o.1, vgdHigh := o.2, vgd := mv } }
      if trips then
        let s := forAxes s (fun n t => t.switchesOff n)
        ((forAxes s (fun n t => t.axSupplyFail n 0x130A)).noteFree 0x130A 0 true).settle
      else if bad && !o.1 && !o.2 then s.causeEnd 0x130A
      else s)

/-- Thresholds of SW2's high side and of SW4 to SW6 in mV: low falling and rising, high rising and falling (Table PWR-10; VCORE of
1.10 V nominal, 20). -/
def supplyLimits (which : Fin 4) : (Nat × Nat) × (Nat × Nat) :=
  match which with
  | 0 => ((0, 0), (64000, 62000))
  | 1 => ((4500, 4700), (5500, 5300))
  | 2 => ((3000, 3100), (3600, 3500))
  | 3 => ((1045, 1067), (1155, 1133))

/-- SUPPLY_WINDOW_FAULT: supply 0 VBAT, 1 VREG5, 2 VREG33 or 3 VCORE has stood at `mv` mV for `us` µs: a threshold that trips raises
its fault, whose condition ends when every output of its supplies has returned (R103, Table PWR-13). -/
def execSupplyWindowFault (which : Fin 4) (mv us : Nat) (s : State) : Host.Outcome State Fault Refusal :=
  .next (
    let m := BitVec.ofNat 4 (2 ^ which.val)
    let lo := s.power.supLow.getLsbD which.val
    let hi := s.power.supHigh.getLsbD which.val
    let o := windowOut (supplyLimits which) mv lo hi
    let code := if which = 0 then 0x1309 else 0x130D
    let s := if which = 0 then { s with power := { s.power with vbat := mv } } else s
    if !s.domReady .sys ∨ us < 5 then s
    else
      let put (b : Bool) (w : BitVec 4) : BitVec 4 := if b then w ||| m else w &&& ~~~ m
      let s := { s with power := { s.power with supLow := put o.1 s.power.supLow, supHigh := put o.2 s.power.supHigh } }
      let left := (s.power.supLow ||| s.power.supHigh) &&& (if which = 0 then 1#4 else 14#4)
      if (o.1 && !lo) || (o.2 && !hi) then s.noteFree code 0 true
      else if (lo || hi) && left = 0 then s.causeEnd code
      else s)

/-- BRKG's lock ends with the clearing of its fault (R105). -/
def State.supplyClear (s : State) : State :=
  let live (c : Nat) : Bool := s.faultActive c || s.faults.raised.any (fun r => r.1 == c)
  { s with power := { s.power with brkLock := s.power.brkLock && live 0x130B } }

/-! ### Reverse-battery controller (R100 to R102) -/

/-- REVERSE_FET_ON: RBS and VBAT in mV as they have stood for `us` µs (R75, R100). -/
def execReverseFetOn (rbs vbat us : Nat) (s : State) : Host.Outcome State Fault Refusal :=
  .next (
    let s := s.rbSense rbs vbat
    if s.domReady .aon && !s.pins.testHeld && decide (4000 ≤ rbs) && decide (vbat + 30 ≤ rbs) && decide (10 ≤ us) then
      { s with power := { s.power with rbg := true } }
    else s)

/-- REVERSE_FET_OFF: VBAT above RBS by more than dev.sup.rb_rev, or RBS below 3.0 V (R101). -/
def execReverseFetOff (rbs vbat : Nat) (s : State) : Host.Outcome State Fault Refusal :=
  .next (
    let s := s.rbSense rbs vbat
    if s.power.rbg && (decide (rbs + s.aonVal 0x005E < vbat) || decide (rbs < 3000)) then
      ({ s with power := { s.power with rbg := false } } : State).noteEvFree 0x1303
    else s)

/-- REVERSE_FET_NOT_ENHANCED: for `sf` superframes RBS has stood more than 300 mV above VBAT, or RBCP below RBS + 7 V (R102). -/
def execReverseFetNotEnhanced (rbs vbat rbcp sf : Nat) (s : State) : Host.Outcome State Fault Refusal :=
  .next (
    if s.power.rbg && s.domReady .sys && decide (1 ≤ sf) && (decide (vbat + 300 < rbs) || decide (rbcp < rbs + 7000)) then
      ({ s with power := { s.power with rbs := rbs, rbcp := rbcp, vbat := vbat } } : State).noteFree 0x130C 0 false
    else s)

end Sys2Proof.Machine
end

