-- ==== Sys2Proof/Machine/Sleep.lean ====
section
/-! DEFINITION. Network sleep: plans, sleep instants, listen windows (16, R498 to R508). -/

namespace Sys2Proof.Machine

/-- NET_SLEEP's reserved values: OP 3 to 255, byte 1. -/
def sleepField (s : State) (h : Nat) : Option Nat :=
  if 2 < s.p8 h 0 then some 16 else if s.p8 h 1 ≠ 0 then some 17 else none

/-- The plan a payload describes, with the sender as ROOT. -/
def sleepPlanOf (s : State) (h : Nat) : SleepPlan :=
  { awake := s.p16 h 2, start := BitVec.ofNat 32 (s.p32 h 4), cycle := s.p32 h 8, guard := s.p16 h 12, count := s.p16 h 14
    root := Config.uid }

/-- Findings of an announcement (R499, Table EDGE-1). -/
def sleepFindings (s : State) (pl : SleepPlan) : List Finding :=
  let ahead := sgn 32 (pl.start - s.frame.superframe).toNat
  let other := decide (pl.awake < 8 ∨ 1000 < pl.awake ∨ pl.guard < 1 ∨ 10000 < pl.guard)
  fnd (!s.isRoot) 1 0x0620 0xFF ++ fnd (decide (ahead < 32)) 1 0x0621 0
    ++ fnd (decide (pl.cycle < pl.awake + 2 * pl.guard + 100 ∨ pl.cycle < 100 ∨ 3600000 < pl.cycle)) 1 0x0621 1 ++ fnd other 1 0x0621 2

def netSleepAnnounceSpec : CmdSpec where
  op := 0x0620
  sub := some 0
  need := 16
  field := sleepField
  judge := fun s h => some (s.cfg, sleepFindings s (sleepPlanOf s h))
  start := fun s h =>
    let pl := sleepPlanOf s h
    let s := { s with fab := { s.fab with plan := some pl, announce := some 0, annTimer := 4 }, ret := { s.ret with plan := some pl } }
    (s.sendSleep 0 pl).doneWith h []

/-- NET_SLEEP op 0 (R499); the root adopts its own plan without EV-0x0622 (log entry 22). -/
def execNetSleepAnnounce (h : Fin 32) (s : State) : Host.Outcome State Fault Refusal := .next (takeRow netSleepAnnounceSpec h s)

def netSleepCancelSpec : CmdSpec where
  op := 0x0620
  sub := some 1
  need := 16
  field := sleepField
  judge := fun s _ => some (s.cfg, fnd (!s.isRoot) 1 0x0620 0xFF)
  start := fun s h => ((s.sendSleep 1 (sleepPlanOf s h)).endPlan).doneWith h []

/-- NET_SLEEP op 1: the plan is cancelled (R499, R501). -/
def execNetSleepCancel (h : Fin 32) (s : State) : Host.Outcome State Fault Refusal := .next (takeRow netSleepCancelSpec h s)

/-- Number of the first wake point after the present superframe (R501). -/
def State.nextWake (s : State) (pl : SleepPlan) : Nat :=
  let d := sgn 32 (s.frame.superframe - pl.start).toNat
  if d < 0 then 1 else d.toNat / pl.cycle + 1

def wakePoint (pl : SleepPlan) (k : Nat) : BitVec 32 := pl.start + BitVec.ofNat 32 (k * pl.cycle)

/-- Wake point `k` belongs to the plan. -/
def SleepPlan.has (pl : SleepPlan) (k : Nat) : Bool := pl.count == 0 || decide (k ≤ pl.count)

def netSleepStatusSpec : CmdSpec where
  op := 0x0620
  sub := some 2
  need := 16
  field := sleepField
  start := fun s h =>
    let (body, next) : List Byte × Nat := match s.fab.plan with
      | none => (List.replicate 16 0, 0)
      | some pl =>
        let k := s.nextWake pl
        ((sleepBody 0 pl).take 16, if pl.has k then (wakePoint pl k).toNat else 0)
    s.doneWith h (body ++ b8 s.fab.m ++ b8 (b01 s.fab.plan.isSome + 2 * b01 s.fab.listening) ++ leS16 (satS 16 s.fab.drift) ++ le32 next)

/-- NET_SLEEP op 2 (result data of 16); 0 as next wake point where none remains (log entry 22). -/
def execNetSleepStatus (h : Fin 32) (s : State) : Host.Outcome State Fault Refusal := .next (takeRow netSleepStatusSpec h s)

/-- SLEEP_RECEIVED (R498, R500, R501). -/
def execSleepReceived (p : Fin 2) (f : AmFrame) (s : State) : Host.Outcome State Fault Refusal :=
  .next (s.rx p f 0xA (fun s =>
    let b := bodyOf f
    let root := BitVec.ofNat 64 (getN b 16 8)
    if s.fab.root ≠ some root then s.updPort p (fun q => { q with discards := inc16 q.discards })
    else if getB b 0 = 1 then s.endPlan
    else if getB b 0 ≠ 0 then s
    else
      let pl : SleepPlan :=
        { awake := get16 b 2, start := BitVec.ofNat 32 (get32 b 4), cycle := get32 b 8, guard := get16 b 12, count := get16 b 14, root := root }
      if s.fab.plan = some pl then s
      else
        (({ s with fab := { s.fab with plan := some pl }, ret := { s.ret with plan := some pl } } : State).planSave).evFree 0x0622))

/-- Depth of the device for its wake points: 0 for the root, the lowest of its ports else (R503; log entry 22). -/
def State.sleepDepth (s : State) : Nat :=
  if s.isRoot then 0
  else match both2.filterMap (fun p => if s.netOn p then (s.ports.get p).depth else none) with
    | [] => 0
    | d :: l => l.foldl min d

/-- The power state of net.slp.state is entered as by POWER_STATE, to wake for the window of wake point `k` (R502, R503). -/
def State.sleepFor (s : State) (pl : SleepPlan) (k : Nat) : State :=
  if s.power.change.isSome then s
  else
    let deep := s.par 0x6043 == 0
    let e := wakePoint pl k + BitVec.ofNat 32 (28 * s.sleepDepth)
    let lead : Int := if deep then 80 else 1
    let ms := sgn 32 (e - s.frame.superframe).toNat - (pl.guard * 2 ^ s.fab.m : Nat) - lead
    let ms := max 1 (ms + ms * s.fab.rate / 1000000000)
    let rx := s.par 0x6044 == 1
    let mask := 17 + 2 * b01 (rx && s.netOn 0) + 4 * b01 (rx && s.netOn 1)
    { s with
      fab := { s.fab with wakeK := k, awakeAt := none,
                          winEnd := s.frame.superframe + BitVec.ofInt 32 (ms + lead + (2 * pl.guard * 2 ^ s.fab.m : Nat)) }
      power := { s.power with change := some (if deep then .sleep else .standby), wakeMask := BitVec.ofNat 8 mask,
                              wakeTime := ms.toNat, timerAt := s.frame.counter, wakeLatched := none } }

/-- At the end of an awake window that began at `w`: neighbours and watches that were not heard in it are lost (R508). -/
def State.windowLosses (s : State) (w : BitVec 32) : State :=
  let before (x : BitVec 32) : Bool := decide (sgn 32 (x - w).toNat < 0)
  let near := s.fab.neighbours.filter (fun n => !n.lost && before n.last)
  let watched := watch16.filterMap (fun i =>
    let x := s.fab.watches.getD i {}
    let addr := s.par (0x6050 + 4 * i)
    if (x.st == .unknown || x.st == .alive) && !s.remote addr && before x.since then some addr else none)
  let mark (n : Neighbour) : Neighbour := if before n.last then { n with lost := true } else n
  let addrs := dedup (near.map (fun n => n.addr) ++ watched)
  let s := { s with fab := { s.fab with neighbours := s.fab.neighbours.map mark } }
  addrs.foldl State.nodeLost s

/-- The present superframe is a sleep instant of the plan: START, the end of an awake window, or that of one counted from a wake
between windows (R501; 16, edge case of a wake by the root's host). -/
def State.instantNow (s : State) (pl : SleepPlan) : Bool :=
  let d := sgn 32 (s.frame.superframe - pl.start).toNat
  let usual := decide (0 ≤ d) && (d == 0 || (decide ((pl.cycle : Int) ≤ d) && d % pl.cycle == pl.awake))
  (match s.fab.awakeAt with
   | some w => (s.frame.superframe - w).toNat == pl.awake
   | none => usual) && s.fab.instAt != some s.frame.superframe

/-- The window that began at `w` ends at a sleep instant: what was not heard in it is lost. -/
def State.instLosses (s : State) (w : Option (BitVec 32)) : State :=
  let s := { s with fab := { s.fab with instAt := some s.frame.superframe, awakeAt := none } }
  match w with | some w => s.windowLosses w | none => s

/-- SLEEP_INSTANT (R501, R502, R508, R560). -/
def execSleepInstant (s : State) : Host.Outcome State Fault Refusal :=
  .next (
    match s.fab.plan with
    | none => s
    | some pl =>
      if !s.frame.running || s.fab.woken || !s.instantNow pl then s
      else
        let k := s.nextWake pl
        let s := s.instLosses (match s.fab.awakeAt with | some w => some w | none => if 1 < k then some (wakePoint pl (k - 1)) else none)
        let deepAt := pl.awake < 28 * s.sleepDepth + 8
        let busy := s.power.dev == .run || s.power.change.isSome
        if !pl.has k then s.endPlan
        else if s.unitOn 8 then
          if busy || deepAt || !(s.twin.lastSent.isSome && s.twin.pFlags.getLsbD 4) then s.ev 0x0625 0 else s.sleepFor pl k
        else if busy then s.ev 0x0625 0
        else if deepAt then s.ev 0x0625 1
        else s.sleepFor pl k)

/-- LISTEN_WINDOW_END: the window has closed in local time (R503, R505). -/
def execListenWindowEnd (s : State) : Host.Outcome State Fault Refusal :=
  .next (
    match s.fab.plan with
    | none => s
    | some pl =>
      if !s.frame.running || !s.fab.woken || s.fab.listening || s.fab.interim ||
          decide (sgn 32 (s.frame.superframe - s.fab.winEnd).toNat < 0) then s
      else
        let s := s.ev 0x0624 s.fab.m
        let m := s.fab.m + 1
        let s := { s with fab := { s.fab with m := m } }
        if pl.cycle ≤ 2 * pl.guard * 2 ^ m then
          ({ s with fab := { s.fab with listening := true } } : State).raiseFree 0x0620 0 true
        else if !pl.has (s.fab.wakeK + 1) then s.endPlan
        else s.sleepFor pl (s.fab.wakeK + 1))

/-- INTERIM_LISTEN_END: A sf after a wake between windows (R505). -/
def execInterimListenEnd (s : State) : Host.Outcome State Fault Refusal :=
  .next (
    match s.fab.plan with
    | none => s
    | some pl => if s.frame.running && s.fab.woken && s.fab.interim && decide (pl.awake ≤ (s.frame.superframe - s.fab.wokeAt).toNat) then s.sleepFor pl s.fab.wakeK else s)

end Sys2Proof.Machine
end

