-- ==== Sys2Proof/Machine/Safe.lean ====
section
/-! DEFINITION. The device state SAFE, the running self-test, and what ends the ACTIVE role (19 R593, R594; 18 R577 to R580; 17). -/

namespace Sys2Proof.Machine

/-! ### Self-test book-keeping (R577 to R579) -/

/-- Status byte of a test: the gate tests of all axes share bit 3. -/
def bistBit (t : Nat) : Nat := if 8 ≤ t then 3 else t

/-- Set the status of test `t`; a failure stands, and a pass does not hide a cancellation. -/
def State.bistMark (s : State) (t v : Nat) : State :=
  let i := bistBit t
  let old := s.svc.bistRes.getD i 0
  let v := if v = 1 ∧ (old = 2 ∨ old = 3) then old else if v = 3 ∧ old = 2 then 2 else v
  { s with svc := { s.svc with bistRes := updAt s.svc.bistRes i (fun _ => v) } }

/-- Result data of BIST_RUN. -/
def State.bistResult (s : State) : List Byte :=
  s.svc.bistRes.flatMap b8 ++ le16 s.svc.bistCode ++ le16 s.svc.bistQual ++ le16 (min 0xFFFF (s.since s.svc.bistAt))

/-- BIST_RUN completes when no test is left (R579): DONE, FAULT with the first failing test's code, or CANCELLED (log entry 26). -/
def State.bistEnd (s : State) : State :=
  match s.svc.bistHop with
  | none => s
  | some h =>
    if !s.svc.bistTodo.isEmpty then s
    else
      let t := { s with svc := { s.svc with bistHop := none } }
      let res := s.bistResult
      if s.svc.bistCode ≠ 0 then t.finish h 6 s.svc.bistCode res
      else if s.svc.bistRes.any (fun v => v == 3) then t.finish h 2 0xFFFF res
      else (t.ev 0x0908 s.svc.bistMask.toNat).doneWith h res

/-- The next test begins. A gate test takes its axis through the sequencer, subject to the staggered start (R96, R578). -/
def State.bistBegin (s : State) : State :=
  let s := { s with svc := { s.svc with bistFrom := s.frame.counter } }
  match s.svc.bistTodo with
  | t :: _ =>
    let n : Fin 4 := Fin.ofNat 4 (t - 8)
    if 8 ≤ t ∧ s.axOff n then
      s.setSeq n (fun a => { a with seq := .waiting, latched := none, failCode := none, stepAt := s.frame.counter, viaD3 := false, bist := 1 })
    else s
  | [] => s

/-- The tests `l` are left: the next one begins, or BIST_RUN completes. `old`: the test that ran. -/
def State.bistGo (s : State) (old : Option Nat) (l : List Nat) : State :=
  let s := { s with svc := { s.svc with bistTodo := l } }
  if old.isSome && l.head? == old then s else s.bistBegin.bistEnd

/-- Tests that end CANCELLED: those that `which` names, running or still to run (R580). -/
def State.bistCancel (s : State) (which : Nat → Bool) : State :=
  let gone := s.svc.bistTodo.filter which
  if s.svc.bistHop.isNone || gone.isEmpty then s
  else
    let t := gone.foldl (fun (t : State) k =>
      let t := t.bistMark k 3
      if 8 ≤ k then t.setSeq (Fin.ofNat 4 (k - 8)) (fun a => { a with bist := 0 }) else t) s
    t.bistGo s.svc.bistTodo.head? (s.svc.bistTodo.filter (fun k => !which k))

/-! ### Leaving ACTIVE (Table TWIN-6, R556, R559) -/

/-- The device leaves ARMING or ACTIVE: ACTO falls, the claim of the pair's index is given up, the ISO port listens only. -/
def State.leaveActive (s : State) (next : TwinRole) : State :=
  let s := s.actoClear
  (s.updTwin (fun t => { t with role := next, askedUp := Quad.all none, ready := false, alone := false, pairClaim := .listen, pairDue := false, pairN := 0,
                                pairHb := false, takeover := none,
                                switch := t.switch.map (fun x => (x.1, some (x.2.getD 0))) })).busModes

/-! ### SAFE (R593) -/

/-- An axis that is not Off takes QUIET and goes down through D2 and D3; its commands complete FAULT with `code`. -/
def State.axSafe (s : State) (n : Fin 4) (code : Nat) : State :=
  match s.seq n with
  | .off | .failed => s
  | q =>
    let moved := s.movedLately n
    let ready := s.axReady n
    let s := (s.switchesOff n).brakeOff n
    let s := (s.dropAxis n 6 code).endUnacted n 6 code
    let s := if ready then s.lostPos n moved else s
    let s := (((s.abandonTest n 0xFFFF).setTest n none).switchesOff n).endReqs n 0x0101 6 code
    let s := s.updCur n (fun x => { x with hold := .off })
    let m := s.faults.safeAx ||| axBits n
    let s := { s with faults := { s.faults with safeAx := m } }
    if q = .waiting then s.axToOff n
    else if q = .d3 then s.setSeq n (fun a => { a with latched := none })
    else s.setSeq n (fun a => { a with seq := .d2, latched := none, stepAt := s.frame.counter, brakeAt := none, calEnd := none, recal := false })

/-- The device enters SAFE (R593, R537; Table TWIN-6). -/
def State.enterSafe (s : State) (code : Nat) : State :=
  if s.faults.device then { s with faults := { s.faults with safeDue := none } }
  else
    let s := { s with faults := { s.faults with device := true, cause := code, safeDue := none } }
    let s := ((forAxes s (fun n t => t.switchesOff n)).brakesOff).bistCancel (fun k => decide (8 ≤ k))
    let s := if s.unitOn 8 then s.leaveActive .off else s
    (forAxes s (fun n t => t.axSafe n code)).ev 0x0021 code

/-- Hardware's reaction of R25 and R31: every switch off and held off (row 2 of Table GATE-2), HBK0 to HBK3 and ACTO off. -/
def State.hardOff (s : State) : State :=
  ((forAxes s (fun n t => (t.switchesOff n).updGate n (fun g => { g with hwOff := true }))).brakesOff).actoClear

end Sys2Proof.Machine
end

