-- ==== Sys2Proof/Machine/Clock.lean ====
section
/-! DEFINITION. Clocks: lockstep, crystal, PLLs, LF trim, SYNC, standstill recalibration (01, R18 to R37; 02, R76). -/

namespace Sys2Proof.Machine

/-- SYS is powered and its clock tree runs, so that its monitors watch. -/
def State.sysAwake (s : State) : Bool :=
  (match s.power.sys.stage with | .up k => decide (3 ≤ k) | .ready | .going _ => true | _ => false) &&
  s.power.dev != .standby && !s.pins.inReset

/-- LOCKSTEP_MISMATCH (R31): the hardware reaction at once, FT-0x1202 and SAFE in the next frame. -/
def execLockstepMismatch (s : State) : Host.Outcome State Fault Refusal :=
  .next (
    if !s.sysAwake then s
    else
      let s := (s.hardOff).noteFree 0x1202 0 false
      { s with faults := { s.faults with safeDue := some 0x1202 } })

/-! ### Crystal (R19 to R24) -/

/-- PLLC and PLLT stop; a settling window is abandoned, and holds what it held (01, edge case). The qualification counts anew. -/
def State.crystalOff (s : State) : State :=
  let old := match s.clock.settle with | some d => some d | none => s.clock.abandoned
  { s with clock := { s.clock with crystal := .lost, onRc := true, pllm := .locked, pllc := .stopped, pllt := .stopped,
                                   settle := none, abandoned := old, retryAt := none, restored := none, qual := 0,
                                   lostAt := s.frame.counter } }

/-- CRYSTAL_LOSS (R19 to R21): PLLM moves to the RC at once; the rest follows FT-0x1401 at the next boundary. -/
def execCrystalLoss (s : State) : Host.Outcome State Fault Refusal :=
  .next (
    if !s.sysAwake then s
    else if s.clock.crystal == .good then (s.crystalOff).noteFree 0x1401 0 true
    else { s with clock := { s.clock with crystal := .lost, qual := 0, lostAt := s.frame.counter } })

/-- R21: the CAN ports listen only and the twin link is DOWN. -/
def State.linksLost (s : State) : State :=
  let s := ({ s with clock := { s.clock with listen := true } } : State).busModes
  if s.twin.link == .up then (s.ev 0x0805 0).updTwin (fun t => { t with link := .down })
  else s.updTwin (fun t => { t with link := .down })

/-- R21: HALT of every enabled axis, QUIET of one in pin mode (R589); its commands complete FAULT with `code`. -/
def State.haltEnabled (s : State) (code : Nat) : State :=
  forAxes s (fun n t =>
    if !t.axReady n then t
    else if t.pinMode n then t.switchesOff n
    else
    let t := t.abandonTest n 0xFFFF
    match (t.motion.get n).state with
    | .halted | .halting => t
    | _ =>
      let x := t.nowXva n
      ((((t.leaveRun n 0xFFFF).endCmd n 6 code).endStop n 6 code).endUnacted n 6 code).haltRamp n x)

/-- R21 at the boundary that raises FT-0x1401. -/
def State.crystalLost (s : State) (code : Nat) : State :=
  let s := s.linksLost
  let act := s.faults.active.map (fun e => if e.code = 0x1401 then { e with acts := s.frame.counter } else e)
  ({ s with faults := { s.faults with active := act } } : State).haltEnabled code

/-- Every axis is at rest in the sense of R23. -/
def State.allAtRest (s : State) : Bool :=
  axes4.all (fun n => s.axOff n || s.seq n == .failed || s.pinMode n ||
    (match (s.motion.get n).state with | .idle | .halted => true | _ => false))

/-- Superframes in a row, up to the present boundary, in which the crystal stayed within 0.1 % since its count restarted (R23).
`devs`: largest deviation of each of the last superframes in parts per million, the newest first. -/
def State.bandRun (s : State) (devs : List Nat) : Nat :=
  min (devs.takeWhile (fun d => decide (d ≤ 1000))).length (s.since s.clock.lostAt / 20)

/-- The restore declaration: the clock-return sequence starts (Table ARCH-4). -/
def State.declareRestore (s : State) : State :=
  let seek (on : Bool) : Pll := if on then .seeking else .stopped
  let c : ClockSt :=
    { s.clock with crystal := .good, onRc := false, qual := 0, pllm := .seeking, pllc := seek (s.domReady .net)
                   pllt := seek (s.domReady .twin), settle := some s.frame.counter, restored := some s.frame.counter
                   abandoned := none, retryAt := none }
  ({ s with clock := c } : State).evFree 0x1401

/-- CRYSTAL_RESTORE: a boundary at which the crystal has been measured since its loss. Qualified for dev.clk.xtal_qual superframes,
and every axis at rest, the restore is declared; a failed sequence is retried likewise (R23, R24). -/
def execCrystalRestore (devs : List Nat) (s : State) : Host.Outcome State Fault Refusal :=
  .next (
    let waits := match s.clock.retryAt with | some f => decide (0 < s.ahead f) | none => false
    if !s.frame.running || s.clock.crystal == .good || !s.clock.onRc || waits then s
    else
      let run := s.bandRun devs
      let ok := decide (s.par 0x0031 ≤ run)
      let s := { s with clock := { s.clock with crystal := if ok then .qualified else .lost, qual := run } }
      if ok && s.allAtRest then s.declareRestore else s)

/-- The ports leave listen-only: PLLC has locked after a restore. -/
def State.busBack (s : State) : State := ({ s with clock := { s.clock with listen := false } } : State).busModes

/-- CLOCK_SETTLING_END: PLLM and PLLC are locked; the commands that the window held start in the order of R37 by
WAITING_COMMAND_START. A window that overruns its 6 f ends with the lock all the same, up to the 10 f of R24 (01, edge case of a
calibration that ends late). -/
def execClockSettlingEnd (s : State) : Host.Outcome State Fault Refusal :=
  .next (
    match s.clock.settle with
    | none => s
    | some d =>
      if !s.frame.running || decide (10 < s.since d) then s
      else
        let lock (p : Pll) : Pll := if p == .seeking then .locked else p
        let c : ClockSt := { s.clock with settle := none, pllm := .locked, pllc := lock s.clock.pllc
                                          restored := if s.clock.pllt == .seeking then s.clock.restored else none }
        let s := (({ s with clock := c } : State).busBack).evFree 0x1402
        -- the PTX of the first beacon after settling is not valid (R497)
        let s := forPorts s (fun p t => t.updPort p (fun q => { q with ptx := none }))
        (((s.condEnd 0x1401).condEnd 0x1402).condEnd 0x1403).settle)

/-! ### PLLs (R24, R25) -/

def State.pll (s : State) (p : Fin 3) : Pll :=
  match p with | 0 => s.clock.pllm | 1 => s.clock.pllc | 2 => s.clock.pllt

def pllFault (p : Fin 3) : Nat := 0x1402 + p.val

/-- PLL_LOCK_TIMEOUT: PLL `p` is not locked 10 f after the declaration (R24). Every PLL that is not raises its fault; the device
keeps the state of R21, which is taken again where the window had ended, and the sequence is retried (log entry 25). -/
def execPllLockTimeout (p : Fin 3) (s : State) : Host.Outcome State Fault Refusal :=
  .next (
    match s.clock.restored with
    | none => s
    | some d =>
      if !s.frame.running || s.pll p != .seeking || decide (s.since d < 10) then s
      else
        let again := s.frame.counter + BitVec.ofNat 32 (20 * s.par 0x0031)
        let bad := [0, 1, 2].filter (fun q => s.pll q == .seeking)
        let s := ((s.crystalOff).linksLost).haltEnabled (pllFault p)
        let s := bad.foldl (fun t q => t.raiseFree (pllFault q) 0 true) s
        { s with clock := { s.clock with retryAt := some again } })

/-- PLL_LOCK_LOSS (R25). -/
def execPllLockLoss (p : Fin 3) (s : State) : Host.Outcome State Fault Refusal :=
  .next (
    if !s.sysAwake || s.pll p != .locked then s
    else match p with
    | 0 =>
      let s := s.hardOff
      let c : ClockSt := { s.clock with pllm := .seeking, halted := true }
      let s := { s with clock := c, frame := { s.frame with running := false }, intake := { s.intake with starts := 0 } }
      let x := s.fresh
      let s := (x.2.raiseAs (some 1) 0x1402 x.1 0 false).markLock 0x1402
      s.enterSafe 0x1402
    | 1 =>
      if s.clock.crystal != .good then s
      else
        let s := { s with clock := { s.clock with pllc := .seeking } }
        let s := forPorts s (fun q t => t.updPort q (fun x => if x.sync == .synced then { x with sync := .holdover } else x))
        s.noteFree 0x1403 0 true
    | 2 =>
      if s.clock.crystal != .good then s
      else
        let s := { s with clock := { s.clock with pllt := .seeking } }
        let s := if s.twin.link == .up then s.ev 0x0805 0 else s
        (s.updTwin (fun t => { t with link := .down })).noteFree 0x1404 0 true)

/-- PLL_RELOCK (R25; Table ARCH-4 for PLLT after a restore): the PLL has been locked for `held` µs, `us` µs after the loss. PLLM
returns after 100 µs of lock, `periods` AONCLK periods after the loss, which give the whole frames that the counters advance by; it
stays lost when it did not relock within 10 ms. PLLC returns after 1 f of lock. -/
def execPllRelock (p : Fin 3) (us held periods : Nat) (s : State) : Host.Outcome State Fault Refusal :=
  .next (
    match p with
    | 0 =>
      if !s.clock.halted || s.clock.dead then s
      else if 10000 < us - held then { s with clock := { s.clock with dead := true } }
      else if held < 100 then s
      else
        (({ s with clock := { s.clock with pllm := .locked, halted := false } } : State).framesGone (framesOf periods)) (s.domReady .sys)
    | 1 =>
      if s.clock.pllc != .seeking || s.clock.settle.isSome || s.clock.crystal != .good || decide (held < 50) then s
      else
        let s := (({ s with clock := { s.clock with pllc := .locked } } : State).busModes).causeEnd 0x1403
        if s.isoOn then s.isoAgain else s
    | 2 =>
      if s.clock.pllt != .seeking || s.clock.crystal != .good then s
      else
        let back := if s.clock.settle.isNone then none else s.clock.restored
        let s := ({ s with clock := { s.clock with pllt := .locked, restored := back } } : State).causeEnd 0x1404
        if s.unitOn 8 && s.twin.link == .down then s.updTwin (fun t => { t with link := .training }) else s)

/-- LF_TRIM: `dev` is the deviation from 32 kHz in 0.1 % (R18, FT-0x1405). -/
def execLfTrim (dev : Int) (s : State) : Host.Outcome State Fault Refusal :=
  .next (
    if !s.frame.running || s.clock.crystal != .good then s
    else
      let s := { s with clock := { s.clock with lfDev := dev } }
      if 150 < dev.natAbs then s.noteFree 0x1405 0 true else s.causeEnd 0x1405)

/-! ### SYNC and the frame reference (R26, R76) -/

/-- Trim that an edge of SYNC, `phase` cycles after the nearest boundary, calls for: toward the edge, by at least a cycle and at most the
distance, and by all of `top` where the edge is that far away (R26; log entry 25). -/
def syncTrim (top : Nat) (phase : Int) : Int :=
  let d := phase.natAbs
  let m := if d = 0 then 0 else if top ≤ d then top else 1 + Config.syncGain phase % d
  if phase < 0 then -(m : Int) else m

/-- SYNC_EDGE: an edge of SYNC `off` ticks after the last boundary, to level `high`. A rising edge of the frame input is accepted,
and sets the trim that it calls for, or rejected (R26, R76). -/
def execSyncEdge (off : Nat) (high : Bool) (s : State) : Host.Outcome State Fault Refusal :=
  .next (
    if !s.frame.running then s
    else
    let s := { s with pins := { s.pins with sync := high } }
    if s.par 0x0010 != 2 || !high then s
    else
      let now := s.tickAt off
      let near := match s.frame.syncLast with | some t => decide (now < t + 9000) | none => false
      if near then
        let s := s.bumpReject 192
        if s.frame.syncRej then s
        else (({ s with frame := { s.frame with syncRej := true } } : State).evFree 0x0003)
      else
        let phase : Int := if off ≤ 5000 then off else (off : Int) - 10000
        { s with frame := { s.frame with syncLast := some now, syncLost := false, syncTrim := syncTrim (s.par 0x0012) phase } })

/-- SYNC_REFERENCE_LOSS: no edge for 1 sf, `off` ticks after the last boundary (01, edge case). -/
def execSyncReferenceLoss (off : Nat) (s : State) : Host.Outcome State Fault Refusal :=
  .next (
    let quiet := match s.frame.syncLast with | some t => decide (t + 200000 ≤ s.tickAt off) | none => true
    if !s.frame.running || s.par 0x0010 != 2 || s.frame.syncLost || !quiet then s
    else ({ s with frame := { s.frame with syncLost := true, trim := 0, syncTrim := 0 } } : State).evFree 0x1202)

/-- FRAME_TRIM_LIMIT: the trim has been held at dev.frame.trim_max for 20 frames; once for each time it is held. -/
def execFrameTrimLimit (s : State) : Host.Outcome State Fault Refusal :=
  .next (
    if s.frame.running && s.frame.trimHeld == 20 then
      ({ s with frame := { s.frame with trimHeld := 21 } } : State).evFree 0x1201
    else s)

/-! ### Standstill recalibration (R33, R34) -/

/-- A command of axis `n` is present in a hopper without having started. -/
def State.unstarted (s : State) (n : Fin 4) : Bool :=
  hops32.any (fun h =>
    (s.stage h == .rung || s.stage h == .registered || (s.stage h).waiting) &&
    (if s.isMotion h then s.motionMask h else s.axmask h).testBit n.val)

/-- A motion command of the axis has started and is still to act. -/
def State.toAct (s : State) (n : Fin 4) : Bool :=
  hops32.any (fun h => s.stage h == .started && s.isMotion h && (s.motionMask h).testBit n.val)

/-- STANDSTILL_RECAL_START: the recalibration takes the frame that begins here and the next; every switch is off and the amplitude 0
(R33, R34, R271, Table CUR-4; log entry 26). -/
def execStandstillRecalStart (n : Fin 4) (s : State) : Host.Outcome State Fault Refusal :=
  .next (
    let m := s.motion.get n
    let a := s.axSt n
    if s.frame.running && s.axReady n && a.calEnd.isNone && m.still && decide (s.par 0x0022 ≤ m.stillF) && s.par 0x0021 != 0 &&
        decide (20000 * s.par 0x0021 ≤ s.since a.calLast) && !s.unstarted n && !s.toAct n &&
        !(s.ax n 0x16 == 0 && s.ax n 0x1C == 0) then
      ((s.setSeq n (fun a => { a with calEnd := some (s.frame.counter + 2), recal := true })).takeAmp n 0).enterHold n .recal
    else s)

/-- CALIBRATION_END: the window of axis `n` ends at the next boundary; the commands it held are released for the starts of this
frame (R37). They start, in the order of R156, by WAITING_COMMAND_START. -/
def execCalibrationEnd (n : Fin 4) (s : State) : Host.Outcome State Fault Refusal :=
  .next (
    match (s.axSt n).calEnd with
    | some e => if s.ahead e ≤ 1 then s.settle else s
    | none => s)

end Sys2Proof.Machine
end

