-- ==== Sys2Proof/Machine/Pins.lean ====
section
/-! DEFINITION. SEAL, PRES, the presence window, the tamper loop, and the end of a brake's release wait (02, R72, R73; 18, R562 to
R568; 11, R358). -/

namespace Sys2Proof.Machine

/-- AON watches its pins: it has power and no reset stands. -/
def State.aonWatches (s : State) : Bool := s.powered && !s.pins.inReset

/-- An event that AON hands to Fequel: raised now while frames run, else in the first frame to come. -/
def State.aonEv (s : State) (code qual : Nat) : State := if s.frame.running then s.ev code qual else s.noteEv code qual
def State.aonEvFree (s : State) (code : Nat) : State := let x := s.fresh; x.2.aonEv code (x.1 % 65536)

/-- SEAL_CHANGE: a new filtered level (R72). -/
def execSealChange (high : Bool) (s : State) : Host.Outcome State Fault Refusal :=
  .next (
    let changed := s.pins.sealPin != high
    let s := { s with pins := { s.pins with sealPin := high } }
    if changed && s.pins.sealed.isSome && s.aonWatches then s.aonEvFree 0x0001 else s)

/-- Length of a presence window in superframes; svc.pres_win as AON holds it while SYS is down (R563). -/
def State.presLength (s : State) : Nat := 1000 * (if s.domReady .sys then s.par 0x9000 else s.svc.presWin)

/-- PRES_PRESS: PRES becomes filtered low (R563, R73). -/
def execPresPress (s : State) : Host.Outcome State Fault Refusal :=
  .next (
    if !s.aonWatches || s.pins.presLow then s
    else
      let s := { s with pins := { s.pins with presLow := true } }
      if s.pins.presStuck then s
      else
        let again := s.svc.window.isSome
        let n := s.presLength
        ({ s with svc := { s.svc with window := some n, winLen := n } } : State).aonEv 0x0901 (b01 again))

/-- PRES_STUCK: PRES has been low for `sec` seconds (R73); an open window runs on. -/
def execPresStuck (sec : Nat) (s : State) : Host.Outcome State Fault Refusal :=
  .next (
    if s.aonWatches && s.pins.presLow && !s.pins.presStuck && decide (s.aonVal 0x0044 ≤ sec) then
      ({ s with pins := { s.pins with presStuck := true } } : State).aonEvFree 0x0002
    else s)

/-- PRES_RELEASED: PRES has been high for its filter time (R73). -/
def execPresReleased (s : State) : Host.Outcome State Fault Refusal :=
  .next (if s.aonWatches then { s with pins := { s.pins with presLow := false, presStuck := false } } else s)

/-- The presence window closes: EV-0x0902 with its cause (R563). -/
def State.closeWindow (s : State) (cause : Nat) : State :=
  if s.svc.window.isNone then s else ({ s with svc := { s.svc with window := none } } : State).aonEv 0x0902 cause

/-- PRESENCE_WINDOW_EXPIRY: AONCLK has counted `ms` since the press that opened or restarted the window (R563). -/
def execPresenceWindowExpiry (ms : Nat) (s : State) : Host.Outcome State Fault Refusal :=
  .next (if s.aonWatches && decide (s.svc.winLen ≤ ms) then s.closeWindow 0 else s)

/-- The tamper loop is checked (R566). -/
def State.loopWatched (s : State) : Bool :=
  s.aonWatches && (if s.domReady .sys then s.par 0x9001 == 1 else s.svc.tamperEn)

/-- The loop is broken: TMPB misses the pulse of TMPA on two consecutive pulses, or is high on two consecutive checks between
pulses (R77). -/
def loopBroken (pulse gap : Bool × Bool) : Bool := (!pulse.1 && !pulse.2) || (gap.1 && gap.2)

/-- TAMPER_LOOP_BROKEN: the last two samples of TMPB in the middle of a pulse and midway between pulses, the older first. When they
show a broken loop the latch sets, unless it is set (R77, R567). -/
def execTamperLoopBroken (pulse gap : Bool × Bool) (s : State) : Host.Outcome State Fault Refusal :=
  .next (
    if !s.loopWatched || !loopBroken pulse gap then s
    else
      let s := { s with svc := { s.svc with loopOk := 0 } }
      if s.svc.tamper then s
      else
        let at_ := if s.frame.running then s.frame.superframe else s.ret.sframes
        let n := min 0xFFFF (s.svc.tamperN + 1)
        let v := { s.svc with tamper := true, debug := false, tamperAt := at_, tamperN := n, tamperDue := some n }
        let s := ({ s with svc := v } : State).closeWindow 2
        -- while SYS is down, FT-0x0901 follows from the latch when SYS reaches Ready
        if s.domReady .sys then s.noteFree 0x0901 0 true else s)

/-- BRAKE_RELEASE_WAIT_END: mon.brkb.rel_t after the turn-on the waiting motion command acts from the next boundary, its start
frame; a command that waits for several brakes acts with the last (R358, R147, R162). -/
def execBrakeReleaseWaitEnd (b : Fin 4) (s : State) : Host.Outcome State Fault Refusal :=
  .next (
    let x := s.mon.brakes.get b
    match x.waiter with
    | none => s
    | some h =>
      if !s.frame.running || decide (1 < s.ahead x.onAt + (20 * s.par (0x4023 + 8 * b.val) : Nat)) then s
      else
        let s := s.updBrake b (fun y => { y with waiter := none })
        if s.stage h != .started || s.mon.brakes.toList.any (fun y => y.waiter == some h) then s
        else (s.setHop h (fun y => { y with start := some (s.frame.counter + 1) })).lateStart h)

/-! ### Levels and pulls of the pins (R55, R60 to R64, Table PIN-4) -/

/-- What a pin shows: a driven level, a serial signal of its controller, TMPA's pulses, a pull alone, the passive 150 kΩ to its return
that holds a gate output without supply, or nothing. -/
inductive PinDrive where
  | low | high | bus | pulses | pullDown | pullUp | passive | open
deriving DecidableEq, Repr

/-- Pin groups of Tables PIN-2 and PIN-4. Axis signals are numbered as in Table PIN-3: STEP, DIR, AXEN, FA, FB, FZ, FX, AUX. CAN ports:
NET1, NET2, ISO. -/
inductive Pin where
  | gateHigh (n b : Fin 4) | gateLow (n b : Fin 4) | brkg | rbg | hbk (b : Fin 4)
  | canTx (p : Fin 3) | canStb (p : Fin 3) | acto | twinTx | rdy | io | attn | faultn
  | axis (n : Fin 4) (k : Fin 8) | ssck | sscs (j : Fin 4) | ssdo | divo (d : Fin 2) | sync
  | seal | pres | resetn | wake | tsten | tmpa | tmpb | debug
deriving DecidableEq, Repr

def driveOf (b : Bool) : PinDrive := if b then .high else .low

/-- Pull of a feedback pin: fbn.pull while its unit is enabled, its pull-down otherwise (R60, R362). -/
def State.fbPull (s : State) (n : Fin 4) (k : Nat) : PinDrive :=
  if !s.unitOn n.val || !s.domReady .fbk then .pullDown
  else match s.fbp n 1 / 4 ^ k % 4 with | 0 => .pullDown | 1 => .pullUp | _ => .open

/-- An axis signal pin: in pin mode, and where nothing drives it, a pull-down; FA to FX by the feedback configuration; AUXn driven
in serial mode (R59, R60). The mode is the one that the last write gave. -/
def State.axisPin (s : State) (n : Fin 4) (k : Fin 8) : PinDrive :=
  if s.pinModeV n || !s.domReady .sys || k.val < 3 then .pullDown
  else if k.val < 7 then s.fbPull n (k.val - 3)
  else if s.domReady .fbk && !(s.paired n && s.twinStandby) then driveOf (s.pins.aux.get n)
  else .pullDown

/-- The port's unit is enabled and its domain stands at Ready. -/
def State.canUp (s : State) (p : Fin 3) : Bool := s.domReady .net && s.unitOn (5 + p.val)

def State.canListens (s : State) (p : Fin 3) : Bool :=
  match p with
  | 0 => (s.ports.get 0).listenOnly || (s.ports.get 0).busOff
  | 1 => (s.ports.get 1).listenOnly || (s.ports.get 1).busOff
  | 2 => s.iso.listenOnly || s.iso.busOff

/-- What a pin shows (R55, R61, R64, Table PIN-4). A pin whose domain is without power, or not yet configured, shows its reset state;
without supply a gate output is held by its passive resistor and every other pin shows nothing. DESIGN CHOICE (log entry 32): the
manual gives SYNC's pull-down for the reset state; once SYS is configured the model shows a SYNC that is no output as open. -/
def State.pinShows (s : State) (x : Pin) : PinDrive :=
  let spOn := s.unitOn 4 && s.domReady .fbk
  if !s.powered then (match x with | .gateHigh _ _ | .gateLow _ _ | .brkg | .rbg => .passive | _ => .open)
  else match x with
  | .gateHigh n b => driveOf (s.bridge n b).hi.turning
  | .gateLow n b => driveOf (s.bridge n b).lo.turning
  | .brkg => driveOf s.power.brkg
  | .rbg => driveOf s.power.rbg
  | .hbk b => if s.brakeIsOn b then .low else .open
  | .canTx p => if s.canUp p && s.clock.pllc == .locked && !s.canListens p then .bus else .high
  | .canStb p => driveOf (!s.canUp p)
  | .acto => driveOf s.twin.acto
  | .twinTx => if s.unitOn 8 && s.clock.pllt == .locked then .bus else .open
  | .rdy => driveOf s.rdy
  | .io => if s.rdy then .bus else .open
  | .attn => if s.sysPins && s.attn then .low else .open
  | .faultn => if s.faultLow then .low else .open
  | .axis n k => s.axisPin n k
  | .ssck => if spOn then .bus else .pullUp
  | .sscs _ => if spOn then .bus else .pullUp
  | .ssdo => if spOn then .bus else .pullDown
  | .divo d => if spOn && !s.twinStandby then driveOf (s.pins.divo.get d) else .pullDown
  | .sync => if s.sysPins && s.frame.running && s.par 0x0011 != 0 then .pulses else if s.sysPins then .open else .pullDown
  | .seal | .pres | .resetn => .pullUp
  | .wake | .tsten => .pullDown
  | .tmpa => if s.loopWatched then .pulses else .low
  | .tmpb => .pullDown
  | .debug => if s.sysPins && s.svc.debug then .open else .pullDown

end Sys2Proof.Machine
end

