-- ==== Sys2Proof/Machine/Mirror.lean ====
section
/-! DEFINITION. Records of the twin link: their assembly and the shadow engines they load (17, R530 to R534, R542, R545). -/

namespace Sys2Proof.Machine

def motOfCode (c : Nat) : MotState :=
  ([MotState.idle, .pos, .vel, .stepf, .speedf, .haul, .stopping, .halting, .halted].getD c .idle)

def posOfCode (c : Nat) : PosState :=
  if c = 1 then .referenced else if c = 2 then .retained else .unreferenced

def learnOfCode (c : Nat) : LearnState := if c = 1 then .check else if c = 2 then .learned else .learning

/-- The role of the device in the pair is ROLE-B (R525). -/
def State.roleB (s : State) : Bool := s.pins.role == .b

/-- The device is the primary (twin.prim). -/
def State.primary (s : State) : Bool := s.roleB == (s.par 0x8002 == 1)

/-! ### Assembly (R530, R532, R533) -/

/-- The device could take the next sleep instant, apart from its partner (R502, R560). -/
def State.sleepOk (s : State) : Bool :=
  match s.fab.plan with
  | none => false
  | some pl => s.power.dev != .run && s.power.change.isNone && decide (28 * s.sleepDepth + 8 ≤ pl.awake)

/-- Record header (Table TWIN-1). TXOFF, at most 1,600 cycles, is a free value. -/
def State.twinHead (s : State) (ty len : Nat) (hand : Bool) : List Byte × State :=
  let x := s.fresh
  let f := b01 s.roleB + 2 * b01 s.twin.acto + 4 * b01 s.twin.gperm + 8 * b01 s.twin.ready + 16 * b01 s.sleepOk + 32 * b01 hand
    + 64 * b01 s.faults.device
  (b8 ty ++ b8 1 ++ le16 len ++ le32 s.fr ++ le16 (x.1 % 1601) ++ b8 f ++ b8 (s.par 0x8000) ++ le32 s.twin.fpOwn.toNat, x.2)

/-- The first motion command of axis `n` that was taken in this frame and acts from the next boundary (R533). -/
def State.pendingOf (s : State) (n : Fin 4) : Option Nat :=
  s.byTaking.find? (fun h => s.stage h == .started && (s.isMotion h || isStopOp (s.opcode h)) && (s.axmask h).testBit n.val &&
    (s.hop h).start == some (s.frame.counter + 1))

/-- Bytes 65 to 95 of an axis block: the pending command where there is one, else the running one (log entry 27). -/
def State.mirrorCmd (s : State) (n : Fin 4) : List Byte :=
  let m := s.motion.get n
  let pend := s.pendingOf n
  let run := match m.stopCmd with | some h => some h | none => m.cmd
  match (match pend with | some h => some h | none => run) with
  | none => List.replicate 31 0
  | some h =>
    let x := s.hop h
    let src := if srcOf h = 3 then (match x.adopted with | some 0 => 1 | _ => 4) else srcOf h + 1
    let addr := match srcOf h with | 1 => x.srcAddr | 2 => 0xFF00 + x.srcAddr | _ => 0
    b8 (src + 8 * b01 pend.isSome) ++ le16 (s.seqNo h) ++ le16 (s.opcode h) ++ le16 addr ++ b8 (if srcOf h = 1 then x.tag else 0) ++ [0]
      ++ (match pend with
          | some h => le16 (s.opcode h) ++ (List.range 20).map (fun i => BitVec.ofNat 8 (s.p8 h i))
          | none => List.replicate 22 0)

/-- An axis block (Table TWIN-2). -/
def State.mirrorBlock (s : State) (n : Fin 4) : List Byte :=
  if !s.paired n then List.replicate 96 0
  else
    let m := s.motion.get n
    let c := s.cur.get n
    let w := s.wedge.get n
    let ch := s.channels.get n
    let bound := s.fbp n 5 == 1
    let mode := match c.hold with | .hold | .haltHold => 1 | .quiet => 2 | .clamp => 3 | _ => 0
    let first := match m.profile with | some p => p.phases.head? | none => none
    let origin : BitVec 32 := match m.profile with
      | some p => s.frame.counter - BitVec.ofNat 32 ((s.frame.tickBase - p.t0 + frameTicks / 2) / frameTicks)
      | none => s.frame.counter
    let p0 : Int := match m.profile with | some p => Rat.floor p.x0 | none => m.pAt
    let v0 : Rat := match first with | some f => f.v0 | none => m.vEnd
    let a0 : Rat := match first with | some f => f.a0 | none => 0
    let mv (r : Rat) : Int := satS 16 (Rat.floor (r * 1000 + 1 / 2))
    let brake := match s.brakeOf n with | some b => (s.mon.brakes.get b).on | none => false
    b8 ((s.seq n).code + 16 * (s.motState n).code)
      ++ b8 (m.posState.code + 4 * b01 m.retained + 8 * b01 m.still + 16 * b01 c.voltage + 32 * mode + 128)
      ++ le16 ((m.elec : Int) + (m.pAt - m.p) |>.emod 1024 |>.toNat) ++ leS32 m.pAt ++ le32 origin.toNat ++ leS32 p0
      ++ leS32 (velField v0) ++ leS32 (satS 32 (Rat.floor a0)) ++ leS32 (if m.state = .vel then velField m.vt else m.target)
      ++ le32 m.capV ++ le32 m.capAcc ++ le32 m.capDec ++ le32 m.capJ
      ++ leS32 (if m.state = .speedf then (s.follow.get n).ratio else 0) ++ le16 c.iamp ++ leS16 (mv c.coilA.ux) ++ leS16 (mv c.coilB.ux)
      ++ b8 (w.learn.code + 4 * min 63 w.learnN) ++ b8 (min 15 w.cntAngle + 16 * min 15 w.cntColl) ++ le16 w.ke ++ le16 w.iw
      ++ leS32 (if bound then ch.count else 0) ++ b8 ((if bound then ch.spd.code + 4 * b01 ch.ref else 0) + 8 * b01 brake)
      ++ s.mirrorCmd n

/-- λ of the run as a fraction of 2³¹, and its haul time in all (Table TWIN-3). -/
def State.segTicks (s : State) (rd : Road) (i : Nat) : Rat :=
  ((edgePhases rd.limits (s.par 0x5009 == 1) (rd.points.getD i []) (rd.points.getD (i + 1) [])).map phasesTime).foldl max 0 * tickHz

def runCode : RunStage → Nat
  | .startCheck => 0
  | .running => 1
  | .heldUser => 2
  | .heldMap => 3
  | .stopping => 4

def State.mirrorRun (s : State) : List Byte :=
  let tail (v : Nat) : List Byte := le32 s.plan.version.toNat ++ le32 s.plan.rmVer.toNat ++ le32 v
  match s.plan.run with
  | none => List.replicate 16 0 ++ tail 0
  | some r =>
    let rd := s.plan.roads.get (Fin.ofNat 4 r.slot)
    let before : Rat := match rd with | some rd => ((List.range r.seg).map (s.segTicks rd)).foldl (· + ·) 0 | none => 0
    -- a run whose start boundary is not yet set has not begun; before that boundary no haul time has passed
    let begun := match (s.hop r.hop).start with | some f => decide (s.ahead f ≤ 0) | none => false
    b8 (if (s.hop r.hop).start.isNone then 0 else runCode r.stage) ++ b8 r.slot ++ b8 r.seg ++ b8 0
      ++ le32 (r.lam * 2 ^ 31 / max 1 s.lamTop) ++ leBytes 8 (Rat.floor (before + (if begun then r.haul else 0))).toNat ++ tail (match rd with | some rd => roadHash rd | none => 0)

/-- A sequence entry as Table TWIN-3 names its address. -/
def seqEntry (e : Option SeqState) : List Byte :=
  match e with
  | some x => le16 (if x.iso then 0xFF00 + x.addr else x.addr) ++ le16 x.seq.toNat
  | none => le16 0xFFFF ++ le16 0

/-- The record of the frame that ends (R530): a mirror record in ARMING and ACTIVE, else a status record. -/
def State.twinSend (s : State) : State :=
  if !s.unitOn 8 || s.twin.link != .up then s.updTwin (fun t => { t with sent := [] })
  else if s.twin.role == .active || s.twin.role == .arming then
    let hand := match s.twin.switch with
      | some (h, none) => decide (1 ≤ s.since (s.hop h).taken)
      | _ => false
    let (head, s) := s.twinHead 0x4D 448 hand
    let recent := sortBy (fun (a b : SeqState) => decide (0 < sgn 32 (a.last - b.last).toNat)) s.intake.virtSeq
    let body := head ++ axes4.flatMap s.mirrorBlock ++ le32 s.ftsum ++ le16 s.intake.intSeq.toNat ++ [0, 0]
      ++ seqEntry recent[0]? ++ seqEntry recent[1]? ++ s.mirrorRun
    s.updTwin (fun t => { t with sent := body ++ le32 (crc32 body) })
  else
    let (head, s) := s.twinHead 0x53 32 false
    let ready := maskOf (axes4.map (fun n => s.paired n && s.axReady n))
    let body := head ++ le32 s.ftsum ++ le16 (min 0xFFFF s.twin.mirrors) ++ b8 (b01 (s.twin.fpOwn == s.twin.fpOther) + 16 * ready) ++ [0]
      ++ le32 s.plan.version.toNat
    s.updTwin (fun t => { t with sent := body ++ le32 (crc32 body) })

/-! ### Shadow (R542) -/

/-- What is left of a list of phases after time `t`, and the position then; past the end, `vend` is held. -/
def cutPhases (l : List Phase) (x0 vend t : Rat) : List Phase × Rat :=
  match l with
  | [] => ([], x0 + vend * t)
  | p :: r =>
    if p.dur ≤ t then cutPhases r (x0 + p.xAt p.dur) vend (t - p.dur)
    else ({ dur := p.dur - t, v0 := p.vAt t, a0 := p.aAt t, j := p.j } :: r, x0 + p.xAt t)

/-- Motion of a shadow axis: state, target, held velocity, captured limits, phases from its time 0 and the position there. -/
structure Shadow where
  state  : MotState
  target : Int
  vt     : Rat
  capV   : Nat
  capA   : Nat
  capD   : Nat
  capJ   : Nat
  phases : List Phase
  x0     : Rat
deriving DecidableEq, Repr

def Shadow.held (w : Shadow) : Rat := match w.state with | .vel | .speedf => w.vt | _ => 0

/-- The shadow `t` seconds later. -/
def Shadow.after (w : Shadow) (t : Rat) : Shadow :=
  let r := cutPhases w.phases w.x0 w.held t
  { w with phases := r.1, x0 := r.2 }

/-- The profile in force of a block, from its origin frame; in HAUL, from the beginning of the segment in haul time. -/
def State.blockShadow (_s : State) (b : List Byte) : Shadow :=
  let st := motOfCode (getB b 0 / 16)
  let p0 : Rat := ((sgn 32 (get32 b 12) : Int) : Rat)
  let v0 : Rat := mkRat (sgn 32 (get32 b 16)) 256
  let a0 : Rat := ((sgn 32 (get32 b 20) : Int) : Rat)
  let tgt := sgn 32 (get32 b 24)
  let V := get32 b 28; let A := get32 b 32; let D := get32 b 36; let J := get32 b 40
  let vt : Rat := match st with | .vel => mkRat tgt 256 | .speedf => v0 | _ => 0
  let here : Rat := ((sgn 32 (get32 b 4) : Int) : Rat)
  let l : List Phase := match st with
    | .pos => planTo p0 v0 a0 tgt (rawV V) A D J
    | .vel => velRamp v0 a0 vt A D J
    | .stopping | .halting => stopPhases v0 a0 D J
    | .haul => phasesOf ⟨V, A, D, J⟩ (sgn 32 (get32 b 12)) tgt
    | _ => []
  let moving := match st with | .pos | .vel | .speedf | .stopping | .halting | .haul => true | _ => false
  { state := st, target := tgt, vt := vt, capV := V, capA := A, capD := D, capJ := J, phases := l, x0 := if moving then p0 else here }

/-- The pending command of a block acts on a shadow (R542; R214, R216, R217, R220, R227). -/
def State.pendShadow (s : State) (n : Fin 4) (w : Shadow) (op : Nat) (pl : List Byte) : Shadow :=
  let v0 : Rat := match w.phases with | p :: _ => p.v0 | [] => w.held
  let a0 : Rat := match w.phases with | p :: _ => p.a0 | [] => 0
  let J := s.ax n 0x44
  let A := s.orPar n (get32 pl 8) 0x42
  let D := s.orPar n (get32 pl 12) 0x43
  match op with
  | 0x0103 | 0x0104 =>
    let base : Int := if op = 0x0103 then 0 else if w.state = .pos then w.target else Rat.floor w.x0
    let tgt := base + sgn 32 (get32 pl 0)
    let V := s.orPar n (get32 pl 4) 0x41
    { w with state := .pos, target := tgt, vt := 0, capV := V, capA := A, capD := D, capJ := J,
             phases := planTo w.x0 v0 a0 tgt (rawV V) A D J }
  | 0x0105 =>
    let vt := mkRat (sgn 32 (get32 pl 0)) 256
    let A := s.orPar n (get32 pl 4) 0x42
    let D := s.orPar n (get32 pl 8) 0x43
    { w with state := .vel, vt := vt, capV := 0, capA := A, capD := D, capJ := J, phases := velRamp v0 a0 vt A D J }
  | 0x0106 =>
    let D := s.orPar n (get32 pl 0) 0x43
    if v0 = 0 ∧ a0 = 0 then { w with state := .idle, vt := 0, phases := [] }
    else { w with state := .stopping, vt := 0, capD := D, capJ := J, phases := stopPhases v0 a0 D J }
  | 0x0107 =>
    let D := s.ax n 0x45
    if v0 = 0 then { w with state := .halted, vt := 0, phases := [] }
    else { w with state := .halting, vt := 0, capD := D, capJ := 0, phases := stopPhases v0 0 D 0 }
  | 0x0220 =>
    -- the velocity is that of the device's own source (R551)
    let f := s.follow.get n
    let vt := mkRat f.targetV 256
    let A := s.orPar n (get32 pl 12) 0x42
    let D := s.orPar n (get32 pl 16) 0x43
    { w with state := .speedf, vt := vt, capV := 0, capA := A, capD := D, capJ := J, phases := velRamp v0 a0 vt A D J }
  | _ => w

/-! ### The partner's run (R542, R549) -/

/-- Haul time of a record within its segment: the time since the run began, less that of the segments before, where the device's own
road and map are those of the record; else the tick at which a recorded axis reaches its recorded position (log entry 27). -/
def State.recHaul (s : State) (r : List Byte) : Rat :=
  let slot : Fin 4 := Fin.ofNat 4 (getB r 417)
  let byPos : Nat := (axes4.map (fun n =>
    let b := (r.drop (16 + 96 * n.val)).take 96
    if motOfCode (getB b 0 / 16) = .haul ∧ (getB b 1).testBit 7 then
      let p0 := sgn 32 (get32 b 12)
      let d := sgn 32 (get32 b 24) - p0
      tickOf (phasesOf ⟨get32 b 28, get32 b 32, get32 b 36, get32 b 40⟩ p0 (p0 + d)) d (sgn 32 (get32 b 4) - p0)
    else 0)).foldl max 0
  match s.plan.roads.get slot with
  | some rd =>
    if roadHash rd = get32 r 440 then
      ((getN r 424 8 : Nat) : Rat) - ((List.range (getB r 418)).map (s.segTicks rd)).foldl (· + ·) 0
    else (byPos : Nat)
  | none => (byPos : Nat)

/-- The run of a record `frames` boundaries after the one it describes; none where it records none (Table TWIN-3). -/
def State.recRun (s : State) (r : List Byte) (frames : Int) : Option Run :=
  let st := getB r 416
  if st = 0 then none
  else
    let top := s.lamTop
    let stage : RunStage := if st = 1 then .running else if st = 2 then .heldUser else if st = 3 then .heldMap else .stopping
    -- a PLAN_RUN that is still pending acts one boundary later
    let pend := axes4.any (fun n => let b := r.drop (16 + 96 * n.val); (getB b 65).testBit 3 && get16 b 68 == 0x0505)
    let x : Run := { hop := 0, slot := getB r 417, stage := stage, seg := getB r 418, segEnd := none, lam := get32 r 420 * top / 2 ^ 31,
                     up := none, haul := s.recHaul r, userHold := st == 2, segLate := false, heldAt := s.frame.counter, heldSeg := getB r 418,
                     heldHaul := 0, heldRest := false, status := if st = 4 then 2 else 0, late := 0, waits := [], stopSeq := 0xFFFF }
    some ((x.ramp top).advance top (10000 * (frames - b01 pend)).toNat)

/-- Boundaries from the one that record `r` describes to the present one (R534). -/
def State.recAge (s : State) (r : List Byte) (d : BitVec 32) : Int := sgn 32 (s.frame.counter - (BitVec.ofNat 32 (get32 r 4) + d)).toNat

/-- The partner's run as record `r` gives it at the present boundary. -/
def State.loadRun (s : State) (r : List Byte) (d : BitVec 32) : State :=
  { s with twin := { s.twin with run := s.recRun r (s.recAge r d) } }

/-- A pending FOLLOW_SPEED tells the shadow its source; its state and value are the device's own (R551). `gone`: boundaries since it
acts. -/
def State.followShadow (s : State) (n : Fin 4) (pl : List Byte) (gone : Nat) : State :=
  let src := getB pl 0
  let inst := getB pl 1
  let useDir := (getB pl 2).testBit 0
  let r1 := sgn 32 (get32 pl 4)
  let old := s.follow.get n
  let same := (s.motion.get n).state == .speedf && old.st != .none && old.src == src && old.inst == inst
  let ramp := if same then get16 pl 8 else 0
  let now := match s.folNow src inst useDir with
    | some (r, age) => if age < s.folLimit n then some (r, age) else none
    | none => none
  let f : FollowSt := if same then { old with useDir := useDir }
    else match now with
      | some (r, age) => { st := .following, src := src, inst := inst, useDir := useDir, lastR := r, ageF := age }
      | none => { st := .wait, src := src, inst := inst, useDir := useDir }
  let f : FollowSt := { f with r0 := if 0 < ramp then old.ratio else r1, r1 := r1, ramp := ramp, rampJ := 0 }
  let v := match f.st with | .following => (s.folTarget n src (f.ratioAt gone) f.lastR).1 | _ => 0
  s.updFollow n (fun _ => { f with targetV := v, rampJ := min ramp gone, ratio := f.ratioAt gone, target := none, leave := false })

/-- Frames as seconds. -/
def frameSec (f : Int) : Rat := (f : Rat) / 20000

/-- Standstill mode of byte 1 of a block: 0 none, 1 HOLD, 2 QUIET, 3 CLAMP; an axis that is not driven yet keeps its own. -/
def holdOfCode (c : Nat) (halted : Bool) (own : HoldState) : HoldState :=
  if own = .off then .off
  else match c with
    | 1 => if halted then .haltHold else .hold
    | 2 => .quiet
    | 3 => .clamp
    | _ => match own with | .hold | .haltHold | .quiet | .clamp => .moving | h => h

/-- Axis `n`'s block of a record. -/
def blockOf (r : List Byte) (n : Fin 4) : List Byte := (r.drop (16 + 96 * n.val)).take 96

/-- The block holds a motion command that has not acted. -/
def blockPends (b : List Byte) : Bool :=
  let op := get16 b 74
  (getB b 65).testBit 3 && (op == 0x0103 || op == 0x0104 || op == 0x0105 || op == 0x0106 || op == 0x0107 || op == 0x0220)

/-- Motion of axis `n` at the present boundary, by record `r`, whose numbering differs by `d` (R545, R547). -/
def State.blockNow (s : State) (r : List Byte) (d : BitVec 32) (n : Fin 4) : Shadow :=
  let b := blockOf r n
  let op := get16 b 74
  let acts := BitVec.ofNat 32 (get32 r 4) + d + 1
  let origin := BitVec.ofNat 32 (get32 b 8) + d
  let gone := frameSec (sgn 32 (s.frame.counter - acts).toNat)
  let w := s.blockShadow b
  -- the state of a HAUL axis at the boundary that record k + 1 would describe, on the haul clock
  let haulHere (u : Run) : Shadow :=
    let x := runPhases w.phases w.x0 0 (u.haul / tickHz)
    let l := u.lamAt s.lamTop 0
    { w with x0 := x.1, phases := [{ dur := 0, v0 := l.1 * x.2.1, a0 := l.1 * l.1 * x.2.2.1 + l.2 * x.2.1, j := 0 }] }
  match w.state, blockPends b with
  | .haul, true =>
    (match s.recRun r 1 with
     | some u => (s.pendShadow n (haulHere u) op (b.drop 76)).after gone
     | none => w)
  | .haul, false => w
  | _, true => (s.pendShadow n (w.after (frameSec (sgn 32 (acts - origin).toNat))) op (b.drop 76)).after gone
  | _, false => w.after (frameSec (sgn 32 (s.frame.counter - origin).toNat))

/-- Axis `n` takes the position, the current and the Wedge values of its block, and the motion `w` at the present boundary (R542,
R545). -/
def State.putBlock (s : State) (r : List Byte) (d : BitVec 32) (n : Fin 4) (w : Shadow) : State :=
  let b := blockOf r n
  let f1 := getB b 1
  let here := if w.state = .haul then
      (match s.recRun r (s.recAge r d) with
       | some u => runPhases w.phases w.x0 0 (u.haul / tickHz)
       | none => (w.x0, 0, 0, true))
    else (w.x0, (match w.phases with | p :: _ => p.v0 | [] => w.held), 0, false)
  let v : Rat := here.2.1
  let rest := w.phases.isEmpty && decide (w.held = 0) && w.state != .haul
  let p : Int := if rest then (if w.state = .pos then w.target else Rat.floor w.x0)
    else if w.state = .haul ∧ here.2.2.2 then w.target
    else if 0 ≤ v then Rat.floor here.1 else Rat.ceil here.1
  let blkP := sgn 32 (get32 b 4)
  let prof : Option Profile := if rest then none else some { t0 := s.frame.tickBase, x0 := w.x0, phases := w.phases }
  let still := f1.testBit 3
  let s := s.updMotion n (fun m =>
    { m with state := w.state, p := p, pAt := p, eloff := (((get16 b 2 : Int) - blkP).emod 1024).toNat,
             posState := posOfCode (f1 % 4), retained := f1.testBit 2, kept := true, profile := prof, vt := w.vt, target := w.target,
             vel := v, ledge := none, takeover := none, capV := w.capV, capAcc := w.capA, capDec := w.capD, capJ := w.capJ,
             still := still })
  let volt (o : Nat) : Rat := mkRat (sgn 16 (get16 b o)) 1000
  let s := s.updCur n (fun c =>
    { c with iamp := get16 b 48, voltage := f1.testBit 4, hold := holdOfCode (f1 / 32 % 4) (w.state == .halted) c.hold, coilA := { c.coilA with ux := volt 50 }, coilB := { c.coilB with ux := volt 52 } })
  let lr := learnOfCode (getB b 54 % 4)
  s.updWedge n (fun g =>
    { g with learn := lr, learnN := getB b 54 / 4, learnFrom := getB b 54 / 4, learnSum := 0, finger := s.wedgePrint n, cntAngle := getB b 55 % 16, cntColl := getB b 55 / 16, ke := get16 b 56
             iw := get16 b 58, source := 3, toRet := decide (lr = .learned) })

/-- The brake of axis `n` as its block has it. -/
def State.blockBrake (s : State) (n : Fin 4) (b : List Byte) : State :=
  match s.brakeOf n with
  | some k => s.updBrake k (fun x => if (getB b 64).testBit 3 then (if x.on then x else { x with on := true, onAt := s.frame.counter })
      else { x with on := false, economy := false, waiter := none })
  | none => s

/-- Load axis `n` of record `r`, whose numbering differs by `d`, at the present boundary (R542, R545, R547). -/
def State.loadBlock (s : State) (r : List Byte) (d : BitVec 32) (n : Fin 4) : State :=
  let b := blockOf r n
  if !s.paired n || !(getB b 1).testBit 7 then s
  else
    let gone := sgn 32 (s.frame.counter - (BitVec.ofNat 32 (get32 r 4) + d + 1)).toNat
    let s := if blockPends b && get16 b 74 == 0x0220 then s.followShadow n (b.drop 76) gone.toNat else s
    let w := s.blockNow r d n
    let s := s.putBlock r d n w
    let s := if w.state = .speedf && !blockPends b then s.updFollow n (fun x => { x with ratio := sgn 32 (get32 b 44) }) else s
    s.blockBrake n b

/-- The record being processed takes effect at the present boundary; the one that arrived in the frame that ends is processed
next (R542). -/
def State.shadowStep (s : State) : State :=
  let t := s.twin
  let s := if t.role == .standby && !t.recWork.isEmpty then
      axes4.foldl (fun u n => u.loadBlock t.recWork t.recD.2.1 n) (s.loadRun t.recWork t.recD.2.1)
    else s
  s.updTwin (fun t => { t with recWork := t.recNew, recNew := [], recD := (t.recD.1, t.recD.1, t.recD.2.2) })

/-- The partner's sequencer of axis `n` in a record: AXSTATn.SEQ. -/
def recSeq (r : List Byte) (n : Fin 4) : Nat := getB r (16 + 96 * n.val) % 16

/-- A STANDBY brings its paired axes up and down with the partner's: once at the first record that shows an axis past step 1, once at
the first that shows it Off; a command that finds no free hopper is issued at a later boundary (R543). -/
def State.followSeq (s : State) : State :=
  let r := s.twin.recWork
  if s.twin.role != .standby || r.isEmpty then s
  else axes4.foldl (fun (t : State) n =>
    let busy := [28, 29, 30, 31].any (fun h => t.stage h != .free && (t.axmask h).testBit n.val)
    if !t.paired n || busy || !(getB r (17 + 96 * n.val)).testBit 7 then t
    else
      let q := recSeq r n
      let want := if 2 ≤ q ∧ q ≤ 6 then some true else if q = 0 then some false else none
      let put (u : State) : State := { u with twin := { u.twin with askedUp := u.twin.askedUp.set n want } }
      if want.isNone || t.twin.askedUp.get n == want then t
      else if t.axOff n == (want == some false) then put t
      else match t.issueInternal (if want = some true then 0x0101 else 0x0102) (2 ^ n.val) [] with
        | some u => put u
        | none => t) s

end Sys2Proof.Machine
end

