-- ==== Sys2Proof/Machine/Twin.lean ====
section
/-! DEFINITION. Twin pairs: link, records, interlock, roles, takeover, TWIN_STATUS and TWIN_SWITCH (17). -/

namespace Sys2Proof.Machine

/-- Paired axes as a mask. -/
def State.pairedBits (s : State) : BitVec 4 := BitVec.ofNat 4 (s.par 0x8000 % 16)

/-- Raise a fault of the pair once: a standing one is not raised again. -/
def State.twinFault (s : State) (code : Nat) : State :=
  if s.faultActive code || s.faults.raised.any (fun r => r.1 == code) then s else s.noteFree code s.pairedBits true

/-! ### Link (R528, R529) -/

/-- TWIN_LINK_UP: training has completed after `idles` idle ordered sets in a row without a code violation; `delay` in ns and the
partner's UID are its results. -/
def execTwinLinkUp (delay : Nat) (uid : BitVec 64) (idles : Nat) (s : State) : Host.Outcome State Fault Refusal :=
  .next (
    if idles < 1000 || !s.unitOn 8 || s.clock.pllt != .locked || s.twin.link == .up then s
    else
      (s.updTwin (fun t => { t with link := .up, delay := delay, pUid := uid, mirrorSeen := false, lastSent := none, accepted := 0,
                                    mirrors := 0, quiet := 0, fpOther := 0 })).ev 0x0805 1)

/-- TWIN_LINK_DOWN: `viol` code violations within the last superframe, or no symbol for `ns`; the link trains again while PLLT is
locked. -/
def execTwinLinkDown (viol ns : Nat) (s : State) : Host.Outcome State Fault Refusal :=
  .next (
    if s.twin.link != .up || !(decide (8 ≤ viol) || decide (2000 ≤ ns)) then s
    else
      let l : TwinLink := if s.clock.pllt == .locked then .training else .down
      (s.updTwin (fun t => { t with link := l, accepted := 0, mirrors := 0 })).ev 0x0805 0)

/-! ### Records (R531, R534, R535, R541) -/

/-- A record fails a test of R531. `off`: start delimiter in ticks after the own boundary; `clean`: both delimiters and no code
violation. -/
def State.recordBad (s : State) (r : List Byte) (off : Nat) (clean : Bool) (ty len : Nat) : Bool :=
  let old := match s.twin.lastSent with
    | some l => !decide (0 < sgn 32 (BitVec.ofNat 32 (get32 r 4) - l).toNat)
    | none => false
  !clean || getB r 0 != ty || getB r 1 != 1 || r.length != len || get16 r 2 != len || crc32 (r.take (len - 4)) != get32 r (len - 4)
    || old || decide (9400 < off + 16 * (len + 2))

/-- A rejected record: EV-0x0808 for the first in each superframe. -/
def State.rejectRecord (s : State) : State :=
  let seen := s.twin.rejSeen
  let s := s.updTwin (fun t => { t with rejected := inc16 t.rejected, rejSeen := true, accepted := 0, mirrors := 0 })
  if seen then s else s.evFree 0x0808

/-- The frame reference of a device that is not ACTIVE: the first record realigns index and superframe counter, which no field of
the record gives (free values), later ones give the offset in ns (R28, R535; log entry 27). -/
def State.alignTo (s : State) (r : List Byte) (off : Nat) : State :=
  let ns : Int := 5 * ((off : Int) - get16 r 8) - s.twin.delay
  let s1 := s.updTwin (fun t => { t with align := ns, aligns := (ns :: t.aligns).take 8 })
  if s.twin.lastSent.isSome then s1
  else
    let x := s1.fresh
    let y := x.2.fresh
    let s2 := y.2
    { s2 with frame := { s2.frame with realign := some (BitVec.ofNat 32 x.1, y.1 % 20) } }

/-- An accepted record. -/
def State.takeRecord (s : State) (r : List Byte) (off : Nat) (mirror : Bool) : State :=
  let fr := BitVec.ofNat 32 (get32 r 4)
  let d := s.frame.counter - fr
  let gap := s.twin.lastSent != some (fr - 1)
  let s := if s.twin.role != .active && (mirror || s.roleB) then s.alignTo r off else s
  let rdy := if mirror then maskOf (axes4.map (fun n => (getB r 11).testBit n.val && recSeq r n == 6)) else getB r 22 / 16
  let s := s.updTwin (fun t =>
    { t with accepted := inc16 t.accepted, mirrors := if mirror then (if gap then 1 else inc16 t.mirrors) else 0,
             mirrorSeen := t.mirrorSeen || mirror, lastFrame := s.frame.counter, lastSent := some fr, d := d,
             fpOther := BitVec.ofNat 32 (get32 r 12), pFlags := BitVec.ofNat 8 (getB r 10), pAxes := BitVec.ofNat 8 (getB r 11),
             pReady := rdy, pStatus := !mirror, noStat := if mirror then t.noStat else 0, quiet := 0, quietSf := 0,
             recNew := if mirror then r else t.recNew, recLast := if mirror then r else t.recLast,
             recD := if mirror then (d, t.recD.2.1, d) else t.recD })
  let s := if (getB r 10).testBit 0 == s.roleB then s.twinFault 0x0806 else s.causeEnd 0x0806
  let s := if s.twin.fpOther != s.twin.fpOwn then s.twinFault 0x0804 else s.causeEnd 0x0804
  let s := s.causeEnd 0x0803
  if mirror then s else s.causeEnd 0x0801

def State.recordIn (s : State) (r : List Byte) (off : Nat) (clean : Bool) (mirror : Bool) : State :=
  if !s.unitOn 8 || s.twin.link != .up then s
  else if s.recordBad r off clean (if mirror then 0x4D else 0x53) (if mirror then 448 else 32) then s.rejectRecord
  else s.takeRecord r off mirror

/-- MIRROR_RECORD (R531, R542). -/
def execMirrorRecord (r : List (BitVec 8)) (off : Nat) (clean : Bool) (s : State) : Host.Outcome State Fault Refusal :=
  .next (s.recordIn r off clean true)

/-- STATUS_RECORD (R531, R540). -/
def execStatusRecord (r : List (BitVec 8)) (off : Nat) (clean : Bool) (s : State) : Host.Outcome State Fault Refusal :=
  .next (s.recordIn r off clean false)

/-! ### Interlock (R536 to R538) -/

/-- ACTI_FALL: filtered ACTI goes low. -/
def execActiFall (s : State) : Host.Outcome State Fault Refusal :=
  .next (
    if !s.pins.acti then s
    else
      -- on a STANDBY device the fall is judged at the next boundary (R546, R550)
      (({ s with pins := { s.pins with acti := false } } : State).updTwin (fun t =>
        { t with quietSf := 0, fell := t.fell || t.role == .standby })).causeEnd 0x0802)

/-- ACTI_RISE: with ACTO high, ROLE-B drops at once; each device raises FT-0x0802 at its next boundary. -/
def execActiRise (s : State) : Host.Outcome State Fault Refusal :=
  .next (
    if s.pins.acti then s
    else
      let s := ({ s with pins := { s.pins with acti := true } } : State).updTwin (fun t => { t with quietSf := 0, fell := false })
      if !s.unitOn 8 || !s.twin.acto then s
      else
        let s := s.twinFault 0x0802
        if s.roleB then ((s.leaveActive .standby).noteEv 0x0802 2).causeEnd 0x0802 else s)

/-- The device arms: ACTO is set (Table TWIN-6; only while ACTI is low, R537). At a start-up or alone the ISO port claims again. -/
def State.arm (s : State) (cause : Nat) : State :=
  if s.pins.acti then s
  else
    let s := (s.updTwin (fun t => { t with role := .arming, acto := true, cause := cause, alone := cause == 3, ready := false })).busModes
    if decide (2 ≤ cause) && s.isoOn then s.isoClaimAt (s.par 0x7001) else s

/-- GPERM_SET: ACTI has been low for `us`, at least 100 µs, with ACTO high; ARMING becomes ACTIVE and claims the pair's index (R536, R556). -/
def execGpermSet (us : Nat) (s : State) : Host.Outcome State Fault Refusal :=
  .next (
    if us < 100 || !s.unitOn 8 || !s.twin.acto || s.pins.acti || s.twin.gperm then s
    else
      let s := s.updTwin (fun t => { t with gperm := true })
      if s.twin.role != .arming then s
      else
        let c := s.twin.cause
        let s := s.updTwin (fun t =>
          { t with role := .active, pairClaim := if s.pairAddr.isSome then .claiming else .listen, pairDue := s.pairAddr.isSome
                   pairN := 0, pairChunk := 0 })
        -- the 2 f without a status record count from here
        (((s.updTwin (fun t => { t with noStat := 0 })).busModes).causeEnd 0x0803).ev 0x0801 c)

/-! ### Loss of the partner (Table TWIN-6) -/

/-- TWIN_PARTNER_TIMEOUT: no record accepted for 2 f, on an ACTIVE device no status record, or the link is DOWN. -/
def execTwinPartnerTimeout (s : State) : Host.Outcome State Fault Refusal :=
  .next (
    let down := s.twin.link != .up
    let late := down || decide (2 ≤ s.twin.quiet)
    if !s.unitOn 8 || !s.frame.running then s
    else match s.twin.role with
    | .active => if s.faultActive 0x0801 || !(down || decide (2 ≤ s.twin.noStat)) then s else s.raiseFree 0x0801 s.pairedBits true
    | .standby =>
      if !late || !s.pins.acti || s.faultActive 0x0803 then s else s.raise 0x0803 (b01 (!down)) s.pairedBits true
    | _ => s)

/-- TWIN_ALONE_WAIT_EXPIRY: no record and ACTI low for twin.alone_wait, twice that on the secondary. -/
def execTwinAloneWaitExpiry (s : State) : Host.Outcome State Fault Refusal :=
  .next (
    let w := s.par 0x8003 * (if s.primary then 1 else 2)
    if s.unitOn 8 && s.frame.running && s.twin.role == .standby && w != 0 && !s.pins.acti && !s.faults.device &&
        s.twin.switch.isNone && decide (w ≤ s.twin.quietSf) then s.arm 3
    else s)

/-! ### Takeover (R546 to R550, R559) -/

/-- Put the command that a block names into a free virtual hopper of its kind of source, as started (R548). -/
def State.adoptHop (s : State) (n : Fin 4) (b : List Byte) : Option (Nat × State) :=
  let c := getB b 65
  let src := c % 8
  let addr := get16 b 70
  let free := match src with
    | 2 => s.virtualFree 16 8
    | 3 => s.virtualFree 24 4
    | 1 | 4 => s.virtualFree 28 4
    | _ => none
  let port := match both2.find? (fun p => s.pairHere p) with
    | some p => p.val + 1
    | none => (match both2.find? (fun p => s.portHeld p) with | some p => p.val + 1 | none => 1)
  let pl := if c.testBit 3 then (b.drop 76).take 20 else []
  free.map (fun h =>
    let x : HopSt :=
      { srcAddr := if src = 2 then addr else if src = 3 then addr % 256 else 0, port := port, tag := getB b 72
        pair := s.pairAddr.isSome, adopted := some (if src = 1 then 0 else 3) }
    let t := s.handOver h x (le16 (get16 b 68) ++ le16 (get16 b 66) ++ b8 0 ++ b8 (2 ^ n.val) ++ b8 pl.length ++ [0] ++ le32 0 ++ pl)
    let k := t.intake.nextTake
    let t := { t with intake := { t.intake with nextTake := k + 1 } }
    (h, t.setHop h (fun y => { y with stage := .started, takeNo := k, start := some t.frame.counter, taken := t.frame.counter })))

/-- Adopt the command of axis `n`; PLAN_RUN is adopted with the run (R548). -/
def State.adoptAxis (s : State) (b : List Byte) (n : Fin 4) : State :=
  let op := get16 b 68
  if !s.paired n || getB b 65 % 8 = 0 || op = 0x0505 then s
  else match s.adoptHop n b with
  | none => s
  | some (h, t) =>
    let m := t.motion.get n
    let rest := m.profile.isNone
    match op with
    | 0x0140 => t.finish h 2 0xFFFF (t.moveResult n h)
    | 0x0103 | 0x0104 => if rest then t.doneWith h (leS32 m.p) else t.updMotion n (fun m => { m with cmd := some h })
    | 0x0106 | 0x0107 => if rest then t.doneWith h (leS32 m.p) else t.updMotion n (fun m => { m with stopCmd := some h })
    | 0x0102 => if t.axReady n then t.setSeq n (fun a => { a with latched := some false }) else t
    | _ => t.doneWith h (leS32 m.p)

/-- The recorded run continues, or ends with status 3 (R549). -/
def State.adoptRun (s : State) (r : List Byte) : State :=
  let st := getB r 416
  if st = 0 then s
  else
    let slot : Fin 4 := Fin.ofNat 4 (getB r 417)
    let seg := getB r 418
    let held := axes4.find? (fun n => get16 r (16 + 96 * n.val + 68) == 0x0505)
    let s1 := match held with
      | some n => (match s.adoptHop n ((r.drop (16 + 96 * n.val)).take 96) with | some (h, t) => (some h, t) | none => (none, s))
      | none => (none, s)
    let s := s1.2
    let end_ (s : State) : State :=
      let x := s.twin.run
      let s := { s with plan := { s.plan with run := none }, twin := { s.twin with run := x } }
      let t := forAxes s (fun n t => if (t.motion.get n).state == .haul then t.rampToRest n (t.ax n 0x43) else t)
      let t := match s1.1 with
        | some h =>
          let run : Run := { hop := h, slot := slot.val, stage := .stopping, seg := seg, segEnd := none, lam := 0, up := none, haul := 0,
                             userHold := false, segLate := false, heldAt := s.frame.counter, heldSeg := seg, heldHaul := 0,
                             heldRest := false, status := 3, late := 0,
                             waits := [], stopSeq := 0xFFFF }
          t.finish h 2 0xFFFF (t.runResult run 3)
        | none => t
      t.evFree 0x0807
    match s.plan.roads.get slot, s.plan.chain, s1.1 with
    | some rd, some c, some h =>
      if roadHash rd ≠ get32 r 440 ∨ s.plan.version.toNat ≠ get32 r 432 then end_ s
      else
        -- carried forward on the haul clock; the recheck of a map hold starts again
        let run := s.twin.run.map (fun x => { x with hop := h, heldAt := s.frame.counter, heldHaul := x.haul })
        let haul : Rat := match run with | some x => x.haul | none => 0
        let s := { s with plan := { s.plan with run := run } }
        let s := (s.loadSegment c rd seg).updRun (fun x => { x with haul := haul })
        let s := (chainAxes c).foldl (fun (t : State) n =>
          let x := t.xva n (t.frame.tickBase : Rat)
          t.updMotion n (fun m => { m with p := if 0 ≤ x.2.1 then Rat.floor x.1 else Rat.ceil x.1, cmd := some h })) s
        s
    | _, _, _ => end_ s

/-- The sequence states of the record are adopted under R153. -/
def State.adoptSeqs (s : State) (r : List Byte) : State :=
  let put (l : List SeqState) (o : Nat) : List SeqState :=
    let a := get16 r o
    if a = 0xFFFF then l
    else
      let iso := decide (0xFF00 ≤ a)
      let addr := if iso then a - 0xFF00 else a
      { iso := iso, addr := addr, seq := BitVec.ofNat 16 (get16 r (o + 2)), last := s.frame.counter } ::
        l.filter (fun e => !(e.iso == iso && e.addr == addr))
  let l := (put (put s.intake.virtSeq 412) 408).take 32
  { s with intake := { s.intake with intSeq := BitVec.ofNat 16 (get16 r 404), virtSeq := l } }

/-- The ISO port sends Address Claimed and is HELD at once (R559). -/
def State.isoTakes (s : State) : State :=
  if !s.isoOn then s
  else
    let a := s.par 0x7001
    let s := (s.updIso (fun i => { i with claim := .held, addr := a, cannotDue := false, heldAt := s.frame.superframe, statAt := none })).sendClaimed a
    s.ev 0x0701 a

/-- An axis in SPEEDF goes on with the device's own source; a source that the device was never told counts as lost (R551, log entry
27). -/
def State.followTakes (n : Fin 4) (s : State) : State :=
  if (s.motion.get n).state ≠ .speedf ∨ (s.follow.get n).st ≠ .none then s
  else
    let x := s.follow.get n
    let v : Int := Rat.floor ((s.motion.get n).vt * 256)
    (s.updFollow n (fun _ => { st := .lost, src := 0xFF, ratio := x.ratio, r0 := x.ratio, r1 := x.ratio, targetV := v })).raise 0x0220 n.val (axBits n) true

/-- Boundary T of a takeover: with a usable record the shadow carries on; else every paired axis is in QUIET under FT-0x0805. -/
def State.takeover (s : State) (usable : Bool) : State :=
  let s := s.updTwin (fun t => { t with takeover := none, takeovers := inc16 t.takeovers, pairHb := true })
  let s := s.isoTakes
  if usable then
    let r := s.twin.recLast
    let d := s.twin.recD.2.2
    -- the state that the last accepted record gives at T (R547)
    let s := axes4.foldl (fun t n => t.loadBlock r d n) (s.loadRun r d)
    let s := s.adoptSeqs r
    -- the feedback alignment is taken again from the device's own counter (R547, R389)
    let s := forAxes s (fun n t => if t.paired n then (t.updChan n (fun c => { c with alignDue := true })).followTakes n else t)
    let s := axes4.foldl (fun (t : State) n => t.adoptAxis ((r.drop (16 + 96 * n.val)).take 96) n) s
    -- the Wedge state is adopted without CHECK (R289)
    let s := forAxes s (fun n t => if t.paired n && (getB (blockOf r n) 1).testBit 7 then t.ev 0x0141 1 else t)
    (s.adoptRun r).updTwin (fun t => { t with run := none })
  else
    let s := s.updTwin (fun t => { t with run := none })
    let s := s.raiseFree 0x0805 s.pairedBits false
    let act := s.faults.active.map (fun e => if e.code = 0x0805 then { e with acts := s.frame.counter } else e)
    let s := { s with faults := { s.faults with active := act } }
    forAxes s (fun n t =>
      if !t.paired n then t
      else (((t.switchesOff n).brakeOff n).dropAxis n 6 0x0805).updMotion n (fun m => { m with posState := .unreferenced }))

/-! ### Boundary work (R540, R541, R561) -/

/-- Reason for which a STANDBY is not READY, the lowest of EV-0x0804 (R541, R592). -/
def State.notReadyWhy (s : State) : Option Nat :=
  let t := s.twin
  let shown (n : Fin 4) : Bool := s.paired n && t.pReady.testBit n.val
  if t.link != .up then some 0
  else if decide (t.mirrors < s.par 0x8004) || decide (2 ≤ t.quiet) then some 1
  else if t.fpOwn != t.fpOther then some 2
  else if axes4.any (fun n => (shown n && !s.axReady n) || (s.paired n && s.faults.safe.get n != 0)) then some 3
  else if axes4.any (fun n => s.paired n && (s.gate.get n).latchMask != 0) then some 4
  else none

/-- READY of a STANDBY (R541). -/
def State.readyStep (s : State) : State :=
  if s.twin.role != .standby then s
  else match s.notReadyWhy, s.twin.ready with
  | none, false => (s.updTwin (fun t => { t with ready := true })).evFree 0x0803
  | some q, true => (s.updTwin (fun t => { t with ready := false })).ev 0x0804 q
  | _, _ => s

/-- TWIN_SWITCH at a boundary: ACTO falls after the record that carries SWITCH; the partner's GPERM completes it (R561). -/
def State.switchStep (s : State) : State :=
  match s.twin.switch with
  | none => s
  | some (h, none) =>
    if s.since (s.hop h).taken < 2 then s
    else (s.leaveActive .standby).ev 0x0802 1
  | some (h, some t) =>
    -- a record of the frame that has ended
    if decide (s.twin.quiet ≤ 1) && s.twin.pFlags.getLsbD 2 then (s.updTwin (fun t => { t with switch := none })).doneWith h []
    else s.updTwin (fun x => { x with switch := some (h, some (t + 1)) })

/-- Resolution of the role of a STANDBY at a boundary (Table TWIN-6, R546, R550). -/
def State.roleStep (s : State) : State :=
  let t := s.twin
  let status := t.pStatus && decide (0 < t.accepted)
  let pSafe := t.pFlags.getLsbD 6
  let same := t.pFlags.getLsbD 0 == s.roleB
  if t.role != .standby || s.faults.device || s.pins.acti || t.switch.isSome then s
  else if t.mirrorSeen || t.fell then
    -- without a usable record the axes go to QUIET at T (R550)
    let usable := t.ready && decide (s.since t.lastFrame ≤ 2)
    (s.arm (b01 (t.pFlags.getLsbD 5))).updTwin (fun x => { x with takeover := some usable, fell := false })
  else if t.link == .up && status && s.primary && !pSafe && t.fpOwn == t.fpOther && !same then s.arm 2
  else if t.link == .up && status && !s.primary && pSafe then s.arm 2
  else s

/-- A device that is OFF because it was SAFE returns to STANDBY (Table TWIN-6, R594). -/
def State.roleBack (s : State) : State :=
  if s.unitOn 8 && s.twin.role == .off && !s.faults.device then
    ((s.updTwin (fun t => { t with role := .standby, fell := false })).busModes).ev 0x0802 0
  else s

/-- All twin work at a boundary. -/
def State.twinBoundary (s : State) : State :=
  if !s.unitOn 8 then s
  else
    let s := s.roleBack
    let f := s.fingerprint
    let s := s.updTwin (fun t => { t with fpOwn := f, quiet := min 0xFFFF (t.quiet + 1), noStat := min 0xFFFF (t.noStat + 1) })
    let s := s.switchStep
    let s := match s.twin.takeover with | some u => s.takeover u | none => s
    (s.roleStep.readyStep).followSeq

/-- Superframe work: the wait of a device alone. -/
def State.twinSuper (s : State) : State :=
  s.updTwin (fun t => { t with rejSeen := false, pairHb := false, quietSf := if s.pins.acti then 0 else min 0xFFFFF (t.quietSf + 1) })

/-! ### Commands -/

def TwinRole.code : TwinRole → Nat
  | .off => 0
  | .standby => 1
  | .arming => 2
  | .active => 3

def twinStatusSpec : CmdSpec where
  op := 0x0801
  start := fun s h =>
    let t := s.twin
    let own := maskOf (axes4.map (fun n => s.paired n && s.axReady n))
    s.doneWith h (b8 t.role.code
      ++ b8 (b01 s.roleB + 2 * b01 s.primary + 4 * b01 t.ready + 8 * b01 t.gperm + 16 * b01 s.pins.acti + 32 * b01 (t.link == .up)
          + 64 * b01 t.alone + 128 * b01 (t.fpOwn == t.fpOther))
      ++ le16 t.accepted ++ le32 t.lastFrame.toNat ++ le32 t.d.toNat ++ le16 (min 0xFFFF t.delay) ++ leS16 (satS 16 t.align)
      ++ le16 t.rejected ++ le16 t.takeovers ++ le32 t.fpOwn.toNat ++ le32 t.fpOther.toNat ++ b8 (own + 16 * (t.pReady % 16)) ++ [0, 0, 0])

/-- TWIN_STATUS (Table TWIN-11). -/
def execTwinStatus (h : Fin 32) (s : State) : Host.Outcome State Fault Refusal := .next (takeRow twinStatusSpec h s)

def twinSwitchSpec : CmdSpec where
  op := 0x0802
  need := 4
  field := fun s h => if 1 < s.p8 h 0 then some 16 else if s.p8 h 1 ≠ 0 then some 17 else if s.p16 h 2 ≠ 0 then some 18 else none
  permit := fun s _ => if s.twinDown then some 4 else none
  judge := fun s h =>
    let moving := axes4.any (fun n => s.paired n && (match (s.motion.get n).state with | .idle | .halted => false | _ => true))
    let ready := s.twin.link == .up && s.twin.pFlags.getLsbD 3
    some (s.cfg, fnd (s.twin.role != .active || s.twin.switch.isSome) 1 0x0805 0 ++ fnd (!ready) 1 0x0805 1
      ++ fnd (moving && s.p8 h 0 == 0) 1 0x0805 2)
  start := fun s h => s.updTwin (fun t => { t with switch := some (h, none) })

/-- TWIN_SWITCH (R561). -/
def execTwinSwitch (h : Fin 32) (s : State) : Host.Outcome State Fault Refusal := .next (takeRow twinSwitchSpec h s)

/-- TWIN_SWITCH_TIMEOUT: no GPERM of the partner within 4 f of the ACTO fall (R561). -/
def execTwinSwitchTimeout (s : State) : Host.Outcome State Fault Refusal :=
  .next (
    match s.twin.switch with
    | some (h, some t) =>
      if 4 ≤ t then ((s.updTwin (fun t => { t with switch := none })).finish h 2 0xFFFF []).settle else s
    | _ => s)

end Sys2Proof.Machine
end

