-- ==== Sys2Proof/Machine/Service.lean ====
section
/-! DEFINITION. Firmware update, identity, protected operations and self-test (18). -/

namespace Sys2Proof.Machine

/-! ### SHA-256 (R571 names it; its definition is FIPS 180-4, log entry 6) -/

def shaK : List (BitVec 32) := [
  0x428A2F98, 0x71374491, 0xB5C0FBCF, 0xE9B5DBA5, 0x3956C25B, 0x59F111F1, 0x923F82A4, 0xAB1C5ED5,
  0xD807AA98, 0x12835B01, 0x243185BE, 0x550C7DC3, 0x72BE5D74, 0x80DEB1FE, 0x9BDC06A7, 0xC19BF174,
  0xE49B69C1, 0xEFBE4786, 0x0FC19DC6, 0x240CA1CC, 0x2DE92C6F, 0x4A7484AA, 0x5CB0A9DC, 0x76F988DA,
  0x983E5152, 0xA831C66D, 0xB00327C8, 0xBF597FC7, 0xC6E00BF3, 0xD5A79147, 0x06CA6351, 0x14292967,
  0x27B70A85, 0x2E1B2138, 0x4D2C6DFC, 0x53380D13, 0x650A7354, 0x766A0ABB, 0x81C2C92E, 0x92722C85,
  0xA2BFE8A1, 0xA81A664B, 0xC24B8B70, 0xC76C51A3, 0xD192E819, 0xD6990624, 0xF40E3585, 0x106AA070,
  0x19A4C116, 0x1E376C08, 0x2748774C, 0x34B0BCB5, 0x391C0CB3, 0x4ED8AA4A, 0x5B9CCA4F, 0x682E6FF3,
  0x748F82EE, 0x78A5636F, 0x84C87814, 0x8CC70208, 0x90BEFFFA, 0xA4506CEB, 0xBEF9A3F7, 0xC67178F2]

def shaH0 : List (BitVec 32) :=
  [0x6A09E667, 0xBB67AE85, 0x3C6EF372, 0xA54FF53A, 0x510E527F, 0x9B05688C, 0x1F83D9AB, 0x5BE0CD19]

def rotr (x : BitVec 32) (n : Nat) : BitVec 32 := x.rotateRight n

/-- Padded message: 0x80, zeros, the length in bits as 8 bytes, big-endian. -/
def shaPad (m : List Byte) : List Byte :=
  let z := (119 - m.length % 64) % 64
  m ++ [0x80] ++ List.replicate z 0 ++ (leBytes 8 (8 * m.length)).reverse

def beWord (l : List Byte) : BitVec 32 := BitVec.ofNat 32 (l.foldl (fun a b => 256 * a + b.toNat) 0)

/-- Message schedule of a block, newest word first. -/
def shaSchedule : Nat → List (BitVec 32) → List (BitVec 32)
  | 0, w => w
  | k + 1, w =>
    let a := w.getD 14 0
    let b := w.getD 1 0
    let s0 := rotr a 7 ^^^ rotr a 18 ^^^ (a >>> 3)
    let s1 := rotr b 17 ^^^ rotr b 19 ^^^ (b >>> 10)
    shaSchedule k ((w.getD 15 0 + s0 + w.getD 6 0 + s1) :: w)

def shaRound (v : List (BitVec 32)) (kw : BitVec 32) : List (BitVec 32) :=
  match v with
  | [a, b, c, d, e, f, g, h] =>
    let s1 := rotr e 6 ^^^ rotr e 11 ^^^ rotr e 25
    let ch := (e &&& f) ^^^ (~~~ e &&& g)
    let t1 := h + s1 + ch + kw
    let s0 := rotr a 2 ^^^ rotr a 13 ^^^ rotr a 22
    let mj := (a &&& b) ^^^ (a &&& c) ^^^ (b &&& c)
    [t1 + (s0 + mj), a, b, c, d + t1, e, f, g]
  | _ => v

def shaBlock (h : List (BitVec 32)) (blk : List Byte) : List (BitVec 32) :=
  let w0 := ((List.range 16).map (fun i => beWord ((blk.drop (4 * i)).take 4))).reverse
  let w := (shaSchedule 48 w0).reverse
  List.zipWith (· + ·) h ((List.zipWith (· + ·) shaK w).foldl shaRound h)

def shaBlocks : Nat → List Byte → List (BitVec 32) → List (BitVec 32)
  | 0, _, h => h
  | k + 1, m, h => shaBlocks k (m.drop 64) (shaBlock h (m.take 64))

def sha256 (m : List Byte) : List Byte :=
  let p := shaPad m
  (shaBlocks (p.length / 64) p shaH0).flatMap (fun x => (leBytes 4 x.toNat).reverse)

/-! ### Banks and packages (R570 to R576) -/

/-- The running bank and the other one. -/
def State.runBank (s : State) : Bank := s.svc.bank s.svc.runB
def State.idleBank (s : State) : Bank := s.svc.bank (!s.svc.runB)
def State.updIdle (s : State) (f : Bank → Bank) : State := { s with svc := s.svc.updBank (!s.svc.runB) f }

def Bank.rollback (b : Bank) : Nat := match b.pkg with | some p => p.rollback | none => Config.factoryRollback % 65536

/-- Bytes programmed since BEGIN, in offset order. -/
def Bank.image (b : Bank) : List Byte :=
  (sortBy (fun (x y : Nat × List Byte) => decide (x.1 < y.1)) b.spans).flatMap (fun e => e.2)

/-- A range meets bytes already written since BEGIN. -/
def Bank.overlaps (b : Bank) (off len : Nat) : Bool :=
  b.spans.any (fun e => decide (e.1 < off + len) && decide (off < e.1 + e.2.length))

/-- R571: the finding that makes a package invalid. A reserved header byte that is not 0 has no qualifier of its own (`q`). -/
def packageFinding (img : List Byte) (expect rollMin q : Nat) : Option (Nat × Nat) :=
  let key := getB img 14
  let len := get32 img 16
  if img.take 4 ≠ [0x4B, 0x46, 0x57, 0x50] then some (0x0901, 0)
  else if get16 img 4 ≠ 1 then some (0x0901, 1)
  else if get16 img 6 ≠ 0x0458 then some (0x0901, 2)
  else if len < 1 ∨ 1048448 < len ∨ expect ≠ 128 + len then some (0x0901, 3)
  else if 3 < key ∨ !Config.keySlots.getLsbD key then some (0x0901, 4)
  else if getB img 15 ≠ 0 ∨ get32 img 20 ≠ 0 then some (0x0901, q % 256)
  else if (img.drop 24).take 32 ≠ sha256 (img.drop 128) then some (0x0902, 0xFF)
  else if !Config.signatureOk key (img.take 64) ((img.drop 64).take 32) ((img.drop 96).take 32) then some (0x0903, key)
  else if get16 img 12 < rollMin then some (0x0904, min 0xFE rollMin)
  else none

def packageOf (img : List Byte) : Package := { major := getB img 8, minor := getB img 9, build := get16 img 10, rollback := get16 img 12 }

/-! ### FW_UPDATE (Tables SVC-3 and SVC-9) -/

/-- Reserved values of the payload. -/
def fwField (s : State) (h : Nat) : Option Nat :=
  let op := s.p8 h 0
  let n := s.p16 h 2
  let v := s.p32 h 4
  if 7 < op then some 16
  else if s.p8 h 1 ≠ 0 then some 17
  else if (if op = 2 then n < 1 ∨ 104 < n else n ≠ 0) then some 18
  else if op = 2 ∧ s.plen h < 8 + n then some 6
  else if (if op = 0 then v < 129 ∨ 1048576 < v else op ≠ 1 ∧ op ≠ 2 ∧ v ≠ 0) then some 20
  else none

/-- Bytes that a WRITE or WRITE_INLINE programs. -/
def State.fwBytes (s : State) (h : Nat) : List Byte :=
  if s.p8 h 0 = 1 then s.bulkBytes 0 s.host.bulkLen else s.pBytes h 8 (s.p16 h 2)

/-- Survey findings of an update operation (R572, R574, R576, SV-0x0905). -/
def State.fwFindings (s : State) (h : Nat) : List Finding :=
  let b := s.idleBank
  let op := s.p8 h 0
  let bad (c : Bool) := fnd c 1 0x0905 op
  match op with
  | 0 => bad (s.svc.trial || b.st == .pending)
  | 1 | 2 =>
    let len := if op = 1 then s.host.bulkLen else s.p16 h 2
    bad (b.st != .loading || decide (b.expect < s.p32 h 4 + len) || b.overlaps (s.p32 h 4) len)
  | 3 => bad (b.st != .loading || (b.spans.map (fun e => e.2.length)).foldl (· + ·) 0 != b.expect)
  | 4 => bad (b.st != .verified)
  | 5 =>
    let free (n : Fin 4) : Bool := s.axOff n || (s.twin.role == .standby && s.paired n)
    if b.st != .pending then bad true
    else match axes4.find? (fun n => !free n) with
      | some n => fnd true 1 0x0906 n.val
      | none => []
  | 6 => bad (!s.svc.trial)
  | _ => bad (!(b.st == .loading || b.st == .verified || b.st == .pending))

/-- BEGIN: the inactive bank is erased. -/
def State.fwBegin (s : State) (h : Nat) : State :=
  let v := s.p32 h 4
  ((s.updIdle (fun _ => { st := .loading, expect := v, spans := [], pkg := none })).ev 0x0903 0).doneWith h []

def State.fwWrite (s : State) (h : Nat) : State :=
  let e := (s.p32 h 4, s.fwBytes h)
  (s.updIdle (fun b => { b with spans := b.spans ++ [e] })).doneWith h []

/-- VERIFY: R571 over the bank. -/
def State.fwVerify (s : State) (h : Nat) : State :=
  let b := s.idleBank
  let img := b.image
  let x := s.fresh
  match packageFinding img b.expect s.svc.rollMin x.1 with
  | some (code, q) =>
    let r := x.2.svReply code q
    (x.2.updIdle (fun b => { b with st := .invalid, pkg := none })).finish h r.1 r.2.1 r.2.2
  | none =>
    let p := packageOf img
    (s.updIdle (fun b => { b with st := .verified, pkg := some p })).doneWith h
      (b8 p.major ++ b8 p.minor ++ le16 p.build ++ le16 p.rollback ++ [0, 0])

def State.fwCommit (s : State) (h : Nat) : State :=
  ((s.updIdle (fun b => { b with st := .pending })).ev 0x0903 0).doneWith h []

/-- ACTIVATE: SYS restarts at the next boundary (R576). -/
def State.fwActivate (s : State) (h : Nat) : State :=
  (({ s with svc := { s.svc with restart := true } } : State)).doneWith h []

/-- CONFIRM (R575). -/
def State.fwConfirm (s : State) (h : Nat) : State :=
  let m := max s.svc.rollMin s.runBank.rollback
  let judge (b : Bank) : Bank := if b.st != .empty && decide (b.rollback < m) then { b with st := .invalid } else b
  let v := { s.svc with trial := false, rollMin := m, bankA := judge s.svc.bankA, bankB := judge s.svc.bankB }
  (({ s with svc := v } : State).evFree 0x0905).doneWith h []

def State.fwAbort (s : State) (h : Nat) : State := (s.updIdle (fun b => { b with st := .invalid, pkg := none })).doneWith h []

/-- The work of an update operation. -/
def State.fwWork (s : State) (h : Nat) : State :=
  match s.p8 h 0 with
  | 0 => s.fwBegin h
  | 1 | 2 => s.fwWrite h
  | 3 => s.fwVerify h
  | 4 => s.fwCommit h
  | 5 => s.fwActivate h
  | 6 => s.fwConfirm h
  | _ => s.fwAbort h

/-- An update operation does its work; where the bank has left the states that Table SVC-3 lists for it since the taking, the bank stays
as it is (SV-0x0905, SV-0x0906). -/
def State.fwRun (s : State) (h : Nat) : State :=
  match s.findingReply (s.fwFindings h) with
  | some r => s.finish h r.1 r.2.1 r.2.2
  | none => s.fwWork h

/-- The start of an update operation: while the flash test runs it waits with PROG = 0x02 until the test is over (R581). -/
def State.fwStart (s : State) (h : Nat) : State :=
  if s.svc.bistTodo.head? == some 0 then s.setProg h 2 else s.fwRun h

/-- The row of one operation of FW_UPDATE; `guarded`: it needs presence (Table SVC-9). -/
def fwSpec (op : Nat) (guarded : Bool) : CmdSpec where
  op := 0x0901
  sub := some op
  need := 8
  field := fwField
  bulkLen := fun _ _ => 1
  permit := fun s h => if guarded && !s.presence h then some 2 else none
  judge := fun s h => some (s.cfg, s.fwFindings h)
  start := State.fwStart

def execFwUpdateBegin (h : Fin 32) (s : State) : Host.Outcome State Fault Refusal := .next (takeRow (fwSpec 0 true) h s)
def execFwUpdateWrite (h : Fin 32) (s : State) : Host.Outcome State Fault Refusal := .next (takeRow (fwSpec 1 false) h s)
def execFwUpdateWriteInline (h : Fin 32) (s : State) : Host.Outcome State Fault Refusal := .next (takeRow (fwSpec 2 false) h s)
def execFwUpdateVerify (h : Fin 32) (s : State) : Host.Outcome State Fault Refusal := .next (takeRow (fwSpec 3 false) h s)
def execFwUpdateCommit (h : Fin 32) (s : State) : Host.Outcome State Fault Refusal := .next (takeRow (fwSpec 4 true) h s)
def execFwUpdateActivate (h : Fin 32) (s : State) : Host.Outcome State Fault Refusal := .next (takeRow (fwSpec 5 false) h s)
def execFwUpdateConfirm (h : Fin 32) (s : State) : Host.Outcome State Fault Refusal := .next (takeRow (fwSpec 6 false) h s)
def execFwUpdateAbort (h : Fin 32) (s : State) : Host.Outcome State Fault Refusal := .next (takeRow (fwSpec 7 false) h s)

/-! ### SVC_IDENT (Table SVC-10) -/

def BankState.code : BankState → Nat
  | .empty => 0
  | .valid => 1
  | .loading => 2
  | .verified => 3
  | .pending => 4
  | .invalid => 5

/-- Presence by seal of the host and internal sources (R562). -/
def State.sealHolds (s : State) : Bool := s.pins.sealed == some true && !s.svc.tamper

def State.identBytes (s : State) : List Byte :=
  let v := s.svc
  let b := s.idleBank
  let shown := b.st == .valid || b.st == .verified || b.st == .pending
  let p : Package := if shown then (match b.pkg with | some p => p | none => ⟨3, 2, Config.fwBuild % 65536, Config.factoryRollback % 65536⟩)
    else ⟨0, 0, 0, 0⟩
  let left := match v.window with | some w => (w + 999) / 1000 | none => 0
  let strap := s.pins.sealed == some true
  le32 (s.regRead 0) ++ le32 (s.regRead 4) ++ leBytes 8 Config.uid.toNat ++ b8 (b01 v.runB)
    ++ b8 (b01 v.trial + 16 * Config.keySlots.toNat) ++ le16 s.runBank.rollback ++ le16 v.rollMin ++ b8 b.st.code ++ [0]
    ++ b8 p.major ++ b8 p.minor ++ le16 p.build ++ le16 p.rollback ++ [0, 0] ++ le32 (s.par 0x9002)
    ++ b8 (b01 v.window.isSome + 2 * b01 strap + 4 * b01 s.sealHolds + 8 * b01 s.pins.presStuck + 16 * b01 v.tamper
        + 32 * b01 (s.par 0x9001 == 1) + 64 * b01 v.debug) ++ [0]
    ++ le16 left ++ le32 v.tamperAt.toNat ++ le16 v.tamperN ++ [0, 0]

def svcIdentSpec : CmdSpec where
  op := 0x0902
  start := fun s h => s.doneWith h s.identBytes

def execSvcIdent (h : Fin 32) (s : State) : Host.Outcome State Fault Refusal := .next (takeRow svcIdentSpec h s)

/-! ### SVC_OP -/

/-- Reserved values of SVC_OP. -/
def svcField (s : State) (h : Nat) : Option Nat :=
  if s.p8 h 0 = 0 ∨ 4 < s.p8 h 0 then some 16 else if s.p8 h 1 ≠ 0 then some 17 else if s.p16 h 2 ≠ 0 then some 18 else none

def svcCloseSpec : CmdSpec where
  op := 0x0903
  sub := some 1
  need := 4
  field := svcField
  start := fun s h => (s.closeWindow 1).doneWith h []

/-- SVC_OP op 1. -/
def execSvcOpCloseWindow (h : Fin 32) (s : State) : Host.Outcome State Fault Refusal := .next (takeRow svcCloseSpec h s)

/-- The loop has passed its last two checks, 16 ms (R568). -/
def State.loopIntact (s : State) : Bool := s.par 0x9001 == 1 && decide (16 ≤ s.svc.loopOk)

def svcTamperSpec : CmdSpec where
  op := 0x0903
  sub := some 2
  need := 4
  field := svcField
  permit := fun s _ => if s.svc.winBound then none else some 2
  judge := fun s _ => some (s.cfg, fnd (!s.loopIntact) 1 0x090A 0xFF)
  start := fun s h =>
    let v := { s.svc with tamper := false, tamperAt := 0, tamperN := 0, tamperDue := none, tamperRec := none }
    let act := s.faults.active.map (fun e => if e.code = 0x0901 then { e with cond := false, going := 2 } else e)
    let s := { s with svc := v, faults := { s.faults with active := act } }
    ((s.evFree 0x0904).ev 0x0903 5).doneWith h []

/-- SVC_OP op 2 (R568; FT-0x0901 is of class P). -/
def execSvcOpTamperClear (h : Fin 32) (s : State) : Host.Outcome State Fault Refusal := .next (takeRow svcTamperSpec h s)

/-- An owner of Table PAR-1 is enabled, or an axis is not Off. -/
def State.somethingOn (s : State) : Bool :=
  s.params.units != 0 || s.params.asked != 0 || axes4.any (fun n => !s.axOff n)

def svcFactorySpec : CmdSpec where
  op := 0x0903
  sub := some 3
  need := 4
  field := svcField
  permit := fun s h => if s.presence h then none else some 2
  judge := fun s _ => some (s.cfg, fnd s.somethingOn 1 0x0908 0xFF)
  own := fun s _ => s.findingReply (fnd s.somethingOn 1 0x0908 0xFF)
  start := fun s h =>
    let keep := s.ret.records
    let ret : RetentionSt := { valid := s.ret.valid, records := keep }
    let s := { s with ret := ret, params := { s.params with copyA := none, copyB := none } }
    let s := forAxes s (fun n t => (t.updCur n (fun c => { c with storeTab := none })).updWedge n (fun w =>
      { w with learn := .learning, ke := 0, source := 0, learnN := 0, learnFrom := 0, learnSum := 0, toRet := false }))
    let s := forPorts s (fun p t => t.updPort p (fun q => { q with storeSched := none }))
    -- working tables count as working values (R245, R428, R487)
    let s := forAxes s (fun n t => t.updCur n (fun c => { c with userTab := none }))
    let s := forPorts s (fun p t => t.updPort p (fun q => { q with sched := none }))
    let s := s.updPlan (fun p => { p.rmClear with storeChain := none, chain := none })
    (s.writeWorking []).awaitVerdict h 1 0 [] 4 []

/-- SVC_OP op 3: factory reset (R583); it completes with the verdicts on the defaults (R185). -/
def execSvcOpFactoryReset (h : Fin 32) (s : State) : Host.Outcome State Fault Refusal := .next (takeRow svcFactorySpec h s)

def svcDebugSpec : CmdSpec where
  op := 0x0903
  sub := some 4
  need := 4
  field := svcField
  permit := fun s h => if s.presence h then none else some 2
  judge := fun s h => some (s.cfg, fnd (!(s.svc.sealBound && (srcOf h == 0 || srcOf h == 3))) 1 0x0909 0xFF)
  start := fun s h => ((({ s with svc := { s.svc with debug := true } } : State).evFree 0x0906).ev 0x0903 3).doneWith h []

/-- SVC_OP op 4 (R582). -/
def execSvcOpDebugEnable (h : Fin 32) (s : State) : Host.Outcome State Fault Refusal := .next (takeRow svcDebugSpec h s)

/-! ### Self-test (R577 to R580) -/

/-- Tests of a mask in ascending bit order; test 8 + n is the gate test of axis n. -/
def bistTests (mask axes : Nat) : List Nat :=
  ([0, 1, 2].filter (fun b => mask.testBit b)) ++
  (if mask.testBit 3 then axes4.filterMap (fun n => if axes.testBit n.val then some (8 + n.val) else none) else []) ++
  ([4, 5].filter (fun b => mask.testBit b))

/-- Precondition of a test (Table SVC-4). -/
def State.bistReady (s : State) (t : Nat) : Bool :=
  match t with
  | 0 => true
  | 1 | 2 => s.domReady .ana
  | 4 => !s.unitOn 9 && !s.params.asked.getLsbD 9
  | 5 => !s.unitOn 8 && !s.params.asked.getLsbD 8
  | _ =>
    let n : Fin 4 := Fin.ofNat 4 (t - 8)
    s.axOff n && s.work (psId n 0) == 0 && decide (7000 ≤ s.power.vm) && s.domReady .aux && s.axen n &&
      !(s.unitOn 8 && s.paired n)

def bistRunSpec : CmdSpec where
  op := 0x0904
  need := 4
  field := fun s h =>
    if s.p8 h 0 = 0 ∨ 63 < s.p8 h 0 then some 16 else if 15 < s.p8 h 1 then some 17 else if s.p16 h 2 ≠ 0 then some 18 else none
  judge := fun s h =>
    some (s.cfg, fnd s.svc.bistHop.isSome 1 0x0907 0xFF ++
      (bistTests (s.p8 h 0) (s.p8 h 1)).flatMap (fun t => fnd (!s.bistReady t) 1 0x0907 (if 8 ≤ t then 8 + t else t)))
  own := fun s _ => s.findingReply (fnd s.svc.bistHop.isSome 1 0x0907 0xFF)
  start := fun s h =>
    let l := bistTests (s.p8 h 0) (s.p8 h 1)
    let v := { s.svc with bistHop := some h, bistTodo := l, bistRes := List.replicate 6 0, bistCode := 0, bistQual := 0
                          bistAt := s.frame.counter, bistMask := BitVec.ofNat 6 (s.p8 h 0) }
    (({ s with svc := v } : State).setProg h 5).bistGo none l

/-- BIST_RUN (R577, R578). -/
def execBistRun (h : Fin 32) (s : State) : Host.Outcome State Fault Refusal := .next (takeRow bistRunSpec h s)

/-- Fault code of a test (Table SVC-4). -/
def bistFault (t : Nat) : Nat := if 8 ≤ t then 0x0915 else if t = 4 then 0x0916 else if t = 5 then 0x0917 else 0x0912 + t

/-- A test has passed: its failure no longer stands (R580). -/
def State.bistPass (s : State) (t : Nat) : State :=
  let s := s.bistMark t 1
  if 8 ≤ t then
    let m := s.svc.gateBad &&& ~~~ BitVec.ofNat 4 (2 ^ (t - 8))
    let f := if m = 0 then s.svc.failed &&& ~~~ 8#6 else s.svc.failed
    let s := { s with svc := { s.svc with gateBad := m, failed := f } }
    if m = 0 then s.condEnd 0x0915 else s
  else
    let f := s.svc.failed &&& ~~~ BitVec.ofNat 6 (2 ^ t)
    ({ s with svc := { s.svc with failed := f, flashSafe := s.svc.flashSafe && t != 0 } } : State).condEnd (bistFault t)

/-- A test has failed; the axis of a gate test is Failed with the code of its step by now. `qual`: that of FT-0x0912 and FT-0x0914. -/
def State.bistFail (s : State) (t qual : Nat) : State :=
  let s := s.bistMark t 2
  let f := s.svc.failed ||| BitVec.ofNat 6 (2 ^ bistBit t)
  let s := { s with svc := { s.svc with failed := f } }
  let x := s.fresh
  let q := if 8 ≤ t then t - 8 else if t = 0 ∨ t = 2 then qual else x.1 % 65536
  let s := if 8 ≤ t ∨ t = 0 ∨ t = 2 then s else x.2
  let s := if s.svc.bistCode = 0 then { s with svc := { s.svc with bistCode := bistFault t, bistQual := q } } else s
  if 8 ≤ t then
    let n : Fin 4 := Fin.ofNat 4 (t - 8)
    let m := s.svc.gateBad ||| axBits n
    let s := { s with svc := { s.svc with gateBad := m } }
    s.raise 0x0915 n.val (axBits n) true
  else
    let s := s.raise (bistFault t) q 0 true
    if t = 0 ∧ q = 1 then s.updIdle (fun b => { b with st := .invalid })
    else if t ≤ 2 then
      { s with faults := { s.faults with safeDue := some (bistFault t) }, svc := { s.svc with flashSafe := s.svc.flashSafe || t == 0 } }
    else s

/-- Frames that a test lasts: those that Table SVC-4 states exactly, and none for the flash test, which it bounds from above. -/
def bistLen (t : Nat) : Nat :=
  match t with
  | 1 => 40
  | 2 => 51
  | 4 => 280
  | 5 => 12
  | _ => 0

/-- How a gate test stands: passed once its axis is Off again after step 4, failed when the axis is Failed, cancelled when the axis
went down before, or was not Off when its turn came; none while it runs (Table SVC-4, R580). -/
def State.gateTestOver (s : State) (n : Fin 4) : Option Nat :=
  let a := s.axSt n
  if a.bist = 0 then some 3
  else match a.seq with
    | .failed => some 2
    | .off => some (if a.bist = 2 then 1 else 3)
    | _ => none

/-- The running test `t` ends with status `v`. -/
def State.bistClose (s : State) (t v qual : Nat) (l : List Nat) : State :=
  let s := match v with | 1 => s.bistPass t | 2 => s.bistFail t qual | _ => s.bistMark t 3
  let s := if 8 ≤ t then s.setSeq (Fin.ofNat 4 (t - 8)) (fun a => { a with bist := 0 }) else s
  s.bistGo (some t) l

/-- Verdict of self-test `t`, 1 pass and 2 fail: the gate-driver test by its own steps; another when its time is over, but for the bank
check while the idle bank is being loaded. -/
def State.bistVerdict (s : State) (t : Nat) (pass : Bool) (qual : Nat) : Option Nat :=
  let skip := decide (t = 0) && !pass && decide (qual = 1) && s.idleBank.st == .loading
  if 8 ≤ t then s.gateTestOver (Fin.ofNat 4 (t - 8))
  else if bistLen t ≤ s.since s.svc.bistFrom ∧ !skip then some (if pass then 1 else 2) else none

/-- The firmware commands that waited for test 0 run on. -/
def State.bistFreed (s : State) (t : Nat) : State :=
  if t = 0 then (s.byTaking.filter (fun h => s.stage h == .started && s.opcode h == 0x0901)).foldl State.fwRun s else s

/-- BIST_TEST_DONE: the test that runs ends, its duration over (R579); `pass` and `qual` are the finding of a test that is no gate
test. The flash test skips a bank that is LOADING; after it the waiting update operations do their work (R581). -/
def execBistTestDone (pass : Bool) (qual : Nat) (s : State) : Host.Outcome State Fault Refusal :=
  .next (
    match s.svc.bistTodo with
    | [] => s
    | t :: l =>
      match s.bistVerdict t pass qual with
      | none => s
      | some v => ((s.bistClose t v qual l).bistFreed t).settle)

end Sys2Proof.Machine
end

