-- ==== Sys2Proof/Machine/Faults.lean ====
section
/-! DEFINITION. Fault table commands and the event queue: FAULT_STATUS, FAULT_CLEAR, EVENT_READ (19). -/

namespace Sys2Proof.Machine

/-- Sixteen bytes of an active entry (FAULT_STATUS). -/
def faultBytes (e : FaultEnt) : List Byte :=
  le16 e.code ++ le16 e.qual ++ b8 (e.axes.toNat + 16 * b01 (faultScope e.code == 1)) ++ b8 e.react
    ++ b8 (e.cls % 8 + 8 * b01 e.cond) ++ b8 e.count ++ le32 e.first.toNat ++ le32 e.last.toNat

/-- FAULT_STATUS. -/
def faultStatusSpec : CmdSpec where
  op := 0x0010
  need := 4
  field := fun s h =>
    if 104 < s.p8 h 0 then some 16 else if s.p8 h 1 = 0 ∨ 6 < s.p8 h 1 then some 17 else if s.p16 h 2 ≠ 0 then some 18 else none
  start := fun s h =>
    let l := (s.faults.active.drop (s.p8 h 0)).take (s.p8 h 1)
    s.doneWith h (b8 l.length ++ b8 s.faults.active.length ++ le16 (b01 s.faultLow + 2 * b01 s.faults.device) ++ le32 0
      ++ l.flatMap faultBytes)

/-- FAULT_STATUS. -/
def execFaultStatus (h : Fin 32) (s : State) : Host.Outcome State Fault Refusal := .next (takeRow faultStatusSpec h s)

/-- The BIST of the failed test has not passed yet (R580, Table FLT-2 class B). -/
def State.testOwed (s : State) (code : Nat) : Bool :=
  let bitOf (k : Nat) : Bool := s.svc.failed.toNat.testBit k
  match code with
  | 0x0912 => bitOf 0
  | 0x0913 => bitOf 1
  | 0x0914 => bitOf 2
  | 0x0915 => s.svc.gateBad != 0
  | 0x0916 => bitOf 4
  | 0x0917 => bitOf 5
  | _ => false

/-- SV-0x0023: the class of the entry is not cleared by FAULT_CLEAR (R597). -/
def State.clearBarred (s : State) (e : FaultEnt) : Bool :=
  e.cls == 2 || e.cls == 4 || e.cls == 5 || (e.cls == 3 && s.testOwed e.code)

/-- SV-0x0022: the condition persists, or the latest raising falls in this frame (R597). FT-0x0404 persists above 150 °C. -/
def State.clearEarly (s : State) (e : FaultEnt) : Bool :=
  e.last == s.frame.counter || (e.cls != 6 && (e.cond || (e.code == 0x0404 && decide (1500 < s.power.temp))))

/-- The entry may be cleared now. -/
def State.clearable (s : State) (e : FaultEnt) : Bool := !s.clearBarred e && !s.clearEarly e

/-- The entries that satisfy `p` become inactive at the next boundary, which raises EV-0x0023 (R597). -/
def State.markCleared (s : State) (p : FaultEnt → Bool) : State :=
  { s with faults := { s.faults with active := s.faults.active.map (fun e => if p e then { e with going := 2 } else e) } }

/-- Findings of FAULT_CLEAR of one code; none when it is not active (R597). -/
def State.clearFindings (s : State) (h : Nat) : List Finding :=
  match s.faults.active.find? (fun e => e.code == s.p16 h 0) with
  | some e => fnd (s.clearEarly e && !s.clearBarred e) 1 0x0022 0xFF ++ fnd (s.clearBarred e) 1 0x0023 0xFF
  | none => []

/-- FAULT_CLEAR (R597). -/
def faultClearSpec : CmdSpec where
  op := 0x0011
  need := 4
  field := fun s h => if s.p16 h 2 ≠ 0 then some 18 else none
  judge := fun s h => some (s.cfg, s.clearFindings h)
  own := fun s h => s.findingReply (s.clearFindings h)
  start := fun s h =>
    let c := s.p16 h 0
    if c = 0xFFFF then
      let l := s.faults.active
      let gone := l.filter (fun e => s.clearable e)
      let first := match l.find? (fun e => !s.clearable e) with | some e => e.code | none => 0
      (s.markCleared s.clearable).doneWith h (b8 gone.length ++ b8 (l.length - gone.length) ++ le16 first)
    else (s.markCleared (fun e => e.code == c)).doneWith h []

/-- FAULT_CLEAR (R596, R597). -/
def execFaultClear (h : Fin 32) (s : State) : Host.Outcome State Fault Refusal := .next (takeRow faultClearSpec h s)

/-- Eight bytes of an event record. -/
def eventBytes (e : Nat × Nat × BitVec 32) : List Byte := le16 e.1 ++ le16 e.2.1 ++ le32 e.2.2.toNat

/-- EVENT_READ (R600). -/
def eventReadSpec : CmdSpec where
  op := 0x0012
  need := 4
  field := fun s h =>
    if s.p8 h 0 = 0 ∨ 12 < s.p8 h 0 then some 16
    else if s.p8 h 1 ≠ 0 then some 17 else if s.p16 h 2 ≠ 0 then some 18 else none
  start := fun s h =>
    let n := s.p8 h 0
    let l := s.faults.events.take n
    let rest := s.faults.events.drop n
    let lost := s.faults.lost
    let s := { s with faults := { s.faults with events := rest, lost := 0 } }
    s.doneWith h (b8 l.length ++ b8 (min 255 rest.length) ++ le16 (min 0xFFFF lost) ++ le32 0 ++ l.flatMap eventBytes)

/-- EVENT_READ (R600). -/
def execEventRead (h : Fin 32) (s : State) : Host.Outcome State Fault Refusal := .next (takeRow eventReadSpec h s)

end Sys2Proof.Machine
end

