-- ==== Sys2Proof/Machine/Intake.lean ====
section
/-! DEFINITION. Starts of commands that waited: every opcode's specification by opcode and operation (05, R155 to R162). -/

namespace Sys2Proof.Machine

/-- Specifications of all opcodes and operations, first half. -/
def specsA : List CmdSpec :=
  [cmpArmSpec, cmpStatusSpec, chiselLoadSpec, chiselValidateSpec, chiselSaveSpec, chiselReadSpec, chiselReloadSpec,
   curStatusSpec, offstateTestSpec, diagStatusSpec, faultStatusSpec, faultClearSpec, eventReadSpec, fbStatusSpec,
   fbSetCountSpec, followSpeedSpec, folStatusSpec, spStatusSpec, gateStatusSpec, planQuerySpec, planRunSpec, planStopSpec,
   planHoldSpec, planResumeSpec, mapEditSpec 0, mapEditSpec 1, mapEditSpec 2, mapMarkSpec 3 true, mapMarkSpec 4 false,
   mapLoadBeginSpec, mapLoadCopySpec, mapLoadCommitSpec, planChainLoadSpec, planChainValidateSpec, planChainSaveSpec,
   planChainReadSpec, planChainReloadSpec, planRoadSpec, barrierSpec, hopStatusSpec, isoStatusSpec, netStatusSpec,
   netRouteSpec, netQstatSpec, netWatchSpec, netSendSpec, netRecvSpec, netSchedLoadSpec, netSchedValidateSpec,
   netSchedSaveSpec]

/-- Specifications of all opcodes and operations, second half. -/
def specsB : List CmdSpec :=
  [netSchedReadSpec, netSchedReloadSpec, moveToSpec, moveBySpec, jogSpec, stopSpec, haltSpec, followStepsSpec,
   setPositionSpec, axisStatusSpec, setParamSpec, getParamSpec, surveyRunSpec, enableUnitSpec, disableUnitSpec,
   cfgClearSpec, cfgStageSpec, cfgCheckSpec, cfgApplySpec, cfgSaveStagedSpec, cfgSaveWorkingSpec, cfgLoadStoredSpec,
   cfgReadStagingSpec, cfgEraseSpec, powerStateSpec, enableAxisSpec, disableAxisSpec, fwSpec 0 true, fwSpec 1 false,
   fwSpec 2 false, fwSpec 3 false, fwSpec 4 true, fwSpec 5 false, fwSpec 6 false, fwSpec 7 false, svcIdentSpec,
   svcCloseSpec, svcTamperSpec, svcFactorySpec, svcDebugSpec, bistRunSpec, netSleepAnnounceSpec, netSleepCancelSpec,
   netSleepStatusSpec, twinStatusSpec, twinSwitchSpec, homeFaceSpec, wedgeLearnSpec, wedgeStatusSpec]

/-- The specification of the command in hopper `h`. -/
def State.specOf (s : State) (h : Nat) : Option CmdSpec :=
  (specsA ++ specsB).find? (fun c => c.op == s.opcode h && (match c.sub with | some o => o == s.p8 h 0 | none => true))

/-- Start the waiting command of `h` when it is the next to take a start (R155, R156). -/
def State.startNext (s : State) (h : Nat) : State :=
  match s.specOf h with
  | some c => startRow c h s
  | none => s

/-- TOO_LATE of a tagged command that cannot start in frame N-1 (R162). -/
def State.tooLate (s : State) (h : Nat) : State := s.refuse h 0x0C 1 []

/-- TAGGED_COMMAND_START: a tagged command starts in frame N-1 or late; with LATEREJ and no start left it is TOO_LATE (R161, R162). -/
def execTaggedCommandStart (h : Fin 32) (s : State) : Host.Outcome State Fault Refusal :=
  .next (
    if s.tagged h && s.laterej h && (s.stage h).waiting && decide (s.dist h ≤ 1) && s.intake.starts == 0 then
      (s.tooLate h).settle
    else if s.tagged h then s.startNext h
    else s)

/-- WAITING_COMMAND_START: a command whose hold, axis or barrier condition has ended takes a start (R156, R158, R173). -/
def execWaitingCommandStart (h : Fin 32) (s : State) : Host.Outcome State Fault Refusal := .next (s.startNext h)

end Sys2Proof.Machine
end

