-- ==== Sys2Proof/Machine/Frame.lean ====
section
/-! DEFINITION. FRAME_BOUNDARY: the end of a frame's work, the hardware boundary, and steps 2 to 4 of the frame that begins
(01 Table ARCH-5, R26 to R30; 05 R149, R153 to R156; 19 R585 to R598). -/

namespace Sys2Proof.Machine

/-! ### Steps 5 to 15 of the frame that ends -/

/-- Tagged commands for the boundary that comes, taken and not started, with LATEREJ (R162); a barrier that waited only for them is over
(R172). -/
def State.lateEnds (s : State) : State :=
  (s.byTaking.filter (fun h => (s.stage h).waiting && s.tagged h && s.laterej h && decide (s.dist h ≤ 1))).foldl State.tooLate s

/-- The twin record and steps 7 to 15 (Table ARCH-5). -/
def State.frameWork (s : State) : State :=
  let s := s.twinSend
  let s := forAxes s (fun n t => (t.followUse n).wedgeStep n)
  let s := forAxes s.sensorUse (fun n t => t.posError n)
  let s := forAxes s (fun n t => t.followTake n)
  let s := if s.clock.pllc == .locked && !s.iso.listenOnly then s.updIso (fun i => { i with tx := [] }) else s
  ((s.forwardStep.rmMaintain).lateEnds).endBarriers

/-! ### Step 1: the hardware boundary -/

/-- Cycles by which an offset in ns, divided among 20 frames, lengthens each, plus the learned drift (R482). DESIGN CHOICE (log
entry 25): the quotient is taken to the nearest cycle. -/
def offsetTrim (ns : Int) (last : List Int) : Int := ratNear ((ns : Rat) / 100) + Config.learnedDrift last

/-- Trim that the frame reference calls for: the partner's records while the device is not ACTIVE (R535), the beacons of the
upstream port (R481, R482), the SYNC edges, or none (R26). A reference that has been missing for 1 sf calls for none (01, edge
case; log entry 25). -/
def State.refTrim (s : State) : Int :=
  if s.unitOn 8 && s.twin.role != .active && s.twin.link == .up then
    (if s.twin.lastSent.isSome && decide (s.since s.twin.lastFrame ≤ 20) then offsetTrim s.twin.align s.twin.aligns else 0)
  else match s.par 0x0010 with
    | 1 =>
      (match s.upstream with
       | some p =>
         let q := s.ports.get p
         if s.netOn p && q.sync != .unsynced && q.offAt.isSome && decide (s.since q.bcnAt ≤ 20) then offsetTrim q.offset q.offsets else 0
       | none => 0)
    | 2 =>
      (match s.frame.syncLast with
       | some t => if !s.frame.syncLost && decide (s.frame.tickBase < t + 200000) then s.frame.syncTrim else 0
       | none => 0)
    | _ => 0

/-- Trim of the frame that ends, in cycles (R26). -/
def State.trimNow (s : State) : Int := clampI (-(s.par 0x0012 : Int)) (s.par 0x0012) s.refTrim

/-- Superframe counter and index after the boundary (R27, R28). -/
def FrameSt.after (f : FrameSt) : BitVec 32 × Nat :=
  match f.realign with
  | some (sf, i) => (sf, i % 20)
  | none => if 19 ≤ f.index then (f.superframe + 1, 0) else (f.superframe, f.index + 1)

/-- The counters of a frame that lasted 10,000 + `trim` cycles (R26 to R28). -/
def FrameSt.boundary (f : FrameSt) (commit : Bool) (trim : Int) (limit : Nat) : FrameSt :=
  let at_ := f.after
  let held := decide (0 < limit) && decide (trim.natAbs = limit)
  { f with counter := f.counter + 1, superframe := at_.1, index := at_.2, commit := commit, realign := none, trim := trim
           trimHeld := if held then min 0xFFFF (f.trimHeld + 1) else 0
           tickBase := f.tickBase + (10000 + trim).toNat }

def State.tick (s : State) (commit : Bool) (trim : Int) : State :=
  let s := s.runClock (10000 + trim).toNat
  { s with frame := s.frame.boundary commit trim (s.par 0x0012), power := { s.power with
    keyOn := s.power.keyOn - 1
    auxHold := if s.power.aux.stage == .up 1 && decide (s.power.vm < 6500) then s.power.auxHold + 1 else s.power.auxHold } }

/-- Commands that act from a boundary by the engines (R147). -/
def actsAtBoundary (op : Nat) : Bool := [0x0103, 0x0104, 0x0105, 0x0106, 0x0107, 0x0108, 0x0140, 0x0220, 0x0505].contains op

/-- Started commands whose boundary this is, in taking order. -/
def State.acting (s : State) : List Nat :=
  s.byTaking.filter (fun h => s.stage h == .started && actsAtBoundary (s.opcode h) && (s.hop h).start == some s.frame.counter &&
    s.motion.toList.all (fun m => m.cmd != some h))

/-- A motion command brings its axes back to the moving amplitude (R249). -/
def State.wakeCoils (s : State) (h : Nat) : State :=
  (maskAxes (s.motionMask h)).foldl (fun t n =>
    (t.updCur n (fun x => { x with woken := true })).updMotion n (fun m => { m with holdF := 0 })) s

/-- A motion command that acts abandons the tests of its axes (R345). -/
def State.dropTests (s : State) (h : Nat) : State :=
  (maskAxes (s.motionMask h)).foldl (fun t n => t.abandonTest n (s.seqNo h)) s

/-- A step of the engine may have set the position of axis `n`, which was `p`, by assignment: compare units and the position error follow
(R397, R389; log entry 19). -/
def State.followShift (s : State) (n : Fin 4) (p : Int) : State :=
  let d := (s.motion.get n).p - p
  if d = 0 then s else s.rebaseAxis n d

/-- The command of `h` acts. -/
def State.act (s : State) (h : Nat) : State :=
  if s.stage h != .started then s
  else
    let s := if s.isMotion h then (s.dropTests h).wakeCoils h else s
    match s.opcode h with
    | 0x0103 | 0x0104 => actMove h s
    | 0x0105 => actJog h s
    | 0x0106 => actStop h (s.abandonTest (s.axisOf h) (s.seqNo h))
    | 0x0107 => actHalt h (s.abandonTest (s.axisOf h) (s.seqNo h))
    | 0x0108 => actFollowSteps h s
    | 0x0140 => (actHomeFace h s).followShift (s.axisOf h) (s.motion.get (s.axisOf h)).p
    | 0x0220 => actFollowSpeed h s
    | 0x0505 => actPlanRun h s
    | _ => s

/-- A waiting SET_POSITION moves the position; compare units and the position error follow (R234, R397, R389). -/
def State.setPosNow (s : State) (n : Fin 4) : State :=
  if (s.motion.get n).setTo.isNone then s
  else
    let old := (s.motion.get n).p
    let t := s.applySetPos n
    t.rebaseAxis n ((t.motion.get n).p - old)

/-- Shadow registers of the frame that ended take effect: a takeover frame ends, positions are set, commands act, then running
values change (R16, R179, R180, R214, R234). -/
def State.applyShadows (s : State) : State :=
  let s := forAxes s (fun n t => (t.endTakeover n).setPosNow n)
  let s := s.acting.foldl State.act s
  let new := s.params.commit
  { s with params := { s.params with running := new.foldl (fun l e => tabSet l e.1 e.2 (pDefault e.1)) s.params.running, commit := [] } }

/-- At rest, in STEPF at standstill, the windows of the next motion begin anew (R277). -/
def State.restWindows (s : State) (n : Fin 4) : State :=
  let m := s.motion.get n
  if s.wedgeVel n = 0 ∧ m.acc = 0 ∧ m.state ≠ .haul then s.updWedge n WedgeSt.rest else s

/-- One axis at a boundary, before commands act. -/
def State.axisEnds (s : State) (n : Fin 4) : State :=
  let s := (s.stallBoundary n).settleAxis n
  (s.homeBoundary n).followShift n (s.motion.get n).p

/-- What one axis, its channel and its compare units take over at a boundary. -/
def State.axisTakes (s : State) (n : Fin 4) : State :=
  let s := (((s.learnBoundary n).ledgeNow n).followBoundary n).regBoundary n
  (both2.foldl (fun t u => t.cmpBoundary n u) (s.chanBoundary n)).driveAux n

/-- One axis at a boundary, after commands have acted. `old`: tick of the boundary before. Without the commit flag the engines
keep their settings (R30). -/
def State.axisGoes (s : State) (commit : Bool) (old : Nat) (n : Fin 4) : State :=
  let s := ((s.boundEnable n).boundLatches n).endRecal n
  let s := if commit then s.axisTakes n else s
  let stepped := match (s.motion.get n).lastStep with | some t => decide (old < t) | none => false
  let s := s.boundAxis n stepped
  let s := if commit then s.curBoundary n else s
  ((s.peStall n).stallAvail n).restWindows n

/-- Status latched at the boundary: the snapshot record, supplies, load and presence (R141, R189, R562, R564). -/
def State.latchStatus (s : State) : State :=
  let blk (n : Fin 4) : Nat :=
    let m := s.motion.get n
    let c := s.cur.get n
    enc 32 m.pAt * 2 ^ 80 + enc 32 (velField m.vel) * 2 ^ 48 + enc 16 (satS 16 (s.lsbMa n c.coilA.sample)) * 2 ^ 32
      + enc 16 (satS 16 (s.lsbMa n c.coilB.sample)) * 2 ^ 16 + m.elec * 64 + (s.seq n).code * 4
  let all := ((s.fr * 256 + s.frame.index) * 2 ^ 24 + s.ftsum % 2 ^ 24) * 2 ^ 448
    + blk 0 * 2 ^ 336 + blk 1 * 2 ^ 224 + blk 2 * 2 ^ 112 + blk 3
  { s with link := { s.link with snapshot := (leBytes 64 all).reverse }
           host := { s.host with vmMeas := min 0xFFFF s.power.vm, vbatMeas := min 0xFFFF s.power.vbat, loadpm := s.loadNow }
           svc := { s.svc with winBound := s.svc.window.isSome, sealBound := s.sealHolds } }

/-- The boundary as the hardware and the engines make it. -/
def State.hardBoundary (s : State) (commit : Bool) (trim : Int) (hbk : Quad Nat) : State :=
  let old := s.frame.tickBase
  let s := (s.tick commit trim).shadowStep
  let s := forPorts s (fun p t => t.cycLatch p)
  let s := forAxes s (fun n t => t.stepSettle n t.frame.tickBase)
  let s := forAxes s (fun n t => t.axisEnds n)
  let s := if commit then s.applyShadows else s
  let s := if commit then ((s.runBoundary).runRamp.runGen).mapBoundary else s
  let s := forAxes s (fun n t => t.axisGoes commit old n)
  let s := forAxes s (fun n t => t.testPhase n)
  let s := { s with mon := { s.mon with insFrame := Quad.all false, adcNext := 0 } }
  ((s.sensorLatch.brakeFrame hbk).itemService).latchStatus

/-! ### Steps 2 and 3: faults and safe states -/

/-- Entries that were to become inactive do (R596, R597); states that end with their faults follow. -/
def State.clearFaults (s : State) : State :=
  let gone := s.faults.active.filter (fun e => e.going != 0)
  let s := { s with faults := { s.faults with active := s.faults.active.filter (fun e => e.going == 0) } }
  (gone.filter (fun e => e.going == 2)).foldl (fun t e => t.ev 0x0023 e.code) s

/-- What stands off or locked until its fault is cleared (R105, R341, R357; the interval unit of R207). -/
def State.unlock (s : State) : State :=
  let live (c : Nat) : Bool := s.faultActive c || s.faults.raised.any (fun r => r.1 == c)
  let s := if live 0x0404 then s else forAxes s (fun n t => if (t.gate.get n).hwOff then t.updGate n (fun g => { g with hwOff := false }) else t)
  let s := if live 0x0404 || !s.mon.shut then s else { s with mon := { s.mon with shut := false } }
  let s := if live 0x0420 then s else forAxes s (fun b t => if (t.mon.brakes.get b).locked then t.updBrake b (fun x => { x with locked := false }) else t)
  let s := if live 0x0102 then s
    else forAxes s (fun n t =>
      let m := t.motion.get n
      if m.halted && m.state == .idle && (t.wedge.get n).stall.isNone then t.updMotion n (fun m => { m with halted := false }) else t)
  (s.supplyClear).itemClear

/-- A fault noted in the last frame is raised, and the reactions of its chapter that wait for the boundary are made (R585). -/
def State.raiseNoted (s : State) (r : Nat × Nat × BitVec 4 × Bool) : State :=
  let (code, qual, axes, cond) := r
  let s := s.raise code qual axes cond
  match code with
  | 0x1401 => s.crystalLost code
  | 0x1403 | 0x1404 => s.markLock code
  | 0x0101 =>
    forAxes s (fun n t =>
      if axes.getLsbD n.val && (t.motion.get n).state == .stepf then t.rampToRest n (t.ax n 0x43) else t)
  | 0x0103 =>
    forAxes s (fun n t =>
      if axes.getLsbD n.val && (t.motion.get n).state == .haul then
        let x := t.nowXva n
        let on := (t.motion.get n).ledge.isSome
        let t := t.leaveRun n 0xFFFF
        -- the ramp of R231 that runs already goes on
        if on then t.updMotion n (fun m => { m with state := .stopping }) else t.rampFrom n x (t.ax n 0x43)
      else t)
  | _ => s

/-- Faults and events noted since the last boundary (R585, R600). -/
def State.raiseAll (s : State) : State :=
  let l := s.faults.raised
  let e := s.faults.evNext
  let s := { s with faults := { s.faults with raised := [], evNext := [] } }
  let s := l.foldl State.raiseNoted s
  e.foldl (fun t x => t.ev x.1 x.2) s

/-- The entry holds the device SAFE (R593). -/
def State.holdsSafe (s : State) (e : FaultEnt) : Bool :=
  e.react == 5 || e.code == 0x1201 || e.code == 0x1202 || (e.code == 0x1402 && e.lock) ||
    (e.code == 0x0912 && s.svc.flashSafe) || e.code == 0x0913 || e.code == 0x0914

/-- The entry's reaction acts by now (R585). -/
def State.reactionActs (s : State) (e : FaultEnt) : Bool := decide ((s.frame.counter - e.acts).toNat < 2 ^ 31)

/-- SAFE ends, or begins (R593, R594). -/
def State.deviceSafe (s : State) : State :=
  let s := if s.faults.device && !s.faults.active.any s.holdsSafe && s.faults.safeDue.isNone then
      ({ s with faults := { s.faults with device := false, safeAx := 0 } } : State).ev 0x0022 0
    else s
  match s.faults.safeDue with
  | some c => s.enterSafe c
  | none =>
    -- the reaction of an over-voltage waits for the release of the clamp (R107)
    match s.faults.active.find? (fun e => e.react == 5 && s.reactionActs e && !(e.code == 0x1307 && s.power.vmOv)) with
    | some e => if s.faults.device then s else s.enterSafe e.code
    | none => s

/-- Safe state from the entries `l` alone. -/
def State.safeFrom (s : State) (l : List FaultEnt) (n : Fin 4) : Nat :=
  ({ s with faults := { s.faults with active := l } } : State).safeOf n

/-- The fault that makes safe state `v` due for axis `n`. -/
def State.causeOf (s : State) (n : Fin 4) (v : Nat) : Nat :=
  match s.faults.active.find? (fun e => s.safeFrom [e] n == v) with
  | some e => e.code
  | none => s.faults.cause

/-- QUIET or CLAMP begins for an axis whose switches work (R590). -/
def State.actQuiet (s : State) (n : Fin 4) (v code : Nat) : State :=
  let moved := s.movedLately n
  let s := (s.dropAxis n 6 code).endUnacted n 6 code
  let s := (s.abandonTest n 0xFFFF).switchesOff n
  let s := { s with faults := { s.faults with safe := s.faults.safe.set n v } }
  let s := if v = 4 && s.axReady n then s.clampOn n else s
  ((s.brakeOff n).lostPos n moved).updWedge n WedgeSt.rest

/-- HALT begins for a Ready axis (R589). -/
def State.actFaultHalt (s : State) (n : Fin 4) (code : Nat) : State :=
  let s := s.abandonTest n 0xFFFF
  match (s.motion.get n).state with
  | .halted | .halting => s
  | _ =>
    let x := s.nowXva n
    ((((s.leaveRun n 0xFFFF).endCmd n 6 code).endStop n 6 code).endUnacted n 6 code).haltRamp n x

/-- The last fault that held the axis in HALT is gone (R598). A ramp under way ends in IDLE. -/
def State.releaseHalt (s : State) (n : Fin 4) : State :=
  s.updMotion n (fun m =>
    match m.state with
    | .halted => m.toIdle
    | .halting => if m.stopCmd.isNone then { m with state := .stopping } else m
    | _ => m)

/-- The safe state of one axis at a boundary (R587 to R592, R598). `gone`: entries that became inactive here. -/
def State.safeAxis (s : State) (gone : List FaultEnt) (n : Fin 4) : State :=
  let old := s.faults.safe.get n
  let f := max (s.safeOf n) (if s.faults.device && s.faults.safeAx.getLsbD n.val then 3 else 0)
  let s := if decide (f < 2) && decide (2 ≤ s.safeFrom gone n) then s.releaseHalt n else s
  let live := s.axReady n || s.seq n == .d1
  let s :=
    if f = 2 then (if s.axReady n then s.actFaultHalt n (s.causeOf n f) else s)
    else if old < f && live then s.actQuiet n f (s.causeOf n f)
    else s
  let v := max f (if (s.motion.get n).state == .halted && live then 2 else 0)
  let s := { s with faults := { s.faults with safe := s.faults.safe.set n v } }
  -- a Wedge period in which a safe state acts is invalid (R278)
  let s := if v = 0 then s else s.wedgeSpoil n
  s.evIf (v != old) 0x0020 (n.val * 256 + safeCode v)

/-- STOP reactions whose boundary this is (R588). -/
def State.stopReactions (s : State) : State :=
  (s.faults.active.filter (fun e => e.react == 1 && e.acts == s.frame.counter)).foldl (fun t e =>
    let sc := t.scopeOf e
    forAxes t (fun n t =>
      let x := t.nowXva n
      let moves := match (t.motion.get n).state with | .pos | .vel | .stepf | .speedf | .haul => true | _ => false
      if sc.testBit n.val && t.axReady n && !t.pinMode n && moves && decide (x.2.1 ≠ 0 ∨ x.2.2 ≠ 0) then
        (((t.leaveRun n 0xFFFF).endCmd n 6 e.code).rampFrom n x (t.ax n 0x43))
      else t)) s

/-- A boundary without the commit flag: nothing of the ended frame takes effect, FT-0x1201 and SAFE (R30). -/
def State.overrun (s : State) : State :=
  let lost := s.acting
  let s := ((s.actoClear).raiseFree 0x1201 0 false).enterSafe 0x1201
  lost.foldl (fun t h => if t.stage h == .started then t.refuse h 6 0x1201 [] else t) s

/-- The coil drives that a regulation check ended are released where the reaction to its fault acts (R265). -/
def State.coilReaction (s : State) : State :=
  let l := s.faults.active.filter (fun e => (e.code == 0x0120 || e.code == 0x0121) && s.reactionActs e)
  forAxes s (fun n t => if l.any (fun e => e.axes.getLsbD n.val) then t.coilsBack n else t)

/-- Steps 2 and 3 (Table ARCH-5). -/
def State.faultStep (s : State) (commit : Bool) : State :=
  let gone := s.faults.active.filter (fun e => e.going != 0)
  let s := (s.clearFaults.unlock).raiseAll
  let s := if commit then s else s.overrun
  let s := s.twinBoundary
  let s := s.deviceSafe
  let s := s.stopReactions
  let s := (forAxes s (fun n t => t.safeAxis gone n)).coilReaction
  let s := if s.unitOn 8 then s.readyStep else s
  match s.power.change with
  | some .standby | some .sleep => s.bistCancel (fun _ => true)
  | _ => s

/-! ### Step 4: registration (R149, R153, R154, R496) -/

/-- Sorted order of R154 for hoppers handed over by one source. -/
def State.circular (s : State) (l : List Nat) : List Nat :=
  let d (a b : Nat) : Nat := (s.seqNo a + 65536 - s.seqNo b) % 65536
  match l.find? (fun h => l.all (fun x => decide (d x h ≤ 32767))) with
  | some h0 => sortBy (fun a b => decide (d a h0 < d b h0) || (decide (d a h0 = d b h0) && decide (a < b))) l
  | none => sortBy (fun a b => decide (s.seqNo a < s.seqNo b) || (decide (s.seqNo a = s.seqNo b) && decide (a < b))) l

/-- Judgement of a sorted group against the source's state: hopper and SEQ_ERROR detail, 0 for accepted. -/
def State.seqJudge (s : State) (was : Option (BitVec 16)) (check : Bool) : Option Nat → List Nat → List (Nat × Nat)
  | _, [] => []
  | prev, h :: r =>
    let q := s.seqNo h
    let bad :=
      if !check then 0
      else if prev = some q then 2
      else match was with | some l => if newer 16 q l.toNat then 0 else 1 | none => 0
    (h, bad) :: s.seqJudge was check (some q) r

/-- A command is registered, its fabric-time tag converted (R149, R496). -/
def State.register (s : State) (h : Nat) : State :=
  let no := s.intake.nextReg
  let s := ({ s with intake := { s.intake with nextReg := no + 1 } } : State).setHop h (fun x => { x with stage := .registered, regNo := no })
  if (s.hop h).ftime && s.tagged h then
    (if s.devSynced then
      let fab := s.frame.superframe * 20 + BitVec.ofNat 32 s.frame.index
      s.putSlot (128 * h + 8) (le32 (s.execFrame h + (s.frame.counter - fab)).toNat)
    else (s.refuse h 8 8 []).evFree 0x0609)
  else s

/-- Register one source's group; the answer carries the source's new sequence (R154). -/
def State.registerGroup (s : State) (was : Option (BitVec 16)) (check : Bool) (l : List Nat) : Option (BitVec 16) × State :=
  let j := s.seqJudge was check none (s.circular l)
  let last := ((j.filter (fun x => x.2 == 0)).getLast?).map (fun x => BitVec.ofNat 16 (s.seqNo x.1))
  let t := j.foldl (fun t x => if x.2 = 0 then t.register x.1 else t.refuse x.1 0x0A x.2 []) s
  (match last with | some q => some q | none => was, t)

/-- Put a source address's state in, discarding the oldest of more than 32, of equally old ones the lowest address (R153). DESIGN CHOICE
(log entry 32): of a fabric and an ISOBUS address of one number and age, the one first held. -/
def putSeq (l : List SeqState) (e : SeqState) (now : BitVec 32) : List SeqState :=
  let l := l.filter (fun x => !(x.iso == e.iso && x.addr == e.addr))
  let older (a b : SeqState) : Bool :=
    let x := (now - a.last).toNat; let y := (now - b.last).toNat
    decide (y < x) || (decide (x = y) && decide (a.addr < b.addr))
  let l := if l.length < 32 then l
    else match sortBy older l with | o :: _ => l.filter (fun x => x != o) | [] => l
  l ++ [e]

/-- Register the commands of one fabric or ISOBUS source address. -/
def State.registerFrom (s : State) (iso : Bool) (addr : Nat) (rung : List Nat) : State :=
  let l := rung.filter (fun h => (srcOf h == if iso then 2 else 1) && (s.hop h).srcAddr == addr)
  let was := (s.intake.virtSeq.find? (fun x => x.iso == iso && x.addr == addr)).map (·.seq)
  let (q, t) := s.registerGroup was true l
  match q with
  | some v =>
    let e : SeqState := { iso := iso, addr := addr, seq := v, last := t.frame.counter }
    { t with intake := { t.intake with virtSeq := putSeq t.intake.virtSeq e t.frame.counter } }
  | none => t

/-- Registration of every command handed over before the boundary (R149). DESIGN CHOICE (log entry 32): within one frame the sources
register in the order host, fabric addresses ascending, ISOBUS addresses ascending, internal; the manual orders only the commands of
one source. -/
def State.registerAll (s : State) : State :=
  -- past its checkpoint Quiesced SYS has closed the hoppers (Table PWR-7)
  let rung := if s.sysServes then hops32.filter (fun h => s.stage h == .rung) else []
  let addrs (k : Nat) : List Nat := sortBy (fun a b => decide (a < b)) (dedup ((rung.filter (fun h => srcOf h == k)).map (fun h => (s.hop h).srcAddr)))
  let host := rung.filter (fun h => h < 16)
  let (q, t) := if host.isEmpty then (s.intake.hostSeq, s) else s.registerGroup s.intake.hostSeq (s.par 0x0071 != 0) host
  let t := { t with intake := { t.intake with hostSeq := q } }
  let t := (addrs 1).foldl (fun t a => t.registerFrom false a rung) t
  let t := (addrs 2).foldl (fun t a => t.registerFrom true a rung) t
  (rung.filter (fun h => srcOf h == 3)).foldl State.register t

/-- The command of a stop's mark is in flight and has not acted (R163). -/
def State.stopDue (s : State) (m : StopMark) : Bool :=
  hops32.any (fun x => isStopOp (s.opcode x) && srcOf x == m.source && (s.hop x).srcAddr == m.srcAddr && s.seqNo x == m.seq.toNat &&
    ((s.stage x).waiting || (s.stage x == .started && (s.hop x).start.isNone)))

/-- The mark of a stop at the begin of a frame: one that starts late acts from the next frame on; none when it has acted (R162, R163). -/
def State.stopMark (s : State) (m : StopMark) : Option StopMark :=
  if 0 < s.ahead m.acts then some m
  else if s.stopDue m then some { m with acts := s.frame.counter + 1 } else none

/-- Intake of the frame: four starts, the turn one source further on, stops that have acted forgotten (R155, R156, R163). -/
def State.openIntake (s : State) : State :=
  let b := (s.intake.turnBase + 1) % 4
  let stops := s.intake.stops.filterMap s.stopMark
  { s with intake := { s.intake with starts := if s.sysServes then 4 else 0, turnBase := b, turn := b, stops := stops } }

/-- Completions that waited for room in a queue (R512). -/
def State.answerAgain (s : State) : State :=
  (hops32.filter (fun h => s.stage h == .answering)).foldl State.giveBack s

/-! ### Work of a superframe (R27) -/

/-- Flags of events that are raised once in each superframe. -/
def State.clearSeen (s : State) : State :=
  let s := forAxes s (fun n t =>
    let t := t.updCur n (fun x => { x with shortSeen := false })
    let t := both2.foldl (fun t u => t.updCmp n u (fun x => { x with mergeSeen := false })) t
    let t := (t.updFollow n (fun x => { x with clampSeen := false })).updMotion n (fun m => { m with ledgeSeen := false })
    (t.updGate n (fun g => { g with platSeen := false, boundSeen := false })).chanSuper n)
  let s := both2.foldl (fun t d => t.updDiv d (fun x => { x with seen := false })) s
  { s with
    sensor := { s.sensor with failSeen := false }
    plan := { s.plan with rmSeen := false }
    frame := { s.frame with brkSeen := false, syncRej := false }
    iso := { s.iso with etpSeen := false }
    intake := { s.intake with rejSeen := false, busySeen := false } }

/-- The service block: presence window, tamper loop, tamper record (R563, R567, R568). -/
def State.svcSuper (s : State) : State :=
  let v := s.svc
  let v := { v with window := v.window.map (· - 1), refSeen := false
                    loopOk := if s.loopWatched then min 0xFFFF (v.loopOk + 1) else v.loopOk }
  { s with svc := match v.tamperDue with
      | some k => { v with tamperRec := some (v.tamperAt, k), tamperDue := none }
      | none => v }

def State.superframe (s : State) : State :=
  let s := s.clearSeen
  (((s.fabSuper.twinSuper).itemsSuper).wedgeSuper).svcSuper

/-! ### The whole boundary -/

/-- ACTIVATE: SYS restarts into the pending bank (R576, R90). -/
def State.activateNow (s : State) : State :=
  let s := forAxes s (fun n t => if t.axOff n then t else t.switchesOff n)
  let s := ((s.brakesOff.actoClear).sysClear 5).requestStart
  s.beginStep .sys (.up 1) none

/-- Step 4 and the sequencers. -/
def State.frameOpens (s : State) : State :=
  let s := forAxes s (fun n t => t.axSeqFrame n)
  let s := s.openIntake.answerAgain
  let s := s.registerAll.issueActions
  let s := if s.frame.index = 0 then s.superframe else s
  let s := forPorts s (fun p t => if t.netOn p then t.cycRelease p else t)
  let s := if s.par 0x0062 = 0 then { s with link := { s.link with wdArmed := false } } else s
  ((s.unitsService.changeStep).settleDoms).settle

/-- FRAME_BOUNDARY: the frame ends, trimmed toward its reference. `commit`: the firmware set the commit flag in it. `hbk`: the
brake currents sampled in it, in mA (R16, R26 to R30, Table ARCH-5). -/
def execFrameBoundary (commit : Bool) (hbk : Quad Nat) (s : State) : Host.Outcome State Fault Refusal :=
  .next (
    if !s.frame.running then s
    else if s.svc.restart then s.activateNow
    else (((s.frameWork.hardBoundary commit s.trimNow hbk).faultStep commit).frameOpens))

end Sys2Proof.Machine
end

