-- ==== Sys2Proof/Machine/Dispatch.lean ====
section
/-! DEFINITION. The one match from commands to meanings (one arm per constructor). -/

namespace Sys2Proof.Machine

/-- The effect of a command on everything but the queue. -/
def exec (i : Instr) (s : State) : Host.Outcome State Fault Refusal :=
  match i with
  | .powerOn vbat => Sys2Proof.Machine.execPowerOn vbat s
  | .powerOff vbat => Sys2Proof.Machine.execPowerOff vbat s
  | .brownOut vbat us => Sys2Proof.Machine.execBrownOut vbat us s
  | .reset => Sys2Proof.Machine.execReset s
  | .resetRelease tsten roleUp roleDown => Sys2Proof.Machine.execResetRelease tsten roleUp roleDown s
  | .wakeSource src periods us vbat level => Sys2Proof.Machine.execWakeSource src periods us vbat level s
  | .checkpointReached u vals => Sys2Proof.Machine.execCheckpointReached u vals s
  | .checkpointTimeout u us => Sys2Proof.Machine.execCheckpointTimeout u us s
  | .axisUpStart n => Sys2Proof.Machine.execAxisUpStart n s
  | .vmUndervoltage vm us => Sys2Proof.Machine.execVmUndervoltage vm us s
  | .vmRestored vm sf => Sys2Proof.Machine.execVmRestored vm sf s
  | .vmOvervoltage vm => Sys2Proof.Machine.execVmOvervoltage vm s
  | .vmOvervoltageRelease vm us => Sys2Proof.Machine.execVmOvervoltageRelease vm us s
  | .brakeChopperSwitch vm off => Sys2Proof.Machine.execBrakeChopperSwitch vm off s
  | .brakeChopperLimit off => Sys2Proof.Machine.execBrakeChopperLimit off s
  | .brakeDumpIneffective vm off => Sys2Proof.Machine.execBrakeDumpIneffective vm off s
  | .vgdOutOfWindow mv us => Sys2Proof.Machine.execVgdOutOfWindow mv us s
  | .supplyWindowFault which mv us => Sys2Proof.Machine.execSupplyWindowFault which mv us s
  | .reverseFetOn rbs vbat us => Sys2Proof.Machine.execReverseFetOn rbs vbat us s
  | .reverseFetOff rbs vbat => Sys2Proof.Machine.execReverseFetOff rbs vbat s
  | .reverseFetNotEnhanced rbs vbat rbcp sf => Sys2Proof.Machine.execReverseFetNotEnhanced rbs vbat rbcp sf s
  | .frameBoundary commit hbk => Sys2Proof.Machine.execFrameBoundary commit hbk s
  | .lockstepMismatch => Sys2Proof.Machine.execLockstepMismatch s
  | .crystalLoss => Sys2Proof.Machine.execCrystalLoss s
  | .crystalRestore devs => Sys2Proof.Machine.execCrystalRestore devs s
  | .clockSettlingEnd => Sys2Proof.Machine.execClockSettlingEnd s
  | .pllLockTimeout p => Sys2Proof.Machine.execPllLockTimeout p s
  | .pllLockLoss p => Sys2Proof.Machine.execPllLockLoss p s
  | .pllRelock p us held gone => Sys2Proof.Machine.execPllRelock p us held gone s
  | .lfTrim dev => Sys2Proof.Machine.execLfTrim dev s
  | .syncEdge off high => Sys2Proof.Machine.execSyncEdge off high s
  | .syncReferenceLoss off => Sys2Proof.Machine.execSyncReferenceLoss off s
  | .frameTrimLimit => Sys2Proof.Machine.execFrameTrimLimit s
  | .standstillRecalStart n => Sys2Proof.Machine.execStandstillRecalStart n s
  | .calibrationEnd n => Sys2Proof.Machine.execCalibrationEnd n s
  | .heldCommandTimeout h => Sys2Proof.Machine.execHeldCommandTimeout h s
  | .stepPulse n off high dir changed => Sys2Proof.Machine.execStepPulse n off high dir changed s
  | .governingEnableFall n k => Sys2Proof.Machine.execGoverningEnableFall n k s
  | .governingEnableRise n k => Sys2Proof.Machine.execGoverningEnableRise n k s
  | .pinModeInEdge n k level width vds bs => Sys2Proof.Machine.execPinModeInEdge n k level width vds bs s
  | .sealChange high => Sys2Proof.Machine.execSealChange high s
  | .presPress => Sys2Proof.Machine.execPresPress s
  | .presStuck sec => Sys2Proof.Machine.execPresStuck sec s
  | .presenceWindowExpiry ms => Sys2Proof.Machine.execPresenceWindowExpiry ms s
  | .tamperLoopBroken pulse gap => Sys2Proof.Machine.execTamperLoopBroken pulse gap s
  | .hostWriteFrame f => Sys2Proof.Machine.execHostWriteFrame f s
  | .writeApplied => Sys2Proof.Machine.execWriteApplied s
  | .hostReadFrame f => Sys2Proof.Machine.execHostReadFrame f s
  | .modeReset fall => Sys2Proof.Machine.execModeReset fall s
  | .hostSckTimeout f => Sys2Proof.Machine.execHostSckTimeout f s
  | .dbell v => Sys2Proof.Machine.execDbell v s
  | .hdoneClear v => Sys2Proof.Machine.execHdoneClear v s
  | .dbrejClear v => Sys2Proof.Machine.execDbrejClear v s
  | .attsrcClear v => Sys2Proof.Machine.execAttsrcClear v s
  | .strstatClear v => Sys2Proof.Machine.execStrstatClear v s
  | .strearlyClear => Sys2Proof.Machine.execStrearlyClear s
  | .crcerrClear => Sys2Proof.Machine.execCrcerrClear s
  | .abortcntClear => Sys2Proof.Machine.execAbortcntClear s
  | .abortwhyClear => Sys2Proof.Machine.execAbortwhyClear s
  | .rundrClear => Sys2Proof.Machine.execRundrClear s
  | .hwdog v => Sys2Proof.Machine.execHwdog v s
  | .hostWatchdogExpiry us => Sys2Proof.Machine.execHostWatchdogExpiry us s
  | .crcctlSet v => Sys2Proof.Machine.execCrcctlSet v s
  | .cmdqWrite v => Sys2Proof.Machine.execCmdqWrite v s
  | .sensorBridgeTransfer fall bits => Sys2Proof.Machine.execSensorBridgeTransfer fall bits s
  | .bridgeTransferDone read => Sys2Proof.Machine.execBridgeTransferDone read s
  | .snapshotReadout fall clocks => Sys2Proof.Machine.execSnapshotReadout fall clocks s
  | .taggedCommandStart h => Sys2Proof.Machine.execTaggedCommandStart h s
  | .waitingCommandStart h => Sys2Proof.Machine.execWaitingCommandStart h s
  | .barrierTimeout h => Sys2Proof.Machine.execBarrierTimeout h s
  | .verdictRecomputed => Sys2Proof.Machine.execVerdictRecomputed s
  | .autoEnable => Sys2Proof.Machine.execAutoEnable s
  | .microstep n off => Sys2Proof.Machine.execMicrostep n off s
  | .intervalUnitFault n => Sys2Proof.Machine.execIntervalUnitFault n s
  | .standstillReached n => Sys2Proof.Machine.execStandstillReached n s
  | .holdDelayExpiry n => Sys2Proof.Machine.execHoldDelayExpiry n s
  | .holdRampEnd n => Sys2Proof.Machine.execHoldRampEnd n s
  | .chopperTrip n c code ton => Sys2Proof.Machine.execChopperTrip n c code ton s
  | .blankingEnd n c seen ton => Sys2Proof.Machine.execBlankingEnd n c seen ton s
  | .fastDecayEnd n c gone => Sys2Proof.Machine.execFastDecayEnd n c gone s
  | .zeroComparatorTrip n c => Sys2Proof.Machine.execZeroComparatorTrip n c s
  | .offTimeEnd n c gone => Sys2Proof.Machine.execOffTimeEnd n c gone s
  | .pwmPeriod n c code => Sys2Proof.Machine.execPwmPeriod n c code s
  | .wedgeWindowEnd n va vb => Sys2Proof.Machine.execWedgeWindowEnd n va vb s
  | .wedgePeriodEnd n => Sys2Proof.Machine.execWedgePeriodEnd n s
  | .homingSettleEnd n => Sys2Proof.Machine.execHomingSettleEnd n s
  | .gateEdge n b high on off vds bs => Sys2Proof.Machine.execGateEdge n b high on off vds bs s
  | .gatePlateauEnd n b high vds vgs len lag => Sys2Proof.Machine.execGatePlateauEnd n b high vds vgs len lag s
  | .deadTimeEnd n b gone low vds bs => Sys2Proof.Machine.execDeadTimeEnd n b gone low vds bs s
  | .gateOffTimeout n b high vgs len => Sys2Proof.Machine.execGateOffTimeout n b high vgs len s
  | .bootstrapRefreshTimer n b off => Sys2Proof.Machine.execBootstrapRefreshTimer n b off s
  | .bootstrapRechargeTimeout n b mv us => Sys2Proof.Machine.execBootstrapRechargeTimeout n b mv us s
  | .bootstrapUndervoltage n b mv ns len => Sys2Proof.Machine.execBootstrapUndervoltage n b mv ns len s
  | .switchFaultDetect n b high why val on len => Sys2Proof.Machine.execSwitchFaultDetect n b high why val on len s
  | .adc1Unit u conv val slot => Sys2Proof.Machine.execAdc1Unit u conv val slot s
  | .winOutOfWindow w mv us => Sys2Proof.Machine.execWinOutOfWindow w mv us s
  | .offstateTestVerdict n mv => Sys2Proof.Machine.execOffstateTestVerdict n mv s
  | .diagAgeLimit item => Sys2Proof.Machine.execDiagAgeLimit item s
  | .diagInsertion item val => Sys2Proof.Machine.execDiagInsertion item val s
  | .brakePullInEnd b => Sys2Proof.Machine.execBrakePullInEnd b s
  | .brakeReleaseWaitEnd b => Sys2Proof.Machine.execBrakeReleaseWaitEnd b s
  | .brakeStillEngage b => Sys2Proof.Machine.execBrakeStillEngage b s
  | .hbkOvercurrent b ma ns => Sys2Proof.Machine.execHbkOvercurrent b ma ns s
  | .feedbackEdge n lines off => Sys2Proof.Machine.execFeedbackEdge n lines off s
  | .hallInvalidTimeout n us => Sys2Proof.Machine.execHallInvalidTimeout n us s
  | .speedTimeout n off => Sys2Proof.Machine.execSpeedTimeout n off s
  | .speedGateEnd n => Sys2Proof.Machine.execSpeedGateEnd n s
  | .retainedIndexCheck n => Sys2Proof.Machine.execRetainedIndexCheck n s
  | .comparePulseEnd n u us => Sys2Proof.Machine.execComparePulseEnd n u us s
  | .dividedOutputWidthEnd d gone => Sys2Proof.Machine.execDividedOutputWidthEnd d gone s
  | .sensorPortRead reads => Sys2Proof.Machine.execSensorPortRead reads s
  | .queryActivation => Sys2Proof.Machine.execQueryActivation s
  | .queryEnd => Sys2Proof.Machine.execQueryEnd s
  | .queryDeadline => Sys2Proof.Machine.execQueryDeadline s
  | .mapEditEffect => Sys2Proof.Machine.execMapEditEffect s
  | .runStartCheckDone => Sys2Proof.Machine.execRunStartCheckDone s
  | .haulSegmentStart ready => Sys2Proof.Machine.execHaulSegmentStart ready s
  | .haulClockRampEnd => Sys2Proof.Machine.execHaulClockRampEnd s
  | .runRecheckDone => Sys2Proof.Machine.execRunRecheckDone s
  | .runHoldTimeout => Sys2Proof.Machine.execRunHoldTimeout s
  | .canBusOff p tec => Sys2Proof.Machine.execCanBusOff p tec s
  | .canBusOffRecovery p runs => Sys2Proof.Machine.execCanBusOffRecovery p runs s
  | .canFrameTransmitted p cls off gone => Sys2Proof.Machine.execCanFrameTransmitted p cls off gone s
  | .beaconReceived p f off => Sys2Proof.Machine.execBeaconReceived p f off s
  | .beaconTimeout p => Sys2Proof.Machine.execBeaconTimeout p s
  | .claimReceived p f => Sys2Proof.Machine.execClaimReceived p f s
  | .claimListenEnd p => Sys2Proof.Machine.execClaimListenEnd p s
  | .claimHeld p => Sys2Proof.Machine.execClaimHeld p s
  | .segRequest p f => Sys2Proof.Machine.execSegRequest p f s
  | .segRequestTimer p => Sys2Proof.Machine.execSegRequestTimer p s
  | .segGrant p f => Sys2Proof.Machine.execSegGrant p f s
  | .routeReceived p f => Sys2Proof.Machine.execRouteReceived p f s
  | .routeExpiry seg => Sys2Proof.Machine.execRouteExpiry seg s
  | .cyclicReceived p f => Sys2Proof.Machine.execCyclicReceived p f s
  | .fabricCmd p f => Sys2Proof.Machine.execFabricCmd p f s
  | .dataReceived p f => Sys2Proof.Machine.execDataReceived p f s
  | .reassemblyTimeout p src tag => Sys2Proof.Machine.execReassemblyTimeout p src tag s
  | .sleepReceived p f => Sys2Proof.Machine.execSleepReceived p f s
  | .sleepInstant => Sys2Proof.Machine.execSleepInstant s
  | .listenWindowEnd => Sys2Proof.Machine.execListenWindowEnd s
  | .hbeatReceived p f => Sys2Proof.Machine.execHbeatReceived p f s
  | .heartbeatDeadline p addr => Sys2Proof.Machine.execHeartbeatDeadline p addr s
  | .evtReceived p f => Sys2Proof.Machine.execEvtReceived p f s
  | .nackReceived p f => Sys2Proof.Machine.execNackReceived p f s
  | .addressClaimed f => Sys2Proof.Machine.execAddressClaimed f s
  | .isoClaimTimer => Sys2Proof.Machine.execIsoClaimTimer s
  | .cannotClaimAddress => Sys2Proof.Machine.execCannotClaimAddress s
  | .commandedAddress src data => Sys2Proof.Machine.execCommandedAddress src data s
  | .isoRequest f => Sys2Proof.Machine.execIsoRequest f s
  | .isoTransportFrame f => Sys2Proof.Machine.execIsoTransportFrame f s
  | .isoTransportTimeout peer rx bam => Sys2Proof.Machine.execIsoTransportTimeout peer rx bam s
  | .isoCommand src data => Sys2Proof.Machine.execIsoCommand src data s
  | .isoSpeedMessage f => Sys2Proof.Machine.execIsoSpeedMessage f s
  | .isoStatusTimer => Sys2Proof.Machine.execIsoStatusTimer s
  | .twinLinkUp delay uid idles => Sys2Proof.Machine.execTwinLinkUp delay uid idles s
  | .twinLinkDown viol ns => Sys2Proof.Machine.execTwinLinkDown viol ns s
  | .mirrorRecord r off clean => Sys2Proof.Machine.execMirrorRecord r off clean s
  | .statusRecord r off clean => Sys2Proof.Machine.execStatusRecord r off clean s
  | .actiFall => Sys2Proof.Machine.execActiFall s
  | .actiRise => Sys2Proof.Machine.execActiRise s
  | .gpermSet us => Sys2Proof.Machine.execGpermSet us s
  | .twinPartnerTimeout => Sys2Proof.Machine.execTwinPartnerTimeout s
  | .twinAloneWaitExpiry => Sys2Proof.Machine.execTwinAloneWaitExpiry s
  | .twinSwitchTimeout => Sys2Proof.Machine.execTwinSwitchTimeout s
  | .bistTestDone pass qual => Sys2Proof.Machine.execBistTestDone pass qual s
  | .setParam h => Sys2Proof.Machine.execSetParam h s
  | .getParam h => Sys2Proof.Machine.execGetParam h s
  | .surveyRun h => Sys2Proof.Machine.execSurveyRun h s
  | .enableUnit h => Sys2Proof.Machine.execEnableUnit h s
  | .disableUnit h => Sys2Proof.Machine.execDisableUnit h s
  | .cfgImageClear h => Sys2Proof.Machine.execCfgImageClear h s
  | .cfgImageStage h => Sys2Proof.Machine.execCfgImageStage h s
  | .cfgImageCheck h => Sys2Proof.Machine.execCfgImageCheck h s
  | .cfgImageApply h => Sys2Proof.Machine.execCfgImageApply h s
  | .cfgImageSaveStaged h => Sys2Proof.Machine.execCfgImageSaveStaged h s
  | .cfgImageSaveWorking h => Sys2Proof.Machine.execCfgImageSaveWorking h s
  | .cfgImageLoadStored h => Sys2Proof.Machine.execCfgImageLoadStored h s
  | .cfgImageReadStaging h => Sys2Proof.Machine.execCfgImageReadStaging h s
  | .cfgImageErase h => Sys2Proof.Machine.execCfgImageErase h s
  | .faultStatus h => Sys2Proof.Machine.execFaultStatus h s
  | .faultClear h => Sys2Proof.Machine.execFaultClear h s
  | .eventRead h => Sys2Proof.Machine.execEventRead h s
  | .enableAxis h => Sys2Proof.Machine.execEnableAxis h s
  | .disableAxis h => Sys2Proof.Machine.execDisableAxis h s
  | .moveTo h => Sys2Proof.Machine.execMoveTo h s
  | .moveBy h => Sys2Proof.Machine.execMoveBy h s
  | .jog h => Sys2Proof.Machine.execJog h s
  | .stop h => Sys2Proof.Machine.execStop h s
  | .halt h => Sys2Proof.Machine.execHalt h s
  | .followSteps h => Sys2Proof.Machine.execFollowSteps h s
  | .setPosition h => Sys2Proof.Machine.execSetPosition h s
  | .axisStatus h => Sys2Proof.Machine.execAxisStatus h s
  | .chiselLoad h => Sys2Proof.Machine.execChiselLoad h s
  | .chiselValidate h => Sys2Proof.Machine.execChiselValidate h s
  | .chiselSave h => Sys2Proof.Machine.execChiselSave h s
  | .chiselRead h => Sys2Proof.Machine.execChiselRead h s
  | .chiselReload h => Sys2Proof.Machine.execChiselReload h s
  | .curStatus h => Sys2Proof.Machine.execCurStatus h s
  | .homeFace h => Sys2Proof.Machine.execHomeFace h s
  | .wedgeLearn h => Sys2Proof.Machine.execWedgeLearn h s
  | .wedgeStatus h => Sys2Proof.Machine.execWedgeStatus h s
  | .fbStatus h => Sys2Proof.Machine.execFbStatus h s
  | .fbSetCount h => Sys2Proof.Machine.execFbSetCount h s
  | .followSpeed h => Sys2Proof.Machine.execFollowSpeed h s
  | .folStatus h => Sys2Proof.Machine.execFolStatus h s
  | .cmpArm h => Sys2Proof.Machine.execCmpArm h s
  | .cmpStatus h => Sys2Proof.Machine.execCmpStatus h s
  | .spStatus h => Sys2Proof.Machine.execSpStatus h s
  | .gateStatus h => Sys2Proof.Machine.execGateStatus h s
  | .offstateTest h => Sys2Proof.Machine.execOffstateTest h s
  | .diagStatus h => Sys2Proof.Machine.execDiagStatus h s
  | .mapLoadBegin h => Sys2Proof.Machine.execMapLoadBegin h s
  | .mapLoadCopy h => Sys2Proof.Machine.execMapLoadCopy h s
  | .mapLoadCommit h => Sys2Proof.Machine.execMapLoadCommit h s
  | .mapEditOccupy h => Sys2Proof.Machine.execMapEditOccupy h s
  | .mapEditFree h => Sys2Proof.Machine.execMapEditFree h s
  | .mapEditClear h => Sys2Proof.Machine.execMapEditClear h s
  | .mapEditMarkValid h => Sys2Proof.Machine.execMapEditMarkValid h s
  | .mapEditMarkInvalid h => Sys2Proof.Machine.execMapEditMarkInvalid h s
  | .planChainLoad h => Sys2Proof.Machine.execPlanChainLoad h s
  | .planChainValidate h => Sys2Proof.Machine.execPlanChainValidate h s
  | .planChainSave h => Sys2Proof.Machine.execPlanChainSave h s
  | .planChainRead h => Sys2Proof.Machine.execPlanChainRead h s
  | .planChainReload h => Sys2Proof.Machine.execPlanChainReload h s
  | .planQuery h => Sys2Proof.Machine.execPlanQuery h s
  | .planRun h => Sys2Proof.Machine.execPlanRun h s
  | .planStop h => Sys2Proof.Machine.execPlanStop h s
  | .planHold h => Sys2Proof.Machine.execPlanHold h s
  | .planResume h => Sys2Proof.Machine.execPlanResume h s
  | .planRoad h => Sys2Proof.Machine.execPlanRoad h s
  | .netStatus h => Sys2Proof.Machine.execNetStatus h s
  | .netRoute h => Sys2Proof.Machine.execNetRoute h s
  | .netSend h => Sys2Proof.Machine.execNetSend h s
  | .netRecv h => Sys2Proof.Machine.execNetRecv h s
  | .netSchedLoad h => Sys2Proof.Machine.execNetSchedLoad h s
  | .netSchedValidate h => Sys2Proof.Machine.execNetSchedValidate h s
  | .netSchedSave h => Sys2Proof.Machine.execNetSchedSave h s
  | .netSchedRead h => Sys2Proof.Machine.execNetSchedRead h s
  | .netSchedReload h => Sys2Proof.Machine.execNetSchedReload h s
  | .netSleepAnnounce h => Sys2Proof.Machine.execNetSleepAnnounce h s
  | .netSleepCancel h => Sys2Proof.Machine.execNetSleepCancel h s
  | .netSleepStatus h => Sys2Proof.Machine.execNetSleepStatus h s
  | .netQstat h => Sys2Proof.Machine.execNetQstat h s
  | .netWatch h => Sys2Proof.Machine.execNetWatch h s
  | .isoStatus h => Sys2Proof.Machine.execIsoStatus h s
  | .twinStatus h => Sys2Proof.Machine.execTwinStatus h s
  | .twinSwitch h => Sys2Proof.Machine.execTwinSwitch h s
  | .fwUpdateBegin h => Sys2Proof.Machine.execFwUpdateBegin h s
  | .fwUpdateWrite h => Sys2Proof.Machine.execFwUpdateWrite h s
  | .fwUpdateWriteInline h => Sys2Proof.Machine.execFwUpdateWriteInline h s
  | .fwUpdateVerify h => Sys2Proof.Machine.execFwUpdateVerify h s
  | .fwUpdateCommit h => Sys2Proof.Machine.execFwUpdateCommit h s
  | .fwUpdateActivate h => Sys2Proof.Machine.execFwUpdateActivate h s
  | .fwUpdateConfirm h => Sys2Proof.Machine.execFwUpdateConfirm h s
  | .fwUpdateAbort h => Sys2Proof.Machine.execFwUpdateAbort h s
  | .svcIdent h => Sys2Proof.Machine.execSvcIdent h s
  | .svcOpCloseWindow h => Sys2Proof.Machine.execSvcOpCloseWindow h s
  | .svcOpTamperClear h => Sys2Proof.Machine.execSvcOpTamperClear h s
  | .svcOpFactoryReset h => Sys2Proof.Machine.execSvcOpFactoryReset h s
  | .svcOpDebugEnable h => Sys2Proof.Machine.execSvcOpDebugEnable h s
  | .bistRun h => Sys2Proof.Machine.execBistRun h s
  | .barrier h => Sys2Proof.Machine.execBarrier h s
  | .hopStatus h => Sys2Proof.Machine.execHopStatus h s
  | .powerState h => Sys2Proof.Machine.execPowerState h s
  | .forcedSample n c code ton => Sys2Proof.Machine.execForcedSample n c code ton s
  | .quietRefreshPulse n off => Sys2Proof.Machine.execQuietRefreshPulse n off s
  | .refreshPulseEnd n b off => Sys2Proof.Machine.execRefreshPulseEnd n b off s
  | .bootstrapRecharged n b mv => Sys2Proof.Machine.execBootstrapRecharged n b mv s
  | .frameForForwarding p f => Sys2Proof.Machine.execFrameForForwarding p f s
  | .claimErrorFrame p mine => Sys2Proof.Machine.execClaimErrorFrame p mine s
  | .presReleased => Sys2Proof.Machine.execPresReleased s
  | .cs1TransferRefused fall => Sys2Proof.Machine.execCs1TransferRefused fall s
  | .interimListenEnd => Sys2Proof.Machine.execInterimListenEnd s

end Sys2Proof.Machine
end

