-- ==== Sys2Proof/Laws/Cells.lean ====
section
/-! SUPPORT. Laws of the byte stores: a write keeps the canonical form, reads back, and leaves every other byte. -/

namespace Sys2Proof.Machine

/-- The canonical form, told by the first entry and the rest. -/
theorem cellWf_cons (k : Nat) (v : Byte) (r : List Host.Cell) :
    cellWf ((k, v) :: r) = true ↔ v ≠ 0 ∧ (∀ p ∈ r, k < p.1) ∧ cellWf r = true := by
  induction r generalizing k v with
  | nil => simp [cellWf]
  | cons p r ih =>
    obtain ⟨k', v'⟩ := p
    have step : cellWf ((k, v) :: (k', v') :: r) = (v != 0 && decide (k < k') && cellWf ((k', v') :: r)) := rfl
    simp only [step, Bool.and_eq_true, bne_iff_ne, decide_eq_true_eq, List.forall_mem_cons]
    constructor
    · rintro ⟨⟨h1, h2⟩, h3⟩
      exact ⟨h1, ⟨h2, fun q hq => h2.trans (((ih k' v').mp h3).2.1 q hq)⟩, h3⟩
    · rintro ⟨h1, ⟨h2, -⟩, h3⟩
      exact ⟨⟨h1, h2⟩, h3⟩

theorem cellSet_keys (m : List Host.Cell) (a : Nat) (b : Byte) : ∀ p ∈ cellSet m a b, p.1 = a ∨ p ∈ m := by
  induction m with
  | nil =>
    intro p hp
    simp only [cellSet] at hp
    split at hp
    · cases hp
    · simp_all
  | cons q r ih =>
    obtain ⟨k, v⟩ := q
    intro p hp
    simp only [cellSet] at hp
    (repeat' split at hp) <;> simp only [List.mem_cons] at hp ⊢
    · rcases hp with hp | hp
      · exact .inr (.inl hp)
      · exact (ih p hp).imp_right .inr
    · exact .inr (.inr hp)
    · rcases hp with hp | hp
      · exact .inl (by rw [hp])
      · exact .inr (.inr hp)
    · exact .inr hp
    · rcases hp with hp | hp
      · exact .inl (by rw [hp])
      · exact .inr hp

/-- Writing one byte keeps the canonical form. -/
theorem cellSet_wf (m : List Host.Cell) (a : Nat) (b : Byte) (h : cellWf m = true) : cellWf (cellSet m a b) = true := by
  induction m with
  | nil =>
    simp only [cellSet]
    split
    · rfl
    · exact (cellWf_cons _ _ _).mpr ⟨by assumption, by simp, rfl⟩
  | cons q r ih =>
    obtain ⟨k, v⟩ := q
    obtain ⟨hv, hk, hr⟩ := (cellWf_cons k v r).mp h
    simp only [cellSet]
    split
    · rename_i hka
      refine (cellWf_cons _ _ _).mpr ⟨hv, fun p hp => ?_, ih hr⟩
      rcases cellSet_keys r a b p hp with e | e
      · omega
      · exact hk p e
    · split
      · rename_i e
        subst e
        split
        · exact hr
        · exact (cellWf_cons _ _ _).mpr ⟨by assumption, hk, hr⟩
      · split
        · exact h
        · refine (cellWf_cons _ _ _).mpr ⟨by assumption, fun p hp => ?_, h⟩
          rcases List.mem_cons.mp hp with e | e
          · subst e; simp only; omega
          · have := hk p e; omega

/-- Writing bytes keeps the canonical form. -/
theorem cellWrite_wf (m : List Host.Cell) (a : Nat) (l : List Byte) (h : cellWf m = true) : cellWf (cellWrite m a l) = true := by
  induction l generalizing m a with
  | nil => exact h
  | cons b l ih => exact ih _ _ (cellSet_wf m a b h)

theorem cellGet_below (m : List Host.Cell) (a : Nat) (h : ∀ p ∈ m, a < p.1) : cellGet m a = 0 := by
  cases m with
  | nil => rfl
  | cons q r =>
    have := h q (by simp)
    simp only [cellGet]
    split
    · omega
    · simp

/-- A byte that was written reads back; every other byte keeps its value. -/
theorem cellGet_set (m : List Host.Cell) (a x : Nat) (b : Byte) (h : cellWf m = true) :
    cellGet (cellSet m a b) x = if x = a then b else cellGet m x := by
  induction m with
  | nil =>
    simp only [cellSet]
    split
    · rename_i hb
      split <;> simp only [cellGet, hb]
    · simp only [cellGet]
      (repeat' split) <;> first | rfl | omega
  | cons q r ih =>
    obtain ⟨k, v⟩ := q
    obtain ⟨hv, hk, hr⟩ := (cellWf_cons k v r).mp h
    simp only [cellSet]
    split
    · simp only [cellGet, ih hr]
      (repeat' split) <;> first | rfl | omega
    · split
      · rename_i e
        subst e
        split
        · rename_i hb
          by_cases hx : x = k
          · subst hx; rw [cellGet_below r x hk]; simp [hb]
          · simp only [cellGet, hx, if_false]
            by_cases hlt : x < k
            · rw [cellGet_below r x (fun p hp => hlt.trans (hk p hp))]
              split <;> first | omega | simp
            · split <;> first | omega | simp
        · simp only [cellGet]
          (repeat' split) <;> first | rfl | omega
      · split
        · rename_i hb
          by_cases hx : x = a
          · subst hx
            rw [cellGet_below ((k, v) :: r) x (fun p hp => by
              rcases List.mem_cons.mp hp with e | e
              · subst e; simp only; omega
              · have := hk p e; omega)]
            simp [hb]
          · simp [hx]
        · simp only [cellGet]
          (repeat' split) <;> first | rfl | omega

/-- Reading after a write of several bytes. -/
theorem cellGet_write (m : List Host.Cell) (a x : Nat) (l : List Byte) (h : cellWf m = true) :
    cellGet (cellWrite m a l) x = if a ≤ x ∧ x < a + l.length then l.getD (x - a) 0 else cellGet m x := by
  induction l generalizing m a with
  | nil =>
    have : ¬ (a ≤ x ∧ x < a + ([] : List Byte).length) := by simp only [List.length_nil]; omega
    simp only [cellWrite, this, if_false]
  | cons b l ih =>
    rw [cellWrite, ih _ _ (cellSet_wf m a b h), cellGet_set m a x b h]
    simp only [List.length_cons]
    by_cases hx : x = a
    · subst hx; simp
    · by_cases hin : a + 1 ≤ x ∧ x < a + 1 + l.length
      · have h2 : a ≤ x ∧ x < a + (l.length + 1) := by omega
        rw [if_pos hin, if_pos h2]
        obtain ⟨d, rfl⟩ : ∃ d, x = a + 1 + d := ⟨x - (a + 1), by omega⟩
        have e1 : a + 1 + d - (a + 1) = d := by omega
        have e2 : a + 1 + d - a = d + 1 := by omega
        rw [e1, e2]
        rfl
      · have h2 : ¬ (a ≤ x ∧ x < a + (l.length + 1)) := by omega
        rw [if_neg hin, if_neg h2, if_neg hx]

/-- A CRC run is the fold of its byte step. -/
theorem crcRun_eq (next : Nat → Byte → Nat) (l : List Byte) (c : Nat) : crcRun next l c = l.foldl next c := by
  induction l generalizing c with
  | nil => rfl
  | cons b l ih => rw [crcRun, List.foldl_cons]; split <;> rename_i h <;> rw [ih, h]

/-- A CRC run over two pieces goes on from where the first one ends. -/
theorem crcRun_append (next : Nat → Byte → Nat) (a b : List Byte) (c : Nat) :
    crcRun next (a ++ b) c = crcRun next b (crcRun next a c) := by simp only [crcRun_eq, List.foldl_append]

end Sys2Proof.Machine
end

