-- ==== Sys2Proof/Safety.lean ====
section
/-! DEFINITION. What a safe state of the block is, in the manual's terms, and what it means that a command leaves a part of the state alone. -/

namespace Sys2Proof.Machine

/-- No switch of axis `n` is on or turning on. -/
def BridgeSt.quiet (b : BridgeSt) : Bool :=
  (b.lo.phase == .off || b.lo.phase == .offP1 || b.lo.phase == .offP2) &&
  (b.hi.phase == .off || b.hi.phase == .offP1 || b.hi.phase == .offP2)

/-- At most one switch of a half-bridge is on or turning on (R307). -/
def BridgeSt.apart (b : BridgeSt) : Bool := !(b.lo.turning && b.hi.turning)

/-- No half-bridge of the device has both its switches on or turning on. -/
def State.apart (s : State) : Bool := axes4.all (fun n => axes4.all (fun b => ((s.gate.get n).br b).apart))

/-- Every switch of the device is off or turning off. -/
def State.allQuiet (s : State) : Bool := axes4.all (fun n => axes4.all (fun b => ((s.gate.get n).br b).quiet))

/-- The frame index is 0 to 19, and so are the one that a realignment is to set and the one that retention holds (R27, R28). -/
def State.indexOk (s : State) : Bool :=
  decide (s.frame.index < 20) && (match s.frame.realign with | some r => decide (r.2 < 20) | none => true) && decide (s.ret.frIndex < 20)

/-- The port receives the frame: it is on the bus, the frame is a CAN FD frame of kind `kind` and obeys R454, R459 and R460. -/
def State.hears (s : State) (p : Fin 2) (f : AmFrame) (kind : Nat) : Bool :=
  s.portLive p && f.fd && (headOf f).kind == kind && frameOk f

/-- Voxel `v` lies in the cell of `e` voxels at `x`. -/
def voxelIn (x : Int × Int × Int) (e : Int) (v : Int × Int × Int) : Bool :=
  decide (x.1 ≤ v.1 ∧ v.1 < x.1 + e ∧ x.2.1 ≤ v.2.1 ∧ v.2.1 < x.2.1 + e ∧ x.2.2 ≤ v.2.2 ∧ v.2.2 < x.2.2 + e)

/-- Voxel `v` lies in a range of voxels. -/
def Box.holds (r : Box) (v : Int × Int × Int) : Bool :=
  decide (r.lo.1 ≤ v.1 ∧ v.1 ≤ r.hi.1 ∧ r.lo.2.1 ≤ v.2.1 ∧ v.2.1 ≤ r.hi.2.1 ∧ r.lo.2.2 ≤ v.2.2 ∧ v.2.2 ≤ r.hi.2.2)

/-- A layer, a cell of 2^d voxels at `x`, is occupied at voxel `v` (R419). -/
def Oct.has : Nat → Oct → Int × Int × Int → Int × Int × Int → Bool
  | 0, o, _, _ => o == .full
  | d + 1, o, x, v => (List.range 8).any (fun c => voxelIn (kidAt x d c) (2 ^ d : Nat) v && Oct.has d (o.child c) (kidAt x d c) v)

/-- The parts of the state, one for each field of `State`. -/
inductive Group where
  | clock | frame | pins | power | ret | host | link | intake | params | motion | cur | wedge | gate | follow | mon | channels | cmp | divo | sensor | plan | ports | fab | iso | twin | svc | faults | free | pending
deriving DecidableEq, Repr

/-- The state with the parts of `w` put back to their reset values: what is left to compare when only those parts may differ. -/
def State.blank (w : List Group) (s : State) : State :=
  { clock := if Group.clock ∈ w then State.reset.clock else s.clock
    frame := if Group.frame ∈ w then State.reset.frame else s.frame
    pins := if Group.pins ∈ w then State.reset.pins else s.pins
    power := if Group.power ∈ w then State.reset.power else s.power
    ret := if Group.ret ∈ w then State.reset.ret else s.ret
    host := if Group.host ∈ w then State.reset.host else s.host
    link := if Group.link ∈ w then State.reset.link else s.link
    intake := if Group.intake ∈ w then State.reset.intake else s.intake
    params := if Group.params ∈ w then State.reset.params else s.params
    motion := if Group.motion ∈ w then State.reset.motion else s.motion
    cur := if Group.cur ∈ w then State.reset.cur else s.cur
    wedge := if Group.wedge ∈ w then State.reset.wedge else s.wedge
    gate := if Group.gate ∈ w then State.reset.gate else s.gate
    follow := if Group.follow ∈ w then State.reset.follow else s.follow
    mon := if Group.mon ∈ w then State.reset.mon else s.mon
    channels := if Group.channels ∈ w then State.reset.channels else s.channels
    cmp := if Group.cmp ∈ w then State.reset.cmp else s.cmp
    divo := if Group.divo ∈ w then State.reset.divo else s.divo
    sensor := if Group.sensor ∈ w then State.reset.sensor else s.sensor
    plan := if Group.plan ∈ w then State.reset.plan else s.plan
    ports := if Group.ports ∈ w then State.reset.ports else s.ports
    fab := if Group.fab ∈ w then State.reset.fab else s.fab
    iso := if Group.iso ∈ w then State.reset.iso else s.iso
    twin := if Group.twin ∈ w then State.reset.twin else s.twin
    svc := if Group.svc ∈ w then State.reset.svc else s.svc
    faults := if Group.faults ∈ w then State.reset.faults else s.faults
    free := if Group.free ∈ w then State.reset.free else s.free
    pending := if Group.pending ∈ w then State.reset.pending else s.pending }

/-- `t` differs from `s` in the parts of `w` at most: every other register, counter, buffer and latch is the same. -/
def State.only (w : List Group) (s t : State) : Prop := t.blank w = s.blank w

/-- The parts of the state that a command can change at most: its registers, and those of the completions, events and faults that it
can cause. Every other part it leaves as it is. -/
def writes : Sys2Proof.Instr → List Group
  | .powerOn _ => [.clock, .frame, .pins, .power, .host, .link, .intake, .params, .motion, .cur, .wedge, .gate, .follow, .mon, .channels, .cmp, .divo, .sensor, .plan, .ports, .fab, .iso, .twin, .svc, .faults]
  | .powerOff _ => [.clock, .frame, .pins, .power, .ret, .host, .link, .intake, .params, .motion, .cur, .wedge, .gate, .follow, .mon, .channels, .cmp, .divo, .sensor, .plan, .ports, .fab, .iso, .twin, .svc, .faults]
  | .brownOut _ _ => [.clock, .frame, .pins, .power, .ret, .host, .link, .intake, .params, .motion, .cur, .wedge, .gate, .follow, .mon, .channels, .cmp, .divo, .sensor, .plan, .ports, .fab, .iso, .twin, .svc, .faults]
  | .reset => [.clock, .frame, .pins, .power, .host, .link, .intake, .params, .motion, .cur, .wedge, .gate, .follow, .mon, .channels, .cmp, .divo, .sensor, .plan, .ports, .fab, .iso, .twin, .svc, .faults]
  | .resetRelease _ _ _ => [.clock, .frame, .pins, .power, .host, .link, .intake, .params, .motion, .cur, .wedge, .gate, .follow, .mon, .channels, .cmp, .divo, .sensor, .plan, .ports, .fab, .iso, .twin, .svc, .faults]
  | .wakeSource _ _ _ _ _ => [.frame, .pins, .power, .host, .intake, .motion, .gate, .mon, .plan, .ports, .fab, .iso, .twin, .svc, .faults, .free]
  | .checkpointReached _ _ => [.clock, .frame, .pins, .power, .ret, .host, .link, .intake, .params, .motion, .cur, .wedge, .gate, .follow, .mon, .channels, .cmp, .divo, .sensor, .plan, .ports, .fab, .iso, .twin, .svc, .faults, .free]
  | .checkpointTimeout _ _ => [.clock, .frame, .pins, .power, .ret, .host, .link, .intake, .params, .motion, .cur, .wedge, .gate, .follow, .mon, .channels, .cmp, .divo, .sensor, .plan, .ports, .fab, .iso, .twin, .svc, .faults, .free]
  | .axisUpStart _ => [.power, .intake, .gate, .fab, .faults]
  | .vmUndervoltage _ _ => [.power, .ret, .host, .intake, .motion, .cur, .wedge, .gate, .follow, .mon, .plan, .ports, .fab, .iso, .svc, .faults, .free]
  | .vmRestored _ _ => [.power, .faults, .free]
  | .vmOvervoltage _ => [.power, .ret, .host, .intake, .motion, .cur, .wedge, .gate, .follow, .mon, .plan, .ports, .fab, .iso, .svc, .faults, .free]
  | .vmOvervoltageRelease _ _ => [.power, .faults]
  | .brakeChopperSwitch _ _ => [.frame, .power, .faults, .free]
  | .brakeChopperLimit _ => [.power, .faults, .free]
  | .brakeDumpIneffective _ _ => [.power, .faults, .free]
  | .vgdOutOfWindow _ _ => [.power, .ret, .host, .intake, .motion, .cur, .wedge, .gate, .follow, .mon, .plan, .ports, .fab, .iso, .svc, .faults, .free]
  | .supplyWindowFault _ _ _ => [.power, .faults, .free]
  | .reverseFetOn _ _ _ => [.power]
  | .reverseFetOff _ _ => [.power, .faults, .free]
  | .reverseFetNotEnhanced _ _ _ _ => [.power, .faults, .free]
  | .frameBoundary _ _ => [.clock, .frame, .pins, .power, .ret, .host, .link, .intake, .params, .motion, .cur, .wedge, .gate, .follow, .mon, .channels, .cmp, .divo, .sensor, .plan, .ports, .fab, .iso, .twin, .svc, .faults, .free]
  | .lockstepMismatch => [.gate, .mon, .twin, .faults, .free]
  | .crystalLoss => [.clock, .faults, .free]
  | .crystalRestore _ => [.clock, .fab, .faults, .free]
  | .clockSettlingEnd => [.clock, .host, .intake, .plan, .ports, .fab, .iso, .svc, .faults, .free]
  | .pllLockTimeout _ => [.clock, .host, .intake, .motion, .wedge, .gate, .follow, .mon, .plan, .ports, .fab, .iso, .twin, .svc, .faults, .free]
  | .pllLockLoss _ => [.clock, .frame, .power, .host, .intake, .motion, .cur, .wedge, .gate, .follow, .mon, .plan, .ports, .fab, .iso, .twin, .svc, .faults, .free]
  | .pllRelock _ _ _ _ => [.clock, .frame, .power, .ports, .iso, .twin, .faults]
  | .lfTrim _ => [.clock, .faults, .free]
  | .syncEdge _ _ => [.frame, .pins, .fab, .faults, .free]
  | .syncReferenceLoss _ => [.frame, .fab, .faults, .free]
  | .frameTrimLimit => [.frame, .fab, .faults, .free]
  | .standstillRecalStart _ => [.power, .cur, .wedge, .gate]
  | .calibrationEnd _ => [.host, .intake, .plan, .ports, .fab, .iso, .svc, .faults]
  | .heldCommandTimeout _ => [.host, .intake, .plan, .ports, .fab, .iso, .svc, .faults]
  | .stepPulse _ _ _ _ _ => [.pins, .motion, .divo, .fab, .faults, .free]
  | .governingEnableFall _ _ => [.pins, .gate, .mon]
  | .governingEnableRise _ _ => [.pins, .gate]
  | .pinModeInEdge _ _ _ _ _ _ => [.pins, .gate, .fab, .faults]
  | .sealChange _ => [.pins, .fab, .faults, .free]
  | .presPress => [.pins, .fab, .svc, .faults]
  | .presStuck _ => [.pins, .fab, .faults, .free]
  | .presenceWindowExpiry _ => [.fab, .svc, .faults]
  | .tamperLoopBroken _ _ => [.fab, .svc, .faults, .free]
  | .hostWriteFrame _ => [.pins, .host, .link, .fab, .faults]
  | .writeApplied => [.pins, .host, .link, .intake, .fab, .faults]
  | .hostReadFrame _ => [.pins, .host, .link, .fab, .faults]
  | .modeReset _ => [.pins, .host, .link, .fab, .faults]
  | .hostSckTimeout _ => [.pins, .host, .link, .fab, .faults]
  | .dbell _ => [.host, .intake, .faults]
  | .hdoneClear _ => [.host]
  | .dbrejClear _ => [.host]
  | .attsrcClear _ => [.host]
  | .strstatClear _ => [.host]
  | .strearlyClear => [.host]
  | .crcerrClear => [.host]
  | .abortcntClear => [.pins]
  | .abortwhyClear => [.host]
  | .rundrClear => [.host]
  | .hwdog _ => [.link, .fab, .faults]
  | .hostWatchdogExpiry _ => [.link, .faults]
  | .crcctlSet _ => [.host]
  | .cmdqWrite _ => [.host]
  | .sensorBridgeTransfer _ _ => [.pins, .host, .link, .sensor, .fab, .faults]
  | .bridgeTransferDone _ => [.host, .link, .sensor]
  | .snapshotReadout _ _ => [.pins, .host, .link, .fab, .faults]
  | .taggedCommandStart _ => [.pins, .power, .ret, .host, .intake, .params, .motion, .cur, .wedge, .gate, .mon, .channels, .cmp, .plan, .ports, .fab, .iso, .twin, .svc, .faults, .free]
  | .waitingCommandStart _ => [.pins, .power, .ret, .host, .intake, .params, .motion, .cur, .wedge, .gate, .mon, .channels, .cmp, .plan, .ports, .fab, .iso, .twin, .svc, .faults, .free]
  | .barrierTimeout _ => [.host, .intake, .plan, .ports, .fab, .iso, .svc, .faults]
  | .verdictRecomputed => [.host, .intake, .params, .plan, .ports, .fab, .iso, .svc, .faults]
  | .autoEnable => [.intake]
  | .microstep _ _ => [.pins, .motion, .cur, .wedge, .cmp, .divo, .fab, .faults, .free]
  | .intervalUnitFault _ => [.motion, .faults]
  | .standstillReached _ => [.motion]
  | .holdDelayExpiry _ => [.cur]
  | .holdRampEnd _ => [.cur, .gate]
  | .chopperTrip _ _ _ _ => [.cur, .gate, .mon, .faults]
  | .blankingEnd _ _ _ _ => [.cur]
  | .fastDecayEnd _ _ _ => [.cur]
  | .zeroComparatorTrip _ _ => [.cur]
  | .offTimeEnd _ _ _ => [.cur]
  | .pwmPeriod _ _ _ => [.cur, .gate, .mon, .faults]
  | .wedgeWindowEnd _ _ _ => [.motion, .wedge, .faults]
  | .wedgePeriodEnd _ => [.motion, .wedge, .faults]
  | .homingSettleEnd _ => [.motion, .wedge]
  | .gateEdge _ _ _ _ _ _ _ => [.gate]
  | .gatePlateauEnd _ _ _ _ _ _ _ => [.gate, .fab, .faults, .free]
  | .deadTimeEnd _ _ _ _ _ _ => [.cur, .gate]
  | .gateOffTimeout _ _ _ _ _ => [.gate, .faults]
  | .bootstrapRefreshTimer _ _ _ => [.gate]
  | .bootstrapRechargeTimeout _ _ _ _ => [.gate, .faults]
  | .bootstrapUndervoltage _ _ _ _ _ => [.gate, .faults]
  | .switchFaultDetect _ _ _ _ _ _ _ => [.gate, .faults]
  | .adc1Unit _ _ _ _ => [.power, .cur, .wedge, .gate, .mon, .faults, .free]
  | .winOutOfWindow _ _ _ => [.mon, .faults]
  | .offstateTestVerdict _ _ => [.host, .intake, .gate, .mon, .plan, .ports, .fab, .iso, .svc, .faults]
  | .diagAgeLimit _ => [.mon, .faults]
  | .diagInsertion _ _ => [.cur, .gate, .mon, .faults]
  | .brakePullInEnd _ => [.mon]
  | .brakeReleaseWaitEnd _ => [.intake, .mon, .fab, .faults]
  | .brakeStillEngage _ => [.mon]
  | .hbkOvercurrent _ _ _ => [.mon, .faults]
  | .feedbackEdge _ _ _ => [.pins, .channels, .cmp, .divo, .fab, .faults, .free]
  | .hallInvalidTimeout _ _ => [.channels, .faults]
  | .speedTimeout _ _ => [.channels]
  | .speedGateEnd _ => [.channels, .fab, .faults]
  | .retainedIndexCheck _ => [.motion, .channels, .cmp, .sensor, .fab, .faults]
  | .comparePulseEnd _ _ _ => [.pins, .cmp]
  | .dividedOutputWidthEnd _ _ => [.pins, .divo]
  | .sensorPortRead _ => [.sensor, .faults]
  | .queryActivation => [.host, .intake, .plan, .ports, .fab, .iso, .svc, .faults]
  | .queryEnd => [.host, .intake, .plan, .ports, .fab, .iso, .svc, .faults, .free]
  | .queryDeadline => [.host, .intake, .plan, .ports, .fab, .iso, .svc, .faults, .free]
  | .mapEditEffect => [.host, .intake, .plan, .ports, .fab, .iso, .svc, .faults, .free]
  | .runStartCheckDone => [.host, .intake, .mon, .plan, .ports, .fab, .iso, .svc, .faults, .free]
  | .haulSegmentStart _ => [.motion, .cur, .wedge, .gate, .plan, .faults, .free]
  | .haulClockRampEnd => [.host, .intake, .motion, .plan, .ports, .fab, .iso, .svc, .faults]
  | .runRecheckDone => [.host, .intake, .plan, .ports, .fab, .iso, .svc, .faults, .free]
  | .runHoldTimeout => [.host, .intake, .plan, .ports, .fab, .iso, .svc, .faults, .free]
  | .canBusOff _ _ => [.ports, .iso, .twin, .faults, .free]
  | .canBusOffRecovery _ _ => [.ports, .iso, .faults]
  | .canFrameTransmitted _ _ _ _ => [.host, .intake, .ports, .fab, .iso, .twin, .faults]
  | .beaconReceived _ _ _ => [.frame, .ret, .host, .intake, .ports, .fab, .iso, .faults, .free]
  | .beaconTimeout _ => [.ports, .fab, .faults]
  | .claimReceived _ _ => [.ret, .ports, .fab, .twin, .faults, .free]
  | .claimListenEnd _ => [.ports, .faults]
  | .claimHeld _ => [.ret, .ports, .fab, .twin, .faults]
  | .segRequest _ _ => [.ports, .fab, .faults, .free]
  | .segRequestTimer _ => [.ports, .fab]
  | .segGrant _ _ => [.ports]
  | .routeReceived _ _ => [.ports, .fab, .faults, .free]
  | .routeExpiry _ => [.fab, .faults, .free]
  | .cyclicReceived _ _ => [.ports]
  | .fabricCmd _ _ => [.intake, .ports, .fab, .faults, .free]
  | .dataReceived _ _ => [.ports, .fab, .faults, .free]
  | .reassemblyTimeout _ _ _ => [.ports, .fab]
  | .sleepReceived _ _ => [.ret, .ports, .fab, .faults, .free]
  | .sleepInstant => [.power, .ret, .host, .intake, .ports, .fab, .iso, .faults]
  | .listenWindowEnd => [.power, .ret, .fab, .faults, .free]
  | .hbeatReceived _ _ => [.host, .intake, .ports, .fab, .iso, .faults]
  | .heartbeatDeadline _ _ => [.host, .intake, .ports, .fab, .iso, .faults]
  | .evtReceived _ _ => [.ports, .fab, .faults]
  | .nackReceived _ _ => [.ports, .fab, .faults]
  | .addressClaimed _ => [.fab, .iso, .faults, .free]
  | .isoClaimTimer => [.fab, .iso, .faults]
  | .cannotClaimAddress => [.iso]
  | .commandedAddress _ _ => [.pins, .intake, .params, .fab, .iso, .faults]
  | .isoRequest _ => [.iso]
  | .isoTransportFrame _ => [.fab, .iso, .faults, .free]
  | .isoTransportTimeout _ _ _ => [.fab, .iso, .faults]
  | .isoCommand _ _ => [.intake, .fab, .iso, .faults, .free]
  | .isoSpeedMessage _ => [.fab, .iso, .faults]
  | .isoStatusTimer => [.iso]
  | .twinLinkUp _ _ _ => [.fab, .twin, .faults]
  | .twinLinkDown _ _ => [.fab, .twin, .faults]
  | .mirrorRecord _ _ _ => [.frame, .fab, .twin, .faults, .free]
  | .statusRecord _ _ _ => [.frame, .fab, .twin, .faults, .free]
  | .actiFall => [.pins, .twin, .faults]
  | .actiRise => [.pins, .gate, .ports, .iso, .twin, .faults, .free]
  | .gpermSet _ => [.ports, .fab, .iso, .twin, .faults]
  | .twinPartnerTimeout => [.faults, .free]
  | .twinAloneWaitExpiry => [.ports, .iso, .twin]
  | .twinSwitchTimeout => [.host, .intake, .plan, .ports, .fab, .iso, .twin, .svc, .faults]
  | .bistTestDone _ _ => [.power, .host, .intake, .plan, .ports, .fab, .iso, .svc, .faults, .free]
  | .setParam _ => [.pins, .host, .intake, .params, .plan, .ports, .fab, .iso, .svc, .faults]
  | .getParam _ => [.host, .intake, .plan, .ports, .fab, .iso, .svc, .faults]
  | .surveyRun _ => [.host, .intake, .plan, .ports, .fab, .iso, .svc, .faults]
  | .enableUnit _ => [.power, .host, .intake, .params, .plan, .ports, .fab, .iso, .svc, .faults]
  | .disableUnit _ => [.host, .intake, .params, .plan, .ports, .fab, .iso, .svc, .faults]
  | .cfgImageClear _ => [.host, .intake, .params, .plan, .ports, .fab, .iso, .svc, .faults]
  | .cfgImageStage _ => [.host, .intake, .params, .plan, .ports, .fab, .iso, .svc, .faults]
  | .cfgImageCheck _ => [.host, .intake, .plan, .ports, .fab, .iso, .svc, .faults]
  | .cfgImageApply _ => [.pins, .host, .intake, .params, .plan, .ports, .fab, .iso, .svc, .faults]
  | .cfgImageSaveStaged _ => [.host, .intake, .params, .plan, .ports, .fab, .iso, .svc, .faults, .free]
  | .cfgImageSaveWorking _ => [.host, .intake, .params, .plan, .ports, .fab, .iso, .svc, .faults, .free]
  | .cfgImageLoadStored _ => [.host, .intake, .params, .plan, .ports, .fab, .iso, .svc, .faults]
  | .cfgImageReadStaging _ => [.host, .intake, .plan, .ports, .fab, .iso, .svc, .faults]
  | .cfgImageErase _ => [.host, .intake, .params, .plan, .ports, .fab, .iso, .svc, .faults]
  | .faultStatus _ => [.host, .intake, .plan, .ports, .fab, .iso, .svc, .faults]
  | .faultClear _ => [.host, .intake, .plan, .ports, .fab, .iso, .svc, .faults]
  | .eventRead _ => [.host, .intake, .plan, .ports, .fab, .iso, .svc, .faults]
  | .enableAxis _ => [.power, .host, .intake, .params, .plan, .ports, .fab, .iso, .svc, .faults]
  | .disableAxis _ => [.power, .host, .intake, .gate, .plan, .ports, .fab, .iso, .svc, .faults]
  | .moveTo _ => [.host, .intake, .mon, .plan, .ports, .fab, .iso, .svc, .faults]
  | .moveBy _ => [.host, .intake, .mon, .plan, .ports, .fab, .iso, .svc, .faults]
  | .jog _ => [.host, .intake, .mon, .plan, .ports, .fab, .iso, .svc, .faults]
  | .stop _ => [.host, .intake, .params, .motion, .plan, .ports, .fab, .iso, .svc, .faults]
  | .halt _ => [.host, .intake, .params, .motion, .plan, .ports, .fab, .iso, .svc, .faults]
  | .followSteps _ => [.host, .intake, .mon, .plan, .ports, .fab, .iso, .svc, .faults]
  | .setPosition _ => [.host, .intake, .motion, .plan, .ports, .fab, .iso, .svc, .faults]
  | .axisStatus _ => [.host, .intake, .plan, .ports, .fab, .iso, .svc, .faults]
  | .chiselLoad _ => [.pins, .host, .intake, .params, .cur, .plan, .ports, .fab, .iso, .svc, .faults]
  | .chiselValidate _ => [.host, .intake, .plan, .ports, .fab, .iso, .svc, .faults]
  | .chiselSave _ => [.host, .intake, .cur, .plan, .ports, .fab, .iso, .svc, .faults, .free]
  | .chiselRead _ => [.host, .intake, .plan, .ports, .fab, .iso, .svc, .faults]
  | .chiselReload _ => [.pins, .host, .intake, .params, .cur, .plan, .ports, .fab, .iso, .svc, .faults]
  | .curStatus _ => [.host, .intake, .plan, .ports, .fab, .iso, .svc, .faults]
  | .homeFace _ => [.host, .intake, .mon, .plan, .ports, .fab, .iso, .svc, .faults]
  | .wedgeLearn _ => [.ret, .host, .intake, .wedge, .plan, .ports, .fab, .iso, .svc, .faults]
  | .wedgeStatus _ => [.host, .intake, .plan, .ports, .fab, .iso, .svc, .faults]
  | .fbStatus _ => [.host, .intake, .channels, .plan, .ports, .fab, .iso, .svc, .faults]
  | .fbSetCount _ => [.host, .intake, .channels, .plan, .ports, .fab, .iso, .svc, .faults]
  | .followSpeed _ => [.host, .intake, .mon, .plan, .ports, .fab, .iso, .svc, .faults]
  | .folStatus _ => [.host, .intake, .plan, .ports, .fab, .iso, .svc, .faults]
  | .cmpArm _ => [.host, .intake, .cmp, .plan, .ports, .fab, .iso, .svc, .faults]
  | .cmpStatus _ => [.host, .intake, .plan, .ports, .fab, .iso, .svc, .faults]
  | .spStatus _ => [.host, .intake, .plan, .ports, .fab, .iso, .svc, .faults]
  | .gateStatus _ => [.host, .intake, .plan, .ports, .fab, .iso, .svc, .faults]
  | .offstateTest _ => [.host, .intake, .gate, .mon, .plan, .ports, .fab, .iso, .svc, .faults]
  | .diagStatus _ => [.host, .intake, .plan, .ports, .fab, .iso, .svc, .faults]
  | .mapLoadBegin _ => [.host, .intake, .plan, .ports, .fab, .iso, .svc, .faults, .free]
  | .mapLoadCopy _ => [.host, .intake, .plan, .ports, .fab, .iso, .svc, .faults]
  | .mapLoadCommit _ => [.host, .intake, .plan, .ports, .fab, .iso, .svc, .faults]
  | .mapEditOccupy _ => [.host, .intake, .plan, .ports, .fab, .iso, .svc, .faults]
  | .mapEditFree _ => [.host, .intake, .plan, .ports, .fab, .iso, .svc, .faults]
  | .mapEditClear _ => [.host, .intake, .plan, .ports, .fab, .iso, .svc, .faults]
  | .mapEditMarkValid _ => [.host, .intake, .plan, .ports, .fab, .iso, .svc, .faults]
  | .mapEditMarkInvalid _ => [.host, .intake, .plan, .ports, .fab, .iso, .svc, .faults]
  | .planChainLoad _ => [.pins, .host, .intake, .params, .plan, .ports, .fab, .iso, .svc, .faults]
  | .planChainValidate _ => [.host, .intake, .plan, .ports, .fab, .iso, .svc, .faults]
  | .planChainSave _ => [.host, .intake, .plan, .ports, .fab, .iso, .svc, .faults]
  | .planChainRead _ => [.host, .intake, .plan, .ports, .fab, .iso, .svc, .faults]
  | .planChainReload _ => [.pins, .host, .intake, .params, .plan, .ports, .fab, .iso, .svc, .faults]
  | .planQuery _ => [.host, .intake, .plan, .ports, .fab, .iso, .svc, .faults]
  | .planRun _ => [.host, .intake, .mon, .plan, .ports, .fab, .iso, .svc, .faults]
  | .planStop _ => [.host, .intake, .plan, .ports, .fab, .iso, .svc, .faults]
  | .planHold _ => [.host, .intake, .plan, .ports, .fab, .iso, .svc, .faults]
  | .planResume _ => [.host, .intake, .plan, .ports, .fab, .iso, .svc, .faults, .free]
  | .planRoad _ => [.host, .intake, .plan, .ports, .fab, .iso, .svc, .faults]
  | .netStatus _ => [.host, .intake, .plan, .ports, .fab, .iso, .svc, .faults, .free]
  | .netRoute _ => [.host, .intake, .plan, .ports, .fab, .iso, .svc, .faults]
  | .netSend _ => [.host, .intake, .plan, .ports, .fab, .iso, .svc, .faults]
  | .netRecv _ => [.host, .intake, .plan, .ports, .fab, .iso, .svc, .faults]
  | .netSchedLoad _ => [.pins, .host, .intake, .params, .plan, .ports, .fab, .iso, .svc, .faults]
  | .netSchedValidate _ => [.host, .intake, .plan, .ports, .fab, .iso, .svc, .faults]
  | .netSchedSave _ => [.host, .intake, .plan, .ports, .fab, .iso, .svc, .faults]
  | .netSchedRead _ => [.host, .intake, .plan, .ports, .fab, .iso, .svc, .faults]
  | .netSchedReload _ => [.pins, .host, .intake, .params, .plan, .ports, .fab, .iso, .svc, .faults]
  | .netSleepAnnounce _ => [.ret, .host, .intake, .plan, .ports, .fab, .iso, .svc, .faults]
  | .netSleepCancel _ => [.ret, .host, .intake, .plan, .ports, .fab, .iso, .svc, .faults]
  | .netSleepStatus _ => [.host, .intake, .plan, .ports, .fab, .iso, .svc, .faults]
  | .netQstat _ => [.host, .intake, .plan, .ports, .fab, .iso, .svc, .faults]
  | .netWatch _ => [.host, .intake, .plan, .ports, .fab, .iso, .svc, .faults]
  | .isoStatus _ => [.host, .intake, .plan, .ports, .fab, .iso, .svc, .faults, .free]
  | .twinStatus _ => [.host, .intake, .plan, .ports, .fab, .iso, .svc, .faults]
  | .twinSwitch _ => [.host, .intake, .plan, .ports, .fab, .iso, .twin, .svc, .faults]
  | .fwUpdateBegin _ => [.host, .intake, .plan, .ports, .fab, .iso, .svc, .faults, .free]
  | .fwUpdateWrite _ => [.host, .intake, .plan, .ports, .fab, .iso, .svc, .faults, .free]
  | .fwUpdateWriteInline _ => [.host, .intake, .plan, .ports, .fab, .iso, .svc, .faults, .free]
  | .fwUpdateVerify _ => [.host, .intake, .plan, .ports, .fab, .iso, .svc, .faults, .free]
  | .fwUpdateCommit _ => [.host, .intake, .plan, .ports, .fab, .iso, .svc, .faults, .free]
  | .fwUpdateActivate _ => [.host, .intake, .plan, .ports, .fab, .iso, .svc, .faults, .free]
  | .fwUpdateConfirm _ => [.host, .intake, .plan, .ports, .fab, .iso, .svc, .faults, .free]
  | .fwUpdateAbort _ => [.host, .intake, .plan, .ports, .fab, .iso, .svc, .faults, .free]
  | .svcIdent _ => [.host, .intake, .plan, .ports, .fab, .iso, .svc, .faults]
  | .svcOpCloseWindow _ => [.host, .intake, .plan, .ports, .fab, .iso, .svc, .faults]
  | .svcOpTamperClear _ => [.host, .intake, .plan, .ports, .fab, .iso, .svc, .faults, .free]
  | .svcOpFactoryReset _ => [.pins, .ret, .host, .intake, .params, .cur, .wedge, .plan, .ports, .fab, .iso, .svc, .faults]
  | .svcOpDebugEnable _ => [.host, .intake, .plan, .ports, .fab, .iso, .svc, .faults, .free]
  | .bistRun _ => [.power, .host, .intake, .plan, .ports, .fab, .iso, .svc, .faults]
  | .barrier _ => [.host, .intake, .plan, .ports, .fab, .iso, .svc, .faults]
  | .hopStatus _ => [.host, .intake, .plan, .ports, .fab, .iso, .svc, .faults]
  | .powerState _ => [.power, .host, .intake, .plan, .ports, .fab, .iso, .svc, .faults]
  | .forcedSample _ _ _ _ => [.mon, .faults]
  | .quietRefreshPulse _ _ => [.gate]
  | .refreshPulseEnd _ _ _ => [.gate]
  | .bootstrapRecharged _ _ _ => [.gate]
  | .frameForForwarding _ _ => [.ports, .fab, .faults, .free]
  | .claimErrorFrame _ _ => [.ports, .twin]
  | .presReleased => [.pins]
  | .cs1TransferRefused _ => [.pins, .host, .fab, .faults]
  | .interimListenEnd => [.power, .fab]

/-- The state of the checks made after taking (R155, R166). -/
def State.taken (s : State) (h : Nat) : State := (s.beginTake h).useBulk h

/-- The state of a command that passed the checks of its taking: a stop has cancelled what it wins over (R163), an enable has its
owners' values copied (R178). -/
def State.passed (s : State) (c : CmdSpec) (h : Nat) : State := c.taken ((s.taken h).stopTaken h) h

/-- The command of hopper `h` is the next to take a start, its opcode and operation are those of `c`, and it passes every check of
R168 and waits for nothing: it starts in this frame. -/
def State.accepts (s : State) (c : CmdSpec) (h : Nat) : Bool :=
  let u := s.passed c h
  s.nextStart == some h && s.rungCmd h && s.opcode h == c.op && (match c.sub with | some o => s.p8 h 0 == o | none => true) &&
  ((s.beginTake h).hop h).doomed == none && firstChecks c (s.beginTake h) h == none && lateChecks c (s.taken h) h == none &&
  (s.taken h).stopOver h == none && u.waitOf h == none &&
  (if isStopOp (u.opcode h) && u.enableAhead h then none else c.ready u h) == none && !u.safeBars h && c.own u h == none

/-- The state on which the effect of an accepted command acts: taken, and started (R147). -/
def State.begun (s : State) (c : CmdSpec) (h : Nat) : State := (s.passed c h).markStart c h

/-- The command `i` runs in `s` and answers a next state of which `P` holds. -/
def Answers (i : Sys2Proof.Instr) (s : State) (P : State → Prop) : Prop := ∃ t, exec i s = .next t ∧ P t

/-- The command of opcode `c` in hopper `h`, accepted, runs its effect: `P` tells the state `u` that the effect leaves from the state
`b` that it acts on. What follows in the same step is the common work on barriers, waiting commands and unknown opcodes. -/
def Starts (c : CmdSpec) (i : Fin 32 → Sys2Proof.Instr) (P : Fin 32 → State → State → Prop) : Prop :=
  ∀ (h : Fin 32) (s : State), s.accepts c h = true → cellWf s.intake.slots = true →
    ∃ u, exec (i h) s = .next u.settle ∧ P h (s.begun c h) u

end Sys2Proof.Machine
end

