-- ==== Sys2Proof/Laws/Parts.lean ====
section
/-! SUPPORT. Laws of the parts of the state: how `State.blank` meets updates, choices and folds. -/

namespace Sys2Proof.Machine

variable {w : List Group}

/-- An update of any fields but the queue, each of a part in `w` or without a change. -/
@[simp] theorem blank_mk (t : State)
    {x_clock} (h_clock : Group.clock ∈ w ∨ x_clock = t.clock)
    {x_frame} (h_frame : Group.frame ∈ w ∨ x_frame = t.frame)
    {x_pins} (h_pins : Group.pins ∈ w ∨ x_pins = t.pins)
    {x_power} (h_power : Group.power ∈ w ∨ x_power = t.power)
    {x_ret} (h_ret : Group.ret ∈ w ∨ x_ret = t.ret)
    {x_host} (h_host : Group.host ∈ w ∨ x_host = t.host)
    {x_link} (h_link : Group.link ∈ w ∨ x_link = t.link)
    {x_intake} (h_intake : Group.intake ∈ w ∨ x_intake = t.intake)
    {x_params} (h_params : Group.params ∈ w ∨ x_params = t.params)
    {x_motion} (h_motion : Group.motion ∈ w ∨ x_motion = t.motion)
    {x_cur} (h_cur : Group.cur ∈ w ∨ x_cur = t.cur)
    {x_wedge} (h_wedge : Group.wedge ∈ w ∨ x_wedge = t.wedge)
    {x_gate} (h_gate : Group.gate ∈ w ∨ x_gate = t.gate)
    {x_follow} (h_follow : Group.follow ∈ w ∨ x_follow = t.follow)
    {x_mon} (h_mon : Group.mon ∈ w ∨ x_mon = t.mon)
    {x_channels} (h_channels : Group.channels ∈ w ∨ x_channels = t.channels)
    {x_cmp} (h_cmp : Group.cmp ∈ w ∨ x_cmp = t.cmp)
    {x_divo} (h_divo : Group.divo ∈ w ∨ x_divo = t.divo)
    {x_sensor} (h_sensor : Group.sensor ∈ w ∨ x_sensor = t.sensor)
    {x_plan} (h_plan : Group.plan ∈ w ∨ x_plan = t.plan)
    {x_ports} (h_ports : Group.ports ∈ w ∨ x_ports = t.ports)
    {x_fab} (h_fab : Group.fab ∈ w ∨ x_fab = t.fab)
    {x_iso} (h_iso : Group.iso ∈ w ∨ x_iso = t.iso)
    {x_twin} (h_twin : Group.twin ∈ w ∨ x_twin = t.twin)
    {x_svc} (h_svc : Group.svc ∈ w ∨ x_svc = t.svc)
    {x_faults} (h_faults : Group.faults ∈ w ∨ x_faults = t.faults)
    {x_free} (h_free : Group.free ∈ w ∨ x_free = t.free) :
    (State.mk x_clock x_frame x_pins x_power x_ret x_host x_link x_intake x_params x_motion x_cur x_wedge x_gate x_follow x_mon x_channels x_cmp x_divo x_sensor x_plan x_ports x_fab x_iso x_twin x_svc x_faults x_free t.pending).blank w = t.blank w := by
  simp only [State.blank, State.mk.injEq]
  refine ⟨?_, ?_, ?_, ?_, ?_, ?_, ?_, ?_, ?_, ?_, ?_, ?_, ?_, ?_, ?_, ?_, ?_, ?_, ?_, ?_, ?_, ?_, ?_, ?_, ?_, ?_, ?_, trivial⟩ <;> split <;> simp_all

@[simp] theorem foldl_blank {α : Type} (f : State → α → State) (h : ∀ t a, (f t a).blank w = t.blank w) (l : List α) :
    ∀ s, (l.foldl f s).blank w = s.blank w := by
  induction l with
  | nil => exact fun _ => rfl
  | cons a l ih => exact fun s => (ih (f s a)).trans (h s a)

@[simp] theorem forAxes_blank (f : Fin 4 → State → State) (h : ∀ n t, (f n t).blank w = t.blank w) (s : State) :
    (forAxes s f).blank w = s.blank w := by simp only [forAxes, h]

@[simp] theorem forPorts_blank (f : Fin 2 → State → State) (h : ∀ p t, (f p t).blank w = t.blank w) (s : State) :
    (forPorts s f).blank w = s.blank w := by simp only [forPorts, h]

theorem blank_ext {a b : State}
    (h_clock : Group.clock ∉ w → a.clock = b.clock)
    (h_frame : Group.frame ∉ w → a.frame = b.frame)
    (h_pins : Group.pins ∉ w → a.pins = b.pins)
    (h_power : Group.power ∉ w → a.power = b.power)
    (h_ret : Group.ret ∉ w → a.ret = b.ret)
    (h_host : Group.host ∉ w → a.host = b.host)
    (h_link : Group.link ∉ w → a.link = b.link)
    (h_intake : Group.intake ∉ w → a.intake = b.intake)
    (h_params : Group.params ∉ w → a.params = b.params)
    (h_motion : Group.motion ∉ w → a.motion = b.motion)
    (h_cur : Group.cur ∉ w → a.cur = b.cur)
    (h_wedge : Group.wedge ∉ w → a.wedge = b.wedge)
    (h_gate : Group.gate ∉ w → a.gate = b.gate)
    (h_follow : Group.follow ∉ w → a.follow = b.follow)
    (h_mon : Group.mon ∉ w → a.mon = b.mon)
    (h_channels : Group.channels ∉ w → a.channels = b.channels)
    (h_cmp : Group.cmp ∉ w → a.cmp = b.cmp)
    (h_divo : Group.divo ∉ w → a.divo = b.divo)
    (h_sensor : Group.sensor ∉ w → a.sensor = b.sensor)
    (h_plan : Group.plan ∉ w → a.plan = b.plan)
    (h_ports : Group.ports ∉ w → a.ports = b.ports)
    (h_fab : Group.fab ∉ w → a.fab = b.fab)
    (h_iso : Group.iso ∉ w → a.iso = b.iso)
    (h_twin : Group.twin ∉ w → a.twin = b.twin)
    (h_svc : Group.svc ∉ w → a.svc = b.svc)
    (h_faults : Group.faults ∉ w → a.faults = b.faults)
    (h_free : Group.free ∉ w → a.free = b.free)
    (h_pending : Group.pending ∉ w → a.pending = b.pending) : a.blank w = b.blank w := by
  simp only [State.blank, State.mk.injEq]
  refine ⟨?_, ?_, ?_, ?_, ?_, ?_, ?_, ?_, ?_, ?_, ?_, ?_, ?_, ?_, ?_, ?_, ?_, ?_, ?_, ?_, ?_, ?_, ?_, ?_, ?_, ?_, ?_, ?_⟩ <;> split <;> simp_all

theorem only_clock {a b : State} (h : a.blank w = b.blank w) (k : Group.clock ∉ w) : a.clock = b.clock := by
  have e := congrArg State.clock h; simpa [State.blank, k] using e
theorem only_frame {a b : State} (h : a.blank w = b.blank w) (k : Group.frame ∉ w) : a.frame = b.frame := by
  have e := congrArg State.frame h; simpa [State.blank, k] using e
theorem only_pins {a b : State} (h : a.blank w = b.blank w) (k : Group.pins ∉ w) : a.pins = b.pins := by
  have e := congrArg State.pins h; simpa [State.blank, k] using e
theorem only_power {a b : State} (h : a.blank w = b.blank w) (k : Group.power ∉ w) : a.power = b.power := by
  have e := congrArg State.power h; simpa [State.blank, k] using e
theorem only_ret {a b : State} (h : a.blank w = b.blank w) (k : Group.ret ∉ w) : a.ret = b.ret := by
  have e := congrArg State.ret h; simpa [State.blank, k] using e
theorem only_host {a b : State} (h : a.blank w = b.blank w) (k : Group.host ∉ w) : a.host = b.host := by
  have e := congrArg State.host h; simpa [State.blank, k] using e
theorem only_link {a b : State} (h : a.blank w = b.blank w) (k : Group.link ∉ w) : a.link = b.link := by
  have e := congrArg State.link h; simpa [State.blank, k] using e
theorem only_intake {a b : State} (h : a.blank w = b.blank w) (k : Group.intake ∉ w) : a.intake = b.intake := by
  have e := congrArg State.intake h; simpa [State.blank, k] using e
theorem only_params {a b : State} (h : a.blank w = b.blank w) (k : Group.params ∉ w) : a.params = b.params := by
  have e := congrArg State.params h; simpa [State.blank, k] using e
theorem only_motion {a b : State} (h : a.blank w = b.blank w) (k : Group.motion ∉ w) : a.motion = b.motion := by
  have e := congrArg State.motion h; simpa [State.blank, k] using e
theorem only_cur {a b : State} (h : a.blank w = b.blank w) (k : Group.cur ∉ w) : a.cur = b.cur := by
  have e := congrArg State.cur h; simpa [State.blank, k] using e
theorem only_wedge {a b : State} (h : a.blank w = b.blank w) (k : Group.wedge ∉ w) : a.wedge = b.wedge := by
  have e := congrArg State.wedge h; simpa [State.blank, k] using e
theorem only_gate {a b : State} (h : a.blank w = b.blank w) (k : Group.gate ∉ w) : a.gate = b.gate := by
  have e := congrArg State.gate h; simpa [State.blank, k] using e
theorem only_follow {a b : State} (h : a.blank w = b.blank w) (k : Group.follow ∉ w) : a.follow = b.follow := by
  have e := congrArg State.follow h; simpa [State.blank, k] using e
theorem only_mon {a b : State} (h : a.blank w = b.blank w) (k : Group.mon ∉ w) : a.mon = b.mon := by
  have e := congrArg State.mon h; simpa [State.blank, k] using e
theorem only_channels {a b : State} (h : a.blank w = b.blank w) (k : Group.channels ∉ w) : a.channels = b.channels := by
  have e := congrArg State.channels h; simpa [State.blank, k] using e
theorem only_cmp {a b : State} (h : a.blank w = b.blank w) (k : Group.cmp ∉ w) : a.cmp = b.cmp := by
  have e := congrArg State.cmp h; simpa [State.blank, k] using e
theorem only_divo {a b : State} (h : a.blank w = b.blank w) (k : Group.divo ∉ w) : a.divo = b.divo := by
  have e := congrArg State.divo h; simpa [State.blank, k] using e
theorem only_sensor {a b : State} (h : a.blank w = b.blank w) (k : Group.sensor ∉ w) : a.sensor = b.sensor := by
  have e := congrArg State.sensor h; simpa [State.blank, k] using e
theorem only_plan {a b : State} (h : a.blank w = b.blank w) (k : Group.plan ∉ w) : a.plan = b.plan := by
  have e := congrArg State.plan h; simpa [State.blank, k] using e
theorem only_ports {a b : State} (h : a.blank w = b.blank w) (k : Group.ports ∉ w) : a.ports = b.ports := by
  have e := congrArg State.ports h; simpa [State.blank, k] using e
theorem only_fab {a b : State} (h : a.blank w = b.blank w) (k : Group.fab ∉ w) : a.fab = b.fab := by
  have e := congrArg State.fab h; simpa [State.blank, k] using e
theorem only_iso {a b : State} (h : a.blank w = b.blank w) (k : Group.iso ∉ w) : a.iso = b.iso := by
  have e := congrArg State.iso h; simpa [State.blank, k] using e
theorem only_twin {a b : State} (h : a.blank w = b.blank w) (k : Group.twin ∉ w) : a.twin = b.twin := by
  have e := congrArg State.twin h; simpa [State.blank, k] using e
theorem only_svc {a b : State} (h : a.blank w = b.blank w) (k : Group.svc ∉ w) : a.svc = b.svc := by
  have e := congrArg State.svc h; simpa [State.blank, k] using e
theorem only_faults {a b : State} (h : a.blank w = b.blank w) (k : Group.faults ∉ w) : a.faults = b.faults := by
  have e := congrArg State.faults h; simpa [State.blank, k] using e
theorem only_free {a b : State} (h : a.blank w = b.blank w) (k : Group.free ∉ w) : a.free = b.free := by
  have e := congrArg State.free h; simpa [State.blank, k] using e
theorem only_pending {a b : State} (h : a.blank w = b.blank w) (k : Group.pending ∉ w) : a.pending = b.pending := by
  have e := congrArg State.pending h; simpa [State.blank, k] using e

/-- All parts but one. -/
def allBut (k : Group) : List Group :=
  [.clock, .frame, .pins, .power, .ret, .host, .link, .intake, .params, .motion, .cur, .wedge, .gate, .follow, .mon, .channels,
   .cmp, .divo, .sensor, .plan, .ports, .fab, .iso, .twin, .svc, .faults, .free, .pending].filter (fun g => g != k)

@[simp] theorem mem_allBut (g k : Group) : g ∈ allBut k ↔ g ≠ k := by cases g <;> cases k <;> decide

@[simp] theorem blank_ite (c : Prop) [Decidable c] (a b : State) :
    (if c then a else b).blank w = if c then a.blank w else b.blank w := apply_ite (State.blank w) c a b

/-- The state that an outcome goes on with, its parts of `w` put back. -/
def ran (w : List Group) (o : Host.Outcome State Fault Refusal) : Option State :=
  match o with
  | .next t => some (t.blank w)
  | _ => none

@[simp] theorem ran_next (t : State) : ran w (.next t) = some (t.blank w) := rfl

/-- A meaning that is known to run answers a next state that differs in the parts of `w` at most. -/
theorem only_of_ran {o : Host.Outcome State Fault Refusal} {s : State} (h : ran w o = some (s.blank w)) :
    ∃ t, o = .next t ∧ s.only w t := by
  cases o with
  | next t => exact ⟨t, rfl, by simpa [ran, State.only] using h⟩
  | fault r => simp [ran] at h
  | refused r => simp [ran] at h

end Sys2Proof.Machine
end

