-- ==== Sys2Proof/Laws/Ops.lean ====
section
/-! SUPPORT. The parts of the state that the operations of Machine/Ops.lean can change: all others keep their value. -/

namespace Sys2Proof.Machine

set_option linter.all false
set_option linter.unusedSimpArgs false

variable {w : List Group}

@[simp] theorem State.fresh_blank (h_free : Group.free ∈ w) (s : State) :
    (State.fresh s).2.blank w = s.blank w := by
  unfold State.fresh
  simp only [blank_mk, eq_self, or_true, true_or, apply_ite (State.blank w), ite_self, foldl_blank, implies_true, h_free]

@[simp] theorem State.flashWrite_blank (h_free : Group.free ∈ w) (s : State) :
    (State.flashWrite s).2.blank w = s.blank w := by
  unfold State.flashWrite
  simp only [blank_mk, eq_self, or_true, true_or, apply_ite (State.blank w), ite_self, foldl_blank, implies_true, h_free]

@[simp] theorem State.setSeq_blank (h_power : Group.power ∈ w) (s : State) (n : Fin 4) (f : AxSeqSt → AxSeqSt) :
    (State.setSeq s n f).blank w = s.blank w := by
  unfold State.setSeq
  simp only [blank_mk, eq_self, or_true, true_or, apply_ite (State.blank w), ite_self, foldl_blank, implies_true, h_power]

@[simp] theorem State.updMotion_blank (h_motion : Group.motion ∈ w) (s : State) (n : Fin 4) (f : MotionSt → MotionSt) :
    (State.updMotion s n f).blank w = s.blank w := by
  unfold State.updMotion
  simp only [blank_mk, eq_self, or_true, true_or, apply_ite (State.blank w), ite_self, foldl_blank, implies_true, h_motion]

@[simp] theorem State.updCur_blank (h_cur : Group.cur ∈ w) (s : State) (n : Fin 4) (f : CurrentSt → CurrentSt) :
    (State.updCur s n f).blank w = s.blank w := by
  unfold State.updCur
  simp only [blank_mk, eq_self, or_true, true_or, apply_ite (State.blank w), ite_self, foldl_blank, implies_true, h_cur]

@[simp] theorem State.updWedge_blank (h_wedge : Group.wedge ∈ w) (s : State) (n : Fin 4) (f : WedgeSt → WedgeSt) :
    (State.updWedge s n f).blank w = s.blank w := by
  unfold State.updWedge
  simp only [blank_mk, eq_self, or_true, true_or, apply_ite (State.blank w), ite_self, foldl_blank, implies_true, h_wedge]

@[simp] theorem State.updGate_blank (h_gate : Group.gate ∈ w) (s : State) (n : Fin 4) (f : GateSt → GateSt) :
    (State.updGate s n f).blank w = s.blank w := by
  unfold State.updGate
  simp only [blank_mk, eq_self, or_true, true_or, apply_ite (State.blank w), ite_self, foldl_blank, implies_true, h_gate]

@[simp] theorem State.updFollow_blank (h_follow : Group.follow ∈ w) (s : State) (n : Fin 4) (f : FollowSt → FollowSt) :
    (State.updFollow s n f).blank w = s.blank w := by
  unfold State.updFollow
  simp only [blank_mk, eq_self, or_true, true_or, apply_ite (State.blank w), ite_self, foldl_blank, implies_true, h_follow]

@[simp] theorem State.updChan_blank (h_channels : Group.channels ∈ w) (s : State) (n : Fin 4) (f : ChannelSt → ChannelSt) :
    (State.updChan s n f).blank w = s.blank w := by
  unfold State.updChan
  simp only [blank_mk, eq_self, or_true, true_or, apply_ite (State.blank w), ite_self, foldl_blank, implies_true, h_channels]

@[simp] theorem State.updBrake_blank (h_mon : Group.mon ∈ w) (s : State) (b : Fin 4) (f : BrakeSt → BrakeSt) :
    (State.updBrake s b f).blank w = s.blank w := by
  unfold State.updBrake
  simp only [blank_mk, eq_self, or_true, true_or, apply_ite (State.blank w), ite_self, foldl_blank, implies_true, h_mon]

@[simp] theorem State.updPort_blank (h_ports : Group.ports ∈ w) (s : State) (p : Fin 2) (f : PortSt → PortSt) :
    (State.updPort s p f).blank w = s.blank w := by
  unfold State.updPort
  simp only [blank_mk, eq_self, or_true, true_or, apply_ite (State.blank w), ite_self, foldl_blank, implies_true, h_ports]

@[simp] theorem State.putSlot_blank (h_intake : Group.intake ∈ w) (s : State) (a : Nat) (l : List Byte) :
    (State.putSlot s a l).blank w = s.blank w := by
  unfold State.putSlot
  simp only [blank_mk, eq_self, or_true, true_or, apply_ite (State.blank w), ite_self, foldl_blank, implies_true, h_intake]

@[simp] theorem State.putBulk_blank (h_intake : Group.intake ∈ w) (s : State) (a : Nat) (l : List Byte) :
    (State.putBulk s a l).blank w = s.blank w := by
  unfold State.putBulk
  simp only [blank_mk, eq_self, or_true, true_or, apply_ite (State.blank w), ite_self, foldl_blank, implies_true, h_intake]

@[simp] theorem State.setHop_blank (h_intake : Group.intake ∈ w) (s : State) (h : Nat) (f : HopSt → HopSt) :
    (State.setHop s h f).blank w = s.blank w := by
  unfold State.setHop
  simp only [blank_mk, eq_self, or_true, true_or, apply_ite (State.blank w), ite_self, foldl_blank, implies_true, h_intake]

@[simp] theorem State.setProg_blank (h_intake : Group.intake ∈ w) (s : State) (h : Nat) (v : Nat) :
    (State.setProg s h v).blank w = s.blank w := by
  unfold State.setProg
  simp only [State.putSlot_blank, blank_mk, eq_self, or_true, true_or, apply_ite (State.blank w), ite_self, foldl_blank, implies_true, h_intake]

@[simp] theorem State.notePeak_blank (h_intake : Group.intake ∈ w) (s : State) (k : Nat) :
    (State.notePeak s k).blank w = s.blank w := by
  unfold State.notePeak
  simp only [blank_mk, eq_self, or_true, true_or, apply_ite (State.blank w), ite_self, foldl_blank, implies_true, h_intake]

@[simp] theorem State.ev_blank (h_fab : Group.fab ∈ w) (h_faults : Group.faults ∈ w) (s : State) (code : Nat) (qual : Nat) :
    (State.ev s code qual).blank w = s.blank w := by
  unfold State.ev
  simp only [blank_mk, eq_self, or_true, true_or, apply_ite (State.blank w), ite_self, foldl_blank, implies_true, h_fab, h_faults]

@[simp] theorem State.evNames_blank (h_fab : Group.fab ∈ w) (h_faults : Group.faults ∈ w) (s : State) (code : Nat) (a : Nat) (b : Nat) :
    (State.evNames s code a b).blank w = s.blank w := by
  unfold State.evNames
  simp only [State.ev_blank, blank_mk, eq_self, or_true, true_or, apply_ite (State.blank w), ite_self, foldl_blank, implies_true, h_fab, h_faults]

@[simp] theorem State.evIf_blank (h_fab : Group.fab ∈ w) (h_faults : Group.faults ∈ w) (s : State) (c : Bool) (code : Nat) (qual : Nat) :
    (State.evIf s c code qual).blank w = s.blank w := by
  unfold State.evIf
  simp only [State.ev_blank, blank_mk, eq_self, or_true, true_or, apply_ite (State.blank w), ite_self, foldl_blank, implies_true, h_fab, h_faults]

@[simp] theorem State.raiseAs_blank (h_faults : Group.faults ∈ w) (s : State) (cls : Option Nat) (code : Nat) (qual : Nat) (axes : BitVec 4) (cond : Bool) :
    (State.raiseAs s cls code qual axes cond).blank w = s.blank w := by
  unfold State.raiseAs
  simp only [blank_mk, eq_self, or_true, true_or, apply_ite (State.blank w), ite_self, foldl_blank, implies_true, h_faults]

@[simp] theorem State.raise_blank (h_faults : Group.faults ∈ w) (s : State) (code : Nat) (qual : Nat) (axes : BitVec 4) (cond : Bool) :
    (State.raise s code qual axes cond).blank w = s.blank w := by
  unfold State.raise
  simp only [State.raiseAs_blank, blank_mk, eq_self, or_true, true_or, apply_ite (State.blank w), ite_self, foldl_blank, implies_true, h_faults]

@[simp] theorem State.note_blank (h_faults : Group.faults ∈ w) (s : State) (code : Nat) (qual : Nat) (axes : BitVec 4) (cond : Bool) :
    (State.note s code qual axes cond).blank w = s.blank w := by
  unfold State.note
  simp only [blank_mk, eq_self, or_true, true_or, apply_ite (State.blank w), ite_self, foldl_blank, implies_true, h_faults]

@[simp] theorem State.markLock_blank (h_faults : Group.faults ∈ w) (s : State) (code : Nat) :
    (State.markLock s code).blank w = s.blank w := by
  unfold State.markLock
  simp only [blank_mk, eq_self, or_true, true_or, apply_ite (State.blank w), ite_self, foldl_blank, implies_true, h_faults]

@[simp] theorem State.noteEv_blank (h_faults : Group.faults ∈ w) (s : State) (code : Nat) (qual : Nat) :
    (State.noteEv s code qual).blank w = s.blank w := by
  unfold State.noteEv
  simp only [blank_mk, eq_self, or_true, true_or, apply_ite (State.blank w), ite_self, foldl_blank, implies_true, h_faults]

@[simp] theorem State.condEnd_blank (h_faults : Group.faults ∈ w) (s : State) (code : Nat) :
    (State.condEnd s code).blank w = s.blank w := by
  unfold State.condEnd
  simp only [blank_mk, eq_self, or_true, true_or, apply_ite (State.blank w), ite_self, foldl_blank, implies_true, h_faults]

end Sys2Proof.Machine
end

