-- ==== Sys2Proof/Laws/Host.lean ====
section
/-! SUPPORT. The parts of the state that the operations of Machine/Host.lean can change: all others keep their value. -/

namespace Sys2Proof.Machine

set_option linter.all false
set_option linter.unusedSimpArgs false

variable {w : List Group}

@[simp] theorem State.setDom_blank (h_power : Group.power ∈ w) (s : State) (d : Domain) (f : DomSt → DomSt) :
    (State.setDom s d f).blank w = s.blank w := by
  unfold State.setDom
  simp only [blank_mk, eq_self, or_true, true_or, apply_ite (State.blank w), ite_self, foldl_blank, implies_true, h_power]

@[simp] theorem State.beginStep_blank (h_power : Group.power ∈ w) (s : State) (d : Domain) (st : DomStage) (l : Option Bool) :
    (State.beginStep s d st l).blank w = s.blank w := by
  unfold State.beginStep
  simp only [State.setDom_blank, blank_mk, eq_self, or_true, true_or, apply_ite (State.blank w), ite_self, foldl_blank, implies_true, h_power]

@[simp] theorem State.bumpReject_blank (h_pins : Group.pins ∈ w) (h_fab : Group.fab ∈ w) (h_faults : Group.faults ∈ w) (s : State) (pin : Nat) :
    (State.bumpReject s pin).blank w = s.blank w := by
  unfold State.bumpReject
  simp only [State.evIf_blank, blank_mk, eq_self, or_true, true_or, apply_ite (State.blank w), ite_self, foldl_blank, implies_true, h_pins, h_fab, h_faults]

@[simp] theorem dbellSlot_blank (h_host : Group.host ∈ w) (h_intake : Group.intake ∈ w) (s : State) (k : Nat) :
    (dbellSlot s k).blank w = s.blank w := by
  unfold dbellSlot
  simp only [State.putSlot_blank, State.setHop_blank, State.setProg_blank, blank_mk, eq_self, or_true, true_or, apply_ite (State.blank w), ite_self, foldl_blank, implies_true, h_host, h_intake]

@[simp] theorem dbellWrite_blank (h_host : Group.host ∈ w) (h_intake : Group.intake ∈ w) (h_faults : Group.faults ∈ w) (v : BitVec 16) (s : State) :
    (dbellWrite v s).blank w = s.blank w := by
  unfold dbellWrite
  dsimp only
  (repeat' split) <;> first | (simp only [State.noteEv_blank, State.notePeak_blank, dbellSlot_blank, blank_mk, eq_self, or_true, true_or, apply_ite (State.blank w), ite_self, foldl_blank, implies_true, h_host, h_intake, h_faults]; done)

@[simp] theorem hwdogWrite_blank (h_link : Group.link ∈ w) (h_fab : Group.fab ∈ w) (h_faults : Group.faults ∈ w) (s : State) :
    (hwdogWrite s).blank w = s.blank w := by
  unfold hwdogWrite
  simp only [State.condEnd_blank, State.evIf_blank, blank_mk, eq_self, or_true, true_or, apply_ite (State.blank w), ite_self, foldl_blank, implies_true, h_link, h_fab, h_faults]

@[simp] theorem attsrcClear_blank (h_host : Group.host ∈ w) (v : Nat) (s : State) :
    (attsrcClear v s).blank w = s.blank w := by
  unfold attsrcClear
  simp only [blank_mk, eq_self, or_true, true_or, apply_ite (State.blank w), ite_self, foldl_blank, implies_true, h_host]

@[simp] theorem strstatClear_blank (h_host : Group.host ∈ w) (v : Nat) (s : State) :
    (strstatClear v s).blank w = s.blank w := by
  unfold strstatClear
  simp only [blank_mk, eq_self, or_true, true_or, apply_ite (State.blank w), ite_self, foldl_blank, implies_true, h_host]

@[simp] theorem regWrite_blank (h_pins : Group.pins ∈ w) (h_host : Group.host ∈ w) (h_link : Group.link ∈ w) (h_intake : Group.intake ∈ w) (h_fab : Group.fab ∈ w) (h_faults : Group.faults ∈ w) (a : Nat) (v : Nat) (s : State) :
    (regWrite a v s).blank w = s.blank w := by
  unfold regWrite
  (repeat' split) <;> simp only [attsrcClear_blank, dbellWrite_blank, hwdogWrite_blank, strstatClear_blank, blank_mk, eq_self, or_true, true_or, apply_ite (State.blank w), ite_self, foldl_blank, implies_true, h_pins, h_host, h_link, h_intake, h_fab, h_faults]

@[simp] theorem State.abort_blank (h_pins : Group.pins ∈ w) (h_host : Group.host ∈ w) (h_fab : Group.fab ∈ w) (h_faults : Group.faults ∈ w) (s : State) (why : Nat) :
    (State.abort s why).blank w = s.blank w := by
  unfold State.abort
  simp only [State.bumpReject_blank, blank_mk, eq_self, or_true, true_or, apply_ite (State.blank w), ite_self, foldl_blank, implies_true, h_pins, h_host, h_fab, h_faults]

@[simp] theorem State.selFall_blank (h_host : Group.host ∈ w) (s : State) (a1 : SelFall) :
    (State.selFall s a1).blank w = s.blank w := by
  unfold State.selFall
  simp only [blank_mk, eq_self, or_true, true_or, apply_ite (State.blank w), ite_self, foldl_blank, implies_true, h_host]

@[simp] theorem State.cs0Fall_blank (h_host : Group.host ∈ w) (h_link : Group.link ∈ w) (s : State) (a1 : SelFall) (hold : Bool) :
    (State.cs0Fall s a1 hold).blank w = s.blank w := by
  unfold State.cs0Fall
  simp only [State.selFall_blank, blank_mk, eq_self, or_true, true_or, apply_ite (State.blank w), ite_self, foldl_blank, implies_true, h_host, h_link]

@[simp] theorem State.cs0End_blank (h_link : Group.link ∈ w) (s : State) (aborted : Bool) :
    (State.cs0End s aborted).blank w = s.blank w := by
  unfold State.cs0End
  simp only [blank_mk, eq_self, or_true, true_or, apply_ite (State.blank w), ite_self, foldl_blank, implies_true, h_link]

@[simp] theorem State.modeReset_blank (h_host : Group.host ∈ w) (s : State) :
    (State.modeReset s).blank w = s.blank w := by
  unfold State.modeReset
  simp only [blank_mk, eq_self, or_true, true_or, apply_ite (State.blank w), ite_self, foldl_blank, implies_true, h_host]

@[simp] theorem State.acceptWrite_blank (h_link : Group.link ∈ w) (s : State) (f : HostFrame) :
    (State.acceptWrite s f).blank w = s.blank w := by
  unfold State.acceptWrite
  simp only [blank_mk, eq_self, or_true, true_or, apply_ite (State.blank w), ite_self, foldl_blank, implies_true, h_link]

@[simp] theorem State.driveRead_blank (h_link : Group.link ∈ w) (s : State) (f : HostFrame) (bytes : List Byte) (inverted : Bool) :
    (State.driveRead s f bytes inverted).blank w = s.blank w := by
  unfold State.driveRead
  simp only [blank_mk, eq_self, or_true, true_or, apply_ite (State.blank w), ite_self, foldl_blank, implies_true, h_link]

@[simp] theorem State.readOut_blank (h_host : Group.host ∈ w) (h_link : Group.link ∈ w) (s : State) (f : HostFrame) :
    (State.readOut s f).blank w = s.blank w := by
  unfold State.readOut
  simp only [State.driveRead_blank, blank_mk, eq_self, or_true, true_or, apply_ite (State.blank w), ite_self, foldl_blank, implies_true, h_host, h_link]

@[simp] theorem State.readZeros_blank (h_link : Group.link ∈ w) (s : State) (f : HostFrame) (why : Nat) :
    (State.readZeros s f why).blank w = s.blank w := by
  unfold State.readZeros
  simp only [State.driveRead_blank, blank_mk, eq_self, or_true, true_or, apply_ite (State.blank w), ite_self, foldl_blank, implies_true, h_link]

@[simp] theorem State.cs0Frame_blank (h_pins : Group.pins ∈ w) (h_host : Group.host ∈ w) (h_link : Group.link ∈ w) (h_fab : Group.fab ∈ w) (h_faults : Group.faults ∈ w) (s : State) (f : HostFrame) :
    (State.cs0Frame s f).blank w = s.blank w := by
  unfold State.cs0Frame
  simp only [State.abort_blank, State.acceptWrite_blank, State.cs0End_blank, State.cs0Fall_blank, State.modeReset_blank, State.readOut_blank, State.readZeros_blank, blank_mk, eq_self, or_true, true_or, apply_ite (State.blank w), ite_self, foldl_blank, implies_true, h_pins, h_host, h_link, h_fab, h_faults]

@[simp] theorem execHostWriteFrame_blank (h_pins : Group.pins ∈ w) (h_host : Group.host ∈ w) (h_link : Group.link ∈ w) (h_fab : Group.fab ∈ w) (h_faults : Group.faults ∈ w) (f : SckFrame) (s : State) :
    ran w (execHostWriteFrame f s) = some (s.blank w) := by
  unfold execHostWriteFrame
  simp only [State.cs0Frame_blank, blank_mk, eq_self, or_true, true_or, apply_ite (State.blank w), ite_self, foldl_blank, implies_true, ran_next, apply_ite (ran w), h_pins, h_host, h_link, h_fab, h_faults]

@[simp] theorem applyWrite_blank (h_pins : Group.pins ∈ w) (h_host : Group.host ∈ w) (h_link : Group.link ∈ w) (h_intake : Group.intake ∈ w) (h_fab : Group.fab ∈ w) (h_faults : Group.faults ∈ w) (a0 : HostWrite) (s : State) :
    (applyWrite a0 s).blank w = s.blank w := by
  unfold applyWrite
  simp only [State.putBulk_blank, State.putSlot_blank, regWrite_blank, blank_mk, eq_self, or_true, true_or, apply_ite (State.blank w), ite_self, foldl_blank, implies_true, h_pins, h_host, h_link, h_intake, h_fab, h_faults]

@[simp] theorem execWriteApplied_blank (h_pins : Group.pins ∈ w) (h_host : Group.host ∈ w) (h_link : Group.link ∈ w) (h_intake : Group.intake ∈ w) (h_fab : Group.fab ∈ w) (h_faults : Group.faults ∈ w) (s : State) :
    ran w (execWriteApplied s) = some (s.blank w) := by
  unfold execWriteApplied
  (repeat' split) <;> simp only [applyWrite_blank, blank_mk, eq_self, or_true, true_or, apply_ite (State.blank w), ite_self, foldl_blank, implies_true, ran_next, apply_ite (ran w), h_pins, h_host, h_link, h_intake, h_fab, h_faults]

@[simp] theorem execHostReadFrame_blank (h_pins : Group.pins ∈ w) (h_host : Group.host ∈ w) (h_link : Group.link ∈ w) (h_fab : Group.fab ∈ w) (h_faults : Group.faults ∈ w) (f : SckFrame) (s : State) :
    ran w (execHostReadFrame f s) = some (s.blank w) := by
  unfold execHostReadFrame
  simp only [State.cs0Frame_blank, blank_mk, eq_self, or_true, true_or, apply_ite (State.blank w), ite_self, foldl_blank, implies_true, ran_next, apply_ite (ran w), h_pins, h_host, h_link, h_fab, h_faults]

@[simp] theorem execModeReset_blank (h_pins : Group.pins ∈ w) (h_host : Group.host ∈ w) (h_link : Group.link ∈ w) (h_fab : Group.fab ∈ w) (h_faults : Group.faults ∈ w) (a0 : SelFall) (s : State) :
    ran w (execModeReset a0 s) = some (s.blank w) := by
  unfold execModeReset
  simp only [State.cs0Frame_blank, blank_mk, eq_self, or_true, true_or, apply_ite (State.blank w), ite_self, foldl_blank, implies_true, ran_next, apply_ite (ran w), h_pins, h_host, h_link, h_fab, h_faults]

@[simp] theorem execHostSckTimeout_blank (h_pins : Group.pins ∈ w) (h_host : Group.host ∈ w) (h_link : Group.link ∈ w) (h_fab : Group.fab ∈ w) (h_faults : Group.faults ∈ w) (a0 : SckFrame) (s : State) :
    ran w (execHostSckTimeout a0 s) = some (s.blank w) := by
  unfold execHostSckTimeout
  simp only [State.abort_blank, State.cs0End_blank, State.cs0Fall_blank, blank_mk, eq_self, or_true, true_or, apply_ite (State.blank w), ite_self, foldl_blank, implies_true, ran_next, apply_ite (ran w), h_pins, h_host, h_link, h_fab, h_faults]

@[simp] theorem execDbell_blank (h_host : Group.host ∈ w) (h_intake : Group.intake ∈ w) (h_faults : Group.faults ∈ w) (v : BitVec 16) (s : State) :
    ran w (execDbell v s) = some (s.blank w) := by
  unfold execDbell
  simp only [dbellWrite_blank, blank_mk, eq_self, or_true, true_or, apply_ite (State.blank w), ite_self, foldl_blank, implies_true, ran_next, apply_ite (ran w), h_host, h_intake, h_faults]

@[simp] theorem execHdoneClear_blank (h_host : Group.host ∈ w) (v : BitVec 16) (s : State) :
    ran w (execHdoneClear v s) = some (s.blank w) := by
  unfold execHdoneClear
  simp only [blank_mk, eq_self, or_true, true_or, apply_ite (State.blank w), ite_self, foldl_blank, implies_true, ran_next, apply_ite (ran w), h_host]

@[simp] theorem execDbrejClear_blank (h_host : Group.host ∈ w) (v : BitVec 16) (s : State) :
    ran w (execDbrejClear v s) = some (s.blank w) := by
  unfold execDbrejClear
  simp only [blank_mk, eq_self, or_true, true_or, apply_ite (State.blank w), ite_self, foldl_blank, implies_true, ran_next, apply_ite (ran w), h_host]

@[simp] theorem execAttsrcClear_blank (h_host : Group.host ∈ w) (v : BitVec 16) (s : State) :
    ran w (execAttsrcClear v s) = some (s.blank w) := by
  unfold execAttsrcClear
  simp only [attsrcClear_blank, blank_mk, eq_self, or_true, true_or, apply_ite (State.blank w), ite_self, foldl_blank, implies_true, ran_next, apply_ite (ran w), h_host]

@[simp] theorem execStrstatClear_blank (h_host : Group.host ∈ w) (v : BitVec 32) (s : State) :
    ran w (execStrstatClear v s) = some (s.blank w) := by
  unfold execStrstatClear
  simp only [strstatClear_blank, blank_mk, eq_self, or_true, true_or, apply_ite (State.blank w), ite_self, foldl_blank, implies_true, ran_next, apply_ite (ran w), h_host]

@[simp] theorem execStrearlyClear_blank (h_host : Group.host ∈ w) (s : State) :
    ran w (execStrearlyClear s) = some (s.blank w) := by
  unfold execStrearlyClear
  simp only [blank_mk, eq_self, or_true, true_or, apply_ite (State.blank w), ite_self, foldl_blank, implies_true, ran_next, apply_ite (ran w), h_host]

@[simp] theorem execCrcerrClear_blank (h_host : Group.host ∈ w) (s : State) :
    ran w (execCrcerrClear s) = some (s.blank w) := by
  unfold execCrcerrClear
  simp only [blank_mk, eq_self, or_true, true_or, apply_ite (State.blank w), ite_self, foldl_blank, implies_true, ran_next, apply_ite (ran w), h_host]

@[simp] theorem execAbortcntClear_blank (h_pins : Group.pins ∈ w) (s : State) :
    ran w (execAbortcntClear s) = some (s.blank w) := by
  unfold execAbortcntClear
  simp only [blank_mk, eq_self, or_true, true_or, apply_ite (State.blank w), ite_self, foldl_blank, implies_true, ran_next, apply_ite (ran w), h_pins]

@[simp] theorem execAbortwhyClear_blank (h_host : Group.host ∈ w) (s : State) :
    ran w (execAbortwhyClear s) = some (s.blank w) := by
  unfold execAbortwhyClear
  simp only [blank_mk, eq_self, or_true, true_or, apply_ite (State.blank w), ite_self, foldl_blank, implies_true, ran_next, apply_ite (ran w), h_host]

@[simp] theorem execRundrClear_blank (h_host : Group.host ∈ w) (s : State) :
    ran w (execRundrClear s) = some (s.blank w) := by
  unfold execRundrClear
  simp only [blank_mk, eq_self, or_true, true_or, apply_ite (State.blank w), ite_self, foldl_blank, implies_true, ran_next, apply_ite (ran w), h_host]

@[simp] theorem execHwdog_blank (h_link : Group.link ∈ w) (h_fab : Group.fab ∈ w) (h_faults : Group.faults ∈ w) (a0 : BitVec 32) (s : State) :
    ran w (execHwdog a0 s) = some (s.blank w) := by
  unfold execHwdog
  simp only [hwdogWrite_blank, blank_mk, eq_self, or_true, true_or, apply_ite (State.blank w), ite_self, foldl_blank, implies_true, ran_next, apply_ite (ran w), h_link, h_fab, h_faults]

@[simp] theorem execHostWatchdogExpiry_blank (h_link : Group.link ∈ w) (h_faults : Group.faults ∈ w) (us : Nat) (s : State) :
    ran w (execHostWatchdogExpiry us s) = some (s.blank w) := by
  unfold execHostWatchdogExpiry
  simp only [State.note_blank, blank_mk, eq_self, or_true, true_or, apply_ite (State.blank w), ite_self, foldl_blank, implies_true, ran_next, apply_ite (ran w), h_link, h_faults]

@[simp] theorem execCrcctlSet_blank (h_host : Group.host ∈ w) (v : BitVec 32) (s : State) :
    ran w (execCrcctlSet v s) = some (s.blank w) := by
  unfold execCrcctlSet
  simp only [blank_mk, eq_self, or_true, true_or, apply_ite (State.blank w), ite_self, foldl_blank, implies_true, ran_next, apply_ite (ran w), h_host]

@[simp] theorem execCmdqWrite_blank (h_host : Group.host ∈ w) (v : BitVec 32) (s : State) :
    ran w (execCmdqWrite v s) = some (s.blank w) := by
  unfold execCmdqWrite
  simp only [blank_mk, eq_self, or_true, true_or, apply_ite (State.blank w), ite_self, foldl_blank, implies_true, ran_next, apply_ite (ran w), h_host]

@[simp] theorem cs1Count_blank (h_host : Group.host ∈ w) (h_link : Group.link ∈ w) (s : State) (clocked : Nat) (out : List Bool) :
    (cs1Count s clocked out).blank w = s.blank w := by
  unfold cs1Count
  simp only [blank_mk, eq_self, or_true, true_or, apply_ite (State.blank w), ite_self, foldl_blank, implies_true, h_host, h_link]

theorem State.cs1Frame_blank (h_pins : Group.pins ∈ w) (h_host : Group.host ∈ w) (h_fab : Group.fab ∈ w) (h_faults : Group.faults ∈ w) (s : State) (f : SelFall) (k : State → State) (hk : ∀ t, (k t).blank w = t.blank w) :
    (State.cs1Frame s f k).blank w = s.blank w := by
  unfold State.cs1Frame
  simp only [State.abort_blank, State.selFall_blank, blank_mk, eq_self, or_true, true_or, apply_ite (State.blank w), ite_self, foldl_blank, implies_true, h_pins, h_host, h_fab, h_faults, hk]

@[simp] theorem bridgeStart_blank (h_host : Group.host ∈ w) (h_link : Group.link ∈ w) (h_sensor : Group.sensor ∈ w) (bits : List Bool) (s : State) :
    (bridgeStart bits s).blank w = s.blank w := by
  unfold bridgeStart
  simp only [cs1Count_blank, blank_mk, eq_self, or_true, true_or, apply_ite (State.blank w), ite_self, foldl_blank, implies_true, h_host, h_link, h_sensor]

@[simp] theorem execSensorBridgeTransfer_blank (h_pins : Group.pins ∈ w) (h_host : Group.host ∈ w) (h_link : Group.link ∈ w) (h_sensor : Group.sensor ∈ w) (h_fab : Group.fab ∈ w) (h_faults : Group.faults ∈ w) (a0 : SelFall) (bits : List Bool) (s : State) :
    ran w (execSensorBridgeTransfer a0 bits s) = some (s.blank w) := by
  unfold execSensorBridgeTransfer
  simp only [State.cs1Frame_blank, bridgeStart_blank, blank_mk, eq_self, or_true, true_or, apply_ite (State.blank w), ite_self, foldl_blank, implies_true, ran_next, apply_ite (ran w), h_pins, h_host, h_link, h_sensor, h_fab, h_faults]

@[simp] theorem State.bridgeEnd_blank (h_host : Group.host ∈ w) (h_link : Group.link ∈ w) (h_sensor : Group.sensor ∈ w) (s : State) (timeout : Bool) (bits : List Bool) :
    (State.bridgeEnd s timeout bits).blank w = s.blank w := by
  unfold State.bridgeEnd
  simp only [blank_mk, eq_self, or_true, true_or, apply_ite (State.blank w), ite_self, foldl_blank, implies_true, h_host, h_link, h_sensor]

@[simp] theorem execBridgeTransferDone_blank (h_host : Group.host ∈ w) (h_link : Group.link ∈ w) (h_sensor : Group.sensor ∈ w) (read : List Bool) (s : State) :
    ran w (execBridgeTransferDone read s) = some (s.blank w) := by
  unfold execBridgeTransferDone
  simp only [State.bridgeEnd_blank, blank_mk, eq_self, or_true, true_or, apply_ite (State.blank w), ite_self, foldl_blank, implies_true, ran_next, apply_ite (ran w), h_host, h_link, h_sensor]

@[simp] theorem snapshotOut_blank (h_host : Group.host ∈ w) (h_link : Group.link ∈ w) (clocks : Nat) (s : State) :
    (snapshotOut clocks s).blank w = s.blank w := by
  unfold snapshotOut
  simp only [cs1Count_blank, blank_mk, eq_self, or_true, true_or, apply_ite (State.blank w), ite_self, foldl_blank, implies_true, h_host, h_link]

@[simp] theorem execSnapshotReadout_blank (h_pins : Group.pins ∈ w) (h_host : Group.host ∈ w) (h_link : Group.link ∈ w) (h_fab : Group.fab ∈ w) (h_faults : Group.faults ∈ w) (a0 : SelFall) (clocks : Nat) (s : State) :
    ran w (execSnapshotReadout a0 clocks s) = some (s.blank w) := by
  unfold execSnapshotReadout
  simp only [State.cs1Frame_blank, snapshotOut_blank, blank_mk, eq_self, or_true, true_or, apply_ite (State.blank w), ite_self, foldl_blank, implies_true, ran_next, apply_ite (ran w), h_pins, h_host, h_link, h_fab, h_faults]

@[simp] theorem execCs1TransferRefused_blank (h_pins : Group.pins ∈ w) (h_host : Group.host ∈ w) (h_fab : Group.fab ∈ w) (h_faults : Group.faults ∈ w) (a0 : SelFall) (s : State) :
    ran w (execCs1TransferRefused a0 s) = some (s.blank w) := by
  unfold execCs1TransferRefused
  exact congrArg some (State.cs1Frame_blank h_pins h_host h_fab h_faults _ _ _ (fun t => rfl))

end Sys2Proof.Machine
end

