-- ==== Sys2Proof/Laws/Wire.lean ====
section
/-! SUPPORT. The parts of the state that the operations of Machine/Wire.lean can change: all others keep their value. -/

namespace Sys2Proof.Machine

set_option linter.all false
set_option linter.unusedSimpArgs false

variable {w : List Group}

theorem State.queueControl_blank (h_ports : Group.ports ∈ w) {s : State} {p : Fin 2} {fs : List AmFrame} {t : State} (e : State.queueControl s p fs = some t) :
    t.blank w = s.blank w := by
  unfold State.queueControl at e
  (repeat' split at e) <;> simp only [Option.some.injEq, reduceCtorEq, Prod.mk.injEq] at e <;> (try subst e) <;> simp only [State.updPort_blank, blank_mk, eq_self, or_true, true_or, apply_ite (State.blank w), ite_self, foldl_blank, implies_true, h_ports]

@[simp] theorem State.isoSend_blank (h_iso : Group.iso ∈ w) (s : State) (f : IsoFrame) :
    (State.isoSend s f).blank w = s.blank w := by
  unfold State.isoSend
  simp only [blank_mk, eq_self, or_true, true_or, apply_ite (State.blank w), ite_self, foldl_blank, implies_true, h_iso]

@[simp] theorem State.isoSent_blank (h_iso : Group.iso ∈ w) (s : State) :
    (State.isoSent s).blank w = s.blank w := by
  unfold State.isoSent
  simp only [blank_mk, eq_self, or_true, true_or, apply_ite (State.blank w), ite_self, foldl_blank, implies_true, h_iso]

theorem State.openTp_blank (h_iso : Group.iso ∈ w) {s : State} {dst : Nat} {pgn : Nat} {body : List Byte} {t : State} (e : State.openTp s dst pgn body = some t) :
    t.blank w = s.blank w := by
  unfold State.openTp at e
  dsimp only at e
  (repeat' split at e) <;> simp only [Option.some.injEq, reduceCtorEq, Prod.mk.injEq] at e <;> (try subst e) <;> first | (simp only [State.isoSend_blank, blank_mk, eq_self, or_true, true_or, apply_ite (State.blank w), ite_self, foldl_blank, implies_true, h_iso]; done)

end Sys2Proof.Machine
end

