-- ==== Sys2Proof/Laws/Hop.lean ====
section
/-! SUPPORT. The parts of the state that the operations of Machine/Hop.lean can change: all others keep their value. -/

namespace Sys2Proof.Machine

set_option linter.all false
set_option linter.unusedSimpArgs false

variable {w : List Group}

@[simp] theorem State.setStage_blank (h_intake : Group.intake ∈ w) (s : State) (h : Nat) (st : HopStage) :
    (State.setStage s h st).blank w = s.blank w := by
  unfold State.setStage
  simp only [State.setHop_blank, State.setProg_blank, blank_mk, eq_self, or_true, true_or, apply_ite (State.blank w), ite_self, foldl_blank, implies_true, h_intake]

theorem State.respondFabric_blank (h_ports : Group.ports ∈ w) {s : State} {h : Nat} {t : State} (e : State.respondFabric s h = some t) :
    t.blank w = s.blank w := by
  unfold State.respondFabric at e
  dsimp only at e
  (repeat' split at e) <;> first | (exact absurd e (by simp)) | (injection e with e; subst e; (repeat' split) <;> first | (simp only [blank_mk, eq_self, or_true, true_or, apply_ite (State.blank w), ite_self, foldl_blank, implies_true, h_ports]; done) | (have e' := State.queueControl_blank h_ports (by assumption); simp only [blank_mk, eq_self, or_true, true_or, apply_ite (State.blank w), ite_self, foldl_blank, implies_true, h_ports, e'])) | (first | (simp only [blank_mk, eq_self, or_true, true_or, apply_ite (State.blank w), ite_self, foldl_blank, implies_true, h_ports]; done) | (have e' := State.queueControl_blank h_ports (by assumption); simp only [blank_mk, eq_self, or_true, true_or, apply_ite (State.blank w), ite_self, foldl_blank, implies_true, h_ports, e']))

theorem State.respondIso_blank (h_iso : Group.iso ∈ w) {s : State} {h : Nat} {t : State} (e : State.respondIso s h = some t) :
    t.blank w = s.blank w := by
  exact State.openTp_blank h_iso e

@[simp] theorem State.freeHop_blank (h_intake : Group.intake ∈ w) (s : State) (h : Nat) :
    (State.freeHop s h).blank w = s.blank w := by
  unfold State.freeHop
  simp only [State.setHop_blank, blank_mk, eq_self, or_true, true_or, apply_ite (State.blank w), ite_self, foldl_blank, implies_true, h_intake]

@[simp] theorem State.giveBack_blank (h_host : Group.host ∈ w) (h_intake : Group.intake ∈ w) (h_ports : Group.ports ∈ w) (h_fab : Group.fab ∈ w) (h_iso : Group.iso ∈ w) (h_faults : Group.faults ∈ w) (s : State) (h : Nat) :
    (State.giveBack s h).blank w = s.blank w := by
  unfold State.giveBack
  dsimp only
  split
  · simp only [State.evIf_blank, State.ev_blank, State.freeHop_blank, State.setHop_blank, blank_mk, eq_self, or_true, true_or, apply_ite (State.blank w), ite_self, foldl_blank, implies_true, h_host, h_intake, h_ports, h_fab, h_iso, h_faults]
  · split
    · simp only [State.evIf_blank, State.ev_blank, State.freeHop_blank, State.setHop_blank, blank_mk, eq_self, or_true, true_or, apply_ite (State.blank w), ite_self, foldl_blank, implies_true, h_host, h_intake, h_ports, h_fab, h_iso, h_faults]
    · split
      · have e' := State.respondFabric_blank h_ports (by assumption)
        simp only [State.evIf_blank, State.ev_blank, State.freeHop_blank, State.setHop_blank, blank_mk, eq_self, or_true, true_or, apply_ite (State.blank w), ite_self, foldl_blank, implies_true, h_host, h_intake, h_ports, h_fab, h_iso, h_faults, e']
      · simp only [State.evIf_blank, State.ev_blank, State.freeHop_blank, State.setHop_blank, blank_mk, eq_self, or_true, true_or, apply_ite (State.blank w), ite_self, foldl_blank, implies_true, h_host, h_intake, h_ports, h_fab, h_iso, h_faults]
  · split
    · have e' := State.respondIso_blank h_iso (by assumption)
      simp only [State.evIf_blank, State.ev_blank, State.freeHop_blank, State.setHop_blank, blank_mk, eq_self, or_true, true_or, apply_ite (State.blank w), ite_self, foldl_blank, implies_true, h_host, h_intake, h_ports, h_fab, h_iso, h_faults, e']
    · simp only [State.evIf_blank, State.ev_blank, State.freeHop_blank, State.setHop_blank, blank_mk, eq_self, or_true, true_or, apply_ite (State.blank w), ite_self, foldl_blank, implies_true, h_host, h_intake, h_ports, h_fab, h_iso, h_faults]
  · (repeat' split) <;> simp only [State.evIf_blank, State.ev_blank, State.freeHop_blank, State.setHop_blank, blank_mk, eq_self, or_true, true_or, apply_ite (State.blank w), ite_self, foldl_blank, implies_true, h_host, h_intake, h_ports, h_fab, h_iso, h_faults]

@[simp] theorem State.endBulk_blank (h_host : Group.host ∈ w) (s : State) (h : Nat) :
    (State.endBulk s h).blank w = s.blank w := by
  unfold State.endBulk
  simp only [blank_mk, eq_self, or_true, true_or, apply_ite (State.blank w), ite_self, foldl_blank, implies_true, h_host]

@[simp] theorem State.putResult_blank (h_host : Group.host ∈ w) (h_intake : Group.intake ∈ w) (s : State) (h : Nat) (res : List Byte) :
    (State.putResult s h res).blank w = s.blank w := by
  unfold State.putResult
  simp only [State.putBulk_blank, blank_mk, eq_self, or_true, true_or, apply_ite (State.blank w), ite_self, foldl_blank, implies_true, h_host, h_intake]

@[simp] theorem State.countBusy_blank (h_intake : Group.intake ∈ w) (s : State) (h : Nat) (code : Nat) :
    (State.countBusy s h code).blank w = s.blank w := by
  unfold State.countBusy
  simp only [blank_mk, eq_self, or_true, true_or, apply_ite (State.blank w), ite_self, foldl_blank, implies_true, h_intake]

@[simp] theorem State.finish_blank (h_host : Group.host ∈ w) (h_intake : Group.intake ∈ w) (h_ports : Group.ports ∈ w) (h_fab : Group.fab ∈ w) (h_iso : Group.iso ∈ w) (h_faults : Group.faults ∈ w) (s : State) (h : Nat) (code : Nat) (detail : Nat) (data : List Byte) :
    (State.finish s h code detail data).blank w = s.blank w := by
  unfold State.finish
  simp only [State.countBusy_blank, State.endBulk_blank, State.giveBack_blank, State.putResult_blank, State.putSlot_blank, blank_mk, eq_self, or_true, true_or, apply_ite (State.blank w), ite_self, foldl_blank, implies_true, h_host, h_intake, h_ports, h_fab, h_iso, h_faults]

@[simp] theorem State.dropMark_blank (h_intake : Group.intake ∈ w) (s : State) (h : Nat) :
    (State.dropMark s h).blank w = s.blank w := by
  unfold State.dropMark
  simp only [blank_mk, eq_self, or_true, true_or, apply_ite (State.blank w), ite_self, foldl_blank, implies_true, h_intake]

@[simp] theorem State.runRefused_blank (h_host : Group.host ∈ w) (h_intake : Group.intake ∈ w) (h_plan : Group.plan ∈ w) (h_ports : Group.ports ∈ w) (h_fab : Group.fab ∈ w) (h_iso : Group.iso ∈ w) (h_faults : Group.faults ∈ w) (s : State) (h : Nat) :
    (State.runRefused s h).blank w = s.blank w := by
  unfold State.runRefused
  (repeat' split) <;> simp only [State.finish_blank, blank_mk, eq_self, or_true, true_or, apply_ite (State.blank w), ite_self, foldl_blank, implies_true, h_host, h_intake, h_plan, h_ports, h_fab, h_iso, h_faults]

@[simp] theorem State.refuse_blank (h_host : Group.host ∈ w) (h_intake : Group.intake ∈ w) (h_plan : Group.plan ∈ w) (h_ports : Group.ports ∈ w) (h_fab : Group.fab ∈ w) (h_iso : Group.iso ∈ w) (h_svc : Group.svc ∈ w) (h_faults : Group.faults ∈ w) (s : State) (h : Nat) (code : Nat) (detail : Nat) (res : List Byte) :
    (State.refuse s h code detail res).blank w = s.blank w := by
  unfold State.refuse
  dsimp only
  (repeat' split) <;> first | (simp only [State.dropMark_blank, State.ev_blank, State.finish_blank, State.runRefused_blank, State.setHop_blank, blank_mk, eq_self, or_true, true_or, apply_ite (State.blank w), ite_self, foldl_blank, implies_true, h_host, h_intake, h_plan, h_ports, h_fab, h_iso, h_svc, h_faults]; done)

@[simp] theorem State.doneBulk_blank (h_host : Group.host ∈ w) (h_intake : Group.intake ∈ w) (h_ports : Group.ports ∈ w) (h_fab : Group.fab ∈ w) (h_iso : Group.iso ∈ w) (h_faults : Group.faults ∈ w) (s : State) (h : Nat) (res : List Byte) :
    (State.doneBulk s h res).blank w = s.blank w := by
  unfold State.doneBulk
  simp only [State.endBulk_blank, State.finish_blank, State.giveBack_blank, State.putBulk_blank, State.putSlot_blank, blank_mk, eq_self, or_true, true_or, apply_ite (State.blank w), ite_self, foldl_blank, implies_true, h_host, h_intake, h_ports, h_fab, h_iso, h_faults]

@[simp] theorem State.doneWith_blank (h_host : Group.host ∈ w) (h_intake : Group.intake ∈ w) (h_ports : Group.ports ∈ w) (h_fab : Group.fab ∈ w) (h_iso : Group.iso ∈ w) (h_faults : Group.faults ∈ w) (s : State) (h : Nat) (res : List Byte) :
    (State.doneWith s h res).blank w = s.blank w := by
  unfold State.doneWith
  simp only [State.finish_blank, blank_mk, eq_self, or_true, true_or, apply_ite (State.blank w), ite_self, foldl_blank, implies_true, h_host, h_intake, h_ports, h_fab, h_iso, h_faults]

@[simp] theorem State.endBarriers_blank (h_host : Group.host ∈ w) (h_intake : Group.intake ∈ w) (h_ports : Group.ports ∈ w) (h_fab : Group.fab ∈ w) (h_iso : Group.iso ∈ w) (h_faults : Group.faults ∈ w) (s : State) :
    (State.endBarriers s).blank w = s.blank w := by
  unfold State.endBarriers
  simp only [State.doneWith_blank, blank_mk, eq_self, or_true, true_or, apply_ite (State.blank w), ite_self, foldl_blank, implies_true, h_host, h_intake, h_ports, h_fab, h_iso, h_faults]

@[simp] theorem State.enterWait_blank (h_host : Group.host ∈ w) (h_intake : Group.intake ∈ w) (h_plan : Group.plan ∈ w) (h_ports : Group.ports ∈ w) (h_fab : Group.fab ∈ w) (h_iso : Group.iso ∈ w) (h_svc : Group.svc ∈ w) (h_faults : Group.faults ∈ w) (s : State) (h : Nat) (st : HopStage) :
    (State.enterWait s h st).blank w = s.blank w := by
  unfold State.enterWait
  simp only [State.refuse_blank, State.setHop_blank, State.setStage_blank, blank_mk, eq_self, or_true, true_or, apply_ite (State.blank w), ite_self, foldl_blank, implies_true, h_host, h_intake, h_plan, h_ports, h_fab, h_iso, h_svc, h_faults]

@[simp] theorem State.repark_blank (h_host : Group.host ∈ w) (h_intake : Group.intake ∈ w) (h_plan : Group.plan ∈ w) (h_ports : Group.ports ∈ w) (h_fab : Group.fab ∈ w) (h_iso : Group.iso ∈ w) (h_svc : Group.svc ∈ w) (h_faults : Group.faults ∈ w) (s : State) :
    (State.repark s).blank w = s.blank w := by
  unfold State.repark
  refine foldl_blank _ (fun t a => ?_) _ _
  (repeat' split) <;> simp only [State.enterWait_blank, blank_mk, eq_self, or_true, true_or, apply_ite (State.blank w), ite_self, foldl_blank, implies_true, h_host, h_intake, h_plan, h_ports, h_fab, h_iso, h_svc, h_faults]

@[simp] theorem State.useStart_blank (h_intake : Group.intake ∈ w) (s : State) :
    (State.useStart s).blank w = s.blank w := by
  unfold State.useStart
  simp only [blank_mk, eq_self, or_true, true_or, apply_ite (State.blank w), ite_self, foldl_blank, implies_true, h_intake]

@[simp] theorem State.beginTake_blank (h_host : Group.host ∈ w) (h_intake : Group.intake ∈ w) (s : State) (h : Nat) :
    (State.beginTake s h).blank w = s.blank w := by
  unfold State.beginTake
  simp only [State.setHop_blank, State.useStart_blank, blank_mk, eq_self, or_true, true_or, apply_ite (State.blank w), ite_self, foldl_blank, implies_true, h_host, h_intake]

@[simp] theorem State.stopWins_blank (h_host : Group.host ∈ w) (h_intake : Group.intake ∈ w) (h_plan : Group.plan ∈ w) (h_ports : Group.ports ∈ w) (h_fab : Group.fab ∈ w) (h_iso : Group.iso ∈ w) (h_svc : Group.svc ∈ w) (h_faults : Group.faults ∈ w) (s : State) (h : Nat) :
    (State.stopWins s h).blank w = s.blank w := by
  unfold State.stopWins
  simp only [State.refuse_blank, State.setHop_blank, blank_mk, eq_self, or_true, true_or, apply_ite (State.blank w), ite_self, foldl_blank, implies_true, h_host, h_intake, h_plan, h_ports, h_fab, h_iso, h_svc, h_faults]

@[simp] theorem State.queueRunning_blank (h_params : Group.params ∈ w) (s : State) (ids : List Nat) :
    (State.queueRunning s ids).blank w = s.blank w := by
  unfold State.queueRunning
  refine foldl_blank _ (fun t a => ?_) _ _
  (repeat' split) <;> simp only [blank_mk, eq_self, or_true, true_or, apply_ite (State.blank w), ite_self, foldl_blank, implies_true, h_params]

@[simp] theorem State.evProtected_blank (h_fab : Group.fab ∈ w) (h_faults : Group.faults ∈ w) (s : State) (q : Nat) :
    (State.evProtected s q).blank w = s.blank w := by
  unfold State.evProtected
  simp only [State.evIf_blank, blank_mk, eq_self, or_true, true_or, apply_ite (State.blank w), ite_self, foldl_blank, implies_true, h_fab, h_faults]

@[simp] theorem State.cancelWrites_blank (h_host : Group.host ∈ w) (h_intake : Group.intake ∈ w) (h_params : Group.params ∈ w) (h_ports : Group.ports ∈ w) (h_fab : Group.fab ∈ w) (h_iso : Group.iso ∈ w) (h_faults : Group.faults ∈ w) (s : State) (mask : Nat) (seq : Nat) :
    (State.cancelWrites s mask seq).blank w = s.blank w := by
  unfold State.cancelWrites
  simp only [State.evProtected_blank, State.finish_blank, State.queueRunning_blank, blank_mk, eq_self, or_true, true_or, apply_ite (State.blank w), ite_self, foldl_blank, implies_true, h_host, h_intake, h_params, h_ports, h_fab, h_iso, h_faults]

@[simp] theorem State.preempts_blank (h_host : Group.host ∈ w) (h_intake : Group.intake ∈ w) (h_plan : Group.plan ∈ w) (h_ports : Group.ports ∈ w) (h_fab : Group.fab ∈ w) (h_iso : Group.iso ∈ w) (h_svc : Group.svc ∈ w) (h_faults : Group.faults ∈ w) (s : State) (h : Nat) :
    (State.preempts s h).blank w = s.blank w := by
  unfold State.preempts
  simp only [State.refuse_blank, blank_mk, eq_self, or_true, true_or, apply_ite (State.blank w), ite_self, foldl_blank, implies_true, h_host, h_intake, h_plan, h_ports, h_fab, h_iso, h_svc, h_faults]

@[simp] theorem State.noteLate_blank (h_intake : Group.intake ∈ w) (h_fab : Group.fab ∈ w) (h_faults : Group.faults ∈ w) (s : State) (h : Nat) (n : Nat) :
    (State.noteLate s h n).blank w = s.blank w := by
  unfold State.noteLate
  simp only [State.ev_blank, State.setHop_blank, blank_mk, eq_self, or_true, true_or, apply_ite (State.blank w), ite_self, foldl_blank, implies_true, h_intake, h_fab, h_faults]

@[simp] theorem State.lateStart_blank (h_intake : Group.intake ∈ w) (h_fab : Group.fab ∈ w) (h_faults : Group.faults ∈ w) (s : State) (h : Nat) :
    (State.lateStart s h).blank w = s.blank w := by
  unfold State.lateStart
  (repeat' split) <;> simp only [State.noteLate_blank, blank_mk, eq_self, or_true, true_or, apply_ite (State.blank w), ite_self, foldl_blank, implies_true, h_intake, h_fab, h_faults]

@[simp] theorem State.markStart_blank (h_host : Group.host ∈ w) (h_intake : Group.intake ∈ w) (h_plan : Group.plan ∈ w) (h_ports : Group.ports ∈ w) (h_fab : Group.fab ∈ w) (h_iso : Group.iso ∈ w) (h_svc : Group.svc ∈ w) (h_faults : Group.faults ∈ w) (s : State) (c : CmdSpec) (h : Nat) :
    (State.markStart s c h).blank w = s.blank w := by
  unfold State.markStart
  simp only [State.lateStart_blank, State.preempts_blank, State.setHop_blank, State.setStage_blank, blank_mk, eq_self, or_true, true_or, apply_ite (State.blank w), ite_self, foldl_blank, implies_true, h_host, h_intake, h_plan, h_ports, h_fab, h_iso, h_svc, h_faults]

theorem startCmd_blank (h_host : Group.host ∈ w) (h_intake : Group.intake ∈ w) (h_plan : Group.plan ∈ w) (h_ports : Group.ports ∈ w) (h_fab : Group.fab ∈ w) (h_iso : Group.iso ∈ w) (h_svc : Group.svc ∈ w) (h_faults : Group.faults ∈ w) {c : CmdSpec} (hc : ∀ s h, (c.start s h).blank w = s.blank w) (h : Nat) (s : State) :
    (startCmd c h s).blank w = s.blank w := by
  unfold startCmd
  dsimp only
  (repeat' split) <;> simp only [State.markStart_blank, State.refuse_blank, hc, h_host, h_intake, h_plan, h_ports, h_fab, h_iso, h_svc, h_faults]

@[simp] theorem State.useBulk_blank (h_host : Group.host ∈ w) (h_intake : Group.intake ∈ w) (s : State) (h : Nat) :
    (State.useBulk s h).blank w = s.blank w := by
  unfold State.useBulk
  simp only [State.setHop_blank, blank_mk, eq_self, or_true, true_or, apply_ite (State.blank w), ite_self, foldl_blank, implies_true, h_host, h_intake]

@[simp] theorem State.stopTaken_blank (h_host : Group.host ∈ w) (h_intake : Group.intake ∈ w) (h_plan : Group.plan ∈ w) (h_ports : Group.ports ∈ w) (h_fab : Group.fab ∈ w) (h_iso : Group.iso ∈ w) (h_svc : Group.svc ∈ w) (h_faults : Group.faults ∈ w) (s : State) (h : Nat) :
    (State.stopTaken s h).blank w = s.blank w := by
  unfold State.stopTaken
  simp only [State.stopWins_blank, blank_mk, eq_self, or_true, true_or, apply_ite (State.blank w), ite_self, foldl_blank, implies_true, h_host, h_intake, h_plan, h_ports, h_fab, h_iso, h_svc, h_faults]

@[simp] theorem State.copyOwner_blank (h_params : Group.params ∈ w) (s : State) (o : Owner) :
    (State.copyOwner s o).blank w = s.blank w := by
  unfold State.copyOwner
  simp only [blank_mk, eq_self, or_true, true_or, apply_ite (State.blank w), ite_self, foldl_blank, implies_true, h_params]

@[simp] theorem State.copyEnabled_blank (h_params : Group.params ∈ w) (s : State) (axes : Nat) (units : Nat) :
    (State.copyEnabled s axes units).blank w = s.blank w := by
  unfold State.copyEnabled
  simp only [State.copyOwner_blank, blank_mk, eq_self, or_true, true_or, apply_ite (State.blank w), ite_self, foldl_blank, implies_true, h_params]

theorem takeCmd_blank (h_host : Group.host ∈ w) (h_intake : Group.intake ∈ w) (h_plan : Group.plan ∈ w) (h_ports : Group.ports ∈ w) (h_fab : Group.fab ∈ w) (h_iso : Group.iso ∈ w) (h_svc : Group.svc ∈ w) (h_faults : Group.faults ∈ w) {c : CmdSpec} (hc : ∀ s h, (c.start s h).blank w = s.blank w) (ht : ∀ s h, (c.taken s h).blank w = s.blank w) (h : Nat) (s : State) :
    (takeCmd c h s).blank w = s.blank w := by
  unfold takeCmd
  dsimp only
  (repeat' split) <;> first | (simp only [State.beginTake_blank, State.enterWait_blank, State.refuse_blank, State.setProg_blank, State.stopTaken_blank, State.useBulk_blank, startCmd_blank, blank_mk, eq_self, or_true, true_or, apply_ite (State.blank w), ite_self, foldl_blank, implies_true, h_host, h_intake, h_plan, h_ports, h_fab, h_iso, h_svc, h_faults, hc, ht]; done)

@[simp] theorem State.takeUnknown_blank (h_host : Group.host ∈ w) (h_intake : Group.intake ∈ w) (h_plan : Group.plan ∈ w) (h_ports : Group.ports ∈ w) (h_fab : Group.fab ∈ w) (h_iso : Group.iso ∈ w) (h_svc : Group.svc ∈ w) (h_faults : Group.faults ∈ w) (s : State) (a1 : Nat) :
    (State.takeUnknown s a1).blank w = s.blank w := by
  induction a1 generalizing s with
  | zero => rfl
  | succ k ih =>
    unfold State.takeUnknown
    split
    · rfl
    · split
      · rfl
      · rw [ih]
        (repeat' split) <;> simp only [State.beginTake_blank, State.refuse_blank, blank_mk, eq_self, or_true, true_or, apply_ite (State.blank w), ite_self, foldl_blank, implies_true, h_host, h_intake, h_plan, h_ports, h_fab, h_iso, h_svc, h_faults]

@[simp] theorem State.settle_blank (h_host : Group.host ∈ w) (h_intake : Group.intake ∈ w) (h_plan : Group.plan ∈ w) (h_ports : Group.ports ∈ w) (h_fab : Group.fab ∈ w) (h_iso : Group.iso ∈ w) (h_svc : Group.svc ∈ w) (h_faults : Group.faults ∈ w) (s : State) :
    (State.settle s).blank w = s.blank w := by
  unfold State.settle
  simp only [State.endBarriers_blank, State.repark_blank, State.takeUnknown_blank, blank_mk, eq_self, or_true, true_or, apply_ite (State.blank w), ite_self, foldl_blank, implies_true, h_host, h_intake, h_plan, h_ports, h_fab, h_iso, h_svc, h_faults]

theorem takeRow_blank (h_host : Group.host ∈ w) (h_intake : Group.intake ∈ w) (h_plan : Group.plan ∈ w) (h_ports : Group.ports ∈ w) (h_fab : Group.fab ∈ w) (h_iso : Group.iso ∈ w) (h_svc : Group.svc ∈ w) (h_faults : Group.faults ∈ w) {c : CmdSpec} (hc : ∀ s h, (c.start s h).blank w = s.blank w) (ht : ∀ s h, (c.taken s h).blank w = s.blank w) (h : Nat) (s : State) :
    (takeRow c h s).blank w = s.blank w := by
  unfold takeRow
  simp only [State.settle_blank, takeCmd_blank, blank_mk, eq_self, or_true, true_or, apply_ite (State.blank w), ite_self, foldl_blank, implies_true, h_host, h_intake, h_plan, h_ports, h_fab, h_iso, h_svc, h_faults, hc, ht]

theorem startRow_blank (h_host : Group.host ∈ w) (h_intake : Group.intake ∈ w) (h_plan : Group.plan ∈ w) (h_ports : Group.ports ∈ w) (h_fab : Group.fab ∈ w) (h_iso : Group.iso ∈ w) (h_svc : Group.svc ∈ w) (h_faults : Group.faults ∈ w) {c : CmdSpec} (hc : ∀ s h, (c.start s h).blank w = s.blank w) (h : Nat) (s : State) :
    (startRow c h s).blank w = s.blank w := by
  unfold startRow
  simp only [State.settle_blank, State.useStart_blank, startCmd_blank, blank_mk, eq_self, or_true, true_or, apply_ite (State.blank w), ite_self, foldl_blank, implies_true, h_host, h_intake, h_plan, h_ports, h_fab, h_iso, h_svc, h_faults, hc]

@[simp] theorem execBarrierTimeout_blank (h_host : Group.host ∈ w) (h_intake : Group.intake ∈ w) (h_plan : Group.plan ∈ w) (h_ports : Group.ports ∈ w) (h_fab : Group.fab ∈ w) (h_iso : Group.iso ∈ w) (h_svc : Group.svc ∈ w) (h_faults : Group.faults ∈ w) (h : Fin 32) (s : State) :
    ran w (execBarrierTimeout h s) = some (s.blank w) := by
  unfold execBarrierTimeout
  simp only [State.ev_blank, State.finish_blank, State.refuse_blank, State.settle_blank, blank_mk, eq_self, or_true, true_or, apply_ite (State.blank w), ite_self, foldl_blank, implies_true, ran_next, apply_ite (ran w), h_host, h_intake, h_plan, h_ports, h_fab, h_iso, h_svc, h_faults]

@[simp] theorem execHeldCommandTimeout_blank (h_host : Group.host ∈ w) (h_intake : Group.intake ∈ w) (h_plan : Group.plan ∈ w) (h_ports : Group.ports ∈ w) (h_fab : Group.fab ∈ w) (h_iso : Group.iso ∈ w) (h_svc : Group.svc ∈ w) (h_faults : Group.faults ∈ w) (h : Fin 32) (s : State) :
    ran w (execHeldCommandTimeout h s) = some (s.blank w) := by
  unfold execHeldCommandTimeout
  simp only [State.refuse_blank, State.settle_blank, blank_mk, eq_self, or_true, true_or, apply_ite (State.blank w), ite_self, foldl_blank, implies_true, ran_next, apply_ite (ran w), h_host, h_intake, h_plan, h_ports, h_fab, h_iso, h_svc, h_faults]

@[simp] theorem barrierSpec_blank (s : State) (h : Nat) :
    (barrierSpec.start s h).blank w = s.blank w := by
  unfold barrierSpec
  simp only [blank_mk, eq_self, or_true, true_or, apply_ite (State.blank w), ite_self, foldl_blank, implies_true]

@[simp] theorem barrierSpec_taken (s : State) (h : Nat) :
    (barrierSpec.taken s h).blank w = s.blank w := by simp only [barrierSpec]

@[simp] theorem execBarrier_blank (h_host : Group.host ∈ w) (h_intake : Group.intake ∈ w) (h_plan : Group.plan ∈ w) (h_ports : Group.ports ∈ w) (h_fab : Group.fab ∈ w) (h_iso : Group.iso ∈ w) (h_svc : Group.svc ∈ w) (h_faults : Group.faults ∈ w) (h : Fin 32) (s : State) :
    ran w (execBarrier h s) = some (s.blank w) := by
  unfold execBarrier
  simp only [barrierSpec_blank, takeRow_blank, blank_mk, eq_self, or_true, true_or, apply_ite (State.blank w), ite_self, foldl_blank, implies_true, ran_next, apply_ite (ran w), h_host, h_intake, h_plan, h_ports, h_fab, h_iso, h_svc, h_faults, barrierSpec_taken]

@[simp] theorem hopStatusSpec_blank (h_host : Group.host ∈ w) (h_intake : Group.intake ∈ w) (h_ports : Group.ports ∈ w) (h_fab : Group.fab ∈ w) (h_iso : Group.iso ∈ w) (h_faults : Group.faults ∈ w) (s : State) (h : Nat) :
    (hopStatusSpec.start s h).blank w = s.blank w := by
  unfold hopStatusSpec
  simp only [State.doneWith_blank, blank_mk, eq_self, or_true, true_or, apply_ite (State.blank w), ite_self, foldl_blank, implies_true, h_host, h_intake, h_ports, h_fab, h_iso, h_faults]

@[simp] theorem hopStatusSpec_taken (s : State) (h : Nat) :
    (hopStatusSpec.taken s h).blank w = s.blank w := by simp only [hopStatusSpec]

@[simp] theorem execHopStatus_blank (h_host : Group.host ∈ w) (h_intake : Group.intake ∈ w) (h_plan : Group.plan ∈ w) (h_ports : Group.ports ∈ w) (h_fab : Group.fab ∈ w) (h_iso : Group.iso ∈ w) (h_svc : Group.svc ∈ w) (h_faults : Group.faults ∈ w) (h : Fin 32) (s : State) :
    ran w (execHopStatus h s) = some (s.blank w) := by
  unfold execHopStatus
  simp only [hopStatusSpec_blank, takeRow_blank, blank_mk, eq_self, or_true, true_or, apply_ite (State.blank w), ite_self, foldl_blank, implies_true, ran_next, apply_ite (ran w), h_host, h_intake, h_plan, h_ports, h_fab, h_iso, h_svc, h_faults, hopStatusSpec_taken]

end Sys2Proof.Machine
end

