-- ==== Sys2Proof/Laws/ParamCmd.lean ====
section
/-! SUPPORT. The parts of the state that the operations of Machine/ParamCmd.lean can change: all others keep their value. -/

namespace Sys2Proof.Machine

set_option linter.all false
set_option linter.unusedSimpArgs false

variable {w : List Group}

@[simp] theorem State.saveCopy_blank (h_params : Group.params ∈ w) (h_free : Group.free ∈ w) (s : State) (good : Bool) (label : BitVec 32) (fwMin : Nat) (vals : List (Nat × Nat)) :
    (State.saveCopy s good label fwMin vals).blank w = s.blank w := by
  unfold State.saveCopy
  dsimp only
  (repeat' split) <;> first | (simp only [State.fresh_blank, blank_mk, eq_self, or_true, true_or, apply_ite (State.blank w), ite_self, foldl_blank, implies_true, h_params, h_free]; done)

@[simp] theorem State.saveAs_blank (h_host : Group.host ∈ w) (h_intake : Group.intake ∈ w) (h_params : Group.params ∈ w) (h_ports : Group.ports ∈ w) (h_fab : Group.fab ∈ w) (h_iso : Group.iso ∈ w) (h_faults : Group.faults ∈ w) (h_free : Group.free ∈ w) (s : State) (h : Nat) (label : BitVec 32) (fwMin : Nat) (vals : List (Nat × Nat)) :
    (State.saveAs s h label fwMin vals).blank w = s.blank w := by
  unfold State.saveAs
  simp only [State.doneWith_blank, State.evProtected_blank, State.finish_blank, State.flashWrite_blank, State.raise_blank, State.saveCopy_blank, blank_mk, eq_self, or_true, true_or, apply_ite (State.blank w), ite_self, foldl_blank, implies_true, h_host, h_intake, h_params, h_ports, h_fab, h_iso, h_faults, h_free]

@[simp] theorem State.bootParams_blank (h_params : Group.params ∈ w) (h_fab : Group.fab ∈ w) (h_faults : Group.faults ∈ w) (h_free : Group.free ∈ w) (s : State) :
    (State.bootParams s).blank w = s.blank w := by
  unfold State.bootParams
  dsimp only
  (repeat' split) <;> first | (simp only [State.evIf_blank, State.ev_blank, State.fresh_blank, State.raise_blank, blank_mk, eq_self, or_true, true_or, apply_ite (State.blank w), ite_self, foldl_blank, implies_true, h_params, h_fab, h_faults, h_free]; done)

@[simp] theorem State.awaitVerdict_blank (h_intake : Group.intake ∈ w) (s : State) (h : Nat) (code : Nat) (detail : Nat) (data : List Byte) (ev : Nat) (ids : List Nat) :
    (State.awaitVerdict s h code detail data ev ids).blank w = s.blank w := by
  unfold State.awaitVerdict
  simp only [blank_mk, eq_self, or_true, true_or, apply_ite (State.blank w), ite_self, foldl_blank, implies_true, h_intake]

@[simp] theorem State.modePins_blank (h_pins : Group.pins ∈ w) (s : State) (a1 : List (Nat × Nat)) (n : Fin 4) :
    (State.modePins s a1 n).blank w = s.blank w := by
  unfold State.modePins
  simp only [blank_mk, eq_self, or_true, true_or, apply_ite (State.blank w), ite_self, foldl_blank, implies_true, h_pins]

@[simp] theorem State.writeWorking_blank (h_pins : Group.pins ∈ w) (h_intake : Group.intake ∈ w) (h_params : Group.params ∈ w) (s : State) (a1 : List (Nat × Nat)) :
    (State.writeWorking s a1).blank w = s.blank w := by
  unfold State.writeWorking
  simp only [State.modePins_blank, forAxes_blank, blank_mk, eq_self, or_true, true_or, apply_ite (State.blank w), ite_self, foldl_blank, implies_true, h_pins, h_intake, h_params]

@[simp] theorem setParamSpec_blank (h_pins : Group.pins ∈ w) (h_intake : Group.intake ∈ w) (h_params : Group.params ∈ w) (s : State) (h : Nat) :
    (setParamSpec.start s h).blank w = s.blank w := by
  unfold setParamSpec
  dsimp only
  (repeat' split) <;> first | (simp only [State.awaitVerdict_blank, State.writeWorking_blank, blank_mk, eq_self, or_true, true_or, apply_ite (State.blank w), ite_self, foldl_blank, implies_true, h_pins, h_intake, h_params]; done)

@[simp] theorem setParamSpec_taken (s : State) (h : Nat) :
    (setParamSpec.taken s h).blank w = s.blank w := by simp only [setParamSpec]

@[simp] theorem execSetParam_blank (h_pins : Group.pins ∈ w) (h_host : Group.host ∈ w) (h_intake : Group.intake ∈ w) (h_params : Group.params ∈ w) (h_plan : Group.plan ∈ w) (h_ports : Group.ports ∈ w) (h_fab : Group.fab ∈ w) (h_iso : Group.iso ∈ w) (h_svc : Group.svc ∈ w) (h_faults : Group.faults ∈ w) (h : Fin 32) (s : State) :
    ran w (execSetParam h s) = some (s.blank w) := by
  unfold execSetParam
  simp only [setParamSpec_blank, takeRow_blank, blank_mk, eq_self, or_true, true_or, apply_ite (State.blank w), ite_self, foldl_blank, implies_true, ran_next, apply_ite (ran w), h_pins, h_host, h_intake, h_params, h_plan, h_ports, h_fab, h_iso, h_svc, h_faults, setParamSpec_taken]

@[simp] theorem execVerdictRecomputed_blank (h_host : Group.host ∈ w) (h_intake : Group.intake ∈ w) (h_params : Group.params ∈ w) (h_plan : Group.plan ∈ w) (h_ports : Group.ports ∈ w) (h_fab : Group.fab ∈ w) (h_iso : Group.iso ∈ w) (h_svc : Group.svc ∈ w) (h_faults : Group.faults ∈ w) (s : State) :
    ran w (execVerdictRecomputed s) = some (s.blank w) := by
  unfold execVerdictRecomputed
  simp only [State.evProtected_blank, State.finish_blank, State.queueRunning_blank, State.settle_blank, blank_mk, eq_self, or_true, true_or, apply_ite (State.blank w), ite_self, foldl_blank, implies_true, ran_next, apply_ite (ran w), h_host, h_intake, h_params, h_plan, h_ports, h_fab, h_iso, h_svc, h_faults]

@[simp] theorem getParamSpec_blank (h_host : Group.host ∈ w) (h_intake : Group.intake ∈ w) (h_ports : Group.ports ∈ w) (h_fab : Group.fab ∈ w) (h_iso : Group.iso ∈ w) (h_faults : Group.faults ∈ w) (s : State) (h : Nat) :
    (getParamSpec.start s h).blank w = s.blank w := by
  unfold getParamSpec
  simp only [State.doneWith_blank, blank_mk, eq_self, or_true, true_or, apply_ite (State.blank w), ite_self, foldl_blank, implies_true, h_host, h_intake, h_ports, h_fab, h_iso, h_faults]

@[simp] theorem getParamSpec_taken (s : State) (h : Nat) :
    (getParamSpec.taken s h).blank w = s.blank w := by simp only [getParamSpec]

@[simp] theorem execGetParam_blank (h_host : Group.host ∈ w) (h_intake : Group.intake ∈ w) (h_plan : Group.plan ∈ w) (h_ports : Group.ports ∈ w) (h_fab : Group.fab ∈ w) (h_iso : Group.iso ∈ w) (h_svc : Group.svc ∈ w) (h_faults : Group.faults ∈ w) (h : Fin 32) (s : State) :
    ran w (execGetParam h s) = some (s.blank w) := by
  unfold execGetParam
  simp only [getParamSpec_blank, takeRow_blank, blank_mk, eq_self, or_true, true_or, apply_ite (State.blank w), ite_self, foldl_blank, implies_true, ran_next, apply_ite (ran w), h_host, h_intake, h_plan, h_ports, h_fab, h_iso, h_svc, h_faults, getParamSpec_taken]

@[simp] theorem State.keepReport_blank (h_intake : Group.intake ∈ w) (s : State) (h : Nat) (c : Cfg) :
    (State.keepReport s h c).blank w = s.blank w := by
  unfold State.keepReport
  simp only [State.setHop_blank, blank_mk, eq_self, or_true, true_or, apply_ite (State.blank w), ite_self, foldl_blank, implies_true, h_intake]

@[simp] theorem surveyRunSpec_blank (h_host : Group.host ∈ w) (h_intake : Group.intake ∈ w) (h_ports : Group.ports ∈ w) (h_fab : Group.fab ∈ w) (h_iso : Group.iso ∈ w) (h_faults : Group.faults ∈ w) (s : State) (h : Nat) :
    (surveyRunSpec.start s h).blank w = s.blank w := by
  unfold surveyRunSpec
  simp only [State.doneWith_blank, State.keepReport_blank, blank_mk, eq_self, or_true, true_or, apply_ite (State.blank w), ite_self, foldl_blank, implies_true, h_host, h_intake, h_ports, h_fab, h_iso, h_faults]

@[simp] theorem surveyRunSpec_taken (h_intake : Group.intake ∈ w) (s : State) (h : Nat) :
    (surveyRunSpec.taken s h).blank w = s.blank w := by simp only [surveyRunSpec, State.keepReport_blank, h_intake]

@[simp] theorem execSurveyRun_blank (h_host : Group.host ∈ w) (h_intake : Group.intake ∈ w) (h_plan : Group.plan ∈ w) (h_ports : Group.ports ∈ w) (h_fab : Group.fab ∈ w) (h_iso : Group.iso ∈ w) (h_svc : Group.svc ∈ w) (h_faults : Group.faults ∈ w) (h : Fin 32) (s : State) :
    ran w (execSurveyRun h s) = some (s.blank w) := by
  unfold execSurveyRun
  simp only [surveyRunSpec_blank, takeRow_blank, blank_mk, eq_self, or_true, true_or, apply_ite (State.blank w), ite_self, foldl_blank, implies_true, ran_next, apply_ite (ran w), h_host, h_intake, h_plan, h_ports, h_fab, h_iso, h_svc, h_faults, surveyRunSpec_taken]

@[simp] theorem State.domRequest_blank (h_power : Group.power ∈ w) (s : State) (d : Domain) (on : Bool) :
    (State.domRequest s d on).blank w = s.blank w := by
  unfold State.domRequest
  (repeat' split) <;> simp only [State.setDom_blank, blank_mk, eq_self, or_true, true_or, apply_ite (State.blank w), ite_self, foldl_blank, implies_true, h_power]

@[simp] theorem State.requestUnits_blank (h_power : Group.power ∈ w) (s : State) (mask : Nat) (on : Bool) :
    (State.requestUnits s mask on).blank w = s.blank w := by
  unfold State.requestUnits
  simp only [State.domRequest_blank, blank_mk, eq_self, or_true, true_or, apply_ite (State.blank w), ite_self, foldl_blank, implies_true, h_power]

@[simp] theorem enableUnitSpec_blank (h_power : Group.power ∈ w) (h_intake : Group.intake ∈ w) (h_params : Group.params ∈ w) (s : State) (h : Nat) :
    (enableUnitSpec.start s h).blank w = s.blank w := by
  unfold enableUnitSpec
  simp only [State.copyEnabled_blank, State.keepReport_blank, State.requestUnits_blank, blank_mk, eq_self, or_true, true_or, apply_ite (State.blank w), ite_self, foldl_blank, implies_true, h_power, h_intake, h_params]

@[simp] theorem enableUnitSpec_taken (h_intake : Group.intake ∈ w) (h_params : Group.params ∈ w) (s : State) (h : Nat) :
    (enableUnitSpec.taken s h).blank w = s.blank w := by simp only [enableUnitSpec, State.keepReport_blank, State.copyEnabled_blank, h_intake, h_params]

@[simp] theorem execEnableUnit_blank (h_power : Group.power ∈ w) (h_host : Group.host ∈ w) (h_intake : Group.intake ∈ w) (h_params : Group.params ∈ w) (h_plan : Group.plan ∈ w) (h_ports : Group.ports ∈ w) (h_fab : Group.fab ∈ w) (h_iso : Group.iso ∈ w) (h_svc : Group.svc ∈ w) (h_faults : Group.faults ∈ w) (h : Fin 32) (s : State) :
    ran w (execEnableUnit h s) = some (s.blank w) := by
  unfold execEnableUnit
  simp only [enableUnitSpec_blank, takeRow_blank, blank_mk, eq_self, or_true, true_or, apply_ite (State.blank w), ite_self, foldl_blank, implies_true, ran_next, apply_ite (ran w), h_power, h_host, h_intake, h_params, h_plan, h_ports, h_fab, h_iso, h_svc, h_faults, enableUnitSpec_taken]

@[simp] theorem execAutoEnable_blank (h_intake : Group.intake ∈ w) (s : State) :
    ran w (execAutoEnable s) = some (s.blank w) := by
  unfold execAutoEnable
  (repeat' split) <;> simp only [State.notePeak_blank, State.putSlot_blank, State.setHop_blank, blank_mk, eq_self, or_true, true_or, apply_ite (State.blank w), ite_self, foldl_blank, implies_true, ran_next, apply_ite (ran w), h_intake]

@[simp] theorem disableUnitSpec_blank (h_params : Group.params ∈ w) (s : State) (h : Nat) :
    (disableUnitSpec.start s h).blank w = s.blank w := by
  unfold disableUnitSpec
  simp only [blank_mk, eq_self, or_true, true_or, apply_ite (State.blank w), ite_self, foldl_blank, implies_true, h_params]

@[simp] theorem disableUnitSpec_taken (s : State) (h : Nat) :
    (disableUnitSpec.taken s h).blank w = s.blank w := by simp only [disableUnitSpec]

@[simp] theorem execDisableUnit_blank (h_host : Group.host ∈ w) (h_intake : Group.intake ∈ w) (h_params : Group.params ∈ w) (h_plan : Group.plan ∈ w) (h_ports : Group.ports ∈ w) (h_fab : Group.fab ∈ w) (h_iso : Group.iso ∈ w) (h_svc : Group.svc ∈ w) (h_faults : Group.faults ∈ w) (h : Fin 32) (s : State) :
    ran w (execDisableUnit h s) = some (s.blank w) := by
  unfold execDisableUnit
  simp only [disableUnitSpec_blank, takeRow_blank, blank_mk, eq_self, or_true, true_or, apply_ite (State.blank w), ite_self, foldl_blank, implies_true, ran_next, apply_ite (ran w), h_host, h_intake, h_params, h_plan, h_ports, h_fab, h_iso, h_svc, h_faults, disableUnitSpec_taken]

@[simp] theorem cfgClearSpec_blank (h_host : Group.host ∈ w) (h_intake : Group.intake ∈ w) (h_params : Group.params ∈ w) (h_ports : Group.ports ∈ w) (h_fab : Group.fab ∈ w) (h_iso : Group.iso ∈ w) (h_faults : Group.faults ∈ w) (s : State) (h : Nat) :
    (cfgClearSpec.start s h).blank w = s.blank w := by
  unfold cfgClearSpec
  simp only [State.doneWith_blank, blank_mk, eq_self, or_true, true_or, apply_ite (State.blank w), ite_self, foldl_blank, implies_true, h_host, h_intake, h_params, h_ports, h_fab, h_iso, h_faults]

@[simp] theorem cfgClearSpec_taken (s : State) (h : Nat) :
    (cfgClearSpec.taken s h).blank w = s.blank w := by simp only [cfgClearSpec]

@[simp] theorem execCfgImageClear_blank (h_host : Group.host ∈ w) (h_intake : Group.intake ∈ w) (h_params : Group.params ∈ w) (h_plan : Group.plan ∈ w) (h_ports : Group.ports ∈ w) (h_fab : Group.fab ∈ w) (h_iso : Group.iso ∈ w) (h_svc : Group.svc ∈ w) (h_faults : Group.faults ∈ w) (h : Fin 32) (s : State) :
    ran w (execCfgImageClear h s) = some (s.blank w) := by
  unfold execCfgImageClear
  simp only [cfgClearSpec_blank, takeRow_blank, blank_mk, eq_self, or_true, true_or, apply_ite (State.blank w), ite_self, foldl_blank, implies_true, ran_next, apply_ite (ran w), h_host, h_intake, h_params, h_plan, h_ports, h_fab, h_iso, h_svc, h_faults, cfgClearSpec_taken]

@[simp] theorem cfgStageSpec_blank (h_host : Group.host ∈ w) (h_intake : Group.intake ∈ w) (h_params : Group.params ∈ w) (h_ports : Group.ports ∈ w) (h_fab : Group.fab ∈ w) (h_iso : Group.iso ∈ w) (h_faults : Group.faults ∈ w) (s : State) (h : Nat) :
    (cfgStageSpec.start s h).blank w = s.blank w := by
  unfold cfgStageSpec
  simp only [State.doneWith_blank, blank_mk, eq_self, or_true, true_or, apply_ite (State.blank w), ite_self, foldl_blank, implies_true, h_host, h_intake, h_params, h_ports, h_fab, h_iso, h_faults]

@[simp] theorem cfgStageSpec_taken (s : State) (h : Nat) :
    (cfgStageSpec.taken s h).blank w = s.blank w := by simp only [cfgStageSpec]

@[simp] theorem execCfgImageStage_blank (h_host : Group.host ∈ w) (h_intake : Group.intake ∈ w) (h_params : Group.params ∈ w) (h_plan : Group.plan ∈ w) (h_ports : Group.ports ∈ w) (h_fab : Group.fab ∈ w) (h_iso : Group.iso ∈ w) (h_svc : Group.svc ∈ w) (h_faults : Group.faults ∈ w) (h : Fin 32) (s : State) :
    ran w (execCfgImageStage h s) = some (s.blank w) := by
  unfold execCfgImageStage
  simp only [cfgStageSpec_blank, takeRow_blank, blank_mk, eq_self, or_true, true_or, apply_ite (State.blank w), ite_self, foldl_blank, implies_true, ran_next, apply_ite (ran w), h_host, h_intake, h_params, h_plan, h_ports, h_fab, h_iso, h_svc, h_faults, cfgStageSpec_taken]

@[simp] theorem cfgCheckSpec_blank (h_host : Group.host ∈ w) (h_intake : Group.intake ∈ w) (h_ports : Group.ports ∈ w) (h_fab : Group.fab ∈ w) (h_iso : Group.iso ∈ w) (h_faults : Group.faults ∈ w) (s : State) (h : Nat) :
    (cfgCheckSpec.start s h).blank w = s.blank w := by
  unfold cfgCheckSpec
  simp only [State.doneWith_blank, blank_mk, eq_self, or_true, true_or, apply_ite (State.blank w), ite_self, foldl_blank, implies_true, h_host, h_intake, h_ports, h_fab, h_iso, h_faults]

@[simp] theorem cfgCheckSpec_taken (s : State) (h : Nat) :
    (cfgCheckSpec.taken s h).blank w = s.blank w := by simp only [cfgCheckSpec]

@[simp] theorem execCfgImageCheck_blank (h_host : Group.host ∈ w) (h_intake : Group.intake ∈ w) (h_plan : Group.plan ∈ w) (h_ports : Group.ports ∈ w) (h_fab : Group.fab ∈ w) (h_iso : Group.iso ∈ w) (h_svc : Group.svc ∈ w) (h_faults : Group.faults ∈ w) (h : Fin 32) (s : State) :
    ran w (execCfgImageCheck h s) = some (s.blank w) := by
  unfold execCfgImageCheck
  simp only [cfgCheckSpec_blank, takeRow_blank, blank_mk, eq_self, or_true, true_or, apply_ite (State.blank w), ite_self, foldl_blank, implies_true, ran_next, apply_ite (ran w), h_host, h_intake, h_plan, h_ports, h_fab, h_iso, h_svc, h_faults, cfgCheckSpec_taken]

@[simp] theorem cfgApplySpec_blank (h_pins : Group.pins ∈ w) (h_intake : Group.intake ∈ w) (h_params : Group.params ∈ w) (s : State) (h : Nat) :
    (cfgApplySpec.start s h).blank w = s.blank w := by
  unfold cfgApplySpec
  dsimp only
  (repeat' split) <;> first | (simp only [State.awaitVerdict_blank, State.writeWorking_blank, blank_mk, eq_self, or_true, true_or, apply_ite (State.blank w), ite_self, foldl_blank, implies_true, h_pins, h_intake, h_params]; done)

@[simp] theorem cfgApplySpec_taken (s : State) (h : Nat) :
    (cfgApplySpec.taken s h).blank w = s.blank w := by simp only [cfgApplySpec]

@[simp] theorem execCfgImageApply_blank (h_pins : Group.pins ∈ w) (h_host : Group.host ∈ w) (h_intake : Group.intake ∈ w) (h_params : Group.params ∈ w) (h_plan : Group.plan ∈ w) (h_ports : Group.ports ∈ w) (h_fab : Group.fab ∈ w) (h_iso : Group.iso ∈ w) (h_svc : Group.svc ∈ w) (h_faults : Group.faults ∈ w) (h : Fin 32) (s : State) :
    ran w (execCfgImageApply h s) = some (s.blank w) := by
  unfold execCfgImageApply
  simp only [cfgApplySpec_blank, takeRow_blank, blank_mk, eq_self, or_true, true_or, apply_ite (State.blank w), ite_self, foldl_blank, implies_true, ran_next, apply_ite (ran w), h_pins, h_host, h_intake, h_params, h_plan, h_ports, h_fab, h_iso, h_svc, h_faults, cfgApplySpec_taken]

@[simp] theorem cfgSaveStagedSpec_blank (h_host : Group.host ∈ w) (h_intake : Group.intake ∈ w) (h_params : Group.params ∈ w) (h_ports : Group.ports ∈ w) (h_fab : Group.fab ∈ w) (h_iso : Group.iso ∈ w) (h_faults : Group.faults ∈ w) (h_free : Group.free ∈ w) (s : State) (h : Nat) :
    (cfgSaveStagedSpec.start s h).blank w = s.blank w := by
  unfold cfgSaveStagedSpec
  simp only [State.saveAs_blank, blank_mk, eq_self, or_true, true_or, apply_ite (State.blank w), ite_self, foldl_blank, implies_true, h_host, h_intake, h_params, h_ports, h_fab, h_iso, h_faults, h_free]

@[simp] theorem cfgSaveStagedSpec_taken (s : State) (h : Nat) :
    (cfgSaveStagedSpec.taken s h).blank w = s.blank w := by simp only [cfgSaveStagedSpec]

@[simp] theorem execCfgImageSaveStaged_blank (h_host : Group.host ∈ w) (h_intake : Group.intake ∈ w) (h_params : Group.params ∈ w) (h_plan : Group.plan ∈ w) (h_ports : Group.ports ∈ w) (h_fab : Group.fab ∈ w) (h_iso : Group.iso ∈ w) (h_svc : Group.svc ∈ w) (h_faults : Group.faults ∈ w) (h_free : Group.free ∈ w) (h : Fin 32) (s : State) :
    ran w (execCfgImageSaveStaged h s) = some (s.blank w) := by
  unfold execCfgImageSaveStaged
  simp only [cfgSaveStagedSpec_blank, takeRow_blank, blank_mk, eq_self, or_true, true_or, apply_ite (State.blank w), ite_self, foldl_blank, implies_true, ran_next, apply_ite (ran w), h_host, h_intake, h_params, h_plan, h_ports, h_fab, h_iso, h_svc, h_faults, h_free, cfgSaveStagedSpec_taken]

@[simp] theorem cfgSaveWorkingSpec_blank (h_host : Group.host ∈ w) (h_intake : Group.intake ∈ w) (h_params : Group.params ∈ w) (h_ports : Group.ports ∈ w) (h_fab : Group.fab ∈ w) (h_iso : Group.iso ∈ w) (h_faults : Group.faults ∈ w) (h_free : Group.free ∈ w) (s : State) (h : Nat) :
    (cfgSaveWorkingSpec.start s h).blank w = s.blank w := by
  unfold cfgSaveWorkingSpec
  simp only [State.saveAs_blank, blank_mk, eq_self, or_true, true_or, apply_ite (State.blank w), ite_self, foldl_blank, implies_true, h_host, h_intake, h_params, h_ports, h_fab, h_iso, h_faults, h_free]

@[simp] theorem cfgSaveWorkingSpec_taken (s : State) (h : Nat) :
    (cfgSaveWorkingSpec.taken s h).blank w = s.blank w := by simp only [cfgSaveWorkingSpec]

@[simp] theorem execCfgImageSaveWorking_blank (h_host : Group.host ∈ w) (h_intake : Group.intake ∈ w) (h_params : Group.params ∈ w) (h_plan : Group.plan ∈ w) (h_ports : Group.ports ∈ w) (h_fab : Group.fab ∈ w) (h_iso : Group.iso ∈ w) (h_svc : Group.svc ∈ w) (h_faults : Group.faults ∈ w) (h_free : Group.free ∈ w) (h : Fin 32) (s : State) :
    ran w (execCfgImageSaveWorking h s) = some (s.blank w) := by
  unfold execCfgImageSaveWorking
  simp only [cfgSaveWorkingSpec_blank, takeRow_blank, blank_mk, eq_self, or_true, true_or, apply_ite (State.blank w), ite_self, foldl_blank, implies_true, ran_next, apply_ite (ran w), h_host, h_intake, h_params, h_plan, h_ports, h_fab, h_iso, h_svc, h_faults, h_free, cfgSaveWorkingSpec_taken]

@[simp] theorem cfgLoadStoredSpec_blank (h_host : Group.host ∈ w) (h_intake : Group.intake ∈ w) (h_params : Group.params ∈ w) (h_ports : Group.ports ∈ w) (h_fab : Group.fab ∈ w) (h_iso : Group.iso ∈ w) (h_faults : Group.faults ∈ w) (s : State) (h : Nat) :
    (cfgLoadStoredSpec.start s h).blank w = s.blank w := by
  unfold cfgLoadStoredSpec
  dsimp only
  (repeat' split) <;> first | (simp only [State.doneWith_blank, blank_mk, eq_self, or_true, true_or, apply_ite (State.blank w), ite_self, foldl_blank, implies_true, h_host, h_intake, h_params, h_ports, h_fab, h_iso, h_faults]; done)

@[simp] theorem cfgLoadStoredSpec_taken (s : State) (h : Nat) :
    (cfgLoadStoredSpec.taken s h).blank w = s.blank w := by simp only [cfgLoadStoredSpec]

@[simp] theorem execCfgImageLoadStored_blank (h_host : Group.host ∈ w) (h_intake : Group.intake ∈ w) (h_params : Group.params ∈ w) (h_plan : Group.plan ∈ w) (h_ports : Group.ports ∈ w) (h_fab : Group.fab ∈ w) (h_iso : Group.iso ∈ w) (h_svc : Group.svc ∈ w) (h_faults : Group.faults ∈ w) (h : Fin 32) (s : State) :
    ran w (execCfgImageLoadStored h s) = some (s.blank w) := by
  unfold execCfgImageLoadStored
  simp only [cfgLoadStoredSpec_blank, takeRow_blank, blank_mk, eq_self, or_true, true_or, apply_ite (State.blank w), ite_self, foldl_blank, implies_true, ran_next, apply_ite (ran w), h_host, h_intake, h_params, h_plan, h_ports, h_fab, h_iso, h_svc, h_faults, cfgLoadStoredSpec_taken]

@[simp] theorem cfgReadStagingSpec_blank (h_host : Group.host ∈ w) (h_intake : Group.intake ∈ w) (h_ports : Group.ports ∈ w) (h_fab : Group.fab ∈ w) (h_iso : Group.iso ∈ w) (h_faults : Group.faults ∈ w) (s : State) (h : Nat) :
    (cfgReadStagingSpec.start s h).blank w = s.blank w := by
  unfold cfgReadStagingSpec
  simp only [State.doneBulk_blank, blank_mk, eq_self, or_true, true_or, apply_ite (State.blank w), ite_self, foldl_blank, implies_true, h_host, h_intake, h_ports, h_fab, h_iso, h_faults]

@[simp] theorem cfgReadStagingSpec_taken (s : State) (h : Nat) :
    (cfgReadStagingSpec.taken s h).blank w = s.blank w := by simp only [cfgReadStagingSpec]

@[simp] theorem execCfgImageReadStaging_blank (h_host : Group.host ∈ w) (h_intake : Group.intake ∈ w) (h_plan : Group.plan ∈ w) (h_ports : Group.ports ∈ w) (h_fab : Group.fab ∈ w) (h_iso : Group.iso ∈ w) (h_svc : Group.svc ∈ w) (h_faults : Group.faults ∈ w) (h : Fin 32) (s : State) :
    ran w (execCfgImageReadStaging h s) = some (s.blank w) := by
  unfold execCfgImageReadStaging
  simp only [cfgReadStagingSpec_blank, takeRow_blank, blank_mk, eq_self, or_true, true_or, apply_ite (State.blank w), ite_self, foldl_blank, implies_true, ran_next, apply_ite (ran w), h_host, h_intake, h_plan, h_ports, h_fab, h_iso, h_svc, h_faults, cfgReadStagingSpec_taken]

@[simp] theorem cfgEraseSpec_blank (h_host : Group.host ∈ w) (h_intake : Group.intake ∈ w) (h_params : Group.params ∈ w) (h_ports : Group.ports ∈ w) (h_fab : Group.fab ∈ w) (h_iso : Group.iso ∈ w) (h_faults : Group.faults ∈ w) (s : State) (h : Nat) :
    (cfgEraseSpec.start s h).blank w = s.blank w := by
  unfold cfgEraseSpec
  simp only [State.doneWith_blank, State.evProtected_blank, blank_mk, eq_self, or_true, true_or, apply_ite (State.blank w), ite_self, foldl_blank, implies_true, h_host, h_intake, h_params, h_ports, h_fab, h_iso, h_faults]

@[simp] theorem cfgEraseSpec_taken (s : State) (h : Nat) :
    (cfgEraseSpec.taken s h).blank w = s.blank w := by simp only [cfgEraseSpec]

@[simp] theorem execCfgImageErase_blank (h_host : Group.host ∈ w) (h_intake : Group.intake ∈ w) (h_params : Group.params ∈ w) (h_plan : Group.plan ∈ w) (h_ports : Group.ports ∈ w) (h_fab : Group.fab ∈ w) (h_iso : Group.iso ∈ w) (h_svc : Group.svc ∈ w) (h_faults : Group.faults ∈ w) (h : Fin 32) (s : State) :
    ran w (execCfgImageErase h s) = some (s.blank w) := by
  unfold execCfgImageErase
  simp only [cfgEraseSpec_blank, takeRow_blank, blank_mk, eq_self, or_true, true_or, apply_ite (State.blank w), ite_self, foldl_blank, implies_true, ran_next, apply_ite (ran w), h_host, h_intake, h_params, h_plan, h_ports, h_fab, h_iso, h_svc, h_faults, cfgEraseSpec_taken]

end Sys2Proof.Machine
end

