-- ==== Sys2Proof/Laws/Axis.lean ====
section
/-! SUPPORT. The parts of the state that the operations of Machine/Axis.lean can change: all others keep their value. -/

namespace Sys2Proof.Machine

set_option linter.all false
set_option linter.unusedSimpArgs false

variable {w : List Group}

@[simp] theorem State.brakeOut_blank (h_mon : Group.mon ∈ w) (s : State) (b : Fin 4) :
    (State.brakeOut s b).blank w = s.blank w := by
  unfold State.brakeOut
  simp only [State.updBrake_blank, blank_mk, eq_self, or_true, true_or, apply_ite (State.blank w), ite_self, foldl_blank, implies_true, h_mon]

@[simp] theorem State.brakeOff_blank (h_mon : Group.mon ∈ w) (s : State) (n : Fin 4) :
    (State.brakeOff s n).blank w = s.blank w := by
  unfold State.brakeOff
  (repeat' split) <;> simp only [State.brakeOut_blank, blank_mk, eq_self, or_true, true_or, apply_ite (State.blank w), ite_self, foldl_blank, implies_true, h_mon]

@[simp] theorem State.brakesOff_blank (h_mon : Group.mon ∈ w) (s : State) :
    (State.brakesOff s).blank w = s.blank w := by
  unfold State.brakesOff
  simp only [State.brakeOut_blank, forAxes_blank, blank_mk, eq_self, or_true, true_or, apply_ite (State.blank w), ite_self, foldl_blank, implies_true, h_mon]

@[simp] theorem State.brakeWait_blank (h_intake : Group.intake ∈ w) (h_mon : Group.mon ∈ w) (s : State) (h : Nat) (n : Fin 4) :
    (State.brakeWait s h n).blank w = s.blank w := by
  unfold State.brakeWait
  (repeat' split) <;> simp only [State.setHop_blank, State.updBrake_blank, blank_mk, eq_self, or_true, true_or, apply_ite (State.blank w), ite_self, foldl_blank, implies_true, h_intake, h_mon]

@[simp] theorem State.setProfile_blank (h_motion : Group.motion ∈ w) (s : State) (n : Fin 4) (st : MotState) (x : Rat) (vt : Rat) (l : List Phase) :
    (State.setProfile s n st x vt l).blank w = s.blank w := by
  unfold State.setProfile
  simp only [State.updMotion_blank, blank_mk, eq_self, or_true, true_or, apply_ite (State.blank w), ite_self, foldl_blank, implies_true, h_motion]

@[simp] theorem State.lostPos_blank (h_motion : Group.motion ∈ w) (s : State) (n : Fin 4) (moved : Bool) :
    (State.lostPos s n moved).blank w = s.blank w := by
  unfold State.lostPos
  simp only [State.updMotion_blank, blank_mk, eq_self, or_true, true_or, apply_ite (State.blank w), ite_self, foldl_blank, implies_true, h_motion]

@[simp] theorem State.endCmd_blank (h_host : Group.host ∈ w) (h_intake : Group.intake ∈ w) (h_motion : Group.motion ∈ w) (h_wedge : Group.wedge ∈ w) (h_follow : Group.follow ∈ w) (h_ports : Group.ports ∈ w) (h_fab : Group.fab ∈ w) (h_iso : Group.iso ∈ w) (h_faults : Group.faults ∈ w) (s : State) (n : Fin 4) (code : Nat) (detail : Nat) :
    (State.endCmd s n code detail).blank w = s.blank w := by
  unfold State.endCmd
  dsimp only
  (repeat' split) <;> first | (simp only [State.finish_blank, State.updFollow_blank, State.updMotion_blank, State.updWedge_blank, blank_mk, eq_self, or_true, true_or, apply_ite (State.blank w), ite_self, foldl_blank, implies_true, h_host, h_intake, h_motion, h_wedge, h_follow, h_ports, h_fab, h_iso, h_faults]; done)

@[simp] theorem State.endStop_blank (h_host : Group.host ∈ w) (h_intake : Group.intake ∈ w) (h_motion : Group.motion ∈ w) (h_ports : Group.ports ∈ w) (h_fab : Group.fab ∈ w) (h_iso : Group.iso ∈ w) (h_faults : Group.faults ∈ w) (s : State) (n : Fin 4) (code : Nat) (detail : Nat) :
    (State.endStop s n code detail).blank w = s.blank w := by
  unfold State.endStop
  dsimp only
  (repeat' split) <;> first | (simp only [State.finish_blank, State.updMotion_blank, blank_mk, eq_self, or_true, true_or, apply_ite (State.blank w), ite_self, foldl_blank, implies_true, h_host, h_intake, h_motion, h_ports, h_fab, h_iso, h_faults]; done)

@[simp] theorem State.endStops_blank (h_host : Group.host ∈ w) (h_intake : Group.intake ∈ w) (h_motion : Group.motion ∈ w) (h_ports : Group.ports ∈ w) (h_fab : Group.fab ∈ w) (h_iso : Group.iso ∈ w) (h_faults : Group.faults ∈ w) (s : State) (n : Fin 4) (code : Nat) (detail : Nat) :
    (State.endStops s n code detail).blank w = s.blank w := by
  unfold State.endStops
  simp only [State.finish_blank, State.updMotion_blank, blank_mk, eq_self, or_true, true_or, apply_ite (State.blank w), ite_self, foldl_blank, implies_true, h_host, h_intake, h_motion, h_ports, h_fab, h_iso, h_faults]

@[simp] theorem State.endUnacted_blank (h_host : Group.host ∈ w) (h_intake : Group.intake ∈ w) (h_plan : Group.plan ∈ w) (h_ports : Group.ports ∈ w) (h_fab : Group.fab ∈ w) (h_iso : Group.iso ∈ w) (h_svc : Group.svc ∈ w) (h_faults : Group.faults ∈ w) (s : State) (n : Fin 4) (code : Nat) (detail : Nat) :
    (State.endUnacted s n code detail).blank w = s.blank w := by
  unfold State.endUnacted
  simp only [State.refuse_blank, blank_mk, eq_self, or_true, true_or, apply_ite (State.blank w), ite_self, foldl_blank, implies_true, h_host, h_intake, h_plan, h_ports, h_fab, h_iso, h_svc, h_faults]

@[simp] theorem State.rampFrom_blank (h_motion : Group.motion ∈ w) (s : State) (n : Fin 4) (x : Rat × Rat × Rat) (dec : Nat) :
    (State.rampFrom s n x dec).blank w = s.blank w := by
  unfold State.rampFrom
  simp only [State.setProfile_blank, State.updMotion_blank, blank_mk, eq_self, or_true, true_or, apply_ite (State.blank w), ite_self, foldl_blank, implies_true, h_motion]

@[simp] theorem State.rampToRest_blank (h_motion : Group.motion ∈ w) (s : State) (n : Fin 4) (dec : Nat) :
    (State.rampToRest s n dec).blank w = s.blank w := by
  unfold State.rampToRest
  simp only [State.rampFrom_blank, blank_mk, eq_self, or_true, true_or, apply_ite (State.blank w), ite_self, foldl_blank, implies_true, h_motion]

@[simp] theorem State.endRun_blank (h_host : Group.host ∈ w) (h_intake : Group.intake ∈ w) (h_motion : Group.motion ∈ w) (h_plan : Group.plan ∈ w) (h_ports : Group.ports ∈ w) (h_fab : Group.fab ∈ w) (h_iso : Group.iso ∈ w) (h_faults : Group.faults ∈ w) (s : State) (code : Nat) (detail : Nat) (status : Nat) :
    (State.endRun s code detail status).blank w = s.blank w := by
  unfold State.endRun
  (repeat' split) <;> simp only [State.doneWith_blank, State.finish_blank, State.updMotion_blank, forAxes_blank, blank_mk, eq_self, or_true, true_or, apply_ite (State.blank w), ite_self, foldl_blank, implies_true, h_host, h_intake, h_motion, h_plan, h_ports, h_fab, h_iso, h_faults]

@[simp] theorem State.leaveRunAs_blank (h_host : Group.host ∈ w) (h_intake : Group.intake ∈ w) (h_motion : Group.motion ∈ w) (h_plan : Group.plan ∈ w) (h_ports : Group.ports ∈ w) (h_fab : Group.fab ∈ w) (h_iso : Group.iso ∈ w) (h_faults : Group.faults ∈ w) (s : State) (n : Fin 4) (code : Nat) (detail : Nat) :
    (State.leaveRunAs s n code detail).blank w = s.blank w := by
  unfold State.leaveRunAs
  simp only [State.endRun_blank, State.ev_blank, State.rampToRest_blank, forAxes_blank, blank_mk, eq_self, or_true, true_or, apply_ite (State.blank w), ite_self, foldl_blank, implies_true, h_host, h_intake, h_motion, h_plan, h_ports, h_fab, h_iso, h_faults]

@[simp] theorem State.leaveRun_blank (h_host : Group.host ∈ w) (h_intake : Group.intake ∈ w) (h_motion : Group.motion ∈ w) (h_plan : Group.plan ∈ w) (h_ports : Group.ports ∈ w) (h_fab : Group.fab ∈ w) (h_iso : Group.iso ∈ w) (h_faults : Group.faults ∈ w) (s : State) (n : Fin 4) (detail : Nat) :
    (State.leaveRun s n detail).blank w = s.blank w := by
  unfold State.leaveRun
  simp only [State.leaveRunAs_blank, blank_mk, eq_self, or_true, true_or, apply_ite (State.blank w), ite_self, foldl_blank, implies_true, h_host, h_intake, h_motion, h_plan, h_ports, h_fab, h_iso, h_faults]

@[simp] theorem State.dropAxis_blank (h_host : Group.host ∈ w) (h_intake : Group.intake ∈ w) (h_motion : Group.motion ∈ w) (h_wedge : Group.wedge ∈ w) (h_follow : Group.follow ∈ w) (h_plan : Group.plan ∈ w) (h_ports : Group.ports ∈ w) (h_fab : Group.fab ∈ w) (h_iso : Group.iso ∈ w) (h_faults : Group.faults ∈ w) (s : State) (n : Fin 4) (code : Nat) (detail : Nat) :
    (State.dropAxis s n code detail).blank w = s.blank w := by
  unfold State.dropAxis
  simp only [State.endCmd_blank, State.endStop_blank, State.leaveRun_blank, State.updMotion_blank, blank_mk, eq_self, or_true, true_or, apply_ite (State.blank w), ite_self, foldl_blank, implies_true, h_host, h_intake, h_motion, h_wedge, h_follow, h_plan, h_ports, h_fab, h_iso, h_faults]

@[simp] theorem State.haltRamp_blank (h_motion : Group.motion ∈ w) (s : State) (n : Fin 4) (x : Rat × Rat × Rat) :
    (State.haltRamp s n x).blank w = s.blank w := by
  unfold State.haltRamp
  simp only [State.setProfile_blank, State.updMotion_blank, blank_mk, eq_self, or_true, true_or, apply_ite (State.blank w), ite_self, foldl_blank, implies_true, h_motion]

@[simp] theorem State.switchesOff_blank (h_gate : Group.gate ∈ w) (s : State) (n : Fin 4) :
    (State.switchesOff s n).blank w = s.blank w := by
  unfold State.switchesOff
  simp only [State.updGate_blank, blank_mk, eq_self, or_true, true_or, apply_ite (State.blank w), ite_self, foldl_blank, implies_true, h_gate]

@[simp] theorem State.gatesDead_blank (h_gate : Group.gate ∈ w) (s : State) (n : Fin 4) :
    (State.gatesDead s n).blank w = s.blank w := by
  unfold State.gatesDead
  simp only [State.updGate_blank, blank_mk, eq_self, or_true, true_or, apply_ite (State.blank w), ite_self, foldl_blank, implies_true, h_gate]

end Sys2Proof.Machine
end

