-- ==== Sys2Proof/Laws/Motion.lean ====
section
/-! SUPPORT. The parts of the state that the operations of Machine/Motion.lean can change: all others keep their value. -/

namespace Sys2Proof.Machine

set_option linter.all false
set_option linter.unusedSimpArgs false

variable {w : List Group}

@[simp] theorem startMotion_blank (h_intake : Group.intake ∈ w) (h_mon : Group.mon ∈ w) (h_fab : Group.fab ∈ w) (h_faults : Group.faults ∈ w) (s : State) (h : Nat) :
    (startMotion s h).blank w = s.blank w := by
  unfold startMotion
  simp only [State.brakeWait_blank, State.lateStart_blank, blank_mk, eq_self, or_true, true_or, apply_ite (State.blank w), ite_self, foldl_blank, implies_true, h_intake, h_mon, h_fab, h_faults]

@[simp] theorem moveToSpec_blank (h_intake : Group.intake ∈ w) (h_mon : Group.mon ∈ w) (h_fab : Group.fab ∈ w) (h_faults : Group.faults ∈ w) (s : State) (h : Nat) :
    (moveToSpec.start s h).blank w = s.blank w := by
  unfold moveToSpec
  simp only [startMotion_blank, blank_mk, eq_self, or_true, true_or, apply_ite (State.blank w), ite_self, foldl_blank, implies_true, h_intake, h_mon, h_fab, h_faults]

@[simp] theorem moveToSpec_taken (s : State) (h : Nat) :
    (moveToSpec.taken s h).blank w = s.blank w := by simp only [moveToSpec]

@[simp] theorem execMoveTo_blank (h_host : Group.host ∈ w) (h_intake : Group.intake ∈ w) (h_mon : Group.mon ∈ w) (h_plan : Group.plan ∈ w) (h_ports : Group.ports ∈ w) (h_fab : Group.fab ∈ w) (h_iso : Group.iso ∈ w) (h_svc : Group.svc ∈ w) (h_faults : Group.faults ∈ w) (h : Fin 32) (s : State) :
    ran w (execMoveTo h s) = some (s.blank w) := by
  unfold execMoveTo
  simp only [moveToSpec_blank, takeRow_blank, blank_mk, eq_self, or_true, true_or, apply_ite (State.blank w), ite_self, foldl_blank, implies_true, ran_next, apply_ite (ran w), h_host, h_intake, h_mon, h_plan, h_ports, h_fab, h_iso, h_svc, h_faults, moveToSpec_taken]

@[simp] theorem moveBySpec_blank (h_intake : Group.intake ∈ w) (h_mon : Group.mon ∈ w) (h_fab : Group.fab ∈ w) (h_faults : Group.faults ∈ w) (s : State) (h : Nat) :
    (moveBySpec.start s h).blank w = s.blank w := by
  unfold moveBySpec
  simp only [startMotion_blank, blank_mk, eq_self, or_true, true_or, apply_ite (State.blank w), ite_self, foldl_blank, implies_true, h_intake, h_mon, h_fab, h_faults]

@[simp] theorem moveBySpec_taken (s : State) (h : Nat) :
    (moveBySpec.taken s h).blank w = s.blank w := by simp only [moveBySpec]

@[simp] theorem execMoveBy_blank (h_host : Group.host ∈ w) (h_intake : Group.intake ∈ w) (h_mon : Group.mon ∈ w) (h_plan : Group.plan ∈ w) (h_ports : Group.ports ∈ w) (h_fab : Group.fab ∈ w) (h_iso : Group.iso ∈ w) (h_svc : Group.svc ∈ w) (h_faults : Group.faults ∈ w) (h : Fin 32) (s : State) :
    ran w (execMoveBy h s) = some (s.blank w) := by
  unfold execMoveBy
  simp only [moveBySpec_blank, takeRow_blank, blank_mk, eq_self, or_true, true_or, apply_ite (State.blank w), ite_self, foldl_blank, implies_true, ran_next, apply_ite (ran w), h_host, h_intake, h_mon, h_plan, h_ports, h_fab, h_iso, h_svc, h_faults, moveBySpec_taken]

@[simp] theorem State.takeOver_blank (h_host : Group.host ∈ w) (h_intake : Group.intake ∈ w) (h_params : Group.params ∈ w) (h_motion : Group.motion ∈ w) (h_wedge : Group.wedge ∈ w) (h_follow : Group.follow ∈ w) (h_plan : Group.plan ∈ w) (h_ports : Group.ports ∈ w) (h_fab : Group.fab ∈ w) (h_iso : Group.iso ∈ w) (h_faults : Group.faults ∈ w) (s : State) (n : Fin 4) (seq : Nat) :
    (State.takeOver s n seq).blank w = s.blank w := by
  unfold State.takeOver
  simp only [State.cancelWrites_blank, State.endCmd_blank, State.leaveRun_blank, blank_mk, eq_self, or_true, true_or, apply_ite (State.blank w), ite_self, foldl_blank, implies_true, h_host, h_intake, h_params, h_motion, h_wedge, h_follow, h_plan, h_ports, h_fab, h_iso, h_faults]

@[simp] theorem actMove_blank (h_host : Group.host ∈ w) (h_intake : Group.intake ∈ w) (h_params : Group.params ∈ w) (h_motion : Group.motion ∈ w) (h_wedge : Group.wedge ∈ w) (h_follow : Group.follow ∈ w) (h_plan : Group.plan ∈ w) (h_ports : Group.ports ∈ w) (h_fab : Group.fab ∈ w) (h_iso : Group.iso ∈ w) (h_faults : Group.faults ∈ w) (h : Nat) (s : State) :
    (actMove h s).blank w = s.blank w := by
  unfold actMove
  simp only [State.doneWith_blank, State.setProfile_blank, State.takeOver_blank, State.updMotion_blank, blank_mk, eq_self, or_true, true_or, apply_ite (State.blank w), ite_self, foldl_blank, implies_true, h_host, h_intake, h_params, h_motion, h_wedge, h_follow, h_plan, h_ports, h_fab, h_iso, h_faults]

@[simp] theorem State.endTakeover_blank (h_motion : Group.motion ∈ w) (s : State) (n : Fin 4) :
    (State.endTakeover s n).blank w = s.blank w := by
  unfold State.endTakeover
  (repeat' split) <;> simp only [State.setProfile_blank, State.updMotion_blank, blank_mk, eq_self, or_true, true_or, apply_ite (State.blank w), ite_self, foldl_blank, implies_true, h_motion]

@[simp] theorem State.ledgeNow_blank (h_motion : Group.motion ∈ w) (s : State) (n : Fin 4) :
    (State.ledgeNow s n).blank w = s.blank w := by
  unfold State.ledgeNow
  dsimp only
  (repeat' split) <;> first | (simp only [State.setProfile_blank, State.updMotion_blank, blank_mk, eq_self, or_true, true_or, apply_ite (State.blank w), ite_self, foldl_blank, implies_true, h_motion]; done)

@[simp] theorem State.ledgeStep_blank (h_motion : Group.motion ∈ w) (h_faults : Group.faults ∈ w) (s : State) (n : Fin 4) (T : Nat) :
    (State.ledgeStep s n T).blank w = s.blank w := by
  unfold State.ledgeStep
  dsimp only
  (repeat' split) <;> first | (simp only [State.note_blank, State.updMotion_blank, blank_mk, eq_self, or_true, true_or, apply_ite (State.blank w), ite_self, foldl_blank, implies_true, h_motion, h_faults]; done)

@[simp] theorem jogSpec_blank (h_intake : Group.intake ∈ w) (h_mon : Group.mon ∈ w) (h_fab : Group.fab ∈ w) (h_faults : Group.faults ∈ w) (s : State) (h : Nat) :
    (jogSpec.start s h).blank w = s.blank w := by
  unfold jogSpec
  simp only [startMotion_blank, blank_mk, eq_self, or_true, true_or, apply_ite (State.blank w), ite_self, foldl_blank, implies_true, h_intake, h_mon, h_fab, h_faults]

@[simp] theorem jogSpec_taken (s : State) (h : Nat) :
    (jogSpec.taken s h).blank w = s.blank w := by simp only [jogSpec]

@[simp] theorem execJog_blank (h_host : Group.host ∈ w) (h_intake : Group.intake ∈ w) (h_mon : Group.mon ∈ w) (h_plan : Group.plan ∈ w) (h_ports : Group.ports ∈ w) (h_fab : Group.fab ∈ w) (h_iso : Group.iso ∈ w) (h_svc : Group.svc ∈ w) (h_faults : Group.faults ∈ w) (h : Fin 32) (s : State) :
    ran w (execJog h s) = some (s.blank w) := by
  unfold execJog
  simp only [jogSpec_blank, takeRow_blank, blank_mk, eq_self, or_true, true_or, apply_ite (State.blank w), ite_self, foldl_blank, implies_true, ran_next, apply_ite (ran w), h_host, h_intake, h_mon, h_plan, h_ports, h_fab, h_iso, h_svc, h_faults, jogSpec_taken]

@[simp] theorem actJog_blank (h_host : Group.host ∈ w) (h_intake : Group.intake ∈ w) (h_params : Group.params ∈ w) (h_motion : Group.motion ∈ w) (h_wedge : Group.wedge ∈ w) (h_follow : Group.follow ∈ w) (h_plan : Group.plan ∈ w) (h_ports : Group.ports ∈ w) (h_fab : Group.fab ∈ w) (h_iso : Group.iso ∈ w) (h_faults : Group.faults ∈ w) (h : Nat) (s : State) :
    (actJog h s).blank w = s.blank w := by
  unfold actJog
  simp only [State.doneWith_blank, State.ledgeNow_blank, State.setProfile_blank, State.takeOver_blank, State.updMotion_blank, blank_mk, eq_self, or_true, true_or, apply_ite (State.blank w), ite_self, foldl_blank, implies_true, h_host, h_intake, h_params, h_motion, h_wedge, h_follow, h_plan, h_ports, h_fab, h_iso, h_faults]

theorem State.stopAtOnce_blank (h_host : Group.host ∈ w) (h_intake : Group.intake ∈ w) (h_params : Group.params ∈ w) (h_motion : Group.motion ∈ w) (h_ports : Group.ports ∈ w) (h_fab : Group.fab ∈ w) (h_iso : Group.iso ∈ w) (h_faults : Group.faults ∈ w) {s : State} {h : Nat} {n : Fin 4} {t : State} (e : State.stopAtOnce s h n = some t) :
    t.blank w = s.blank w := by
  unfold State.stopAtOnce at e
  dsimp only at e
  (repeat' split at e) <;> simp only [Option.some.injEq, reduceCtorEq, Prod.mk.injEq] at e <;> (try subst e) <;> first | (simp only [State.cancelWrites_blank, State.doneWith_blank, State.lateStart_blank, State.setHop_blank, State.updMotion_blank, blank_mk, eq_self, or_true, true_or, apply_ite (State.blank w), ite_self, foldl_blank, implies_true, h_host, h_intake, h_params, h_motion, h_ports, h_fab, h_iso, h_faults]; done)

@[simp] theorem startStop_blank (h_host : Group.host ∈ w) (h_intake : Group.intake ∈ w) (h_params : Group.params ∈ w) (h_motion : Group.motion ∈ w) (h_ports : Group.ports ∈ w) (h_fab : Group.fab ∈ w) (h_iso : Group.iso ∈ w) (h_faults : Group.faults ∈ w) (s : State) (h : Nat) :
    (startStop s h).blank w = s.blank w := by
  unfold startStop
  (repeat' split) <;> first | (simp only [State.lateStart_blank, blank_mk, eq_self, or_true, true_or, apply_ite (State.blank w), ite_self, foldl_blank, implies_true, h_host, h_intake, h_params, h_motion, h_ports, h_fab, h_iso, h_faults]; done) | (have e' := State.stopAtOnce_blank h_host h_intake h_params h_motion h_ports h_fab h_iso h_faults (by assumption); simp only [State.lateStart_blank, blank_mk, eq_self, or_true, true_or, apply_ite (State.blank w), ite_self, foldl_blank, implies_true, h_host, h_intake, h_params, h_motion, h_ports, h_fab, h_iso, h_faults, e'])

@[simp] theorem stopSpec_blank (h_host : Group.host ∈ w) (h_intake : Group.intake ∈ w) (h_params : Group.params ∈ w) (h_motion : Group.motion ∈ w) (h_ports : Group.ports ∈ w) (h_fab : Group.fab ∈ w) (h_iso : Group.iso ∈ w) (h_faults : Group.faults ∈ w) (s : State) (h : Nat) :
    (stopSpec.start s h).blank w = s.blank w := by
  unfold stopSpec
  simp only [startStop_blank, blank_mk, eq_self, or_true, true_or, apply_ite (State.blank w), ite_self, foldl_blank, implies_true, h_host, h_intake, h_params, h_motion, h_ports, h_fab, h_iso, h_faults]

@[simp] theorem stopSpec_taken (s : State) (h : Nat) :
    (stopSpec.taken s h).blank w = s.blank w := by simp only [stopSpec]

@[simp] theorem execStop_blank (h_host : Group.host ∈ w) (h_intake : Group.intake ∈ w) (h_params : Group.params ∈ w) (h_motion : Group.motion ∈ w) (h_plan : Group.plan ∈ w) (h_ports : Group.ports ∈ w) (h_fab : Group.fab ∈ w) (h_iso : Group.iso ∈ w) (h_svc : Group.svc ∈ w) (h_faults : Group.faults ∈ w) (h : Fin 32) (s : State) :
    ran w (execStop h s) = some (s.blank w) := by
  unfold execStop
  simp only [stopSpec_blank, takeRow_blank, blank_mk, eq_self, or_true, true_or, apply_ite (State.blank w), ite_self, foldl_blank, implies_true, ran_next, apply_ite (ran w), h_host, h_intake, h_params, h_motion, h_plan, h_ports, h_fab, h_iso, h_svc, h_faults, stopSpec_taken]

@[simp] theorem haltSpec_blank (h_host : Group.host ∈ w) (h_intake : Group.intake ∈ w) (h_params : Group.params ∈ w) (h_motion : Group.motion ∈ w) (h_ports : Group.ports ∈ w) (h_fab : Group.fab ∈ w) (h_iso : Group.iso ∈ w) (h_faults : Group.faults ∈ w) (s : State) (h : Nat) :
    (haltSpec.start s h).blank w = s.blank w := by
  unfold haltSpec
  simp only [startStop_blank, blank_mk, eq_self, or_true, true_or, apply_ite (State.blank w), ite_self, foldl_blank, implies_true, h_host, h_intake, h_params, h_motion, h_ports, h_fab, h_iso, h_faults]

@[simp] theorem haltSpec_taken (s : State) (h : Nat) :
    (haltSpec.taken s h).blank w = s.blank w := by simp only [haltSpec]

@[simp] theorem execHalt_blank (h_host : Group.host ∈ w) (h_intake : Group.intake ∈ w) (h_params : Group.params ∈ w) (h_motion : Group.motion ∈ w) (h_plan : Group.plan ∈ w) (h_ports : Group.ports ∈ w) (h_fab : Group.fab ∈ w) (h_iso : Group.iso ∈ w) (h_svc : Group.svc ∈ w) (h_faults : Group.faults ∈ w) (h : Fin 32) (s : State) :
    ran w (execHalt h s) = some (s.blank w) := by
  unfold execHalt
  simp only [haltSpec_blank, takeRow_blank, blank_mk, eq_self, or_true, true_or, apply_ite (State.blank w), ite_self, foldl_blank, implies_true, ran_next, apply_ite (ran w), h_host, h_intake, h_params, h_motion, h_plan, h_ports, h_fab, h_iso, h_svc, h_faults, haltSpec_taken]

@[simp] theorem State.stopsDone_blank (h_host : Group.host ∈ w) (h_intake : Group.intake ∈ w) (h_motion : Group.motion ∈ w) (h_ports : Group.ports ∈ w) (h_fab : Group.fab ∈ w) (h_iso : Group.iso ∈ w) (h_faults : Group.faults ∈ w) (s : State) (n : Fin 4) :
    (State.stopsDone s n).blank w = s.blank w := by
  unfold State.stopsDone
  simp only [State.endStops_blank, blank_mk, eq_self, or_true, true_or, apply_ite (State.blank w), ite_self, foldl_blank, implies_true, h_host, h_intake, h_motion, h_ports, h_fab, h_iso, h_faults]

@[simp] theorem State.stopTakes_blank (h_host : Group.host ∈ w) (h_intake : Group.intake ∈ w) (h_motion : Group.motion ∈ w) (h_wedge : Group.wedge ∈ w) (h_follow : Group.follow ∈ w) (h_plan : Group.plan ∈ w) (h_ports : Group.ports ∈ w) (h_fab : Group.fab ∈ w) (h_iso : Group.iso ∈ w) (h_svc : Group.svc ∈ w) (h_faults : Group.faults ∈ w) (s : State) (n : Fin 4) (seq : Nat) :
    (State.stopTakes s n seq).blank w = s.blank w := by
  unfold State.stopTakes
  simp only [State.endCmd_blank, State.endStop_blank, State.endUnacted_blank, State.leaveRun_blank, blank_mk, eq_self, or_true, true_or, apply_ite (State.blank w), ite_self, foldl_blank, implies_true, h_host, h_intake, h_motion, h_wedge, h_follow, h_plan, h_ports, h_fab, h_iso, h_svc, h_faults]

@[simp] theorem actStop_blank (h_host : Group.host ∈ w) (h_intake : Group.intake ∈ w) (h_params : Group.params ∈ w) (h_motion : Group.motion ∈ w) (h_wedge : Group.wedge ∈ w) (h_follow : Group.follow ∈ w) (h_plan : Group.plan ∈ w) (h_ports : Group.ports ∈ w) (h_fab : Group.fab ∈ w) (h_iso : Group.iso ∈ w) (h_svc : Group.svc ∈ w) (h_faults : Group.faults ∈ w) (h : Nat) (s : State) :
    (actStop h s).blank w = s.blank w := by
  unfold actStop
  dsimp only
  (repeat' split) <;> first | (simp only [State.cancelWrites_blank, State.doneWith_blank, State.setProfile_blank, State.stopTakes_blank, State.updMotion_blank, blank_mk, eq_self, or_true, true_or, apply_ite (State.blank w), ite_self, foldl_blank, implies_true, h_host, h_intake, h_params, h_motion, h_wedge, h_follow, h_plan, h_ports, h_fab, h_iso, h_svc, h_faults]; done)

@[simp] theorem actHalt_blank (h_host : Group.host ∈ w) (h_intake : Group.intake ∈ w) (h_params : Group.params ∈ w) (h_motion : Group.motion ∈ w) (h_wedge : Group.wedge ∈ w) (h_follow : Group.follow ∈ w) (h_plan : Group.plan ∈ w) (h_ports : Group.ports ∈ w) (h_fab : Group.fab ∈ w) (h_iso : Group.iso ∈ w) (h_svc : Group.svc ∈ w) (h_faults : Group.faults ∈ w) (h : Nat) (s : State) :
    (actHalt h s).blank w = s.blank w := by
  unfold actHalt
  dsimp only
  (repeat' split) <;> first | (simp only [State.cancelWrites_blank, State.doneWith_blank, State.setProfile_blank, State.stopTakes_blank, State.updMotion_blank, blank_mk, eq_self, or_true, true_or, apply_ite (State.blank w), ite_self, foldl_blank, implies_true, h_host, h_intake, h_params, h_motion, h_wedge, h_follow, h_plan, h_ports, h_fab, h_iso, h_svc, h_faults]; done)

@[simp] theorem followStepsSpec_blank (h_intake : Group.intake ∈ w) (h_mon : Group.mon ∈ w) (h_fab : Group.fab ∈ w) (h_faults : Group.faults ∈ w) (s : State) (h : Nat) :
    (followStepsSpec.start s h).blank w = s.blank w := by
  unfold followStepsSpec
  simp only [startMotion_blank, blank_mk, eq_self, or_true, true_or, apply_ite (State.blank w), ite_self, foldl_blank, implies_true, h_intake, h_mon, h_fab, h_faults]

@[simp] theorem followStepsSpec_taken (s : State) (h : Nat) :
    (followStepsSpec.taken s h).blank w = s.blank w := by simp only [followStepsSpec]

@[simp] theorem execFollowSteps_blank (h_host : Group.host ∈ w) (h_intake : Group.intake ∈ w) (h_mon : Group.mon ∈ w) (h_plan : Group.plan ∈ w) (h_ports : Group.ports ∈ w) (h_fab : Group.fab ∈ w) (h_iso : Group.iso ∈ w) (h_svc : Group.svc ∈ w) (h_faults : Group.faults ∈ w) (h : Fin 32) (s : State) :
    ran w (execFollowSteps h s) = some (s.blank w) := by
  unfold execFollowSteps
  simp only [followStepsSpec_blank, takeRow_blank, blank_mk, eq_self, or_true, true_or, apply_ite (State.blank w), ite_self, foldl_blank, implies_true, ran_next, apply_ite (ran w), h_host, h_intake, h_mon, h_plan, h_ports, h_fab, h_iso, h_svc, h_faults, followStepsSpec_taken]

@[simp] theorem actFollowSteps_blank (h_host : Group.host ∈ w) (h_intake : Group.intake ∈ w) (h_motion : Group.motion ∈ w) (h_ports : Group.ports ∈ w) (h_fab : Group.fab ∈ w) (h_iso : Group.iso ∈ w) (h_faults : Group.faults ∈ w) (h : Nat) (s : State) :
    (actFollowSteps h s).blank w = s.blank w := by
  unfold actFollowSteps
  simp only [State.doneWith_blank, State.updMotion_blank, blank_mk, eq_self, or_true, true_or, apply_ite (State.blank w), ite_self, foldl_blank, implies_true, h_host, h_intake, h_motion, h_ports, h_fab, h_iso, h_faults]

@[simp] theorem setPositionSpec_blank (h_host : Group.host ∈ w) (h_intake : Group.intake ∈ w) (h_motion : Group.motion ∈ w) (h_ports : Group.ports ∈ w) (h_fab : Group.fab ∈ w) (h_iso : Group.iso ∈ w) (h_faults : Group.faults ∈ w) (s : State) (h : Nat) :
    (setPositionSpec.start s h).blank w = s.blank w := by
  unfold setPositionSpec
  simp only [State.doneWith_blank, State.updMotion_blank, blank_mk, eq_self, or_true, true_or, apply_ite (State.blank w), ite_self, foldl_blank, implies_true, h_host, h_intake, h_motion, h_ports, h_fab, h_iso, h_faults]

@[simp] theorem setPositionSpec_taken (s : State) (h : Nat) :
    (setPositionSpec.taken s h).blank w = s.blank w := by simp only [setPositionSpec]

@[simp] theorem execSetPosition_blank (h_host : Group.host ∈ w) (h_intake : Group.intake ∈ w) (h_motion : Group.motion ∈ w) (h_plan : Group.plan ∈ w) (h_ports : Group.ports ∈ w) (h_fab : Group.fab ∈ w) (h_iso : Group.iso ∈ w) (h_svc : Group.svc ∈ w) (h_faults : Group.faults ∈ w) (h : Fin 32) (s : State) :
    ran w (execSetPosition h s) = some (s.blank w) := by
  unfold execSetPosition
  simp only [setPositionSpec_blank, takeRow_blank, blank_mk, eq_self, or_true, true_or, apply_ite (State.blank w), ite_self, foldl_blank, implies_true, ran_next, apply_ite (ran w), h_host, h_intake, h_motion, h_plan, h_ports, h_fab, h_iso, h_svc, h_faults, setPositionSpec_taken]

@[simp] theorem State.confirmIndex_blank (h_motion : Group.motion ∈ w) (h_fab : Group.fab ∈ w) (h_faults : Group.faults ∈ w) (s : State) (n : Fin 4) :
    (State.confirmIndex s n).blank w = s.blank w := by
  unfold State.confirmIndex
  simp only [State.evIf_blank, State.updMotion_blank, blank_mk, eq_self, or_true, true_or, apply_ite (State.blank w), ite_self, foldl_blank, implies_true, h_motion, h_fab, h_faults]

@[simp] theorem State.applySetPos_blank (h_motion : Group.motion ∈ w) (s : State) (n : Fin 4) :
    (State.applySetPos s n).blank w = s.blank w := by
  unfold State.applySetPos
  (repeat' split) <;> simp only [State.updMotion_blank, blank_mk, eq_self, or_true, true_or, apply_ite (State.blank w), ite_self, foldl_blank, implies_true, h_motion]

@[simp] theorem axisStatusSpec_blank (h_host : Group.host ∈ w) (h_intake : Group.intake ∈ w) (h_ports : Group.ports ∈ w) (h_fab : Group.fab ∈ w) (h_iso : Group.iso ∈ w) (h_faults : Group.faults ∈ w) (s : State) (h : Nat) :
    (axisStatusSpec.start s h).blank w = s.blank w := by
  unfold axisStatusSpec
  simp only [State.doneWith_blank, blank_mk, eq_self, or_true, true_or, apply_ite (State.blank w), ite_self, foldl_blank, implies_true, h_host, h_intake, h_ports, h_fab, h_iso, h_faults]

@[simp] theorem axisStatusSpec_taken (s : State) (h : Nat) :
    (axisStatusSpec.taken s h).blank w = s.blank w := by simp only [axisStatusSpec]

@[simp] theorem execAxisStatus_blank (h_host : Group.host ∈ w) (h_intake : Group.intake ∈ w) (h_plan : Group.plan ∈ w) (h_ports : Group.ports ∈ w) (h_fab : Group.fab ∈ w) (h_iso : Group.iso ∈ w) (h_svc : Group.svc ∈ w) (h_faults : Group.faults ∈ w) (h : Fin 32) (s : State) :
    ran w (execAxisStatus h s) = some (s.blank w) := by
  unfold execAxisStatus
  simp only [axisStatusSpec_blank, takeRow_blank, blank_mk, eq_self, or_true, true_or, apply_ite (State.blank w), ite_self, foldl_blank, implies_true, ran_next, apply_ite (ran w), h_host, h_intake, h_plan, h_ports, h_fab, h_iso, h_svc, h_faults, axisStatusSpec_taken]

@[simp] theorem execIntervalUnitFault_blank (h_motion : Group.motion ∈ w) (h_faults : Group.faults ∈ w) (n : Fin 4) (s : State) :
    ran w (execIntervalUnitFault n s) = some (s.blank w) := by
  unfold execIntervalUnitFault
  simp only [State.note_blank, State.updMotion_blank, blank_mk, eq_self, or_true, true_or, apply_ite (State.blank w), ite_self, foldl_blank, implies_true, ran_next, apply_ite (ran w), h_motion, h_faults]

@[simp] theorem execStandstillReached_blank (h_motion : Group.motion ∈ w) (n : Fin 4) (s : State) :
    ran w (execStandstillReached n s) = some (s.blank w) := by
  unfold execStandstillReached
  simp only [State.updMotion_blank, blank_mk, eq_self, or_true, true_or, apply_ite (State.blank w), ite_self, foldl_blank, implies_true, ran_next, apply_ite (ran w), h_motion]

@[simp] theorem State.settleAxis_blank (h_host : Group.host ∈ w) (h_intake : Group.intake ∈ w) (h_motion : Group.motion ∈ w) (h_wedge : Group.wedge ∈ w) (h_follow : Group.follow ∈ w) (h_ports : Group.ports ∈ w) (h_fab : Group.fab ∈ w) (h_iso : Group.iso ∈ w) (h_faults : Group.faults ∈ w) (s : State) (n : Fin 4) :
    (State.settleAxis s n).blank w = s.blank w := by
  unfold State.settleAxis
  dsimp only
  (repeat' split) <;> first | (simp only [State.endCmd_blank, State.stopsDone_blank, State.updMotion_blank, blank_mk, eq_self, or_true, true_or, apply_ite (State.blank w), ite_self, foldl_blank, implies_true, h_host, h_intake, h_motion, h_wedge, h_follow, h_ports, h_fab, h_iso, h_faults]; done)

@[simp] theorem State.boundAxis_blank (h_motion : Group.motion ∈ w) (s : State) (n : Fin 4) (stepped : Bool) :
    (State.boundAxis s n stepped).blank w = s.blank w := by
  unfold State.boundAxis
  simp only [State.updMotion_blank, blank_mk, eq_self, or_true, true_or, apply_ite (State.blank w), ite_self, foldl_blank, implies_true, h_motion]

end Sys2Proof.Machine
end

