-- ==== Sys2Proof/Laws/Gate.lean ====
section
/-! SUPPORT. The parts of the state that the operations of Machine/Gate.lean can change: all others keep their value. -/

namespace Sys2Proof.Machine

set_option linter.all false
set_option linter.unusedSimpArgs false

variable {w : List Group}

@[simp] theorem State.evFree_blank (h_fab : Group.fab ∈ w) (h_faults : Group.faults ∈ w) (h_free : Group.free ∈ w) (s : State) (code : Nat) :
    (State.evFree s code).blank w = s.blank w := by
  unfold State.evFree
  simp only [State.ev_blank, State.fresh_blank, blank_mk, eq_self, or_true, true_or, apply_ite (State.blank w), ite_self, foldl_blank, implies_true, h_fab, h_faults, h_free]

@[simp] theorem State.noteFree_blank (h_faults : Group.faults ∈ w) (h_free : Group.free ∈ w) (s : State) (code : Nat) (axes : BitVec 4) (cond : Bool) :
    (State.noteFree s code axes cond).blank w = s.blank w := by
  unfold State.noteFree
  simp only [State.fresh_blank, State.note_blank, blank_mk, eq_self, or_true, true_or, apply_ite (State.blank w), ite_self, foldl_blank, implies_true, h_faults, h_free]

@[simp] theorem State.raiseFree_blank (h_faults : Group.faults ∈ w) (h_free : Group.free ∈ w) (s : State) (code : Nat) (axes : BitVec 4) (cond : Bool) :
    (State.raiseFree s code axes cond).blank w = s.blank w := by
  unfold State.raiseFree
  simp only [State.fresh_blank, State.raise_blank, blank_mk, eq_self, or_true, true_or, apply_ite (State.blank w), ite_self, foldl_blank, implies_true, h_faults, h_free]

@[simp] theorem State.updBridge_blank (h_gate : Group.gate ∈ w) (s : State) (n : Fin 4) (b : Fin 4) (f : BridgeSt → BridgeSt) :
    (State.updBridge s n b f).blank w = s.blank w := by
  unfold State.updBridge
  simp only [State.updGate_blank, blank_mk, eq_self, or_true, true_or, apply_ite (State.blank w), ite_self, foldl_blank, implies_true, h_gate]

@[simp] theorem State.clampOn_blank (h_gate : Group.gate ∈ w) (s : State) (n : Fin 4) :
    (State.clampOn s n).blank w = s.blank w := by
  unfold State.clampOn
  refine (foldl_blank _ (fun t b => ?_) _ _).trans ?_
  · split <;> simp only [State.updBridge_blank, blank_mk, eq_self, or_true, true_or, apply_ite (State.blank w), ite_self, foldl_blank, implies_true, h_gate]
  · simp only [State.updBridge_blank, blank_mk, eq_self, or_true, true_or, apply_ite (State.blank w), ite_self, foldl_blank, implies_true, h_gate]

@[simp] theorem execGateEdge_blank (h_gate : Group.gate ∈ w) (n : Fin 4) (b : Fin 4) (high : Bool) (on : Bool) (off : Nat) (vds : Nat) (bs : Nat) (s : State) :
    ran w (execGateEdge n b high on off vds bs s) = some (s.blank w) := by
  unfold execGateEdge
  simp only [State.updBridge_blank, blank_mk, eq_self, or_true, true_or, apply_ite (State.blank w), ite_self, foldl_blank, implies_true, ran_next, apply_ite (ran w), h_gate]

@[simp] theorem State.notePlateau_blank (h_gate : Group.gate ∈ w) (h_fab : Group.fab ∈ w) (h_faults : Group.faults ∈ w) (h_free : Group.free ∈ w) (s : State) (n : Fin 4) (bound : Bool) (why : Nat) :
    (State.notePlateau s n bound why).blank w = s.blank w := by
  unfold State.notePlateau
  simp only [State.evFree_blank, State.updGate_blank, blank_mk, eq_self, or_true, true_or, apply_ite (State.blank w), ite_self, foldl_blank, implies_true, h_gate, h_fab, h_faults, h_free]

@[simp] theorem State.plateau_blank (h_gate : Group.gate ∈ w) (h_fab : Group.fab ∈ w) (h_faults : Group.faults ∈ w) (h_free : Group.free ∈ w) (s : State) (n : Fin 4) (b : Fin 4) (high : Bool) (rising : Bool) (vds : Nat) (vgs : Nat) (len : Nat) (lag : Int) :
    (State.plateau s n b high rising vds vgs len lag).blank w = s.blank w := by
  unfold State.plateau
  (repeat' split) <;> simp only [State.notePlateau_blank, State.updBridge_blank, blank_mk, eq_self, or_true, true_or, apply_ite (State.blank w), ite_self, foldl_blank, implies_true, h_gate, h_fab, h_faults, h_free]

@[simp] theorem execGatePlateauEnd_blank (h_gate : Group.gate ∈ w) (h_fab : Group.fab ∈ w) (h_faults : Group.faults ∈ w) (h_free : Group.free ∈ w) (n : Fin 4) (b : Fin 4) (high : Bool) (vds : Nat) (vgs : Nat) (len : Nat) (lag : Int) (s : State) :
    ran w (execGatePlateauEnd n b high vds vgs len lag s) = some (s.blank w) := by
  unfold execGatePlateauEnd
  dsimp only
  (repeat' split) <;> first | (simp only [State.plateau_blank, State.updBridge_blank, blank_mk, eq_self, or_true, true_or, apply_ite (State.blank w), ite_self, foldl_blank, implies_true, ran_next, apply_ite (ran w), h_gate, h_fab, h_faults, h_free]; done)

@[simp] theorem State.nextInsert_blank (h_gate : Group.gate ∈ w) (s : State) (n : Fin 4) :
    (State.nextInsert s n).blank w = s.blank w := by
  unfold State.nextInsert
  (repeat' split) <;> simp only [State.updBridge_blank, State.updGate_blank, blank_mk, eq_self, or_true, true_or, apply_ite (State.blank w), ite_self, foldl_blank, implies_true, h_gate]

@[simp] theorem State.blankAgain_blank (h_cur : Group.cur ∈ w) (s : State) (n : Fin 4) (b : Fin 4) :
    (State.blankAgain s n b).blank w = s.blank w := by
  unfold State.blankAgain
  simp only [State.updCur_blank, blank_mk, eq_self, or_true, true_or, apply_ite (State.blank w), ite_self, foldl_blank, implies_true, h_cur]

@[simp] theorem State.pendingOn_blank (h_cur : Group.cur ∈ w) (h_gate : Group.gate ∈ w) (s : State) (n : Fin 4) (b : Fin 4) (high : Bool) (vds : Nat) (bs : Nat) (T : Nat) :
    (State.pendingOn s n b high vds bs T).blank w = s.blank w := by
  unfold State.pendingOn
  simp only [State.blankAgain_blank, State.nextInsert_blank, State.updBridge_blank, blank_mk, eq_self, or_true, true_or, apply_ite (State.blank w), ite_self, foldl_blank, implies_true, h_cur, h_gate]

@[simp] theorem execDeadTimeEnd_blank (h_cur : Group.cur ∈ w) (h_gate : Group.gate ∈ w) (n : Fin 4) (b : Fin 4) (gone : Moment) (low : Nat) (vds : Nat) (bs : Nat) (s : State) :
    ran w (execDeadTimeEnd n b gone low vds bs s) = some (s.blank w) := by
  unfold execDeadTimeEnd
  (repeat' split) <;> simp only [State.nextInsert_blank, State.pendingOn_blank, State.updBridge_blank, blank_mk, eq_self, or_true, true_or, apply_ite (State.blank w), ite_self, foldl_blank, implies_true, ran_next, apply_ite (ran w), h_cur, h_gate]

@[simp] theorem State.latch_blank (h_gate : Group.gate ∈ w) (s : State) (n : Fin 4) (b : Fin 4) (high : Bool) (cause : Nat) (T : Nat) :
    (State.latch s n b high cause T).blank w = s.blank w := by
  unfold State.latch
  simp only [State.nextInsert_blank, State.updBridge_blank, State.updGate_blank, blank_mk, eq_self, or_true, true_or, apply_ite (State.blank w), ite_self, foldl_blank, implies_true, h_gate]

@[simp] theorem State.switchFault_blank (h_gate : Group.gate ∈ w) (h_faults : Group.faults ∈ w) (s : State) (n : Fin 4) (sw : List (Fin 4 × Bool)) (cause : Nat) (code : Nat) (qual : Nat) (T : Nat) :
    (State.switchFault s n sw cause code qual T).blank w = s.blank w := by
  unfold State.switchFault
  simp only [State.latch_blank, State.note_blank, blank_mk, eq_self, or_true, true_or, apply_ite (State.blank w), ite_self, foldl_blank, implies_true, h_gate, h_faults]

@[simp] theorem execSwitchFaultDetect_blank (h_gate : Group.gate ∈ w) (h_faults : Group.faults ∈ w) (n : Fin 4) (b : Fin 4) (high : Bool) (why : Fin 3) (val : Int) (on : Nat) (len : Moment) (s : State) :
    ran w (execSwitchFaultDetect n b high why val on len s) = some (s.blank w) := by
  unfold execSwitchFaultDetect
  simp only [State.switchFault_blank, blank_mk, eq_self, or_true, true_or, apply_ite (State.blank w), ite_self, foldl_blank, implies_true, ran_next, apply_ite (ran w), h_gate, h_faults]

@[simp] theorem execGateOffTimeout_blank (h_gate : Group.gate ∈ w) (h_faults : Group.faults ∈ w) (n : Fin 4) (b : Fin 4) (high : Bool) (vgs : Nat) (len : Moment) (s : State) :
    ran w (execGateOffTimeout n b high vgs len s) = some (s.blank w) := by
  unfold execGateOffTimeout
  simp only [State.switchFault_blank, State.updBridge_blank, blank_mk, eq_self, or_true, true_or, apply_ite (State.blank w), ite_self, foldl_blank, implies_true, ran_next, apply_ite (ran w), h_gate, h_faults]

@[simp] theorem execBootstrapUndervoltage_blank (h_gate : Group.gate ∈ w) (h_faults : Group.faults ∈ w) (n : Fin 4) (b : Fin 4) (mv : Nat) (ns : Nat) (len : Moment) (s : State) :
    ran w (execBootstrapUndervoltage n b mv ns len s) = some (s.blank w) := by
  unfold execBootstrapUndervoltage
  simp only [State.switchFault_blank, blank_mk, eq_self, or_true, true_or, apply_ite (State.blank w), ite_self, foldl_blank, implies_true, ran_next, apply_ite (ran w), h_gate, h_faults]

@[simp] theorem execBootstrapRecharged_blank (h_gate : Group.gate ∈ w) (n : Fin 4) (b : Fin 4) (mv : Moment) (s : State) :
    ran w (execBootstrapRecharged n b mv s) = some (s.blank w) := by
  unfold execBootstrapRecharged
  simp only [State.updBridge_blank, blank_mk, eq_self, or_true, true_or, apply_ite (State.blank w), ite_self, foldl_blank, implies_true, ran_next, apply_ite (ran w), h_gate]

@[simp] theorem execBootstrapRechargeTimeout_blank (h_gate : Group.gate ∈ w) (h_faults : Group.faults ∈ w) (n : Fin 4) (b : Fin 4) (mv : Nat) (us : Moment) (s : State) :
    ran w (execBootstrapRechargeTimeout n b mv us s) = some (s.blank w) := by
  unfold execBootstrapRechargeTimeout
  simp only [State.switchFault_blank, State.updBridge_blank, blank_mk, eq_self, or_true, true_or, apply_ite (State.blank w), ite_self, foldl_blank, implies_true, ran_next, apply_ite (ran w), h_gate, h_faults]

@[simp] theorem execBootstrapRefreshTimer_blank (h_gate : Group.gate ∈ w) (n : Fin 4) (b : Fin 4) (off : Nat) (s : State) :
    ran w (execBootstrapRefreshTimer n b off s) = some (s.blank w) := by
  unfold execBootstrapRefreshTimer
  simp only [State.nextInsert_blank, State.updBridge_blank, blank_mk, eq_self, or_true, true_or, apply_ite (State.blank w), ite_self, foldl_blank, implies_true, ran_next, apply_ite (ran w), h_gate]

@[simp] theorem execRefreshPulseEnd_blank (h_gate : Group.gate ∈ w) (n : Fin 4) (b : Fin 4) (off : Nat) (s : State) :
    ran w (execRefreshPulseEnd n b off s) = some (s.blank w) := by
  unfold execRefreshPulseEnd
  dsimp only
  (repeat' split) <;> first | (simp only [State.nextInsert_blank, State.updBridge_blank, blank_mk, eq_self, or_true, true_or, apply_ite (State.blank w), ite_self, foldl_blank, implies_true, ran_next, apply_ite (ran w), h_gate]; done)

@[simp] theorem execQuietRefreshPulse_blank (h_gate : Group.gate ∈ w) (n : Fin 4) (off : Nat) (s : State) :
    ran w (execQuietRefreshPulse n off s) = some (s.blank w) := by
  unfold execQuietRefreshPulse
  simp only [State.updBridge_blank, State.updGate_blank, blank_mk, eq_self, or_true, true_or, apply_ite (State.blank w), ite_self, foldl_blank, implies_true, ran_next, apply_ite (ran w), h_gate]

@[simp] theorem State.setEnable_blank (h_pins : Group.pins ∈ w) (s : State) (n : Fin 4) (k : Option (Fin 4)) (v : Bool) :
    (State.setEnable s n k v).blank w = s.blank w := by
  unfold State.setEnable
  simp only [blank_mk, eq_self, or_true, true_or, apply_ite (State.blank w), ite_self, foldl_blank, implies_true, h_pins]

@[simp] theorem execGoverningEnableFall_blank (h_pins : Group.pins ∈ w) (h_gate : Group.gate ∈ w) (h_mon : Group.mon ∈ w) (n : Fin 4) (k : Option (Fin 4)) (s : State) :
    ran w (execGoverningEnableFall n k s) = some (s.blank w) := by
  unfold execGoverningEnableFall
  simp only [State.brakeOff_blank, State.setEnable_blank, State.updGate_blank, blank_mk, eq_self, or_true, true_or, apply_ite (State.blank w), ite_self, foldl_blank, implies_true, ran_next, apply_ite (ran w), h_pins, h_gate, h_mon]

@[simp] theorem execGoverningEnableRise_blank (h_pins : Group.pins ∈ w) (h_gate : Group.gate ∈ w) (n : Fin 4) (k : Option (Fin 4)) (s : State) :
    ran w (execGoverningEnableRise n k s) = some (s.blank w) := by
  unfold execGoverningEnableRise
  simp only [State.setEnable_blank, State.updGate_blank, blank_mk, eq_self, or_true, true_or, apply_ite (State.blank w), ite_self, foldl_blank, implies_true, ran_next, apply_ite (ran w), h_pins, h_gate]

@[simp] theorem execPinModeInEdge_blank (h_pins : Group.pins ∈ w) (h_gate : Group.gate ∈ w) (h_fab : Group.fab ∈ w) (h_faults : Group.faults ∈ w) (n : Fin 4) (k : Fin 4) (level : Bool) (width : Moment) (vds : Nat) (bs : Nat) (s : State) :
    ran w (execPinModeInEdge n k level width vds bs s) = some (s.blank w) := by
  unfold execPinModeInEdge
  simp only [State.evIf_blank, State.nextInsert_blank, State.updBridge_blank, blank_mk, eq_self, or_true, true_or, apply_ite (State.blank w), ite_self, foldl_blank, implies_true, ran_next, apply_ite (ran w), h_pins, h_gate, h_fab, h_faults]

@[simp] theorem gateStatusSpec_blank (h_host : Group.host ∈ w) (h_intake : Group.intake ∈ w) (h_ports : Group.ports ∈ w) (h_fab : Group.fab ∈ w) (h_iso : Group.iso ∈ w) (h_faults : Group.faults ∈ w) (s : State) (h : Nat) :
    (gateStatusSpec.start s h).blank w = s.blank w := by
  unfold gateStatusSpec
  simp only [State.doneWith_blank, blank_mk, eq_self, or_true, true_or, apply_ite (State.blank w), ite_self, foldl_blank, implies_true, h_host, h_intake, h_ports, h_fab, h_iso, h_faults]

@[simp] theorem gateStatusSpec_taken (s : State) (h : Nat) :
    (gateStatusSpec.taken s h).blank w = s.blank w := by simp only [gateStatusSpec]

@[simp] theorem execGateStatus_blank (h_host : Group.host ∈ w) (h_intake : Group.intake ∈ w) (h_plan : Group.plan ∈ w) (h_ports : Group.ports ∈ w) (h_fab : Group.fab ∈ w) (h_iso : Group.iso ∈ w) (h_svc : Group.svc ∈ w) (h_faults : Group.faults ∈ w) (h : Fin 32) (s : State) :
    ran w (execGateStatus h s) = some (s.blank w) := by
  unfold execGateStatus
  simp only [gateStatusSpec_blank, takeRow_blank, blank_mk, eq_self, or_true, true_or, apply_ite (State.blank w), ite_self, foldl_blank, implies_true, ran_next, apply_ite (ran w), h_host, h_intake, h_plan, h_ports, h_fab, h_iso, h_svc, h_faults, gateStatusSpec_taken]

@[simp] theorem State.boundEnable_blank (h_host : Group.host ∈ w) (h_intake : Group.intake ∈ w) (h_motion : Group.motion ∈ w) (h_wedge : Group.wedge ∈ w) (h_gate : Group.gate ∈ w) (h_follow : Group.follow ∈ w) (h_plan : Group.plan ∈ w) (h_ports : Group.ports ∈ w) (h_fab : Group.fab ∈ w) (h_iso : Group.iso ∈ w) (h_svc : Group.svc ∈ w) (h_faults : Group.faults ∈ w) (s : State) (n : Fin 4) :
    (State.boundEnable s n).blank w = s.blank w := by
  unfold State.boundEnable
  simp only [State.endCmd_blank, State.endUnacted_blank, State.ev_blank, State.leaveRun_blank, State.lostPos_blank, State.stopsDone_blank, State.updGate_blank, State.updMotion_blank, blank_mk, eq_self, or_true, true_or, apply_ite (State.blank w), ite_self, foldl_blank, implies_true, h_host, h_intake, h_motion, h_wedge, h_gate, h_follow, h_plan, h_ports, h_fab, h_iso, h_svc, h_faults]

@[simp] theorem State.toggleFaults_blank (h_faults : Group.faults ∈ w) (s : State) :
    (State.toggleFaults s).blank w = s.blank w := by
  unfold State.toggleFaults
  simp only [blank_mk, eq_self, or_true, true_or, apply_ite (State.blank w), ite_self, foldl_blank, implies_true, h_faults]

@[simp] theorem State.boundLatches_blank (h_gate : Group.gate ∈ w) (h_fab : Group.fab ∈ w) (h_faults : Group.faults ∈ w) (s : State) (n : Fin 4) :
    (State.boundLatches s n).blank w = s.blank w := by
  unfold State.boundLatches
  simp only [State.ev_blank, State.toggleFaults_blank, State.updGate_blank, blank_mk, eq_self, or_true, true_or, apply_ite (State.blank w), ite_self, foldl_blank, implies_true, h_gate, h_fab, h_faults]

end Sys2Proof.Machine
end

