-- ==== Sys2Proof/Laws/Diag.lean ====
section
/-! SUPPORT. The parts of the state that the operations of Machine/Diag.lean can change: all others keep their value. -/

namespace Sys2Proof.Machine

set_option linter.all false
set_option linter.unusedSimpArgs false

variable {w : List Group}

@[simp] theorem State.updComp_blank (h_mon : Group.mon ∈ w) (s : State) (k : Nat) (f : CompSt → CompSt) :
    (State.updComp s k f).blank w = s.blank w := by
  unfold State.updComp
  simp only [blank_mk, eq_self, or_true, true_or, apply_ite (State.blank w), ite_self, foldl_blank, implies_true, h_mon]

@[simp] theorem State.updItem_blank (h_mon : Group.mon ∈ w) (s : State) (k : Nat) (f : ItemSt → ItemSt) :
    (State.updItem s k f).blank w = s.blank w := by
  unfold State.updItem
  simp only [blank_mk, eq_self, or_true, true_or, apply_ite (State.blank w), ite_self, foldl_blank, implies_true, h_mon]

@[simp] theorem State.measured_blank (h_mon : Group.mon ∈ w) (s : State) (k : Nat) (last : Int) (byIns : Bool) :
    (State.measured s k last byIns).blank w = s.blank w := by
  unfold State.measured
  simp only [State.updItem_blank, blank_mk, eq_self, or_true, true_or, apply_ite (State.blank w), ite_self, foldl_blank, implies_true, h_mon]

@[simp] theorem State.itemFault_blank (h_mon : Group.mon ∈ w) (h_faults : Group.faults ∈ w) (s : State) (k : Nat) (code : Nat) (qual : Nat) (last : Int) :
    (State.itemFault s k code qual last).blank w = s.blank w := by
  unfold State.itemFault
  simp only [State.note_blank, State.updItem_blank, blank_mk, eq_self, or_true, true_or, apply_ite (State.blank w), ite_self, foldl_blank, implies_true, h_mon, h_faults]

@[simp] theorem State.itemService_blank (h_mon : Group.mon ∈ w) (s : State) :
    (State.itemService s).blank w = s.blank w := by
  unfold State.itemService
  simp only [State.updItem_blank, blank_mk, eq_self, or_true, true_or, apply_ite (State.blank w), ite_self, foldl_blank, implies_true, h_mon]

@[simp] theorem State.itemClear_blank (h_mon : Group.mon ∈ w) (s : State) :
    (State.itemClear s).blank w = s.blank w := by
  unfold State.itemClear
  simp only [blank_mk, eq_self, or_true, true_or, apply_ite (State.blank w), ite_self, foldl_blank, implies_true, h_mon]

@[simp] theorem State.itemAge_blank (h_mon : Group.mon ∈ w) (h_fab : Group.fab ∈ w) (h_faults : Group.faults ∈ w) (s : State) (k : Nat) :
    (State.itemAge s k).blank w = s.blank w := by
  unfold State.itemAge
  dsimp only
  (repeat' split) <;> first | (simp only [State.condEnd_blank, State.evIf_blank, State.ev_blank, State.updItem_blank, blank_mk, eq_self, or_true, true_or, apply_ite (State.blank w), ite_self, foldl_blank, implies_true, h_mon, h_fab, h_faults]; done)

@[simp] theorem State.itemsSuper_blank (h_mon : Group.mon ∈ w) (h_fab : Group.fab ∈ w) (h_faults : Group.faults ∈ w) (s : State) :
    (State.itemsSuper s).blank w = s.blank w := by
  unfold State.itemsSuper
  simp only [State.itemAge_blank, blank_mk, eq_self, or_true, true_or, apply_ite (State.blank w), ite_self, foldl_blank, implies_true, h_mon, h_fab, h_faults]

@[simp] theorem State.coilSample_blank (h_mon : Group.mon ∈ w) (h_faults : Group.faults ∈ w) (s : State) (n : Fin 4) (c : Nat) (v : Int) (E : Nat) (byIns : Bool) :
    (State.coilSample s n c v E byIns).blank w = s.blank w := by
  unfold State.coilSample
  simp only [State.itemFault_blank, State.measured_blank, blank_mk, eq_self, or_true, true_or, apply_ite (State.blank w), ite_self, foldl_blank, implies_true, h_mon, h_faults]

@[simp] theorem State.bootSample_blank (h_mon : Group.mon ∈ w) (h_faults : Group.faults ∈ w) (s : State) (n : Fin 4) (b : Fin 4) (mv : Nat) (byIns : Bool) :
    (State.bootSample s n b mv byIns).blank w = s.blank w := by
  unfold State.bootSample
  simp only [State.itemFault_blank, State.measured_blank, blank_mk, eq_self, or_true, true_or, apply_ite (State.blank w), ite_self, foldl_blank, implies_true, h_mon, h_faults]

@[simp] theorem State.brakeSample_blank (h_mon : Group.mon ∈ w) (h_faults : Group.faults ∈ w) (s : State) (b : Fin 4) (ma : Nat) (byIns : Bool) :
    (State.brakeSample s b ma byIns).blank w = s.blank w := by
  unfold State.brakeSample
  simp only [State.itemFault_blank, State.measured_blank, State.updBrake_blank, blank_mk, eq_self, or_true, true_or, apply_ite (State.blank w), ite_self, foldl_blank, implies_true, h_mon, h_faults]

@[simp] theorem State.brakeFrame_blank (h_mon : Group.mon ∈ w) (h_faults : Group.faults ∈ w) (s : State) (hbk : Quad Nat) :
    (State.brakeFrame s hbk).blank w = s.blank w := by
  unfold State.brakeFrame
  simp only [State.brakeSample_blank, forAxes_blank, blank_mk, eq_self, or_true, true_or, apply_ite (State.blank w), ite_self, foldl_blank, implies_true, h_mon, h_faults]

@[simp] theorem State.brakePin_blank (h_mon : Group.mon ∈ w) (h_faults : Group.faults ∈ w) (s : State) (b : Fin 4) (mv : Nat) (us : Nat) :
    (State.brakePin s b mv us).blank w = s.blank w := by
  unfold State.brakePin
  simp only [State.itemFault_blank, State.measured_blank, State.updBrake_blank, blank_mk, eq_self, or_true, true_or, apply_ite (State.blank w), ite_self, foldl_blank, implies_true, h_mon, h_faults]

@[simp] theorem State.setSources_blank (h_gate : Group.gate ∈ w) (s : State) (n : Fin 4) (leg1 : Option (Bool × Nat)) (leg2 : Option (Bool × Nat)) :
    (State.setSources s n leg1 leg2).blank w = s.blank w := by
  unfold State.setSources
  simp only [State.updGate_blank, blank_mk, eq_self, or_true, true_or, apply_ite (State.blank w), ite_self, foldl_blank, implies_true, h_gate]

@[simp] theorem State.setTest_blank (h_gate : Group.gate ∈ w) (h_mon : Group.mon ∈ w) (s : State) (n : Fin 4) (t : Option OffTest) :
    (State.setTest s n t).blank w = s.blank w := by
  unfold State.setTest
  simp only [State.setSources_blank, blank_mk, eq_self, or_true, true_or, apply_ite (State.blank w), ite_self, foldl_blank, implies_true, h_gate, h_mon]

@[simp] theorem State.testPhase_blank (h_gate : Group.gate ∈ w) (s : State) (n : Fin 4) :
    (State.testPhase s n).blank w = s.blank w := by
  unfold State.testPhase
  (repeat' split) <;> simp only [State.setSources_blank, blank_mk, eq_self, or_true, true_or, apply_ite (State.blank w), ite_self, foldl_blank, implies_true, h_gate]

@[simp] theorem State.clampBack_blank (h_gate : Group.gate ∈ w) (s : State) (n : Fin 4) :
    (State.clampBack s n).blank w = s.blank w := by
  unfold State.clampBack
  simp only [State.clampOn_blank, blank_mk, eq_self, or_true, true_or, apply_ite (State.blank w), ite_self, foldl_blank, implies_true, h_gate]

@[simp] theorem State.abandonTest_blank (h_host : Group.host ∈ w) (h_intake : Group.intake ∈ w) (h_gate : Group.gate ∈ w) (h_mon : Group.mon ∈ w) (h_ports : Group.ports ∈ w) (h_fab : Group.fab ∈ w) (h_iso : Group.iso ∈ w) (h_faults : Group.faults ∈ w) (s : State) (n : Fin 4) (detail : Nat) :
    (State.abandonTest s n detail).blank w = s.blank w := by
  unfold State.abandonTest
  (repeat' split) <;> simp only [State.clampBack_blank, State.finish_blank, State.setTest_blank, blank_mk, eq_self, or_true, true_or, apply_ite (State.blank w), ite_self, foldl_blank, implies_true, h_host, h_intake, h_gate, h_mon, h_ports, h_fab, h_iso, h_faults]

@[simp] theorem State.beginTest_blank (h_gate : Group.gate ∈ w) (h_mon : Group.mon ∈ w) (s : State) (n : Fin 4) (source : Nat) (h : Nat) :
    (State.beginTest s n source h).blank w = s.blank w := by
  unfold State.beginTest
  simp only [State.setTest_blank, State.switchesOff_blank, State.testPhase_blank, blank_mk, eq_self, or_true, true_or, apply_ite (State.blank w), ite_self, foldl_blank, implies_true, h_gate, h_mon]

@[simp] theorem State.testOutcome_blank (h_mon : Group.mon ∈ w) (h_faults : Group.faults ∈ w) (s : State) (n : Fin 4) (mv : List Int) (byIns : Bool) :
    (State.testOutcome s n mv byIns).blank w = s.blank w := by
  unfold State.testOutcome
  simp only [State.itemFault_blank, State.measured_blank, blank_mk, eq_self, or_true, true_or, apply_ite (State.blank w), ite_self, foldl_blank, implies_true, h_mon, h_faults]

@[simp] theorem offstateTestSpec_blank (h_gate : Group.gate ∈ w) (h_mon : Group.mon ∈ w) (s : State) (h : Nat) :
    (offstateTestSpec.start s h).blank w = s.blank w := by
  unfold offstateTestSpec
  simp only [State.beginTest_blank, blank_mk, eq_self, or_true, true_or, apply_ite (State.blank w), ite_self, foldl_blank, implies_true, h_gate, h_mon]

@[simp] theorem offstateTestSpec_taken (s : State) (h : Nat) :
    (offstateTestSpec.taken s h).blank w = s.blank w := by simp only [offstateTestSpec]

@[simp] theorem execOffstateTest_blank (h_host : Group.host ∈ w) (h_intake : Group.intake ∈ w) (h_gate : Group.gate ∈ w) (h_mon : Group.mon ∈ w) (h_plan : Group.plan ∈ w) (h_ports : Group.ports ∈ w) (h_fab : Group.fab ∈ w) (h_iso : Group.iso ∈ w) (h_svc : Group.svc ∈ w) (h_faults : Group.faults ∈ w) (h : Fin 32) (s : State) :
    ran w (execOffstateTest h s) = some (s.blank w) := by
  unfold execOffstateTest
  simp only [offstateTestSpec_blank, takeRow_blank, blank_mk, eq_self, or_true, true_or, apply_ite (State.blank w), ite_self, foldl_blank, implies_true, ran_next, apply_ite (ran w), h_host, h_intake, h_gate, h_mon, h_plan, h_ports, h_fab, h_iso, h_svc, h_faults, offstateTestSpec_taken]

@[simp] theorem execDiagAgeLimit_blank (h_mon : Group.mon ∈ w) (h_faults : Group.faults ∈ w) (item : Nat) (s : State) :
    ran w (execDiagAgeLimit item s) = some (s.blank w) := by
  unfold execDiagAgeLimit
  dsimp only
  (repeat' split) <;> first | (simp only [State.note_blank, State.updItem_blank, blank_mk, eq_self, or_true, true_or, apply_ite (State.blank w), ite_self, foldl_blank, implies_true, ran_next, apply_ite (ran w), h_mon, h_faults]; done)

@[simp] theorem State.insertBegin_blank (h_cur : Group.cur ∈ w) (h_gate : Group.gate ∈ w) (h_mon : Group.mon ∈ w) (s : State) (k : Nat) :
    (State.insertBegin s k).blank w = s.blank w := by
  unfold State.insertBegin
  (repeat' split) <;> simp only [State.beginTest_blank, State.updBrake_blank, State.updCur_blank, blank_mk, eq_self, or_true, true_or, apply_ite (State.blank w), ite_self, foldl_blank, implies_true, h_cur, h_gate, h_mon]

@[simp] theorem State.insertEnd_blank (h_cur : Group.cur ∈ w) (h_mon : Group.mon ∈ w) (h_faults : Group.faults ∈ w) (s : State) (k : Nat) (val : Int) :
    (State.insertEnd s k val).blank w = s.blank w := by
  unfold State.insertEnd
  (repeat' split) <;> simp only [State.bootSample_blank, State.brakeSample_blank, State.coilSample_blank, State.updBrake_blank, State.updCur_blank, blank_mk, eq_self, or_true, true_or, apply_ite (State.blank w), ite_self, foldl_blank, implies_true, h_cur, h_mon, h_faults]

@[simp] theorem execDiagInsertion_blank (h_cur : Group.cur ∈ w) (h_gate : Group.gate ∈ w) (h_mon : Group.mon ∈ w) (h_faults : Group.faults ∈ w) (item : Nat) (val : Int) (s : State) :
    ran w (execDiagInsertion item val s) = some (s.blank w) := by
  unfold execDiagInsertion
  (repeat' split) <;> simp only [State.insertBegin_blank, State.insertEnd_blank, State.updItem_blank, blank_mk, eq_self, or_true, true_or, apply_ite (State.blank w), ite_self, foldl_blank, implies_true, ran_next, apply_ite (ran w), h_cur, h_gate, h_mon, h_faults]

@[simp] theorem State.cmpRefresh_blank (h_mon : Group.mon ∈ w) (s : State) (k : Nat) (last : Int) :
    (State.cmpRefresh s k last).blank w = s.blank w := by
  unfold State.cmpRefresh
  simp only [State.measured_blank, State.updComp_blank, blank_mk, eq_self, or_true, true_or, apply_ite (State.blank w), ite_self, foldl_blank, implies_true, h_mon]

@[simp] theorem State.dacsRight_blank (h_faults : Group.faults ∈ w) (s : State) :
    (State.dacsRight s).blank w = s.blank w := by
  unfold State.dacsRight
  simp only [State.condEnd_blank, blank_mk, eq_self, or_true, true_or, apply_ite (State.blank w), ite_self, foldl_blank, implies_true, h_faults]

@[simp] theorem State.diagSlot_blank (h_cur : Group.cur ∈ w) (h_mon : Group.mon ∈ w) (h_faults : Group.faults ∈ w) (h_free : Group.free ∈ w) (s : State) (d : DiagSlot) :
    (State.diagSlot s d).blank w = s.blank w := by
  unfold State.diagSlot
  (repeat' split) <;> simp only [State.bootSample_blank, State.brakePin_blank, State.cmpRefresh_blank, State.condEnd_blank, State.dacsRight_blank, State.itemFault_blank, State.measured_blank, State.noteFree_blank, State.note_blank, State.updComp_blank, State.updCur_blank, blank_mk, eq_self, or_true, true_or, apply_ite (State.blank w), ite_self, foldl_blank, implies_true, h_cur, h_mon, h_faults, h_free]

@[simp] theorem State.temperature_blank (h_power : Group.power ∈ w) (h_gate : Group.gate ∈ w) (h_mon : Group.mon ∈ w) (h_faults : Group.faults ∈ w) (s : State) (v : Int) :
    (State.temperature s v).blank w = s.blank w := by
  unfold State.temperature
  simp only [State.brakesOff_blank, State.condEnd_blank, State.noteEv_blank, State.note_blank, State.switchesOff_blank, State.updGate_blank, forAxes_blank, blank_mk, eq_self, or_true, true_or, apply_ite (State.blank w), ite_self, foldl_blank, implies_true, h_power, h_gate, h_mon, h_faults]

@[simp] theorem State.integrators_blank (h_wedge : Group.wedge ∈ w) (h_mon : Group.mon ∈ w) (s : State) (u : Nat) (caps : List Int) :
    (State.integrators s u caps).blank w = s.blank w := by
  unfold State.integrators
  refine (forAxes_blank _ (fun n t => ?_) _).trans (by simp only [State.updWedge_blank, forAxes_blank, blank_mk, eq_self, or_true, true_or, apply_ite (State.blank w), ite_self, foldl_blank, implies_true, h_wedge, h_mon])
  dsimp only
  (repeat' split) <;> simp only [State.updWedge_blank, forAxes_blank, blank_mk, eq_self, or_true, true_or, apply_ite (State.blank w), ite_self, foldl_blank, implies_true, h_wedge, h_mon]

@[simp] theorem execAdc1Unit_blank (h_power : Group.power ∈ w) (h_cur : Group.cur ∈ w) (h_wedge : Group.wedge ∈ w) (h_gate : Group.gate ∈ w) (h_mon : Group.mon ∈ w) (h_faults : Group.faults ∈ w) (h_free : Group.free ∈ w) (u : Fin 25) (conv : UnitConv) (val : Int) (slot : Option DiagSlot) (s : State) :
    ran w (execAdc1Unit u conv val slot s) = some (s.blank w) := by
  unfold execAdc1Unit
  (repeat' split) <;> simp only [State.diagSlot_blank, State.integrators_blank, State.temperature_blank, blank_mk, eq_self, or_true, true_or, apply_ite (State.blank w), ite_self, foldl_blank, implies_true, ran_next, apply_ite (ran w), h_power, h_cur, h_wedge, h_gate, h_mon, h_faults, h_free]

@[simp] theorem execWinOutOfWindow_blank (h_mon : Group.mon ∈ w) (h_faults : Group.faults ∈ w) (a0 : Fin 4) (mv : Nat) (us : Nat) (s : State) :
    ran w (execWinOutOfWindow a0 mv us s) = some (s.blank w) := by
  unfold execWinOutOfWindow
  simp only [State.condEnd_blank, State.noteEv_blank, State.note_blank, blank_mk, eq_self, or_true, true_or, apply_ite (State.blank w), ite_self, foldl_blank, implies_true, ran_next, apply_ite (ran w), h_mon, h_faults]

@[simp] theorem execBrakePullInEnd_blank (h_mon : Group.mon ∈ w) (b : Fin 4) (s : State) :
    ran w (execBrakePullInEnd b s) = some (s.blank w) := by
  unfold execBrakePullInEnd
  simp only [State.updBrake_blank, blank_mk, eq_self, or_true, true_or, apply_ite (State.blank w), ite_self, foldl_blank, implies_true, ran_next, apply_ite (ran w), h_mon]

@[simp] theorem execBrakeStillEngage_blank (h_mon : Group.mon ∈ w) (b : Fin 4) (s : State) :
    ran w (execBrakeStillEngage b s) = some (s.blank w) := by
  unfold execBrakeStillEngage
  simp only [State.brakeOut_blank, blank_mk, eq_self, or_true, true_or, apply_ite (State.blank w), ite_self, foldl_blank, implies_true, ran_next, apply_ite (ran w), h_mon]

@[simp] theorem execHbkOvercurrent_blank (h_mon : Group.mon ∈ w) (h_faults : Group.faults ∈ w) (b : Fin 4) (ma : Nat) (ns : Nat) (s : State) :
    ran w (execHbkOvercurrent b ma ns s) = some (s.blank w) := by
  unfold execHbkOvercurrent
  simp only [State.brakeOut_blank, State.note_blank, State.updBrake_blank, blank_mk, eq_self, or_true, true_or, apply_ite (State.blank w), ite_self, foldl_blank, implies_true, ran_next, apply_ite (ran w), h_mon, h_faults]

@[simp] theorem diagStatusSpec_blank (h_host : Group.host ∈ w) (h_intake : Group.intake ∈ w) (h_ports : Group.ports ∈ w) (h_fab : Group.fab ∈ w) (h_iso : Group.iso ∈ w) (h_faults : Group.faults ∈ w) (s : State) (h : Nat) :
    (diagStatusSpec.start s h).blank w = s.blank w := by
  unfold diagStatusSpec
  simp only [State.doneWith_blank, blank_mk, eq_self, or_true, true_or, apply_ite (State.blank w), ite_self, foldl_blank, implies_true, h_host, h_intake, h_ports, h_fab, h_iso, h_faults]

@[simp] theorem diagStatusSpec_taken (s : State) (h : Nat) :
    (diagStatusSpec.taken s h).blank w = s.blank w := by simp only [diagStatusSpec]

@[simp] theorem execDiagStatus_blank (h_host : Group.host ∈ w) (h_intake : Group.intake ∈ w) (h_plan : Group.plan ∈ w) (h_ports : Group.ports ∈ w) (h_fab : Group.fab ∈ w) (h_iso : Group.iso ∈ w) (h_svc : Group.svc ∈ w) (h_faults : Group.faults ∈ w) (h : Fin 32) (s : State) :
    ran w (execDiagStatus h s) = some (s.blank w) := by
  unfold execDiagStatus
  simp only [diagStatusSpec_blank, takeRow_blank, blank_mk, eq_self, or_true, true_or, apply_ite (State.blank w), ite_self, foldl_blank, implies_true, ran_next, apply_ite (ran w), h_host, h_intake, h_plan, h_ports, h_fab, h_iso, h_svc, h_faults, diagStatusSpec_taken]

end Sys2Proof.Machine
end

