-- ==== Sys2Proof/Laws/Current.lean ====
section
/-! SUPPORT. The parts of the state that the operations of Machine/Current.lean can change: all others keep their value. -/

namespace Sys2Proof.Machine

set_option linter.all false
set_option linter.unusedSimpArgs false

variable {w : List Group}

@[simp] theorem State.setPoints_blank (h_cur : Group.cur ∈ w) (h_wedge : Group.wedge ∈ w) (s : State) (n : Fin 4) (T : Nat) :
    (State.setPoints s n T).blank w = s.blank w := by
  unfold State.setPoints
  simp only [State.updCur_blank, State.updWedge_blank, blank_mk, eq_self, or_true, true_or, apply_ite (State.blank w), ite_self, foldl_blank, implies_true, h_cur, h_wedge]

@[simp] theorem State.coilsBack_blank (h_cur : Group.cur ∈ w) (s : State) (n : Fin 4) :
    (State.coilsBack s n).blank w = s.blank w := by
  unfold State.coilsBack
  simp only [State.updCur_blank, blank_mk, eq_self, or_true, true_or, apply_ite (State.blank w), ite_self, foldl_blank, implies_true, h_cur]

@[simp] theorem State.enterHold_blank (h_cur : Group.cur ∈ w) (h_gate : Group.gate ∈ w) (s : State) (n : Fin 4) (h : HoldState) :
    (State.enterHold s n h).blank w = s.blank w := by
  unfold State.enterHold
  (repeat' split) <;> simp only [State.clampOn_blank, State.switchesOff_blank, State.updCur_blank, State.updGate_blank, blank_mk, eq_self, or_true, true_or, apply_ite (State.blank w), ite_self, foldl_blank, implies_true, h_cur, h_gate]

@[simp] theorem State.takeAmp_blank (h_cur : Group.cur ∈ w) (h_wedge : Group.wedge ∈ w) (s : State) (n : Fin 4) (ma : Nat) :
    (State.takeAmp s n ma).blank w = s.blank w := by
  unfold State.takeAmp
  simp only [State.setPoints_blank, State.updCur_blank, blank_mk, eq_self, or_true, true_or, apply_ite (State.blank w), ite_self, foldl_blank, implies_true, h_cur, h_wedge]

@[simp] theorem State.wedgeSpoil_blank (h_wedge : Group.wedge ∈ w) (s : State) (n : Fin 4) :
    (State.wedgeSpoil s n).blank w = s.blank w := by
  unfold State.wedgeSpoil
  simp only [State.updWedge_blank, blank_mk, eq_self, or_true, true_or, apply_ite (State.blank w), ite_self, foldl_blank, implies_true, h_wedge]

@[simp] theorem State.curBoundary_blank (h_cur : Group.cur ∈ w) (h_wedge : Group.wedge ∈ w) (h_gate : Group.gate ∈ w) (s : State) (n : Fin 4) :
    (State.curBoundary s n).blank w = s.blank w := by
  unfold State.curBoundary
  simp only [State.enterHold_blank, State.takeAmp_blank, State.updCur_blank, State.wedgeSpoil_blank, blank_mk, eq_self, or_true, true_or, apply_ite (State.blank w), ite_self, foldl_blank, implies_true, h_cur, h_wedge, h_gate]

@[simp] theorem State.endRecal_blank (h_power : Group.power ∈ w) (s : State) (n : Fin 4) :
    (State.endRecal s n).blank w = s.blank w := by
  unfold State.endRecal
  (repeat' split) <;> simp only [State.setSeq_blank, blank_mk, eq_self, or_true, true_or, apply_ite (State.blank w), ite_self, foldl_blank, implies_true, h_power]

@[simp] theorem execHoldDelayExpiry_blank (h_cur : Group.cur ∈ w) (n : Fin 4) (s : State) :
    ran w (execHoldDelayExpiry n s) = some (s.blank w) := by
  unfold execHoldDelayExpiry
  simp only [State.updCur_blank, blank_mk, eq_self, or_true, true_or, apply_ite (State.blank w), ite_self, foldl_blank, implies_true, ran_next, apply_ite (ran w), h_cur]

@[simp] theorem execHoldRampEnd_blank (h_cur : Group.cur ∈ w) (h_gate : Group.gate ∈ w) (n : Fin 4) (s : State) :
    ran w (execHoldRampEnd n s) = some (s.blank w) := by
  unfold execHoldRampEnd
  simp only [State.enterHold_blank, State.updCur_blank, blank_mk, eq_self, or_true, true_or, apply_ite (State.blank w), ite_self, foldl_blank, implies_true, ran_next, apply_ite (ran w), h_cur, h_gate]

@[simp] theorem State.regBoundary_blank (h_cur : Group.cur ∈ w) (h_fab : Group.fab ∈ w) (h_faults : Group.faults ∈ w) (s : State) (n : Fin 4) :
    (State.regBoundary s n).blank w = s.blank w := by
  unfold State.regBoundary
  simp only [State.ev_blank, State.updCur_blank, blank_mk, eq_self, or_true, true_or, apply_ite (State.blank w), ite_self, foldl_blank, implies_true, h_cur, h_fab, h_faults]

@[simp] theorem State.curReady_blank (h_cur : Group.cur ∈ w) (s : State) (n : Fin 4) :
    (State.curReady s n).blank w = s.blank w := by
  unfold State.curReady
  simp only [State.updCur_blank, blank_mk, eq_self, or_true, true_or, apply_ite (State.blank w), ite_self, foldl_blank, implies_true, h_cur]

@[simp] theorem State.quarterEnd_blank (h_cur : Group.cur ∈ w) (h_wedge : Group.wedge ∈ w) (h_faults : Group.faults ∈ w) (s : State) (n : Fin 4) (e : Nat) :
    (State.quarterEnd s n e).blank w = s.blank w := by
  unfold State.quarterEnd
  simp only [State.noteEv_blank, State.updCur_blank, State.wedgeSpoil_blank, blank_mk, eq_self, or_true, true_or, apply_ite (State.blank w), ite_self, foldl_blank, implies_true, h_cur, h_wedge, h_faults]

@[simp] theorem State.curMicro_blank (h_cur : Group.cur ∈ w) (h_wedge : Group.wedge ∈ w) (h_faults : Group.faults ∈ w) (s : State) (n : Fin 4) (T : Nat) :
    (State.curMicro s n T).blank w = s.blank w := by
  unfold State.curMicro
  dsimp only
  (repeat' split) <;> first | (simp only [State.noteEv_blank, State.quarterEnd_blank, State.setPoints_blank, State.updCur_blank, State.wedgeSpoil_blank, blank_mk, eq_self, or_true, true_or, apply_ite (State.blank w), ite_self, foldl_blank, implies_true, h_cur, h_wedge, h_faults]; done)

@[simp] theorem State.regCheck_blank (h_cur : Group.cur ∈ w) (h_faults : Group.faults ∈ w) (s : State) (n : Fin 4) (c : Nat) (code : Nat) (v : Int) :
    (State.regCheck s n c code v).blank w = s.blank w := by
  unfold State.regCheck
  simp only [State.note_blank, State.updCur_blank, blank_mk, eq_self, or_true, true_or, apply_ite (State.blank w), ite_self, foldl_blank, implies_true, h_cur, h_faults]

@[simp] theorem State.dropInserts_blank (h_gate : Group.gate ∈ w) (s : State) (n : Fin 4) (c : Nat) :
    (State.dropInserts s n c).blank w = s.blank w := by
  unfold State.dropInserts
  simp only [State.nextInsert_blank, State.updBridge_blank, blank_mk, eq_self, or_true, true_or, apply_ite (State.blank w), ite_self, foldl_blank, implies_true, h_gate]

@[simp] theorem execChopperTrip_blank (h_cur : Group.cur ∈ w) (h_gate : Group.gate ∈ w) (h_mon : Group.mon ∈ w) (h_faults : Group.faults ∈ w) (n : Fin 4) (c : Fin 2) (code : Nat) (ton : Nat) (s : State) :
    ran w (execChopperTrip n c code ton s) = some (s.blank w) := by
  unfold execChopperTrip
  simp only [State.coilSample_blank, State.dropInserts_blank, State.regCheck_blank, State.updCur_blank, blank_mk, eq_self, or_true, true_or, apply_ite (State.blank w), ite_self, foldl_blank, implies_true, ran_next, apply_ite (ran w), h_cur, h_gate, h_mon, h_faults]

@[simp] theorem execBlankingEnd_blank (h_cur : Group.cur ∈ w) (n : Fin 4) (c : Fin 2) (seen : Bool) (ton : Nat) (s : State) :
    ran w (execBlankingEnd n c seen ton s) = some (s.blank w) := by
  unfold execBlankingEnd
  simp only [State.updCur_blank, blank_mk, eq_self, or_true, true_or, apply_ite (State.blank w), ite_self, foldl_blank, implies_true, ran_next, apply_ite (ran w), h_cur]

@[simp] theorem execFastDecayEnd_blank (h_cur : Group.cur ∈ w) (n : Fin 4) (c : Fin 2) (gone : Nat) (s : State) :
    ran w (execFastDecayEnd n c gone s) = some (s.blank w) := by
  unfold execFastDecayEnd
  simp only [State.updCur_blank, blank_mk, eq_self, or_true, true_or, apply_ite (State.blank w), ite_self, foldl_blank, implies_true, ran_next, apply_ite (ran w), h_cur]

@[simp] theorem execZeroComparatorTrip_blank (h_cur : Group.cur ∈ w) (n : Fin 4) (c : Fin 2) (s : State) :
    ran w (execZeroComparatorTrip n c s) = some (s.blank w) := by
  unfold execZeroComparatorTrip
  simp only [State.updCur_blank, blank_mk, eq_self, or_true, true_or, apply_ite (State.blank w), ite_self, foldl_blank, implies_true, ran_next, apply_ite (ran w), h_cur]

@[simp] theorem execOffTimeEnd_blank (h_cur : Group.cur ∈ w) (n : Fin 4) (c : Fin 2) (gone : Nat) (s : State) :
    ran w (execOffTimeEnd n c gone s) = some (s.blank w) := by
  unfold execOffTimeEnd
  simp only [State.updCur_blank, blank_mk, eq_self, or_true, true_or, apply_ite (State.blank w), ite_self, foldl_blank, implies_true, ran_next, apply_ite (ran w), h_cur]

@[simp] theorem execForcedSample_blank (h_mon : Group.mon ∈ w) (h_faults : Group.faults ∈ w) (n : Fin 4) (c : Fin 2) (code : Nat) (ton : Nat) (s : State) :
    ran w (execForcedSample n c code ton s) = some (s.blank w) := by
  unfold execForcedSample
  simp only [State.coilSample_blank, blank_mk, eq_self, or_true, true_or, apply_ite (State.blank w), ite_self, foldl_blank, implies_true, ran_next, apply_ite (ran w), h_mon, h_faults]

@[simp] theorem execPwmPeriod_blank (h_cur : Group.cur ∈ w) (h_gate : Group.gate ∈ w) (h_mon : Group.mon ∈ w) (h_faults : Group.faults ∈ w) (n : Fin 4) (c : Fin 2) (code : Nat) (s : State) :
    ran w (execPwmPeriod n c code s) = some (s.blank w) := by
  unfold execPwmPeriod
  simp only [State.coilSample_blank, State.regCheck_blank, State.updBridge_blank, State.updCur_blank, blank_mk, eq_self, or_true, true_or, apply_ite (State.blank w), ite_self, foldl_blank, implies_true, ran_next, apply_ite (ran w), h_cur, h_gate, h_mon, h_faults]

@[simp] theorem State.setUserTab_blank (h_pins : Group.pins ∈ w) (h_intake : Group.intake ∈ w) (h_params : Group.params ∈ w) (h_cur : Group.cur ∈ w) (s : State) (h : Nat) (t : Option Chisel) :
    (State.setUserTab s h t).blank w = s.blank w := by
  unfold State.setUserTab
  simp only [State.awaitVerdict_blank, State.updCur_blank, State.writeWorking_blank, blank_mk, eq_self, or_true, true_or, apply_ite (State.blank w), ite_self, foldl_blank, implies_true, h_pins, h_intake, h_params, h_cur]

@[simp] theorem chiselLoadSpec_blank (h_pins : Group.pins ∈ w) (h_intake : Group.intake ∈ w) (h_params : Group.params ∈ w) (h_cur : Group.cur ∈ w) (s : State) (h : Nat) :
    (chiselLoadSpec.start s h).blank w = s.blank w := by
  unfold chiselLoadSpec
  simp only [State.setUserTab_blank, blank_mk, eq_self, or_true, true_or, apply_ite (State.blank w), ite_self, foldl_blank, implies_true, h_pins, h_intake, h_params, h_cur]

@[simp] theorem chiselLoadSpec_taken (s : State) (h : Nat) :
    (chiselLoadSpec.taken s h).blank w = s.blank w := by simp only [chiselLoadSpec]

@[simp] theorem execChiselLoad_blank (h_pins : Group.pins ∈ w) (h_host : Group.host ∈ w) (h_intake : Group.intake ∈ w) (h_params : Group.params ∈ w) (h_cur : Group.cur ∈ w) (h_plan : Group.plan ∈ w) (h_ports : Group.ports ∈ w) (h_fab : Group.fab ∈ w) (h_iso : Group.iso ∈ w) (h_svc : Group.svc ∈ w) (h_faults : Group.faults ∈ w) (h : Fin 32) (s : State) :
    ran w (execChiselLoad h s) = some (s.blank w) := by
  unfold execChiselLoad
  simp only [chiselLoadSpec_blank, takeRow_blank, blank_mk, eq_self, or_true, true_or, apply_ite (State.blank w), ite_self, foldl_blank, implies_true, ran_next, apply_ite (ran w), h_pins, h_host, h_intake, h_params, h_cur, h_plan, h_ports, h_fab, h_iso, h_svc, h_faults, chiselLoadSpec_taken]

@[simp] theorem chiselValidateSpec_blank (h_host : Group.host ∈ w) (h_intake : Group.intake ∈ w) (h_ports : Group.ports ∈ w) (h_fab : Group.fab ∈ w) (h_iso : Group.iso ∈ w) (h_faults : Group.faults ∈ w) (s : State) (h : Nat) :
    (chiselValidateSpec.start s h).blank w = s.blank w := by
  unfold chiselValidateSpec
  simp only [State.doneWith_blank, blank_mk, eq_self, or_true, true_or, apply_ite (State.blank w), ite_self, foldl_blank, implies_true, h_host, h_intake, h_ports, h_fab, h_iso, h_faults]

@[simp] theorem chiselValidateSpec_taken (s : State) (h : Nat) :
    (chiselValidateSpec.taken s h).blank w = s.blank w := by simp only [chiselValidateSpec]

@[simp] theorem execChiselValidate_blank (h_host : Group.host ∈ w) (h_intake : Group.intake ∈ w) (h_plan : Group.plan ∈ w) (h_ports : Group.ports ∈ w) (h_fab : Group.fab ∈ w) (h_iso : Group.iso ∈ w) (h_svc : Group.svc ∈ w) (h_faults : Group.faults ∈ w) (h : Fin 32) (s : State) :
    ran w (execChiselValidate h s) = some (s.blank w) := by
  unfold execChiselValidate
  simp only [chiselValidateSpec_blank, takeRow_blank, blank_mk, eq_self, or_true, true_or, apply_ite (State.blank w), ite_self, foldl_blank, implies_true, ran_next, apply_ite (ran w), h_host, h_intake, h_plan, h_ports, h_fab, h_iso, h_svc, h_faults, chiselValidateSpec_taken]

@[simp] theorem chiselSaveSpec_blank (h_host : Group.host ∈ w) (h_intake : Group.intake ∈ w) (h_cur : Group.cur ∈ w) (h_ports : Group.ports ∈ w) (h_fab : Group.fab ∈ w) (h_iso : Group.iso ∈ w) (h_faults : Group.faults ∈ w) (h_free : Group.free ∈ w) (s : State) (h : Nat) :
    (chiselSaveSpec.start s h).blank w = s.blank w := by
  unfold chiselSaveSpec
  simp only [State.doneWith_blank, State.finish_blank, State.flashWrite_blank, State.raise_blank, State.updCur_blank, blank_mk, eq_self, or_true, true_or, apply_ite (State.blank w), ite_self, foldl_blank, implies_true, h_host, h_intake, h_cur, h_ports, h_fab, h_iso, h_faults, h_free]

@[simp] theorem chiselSaveSpec_taken (s : State) (h : Nat) :
    (chiselSaveSpec.taken s h).blank w = s.blank w := by simp only [chiselSaveSpec]

@[simp] theorem execChiselSave_blank (h_host : Group.host ∈ w) (h_intake : Group.intake ∈ w) (h_cur : Group.cur ∈ w) (h_plan : Group.plan ∈ w) (h_ports : Group.ports ∈ w) (h_fab : Group.fab ∈ w) (h_iso : Group.iso ∈ w) (h_svc : Group.svc ∈ w) (h_faults : Group.faults ∈ w) (h_free : Group.free ∈ w) (h : Fin 32) (s : State) :
    ran w (execChiselSave h s) = some (s.blank w) := by
  unfold execChiselSave
  simp only [chiselSaveSpec_blank, takeRow_blank, blank_mk, eq_self, or_true, true_or, apply_ite (State.blank w), ite_self, foldl_blank, implies_true, ran_next, apply_ite (ran w), h_host, h_intake, h_cur, h_plan, h_ports, h_fab, h_iso, h_svc, h_faults, h_free, chiselSaveSpec_taken]

@[simp] theorem chiselReadSpec_blank (h_host : Group.host ∈ w) (h_intake : Group.intake ∈ w) (h_ports : Group.ports ∈ w) (h_fab : Group.fab ∈ w) (h_iso : Group.iso ∈ w) (h_faults : Group.faults ∈ w) (s : State) (h : Nat) :
    (chiselReadSpec.start s h).blank w = s.blank w := by
  unfold chiselReadSpec
  dsimp only
  (repeat' split) <;> first | (simp only [State.doneWith_blank, blank_mk, eq_self, or_true, true_or, apply_ite (State.blank w), ite_self, foldl_blank, implies_true, h_host, h_intake, h_ports, h_fab, h_iso, h_faults]; done)

@[simp] theorem chiselReadSpec_taken (s : State) (h : Nat) :
    (chiselReadSpec.taken s h).blank w = s.blank w := by simp only [chiselReadSpec]

@[simp] theorem execChiselRead_blank (h_host : Group.host ∈ w) (h_intake : Group.intake ∈ w) (h_plan : Group.plan ∈ w) (h_ports : Group.ports ∈ w) (h_fab : Group.fab ∈ w) (h_iso : Group.iso ∈ w) (h_svc : Group.svc ∈ w) (h_faults : Group.faults ∈ w) (h : Fin 32) (s : State) :
    ran w (execChiselRead h s) = some (s.blank w) := by
  unfold execChiselRead
  simp only [chiselReadSpec_blank, takeRow_blank, blank_mk, eq_self, or_true, true_or, apply_ite (State.blank w), ite_self, foldl_blank, implies_true, ran_next, apply_ite (ran w), h_host, h_intake, h_plan, h_ports, h_fab, h_iso, h_svc, h_faults, chiselReadSpec_taken]

@[simp] theorem chiselReloadSpec_blank (h_pins : Group.pins ∈ w) (h_intake : Group.intake ∈ w) (h_params : Group.params ∈ w) (h_cur : Group.cur ∈ w) (h_fab : Group.fab ∈ w) (h_faults : Group.faults ∈ w) (s : State) (h : Nat) :
    (chiselReloadSpec.start s h).blank w = s.blank w := by
  unfold chiselReloadSpec
  simp only [State.evIf_blank, State.setUserTab_blank, blank_mk, eq_self, or_true, true_or, apply_ite (State.blank w), ite_self, foldl_blank, implies_true, h_pins, h_intake, h_params, h_cur, h_fab, h_faults]

@[simp] theorem chiselReloadSpec_taken (s : State) (h : Nat) :
    (chiselReloadSpec.taken s h).blank w = s.blank w := by simp only [chiselReloadSpec]

@[simp] theorem execChiselReload_blank (h_pins : Group.pins ∈ w) (h_host : Group.host ∈ w) (h_intake : Group.intake ∈ w) (h_params : Group.params ∈ w) (h_cur : Group.cur ∈ w) (h_plan : Group.plan ∈ w) (h_ports : Group.ports ∈ w) (h_fab : Group.fab ∈ w) (h_iso : Group.iso ∈ w) (h_svc : Group.svc ∈ w) (h_faults : Group.faults ∈ w) (h : Fin 32) (s : State) :
    ran w (execChiselReload h s) = some (s.blank w) := by
  unfold execChiselReload
  simp only [chiselReloadSpec_blank, takeRow_blank, blank_mk, eq_self, or_true, true_or, apply_ite (State.blank w), ite_self, foldl_blank, implies_true, ran_next, apply_ite (ran w), h_pins, h_host, h_intake, h_params, h_cur, h_plan, h_ports, h_fab, h_iso, h_svc, h_faults, chiselReloadSpec_taken]

@[simp] theorem State.bootTables_blank (h_cur : Group.cur ∈ w) (h_fab : Group.fab ∈ w) (h_faults : Group.faults ∈ w) (s : State) :
    (State.bootTables s).blank w = s.blank w := by
  unfold State.bootTables
  simp only [State.evIf_blank, State.updCur_blank, forAxes_blank, blank_mk, eq_self, or_true, true_or, apply_ite (State.blank w), ite_self, foldl_blank, implies_true, h_cur, h_fab, h_faults]

@[simp] theorem curStatusSpec_blank (h_host : Group.host ∈ w) (h_intake : Group.intake ∈ w) (h_ports : Group.ports ∈ w) (h_fab : Group.fab ∈ w) (h_iso : Group.iso ∈ w) (h_faults : Group.faults ∈ w) (s : State) (h : Nat) :
    (curStatusSpec.start s h).blank w = s.blank w := by
  unfold curStatusSpec
  simp only [State.doneWith_blank, blank_mk, eq_self, or_true, true_or, apply_ite (State.blank w), ite_self, foldl_blank, implies_true, h_host, h_intake, h_ports, h_fab, h_iso, h_faults]

@[simp] theorem curStatusSpec_taken (s : State) (h : Nat) :
    (curStatusSpec.taken s h).blank w = s.blank w := by simp only [curStatusSpec]

@[simp] theorem execCurStatus_blank (h_host : Group.host ∈ w) (h_intake : Group.intake ∈ w) (h_plan : Group.plan ∈ w) (h_ports : Group.ports ∈ w) (h_fab : Group.fab ∈ w) (h_iso : Group.iso ∈ w) (h_svc : Group.svc ∈ w) (h_faults : Group.faults ∈ w) (h : Fin 32) (s : State) :
    ran w (execCurStatus h s) = some (s.blank w) := by
  unfold execCurStatus
  simp only [curStatusSpec_blank, takeRow_blank, blank_mk, eq_self, or_true, true_or, apply_ite (State.blank w), ite_self, foldl_blank, implies_true, ran_next, apply_ite (ran w), h_host, h_intake, h_plan, h_ports, h_fab, h_iso, h_svc, h_faults, curStatusSpec_taken]

end Sys2Proof.Machine
end

