-- ==== Sys2Proof/Laws/Wedge.lean ====
section
/-! SUPPORT. The parts of the state that the operations of Machine/Wedge.lean can change: all others keep their value. -/

namespace Sys2Proof.Machine

set_option linter.all false
set_option linter.unusedSimpArgs false

variable {w : List Group}

@[simp] theorem State.wedgeMicro_blank (h_wedge : Group.wedge ∈ w) (s : State) (n : Fin 4) (T : Nat) :
    (State.wedgeMicro s n T).blank w = s.blank w := by
  unfold State.wedgeMicro
  simp only [State.updWedge_blank, blank_mk, eq_self, or_true, true_or, apply_ite (State.blank w), ite_self, foldl_blank, implies_true, h_wedge]

@[simp] theorem State.homeContact_blank (h_motion : Group.motion ∈ w) (h_wedge : Group.wedge ∈ w) (h_faults : Group.faults ∈ w) (s : State) (n : Fin 4) :
    (State.homeContact s n).blank w = s.blank w := by
  unfold State.homeContact
  simp only [State.noteEv_blank, State.updMotion_blank, State.updWedge_blank, blank_mk, eq_self, or_true, true_or, apply_ite (State.blank w), ite_self, foldl_blank, implies_true, h_motion, h_wedge, h_faults]

@[simp] theorem State.homeWindow_blank (h_motion : Group.motion ∈ w) (h_wedge : Group.wedge ∈ w) (h_faults : Group.faults ∈ w) (s : State) (n : Fin 4) (x : WedgeWin) (es : Rat) (ec : Rat) (mw : Rat) :
    (State.homeWindow s n x es ec mw).blank w = s.blank w := by
  unfold State.homeWindow
  simp only [State.homeContact_blank, State.updWedge_blank, blank_mk, eq_self, or_true, true_or, apply_ite (State.blank w), ite_self, foldl_blank, implies_true, h_motion, h_wedge, h_faults]

@[simp] theorem execWedgeWindowEnd_blank (h_motion : Group.motion ∈ w) (h_wedge : Group.wedge ∈ w) (h_faults : Group.faults ∈ w) (n : Fin 4) (va : Int) (vb : Int) (s : State) :
    ran w (execWedgeWindowEnd n va vb s) = some (s.blank w) := by
  unfold execWedgeWindowEnd
  dsimp only
  (repeat' split) <;> first | (simp only [State.homeWindow_blank, State.note_blank, State.updWedge_blank, blank_mk, eq_self, or_true, true_or, apply_ite (State.blank w), ite_self, foldl_blank, implies_true, ran_next, apply_ite (ran w), h_motion, h_wedge, h_faults]; done)

@[simp] theorem State.declareStall_blank (h_motion : Group.motion ∈ w) (h_wedge : Group.wedge ∈ w) (s : State) (n : Fin 4) (code : Nat) :
    (State.declareStall s n code).blank w = s.blank w := by
  unfold State.declareStall
  simp only [State.updMotion_blank, State.updWedge_blank, blank_mk, eq_self, or_true, true_or, apply_ite (State.blank w), ite_self, foldl_blank, implies_true, h_motion, h_wedge]

@[simp] theorem State.stallPeriod_blank (h_motion : Group.motion ∈ w) (h_wedge : Group.wedge ∈ w) (s : State) (n : Fin 4) (ceil : Bool) (ang : Rat) (mag : Rat) (fe : Rat) :
    (State.stallPeriod s n ceil ang mag fe).blank w = s.blank w := by
  unfold State.stallPeriod
  simp only [State.declareStall_blank, State.updWedge_blank, blank_mk, eq_self, or_true, true_or, apply_ite (State.blank w), ite_self, foldl_blank, implies_true, h_motion, h_wedge]

@[simp] theorem State.learnBoundary_blank (h_wedge : Group.wedge ∈ w) (s : State) (n : Fin 4) :
    (State.learnBoundary s n).blank w = s.blank w := by
  unfold State.learnBoundary
  simp only [State.updWedge_blank, blank_mk, eq_self, or_true, true_or, apply_ite (State.blank w), ite_self, foldl_blank, implies_true, h_wedge]

@[simp] theorem State.learnPeriod_blank (h_wedge : Group.wedge ∈ w) (h_faults : Group.faults ∈ w) (s : State) (n : Fin 4) (mag : Rat) (fe : Rat) :
    (State.learnPeriod s n mag fe).blank w = s.blank w := by
  unfold State.learnPeriod
  dsimp only
  (repeat' split) <;> first | (simp only [State.noteEv_blank, State.updWedge_blank, blank_mk, eq_self, or_true, true_or, apply_ite (State.blank w), ite_self, foldl_blank, implies_true, h_wedge, h_faults]; done)

@[simp] theorem execWedgePeriodEnd_blank (h_motion : Group.motion ∈ w) (h_wedge : Group.wedge ∈ w) (h_faults : Group.faults ∈ w) (n : Fin 4) (s : State) :
    ran w (execWedgePeriodEnd n s) = some (s.blank w) := by
  unfold execWedgePeriodEnd
  dsimp only
  (repeat' split) <;> first | (simp only [State.learnPeriod_blank, State.stallPeriod_blank, State.updWedge_blank, blank_mk, eq_self, or_true, true_or, apply_ite (State.blank w), ite_self, foldl_blank, implies_true, ran_next, apply_ite (ran w), h_motion, h_wedge, h_faults]; done)

@[simp] theorem State.wedgeStep_blank (h_wedge : Group.wedge ∈ w) (s : State) (n : Fin 4) :
    (State.wedgeStep s n).blank w = s.blank w := by
  unfold State.wedgeStep
  simp only [State.updWedge_blank, blank_mk, eq_self, or_true, true_or, apply_ite (State.blank w), ite_self, foldl_blank, implies_true, h_wedge]

@[simp] theorem State.peStall_blank (h_motion : Group.motion ∈ w) (h_wedge : Group.wedge ∈ w) (s : State) (n : Fin 4) :
    (State.peStall s n).blank w = s.blank w := by
  unfold State.peStall
  (repeat' split) <;> simp only [State.declareStall_blank, blank_mk, eq_self, or_true, true_or, apply_ite (State.blank w), ite_self, foldl_blank, implies_true, h_motion, h_wedge]

@[simp] theorem State.stallBoundary_blank (h_host : Group.host ∈ w) (h_intake : Group.intake ∈ w) (h_motion : Group.motion ∈ w) (h_wedge : Group.wedge ∈ w) (h_follow : Group.follow ∈ w) (h_plan : Group.plan ∈ w) (h_ports : Group.ports ∈ w) (h_fab : Group.fab ∈ w) (h_iso : Group.iso ∈ w) (h_faults : Group.faults ∈ w) (s : State) (n : Fin 4) :
    (State.stallBoundary s n).blank w = s.blank w := by
  unfold State.stallBoundary
  (repeat' split) <;> simp only [State.endCmd_blank, State.leaveRunAs_blank, State.note_blank, State.stopsDone_blank, State.updMotion_blank, State.updWedge_blank, blank_mk, eq_self, or_true, true_or, apply_ite (State.blank w), ite_self, foldl_blank, implies_true, h_host, h_intake, h_motion, h_wedge, h_follow, h_plan, h_ports, h_fab, h_iso, h_faults]

@[simp] theorem State.stallAvail_blank (h_motion : Group.motion ∈ w) (h_fab : Group.fab ∈ w) (h_faults : Group.faults ∈ w) (s : State) (n : Fin 4) :
    (State.stallAvail s n).blank w = s.blank w := by
  unfold State.stallAvail
  simp only [State.ev_blank, State.updMotion_blank, blank_mk, eq_self, or_true, true_or, apply_ite (State.blank w), ite_self, foldl_blank, implies_true, h_motion, h_fab, h_faults]

@[simp] theorem State.wedgeReady_blank (h_wedge : Group.wedge ∈ w) (h_fab : Group.fab ∈ w) (h_faults : Group.faults ∈ w) (s : State) (n : Fin 4) :
    (State.wedgeReady s n).blank w = s.blank w := by
  unfold State.wedgeReady
  (repeat' split) <;> simp only [State.ev_blank, State.updWedge_blank, blank_mk, eq_self, or_true, true_or, apply_ite (State.blank w), ite_self, foldl_blank, implies_true, h_wedge, h_fab, h_faults]

@[simp] theorem State.wedgeSuper_blank (h_ret : Group.ret ∈ w) (h_wedge : Group.wedge ∈ w) (s : State) :
    (State.wedgeSuper s).blank w = s.blank w := by
  unfold State.wedgeSuper
  simp only [State.updWedge_blank, forAxes_blank, blank_mk, eq_self, or_true, true_or, apply_ite (State.blank w), ite_self, foldl_blank, implies_true, h_ret, h_wedge]

@[simp] theorem homeFaceSpec_blank (h_intake : Group.intake ∈ w) (h_mon : Group.mon ∈ w) (h_fab : Group.fab ∈ w) (h_faults : Group.faults ∈ w) (s : State) (h : Nat) :
    (homeFaceSpec.start s h).blank w = s.blank w := by
  unfold homeFaceSpec
  simp only [startMotion_blank, blank_mk, eq_self, or_true, true_or, apply_ite (State.blank w), ite_self, foldl_blank, implies_true, h_intake, h_mon, h_fab, h_faults]

@[simp] theorem homeFaceSpec_taken (s : State) (h : Nat) :
    (homeFaceSpec.taken s h).blank w = s.blank w := by simp only [homeFaceSpec]

@[simp] theorem execHomeFace_blank (h_host : Group.host ∈ w) (h_intake : Group.intake ∈ w) (h_mon : Group.mon ∈ w) (h_plan : Group.plan ∈ w) (h_ports : Group.ports ∈ w) (h_fab : Group.fab ∈ w) (h_iso : Group.iso ∈ w) (h_svc : Group.svc ∈ w) (h_faults : Group.faults ∈ w) (h : Fin 32) (s : State) :
    ran w (execHomeFace h s) = some (s.blank w) := by
  unfold execHomeFace
  simp only [homeFaceSpec_blank, takeRow_blank, blank_mk, eq_self, or_true, true_or, apply_ite (State.blank w), ite_self, foldl_blank, implies_true, ran_next, apply_ite (ran w), h_host, h_intake, h_mon, h_plan, h_ports, h_fab, h_iso, h_svc, h_faults, homeFaceSpec_taken]

@[simp] theorem actHomeFace_blank (h_host : Group.host ∈ w) (h_intake : Group.intake ∈ w) (h_params : Group.params ∈ w) (h_motion : Group.motion ∈ w) (h_wedge : Group.wedge ∈ w) (h_follow : Group.follow ∈ w) (h_plan : Group.plan ∈ w) (h_ports : Group.ports ∈ w) (h_fab : Group.fab ∈ w) (h_iso : Group.iso ∈ w) (h_faults : Group.faults ∈ w) (h : Nat) (s : State) :
    (actHomeFace h s).blank w = s.blank w := by
  unfold actHomeFace
  simp only [State.setProfile_blank, State.takeOver_blank, State.updMotion_blank, State.updWedge_blank, blank_mk, eq_self, or_true, true_or, apply_ite (State.blank w), ite_self, foldl_blank, implies_true, h_host, h_intake, h_params, h_motion, h_wedge, h_follow, h_plan, h_ports, h_fab, h_iso, h_faults]

@[simp] theorem State.homeProfile_blank (h_motion : Group.motion ∈ w) (s : State) (n : Fin 4) (target : Int) :
    (State.homeProfile s n target).blank w = s.blank w := by
  unfold State.homeProfile
  simp only [State.setProfile_blank, State.updMotion_blank, blank_mk, eq_self, or_true, true_or, apply_ite (State.blank w), ite_self, foldl_blank, implies_true, h_motion]

@[simp] theorem execHomingSettleEnd_blank (h_motion : Group.motion ∈ w) (h_wedge : Group.wedge ∈ w) (n : Fin 4) (s : State) :
    ran w (execHomingSettleEnd n s) = some (s.blank w) := by
  unfold execHomingSettleEnd
  simp only [State.homeProfile_blank, State.updWedge_blank, blank_mk, eq_self, or_true, true_or, apply_ite (State.blank w), ite_self, foldl_blank, implies_true, ran_next, apply_ite (ran w), h_motion, h_wedge]

@[simp] theorem State.homeBoundary_blank (h_host : Group.host ∈ w) (h_intake : Group.intake ∈ w) (h_motion : Group.motion ∈ w) (h_wedge : Group.wedge ∈ w) (h_follow : Group.follow ∈ w) (h_ports : Group.ports ∈ w) (h_fab : Group.fab ∈ w) (h_iso : Group.iso ∈ w) (h_faults : Group.faults ∈ w) (s : State) (n : Fin 4) :
    (State.homeBoundary s n).blank w = s.blank w := by
  unfold State.homeBoundary
  dsimp only
  (repeat' split) <;> first | (simp only [State.confirmIndex_blank, State.endCmd_blank, State.homeProfile_blank, State.note_blank, State.rampToRest_blank, State.updMotion_blank, State.updWedge_blank, blank_mk, eq_self, or_true, true_or, apply_ite (State.blank w), ite_self, foldl_blank, implies_true, h_host, h_intake, h_motion, h_wedge, h_follow, h_ports, h_fab, h_iso, h_faults]; done)

@[simp] theorem wedgeLearnSpec_blank (h_ret : Group.ret ∈ w) (h_host : Group.host ∈ w) (h_intake : Group.intake ∈ w) (h_wedge : Group.wedge ∈ w) (h_ports : Group.ports ∈ w) (h_fab : Group.fab ∈ w) (h_iso : Group.iso ∈ w) (h_faults : Group.faults ∈ w) (s : State) (h : Nat) :
    (wedgeLearnSpec.start s h).blank w = s.blank w := by
  unfold wedgeLearnSpec
  simp only [State.doneWith_blank, State.ev_blank, State.learnBoundary_blank, State.updWedge_blank, blank_mk, eq_self, or_true, true_or, apply_ite (State.blank w), ite_self, foldl_blank, implies_true, h_ret, h_host, h_intake, h_wedge, h_ports, h_fab, h_iso, h_faults]

@[simp] theorem wedgeLearnSpec_taken (s : State) (h : Nat) :
    (wedgeLearnSpec.taken s h).blank w = s.blank w := by simp only [wedgeLearnSpec]

@[simp] theorem execWedgeLearn_blank (h_ret : Group.ret ∈ w) (h_host : Group.host ∈ w) (h_intake : Group.intake ∈ w) (h_wedge : Group.wedge ∈ w) (h_plan : Group.plan ∈ w) (h_ports : Group.ports ∈ w) (h_fab : Group.fab ∈ w) (h_iso : Group.iso ∈ w) (h_svc : Group.svc ∈ w) (h_faults : Group.faults ∈ w) (h : Fin 32) (s : State) :
    ran w (execWedgeLearn h s) = some (s.blank w) := by
  unfold execWedgeLearn
  simp only [takeRow_blank, wedgeLearnSpec_blank, blank_mk, eq_self, or_true, true_or, apply_ite (State.blank w), ite_self, foldl_blank, implies_true, ran_next, apply_ite (ran w), h_ret, h_host, h_intake, h_wedge, h_plan, h_ports, h_fab, h_iso, h_svc, h_faults, wedgeLearnSpec_taken]

@[simp] theorem wedgeStatusSpec_blank (h_host : Group.host ∈ w) (h_intake : Group.intake ∈ w) (h_ports : Group.ports ∈ w) (h_fab : Group.fab ∈ w) (h_iso : Group.iso ∈ w) (h_faults : Group.faults ∈ w) (s : State) (h : Nat) :
    (wedgeStatusSpec.start s h).blank w = s.blank w := by
  unfold wedgeStatusSpec
  simp only [State.doneWith_blank, blank_mk, eq_self, or_true, true_or, apply_ite (State.blank w), ite_self, foldl_blank, implies_true, h_host, h_intake, h_ports, h_fab, h_iso, h_faults]

@[simp] theorem wedgeStatusSpec_taken (s : State) (h : Nat) :
    (wedgeStatusSpec.taken s h).blank w = s.blank w := by simp only [wedgeStatusSpec]

@[simp] theorem execWedgeStatus_blank (h_host : Group.host ∈ w) (h_intake : Group.intake ∈ w) (h_plan : Group.plan ∈ w) (h_ports : Group.ports ∈ w) (h_fab : Group.fab ∈ w) (h_iso : Group.iso ∈ w) (h_svc : Group.svc ∈ w) (h_faults : Group.faults ∈ w) (h : Fin 32) (s : State) :
    ran w (execWedgeStatus h s) = some (s.blank w) := by
  unfold execWedgeStatus
  simp only [takeRow_blank, wedgeStatusSpec_blank, blank_mk, eq_self, or_true, true_or, apply_ite (State.blank w), ite_self, foldl_blank, implies_true, ran_next, apply_ite (ran w), h_host, h_intake, h_plan, h_ports, h_fab, h_iso, h_svc, h_faults, wedgeStatusSpec_taken]

end Sys2Proof.Machine
end

