-- ==== Sys2Proof/Laws/Compare.lean ====
section
/-! SUPPORT. The parts of the state that the operations of Machine/Compare.lean can change: all others keep their value. -/

namespace Sys2Proof.Machine

set_option linter.all false
set_option linter.unusedSimpArgs false

variable {w : List Group}

@[simp] theorem State.updCmp_blank (h_cmp : Group.cmp ∈ w) (s : State) (n : Fin 4) (u : Fin 2) (f : CmpSt → CmpSt) :
    (State.updCmp s n u f).blank w = s.blank w := by
  unfold State.updCmp
  simp only [blank_mk, eq_self, or_true, true_or, apply_ite (State.blank w), ite_self, foldl_blank, implies_true, h_cmp]

@[simp] theorem State.driveAux_blank (h_pins : Group.pins ∈ w) (s : State) (n : Fin 4) :
    (State.driveAux s n).blank w = s.blank w := by
  unfold State.driveAux
  simp only [blank_mk, eq_self, or_true, true_or, apply_ite (State.blank w), ite_self, foldl_blank, implies_true, h_pins]

@[simp] theorem State.cmpMerged_blank (h_cmp : Group.cmp ∈ w) (h_fab : Group.fab ∈ w) (h_faults : Group.faults ∈ w) (h_free : Group.free ∈ w) (s : State) (n : Fin 4) (u : Fin 2) (k : Nat) :
    (State.cmpMerged s n u k).blank w = s.blank w := by
  unfold State.cmpMerged
  simp only [State.evFree_blank, State.updCmp_blank, blank_mk, eq_self, or_true, true_or, apply_ite (State.blank w), ite_self, foldl_blank, implies_true, h_cmp, h_fab, h_faults, h_free]

@[simp] theorem State.cmpEvent_blank (h_pins : Group.pins ∈ w) (h_cmp : Group.cmp ∈ w) (h_fab : Group.fab ∈ w) (h_faults : Group.faults ∈ w) (h_free : Group.free ∈ w) (s : State) (n : Fin 4) (u : Fin 2) :
    (State.cmpEvent s n u).blank w = s.blank w := by
  unfold State.cmpEvent
  (repeat' split) <;> simp only [State.cmpMerged_blank, State.driveAux_blank, State.updCmp_blank, blank_mk, eq_self, or_true, true_or, apply_ite (State.blank w), ite_self, foldl_blank, implies_true, h_pins, h_cmp, h_fab, h_faults, h_free]

@[simp] theorem State.cmpCountUnit_blank (h_pins : Group.pins ∈ w) (h_cmp : Group.cmp ∈ w) (h_fab : Group.fab ∈ w) (h_faults : Group.faults ∈ w) (h_free : Group.free ∈ w) (s : State) (n : Fin 4) (u : Fin 2) (old : Int) (x : Int) :
    (State.cmpCountUnit s n u old x).blank w = s.blank w := by
  unfold State.cmpCountUnit
  extract_lets c neg sp k lo hi limit r t1 t2
  have e : t2.blank w = s.blank w := by
    simp only [t2, t1]
    split <;> simp only [State.cmpEvent_blank, State.cmpMerged_blank, State.noteEv_blank, State.updCmp_blank, blank_mk, eq_self, or_true, true_or, apply_ite (State.blank w), ite_self, foldl_blank, implies_true, h_pins, h_cmp, h_fab, h_faults, h_free]
  (repeat' split) <;> first | rfl | exact e | simp only [State.cmpEvent_blank, State.cmpMerged_blank, State.noteEv_blank, State.updCmp_blank, blank_mk, eq_self, or_true, true_or, apply_ite (State.blank w), ite_self, foldl_blank, implies_true, h_pins, h_cmp, h_fab, h_faults, h_free, e]

@[simp] theorem State.cmpSkip_blank (h_cmp : Group.cmp ∈ w) (h_faults : Group.faults ∈ w) (s : State) (n : Fin 4) (u : Fin 2) :
    (State.cmpSkip s n u).blank w = s.blank w := by
  unfold State.cmpSkip
  simp only [State.noteEv_blank, State.updCmp_blank, blank_mk, eq_self, or_true, true_or, apply_ite (State.blank w), ite_self, foldl_blank, implies_true, h_cmp, h_faults]

@[simp] theorem State.cmpCount_blank (h_pins : Group.pins ∈ w) (h_cmp : Group.cmp ∈ w) (h_fab : Group.fab ∈ w) (h_faults : Group.faults ∈ w) (h_free : Group.free ∈ w) (s : State) (n : Fin 4) (src : Nat) (old : Int) (x : Int) :
    (State.cmpCount s n src old x).blank w = s.blank w := by
  unfold State.cmpCount
  simp only [State.cmpCountUnit_blank, blank_mk, eq_self, or_true, true_or, apply_ite (State.blank w), ite_self, foldl_blank, implies_true, h_pins, h_cmp, h_fab, h_faults, h_free]

@[simp] theorem State.cmpJump_blank (h_cmp : Group.cmp ∈ w) (h_faults : Group.faults ∈ w) (s : State) (n : Fin 4) (src : Nat) (d : Int) :
    (State.cmpJump s n src d).blank w = s.blank w := by
  unfold State.cmpJump
  simp only [State.cmpSkip_blank, State.updCmp_blank, blank_mk, eq_self, or_true, true_or, apply_ite (State.blank w), ite_self, foldl_blank, implies_true, h_cmp, h_faults]

@[simp] theorem execComparePulseEnd_blank (h_pins : Group.pins ∈ w) (h_cmp : Group.cmp ∈ w) (n : Fin 4) (u : Fin 2) (us : Nat) (s : State) :
    ran w (execComparePulseEnd n u us s) = some (s.blank w) := by
  unfold execComparePulseEnd
  simp only [State.driveAux_blank, State.updCmp_blank, blank_mk, eq_self, or_true, true_or, apply_ite (State.blank w), ite_self, foldl_blank, implies_true, ran_next, apply_ite (ran w), h_pins, h_cmp]

@[simp] theorem State.cmpEnable_blank (h_pins : Group.pins ∈ w) (h_cmp : Group.cmp ∈ w) (s : State) (n : Fin 4) :
    (State.cmpEnable s n).blank w = s.blank w := by
  unfold State.cmpEnable
  simp only [State.driveAux_blank, State.updCmp_blank, blank_mk, eq_self, or_true, true_or, apply_ite (State.blank w), ite_self, foldl_blank, implies_true, h_pins, h_cmp]

@[simp] theorem State.cmpDisable_blank (h_pins : Group.pins ∈ w) (h_host : Group.host ∈ w) (h_intake : Group.intake ∈ w) (h_cmp : Group.cmp ∈ w) (h_ports : Group.ports ∈ w) (h_fab : Group.fab ∈ w) (h_iso : Group.iso ∈ w) (h_faults : Group.faults ∈ w) (s : State) (n : Fin 4) :
    (State.cmpDisable s n).blank w = s.blank w := by
  unfold State.cmpDisable
  rw [State.driveAux_blank h_pins]
  refine foldl_blank _ (fun t u => ?_) _ _
  refine (foldl_blank _ (fun t a => ?_) _ _).trans ?_
  · split <;> simp only [State.driveAux_blank, State.finish_blank, State.updCmp_blank, blank_mk, eq_self, or_true, true_or, apply_ite (State.blank w), ite_self, foldl_blank, implies_true, h_pins, h_host, h_intake, h_cmp, h_ports, h_fab, h_iso, h_faults]
  · simp only [State.driveAux_blank, State.finish_blank, State.updCmp_blank, blank_mk, eq_self, or_true, true_or, apply_ite (State.blank w), ite_self, foldl_blank, implies_true, h_pins, h_host, h_intake, h_cmp, h_ports, h_fab, h_iso, h_faults]

@[simp] theorem cmpArmSpec_blank (h_cmp : Group.cmp ∈ w) (s : State) (h : Nat) :
    (cmpArmSpec.start s h).blank w = s.blank w := by
  unfold cmpArmSpec
  simp only [State.updCmp_blank, blank_mk, eq_self, or_true, true_or, apply_ite (State.blank w), ite_self, foldl_blank, implies_true, h_cmp]

@[simp] theorem cmpArmSpec_taken (s : State) (h : Nat) :
    (cmpArmSpec.taken s h).blank w = s.blank w := by simp only [cmpArmSpec]

@[simp] theorem execCmpArm_blank (h_host : Group.host ∈ w) (h_intake : Group.intake ∈ w) (h_cmp : Group.cmp ∈ w) (h_plan : Group.plan ∈ w) (h_ports : Group.ports ∈ w) (h_fab : Group.fab ∈ w) (h_iso : Group.iso ∈ w) (h_svc : Group.svc ∈ w) (h_faults : Group.faults ∈ w) (h : Fin 32) (s : State) :
    ran w (execCmpArm h s) = some (s.blank w) := by
  unfold execCmpArm
  simp only [cmpArmSpec_blank, takeRow_blank, blank_mk, eq_self, or_true, true_or, apply_ite (State.blank w), ite_self, foldl_blank, implies_true, ran_next, apply_ite (ran w), h_host, h_intake, h_cmp, h_plan, h_ports, h_fab, h_iso, h_svc, h_faults, cmpArmSpec_taken]

@[simp] theorem State.cmpBoundary_blank (h_pins : Group.pins ∈ w) (h_host : Group.host ∈ w) (h_intake : Group.intake ∈ w) (h_cmp : Group.cmp ∈ w) (h_ports : Group.ports ∈ w) (h_fab : Group.fab ∈ w) (h_iso : Group.iso ∈ w) (h_faults : Group.faults ∈ w) (s : State) (n : Fin 4) (u : Fin 2) :
    (State.cmpBoundary s n u).blank w = s.blank w := by
  unfold State.cmpBoundary
  simp only [State.cmpSkip_blank, State.doneWith_blank, State.driveAux_blank, State.updCmp_blank, blank_mk, eq_self, or_true, true_or, apply_ite (State.blank w), ite_self, foldl_blank, implies_true, h_pins, h_host, h_intake, h_cmp, h_ports, h_fab, h_iso, h_faults]

@[simp] theorem cmpStatusSpec_blank (h_host : Group.host ∈ w) (h_intake : Group.intake ∈ w) (h_ports : Group.ports ∈ w) (h_fab : Group.fab ∈ w) (h_iso : Group.iso ∈ w) (h_faults : Group.faults ∈ w) (s : State) (h : Nat) :
    (cmpStatusSpec.start s h).blank w = s.blank w := by
  unfold cmpStatusSpec
  simp only [State.doneWith_blank, blank_mk, eq_self, or_true, true_or, apply_ite (State.blank w), ite_self, foldl_blank, implies_true, h_host, h_intake, h_ports, h_fab, h_iso, h_faults]

@[simp] theorem cmpStatusSpec_taken (s : State) (h : Nat) :
    (cmpStatusSpec.taken s h).blank w = s.blank w := by simp only [cmpStatusSpec]

@[simp] theorem execCmpStatus_blank (h_host : Group.host ∈ w) (h_intake : Group.intake ∈ w) (h_plan : Group.plan ∈ w) (h_ports : Group.ports ∈ w) (h_fab : Group.fab ∈ w) (h_iso : Group.iso ∈ w) (h_svc : Group.svc ∈ w) (h_faults : Group.faults ∈ w) (h : Fin 32) (s : State) :
    ran w (execCmpStatus h s) = some (s.blank w) := by
  unfold execCmpStatus
  simp only [cmpStatusSpec_blank, takeRow_blank, blank_mk, eq_self, or_true, true_or, apply_ite (State.blank w), ite_self, foldl_blank, implies_true, ran_next, apply_ite (ran w), h_host, h_intake, h_plan, h_ports, h_fab, h_iso, h_svc, h_faults, cmpStatusSpec_taken]

@[simp] theorem State.updDiv_blank (h_divo : Group.divo ∈ w) (s : State) (d : Fin 2) (f : DivSt → DivSt) :
    (State.updDiv s d f).blank w = s.blank w := by
  unfold State.updDiv
  simp only [blank_mk, eq_self, or_true, true_or, apply_ite (State.blank w), ite_self, foldl_blank, implies_true, h_divo]

@[simp] theorem State.driveDiv_blank (h_pins : Group.pins ∈ w) (s : State) (d : Fin 2) :
    (State.driveDiv s d).blank w = s.blank w := by
  unfold State.driveDiv
  simp only [blank_mk, eq_self, or_true, true_or, apply_ite (State.blank w), ite_self, foldl_blank, implies_true, h_pins]

@[simp] theorem State.divEmit_blank (h_pins : Group.pins ∈ w) (h_divo : Group.divo ∈ w) (s : State) (d : Fin 2) :
    (State.divEmit s d).blank w = s.blank w := by
  unfold State.divEmit
  simp only [State.driveDiv_blank, State.updDiv_blank, blank_mk, eq_self, or_true, true_or, apply_ite (State.blank w), ite_self, foldl_blank, implies_true, h_pins, h_divo]

@[simp] theorem State.divEvent_blank (h_pins : Group.pins ∈ w) (h_divo : Group.divo ∈ w) (h_fab : Group.fab ∈ w) (h_faults : Group.faults ∈ w) (h_free : Group.free ∈ w) (s : State) (d : Fin 2) :
    (State.divEvent s d).blank w = s.blank w := by
  unfold State.divEvent
  simp only [State.divEmit_blank, State.evFree_blank, State.note_blank, State.updDiv_blank, blank_mk, eq_self, or_true, true_or, apply_ite (State.blank w), ite_self, foldl_blank, implies_true, h_pins, h_divo, h_fab, h_faults, h_free]

@[simp] theorem State.divCount_blank (h_pins : Group.pins ∈ w) (h_divo : Group.divo ∈ w) (h_fab : Group.fab ∈ w) (h_faults : Group.faults ∈ w) (h_free : Group.free ∈ w) (s : State) (src : Nat) (m : Nat) :
    (State.divCount s src m).blank w = s.blank w := by
  unfold State.divCount
  dsimp only
  repeat' (first | split | (refine (foldl_blank _ (fun t a => ?_) _ _).trans ?_))
  all_goals first | (simp only [State.divEvent_blank, State.updDiv_blank, blank_mk, eq_self, or_true, true_or, apply_ite (State.blank w), ite_self, foldl_blank, implies_true, h_pins, h_divo, h_fab, h_faults, h_free]; done)

@[simp] theorem execDividedOutputWidthEnd_blank (h_pins : Group.pins ∈ w) (h_divo : Group.divo ∈ w) (d : Fin 2) (gone : Nat) (s : State) :
    ran w (execDividedOutputWidthEnd d gone s) = some (s.blank w) := by
  unfold execDividedOutputWidthEnd
  simp only [State.divEmit_blank, State.driveDiv_blank, State.updDiv_blank, blank_mk, eq_self, or_true, true_or, apply_ite (State.blank w), ite_self, foldl_blank, implies_true, ran_next, apply_ite (ran w), h_pins, h_divo]

@[simp] theorem State.divReset_blank (h_pins : Group.pins ∈ w) (h_divo : Group.divo ∈ w) (s : State) :
    (State.divReset s).blank w = s.blank w := by
  unfold State.divReset
  simp only [State.driveDiv_blank, State.updDiv_blank, blank_mk, eq_self, or_true, true_or, apply_ite (State.blank w), ite_self, foldl_blank, implies_true, h_pins, h_divo]

end Sys2Proof.Machine
end

