-- ==== Sys2Proof/Laws/Feedback.lean ====
section
/-! SUPPORT. The parts of the state that the operations of Machine/Feedback.lean can change: all others keep their value. -/

namespace Sys2Proof.Machine

set_option linter.all false
set_option linter.unusedSimpArgs false

variable {w : List Group}

@[simp] theorem State.chanNote_blank (h_faults : Group.faults ∈ w) (s : State) (n : Fin 4) (code : Nat) (qual : Nat) (cond : Bool) :
    (State.chanNote s n code qual cond).blank w = s.blank w := by
  unfold State.chanNote
  simp only [State.note_blank, blank_mk, eq_self, or_true, true_or, apply_ite (State.blank w), ite_self, foldl_blank, implies_true, h_faults]

@[simp] theorem State.chanCause_blank (h_channels : Group.channels ∈ w) (h_faults : Group.faults ∈ w) (s : State) (n : Fin 4) (code : Nat) :
    (State.chanCause s n code).blank w = s.blank w := by
  unfold State.chanCause
  simp only [State.chanNote_blank, State.updChan_blank, blank_mk, eq_self, or_true, true_or, apply_ite (State.blank w), ite_self, foldl_blank, implies_true, h_channels, h_faults]

@[simp] theorem State.chanEnd_blank (h_channels : Group.channels ∈ w) (h_faults : Group.faults ∈ w) (s : State) (n : Fin 4) (code : Nat) :
    (State.chanEnd s n code).blank w = s.blank w := by
  unfold State.chanEnd
  simp only [State.condEnd_blank, State.updChan_blank, blank_mk, eq_self, or_true, true_or, apply_ite (State.blank w), ite_self, foldl_blank, implies_true, h_channels, h_faults]

@[simp] theorem State.unref_blank (h_channels : Group.channels ∈ w) (s : State) (n : Fin 4) :
    (State.unref s n).blank w = s.blank w := by
  unfold State.unref
  simp only [State.updChan_blank, blank_mk, eq_self, or_true, true_or, apply_ite (State.blank w), ite_self, foldl_blank, implies_true, h_channels]

@[simp] theorem State.noteEvFree_blank (h_faults : Group.faults ∈ w) (h_free : Group.free ∈ w) (s : State) (code : Nat) :
    (State.noteEvFree s code).blank w = s.blank w := by
  unfold State.noteEvFree
  simp only [State.fresh_blank, State.noteEv_blank, blank_mk, eq_self, or_true, true_or, apply_ite (State.blank w), ite_self, foldl_blank, implies_true, h_faults, h_free]

@[simp] theorem State.refEvent_blank (h_channels : Group.channels ∈ w) (h_faults : Group.faults ∈ w) (h_free : Group.free ∈ w) (s : State) (n : Fin 4) (isRef : Bool) (p : Int) :
    (State.refEvent s n isRef p).blank w = s.blank w := by
  unfold State.refEvent
  simp only [State.noteEvFree_blank, State.updChan_blank, blank_mk, eq_self, or_true, true_or, apply_ite (State.blank w), ite_self, foldl_blank, implies_true, h_channels, h_faults, h_free]

@[simp] theorem State.rebaseAxis_blank (h_channels : Group.channels ∈ w) (h_cmp : Group.cmp ∈ w) (h_sensor : Group.sensor ∈ w) (h_faults : Group.faults ∈ w) (s : State) (n : Fin 4) (d : Int) :
    (State.rebaseAxis s n d).blank w = s.blank w := by
  unfold State.rebaseAxis
  simp only [State.cmpJump_blank, State.updChan_blank, blank_mk, eq_self, or_true, true_or, apply_ite (State.blank w), ite_self, foldl_blank, implies_true, h_channels, h_cmp, h_sensor, h_faults]

@[simp] theorem State.assignCount_blank (h_channels : Group.channels ∈ w) (h_cmp : Group.cmp ∈ w) (h_faults : Group.faults ∈ w) (s : State) (n : Fin 4) (v : Int) :
    (State.assignCount s n v).blank w = s.blank w := by
  unfold State.assignCount
  simp only [State.cmpJump_blank, State.updChan_blank, blank_mk, eq_self, or_true, true_or, apply_ite (State.blank w), ite_self, foldl_blank, implies_true, h_channels, h_cmp, h_faults]

@[simp] theorem State.chanCount_blank (h_pins : Group.pins ∈ w) (h_channels : Group.channels ∈ w) (h_cmp : Group.cmp ∈ w) (h_divo : Group.divo ∈ w) (h_fab : Group.fab ∈ w) (h_faults : Group.faults ∈ w) (h_free : Group.free ∈ w) (s : State) (n : Fin 4) (d : Int) :
    (State.chanCount s n d).blank w = s.blank w := by
  unfold State.chanCount
  simp only [State.cmpCount_blank, State.divCount_blank, State.ev_blank, State.unref_blank, State.updChan_blank, blank_mk, eq_self, or_true, true_or, apply_ite (State.blank w), ite_self, foldl_blank, implies_true, h_pins, h_channels, h_cmp, h_divo, h_fab, h_faults, h_free]

@[simp] theorem State.reversal_blank (h_channels : Group.channels ∈ w) (h_fab : Group.fab ∈ w) (h_faults : Group.faults ∈ w) (h_free : Group.free ∈ w) (s : State) (n : Fin 4) (neg : Bool) (event : Bool) (T : Nat) :
    (State.reversal s n neg event T).blank w = s.blank w := by
  unfold State.reversal
  simp only [State.evFree_blank, State.updChan_blank, blank_mk, eq_self, or_true, true_or, apply_ite (State.blank w), ite_self, foldl_blank, implies_true, h_channels, h_fab, h_faults, h_free]

@[simp] theorem State.countDir_blank (h_channels : Group.channels ∈ w) (h_fab : Group.fab ∈ w) (h_faults : Group.faults ∈ w) (h_free : Group.free ∈ w) (s : State) (n : Fin 4) (d : Int) (T : Nat) :
    (State.countDir s n d T).blank w = s.blank w := by
  unfold State.countDir
  simp only [State.reversal_blank, State.updChan_blank, blank_mk, eq_self, or_true, true_or, apply_ite (State.blank w), ite_self, foldl_blank, implies_true, h_channels, h_fab, h_faults, h_free]

@[simp] theorem State.speedEdge_blank (h_channels : Group.channels ∈ w) (s : State) (n : Fin 4) (a2 : Nat) (T : Nat) :
    (State.speedEdge s n a2 T).blank w = s.blank w := by
  unfold State.speedEdge
  simp only [State.updChan_blank, blank_mk, eq_self, or_true, true_or, apply_ite (State.blank w), ite_self, foldl_blank, implies_true, h_channels]

@[simp] theorem execSpeedTimeout_blank (h_channels : Group.channels ∈ w) (n : Fin 4) (off : Nat) (s : State) :
    ran w (execSpeedTimeout n off s) = some (s.blank w) := by
  unfold execSpeedTimeout
  simp only [State.updChan_blank, blank_mk, eq_self, or_true, true_or, apply_ite (State.blank w), ite_self, foldl_blank, implies_true, ran_next, apply_ite (ran w), h_channels]

@[simp] theorem execSpeedGateEnd_blank (h_channels : Group.channels ∈ w) (h_fab : Group.fab ∈ w) (h_faults : Group.faults ∈ w) (n : Fin 4) (s : State) :
    ran w (execSpeedGateEnd n s) = some (s.blank w) := by
  unfold execSpeedGateEnd
  simp only [State.evIf_blank, State.updChan_blank, blank_mk, eq_self, or_true, true_or, apply_ite (State.blank w), ite_self, foldl_blank, implies_true, ran_next, apply_ite (ran w), h_channels, h_fab, h_faults]

@[simp] theorem State.illegal_blank (h_channels : Group.channels ∈ w) (h_fab : Group.fab ∈ w) (h_faults : Group.faults ∈ w) (h_free : Group.free ∈ w) (s : State) (n : Fin 4) :
    (State.illegal s n).blank w = s.blank w := by
  unfold State.illegal
  simp only [State.chanNote_blank, State.evFree_blank, State.unref_blank, State.updChan_blank, blank_mk, eq_self, or_true, true_or, apply_ite (State.blank w), ite_self, foldl_blank, implies_true, h_channels, h_fab, h_faults, h_free]

@[simp] theorem State.indexMissing_blank (h_channels : Group.channels ∈ w) (h_faults : Group.faults ∈ w) (s : State) (n : Fin 4) :
    (State.indexMissing s n).blank w = s.blank w := by
  unfold State.indexMissing
  simp only [State.chanCause_blank, State.unref_blank, State.updChan_blank, blank_mk, eq_self, or_true, true_or, apply_ite (State.blank w), ite_self, foldl_blank, implies_true, h_channels, h_faults]

@[simp] theorem State.indexEvent_blank (h_channels : Group.channels ∈ w) (h_cmp : Group.cmp ∈ w) (h_faults : Group.faults ∈ w) (h_free : Group.free ∈ w) (s : State) (n : Fin 4) :
    (State.indexEvent s n).blank w = s.blank w := by
  unfold State.indexEvent
  simp only [State.assignCount_blank, State.chanEnd_blank, State.chanNote_blank, State.refEvent_blank, State.updChan_blank, blank_mk, eq_self, or_true, true_or, apply_ite (State.blank w), ite_self, foldl_blank, implies_true, h_channels, h_cmp, h_faults, h_free]

@[simp] theorem State.hallEdge_blank (h_pins : Group.pins ∈ w) (h_channels : Group.channels ∈ w) (h_cmp : Group.cmp ∈ w) (h_divo : Group.divo ∈ w) (h_fab : Group.fab ∈ w) (h_faults : Group.faults ∈ w) (h_free : Group.free ∈ w) (s : State) (n : Fin 4) (code : Nat) (T : Nat) :
    (State.hallEdge s n code T).blank w = s.blank w := by
  unfold State.hallEdge
  dsimp only
  (repeat' split) <;> first | (simp only [State.chanCount_blank, State.chanEnd_blank, State.countDir_blank, State.illegal_blank, State.speedEdge_blank, State.updChan_blank, blank_mk, eq_self, or_true, true_or, apply_ite (State.blank w), ite_self, foldl_blank, implies_true, h_pins, h_channels, h_cmp, h_divo, h_fab, h_faults, h_free]; done)

@[simp] theorem execHallInvalidTimeout_blank (h_channels : Group.channels ∈ w) (h_faults : Group.faults ∈ w) (n : Fin 4) (us : Nat) (s : State) :
    ran w (execHallInvalidTimeout n us s) = some (s.blank w) := by
  unfold execHallInvalidTimeout
  simp only [State.chanCause_blank, blank_mk, eq_self, or_true, true_or, apply_ite (State.blank w), ite_self, foldl_blank, implies_true, ran_next, apply_ite (ran w), h_channels, h_faults]

@[simp] theorem State.tooth_blank (h_pins : Group.pins ∈ w) (h_channels : Group.channels ∈ w) (h_cmp : Group.cmp ∈ w) (h_divo : Group.divo ∈ w) (h_fab : Group.fab ∈ w) (h_faults : Group.faults ∈ w) (h_free : Group.free ∈ w) (s : State) (n : Fin 4) (neg : Bool) (T : Nat) :
    (State.tooth s n neg T).blank w = s.blank w := by
  unfold State.tooth
  simp only [State.assignCount_blank, State.chanCount_blank, State.chanNote_blank, State.refEvent_blank, State.reversal_blank, State.speedEdge_blank, State.unref_blank, State.updChan_blank, blank_mk, eq_self, or_true, true_or, apply_ite (State.blank w), ite_self, foldl_blank, implies_true, h_pins, h_channels, h_cmp, h_divo, h_fab, h_faults, h_free]

@[simp] theorem State.capture_blank (h_channels : Group.channels ∈ w) (s : State) (n : Fin 4) (rising : Bool) (off : Nat) :
    (State.capture s n rising off).blank w = s.blank w := by
  unfold State.capture
  simp only [State.updChan_blank, blank_mk, eq_self, or_true, true_or, apply_ite (State.blank w), ite_self, foldl_blank, implies_true, h_channels]

@[simp] theorem State.decodeQuad_blank (h_pins : Group.pins ∈ w) (h_channels : Group.channels ∈ w) (h_cmp : Group.cmp ∈ w) (h_divo : Group.divo ∈ w) (h_fab : Group.fab ∈ w) (h_faults : Group.faults ∈ w) (h_free : Group.free ∈ w) (s : State) (n : Fin 4) (c : ChannelSt) (a : Bool) (b : Bool) (z : Bool) (T : Nat) :
    (State.decodeQuad s n c a b z T).blank w = s.blank w := by
  unfold State.decodeQuad
  (repeat' split) <;> simp only [State.chanCount_blank, State.countDir_blank, State.illegal_blank, State.indexEvent_blank, State.indexMissing_blank, State.speedEdge_blank, blank_mk, eq_self, or_true, true_or, apply_ite (State.blank w), ite_self, foldl_blank, implies_true, h_pins, h_channels, h_cmp, h_divo, h_fab, h_faults, h_free]

@[simp] theorem State.decodePulse_blank (h_pins : Group.pins ∈ w) (h_channels : Group.channels ∈ w) (h_cmp : Group.cmp ∈ w) (h_divo : Group.divo ∈ w) (h_fab : Group.fab ∈ w) (h_faults : Group.faults ∈ w) (h_free : Group.free ∈ w) (s : State) (n : Fin 4) (b : Bool) (T : Nat) :
    (State.decodePulse s n b T).blank w = s.blank w := by
  unfold State.decodePulse
  simp only [State.chanCount_blank, State.reversal_blank, State.speedEdge_blank, State.updChan_blank, blank_mk, eq_self, or_true, true_or, apply_ite (State.blank w), ite_self, foldl_blank, implies_true, h_pins, h_channels, h_cmp, h_divo, h_fab, h_faults, h_free]

@[simp] theorem State.decodeLines_blank (h_pins : Group.pins ∈ w) (h_channels : Group.channels ∈ w) (h_cmp : Group.cmp ∈ w) (h_divo : Group.divo ∈ w) (h_fab : Group.fab ∈ w) (h_faults : Group.faults ∈ w) (h_free : Group.free ∈ w) (s : State) (n : Fin 4) (c : ChannelSt) (a : Bool) (b : Bool) (z : Bool) (T : Nat) (off : Nat) :
    (State.decodeLines s n c a b z T off).blank w = s.blank w := by
  unfold State.decodeLines
  (repeat' split) <;> simp only [State.decodePulse_blank, State.decodeQuad_blank, State.hallEdge_blank, State.tooth_blank, blank_mk, eq_self, or_true, true_or, apply_ite (State.blank w), ite_self, foldl_blank, implies_true, h_pins, h_channels, h_cmp, h_divo, h_fab, h_faults, h_free]

@[simp] theorem State.rejectLines_blank (h_pins : Group.pins ∈ w) (h_fab : Group.fab ∈ w) (h_faults : Group.faults ∈ w) (s : State) (n : Fin 4) (bad : Quad Bool) :
    (State.rejectLines s n bad).blank w = s.blank w := by
  unfold State.rejectLines
  simp only [State.bumpReject_blank, blank_mk, eq_self, or_true, true_or, apply_ite (State.blank w), ite_self, foldl_blank, implies_true, h_pins, h_fab, h_faults]

@[simp] theorem execFeedbackEdge_blank (h_pins : Group.pins ∈ w) (h_channels : Group.channels ∈ w) (h_cmp : Group.cmp ∈ w) (h_divo : Group.divo ∈ w) (h_fab : Group.fab ∈ w) (h_faults : Group.faults ∈ w) (h_free : Group.free ∈ w) (n : Fin 4) (lines : Quad (Option LineIn)) (off : Nat) (s : State) :
    ran w (execFeedbackEdge n lines off s) = some (s.blank w) := by
  unfold execFeedbackEdge
  simp only [State.capture_blank, State.decodeLines_blank, State.rejectLines_blank, State.updChan_blank, blank_mk, eq_self, or_true, true_or, apply_ite (State.blank w), ite_self, foldl_blank, implies_true, ran_next, apply_ite (ran w), h_pins, h_channels, h_cmp, h_divo, h_fab, h_faults, h_free]

@[simp] theorem State.ssiRead_blank (h_pins : Group.pins ∈ w) (h_channels : Group.channels ∈ w) (h_cmp : Group.cmp ∈ w) (h_divo : Group.divo ∈ w) (h_fab : Group.fab ∈ w) (h_faults : Group.faults ∈ w) (h_free : Group.free ∈ w) (s : State) (n : Fin 4) (failed : Bool) (field : Nat) (T : Nat) (p : Int) :
    (State.ssiRead s n failed field T p).blank w = s.blank w := by
  unfold State.ssiRead
  dsimp only
  (repeat' split) <;> first | (simp only [State.assignCount_blank, State.chanCause_blank, State.chanCount_blank, State.chanEnd_blank, State.evFree_blank, State.refEvent_blank, State.speedEdge_blank, State.unref_blank, State.updChan_blank, blank_mk, eq_self, or_true, true_or, apply_ite (State.blank w), ite_self, foldl_blank, implies_true, h_pins, h_channels, h_cmp, h_divo, h_fab, h_faults, h_free]; done)

theorem State.shiftAxis_blank (h_motion : Group.motion ∈ w) (h_channels : Group.channels ∈ w) (h_cmp : Group.cmp ∈ w) (h_sensor : Group.sensor ∈ w) (h_faults : Group.faults ∈ w) {s : State} {n : Fin 4} {d : Int} {t : State} (e : State.shiftAxis s n d = some t) :
    t.blank w = s.blank w := by
  unfold State.shiftAxis at e
  dsimp only at e
  (repeat' split at e) <;> simp only [Option.some.injEq, reduceCtorEq, Prod.mk.injEq] at e <;> (try subst e) <;> first | (simp only [State.rebaseAxis_blank, State.updMotion_blank, blank_mk, eq_self, or_true, true_or, apply_ite (State.blank w), ite_self, foldl_blank, implies_true, h_motion, h_channels, h_cmp, h_sensor, h_faults]; done)

@[simp] theorem State.shiftRef_blank (h_motion : Group.motion ∈ w) (h_channels : Group.channels ∈ w) (h_cmp : Group.cmp ∈ w) (h_sensor : Group.sensor ∈ w) (h_fab : Group.fab ∈ w) (h_faults : Group.faults ∈ w) (s : State) (n : Fin 4) (d : Int) (ev : Bool) :
    (State.shiftRef s n d ev).blank w = s.blank w := by
  unfold State.shiftRef
  (repeat' split) <;> first | (simp only [State.chanNote_blank, State.ev_blank, State.updMotion_blank, blank_mk, eq_self, or_true, true_or, apply_ite (State.blank w), ite_self, foldl_blank, implies_true, h_motion, h_channels, h_cmp, h_sensor, h_fab, h_faults]; done) | (have e' := State.shiftAxis_blank h_motion h_channels h_cmp h_sensor h_faults (by assumption); simp only [State.chanNote_blank, State.ev_blank, State.updMotion_blank, blank_mk, eq_self, or_true, true_or, apply_ite (State.blank w), ite_self, foldl_blank, implies_true, h_motion, h_channels, h_cmp, h_sensor, h_fab, h_faults, e'])

@[simp] theorem State.chanEvents_blank (h_motion : Group.motion ∈ w) (h_channels : Group.channels ∈ w) (h_cmp : Group.cmp ∈ w) (h_sensor : Group.sensor ∈ w) (h_fab : Group.fab ∈ w) (h_faults : Group.faults ∈ w) (s : State) (n : Fin 4) :
    (State.chanEvents s n).blank w = s.blank w := by
  unfold State.chanEvents
  extract_lets l s1
  have e : s1.blank w = s.blank w := by simp only [s1, State.chanNote_blank, State.shiftRef_blank, State.updChan_blank, blank_mk, eq_self, or_true, true_or, apply_ite (State.blank w), ite_self, foldl_blank, implies_true, h_motion, h_channels, h_cmp, h_sensor, h_fab, h_faults]
  split
  · exact e
  · have key : ∀ (l : List (Int × Int × Bool)) (f : State × Int → (Int × Int × Bool) → State × Int) (a : State × Int),
        (∀ a x, (f a x).1.blank w = a.1.blank w) → (l.foldl f a).1.blank w = a.1.blank w := by
      intro l f
      induction l with
      | nil => exact fun _ _ => rfl
      | cons x l ih => exact fun a h => (ih (f a x) h).trans (h a x)
    refine (key l _ (s1, 0) (fun a x => ?_)).trans e
    simp only [apply_ite Prod.fst, State.chanNote_blank, State.shiftRef_blank, State.updChan_blank, blank_mk, eq_self, or_true, true_or, apply_ite (State.blank w), ite_self, foldl_blank, implies_true, h_motion, h_channels, h_cmp, h_sensor, h_fab, h_faults]

@[simp] theorem State.alignNow_blank (h_channels : Group.channels ∈ w) (s : State) (n : Fin 4) :
    (State.alignNow s n).blank w = s.blank w := by
  unfold State.alignNow
  simp only [State.updChan_blank, blank_mk, eq_self, or_true, true_or, apply_ite (State.blank w), ite_self, foldl_blank, implies_true, h_channels]

@[simp] theorem State.chanReady_blank (h_motion : Group.motion ∈ w) (h_channels : Group.channels ∈ w) (h_cmp : Group.cmp ∈ w) (h_sensor : Group.sensor ∈ w) (h_fab : Group.fab ∈ w) (h_faults : Group.faults ∈ w) (s : State) (n : Fin 4) :
    (State.chanReady s n).blank w = s.blank w := by
  unfold State.chanReady
  simp only [State.alignNow_blank, State.shiftRef_blank, State.updChan_blank, blank_mk, eq_self, or_true, true_or, apply_ite (State.blank w), ite_self, foldl_blank, implies_true, h_motion, h_channels, h_cmp, h_sensor, h_fab, h_faults]

@[simp] theorem State.posError_blank (h_channels : Group.channels ∈ w) (s : State) (n : Fin 4) :
    (State.posError s n).blank w = s.blank w := by
  unfold State.posError
  simp only [State.updChan_blank, blank_mk, eq_self, or_true, true_or, apply_ite (State.blank w), ite_self, foldl_blank, implies_true, h_channels]

@[simp] theorem execRetainedIndexCheck_blank (h_motion : Group.motion ∈ w) (h_channels : Group.channels ∈ w) (h_cmp : Group.cmp ∈ w) (h_sensor : Group.sensor ∈ w) (h_fab : Group.fab ∈ w) (h_faults : Group.faults ∈ w) (n : Fin 4) (s : State) :
    ran w (execRetainedIndexCheck n s) = some (s.blank w) := by
  unfold execRetainedIndexCheck
  dsimp only
  (repeat' split) <;> first | (simp only [State.alignNow_blank, State.confirmIndex_blank, State.ev_blank, State.shiftRef_blank, State.updChan_blank, State.updMotion_blank, blank_mk, eq_self, or_true, true_or, apply_ite (State.blank w), ite_self, foldl_blank, implies_true, ran_next, apply_ite (ran w), h_motion, h_channels, h_cmp, h_sensor, h_fab, h_faults]; done)

@[simp] theorem State.chanBoundary_blank (h_motion : Group.motion ∈ w) (h_channels : Group.channels ∈ w) (h_cmp : Group.cmp ∈ w) (h_sensor : Group.sensor ∈ w) (h_fab : Group.fab ∈ w) (h_faults : Group.faults ∈ w) (s : State) (n : Fin 4) :
    (State.chanBoundary s n).blank w = s.blank w := by
  unfold State.chanBoundary
  dsimp only
  (repeat' split) <;> first | (simp only [State.alignNow_blank, State.assignCount_blank, State.chanEvents_blank, State.updChan_blank, blank_mk, eq_self, or_true, true_or, apply_ite (State.blank w), ite_self, foldl_blank, implies_true, h_motion, h_channels, h_cmp, h_sensor, h_fab, h_faults]; done)

@[simp] theorem State.chanSuper_blank (h_channels : Group.channels ∈ w) (s : State) (n : Fin 4) :
    (State.chanSuper s n).blank w = s.blank w := by
  unfold State.chanSuper
  simp only [State.updChan_blank, blank_mk, eq_self, or_true, true_or, apply_ite (State.blank w), ite_self, foldl_blank, implies_true, h_channels]

@[simp] theorem State.chanEnable_blank (h_pins : Group.pins ∈ w) (h_channels : Group.channels ∈ w) (h_cmp : Group.cmp ∈ w) (s : State) (n : Fin 4) :
    (State.chanEnable s n).blank w = s.blank w := by
  unfold State.chanEnable
  simp only [State.cmpEnable_blank, State.updChan_blank, blank_mk, eq_self, or_true, true_or, apply_ite (State.blank w), ite_self, foldl_blank, implies_true, h_pins, h_channels, h_cmp]

@[simp] theorem State.chanDisable_blank (h_pins : Group.pins ∈ w) (h_host : Group.host ∈ w) (h_intake : Group.intake ∈ w) (h_channels : Group.channels ∈ w) (h_cmp : Group.cmp ∈ w) (h_ports : Group.ports ∈ w) (h_fab : Group.fab ∈ w) (h_iso : Group.iso ∈ w) (h_faults : Group.faults ∈ w) (s : State) (n : Fin 4) :
    (State.chanDisable s n).blank w = s.blank w := by
  unfold State.chanDisable
  simp only [State.chanEnd_blank, State.cmpDisable_blank, State.updChan_blank, blank_mk, eq_self, or_true, true_or, apply_ite (State.blank w), ite_self, foldl_blank, implies_true, h_pins, h_host, h_intake, h_channels, h_cmp, h_ports, h_fab, h_iso, h_faults]

@[simp] theorem fbStatusSpec_blank (h_host : Group.host ∈ w) (h_intake : Group.intake ∈ w) (h_channels : Group.channels ∈ w) (h_ports : Group.ports ∈ w) (h_fab : Group.fab ∈ w) (h_iso : Group.iso ∈ w) (h_faults : Group.faults ∈ w) (s : State) (h : Nat) :
    (fbStatusSpec.start s h).blank w = s.blank w := by
  unfold fbStatusSpec
  simp only [State.doneWith_blank, State.updChan_blank, blank_mk, eq_self, or_true, true_or, apply_ite (State.blank w), ite_self, foldl_blank, implies_true, h_host, h_intake, h_channels, h_ports, h_fab, h_iso, h_faults]

@[simp] theorem fbStatusSpec_taken (s : State) (h : Nat) :
    (fbStatusSpec.taken s h).blank w = s.blank w := by simp only [fbStatusSpec]

@[simp] theorem execFbStatus_blank (h_host : Group.host ∈ w) (h_intake : Group.intake ∈ w) (h_channels : Group.channels ∈ w) (h_plan : Group.plan ∈ w) (h_ports : Group.ports ∈ w) (h_fab : Group.fab ∈ w) (h_iso : Group.iso ∈ w) (h_svc : Group.svc ∈ w) (h_faults : Group.faults ∈ w) (h : Fin 32) (s : State) :
    ran w (execFbStatus h s) = some (s.blank w) := by
  unfold execFbStatus
  simp only [fbStatusSpec_blank, takeRow_blank, blank_mk, eq_self, or_true, true_or, apply_ite (State.blank w), ite_self, foldl_blank, implies_true, ran_next, apply_ite (ran w), h_host, h_intake, h_channels, h_plan, h_ports, h_fab, h_iso, h_svc, h_faults, fbStatusSpec_taken]

@[simp] theorem fbSetCountSpec_blank (h_host : Group.host ∈ w) (h_intake : Group.intake ∈ w) (h_channels : Group.channels ∈ w) (h_ports : Group.ports ∈ w) (h_fab : Group.fab ∈ w) (h_iso : Group.iso ∈ w) (h_faults : Group.faults ∈ w) (s : State) (h : Nat) :
    (fbSetCountSpec.start s h).blank w = s.blank w := by
  unfold fbSetCountSpec
  simp only [State.doneWith_blank, State.updChan_blank, blank_mk, eq_self, or_true, true_or, apply_ite (State.blank w), ite_self, foldl_blank, implies_true, h_host, h_intake, h_channels, h_ports, h_fab, h_iso, h_faults]

@[simp] theorem fbSetCountSpec_taken (s : State) (h : Nat) :
    (fbSetCountSpec.taken s h).blank w = s.blank w := by simp only [fbSetCountSpec]

@[simp] theorem execFbSetCount_blank (h_host : Group.host ∈ w) (h_intake : Group.intake ∈ w) (h_channels : Group.channels ∈ w) (h_plan : Group.plan ∈ w) (h_ports : Group.ports ∈ w) (h_fab : Group.fab ∈ w) (h_iso : Group.iso ∈ w) (h_svc : Group.svc ∈ w) (h_faults : Group.faults ∈ w) (h : Fin 32) (s : State) :
    ran w (execFbSetCount h s) = some (s.blank w) := by
  unfold execFbSetCount
  simp only [fbSetCountSpec_blank, takeRow_blank, blank_mk, eq_self, or_true, true_or, apply_ite (State.blank w), ite_self, foldl_blank, implies_true, ran_next, apply_ite (ran w), h_host, h_intake, h_channels, h_plan, h_ports, h_fab, h_iso, h_svc, h_faults, fbSetCountSpec_taken]

end Sys2Proof.Machine
end

