-- ==== Sys2Proof/Laws/Follow.lean ====
section
/-! SUPPORT. The parts of the state that the operations of Machine/Follow.lean can change: all others keep their value. -/

namespace Sys2Proof.Machine

set_option linter.all false
set_option linter.unusedSimpArgs false

variable {w : List Group}

@[simp] theorem State.followUse_blank (h_follow : Group.follow ∈ w) (h_fab : Group.fab ∈ w) (h_faults : Group.faults ∈ w) (h_free : Group.free ∈ w) (s : State) (n : Fin 4) :
    (State.followUse s n).blank w = s.blank w := by
  unfold State.followUse
  dsimp only
  (repeat' split) <;> first | (simp only [State.evFree_blank, State.updFollow_blank, blank_mk, eq_self, or_true, true_or, apply_ite (State.blank w), ite_self, foldl_blank, implies_true, h_follow, h_fab, h_faults, h_free]; done)

@[simp] theorem State.followCond_blank (h_faults : Group.faults ∈ w) (s : State) :
    (State.followCond s).blank w = s.blank w := by
  unfold State.followCond
  simp only [State.condEnd_blank, blank_mk, eq_self, or_true, true_or, apply_ite (State.blank w), ite_self, foldl_blank, implies_true, h_faults]

@[simp] theorem State.followTake_blank (h_follow : Group.follow ∈ w) (h_faults : Group.faults ∈ w) (s : State) (n : Fin 4) :
    (State.followTake s n).blank w = s.blank w := by
  unfold State.followTake
  dsimp only
  (repeat' split) <;> first | (simp only [State.followCond_blank, State.noteEv_blank, State.raise_blank, State.updFollow_blank, blank_mk, eq_self, or_true, true_or, apply_ite (State.blank w), ite_self, foldl_blank, implies_true, h_follow, h_faults]; done)

@[simp] theorem State.followRamp_blank (h_motion : Group.motion ∈ w) (s : State) (n : Fin 4) (raw : Int) :
    (State.followRamp s n raw).blank w = s.blank w := by
  unfold State.followRamp
  simp only [State.ledgeNow_blank, State.setProfile_blank, State.updMotion_blank, blank_mk, eq_self, or_true, true_or, apply_ite (State.blank w), ite_self, foldl_blank, implies_true, h_motion]

@[simp] theorem State.followOff_blank (h_motion : Group.motion ∈ w) (s : State) (n : Fin 4) :
    (State.followOff s n).blank w = s.blank w := by
  unfold State.followOff
  simp only [State.followRamp_blank, blank_mk, eq_self, or_true, true_or, apply_ite (State.blank w), ite_self, foldl_blank, implies_true, h_motion]

@[simp] theorem State.followBoundary_blank (h_motion : Group.motion ∈ w) (h_follow : Group.follow ∈ w) (h_faults : Group.faults ∈ w) (s : State) (n : Fin 4) :
    (State.followBoundary s n).blank w = s.blank w := by
  unfold State.followBoundary
  dsimp only
  (repeat' split) <;> first | (simp only [State.followCond_blank, State.followOff_blank, State.followRamp_blank, State.rampToRest_blank, State.updFollow_blank, blank_mk, eq_self, or_true, true_or, apply_ite (State.blank w), ite_self, foldl_blank, implies_true, h_motion, h_follow, h_faults]; done)

@[simp] theorem followSpeedSpec_blank (h_intake : Group.intake ∈ w) (h_mon : Group.mon ∈ w) (h_fab : Group.fab ∈ w) (h_faults : Group.faults ∈ w) (s : State) (h : Nat) :
    (followSpeedSpec.start s h).blank w = s.blank w := by
  unfold followSpeedSpec
  simp only [startMotion_blank, blank_mk, eq_self, or_true, true_or, apply_ite (State.blank w), ite_self, foldl_blank, implies_true, h_intake, h_mon, h_fab, h_faults]

@[simp] theorem followSpeedSpec_taken (s : State) (h : Nat) :
    (followSpeedSpec.taken s h).blank w = s.blank w := by simp only [followSpeedSpec]

@[simp] theorem execFollowSpeed_blank (h_host : Group.host ∈ w) (h_intake : Group.intake ∈ w) (h_mon : Group.mon ∈ w) (h_plan : Group.plan ∈ w) (h_ports : Group.ports ∈ w) (h_fab : Group.fab ∈ w) (h_iso : Group.iso ∈ w) (h_svc : Group.svc ∈ w) (h_faults : Group.faults ∈ w) (h : Fin 32) (s : State) :
    ran w (execFollowSpeed h s) = some (s.blank w) := by
  unfold execFollowSpeed
  simp only [followSpeedSpec_blank, takeRow_blank, blank_mk, eq_self, or_true, true_or, apply_ite (State.blank w), ite_self, foldl_blank, implies_true, ran_next, apply_ite (ran w), h_host, h_intake, h_mon, h_plan, h_ports, h_fab, h_iso, h_svc, h_faults, followSpeedSpec_taken]

@[simp] theorem State.followEnter_blank (h_motion : Group.motion ∈ w) (s : State) (n : Fin 4) (x : Rat × Rat × Rat) (vt : Rat) :
    (State.followEnter s n x vt).blank w = s.blank w := by
  unfold State.followEnter
  simp only [State.ledgeNow_blank, State.setProfile_blank, blank_mk, eq_self, or_true, true_or, apply_ite (State.blank w), ite_self, foldl_blank, implies_true, h_motion]

@[simp] theorem actFollowSpeed_blank (h_host : Group.host ∈ w) (h_intake : Group.intake ∈ w) (h_params : Group.params ∈ w) (h_motion : Group.motion ∈ w) (h_wedge : Group.wedge ∈ w) (h_follow : Group.follow ∈ w) (h_plan : Group.plan ∈ w) (h_ports : Group.ports ∈ w) (h_fab : Group.fab ∈ w) (h_iso : Group.iso ∈ w) (h_faults : Group.faults ∈ w) (h : Nat) (s : State) :
    (actFollowSpeed h s).blank w = s.blank w := by
  unfold actFollowSpeed
  simp only [State.doneWith_blank, State.followCond_blank, State.followEnter_blank, State.followRamp_blank, State.takeOver_blank, State.updFollow_blank, State.updMotion_blank, blank_mk, eq_self, or_true, true_or, apply_ite (State.blank w), ite_self, foldl_blank, implies_true, h_host, h_intake, h_params, h_motion, h_wedge, h_follow, h_plan, h_ports, h_fab, h_iso, h_faults]

@[simp] theorem folStatusSpec_blank (h_host : Group.host ∈ w) (h_intake : Group.intake ∈ w) (h_ports : Group.ports ∈ w) (h_fab : Group.fab ∈ w) (h_iso : Group.iso ∈ w) (h_faults : Group.faults ∈ w) (s : State) (h : Nat) :
    (folStatusSpec.start s h).blank w = s.blank w := by
  unfold folStatusSpec
  simp only [State.doneWith_blank, blank_mk, eq_self, or_true, true_or, apply_ite (State.blank w), ite_self, foldl_blank, implies_true, h_host, h_intake, h_ports, h_fab, h_iso, h_faults]

@[simp] theorem folStatusSpec_taken (s : State) (h : Nat) :
    (folStatusSpec.taken s h).blank w = s.blank w := by simp only [folStatusSpec]

@[simp] theorem execFolStatus_blank (h_host : Group.host ∈ w) (h_intake : Group.intake ∈ w) (h_plan : Group.plan ∈ w) (h_ports : Group.ports ∈ w) (h_fab : Group.fab ∈ w) (h_iso : Group.iso ∈ w) (h_svc : Group.svc ∈ w) (h_faults : Group.faults ∈ w) (h : Fin 32) (s : State) :
    ran w (execFolStatus h s) = some (s.blank w) := by
  unfold execFolStatus
  simp only [folStatusSpec_blank, takeRow_blank, blank_mk, eq_self, or_true, true_or, apply_ite (State.blank w), ite_self, foldl_blank, implies_true, ran_next, apply_ite (ran w), h_host, h_intake, h_plan, h_ports, h_fab, h_iso, h_svc, h_faults, folStatusSpec_taken]

@[simp] theorem State.slotRead_blank (h_sensor : Group.sensor ∈ w) (h_faults : Group.faults ∈ w) (s : State) (k : Nat) (bits : List Bool) (whole : Nat) (T : Nat) :
    (State.slotRead s k bits whole T).blank w = s.blank w := by
  unfold State.slotRead
  simp only [State.noteEv_blank, blank_mk, eq_self, or_true, true_or, apply_ite (State.blank w), ite_self, foldl_blank, implies_true, h_sensor, h_faults]

@[simp] theorem State.splitRead_blank (h_sensor : Group.sensor ∈ w) (h_faults : Group.faults ∈ w) (s : State) (slots : List Nat) (bits : List Bool) (whole : Nat) (T : Nat) :
    (State.splitRead s slots bits whole T).blank w = s.blank w := by
  induction slots generalizing s bits with
  | nil => rfl
  | cons k r ih => exact (ih _ _).trans (by simp only [State.slotRead_blank, blank_mk, eq_self, or_true, true_or, apply_ite (State.blank w), ite_self, foldl_blank, implies_true, h_sensor, h_faults])

@[simp] theorem State.selectRead_blank (h_sensor : Group.sensor ∈ w) (h_faults : Group.faults ∈ w) (s : State) (j : Nat) (t : Nat) (l : List Bool) :
    (State.selectRead s j t l).blank w = s.blank w := by
  unfold State.selectRead
  simp only [State.splitRead_blank, blank_mk, eq_self, or_true, true_or, apply_ite (State.blank w), ite_self, foldl_blank, implies_true, h_sensor, h_faults]

@[simp] theorem State.readSelects_blank (h_sensor : Group.sensor ∈ w) (h_faults : Group.faults ∈ w) (s : State) (t : Nat) (a2 : List Nat) (a3 : List (List Bool)) :
    (State.readSelects s t a2 a3).blank w = s.blank w := by
  induction a2 generalizing s t a3 with
  | nil => rfl
  | cons j r ih => exact (ih _ _ _).trans (by simp only [State.selectRead_blank, blank_mk, eq_self, or_true, true_or, apply_ite (State.blank w), ite_self, foldl_blank, implies_true, h_sensor, h_faults])

@[simp] theorem execSensorPortRead_blank (h_sensor : Group.sensor ∈ w) (h_faults : Group.faults ∈ w) (reads : List (List Bool)) (s : State) :
    ran w (execSensorPortRead reads s) = some (s.blank w) := by
  unfold execSensorPortRead
  simp only [State.readSelects_blank, blank_mk, eq_self, or_true, true_or, apply_ite (State.blank w), ite_self, foldl_blank, implies_true, ran_next, apply_ite (ran w), h_sensor, h_faults]

@[simp] theorem State.sensorLatch_blank (h_sensor : Group.sensor ∈ w) (s : State) :
    (State.sensorLatch s).blank w = s.blank w := by
  unfold State.sensorLatch
  simp only [blank_mk, eq_self, or_true, true_or, apply_ite (State.blank w), ite_self, foldl_blank, implies_true, h_sensor]

@[simp] theorem State.sensorUse_blank (h_pins : Group.pins ∈ w) (h_channels : Group.channels ∈ w) (h_cmp : Group.cmp ∈ w) (h_divo : Group.divo ∈ w) (h_fab : Group.fab ∈ w) (h_faults : Group.faults ∈ w) (h_free : Group.free ∈ w) (s : State) :
    (State.sensorUse s).blank w = s.blank w := by
  refine forAxes_blank _ (fun n t => ?_) s
  (repeat' split) <;> simp only [State.ssiRead_blank, forAxes_blank, blank_mk, eq_self, or_true, true_or, apply_ite (State.blank w), ite_self, foldl_blank, implies_true, h_pins, h_channels, h_cmp, h_divo, h_fab, h_faults, h_free]

@[simp] theorem State.sensorEnable_blank (h_sensor : Group.sensor ∈ w) (s : State) :
    (State.sensorEnable s).blank w = s.blank w := by
  unfold State.sensorEnable
  simp only [blank_mk, eq_self, or_true, true_or, apply_ite (State.blank w), ite_self, foldl_blank, implies_true, h_sensor]

@[simp] theorem spStatusSpec_blank (h_host : Group.host ∈ w) (h_intake : Group.intake ∈ w) (h_ports : Group.ports ∈ w) (h_fab : Group.fab ∈ w) (h_iso : Group.iso ∈ w) (h_faults : Group.faults ∈ w) (s : State) (h : Nat) :
    (spStatusSpec.start s h).blank w = s.blank w := by
  unfold spStatusSpec
  simp only [State.doneWith_blank, blank_mk, eq_self, or_true, true_or, apply_ite (State.blank w), ite_self, foldl_blank, implies_true, h_host, h_intake, h_ports, h_fab, h_iso, h_faults]

@[simp] theorem spStatusSpec_taken (s : State) (h : Nat) :
    (spStatusSpec.taken s h).blank w = s.blank w := by simp only [spStatusSpec]

@[simp] theorem execSpStatus_blank (h_host : Group.host ∈ w) (h_intake : Group.intake ∈ w) (h_plan : Group.plan ∈ w) (h_ports : Group.ports ∈ w) (h_fab : Group.fab ∈ w) (h_iso : Group.iso ∈ w) (h_svc : Group.svc ∈ w) (h_faults : Group.faults ∈ w) (h : Fin 32) (s : State) :
    ran w (execSpStatus h s) = some (s.blank w) := by
  unfold execSpStatus
  simp only [spStatusSpec_blank, takeRow_blank, blank_mk, eq_self, or_true, true_or, apply_ite (State.blank w), ite_self, foldl_blank, implies_true, ran_next, apply_ite (ran w), h_host, h_intake, h_plan, h_ports, h_fab, h_iso, h_svc, h_faults, spStatusSpec_taken]

end Sys2Proof.Machine
end

