-- ==== Sys2Proof/Laws/Microstep.lean ====
section
/-! SUPPORT. The parts of the state that the operations of Machine/Microstep.lean can change: all others keep their value. -/

namespace Sys2Proof.Machine

set_option linter.all false
set_option linter.unusedSimpArgs false

variable {w : List Group}

@[simp] theorem State.stepDemand_blank (h_motion : Group.motion ∈ w) (h_fab : Group.fab ∈ w) (h_faults : Group.faults ∈ w) (s : State) (n : Fin 4) (up : Bool) (T : Nat) :
    (State.stepDemand s n up T).blank w = s.blank w := by
  unfold State.stepDemand
  simp only [State.evIf_blank, State.note_blank, State.updMotion_blank, blank_mk, eq_self, or_true, true_or, apply_ite (State.blank w), ite_self, foldl_blank, implies_true, h_motion, h_fab, h_faults]

@[simp] theorem State.stepSettle_blank (h_pins : Group.pins ∈ w) (h_motion : Group.motion ∈ w) (h_divo : Group.divo ∈ w) (h_fab : Group.fab ∈ w) (h_faults : Group.faults ∈ w) (h_free : Group.free ∈ w) (s : State) (n : Fin 4) (T : Nat) :
    (State.stepSettle s n T).blank w = s.blank w := by
  unfold State.stepSettle
  (repeat' split) <;> simp only [State.divCount_blank, State.stepDemand_blank, State.updMotion_blank, blank_mk, eq_self, or_true, true_or, apply_ite (State.blank w), ite_self, foldl_blank, implies_true, h_pins, h_motion, h_divo, h_fab, h_faults, h_free]

@[simp] theorem execStepPulse_blank (h_pins : Group.pins ∈ w) (h_motion : Group.motion ∈ w) (h_divo : Group.divo ∈ w) (h_fab : Group.fab ∈ w) (h_faults : Group.faults ∈ w) (h_free : Group.free ∈ w) (n : Fin 4) (off : Nat) (high : Nat) (dir : Bool) (changed : Bool) (s : State) :
    ran w (execStepPulse n off high dir changed s) = some (s.blank w) := by
  unfold execStepPulse
  simp only [State.bumpReject_blank, State.fresh_blank, State.stepSettle_blank, State.updMotion_blank, blank_mk, eq_self, or_true, true_or, apply_ite (State.blank w), ite_self, foldl_blank, implies_true, ran_next, apply_ite (ran w), h_pins, h_motion, h_divo, h_fab, h_faults, h_free]

@[simp] theorem State.stepBarred_blank (h_motion : Group.motion ∈ w) (h_fab : Group.fab ∈ w) (h_faults : Group.faults ∈ w) (s : State) (n : Fin 4) (d : Int) :
    (State.stepBarred s n d).blank w = s.blank w := by
  unfold State.stepBarred
  dsimp only
  (repeat' split) <;> first | (simp only [State.ev_blank, State.note_blank, State.updMotion_blank, blank_mk, eq_self, or_true, true_or, apply_ite (State.blank w), ite_self, foldl_blank, implies_true, h_motion, h_fab, h_faults]; done)

@[simp] theorem State.stepIssue_blank (h_pins : Group.pins ∈ w) (h_motion : Group.motion ∈ w) (h_cur : Group.cur ∈ w) (h_wedge : Group.wedge ∈ w) (h_cmp : Group.cmp ∈ w) (h_divo : Group.divo ∈ w) (h_fab : Group.fab ∈ w) (h_faults : Group.faults ∈ w) (h_free : Group.free ∈ w) (s : State) (n : Fin 4) (d : Int) (T : Nat) :
    (State.stepIssue s n d T).blank w = s.blank w := by
  unfold State.stepIssue
  simp only [State.cmpCount_blank, State.curMicro_blank, State.divCount_blank, State.evIf_blank, State.ledgeStep_blank, State.updMotion_blank, State.wedgeMicro_blank, blank_mk, eq_self, or_true, true_or, apply_ite (State.blank w), ite_self, foldl_blank, implies_true, h_pins, h_motion, h_cur, h_wedge, h_cmp, h_divo, h_fab, h_faults, h_free]

@[simp] theorem execMicrostep_blank (h_pins : Group.pins ∈ w) (h_motion : Group.motion ∈ w) (h_cur : Group.cur ∈ w) (h_wedge : Group.wedge ∈ w) (h_cmp : Group.cmp ∈ w) (h_divo : Group.divo ∈ w) (h_fab : Group.fab ∈ w) (h_faults : Group.faults ∈ w) (h_free : Group.free ∈ w) (n : Fin 4) (off : Nat) (s : State) :
    ran w (execMicrostep n off s) = some (s.blank w) := by
  unfold execMicrostep
  dsimp only
  (repeat' split) <;> first | (simp only [State.stepBarred_blank, State.stepIssue_blank, State.stepSettle_blank, blank_mk, eq_self, or_true, true_or, apply_ite (State.blank w), ite_self, foldl_blank, implies_true, ran_next, apply_ite (ran w), h_pins, h_motion, h_cur, h_wedge, h_cmp, h_divo, h_fab, h_faults, h_free]; done)

end Sys2Proof.Machine
end

