-- ==== Sys2Proof/Laws/Haul.lean ====
section
/-! SUPPORT. The parts of the state that the operations of Machine/Haul.lean can change: all others keep their value. -/

namespace Sys2Proof.Machine

set_option linter.all false
set_option linter.unusedSimpArgs false

variable {w : List Group}

@[simp] theorem State.updPlan_blank (h_plan : Group.plan ∈ w) (s : State) (f : PlanSt → PlanSt) :
    (State.updPlan s f).blank w = s.blank w := by
  unfold State.updPlan
  simp only [blank_mk, eq_self, or_true, true_or, apply_ite (State.blank w), ite_self, foldl_blank, implies_true, h_plan]

@[simp] theorem State.updRun_blank (h_plan : Group.plan ∈ w) (s : State) (f : Run → Run) :
    (State.updRun s f).blank w = s.blank w := by
  unfold State.updRun
  simp only [State.updPlan_blank, blank_mk, eq_self, or_true, true_or, apply_ite (State.blank w), ite_self, foldl_blank, implies_true, h_plan]

@[simp] theorem State.rmNode_blank (h_plan : Group.plan ∈ w) (h_fab : Group.fab ∈ w) (h_faults : Group.faults ∈ w) (h_free : Group.free ∈ w) (s : State) (q : List Int) :
    (State.rmNode s q).blank w = s.blank w := by
  unfold State.rmNode
  simp only [State.evFree_blank, State.updPlan_blank, blank_mk, eq_self, or_true, true_or, apply_ite (State.blank w), ite_self, foldl_blank, implies_true, h_plan, h_fab, h_faults, h_free]

@[simp] theorem State.rmEdge_blank (h_plan : Group.plan ∈ w) (s : State) (c : PlanCtx) (a : List Int) (b : List Int) :
    (State.rmEdge s c a b).blank w = s.blank w := by
  unfold State.rmEdge
  simp only [State.updPlan_blank, blank_mk, eq_self, or_true, true_or, apply_ite (State.blank w), ite_self, foldl_blank, implies_true, h_plan]

@[simp] theorem State.rmLearn_blank (h_plan : Group.plan ∈ w) (h_fab : Group.fab ∈ w) (h_faults : Group.faults ∈ w) (h_free : Group.free ∈ w) (s : State) (c : PlanCtx) (path : List (List Int)) :
    (State.rmLearn s c path).blank w = s.blank w := by
  unfold State.rmLearn
  simp only [State.rmEdge_blank, State.rmNode_blank, State.updPlan_blank, blank_mk, eq_self, or_true, true_or, apply_ite (State.blank w), ite_self, foldl_blank, implies_true, h_plan, h_fab, h_faults, h_free]

@[simp] theorem State.rmMaintain_blank (h_plan : Group.plan ∈ w) (s : State) :
    (State.rmMaintain s).blank w = s.blank w := by
  unfold State.rmMaintain
  (repeat' split) <;> simp only [State.updPlan_blank, blank_mk, eq_self, or_true, true_or, apply_ite (State.blank w), ite_self, foldl_blank, implies_true, h_plan]

@[simp] theorem State.queryEnds_blank (h_host : Group.host ∈ w) (h_intake : Group.intake ∈ w) (h_ports : Group.ports ∈ w) (h_fab : Group.fab ∈ w) (h_iso : Group.iso ∈ w) (h_faults : Group.faults ∈ w) (s : State) (q : Query) (status : Nat) (n : Nat) :
    (State.queryEnds s q status n).blank w = s.blank w := by
  unfold State.queryEnds
  simp only [State.doneWith_blank, blank_mk, eq_self, or_true, true_or, apply_ite (State.blank w), ite_self, foldl_blank, implies_true, h_host, h_intake, h_ports, h_fab, h_iso, h_faults]

@[simp] theorem State.dropActive_blank (h_host : Group.host ∈ w) (h_intake : Group.intake ∈ w) (h_plan : Group.plan ∈ w) (h_ports : Group.ports ∈ w) (h_fab : Group.fab ∈ w) (h_iso : Group.iso ∈ w) (h_faults : Group.faults ∈ w) (h_free : Group.free ∈ w) (s : State) (status : Nat) :
    (State.dropActive s status).blank w = s.blank w := by
  unfold State.dropActive
  (repeat' split) <;> simp only [State.fresh_blank, State.queryEnds_blank, State.updPlan_blank, blank_mk, eq_self, or_true, true_or, apply_ite (State.blank w), ite_self, foldl_blank, implies_true, h_host, h_intake, h_plan, h_ports, h_fab, h_iso, h_faults, h_free]

@[simp] theorem State.abortQueries_blank (h_host : Group.host ∈ w) (h_intake : Group.intake ∈ w) (h_plan : Group.plan ∈ w) (h_ports : Group.ports ∈ w) (h_fab : Group.fab ∈ w) (h_iso : Group.iso ∈ w) (h_faults : Group.faults ∈ w) (h_free : Group.free ∈ w) (s : State) :
    (State.abortQueries s).blank w = s.blank w := by
  unfold State.abortQueries
  simp only [State.dropActive_blank, State.queryEnds_blank, State.updPlan_blank, blank_mk, eq_self, or_true, true_or, apply_ite (State.blank w), ite_self, foldl_blank, implies_true, h_host, h_intake, h_plan, h_ports, h_fab, h_iso, h_faults, h_free]

@[simp] theorem execQueryActivation_blank (h_host : Group.host ∈ w) (h_intake : Group.intake ∈ w) (h_plan : Group.plan ∈ w) (h_ports : Group.ports ∈ w) (h_fab : Group.fab ∈ w) (h_iso : Group.iso ∈ w) (h_svc : Group.svc ∈ w) (h_faults : Group.faults ∈ w) (s : State) :
    ran w (execQueryActivation s) = some (s.blank w) := by
  unfold execQueryActivation
  dsimp only
  (repeat' split) <;> first | (simp only [State.queryEnds_blank, State.settle_blank, State.updPlan_blank, blank_mk, eq_self, or_true, true_or, apply_ite (State.blank w), ite_self, foldl_blank, implies_true, ran_next, apply_ite (ran w), h_host, h_intake, h_plan, h_ports, h_fab, h_iso, h_svc, h_faults]; done)

@[simp] theorem execQueryEnd_blank (h_host : Group.host ∈ w) (h_intake : Group.intake ∈ w) (h_plan : Group.plan ∈ w) (h_ports : Group.ports ∈ w) (h_fab : Group.fab ∈ w) (h_iso : Group.iso ∈ w) (h_svc : Group.svc ∈ w) (h_faults : Group.faults ∈ w) (h_free : Group.free ∈ w) (s : State) :
    ran w (execQueryEnd s) = some (s.blank w) := by
  unfold execQueryEnd
  (repeat' split) <;> simp only [State.doneWith_blank, State.queryEnds_blank, State.rmLearn_blank, State.settle_blank, State.updPlan_blank, blank_mk, eq_self, or_true, true_or, apply_ite (State.blank w), ite_self, foldl_blank, implies_true, ran_next, apply_ite (ran w), h_host, h_intake, h_plan, h_ports, h_fab, h_iso, h_svc, h_faults, h_free]

@[simp] theorem execQueryDeadline_blank (h_host : Group.host ∈ w) (h_intake : Group.intake ∈ w) (h_plan : Group.plan ∈ w) (h_ports : Group.ports ∈ w) (h_fab : Group.fab ∈ w) (h_iso : Group.iso ∈ w) (h_svc : Group.svc ∈ w) (h_faults : Group.faults ∈ w) (h_free : Group.free ∈ w) (s : State) :
    ran w (execQueryDeadline s) = some (s.blank w) := by
  unfold execQueryDeadline
  (repeat' split) <;> simp only [State.dropActive_blank, State.raiseFree_blank, State.settle_blank, blank_mk, eq_self, or_true, true_or, apply_ite (State.blank w), ite_self, foldl_blank, implies_true, ran_next, apply_ite (ran w), h_host, h_intake, h_plan, h_ports, h_fab, h_iso, h_svc, h_faults, h_free]

@[simp] theorem planQuerySpec_blank (h_plan : Group.plan ∈ w) (s : State) (h : Nat) :
    (planQuerySpec.start s h).blank w = s.blank w := by
  unfold planQuerySpec
  simp only [State.updPlan_blank, blank_mk, eq_self, or_true, true_or, apply_ite (State.blank w), ite_self, foldl_blank, implies_true, h_plan]

@[simp] theorem planQuerySpec_taken (s : State) (h : Nat) :
    (planQuerySpec.taken s h).blank w = s.blank w := by simp only [planQuerySpec]

@[simp] theorem execPlanQuery_blank (h_host : Group.host ∈ w) (h_intake : Group.intake ∈ w) (h_plan : Group.plan ∈ w) (h_ports : Group.ports ∈ w) (h_fab : Group.fab ∈ w) (h_iso : Group.iso ∈ w) (h_svc : Group.svc ∈ w) (h_faults : Group.faults ∈ w) (h : Fin 32) (s : State) :
    ran w (execPlanQuery h s) = some (s.blank w) := by
  unfold execPlanQuery
  simp only [planQuerySpec_blank, takeRow_blank, blank_mk, eq_self, or_true, true_or, apply_ite (State.blank w), ite_self, foldl_blank, implies_true, ran_next, apply_ite (ran w), h_host, h_intake, h_plan, h_ports, h_fab, h_iso, h_svc, h_faults, planQuerySpec_taken]

@[simp] theorem State.loadSegment_blank (h_motion : Group.motion ∈ w) (h_plan : Group.plan ∈ w) (s : State) (c : Chain) (rd : Road) (i : Nat) :
    (State.loadSegment s c rd i).blank w = s.blank w := by
  unfold State.loadSegment
  simp only [State.setProfile_blank, State.updMotion_blank, State.updRun_blank, blank_mk, eq_self, or_true, true_or, apply_ite (State.blank w), ite_self, foldl_blank, implies_true, h_motion, h_plan]

@[simp] theorem State.runEnds_blank (h_host : Group.host ∈ w) (h_intake : Group.intake ∈ w) (h_motion : Group.motion ∈ w) (h_plan : Group.plan ∈ w) (h_ports : Group.ports ∈ w) (h_fab : Group.fab ∈ w) (h_iso : Group.iso ∈ w) (h_faults : Group.faults ∈ w) (s : State) (code : Nat) (detail : Nat) (status : Nat) :
    (State.runEnds s code detail status).blank w = s.blank w := by
  unfold State.runEnds
  simp only [State.endRun_blank, State.updMotion_blank, forAxes_blank, blank_mk, eq_self, or_true, true_or, apply_ite (State.blank w), ite_self, foldl_blank, implies_true, h_host, h_intake, h_motion, h_plan, h_ports, h_fab, h_iso, h_faults]

@[simp] theorem State.runStops_blank (h_host : Group.host ∈ w) (h_intake : Group.intake ∈ w) (h_plan : Group.plan ∈ w) (h_ports : Group.ports ∈ w) (h_fab : Group.fab ∈ w) (h_iso : Group.iso ∈ w) (h_svc : Group.svc ∈ w) (h_faults : Group.faults ∈ w) (s : State) (status : Nat) (seq : Nat) :
    (State.runStops s status seq).blank w = s.blank w := by
  unfold State.runStops
  (repeat' split) <;> simp only [State.refuse_blank, State.updRun_blank, blank_mk, eq_self, or_true, true_or, apply_ite (State.blank w), ite_self, foldl_blank, implies_true, h_host, h_intake, h_plan, h_ports, h_fab, h_iso, h_svc, h_faults]

@[simp] theorem State.runRamp_blank (h_plan : Group.plan ∈ w) (s : State) :
    (State.runRamp s).blank w = s.blank w := by
  unfold State.runRamp
  simp only [State.updRun_blank, blank_mk, eq_self, or_true, true_or, apply_ite (State.blank w), ite_self, foldl_blank, implies_true, h_plan]

@[simp] theorem State.runClock_blank (h_plan : Group.plan ∈ w) (h_twin : Group.twin ∈ w) (s : State) (len : Nat) :
    (State.runClock s len).blank w = s.blank w := by
  unfold State.runClock
  simp only [State.updRun_blank, blank_mk, eq_self, or_true, true_or, apply_ite (State.blank w), ite_self, foldl_blank, implies_true, h_plan, h_twin]

@[simp] theorem State.runGen_blank (h_plan : Group.plan ∈ w) (s : State) :
    (State.runGen s).blank w = s.blank w := by
  unfold State.runGen
  simp only [State.updRun_blank, blank_mk, eq_self, or_true, true_or, apply_ite (State.blank w), ite_self, foldl_blank, implies_true, h_plan]

@[simp] theorem State.runBoundary_blank (h_host : Group.host ∈ w) (h_intake : Group.intake ∈ w) (h_motion : Group.motion ∈ w) (h_plan : Group.plan ∈ w) (h_ports : Group.ports ∈ w) (h_fab : Group.fab ∈ w) (h_iso : Group.iso ∈ w) (h_faults : Group.faults ∈ w) (s : State) :
    (State.runBoundary s).blank w = s.blank w := by
  unfold State.runBoundary
  (repeat' split) <;> simp only [State.runEnds_blank, State.updRun_blank, blank_mk, eq_self, or_true, true_or, apply_ite (State.blank w), ite_self, foldl_blank, implies_true, h_host, h_intake, h_motion, h_plan, h_ports, h_fab, h_iso, h_faults]

@[simp] theorem execHaulSegmentStart_blank (h_motion : Group.motion ∈ w) (h_cur : Group.cur ∈ w) (h_wedge : Group.wedge ∈ w) (h_gate : Group.gate ∈ w) (h_plan : Group.plan ∈ w) (h_faults : Group.faults ∈ w) (h_free : Group.free ∈ w) (ready : Bool) (s : State) :
    ran w (execHaulSegmentStart ready s) = some (s.blank w) := by
  unfold execHaulSegmentStart
  (repeat' split) <;> simp only [State.curBoundary_blank, State.loadSegment_blank, State.raiseFree_blank, State.updCur_blank, State.updMotion_blank, State.updRun_blank, blank_mk, eq_self, or_true, true_or, apply_ite (State.blank w), ite_self, foldl_blank, implies_true, ran_next, apply_ite (ran w), h_motion, h_cur, h_wedge, h_gate, h_plan, h_faults, h_free]

@[simp] theorem execHaulClockRampEnd_blank (h_host : Group.host ∈ w) (h_intake : Group.intake ∈ w) (h_motion : Group.motion ∈ w) (h_plan : Group.plan ∈ w) (h_ports : Group.ports ∈ w) (h_fab : Group.fab ∈ w) (h_iso : Group.iso ∈ w) (h_svc : Group.svc ∈ w) (h_faults : Group.faults ∈ w) (s : State) :
    ran w (execHaulClockRampEnd s) = some (s.blank w) := by
  unfold execHaulClockRampEnd
  (repeat' split) <;> simp only [State.doneWith_blank, State.runEnds_blank, State.settle_blank, State.updRun_blank, blank_mk, eq_self, or_true, true_or, apply_ite (State.blank w), ite_self, foldl_blank, implies_true, ran_next, apply_ite (ran w), h_host, h_intake, h_motion, h_plan, h_ports, h_fab, h_iso, h_svc, h_faults]

@[simp] theorem State.runGo_blank (h_intake : Group.intake ∈ w) (h_mon : Group.mon ∈ w) (h_plan : Group.plan ∈ w) (h_fab : Group.fab ∈ w) (h_faults : Group.faults ∈ w) (s : State) (h : Nat) :
    (State.runGo s h).blank w = s.blank w := by
  unfold State.runGo
  simp only [State.brakeWait_blank, State.lateStart_blank, State.setHop_blank, State.setProg_blank, State.updRun_blank, blank_mk, eq_self, or_true, true_or, apply_ite (State.blank w), ite_self, foldl_blank, implies_true, h_intake, h_mon, h_plan, h_fab, h_faults]

@[simp] theorem execRunStartCheckDone_blank (h_host : Group.host ∈ w) (h_intake : Group.intake ∈ w) (h_mon : Group.mon ∈ w) (h_plan : Group.plan ∈ w) (h_ports : Group.ports ∈ w) (h_fab : Group.fab ∈ w) (h_iso : Group.iso ∈ w) (h_svc : Group.svc ∈ w) (h_faults : Group.faults ∈ w) (h_free : Group.free ∈ w) (s : State) :
    ran w (execRunStartCheckDone s) = some (s.blank w) := by
  unfold execRunStartCheckDone
  (repeat' split) <;> simp only [State.evFree_blank, State.refuse_blank, State.runGo_blank, State.settle_blank, State.updRun_blank, blank_mk, eq_self, or_true, true_or, apply_ite (State.blank w), ite_self, foldl_blank, implies_true, ran_next, apply_ite (ran w), h_host, h_intake, h_mon, h_plan, h_ports, h_fab, h_iso, h_svc, h_faults, h_free]

@[simp] theorem execRunRecheckDone_blank (h_host : Group.host ∈ w) (h_intake : Group.intake ∈ w) (h_plan : Group.plan ∈ w) (h_ports : Group.ports ∈ w) (h_fab : Group.fab ∈ w) (h_iso : Group.iso ∈ w) (h_svc : Group.svc ∈ w) (h_faults : Group.faults ∈ w) (h_free : Group.free ∈ w) (s : State) :
    ran w (execRunRecheckDone s) = some (s.blank w) := by
  unfold execRunRecheckDone
  (repeat' split) <;> simp only [State.evFree_blank, State.noteEvFree_blank, State.noteFree_blank, State.runStops_blank, State.updRun_blank, blank_mk, eq_self, or_true, true_or, apply_ite (State.blank w), ite_self, foldl_blank, implies_true, ran_next, apply_ite (ran w), h_host, h_intake, h_plan, h_ports, h_fab, h_iso, h_svc, h_faults, h_free]

@[simp] theorem execRunHoldTimeout_blank (h_host : Group.host ∈ w) (h_intake : Group.intake ∈ w) (h_plan : Group.plan ∈ w) (h_ports : Group.ports ∈ w) (h_fab : Group.fab ∈ w) (h_iso : Group.iso ∈ w) (h_svc : Group.svc ∈ w) (h_faults : Group.faults ∈ w) (h_free : Group.free ∈ w) (s : State) :
    ran w (execRunHoldTimeout s) = some (s.blank w) := by
  unfold execRunHoldTimeout
  (repeat' split) <;> simp only [State.evFree_blank, State.runStops_blank, blank_mk, eq_self, or_true, true_or, apply_ite (State.blank w), ite_self, foldl_blank, implies_true, ran_next, apply_ite (ran w), h_host, h_intake, h_plan, h_ports, h_fab, h_iso, h_svc, h_faults, h_free]

@[simp] theorem State.runEdit_blank (h_host : Group.host ∈ w) (h_intake : Group.intake ∈ w) (h_plan : Group.plan ∈ w) (h_ports : Group.ports ∈ w) (h_fab : Group.fab ∈ w) (h_iso : Group.iso ∈ w) (h_svc : Group.svc ∈ w) (h_faults : Group.faults ∈ w) (s : State) (box : Box) :
    (State.runEdit s box).blank w = s.blank w := by
  unfold State.runEdit
  (repeat' split) <;> simp only [State.ev_blank, State.runRamp_blank, State.runStops_blank, State.updRun_blank, blank_mk, eq_self, or_true, true_or, apply_ite (State.blank w), ite_self, foldl_blank, implies_true, h_host, h_intake, h_plan, h_ports, h_fab, h_iso, h_svc, h_faults]

@[simp] theorem planRunSpec_blank (h_intake : Group.intake ∈ w) (h_mon : Group.mon ∈ w) (h_plan : Group.plan ∈ w) (h_fab : Group.fab ∈ w) (h_faults : Group.faults ∈ w) (s : State) (h : Nat) :
    (planRunSpec.start s h).blank w = s.blank w := by
  unfold planRunSpec
  simp only [State.runGo_blank, State.setHop_blank, State.setProg_blank, State.updPlan_blank, blank_mk, eq_self, or_true, true_or, apply_ite (State.blank w), ite_self, foldl_blank, implies_true, h_intake, h_mon, h_plan, h_fab, h_faults]

@[simp] theorem planRunSpec_taken (s : State) (h : Nat) :
    (planRunSpec.taken s h).blank w = s.blank w := by simp only [planRunSpec]

@[simp] theorem execPlanRun_blank (h_host : Group.host ∈ w) (h_intake : Group.intake ∈ w) (h_mon : Group.mon ∈ w) (h_plan : Group.plan ∈ w) (h_ports : Group.ports ∈ w) (h_fab : Group.fab ∈ w) (h_iso : Group.iso ∈ w) (h_svc : Group.svc ∈ w) (h_faults : Group.faults ∈ w) (h : Fin 32) (s : State) :
    ran w (execPlanRun h s) = some (s.blank w) := by
  unfold execPlanRun
  simp only [planRunSpec_blank, takeRow_blank, blank_mk, eq_self, or_true, true_or, apply_ite (State.blank w), ite_self, foldl_blank, implies_true, ran_next, apply_ite (ran w), h_host, h_intake, h_mon, h_plan, h_ports, h_fab, h_iso, h_svc, h_faults, planRunSpec_taken]

@[simp] theorem actPlanRun_blank (h_motion : Group.motion ∈ w) (h_plan : Group.plan ∈ w) (h : Nat) (s : State) :
    (actPlanRun h s).blank w = s.blank w := by
  unfold actPlanRun
  (repeat' split) <;> simp only [State.loadSegment_blank, State.updMotion_blank, blank_mk, eq_self, or_true, true_or, apply_ite (State.blank w), ite_self, foldl_blank, implies_true, h_motion, h_plan]

@[simp] theorem State.waitLam_blank (h_plan : Group.plan ∈ w) (s : State) (h : Nat) (op : Nat) :
    (State.waitLam s h op).blank w = s.blank w := by
  unfold State.waitLam
  simp only [State.updRun_blank, blank_mk, eq_self, or_true, true_or, apply_ite (State.blank w), ite_self, foldl_blank, implies_true, h_plan]

@[simp] theorem planStopSpec_blank (h_host : Group.host ∈ w) (h_intake : Group.intake ∈ w) (h_plan : Group.plan ∈ w) (h_ports : Group.ports ∈ w) (h_fab : Group.fab ∈ w) (h_iso : Group.iso ∈ w) (h_svc : Group.svc ∈ w) (h_faults : Group.faults ∈ w) (s : State) (h : Nat) :
    (planStopSpec.start s h).blank w = s.blank w := by
  unfold planStopSpec
  dsimp only
  (repeat' split) <;> first | (simp only [State.doneWith_blank, State.runStops_blank, State.waitLam_blank, blank_mk, eq_self, or_true, true_or, apply_ite (State.blank w), ite_self, foldl_blank, implies_true, h_host, h_intake, h_plan, h_ports, h_fab, h_iso, h_svc, h_faults]; done)

@[simp] theorem planStopSpec_taken (s : State) (h : Nat) :
    (planStopSpec.taken s h).blank w = s.blank w := by simp only [planStopSpec]

@[simp] theorem execPlanStop_blank (h_host : Group.host ∈ w) (h_intake : Group.intake ∈ w) (h_plan : Group.plan ∈ w) (h_ports : Group.ports ∈ w) (h_fab : Group.fab ∈ w) (h_iso : Group.iso ∈ w) (h_svc : Group.svc ∈ w) (h_faults : Group.faults ∈ w) (h : Fin 32) (s : State) :
    ran w (execPlanStop h s) = some (s.blank w) := by
  unfold execPlanStop
  simp only [planStopSpec_blank, takeRow_blank, blank_mk, eq_self, or_true, true_or, apply_ite (State.blank w), ite_self, foldl_blank, implies_true, ran_next, apply_ite (ran w), h_host, h_intake, h_plan, h_ports, h_fab, h_iso, h_svc, h_faults, planStopSpec_taken]

@[simp] theorem planHoldSpec_blank (h_host : Group.host ∈ w) (h_intake : Group.intake ∈ w) (h_plan : Group.plan ∈ w) (h_ports : Group.ports ∈ w) (h_fab : Group.fab ∈ w) (h_iso : Group.iso ∈ w) (h_faults : Group.faults ∈ w) (s : State) (h : Nat) :
    (planHoldSpec.start s h).blank w = s.blank w := by
  unfold planHoldSpec
  dsimp only
  (repeat' split) <;> first | (simp only [State.doneWith_blank, State.noteEv_blank, State.updRun_blank, State.waitLam_blank, blank_mk, eq_self, or_true, true_or, apply_ite (State.blank w), ite_self, foldl_blank, implies_true, h_host, h_intake, h_plan, h_ports, h_fab, h_iso, h_faults]; done)

@[simp] theorem planHoldSpec_taken (s : State) (h : Nat) :
    (planHoldSpec.taken s h).blank w = s.blank w := by simp only [planHoldSpec]

@[simp] theorem execPlanHold_blank (h_host : Group.host ∈ w) (h_intake : Group.intake ∈ w) (h_plan : Group.plan ∈ w) (h_ports : Group.ports ∈ w) (h_fab : Group.fab ∈ w) (h_iso : Group.iso ∈ w) (h_svc : Group.svc ∈ w) (h_faults : Group.faults ∈ w) (h : Fin 32) (s : State) :
    ran w (execPlanHold h s) = some (s.blank w) := by
  unfold execPlanHold
  simp only [planHoldSpec_blank, takeRow_blank, blank_mk, eq_self, or_true, true_or, apply_ite (State.blank w), ite_self, foldl_blank, implies_true, ran_next, apply_ite (ran w), h_host, h_intake, h_plan, h_ports, h_fab, h_iso, h_svc, h_faults, planHoldSpec_taken]

@[simp] theorem planResumeSpec_blank (h_host : Group.host ∈ w) (h_intake : Group.intake ∈ w) (h_plan : Group.plan ∈ w) (h_ports : Group.ports ∈ w) (h_fab : Group.fab ∈ w) (h_iso : Group.iso ∈ w) (h_faults : Group.faults ∈ w) (h_free : Group.free ∈ w) (s : State) (h : Nat) :
    (planResumeSpec.start s h).blank w = s.blank w := by
  unfold planResumeSpec
  dsimp only
  (repeat' split) <;> first | (simp only [State.doneWith_blank, State.noteEvFree_blank, State.updRun_blank, State.waitLam_blank, blank_mk, eq_self, or_true, true_or, apply_ite (State.blank w), ite_self, foldl_blank, implies_true, h_host, h_intake, h_plan, h_ports, h_fab, h_iso, h_faults, h_free]; done)

@[simp] theorem planResumeSpec_taken (s : State) (h : Nat) :
    (planResumeSpec.taken s h).blank w = s.blank w := by simp only [planResumeSpec]

@[simp] theorem execPlanResume_blank (h_host : Group.host ∈ w) (h_intake : Group.intake ∈ w) (h_plan : Group.plan ∈ w) (h_ports : Group.ports ∈ w) (h_fab : Group.fab ∈ w) (h_iso : Group.iso ∈ w) (h_svc : Group.svc ∈ w) (h_faults : Group.faults ∈ w) (h_free : Group.free ∈ w) (h : Fin 32) (s : State) :
    ran w (execPlanResume h s) = some (s.blank w) := by
  unfold execPlanResume
  simp only [planResumeSpec_blank, takeRow_blank, blank_mk, eq_self, or_true, true_or, apply_ite (State.blank w), ite_self, foldl_blank, implies_true, ran_next, apply_ite (ran w), h_host, h_intake, h_plan, h_ports, h_fab, h_iso, h_svc, h_faults, h_free, planResumeSpec_taken]

@[simp] theorem mapEditSpec_blank (h_plan : Group.plan ∈ w) (a0 : Nat) (s : State) (h : Nat) :
    ((mapEditSpec a0).start s h).blank w = s.blank w := by
  unfold mapEditSpec
  simp only [State.updPlan_blank, blank_mk, eq_self, or_true, true_or, apply_ite (State.blank w), ite_self, foldl_blank, implies_true, h_plan]

@[simp] theorem mapEditSpec_taken (a0 : Nat) (s : State) (h : Nat) :
    ((mapEditSpec a0).taken s h).blank w = s.blank w := by simp only [mapEditSpec]

@[simp] theorem execMapEditOccupy_blank (h_host : Group.host ∈ w) (h_intake : Group.intake ∈ w) (h_plan : Group.plan ∈ w) (h_ports : Group.ports ∈ w) (h_fab : Group.fab ∈ w) (h_iso : Group.iso ∈ w) (h_svc : Group.svc ∈ w) (h_faults : Group.faults ∈ w) (h : Fin 32) (s : State) :
    ran w (execMapEditOccupy h s) = some (s.blank w) := by
  unfold execMapEditOccupy
  simp only [mapEditSpec_blank, takeRow_blank, blank_mk, eq_self, or_true, true_or, apply_ite (State.blank w), ite_self, foldl_blank, implies_true, ran_next, apply_ite (ran w), h_host, h_intake, h_plan, h_ports, h_fab, h_iso, h_svc, h_faults, mapEditSpec_taken]

@[simp] theorem execMapEditFree_blank (h_host : Group.host ∈ w) (h_intake : Group.intake ∈ w) (h_plan : Group.plan ∈ w) (h_ports : Group.ports ∈ w) (h_fab : Group.fab ∈ w) (h_iso : Group.iso ∈ w) (h_svc : Group.svc ∈ w) (h_faults : Group.faults ∈ w) (h : Fin 32) (s : State) :
    ran w (execMapEditFree h s) = some (s.blank w) := by
  unfold execMapEditFree
  simp only [mapEditSpec_blank, takeRow_blank, blank_mk, eq_self, or_true, true_or, apply_ite (State.blank w), ite_self, foldl_blank, implies_true, ran_next, apply_ite (ran w), h_host, h_intake, h_plan, h_ports, h_fab, h_iso, h_svc, h_faults, mapEditSpec_taken]

@[simp] theorem execMapEditClear_blank (h_host : Group.host ∈ w) (h_intake : Group.intake ∈ w) (h_plan : Group.plan ∈ w) (h_ports : Group.ports ∈ w) (h_fab : Group.fab ∈ w) (h_iso : Group.iso ∈ w) (h_svc : Group.svc ∈ w) (h_faults : Group.faults ∈ w) (h : Fin 32) (s : State) :
    ran w (execMapEditClear h s) = some (s.blank w) := by
  unfold execMapEditClear
  simp only [mapEditSpec_blank, takeRow_blank, blank_mk, eq_self, or_true, true_or, apply_ite (State.blank w), ite_self, foldl_blank, implies_true, ran_next, apply_ite (ran w), h_host, h_intake, h_plan, h_ports, h_fab, h_iso, h_svc, h_faults, mapEditSpec_taken]

@[simp] theorem mapMarkSpec_blank (h_plan : Group.plan ∈ w) (a0 : Nat) (a1 : Bool) (s : State) (h : Nat) :
    ((mapMarkSpec a0 a1).start s h).blank w = s.blank w := by
  unfold mapMarkSpec
  simp only [State.updPlan_blank, blank_mk, eq_self, or_true, true_or, apply_ite (State.blank w), ite_self, foldl_blank, implies_true, h_plan]

@[simp] theorem mapMarkSpec_taken (a0 : Nat) (a1 : Bool) (s : State) (h : Nat) :
    ((mapMarkSpec a0 a1).taken s h).blank w = s.blank w := by simp only [mapMarkSpec]

@[simp] theorem execMapEditMarkValid_blank (h_host : Group.host ∈ w) (h_intake : Group.intake ∈ w) (h_plan : Group.plan ∈ w) (h_ports : Group.ports ∈ w) (h_fab : Group.fab ∈ w) (h_iso : Group.iso ∈ w) (h_svc : Group.svc ∈ w) (h_faults : Group.faults ∈ w) (h : Fin 32) (s : State) :
    ran w (execMapEditMarkValid h s) = some (s.blank w) := by
  unfold execMapEditMarkValid
  simp only [mapMarkSpec_blank, takeRow_blank, blank_mk, eq_self, or_true, true_or, apply_ite (State.blank w), ite_self, foldl_blank, implies_true, ran_next, apply_ite (ran w), h_host, h_intake, h_plan, h_ports, h_fab, h_iso, h_svc, h_faults, mapMarkSpec_taken]

@[simp] theorem execMapEditMarkInvalid_blank (h_host : Group.host ∈ w) (h_intake : Group.intake ∈ w) (h_plan : Group.plan ∈ w) (h_ports : Group.ports ∈ w) (h_fab : Group.fab ∈ w) (h_iso : Group.iso ∈ w) (h_svc : Group.svc ∈ w) (h_faults : Group.faults ∈ w) (h : Fin 32) (s : State) :
    ran w (execMapEditMarkInvalid h s) = some (s.blank w) := by
  unfold execMapEditMarkInvalid
  simp only [mapMarkSpec_blank, takeRow_blank, blank_mk, eq_self, or_true, true_or, apply_ite (State.blank w), ite_self, foldl_blank, implies_true, ran_next, apply_ite (ran w), h_host, h_intake, h_plan, h_ports, h_fab, h_iso, h_svc, h_faults, mapMarkSpec_taken]

@[simp] theorem State.putValid_blank (h_host : Group.host ∈ w) (h_intake : Group.intake ∈ w) (h_plan : Group.plan ∈ w) (h_ports : Group.ports ∈ w) (h_fab : Group.fab ∈ w) (h_iso : Group.iso ∈ w) (h_svc : Group.svc ∈ w) (h_faults : Group.faults ∈ w) (s : State) (v : Bool) :
    (State.putValid s v).blank w = s.blank w := by
  unfold State.putValid
  simp only [State.evIf_blank, State.runStops_blank, State.updPlan_blank, blank_mk, eq_self, or_true, true_or, apply_ite (State.blank w), ite_self, foldl_blank, implies_true, h_host, h_intake, h_plan, h_ports, h_fab, h_iso, h_svc, h_faults]

@[simp] theorem State.mapBoundary_blank (h_host : Group.host ∈ w) (h_intake : Group.intake ∈ w) (h_plan : Group.plan ∈ w) (h_ports : Group.ports ∈ w) (h_fab : Group.fab ∈ w) (h_iso : Group.iso ∈ w) (h_svc : Group.svc ∈ w) (h_faults : Group.faults ∈ w) (s : State) :
    (State.mapBoundary s).blank w = s.blank w := by
  unfold State.mapBoundary
  simp only [State.doneWith_blank, State.putValid_blank, State.updPlan_blank, blank_mk, eq_self, or_true, true_or, apply_ite (State.blank w), ite_self, foldl_blank, implies_true, h_host, h_intake, h_plan, h_ports, h_fab, h_iso, h_svc, h_faults]

@[simp] theorem execMapEditEffect_blank (h_host : Group.host ∈ w) (h_intake : Group.intake ∈ w) (h_plan : Group.plan ∈ w) (h_ports : Group.ports ∈ w) (h_fab : Group.fab ∈ w) (h_iso : Group.iso ∈ w) (h_svc : Group.svc ∈ w) (h_faults : Group.faults ∈ w) (h_free : Group.free ∈ w) (s : State) :
    ran w (execMapEditEffect s) = some (s.blank w) := by
  unfold execMapEditEffect
  (repeat' split) <;> simp only [State.doneWith_blank, State.dropActive_blank, State.ev_blank, State.runEdit_blank, State.settle_blank, State.updPlan_blank, blank_mk, eq_self, or_true, true_or, apply_ite (State.blank w), ite_self, foldl_blank, implies_true, ran_next, apply_ite (ran w), h_host, h_intake, h_plan, h_ports, h_fab, h_iso, h_svc, h_faults, h_free]

@[simp] theorem State.mapClear_blank (h_host : Group.host ∈ w) (h_intake : Group.intake ∈ w) (h_plan : Group.plan ∈ w) (h_ports : Group.ports ∈ w) (h_fab : Group.fab ∈ w) (h_iso : Group.iso ∈ w) (h_svc : Group.svc ∈ w) (h_faults : Group.faults ∈ w) (s : State) :
    (State.mapClear s).blank w = s.blank w := by
  unfold State.mapClear
  simp only [State.putValid_blank, State.updPlan_blank, blank_mk, eq_self, or_true, true_or, apply_ite (State.blank w), ite_self, foldl_blank, implies_true, h_host, h_intake, h_plan, h_ports, h_fab, h_iso, h_svc, h_faults]

@[simp] theorem mapLoadBeginSpec_blank (h_host : Group.host ∈ w) (h_intake : Group.intake ∈ w) (h_plan : Group.plan ∈ w) (h_ports : Group.ports ∈ w) (h_fab : Group.fab ∈ w) (h_iso : Group.iso ∈ w) (h_svc : Group.svc ∈ w) (h_faults : Group.faults ∈ w) (h_free : Group.free ∈ w) (s : State) (h : Nat) :
    (mapLoadBeginSpec.start s h).blank w = s.blank w := by
  unfold mapLoadBeginSpec
  simp only [State.abortQueries_blank, State.doneWith_blank, State.mapClear_blank, State.updPlan_blank, blank_mk, eq_self, or_true, true_or, apply_ite (State.blank w), ite_self, foldl_blank, implies_true, h_host, h_intake, h_plan, h_ports, h_fab, h_iso, h_svc, h_faults, h_free]

@[simp] theorem mapLoadBeginSpec_taken (s : State) (h : Nat) :
    (mapLoadBeginSpec.taken s h).blank w = s.blank w := by simp only [mapLoadBeginSpec]

@[simp] theorem execMapLoadBegin_blank (h_host : Group.host ∈ w) (h_intake : Group.intake ∈ w) (h_plan : Group.plan ∈ w) (h_ports : Group.ports ∈ w) (h_fab : Group.fab ∈ w) (h_iso : Group.iso ∈ w) (h_svc : Group.svc ∈ w) (h_faults : Group.faults ∈ w) (h_free : Group.free ∈ w) (h : Fin 32) (s : State) :
    ran w (execMapLoadBegin h s) = some (s.blank w) := by
  unfold execMapLoadBegin
  simp only [mapLoadBeginSpec_blank, takeRow_blank, blank_mk, eq_self, or_true, true_or, apply_ite (State.blank w), ite_self, foldl_blank, implies_true, ran_next, apply_ite (ran w), h_host, h_intake, h_plan, h_ports, h_fab, h_iso, h_svc, h_faults, h_free, mapLoadBeginSpec_taken]

@[simp] theorem mapLoadCopySpec_blank (h_host : Group.host ∈ w) (h_intake : Group.intake ∈ w) (h_plan : Group.plan ∈ w) (h_ports : Group.ports ∈ w) (h_fab : Group.fab ∈ w) (h_iso : Group.iso ∈ w) (h_faults : Group.faults ∈ w) (s : State) (h : Nat) :
    (mapLoadCopySpec.start s h).blank w = s.blank w := by
  unfold mapLoadCopySpec
  simp only [State.doneWith_blank, State.updPlan_blank, blank_mk, eq_self, or_true, true_or, apply_ite (State.blank w), ite_self, foldl_blank, implies_true, h_host, h_intake, h_plan, h_ports, h_fab, h_iso, h_faults]

@[simp] theorem mapLoadCopySpec_taken (s : State) (h : Nat) :
    (mapLoadCopySpec.taken s h).blank w = s.blank w := by simp only [mapLoadCopySpec]

@[simp] theorem execMapLoadCopy_blank (h_host : Group.host ∈ w) (h_intake : Group.intake ∈ w) (h_plan : Group.plan ∈ w) (h_ports : Group.ports ∈ w) (h_fab : Group.fab ∈ w) (h_iso : Group.iso ∈ w) (h_svc : Group.svc ∈ w) (h_faults : Group.faults ∈ w) (h : Fin 32) (s : State) :
    ran w (execMapLoadCopy h s) = some (s.blank w) := by
  unfold execMapLoadCopy
  simp only [mapLoadCopySpec_blank, takeRow_blank, blank_mk, eq_self, or_true, true_or, apply_ite (State.blank w), ite_self, foldl_blank, implies_true, ran_next, apply_ite (ran w), h_host, h_intake, h_plan, h_ports, h_fab, h_iso, h_svc, h_faults, mapLoadCopySpec_taken]

@[simp] theorem mapLoadCommitSpec_blank (h_host : Group.host ∈ w) (h_intake : Group.intake ∈ w) (h_plan : Group.plan ∈ w) (h_ports : Group.ports ∈ w) (h_fab : Group.fab ∈ w) (h_iso : Group.iso ∈ w) (h_svc : Group.svc ∈ w) (h_faults : Group.faults ∈ w) (s : State) (h : Nat) :
    (mapLoadCommitSpec.start s h).blank w = s.blank w := by
  unfold mapLoadCommitSpec
  dsimp only
  (repeat' split) <;> first | (simp only [State.doneWith_blank, State.mapClear_blank, State.refuse_blank, State.updPlan_blank, blank_mk, eq_self, or_true, true_or, apply_ite (State.blank w), ite_self, foldl_blank, implies_true, h_host, h_intake, h_plan, h_ports, h_fab, h_iso, h_svc, h_faults]; done)

@[simp] theorem mapLoadCommitSpec_taken (s : State) (h : Nat) :
    (mapLoadCommitSpec.taken s h).blank w = s.blank w := by simp only [mapLoadCommitSpec]

@[simp] theorem execMapLoadCommit_blank (h_host : Group.host ∈ w) (h_intake : Group.intake ∈ w) (h_plan : Group.plan ∈ w) (h_ports : Group.ports ∈ w) (h_fab : Group.fab ∈ w) (h_iso : Group.iso ∈ w) (h_svc : Group.svc ∈ w) (h_faults : Group.faults ∈ w) (h : Fin 32) (s : State) :
    ran w (execMapLoadCommit h s) = some (s.blank w) := by
  unfold execMapLoadCommit
  simp only [mapLoadCommitSpec_blank, takeRow_blank, blank_mk, eq_self, or_true, true_or, apply_ite (State.blank w), ite_self, foldl_blank, implies_true, ran_next, apply_ite (ran w), h_host, h_intake, h_plan, h_ports, h_fab, h_iso, h_svc, h_faults, mapLoadCommitSpec_taken]

@[simp] theorem State.setChain_blank (h_pins : Group.pins ∈ w) (h_intake : Group.intake ∈ w) (h_params : Group.params ∈ w) (h_plan : Group.plan ∈ w) (s : State) (h : Nat) (c : Option Chain) :
    (State.setChain s h c).blank w = s.blank w := by
  unfold State.setChain
  simp only [State.awaitVerdict_blank, State.updPlan_blank, State.writeWorking_blank, blank_mk, eq_self, or_true, true_or, apply_ite (State.blank w), ite_self, foldl_blank, implies_true, h_pins, h_intake, h_params, h_plan]

@[simp] theorem planChainLoadSpec_blank (h_pins : Group.pins ∈ w) (h_intake : Group.intake ∈ w) (h_params : Group.params ∈ w) (h_plan : Group.plan ∈ w) (s : State) (h : Nat) :
    (planChainLoadSpec.start s h).blank w = s.blank w := by
  unfold planChainLoadSpec
  simp only [State.setChain_blank, blank_mk, eq_self, or_true, true_or, apply_ite (State.blank w), ite_self, foldl_blank, implies_true, h_pins, h_intake, h_params, h_plan]

@[simp] theorem planChainLoadSpec_taken (s : State) (h : Nat) :
    (planChainLoadSpec.taken s h).blank w = s.blank w := by simp only [planChainLoadSpec]

@[simp] theorem execPlanChainLoad_blank (h_pins : Group.pins ∈ w) (h_host : Group.host ∈ w) (h_intake : Group.intake ∈ w) (h_params : Group.params ∈ w) (h_plan : Group.plan ∈ w) (h_ports : Group.ports ∈ w) (h_fab : Group.fab ∈ w) (h_iso : Group.iso ∈ w) (h_svc : Group.svc ∈ w) (h_faults : Group.faults ∈ w) (h : Fin 32) (s : State) :
    ran w (execPlanChainLoad h s) = some (s.blank w) := by
  unfold execPlanChainLoad
  simp only [planChainLoadSpec_blank, takeRow_blank, blank_mk, eq_self, or_true, true_or, apply_ite (State.blank w), ite_self, foldl_blank, implies_true, ran_next, apply_ite (ran w), h_pins, h_host, h_intake, h_params, h_plan, h_ports, h_fab, h_iso, h_svc, h_faults, planChainLoadSpec_taken]

@[simp] theorem planChainValidateSpec_blank (h_host : Group.host ∈ w) (h_intake : Group.intake ∈ w) (h_ports : Group.ports ∈ w) (h_fab : Group.fab ∈ w) (h_iso : Group.iso ∈ w) (h_faults : Group.faults ∈ w) (s : State) (h : Nat) :
    (planChainValidateSpec.start s h).blank w = s.blank w := by
  unfold planChainValidateSpec
  simp only [State.doneWith_blank, blank_mk, eq_self, or_true, true_or, apply_ite (State.blank w), ite_self, foldl_blank, implies_true, h_host, h_intake, h_ports, h_fab, h_iso, h_faults]

@[simp] theorem planChainValidateSpec_taken (s : State) (h : Nat) :
    (planChainValidateSpec.taken s h).blank w = s.blank w := by simp only [planChainValidateSpec]

@[simp] theorem execPlanChainValidate_blank (h_host : Group.host ∈ w) (h_intake : Group.intake ∈ w) (h_plan : Group.plan ∈ w) (h_ports : Group.ports ∈ w) (h_fab : Group.fab ∈ w) (h_iso : Group.iso ∈ w) (h_svc : Group.svc ∈ w) (h_faults : Group.faults ∈ w) (h : Fin 32) (s : State) :
    ran w (execPlanChainValidate h s) = some (s.blank w) := by
  unfold execPlanChainValidate
  simp only [planChainValidateSpec_blank, takeRow_blank, blank_mk, eq_self, or_true, true_or, apply_ite (State.blank w), ite_self, foldl_blank, implies_true, ran_next, apply_ite (ran w), h_host, h_intake, h_plan, h_ports, h_fab, h_iso, h_svc, h_faults, planChainValidateSpec_taken]

@[simp] theorem planChainSaveSpec_blank (h_host : Group.host ∈ w) (h_intake : Group.intake ∈ w) (h_plan : Group.plan ∈ w) (h_ports : Group.ports ∈ w) (h_fab : Group.fab ∈ w) (h_iso : Group.iso ∈ w) (h_faults : Group.faults ∈ w) (s : State) (h : Nat) :
    (planChainSaveSpec.start s h).blank w = s.blank w := by
  unfold planChainSaveSpec
  simp only [State.doneWith_blank, State.updPlan_blank, blank_mk, eq_self, or_true, true_or, apply_ite (State.blank w), ite_self, foldl_blank, implies_true, h_host, h_intake, h_plan, h_ports, h_fab, h_iso, h_faults]

@[simp] theorem planChainSaveSpec_taken (s : State) (h : Nat) :
    (planChainSaveSpec.taken s h).blank w = s.blank w := by simp only [planChainSaveSpec]

@[simp] theorem execPlanChainSave_blank (h_host : Group.host ∈ w) (h_intake : Group.intake ∈ w) (h_plan : Group.plan ∈ w) (h_ports : Group.ports ∈ w) (h_fab : Group.fab ∈ w) (h_iso : Group.iso ∈ w) (h_svc : Group.svc ∈ w) (h_faults : Group.faults ∈ w) (h : Fin 32) (s : State) :
    ran w (execPlanChainSave h s) = some (s.blank w) := by
  unfold execPlanChainSave
  simp only [planChainSaveSpec_blank, takeRow_blank, blank_mk, eq_self, or_true, true_or, apply_ite (State.blank w), ite_self, foldl_blank, implies_true, ran_next, apply_ite (ran w), h_host, h_intake, h_plan, h_ports, h_fab, h_iso, h_svc, h_faults, planChainSaveSpec_taken]

@[simp] theorem planChainReadSpec_blank (h_host : Group.host ∈ w) (h_intake : Group.intake ∈ w) (h_ports : Group.ports ∈ w) (h_fab : Group.fab ∈ w) (h_iso : Group.iso ∈ w) (h_faults : Group.faults ∈ w) (s : State) (h : Nat) :
    (planChainReadSpec.start s h).blank w = s.blank w := by
  unfold planChainReadSpec
  simp only [State.doneBulk_blank, blank_mk, eq_self, or_true, true_or, apply_ite (State.blank w), ite_self, foldl_blank, implies_true, h_host, h_intake, h_ports, h_fab, h_iso, h_faults]

@[simp] theorem planChainReadSpec_taken (s : State) (h : Nat) :
    (planChainReadSpec.taken s h).blank w = s.blank w := by simp only [planChainReadSpec]

@[simp] theorem execPlanChainRead_blank (h_host : Group.host ∈ w) (h_intake : Group.intake ∈ w) (h_plan : Group.plan ∈ w) (h_ports : Group.ports ∈ w) (h_fab : Group.fab ∈ w) (h_iso : Group.iso ∈ w) (h_svc : Group.svc ∈ w) (h_faults : Group.faults ∈ w) (h : Fin 32) (s : State) :
    ran w (execPlanChainRead h s) = some (s.blank w) := by
  unfold execPlanChainRead
  simp only [planChainReadSpec_blank, takeRow_blank, blank_mk, eq_self, or_true, true_or, apply_ite (State.blank w), ite_self, foldl_blank, implies_true, ran_next, apply_ite (ran w), h_host, h_intake, h_plan, h_ports, h_fab, h_iso, h_svc, h_faults, planChainReadSpec_taken]

@[simp] theorem planChainReloadSpec_blank (h_pins : Group.pins ∈ w) (h_intake : Group.intake ∈ w) (h_params : Group.params ∈ w) (h_plan : Group.plan ∈ w) (s : State) (h : Nat) :
    (planChainReloadSpec.start s h).blank w = s.blank w := by
  unfold planChainReloadSpec
  simp only [State.setChain_blank, blank_mk, eq_self, or_true, true_or, apply_ite (State.blank w), ite_self, foldl_blank, implies_true, h_pins, h_intake, h_params, h_plan]

@[simp] theorem planChainReloadSpec_taken (s : State) (h : Nat) :
    (planChainReloadSpec.taken s h).blank w = s.blank w := by simp only [planChainReloadSpec]

@[simp] theorem execPlanChainReload_blank (h_pins : Group.pins ∈ w) (h_host : Group.host ∈ w) (h_intake : Group.intake ∈ w) (h_params : Group.params ∈ w) (h_plan : Group.plan ∈ w) (h_ports : Group.ports ∈ w) (h_fab : Group.fab ∈ w) (h_iso : Group.iso ∈ w) (h_svc : Group.svc ∈ w) (h_faults : Group.faults ∈ w) (h : Fin 32) (s : State) :
    ran w (execPlanChainReload h s) = some (s.blank w) := by
  unfold execPlanChainReload
  simp only [planChainReloadSpec_blank, takeRow_blank, blank_mk, eq_self, or_true, true_or, apply_ite (State.blank w), ite_self, foldl_blank, implies_true, ran_next, apply_ite (ran w), h_pins, h_host, h_intake, h_params, h_plan, h_ports, h_fab, h_iso, h_svc, h_faults, planChainReloadSpec_taken]

@[simp] theorem planRoadSpec_blank (h_host : Group.host ∈ w) (h_intake : Group.intake ∈ w) (h_ports : Group.ports ∈ w) (h_fab : Group.fab ∈ w) (h_iso : Group.iso ∈ w) (h_faults : Group.faults ∈ w) (s : State) (h : Nat) :
    (planRoadSpec.start s h).blank w = s.blank w := by
  unfold planRoadSpec
  dsimp only
  (repeat' split) <;> first | (simp only [State.doneBulk_blank, blank_mk, eq_self, or_true, true_or, apply_ite (State.blank w), ite_self, foldl_blank, implies_true, h_host, h_intake, h_ports, h_fab, h_iso, h_faults]; done)

@[simp] theorem planRoadSpec_taken (s : State) (h : Nat) :
    (planRoadSpec.taken s h).blank w = s.blank w := by simp only [planRoadSpec]

@[simp] theorem execPlanRoad_blank (h_host : Group.host ∈ w) (h_intake : Group.intake ∈ w) (h_plan : Group.plan ∈ w) (h_ports : Group.ports ∈ w) (h_fab : Group.fab ∈ w) (h_iso : Group.iso ∈ w) (h_svc : Group.svc ∈ w) (h_faults : Group.faults ∈ w) (h : Fin 32) (s : State) :
    ran w (execPlanRoad h s) = some (s.blank w) := by
  unfold execPlanRoad
  simp only [planRoadSpec_blank, takeRow_blank, blank_mk, eq_self, or_true, true_or, apply_ite (State.blank w), ite_self, foldl_blank, implies_true, ran_next, apply_ite (ran w), h_host, h_intake, h_plan, h_ports, h_fab, h_iso, h_svc, h_faults, planRoadSpec_taken]

@[simp] theorem State.planReset_blank (h_host : Group.host ∈ w) (h_intake : Group.intake ∈ w) (h_plan : Group.plan ∈ w) (h_ports : Group.ports ∈ w) (h_fab : Group.fab ∈ w) (h_iso : Group.iso ∈ w) (h_svc : Group.svc ∈ w) (h_faults : Group.faults ∈ w) (s : State) :
    (State.planReset s).blank w = s.blank w := by
  unfold State.planReset
  simp only [State.putValid_blank, State.updPlan_blank, blank_mk, eq_self, or_true, true_or, apply_ite (State.blank w), ite_self, foldl_blank, implies_true, h_host, h_intake, h_plan, h_ports, h_fab, h_iso, h_svc, h_faults]

@[simp] theorem State.planLeave_blank (h_host : Group.host ∈ w) (h_intake : Group.intake ∈ w) (h_motion : Group.motion ∈ w) (h_plan : Group.plan ∈ w) (h_ports : Group.ports ∈ w) (h_fab : Group.fab ∈ w) (h_iso : Group.iso ∈ w) (h_svc : Group.svc ∈ w) (h_faults : Group.faults ∈ w) (h_free : Group.free ∈ w) (s : State) :
    (State.planLeave s).blank w = s.blank w := by
  unfold State.planLeave
  simp only [State.abortQueries_blank, State.endRun_blank, State.refuse_blank, State.updPlan_blank, blank_mk, eq_self, or_true, true_or, apply_ite (State.blank w), ite_self, foldl_blank, implies_true, h_host, h_intake, h_motion, h_plan, h_ports, h_fab, h_iso, h_svc, h_faults, h_free]

end Sys2Proof.Machine
end

