-- ==== Sys2Proof/Laws/Fabric.lean ====
section
/-! SUPPORT. The parts of the state that the operations of Machine/Fabric.lean can change: all others keep their value. -/

namespace Sys2Proof.Machine

set_option linter.all false
set_option linter.unusedSimpArgs false

variable {w : List Group}

theorem State.rx_blank (h_ports : Group.ports ∈ w) (s : State) (p : Fin 2) (f : AmFrame) (kind : Nat) (k : State → State) (hk : ∀ t, (k t).blank w = t.blank w) :
    (State.rx s p f kind k).blank w = s.blank w := by
  unfold State.rx
  simp only [State.updPort_blank, blank_mk, eq_self, or_true, true_or, apply_ite (State.blank w), ite_self, foldl_blank, implies_true, h_ports, hk]

@[simp] theorem State.sendClaim_blank (h_ports : Group.ports ∈ w) (s : State) (p : Fin 2) :
    (State.sendClaim s p).blank w = s.blank w := by
  unfold State.sendClaim
  dsimp only
  (repeat' split) <;> first | (simp only [State.updPort_blank, blank_mk, eq_self, or_true, true_or, apply_ite (State.blank w), ite_self, foldl_blank, implies_true, h_ports]; done) | (have e' := State.queueControl_blank h_ports (by assumption); simp only [State.updPort_blank, blank_mk, eq_self, or_true, true_or, apply_ite (State.blank w), ite_self, foldl_blank, implies_true, h_ports, e'])

@[simp] theorem State.sendPairClaim_blank (h_ports : Group.ports ∈ w) (h_twin : Group.twin ∈ w) (s : State) (p : Fin 2) :
    (State.sendPairClaim s p).blank w = s.blank w := by
  unfold State.sendPairClaim
  (repeat' split) <;> first | (simp only [blank_mk, eq_self, or_true, true_or, apply_ite (State.blank w), ite_self, foldl_blank, implies_true, h_ports, h_twin]; done) | (have e' := State.queueControl_blank h_ports (by assumption); simp only [blank_mk, eq_self, or_true, true_or, apply_ite (State.blank w), ite_self, foldl_blank, implies_true, h_ports, h_twin, e'])

@[simp] theorem State.claimRecovered_blank (h_faults : Group.faults ∈ w) (s : State) :
    (State.claimRecovered s).blank w = s.blank w := by
  unfold State.claimRecovered
  simp only [State.condEnd_blank, blank_mk, eq_self, or_true, true_or, apply_ite (State.blank w), ite_self, foldl_blank, implies_true, h_faults]

@[simp] theorem State.toHeld_blank (h_ret : Group.ret ∈ w) (h_ports : Group.ports ∈ w) (h_fab : Group.fab ∈ w) (h_faults : Group.faults ∈ w) (s : State) (p : Fin 2) :
    (State.toHeld s p).blank w = s.blank w := by
  unfold State.toHeld
  simp only [State.claimRecovered_blank, State.ev_blank, State.updPort_blank, blank_mk, eq_self, or_true, true_or, apply_ite (State.blank w), ite_self, foldl_blank, implies_true, h_ret, h_ports, h_fab, h_faults]

@[simp] theorem execClaimListenEnd_blank (h_ports : Group.ports ∈ w) (h_faults : Group.faults ∈ w) (p : Fin 2) (s : State) :
    ran w (execClaimListenEnd p s) = some (s.blank w) := by
  unfold execClaimListenEnd
  dsimp only
  (repeat' split) <;> first | (simp only [State.raise_blank, State.sendClaim_blank, State.updPort_blank, blank_mk, eq_self, or_true, true_or, apply_ite (State.blank w), ite_self, foldl_blank, implies_true, ran_next, apply_ite (ran w), h_ports, h_faults]; done)

@[simp] theorem execClaimHeld_blank (h_ret : Group.ret ∈ w) (h_ports : Group.ports ∈ w) (h_fab : Group.fab ∈ w) (h_twin : Group.twin ∈ w) (h_faults : Group.faults ∈ w) (p : Fin 2) (s : State) :
    ran w (execClaimHeld p s) = some (s.blank w) := by
  unfold execClaimHeld
  simp only [State.ev_blank, State.toHeld_blank, blank_mk, eq_self, or_true, true_or, apply_ite (State.blank w), ite_self, foldl_blank, implies_true, ran_next, apply_ite (ran w), h_ret, h_ports, h_fab, h_twin, h_faults]

@[simp] theorem State.recallClaims_blank (h_ports : Group.ports ∈ w) (h_twin : Group.twin ∈ w) (s : State) (p : Fin 2) :
    (State.recallClaims s p).blank w = s.blank w := by
  unfold State.recallClaims
  simp only [State.updPort_blank, blank_mk, eq_self, or_true, true_or, apply_ite (State.blank w), ite_self, foldl_blank, implies_true, h_ports, h_twin]

@[simp] theorem State.claimsAnew_blank (h_ports : Group.ports ∈ w) (h_twin : Group.twin ∈ w) (s : State) (p : Fin 2) :
    (State.claimsAnew s p).blank w = s.blank w := by
  unfold State.claimsAnew
  simp only [State.recallClaims_blank, State.updPort_blank, blank_mk, eq_self, or_true, true_or, apply_ite (State.blank w), ite_self, foldl_blank, implies_true, h_ports, h_twin]

@[simp] theorem execClaimErrorFrame_blank (h_ports : Group.ports ∈ w) (h_twin : Group.twin ∈ w) (p : Fin 2) (mine : Bool) (s : State) :
    ran w (execClaimErrorFrame p mine s) = some (s.blank w) := by
  unfold execClaimErrorFrame
  dsimp only
  (repeat' split) <;> first | (simp only [State.recallClaims_blank, State.sendClaim_blank, State.sendPairClaim_blank, State.updPort_blank, blank_mk, eq_self, or_true, true_or, apply_ite (State.blank w), ite_self, foldl_blank, implies_true, ran_next, apply_ite (ran w), h_ports, h_twin]; done)

@[simp] theorem State.claimSeen_blank (h_ret : Group.ret ∈ w) (h_ports : Group.ports ∈ w) (h_fab : Group.fab ∈ w) (h_twin : Group.twin ∈ w) (h_faults : Group.faults ∈ w) (h_free : Group.free ∈ w) (s : State) (p : Fin 2) (uid : Nat) (rank : Nat) (i : Nat) :
    (State.claimSeen s p uid rank i).blank w = s.blank w := by
  unfold State.claimSeen
  simp only [State.evFree_blank, State.raise_blank, State.toHeld_blank, State.updPort_blank, blank_mk, eq_self, or_true, true_or, apply_ite (State.blank w), ite_self, foldl_blank, implies_true, h_ret, h_ports, h_fab, h_twin, h_faults, h_free]

@[simp] theorem execClaimReceived_blank (h_ret : Group.ret ∈ w) (h_ports : Group.ports ∈ w) (h_fab : Group.fab ∈ w) (h_twin : Group.twin ∈ w) (h_faults : Group.faults ∈ w) (h_free : Group.free ∈ w) (p : Fin 2) (f : AmFrame) (s : State) :
    ran w (execClaimReceived p f s) = some (s.blank w) := by
  unfold execClaimReceived
  simp only [State.claimSeen_blank, State.claimsAnew_blank, State.rx_blank, State.sendClaim_blank, State.sendPairClaim_blank, blank_mk, eq_self, or_true, true_or, apply_ite (State.blank w), ite_self, foldl_blank, implies_true, ran_next, apply_ite (ran w), h_ret, h_ports, h_fab, h_twin, h_faults, h_free]

@[simp] theorem State.syncEv_blank (h_fab : Group.fab ∈ w) (h_faults : Group.faults ∈ w) (s : State) (q : Nat) :
    (State.syncEv s q).blank w = s.blank w := by
  unfold State.syncEv
  simp only [State.ev_blank, blank_mk, eq_self, or_true, true_or, apply_ite (State.blank w), ite_self, foldl_blank, implies_true, h_fab, h_faults]

@[simp] theorem State.syncStep_blank (h_ports : Group.ports ∈ w) (h_fab : Group.fab ∈ w) (h_faults : Group.faults ∈ w) (s : State) (p : Fin 2) (o : Option Int) :
    (State.syncStep s p o).blank w = s.blank w := by
  unfold State.syncStep
  dsimp only
  (repeat' split) <;> first | (simp only [State.syncEv_blank, State.updPort_blank, blank_mk, eq_self, or_true, true_or, apply_ite (State.blank w), ite_self, foldl_blank, implies_true, h_ports, h_fab, h_faults]; done)

@[simp] theorem State.realignTo_blank (h_frame : Group.frame ∈ w) (s : State) (fsf : Nat) (off : Int) :
    (State.realignTo s fsf off).blank w = s.blank w := by
  unfold State.realignTo
  simp only [blank_mk, eq_self, or_true, true_or, apply_ite (State.blank w), ite_self, foldl_blank, implies_true, h_frame]

@[simp] theorem State.checkCyc_blank (h_ports : Group.ports ∈ w) (h_fab : Group.fab ∈ w) (h_faults : Group.faults ∈ w) (h_free : Group.free ∈ w) (s : State) (p : Fin 2) (seg : Nat) :
    (State.checkCyc s p seg).blank w = s.blank w := by
  unfold State.checkCyc
  dsimp only
  (repeat' split) <;> first | (simp only [State.evFree_blank, State.updPort_blank, blank_mk, eq_self, or_true, true_or, apply_ite (State.blank w), ite_self, foldl_blank, implies_true, h_ports, h_fab, h_faults, h_free]; done)

@[simp] theorem State.afterWake_blank (h_ret : Group.ret ∈ w) (h_ports : Group.ports ∈ w) (h_fab : Group.fab ∈ w) (h_faults : Group.faults ∈ w) (s : State) (p : Fin 2) (h : Nat) (at_ : BitVec 32) :
    (State.afterWake s p h at_).blank w = s.blank w := by
  unfold State.afterWake
  dsimp only
  (repeat' split) <;> first | (simp only [State.condEnd_blank, State.evIf_blank, State.updPort_blank, forPorts_blank, blank_mk, eq_self, or_true, true_or, apply_ite (State.blank w), ite_self, foldl_blank, implies_true, h_ret, h_ports, h_fab, h_faults]; done)

@[simp] theorem State.endPlan_blank (h_ret : Group.ret ∈ w) (h_fab : Group.fab ∈ w) (s : State) :
    (State.endPlan s).blank w = s.blank w := by
  unfold State.endPlan
  simp only [blank_mk, eq_self, or_true, true_or, apply_ite (State.blank w), ite_self, foldl_blank, implies_true, h_ret, h_fab]

@[simp] theorem State.takeBeacon_blank (h_frame : Group.frame ∈ w) (h_ret : Group.ret ∈ w) (h_ports : Group.ports ∈ w) (h_fab : Group.fab ∈ w) (h_faults : Group.faults ∈ w) (h_free : Group.free ∈ w) (s : State) (p : Fin 2) (f : AmFrame) (off : Int) :
    (State.takeBeacon s p f off).blank w = s.blank w := by
  unfold State.takeBeacon
  dsimp only
  (repeat' split) <;> first | (simp only [State.afterWake_blank, State.checkCyc_blank, State.endPlan_blank, State.realignTo_blank, State.syncStep_blank, State.updPort_blank, blank_mk, eq_self, or_true, true_or, apply_ite (State.blank w), ite_self, foldl_blank, implies_true, h_frame, h_ret, h_ports, h_fab, h_faults, h_free]; done)

@[simp] theorem execBeaconTimeout_blank (h_ports : Group.ports ∈ w) (h_fab : Group.fab ∈ w) (h_faults : Group.faults ∈ w) (p : Fin 2) (s : State) :
    ran w (execBeaconTimeout p s) = some (s.blank w) := by
  unfold execBeaconTimeout
  dsimp only
  (repeat' split) <;> first | (simp only [State.syncEv_blank, State.updPort_blank, blank_mk, eq_self, or_true, true_or, apply_ite (State.blank w), ite_self, foldl_blank, implies_true, ran_next, apply_ite (ran w), h_ports, h_fab, h_faults]; done)

@[simp] theorem execSegRequestTimer_blank (h_ports : Group.ports ∈ w) (h_fab : Group.fab ∈ w) (p : Fin 2) (s : State) :
    ran w (execSegRequestTimer p s) = some (s.blank w) := by
  unfold execSegRequestTimer
  dsimp only
  (repeat' split) <;> first | (simp only [State.updPort_blank, blank_mk, eq_self, or_true, true_or, apply_ite (State.blank w), ite_self, foldl_blank, implies_true, ran_next, apply_ite (ran w), h_ports, h_fab]; done) | (have e' := State.queueControl_blank h_ports (by assumption); simp only [State.updPort_blank, blank_mk, eq_self, or_true, true_or, apply_ite (State.blank w), ite_self, foldl_blank, implies_true, ran_next, apply_ite (ran w), h_ports, h_fab, e'])

@[simp] theorem execSegGrant_blank (h_ports : Group.ports ∈ w) (p : Fin 2) (f : AmFrame) (s : State) :
    ran w (execSegGrant p f s) = some (s.blank w) := by
  unfold execSegGrant
  simp only [State.rx_blank, State.updPort_blank, blank_mk, eq_self, or_true, true_or, apply_ite (State.blank w), ite_self, foldl_blank, implies_true, ran_next, apply_ite (ran w), h_ports]

@[simp] theorem State.busRecovered_blank (h_faults : Group.faults ∈ w) (s : State) :
    (State.busRecovered s).blank w = s.blank w := by
  unfold State.busRecovered
  simp only [State.condEnd_blank, blank_mk, eq_self, or_true, true_or, apply_ite (State.blank w), ite_self, foldl_blank, implies_true, h_faults]

@[simp] theorem State.portEnable_blank (h_ports : Group.ports ∈ w) (h_fab : Group.fab ∈ w) (h_faults : Group.faults ∈ w) (s : State) (p : Fin 2) :
    (State.portEnable s p).blank w = s.blank w := by
  unfold State.portEnable
  simp only [State.busRecovered_blank, State.claimRecovered_blank, State.updPort_blank, blank_mk, eq_self, or_true, true_or, apply_ite (State.blank w), ite_self, foldl_blank, implies_true, h_ports, h_fab, h_faults]

@[simp] theorem State.dropSends_blank (h_host : Group.host ∈ w) (h_intake : Group.intake ∈ w) (h_ports : Group.ports ∈ w) (h_fab : Group.fab ∈ w) (h_iso : Group.iso ∈ w) (h_faults : Group.faults ∈ w) (s : State) (l : List QFrame) :
    (State.dropSends s l).blank w = s.blank w := by
  unfold State.dropSends
  simp only [State.finish_blank, blank_mk, eq_self, or_true, true_or, apply_ite (State.blank w), ite_self, foldl_blank, implies_true, h_host, h_intake, h_ports, h_fab, h_iso, h_faults]

@[simp] theorem State.portDisable_blank (h_ret : Group.ret ∈ w) (h_host : Group.host ∈ w) (h_intake : Group.intake ∈ w) (h_ports : Group.ports ∈ w) (h_fab : Group.fab ∈ w) (h_iso : Group.iso ∈ w) (h_faults : Group.faults ∈ w) (s : State) (p : Fin 2) :
    (State.portDisable s p).blank w = s.blank w := by
  unfold State.portDisable
  simp only [State.busRecovered_blank, State.claimRecovered_blank, State.dropSends_blank, State.endPlan_blank, State.updPort_blank, blank_mk, eq_self, or_true, true_or, apply_ite (State.blank w), ite_self, foldl_blank, implies_true, h_ret, h_host, h_intake, h_ports, h_fab, h_iso, h_faults]

end Sys2Proof.Machine
end

