-- ==== Sys2Proof/Laws/Relay.lean ====
section
/-! SUPPORT. The parts of the state that the operations of Machine/Relay.lean can change: all others keep their value. -/

namespace Sys2Proof.Machine

set_option linter.all false
set_option linter.unusedSimpArgs false

variable {w : List Group}

@[simp] theorem State.dropped_blank (h_ports : Group.ports ∈ w) (h_fab : Group.fab ∈ w) (h_faults : Group.faults ∈ w) (s : State) (p : Fin 2) (c : Fin 4) (n : Nat) :
    (State.dropped s p c n).blank w = s.blank w := by
  unfold State.dropped
  simp only [State.evIf_blank, State.updPort_blank, blank_mk, eq_self, or_true, true_or, apply_ite (State.blank w), ite_self, foldl_blank, implies_true, h_ports, h_fab, h_faults]

theorem State.dropOldest_blank (h_host : Group.host ∈ w) (h_intake : Group.intake ∈ w) (h_ports : Group.ports ∈ w) (h_fab : Group.fab ∈ w) (h_iso : Group.iso ∈ w) (h_faults : Group.faults ∈ w) {s : State} {p : Fin 2} {t : State} (e : State.dropOldest s p = some t) :
    t.blank w = s.blank w := by
  unfold State.dropOldest at e
  dsimp only at e
  (repeat' split at e) <;> simp only [Option.some.injEq, reduceCtorEq, Prod.mk.injEq] at e <;> (try subst e) <;> first | (simp only [State.dropSends_blank, State.dropped_blank, State.updPort_blank, blank_mk, eq_self, or_true, true_or, apply_ite (State.blank w), ite_self, foldl_blank, implies_true, h_host, h_intake, h_ports, h_fab, h_iso, h_faults]; done)

@[simp] theorem State.makeRoom_blank (h_host : Group.host ∈ w) (h_intake : Group.intake ∈ w) (h_ports : Group.ports ∈ w) (h_fab : Group.fab ∈ w) (h_iso : Group.iso ∈ w) (h_faults : Group.faults ∈ w) (s : State) (p : Fin 2) (n : Nat) (a3 : Nat) :
    (State.makeRoom s p n a3).blank w = s.blank w := by
  induction a3 generalizing s with
  | zero => rfl
  | succ k ih =>
    unfold State.makeRoom
    split
    · rfl
    · split
      · have e' := State.dropOldest_blank h_host h_intake h_ports h_fab h_iso h_faults (by assumption)
        rw [ih, e']
      · rfl

@[simp] theorem State.enqueue_blank (h_host : Group.host ∈ w) (h_intake : Group.intake ∈ w) (h_ports : Group.ports ∈ w) (h_fab : Group.fab ∈ w) (h_iso : Group.iso ∈ w) (h_faults : Group.faults ∈ w) (s : State) (p : Fin 2) (c : Fin 4) (m : List QFrame) :
    (State.enqueue s p c m).blank w = s.blank w := by
  unfold State.enqueue
  simp only [State.dropSends_blank, State.dropped_blank, State.makeRoom_blank, State.updPort_blank, blank_mk, eq_self, or_true, true_or, apply_ite (State.blank w), ite_self, foldl_blank, implies_true, h_host, h_intake, h_ports, h_fab, h_iso, h_faults]

@[simp] theorem State.nextTag_blank (h_fab : Group.fab ∈ w) (s : State) :
    (State.nextTag s).2.blank w = s.blank w := by
  unfold State.nextTag
  simp only [blank_mk, eq_self, or_true, true_or, apply_ite (State.blank w), ite_self, foldl_blank, implies_true, h_fab]

@[simp] theorem State.sendNack_blank (h_ports : Group.ports ∈ w) (h_fab : Group.fab ∈ w) (h_faults : Group.faults ∈ w) (s : State) (p : Fin 2) (by_ : Fin 2) (a : AmHead) (reason : Nat) (where_ : Nat) (drops : Nat) :
    (State.sendNack s p by_ a reason where_ drops).blank w = s.blank w := by
  unfold State.sendNack
  dsimp only
  (repeat' split) <;> first | (simp only [State.dropped_blank, State.nextTag_blank, State.updPort_blank, blank_mk, eq_self, or_true, true_or, apply_ite (State.blank w), ite_self, foldl_blank, implies_true, h_ports, h_fab, h_faults]; done) | (have e' := State.queueControl_blank h_ports (by assumption); simp only [State.dropped_blank, State.nextTag_blank, State.updPort_blank, blank_mk, eq_self, or_true, true_or, apply_ite (State.blank w), ite_self, foldl_blank, implies_true, h_ports, h_fab, h_faults, e'])

@[simp] theorem State.nackDrop_blank (h_ports : Group.ports ∈ w) (h_fab : Group.fab ∈ w) (h_faults : Group.faults ∈ w) (s : State) (p : Fin 2) (by_ : Fin 2) (a : AmHead) (reason : Nat) :
    (State.nackDrop s p by_ a reason).blank w = s.blank w := by
  unfold State.nackDrop
  dsimp only
  (repeat' split) <;> first | (simp only [State.sendNack_blank, State.updPort_blank, blank_mk, eq_self, or_true, true_or, apply_ite (State.blank w), ite_self, foldl_blank, implies_true, h_ports, h_fab, h_faults]; done)

@[simp] theorem State.sendLossEvt_blank (h_host : Group.host ∈ w) (h_intake : Group.intake ∈ w) (h_ports : Group.ports ∈ w) (h_fab : Group.fab ∈ w) (h_iso : Group.iso ∈ w) (h_faults : Group.faults ∈ w) (s : State) (code : Nat) (addr : Nat) :
    (State.sendLossEvt s code addr).blank w = s.blank w := by
  unfold State.sendLossEvt
  simp only [State.enqueue_blank, State.nextTag_blank, forPorts_blank, blank_mk, eq_self, or_true, true_or, apply_ite (State.blank w), ite_self, foldl_blank, implies_true, h_host, h_intake, h_ports, h_fab, h_iso, h_faults]

@[simp] theorem State.updWatch_blank (h_fab : Group.fab ∈ w) (s : State) (a1 : Nat) (f : WatchSt → WatchSt) :
    (State.updWatch s a1 f).blank w = s.blank w := by
  unfold State.updWatch
  simp only [blank_mk, eq_self, or_true, true_or, apply_ite (State.blank w), ite_self, foldl_blank, implies_true, h_fab]

@[simp] theorem State.watchAction_blank (h_fab : Group.fab ∈ w) (s : State) (a1 : Nat) :
    (State.watchAction s a1).blank w = s.blank w := by
  unfold State.watchAction
  simp only [blank_mk, eq_self, or_true, true_or, apply_ite (State.blank w), ite_self, foldl_blank, implies_true, h_fab]

@[simp] theorem State.watchLost_blank (h_fab : Group.fab ∈ w) (h_faults : Group.faults ∈ w) (s : State) (a1 : Nat) (quiet : Bool) :
    (State.watchLost s a1 quiet).blank w = s.blank w := by
  unfold State.watchLost
  simp only [State.evIf_blank, State.updWatch_blank, State.watchAction_blank, blank_mk, eq_self, or_true, true_or, apply_ite (State.blank w), ite_self, foldl_blank, implies_true, h_fab, h_faults]

@[simp] theorem State.watchBack_blank (h_fab : Group.fab ∈ w) (h_faults : Group.faults ∈ w) (s : State) (a1 : Nat) (quiet : Bool) :
    (State.watchBack s a1 quiet).blank w = s.blank w := by
  unfold State.watchBack
  dsimp only
  (repeat' split) <;> first | (simp only [State.evIf_blank, State.updWatch_blank, blank_mk, eq_self, or_true, true_or, apply_ite (State.blank w), ite_self, foldl_blank, implies_true, h_fab, h_faults]; done)

@[simp] theorem State.watchRoutes_blank (h_fab : Group.fab ∈ w) (h_faults : Group.faults ∈ w) (s : State) :
    (State.watchRoutes s).blank w = s.blank w := by
  unfold State.watchRoutes
  dsimp only
  refine (foldl_blank _ (fun t a => ?_) _ _).trans ?_
  all_goals (repeat' split) <;> first | (simp only [State.updWatch_blank, State.watchLost_blank, blank_mk, eq_self, or_true, true_or, apply_ite (State.blank w), ite_self, foldl_blank, implies_true, h_fab, h_faults]; done)

@[simp] theorem State.watchReturns_blank (h_fab : Group.fab ∈ w) (h_faults : Group.faults ∈ w) (s : State) :
    (State.watchReturns s).blank w = s.blank w := by
  unfold State.watchReturns
  refine foldl_blank _ (fun t a => ?_) _ _
  (repeat' split) <;> simp only [State.watchBack_blank, blank_mk, eq_self, or_true, true_or, apply_ite (State.blank w), ite_self, foldl_blank, implies_true, h_fab, h_faults]

@[simp] theorem State.nodeLost_blank (h_host : Group.host ∈ w) (h_intake : Group.intake ∈ w) (h_ports : Group.ports ∈ w) (h_fab : Group.fab ∈ w) (h_iso : Group.iso ∈ w) (h_faults : Group.faults ∈ w) (s : State) (addr : Nat) :
    (State.nodeLost s addr).blank w = s.blank w := by
  unfold State.nodeLost
  simp only [State.ev_blank, State.sendLossEvt_blank, State.watchLost_blank, blank_mk, eq_self, or_true, true_or, apply_ite (State.blank w), ite_self, foldl_blank, implies_true, h_host, h_intake, h_ports, h_fab, h_iso, h_faults]

@[simp] theorem execHbeatReceived_blank (h_host : Group.host ∈ w) (h_intake : Group.intake ∈ w) (h_ports : Group.ports ∈ w) (h_fab : Group.fab ∈ w) (h_iso : Group.iso ∈ w) (h_faults : Group.faults ∈ w) (p : Fin 2) (f : AmFrame) (s : State) :
    ran w (execHbeatReceived p f s) = some (s.blank w) := by
  unfold execHbeatReceived
  refine congrArg some (State.rx_blank h_ports _ _ _ _ _ (fun t => ?_))
  beta_reduce
  extract_lets a period now here was near f0 s1 ws lostW s2
  have e : s2.blank w = t.blank w :=
    (foldl_blank _ (fun t a => by simp only [State.noteEv_blank, State.rx_blank, State.sendLossEvt_blank, State.updWatch_blank, State.watchBack_blank, blank_mk, eq_self, or_true, true_or, apply_ite (State.blank w), ite_self, foldl_blank, implies_true, ran_next, apply_ite (ran w), h_host, h_intake, h_ports, h_fab, h_iso, h_faults]) _ _).trans (by simp only [s1, State.noteEv_blank, State.rx_blank, State.sendLossEvt_blank, State.updWatch_blank, State.watchBack_blank, blank_mk, eq_self, or_true, true_or, apply_ite (State.blank w), ite_self, foldl_blank, implies_true, ran_next, apply_ite (ran w), h_host, h_intake, h_ports, h_fab, h_iso, h_faults])
  split
  · simp only [State.noteEv_blank, State.rx_blank, State.sendLossEvt_blank, State.updWatch_blank, State.watchBack_blank, blank_mk, eq_self, or_true, true_or, apply_ite (State.blank w), ite_self, foldl_blank, implies_true, ran_next, apply_ite (ran w), h_host, h_intake, h_ports, h_fab, h_iso, h_faults, e]
  · exact e

@[simp] theorem execHeartbeatDeadline_blank (h_host : Group.host ∈ w) (h_intake : Group.intake ∈ w) (h_ports : Group.ports ∈ w) (h_fab : Group.fab ∈ w) (h_iso : Group.iso ∈ w) (h_faults : Group.faults ∈ w) (p : Fin 2) (addr : Nat) (s : State) :
    ran w (execHeartbeatDeadline p addr s) = some (s.blank w) := by
  unfold execHeartbeatDeadline
  simp only [State.nodeLost_blank, blank_mk, eq_self, or_true, true_or, apply_ite (State.blank w), ite_self, foldl_blank, implies_true, ran_next, apply_ite (ran w), h_host, h_intake, h_ports, h_fab, h_iso, h_faults]

@[simp] theorem execEvtReceived_blank (h_ports : Group.ports ∈ w) (h_fab : Group.fab ∈ w) (h_faults : Group.faults ∈ w) (p : Fin 2) (f : AmFrame) (s : State) :
    ran w (execEvtReceived p f s) = some (s.blank w) := by
  unfold execEvtReceived
  refine congrArg some (State.rx_blank h_ports _ _ _ _ _ (fun t => ?_))
  dsimp only
  split
  · rfl
  · refine foldl_blank _ (fun t a => ?_) _ _
    split
    · rfl
    · refine foldl_blank _ (fun t a => ?_) _ _
      (repeat' split) <;> simp only [State.rx_blank, State.updWatch_blank, State.watchBack_blank, State.watchLost_blank, blank_mk, eq_self, or_true, true_or, apply_ite (State.blank w), ite_self, foldl_blank, implies_true, ran_next, apply_ite (ran w), h_ports, h_fab, h_faults]

@[simp] theorem State.routesChanged_blank (h_fab : Group.fab ∈ w) (h_faults : Group.faults ∈ w) (h_free : Group.free ∈ w) (s : State) :
    (State.routesChanged s).blank w = s.blank w := by
  unfold State.routesChanged
  simp only [State.evFree_blank, State.watchRoutes_blank, blank_mk, eq_self, or_true, true_or, apply_ite (State.blank w), ite_self, foldl_blank, implies_true, h_fab, h_faults, h_free]

@[simp] theorem State.learnRoute_blank (h_fab : Group.fab ∈ w) (h_faults : Group.faults ∈ w) (h_free : Group.free ∈ w) (s : State) (p : Fin 2) (i : Nat) (v : Nat) :
    (State.learnRoute s p i v).blank w = s.blank w := by
  unfold State.learnRoute
  dsimp only
  (repeat' split) <;> first | (simp only [State.raise_blank, State.routesChanged_blank, blank_mk, eq_self, or_true, true_or, apply_ite (State.blank w), ite_self, foldl_blank, implies_true, h_fab, h_faults, h_free]; done)

@[simp] theorem execRouteReceived_blank (h_ports : Group.ports ∈ w) (h_fab : Group.fab ∈ w) (h_faults : Group.faults ∈ w) (h_free : Group.free ∈ w) (p : Fin 2) (f : AmFrame) (s : State) :
    ran w (execRouteReceived p f s) = some (s.blank w) := by
  unfold execRouteReceived
  refine congrArg some (State.rx_blank h_ports _ _ _ _ _ (fun t => ?_))
  dsimp only
  split <;> simp only [State.learnRoute_blank, State.rx_blank, blank_mk, eq_self, or_true, true_or, apply_ite (State.blank w), ite_self, foldl_blank, implies_true, ran_next, apply_ite (ran w), h_ports, h_fab, h_faults, h_free]

@[simp] theorem execRouteExpiry_blank (h_fab : Group.fab ∈ w) (h_faults : Group.faults ∈ w) (h_free : Group.free ∈ w) (seg : Nat) (s : State) :
    ran w (execRouteExpiry seg s) = some (s.blank w) := by
  unfold execRouteExpiry
  simp only [State.routesChanged_blank, blank_mk, eq_self, or_true, true_or, apply_ite (State.blank w), ite_self, foldl_blank, implies_true, ran_next, apply_ite (ran w), h_fab, h_faults, h_free]

@[simp] theorem State.sendTriggered_blank (h_ports : Group.ports ∈ w) (h_fab : Group.fab ∈ w) (s : State) (p : Fin 2) (a2 : Nat) :
    (State.sendTriggered s p a2).blank w = s.blank w := by
  induction a2 generalizing s with
  | zero => rfl
  | succ k ih =>
    unfold State.sendTriggered
    dsimp only
    split
    · rfl
    · split
      · rfl
      · have e' := State.queueControl_blank h_ports (by assumption)
        rw [ih]
        simp only [blank_mk, eq_self, or_true, true_or, apply_ite (State.blank w), ite_self, foldl_blank, implies_true, h_ports, h_fab, e']

@[simp] theorem State.sendPeriodic_blank (h_ports : Group.ports ∈ w) (s : State) (p : Fin 2) :
    (State.sendPeriodic s p).blank w = s.blank w := by
  unfold State.sendPeriodic
  extract_lets q u
  have e : u.blank w = s.blank w := by
    simp only [u]
    (repeat' split) <;> simp only [State.updPort_blank, blank_mk, eq_self, or_true, true_or, apply_ite (State.blank w), ite_self, foldl_blank, implies_true, h_ports]
  clear_value u
  dsimp only
  split
  · exact e
  · cases hq : u.queueControl p _ with
    | none => exact e
    | some t =>
      have e' := State.queueControl_blank h_ports hq
      simp only [State.updPort_blank, blank_mk, eq_self, or_true, true_or, apply_ite (State.blank w), ite_self, foldl_blank, implies_true, h_ports, e', e]

@[simp] theorem State.routeSuper_blank (h_ports : Group.ports ∈ w) (h_fab : Group.fab ∈ w) (s : State) (p : Fin 2) :
    (State.routeSuper s p).blank w = s.blank w := by
  unfold State.routeSuper
  simp only [State.sendPeriodic_blank, State.sendTriggered_blank, State.updPort_blank, blank_mk, eq_self, or_true, true_or, apply_ite (State.blank w), ite_self, foldl_blank, implies_true, h_ports, h_fab]

@[simp] theorem State.routesAge_blank (h_fab : Group.fab ∈ w) (s : State) :
    (State.routesAge s).blank w = s.blank w := by
  unfold State.routesAge
  simp only [blank_mk, eq_self, or_true, true_or, apply_ite (State.blank w), ite_self, foldl_blank, implies_true, h_fab]

@[simp] theorem State.police_blank (h_ports : Group.ports ∈ w) (s : State) (p : Fin 2) (src : Nat) (cmd : Bool) :
    (State.police s p src cmd).1.blank w = s.blank w := by
  unfold State.police
  (repeat' split) <;> simp only [State.updPort_blank, blank_mk, eq_self, or_true, true_or, apply_ite (State.blank w), ite_self, foldl_blank, implies_true, h_ports]

@[simp] theorem State.fillBuckets_blank (h_ports : Group.ports ∈ w) (s : State) (p : Fin 2) :
    (State.fillBuckets s p).blank w = s.blank w := by
  unfold State.fillBuckets
  simp only [State.updPort_blank, blank_mk, eq_self, or_true, true_or, apply_ite (State.blank w), ite_self, foldl_blank, implies_true, h_ports]

@[simp] theorem State.fwdEv_blank (h_fab : Group.fab ∈ w) (h_faults : Group.faults ∈ w) (s : State) (k : Fin 2) :
    (State.fwdEv s k).blank w = s.blank w := by
  unfold State.fwdEv
  simp only [State.evIf_blank, blank_mk, eq_self, or_true, true_or, apply_ite (State.blank w), ite_self, foldl_blank, implies_true, h_fab, h_faults]

@[simp] theorem State.duplicate_blank (h_fab : Group.fab ∈ w) (s : State) (a : AmHead) :
    (State.duplicate s a).1.blank w = s.blank w := by
  unfold State.duplicate
  simp only [blank_mk, eq_self, or_true, true_or, apply_ite (State.blank w), ite_self, foldl_blank, implies_true, h_fab]

@[simp] theorem State.forwardOn_blank (h_ports : Group.ports ∈ w) (h_fab : Group.fab ∈ w) (h_faults : Group.faults ∈ w) (h_free : Group.free ∈ w) (s : State) (p : Fin 2) (out : Fin 2) (nh : Nat) (f : AmFrame) :
    (State.forwardOn s p out nh f).blank w = s.blank w := by
  unfold State.forwardOn
  dsimp only
  (repeat' split) <;> first | (simp only [State.evFree_blank, State.nackDrop_blank, State.police_blank, State.updPort_blank, blank_mk, eq_self, or_true, true_or, apply_ite (State.blank w), ite_self, foldl_blank, implies_true, h_ports, h_fab, h_faults, h_free]; done)

@[simp] theorem execFrameForForwarding_blank (h_ports : Group.ports ∈ w) (h_fab : Group.fab ∈ w) (h_faults : Group.faults ∈ w) (h_free : Group.free ∈ w) (p : Fin 2) (f : AmFrame) (s : State) :
    ran w (execFrameForForwarding p f s) = some (s.blank w) := by
  unfold execFrameForForwarding
  refine congrArg some (State.rx_blank h_ports _ _ _ _ _ (fun t => ?_))
  dsimp only
  (repeat' split) <;> first
  | (simp only [State.duplicate_blank, State.forwardOn_blank, State.fwdEv_blank, State.nackDrop_blank, State.rx_blank, State.updPort_blank, blank_mk, eq_self, or_true, true_or, apply_ite (State.blank w), ite_self, foldl_blank, implies_true, ran_next, apply_ite (ran w), h_ports, h_fab, h_faults, h_free]; done)
  | (rename_i e _; have e' := State.duplicate_blank h_fab t (headOf f); simp only [e] at e'; simp only [State.duplicate_blank, State.forwardOn_blank, State.fwdEv_blank, State.nackDrop_blank, State.rx_blank, State.updPort_blank, blank_mk, eq_self, or_true, true_or, apply_ite (State.blank w), ite_self, foldl_blank, implies_true, ran_next, apply_ite (ran w), h_ports, h_fab, h_faults, h_free, e']; done)
  | (rename_i e _ _; have e' := State.duplicate_blank h_fab t (headOf f); simp only [e] at e'; simp only [State.duplicate_blank, State.forwardOn_blank, State.fwdEv_blank, State.nackDrop_blank, State.rx_blank, State.updPort_blank, blank_mk, eq_self, or_true, true_or, apply_ite (State.blank w), ite_self, foldl_blank, implies_true, ran_next, apply_ite (ran w), h_ports, h_fab, h_faults, h_free, e']; done)
  | (rename_i e _ _ _; have e' := State.duplicate_blank h_fab t (headOf f); simp only [e] at e'; simp only [State.duplicate_blank, State.forwardOn_blank, State.fwdEv_blank, State.nackDrop_blank, State.rx_blank, State.updPort_blank, blank_mk, eq_self, or_true, true_or, apply_ite (State.blank w), ite_self, foldl_blank, implies_true, ran_next, apply_ite (ran w), h_ports, h_fab, h_faults, h_free, e']; done)

@[simp] theorem execSegRequest_blank (h_ports : Group.ports ∈ w) (h_fab : Group.fab ∈ w) (h_faults : Group.faults ∈ w) (h_free : Group.free ∈ w) (p : Fin 2) (f : AmFrame) (s : State) :
    ran w (execSegRequest p f s) = some (s.blank w) := by
  unfold execSegRequest
  refine congrArg some (State.rx_blank h_ports _ _ _ _ _ (fun t => ?_))
  dsimp only
  split
  · rfl
  · split
    · split
      · rename_i e
        exact (State.queueControl_blank h_ports e).trans (by
          split
          · split <;> simp only [State.forwardOn_blank, State.fwdEv_blank, State.raiseFree_blank, State.rx_blank, State.updPort_blank, blank_mk, eq_self, or_true, true_or, apply_ite (State.blank w), ite_self, foldl_blank, implies_true, ran_next, apply_ite (ran w), h_ports, h_fab, h_faults, h_free]
          · split <;> simp only [State.forwardOn_blank, State.fwdEv_blank, State.raiseFree_blank, State.rx_blank, State.updPort_blank, blank_mk, eq_self, or_true, true_or, apply_ite (State.blank w), ite_self, foldl_blank, implies_true, ran_next, apply_ite (ran w), h_ports, h_fab, h_faults, h_free])
      · split
        · split <;> simp only [State.forwardOn_blank, State.fwdEv_blank, State.raiseFree_blank, State.rx_blank, State.updPort_blank, blank_mk, eq_self, or_true, true_or, apply_ite (State.blank w), ite_self, foldl_blank, implies_true, ran_next, apply_ite (ran w), h_ports, h_fab, h_faults, h_free]
        · split <;> simp only [State.forwardOn_blank, State.fwdEv_blank, State.raiseFree_blank, State.rx_blank, State.updPort_blank, blank_mk, eq_self, or_true, true_or, apply_ite (State.blank w), ite_self, foldl_blank, implies_true, ran_next, apply_ite (ran w), h_ports, h_fab, h_faults, h_free]
    · (repeat' split) <;> simp only [State.forwardOn_blank, State.fwdEv_blank, State.raiseFree_blank, State.rx_blank, State.updPort_blank, blank_mk, eq_self, or_true, true_or, apply_ite (State.blank w), ite_self, foldl_blank, implies_true, ran_next, apply_ite (ran w), h_ports, h_fab, h_faults, h_free]

@[simp] theorem State.forwardStep_blank (h_host : Group.host ∈ w) (h_intake : Group.intake ∈ w) (h_ports : Group.ports ∈ w) (h_fab : Group.fab ∈ w) (h_iso : Group.iso ∈ w) (h_faults : Group.faults ∈ w) (s : State) :
    (State.forwardStep s).blank w = s.blank w := by
  unfold State.forwardStep
  dsimp only
  refine (foldl_blank _ (fun t a => ?_) _ _).trans ?_
  all_goals (repeat' split) <;> first | (simp only [State.dropped_blank, State.enqueue_blank, State.nackDrop_blank, blank_mk, eq_self, or_true, true_or, apply_ite (State.blank w), ite_self, foldl_blank, implies_true, h_host, h_intake, h_ports, h_fab, h_iso, h_faults]; done) | (have e' := State.queueControl_blank h_ports (by assumption); simp only [State.dropped_blank, State.enqueue_blank, State.nackDrop_blank, blank_mk, eq_self, or_true, true_or, apply_ite (State.blank w), ite_self, foldl_blank, implies_true, h_host, h_intake, h_ports, h_fab, h_iso, h_faults, e'])

@[simp] theorem State.sentOffered_blank (h_host : Group.host ∈ w) (h_intake : Group.intake ∈ w) (h_ports : Group.ports ∈ w) (h_fab : Group.fab ∈ w) (h_iso : Group.iso ∈ w) (h_twin : Group.twin ∈ w) (h_faults : Group.faults ∈ w) (s : State) (p : Fin 2) (cls : Fin 4) (start : Int) :
    (State.sentOffered s p cls start).blank w = s.blank w := by
  unfold State.sentOffered
  (repeat' split) <;> simp only [State.claimsAnew_blank, State.doneWith_blank, State.updPort_blank, blank_mk, eq_self, or_true, true_or, apply_ite (State.blank w), ite_self, foldl_blank, implies_true, h_host, h_intake, h_ports, h_fab, h_iso, h_twin, h_faults]

@[simp] theorem State.fabSent_blank (h_host : Group.host ∈ w) (h_intake : Group.intake ∈ w) (h_ports : Group.ports ∈ w) (h_fab : Group.fab ∈ w) (h_iso : Group.iso ∈ w) (h_twin : Group.twin ∈ w) (h_faults : Group.faults ∈ w) (s : State) (p : Fin 2) (cls : Fin 4) (off : Nat) (gone : Nat) :
    (State.fabSent s p cls off gone).blank w = s.blank w := by
  unfold State.fabSent
  dsimp only
  (repeat' split) <;> first | (simp only [State.sentOffered_blank, State.updPort_blank, blank_mk, eq_self, or_true, true_or, apply_ite (State.blank w), ite_self, foldl_blank, implies_true, h_host, h_intake, h_ports, h_fab, h_iso, h_twin, h_faults]; done)

@[simp] theorem execCanFrameTransmitted_blank (h_host : Group.host ∈ w) (h_intake : Group.intake ∈ w) (h_ports : Group.ports ∈ w) (h_fab : Group.fab ∈ w) (h_iso : Group.iso ∈ w) (h_twin : Group.twin ∈ w) (h_faults : Group.faults ∈ w) (p : Fin 3) (cls : Fin 4) (off : Nat) (gone : Nat) (s : State) :
    ran w (execCanFrameTransmitted p cls off gone s) = some (s.blank w) := by
  unfold execCanFrameTransmitted
  by_cases e : p = 2
  · simp only [e, if_true, State.fabSent_blank, State.isoSent_blank, blank_mk, eq_self, or_true, true_or, apply_ite (State.blank w), ite_self, foldl_blank, implies_true, ran_next, apply_ite (ran w), h_host, h_intake, h_ports, h_fab, h_iso, h_twin, h_faults]
  · simp only [e, if_false, State.fabSent_blank, State.isoSent_blank, blank_mk, eq_self, or_true, true_or, apply_ite (State.blank w), ite_self, foldl_blank, implies_true, ran_next, apply_ite (ran w), h_host, h_intake, h_ports, h_fab, h_iso, h_twin, h_faults]

end Sys2Proof.Machine
end

