-- ==== Sys2Proof/Laws/Message.lean ====
section
/-! SUPPORT. The parts of the state that the operations of Machine/Message.lean can change: all others keep their value. -/

namespace Sys2Proof.Machine

set_option linter.all false
set_option linter.unusedSimpArgs false

variable {w : List Group}

@[simp] theorem State.asmFailed_blank (h_ports : Group.ports ∈ w) (s : State) (p : Fin 2) :
    (State.asmFailed s p).blank w = s.blank w := by
  unfold State.asmFailed
  simp only [State.updPort_blank, blank_mk, eq_self, or_true, true_or, apply_ite (State.blank w), ite_self, foldl_blank, implies_true, h_ports]

@[simp] theorem State.assemble_blank (h_ports : Group.ports ∈ w) (h_fab : Group.fab ∈ w) (s : State) (p : Fin 2) (f : AmFrame) :
    (State.assemble s p f).1.blank w = s.blank w := by
  unfold State.assemble
  dsimp only
  (repeat' split) <;> first | (simp only [State.asmFailed_blank, blank_mk, eq_self, or_true, true_or, apply_ite (State.blank w), ite_self, foldl_blank, implies_true, h_ports, h_fab]; done)

@[simp] theorem execReassemblyTimeout_blank (h_ports : Group.ports ∈ w) (h_fab : Group.fab ∈ w) (p : Fin 2) (src : Nat) (tag : Nat) (s : State) :
    ran w (execReassemblyTimeout p src tag s) = some (s.blank w) := by
  unfold execReassemblyTimeout
  simp only [State.asmFailed_blank, blank_mk, eq_self, or_true, true_or, apply_ite (State.blank w), ite_self, foldl_blank, implies_true, ran_next, apply_ite (ran w), h_ports, h_fab]

@[simp] theorem State.handOver_blank (h_intake : Group.intake ∈ w) (s : State) (h : Nat) (x : HopSt) (cmd : List Byte) :
    (State.handOver s h x cmd).blank w = s.blank w := by
  unfold State.handOver
  simp only [State.notePeak_blank, State.putSlot_blank, State.setHop_blank, blank_mk, eq_self, or_true, true_or, apply_ite (State.blank w), ite_self, foldl_blank, implies_true, h_intake]

@[simp] theorem State.busyEv_blank (h_intake : Group.intake ∈ w) (h_fab : Group.fab ∈ w) (h_faults : Group.faults ∈ w) (h_free : Group.free ∈ w) (s : State) :
    (State.busyEv s).blank w = s.blank w := by
  unfold State.busyEv
  simp only [State.evFree_blank, blank_mk, eq_self, or_true, true_or, apply_ite (State.blank w), ite_self, foldl_blank, implies_true, h_intake, h_fab, h_faults, h_free]

@[simp] theorem State.countRefused_blank (h_intake : Group.intake ∈ w) (s : State) (k : Fin 4) :
    (State.countRefused s k).blank w = s.blank w := by
  unfold State.countRefused
  simp only [blank_mk, eq_self, or_true, true_or, apply_ite (State.blank w), ite_self, foldl_blank, implies_true, h_intake]

@[simp] theorem State.takeFabric_blank (h_intake : Group.intake ∈ w) (h_ports : Group.ports ∈ w) (h_fab : Group.fab ∈ w) (h_faults : Group.faults ∈ w) (h_free : Group.free ∈ w) (s : State) (p : Fin 2) (a : AmHead) (ftime : Bool) (body : List Byte) :
    (State.takeFabric s p a ftime body).blank w = s.blank w := by
  unfold State.takeFabric
  (repeat' split) <;> simp only [State.asmFailed_blank, State.busyEv_blank, State.countRefused_blank, State.handOver_blank, State.sendNack_blank, blank_mk, eq_self, or_true, true_or, apply_ite (State.blank w), ite_self, foldl_blank, implies_true, h_intake, h_ports, h_fab, h_faults, h_free]

@[simp] theorem execFabricCmd_blank (h_intake : Group.intake ∈ w) (h_ports : Group.ports ∈ w) (h_fab : Group.fab ∈ w) (h_faults : Group.faults ∈ w) (h_free : Group.free ∈ w) (p : Fin 2) (f : AmFrame) (s : State) :
    ran w (execFabricCmd p f s) = some (s.blank w) := by
  unfold execFabricCmd
  refine congrArg some (State.rx_blank h_ports _ _ _ _ _ (fun t => ?_))
  have e' := State.assemble_blank h_ports h_fab t p f
  dsimp only
  (repeat' split) <;> simp only [State.assemble_blank, State.rx_blank, State.takeFabric_blank, blank_mk, eq_self, or_true, true_or, apply_ite (State.blank w), ite_self, foldl_blank, implies_true, ran_next, apply_ite (ran w), h_intake, h_ports, h_fab, h_faults, h_free, e']

@[simp] theorem execDataReceived_blank (h_ports : Group.ports ∈ w) (h_fab : Group.fab ∈ w) (h_faults : Group.faults ∈ w) (h_free : Group.free ∈ w) (p : Fin 2) (f : AmFrame) (s : State) :
    ran w (execDataReceived p f s) = some (s.blank w) := by
  unfold execDataReceived
  refine congrArg some (State.rx_blank h_ports _ _ _ _ _ (fun t => ?_))
  have e' := State.assemble_blank h_ports h_fab t p f
  dsimp only
  (repeat' split) <;> simp only [State.assemble_blank, State.noteEvFree_blank, State.rx_blank, blank_mk, eq_self, or_true, true_or, apply_ite (State.blank w), ite_self, foldl_blank, implies_true, ran_next, apply_ite (ran w), h_ports, h_fab, h_faults, h_free, e']

@[simp] theorem execNackReceived_blank (h_ports : Group.ports ∈ w) (h_fab : Group.fab ∈ w) (h_faults : Group.faults ∈ w) (p : Fin 2) (f : AmFrame) (s : State) :
    ran w (execNackReceived p f s) = some (s.blank w) := by
  unfold execNackReceived
  simp only [State.evIf_blank, State.rx_blank, State.updPort_blank, blank_mk, eq_self, or_true, true_or, apply_ite (State.blank w), ite_self, foldl_blank, implies_true, ran_next, apply_ite (ran w), h_ports, h_fab, h_faults]

@[simp] theorem execCyclicReceived_blank (h_ports : Group.ports ∈ w) (p : Fin 2) (f : AmFrame) (s : State) :
    ran w (execCyclicReceived p f s) = some (s.blank w) := by
  unfold execCyclicReceived
  refine congrArg some (State.rx_blank h_ports _ _ _ _ _ (fun t => ?_))
  dsimp only
  (repeat' split) <;> simp only [State.rx_blank, State.updPort_blank, blank_mk, eq_self, or_true, true_or, apply_ite (State.blank w), ite_self, foldl_blank, implies_true, ran_next, apply_ite (ran w), h_ports]

@[simp] theorem State.cycLatch_blank (h_ports : Group.ports ∈ w) (s : State) (p : Fin 2) :
    (State.cycLatch s p).blank w = s.blank w := by
  unfold State.cycLatch
  simp only [State.updPort_blank, blank_mk, eq_self, or_true, true_or, apply_ite (State.blank w), ite_self, foldl_blank, implies_true, h_ports]

@[simp] theorem State.sendHbeat_blank (h_host : Group.host ∈ w) (h_intake : Group.intake ∈ w) (h_ports : Group.ports ∈ w) (h_fab : Group.fab ∈ w) (h_iso : Group.iso ∈ w) (h_faults : Group.faults ∈ w) (s : State) (p : Fin 2) (addr : Nat) :
    (State.sendHbeat s p addr).blank w = s.blank w := by
  unfold State.sendHbeat
  simp only [State.enqueue_blank, State.nextTag_blank, blank_mk, eq_self, or_true, true_or, apply_ite (State.blank w), ite_self, foldl_blank, implies_true, h_host, h_intake, h_ports, h_fab, h_iso, h_faults]

@[simp] theorem execBeaconReceived_blank (h_frame : Group.frame ∈ w) (h_ret : Group.ret ∈ w) (h_host : Group.host ∈ w) (h_intake : Group.intake ∈ w) (h_ports : Group.ports ∈ w) (h_fab : Group.fab ∈ w) (h_iso : Group.iso ∈ w) (h_faults : Group.faults ∈ w) (h_free : Group.free ∈ w) (p : Fin 2) (f : AmFrame) (off : Int) (s : State) :
    ran w (execBeaconReceived p f off s) = some (s.blank w) := by
  unfold execBeaconReceived
  simp only [State.raiseFree_blank, State.raise_blank, State.rx_blank, State.sendHbeat_blank, State.takeBeacon_blank, blank_mk, eq_self, or_true, true_or, apply_ite (State.blank w), ite_self, foldl_blank, implies_true, ran_next, apply_ite (ran w), h_frame, h_ret, h_host, h_intake, h_ports, h_fab, h_iso, h_faults, h_free]

@[simp] theorem State.hbeatSuper_blank (h_host : Group.host ∈ w) (h_intake : Group.intake ∈ w) (h_ports : Group.ports ∈ w) (h_fab : Group.fab ∈ w) (h_iso : Group.iso ∈ w) (h_faults : Group.faults ∈ w) (s : State) (p : Fin 2) :
    (State.hbeatSuper s p).blank w = s.blank w := by
  unfold State.hbeatSuper
  split
  · rfl
  · extract_lets due s1
    have e : s1.blank w = s.blank w := by
      simp only [s1]
      split <;> simp only [State.sendHbeat_blank, blank_mk, eq_self, or_true, true_or, apply_ite (State.blank w), ite_self, foldl_blank, implies_true, h_host, h_intake, h_ports, h_fab, h_iso, h_faults]
    clear_value s1 due
    split
    · extract_lets u
      have eu : u.blank w = s.blank w := by
        simp only [u]
        split <;> simp only [State.sendHbeat_blank, blank_mk, eq_self, or_true, true_or, apply_ite (State.blank w), ite_self, foldl_blank, implies_true, h_host, h_intake, h_ports, h_fab, h_iso, h_faults, e]
      clear_value u
      split <;> simp only [State.sendHbeat_blank, blank_mk, eq_self, or_true, true_or, apply_ite (State.blank w), ite_self, foldl_blank, implies_true, h_host, h_intake, h_ports, h_fab, h_iso, h_faults, eu]
    · exact e

@[simp] theorem State.evtSuper_blank (h_host : Group.host ∈ w) (h_intake : Group.intake ∈ w) (h_ports : Group.ports ∈ w) (h_fab : Group.fab ∈ w) (h_iso : Group.iso ∈ w) (h_faults : Group.faults ∈ w) (s : State) :
    (State.evtSuper s).blank w = s.blank w := by
  unfold State.evtSuper
  dsimp only
  (repeat' split) <;> first | (simp only [State.enqueue_blank, State.nextTag_blank, blank_mk, eq_self, or_true, true_or, apply_ite (State.blank w), ite_self, foldl_blank, implies_true, h_host, h_intake, h_ports, h_fab, h_iso, h_faults]; done)

@[simp] theorem State.sendSleep_blank (h_host : Group.host ∈ w) (h_intake : Group.intake ∈ w) (h_ports : Group.ports ∈ w) (h_fab : Group.fab ∈ w) (h_iso : Group.iso ∈ w) (h_faults : Group.faults ∈ w) (s : State) (op : Nat) (pl : SleepPlan) :
    (State.sendSleep s op pl).blank w = s.blank w := by
  unfold State.sendSleep
  simp only [State.enqueue_blank, State.nextTag_blank, forPorts_blank, blank_mk, eq_self, or_true, true_or, apply_ite (State.blank w), ite_self, foldl_blank, implies_true, h_host, h_intake, h_ports, h_fab, h_iso, h_faults]

@[simp] theorem State.sleepSuper_blank (h_host : Group.host ∈ w) (h_intake : Group.intake ∈ w) (h_ports : Group.ports ∈ w) (h_fab : Group.fab ∈ w) (h_iso : Group.iso ∈ w) (h_faults : Group.faults ∈ w) (s : State) :
    (State.sleepSuper s).blank w = s.blank w := by
  unfold State.sleepSuper
  (repeat' split) <;> simp only [State.sendSleep_blank, blank_mk, eq_self, or_true, true_or, apply_ite (State.blank w), ite_self, foldl_blank, implies_true, h_host, h_intake, h_ports, h_fab, h_iso, h_faults]

@[simp] theorem State.beaconSuper_blank (h_ports : Group.ports ∈ w) (s : State) (p : Fin 2) :
    (State.beaconSuper s p).blank w = s.blank w := by
  unfold State.beaconSuper
  dsimp only
  (repeat' split) <;> first | (simp only [State.updPort_blank, blank_mk, eq_self, or_true, true_or, apply_ite (State.blank w), ite_self, foldl_blank, implies_true, h_ports]; done)

@[simp] theorem State.cycRelease_blank (h_ports : Group.ports ∈ w) (h_free : Group.free ∈ w) (s : State) (p : Fin 2) :
    (State.cycRelease s p).blank w = s.blank w := by
  unfold State.cycRelease
  dsimp only
  (repeat' split) <;> first | (simp only [State.fresh_blank, State.updPort_blank, blank_mk, eq_self, or_true, true_or, apply_ite (State.blank w), ite_self, foldl_blank, implies_true, h_ports, h_free]; done)

@[simp] theorem State.portSuper_blank (h_host : Group.host ∈ w) (h_intake : Group.intake ∈ w) (h_ports : Group.ports ∈ w) (h_fab : Group.fab ∈ w) (h_iso : Group.iso ∈ w) (h_twin : Group.twin ∈ w) (h_faults : Group.faults ∈ w) (h_free : Group.free ∈ w) (s : State) (p : Fin 2) :
    (State.portSuper s p).blank w = s.blank w := by
  unfold State.portSuper
  simp only [State.beaconSuper_blank, State.evFree_blank, State.fillBuckets_blank, State.hbeatSuper_blank, State.routeSuper_blank, State.sendClaim_blank, State.sendPairClaim_blank, State.updPort_blank, blank_mk, eq_self, or_true, true_or, apply_ite (State.blank w), ite_self, foldl_blank, implies_true, h_host, h_intake, h_ports, h_fab, h_iso, h_twin, h_faults, h_free]

@[simp] theorem State.fabSuper_blank (h_host : Group.host ∈ w) (h_intake : Group.intake ∈ w) (h_ports : Group.ports ∈ w) (h_fab : Group.fab ∈ w) (h_iso : Group.iso ∈ w) (h_twin : Group.twin ∈ w) (h_faults : Group.faults ∈ w) (h_free : Group.free ∈ w) (s : State) :
    (State.fabSuper s).blank w = s.blank w := by
  unfold State.fabSuper
  simp only [State.evtSuper_blank, State.portSuper_blank, State.routesAge_blank, State.sleepSuper_blank, State.watchReturns_blank, forPorts_blank, blank_mk, eq_self, or_true, true_or, apply_ite (State.blank w), ite_self, foldl_blank, implies_true, h_host, h_intake, h_ports, h_fab, h_iso, h_twin, h_faults, h_free]

theorem State.issueInternal_blank (h_intake : Group.intake ∈ w) {s : State} {op : Nat} {axes : Nat} {payload : List Byte} {t : State} (e : State.issueInternal s op axes payload = some t) :
    t.blank w = s.blank w := by
  unfold State.issueInternal at e
  (repeat' split at e) <;> simp only [Option.some.injEq, reduceCtorEq, Prod.mk.injEq] at e <;> (try subst e) <;> simp only [State.handOver_blank, blank_mk, eq_self, or_true, true_or, apply_ite (State.blank w), ite_self, foldl_blank, implies_true, h_intake]

@[simp] theorem State.issueActions_blank (h_intake : Group.intake ∈ w) (h_fab : Group.fab ∈ w) (s : State) :
    (State.issueActions s).blank w = s.blank w := by
  unfold State.issueActions
  dsimp only
  refine (foldl_blank _ (fun t a => ?_) _ _).trans ?_
  all_goals (repeat' split) <;> first | (simp only [blank_mk, eq_self, or_true, true_or, apply_ite (State.blank w), ite_self, foldl_blank, implies_true, h_intake, h_fab]; done) | (have e' := State.issueInternal_blank h_intake (by assumption); simp only [blank_mk, eq_self, or_true, true_or, apply_ite (State.blank w), ite_self, foldl_blank, implies_true, h_intake, h_fab, e'])

@[simp] theorem State.netStatus_blank (h_free : Group.free ∈ w) (s : State) (p : Fin 2) :
    (State.netStatus s p).2.blank w = s.blank w := by
  unfold State.netStatus
  simp only [State.fresh_blank, blank_mk, eq_self, or_true, true_or, apply_ite (State.blank w), ite_self, foldl_blank, implies_true, h_free]

@[simp] theorem netStatusSpec_blank (h_host : Group.host ∈ w) (h_intake : Group.intake ∈ w) (h_ports : Group.ports ∈ w) (h_fab : Group.fab ∈ w) (h_iso : Group.iso ∈ w) (h_faults : Group.faults ∈ w) (h_free : Group.free ∈ w) (s : State) (h : Nat) :
    (netStatusSpec.start s h).blank w = s.blank w := by
  unfold netStatusSpec
  simp only [State.doneWith_blank, State.netStatus_blank, blank_mk, eq_self, or_true, true_or, apply_ite (State.blank w), ite_self, foldl_blank, implies_true, h_host, h_intake, h_ports, h_fab, h_iso, h_faults, h_free]

@[simp] theorem netStatusSpec_taken (s : State) (h : Nat) :
    (netStatusSpec.taken s h).blank w = s.blank w := by simp only [netStatusSpec]

@[simp] theorem execNetStatus_blank (h_host : Group.host ∈ w) (h_intake : Group.intake ∈ w) (h_plan : Group.plan ∈ w) (h_ports : Group.ports ∈ w) (h_fab : Group.fab ∈ w) (h_iso : Group.iso ∈ w) (h_svc : Group.svc ∈ w) (h_faults : Group.faults ∈ w) (h_free : Group.free ∈ w) (h : Fin 32) (s : State) :
    ran w (execNetStatus h s) = some (s.blank w) := by
  unfold execNetStatus
  simp only [netStatusSpec_blank, takeRow_blank, blank_mk, eq_self, or_true, true_or, apply_ite (State.blank w), ite_self, foldl_blank, implies_true, ran_next, apply_ite (ran w), h_host, h_intake, h_plan, h_ports, h_fab, h_iso, h_svc, h_faults, h_free, netStatusSpec_taken]

@[simp] theorem netRouteSpec_blank (h_host : Group.host ∈ w) (h_intake : Group.intake ∈ w) (h_ports : Group.ports ∈ w) (h_fab : Group.fab ∈ w) (h_iso : Group.iso ∈ w) (h_faults : Group.faults ∈ w) (s : State) (h : Nat) :
    (netRouteSpec.start s h).blank w = s.blank w := by
  unfold netRouteSpec
  simp only [State.doneWith_blank, blank_mk, eq_self, or_true, true_or, apply_ite (State.blank w), ite_self, foldl_blank, implies_true, h_host, h_intake, h_ports, h_fab, h_iso, h_faults]

@[simp] theorem netRouteSpec_taken (s : State) (h : Nat) :
    (netRouteSpec.taken s h).blank w = s.blank w := by simp only [netRouteSpec]

@[simp] theorem execNetRoute_blank (h_host : Group.host ∈ w) (h_intake : Group.intake ∈ w) (h_plan : Group.plan ∈ w) (h_ports : Group.ports ∈ w) (h_fab : Group.fab ∈ w) (h_iso : Group.iso ∈ w) (h_svc : Group.svc ∈ w) (h_faults : Group.faults ∈ w) (h : Fin 32) (s : State) :
    ran w (execNetRoute h s) = some (s.blank w) := by
  unfold execNetRoute
  simp only [netRouteSpec_blank, takeRow_blank, blank_mk, eq_self, or_true, true_or, apply_ite (State.blank w), ite_self, foldl_blank, implies_true, ran_next, apply_ite (ran w), h_host, h_intake, h_plan, h_ports, h_fab, h_iso, h_svc, h_faults, netRouteSpec_taken]

@[simp] theorem netQstatSpec_blank (h_host : Group.host ∈ w) (h_intake : Group.intake ∈ w) (h_ports : Group.ports ∈ w) (h_fab : Group.fab ∈ w) (h_iso : Group.iso ∈ w) (h_faults : Group.faults ∈ w) (s : State) (h : Nat) :
    (netQstatSpec.start s h).blank w = s.blank w := by
  unfold netQstatSpec
  simp only [State.doneWith_blank, State.updPort_blank, blank_mk, eq_self, or_true, true_or, apply_ite (State.blank w), ite_self, foldl_blank, implies_true, h_host, h_intake, h_ports, h_fab, h_iso, h_faults]

@[simp] theorem netQstatSpec_taken (s : State) (h : Nat) :
    (netQstatSpec.taken s h).blank w = s.blank w := by simp only [netQstatSpec]

@[simp] theorem execNetQstat_blank (h_host : Group.host ∈ w) (h_intake : Group.intake ∈ w) (h_plan : Group.plan ∈ w) (h_ports : Group.ports ∈ w) (h_fab : Group.fab ∈ w) (h_iso : Group.iso ∈ w) (h_svc : Group.svc ∈ w) (h_faults : Group.faults ∈ w) (h : Fin 32) (s : State) :
    ran w (execNetQstat h s) = some (s.blank w) := by
  unfold execNetQstat
  simp only [netQstatSpec_blank, takeRow_blank, blank_mk, eq_self, or_true, true_or, apply_ite (State.blank w), ite_self, foldl_blank, implies_true, ran_next, apply_ite (ran w), h_host, h_intake, h_plan, h_ports, h_fab, h_iso, h_svc, h_faults, netQstatSpec_taken]

@[simp] theorem netWatchSpec_blank (h_host : Group.host ∈ w) (h_intake : Group.intake ∈ w) (h_ports : Group.ports ∈ w) (h_fab : Group.fab ∈ w) (h_iso : Group.iso ∈ w) (h_faults : Group.faults ∈ w) (s : State) (h : Nat) :
    (netWatchSpec.start s h).blank w = s.blank w := by
  unfold netWatchSpec
  simp only [State.doneWith_blank, blank_mk, eq_self, or_true, true_or, apply_ite (State.blank w), ite_self, foldl_blank, implies_true, h_host, h_intake, h_ports, h_fab, h_iso, h_faults]

@[simp] theorem netWatchSpec_taken (s : State) (h : Nat) :
    (netWatchSpec.taken s h).blank w = s.blank w := by simp only [netWatchSpec]

@[simp] theorem execNetWatch_blank (h_host : Group.host ∈ w) (h_intake : Group.intake ∈ w) (h_plan : Group.plan ∈ w) (h_ports : Group.ports ∈ w) (h_fab : Group.fab ∈ w) (h_iso : Group.iso ∈ w) (h_svc : Group.svc ∈ w) (h_faults : Group.faults ∈ w) (h : Fin 32) (s : State) :
    ran w (execNetWatch h s) = some (s.blank w) := by
  unfold execNetWatch
  simp only [netWatchSpec_blank, takeRow_blank, blank_mk, eq_self, or_true, true_or, apply_ite (State.blank w), ite_self, foldl_blank, implies_true, ran_next, apply_ite (ran w), h_host, h_intake, h_plan, h_ports, h_fab, h_iso, h_svc, h_faults, netWatchSpec_taken]

@[simp] theorem netSendSpec_blank (h_host : Group.host ∈ w) (h_intake : Group.intake ∈ w) (h_ports : Group.ports ∈ w) (h_fab : Group.fab ∈ w) (h_iso : Group.iso ∈ w) (h_faults : Group.faults ∈ w) (s : State) (h : Nat) :
    (netSendSpec.start s h).blank w = s.blank w := by
  unfold netSendSpec
  dsimp only
  (repeat' split) <;> first | (simp only [State.enqueue_blank, State.finish_blank, State.nextTag_blank, blank_mk, eq_self, or_true, true_or, apply_ite (State.blank w), ite_self, foldl_blank, implies_true, h_host, h_intake, h_ports, h_fab, h_iso, h_faults]; done)

@[simp] theorem netSendSpec_taken (s : State) (h : Nat) :
    (netSendSpec.taken s h).blank w = s.blank w := by simp only [netSendSpec]

@[simp] theorem execNetSend_blank (h_host : Group.host ∈ w) (h_intake : Group.intake ∈ w) (h_plan : Group.plan ∈ w) (h_ports : Group.ports ∈ w) (h_fab : Group.fab ∈ w) (h_iso : Group.iso ∈ w) (h_svc : Group.svc ∈ w) (h_faults : Group.faults ∈ w) (h : Fin 32) (s : State) :
    ran w (execNetSend h s) = some (s.blank w) := by
  unfold execNetSend
  simp only [netSendSpec_blank, takeRow_blank, blank_mk, eq_self, or_true, true_or, apply_ite (State.blank w), ite_self, foldl_blank, implies_true, ran_next, apply_ite (ran w), h_host, h_intake, h_plan, h_ports, h_fab, h_iso, h_svc, h_faults, netSendSpec_taken]

@[simp] theorem netRecvSpec_blank (h_host : Group.host ∈ w) (h_intake : Group.intake ∈ w) (h_ports : Group.ports ∈ w) (h_fab : Group.fab ∈ w) (h_iso : Group.iso ∈ w) (h_faults : Group.faults ∈ w) (s : State) (h : Nat) :
    (netRecvSpec.start s h).blank w = s.blank w := by
  unfold netRecvSpec
  dsimp only
  (repeat' split) <;> first | (simp only [State.doneWith_blank, blank_mk, eq_self, or_true, true_or, apply_ite (State.blank w), ite_self, foldl_blank, implies_true, h_host, h_intake, h_ports, h_fab, h_iso, h_faults]; done)

@[simp] theorem netRecvSpec_taken (s : State) (h : Nat) :
    (netRecvSpec.taken s h).blank w = s.blank w := by simp only [netRecvSpec]

@[simp] theorem execNetRecv_blank (h_host : Group.host ∈ w) (h_intake : Group.intake ∈ w) (h_plan : Group.plan ∈ w) (h_ports : Group.ports ∈ w) (h_fab : Group.fab ∈ w) (h_iso : Group.iso ∈ w) (h_svc : Group.svc ∈ w) (h_faults : Group.faults ∈ w) (h : Fin 32) (s : State) :
    ran w (execNetRecv h s) = some (s.blank w) := by
  unfold execNetRecv
  simp only [netRecvSpec_blank, takeRow_blank, blank_mk, eq_self, or_true, true_or, apply_ite (State.blank w), ite_self, foldl_blank, implies_true, ran_next, apply_ite (ran w), h_host, h_intake, h_plan, h_ports, h_fab, h_iso, h_svc, h_faults, netRecvSpec_taken]

@[simp] theorem State.setSched_blank (h_pins : Group.pins ∈ w) (h_intake : Group.intake ∈ w) (h_params : Group.params ∈ w) (h_ports : Group.ports ∈ w) (s : State) (h : Nat) (t : Option Sched) :
    (State.setSched s h t).blank w = s.blank w := by
  unfold State.setSched
  simp only [State.awaitVerdict_blank, State.updPort_blank, State.writeWorking_blank, blank_mk, eq_self, or_true, true_or, apply_ite (State.blank w), ite_self, foldl_blank, implies_true, h_pins, h_intake, h_params, h_ports]

@[simp] theorem netSchedLoadSpec_blank (h_pins : Group.pins ∈ w) (h_intake : Group.intake ∈ w) (h_params : Group.params ∈ w) (h_ports : Group.ports ∈ w) (s : State) (h : Nat) :
    (netSchedLoadSpec.start s h).blank w = s.blank w := by
  unfold netSchedLoadSpec
  simp only [State.setSched_blank, blank_mk, eq_self, or_true, true_or, apply_ite (State.blank w), ite_self, foldl_blank, implies_true, h_pins, h_intake, h_params, h_ports]

@[simp] theorem netSchedLoadSpec_taken (s : State) (h : Nat) :
    (netSchedLoadSpec.taken s h).blank w = s.blank w := by simp only [netSchedLoadSpec]

@[simp] theorem execNetSchedLoad_blank (h_pins : Group.pins ∈ w) (h_host : Group.host ∈ w) (h_intake : Group.intake ∈ w) (h_params : Group.params ∈ w) (h_plan : Group.plan ∈ w) (h_ports : Group.ports ∈ w) (h_fab : Group.fab ∈ w) (h_iso : Group.iso ∈ w) (h_svc : Group.svc ∈ w) (h_faults : Group.faults ∈ w) (h : Fin 32) (s : State) :
    ran w (execNetSchedLoad h s) = some (s.blank w) := by
  unfold execNetSchedLoad
  simp only [netSchedLoadSpec_blank, takeRow_blank, blank_mk, eq_self, or_true, true_or, apply_ite (State.blank w), ite_self, foldl_blank, implies_true, ran_next, apply_ite (ran w), h_pins, h_host, h_intake, h_params, h_plan, h_ports, h_fab, h_iso, h_svc, h_faults, netSchedLoadSpec_taken]

@[simp] theorem netSchedValidateSpec_blank (h_host : Group.host ∈ w) (h_intake : Group.intake ∈ w) (h_ports : Group.ports ∈ w) (h_fab : Group.fab ∈ w) (h_iso : Group.iso ∈ w) (h_faults : Group.faults ∈ w) (s : State) (h : Nat) :
    (netSchedValidateSpec.start s h).blank w = s.blank w := by
  unfold netSchedValidateSpec
  simp only [State.doneWith_blank, blank_mk, eq_self, or_true, true_or, apply_ite (State.blank w), ite_self, foldl_blank, implies_true, h_host, h_intake, h_ports, h_fab, h_iso, h_faults]

@[simp] theorem netSchedValidateSpec_taken (s : State) (h : Nat) :
    (netSchedValidateSpec.taken s h).blank w = s.blank w := by simp only [netSchedValidateSpec]

@[simp] theorem execNetSchedValidate_blank (h_host : Group.host ∈ w) (h_intake : Group.intake ∈ w) (h_plan : Group.plan ∈ w) (h_ports : Group.ports ∈ w) (h_fab : Group.fab ∈ w) (h_iso : Group.iso ∈ w) (h_svc : Group.svc ∈ w) (h_faults : Group.faults ∈ w) (h : Fin 32) (s : State) :
    ran w (execNetSchedValidate h s) = some (s.blank w) := by
  unfold execNetSchedValidate
  simp only [netSchedValidateSpec_blank, takeRow_blank, blank_mk, eq_self, or_true, true_or, apply_ite (State.blank w), ite_self, foldl_blank, implies_true, ran_next, apply_ite (ran w), h_host, h_intake, h_plan, h_ports, h_fab, h_iso, h_svc, h_faults, netSchedValidateSpec_taken]

@[simp] theorem netSchedSaveSpec_blank (h_host : Group.host ∈ w) (h_intake : Group.intake ∈ w) (h_ports : Group.ports ∈ w) (h_fab : Group.fab ∈ w) (h_iso : Group.iso ∈ w) (h_faults : Group.faults ∈ w) (s : State) (h : Nat) :
    (netSchedSaveSpec.start s h).blank w = s.blank w := by
  unfold netSchedSaveSpec
  simp only [State.doneWith_blank, State.updPort_blank, blank_mk, eq_self, or_true, true_or, apply_ite (State.blank w), ite_self, foldl_blank, implies_true, h_host, h_intake, h_ports, h_fab, h_iso, h_faults]

@[simp] theorem netSchedSaveSpec_taken (s : State) (h : Nat) :
    (netSchedSaveSpec.taken s h).blank w = s.blank w := by simp only [netSchedSaveSpec]

@[simp] theorem execNetSchedSave_blank (h_host : Group.host ∈ w) (h_intake : Group.intake ∈ w) (h_plan : Group.plan ∈ w) (h_ports : Group.ports ∈ w) (h_fab : Group.fab ∈ w) (h_iso : Group.iso ∈ w) (h_svc : Group.svc ∈ w) (h_faults : Group.faults ∈ w) (h : Fin 32) (s : State) :
    ran w (execNetSchedSave h s) = some (s.blank w) := by
  unfold execNetSchedSave
  simp only [netSchedSaveSpec_blank, takeRow_blank, blank_mk, eq_self, or_true, true_or, apply_ite (State.blank w), ite_self, foldl_blank, implies_true, ran_next, apply_ite (ran w), h_host, h_intake, h_plan, h_ports, h_fab, h_iso, h_svc, h_faults, netSchedSaveSpec_taken]

@[simp] theorem netSchedReadSpec_blank (h_host : Group.host ∈ w) (h_intake : Group.intake ∈ w) (h_ports : Group.ports ∈ w) (h_fab : Group.fab ∈ w) (h_iso : Group.iso ∈ w) (h_faults : Group.faults ∈ w) (s : State) (h : Nat) :
    (netSchedReadSpec.start s h).blank w = s.blank w := by
  unfold netSchedReadSpec
  simp only [State.doneBulk_blank, blank_mk, eq_self, or_true, true_or, apply_ite (State.blank w), ite_self, foldl_blank, implies_true, h_host, h_intake, h_ports, h_fab, h_iso, h_faults]

@[simp] theorem netSchedReadSpec_taken (s : State) (h : Nat) :
    (netSchedReadSpec.taken s h).blank w = s.blank w := by simp only [netSchedReadSpec]

@[simp] theorem execNetSchedRead_blank (h_host : Group.host ∈ w) (h_intake : Group.intake ∈ w) (h_plan : Group.plan ∈ w) (h_ports : Group.ports ∈ w) (h_fab : Group.fab ∈ w) (h_iso : Group.iso ∈ w) (h_svc : Group.svc ∈ w) (h_faults : Group.faults ∈ w) (h : Fin 32) (s : State) :
    ran w (execNetSchedRead h s) = some (s.blank w) := by
  unfold execNetSchedRead
  simp only [netSchedReadSpec_blank, takeRow_blank, blank_mk, eq_self, or_true, true_or, apply_ite (State.blank w), ite_self, foldl_blank, implies_true, ran_next, apply_ite (ran w), h_host, h_intake, h_plan, h_ports, h_fab, h_iso, h_svc, h_faults, netSchedReadSpec_taken]

@[simp] theorem netSchedReloadSpec_blank (h_pins : Group.pins ∈ w) (h_intake : Group.intake ∈ w) (h_params : Group.params ∈ w) (h_ports : Group.ports ∈ w) (s : State) (h : Nat) :
    (netSchedReloadSpec.start s h).blank w = s.blank w := by
  unfold netSchedReloadSpec
  simp only [State.setSched_blank, blank_mk, eq_self, or_true, true_or, apply_ite (State.blank w), ite_self, foldl_blank, implies_true, h_pins, h_intake, h_params, h_ports]

@[simp] theorem netSchedReloadSpec_taken (s : State) (h : Nat) :
    (netSchedReloadSpec.taken s h).blank w = s.blank w := by simp only [netSchedReloadSpec]

@[simp] theorem execNetSchedReload_blank (h_pins : Group.pins ∈ w) (h_host : Group.host ∈ w) (h_intake : Group.intake ∈ w) (h_params : Group.params ∈ w) (h_plan : Group.plan ∈ w) (h_ports : Group.ports ∈ w) (h_fab : Group.fab ∈ w) (h_iso : Group.iso ∈ w) (h_svc : Group.svc ∈ w) (h_faults : Group.faults ∈ w) (h : Fin 32) (s : State) :
    ran w (execNetSchedReload h s) = some (s.blank w) := by
  unfold execNetSchedReload
  simp only [netSchedReloadSpec_blank, takeRow_blank, blank_mk, eq_self, or_true, true_or, apply_ite (State.blank w), ite_self, foldl_blank, implies_true, ran_next, apply_ite (ran w), h_pins, h_host, h_intake, h_params, h_plan, h_ports, h_fab, h_iso, h_svc, h_faults, netSchedReloadSpec_taken]

@[simp] theorem State.bootScheds_blank (h_ports : Group.ports ∈ w) (s : State) :
    (State.bootScheds s).blank w = s.blank w := by
  unfold State.bootScheds
  simp only [State.updPort_blank, forPorts_blank, blank_mk, eq_self, or_true, true_or, apply_ite (State.blank w), ite_self, foldl_blank, implies_true, h_ports]

end Sys2Proof.Machine
end

