-- ==== Sys2Proof/Laws/Iso.lean ====
section
/-! SUPPORT. The parts of the state that the operations of Machine/Iso.lean can change: all others keep their value. -/

namespace Sys2Proof.Machine

set_option linter.all false
set_option linter.unusedSimpArgs false

variable {w : List Group}

@[simp] theorem State.updIso_blank (h_iso : Group.iso ∈ w) (s : State) (f : IsoSt → IsoSt) :
    (State.updIso s f).blank w = s.blank w := by
  unfold State.updIso
  simp only [blank_mk, eq_self, or_true, true_or, apply_ite (State.blank w), ite_self, foldl_blank, implies_true, h_iso]

theorem State.isoRx_blank (h_iso : Group.iso ∈ w) (s : State) (f : IsoFrame) (k : State → State) (hk : ∀ t, (k t).blank w = t.blank w) :
    (State.isoRx s f k).blank w = s.blank w := by
  unfold State.isoRx
  simp only [State.updIso_blank, blank_mk, eq_self, or_true, true_or, apply_ite (State.blank w), ite_self, foldl_blank, implies_true, h_iso, hk]

@[simp] theorem State.sendClaimed_blank (h_iso : Group.iso ∈ w) (s : State) (src : Nat) :
    (State.sendClaimed s src).blank w = s.blank w := by
  unfold State.sendClaimed
  simp only [State.isoSend_blank, blank_mk, eq_self, or_true, true_or, apply_ite (State.blank w), ite_self, foldl_blank, implies_true, h_iso]

@[simp] theorem State.isoClaimAt_blank (h_iso : Group.iso ∈ w) (s : State) (a : Nat) :
    (State.isoClaimAt s a).blank w = s.blank w := by
  unfold State.isoClaimAt
  simp only [State.sendClaimed_blank, State.updIso_blank, blank_mk, eq_self, or_true, true_or, apply_ite (State.blank w), ite_self, foldl_blank, implies_true, h_iso]

@[simp] theorem State.isoEnable_blank (h_iso : Group.iso ∈ w) (s : State) :
    (State.isoEnable s).blank w = s.blank w := by
  unfold State.isoEnable
  simp only [State.isoClaimAt_blank, State.updIso_blank, blank_mk, eq_self, or_true, true_or, apply_ite (State.blank w), ite_self, foldl_blank, implies_true, h_iso]

@[simp] theorem State.isoAgain_blank (h_iso : Group.iso ∈ w) (s : State) :
    (State.isoAgain s).blank w = s.blank w := by
  unfold State.isoAgain
  (repeat' split) <;> simp only [State.isoClaimAt_blank, blank_mk, eq_self, or_true, true_or, apply_ite (State.blank w), ite_self, foldl_blank, implies_true, h_iso]

@[simp] theorem State.isoDisable_blank (h_iso : Group.iso ∈ w) (h_faults : Group.faults ∈ w) (s : State) :
    (State.isoDisable s).blank w = s.blank w := by
  unfold State.isoDisable
  simp only [State.condEnd_blank, State.updIso_blank, blank_mk, eq_self, or_true, true_or, apply_ite (State.blank w), ite_self, foldl_blank, implies_true, h_iso, h_faults]

@[simp] theorem execAddressClaimed_blank (h_fab : Group.fab ∈ w) (h_iso : Group.iso ∈ w) (h_faults : Group.faults ∈ w) (h_free : Group.free ∈ w) (f : IsoFrame) (s : State) :
    ran w (execAddressClaimed f s) = some (s.blank w) := by
  unfold execAddressClaimed
  refine congrArg some (State.isoRx_blank h_iso _ _ _ (fun t => ?_))
  dsimp only
  (repeat' split) <;> simp only [State.evFree_blank, State.isoClaimAt_blank, State.isoRx_blank, State.raiseFree_blank, State.sendClaimed_blank, State.updIso_blank, blank_mk, eq_self, or_true, true_or, apply_ite (State.blank w), ite_self, foldl_blank, implies_true, ran_next, apply_ite (ran w), h_fab, h_iso, h_faults, h_free]

@[simp] theorem execIsoClaimTimer_blank (h_fab : Group.fab ∈ w) (h_iso : Group.iso ∈ w) (h_faults : Group.faults ∈ w) (s : State) :
    ran w (execIsoClaimTimer s) = some (s.blank w) := by
  unfold execIsoClaimTimer
  simp only [State.condEnd_blank, State.ev_blank, State.updIso_blank, blank_mk, eq_self, or_true, true_or, apply_ite (State.blank w), ite_self, foldl_blank, implies_true, ran_next, apply_ite (ran w), h_fab, h_iso, h_faults]

@[simp] theorem execCannotClaimAddress_blank (h_iso : Group.iso ∈ w) (s : State) :
    ran w (execCannotClaimAddress s) = some (s.blank w) := by
  unfold execCannotClaimAddress
  simp only [State.sendClaimed_blank, State.updIso_blank, blank_mk, eq_self, or_true, true_or, apply_ite (State.blank w), ite_self, foldl_blank, implies_true, ran_next, apply_ite (ran w), h_iso]

@[simp] theorem execCommandedAddress_blank (h_pins : Group.pins ∈ w) (h_intake : Group.intake ∈ w) (h_params : Group.params ∈ w) (h_fab : Group.fab ∈ w) (h_iso : Group.iso ∈ w) (h_faults : Group.faults ∈ w) (src : Nat) (data : List (BitVec 8)) (s : State) :
    ran w (execCommandedAddress src data s) = some (s.blank w) := by
  unfold execCommandedAddress
  simp only [State.ev_blank, State.isoClaimAt_blank, State.writeWorking_blank, blank_mk, eq_self, or_true, true_or, apply_ite (State.blank w), ite_self, foldl_blank, implies_true, ran_next, apply_ite (ran w), h_pins, h_intake, h_params, h_fab, h_iso, h_faults]

@[simp] theorem State.sendStatus_blank (h_iso : Group.iso ∈ w) (s : State) :
    (State.sendStatus s).blank w = s.blank w := by
  unfold State.sendStatus
  simp only [State.isoSend_blank, State.updIso_blank, blank_mk, eq_self, or_true, true_or, apply_ite (State.blank w), ite_self, foldl_blank, implies_true, h_iso]

@[simp] theorem execIsoRequest_blank (h_iso : Group.iso ∈ w) (f : IsoFrame) (s : State) :
    ran w (execIsoRequest f s) = some (s.blank w) := by
  unfold execIsoRequest
  refine congrArg some (State.isoRx_blank h_iso _ _ _ (fun t => ?_))
  dsimp only
  (repeat' split) <;> simp only [State.isoRx_blank, State.isoSend_blank, State.sendClaimed_blank, State.sendStatus_blank, State.updIso_blank, blank_mk, eq_self, or_true, true_or, apply_ite (State.blank w), ite_self, foldl_blank, implies_true, ran_next, apply_ite (ran w), h_iso]

@[simp] theorem execIsoStatusTimer_blank (h_iso : Group.iso ∈ w) (s : State) :
    ran w (execIsoStatusTimer s) = some (s.blank w) := by
  unfold execIsoStatusTimer
  simp only [State.sendStatus_blank, State.updIso_blank, blank_mk, eq_self, or_true, true_or, apply_ite (State.blank w), ite_self, foldl_blank, implies_true, ran_next, apply_ite (ran w), h_iso]

@[simp] theorem State.sendCm_blank (h_iso : Group.iso ∈ w) (s : State) (dst : Nat) (body : List Byte) :
    (State.sendCm s dst body).blank w = s.blank w := by
  unfold State.sendCm
  simp only [State.isoSend_blank, blank_mk, eq_self, or_true, true_or, apply_ite (State.blank w), ite_self, foldl_blank, implies_true, h_iso]

@[simp] theorem State.sendCts_blank (h_iso : Group.iso ∈ w) (s : State) (t : TpSession) :
    (State.sendCts s t).blank w = s.blank w := by
  unfold State.sendCts
  simp only [State.sendCm_blank, blank_mk, eq_self, or_true, true_or, apply_ite (State.blank w), ite_self, foldl_blank, implies_true, h_iso]

@[simp] theorem State.setSessions_blank (h_iso : Group.iso ∈ w) (s : State) (l : List TpSession) :
    (State.setSessions s l).blank w = s.blank w := by
  unfold State.setSessions
  simp only [State.updIso_blank, blank_mk, eq_self, or_true, true_or, apply_ite (State.blank w), ite_self, foldl_blank, implies_true, h_iso]

@[simp] theorem State.tpLost_blank (h_fab : Group.fab ∈ w) (h_iso : Group.iso ∈ w) (h_faults : Group.faults ∈ w) (s : State) (reason : Nat) :
    (State.tpLost s reason).blank w = s.blank w := by
  unfold State.tpLost
  simp only [State.ev_blank, State.updIso_blank, blank_mk, eq_self, or_true, true_or, apply_ite (State.blank w), ite_self, foldl_blank, implies_true, h_fab, h_iso, h_faults]

@[simp] theorem State.sendPackets_blank (h_iso : Group.iso ∈ w) (s : State) (t : TpSession) (first : Nat) (n : Nat) :
    (State.sendPackets s t first n).blank w = s.blank w := by
  unfold State.sendPackets
  simp only [State.isoSend_blank, blank_mk, eq_self, or_true, true_or, apply_ite (State.blank w), ite_self, foldl_blank, implies_true, h_iso]

@[simp] theorem State.tpOpen_blank (h_iso : Group.iso ∈ w) (s : State) (src : Nat) (pgn : Nat) (size : Nat) (bam : Bool) :
    (State.tpOpen s src pgn size bam).blank w = s.blank w := by
  unfold State.tpOpen
  simp only [State.sendCm_blank, State.sendCts_blank, State.setSessions_blank, blank_mk, eq_self, or_true, true_or, apply_ite (State.blank w), ite_self, foldl_blank, implies_true, h_iso]

@[simp] theorem State.tpManage_blank (h_fab : Group.fab ∈ w) (h_iso : Group.iso ∈ w) (h_faults : Group.faults ∈ w) (s : State) (f : IsoFrame) :
    (State.tpManage s f).blank w = s.blank w := by
  unfold State.tpManage
  dsimp only
  (repeat' split) <;> first | (simp only [State.sendPackets_blank, State.setSessions_blank, State.tpLost_blank, State.tpOpen_blank, blank_mk, eq_self, or_true, true_or, apply_ite (State.blank w), ite_self, foldl_blank, implies_true, h_fab, h_iso, h_faults]; done)

@[simp] theorem State.tpData_blank (h_fab : Group.fab ∈ w) (h_iso : Group.iso ∈ w) (h_faults : Group.faults ∈ w) (s : State) (f : IsoFrame) :
    (State.tpData s f).blank w = s.blank w := by
  unfold State.tpData
  dsimp only
  (repeat' split) <;> first | (simp only [State.sendCm_blank, State.sendCts_blank, State.setSessions_blank, State.tpLost_blank, blank_mk, eq_self, or_true, true_or, apply_ite (State.blank w), ite_self, foldl_blank, implies_true, h_fab, h_iso, h_faults]; done)

@[simp] theorem execIsoTransportFrame_blank (h_fab : Group.fab ∈ w) (h_iso : Group.iso ∈ w) (h_faults : Group.faults ∈ w) (h_free : Group.free ∈ w) (f : IsoFrame) (s : State) :
    ran w (execIsoTransportFrame f s) = some (s.blank w) := by
  unfold execIsoTransportFrame
  (repeat' split) <;> simp only [State.evFree_blank, State.isoRx_blank, State.tpData_blank, State.tpManage_blank, State.updIso_blank, blank_mk, eq_self, or_true, true_or, apply_ite (State.blank w), ite_self, foldl_blank, implies_true, ran_next, apply_ite (ran w), h_fab, h_iso, h_faults, h_free]

@[simp] theorem execIsoTransportTimeout_blank (h_fab : Group.fab ∈ w) (h_iso : Group.iso ∈ w) (h_faults : Group.faults ∈ w) (peer : Nat) (rx : Bool) (bam : Bool) (s : State) :
    ran w (execIsoTransportTimeout peer rx bam s) = some (s.blank w) := by
  unfold execIsoTransportTimeout
  dsimp only
  (repeat' split) <;> first | (simp only [State.sendCm_blank, State.setSessions_blank, State.tpLost_blank, blank_mk, eq_self, or_true, true_or, apply_ite (State.blank w), ite_self, foldl_blank, implies_true, ran_next, apply_ite (ran w), h_fab, h_iso, h_faults]; done)

@[simp] theorem execIsoCommand_blank (h_intake : Group.intake ∈ w) (h_fab : Group.fab ∈ w) (h_iso : Group.iso ∈ w) (h_faults : Group.faults ∈ w) (h_free : Group.free ∈ w) (src : Nat) (data : List (BitVec 8)) (s : State) :
    ran w (execIsoCommand src data s) = some (s.blank w) := by
  unfold execIsoCommand
  dsimp only
  try simp only [State.busyEv_blank, State.countRefused_blank, State.handOver_blank, State.updIso_blank, blank_mk, eq_self, or_true, true_or, apply_ite (State.blank w), ite_self, foldl_blank, implies_true, ran_next, apply_ite (ran w), h_intake, h_fab, h_iso, h_faults, h_free]
  (repeat' split) <;> first | (simp only [State.busyEv_blank, State.countRefused_blank, State.handOver_blank, State.updIso_blank, blank_mk, eq_self, or_true, true_or, apply_ite (State.blank w), ite_self, foldl_blank, implies_true, ran_next, apply_ite (ran w), h_intake, h_fab, h_iso, h_faults, h_free]; done) | (have e' := State.openTp_blank h_iso (by assumption); simp only [State.busyEv_blank, State.countRefused_blank, State.handOver_blank, State.updIso_blank, blank_mk, eq_self, or_true, true_or, apply_ite (State.blank w), ite_self, foldl_blank, implies_true, ran_next, apply_ite (ran w), h_intake, h_fab, h_iso, h_faults, h_free, e'])

@[simp] theorem execIsoSpeedMessage_blank (h_fab : Group.fab ∈ w) (h_iso : Group.iso ∈ w) (h_faults : Group.faults ∈ w) (f : IsoFrame) (s : State) :
    ran w (execIsoSpeedMessage f s) = some (s.blank w) := by
  unfold execIsoSpeedMessage
  (repeat' split) <;> simp only [State.evIf_blank, State.isoRx_blank, State.updIso_blank, blank_mk, eq_self, or_true, true_or, apply_ite (State.blank w), ite_self, foldl_blank, implies_true, ran_next, apply_ite (ran w), h_fab, h_iso, h_faults]

@[simp] theorem State.isoReport_blank (h_free : Group.free ∈ w) (s : State) :
    (State.isoReport s).2.blank w = s.blank w := by
  unfold State.isoReport
  simp only [State.fresh_blank, blank_mk, eq_self, or_true, true_or, apply_ite (State.blank w), ite_self, foldl_blank, implies_true, h_free]

@[simp] theorem isoStatusSpec_blank (h_host : Group.host ∈ w) (h_intake : Group.intake ∈ w) (h_ports : Group.ports ∈ w) (h_fab : Group.fab ∈ w) (h_iso : Group.iso ∈ w) (h_faults : Group.faults ∈ w) (h_free : Group.free ∈ w) (s : State) (h : Nat) :
    (isoStatusSpec.start s h).blank w = s.blank w := by
  unfold isoStatusSpec
  simp only [State.doneWith_blank, State.isoReport_blank, blank_mk, eq_self, or_true, true_or, apply_ite (State.blank w), ite_self, foldl_blank, implies_true, h_host, h_intake, h_ports, h_fab, h_iso, h_faults, h_free]

@[simp] theorem isoStatusSpec_taken (s : State) (h : Nat) :
    (isoStatusSpec.taken s h).blank w = s.blank w := by simp only [isoStatusSpec]

@[simp] theorem execIsoStatus_blank (h_host : Group.host ∈ w) (h_intake : Group.intake ∈ w) (h_plan : Group.plan ∈ w) (h_ports : Group.ports ∈ w) (h_fab : Group.fab ∈ w) (h_iso : Group.iso ∈ w) (h_svc : Group.svc ∈ w) (h_faults : Group.faults ∈ w) (h_free : Group.free ∈ w) (h : Fin 32) (s : State) :
    ran w (execIsoStatus h s) = some (s.blank w) := by
  unfold execIsoStatus
  simp only [isoStatusSpec_blank, takeRow_blank, blank_mk, eq_self, or_true, true_or, apply_ite (State.blank w), ite_self, foldl_blank, implies_true, ran_next, apply_ite (ran w), h_host, h_intake, h_plan, h_ports, h_fab, h_iso, h_svc, h_faults, h_free, isoStatusSpec_taken]

@[simp] theorem execCanBusOff_blank (h_ports : Group.ports ∈ w) (h_iso : Group.iso ∈ w) (h_twin : Group.twin ∈ w) (h_faults : Group.faults ∈ w) (h_free : Group.free ∈ w) (p : Fin 3) (tec : Nat) (s : State) :
    ran w (execCanBusOff p tec s) = some (s.blank w) := by
  unfold execCanBusOff
  simp only [State.noteFree_blank, State.note_blank, State.recallClaims_blank, State.updIso_blank, State.updPort_blank, blank_mk, eq_self, or_true, true_or, apply_ite (State.blank w), ite_self, foldl_blank, implies_true, ran_next, apply_ite (ran w), h_ports, h_iso, h_twin, h_faults, h_free]

@[simp] theorem execCanBusOffRecovery_blank (h_ports : Group.ports ∈ w) (h_iso : Group.iso ∈ w) (h_faults : Group.faults ∈ w) (p : Fin 3) (runs : Nat) (s : State) :
    ran w (execCanBusOffRecovery p runs s) = some (s.blank w) := by
  unfold execCanBusOffRecovery
  simp only [State.busRecovered_blank, State.condEnd_blank, State.isoClaimAt_blank, State.updIso_blank, State.updPort_blank, blank_mk, eq_self, or_true, true_or, apply_ite (State.blank w), ite_self, foldl_blank, implies_true, ran_next, apply_ite (ran w), h_ports, h_iso, h_faults]

end Sys2Proof.Machine
end

