-- ==== Sys2Proof/Laws/Pair.lean ====
section
/-! SUPPORT. The parts of the state that the operations of Machine/Pair.lean can change: all others keep their value. -/

namespace Sys2Proof.Machine

set_option linter.all false
set_option linter.unusedSimpArgs false

variable {w : List Group}

@[simp] theorem State.updTwin_blank (h_twin : Group.twin ∈ w) (s : State) (f : TwinSt → TwinSt) :
    (State.updTwin s f).blank w = s.blank w := by
  unfold State.updTwin
  simp only [blank_mk, eq_self, or_true, true_or, apply_ite (State.blank w), ite_self, foldl_blank, implies_true, h_twin]

@[simp] theorem State.actoClear_blank (h_gate : Group.gate ∈ w) (h_twin : Group.twin ∈ w) (s : State) :
    (State.actoClear s).blank w = s.blank w := by
  unfold State.actoClear
  simp only [State.switchesOff_blank, State.updTwin_blank, forAxes_blank, blank_mk, eq_self, or_true, true_or, apply_ite (State.blank w), ite_self, foldl_blank, implies_true, h_gate, h_twin]

@[simp] theorem State.twinEnable_blank (h_twin : Group.twin ∈ w) (h_faults : Group.faults ∈ w) (s : State) :
    (State.twinEnable s).blank w = s.blank w := by
  unfold State.twinEnable
  simp only [State.noteEv_blank, blank_mk, eq_self, or_true, true_or, apply_ite (State.blank w), ite_self, foldl_blank, implies_true, h_twin, h_faults]

@[simp] theorem State.twinEnds_blank (h_faults : Group.faults ∈ w) (s : State) :
    (State.twinEnds s).blank w = s.blank w := by
  unfold State.twinEnds
  simp only [State.condEnd_blank, blank_mk, eq_self, or_true, true_or, apply_ite (State.blank w), ite_self, foldl_blank, implies_true, h_faults]

@[simp] theorem State.twinDisable_blank (h_gate : Group.gate ∈ w) (h_twin : Group.twin ∈ w) (h_faults : Group.faults ∈ w) (s : State) :
    (State.twinDisable s).blank w = s.blank w := by
  unfold State.twinDisable
  simp only [State.actoClear_blank, State.twinEnds_blank, blank_mk, eq_self, or_true, true_or, apply_ite (State.blank w), ite_self, foldl_blank, implies_true, h_gate, h_twin, h_faults]

@[simp] theorem State.busModes_blank (h_ports : Group.ports ∈ w) (h_iso : Group.iso ∈ w) (s : State) :
    (State.busModes s).blank w = s.blank w := by
  unfold State.busModes
  simp only [State.updIso_blank, State.updPort_blank, forPorts_blank, blank_mk, eq_self, or_true, true_or, apply_ite (State.blank w), ite_self, foldl_blank, implies_true, h_ports, h_iso]

end Sys2Proof.Machine
end

