-- ==== Sys2Proof/Laws/Seq.lean ====
section
/-! SUPPORT. The parts of the state that the operations of Machine/Seq.lean can change: all others keep their value. -/

namespace Sys2Proof.Machine

set_option linter.all false
set_option linter.unusedSimpArgs false

variable {w : List Group}

@[simp] theorem State.reqsAct_blank (h_intake : Group.intake ∈ w) (h_fab : Group.fab ∈ w) (h_faults : Group.faults ∈ w) (s : State) (n : Fin 4) (op : Nat) :
    (State.reqsAct s n op).blank w = s.blank w := by
  unfold State.reqsAct
  refine foldl_blank _ (fun t a => ?_) _ _
  split
  · rfl
  · simp only [State.lateStart_blank, State.setHop_blank, blank_mk, eq_self, or_true, true_or, apply_ite (State.blank w), ite_self, foldl_blank, implies_true, h_intake, h_fab, h_faults]

@[simp] theorem State.endReqs_blank (h_host : Group.host ∈ w) (h_intake : Group.intake ∈ w) (h_ports : Group.ports ∈ w) (h_fab : Group.fab ∈ w) (h_iso : Group.iso ∈ w) (h_faults : Group.faults ∈ w) (s : State) (n : Fin 4) (op : Nat) (code : Nat) (detail : Nat) :
    (State.endReqs s n op code detail).blank w = s.blank w := by
  unfold State.endReqs
  simp only [State.finish_blank, State.reqsAct_blank, blank_mk, eq_self, or_true, true_or, apply_ite (State.blank w), ite_self, foldl_blank, implies_true, h_host, h_intake, h_ports, h_fab, h_iso, h_faults]

@[simp] theorem State.cancelOpposed_blank (h_host : Group.host ∈ w) (h_intake : Group.intake ∈ w) (h_ports : Group.ports ∈ w) (h_fab : Group.fab ∈ w) (h_iso : Group.iso ∈ w) (h_faults : Group.faults ∈ w) (s : State) (n : Fin 4) (on : Bool) :
    (State.cancelOpposed s n on).blank w = s.blank w := by
  unfold State.cancelOpposed
  simp only [State.endReqs_blank, State.reqsAct_blank, blank_mk, eq_self, or_true, true_or, apply_ite (State.blank w), ite_self, foldl_blank, implies_true, h_host, h_intake, h_ports, h_fab, h_iso, h_faults]

@[simp] theorem State.devIdle_blank (h_power : Group.power ∈ w) (s : State) :
    (State.devIdle s).blank w = s.blank w := by
  unfold State.devIdle
  simp only [blank_mk, eq_self, or_true, true_or, apply_ite (State.blank w), ite_self, foldl_blank, implies_true, h_power]

@[simp] theorem State.axStep_blank (h_power : Group.power ∈ w) (s : State) (n : Fin 4) (q : AxSeq) :
    (State.axStep s n q).blank w = s.blank w := by
  unfold State.axStep
  simp only [State.setSeq_blank, blank_mk, eq_self, or_true, true_or, apply_ite (State.blank w), ite_self, foldl_blank, implies_true, h_power]

@[simp] theorem State.keyDrop_blank (h_power : Group.power ∈ w) (s : State) :
    (State.keyDrop s).blank w = s.blank w := by
  unfold State.keyDrop
  simp only [blank_mk, eq_self, or_true, true_or, apply_ite (State.blank w), ite_self, foldl_blank, implies_true, h_power]

@[simp] theorem State.axToOff_blank (h_power : Group.power ∈ w) (h_host : Group.host ∈ w) (h_intake : Group.intake ∈ w) (h_gate : Group.gate ∈ w) (h_ports : Group.ports ∈ w) (h_fab : Group.fab ∈ w) (h_iso : Group.iso ∈ w) (h_faults : Group.faults ∈ w) (s : State) (n : Fin 4) :
    (State.axToOff s n).blank w = s.blank w := by
  unfold State.axToOff
  simp only [State.cancelOpposed_blank, State.devIdle_blank, State.endReqs_blank, State.gatesDead_blank, State.keyDrop_blank, State.setSeq_blank, blank_mk, eq_self, or_true, true_or, apply_ite (State.blank w), ite_self, foldl_blank, implies_true, h_power, h_host, h_intake, h_gate, h_ports, h_fab, h_iso, h_faults]

@[simp] theorem State.keepIndex_blank (h_ret : Group.ret ∈ w) (h_motion : Group.motion ∈ w) (s : State) (n : Fin 4) :
    (State.keepIndex s n).blank w = s.blank w := by
  unfold State.keepIndex
  simp only [State.updMotion_blank, blank_mk, eq_self, or_true, true_or, apply_ite (State.blank w), ite_self, foldl_blank, implies_true, h_ret, h_motion]

@[simp] theorem State.axFail_blank (h_power : Group.power ∈ w) (h_ret : Group.ret ∈ w) (h_host : Group.host ∈ w) (h_intake : Group.intake ∈ w) (h_motion : Group.motion ∈ w) (h_cur : Group.cur ∈ w) (h_wedge : Group.wedge ∈ w) (h_gate : Group.gate ∈ w) (h_follow : Group.follow ∈ w) (h_mon : Group.mon ∈ w) (h_plan : Group.plan ∈ w) (h_ports : Group.ports ∈ w) (h_fab : Group.fab ∈ w) (h_iso : Group.iso ∈ w) (h_svc : Group.svc ∈ w) (h_faults : Group.faults ∈ w) (s : State) (n : Fin 4) (code : Nat) :
    (State.axFail s n code).blank w = s.blank w := by
  unfold State.axFail
  dsimp only
  (repeat' split) <;> first | (simp only [State.abandonTest_blank, State.axToOff_blank, State.brakeOff_blank, State.dropAxis_blank, State.endReqs_blank, State.endUnacted_blank, State.gatesDead_blank, State.keepIndex_blank, State.keyDrop_blank, State.setHop_blank, State.setSeq_blank, State.setTest_blank, State.switchesOff_blank, State.updCur_blank, State.updMotion_blank, blank_mk, eq_self, or_true, true_or, apply_ite (State.blank w), ite_self, foldl_blank, implies_true, h_power, h_ret, h_host, h_intake, h_motion, h_cur, h_wedge, h_gate, h_follow, h_mon, h_plan, h_ports, h_fab, h_iso, h_svc, h_faults]; done)

@[simp] theorem State.axSupplyFail_blank (h_power : Group.power ∈ w) (h_ret : Group.ret ∈ w) (h_host : Group.host ∈ w) (h_intake : Group.intake ∈ w) (h_motion : Group.motion ∈ w) (h_cur : Group.cur ∈ w) (h_wedge : Group.wedge ∈ w) (h_gate : Group.gate ∈ w) (h_follow : Group.follow ∈ w) (h_mon : Group.mon ∈ w) (h_plan : Group.plan ∈ w) (h_ports : Group.ports ∈ w) (h_fab : Group.fab ∈ w) (h_iso : Group.iso ∈ w) (h_svc : Group.svc ∈ w) (h_faults : Group.faults ∈ w) (s : State) (n : Fin 4) (code : Nat) :
    (State.axSupplyFail s n code).blank w = s.blank w := by
  unfold State.axSupplyFail
  simp only [State.axFail_blank, State.setSeq_blank, blank_mk, eq_self, or_true, true_or, apply_ite (State.blank w), ite_self, foldl_blank, implies_true, h_power, h_ret, h_host, h_intake, h_motion, h_cur, h_wedge, h_gate, h_follow, h_mon, h_plan, h_ports, h_fab, h_iso, h_svc, h_faults]

@[simp] theorem State.raiseFail_blank (h_power : Group.power ∈ w) (h_ret : Group.ret ∈ w) (h_host : Group.host ∈ w) (h_intake : Group.intake ∈ w) (h_motion : Group.motion ∈ w) (h_cur : Group.cur ∈ w) (h_wedge : Group.wedge ∈ w) (h_gate : Group.gate ∈ w) (h_follow : Group.follow ∈ w) (h_mon : Group.mon ∈ w) (h_plan : Group.plan ∈ w) (h_ports : Group.ports ∈ w) (h_fab : Group.fab ∈ w) (h_iso : Group.iso ∈ w) (h_svc : Group.svc ∈ w) (h_faults : Group.faults ∈ w) (s : State) (n : Fin 4) (code : Nat) (qual : Nat) :
    (State.raiseFail s n code qual).blank w = s.blank w := by
  unfold State.raiseFail
  simp only [State.axFail_blank, State.raise_blank, blank_mk, eq_self, or_true, true_or, apply_ite (State.blank w), ite_self, foldl_blank, implies_true, h_power, h_ret, h_host, h_intake, h_motion, h_cur, h_wedge, h_gate, h_follow, h_mon, h_plan, h_ports, h_fab, h_iso, h_svc, h_faults]

@[simp] theorem State.gateReady_blank (h_gate : Group.gate ∈ w) (s : State) (n : Fin 4) :
    (State.gateReady s n).blank w = s.blank w := by
  unfold State.gateReady
  simp only [State.updGate_blank, blank_mk, eq_self, or_true, true_or, apply_ite (State.blank w), ite_self, foldl_blank, implies_true, h_gate]

@[simp] theorem State.beginUp_blank (h_power : Group.power ∈ w) (h_intake : Group.intake ∈ w) (h_gate : Group.gate ∈ w) (h_fab : Group.fab ∈ w) (h_faults : Group.faults ∈ w) (s : State) (n : Fin 4) :
    (State.beginUp s n).blank w = s.blank w := by
  unfold State.beginUp
  simp only [State.gateReady_blank, State.reqsAct_blank, State.setSeq_blank, State.updGate_blank, blank_mk, eq_self, or_true, true_or, apply_ite (State.blank w), ite_self, foldl_blank, implies_true, h_power, h_intake, h_gate, h_fab, h_faults]

@[simp] theorem State.tryUp_blank (h_power : Group.power ∈ w) (h_intake : Group.intake ∈ w) (h_gate : Group.gate ∈ w) (h_fab : Group.fab ∈ w) (h_faults : Group.faults ∈ w) (s : State) (n : Fin 4) (d3 : Bool) :
    (State.tryUp s n d3).blank w = s.blank w := by
  unfold State.tryUp
  simp only [State.beginUp_blank, State.setSeq_blank, blank_mk, eq_self, or_true, true_or, apply_ite (State.blank w), ite_self, foldl_blank, implies_true, h_power, h_intake, h_gate, h_fab, h_faults]

@[simp] theorem execAxisUpStart_blank (h_power : Group.power ∈ w) (h_intake : Group.intake ∈ w) (h_gate : Group.gate ∈ w) (h_fab : Group.fab ∈ w) (h_faults : Group.faults ∈ w) (n : Fin 4) (s : State) :
    ran w (execAxisUpStart n s) = some (s.blank w) := by
  unfold execAxisUpStart
  simp only [State.beginUp_blank, blank_mk, eq_self, or_true, true_or, apply_ite (State.blank w), ite_self, foldl_blank, implies_true, ran_next, apply_ite (ran w), h_power, h_intake, h_gate, h_fab, h_faults]

@[simp] theorem State.axOnRequest_blank (h_power : Group.power ∈ w) (h_fab : Group.fab ∈ w) (h_faults : Group.faults ∈ w) (s : State) (n : Fin 4) :
    (State.axOnRequest s n).blank w = s.blank w := by
  unfold State.axOnRequest
  simp only [State.evNames_blank, State.setSeq_blank, blank_mk, eq_self, or_true, true_or, apply_ite (State.blank w), ite_self, foldl_blank, implies_true, h_power, h_fab, h_faults]

@[simp] theorem enableAxisSpec_blank (h_power : Group.power ∈ w) (h_host : Group.host ∈ w) (h_intake : Group.intake ∈ w) (h_params : Group.params ∈ w) (h_ports : Group.ports ∈ w) (h_fab : Group.fab ∈ w) (h_iso : Group.iso ∈ w) (h_faults : Group.faults ∈ w) (s : State) (h : Nat) :
    (enableAxisSpec.start s h).blank w = s.blank w := by
  unfold enableAxisSpec
  dsimp only
  (repeat' split) <;> first | (simp only [State.axOnRequest_blank, State.cancelOpposed_blank, State.copyEnabled_blank, State.endReqs_blank, State.setHop_blank, State.setSeq_blank, blank_mk, eq_self, or_true, true_or, apply_ite (State.blank w), ite_self, foldl_blank, implies_true, h_power, h_host, h_intake, h_params, h_ports, h_fab, h_iso, h_faults]; done)

@[simp] theorem enableAxisSpec_taken (h_params : Group.params ∈ w) (s : State) (h : Nat) :
    (enableAxisSpec.taken s h).blank w = s.blank w := by simp only [enableAxisSpec, State.copyEnabled_blank, h_params]

@[simp] theorem execEnableAxis_blank (h_power : Group.power ∈ w) (h_host : Group.host ∈ w) (h_intake : Group.intake ∈ w) (h_params : Group.params ∈ w) (h_plan : Group.plan ∈ w) (h_ports : Group.ports ∈ w) (h_fab : Group.fab ∈ w) (h_iso : Group.iso ∈ w) (h_svc : Group.svc ∈ w) (h_faults : Group.faults ∈ w) (h : Fin 32) (s : State) :
    ran w (execEnableAxis h s) = some (s.blank w) := by
  unfold execEnableAxis
  simp only [enableAxisSpec_blank, takeRow_blank, blank_mk, eq_self, or_true, true_or, apply_ite (State.blank w), ite_self, foldl_blank, implies_true, ran_next, apply_ite (ran w), h_power, h_host, h_intake, h_params, h_plan, h_ports, h_fab, h_iso, h_svc, h_faults, enableAxisSpec_taken]

@[simp] theorem disableAxisSpec_blank (h_power : Group.power ∈ w) (h_host : Group.host ∈ w) (h_intake : Group.intake ∈ w) (h_gate : Group.gate ∈ w) (h_ports : Group.ports ∈ w) (h_fab : Group.fab ∈ w) (h_iso : Group.iso ∈ w) (h_faults : Group.faults ∈ w) (s : State) (h : Nat) :
    (disableAxisSpec.start s h).blank w = s.blank w := by
  unfold disableAxisSpec
  dsimp only
  (repeat' split) <;> first | (simp only [State.axStep_blank, State.axToOff_blank, State.cancelOpposed_blank, State.setHop_blank, State.setSeq_blank, blank_mk, eq_self, or_true, true_or, apply_ite (State.blank w), ite_self, foldl_blank, implies_true, h_power, h_host, h_intake, h_gate, h_ports, h_fab, h_iso, h_faults]; done)

@[simp] theorem disableAxisSpec_taken (s : State) (h : Nat) :
    (disableAxisSpec.taken s h).blank w = s.blank w := by simp only [disableAxisSpec]

@[simp] theorem execDisableAxis_blank (h_power : Group.power ∈ w) (h_host : Group.host ∈ w) (h_intake : Group.intake ∈ w) (h_gate : Group.gate ∈ w) (h_plan : Group.plan ∈ w) (h_ports : Group.ports ∈ w) (h_fab : Group.fab ∈ w) (h_iso : Group.iso ∈ w) (h_svc : Group.svc ∈ w) (h_faults : Group.faults ∈ w) (h : Fin 32) (s : State) :
    ran w (execDisableAxis h s) = some (s.blank w) := by
  unfold execDisableAxis
  simp only [disableAxisSpec_blank, takeRow_blank, blank_mk, eq_self, or_true, true_or, apply_ite (State.blank w), ite_self, foldl_blank, implies_true, ran_next, apply_ite (ran w), h_power, h_host, h_intake, h_gate, h_plan, h_ports, h_fab, h_iso, h_svc, h_faults, disableAxisSpec_taken]

@[simp] theorem State.restoreIndex_blank (h_motion : Group.motion ∈ w) (h_fab : Group.fab ∈ w) (h_faults : Group.faults ∈ w) (s : State) (n : Fin 4) :
    (State.restoreIndex s n).blank w = s.blank w := by
  unfold State.restoreIndex
  dsimp only
  (repeat' split) <;> first | (simp only [State.ev_blank, State.updMotion_blank, blank_mk, eq_self, or_true, true_or, apply_ite (State.blank w), ite_self, foldl_blank, implies_true, h_motion, h_fab, h_faults]; done)

@[simp] theorem State.axReadyNow_blank (h_power : Group.power ∈ w) (h_host : Group.host ∈ w) (h_intake : Group.intake ∈ w) (h_motion : Group.motion ∈ w) (h_cur : Group.cur ∈ w) (h_wedge : Group.wedge ∈ w) (h_gate : Group.gate ∈ w) (h_channels : Group.channels ∈ w) (h_cmp : Group.cmp ∈ w) (h_sensor : Group.sensor ∈ w) (h_ports : Group.ports ∈ w) (h_fab : Group.fab ∈ w) (h_iso : Group.iso ∈ w) (h_faults : Group.faults ∈ w) (s : State) (n : Fin 4) :
    (State.axReadyNow s n).blank w = s.blank w := by
  unfold State.axReadyNow
  simp only [State.axStep_blank, State.chanReady_blank, State.curReady_blank, State.endReqs_blank, State.gateReady_blank, State.restoreIndex_blank, State.setSeq_blank, State.wedgeReady_blank, blank_mk, eq_self, or_true, true_or, apply_ite (State.blank w), ite_self, foldl_blank, implies_true, h_power, h_host, h_intake, h_motion, h_cur, h_wedge, h_gate, h_channels, h_cmp, h_sensor, h_ports, h_fab, h_iso, h_faults]

@[simp] theorem State.axBack_blank (h_power : Group.power ∈ w) (h_host : Group.host ∈ w) (h_intake : Group.intake ∈ w) (h_wedge : Group.wedge ∈ w) (h_gate : Group.gate ∈ w) (h_ports : Group.ports ∈ w) (h_fab : Group.fab ∈ w) (h_iso : Group.iso ∈ w) (h_faults : Group.faults ∈ w) (s : State) (n : Fin 4) :
    (State.axBack s n).blank w = s.blank w := by
  unfold State.axBack
  simp only [State.axStep_blank, State.endReqs_blank, State.gateReady_blank, State.setSeq_blank, State.wedgeReady_blank, blank_mk, eq_self, or_true, true_or, apply_ite (State.blank w), ite_self, foldl_blank, implies_true, h_power, h_host, h_intake, h_wedge, h_gate, h_ports, h_fab, h_iso, h_faults]

@[simp] theorem State.beginDown_blank (h_power : Group.power ∈ w) (h_host : Group.host ∈ w) (h_intake : Group.intake ∈ w) (h_params : Group.params ∈ w) (h_motion : Group.motion ∈ w) (h_wedge : Group.wedge ∈ w) (h_gate : Group.gate ∈ w) (h_follow : Group.follow ∈ w) (h_mon : Group.mon ∈ w) (h_plan : Group.plan ∈ w) (h_ports : Group.ports ∈ w) (h_fab : Group.fab ∈ w) (h_iso : Group.iso ∈ w) (h_svc : Group.svc ∈ w) (h_faults : Group.faults ∈ w) (s : State) (n : Fin 4) :
    (State.beginDown s n).blank w = s.blank w := by
  unfold State.beginDown
  dsimp only
  (repeat' split) <;> first | (simp only [State.abandonTest_blank, State.axStep_blank, State.cancelWrites_blank, State.endCmd_blank, State.endStops_blank, State.endUnacted_blank, State.leaveRun_blank, State.rampFrom_blank, State.reqsAct_blank, State.setSeq_blank, State.updMotion_blank, blank_mk, eq_self, or_true, true_or, apply_ite (State.blank w), ite_self, foldl_blank, implies_true, h_power, h_host, h_intake, h_params, h_motion, h_wedge, h_gate, h_follow, h_mon, h_plan, h_ports, h_fab, h_iso, h_svc, h_faults]; done)

@[simp] theorem State.axSeqFrame_blank (h_power : Group.power ∈ w) (h_host : Group.host ∈ w) (h_intake : Group.intake ∈ w) (h_params : Group.params ∈ w) (h_motion : Group.motion ∈ w) (h_wedge : Group.wedge ∈ w) (h_gate : Group.gate ∈ w) (h_follow : Group.follow ∈ w) (h_mon : Group.mon ∈ w) (h_plan : Group.plan ∈ w) (h_ports : Group.ports ∈ w) (h_fab : Group.fab ∈ w) (h_iso : Group.iso ∈ w) (h_svc : Group.svc ∈ w) (h_faults : Group.faults ∈ w) (s : State) (n : Fin 4) :
    (State.axSeqFrame s n).blank w = s.blank w := by
  unfold State.axSeqFrame
  (repeat' split) <;> simp only [State.beginDown_blank, State.brakeOff_blank, State.setSeq_blank, blank_mk, eq_self, or_true, true_or, apply_ite (State.blank w), ite_self, foldl_blank, implies_true, h_power, h_host, h_intake, h_params, h_motion, h_wedge, h_gate, h_follow, h_mon, h_plan, h_ports, h_fab, h_iso, h_svc, h_faults]

@[simp] theorem State.upStep_blank (h_power : Group.power ∈ w) (h_gate : Group.gate ∈ w) (h_mon : Group.mon ∈ w) (s : State) (n : Fin 4) (k : Nat) (vals : List Int) :
    (State.upStep s n k vals).blank w = s.blank w := by
  unfold State.upStep
  (repeat' split) <;> simp only [State.axStep_blank, State.beginTest_blank, State.clampOn_blank, State.setSeq_blank, State.switchesOff_blank, State.updGate_blank, State.updItem_blank, blank_mk, eq_self, or_true, true_or, apply_ite (State.blank w), ite_self, foldl_blank, implies_true, h_power, h_gate, h_mon]

@[simp] theorem State.axReversed_blank (h_fab : Group.fab ∈ w) (h_faults : Group.faults ∈ w) (s : State) (n : Fin 4) :
    (State.axReversed s n).blank w = s.blank w := by
  unfold State.axReversed
  simp only [State.evNames_blank, blank_mk, eq_self, or_true, true_or, apply_ite (State.blank w), ite_self, foldl_blank, implies_true, h_fab, h_faults]

@[simp] theorem State.axCheckpoint_blank (h_power : Group.power ∈ w) (h_ret : Group.ret ∈ w) (h_host : Group.host ∈ w) (h_intake : Group.intake ∈ w) (h_params : Group.params ∈ w) (h_motion : Group.motion ∈ w) (h_cur : Group.cur ∈ w) (h_wedge : Group.wedge ∈ w) (h_gate : Group.gate ∈ w) (h_follow : Group.follow ∈ w) (h_mon : Group.mon ∈ w) (h_channels : Group.channels ∈ w) (h_cmp : Group.cmp ∈ w) (h_sensor : Group.sensor ∈ w) (h_plan : Group.plan ∈ w) (h_ports : Group.ports ∈ w) (h_fab : Group.fab ∈ w) (h_iso : Group.iso ∈ w) (h_svc : Group.svc ∈ w) (h_faults : Group.faults ∈ w) (h_free : Group.free ∈ w) (s : State) (n : Fin 4) (vals : List Int) :
    (State.axCheckpoint s n vals).blank w = s.blank w := by
  unfold State.axCheckpoint
  (repeat' split) <;> simp only [State.axBack_blank, State.axReadyNow_blank, State.axReversed_blank, State.axStep_blank, State.axToOff_blank, State.beginDown_blank, State.cancelOpposed_blank, State.fresh_blank, State.itemFault_blank, State.keepIndex_blank, State.raiseFail_blank, State.raise_blank, State.setSeq_blank, State.setTest_blank, State.switchesOff_blank, State.tryUp_blank, State.upStep_blank, blank_mk, eq_self, or_true, true_or, apply_ite (State.blank w), ite_self, foldl_blank, implies_true, h_power, h_ret, h_host, h_intake, h_params, h_motion, h_cur, h_wedge, h_gate, h_follow, h_mon, h_channels, h_cmp, h_sensor, h_plan, h_ports, h_fab, h_iso, h_svc, h_faults, h_free]

@[simp] theorem execOffstateTestVerdict_blank (h_host : Group.host ∈ w) (h_intake : Group.intake ∈ w) (h_gate : Group.gate ∈ w) (h_mon : Group.mon ∈ w) (h_plan : Group.plan ∈ w) (h_ports : Group.ports ∈ w) (h_fab : Group.fab ∈ w) (h_iso : Group.iso ∈ w) (h_svc : Group.svc ∈ w) (h_faults : Group.faults ∈ w) (n : Fin 4) (mv : List Int) (s : State) :
    ran w (execOffstateTestVerdict n mv s) = some (s.blank w) := by
  unfold execOffstateTestVerdict
  dsimp only
  (repeat' split) <;> first | (simp only [State.clampBack_blank, State.finish_blank, State.setTest_blank, State.settle_blank, State.testOutcome_blank, State.updItem_blank, blank_mk, eq_self, or_true, true_or, apply_ite (State.blank w), ite_self, foldl_blank, implies_true, ran_next, apply_ite (ran w), h_host, h_intake, h_gate, h_mon, h_plan, h_ports, h_fab, h_iso, h_svc, h_faults]; done)

end Sys2Proof.Machine
end

