-- ==== Sys2Proof/Laws/Boot.lean ====
section
/-! SUPPORT. The parts of the state that the operations of Machine/Boot.lean can change: all others keep their value. -/

namespace Sys2Proof.Machine

set_option linter.all false
set_option linter.unusedSimpArgs false

variable {w : List Group}

@[simp] theorem State.addRecord_blank (h_ret : Group.ret ∈ w) (s : State) (code : Nat) (qual : Nat) :
    (State.addRecord s code qual).blank w = s.blank w := by
  unfold State.addRecord
  simp only [blank_mk, eq_self, or_true, true_or, apply_ite (State.blank w), ite_self, foldl_blank, implies_true, h_ret]

@[simp] theorem State.sysClear_blank (h_clock : Group.clock ∈ w) (h_frame : Group.frame ∈ w) (h_pins : Group.pins ∈ w) (h_power : Group.power ∈ w) (h_host : Group.host ∈ w) (h_link : Group.link ∈ w) (h_intake : Group.intake ∈ w) (h_params : Group.params ∈ w) (h_motion : Group.motion ∈ w) (h_cur : Group.cur ∈ w) (h_wedge : Group.wedge ∈ w) (h_gate : Group.gate ∈ w) (h_follow : Group.follow ∈ w) (h_mon : Group.mon ∈ w) (h_channels : Group.channels ∈ w) (h_cmp : Group.cmp ∈ w) (h_divo : Group.divo ∈ w) (h_sensor : Group.sensor ∈ w) (h_plan : Group.plan ∈ w) (h_ports : Group.ports ∈ w) (h_fab : Group.fab ∈ w) (h_iso : Group.iso ∈ w) (h_twin : Group.twin ∈ w) (h_svc : Group.svc ∈ w) (h_faults : Group.faults ∈ w) (s : State) (cause : Nat) :
    (State.sysClear s cause).blank w = s.blank w := by
  unfold State.sysClear
  simp only [blank_mk, eq_self, or_true, true_or, apply_ite (State.blank w), ite_self, foldl_blank, implies_true, h_clock, h_frame, h_pins, h_power, h_host, h_link, h_intake, h_params, h_motion, h_cur, h_wedge, h_gate, h_follow, h_mon, h_channels, h_cmp, h_divo, h_sensor, h_plan, h_ports, h_fab, h_iso, h_twin, h_svc, h_faults]

@[simp] theorem State.retSave_blank (h_ret : Group.ret ∈ w) (s : State) :
    (State.retSave s).blank w = s.blank w := by
  unfold State.retSave
  simp only [blank_mk, eq_self, or_true, true_or, apply_ite (State.blank w), ite_self, foldl_blank, implies_true, h_ret]

@[simp] theorem State.framesGone_blank (h_frame : Group.frame ∈ w) (h_power : Group.power ∈ w) (s : State) (gone : Nat) (run : Bool) :
    (State.framesGone s gone run).blank w = s.blank w := by
  unfold State.framesGone
  simp only [blank_mk, eq_self, or_true, true_or, apply_ite (State.blank w), ite_self, foldl_blank, implies_true, h_frame, h_power]

@[simp] theorem State.shiftHeard_blank (h_fab : Group.fab ∈ w) (s : State) (n : Nat) :
    (State.shiftHeard s n).blank w = s.blank w := by
  unfold State.shiftHeard
  simp only [blank_mk, eq_self, or_true, true_or, apply_ite (State.blank w), ite_self, foldl_blank, implies_true, h_fab]

@[simp] theorem State.keyStart_blank (h_power : Group.power ∈ w) (s : State) :
    (State.keyStart s).blank w = s.blank w := by
  unfold State.keyStart
  simp only [blank_mk, eq_self, or_true, true_or, apply_ite (State.blank w), ite_self, foldl_blank, implies_true, h_power]

@[simp] theorem State.requestStart_blank (h_power : Group.power ∈ w) (s : State) :
    (State.requestStart s).blank w = s.blank w := by
  unfold State.requestStart
  simp only [State.setDom_blank, blank_mk, eq_self, or_true, true_or, apply_ite (State.blank w), ite_self, foldl_blank, implies_true, h_power]

@[simp] theorem State.startFromOff_blank (h_clock : Group.clock ∈ w) (h_frame : Group.frame ∈ w) (h_pins : Group.pins ∈ w) (h_power : Group.power ∈ w) (h_host : Group.host ∈ w) (h_link : Group.link ∈ w) (h_intake : Group.intake ∈ w) (h_params : Group.params ∈ w) (h_motion : Group.motion ∈ w) (h_cur : Group.cur ∈ w) (h_wedge : Group.wedge ∈ w) (h_gate : Group.gate ∈ w) (h_follow : Group.follow ∈ w) (h_mon : Group.mon ∈ w) (h_channels : Group.channels ∈ w) (h_cmp : Group.cmp ∈ w) (h_divo : Group.divo ∈ w) (h_sensor : Group.sensor ∈ w) (h_plan : Group.plan ∈ w) (h_ports : Group.ports ∈ w) (h_fab : Group.fab ∈ w) (h_iso : Group.iso ∈ w) (h_twin : Group.twin ∈ w) (h_svc : Group.svc ∈ w) (h_faults : Group.faults ∈ w) (s : State) (cause : Nat) :
    (State.startFromOff s cause).blank w = s.blank w := by
  unfold State.startFromOff
  simp only [State.keyStart_blank, State.requestStart_blank, State.sysClear_blank, blank_mk, eq_self, or_true, true_or, apply_ite (State.blank w), ite_self, foldl_blank, implies_true, h_clock, h_frame, h_pins, h_power, h_host, h_link, h_intake, h_params, h_motion, h_cur, h_wedge, h_gate, h_follow, h_mon, h_channels, h_cmp, h_divo, h_sensor, h_plan, h_ports, h_fab, h_iso, h_twin, h_svc, h_faults]

@[simp] theorem State.readStraps_blank (h_pins : Group.pins ∈ w) (s : State) (tsten : Bool) (roleUp : Bool) (roleDown : Bool) :
    (State.readStraps s tsten roleUp roleDown).blank w = s.blank w := by
  unfold State.readStraps
  simp only [blank_mk, eq_self, or_true, true_or, apply_ite (State.blank w), ite_self, foldl_blank, implies_true, h_pins]

@[simp] theorem State.holdSys_blank (h_power : Group.power ∈ w) (s : State) :
    (State.holdSys s).blank w = s.blank w := by
  unfold State.holdSys
  simp only [State.setDom_blank, blank_mk, eq_self, or_true, true_or, apply_ite (State.blank w), ite_self, foldl_blank, implies_true, h_power]

@[simp] theorem State.bankFails_blank (h_svc : Group.svc ∈ w) (h_faults : Group.faults ∈ w) (s : State) (b : Bool) :
    (State.bankFails s b).blank w = s.blank w := by
  unfold State.bankFails
  simp only [State.raiseAs_blank, blank_mk, eq_self, or_true, true_or, apply_ite (State.blank w), ite_self, foldl_blank, implies_true, h_svc, h_faults]

@[simp] theorem State.bootSelect_blank (h_power : Group.power ∈ w) (h_ret : Group.ret ∈ w) (h_svc : Group.svc ∈ w) (h_faults : Group.faults ∈ w) (h_free : Group.free ∈ w) (s : State) (okA : Bool) (okB : Bool) :
    (State.bootSelect s okA okB).blank w = s.blank w := by
  unfold State.bootSelect
  simp only [State.addRecord_blank, State.bankFails_blank, State.holdSys_blank, State.raiseFree_blank, blank_mk, eq_self, or_true, true_or, apply_ite (State.blank w), ite_self, foldl_blank, implies_true, h_power, h_ret, h_svc, h_faults, h_free]

@[simp] theorem State.startFaults_blank (h_ret : Group.ret ∈ w) (h_faults : Group.faults ∈ w) (h_free : Group.free ∈ w) (s : State) :
    (State.startFaults s).blank w = s.blank w := by
  unfold State.startFaults
  dsimp only
  refine (foldl_blank _ (fun t a => ?_) _ _).trans ?_
  all_goals (repeat' split) <;> first | (simp only [State.fresh_blank, State.raiseAs_blank, State.raise_blank, blank_mk, eq_self, or_true, true_or, apply_ite (State.blank w), ite_self, foldl_blank, implies_true, h_ret, h_faults, h_free]; done)

@[simp] theorem State.bootTestFails_blank (h_clock : Group.clock ∈ w) (h_frame : Group.frame ∈ w) (h_pins : Group.pins ∈ w) (h_power : Group.power ∈ w) (h_ret : Group.ret ∈ w) (h_host : Group.host ∈ w) (h_link : Group.link ∈ w) (h_intake : Group.intake ∈ w) (h_params : Group.params ∈ w) (h_motion : Group.motion ∈ w) (h_cur : Group.cur ∈ w) (h_wedge : Group.wedge ∈ w) (h_gate : Group.gate ∈ w) (h_follow : Group.follow ∈ w) (h_mon : Group.mon ∈ w) (h_channels : Group.channels ∈ w) (h_cmp : Group.cmp ∈ w) (h_divo : Group.divo ∈ w) (h_sensor : Group.sensor ∈ w) (h_plan : Group.plan ∈ w) (h_ports : Group.ports ∈ w) (h_fab : Group.fab ∈ w) (h_iso : Group.iso ∈ w) (h_twin : Group.twin ∈ w) (h_svc : Group.svc ∈ w) (h_faults : Group.faults ∈ w) (s : State) (bit : Nat) (code : Nat) :
    (State.bootTestFails s bit code).blank w = s.blank w := by
  unfold State.bootTestFails
  simp only [State.addRecord_blank, State.beginStep_blank, State.holdSys_blank, State.requestStart_blank, State.sysClear_blank, blank_mk, eq_self, or_true, true_or, apply_ite (State.blank w), ite_self, foldl_blank, implies_true, h_clock, h_frame, h_pins, h_power, h_ret, h_host, h_link, h_intake, h_params, h_motion, h_cur, h_wedge, h_gate, h_follow, h_mon, h_channels, h_cmp, h_divo, h_sensor, h_plan, h_ports, h_fab, h_iso, h_twin, h_svc, h_faults]

@[simp] theorem State.firmwareStart_blank (h_power : Group.power ∈ w) (h_ret : Group.ret ∈ w) (h_params : Group.params ∈ w) (h_cur : Group.cur ∈ w) (h_plan : Group.plan ∈ w) (h_ports : Group.ports ∈ w) (h_fab : Group.fab ∈ w) (h_svc : Group.svc ∈ w) (h_faults : Group.faults ∈ w) (h_free : Group.free ∈ w) (s : State) (okA : Bool) (okB : Bool) :
    (State.firmwareStart s okA okB).blank w = s.blank w := by
  unfold State.firmwareStart
  simp only [State.bootParams_blank, State.bootScheds_blank, State.bootSelect_blank, State.bootTables_blank, State.startFaults_blank, blank_mk, eq_self, or_true, true_or, apply_ite (State.blank w), ite_self, foldl_blank, implies_true, h_power, h_ret, h_params, h_cur, h_plan, h_ports, h_fab, h_svc, h_faults, h_free]

@[simp] theorem State.wakeEvent_blank (h_power : Group.power ∈ w) (h_host : Group.host ∈ w) (h_fab : Group.fab ∈ w) (h_faults : Group.faults ∈ w) (s : State) :
    (State.wakeEvent s).blank w = s.blank w := by
  unfold State.wakeEvent
  (repeat' split) <;> simp only [State.evNames_blank, blank_mk, eq_self, or_true, true_or, apply_ite (State.blank w), ite_self, foldl_blank, implies_true, h_power, h_host, h_fab, h_faults]

@[simp] theorem State.sysReady_blank (h_frame : Group.frame ∈ w) (h_pins : Group.pins ∈ w) (h_power : Group.power ∈ w) (h_ret : Group.ret ∈ w) (h_host : Group.host ∈ w) (h_link : Group.link ∈ w) (h_intake : Group.intake ∈ w) (h_motion : Group.motion ∈ w) (h_cur : Group.cur ∈ w) (h_wedge : Group.wedge ∈ w) (h_gate : Group.gate ∈ w) (h_follow : Group.follow ∈ w) (h_mon : Group.mon ∈ w) (h_plan : Group.plan ∈ w) (h_ports : Group.ports ∈ w) (h_fab : Group.fab ∈ w) (h_iso : Group.iso ∈ w) (h_svc : Group.svc ∈ w) (h_faults : Group.faults ∈ w) (h_free : Group.free ∈ w) (s : State) (gone : Nat) :
    (State.sysReady s gone).blank w = s.blank w := by
  unfold State.sysReady
  dsimp only
  (repeat' split) <;> first | (simp only [State.axSupplyFail_blank, State.ev_blank, State.noteFree_blank, State.raiseFree_blank, State.shiftHeard_blank, State.wakeEvent_blank, forAxes_blank, blank_mk, eq_self, or_true, true_or, apply_ite (State.blank w), ite_self, foldl_blank, implies_true, h_frame, h_pins, h_power, h_ret, h_host, h_link, h_intake, h_motion, h_cur, h_wedge, h_gate, h_follow, h_mon, h_plan, h_ports, h_fab, h_iso, h_svc, h_faults, h_free]; done)

end Sys2Proof.Machine
end

