-- ==== Sys2Proof/Laws/Power.lean ====
section
/-! SUPPORT. The parts of the state that the operations of Machine/Power.lean can change: all others keep their value. -/

namespace Sys2Proof.Machine

set_option linter.all false
set_option linter.unusedSimpArgs false

variable {w : List Group}

@[simp] theorem State.causeEnd_blank (h_faults : Group.faults ∈ w) (s : State) (code : Nat) :
    (State.causeEnd s code).blank w = s.blank w := by
  unfold State.causeEnd
  simp only [State.condEnd_blank, blank_mk, eq_self, or_true, true_or, apply_ite (State.blank w), ite_self, foldl_blank, implies_true, h_faults]

@[simp] theorem State.unitBegin_blank (h_pins : Group.pins ∈ w) (h_channels : Group.channels ∈ w) (h_cmp : Group.cmp ∈ w) (h_divo : Group.divo ∈ w) (h_sensor : Group.sensor ∈ w) (h_ports : Group.ports ∈ w) (h_fab : Group.fab ∈ w) (h_iso : Group.iso ∈ w) (h_twin : Group.twin ∈ w) (h_faults : Group.faults ∈ w) (s : State) (b : Nat) :
    (State.unitBegin s b).blank w = s.blank w := by
  unfold State.unitBegin
  simp only [State.chanEnable_blank, State.divReset_blank, State.isoEnable_blank, State.portEnable_blank, State.sensorEnable_blank, State.twinEnable_blank, State.updPort_blank, blank_mk, eq_self, or_true, true_or, apply_ite (State.blank w), ite_self, foldl_blank, implies_true, h_pins, h_channels, h_cmp, h_divo, h_sensor, h_ports, h_fab, h_iso, h_twin, h_faults]

@[simp] theorem State.unitStart_blank (h_pins : Group.pins ∈ w) (h_channels : Group.channels ∈ w) (h_cmp : Group.cmp ∈ w) (h_divo : Group.divo ∈ w) (h_sensor : Group.sensor ∈ w) (h_ports : Group.ports ∈ w) (h_fab : Group.fab ∈ w) (h_iso : Group.iso ∈ w) (h_twin : Group.twin ∈ w) (h_faults : Group.faults ∈ w) (s : State) (b : Nat) :
    (State.unitStart s b).blank w = s.blank w := by
  unfold State.unitStart
  simp only [State.busModes_blank, State.unitBegin_blank, blank_mk, eq_self, or_true, true_or, apply_ite (State.blank w), ite_self, foldl_blank, implies_true, h_pins, h_channels, h_cmp, h_divo, h_sensor, h_ports, h_fab, h_iso, h_twin, h_faults]

@[simp] theorem State.unitStop_blank (h_pins : Group.pins ∈ w) (h_ret : Group.ret ∈ w) (h_host : Group.host ∈ w) (h_link : Group.link ∈ w) (h_intake : Group.intake ∈ w) (h_params : Group.params ∈ w) (h_motion : Group.motion ∈ w) (h_gate : Group.gate ∈ w) (h_channels : Group.channels ∈ w) (h_cmp : Group.cmp ∈ w) (h_divo : Group.divo ∈ w) (h_sensor : Group.sensor ∈ w) (h_plan : Group.plan ∈ w) (h_ports : Group.ports ∈ w) (h_fab : Group.fab ∈ w) (h_iso : Group.iso ∈ w) (h_twin : Group.twin ∈ w) (h_svc : Group.svc ∈ w) (h_faults : Group.faults ∈ w) (h_free : Group.free ∈ w) (s : State) (b : Nat) :
    (State.unitStop s b).blank w = s.blank w := by
  unfold State.unitStop
  simp only [State.bridgeEnd_blank, State.chanDisable_blank, State.divReset_blank, State.isoDisable_blank, State.planLeave_blank, State.portDisable_blank, State.sensorEnable_blank, State.twinDisable_blank, blank_mk, eq_self, or_true, true_or, apply_ite (State.blank w), ite_self, foldl_blank, implies_true, h_pins, h_ret, h_host, h_link, h_intake, h_params, h_motion, h_gate, h_channels, h_cmp, h_divo, h_sensor, h_plan, h_ports, h_fab, h_iso, h_twin, h_svc, h_faults, h_free]

@[simp] theorem State.unitsUp_blank (h_pins : Group.pins ∈ w) (h_intake : Group.intake ∈ w) (h_params : Group.params ∈ w) (h_channels : Group.channels ∈ w) (h_cmp : Group.cmp ∈ w) (h_divo : Group.divo ∈ w) (h_sensor : Group.sensor ∈ w) (h_ports : Group.ports ∈ w) (h_fab : Group.fab ∈ w) (h_iso : Group.iso ∈ w) (h_twin : Group.twin ∈ w) (h_faults : Group.faults ∈ w) (s : State) (mask : Nat) :
    (State.unitsUp s mask).blank w = s.blank w := by
  unfold State.unitsUp
  refine foldl_blank _ (fun t a => ?_) _ _
  (repeat' split) <;> simp only [State.setHop_blank, State.unitStart_blank, blank_mk, eq_self, or_true, true_or, apply_ite (State.blank w), ite_self, foldl_blank, implies_true, h_pins, h_intake, h_params, h_channels, h_cmp, h_divo, h_sensor, h_ports, h_fab, h_iso, h_twin, h_faults]

@[simp] theorem State.unitDrop_blank (h_params : Group.params ∈ w) (s : State) (h : Nat) :
    (State.unitDrop s h).blank w = s.blank w := by
  unfold State.unitDrop
  simp only [blank_mk, eq_self, or_true, true_or, apply_ite (State.blank w), ite_self, foldl_blank, implies_true, h_params]

@[simp] theorem State.unitsDown_blank (h_pins : Group.pins ∈ w) (h_power : Group.power ∈ w) (h_ret : Group.ret ∈ w) (h_host : Group.host ∈ w) (h_link : Group.link ∈ w) (h_intake : Group.intake ∈ w) (h_params : Group.params ∈ w) (h_motion : Group.motion ∈ w) (h_gate : Group.gate ∈ w) (h_channels : Group.channels ∈ w) (h_cmp : Group.cmp ∈ w) (h_divo : Group.divo ∈ w) (h_sensor : Group.sensor ∈ w) (h_plan : Group.plan ∈ w) (h_ports : Group.ports ∈ w) (h_fab : Group.fab ∈ w) (h_iso : Group.iso ∈ w) (h_twin : Group.twin ∈ w) (h_svc : Group.svc ∈ w) (h_faults : Group.faults ∈ w) (h_free : Group.free ∈ w) (s : State) :
    (State.unitsDown s).blank w = s.blank w := by
  unfold State.unitsDown
  simp only [State.domRequest_blank, State.unitStop_blank, blank_mk, eq_self, or_true, true_or, apply_ite (State.blank w), ite_self, foldl_blank, implies_true, h_pins, h_power, h_ret, h_host, h_link, h_intake, h_params, h_motion, h_gate, h_channels, h_cmp, h_divo, h_sensor, h_plan, h_ports, h_fab, h_iso, h_twin, h_svc, h_faults, h_free]

@[simp] theorem State.unitCmds_blank (h_host : Group.host ∈ w) (h_intake : Group.intake ∈ w) (h_params : Group.params ∈ w) (h_ports : Group.ports ∈ w) (h_fab : Group.fab ∈ w) (h_iso : Group.iso ∈ w) (h_faults : Group.faults ∈ w) (s : State) :
    (State.unitCmds s).blank w = s.blank w := by
  unfold State.unitCmds
  simp only [State.doneWith_blank, State.finish_blank, State.unitDrop_blank, blank_mk, eq_self, or_true, true_or, apply_ite (State.blank w), ite_self, foldl_blank, implies_true, h_host, h_intake, h_params, h_ports, h_fab, h_iso, h_faults]

@[simp] theorem State.unitsService_blank (h_pins : Group.pins ∈ w) (h_power : Group.power ∈ w) (h_ret : Group.ret ∈ w) (h_host : Group.host ∈ w) (h_link : Group.link ∈ w) (h_intake : Group.intake ∈ w) (h_params : Group.params ∈ w) (h_motion : Group.motion ∈ w) (h_gate : Group.gate ∈ w) (h_channels : Group.channels ∈ w) (h_cmp : Group.cmp ∈ w) (h_divo : Group.divo ∈ w) (h_sensor : Group.sensor ∈ w) (h_plan : Group.plan ∈ w) (h_ports : Group.ports ∈ w) (h_fab : Group.fab ∈ w) (h_iso : Group.iso ∈ w) (h_twin : Group.twin ∈ w) (h_svc : Group.svc ∈ w) (h_faults : Group.faults ∈ w) (h_free : Group.free ∈ w) (s : State) :
    (State.unitsService s).blank w = s.blank w := by
  unfold State.unitsService
  simp only [State.unitCmds_blank, State.unitsDown_blank, State.unitsUp_blank, blank_mk, eq_self, or_true, true_or, apply_ite (State.blank w), ite_self, foldl_blank, implies_true, h_pins, h_power, h_ret, h_host, h_link, h_intake, h_params, h_motion, h_gate, h_channels, h_cmp, h_divo, h_sensor, h_plan, h_ports, h_fab, h_iso, h_twin, h_svc, h_faults, h_free]

@[simp] theorem State.fbkPins_blank (h_pins : Group.pins ∈ w) (s : State) :
    (State.fbkPins s).blank w = s.blank w := by
  unfold State.fbkPins
  simp only [blank_mk, eq_self, or_true, true_or, apply_ite (State.blank w), ite_self, foldl_blank, implies_true, h_pins]

@[simp] theorem State.domQuiesce_blank (h_pins : Group.pins ∈ w) (h_power : Group.power ∈ w) (h_host : Group.host ∈ w) (h_intake : Group.intake ∈ w) (h_motion : Group.motion ∈ w) (h_gate : Group.gate ∈ w) (h_mon : Group.mon ∈ w) (h_plan : Group.plan ∈ w) (h_ports : Group.ports ∈ w) (h_fab : Group.fab ∈ w) (h_iso : Group.iso ∈ w) (h_twin : Group.twin ∈ w) (h_svc : Group.svc ∈ w) (h_faults : Group.faults ∈ w) (h_free : Group.free ∈ w) (s : State) (d : Domain) :
    (State.domQuiesce s d).blank w = s.blank w := by
  unfold State.domQuiesce
  (repeat' split) <;> simp only [State.actoClear_blank, State.brakesOff_blank, State.dropSends_blank, State.fbkPins_blank, State.planLeave_blank, State.updIso_blank, State.updPort_blank, State.updTwin_blank, forPorts_blank, blank_mk, eq_self, or_true, true_or, apply_ite (State.blank w), ite_self, foldl_blank, implies_true, h_pins, h_power, h_host, h_intake, h_motion, h_gate, h_mon, h_plan, h_ports, h_fab, h_iso, h_twin, h_svc, h_faults, h_free]

@[simp] theorem State.domOff_blank (h_clock : Group.clock ∈ w) (h_pins : Group.pins ∈ w) (h_host : Group.host ∈ w) (h_intake : Group.intake ∈ w) (h_plan : Group.plan ∈ w) (h_ports : Group.ports ∈ w) (h_fab : Group.fab ∈ w) (h_iso : Group.iso ∈ w) (h_svc : Group.svc ∈ w) (h_faults : Group.faults ∈ w) (s : State) (d : Domain) :
    (State.domOff s d).blank w = s.blank w := by
  unfold State.domOff
  (repeat' split) <;> simp only [State.fbkPins_blank, State.planReset_blank, blank_mk, eq_self, or_true, true_or, apply_ite (State.blank w), ite_self, foldl_blank, implies_true, h_clock, h_pins, h_host, h_intake, h_plan, h_ports, h_fab, h_iso, h_svc, h_faults]

@[simp] theorem State.domDrop_blank (h_clock : Group.clock ∈ w) (h_pins : Group.pins ∈ w) (h_power : Group.power ∈ w) (h_ret : Group.ret ∈ w) (h_host : Group.host ∈ w) (h_intake : Group.intake ∈ w) (h_motion : Group.motion ∈ w) (h_cur : Group.cur ∈ w) (h_wedge : Group.wedge ∈ w) (h_gate : Group.gate ∈ w) (h_follow : Group.follow ∈ w) (h_mon : Group.mon ∈ w) (h_plan : Group.plan ∈ w) (h_ports : Group.ports ∈ w) (h_fab : Group.fab ∈ w) (h_iso : Group.iso ∈ w) (h_twin : Group.twin ∈ w) (h_svc : Group.svc ∈ w) (h_faults : Group.faults ∈ w) (h_free : Group.free ∈ w) (s : State) (d : Domain) (code : Nat) :
    (State.domDrop s d code).blank w = s.blank w := by
  unfold State.domDrop
  (repeat' split) <;> simp only [State.axFail_blank, State.domOff_blank, State.domQuiesce_blank, State.setDom_blank, forAxes_blank, blank_mk, eq_self, or_true, true_or, apply_ite (State.blank w), ite_self, foldl_blank, implies_true, h_clock, h_pins, h_power, h_ret, h_host, h_intake, h_motion, h_cur, h_wedge, h_gate, h_follow, h_mon, h_plan, h_ports, h_fab, h_iso, h_twin, h_svc, h_faults, h_free]

@[simp] theorem State.domBegins_blank (h_power : Group.power ∈ w) (s : State) (d : Domain) :
    (State.domBegins s d).blank w = s.blank w := by
  unfold State.domBegins
  simp only [State.beginStep_blank, blank_mk, eq_self, or_true, true_or, apply_ite (State.blank w), ite_self, foldl_blank, implies_true, h_power]

@[simp] theorem State.settleDoms_blank (h_pins : Group.pins ∈ w) (h_power : Group.power ∈ w) (h_host : Group.host ∈ w) (h_intake : Group.intake ∈ w) (h_motion : Group.motion ∈ w) (h_gate : Group.gate ∈ w) (h_mon : Group.mon ∈ w) (h_plan : Group.plan ∈ w) (h_ports : Group.ports ∈ w) (h_fab : Group.fab ∈ w) (h_iso : Group.iso ∈ w) (h_twin : Group.twin ∈ w) (h_svc : Group.svc ∈ w) (h_faults : Group.faults ∈ w) (h_free : Group.free ∈ w) (s : State) :
    (State.settleDoms s).blank w = s.blank w := by
  unfold State.settleDoms
  dsimp only
  refine (foldl_blank _ (fun t a => ?_) _ _).trans ?_
  all_goals (repeat' split) <;> first | (simp only [State.beginStep_blank, State.domBegins_blank, State.domQuiesce_blank, blank_mk, eq_self, or_true, true_or, apply_ite (State.blank w), ite_self, foldl_blank, implies_true, h_pins, h_power, h_host, h_intake, h_motion, h_gate, h_mon, h_plan, h_ports, h_fab, h_iso, h_twin, h_svc, h_faults, h_free]; done)

@[simp] theorem State.planSave_blank (h_ret : Group.ret ∈ w) (s : State) :
    (State.planSave s).blank w = s.blank w := by
  unfold State.planSave
  simp only [blank_mk, eq_self, or_true, true_or, apply_ite (State.blank w), ite_self, foldl_blank, implies_true, h_ret]

@[simp] theorem State.timerFreeze_blank (h_power : Group.power ∈ w) (s : State) :
    (State.timerFreeze s).blank w = s.blank w := by
  unfold State.timerFreeze
  simp only [blank_mk, eq_self, or_true, true_or, apply_ite (State.blank w), ite_self, foldl_blank, implies_true, h_power]

@[simp] theorem State.changeEnd_blank (h_clock : Group.clock ∈ w) (h_frame : Group.frame ∈ w) (h_pins : Group.pins ∈ w) (h_power : Group.power ∈ w) (h_ret : Group.ret ∈ w) (h_host : Group.host ∈ w) (h_link : Group.link ∈ w) (h_intake : Group.intake ∈ w) (h_params : Group.params ∈ w) (h_motion : Group.motion ∈ w) (h_cur : Group.cur ∈ w) (h_wedge : Group.wedge ∈ w) (h_gate : Group.gate ∈ w) (h_follow : Group.follow ∈ w) (h_mon : Group.mon ∈ w) (h_channels : Group.channels ∈ w) (h_cmp : Group.cmp ∈ w) (h_divo : Group.divo ∈ w) (h_sensor : Group.sensor ∈ w) (h_plan : Group.plan ∈ w) (h_ports : Group.ports ∈ w) (h_fab : Group.fab ∈ w) (h_iso : Group.iso ∈ w) (h_twin : Group.twin ∈ w) (h_svc : Group.svc ∈ w) (h_faults : Group.faults ∈ w) (s : State) :
    (State.changeEnd s).blank w = s.blank w := by
  unfold State.changeEnd
  (repeat' split) <;> simp only [State.planSave_blank, State.retSave_blank, State.sysClear_blank, State.timerFreeze_blank, blank_mk, eq_self, or_true, true_or, apply_ite (State.blank w), ite_self, foldl_blank, implies_true, h_clock, h_frame, h_pins, h_power, h_ret, h_host, h_link, h_intake, h_params, h_motion, h_cur, h_wedge, h_gate, h_follow, h_mon, h_channels, h_cmp, h_divo, h_sensor, h_plan, h_ports, h_fab, h_iso, h_twin, h_svc, h_faults]

@[simp] theorem State.downBegins_blank (h_host : Group.host ∈ w) (h_intake : Group.intake ∈ w) (h_ports : Group.ports ∈ w) (h_fab : Group.fab ∈ w) (h_iso : Group.iso ∈ w) (h_faults : Group.faults ∈ w) (s : State) :
    (State.downBegins s).blank w = s.blank w := by
  unfold State.downBegins
  (repeat' split) <;> simp only [State.doneWith_blank, blank_mk, eq_self, or_true, true_or, apply_ite (State.blank w), ite_self, foldl_blank, implies_true, h_host, h_intake, h_ports, h_fab, h_iso, h_faults]

@[simp] theorem State.changeStep_blank (h_clock : Group.clock ∈ w) (h_frame : Group.frame ∈ w) (h_pins : Group.pins ∈ w) (h_power : Group.power ∈ w) (h_ret : Group.ret ∈ w) (h_host : Group.host ∈ w) (h_link : Group.link ∈ w) (h_intake : Group.intake ∈ w) (h_params : Group.params ∈ w) (h_motion : Group.motion ∈ w) (h_cur : Group.cur ∈ w) (h_wedge : Group.wedge ∈ w) (h_gate : Group.gate ∈ w) (h_follow : Group.follow ∈ w) (h_mon : Group.mon ∈ w) (h_channels : Group.channels ∈ w) (h_cmp : Group.cmp ∈ w) (h_divo : Group.divo ∈ w) (h_sensor : Group.sensor ∈ w) (h_plan : Group.plan ∈ w) (h_ports : Group.ports ∈ w) (h_fab : Group.fab ∈ w) (h_iso : Group.iso ∈ w) (h_twin : Group.twin ∈ w) (h_svc : Group.svc ∈ w) (h_faults : Group.faults ∈ w) (h_free : Group.free ∈ w) (s : State) :
    (State.changeStep s).blank w = s.blank w := by
  unfold State.changeStep
  (repeat' split) <;> simp only [State.beginStep_blank, State.changeEnd_blank, State.domQuiesce_blank, State.downBegins_blank, State.setDom_blank, blank_mk, eq_self, or_true, true_or, apply_ite (State.blank w), ite_self, foldl_blank, implies_true, h_clock, h_frame, h_pins, h_power, h_ret, h_host, h_link, h_intake, h_params, h_motion, h_cur, h_wedge, h_gate, h_follow, h_mon, h_channels, h_cmp, h_divo, h_sensor, h_plan, h_ports, h_fab, h_iso, h_twin, h_svc, h_faults, h_free]

@[simp] theorem State.requestIdle_blank (h_power : Group.power ∈ w) (s : State) :
    (State.requestIdle s).blank w = s.blank w := by
  unfold State.requestIdle
  simp only [State.domRequest_blank, blank_mk, eq_self, or_true, true_or, apply_ite (State.blank w), ite_self, foldl_blank, implies_true, h_power]

@[simp] theorem State.wakeBack_blank (h_clock : Group.clock ∈ w) (h_frame : Group.frame ∈ w) (h_pins : Group.pins ∈ w) (h_power : Group.power ∈ w) (h_ret : Group.ret ∈ w) (h_host : Group.host ∈ w) (h_link : Group.link ∈ w) (h_intake : Group.intake ∈ w) (h_params : Group.params ∈ w) (h_motion : Group.motion ∈ w) (h_cur : Group.cur ∈ w) (h_wedge : Group.wedge ∈ w) (h_gate : Group.gate ∈ w) (h_follow : Group.follow ∈ w) (h_mon : Group.mon ∈ w) (h_channels : Group.channels ∈ w) (h_cmp : Group.cmp ∈ w) (h_divo : Group.divo ∈ w) (h_sensor : Group.sensor ∈ w) (h_plan : Group.plan ∈ w) (h_ports : Group.ports ∈ w) (h_fab : Group.fab ∈ w) (h_iso : Group.iso ∈ w) (h_twin : Group.twin ∈ w) (h_svc : Group.svc ∈ w) (h_faults : Group.faults ∈ w) (s : State) (src : Nat) :
    (State.wakeBack s src).blank w = s.blank w := by
  unfold State.wakeBack
  dsimp only
  (repeat' split) <;> first | (simp only [State.beginStep_blank, State.evNames_blank, State.keyStart_blank, State.planSave_blank, State.requestIdle_blank, State.requestStart_blank, State.retSave_blank, State.sysClear_blank, State.wakeEvent_blank, blank_mk, eq_self, or_true, true_or, apply_ite (State.blank w), ite_self, foldl_blank, implies_true, h_clock, h_frame, h_pins, h_power, h_ret, h_host, h_link, h_intake, h_params, h_motion, h_cur, h_wedge, h_gate, h_follow, h_mon, h_channels, h_cmp, h_divo, h_sensor, h_plan, h_ports, h_fab, h_iso, h_twin, h_svc, h_faults]; done)

@[simp] theorem State.rbSense_blank (h_power : Group.power ∈ w) (s : State) (rbs : Nat) (vbat : Nat) :
    (State.rbSense s rbs vbat).blank w = s.blank w := by
  unfold State.rbSense
  simp only [blank_mk, eq_self, or_true, true_or, apply_ite (State.blank w), ite_self, foldl_blank, implies_true, h_power]

@[simp] theorem State.cpWork_blank (h_clock : Group.clock ∈ w) (h_frame : Group.frame ∈ w) (h_pins : Group.pins ∈ w) (h_power : Group.power ∈ w) (h_ret : Group.ret ∈ w) (h_host : Group.host ∈ w) (h_link : Group.link ∈ w) (h_intake : Group.intake ∈ w) (h_params : Group.params ∈ w) (h_motion : Group.motion ∈ w) (h_cur : Group.cur ∈ w) (h_wedge : Group.wedge ∈ w) (h_gate : Group.gate ∈ w) (h_follow : Group.follow ∈ w) (h_mon : Group.mon ∈ w) (h_channels : Group.channels ∈ w) (h_cmp : Group.cmp ∈ w) (h_divo : Group.divo ∈ w) (h_sensor : Group.sensor ∈ w) (h_plan : Group.plan ∈ w) (h_ports : Group.ports ∈ w) (h_fab : Group.fab ∈ w) (h_iso : Group.iso ∈ w) (h_twin : Group.twin ∈ w) (h_svc : Group.svc ∈ w) (h_faults : Group.faults ∈ w) (h_free : Group.free ∈ w) (s : State) (d : Domain) (k : Nat) (vals : List Int) :
    (State.cpWork s d k vals).blank w = s.blank w := by
  unfold State.cpWork
  (repeat' split) <;> simp only [State.addRecord_blank, State.bootTestFails_blank, State.causeEnd_blank, State.firmwareStart_blank, State.planReset_blank, State.raiseFree_blank, State.readStraps_blank, State.updItem_blank, blank_mk, eq_self, or_true, true_or, apply_ite (State.blank w), ite_self, foldl_blank, implies_true, h_clock, h_frame, h_pins, h_power, h_ret, h_host, h_link, h_intake, h_params, h_motion, h_cur, h_wedge, h_gate, h_follow, h_mon, h_channels, h_cmp, h_divo, h_sensor, h_plan, h_ports, h_fab, h_iso, h_twin, h_svc, h_faults, h_free]

@[simp] theorem State.auxUp_blank (h_power : Group.power ∈ w) (h_host : Group.host ∈ w) (h_mon : Group.mon ∈ w) (h_fab : Group.fab ∈ w) (h_faults : Group.faults ∈ w) (s : State) (vals : List Int) :
    (State.auxUp s vals).blank w = s.blank w := by
  unfold State.auxUp
  dsimp only
  rw [State.wakeEvent_blank h_power h_host h_fab h_faults]
  refine (foldl_blank _ (fun t b => ?_) _ _).trans ?_
  · split <;> simp only [State.brakePin_blank, State.itemService_blank, State.updItem_blank, State.wakeEvent_blank, blank_mk, eq_self, or_true, true_or, apply_ite (State.blank w), ite_self, foldl_blank, implies_true, h_power, h_host, h_mon, h_fab, h_faults]
  · simp only [State.brakePin_blank, State.itemService_blank, State.updItem_blank, State.wakeEvent_blank, blank_mk, eq_self, or_true, true_or, apply_ite (State.blank w), ite_self, foldl_blank, implies_true, h_power, h_host, h_mon, h_fab, h_faults]

@[simp] theorem State.domUp_blank (h_frame : Group.frame ∈ w) (h_pins : Group.pins ∈ w) (h_power : Group.power ∈ w) (h_ret : Group.ret ∈ w) (h_host : Group.host ∈ w) (h_link : Group.link ∈ w) (h_intake : Group.intake ∈ w) (h_params : Group.params ∈ w) (h_motion : Group.motion ∈ w) (h_cur : Group.cur ∈ w) (h_wedge : Group.wedge ∈ w) (h_gate : Group.gate ∈ w) (h_follow : Group.follow ∈ w) (h_mon : Group.mon ∈ w) (h_channels : Group.channels ∈ w) (h_cmp : Group.cmp ∈ w) (h_divo : Group.divo ∈ w) (h_sensor : Group.sensor ∈ w) (h_plan : Group.plan ∈ w) (h_ports : Group.ports ∈ w) (h_fab : Group.fab ∈ w) (h_iso : Group.iso ∈ w) (h_twin : Group.twin ∈ w) (h_svc : Group.svc ∈ w) (h_faults : Group.faults ∈ w) (h_free : Group.free ∈ w) (s : State) (d : Domain) (vals : List Int) :
    (State.domUp s d vals).blank w = s.blank w := by
  unfold State.domUp
  (repeat' split) <;> simp only [State.auxUp_blank, State.rbSense_blank, State.sysReady_blank, State.unitCmds_blank, State.unitStart_blank, State.unitsUp_blank, blank_mk, eq_self, or_true, true_or, apply_ite (State.blank w), ite_self, foldl_blank, implies_true, h_frame, h_pins, h_power, h_ret, h_host, h_link, h_intake, h_params, h_motion, h_cur, h_wedge, h_gate, h_follow, h_mon, h_channels, h_cmp, h_divo, h_sensor, h_plan, h_ports, h_fab, h_iso, h_twin, h_svc, h_faults, h_free]

@[simp] theorem State.domCheckpoint_blank (h_clock : Group.clock ∈ w) (h_frame : Group.frame ∈ w) (h_pins : Group.pins ∈ w) (h_power : Group.power ∈ w) (h_ret : Group.ret ∈ w) (h_host : Group.host ∈ w) (h_link : Group.link ∈ w) (h_intake : Group.intake ∈ w) (h_params : Group.params ∈ w) (h_motion : Group.motion ∈ w) (h_cur : Group.cur ∈ w) (h_wedge : Group.wedge ∈ w) (h_gate : Group.gate ∈ w) (h_follow : Group.follow ∈ w) (h_mon : Group.mon ∈ w) (h_channels : Group.channels ∈ w) (h_cmp : Group.cmp ∈ w) (h_divo : Group.divo ∈ w) (h_sensor : Group.sensor ∈ w) (h_plan : Group.plan ∈ w) (h_ports : Group.ports ∈ w) (h_fab : Group.fab ∈ w) (h_iso : Group.iso ∈ w) (h_twin : Group.twin ∈ w) (h_svc : Group.svc ∈ w) (h_faults : Group.faults ∈ w) (h_free : Group.free ∈ w) (s : State) (d : Domain) (vals : List Int) :
    (State.domCheckpoint s d vals).blank w = s.blank w := by
  unfold State.domCheckpoint
  dsimp only
  (repeat' split) <;> first | (simp only [State.beginStep_blank, State.cpWork_blank, State.domBegins_blank, State.domOff_blank, State.domQuiesce_blank, State.domUp_blank, State.downBegins_blank, State.evNames_blank, State.setDom_blank, State.unitCmds_blank, State.wakeBack_blank, blank_mk, eq_self, or_true, true_or, apply_ite (State.blank w), ite_self, foldl_blank, implies_true, h_clock, h_frame, h_pins, h_power, h_ret, h_host, h_link, h_intake, h_params, h_motion, h_cur, h_wedge, h_gate, h_follow, h_mon, h_channels, h_cmp, h_divo, h_sensor, h_plan, h_ports, h_fab, h_iso, h_twin, h_svc, h_faults, h_free]; done)

@[simp] theorem execCheckpointReached_blank (h_clock : Group.clock ∈ w) (h_frame : Group.frame ∈ w) (h_pins : Group.pins ∈ w) (h_power : Group.power ∈ w) (h_ret : Group.ret ∈ w) (h_host : Group.host ∈ w) (h_link : Group.link ∈ w) (h_intake : Group.intake ∈ w) (h_params : Group.params ∈ w) (h_motion : Group.motion ∈ w) (h_cur : Group.cur ∈ w) (h_wedge : Group.wedge ∈ w) (h_gate : Group.gate ∈ w) (h_follow : Group.follow ∈ w) (h_mon : Group.mon ∈ w) (h_channels : Group.channels ∈ w) (h_cmp : Group.cmp ∈ w) (h_divo : Group.divo ∈ w) (h_sensor : Group.sensor ∈ w) (h_plan : Group.plan ∈ w) (h_ports : Group.ports ∈ w) (h_fab : Group.fab ∈ w) (h_iso : Group.iso ∈ w) (h_twin : Group.twin ∈ w) (h_svc : Group.svc ∈ w) (h_faults : Group.faults ∈ w) (h_free : Group.free ∈ w) (u : SeqUnit) (vals : List Int) (s : State) :
    ran w (execCheckpointReached u vals s) = some (s.blank w) := by
  unfold execCheckpointReached
  (repeat' split) <;> simp only [State.axCheckpoint_blank, State.changeStep_blank, State.domCheckpoint_blank, State.settleDoms_blank, State.settle_blank, blank_mk, eq_self, or_true, true_or, apply_ite (State.blank w), ite_self, foldl_blank, implies_true, ran_next, apply_ite (ran w), h_clock, h_frame, h_pins, h_power, h_ret, h_host, h_link, h_intake, h_params, h_motion, h_cur, h_wedge, h_gate, h_follow, h_mon, h_channels, h_cmp, h_divo, h_sensor, h_plan, h_ports, h_fab, h_iso, h_twin, h_svc, h_faults, h_free]

@[simp] theorem execCheckpointTimeout_blank (h_clock : Group.clock ∈ w) (h_frame : Group.frame ∈ w) (h_pins : Group.pins ∈ w) (h_power : Group.power ∈ w) (h_ret : Group.ret ∈ w) (h_host : Group.host ∈ w) (h_link : Group.link ∈ w) (h_intake : Group.intake ∈ w) (h_params : Group.params ∈ w) (h_motion : Group.motion ∈ w) (h_cur : Group.cur ∈ w) (h_wedge : Group.wedge ∈ w) (h_gate : Group.gate ∈ w) (h_follow : Group.follow ∈ w) (h_mon : Group.mon ∈ w) (h_channels : Group.channels ∈ w) (h_cmp : Group.cmp ∈ w) (h_divo : Group.divo ∈ w) (h_sensor : Group.sensor ∈ w) (h_plan : Group.plan ∈ w) (h_ports : Group.ports ∈ w) (h_fab : Group.fab ∈ w) (h_iso : Group.iso ∈ w) (h_twin : Group.twin ∈ w) (h_svc : Group.svc ∈ w) (h_faults : Group.faults ∈ w) (h_free : Group.free ∈ w) (u : SeqUnit) (us : Nat) (s : State) :
    ran w (execCheckpointTimeout u us s) = some (s.blank w) := by
  unfold execCheckpointTimeout
  (repeat' split) <;> simp only [State.domDrop_blank, State.fresh_blank, State.holdSys_blank, State.note_blank, State.raiseFail_blank, State.raise_blank, State.setDom_blank, State.settle_blank, State.startFromOff_blank, State.unitCmds_blank, blank_mk, eq_self, or_true, true_or, apply_ite (State.blank w), ite_self, foldl_blank, implies_true, ran_next, apply_ite (ran w), h_clock, h_frame, h_pins, h_power, h_ret, h_host, h_link, h_intake, h_params, h_motion, h_cur, h_wedge, h_gate, h_follow, h_mon, h_channels, h_cmp, h_divo, h_sensor, h_plan, h_ports, h_fab, h_iso, h_twin, h_svc, h_faults, h_free]

@[simp] theorem execPowerOn_blank (h_clock : Group.clock ∈ w) (h_frame : Group.frame ∈ w) (h_pins : Group.pins ∈ w) (h_power : Group.power ∈ w) (h_host : Group.host ∈ w) (h_link : Group.link ∈ w) (h_intake : Group.intake ∈ w) (h_params : Group.params ∈ w) (h_motion : Group.motion ∈ w) (h_cur : Group.cur ∈ w) (h_wedge : Group.wedge ∈ w) (h_gate : Group.gate ∈ w) (h_follow : Group.follow ∈ w) (h_mon : Group.mon ∈ w) (h_channels : Group.channels ∈ w) (h_cmp : Group.cmp ∈ w) (h_divo : Group.divo ∈ w) (h_sensor : Group.sensor ∈ w) (h_plan : Group.plan ∈ w) (h_ports : Group.ports ∈ w) (h_fab : Group.fab ∈ w) (h_iso : Group.iso ∈ w) (h_twin : Group.twin ∈ w) (h_svc : Group.svc ∈ w) (h_faults : Group.faults ∈ w) (vbat : Nat) (s : State) :
    ran w (execPowerOn vbat s) = some (s.blank w) := by
  unfold execPowerOn
  simp only [State.startFromOff_blank, blank_mk, eq_self, or_true, true_or, apply_ite (State.blank w), ite_self, foldl_blank, implies_true, ran_next, apply_ite (ran w), h_clock, h_frame, h_pins, h_power, h_host, h_link, h_intake, h_params, h_motion, h_cur, h_wedge, h_gate, h_follow, h_mon, h_channels, h_cmp, h_divo, h_sensor, h_plan, h_ports, h_fab, h_iso, h_twin, h_svc, h_faults]

@[simp] theorem execPowerOff_blank (h_clock : Group.clock ∈ w) (h_frame : Group.frame ∈ w) (h_pins : Group.pins ∈ w) (h_power : Group.power ∈ w) (h_ret : Group.ret ∈ w) (h_host : Group.host ∈ w) (h_link : Group.link ∈ w) (h_intake : Group.intake ∈ w) (h_params : Group.params ∈ w) (h_motion : Group.motion ∈ w) (h_cur : Group.cur ∈ w) (h_wedge : Group.wedge ∈ w) (h_gate : Group.gate ∈ w) (h_follow : Group.follow ∈ w) (h_mon : Group.mon ∈ w) (h_channels : Group.channels ∈ w) (h_cmp : Group.cmp ∈ w) (h_divo : Group.divo ∈ w) (h_sensor : Group.sensor ∈ w) (h_plan : Group.plan ∈ w) (h_ports : Group.ports ∈ w) (h_fab : Group.fab ∈ w) (h_iso : Group.iso ∈ w) (h_twin : Group.twin ∈ w) (h_svc : Group.svc ∈ w) (h_faults : Group.faults ∈ w) (vbat : Nat) (s : State) :
    ran w (execPowerOff vbat s) = some (s.blank w) := by
  unfold execPowerOff
  simp only [State.sysClear_blank, blank_mk, eq_self, or_true, true_or, apply_ite (State.blank w), ite_self, foldl_blank, implies_true, ran_next, apply_ite (ran w), h_clock, h_frame, h_pins, h_power, h_ret, h_host, h_link, h_intake, h_params, h_motion, h_cur, h_wedge, h_gate, h_follow, h_mon, h_channels, h_cmp, h_divo, h_sensor, h_plan, h_ports, h_fab, h_iso, h_twin, h_svc, h_faults]

@[simp] theorem execReset_blank (h_clock : Group.clock ∈ w) (h_frame : Group.frame ∈ w) (h_pins : Group.pins ∈ w) (h_power : Group.power ∈ w) (h_host : Group.host ∈ w) (h_link : Group.link ∈ w) (h_intake : Group.intake ∈ w) (h_params : Group.params ∈ w) (h_motion : Group.motion ∈ w) (h_cur : Group.cur ∈ w) (h_wedge : Group.wedge ∈ w) (h_gate : Group.gate ∈ w) (h_follow : Group.follow ∈ w) (h_mon : Group.mon ∈ w) (h_channels : Group.channels ∈ w) (h_cmp : Group.cmp ∈ w) (h_divo : Group.divo ∈ w) (h_sensor : Group.sensor ∈ w) (h_plan : Group.plan ∈ w) (h_ports : Group.ports ∈ w) (h_fab : Group.fab ∈ w) (h_iso : Group.iso ∈ w) (h_twin : Group.twin ∈ w) (h_svc : Group.svc ∈ w) (h_faults : Group.faults ∈ w) (s : State) :
    ran w (execReset s) = some (s.blank w) := by
  unfold execReset
  simp only [State.sysClear_blank, blank_mk, eq_self, or_true, true_or, apply_ite (State.blank w), ite_self, foldl_blank, implies_true, ran_next, apply_ite (ran w), h_clock, h_frame, h_pins, h_power, h_host, h_link, h_intake, h_params, h_motion, h_cur, h_wedge, h_gate, h_follow, h_mon, h_channels, h_cmp, h_divo, h_sensor, h_plan, h_ports, h_fab, h_iso, h_twin, h_svc, h_faults]

@[simp] theorem execResetRelease_blank (h_clock : Group.clock ∈ w) (h_frame : Group.frame ∈ w) (h_pins : Group.pins ∈ w) (h_power : Group.power ∈ w) (h_host : Group.host ∈ w) (h_link : Group.link ∈ w) (h_intake : Group.intake ∈ w) (h_params : Group.params ∈ w) (h_motion : Group.motion ∈ w) (h_cur : Group.cur ∈ w) (h_wedge : Group.wedge ∈ w) (h_gate : Group.gate ∈ w) (h_follow : Group.follow ∈ w) (h_mon : Group.mon ∈ w) (h_channels : Group.channels ∈ w) (h_cmp : Group.cmp ∈ w) (h_divo : Group.divo ∈ w) (h_sensor : Group.sensor ∈ w) (h_plan : Group.plan ∈ w) (h_ports : Group.ports ∈ w) (h_fab : Group.fab ∈ w) (h_iso : Group.iso ∈ w) (h_twin : Group.twin ∈ w) (h_svc : Group.svc ∈ w) (h_faults : Group.faults ∈ w) (tsten : Bool) (roleUp : Bool) (roleDown : Bool) (s : State) :
    ran w (execResetRelease tsten roleUp roleDown s) = some (s.blank w) := by
  unfold execResetRelease
  simp only [State.readStraps_blank, State.startFromOff_blank, blank_mk, eq_self, or_true, true_or, apply_ite (State.blank w), ite_self, foldl_blank, implies_true, ran_next, apply_ite (ran w), h_clock, h_frame, h_pins, h_power, h_host, h_link, h_intake, h_params, h_motion, h_cur, h_wedge, h_gate, h_follow, h_mon, h_channels, h_cmp, h_divo, h_sensor, h_plan, h_ports, h_fab, h_iso, h_twin, h_svc, h_faults]

@[simp] theorem execBrownOut_blank (h_clock : Group.clock ∈ w) (h_frame : Group.frame ∈ w) (h_pins : Group.pins ∈ w) (h_power : Group.power ∈ w) (h_ret : Group.ret ∈ w) (h_host : Group.host ∈ w) (h_link : Group.link ∈ w) (h_intake : Group.intake ∈ w) (h_params : Group.params ∈ w) (h_motion : Group.motion ∈ w) (h_cur : Group.cur ∈ w) (h_wedge : Group.wedge ∈ w) (h_gate : Group.gate ∈ w) (h_follow : Group.follow ∈ w) (h_mon : Group.mon ∈ w) (h_channels : Group.channels ∈ w) (h_cmp : Group.cmp ∈ w) (h_divo : Group.divo ∈ w) (h_sensor : Group.sensor ∈ w) (h_plan : Group.plan ∈ w) (h_ports : Group.ports ∈ w) (h_fab : Group.fab ∈ w) (h_iso : Group.iso ∈ w) (h_twin : Group.twin ∈ w) (h_svc : Group.svc ∈ w) (h_faults : Group.faults ∈ w) (vbat : Nat) (us : Nat) (s : State) :
    ran w (execBrownOut vbat us s) = some (s.blank w) := by
  unfold execBrownOut
  simp only [State.addRecord_blank, State.keepIndex_blank, State.planSave_blank, State.retSave_blank, State.sysClear_blank, forAxes_blank, blank_mk, eq_self, or_true, true_or, apply_ite (State.blank w), ite_self, foldl_blank, implies_true, ran_next, apply_ite (ran w), h_clock, h_frame, h_pins, h_power, h_ret, h_host, h_link, h_intake, h_params, h_motion, h_cur, h_wedge, h_gate, h_follow, h_mon, h_channels, h_cmp, h_divo, h_sensor, h_plan, h_ports, h_fab, h_iso, h_twin, h_svc, h_faults]

@[simp] theorem State.wakeLevel_blank (h_pins : Group.pins ∈ w) (s : State) (src : Nat) (us : Nat) (level : Bool) :
    (State.wakeLevel s src us level).blank w = s.blank w := by
  unfold State.wakeLevel
  simp only [blank_mk, eq_self, or_true, true_or, apply_ite (State.blank w), ite_self, foldl_blank, implies_true, h_pins]

@[simp] theorem execWakeSource_blank (h_frame : Group.frame ∈ w) (h_pins : Group.pins ∈ w) (h_power : Group.power ∈ w) (h_host : Group.host ∈ w) (h_intake : Group.intake ∈ w) (h_motion : Group.motion ∈ w) (h_gate : Group.gate ∈ w) (h_mon : Group.mon ∈ w) (h_plan : Group.plan ∈ w) (h_ports : Group.ports ∈ w) (h_fab : Group.fab ∈ w) (h_iso : Group.iso ∈ w) (h_twin : Group.twin ∈ w) (h_svc : Group.svc ∈ w) (h_faults : Group.faults ∈ w) (h_free : Group.free ∈ w) (src : Fin 9) (periods : Nat) (us : Nat) (vbat : Nat) (level : Bool) (s : State) :
    ran w (execWakeSource src periods us vbat level s) = some (s.blank w) := by
  unfold execWakeSource
  dsimp only
  (repeat' split) <;> first | (simp only [State.framesGone_blank, State.keyStart_blank, State.requestIdle_blank, State.requestStart_blank, State.settleDoms_blank, State.shiftHeard_blank, State.updPort_blank, State.wakeEvent_blank, State.wakeLevel_blank, forPorts_blank, blank_mk, eq_self, or_true, true_or, apply_ite (State.blank w), ite_self, foldl_blank, implies_true, ran_next, apply_ite (ran w), h_frame, h_pins, h_power, h_host, h_intake, h_motion, h_gate, h_mon, h_plan, h_ports, h_fab, h_iso, h_twin, h_svc, h_faults, h_free]; done)

@[simp] theorem powerStateSpec_blank (h_power : Group.power ∈ w) (s : State) (h : Nat) :
    (powerStateSpec.start s h).blank w = s.blank w := by
  unfold powerStateSpec
  simp only [blank_mk, eq_self, or_true, true_or, apply_ite (State.blank w), ite_self, foldl_blank, implies_true, h_power]

@[simp] theorem powerStateSpec_taken (s : State) (h : Nat) :
    (powerStateSpec.taken s h).blank w = s.blank w := by simp only [powerStateSpec]

@[simp] theorem execPowerState_blank (h_power : Group.power ∈ w) (h_host : Group.host ∈ w) (h_intake : Group.intake ∈ w) (h_plan : Group.plan ∈ w) (h_ports : Group.ports ∈ w) (h_fab : Group.fab ∈ w) (h_iso : Group.iso ∈ w) (h_svc : Group.svc ∈ w) (h_faults : Group.faults ∈ w) (h : Fin 32) (s : State) :
    ran w (execPowerState h s) = some (s.blank w) := by
  unfold execPowerState
  simp only [powerStateSpec_blank, takeRow_blank, blank_mk, eq_self, or_true, true_or, apply_ite (State.blank w), ite_self, foldl_blank, implies_true, ran_next, apply_ite (ran w), h_power, h_host, h_intake, h_plan, h_ports, h_fab, h_iso, h_svc, h_faults, powerStateSpec_taken]

@[simp] theorem execVmUndervoltage_blank (h_power : Group.power ∈ w) (h_ret : Group.ret ∈ w) (h_host : Group.host ∈ w) (h_intake : Group.intake ∈ w) (h_motion : Group.motion ∈ w) (h_cur : Group.cur ∈ w) (h_wedge : Group.wedge ∈ w) (h_gate : Group.gate ∈ w) (h_follow : Group.follow ∈ w) (h_mon : Group.mon ∈ w) (h_plan : Group.plan ∈ w) (h_ports : Group.ports ∈ w) (h_fab : Group.fab ∈ w) (h_iso : Group.iso ∈ w) (h_svc : Group.svc ∈ w) (h_faults : Group.faults ∈ w) (h_free : Group.free ∈ w) (vm : Nat) (us : Nat) (s : State) :
    ran w (execVmUndervoltage vm us s) = some (s.blank w) := by
  unfold execVmUndervoltage
  simp only [State.axSupplyFail_blank, State.brakesOff_blank, State.noteFree_blank, State.settle_blank, State.switchesOff_blank, forAxes_blank, blank_mk, eq_self, or_true, true_or, apply_ite (State.blank w), ite_self, foldl_blank, implies_true, ran_next, apply_ite (ran w), h_power, h_ret, h_host, h_intake, h_motion, h_cur, h_wedge, h_gate, h_follow, h_mon, h_plan, h_ports, h_fab, h_iso, h_svc, h_faults, h_free]

@[simp] theorem execVmRestored_blank (h_power : Group.power ∈ w) (h_faults : Group.faults ∈ w) (h_free : Group.free ∈ w) (vm : Nat) (sf : Nat) (s : State) :
    ran w (execVmRestored vm sf s) = some (s.blank w) := by
  unfold execVmRestored
  simp only [State.causeEnd_blank, State.domBegins_blank, State.noteEvFree_blank, blank_mk, eq_self, or_true, true_or, apply_ite (State.blank w), ite_self, foldl_blank, implies_true, ran_next, apply_ite (ran w), h_power, h_faults, h_free]

@[simp] theorem State.forceWant_blank (h_gate : Group.gate ∈ w) (s : State) (n : Fin 4) :
    (State.forceWant s n).blank w = s.blank w := by
  unfold State.forceWant
  refine foldl_blank _ (fun t a => ?_) _ _
  (repeat' split) <;> simp only [State.updBridge_blank, blank_mk, eq_self, or_true, true_or, apply_ite (State.blank w), ite_self, foldl_blank, implies_true, h_gate]

@[simp] theorem execVmOvervoltage_blank (h_power : Group.power ∈ w) (h_ret : Group.ret ∈ w) (h_host : Group.host ∈ w) (h_intake : Group.intake ∈ w) (h_motion : Group.motion ∈ w) (h_cur : Group.cur ∈ w) (h_wedge : Group.wedge ∈ w) (h_gate : Group.gate ∈ w) (h_follow : Group.follow ∈ w) (h_mon : Group.mon ∈ w) (h_plan : Group.plan ∈ w) (h_ports : Group.ports ∈ w) (h_fab : Group.fab ∈ w) (h_iso : Group.iso ∈ w) (h_svc : Group.svc ∈ w) (h_faults : Group.faults ∈ w) (h_free : Group.free ∈ w) (vm : Nat) (s : State) :
    ran w (execVmOvervoltage vm s) = some (s.blank w) := by
  unfold execVmOvervoltage
  refine congrArg some ?_
  split
  · rfl
  · simp only [State.axFail_blank, State.forceWant_blank, State.noteFree_blank, State.settle_blank, forAxes_blank, blank_mk, eq_self, or_true, true_or, apply_ite (State.blank w), ite_self, foldl_blank, implies_true, ran_next, apply_ite (ran w), h_power, h_ret, h_host, h_intake, h_motion, h_cur, h_wedge, h_gate, h_follow, h_mon, h_plan, h_ports, h_fab, h_iso, h_svc, h_faults, h_free]
    refine (forAxes_blank _ (fun n t => ?_) _).trans ?_
    · split <;> simp only [State.axFail_blank, State.forceWant_blank, State.noteFree_blank, State.settle_blank, forAxes_blank, blank_mk, eq_self, or_true, true_or, apply_ite (State.blank w), ite_self, foldl_blank, implies_true, ran_next, apply_ite (ran w), h_power, h_ret, h_host, h_intake, h_motion, h_cur, h_wedge, h_gate, h_follow, h_mon, h_plan, h_ports, h_fab, h_iso, h_svc, h_faults, h_free]
    · simp only [State.axFail_blank, State.forceWant_blank, State.noteFree_blank, State.settle_blank, forAxes_blank, blank_mk, eq_self, or_true, true_or, apply_ite (State.blank w), ite_self, foldl_blank, implies_true, ran_next, apply_ite (ran w), h_power, h_ret, h_host, h_intake, h_motion, h_cur, h_wedge, h_gate, h_follow, h_mon, h_plan, h_ports, h_fab, h_iso, h_svc, h_faults, h_free]

@[simp] theorem execVmOvervoltageRelease_blank (h_power : Group.power ∈ w) (h_faults : Group.faults ∈ w) (vm : Nat) (us : Nat) (s : State) :
    ran w (execVmOvervoltageRelease vm us s) = some (s.blank w) := by
  unfold execVmOvervoltageRelease
  simp only [State.causeEnd_blank, blank_mk, eq_self, or_true, true_or, apply_ite (State.blank w), ite_self, foldl_blank, implies_true, ran_next, apply_ite (ran w), h_power, h_faults]

@[simp] theorem execBrakeChopperSwitch_blank (h_frame : Group.frame ∈ w) (h_power : Group.power ∈ w) (h_faults : Group.faults ∈ w) (h_free : Group.free ∈ w) (vm : Nat) (off : Nat) (s : State) :
    ran w (execBrakeChopperSwitch vm off s) = some (s.blank w) := by
  unfold execBrakeChopperSwitch
  simp only [State.noteEvFree_blank, blank_mk, eq_self, or_true, true_or, apply_ite (State.blank w), ite_self, foldl_blank, implies_true, ran_next, apply_ite (ran w), h_frame, h_power, h_faults, h_free]

@[simp] theorem execBrakeChopperLimit_blank (h_power : Group.power ∈ w) (h_faults : Group.faults ∈ w) (h_free : Group.free ∈ w) (off : Nat) (s : State) :
    ran w (execBrakeChopperLimit off s) = some (s.blank w) := by
  unfold execBrakeChopperLimit
  simp only [State.noteFree_blank, blank_mk, eq_self, or_true, true_or, apply_ite (State.blank w), ite_self, foldl_blank, implies_true, ran_next, apply_ite (ran w), h_power, h_faults, h_free]

@[simp] theorem execBrakeDumpIneffective_blank (h_power : Group.power ∈ w) (h_faults : Group.faults ∈ w) (h_free : Group.free ∈ w) (vm : Nat) (off : Nat) (s : State) :
    ran w (execBrakeDumpIneffective vm off s) = some (s.blank w) := by
  unfold execBrakeDumpIneffective
  simp only [State.noteFree_blank, blank_mk, eq_self, or_true, true_or, apply_ite (State.blank w), ite_self, foldl_blank, implies_true, ran_next, apply_ite (ran w), h_power, h_faults, h_free]

@[simp] theorem execVgdOutOfWindow_blank (h_power : Group.power ∈ w) (h_ret : Group.ret ∈ w) (h_host : Group.host ∈ w) (h_intake : Group.intake ∈ w) (h_motion : Group.motion ∈ w) (h_cur : Group.cur ∈ w) (h_wedge : Group.wedge ∈ w) (h_gate : Group.gate ∈ w) (h_follow : Group.follow ∈ w) (h_mon : Group.mon ∈ w) (h_plan : Group.plan ∈ w) (h_ports : Group.ports ∈ w) (h_fab : Group.fab ∈ w) (h_iso : Group.iso ∈ w) (h_svc : Group.svc ∈ w) (h_faults : Group.faults ∈ w) (h_free : Group.free ∈ w) (mv : Nat) (us : Nat) (s : State) :
    ran w (execVgdOutOfWindow mv us s) = some (s.blank w) := by
  unfold execVgdOutOfWindow
  simp only [State.axSupplyFail_blank, State.causeEnd_blank, State.noteFree_blank, State.settle_blank, State.switchesOff_blank, forAxes_blank, blank_mk, eq_self, or_true, true_or, apply_ite (State.blank w), ite_self, foldl_blank, implies_true, ran_next, apply_ite (ran w), h_power, h_ret, h_host, h_intake, h_motion, h_cur, h_wedge, h_gate, h_follow, h_mon, h_plan, h_ports, h_fab, h_iso, h_svc, h_faults, h_free]

@[simp] theorem execSupplyWindowFault_blank (h_power : Group.power ∈ w) (h_faults : Group.faults ∈ w) (h_free : Group.free ∈ w) (which : Fin 4) (mv : Nat) (us : Nat) (s : State) :
    ran w (execSupplyWindowFault which mv us s) = some (s.blank w) := by
  unfold execSupplyWindowFault
  simp only [State.causeEnd_blank, State.noteFree_blank, blank_mk, eq_self, or_true, true_or, apply_ite (State.blank w), ite_self, foldl_blank, implies_true, ran_next, apply_ite (ran w), h_power, h_faults, h_free]

@[simp] theorem State.supplyClear_blank (h_power : Group.power ∈ w) (s : State) :
    (State.supplyClear s).blank w = s.blank w := by
  unfold State.supplyClear
  simp only [blank_mk, eq_self, or_true, true_or, apply_ite (State.blank w), ite_self, foldl_blank, implies_true, h_power]

@[simp] theorem execReverseFetOn_blank (h_power : Group.power ∈ w) (rbs : Nat) (vbat : Nat) (us : Nat) (s : State) :
    ran w (execReverseFetOn rbs vbat us s) = some (s.blank w) := by
  unfold execReverseFetOn
  simp only [State.rbSense_blank, blank_mk, eq_self, or_true, true_or, apply_ite (State.blank w), ite_self, foldl_blank, implies_true, ran_next, apply_ite (ran w), h_power]

@[simp] theorem execReverseFetOff_blank (h_power : Group.power ∈ w) (h_faults : Group.faults ∈ w) (h_free : Group.free ∈ w) (rbs : Nat) (vbat : Nat) (s : State) :
    ran w (execReverseFetOff rbs vbat s) = some (s.blank w) := by
  unfold execReverseFetOff
  simp only [State.noteEvFree_blank, State.rbSense_blank, blank_mk, eq_self, or_true, true_or, apply_ite (State.blank w), ite_self, foldl_blank, implies_true, ran_next, apply_ite (ran w), h_power, h_faults, h_free]

@[simp] theorem execReverseFetNotEnhanced_blank (h_power : Group.power ∈ w) (h_faults : Group.faults ∈ w) (h_free : Group.free ∈ w) (rbs : Nat) (vbat : Nat) (rbcp : Nat) (sf : Nat) (s : State) :
    ran w (execReverseFetNotEnhanced rbs vbat rbcp sf s) = some (s.blank w) := by
  unfold execReverseFetNotEnhanced
  simp only [State.noteFree_blank, blank_mk, eq_self, or_true, true_or, apply_ite (State.blank w), ite_self, foldl_blank, implies_true, ran_next, apply_ite (ran w), h_power, h_faults, h_free]

end Sys2Proof.Machine
end

