-- ==== Sys2Proof/Laws/Sleep.lean ====
section
/-! SUPPORT. The parts of the state that the operations of Machine/Sleep.lean can change: all others keep their value. -/

namespace Sys2Proof.Machine

set_option linter.all false
set_option linter.unusedSimpArgs false

variable {w : List Group}

@[simp] theorem netSleepAnnounceSpec_blank (h_ret : Group.ret ∈ w) (h_host : Group.host ∈ w) (h_intake : Group.intake ∈ w) (h_ports : Group.ports ∈ w) (h_fab : Group.fab ∈ w) (h_iso : Group.iso ∈ w) (h_faults : Group.faults ∈ w) (s : State) (h : Nat) :
    (netSleepAnnounceSpec.start s h).blank w = s.blank w := by
  unfold netSleepAnnounceSpec
  simp only [State.doneWith_blank, State.sendSleep_blank, blank_mk, eq_self, or_true, true_or, apply_ite (State.blank w), ite_self, foldl_blank, implies_true, h_ret, h_host, h_intake, h_ports, h_fab, h_iso, h_faults]

@[simp] theorem netSleepAnnounceSpec_taken (s : State) (h : Nat) :
    (netSleepAnnounceSpec.taken s h).blank w = s.blank w := by simp only [netSleepAnnounceSpec]

@[simp] theorem execNetSleepAnnounce_blank (h_ret : Group.ret ∈ w) (h_host : Group.host ∈ w) (h_intake : Group.intake ∈ w) (h_plan : Group.plan ∈ w) (h_ports : Group.ports ∈ w) (h_fab : Group.fab ∈ w) (h_iso : Group.iso ∈ w) (h_svc : Group.svc ∈ w) (h_faults : Group.faults ∈ w) (h : Fin 32) (s : State) :
    ran w (execNetSleepAnnounce h s) = some (s.blank w) := by
  unfold execNetSleepAnnounce
  simp only [netSleepAnnounceSpec_blank, takeRow_blank, blank_mk, eq_self, or_true, true_or, apply_ite (State.blank w), ite_self, foldl_blank, implies_true, ran_next, apply_ite (ran w), h_ret, h_host, h_intake, h_plan, h_ports, h_fab, h_iso, h_svc, h_faults, netSleepAnnounceSpec_taken]

@[simp] theorem netSleepCancelSpec_blank (h_ret : Group.ret ∈ w) (h_host : Group.host ∈ w) (h_intake : Group.intake ∈ w) (h_ports : Group.ports ∈ w) (h_fab : Group.fab ∈ w) (h_iso : Group.iso ∈ w) (h_faults : Group.faults ∈ w) (s : State) (h : Nat) :
    (netSleepCancelSpec.start s h).blank w = s.blank w := by
  unfold netSleepCancelSpec
  simp only [State.doneWith_blank, State.endPlan_blank, State.sendSleep_blank, blank_mk, eq_self, or_true, true_or, apply_ite (State.blank w), ite_self, foldl_blank, implies_true, h_ret, h_host, h_intake, h_ports, h_fab, h_iso, h_faults]

@[simp] theorem netSleepCancelSpec_taken (s : State) (h : Nat) :
    (netSleepCancelSpec.taken s h).blank w = s.blank w := by simp only [netSleepCancelSpec]

@[simp] theorem execNetSleepCancel_blank (h_ret : Group.ret ∈ w) (h_host : Group.host ∈ w) (h_intake : Group.intake ∈ w) (h_plan : Group.plan ∈ w) (h_ports : Group.ports ∈ w) (h_fab : Group.fab ∈ w) (h_iso : Group.iso ∈ w) (h_svc : Group.svc ∈ w) (h_faults : Group.faults ∈ w) (h : Fin 32) (s : State) :
    ran w (execNetSleepCancel h s) = some (s.blank w) := by
  unfold execNetSleepCancel
  simp only [netSleepCancelSpec_blank, takeRow_blank, blank_mk, eq_self, or_true, true_or, apply_ite (State.blank w), ite_self, foldl_blank, implies_true, ran_next, apply_ite (ran w), h_ret, h_host, h_intake, h_plan, h_ports, h_fab, h_iso, h_svc, h_faults, netSleepCancelSpec_taken]

@[simp] theorem netSleepStatusSpec_blank (h_host : Group.host ∈ w) (h_intake : Group.intake ∈ w) (h_ports : Group.ports ∈ w) (h_fab : Group.fab ∈ w) (h_iso : Group.iso ∈ w) (h_faults : Group.faults ∈ w) (s : State) (h : Nat) :
    (netSleepStatusSpec.start s h).blank w = s.blank w := by
  unfold netSleepStatusSpec
  simp only [State.doneWith_blank, blank_mk, eq_self, or_true, true_or, apply_ite (State.blank w), ite_self, foldl_blank, implies_true, h_host, h_intake, h_ports, h_fab, h_iso, h_faults]

@[simp] theorem netSleepStatusSpec_taken (s : State) (h : Nat) :
    (netSleepStatusSpec.taken s h).blank w = s.blank w := by simp only [netSleepStatusSpec]

@[simp] theorem execNetSleepStatus_blank (h_host : Group.host ∈ w) (h_intake : Group.intake ∈ w) (h_plan : Group.plan ∈ w) (h_ports : Group.ports ∈ w) (h_fab : Group.fab ∈ w) (h_iso : Group.iso ∈ w) (h_svc : Group.svc ∈ w) (h_faults : Group.faults ∈ w) (h : Fin 32) (s : State) :
    ran w (execNetSleepStatus h s) = some (s.blank w) := by
  unfold execNetSleepStatus
  simp only [netSleepStatusSpec_blank, takeRow_blank, blank_mk, eq_self, or_true, true_or, apply_ite (State.blank w), ite_self, foldl_blank, implies_true, ran_next, apply_ite (ran w), h_host, h_intake, h_plan, h_ports, h_fab, h_iso, h_svc, h_faults, netSleepStatusSpec_taken]

@[simp] theorem execSleepReceived_blank (h_ret : Group.ret ∈ w) (h_ports : Group.ports ∈ w) (h_fab : Group.fab ∈ w) (h_faults : Group.faults ∈ w) (h_free : Group.free ∈ w) (p : Fin 2) (f : AmFrame) (s : State) :
    ran w (execSleepReceived p f s) = some (s.blank w) := by
  unfold execSleepReceived
  simp only [State.endPlan_blank, State.evFree_blank, State.planSave_blank, State.rx_blank, State.updPort_blank, blank_mk, eq_self, or_true, true_or, apply_ite (State.blank w), ite_self, foldl_blank, implies_true, ran_next, apply_ite (ran w), h_ret, h_ports, h_fab, h_faults, h_free]

@[simp] theorem State.sleepFor_blank (h_power : Group.power ∈ w) (h_fab : Group.fab ∈ w) (s : State) (pl : SleepPlan) (k : Nat) :
    (State.sleepFor s pl k).blank w = s.blank w := by
  unfold State.sleepFor
  simp only [blank_mk, eq_self, or_true, true_or, apply_ite (State.blank w), ite_self, foldl_blank, implies_true, h_power, h_fab]

@[simp] theorem State.windowLosses_blank (h_host : Group.host ∈ w) (h_intake : Group.intake ∈ w) (h_ports : Group.ports ∈ w) (h_fab : Group.fab ∈ w) (h_iso : Group.iso ∈ w) (h_faults : Group.faults ∈ w) (s : State) (a1 : BitVec 32) :
    (State.windowLosses s a1).blank w = s.blank w := by
  unfold State.windowLosses
  simp only [State.nodeLost_blank, blank_mk, eq_self, or_true, true_or, apply_ite (State.blank w), ite_self, foldl_blank, implies_true, h_host, h_intake, h_ports, h_fab, h_iso, h_faults]

@[simp] theorem State.instLosses_blank (h_host : Group.host ∈ w) (h_intake : Group.intake ∈ w) (h_ports : Group.ports ∈ w) (h_fab : Group.fab ∈ w) (h_iso : Group.iso ∈ w) (h_faults : Group.faults ∈ w) (s : State) (a1 : Option (BitVec 32)) :
    (State.instLosses s a1).blank w = s.blank w := by
  unfold State.instLosses
  (repeat' split) <;> simp only [State.windowLosses_blank, blank_mk, eq_self, or_true, true_or, apply_ite (State.blank w), ite_self, foldl_blank, implies_true, h_host, h_intake, h_ports, h_fab, h_iso, h_faults]

@[simp] theorem execSleepInstant_blank (h_power : Group.power ∈ w) (h_ret : Group.ret ∈ w) (h_host : Group.host ∈ w) (h_intake : Group.intake ∈ w) (h_ports : Group.ports ∈ w) (h_fab : Group.fab ∈ w) (h_iso : Group.iso ∈ w) (h_faults : Group.faults ∈ w) (s : State) :
    ran w (execSleepInstant s) = some (s.blank w) := by
  unfold execSleepInstant
  (repeat' split) <;> simp only [State.endPlan_blank, State.ev_blank, State.instLosses_blank, State.sleepFor_blank, blank_mk, eq_self, or_true, true_or, apply_ite (State.blank w), ite_self, foldl_blank, implies_true, ran_next, apply_ite (ran w), h_power, h_ret, h_host, h_intake, h_ports, h_fab, h_iso, h_faults]

@[simp] theorem execListenWindowEnd_blank (h_power : Group.power ∈ w) (h_ret : Group.ret ∈ w) (h_fab : Group.fab ∈ w) (h_faults : Group.faults ∈ w) (h_free : Group.free ∈ w) (s : State) :
    ran w (execListenWindowEnd s) = some (s.blank w) := by
  unfold execListenWindowEnd
  (repeat' split) <;> simp only [State.endPlan_blank, State.ev_blank, State.raiseFree_blank, State.sleepFor_blank, blank_mk, eq_self, or_true, true_or, apply_ite (State.blank w), ite_self, foldl_blank, implies_true, ran_next, apply_ite (ran w), h_power, h_ret, h_fab, h_faults, h_free]

@[simp] theorem execInterimListenEnd_blank (h_power : Group.power ∈ w) (h_fab : Group.fab ∈ w) (s : State) :
    ran w (execInterimListenEnd s) = some (s.blank w) := by
  unfold execInterimListenEnd
  (repeat' split) <;> simp only [State.sleepFor_blank, blank_mk, eq_self, or_true, true_or, apply_ite (State.blank w), ite_self, foldl_blank, implies_true, ran_next, apply_ite (ran w), h_power, h_fab]

end Sys2Proof.Machine
end

