-- ==== Sys2Proof/Laws/Safe.lean ====
section
/-! SUPPORT. The parts of the state that the operations of Machine/Safe.lean can change: all others keep their value. -/

namespace Sys2Proof.Machine

set_option linter.all false
set_option linter.unusedSimpArgs false

variable {w : List Group}

@[simp] theorem State.bistMark_blank (h_svc : Group.svc ∈ w) (s : State) (t : Nat) (v : Nat) :
    (State.bistMark s t v).blank w = s.blank w := by
  unfold State.bistMark
  simp only [blank_mk, eq_self, or_true, true_or, apply_ite (State.blank w), ite_self, foldl_blank, implies_true, h_svc]

@[simp] theorem State.bistEnd_blank (h_host : Group.host ∈ w) (h_intake : Group.intake ∈ w) (h_ports : Group.ports ∈ w) (h_fab : Group.fab ∈ w) (h_iso : Group.iso ∈ w) (h_svc : Group.svc ∈ w) (h_faults : Group.faults ∈ w) (s : State) :
    (State.bistEnd s).blank w = s.blank w := by
  unfold State.bistEnd
  (repeat' split) <;> simp only [State.doneWith_blank, State.ev_blank, State.finish_blank, blank_mk, eq_self, or_true, true_or, apply_ite (State.blank w), ite_self, foldl_blank, implies_true, h_host, h_intake, h_ports, h_fab, h_iso, h_svc, h_faults]

@[simp] theorem State.bistBegin_blank (h_power : Group.power ∈ w) (h_svc : Group.svc ∈ w) (s : State) :
    (State.bistBegin s).blank w = s.blank w := by
  unfold State.bistBegin
  dsimp only
  (repeat' split) <;> first | (simp only [State.setSeq_blank, blank_mk, eq_self, or_true, true_or, apply_ite (State.blank w), ite_self, foldl_blank, implies_true, h_power, h_svc]; done)

@[simp] theorem State.bistGo_blank (h_power : Group.power ∈ w) (h_host : Group.host ∈ w) (h_intake : Group.intake ∈ w) (h_ports : Group.ports ∈ w) (h_fab : Group.fab ∈ w) (h_iso : Group.iso ∈ w) (h_svc : Group.svc ∈ w) (h_faults : Group.faults ∈ w) (s : State) (old : Option Nat) (l : List Nat) :
    (State.bistGo s old l).blank w = s.blank w := by
  unfold State.bistGo
  simp only [State.bistBegin_blank, State.bistEnd_blank, blank_mk, eq_self, or_true, true_or, apply_ite (State.blank w), ite_self, foldl_blank, implies_true, h_power, h_host, h_intake, h_ports, h_fab, h_iso, h_svc, h_faults]

@[simp] theorem State.bistCancel_blank (h_power : Group.power ∈ w) (h_host : Group.host ∈ w) (h_intake : Group.intake ∈ w) (h_ports : Group.ports ∈ w) (h_fab : Group.fab ∈ w) (h_iso : Group.iso ∈ w) (h_svc : Group.svc ∈ w) (h_faults : Group.faults ∈ w) (s : State) (which : Nat → Bool) :
    (State.bistCancel s which).blank w = s.blank w := by
  unfold State.bistCancel
  simp only [State.bistGo_blank, State.bistMark_blank, State.setSeq_blank, blank_mk, eq_self, or_true, true_or, apply_ite (State.blank w), ite_self, foldl_blank, implies_true, h_power, h_host, h_intake, h_ports, h_fab, h_iso, h_svc, h_faults]

@[simp] theorem State.leaveActive_blank (h_gate : Group.gate ∈ w) (h_ports : Group.ports ∈ w) (h_iso : Group.iso ∈ w) (h_twin : Group.twin ∈ w) (s : State) (next : TwinRole) :
    (State.leaveActive s next).blank w = s.blank w := by
  unfold State.leaveActive
  simp only [State.actoClear_blank, State.busModes_blank, State.updTwin_blank, blank_mk, eq_self, or_true, true_or, apply_ite (State.blank w), ite_self, foldl_blank, implies_true, h_gate, h_ports, h_iso, h_twin]

@[simp] theorem State.axSafe_blank (h_power : Group.power ∈ w) (h_host : Group.host ∈ w) (h_intake : Group.intake ∈ w) (h_motion : Group.motion ∈ w) (h_cur : Group.cur ∈ w) (h_wedge : Group.wedge ∈ w) (h_gate : Group.gate ∈ w) (h_follow : Group.follow ∈ w) (h_mon : Group.mon ∈ w) (h_plan : Group.plan ∈ w) (h_ports : Group.ports ∈ w) (h_fab : Group.fab ∈ w) (h_iso : Group.iso ∈ w) (h_svc : Group.svc ∈ w) (h_faults : Group.faults ∈ w) (s : State) (n : Fin 4) (code : Nat) :
    (State.axSafe s n code).blank w = s.blank w := by
  unfold State.axSafe
  (repeat' split) <;> simp only [State.abandonTest_blank, State.axToOff_blank, State.brakeOff_blank, State.dropAxis_blank, State.endReqs_blank, State.endUnacted_blank, State.lostPos_blank, State.setSeq_blank, State.setTest_blank, State.switchesOff_blank, State.updCur_blank, blank_mk, eq_self, or_true, true_or, apply_ite (State.blank w), ite_self, foldl_blank, implies_true, h_power, h_host, h_intake, h_motion, h_cur, h_wedge, h_gate, h_follow, h_mon, h_plan, h_ports, h_fab, h_iso, h_svc, h_faults]

@[simp] theorem State.enterSafe_blank (h_power : Group.power ∈ w) (h_host : Group.host ∈ w) (h_intake : Group.intake ∈ w) (h_motion : Group.motion ∈ w) (h_cur : Group.cur ∈ w) (h_wedge : Group.wedge ∈ w) (h_gate : Group.gate ∈ w) (h_follow : Group.follow ∈ w) (h_mon : Group.mon ∈ w) (h_plan : Group.plan ∈ w) (h_ports : Group.ports ∈ w) (h_fab : Group.fab ∈ w) (h_iso : Group.iso ∈ w) (h_twin : Group.twin ∈ w) (h_svc : Group.svc ∈ w) (h_faults : Group.faults ∈ w) (s : State) (code : Nat) :
    (State.enterSafe s code).blank w = s.blank w := by
  unfold State.enterSafe
  simp only [State.axSafe_blank, State.bistCancel_blank, State.brakesOff_blank, State.ev_blank, State.leaveActive_blank, State.switchesOff_blank, forAxes_blank, blank_mk, eq_self, or_true, true_or, apply_ite (State.blank w), ite_self, foldl_blank, implies_true, h_power, h_host, h_intake, h_motion, h_cur, h_wedge, h_gate, h_follow, h_mon, h_plan, h_ports, h_fab, h_iso, h_twin, h_svc, h_faults]

@[simp] theorem State.hardOff_blank (h_gate : Group.gate ∈ w) (h_mon : Group.mon ∈ w) (h_twin : Group.twin ∈ w) (s : State) :
    (State.hardOff s).blank w = s.blank w := by
  unfold State.hardOff
  simp only [State.actoClear_blank, State.brakesOff_blank, State.switchesOff_blank, State.updGate_blank, forAxes_blank, blank_mk, eq_self, or_true, true_or, apply_ite (State.blank w), ite_self, foldl_blank, implies_true, h_gate, h_mon, h_twin]

end Sys2Proof.Machine
end

