-- ==== Sys2Proof/Laws/Clock.lean ====
section
/-! SUPPORT. The parts of the state that the operations of Machine/Clock.lean can change: all others keep their value. -/

namespace Sys2Proof.Machine

set_option linter.all false
set_option linter.unusedSimpArgs false

variable {w : List Group}

@[simp] theorem execLockstepMismatch_blank (h_gate : Group.gate ∈ w) (h_mon : Group.mon ∈ w) (h_twin : Group.twin ∈ w) (h_faults : Group.faults ∈ w) (h_free : Group.free ∈ w) (s : State) :
    ran w (execLockstepMismatch s) = some (s.blank w) := by
  unfold execLockstepMismatch
  simp only [State.hardOff_blank, State.noteFree_blank, blank_mk, eq_self, or_true, true_or, apply_ite (State.blank w), ite_self, foldl_blank, implies_true, ran_next, apply_ite (ran w), h_gate, h_mon, h_twin, h_faults, h_free]

@[simp] theorem State.crystalOff_blank (h_clock : Group.clock ∈ w) (s : State) :
    (State.crystalOff s).blank w = s.blank w := by
  unfold State.crystalOff
  simp only [blank_mk, eq_self, or_true, true_or, apply_ite (State.blank w), ite_self, foldl_blank, implies_true, h_clock]

@[simp] theorem execCrystalLoss_blank (h_clock : Group.clock ∈ w) (h_faults : Group.faults ∈ w) (h_free : Group.free ∈ w) (s : State) :
    ran w (execCrystalLoss s) = some (s.blank w) := by
  unfold execCrystalLoss
  simp only [State.crystalOff_blank, State.noteFree_blank, blank_mk, eq_self, or_true, true_or, apply_ite (State.blank w), ite_self, foldl_blank, implies_true, ran_next, apply_ite (ran w), h_clock, h_faults, h_free]

@[simp] theorem State.linksLost_blank (h_clock : Group.clock ∈ w) (h_ports : Group.ports ∈ w) (h_fab : Group.fab ∈ w) (h_iso : Group.iso ∈ w) (h_twin : Group.twin ∈ w) (h_faults : Group.faults ∈ w) (s : State) :
    (State.linksLost s).blank w = s.blank w := by
  unfold State.linksLost
  simp only [State.busModes_blank, State.ev_blank, State.updTwin_blank, blank_mk, eq_self, or_true, true_or, apply_ite (State.blank w), ite_self, foldl_blank, implies_true, h_clock, h_ports, h_fab, h_iso, h_twin, h_faults]

@[simp] theorem State.haltEnabled_blank (h_host : Group.host ∈ w) (h_intake : Group.intake ∈ w) (h_motion : Group.motion ∈ w) (h_wedge : Group.wedge ∈ w) (h_gate : Group.gate ∈ w) (h_follow : Group.follow ∈ w) (h_mon : Group.mon ∈ w) (h_plan : Group.plan ∈ w) (h_ports : Group.ports ∈ w) (h_fab : Group.fab ∈ w) (h_iso : Group.iso ∈ w) (h_svc : Group.svc ∈ w) (h_faults : Group.faults ∈ w) (s : State) (code : Nat) :
    (State.haltEnabled s code).blank w = s.blank w := by
  unfold State.haltEnabled
  refine forAxes_blank _ (fun n t => ?_) _
  dsimp only
  (repeat' split) <;> simp only [State.abandonTest_blank, State.endCmd_blank, State.endStop_blank, State.endUnacted_blank, State.haltRamp_blank, State.leaveRun_blank, State.switchesOff_blank, forAxes_blank, blank_mk, eq_self, or_true, true_or, apply_ite (State.blank w), ite_self, foldl_blank, implies_true, h_host, h_intake, h_motion, h_wedge, h_gate, h_follow, h_mon, h_plan, h_ports, h_fab, h_iso, h_svc, h_faults]

@[simp] theorem State.crystalLost_blank (h_clock : Group.clock ∈ w) (h_host : Group.host ∈ w) (h_intake : Group.intake ∈ w) (h_motion : Group.motion ∈ w) (h_wedge : Group.wedge ∈ w) (h_gate : Group.gate ∈ w) (h_follow : Group.follow ∈ w) (h_mon : Group.mon ∈ w) (h_plan : Group.plan ∈ w) (h_ports : Group.ports ∈ w) (h_fab : Group.fab ∈ w) (h_iso : Group.iso ∈ w) (h_twin : Group.twin ∈ w) (h_svc : Group.svc ∈ w) (h_faults : Group.faults ∈ w) (s : State) (code : Nat) :
    (State.crystalLost s code).blank w = s.blank w := by
  unfold State.crystalLost
  simp only [State.haltEnabled_blank, State.linksLost_blank, blank_mk, eq_self, or_true, true_or, apply_ite (State.blank w), ite_self, foldl_blank, implies_true, h_clock, h_host, h_intake, h_motion, h_wedge, h_gate, h_follow, h_mon, h_plan, h_ports, h_fab, h_iso, h_twin, h_svc, h_faults]

@[simp] theorem State.declareRestore_blank (h_clock : Group.clock ∈ w) (h_fab : Group.fab ∈ w) (h_faults : Group.faults ∈ w) (h_free : Group.free ∈ w) (s : State) :
    (State.declareRestore s).blank w = s.blank w := by
  unfold State.declareRestore
  simp only [State.evFree_blank, blank_mk, eq_self, or_true, true_or, apply_ite (State.blank w), ite_self, foldl_blank, implies_true, h_clock, h_fab, h_faults, h_free]

@[simp] theorem execCrystalRestore_blank (h_clock : Group.clock ∈ w) (h_fab : Group.fab ∈ w) (h_faults : Group.faults ∈ w) (h_free : Group.free ∈ w) (devs : List Nat) (s : State) :
    ran w (execCrystalRestore devs s) = some (s.blank w) := by
  unfold execCrystalRestore
  simp only [State.declareRestore_blank, blank_mk, eq_self, or_true, true_or, apply_ite (State.blank w), ite_self, foldl_blank, implies_true, ran_next, apply_ite (ran w), h_clock, h_fab, h_faults, h_free]

@[simp] theorem State.busBack_blank (h_clock : Group.clock ∈ w) (h_ports : Group.ports ∈ w) (h_iso : Group.iso ∈ w) (s : State) :
    (State.busBack s).blank w = s.blank w := by
  unfold State.busBack
  simp only [State.busModes_blank, blank_mk, eq_self, or_true, true_or, apply_ite (State.blank w), ite_self, foldl_blank, implies_true, h_clock, h_ports, h_iso]

@[simp] theorem execClockSettlingEnd_blank (h_clock : Group.clock ∈ w) (h_host : Group.host ∈ w) (h_intake : Group.intake ∈ w) (h_plan : Group.plan ∈ w) (h_ports : Group.ports ∈ w) (h_fab : Group.fab ∈ w) (h_iso : Group.iso ∈ w) (h_svc : Group.svc ∈ w) (h_faults : Group.faults ∈ w) (h_free : Group.free ∈ w) (s : State) :
    ran w (execClockSettlingEnd s) = some (s.blank w) := by
  unfold execClockSettlingEnd
  (repeat' split) <;> simp only [State.busBack_blank, State.condEnd_blank, State.evFree_blank, State.settle_blank, State.updPort_blank, forPorts_blank, blank_mk, eq_self, or_true, true_or, apply_ite (State.blank w), ite_self, foldl_blank, implies_true, ran_next, apply_ite (ran w), h_clock, h_host, h_intake, h_plan, h_ports, h_fab, h_iso, h_svc, h_faults, h_free]

@[simp] theorem execPllLockTimeout_blank (h_clock : Group.clock ∈ w) (h_host : Group.host ∈ w) (h_intake : Group.intake ∈ w) (h_motion : Group.motion ∈ w) (h_wedge : Group.wedge ∈ w) (h_gate : Group.gate ∈ w) (h_follow : Group.follow ∈ w) (h_mon : Group.mon ∈ w) (h_plan : Group.plan ∈ w) (h_ports : Group.ports ∈ w) (h_fab : Group.fab ∈ w) (h_iso : Group.iso ∈ w) (h_twin : Group.twin ∈ w) (h_svc : Group.svc ∈ w) (h_faults : Group.faults ∈ w) (h_free : Group.free ∈ w) (p : Fin 3) (s : State) :
    ran w (execPllLockTimeout p s) = some (s.blank w) := by
  unfold execPllLockTimeout
  (repeat' split) <;> simp only [State.crystalOff_blank, State.haltEnabled_blank, State.linksLost_blank, State.raiseFree_blank, blank_mk, eq_self, or_true, true_or, apply_ite (State.blank w), ite_self, foldl_blank, implies_true, ran_next, apply_ite (ran w), h_clock, h_host, h_intake, h_motion, h_wedge, h_gate, h_follow, h_mon, h_plan, h_ports, h_fab, h_iso, h_twin, h_svc, h_faults, h_free]

@[simp] theorem execPllLockLoss_blank (h_clock : Group.clock ∈ w) (h_frame : Group.frame ∈ w) (h_power : Group.power ∈ w) (h_host : Group.host ∈ w) (h_intake : Group.intake ∈ w) (h_motion : Group.motion ∈ w) (h_cur : Group.cur ∈ w) (h_wedge : Group.wedge ∈ w) (h_gate : Group.gate ∈ w) (h_follow : Group.follow ∈ w) (h_mon : Group.mon ∈ w) (h_plan : Group.plan ∈ w) (h_ports : Group.ports ∈ w) (h_fab : Group.fab ∈ w) (h_iso : Group.iso ∈ w) (h_twin : Group.twin ∈ w) (h_svc : Group.svc ∈ w) (h_faults : Group.faults ∈ w) (h_free : Group.free ∈ w) (p : Fin 3) (s : State) :
    ran w (execPllLockLoss p s) = some (s.blank w) := by
  unfold execPllLockLoss
  (repeat' split) <;> simp only [State.enterSafe_blank, State.ev_blank, State.fresh_blank, State.hardOff_blank, State.markLock_blank, State.noteFree_blank, State.raiseAs_blank, State.updPort_blank, State.updTwin_blank, forPorts_blank, blank_mk, eq_self, or_true, true_or, apply_ite (State.blank w), ite_self, foldl_blank, implies_true, ran_next, apply_ite (ran w), h_clock, h_frame, h_power, h_host, h_intake, h_motion, h_cur, h_wedge, h_gate, h_follow, h_mon, h_plan, h_ports, h_fab, h_iso, h_twin, h_svc, h_faults, h_free]

@[simp] theorem execPllRelock_blank (h_clock : Group.clock ∈ w) (h_frame : Group.frame ∈ w) (h_power : Group.power ∈ w) (h_ports : Group.ports ∈ w) (h_iso : Group.iso ∈ w) (h_twin : Group.twin ∈ w) (h_faults : Group.faults ∈ w) (p : Fin 3) (us : Nat) (held : Nat) (periods : Nat) (s : State) :
    ran w (execPllRelock p us held periods s) = some (s.blank w) := by
  unfold execPllRelock
  (repeat' split) <;> simp only [State.busModes_blank, State.causeEnd_blank, State.framesGone_blank, State.isoAgain_blank, State.updTwin_blank, blank_mk, eq_self, or_true, true_or, apply_ite (State.blank w), ite_self, foldl_blank, implies_true, ran_next, apply_ite (ran w), h_clock, h_frame, h_power, h_ports, h_iso, h_twin, h_faults]

@[simp] theorem execLfTrim_blank (h_clock : Group.clock ∈ w) (h_faults : Group.faults ∈ w) (h_free : Group.free ∈ w) (dev : Int) (s : State) :
    ran w (execLfTrim dev s) = some (s.blank w) := by
  unfold execLfTrim
  simp only [State.causeEnd_blank, State.noteFree_blank, blank_mk, eq_self, or_true, true_or, apply_ite (State.blank w), ite_self, foldl_blank, implies_true, ran_next, apply_ite (ran w), h_clock, h_faults, h_free]

@[simp] theorem execSyncEdge_blank (h_frame : Group.frame ∈ w) (h_pins : Group.pins ∈ w) (h_fab : Group.fab ∈ w) (h_faults : Group.faults ∈ w) (h_free : Group.free ∈ w) (off : Nat) (high : Bool) (s : State) :
    ran w (execSyncEdge off high s) = some (s.blank w) := by
  unfold execSyncEdge
  simp only [State.bumpReject_blank, State.evFree_blank, blank_mk, eq_self, or_true, true_or, apply_ite (State.blank w), ite_self, foldl_blank, implies_true, ran_next, apply_ite (ran w), h_frame, h_pins, h_fab, h_faults, h_free]

@[simp] theorem execSyncReferenceLoss_blank (h_frame : Group.frame ∈ w) (h_fab : Group.fab ∈ w) (h_faults : Group.faults ∈ w) (h_free : Group.free ∈ w) (off : Nat) (s : State) :
    ran w (execSyncReferenceLoss off s) = some (s.blank w) := by
  unfold execSyncReferenceLoss
  simp only [State.evFree_blank, blank_mk, eq_self, or_true, true_or, apply_ite (State.blank w), ite_self, foldl_blank, implies_true, ran_next, apply_ite (ran w), h_frame, h_fab, h_faults, h_free]

@[simp] theorem execFrameTrimLimit_blank (h_frame : Group.frame ∈ w) (h_fab : Group.fab ∈ w) (h_faults : Group.faults ∈ w) (h_free : Group.free ∈ w) (s : State) :
    ran w (execFrameTrimLimit s) = some (s.blank w) := by
  unfold execFrameTrimLimit
  simp only [State.evFree_blank, blank_mk, eq_self, or_true, true_or, apply_ite (State.blank w), ite_self, foldl_blank, implies_true, ran_next, apply_ite (ran w), h_frame, h_fab, h_faults, h_free]

@[simp] theorem execStandstillRecalStart_blank (h_power : Group.power ∈ w) (h_cur : Group.cur ∈ w) (h_wedge : Group.wedge ∈ w) (h_gate : Group.gate ∈ w) (n : Fin 4) (s : State) :
    ran w (execStandstillRecalStart n s) = some (s.blank w) := by
  unfold execStandstillRecalStart
  simp only [State.enterHold_blank, State.setSeq_blank, State.takeAmp_blank, blank_mk, eq_self, or_true, true_or, apply_ite (State.blank w), ite_self, foldl_blank, implies_true, ran_next, apply_ite (ran w), h_power, h_cur, h_wedge, h_gate]

@[simp] theorem execCalibrationEnd_blank (h_host : Group.host ∈ w) (h_intake : Group.intake ∈ w) (h_plan : Group.plan ∈ w) (h_ports : Group.ports ∈ w) (h_fab : Group.fab ∈ w) (h_iso : Group.iso ∈ w) (h_svc : Group.svc ∈ w) (h_faults : Group.faults ∈ w) (n : Fin 4) (s : State) :
    ran w (execCalibrationEnd n s) = some (s.blank w) := by
  unfold execCalibrationEnd
  (repeat' split) <;> simp only [State.settle_blank, blank_mk, eq_self, or_true, true_or, apply_ite (State.blank w), ite_self, foldl_blank, implies_true, ran_next, apply_ite (ran w), h_host, h_intake, h_plan, h_ports, h_fab, h_iso, h_svc, h_faults]

end Sys2Proof.Machine
end

