-- ==== Sys2Proof/Laws/Pins.lean ====
section
/-! SUPPORT. The parts of the state that the operations of Machine/Pins.lean can change: all others keep their value. -/

namespace Sys2Proof.Machine

set_option linter.all false
set_option linter.unusedSimpArgs false

variable {w : List Group}

@[simp] theorem State.aonEv_blank (h_fab : Group.fab ∈ w) (h_faults : Group.faults ∈ w) (s : State) (code : Nat) (qual : Nat) :
    (State.aonEv s code qual).blank w = s.blank w := by
  unfold State.aonEv
  simp only [State.ev_blank, State.noteEv_blank, blank_mk, eq_self, or_true, true_or, apply_ite (State.blank w), ite_self, foldl_blank, implies_true, h_fab, h_faults]

@[simp] theorem State.aonEvFree_blank (h_fab : Group.fab ∈ w) (h_faults : Group.faults ∈ w) (h_free : Group.free ∈ w) (s : State) (code : Nat) :
    (State.aonEvFree s code).blank w = s.blank w := by
  unfold State.aonEvFree
  simp only [State.aonEv_blank, State.fresh_blank, blank_mk, eq_self, or_true, true_or, apply_ite (State.blank w), ite_self, foldl_blank, implies_true, h_fab, h_faults, h_free]

@[simp] theorem execSealChange_blank (h_pins : Group.pins ∈ w) (h_fab : Group.fab ∈ w) (h_faults : Group.faults ∈ w) (h_free : Group.free ∈ w) (high : Bool) (s : State) :
    ran w (execSealChange high s) = some (s.blank w) := by
  unfold execSealChange
  simp only [State.aonEvFree_blank, blank_mk, eq_self, or_true, true_or, apply_ite (State.blank w), ite_self, foldl_blank, implies_true, ran_next, apply_ite (ran w), h_pins, h_fab, h_faults, h_free]

@[simp] theorem execPresPress_blank (h_pins : Group.pins ∈ w) (h_fab : Group.fab ∈ w) (h_svc : Group.svc ∈ w) (h_faults : Group.faults ∈ w) (s : State) :
    ran w (execPresPress s) = some (s.blank w) := by
  unfold execPresPress
  simp only [State.aonEv_blank, blank_mk, eq_self, or_true, true_or, apply_ite (State.blank w), ite_self, foldl_blank, implies_true, ran_next, apply_ite (ran w), h_pins, h_fab, h_svc, h_faults]

@[simp] theorem execPresStuck_blank (h_pins : Group.pins ∈ w) (h_fab : Group.fab ∈ w) (h_faults : Group.faults ∈ w) (h_free : Group.free ∈ w) (sec : Nat) (s : State) :
    ran w (execPresStuck sec s) = some (s.blank w) := by
  unfold execPresStuck
  simp only [State.aonEvFree_blank, blank_mk, eq_self, or_true, true_or, apply_ite (State.blank w), ite_self, foldl_blank, implies_true, ran_next, apply_ite (ran w), h_pins, h_fab, h_faults, h_free]

@[simp] theorem execPresReleased_blank (h_pins : Group.pins ∈ w) (s : State) :
    ran w (execPresReleased s) = some (s.blank w) := by
  unfold execPresReleased
  simp only [blank_mk, eq_self, or_true, true_or, apply_ite (State.blank w), ite_self, foldl_blank, implies_true, ran_next, apply_ite (ran w), h_pins]

@[simp] theorem State.closeWindow_blank (h_fab : Group.fab ∈ w) (h_svc : Group.svc ∈ w) (h_faults : Group.faults ∈ w) (s : State) (cause : Nat) :
    (State.closeWindow s cause).blank w = s.blank w := by
  unfold State.closeWindow
  simp only [State.aonEv_blank, blank_mk, eq_self, or_true, true_or, apply_ite (State.blank w), ite_self, foldl_blank, implies_true, h_fab, h_svc, h_faults]

@[simp] theorem execPresenceWindowExpiry_blank (h_fab : Group.fab ∈ w) (h_svc : Group.svc ∈ w) (h_faults : Group.faults ∈ w) (ms : Nat) (s : State) :
    ran w (execPresenceWindowExpiry ms s) = some (s.blank w) := by
  unfold execPresenceWindowExpiry
  simp only [State.closeWindow_blank, blank_mk, eq_self, or_true, true_or, apply_ite (State.blank w), ite_self, foldl_blank, implies_true, ran_next, apply_ite (ran w), h_fab, h_svc, h_faults]

@[simp] theorem execTamperLoopBroken_blank (h_fab : Group.fab ∈ w) (h_svc : Group.svc ∈ w) (h_faults : Group.faults ∈ w) (h_free : Group.free ∈ w) (pulse : Bool × Bool) (gap : Bool × Bool) (s : State) :
    ran w (execTamperLoopBroken pulse gap s) = some (s.blank w) := by
  unfold execTamperLoopBroken
  simp only [State.closeWindow_blank, State.noteFree_blank, blank_mk, eq_self, or_true, true_or, apply_ite (State.blank w), ite_self, foldl_blank, implies_true, ran_next, apply_ite (ran w), h_fab, h_svc, h_faults, h_free]

@[simp] theorem execBrakeReleaseWaitEnd_blank (h_intake : Group.intake ∈ w) (h_mon : Group.mon ∈ w) (h_fab : Group.fab ∈ w) (h_faults : Group.faults ∈ w) (b : Fin 4) (s : State) :
    ran w (execBrakeReleaseWaitEnd b s) = some (s.blank w) := by
  unfold execBrakeReleaseWaitEnd
  dsimp only
  (repeat' split) <;> first | (simp only [State.lateStart_blank, State.setHop_blank, State.updBrake_blank, blank_mk, eq_self, or_true, true_or, apply_ite (State.blank w), ite_self, foldl_blank, implies_true, ran_next, apply_ite (ran w), h_intake, h_mon, h_fab, h_faults]; done)

end Sys2Proof.Machine
end

