-- ==== Sys2Proof/Laws/Mirror.lean ====
section
/-! SUPPORT. The parts of the state that the operations of Machine/Mirror.lean can change: all others keep their value. -/

namespace Sys2Proof.Machine

set_option linter.all false
set_option linter.unusedSimpArgs false

variable {w : List Group}

@[simp] theorem State.twinHead_blank (h_free : Group.free ∈ w) (s : State) (ty : Nat) (len : Nat) (hand : Bool) :
    (State.twinHead s ty len hand).2.blank w = s.blank w := by
  unfold State.twinHead
  simp only [State.fresh_blank, blank_mk, eq_self, or_true, true_or, apply_ite (State.blank w), ite_self, foldl_blank, implies_true, h_free]

@[simp] theorem State.twinSend_blank (h_twin : Group.twin ∈ w) (h_free : Group.free ∈ w) (s : State) :
    (State.twinSend s).blank w = s.blank w := by
  unfold State.twinSend
  simp only [State.twinHead_blank, State.updTwin_blank, blank_mk, eq_self, or_true, true_or, apply_ite (State.blank w), ite_self, foldl_blank, implies_true, h_twin, h_free]

@[simp] theorem State.loadRun_blank (h_twin : Group.twin ∈ w) (s : State) (r : List Byte) (d : BitVec 32) :
    (State.loadRun s r d).blank w = s.blank w := by
  unfold State.loadRun
  simp only [blank_mk, eq_self, or_true, true_or, apply_ite (State.blank w), ite_self, foldl_blank, implies_true, h_twin]

@[simp] theorem State.followShadow_blank (h_follow : Group.follow ∈ w) (s : State) (n : Fin 4) (pl : List Byte) (gone : Nat) :
    (State.followShadow s n pl gone).blank w = s.blank w := by
  unfold State.followShadow
  simp only [State.updFollow_blank, blank_mk, eq_self, or_true, true_or, apply_ite (State.blank w), ite_self, foldl_blank, implies_true, h_follow]

@[simp] theorem State.putBlock_blank (h_motion : Group.motion ∈ w) (h_cur : Group.cur ∈ w) (h_wedge : Group.wedge ∈ w) (s : State) (r : List Byte) (d : BitVec 32) (n : Fin 4) (a4 : Shadow) :
    (State.putBlock s r d n a4).blank w = s.blank w := by
  unfold State.putBlock
  simp only [State.updCur_blank, State.updMotion_blank, State.updWedge_blank, blank_mk, eq_self, or_true, true_or, apply_ite (State.blank w), ite_self, foldl_blank, implies_true, h_motion, h_cur, h_wedge]

@[simp] theorem State.blockBrake_blank (h_mon : Group.mon ∈ w) (s : State) (n : Fin 4) (b : List Byte) :
    (State.blockBrake s n b).blank w = s.blank w := by
  unfold State.blockBrake
  (repeat' split) <;> simp only [State.updBrake_blank, blank_mk, eq_self, or_true, true_or, apply_ite (State.blank w), ite_self, foldl_blank, implies_true, h_mon]

@[simp] theorem State.loadBlock_blank (h_motion : Group.motion ∈ w) (h_cur : Group.cur ∈ w) (h_wedge : Group.wedge ∈ w) (h_follow : Group.follow ∈ w) (h_mon : Group.mon ∈ w) (s : State) (r : List Byte) (d : BitVec 32) (n : Fin 4) :
    (State.loadBlock s r d n).blank w = s.blank w := by
  unfold State.loadBlock
  simp only [State.blockBrake_blank, State.followShadow_blank, State.putBlock_blank, State.updFollow_blank, blank_mk, eq_self, or_true, true_or, apply_ite (State.blank w), ite_self, foldl_blank, implies_true, h_motion, h_cur, h_wedge, h_follow, h_mon]

@[simp] theorem State.shadowStep_blank (h_motion : Group.motion ∈ w) (h_cur : Group.cur ∈ w) (h_wedge : Group.wedge ∈ w) (h_follow : Group.follow ∈ w) (h_mon : Group.mon ∈ w) (h_twin : Group.twin ∈ w) (s : State) :
    (State.shadowStep s).blank w = s.blank w := by
  unfold State.shadowStep
  simp only [State.loadBlock_blank, State.loadRun_blank, State.updTwin_blank, blank_mk, eq_self, or_true, true_or, apply_ite (State.blank w), ite_self, foldl_blank, implies_true, h_motion, h_cur, h_wedge, h_follow, h_mon, h_twin]

@[simp] theorem State.followSeq_blank (h_intake : Group.intake ∈ w) (h_twin : Group.twin ∈ w) (s : State) :
    (State.followSeq s).blank w = s.blank w := by
  unfold State.followSeq
  dsimp only
  split
  · rfl
  · refine foldl_blank _ (fun t n => ?_) _ _
    (repeat' split) <;> first
    | rfl
    | (simp only [blank_mk, eq_self, or_true, true_or, apply_ite (State.blank w), ite_self, foldl_blank, implies_true, h_intake, h_twin]; done)
    | (have e' := State.issueInternal_blank h_intake (by assumption); simp only [blank_mk, eq_self, or_true, true_or, apply_ite (State.blank w), ite_self, foldl_blank, implies_true, h_intake, h_twin, e'])

end Sys2Proof.Machine
end

