-- ==== Sys2Proof/Laws/Twin.lean ====
section
/-! SUPPORT. The parts of the state that the operations of Machine/Twin.lean can change: all others keep their value. -/

namespace Sys2Proof.Machine

set_option linter.all false
set_option linter.unusedSimpArgs false

variable {w : List Group}

@[simp] theorem State.twinFault_blank (h_faults : Group.faults ∈ w) (h_free : Group.free ∈ w) (s : State) (code : Nat) :
    (State.twinFault s code).blank w = s.blank w := by
  unfold State.twinFault
  simp only [State.noteFree_blank, blank_mk, eq_self, or_true, true_or, apply_ite (State.blank w), ite_self, foldl_blank, implies_true, h_faults, h_free]

@[simp] theorem execTwinLinkUp_blank (h_fab : Group.fab ∈ w) (h_twin : Group.twin ∈ w) (h_faults : Group.faults ∈ w) (delay : Nat) (uid : BitVec 64) (idles : Nat) (s : State) :
    ran w (execTwinLinkUp delay uid idles s) = some (s.blank w) := by
  unfold execTwinLinkUp
  simp only [State.ev_blank, State.updTwin_blank, blank_mk, eq_self, or_true, true_or, apply_ite (State.blank w), ite_self, foldl_blank, implies_true, ran_next, apply_ite (ran w), h_fab, h_twin, h_faults]

@[simp] theorem execTwinLinkDown_blank (h_fab : Group.fab ∈ w) (h_twin : Group.twin ∈ w) (h_faults : Group.faults ∈ w) (viol : Nat) (ns : Nat) (s : State) :
    ran w (execTwinLinkDown viol ns s) = some (s.blank w) := by
  unfold execTwinLinkDown
  simp only [State.ev_blank, State.updTwin_blank, blank_mk, eq_self, or_true, true_or, apply_ite (State.blank w), ite_self, foldl_blank, implies_true, ran_next, apply_ite (ran w), h_fab, h_twin, h_faults]

@[simp] theorem State.rejectRecord_blank (h_fab : Group.fab ∈ w) (h_twin : Group.twin ∈ w) (h_faults : Group.faults ∈ w) (h_free : Group.free ∈ w) (s : State) :
    (State.rejectRecord s).blank w = s.blank w := by
  unfold State.rejectRecord
  simp only [State.evFree_blank, State.updTwin_blank, blank_mk, eq_self, or_true, true_or, apply_ite (State.blank w), ite_self, foldl_blank, implies_true, h_fab, h_twin, h_faults, h_free]

@[simp] theorem State.alignTo_blank (h_frame : Group.frame ∈ w) (h_twin : Group.twin ∈ w) (h_free : Group.free ∈ w) (s : State) (r : List Byte) (off : Nat) :
    (State.alignTo s r off).blank w = s.blank w := by
  unfold State.alignTo
  simp only [State.fresh_blank, State.updTwin_blank, blank_mk, eq_self, or_true, true_or, apply_ite (State.blank w), ite_self, foldl_blank, implies_true, h_frame, h_twin, h_free]

@[simp] theorem State.takeRecord_blank (h_frame : Group.frame ∈ w) (h_twin : Group.twin ∈ w) (h_faults : Group.faults ∈ w) (h_free : Group.free ∈ w) (s : State) (r : List Byte) (off : Nat) (mirror : Bool) :
    (State.takeRecord s r off mirror).blank w = s.blank w := by
  unfold State.takeRecord
  simp only [State.alignTo_blank, State.causeEnd_blank, State.twinFault_blank, State.updTwin_blank, blank_mk, eq_self, or_true, true_or, apply_ite (State.blank w), ite_self, foldl_blank, implies_true, h_frame, h_twin, h_faults, h_free]

@[simp] theorem State.recordIn_blank (h_frame : Group.frame ∈ w) (h_fab : Group.fab ∈ w) (h_twin : Group.twin ∈ w) (h_faults : Group.faults ∈ w) (h_free : Group.free ∈ w) (s : State) (r : List Byte) (off : Nat) (clean : Bool) (mirror : Bool) :
    (State.recordIn s r off clean mirror).blank w = s.blank w := by
  unfold State.recordIn
  simp only [State.rejectRecord_blank, State.takeRecord_blank, blank_mk, eq_self, or_true, true_or, apply_ite (State.blank w), ite_self, foldl_blank, implies_true, h_frame, h_fab, h_twin, h_faults, h_free]

@[simp] theorem execMirrorRecord_blank (h_frame : Group.frame ∈ w) (h_fab : Group.fab ∈ w) (h_twin : Group.twin ∈ w) (h_faults : Group.faults ∈ w) (h_free : Group.free ∈ w) (r : List (BitVec 8)) (off : Nat) (clean : Bool) (s : State) :
    ran w (execMirrorRecord r off clean s) = some (s.blank w) := by
  unfold execMirrorRecord
  simp only [State.recordIn_blank, blank_mk, eq_self, or_true, true_or, apply_ite (State.blank w), ite_self, foldl_blank, implies_true, ran_next, apply_ite (ran w), h_frame, h_fab, h_twin, h_faults, h_free]

@[simp] theorem execStatusRecord_blank (h_frame : Group.frame ∈ w) (h_fab : Group.fab ∈ w) (h_twin : Group.twin ∈ w) (h_faults : Group.faults ∈ w) (h_free : Group.free ∈ w) (r : List (BitVec 8)) (off : Nat) (clean : Bool) (s : State) :
    ran w (execStatusRecord r off clean s) = some (s.blank w) := by
  unfold execStatusRecord
  simp only [State.recordIn_blank, blank_mk, eq_self, or_true, true_or, apply_ite (State.blank w), ite_self, foldl_blank, implies_true, ran_next, apply_ite (ran w), h_frame, h_fab, h_twin, h_faults, h_free]

@[simp] theorem execActiFall_blank (h_pins : Group.pins ∈ w) (h_twin : Group.twin ∈ w) (h_faults : Group.faults ∈ w) (s : State) :
    ran w (execActiFall s) = some (s.blank w) := by
  unfold execActiFall
  simp only [State.causeEnd_blank, State.updTwin_blank, blank_mk, eq_self, or_true, true_or, apply_ite (State.blank w), ite_self, foldl_blank, implies_true, ran_next, apply_ite (ran w), h_pins, h_twin, h_faults]

@[simp] theorem execActiRise_blank (h_pins : Group.pins ∈ w) (h_gate : Group.gate ∈ w) (h_ports : Group.ports ∈ w) (h_iso : Group.iso ∈ w) (h_twin : Group.twin ∈ w) (h_faults : Group.faults ∈ w) (h_free : Group.free ∈ w) (s : State) :
    ran w (execActiRise s) = some (s.blank w) := by
  unfold execActiRise
  simp only [State.causeEnd_blank, State.leaveActive_blank, State.noteEv_blank, State.twinFault_blank, State.updTwin_blank, blank_mk, eq_self, or_true, true_or, apply_ite (State.blank w), ite_self, foldl_blank, implies_true, ran_next, apply_ite (ran w), h_pins, h_gate, h_ports, h_iso, h_twin, h_faults, h_free]

@[simp] theorem State.arm_blank (h_ports : Group.ports ∈ w) (h_iso : Group.iso ∈ w) (h_twin : Group.twin ∈ w) (s : State) (cause : Nat) :
    (State.arm s cause).blank w = s.blank w := by
  unfold State.arm
  simp only [State.busModes_blank, State.isoClaimAt_blank, State.updTwin_blank, blank_mk, eq_self, or_true, true_or, apply_ite (State.blank w), ite_self, foldl_blank, implies_true, h_ports, h_iso, h_twin]

@[simp] theorem execGpermSet_blank (h_ports : Group.ports ∈ w) (h_fab : Group.fab ∈ w) (h_iso : Group.iso ∈ w) (h_twin : Group.twin ∈ w) (h_faults : Group.faults ∈ w) (us : Nat) (s : State) :
    ran w (execGpermSet us s) = some (s.blank w) := by
  unfold execGpermSet
  simp only [State.busModes_blank, State.causeEnd_blank, State.ev_blank, State.updTwin_blank, blank_mk, eq_self, or_true, true_or, apply_ite (State.blank w), ite_self, foldl_blank, implies_true, ran_next, apply_ite (ran w), h_ports, h_fab, h_iso, h_twin, h_faults]

@[simp] theorem execTwinPartnerTimeout_blank (h_faults : Group.faults ∈ w) (h_free : Group.free ∈ w) (s : State) :
    ran w (execTwinPartnerTimeout s) = some (s.blank w) := by
  unfold execTwinPartnerTimeout
  (repeat' split) <;> simp only [State.raiseFree_blank, State.raise_blank, blank_mk, eq_self, or_true, true_or, apply_ite (State.blank w), ite_self, foldl_blank, implies_true, ran_next, apply_ite (ran w), h_faults, h_free]

@[simp] theorem execTwinAloneWaitExpiry_blank (h_ports : Group.ports ∈ w) (h_iso : Group.iso ∈ w) (h_twin : Group.twin ∈ w) (s : State) :
    ran w (execTwinAloneWaitExpiry s) = some (s.blank w) := by
  unfold execTwinAloneWaitExpiry
  simp only [State.arm_blank, blank_mk, eq_self, or_true, true_or, apply_ite (State.blank w), ite_self, foldl_blank, implies_true, ran_next, apply_ite (ran w), h_ports, h_iso, h_twin]

theorem State.adoptHop_blank (h_intake : Group.intake ∈ w) {s : State} {n : Fin 4} {b : List Byte} {q : _} {t : State} (e : State.adoptHop s n b = some (q, t)) :
    t.blank w = s.blank w := by
  unfold State.adoptHop at e
  simp only [Option.map_eq_some_iff, Prod.mk.injEq] at e
  obtain ⟨a, -, -, e⟩ := e
  subst e
  simp only [State.handOver_blank, State.setHop_blank, blank_mk, eq_self, or_true, true_or, apply_ite (State.blank w), ite_self, foldl_blank, implies_true, h_intake]

@[simp] theorem State.adoptAxis_blank (h_power : Group.power ∈ w) (h_host : Group.host ∈ w) (h_intake : Group.intake ∈ w) (h_motion : Group.motion ∈ w) (h_ports : Group.ports ∈ w) (h_fab : Group.fab ∈ w) (h_iso : Group.iso ∈ w) (h_faults : Group.faults ∈ w) (s : State) (b : List Byte) (n : Fin 4) :
    (State.adoptAxis s b n).blank w = s.blank w := by
  unfold State.adoptAxis
  dsimp only
  (repeat' split) <;> first | (simp only [State.doneWith_blank, State.finish_blank, State.setSeq_blank, State.updMotion_blank, blank_mk, eq_self, or_true, true_or, apply_ite (State.blank w), ite_self, foldl_blank, implies_true, h_power, h_host, h_intake, h_motion, h_ports, h_fab, h_iso, h_faults]; done) | (have e' := State.adoptHop_blank h_intake (by assumption); simp only [State.doneWith_blank, State.finish_blank, State.setSeq_blank, State.updMotion_blank, blank_mk, eq_self, or_true, true_or, apply_ite (State.blank w), ite_self, foldl_blank, implies_true, h_power, h_host, h_intake, h_motion, h_ports, h_fab, h_iso, h_faults, e'])

@[simp] theorem State.adoptRun_blank (h_host : Group.host ∈ w) (h_intake : Group.intake ∈ w) (h_motion : Group.motion ∈ w) (h_plan : Group.plan ∈ w) (h_ports : Group.ports ∈ w) (h_fab : Group.fab ∈ w) (h_iso : Group.iso ∈ w) (h_twin : Group.twin ∈ w) (h_faults : Group.faults ∈ w) (h_free : Group.free ∈ w) (s : State) (r : List Byte) :
    (State.adoptRun s r).blank w = s.blank w := by
  unfold State.adoptRun
  dsimp only
  (repeat' split) <;> first | (simp only [State.evFree_blank, State.finish_blank, State.loadSegment_blank, State.rampToRest_blank, State.updMotion_blank, State.updRun_blank, forAxes_blank, blank_mk, eq_self, or_true, true_or, apply_ite (State.blank w), ite_self, foldl_blank, implies_true, h_host, h_intake, h_motion, h_plan, h_ports, h_fab, h_iso, h_twin, h_faults, h_free]; done) | (have e' := State.adoptHop_blank h_intake (by assumption); simp only [State.evFree_blank, State.finish_blank, State.loadSegment_blank, State.rampToRest_blank, State.updMotion_blank, State.updRun_blank, forAxes_blank, blank_mk, eq_self, or_true, true_or, apply_ite (State.blank w), ite_self, foldl_blank, implies_true, h_host, h_intake, h_motion, h_plan, h_ports, h_fab, h_iso, h_twin, h_faults, h_free, e'])

@[simp] theorem State.adoptSeqs_blank (h_intake : Group.intake ∈ w) (s : State) (r : List Byte) :
    (State.adoptSeqs s r).blank w = s.blank w := by
  unfold State.adoptSeqs
  simp only [blank_mk, eq_self, or_true, true_or, apply_ite (State.blank w), ite_self, foldl_blank, implies_true, h_intake]

@[simp] theorem State.isoTakes_blank (h_fab : Group.fab ∈ w) (h_iso : Group.iso ∈ w) (h_faults : Group.faults ∈ w) (s : State) :
    (State.isoTakes s).blank w = s.blank w := by
  unfold State.isoTakes
  simp only [State.ev_blank, State.sendClaimed_blank, State.updIso_blank, blank_mk, eq_self, or_true, true_or, apply_ite (State.blank w), ite_self, foldl_blank, implies_true, h_fab, h_iso, h_faults]

@[simp] theorem State.followTakes_blank (h_follow : Group.follow ∈ w) (h_faults : Group.faults ∈ w) (n : Fin 4) (s : State) :
    (State.followTakes n s).blank w = s.blank w := by
  unfold State.followTakes
  simp only [State.raise_blank, State.updFollow_blank, blank_mk, eq_self, or_true, true_or, apply_ite (State.blank w), ite_self, foldl_blank, implies_true, h_follow, h_faults]

@[simp] theorem State.takeover_blank (h_power : Group.power ∈ w) (h_host : Group.host ∈ w) (h_intake : Group.intake ∈ w) (h_motion : Group.motion ∈ w) (h_cur : Group.cur ∈ w) (h_wedge : Group.wedge ∈ w) (h_gate : Group.gate ∈ w) (h_follow : Group.follow ∈ w) (h_mon : Group.mon ∈ w) (h_channels : Group.channels ∈ w) (h_plan : Group.plan ∈ w) (h_ports : Group.ports ∈ w) (h_fab : Group.fab ∈ w) (h_iso : Group.iso ∈ w) (h_twin : Group.twin ∈ w) (h_faults : Group.faults ∈ w) (h_free : Group.free ∈ w) (s : State) (usable : Bool) :
    (State.takeover s usable).blank w = s.blank w := by
  unfold State.takeover
  simp only [State.adoptAxis_blank, State.adoptRun_blank, State.adoptSeqs_blank, State.brakeOff_blank, State.dropAxis_blank, State.ev_blank, State.followTakes_blank, State.isoTakes_blank, State.loadBlock_blank, State.loadRun_blank, State.raiseFree_blank, State.switchesOff_blank, State.updChan_blank, State.updMotion_blank, State.updTwin_blank, forAxes_blank, blank_mk, eq_self, or_true, true_or, apply_ite (State.blank w), ite_self, foldl_blank, implies_true, h_power, h_host, h_intake, h_motion, h_cur, h_wedge, h_gate, h_follow, h_mon, h_channels, h_plan, h_ports, h_fab, h_iso, h_twin, h_faults, h_free]

@[simp] theorem State.readyStep_blank (h_fab : Group.fab ∈ w) (h_twin : Group.twin ∈ w) (h_faults : Group.faults ∈ w) (h_free : Group.free ∈ w) (s : State) :
    (State.readyStep s).blank w = s.blank w := by
  unfold State.readyStep
  (repeat' split) <;> simp only [State.evFree_blank, State.ev_blank, State.updTwin_blank, blank_mk, eq_self, or_true, true_or, apply_ite (State.blank w), ite_self, foldl_blank, implies_true, h_fab, h_twin, h_faults, h_free]

@[simp] theorem State.switchStep_blank (h_host : Group.host ∈ w) (h_intake : Group.intake ∈ w) (h_gate : Group.gate ∈ w) (h_ports : Group.ports ∈ w) (h_fab : Group.fab ∈ w) (h_iso : Group.iso ∈ w) (h_twin : Group.twin ∈ w) (h_faults : Group.faults ∈ w) (s : State) :
    (State.switchStep s).blank w = s.blank w := by
  unfold State.switchStep
  (repeat' split) <;> simp only [State.doneWith_blank, State.ev_blank, State.leaveActive_blank, State.updTwin_blank, blank_mk, eq_self, or_true, true_or, apply_ite (State.blank w), ite_self, foldl_blank, implies_true, h_host, h_intake, h_gate, h_ports, h_fab, h_iso, h_twin, h_faults]

@[simp] theorem State.roleStep_blank (h_ports : Group.ports ∈ w) (h_iso : Group.iso ∈ w) (h_twin : Group.twin ∈ w) (s : State) :
    (State.roleStep s).blank w = s.blank w := by
  unfold State.roleStep
  simp only [State.arm_blank, State.updTwin_blank, blank_mk, eq_self, or_true, true_or, apply_ite (State.blank w), ite_self, foldl_blank, implies_true, h_ports, h_iso, h_twin]

@[simp] theorem State.roleBack_blank (h_ports : Group.ports ∈ w) (h_fab : Group.fab ∈ w) (h_iso : Group.iso ∈ w) (h_twin : Group.twin ∈ w) (h_faults : Group.faults ∈ w) (s : State) :
    (State.roleBack s).blank w = s.blank w := by
  unfold State.roleBack
  simp only [State.busModes_blank, State.ev_blank, State.updTwin_blank, blank_mk, eq_self, or_true, true_or, apply_ite (State.blank w), ite_self, foldl_blank, implies_true, h_ports, h_fab, h_iso, h_twin, h_faults]

@[simp] theorem State.twinBoundary_blank (h_power : Group.power ∈ w) (h_host : Group.host ∈ w) (h_intake : Group.intake ∈ w) (h_motion : Group.motion ∈ w) (h_cur : Group.cur ∈ w) (h_wedge : Group.wedge ∈ w) (h_gate : Group.gate ∈ w) (h_follow : Group.follow ∈ w) (h_mon : Group.mon ∈ w) (h_channels : Group.channels ∈ w) (h_plan : Group.plan ∈ w) (h_ports : Group.ports ∈ w) (h_fab : Group.fab ∈ w) (h_iso : Group.iso ∈ w) (h_twin : Group.twin ∈ w) (h_faults : Group.faults ∈ w) (h_free : Group.free ∈ w) (s : State) :
    (State.twinBoundary s).blank w = s.blank w := by
  unfold State.twinBoundary
  dsimp only
  (repeat' split) <;> first | (simp only [State.followSeq_blank, State.readyStep_blank, State.roleBack_blank, State.roleStep_blank, State.switchStep_blank, State.takeover_blank, State.updTwin_blank, blank_mk, eq_self, or_true, true_or, apply_ite (State.blank w), ite_self, foldl_blank, implies_true, h_power, h_host, h_intake, h_motion, h_cur, h_wedge, h_gate, h_follow, h_mon, h_channels, h_plan, h_ports, h_fab, h_iso, h_twin, h_faults, h_free]; done)

@[simp] theorem State.twinSuper_blank (h_twin : Group.twin ∈ w) (s : State) :
    (State.twinSuper s).blank w = s.blank w := by
  unfold State.twinSuper
  simp only [State.updTwin_blank, blank_mk, eq_self, or_true, true_or, apply_ite (State.blank w), ite_self, foldl_blank, implies_true, h_twin]

@[simp] theorem twinStatusSpec_blank (h_host : Group.host ∈ w) (h_intake : Group.intake ∈ w) (h_ports : Group.ports ∈ w) (h_fab : Group.fab ∈ w) (h_iso : Group.iso ∈ w) (h_faults : Group.faults ∈ w) (s : State) (h : Nat) :
    (twinStatusSpec.start s h).blank w = s.blank w := by
  unfold twinStatusSpec
  simp only [State.doneWith_blank, blank_mk, eq_self, or_true, true_or, apply_ite (State.blank w), ite_self, foldl_blank, implies_true, h_host, h_intake, h_ports, h_fab, h_iso, h_faults]

@[simp] theorem twinStatusSpec_taken (s : State) (h : Nat) :
    (twinStatusSpec.taken s h).blank w = s.blank w := by simp only [twinStatusSpec]

@[simp] theorem execTwinStatus_blank (h_host : Group.host ∈ w) (h_intake : Group.intake ∈ w) (h_plan : Group.plan ∈ w) (h_ports : Group.ports ∈ w) (h_fab : Group.fab ∈ w) (h_iso : Group.iso ∈ w) (h_svc : Group.svc ∈ w) (h_faults : Group.faults ∈ w) (h : Fin 32) (s : State) :
    ran w (execTwinStatus h s) = some (s.blank w) := by
  unfold execTwinStatus
  simp only [takeRow_blank, twinStatusSpec_blank, blank_mk, eq_self, or_true, true_or, apply_ite (State.blank w), ite_self, foldl_blank, implies_true, ran_next, apply_ite (ran w), h_host, h_intake, h_plan, h_ports, h_fab, h_iso, h_svc, h_faults, twinStatusSpec_taken]

@[simp] theorem twinSwitchSpec_blank (h_twin : Group.twin ∈ w) (s : State) (h : Nat) :
    (twinSwitchSpec.start s h).blank w = s.blank w := by
  unfold twinSwitchSpec
  simp only [State.updTwin_blank, blank_mk, eq_self, or_true, true_or, apply_ite (State.blank w), ite_self, foldl_blank, implies_true, h_twin]

@[simp] theorem twinSwitchSpec_taken (s : State) (h : Nat) :
    (twinSwitchSpec.taken s h).blank w = s.blank w := by simp only [twinSwitchSpec]

@[simp] theorem execTwinSwitch_blank (h_host : Group.host ∈ w) (h_intake : Group.intake ∈ w) (h_plan : Group.plan ∈ w) (h_ports : Group.ports ∈ w) (h_fab : Group.fab ∈ w) (h_iso : Group.iso ∈ w) (h_twin : Group.twin ∈ w) (h_svc : Group.svc ∈ w) (h_faults : Group.faults ∈ w) (h : Fin 32) (s : State) :
    ran w (execTwinSwitch h s) = some (s.blank w) := by
  unfold execTwinSwitch
  simp only [takeRow_blank, twinSwitchSpec_blank, blank_mk, eq_self, or_true, true_or, apply_ite (State.blank w), ite_self, foldl_blank, implies_true, ran_next, apply_ite (ran w), h_host, h_intake, h_plan, h_ports, h_fab, h_iso, h_twin, h_svc, h_faults, twinSwitchSpec_taken]

@[simp] theorem execTwinSwitchTimeout_blank (h_host : Group.host ∈ w) (h_intake : Group.intake ∈ w) (h_plan : Group.plan ∈ w) (h_ports : Group.ports ∈ w) (h_fab : Group.fab ∈ w) (h_iso : Group.iso ∈ w) (h_twin : Group.twin ∈ w) (h_svc : Group.svc ∈ w) (h_faults : Group.faults ∈ w) (s : State) :
    ran w (execTwinSwitchTimeout s) = some (s.blank w) := by
  unfold execTwinSwitchTimeout
  (repeat' split) <;> simp only [State.finish_blank, State.settle_blank, State.updTwin_blank, blank_mk, eq_self, or_true, true_or, apply_ite (State.blank w), ite_self, foldl_blank, implies_true, ran_next, apply_ite (ran w), h_host, h_intake, h_plan, h_ports, h_fab, h_iso, h_twin, h_svc, h_faults]

end Sys2Proof.Machine
end

