-- ==== Sys2Proof/Laws/Service.lean ====
section
/-! SUPPORT. The parts of the state that the operations of Machine/Service.lean can change: all others keep their value. -/

namespace Sys2Proof.Machine

set_option linter.all false
set_option linter.unusedSimpArgs false

variable {w : List Group}

@[simp] theorem State.updIdle_blank (h_svc : Group.svc ∈ w) (s : State) (f : Bank → Bank) :
    (State.updIdle s f).blank w = s.blank w := by
  unfold State.updIdle
  simp only [blank_mk, eq_self, or_true, true_or, apply_ite (State.blank w), ite_self, foldl_blank, implies_true, h_svc]

@[simp] theorem State.fwBegin_blank (h_host : Group.host ∈ w) (h_intake : Group.intake ∈ w) (h_ports : Group.ports ∈ w) (h_fab : Group.fab ∈ w) (h_iso : Group.iso ∈ w) (h_svc : Group.svc ∈ w) (h_faults : Group.faults ∈ w) (s : State) (h : Nat) :
    (State.fwBegin s h).blank w = s.blank w := by
  unfold State.fwBegin
  simp only [State.doneWith_blank, State.ev_blank, State.updIdle_blank, blank_mk, eq_self, or_true, true_or, apply_ite (State.blank w), ite_self, foldl_blank, implies_true, h_host, h_intake, h_ports, h_fab, h_iso, h_svc, h_faults]

@[simp] theorem State.fwWrite_blank (h_host : Group.host ∈ w) (h_intake : Group.intake ∈ w) (h_ports : Group.ports ∈ w) (h_fab : Group.fab ∈ w) (h_iso : Group.iso ∈ w) (h_svc : Group.svc ∈ w) (h_faults : Group.faults ∈ w) (s : State) (h : Nat) :
    (State.fwWrite s h).blank w = s.blank w := by
  unfold State.fwWrite
  simp only [State.doneWith_blank, State.updIdle_blank, blank_mk, eq_self, or_true, true_or, apply_ite (State.blank w), ite_self, foldl_blank, implies_true, h_host, h_intake, h_ports, h_fab, h_iso, h_svc, h_faults]

@[simp] theorem State.fwVerify_blank (h_host : Group.host ∈ w) (h_intake : Group.intake ∈ w) (h_ports : Group.ports ∈ w) (h_fab : Group.fab ∈ w) (h_iso : Group.iso ∈ w) (h_svc : Group.svc ∈ w) (h_faults : Group.faults ∈ w) (h_free : Group.free ∈ w) (s : State) (h : Nat) :
    (State.fwVerify s h).blank w = s.blank w := by
  unfold State.fwVerify
  dsimp only
  (repeat' split) <;> first | (simp only [State.doneWith_blank, State.finish_blank, State.fresh_blank, State.updIdle_blank, blank_mk, eq_self, or_true, true_or, apply_ite (State.blank w), ite_self, foldl_blank, implies_true, h_host, h_intake, h_ports, h_fab, h_iso, h_svc, h_faults, h_free]; done)

@[simp] theorem State.fwCommit_blank (h_host : Group.host ∈ w) (h_intake : Group.intake ∈ w) (h_ports : Group.ports ∈ w) (h_fab : Group.fab ∈ w) (h_iso : Group.iso ∈ w) (h_svc : Group.svc ∈ w) (h_faults : Group.faults ∈ w) (s : State) (h : Nat) :
    (State.fwCommit s h).blank w = s.blank w := by
  unfold State.fwCommit
  simp only [State.doneWith_blank, State.ev_blank, State.updIdle_blank, blank_mk, eq_self, or_true, true_or, apply_ite (State.blank w), ite_self, foldl_blank, implies_true, h_host, h_intake, h_ports, h_fab, h_iso, h_svc, h_faults]

@[simp] theorem State.fwActivate_blank (h_host : Group.host ∈ w) (h_intake : Group.intake ∈ w) (h_ports : Group.ports ∈ w) (h_fab : Group.fab ∈ w) (h_iso : Group.iso ∈ w) (h_svc : Group.svc ∈ w) (h_faults : Group.faults ∈ w) (s : State) (h : Nat) :
    (State.fwActivate s h).blank w = s.blank w := by
  unfold State.fwActivate
  simp only [State.doneWith_blank, blank_mk, eq_self, or_true, true_or, apply_ite (State.blank w), ite_self, foldl_blank, implies_true, h_host, h_intake, h_ports, h_fab, h_iso, h_svc, h_faults]

@[simp] theorem State.fwConfirm_blank (h_host : Group.host ∈ w) (h_intake : Group.intake ∈ w) (h_ports : Group.ports ∈ w) (h_fab : Group.fab ∈ w) (h_iso : Group.iso ∈ w) (h_svc : Group.svc ∈ w) (h_faults : Group.faults ∈ w) (h_free : Group.free ∈ w) (s : State) (h : Nat) :
    (State.fwConfirm s h).blank w = s.blank w := by
  unfold State.fwConfirm
  simp only [State.doneWith_blank, State.evFree_blank, blank_mk, eq_self, or_true, true_or, apply_ite (State.blank w), ite_self, foldl_blank, implies_true, h_host, h_intake, h_ports, h_fab, h_iso, h_svc, h_faults, h_free]

@[simp] theorem State.fwAbort_blank (h_host : Group.host ∈ w) (h_intake : Group.intake ∈ w) (h_ports : Group.ports ∈ w) (h_fab : Group.fab ∈ w) (h_iso : Group.iso ∈ w) (h_svc : Group.svc ∈ w) (h_faults : Group.faults ∈ w) (s : State) (h : Nat) :
    (State.fwAbort s h).blank w = s.blank w := by
  unfold State.fwAbort
  simp only [State.doneWith_blank, State.updIdle_blank, blank_mk, eq_self, or_true, true_or, apply_ite (State.blank w), ite_self, foldl_blank, implies_true, h_host, h_intake, h_ports, h_fab, h_iso, h_svc, h_faults]

@[simp] theorem State.fwWork_blank (h_host : Group.host ∈ w) (h_intake : Group.intake ∈ w) (h_ports : Group.ports ∈ w) (h_fab : Group.fab ∈ w) (h_iso : Group.iso ∈ w) (h_svc : Group.svc ∈ w) (h_faults : Group.faults ∈ w) (h_free : Group.free ∈ w) (s : State) (h : Nat) :
    (State.fwWork s h).blank w = s.blank w := by
  unfold State.fwWork
  split <;> simp only [State.fwAbort_blank, State.fwActivate_blank, State.fwBegin_blank, State.fwCommit_blank, State.fwConfirm_blank, State.fwVerify_blank, State.fwWrite_blank, blank_mk, eq_self, or_true, true_or, apply_ite (State.blank w), ite_self, foldl_blank, implies_true, h_host, h_intake, h_ports, h_fab, h_iso, h_svc, h_faults, h_free]

@[simp] theorem State.fwRun_blank (h_host : Group.host ∈ w) (h_intake : Group.intake ∈ w) (h_ports : Group.ports ∈ w) (h_fab : Group.fab ∈ w) (h_iso : Group.iso ∈ w) (h_svc : Group.svc ∈ w) (h_faults : Group.faults ∈ w) (h_free : Group.free ∈ w) (s : State) (h : Nat) :
    (State.fwRun s h).blank w = s.blank w := by
  unfold State.fwRun
  (repeat' split) <;> simp only [State.finish_blank, State.fwWork_blank, blank_mk, eq_self, or_true, true_or, apply_ite (State.blank w), ite_self, foldl_blank, implies_true, h_host, h_intake, h_ports, h_fab, h_iso, h_svc, h_faults, h_free]

@[simp] theorem State.fwStart_blank (h_host : Group.host ∈ w) (h_intake : Group.intake ∈ w) (h_ports : Group.ports ∈ w) (h_fab : Group.fab ∈ w) (h_iso : Group.iso ∈ w) (h_svc : Group.svc ∈ w) (h_faults : Group.faults ∈ w) (h_free : Group.free ∈ w) (s : State) (h : Nat) :
    (State.fwStart s h).blank w = s.blank w := by
  unfold State.fwStart
  simp only [State.fwRun_blank, State.setProg_blank, blank_mk, eq_self, or_true, true_or, apply_ite (State.blank w), ite_self, foldl_blank, implies_true, h_host, h_intake, h_ports, h_fab, h_iso, h_svc, h_faults, h_free]

@[simp] theorem fwSpec_blank (h_host : Group.host ∈ w) (h_intake : Group.intake ∈ w) (h_ports : Group.ports ∈ w) (h_fab : Group.fab ∈ w) (h_iso : Group.iso ∈ w) (h_svc : Group.svc ∈ w) (h_faults : Group.faults ∈ w) (h_free : Group.free ∈ w) (a0 : Nat) (a1 : Bool) (s : State) (h : Nat) :
    ((fwSpec a0 a1).start s h).blank w = s.blank w := by
  unfold fwSpec
  simp only [State.fwStart_blank, blank_mk, eq_self, or_true, true_or, apply_ite (State.blank w), ite_self, foldl_blank, implies_true, h_host, h_intake, h_ports, h_fab, h_iso, h_svc, h_faults, h_free]

@[simp] theorem fwSpec_taken (a0 : Nat) (a1 : Bool) (s : State) (h : Nat) :
    ((fwSpec a0 a1).taken s h).blank w = s.blank w := by simp only [fwSpec]

@[simp] theorem execFwUpdateBegin_blank (h_host : Group.host ∈ w) (h_intake : Group.intake ∈ w) (h_plan : Group.plan ∈ w) (h_ports : Group.ports ∈ w) (h_fab : Group.fab ∈ w) (h_iso : Group.iso ∈ w) (h_svc : Group.svc ∈ w) (h_faults : Group.faults ∈ w) (h_free : Group.free ∈ w) (h : Fin 32) (s : State) :
    ran w (execFwUpdateBegin h s) = some (s.blank w) := by
  unfold execFwUpdateBegin
  simp only [fwSpec_blank, takeRow_blank, blank_mk, eq_self, or_true, true_or, apply_ite (State.blank w), ite_self, foldl_blank, implies_true, ran_next, apply_ite (ran w), h_host, h_intake, h_plan, h_ports, h_fab, h_iso, h_svc, h_faults, h_free, fwSpec_taken]

@[simp] theorem execFwUpdateWrite_blank (h_host : Group.host ∈ w) (h_intake : Group.intake ∈ w) (h_plan : Group.plan ∈ w) (h_ports : Group.ports ∈ w) (h_fab : Group.fab ∈ w) (h_iso : Group.iso ∈ w) (h_svc : Group.svc ∈ w) (h_faults : Group.faults ∈ w) (h_free : Group.free ∈ w) (h : Fin 32) (s : State) :
    ran w (execFwUpdateWrite h s) = some (s.blank w) := by
  unfold execFwUpdateWrite
  simp only [fwSpec_blank, takeRow_blank, blank_mk, eq_self, or_true, true_or, apply_ite (State.blank w), ite_self, foldl_blank, implies_true, ran_next, apply_ite (ran w), h_host, h_intake, h_plan, h_ports, h_fab, h_iso, h_svc, h_faults, h_free, fwSpec_taken]

@[simp] theorem execFwUpdateWriteInline_blank (h_host : Group.host ∈ w) (h_intake : Group.intake ∈ w) (h_plan : Group.plan ∈ w) (h_ports : Group.ports ∈ w) (h_fab : Group.fab ∈ w) (h_iso : Group.iso ∈ w) (h_svc : Group.svc ∈ w) (h_faults : Group.faults ∈ w) (h_free : Group.free ∈ w) (h : Fin 32) (s : State) :
    ran w (execFwUpdateWriteInline h s) = some (s.blank w) := by
  unfold execFwUpdateWriteInline
  simp only [fwSpec_blank, takeRow_blank, blank_mk, eq_self, or_true, true_or, apply_ite (State.blank w), ite_self, foldl_blank, implies_true, ran_next, apply_ite (ran w), h_host, h_intake, h_plan, h_ports, h_fab, h_iso, h_svc, h_faults, h_free, fwSpec_taken]

@[simp] theorem execFwUpdateVerify_blank (h_host : Group.host ∈ w) (h_intake : Group.intake ∈ w) (h_plan : Group.plan ∈ w) (h_ports : Group.ports ∈ w) (h_fab : Group.fab ∈ w) (h_iso : Group.iso ∈ w) (h_svc : Group.svc ∈ w) (h_faults : Group.faults ∈ w) (h_free : Group.free ∈ w) (h : Fin 32) (s : State) :
    ran w (execFwUpdateVerify h s) = some (s.blank w) := by
  unfold execFwUpdateVerify
  simp only [fwSpec_blank, takeRow_blank, blank_mk, eq_self, or_true, true_or, apply_ite (State.blank w), ite_self, foldl_blank, implies_true, ran_next, apply_ite (ran w), h_host, h_intake, h_plan, h_ports, h_fab, h_iso, h_svc, h_faults, h_free, fwSpec_taken]

@[simp] theorem execFwUpdateCommit_blank (h_host : Group.host ∈ w) (h_intake : Group.intake ∈ w) (h_plan : Group.plan ∈ w) (h_ports : Group.ports ∈ w) (h_fab : Group.fab ∈ w) (h_iso : Group.iso ∈ w) (h_svc : Group.svc ∈ w) (h_faults : Group.faults ∈ w) (h_free : Group.free ∈ w) (h : Fin 32) (s : State) :
    ran w (execFwUpdateCommit h s) = some (s.blank w) := by
  unfold execFwUpdateCommit
  simp only [fwSpec_blank, takeRow_blank, blank_mk, eq_self, or_true, true_or, apply_ite (State.blank w), ite_self, foldl_blank, implies_true, ran_next, apply_ite (ran w), h_host, h_intake, h_plan, h_ports, h_fab, h_iso, h_svc, h_faults, h_free, fwSpec_taken]

@[simp] theorem execFwUpdateActivate_blank (h_host : Group.host ∈ w) (h_intake : Group.intake ∈ w) (h_plan : Group.plan ∈ w) (h_ports : Group.ports ∈ w) (h_fab : Group.fab ∈ w) (h_iso : Group.iso ∈ w) (h_svc : Group.svc ∈ w) (h_faults : Group.faults ∈ w) (h_free : Group.free ∈ w) (h : Fin 32) (s : State) :
    ran w (execFwUpdateActivate h s) = some (s.blank w) := by
  unfold execFwUpdateActivate
  simp only [fwSpec_blank, takeRow_blank, blank_mk, eq_self, or_true, true_or, apply_ite (State.blank w), ite_self, foldl_blank, implies_true, ran_next, apply_ite (ran w), h_host, h_intake, h_plan, h_ports, h_fab, h_iso, h_svc, h_faults, h_free, fwSpec_taken]

@[simp] theorem execFwUpdateConfirm_blank (h_host : Group.host ∈ w) (h_intake : Group.intake ∈ w) (h_plan : Group.plan ∈ w) (h_ports : Group.ports ∈ w) (h_fab : Group.fab ∈ w) (h_iso : Group.iso ∈ w) (h_svc : Group.svc ∈ w) (h_faults : Group.faults ∈ w) (h_free : Group.free ∈ w) (h : Fin 32) (s : State) :
    ran w (execFwUpdateConfirm h s) = some (s.blank w) := by
  unfold execFwUpdateConfirm
  simp only [fwSpec_blank, takeRow_blank, blank_mk, eq_self, or_true, true_or, apply_ite (State.blank w), ite_self, foldl_blank, implies_true, ran_next, apply_ite (ran w), h_host, h_intake, h_plan, h_ports, h_fab, h_iso, h_svc, h_faults, h_free, fwSpec_taken]

@[simp] theorem execFwUpdateAbort_blank (h_host : Group.host ∈ w) (h_intake : Group.intake ∈ w) (h_plan : Group.plan ∈ w) (h_ports : Group.ports ∈ w) (h_fab : Group.fab ∈ w) (h_iso : Group.iso ∈ w) (h_svc : Group.svc ∈ w) (h_faults : Group.faults ∈ w) (h_free : Group.free ∈ w) (h : Fin 32) (s : State) :
    ran w (execFwUpdateAbort h s) = some (s.blank w) := by
  unfold execFwUpdateAbort
  simp only [fwSpec_blank, takeRow_blank, blank_mk, eq_self, or_true, true_or, apply_ite (State.blank w), ite_self, foldl_blank, implies_true, ran_next, apply_ite (ran w), h_host, h_intake, h_plan, h_ports, h_fab, h_iso, h_svc, h_faults, h_free, fwSpec_taken]

@[simp] theorem svcIdentSpec_blank (h_host : Group.host ∈ w) (h_intake : Group.intake ∈ w) (h_ports : Group.ports ∈ w) (h_fab : Group.fab ∈ w) (h_iso : Group.iso ∈ w) (h_faults : Group.faults ∈ w) (s : State) (h : Nat) :
    (svcIdentSpec.start s h).blank w = s.blank w := by
  unfold svcIdentSpec
  simp only [State.doneWith_blank, blank_mk, eq_self, or_true, true_or, apply_ite (State.blank w), ite_self, foldl_blank, implies_true, h_host, h_intake, h_ports, h_fab, h_iso, h_faults]

@[simp] theorem svcIdentSpec_taken (s : State) (h : Nat) :
    (svcIdentSpec.taken s h).blank w = s.blank w := by simp only [svcIdentSpec]

@[simp] theorem execSvcIdent_blank (h_host : Group.host ∈ w) (h_intake : Group.intake ∈ w) (h_plan : Group.plan ∈ w) (h_ports : Group.ports ∈ w) (h_fab : Group.fab ∈ w) (h_iso : Group.iso ∈ w) (h_svc : Group.svc ∈ w) (h_faults : Group.faults ∈ w) (h : Fin 32) (s : State) :
    ran w (execSvcIdent h s) = some (s.blank w) := by
  unfold execSvcIdent
  simp only [svcIdentSpec_blank, takeRow_blank, blank_mk, eq_self, or_true, true_or, apply_ite (State.blank w), ite_self, foldl_blank, implies_true, ran_next, apply_ite (ran w), h_host, h_intake, h_plan, h_ports, h_fab, h_iso, h_svc, h_faults, svcIdentSpec_taken]

@[simp] theorem svcCloseSpec_blank (h_host : Group.host ∈ w) (h_intake : Group.intake ∈ w) (h_ports : Group.ports ∈ w) (h_fab : Group.fab ∈ w) (h_iso : Group.iso ∈ w) (h_svc : Group.svc ∈ w) (h_faults : Group.faults ∈ w) (s : State) (h : Nat) :
    (svcCloseSpec.start s h).blank w = s.blank w := by
  unfold svcCloseSpec
  simp only [State.closeWindow_blank, State.doneWith_blank, blank_mk, eq_self, or_true, true_or, apply_ite (State.blank w), ite_self, foldl_blank, implies_true, h_host, h_intake, h_ports, h_fab, h_iso, h_svc, h_faults]

@[simp] theorem svcCloseSpec_taken (s : State) (h : Nat) :
    (svcCloseSpec.taken s h).blank w = s.blank w := by simp only [svcCloseSpec]

@[simp] theorem execSvcOpCloseWindow_blank (h_host : Group.host ∈ w) (h_intake : Group.intake ∈ w) (h_plan : Group.plan ∈ w) (h_ports : Group.ports ∈ w) (h_fab : Group.fab ∈ w) (h_iso : Group.iso ∈ w) (h_svc : Group.svc ∈ w) (h_faults : Group.faults ∈ w) (h : Fin 32) (s : State) :
    ran w (execSvcOpCloseWindow h s) = some (s.blank w) := by
  unfold execSvcOpCloseWindow
  simp only [svcCloseSpec_blank, takeRow_blank, blank_mk, eq_self, or_true, true_or, apply_ite (State.blank w), ite_self, foldl_blank, implies_true, ran_next, apply_ite (ran w), h_host, h_intake, h_plan, h_ports, h_fab, h_iso, h_svc, h_faults, svcCloseSpec_taken]

@[simp] theorem svcTamperSpec_blank (h_host : Group.host ∈ w) (h_intake : Group.intake ∈ w) (h_ports : Group.ports ∈ w) (h_fab : Group.fab ∈ w) (h_iso : Group.iso ∈ w) (h_svc : Group.svc ∈ w) (h_faults : Group.faults ∈ w) (h_free : Group.free ∈ w) (s : State) (h : Nat) :
    (svcTamperSpec.start s h).blank w = s.blank w := by
  unfold svcTamperSpec
  simp only [State.doneWith_blank, State.evFree_blank, State.ev_blank, blank_mk, eq_self, or_true, true_or, apply_ite (State.blank w), ite_self, foldl_blank, implies_true, h_host, h_intake, h_ports, h_fab, h_iso, h_svc, h_faults, h_free]

@[simp] theorem svcTamperSpec_taken (s : State) (h : Nat) :
    (svcTamperSpec.taken s h).blank w = s.blank w := by simp only [svcTamperSpec]

@[simp] theorem execSvcOpTamperClear_blank (h_host : Group.host ∈ w) (h_intake : Group.intake ∈ w) (h_plan : Group.plan ∈ w) (h_ports : Group.ports ∈ w) (h_fab : Group.fab ∈ w) (h_iso : Group.iso ∈ w) (h_svc : Group.svc ∈ w) (h_faults : Group.faults ∈ w) (h_free : Group.free ∈ w) (h : Fin 32) (s : State) :
    ran w (execSvcOpTamperClear h s) = some (s.blank w) := by
  unfold execSvcOpTamperClear
  simp only [svcTamperSpec_blank, takeRow_blank, blank_mk, eq_self, or_true, true_or, apply_ite (State.blank w), ite_self, foldl_blank, implies_true, ran_next, apply_ite (ran w), h_host, h_intake, h_plan, h_ports, h_fab, h_iso, h_svc, h_faults, h_free, svcTamperSpec_taken]

@[simp] theorem svcFactorySpec_blank (h_pins : Group.pins ∈ w) (h_ret : Group.ret ∈ w) (h_intake : Group.intake ∈ w) (h_params : Group.params ∈ w) (h_cur : Group.cur ∈ w) (h_wedge : Group.wedge ∈ w) (h_plan : Group.plan ∈ w) (h_ports : Group.ports ∈ w) (s : State) (h : Nat) :
    (svcFactorySpec.start s h).blank w = s.blank w := by
  unfold svcFactorySpec
  simp only [State.awaitVerdict_blank, State.updCur_blank, State.updPlan_blank, State.updPort_blank, State.updWedge_blank, State.writeWorking_blank, forAxes_blank, forPorts_blank, blank_mk, eq_self, or_true, true_or, apply_ite (State.blank w), ite_self, foldl_blank, implies_true, h_pins, h_ret, h_intake, h_params, h_cur, h_wedge, h_plan, h_ports]

@[simp] theorem svcFactorySpec_taken (s : State) (h : Nat) :
    (svcFactorySpec.taken s h).blank w = s.blank w := by simp only [svcFactorySpec]

@[simp] theorem execSvcOpFactoryReset_blank (h_pins : Group.pins ∈ w) (h_ret : Group.ret ∈ w) (h_host : Group.host ∈ w) (h_intake : Group.intake ∈ w) (h_params : Group.params ∈ w) (h_cur : Group.cur ∈ w) (h_wedge : Group.wedge ∈ w) (h_plan : Group.plan ∈ w) (h_ports : Group.ports ∈ w) (h_fab : Group.fab ∈ w) (h_iso : Group.iso ∈ w) (h_svc : Group.svc ∈ w) (h_faults : Group.faults ∈ w) (h : Fin 32) (s : State) :
    ran w (execSvcOpFactoryReset h s) = some (s.blank w) := by
  unfold execSvcOpFactoryReset
  simp only [svcFactorySpec_blank, takeRow_blank, blank_mk, eq_self, or_true, true_or, apply_ite (State.blank w), ite_self, foldl_blank, implies_true, ran_next, apply_ite (ran w), h_pins, h_ret, h_host, h_intake, h_params, h_cur, h_wedge, h_plan, h_ports, h_fab, h_iso, h_svc, h_faults, svcFactorySpec_taken]

@[simp] theorem svcDebugSpec_blank (h_host : Group.host ∈ w) (h_intake : Group.intake ∈ w) (h_ports : Group.ports ∈ w) (h_fab : Group.fab ∈ w) (h_iso : Group.iso ∈ w) (h_svc : Group.svc ∈ w) (h_faults : Group.faults ∈ w) (h_free : Group.free ∈ w) (s : State) (h : Nat) :
    (svcDebugSpec.start s h).blank w = s.blank w := by
  unfold svcDebugSpec
  simp only [State.doneWith_blank, State.evFree_blank, State.ev_blank, blank_mk, eq_self, or_true, true_or, apply_ite (State.blank w), ite_self, foldl_blank, implies_true, h_host, h_intake, h_ports, h_fab, h_iso, h_svc, h_faults, h_free]

@[simp] theorem svcDebugSpec_taken (s : State) (h : Nat) :
    (svcDebugSpec.taken s h).blank w = s.blank w := by simp only [svcDebugSpec]

@[simp] theorem execSvcOpDebugEnable_blank (h_host : Group.host ∈ w) (h_intake : Group.intake ∈ w) (h_plan : Group.plan ∈ w) (h_ports : Group.ports ∈ w) (h_fab : Group.fab ∈ w) (h_iso : Group.iso ∈ w) (h_svc : Group.svc ∈ w) (h_faults : Group.faults ∈ w) (h_free : Group.free ∈ w) (h : Fin 32) (s : State) :
    ran w (execSvcOpDebugEnable h s) = some (s.blank w) := by
  unfold execSvcOpDebugEnable
  simp only [svcDebugSpec_blank, takeRow_blank, blank_mk, eq_self, or_true, true_or, apply_ite (State.blank w), ite_self, foldl_blank, implies_true, ran_next, apply_ite (ran w), h_host, h_intake, h_plan, h_ports, h_fab, h_iso, h_svc, h_faults, h_free, svcDebugSpec_taken]

@[simp] theorem bistRunSpec_blank (h_power : Group.power ∈ w) (h_host : Group.host ∈ w) (h_intake : Group.intake ∈ w) (h_ports : Group.ports ∈ w) (h_fab : Group.fab ∈ w) (h_iso : Group.iso ∈ w) (h_svc : Group.svc ∈ w) (h_faults : Group.faults ∈ w) (s : State) (h : Nat) :
    (bistRunSpec.start s h).blank w = s.blank w := by
  unfold bistRunSpec
  simp only [State.bistGo_blank, State.setProg_blank, blank_mk, eq_self, or_true, true_or, apply_ite (State.blank w), ite_self, foldl_blank, implies_true, h_power, h_host, h_intake, h_ports, h_fab, h_iso, h_svc, h_faults]

@[simp] theorem bistRunSpec_taken (s : State) (h : Nat) :
    (bistRunSpec.taken s h).blank w = s.blank w := by simp only [bistRunSpec]

@[simp] theorem execBistRun_blank (h_power : Group.power ∈ w) (h_host : Group.host ∈ w) (h_intake : Group.intake ∈ w) (h_plan : Group.plan ∈ w) (h_ports : Group.ports ∈ w) (h_fab : Group.fab ∈ w) (h_iso : Group.iso ∈ w) (h_svc : Group.svc ∈ w) (h_faults : Group.faults ∈ w) (h : Fin 32) (s : State) :
    ran w (execBistRun h s) = some (s.blank w) := by
  unfold execBistRun
  simp only [bistRunSpec_blank, takeRow_blank, blank_mk, eq_self, or_true, true_or, apply_ite (State.blank w), ite_self, foldl_blank, implies_true, ran_next, apply_ite (ran w), h_power, h_host, h_intake, h_plan, h_ports, h_fab, h_iso, h_svc, h_faults, bistRunSpec_taken]

@[simp] theorem State.bistPass_blank (h_svc : Group.svc ∈ w) (h_faults : Group.faults ∈ w) (s : State) (t : Nat) :
    (State.bistPass s t).blank w = s.blank w := by
  unfold State.bistPass
  simp only [State.bistMark_blank, State.condEnd_blank, blank_mk, eq_self, or_true, true_or, apply_ite (State.blank w), ite_self, foldl_blank, implies_true, h_svc, h_faults]

@[simp] theorem State.bistFail_blank (h_svc : Group.svc ∈ w) (h_faults : Group.faults ∈ w) (h_free : Group.free ∈ w) (s : State) (t : Nat) (qual : Nat) :
    (State.bistFail s t qual).blank w = s.blank w := by
  unfold State.bistFail
  simp only [State.bistMark_blank, State.fresh_blank, State.raise_blank, State.updIdle_blank, blank_mk, eq_self, or_true, true_or, apply_ite (State.blank w), ite_self, foldl_blank, implies_true, h_svc, h_faults, h_free]

@[simp] theorem State.bistClose_blank (h_power : Group.power ∈ w) (h_host : Group.host ∈ w) (h_intake : Group.intake ∈ w) (h_ports : Group.ports ∈ w) (h_fab : Group.fab ∈ w) (h_iso : Group.iso ∈ w) (h_svc : Group.svc ∈ w) (h_faults : Group.faults ∈ w) (h_free : Group.free ∈ w) (s : State) (t : Nat) (v : Nat) (qual : Nat) (l : List Nat) :
    (State.bistClose s t v qual l).blank w = s.blank w := by
  unfold State.bistClose
  (repeat' split) <;> simp only [State.bistFail_blank, State.bistGo_blank, State.bistMark_blank, State.bistPass_blank, State.setSeq_blank, blank_mk, eq_self, or_true, true_or, apply_ite (State.blank w), ite_self, foldl_blank, implies_true, h_power, h_host, h_intake, h_ports, h_fab, h_iso, h_svc, h_faults, h_free]

@[simp] theorem State.bistFreed_blank (h_host : Group.host ∈ w) (h_intake : Group.intake ∈ w) (h_ports : Group.ports ∈ w) (h_fab : Group.fab ∈ w) (h_iso : Group.iso ∈ w) (h_svc : Group.svc ∈ w) (h_faults : Group.faults ∈ w) (h_free : Group.free ∈ w) (s : State) (t : Nat) :
    (State.bistFreed s t).blank w = s.blank w := by
  unfold State.bistFreed
  simp only [State.fwRun_blank, blank_mk, eq_self, or_true, true_or, apply_ite (State.blank w), ite_self, foldl_blank, implies_true, h_host, h_intake, h_ports, h_fab, h_iso, h_svc, h_faults, h_free]

@[simp] theorem execBistTestDone_blank (h_power : Group.power ∈ w) (h_host : Group.host ∈ w) (h_intake : Group.intake ∈ w) (h_plan : Group.plan ∈ w) (h_ports : Group.ports ∈ w) (h_fab : Group.fab ∈ w) (h_iso : Group.iso ∈ w) (h_svc : Group.svc ∈ w) (h_faults : Group.faults ∈ w) (h_free : Group.free ∈ w) (pass : Bool) (qual : Nat) (s : State) :
    ran w (execBistTestDone pass qual s) = some (s.blank w) := by
  unfold execBistTestDone
  (repeat' split) <;> simp only [State.bistClose_blank, State.bistFreed_blank, State.settle_blank, blank_mk, eq_self, or_true, true_or, apply_ite (State.blank w), ite_self, foldl_blank, implies_true, ran_next, apply_ite (ran w), h_power, h_host, h_intake, h_plan, h_ports, h_fab, h_iso, h_svc, h_faults, h_free]

end Sys2Proof.Machine
end

