-- ==== Sys2Proof/Laws/Intake.lean ====
section
/-! SUPPORT. The parts of the state that the operations of Machine/Intake.lean can change: all others keep their value. -/

namespace Sys2Proof.Machine

set_option linter.all false
set_option linter.unusedSimpArgs false

variable {w : List Group}

@[simp] theorem State.startNext_blank (h_pins : Group.pins ∈ w) (h_power : Group.power ∈ w) (h_ret : Group.ret ∈ w) (h_host : Group.host ∈ w) (h_intake : Group.intake ∈ w) (h_params : Group.params ∈ w) (h_motion : Group.motion ∈ w) (h_cur : Group.cur ∈ w) (h_wedge : Group.wedge ∈ w) (h_gate : Group.gate ∈ w) (h_mon : Group.mon ∈ w) (h_channels : Group.channels ∈ w) (h_cmp : Group.cmp ∈ w) (h_plan : Group.plan ∈ w) (h_ports : Group.ports ∈ w) (h_fab : Group.fab ∈ w) (h_iso : Group.iso ∈ w) (h_twin : Group.twin ∈ w) (h_svc : Group.svc ∈ w) (h_faults : Group.faults ∈ w) (h_free : Group.free ∈ w) (s : State) (h : Nat) :
    (State.startNext s h).blank w = s.blank w := by
  have ka : ∀ c ∈ specsA, ∀ s h, (c.start s h).blank w = s.blank w := by
    simp only [specsA, List.forall_mem_cons, List.not_mem_nil, IsEmpty.forall_iff, implies_true, and_true,
      barrierSpec_blank, chiselLoadSpec_blank, chiselReadSpec_blank, chiselReloadSpec_blank, chiselSaveSpec_blank, chiselValidateSpec_blank, cmpArmSpec_blank, cmpStatusSpec_blank, curStatusSpec_blank, diagStatusSpec_blank, eventReadSpec_blank, faultClearSpec_blank, faultStatusSpec_blank, fbSetCountSpec_blank, fbStatusSpec_blank, folStatusSpec_blank, followSpeedSpec_blank, gateStatusSpec_blank, hopStatusSpec_blank, isoStatusSpec_blank, mapEditSpec_blank, mapLoadBeginSpec_blank, mapLoadCommitSpec_blank, mapLoadCopySpec_blank, mapMarkSpec_blank, netQstatSpec_blank, netRecvSpec_blank, netRouteSpec_blank, netSchedLoadSpec_blank, netSchedSaveSpec_blank, netSchedValidateSpec_blank, netSendSpec_blank, netStatusSpec_blank, netWatchSpec_blank, offstateTestSpec_blank, planChainLoadSpec_blank, planChainReadSpec_blank, planChainReloadSpec_blank, planChainSaveSpec_blank, planChainValidateSpec_blank, planHoldSpec_blank, planQuerySpec_blank, planResumeSpec_blank, planRoadSpec_blank, planRunSpec_blank, planStopSpec_blank, spStatusSpec_blank, h_pins, h_power, h_ret, h_host, h_intake, h_params, h_motion, h_cur, h_wedge, h_gate, h_mon, h_channels, h_cmp, h_plan, h_ports, h_fab, h_iso, h_twin, h_svc, h_faults, h_free]
  have kb : ∀ c ∈ specsB, ∀ s h, (c.start s h).blank w = s.blank w := by
    simp only [specsB, List.forall_mem_cons, List.not_mem_nil, IsEmpty.forall_iff, implies_true, and_true,
      axisStatusSpec_blank, bistRunSpec_blank, cfgApplySpec_blank, cfgCheckSpec_blank, cfgClearSpec_blank, cfgEraseSpec_blank, cfgLoadStoredSpec_blank, cfgReadStagingSpec_blank, cfgSaveStagedSpec_blank, cfgSaveWorkingSpec_blank, cfgStageSpec_blank, disableAxisSpec_blank, disableUnitSpec_blank, enableAxisSpec_blank, enableUnitSpec_blank, followStepsSpec_blank, fwSpec_blank, getParamSpec_blank, haltSpec_blank, homeFaceSpec_blank, jogSpec_blank, moveBySpec_blank, moveToSpec_blank, netSchedReadSpec_blank, netSchedReloadSpec_blank, netSleepAnnounceSpec_blank, netSleepCancelSpec_blank, netSleepStatusSpec_blank, powerStateSpec_blank, setParamSpec_blank, setPositionSpec_blank, stopSpec_blank, surveyRunSpec_blank, svcCloseSpec_blank, svcDebugSpec_blank, svcFactorySpec_blank, svcIdentSpec_blank, svcTamperSpec_blank, twinStatusSpec_blank, twinSwitchSpec_blank, wedgeLearnSpec_blank, wedgeStatusSpec_blank, h_pins, h_power, h_ret, h_host, h_intake, h_params, h_motion, h_cur, h_wedge, h_gate, h_mon, h_channels, h_cmp, h_plan, h_ports, h_fab, h_iso, h_twin, h_svc, h_faults, h_free]
  unfold State.startNext
  split
  · rename_i c e
    have hc : ∀ s h, (c.start s h).blank w = s.blank w := by
      rcases List.mem_append.mp (List.mem_of_find?_eq_some e) with hm | hm
      · exact ka c hm
      · exact kb c hm
    exact startRow_blank h_host h_intake h_plan h_ports h_fab h_iso h_svc h_faults hc _ _
  · rfl

@[simp] theorem State.tooLate_blank (h_host : Group.host ∈ w) (h_intake : Group.intake ∈ w) (h_plan : Group.plan ∈ w) (h_ports : Group.ports ∈ w) (h_fab : Group.fab ∈ w) (h_iso : Group.iso ∈ w) (h_svc : Group.svc ∈ w) (h_faults : Group.faults ∈ w) (s : State) (h : Nat) :
    (State.tooLate s h).blank w = s.blank w := by
  unfold State.tooLate
  simp only [State.refuse_blank, blank_mk, eq_self, or_true, true_or, apply_ite (State.blank w), ite_self, foldl_blank, implies_true, h_host, h_intake, h_plan, h_ports, h_fab, h_iso, h_svc, h_faults]

@[simp] theorem execTaggedCommandStart_blank (h_pins : Group.pins ∈ w) (h_power : Group.power ∈ w) (h_ret : Group.ret ∈ w) (h_host : Group.host ∈ w) (h_intake : Group.intake ∈ w) (h_params : Group.params ∈ w) (h_motion : Group.motion ∈ w) (h_cur : Group.cur ∈ w) (h_wedge : Group.wedge ∈ w) (h_gate : Group.gate ∈ w) (h_mon : Group.mon ∈ w) (h_channels : Group.channels ∈ w) (h_cmp : Group.cmp ∈ w) (h_plan : Group.plan ∈ w) (h_ports : Group.ports ∈ w) (h_fab : Group.fab ∈ w) (h_iso : Group.iso ∈ w) (h_twin : Group.twin ∈ w) (h_svc : Group.svc ∈ w) (h_faults : Group.faults ∈ w) (h_free : Group.free ∈ w) (h : Fin 32) (s : State) :
    ran w (execTaggedCommandStart h s) = some (s.blank w) := by
  unfold execTaggedCommandStart
  simp only [State.settle_blank, State.startNext_blank, State.tooLate_blank, blank_mk, eq_self, or_true, true_or, apply_ite (State.blank w), ite_self, foldl_blank, implies_true, ran_next, apply_ite (ran w), h_pins, h_power, h_ret, h_host, h_intake, h_params, h_motion, h_cur, h_wedge, h_gate, h_mon, h_channels, h_cmp, h_plan, h_ports, h_fab, h_iso, h_twin, h_svc, h_faults, h_free]

@[simp] theorem execWaitingCommandStart_blank (h_pins : Group.pins ∈ w) (h_power : Group.power ∈ w) (h_ret : Group.ret ∈ w) (h_host : Group.host ∈ w) (h_intake : Group.intake ∈ w) (h_params : Group.params ∈ w) (h_motion : Group.motion ∈ w) (h_cur : Group.cur ∈ w) (h_wedge : Group.wedge ∈ w) (h_gate : Group.gate ∈ w) (h_mon : Group.mon ∈ w) (h_channels : Group.channels ∈ w) (h_cmp : Group.cmp ∈ w) (h_plan : Group.plan ∈ w) (h_ports : Group.ports ∈ w) (h_fab : Group.fab ∈ w) (h_iso : Group.iso ∈ w) (h_twin : Group.twin ∈ w) (h_svc : Group.svc ∈ w) (h_faults : Group.faults ∈ w) (h_free : Group.free ∈ w) (h : Fin 32) (s : State) :
    ran w (execWaitingCommandStart h s) = some (s.blank w) := by
  unfold execWaitingCommandStart
  simp only [State.startNext_blank, blank_mk, eq_self, or_true, true_or, apply_ite (State.blank w), ite_self, foldl_blank, implies_true, ran_next, apply_ite (ran w), h_pins, h_power, h_ret, h_host, h_intake, h_params, h_motion, h_cur, h_wedge, h_gate, h_mon, h_channels, h_cmp, h_plan, h_ports, h_fab, h_iso, h_twin, h_svc, h_faults, h_free]

end Sys2Proof.Machine
end

