-- ==== Sys2Proof/Laws/Frame.lean ====
section
/-! SUPPORT. The parts of the state that the operations of Machine/Frame.lean can change: all others keep their value. -/

namespace Sys2Proof.Machine

set_option linter.all false
set_option linter.unusedSimpArgs false

variable {w : List Group}

@[simp] theorem State.lateEnds_blank (h_host : Group.host ∈ w) (h_intake : Group.intake ∈ w) (h_plan : Group.plan ∈ w) (h_ports : Group.ports ∈ w) (h_fab : Group.fab ∈ w) (h_iso : Group.iso ∈ w) (h_svc : Group.svc ∈ w) (h_faults : Group.faults ∈ w) (s : State) :
    (State.lateEnds s).blank w = s.blank w := by
  unfold State.lateEnds
  simp only [State.tooLate_blank, blank_mk, eq_self, or_true, true_or, apply_ite (State.blank w), ite_self, foldl_blank, implies_true, h_host, h_intake, h_plan, h_ports, h_fab, h_iso, h_svc, h_faults]

@[simp] theorem State.frameWork_blank (h_pins : Group.pins ∈ w) (h_host : Group.host ∈ w) (h_intake : Group.intake ∈ w) (h_wedge : Group.wedge ∈ w) (h_follow : Group.follow ∈ w) (h_channels : Group.channels ∈ w) (h_cmp : Group.cmp ∈ w) (h_divo : Group.divo ∈ w) (h_plan : Group.plan ∈ w) (h_ports : Group.ports ∈ w) (h_fab : Group.fab ∈ w) (h_iso : Group.iso ∈ w) (h_twin : Group.twin ∈ w) (h_svc : Group.svc ∈ w) (h_faults : Group.faults ∈ w) (h_free : Group.free ∈ w) (s : State) :
    (State.frameWork s).blank w = s.blank w := by
  unfold State.frameWork
  simp only [State.endBarriers_blank, State.followTake_blank, State.followUse_blank, State.forwardStep_blank, State.lateEnds_blank, State.posError_blank, State.rmMaintain_blank, State.sensorUse_blank, State.twinSend_blank, State.updIso_blank, State.wedgeStep_blank, forAxes_blank, blank_mk, eq_self, or_true, true_or, apply_ite (State.blank w), ite_self, foldl_blank, implies_true, h_pins, h_host, h_intake, h_wedge, h_follow, h_channels, h_cmp, h_divo, h_plan, h_ports, h_fab, h_iso, h_twin, h_svc, h_faults, h_free]

@[simp] theorem State.tick_blank (h_frame : Group.frame ∈ w) (h_power : Group.power ∈ w) (h_plan : Group.plan ∈ w) (h_twin : Group.twin ∈ w) (s : State) (commit : Bool) (trim : Int) :
    (State.tick s commit trim).blank w = s.blank w := by
  unfold State.tick
  simp only [State.runClock_blank, blank_mk, eq_self, or_true, true_or, apply_ite (State.blank w), ite_self, foldl_blank, implies_true, h_frame, h_power, h_plan, h_twin]

@[simp] theorem State.wakeCoils_blank (h_motion : Group.motion ∈ w) (h_cur : Group.cur ∈ w) (s : State) (h : Nat) :
    (State.wakeCoils s h).blank w = s.blank w := by
  unfold State.wakeCoils
  simp only [State.updCur_blank, State.updMotion_blank, blank_mk, eq_self, or_true, true_or, apply_ite (State.blank w), ite_self, foldl_blank, implies_true, h_motion, h_cur]

@[simp] theorem State.dropTests_blank (h_host : Group.host ∈ w) (h_intake : Group.intake ∈ w) (h_gate : Group.gate ∈ w) (h_mon : Group.mon ∈ w) (h_ports : Group.ports ∈ w) (h_fab : Group.fab ∈ w) (h_iso : Group.iso ∈ w) (h_faults : Group.faults ∈ w) (s : State) (h : Nat) :
    (State.dropTests s h).blank w = s.blank w := by
  unfold State.dropTests
  simp only [State.abandonTest_blank, blank_mk, eq_self, or_true, true_or, apply_ite (State.blank w), ite_self, foldl_blank, implies_true, h_host, h_intake, h_gate, h_mon, h_ports, h_fab, h_iso, h_faults]

@[simp] theorem State.followShift_blank (h_channels : Group.channels ∈ w) (h_cmp : Group.cmp ∈ w) (h_sensor : Group.sensor ∈ w) (h_faults : Group.faults ∈ w) (s : State) (n : Fin 4) (p : Int) :
    (State.followShift s n p).blank w = s.blank w := by
  unfold State.followShift
  simp only [State.rebaseAxis_blank, blank_mk, eq_self, or_true, true_or, apply_ite (State.blank w), ite_self, foldl_blank, implies_true, h_channels, h_cmp, h_sensor, h_faults]

@[simp] theorem State.act_blank (h_host : Group.host ∈ w) (h_intake : Group.intake ∈ w) (h_params : Group.params ∈ w) (h_motion : Group.motion ∈ w) (h_cur : Group.cur ∈ w) (h_wedge : Group.wedge ∈ w) (h_gate : Group.gate ∈ w) (h_follow : Group.follow ∈ w) (h_mon : Group.mon ∈ w) (h_channels : Group.channels ∈ w) (h_cmp : Group.cmp ∈ w) (h_sensor : Group.sensor ∈ w) (h_plan : Group.plan ∈ w) (h_ports : Group.ports ∈ w) (h_fab : Group.fab ∈ w) (h_iso : Group.iso ∈ w) (h_svc : Group.svc ∈ w) (h_faults : Group.faults ∈ w) (s : State) (h : Nat) :
    (State.act s h).blank w = s.blank w := by
  unfold State.act
  dsimp only
  (repeat' split) <;> first | (simp only [State.abandonTest_blank, State.dropTests_blank, State.followShift_blank, State.wakeCoils_blank, actFollowSpeed_blank, actFollowSteps_blank, actHalt_blank, actHomeFace_blank, actJog_blank, actMove_blank, actPlanRun_blank, actStop_blank, blank_mk, eq_self, or_true, true_or, apply_ite (State.blank w), ite_self, foldl_blank, implies_true, h_host, h_intake, h_params, h_motion, h_cur, h_wedge, h_gate, h_follow, h_mon, h_channels, h_cmp, h_sensor, h_plan, h_ports, h_fab, h_iso, h_svc, h_faults]; done)

@[simp] theorem State.setPosNow_blank (h_motion : Group.motion ∈ w) (h_channels : Group.channels ∈ w) (h_cmp : Group.cmp ∈ w) (h_sensor : Group.sensor ∈ w) (h_faults : Group.faults ∈ w) (s : State) (n : Fin 4) :
    (State.setPosNow s n).blank w = s.blank w := by
  unfold State.setPosNow
  simp only [State.applySetPos_blank, State.rebaseAxis_blank, blank_mk, eq_self, or_true, true_or, apply_ite (State.blank w), ite_self, foldl_blank, implies_true, h_motion, h_channels, h_cmp, h_sensor, h_faults]

@[simp] theorem State.applyShadows_blank (h_host : Group.host ∈ w) (h_intake : Group.intake ∈ w) (h_params : Group.params ∈ w) (h_motion : Group.motion ∈ w) (h_cur : Group.cur ∈ w) (h_wedge : Group.wedge ∈ w) (h_gate : Group.gate ∈ w) (h_follow : Group.follow ∈ w) (h_mon : Group.mon ∈ w) (h_channels : Group.channels ∈ w) (h_cmp : Group.cmp ∈ w) (h_sensor : Group.sensor ∈ w) (h_plan : Group.plan ∈ w) (h_ports : Group.ports ∈ w) (h_fab : Group.fab ∈ w) (h_iso : Group.iso ∈ w) (h_svc : Group.svc ∈ w) (h_faults : Group.faults ∈ w) (s : State) :
    (State.applyShadows s).blank w = s.blank w := by
  unfold State.applyShadows
  simp only [State.act_blank, State.endTakeover_blank, State.setPosNow_blank, forAxes_blank, blank_mk, eq_self, or_true, true_or, apply_ite (State.blank w), ite_self, foldl_blank, implies_true, h_host, h_intake, h_params, h_motion, h_cur, h_wedge, h_gate, h_follow, h_mon, h_channels, h_cmp, h_sensor, h_plan, h_ports, h_fab, h_iso, h_svc, h_faults]

@[simp] theorem State.restWindows_blank (h_wedge : Group.wedge ∈ w) (s : State) (n : Fin 4) :
    (State.restWindows s n).blank w = s.blank w := by
  unfold State.restWindows
  simp only [State.updWedge_blank, blank_mk, eq_self, or_true, true_or, apply_ite (State.blank w), ite_self, foldl_blank, implies_true, h_wedge]

@[simp] theorem State.axisEnds_blank (h_host : Group.host ∈ w) (h_intake : Group.intake ∈ w) (h_motion : Group.motion ∈ w) (h_wedge : Group.wedge ∈ w) (h_follow : Group.follow ∈ w) (h_channels : Group.channels ∈ w) (h_cmp : Group.cmp ∈ w) (h_sensor : Group.sensor ∈ w) (h_plan : Group.plan ∈ w) (h_ports : Group.ports ∈ w) (h_fab : Group.fab ∈ w) (h_iso : Group.iso ∈ w) (h_faults : Group.faults ∈ w) (s : State) (n : Fin 4) :
    (State.axisEnds s n).blank w = s.blank w := by
  unfold State.axisEnds
  simp only [State.followShift_blank, State.homeBoundary_blank, State.settleAxis_blank, State.stallBoundary_blank, blank_mk, eq_self, or_true, true_or, apply_ite (State.blank w), ite_self, foldl_blank, implies_true, h_host, h_intake, h_motion, h_wedge, h_follow, h_channels, h_cmp, h_sensor, h_plan, h_ports, h_fab, h_iso, h_faults]

@[simp] theorem State.axisTakes_blank (h_pins : Group.pins ∈ w) (h_host : Group.host ∈ w) (h_intake : Group.intake ∈ w) (h_motion : Group.motion ∈ w) (h_cur : Group.cur ∈ w) (h_wedge : Group.wedge ∈ w) (h_follow : Group.follow ∈ w) (h_channels : Group.channels ∈ w) (h_cmp : Group.cmp ∈ w) (h_sensor : Group.sensor ∈ w) (h_ports : Group.ports ∈ w) (h_fab : Group.fab ∈ w) (h_iso : Group.iso ∈ w) (h_faults : Group.faults ∈ w) (s : State) (n : Fin 4) :
    (State.axisTakes s n).blank w = s.blank w := by
  unfold State.axisTakes
  simp only [State.chanBoundary_blank, State.cmpBoundary_blank, State.driveAux_blank, State.followBoundary_blank, State.learnBoundary_blank, State.ledgeNow_blank, State.regBoundary_blank, blank_mk, eq_self, or_true, true_or, apply_ite (State.blank w), ite_self, foldl_blank, implies_true, h_pins, h_host, h_intake, h_motion, h_cur, h_wedge, h_follow, h_channels, h_cmp, h_sensor, h_ports, h_fab, h_iso, h_faults]

@[simp] theorem State.axisGoes_blank (h_pins : Group.pins ∈ w) (h_power : Group.power ∈ w) (h_host : Group.host ∈ w) (h_intake : Group.intake ∈ w) (h_motion : Group.motion ∈ w) (h_cur : Group.cur ∈ w) (h_wedge : Group.wedge ∈ w) (h_gate : Group.gate ∈ w) (h_follow : Group.follow ∈ w) (h_channels : Group.channels ∈ w) (h_cmp : Group.cmp ∈ w) (h_sensor : Group.sensor ∈ w) (h_plan : Group.plan ∈ w) (h_ports : Group.ports ∈ w) (h_fab : Group.fab ∈ w) (h_iso : Group.iso ∈ w) (h_svc : Group.svc ∈ w) (h_faults : Group.faults ∈ w) (s : State) (commit : Bool) (old : Nat) (n : Fin 4) :
    (State.axisGoes s commit old n).blank w = s.blank w := by
  unfold State.axisGoes
  simp only [State.axisTakes_blank, State.boundAxis_blank, State.boundEnable_blank, State.boundLatches_blank, State.curBoundary_blank, State.endRecal_blank, State.peStall_blank, State.restWindows_blank, State.stallAvail_blank, blank_mk, eq_self, or_true, true_or, apply_ite (State.blank w), ite_self, foldl_blank, implies_true, h_pins, h_power, h_host, h_intake, h_motion, h_cur, h_wedge, h_gate, h_follow, h_channels, h_cmp, h_sensor, h_plan, h_ports, h_fab, h_iso, h_svc, h_faults]

@[simp] theorem State.latchStatus_blank (h_host : Group.host ∈ w) (h_link : Group.link ∈ w) (h_svc : Group.svc ∈ w) (s : State) :
    (State.latchStatus s).blank w = s.blank w := by
  unfold State.latchStatus
  simp only [blank_mk, eq_self, or_true, true_or, apply_ite (State.blank w), ite_self, foldl_blank, implies_true, h_host, h_link, h_svc]

@[simp] theorem State.hardBoundary_blank (h_frame : Group.frame ∈ w) (h_pins : Group.pins ∈ w) (h_power : Group.power ∈ w) (h_host : Group.host ∈ w) (h_link : Group.link ∈ w) (h_intake : Group.intake ∈ w) (h_params : Group.params ∈ w) (h_motion : Group.motion ∈ w) (h_cur : Group.cur ∈ w) (h_wedge : Group.wedge ∈ w) (h_gate : Group.gate ∈ w) (h_follow : Group.follow ∈ w) (h_mon : Group.mon ∈ w) (h_channels : Group.channels ∈ w) (h_cmp : Group.cmp ∈ w) (h_divo : Group.divo ∈ w) (h_sensor : Group.sensor ∈ w) (h_plan : Group.plan ∈ w) (h_ports : Group.ports ∈ w) (h_fab : Group.fab ∈ w) (h_iso : Group.iso ∈ w) (h_twin : Group.twin ∈ w) (h_svc : Group.svc ∈ w) (h_faults : Group.faults ∈ w) (h_free : Group.free ∈ w) (s : State) (commit : Bool) (trim : Int) (hbk : Quad Nat) :
    (State.hardBoundary s commit trim hbk).blank w = s.blank w := by
  unfold State.hardBoundary
  simp only [State.applyShadows_blank, State.axisEnds_blank, State.axisGoes_blank, State.brakeFrame_blank, State.cycLatch_blank, State.itemService_blank, State.latchStatus_blank, State.mapBoundary_blank, State.runBoundary_blank, State.runGen_blank, State.runRamp_blank, State.sensorLatch_blank, State.shadowStep_blank, State.stepSettle_blank, State.testPhase_blank, State.tick_blank, forAxes_blank, forPorts_blank, blank_mk, eq_self, or_true, true_or, apply_ite (State.blank w), ite_self, foldl_blank, implies_true, h_frame, h_pins, h_power, h_host, h_link, h_intake, h_params, h_motion, h_cur, h_wedge, h_gate, h_follow, h_mon, h_channels, h_cmp, h_divo, h_sensor, h_plan, h_ports, h_fab, h_iso, h_twin, h_svc, h_faults, h_free]

@[simp] theorem State.clearFaults_blank (h_fab : Group.fab ∈ w) (h_faults : Group.faults ∈ w) (s : State) :
    (State.clearFaults s).blank w = s.blank w := by
  unfold State.clearFaults
  simp only [State.ev_blank, blank_mk, eq_self, or_true, true_or, apply_ite (State.blank w), ite_self, foldl_blank, implies_true, h_fab, h_faults]

@[simp] theorem State.unlock_blank (h_power : Group.power ∈ w) (h_motion : Group.motion ∈ w) (h_gate : Group.gate ∈ w) (h_mon : Group.mon ∈ w) (s : State) :
    (State.unlock s).blank w = s.blank w := by
  unfold State.unlock
  simp only [State.itemClear_blank, State.supplyClear_blank, State.updBrake_blank, State.updGate_blank, State.updMotion_blank, forAxes_blank, blank_mk, eq_self, or_true, true_or, apply_ite (State.blank w), ite_self, foldl_blank, implies_true, h_power, h_motion, h_gate, h_mon]

@[simp] theorem State.raiseNoted_blank (h_clock : Group.clock ∈ w) (h_host : Group.host ∈ w) (h_intake : Group.intake ∈ w) (h_motion : Group.motion ∈ w) (h_wedge : Group.wedge ∈ w) (h_gate : Group.gate ∈ w) (h_follow : Group.follow ∈ w) (h_mon : Group.mon ∈ w) (h_plan : Group.plan ∈ w) (h_ports : Group.ports ∈ w) (h_fab : Group.fab ∈ w) (h_iso : Group.iso ∈ w) (h_twin : Group.twin ∈ w) (h_svc : Group.svc ∈ w) (h_faults : Group.faults ∈ w) (s : State) (r : Nat × Nat × BitVec 4 × Bool) :
    (State.raiseNoted s r).blank w = s.blank w := by
  unfold State.raiseNoted
  (repeat' split) <;> simp only [State.crystalLost_blank, State.leaveRun_blank, State.markLock_blank, State.raise_blank, State.rampFrom_blank, State.rampToRest_blank, State.updMotion_blank, forAxes_blank, blank_mk, eq_self, or_true, true_or, apply_ite (State.blank w), ite_self, foldl_blank, implies_true, h_clock, h_host, h_intake, h_motion, h_wedge, h_gate, h_follow, h_mon, h_plan, h_ports, h_fab, h_iso, h_twin, h_svc, h_faults]

@[simp] theorem State.raiseAll_blank (h_clock : Group.clock ∈ w) (h_host : Group.host ∈ w) (h_intake : Group.intake ∈ w) (h_motion : Group.motion ∈ w) (h_wedge : Group.wedge ∈ w) (h_gate : Group.gate ∈ w) (h_follow : Group.follow ∈ w) (h_mon : Group.mon ∈ w) (h_plan : Group.plan ∈ w) (h_ports : Group.ports ∈ w) (h_fab : Group.fab ∈ w) (h_iso : Group.iso ∈ w) (h_twin : Group.twin ∈ w) (h_svc : Group.svc ∈ w) (h_faults : Group.faults ∈ w) (s : State) :
    (State.raiseAll s).blank w = s.blank w := by
  unfold State.raiseAll
  simp only [State.ev_blank, State.raiseNoted_blank, blank_mk, eq_self, or_true, true_or, apply_ite (State.blank w), ite_self, foldl_blank, implies_true, h_clock, h_host, h_intake, h_motion, h_wedge, h_gate, h_follow, h_mon, h_plan, h_ports, h_fab, h_iso, h_twin, h_svc, h_faults]

@[simp] theorem State.deviceSafe_blank (h_power : Group.power ∈ w) (h_host : Group.host ∈ w) (h_intake : Group.intake ∈ w) (h_motion : Group.motion ∈ w) (h_cur : Group.cur ∈ w) (h_wedge : Group.wedge ∈ w) (h_gate : Group.gate ∈ w) (h_follow : Group.follow ∈ w) (h_mon : Group.mon ∈ w) (h_plan : Group.plan ∈ w) (h_ports : Group.ports ∈ w) (h_fab : Group.fab ∈ w) (h_iso : Group.iso ∈ w) (h_twin : Group.twin ∈ w) (h_svc : Group.svc ∈ w) (h_faults : Group.faults ∈ w) (s : State) :
    (State.deviceSafe s).blank w = s.blank w := by
  unfold State.deviceSafe
  dsimp only
  (repeat' split) <;> first | (simp only [State.enterSafe_blank, State.ev_blank, blank_mk, eq_self, or_true, true_or, apply_ite (State.blank w), ite_self, foldl_blank, implies_true, h_power, h_host, h_intake, h_motion, h_cur, h_wedge, h_gate, h_follow, h_mon, h_plan, h_ports, h_fab, h_iso, h_twin, h_svc, h_faults]; done)

@[simp] theorem State.actQuiet_blank (h_host : Group.host ∈ w) (h_intake : Group.intake ∈ w) (h_motion : Group.motion ∈ w) (h_wedge : Group.wedge ∈ w) (h_gate : Group.gate ∈ w) (h_follow : Group.follow ∈ w) (h_mon : Group.mon ∈ w) (h_plan : Group.plan ∈ w) (h_ports : Group.ports ∈ w) (h_fab : Group.fab ∈ w) (h_iso : Group.iso ∈ w) (h_svc : Group.svc ∈ w) (h_faults : Group.faults ∈ w) (s : State) (n : Fin 4) (v : Nat) (code : Nat) :
    (State.actQuiet s n v code).blank w = s.blank w := by
  unfold State.actQuiet
  simp only [State.abandonTest_blank, State.brakeOff_blank, State.clampOn_blank, State.dropAxis_blank, State.endUnacted_blank, State.lostPos_blank, State.switchesOff_blank, State.updWedge_blank, blank_mk, eq_self, or_true, true_or, apply_ite (State.blank w), ite_self, foldl_blank, implies_true, h_host, h_intake, h_motion, h_wedge, h_gate, h_follow, h_mon, h_plan, h_ports, h_fab, h_iso, h_svc, h_faults]

@[simp] theorem State.actFaultHalt_blank (h_host : Group.host ∈ w) (h_intake : Group.intake ∈ w) (h_motion : Group.motion ∈ w) (h_wedge : Group.wedge ∈ w) (h_gate : Group.gate ∈ w) (h_follow : Group.follow ∈ w) (h_mon : Group.mon ∈ w) (h_plan : Group.plan ∈ w) (h_ports : Group.ports ∈ w) (h_fab : Group.fab ∈ w) (h_iso : Group.iso ∈ w) (h_svc : Group.svc ∈ w) (h_faults : Group.faults ∈ w) (s : State) (n : Fin 4) (code : Nat) :
    (State.actFaultHalt s n code).blank w = s.blank w := by
  unfold State.actFaultHalt
  dsimp only
  split <;> simp only [State.abandonTest_blank, State.endCmd_blank, State.endStop_blank, State.endUnacted_blank, State.haltRamp_blank, State.leaveRun_blank, blank_mk, eq_self, or_true, true_or, apply_ite (State.blank w), ite_self, foldl_blank, implies_true, h_host, h_intake, h_motion, h_wedge, h_gate, h_follow, h_mon, h_plan, h_ports, h_fab, h_iso, h_svc, h_faults]

@[simp] theorem State.releaseHalt_blank (h_motion : Group.motion ∈ w) (s : State) (n : Fin 4) :
    (State.releaseHalt s n).blank w = s.blank w := by
  unfold State.releaseHalt
  simp only [State.updMotion_blank, blank_mk, eq_self, or_true, true_or, apply_ite (State.blank w), ite_self, foldl_blank, implies_true, h_motion]

@[simp] theorem State.safeAxis_blank (h_host : Group.host ∈ w) (h_intake : Group.intake ∈ w) (h_motion : Group.motion ∈ w) (h_wedge : Group.wedge ∈ w) (h_gate : Group.gate ∈ w) (h_follow : Group.follow ∈ w) (h_mon : Group.mon ∈ w) (h_plan : Group.plan ∈ w) (h_ports : Group.ports ∈ w) (h_fab : Group.fab ∈ w) (h_iso : Group.iso ∈ w) (h_svc : Group.svc ∈ w) (h_faults : Group.faults ∈ w) (s : State) (gone : List FaultEnt) (n : Fin 4) :
    (State.safeAxis s gone n).blank w = s.blank w := by
  unfold State.safeAxis
  simp only [State.actFaultHalt_blank, State.actQuiet_blank, State.evIf_blank, State.releaseHalt_blank, State.wedgeSpoil_blank, blank_mk, eq_self, or_true, true_or, apply_ite (State.blank w), ite_self, foldl_blank, implies_true, h_host, h_intake, h_motion, h_wedge, h_gate, h_follow, h_mon, h_plan, h_ports, h_fab, h_iso, h_svc, h_faults]

@[simp] theorem State.stopReactions_blank (h_host : Group.host ∈ w) (h_intake : Group.intake ∈ w) (h_motion : Group.motion ∈ w) (h_wedge : Group.wedge ∈ w) (h_follow : Group.follow ∈ w) (h_plan : Group.plan ∈ w) (h_ports : Group.ports ∈ w) (h_fab : Group.fab ∈ w) (h_iso : Group.iso ∈ w) (h_faults : Group.faults ∈ w) (s : State) :
    (State.stopReactions s).blank w = s.blank w := by
  unfold State.stopReactions
  refine foldl_blank _ (fun t a => ?_) _ _
  (repeat' split) <;> simp only [State.endCmd_blank, State.leaveRun_blank, State.rampFrom_blank, forAxes_blank, blank_mk, eq_self, or_true, true_or, apply_ite (State.blank w), ite_self, foldl_blank, implies_true, h_host, h_intake, h_motion, h_wedge, h_follow, h_plan, h_ports, h_fab, h_iso, h_faults]

@[simp] theorem State.overrun_blank (h_power : Group.power ∈ w) (h_host : Group.host ∈ w) (h_intake : Group.intake ∈ w) (h_motion : Group.motion ∈ w) (h_cur : Group.cur ∈ w) (h_wedge : Group.wedge ∈ w) (h_gate : Group.gate ∈ w) (h_follow : Group.follow ∈ w) (h_mon : Group.mon ∈ w) (h_plan : Group.plan ∈ w) (h_ports : Group.ports ∈ w) (h_fab : Group.fab ∈ w) (h_iso : Group.iso ∈ w) (h_twin : Group.twin ∈ w) (h_svc : Group.svc ∈ w) (h_faults : Group.faults ∈ w) (h_free : Group.free ∈ w) (s : State) :
    (State.overrun s).blank w = s.blank w := by
  unfold State.overrun
  simp only [State.actoClear_blank, State.enterSafe_blank, State.raiseFree_blank, State.refuse_blank, blank_mk, eq_self, or_true, true_or, apply_ite (State.blank w), ite_self, foldl_blank, implies_true, h_power, h_host, h_intake, h_motion, h_cur, h_wedge, h_gate, h_follow, h_mon, h_plan, h_ports, h_fab, h_iso, h_twin, h_svc, h_faults, h_free]

@[simp] theorem State.coilReaction_blank (h_cur : Group.cur ∈ w) (s : State) :
    (State.coilReaction s).blank w = s.blank w := by
  unfold State.coilReaction
  simp only [State.coilsBack_blank, forAxes_blank, blank_mk, eq_self, or_true, true_or, apply_ite (State.blank w), ite_self, foldl_blank, implies_true, h_cur]

@[simp] theorem State.faultStep_blank (h_clock : Group.clock ∈ w) (h_power : Group.power ∈ w) (h_host : Group.host ∈ w) (h_intake : Group.intake ∈ w) (h_motion : Group.motion ∈ w) (h_cur : Group.cur ∈ w) (h_wedge : Group.wedge ∈ w) (h_gate : Group.gate ∈ w) (h_follow : Group.follow ∈ w) (h_mon : Group.mon ∈ w) (h_channels : Group.channels ∈ w) (h_plan : Group.plan ∈ w) (h_ports : Group.ports ∈ w) (h_fab : Group.fab ∈ w) (h_iso : Group.iso ∈ w) (h_twin : Group.twin ∈ w) (h_svc : Group.svc ∈ w) (h_faults : Group.faults ∈ w) (h_free : Group.free ∈ w) (s : State) (commit : Bool) :
    (State.faultStep s commit).blank w = s.blank w := by
  unfold State.faultStep
  dsimp only
  (repeat' split) <;> first | (simp only [State.bistCancel_blank, State.clearFaults_blank, State.coilReaction_blank, State.deviceSafe_blank, State.overrun_blank, State.raiseAll_blank, State.readyStep_blank, State.safeAxis_blank, State.stopReactions_blank, State.twinBoundary_blank, State.unlock_blank, forAxes_blank, blank_mk, eq_self, or_true, true_or, apply_ite (State.blank w), ite_self, foldl_blank, implies_true, h_clock, h_power, h_host, h_intake, h_motion, h_cur, h_wedge, h_gate, h_follow, h_mon, h_channels, h_plan, h_ports, h_fab, h_iso, h_twin, h_svc, h_faults, h_free]; done)

@[simp] theorem State.register_blank (h_host : Group.host ∈ w) (h_intake : Group.intake ∈ w) (h_plan : Group.plan ∈ w) (h_ports : Group.ports ∈ w) (h_fab : Group.fab ∈ w) (h_iso : Group.iso ∈ w) (h_svc : Group.svc ∈ w) (h_faults : Group.faults ∈ w) (h_free : Group.free ∈ w) (s : State) (h : Nat) :
    (State.register s h).blank w = s.blank w := by
  unfold State.register
  simp only [State.evFree_blank, State.putSlot_blank, State.refuse_blank, State.setHop_blank, blank_mk, eq_self, or_true, true_or, apply_ite (State.blank w), ite_self, foldl_blank, implies_true, h_host, h_intake, h_plan, h_ports, h_fab, h_iso, h_svc, h_faults, h_free]

@[simp] theorem State.registerGroup_blank (h_host : Group.host ∈ w) (h_intake : Group.intake ∈ w) (h_plan : Group.plan ∈ w) (h_ports : Group.ports ∈ w) (h_fab : Group.fab ∈ w) (h_iso : Group.iso ∈ w) (h_svc : Group.svc ∈ w) (h_faults : Group.faults ∈ w) (h_free : Group.free ∈ w) (s : State) (was : Option (BitVec 16)) (check : Bool) (l : List Nat) :
    (State.registerGroup s was check l).2.blank w = s.blank w := by
  unfold State.registerGroup
  simp only [State.refuse_blank, State.register_blank, blank_mk, eq_self, or_true, true_or, apply_ite (State.blank w), ite_self, foldl_blank, implies_true, h_host, h_intake, h_plan, h_ports, h_fab, h_iso, h_svc, h_faults, h_free]

@[simp] theorem State.registerFrom_blank (h_host : Group.host ∈ w) (h_intake : Group.intake ∈ w) (h_plan : Group.plan ∈ w) (h_ports : Group.ports ∈ w) (h_fab : Group.fab ∈ w) (h_iso : Group.iso ∈ w) (h_svc : Group.svc ∈ w) (h_faults : Group.faults ∈ w) (h_free : Group.free ∈ w) (s : State) (iso : Bool) (addr : Nat) (rung : List Nat) :
    (State.registerFrom s iso addr rung).blank w = s.blank w := by
  unfold State.registerFrom
  dsimp only
  (repeat' split) <;> first | (simp only [State.registerGroup_blank, blank_mk, eq_self, or_true, true_or, apply_ite (State.blank w), ite_self, foldl_blank, implies_true, h_host, h_intake, h_plan, h_ports, h_fab, h_iso, h_svc, h_faults, h_free]; done)

@[simp] theorem State.registerAll_blank (h_host : Group.host ∈ w) (h_intake : Group.intake ∈ w) (h_plan : Group.plan ∈ w) (h_ports : Group.ports ∈ w) (h_fab : Group.fab ∈ w) (h_iso : Group.iso ∈ w) (h_svc : Group.svc ∈ w) (h_faults : Group.faults ∈ w) (h_free : Group.free ∈ w) (s : State) :
    (State.registerAll s).blank w = s.blank w := by
  unfold State.registerAll
  dsimp only
  (repeat' split) <;> first | (simp only [State.registerFrom_blank, State.registerGroup_blank, State.register_blank, blank_mk, eq_self, or_true, true_or, apply_ite (State.blank w), ite_self, foldl_blank, implies_true, h_host, h_intake, h_plan, h_ports, h_fab, h_iso, h_svc, h_faults, h_free]; done)

@[simp] theorem State.openIntake_blank (h_intake : Group.intake ∈ w) (s : State) :
    (State.openIntake s).blank w = s.blank w := by
  unfold State.openIntake
  simp only [blank_mk, eq_self, or_true, true_or, apply_ite (State.blank w), ite_self, foldl_blank, implies_true, h_intake]

@[simp] theorem State.answerAgain_blank (h_host : Group.host ∈ w) (h_intake : Group.intake ∈ w) (h_ports : Group.ports ∈ w) (h_fab : Group.fab ∈ w) (h_iso : Group.iso ∈ w) (h_faults : Group.faults ∈ w) (s : State) :
    (State.answerAgain s).blank w = s.blank w := by
  unfold State.answerAgain
  simp only [State.giveBack_blank, blank_mk, eq_self, or_true, true_or, apply_ite (State.blank w), ite_self, foldl_blank, implies_true, h_host, h_intake, h_ports, h_fab, h_iso, h_faults]

@[simp] theorem State.clearSeen_blank (h_frame : Group.frame ∈ w) (h_intake : Group.intake ∈ w) (h_motion : Group.motion ∈ w) (h_cur : Group.cur ∈ w) (h_gate : Group.gate ∈ w) (h_follow : Group.follow ∈ w) (h_channels : Group.channels ∈ w) (h_cmp : Group.cmp ∈ w) (h_divo : Group.divo ∈ w) (h_sensor : Group.sensor ∈ w) (h_plan : Group.plan ∈ w) (h_iso : Group.iso ∈ w) (s : State) :
    (State.clearSeen s).blank w = s.blank w := by
  unfold State.clearSeen
  dsimp only
  refine (blank_mk _ (by simp) (by simp [h_frame]) (by simp) (by simp) (by simp) (by simp) (by simp) (by simp [h_intake]) (by simp)
    (by simp) (by simp) (by simp) (by simp) (by simp) (by simp) (by simp) (by simp) (by simp) (by simp [h_sensor]) (by simp [h_plan])
    (by simp) (by simp) (by simp [h_iso]) (by simp) (by simp) (by simp) (by simp)).trans ?_
  refine (foldl_blank _ (fun t a => ?_) _ _).trans ?_
  · simp only [State.chanSuper_blank, State.updCmp_blank, State.updCur_blank, State.updDiv_blank, State.updFollow_blank, State.updGate_blank, State.updMotion_blank, forAxes_blank, blank_mk, eq_self, or_true, true_or, apply_ite (State.blank w), ite_self, foldl_blank, implies_true, h_frame, h_intake, h_motion, h_cur, h_gate, h_follow, h_channels, h_cmp, h_divo, h_sensor, h_plan, h_iso]
  · refine forAxes_blank _ (fun n t => ?_) _
    rw [State.chanSuper_blank h_channels, State.updGate_blank h_gate, State.updMotion_blank h_motion, State.updFollow_blank h_follow]
    refine (foldl_blank _ (fun t a => ?_) _ _).trans ?_ <;> simp only [State.chanSuper_blank, State.updCmp_blank, State.updCur_blank, State.updDiv_blank, State.updFollow_blank, State.updGate_blank, State.updMotion_blank, forAxes_blank, blank_mk, eq_self, or_true, true_or, apply_ite (State.blank w), ite_self, foldl_blank, implies_true, h_frame, h_intake, h_motion, h_cur, h_gate, h_follow, h_channels, h_cmp, h_divo, h_sensor, h_plan, h_iso]

@[simp] theorem State.svcSuper_blank (h_svc : Group.svc ∈ w) (s : State) :
    (State.svcSuper s).blank w = s.blank w := by
  unfold State.svcSuper
  simp only [blank_mk, eq_self, or_true, true_or, apply_ite (State.blank w), ite_self, foldl_blank, implies_true, h_svc]

@[simp] theorem State.superframe_blank (h_frame : Group.frame ∈ w) (h_ret : Group.ret ∈ w) (h_host : Group.host ∈ w) (h_intake : Group.intake ∈ w) (h_motion : Group.motion ∈ w) (h_cur : Group.cur ∈ w) (h_wedge : Group.wedge ∈ w) (h_gate : Group.gate ∈ w) (h_follow : Group.follow ∈ w) (h_mon : Group.mon ∈ w) (h_channels : Group.channels ∈ w) (h_cmp : Group.cmp ∈ w) (h_divo : Group.divo ∈ w) (h_sensor : Group.sensor ∈ w) (h_plan : Group.plan ∈ w) (h_ports : Group.ports ∈ w) (h_fab : Group.fab ∈ w) (h_iso : Group.iso ∈ w) (h_twin : Group.twin ∈ w) (h_svc : Group.svc ∈ w) (h_faults : Group.faults ∈ w) (h_free : Group.free ∈ w) (s : State) :
    (State.superframe s).blank w = s.blank w := by
  unfold State.superframe
  simp only [State.clearSeen_blank, State.fabSuper_blank, State.itemsSuper_blank, State.svcSuper_blank, State.twinSuper_blank, State.wedgeSuper_blank, blank_mk, eq_self, or_true, true_or, apply_ite (State.blank w), ite_self, foldl_blank, implies_true, h_frame, h_ret, h_host, h_intake, h_motion, h_cur, h_wedge, h_gate, h_follow, h_mon, h_channels, h_cmp, h_divo, h_sensor, h_plan, h_ports, h_fab, h_iso, h_twin, h_svc, h_faults, h_free]

@[simp] theorem State.activateNow_blank (h_clock : Group.clock ∈ w) (h_frame : Group.frame ∈ w) (h_pins : Group.pins ∈ w) (h_power : Group.power ∈ w) (h_host : Group.host ∈ w) (h_link : Group.link ∈ w) (h_intake : Group.intake ∈ w) (h_params : Group.params ∈ w) (h_motion : Group.motion ∈ w) (h_cur : Group.cur ∈ w) (h_wedge : Group.wedge ∈ w) (h_gate : Group.gate ∈ w) (h_follow : Group.follow ∈ w) (h_mon : Group.mon ∈ w) (h_channels : Group.channels ∈ w) (h_cmp : Group.cmp ∈ w) (h_divo : Group.divo ∈ w) (h_sensor : Group.sensor ∈ w) (h_plan : Group.plan ∈ w) (h_ports : Group.ports ∈ w) (h_fab : Group.fab ∈ w) (h_iso : Group.iso ∈ w) (h_twin : Group.twin ∈ w) (h_svc : Group.svc ∈ w) (h_faults : Group.faults ∈ w) (s : State) :
    (State.activateNow s).blank w = s.blank w := by
  unfold State.activateNow
  simp only [State.actoClear_blank, State.beginStep_blank, State.brakesOff_blank, State.requestStart_blank, State.switchesOff_blank, State.sysClear_blank, forAxes_blank, blank_mk, eq_self, or_true, true_or, apply_ite (State.blank w), ite_self, foldl_blank, implies_true, h_clock, h_frame, h_pins, h_power, h_host, h_link, h_intake, h_params, h_motion, h_cur, h_wedge, h_gate, h_follow, h_mon, h_channels, h_cmp, h_divo, h_sensor, h_plan, h_ports, h_fab, h_iso, h_twin, h_svc, h_faults]

@[simp] theorem State.frameOpens_blank (h_clock : Group.clock ∈ w) (h_frame : Group.frame ∈ w) (h_pins : Group.pins ∈ w) (h_power : Group.power ∈ w) (h_ret : Group.ret ∈ w) (h_host : Group.host ∈ w) (h_link : Group.link ∈ w) (h_intake : Group.intake ∈ w) (h_params : Group.params ∈ w) (h_motion : Group.motion ∈ w) (h_cur : Group.cur ∈ w) (h_wedge : Group.wedge ∈ w) (h_gate : Group.gate ∈ w) (h_follow : Group.follow ∈ w) (h_mon : Group.mon ∈ w) (h_channels : Group.channels ∈ w) (h_cmp : Group.cmp ∈ w) (h_divo : Group.divo ∈ w) (h_sensor : Group.sensor ∈ w) (h_plan : Group.plan ∈ w) (h_ports : Group.ports ∈ w) (h_fab : Group.fab ∈ w) (h_iso : Group.iso ∈ w) (h_twin : Group.twin ∈ w) (h_svc : Group.svc ∈ w) (h_faults : Group.faults ∈ w) (h_free : Group.free ∈ w) (s : State) :
    (State.frameOpens s).blank w = s.blank w := by
  unfold State.frameOpens
  simp only [State.answerAgain_blank, State.axSeqFrame_blank, State.changeStep_blank, State.cycRelease_blank, State.issueActions_blank, State.openIntake_blank, State.registerAll_blank, State.settleDoms_blank, State.settle_blank, State.superframe_blank, State.unitsService_blank, forAxes_blank, forPorts_blank, blank_mk, eq_self, or_true, true_or, apply_ite (State.blank w), ite_self, foldl_blank, implies_true, h_clock, h_frame, h_pins, h_power, h_ret, h_host, h_link, h_intake, h_params, h_motion, h_cur, h_wedge, h_gate, h_follow, h_mon, h_channels, h_cmp, h_divo, h_sensor, h_plan, h_ports, h_fab, h_iso, h_twin, h_svc, h_faults, h_free]

@[simp] theorem execFrameBoundary_blank (h_clock : Group.clock ∈ w) (h_frame : Group.frame ∈ w) (h_pins : Group.pins ∈ w) (h_power : Group.power ∈ w) (h_ret : Group.ret ∈ w) (h_host : Group.host ∈ w) (h_link : Group.link ∈ w) (h_intake : Group.intake ∈ w) (h_params : Group.params ∈ w) (h_motion : Group.motion ∈ w) (h_cur : Group.cur ∈ w) (h_wedge : Group.wedge ∈ w) (h_gate : Group.gate ∈ w) (h_follow : Group.follow ∈ w) (h_mon : Group.mon ∈ w) (h_channels : Group.channels ∈ w) (h_cmp : Group.cmp ∈ w) (h_divo : Group.divo ∈ w) (h_sensor : Group.sensor ∈ w) (h_plan : Group.plan ∈ w) (h_ports : Group.ports ∈ w) (h_fab : Group.fab ∈ w) (h_iso : Group.iso ∈ w) (h_twin : Group.twin ∈ w) (h_svc : Group.svc ∈ w) (h_faults : Group.faults ∈ w) (h_free : Group.free ∈ w) (commit : Bool) (hbk : Quad Nat) (s : State) :
    ran w (execFrameBoundary commit hbk s) = some (s.blank w) := by
  unfold execFrameBoundary
  simp only [State.activateNow_blank, State.faultStep_blank, State.frameOpens_blank, State.frameWork_blank, State.hardBoundary_blank, blank_mk, eq_self, or_true, true_or, apply_ite (State.blank w), ite_self, foldl_blank, implies_true, ran_next, apply_ite (ran w), h_clock, h_frame, h_pins, h_power, h_ret, h_host, h_link, h_intake, h_params, h_motion, h_cur, h_wedge, h_gate, h_follow, h_mon, h_channels, h_cmp, h_divo, h_sensor, h_plan, h_ports, h_fab, h_iso, h_twin, h_svc, h_faults, h_free]

end Sys2Proof.Machine
end

