-- ==== Sys2Proof/Laws/Accept.lean ====
section
/-! SUPPORT. Laws of the hoppers: an accepted command runs its opcode's effect; completion writes the record and leaves other slots. -/

namespace Sys2Proof.Machine

/-- An accepted command runs the effect of its opcode on the state that taking and starting it leave (R147, R155). -/
theorem takeRow_accepts {c : CmdSpec} {h : Nat} {s : State} (a : s.accepts c h = true) :
    takeRow c h s = (c.start (s.begun c h) h).settle := by
  simp only [State.accepts, Bool.and_eq_true, beq_iff_eq, Bool.not_eq_true'] at a
  obtain ⟨⟨⟨⟨⟨⟨⟨⟨⟨⟨⟨a1, a2⟩, a3⟩, a4⟩, a5⟩, a6⟩, a7⟩, a8⟩, a9⟩, a10⟩, a11⟩, a12⟩ := a
  have g : (s.nextStart == some h && s.rungCmd h && s.opcode h == c.op &&
      (match c.sub with | some o => s.p8 h 0 == o | none => true)) = true := by
    simp only [a1, a2, a3, Bool.and_eq_true, beq_self_eq_true, true_and]
    exact a4
  have start : startCmd c h (s.passed c h) = c.start (s.begun c h) h := by
    simp only [startCmd, Bool.and_eq_true, a10, a11, a12, State.begun, Bool.false_eq_true, if_false]
  have key : takeCmd c h s = c.start (s.begun c h) h := by
    simp only [State.passed, State.taken] at a9
    simp only [State.taken] at a7 a8
    simp only [takeCmd, a5, a6, a7, a8, a9]
    exact start
  unfold takeRow
  exact (if_pos g).trans (congrArg State.settle key)

/-! ### Slots -/

theorem setHop_slots (s : State) (h : Nat) (f) : (s.setHop h f).intake.slots = s.intake.slots := rfl
theorem freeHop_slots (s : State) (h : Nat) : (s.freeHop h).intake.slots = s.intake.slots := rfl
theorem putSlot_slots (s : State) (a : Nat) (l) : (s.putSlot a l).intake.slots = cellWrite s.intake.slots a l := rfl

theorem ev_intake (s : State) (a b : Nat) : (s.ev a b).intake = s.intake :=
  only_intake (State.ev_blank (w := [.fab, .faults]) (by simp) (by simp) s a b) (by simp)

theorem evIf_intake (s : State) (c : Bool) (a b : Nat) : (s.evIf c a b).intake = s.intake := by
  simp only [State.evIf]
  split
  · exact ev_intake s a b
  · rfl

/-- Giving a record back leaves the slots as they are. -/
theorem giveBack_slots (s : State) (h : Nat) : (s.giveBack h).intake.slots = s.intake.slots := by
  have hf {t : State} (e : s.respondFabric h = some t) : t.intake = s.intake :=
    only_intake (State.respondFabric_blank (w := [.ports]) (by simp) e) (by simp)
  have hi {t : State} (e : s.respondIso h = some t) : t.intake = s.intake :=
    only_intake (State.respondIso_blank (w := [.iso]) (by simp) e) (by simp)
  unfold State.giveBack
  split
  · rfl
  · split
    · rfl
    · split
      · rw [freeHop_slots, hf (by assumption)]
      · rfl
  · split
    · rw [freeHop_slots, hi (by assumption)]
    · rfl
  · dsimp only
    split <;> simp only [freeHop_slots, evIf_intake, ev_intake]

theorem endBulk_slots (s : State) (h : Nat) : (s.endBulk h).intake.slots = s.intake.slots := by
  unfold State.endBulk
  split <;> rfl

theorem putResult_slots (s : State) (h : Nat) (res : List Byte) : (s.putResult h res).intake.slots = s.intake.slots := by
  unfold State.putResult
  split <;> rfl

theorem countBusy_slots (s : State) (h code : Nat) : (s.countBusy h code).intake.slots = s.intake.slots := by
  unfold State.countBusy
  split <;> rfl

/-- The slots after completion: the length byte and the record of the hopper are written, nothing else (R147, R151). -/
theorem finish_slots (s : State) (h code detail : Nat) (res : List Byte) :
    (s.finish h code detail res).intake.slots =
      cellWrite (cellWrite s.intake.slots (128 * h + 6) (b8 (8 + (resultBody (s.resultOf h res)).length))) (128 * h + 12)
        (s.completion h code detail (s.resultOf h res)) := by
  unfold State.finish
  simp only [giveBack_slots, countBusy_slots, putSlot_slots, putResult_slots, endBulk_slots]

theorem completion_length (s : State) (h code detail : Nat) (res : List Byte) : 
    0 < (s.completion h code detail res).length ∧ (s.completion h code detail res).length ≤ 116 := by
  have hr : (resultBody res).length ≤ 104 := by
    unfold resultBody
    split
    · simp
    · omega
  simp only [State.completion, State.recordHead, b8, le16, le32, leBytes, List.length_append, List.length_cons, List.length_nil]
  omega

/-- A completed hopper holds its completion code in byte 12 (Table HOP-2). -/
theorem finish_code (s : State) (h code detail : Nat) (res : List Byte) (hc : code < 256) (hw : cellWf s.intake.slots = true) :
    (s.finish h code detail res).hb h 12 = code := by
  have hl := completion_length s h code detail (s.resultOf h res)
  have h1 := cellWrite_wf s.intake.slots (128 * h + 6) (b8 (8 + (resultBody (s.resultOf h res)).length)) hw
  have hin : 128 * h + 12 ≤ 128 * h + 12 ∧ 128 * h + 12 < 128 * h + 12 + (s.completion h code detail (s.resultOf h res)).length := by omega
  unfold State.hb
  rw [finish_slots, cellGet_write _ _ _ _ h1, if_pos hin, Nat.sub_self]
  simp only [State.completion, State.recordHead, b8, List.cons_append, List.nil_append, List.getD_cons_zero, BitVec.toNat_ofNat]
  omega

/-- Completion writes no byte of another slot and no byte of the header but the length (Table HOP-2). -/
theorem finish_frame (s : State) (h code detail a : Nat) (res : List Byte) (hw : cellWf s.intake.slots = true)
    (ha : a ≠ 128 * h + 6 ∧ (a < 128 * h + 12 ∨ 128 * h + 128 ≤ a)) :
    cellGet (s.finish h code detail res).intake.slots a = cellGet s.intake.slots a := by
  have hl := completion_length s h code detail (s.resultOf h res)
  have h1 := cellWrite_wf s.intake.slots (128 * h + 6) (b8 (8 + (resultBody (s.resultOf h res)).length)) hw
  have n1 : ¬ (128 * h + 12 ≤ a ∧ a < 128 * h + 12 + (s.completion h code detail (s.resultOf h res)).length) := by omega
  have n2 : ¬ (128 * h + 6 ≤ a ∧ a < 128 * h + 6 + (b8 (8 + (resultBody (s.resultOf h res)).length)).length) := by
    simp only [b8, List.length_cons, List.length_nil]
    omega
  rw [finish_slots, cellGet_write _ _ _ _ h1, if_neg n1, cellGet_write _ _ _ _ hw, if_neg n2]

theorem finish_slots_wf (s : State) (h code detail : Nat) (res : List Byte) (hw : cellWf s.intake.slots = true) :
    cellWf (s.finish h code detail res).intake.slots = true := by
  rw [finish_slots]
  exact cellWrite_wf _ _ _ (cellWrite_wf _ _ _ hw)

/-! ### The slots stay canonical on the way to a start -/

/-- The slots are in canonical form. -/
def State.slotsWf (s : State) : Prop := cellWf s.intake.slots = true

theorem slotsWf_of_slots {s t : State} (e : t.intake.slots = s.intake.slots) (h : s.slotsWf) : t.slotsWf := by
  unfold State.slotsWf
  rw [e]
  exact h

theorem ev_wf {s : State} (h : s.slotsWf) (a b : Nat) : (s.ev a b).slotsWf := slotsWf_of_slots (congrArg (·.slots) (ev_intake _ _ _)) h

theorem setHop_wf {s : State} (h : s.slotsWf) (x : Nat) (f) : (s.setHop x f).slotsWf := slotsWf_of_slots (setHop_slots s x f) h

theorem putSlot_wf {s : State} (h : s.slotsWf) (a : Nat) (l : List Byte) : (s.putSlot a l).slotsWf := cellWrite_wf _ _ _ h

theorem foldl_wf {α : Type} (f : State → α → State) (hf : ∀ t a, t.slotsWf → (f t a).slotsWf) (l : List α) :
    ∀ s, s.slotsWf → (l.foldl f s).slotsWf := by
  induction l with
  | nil => exact fun _ h => h
  | cons a l ih => exact fun s h => ih _ (hf s a h)

theorem finish_wf {s : State} (h : s.slotsWf) (x code detail : Nat) (res : List Byte) : (s.finish x code detail res).slotsWf :=
  finish_slots_wf s x code detail res h

theorem runRefused_wf {s : State} (h : s.slotsWf) (x : Nat) : (s.runRefused x).slotsWf := by
  unfold State.runRefused
  repeat' split
  · refine foldl_wf _ (fun t w ht => ?_) _ _ (slotsWf_of_slots (s := s) rfl h)
    split
    · exact finish_wf ht _ _ _ _
    · exact ht
  · exact h
  · exact h

theorem refuse_wf {s : State} (h : s.slotsWf) (x code detail : Nat) (res : List Byte) : (s.refuse x code detail res).slotsWf := by
  unfold State.refuse
  dsimp only
  refine runRefused_wf (finish_wf ?_ _ _ _ _) _
  unfold State.slotsWf
  rw [setHop_slots]
  have he : (s.ev 0x0907 (srcOf x)).slotsWf := ev_wf h _ _
  (repeat' split) <;> first | exact h | exact he

theorem taken_wf {s : State} (h : s.slotsWf) (x : Nat) : (s.taken x).slotsWf := by
  refine slotsWf_of_slots ?_ h
  unfold State.taken State.useBulk
  split <;> rfl

theorem stopTaken_wf {s : State} (h : s.slotsWf) (x : Nat) : (s.stopTaken x).slotsWf := by
  unfold State.stopTaken
  split
  · unfold State.stopWins
    extract_lets acts q hit taken untaken t1 t2
    have h1 : t1.slotsWf := foldl_wf _ (fun t a ht => refuse_wf ht _ _ _ _) _ _ h
    have h2 : t2.slotsWf := foldl_wf _ (fun t a ht => slotsWf_of_slots (setHop_slots t a _) ht) _ _ h1
    exact slotsWf_of_slots rfl h2
  · exact h

theorem noteLate_wf {s : State} (h : s.slotsWf) (x n : Nat) : (s.noteLate x n).slotsWf := by
  unfold State.noteLate
  exact ev_wf (setHop_wf (s := _) (slotsWf_of_slots (by rfl) h) _ _) _ _

theorem lateStart_wf {s : State} (h : s.slotsWf) (x : Nat) : (s.lateStart x).slotsWf := by
  unfold State.lateStart
  split
  · exact h
  · dsimp only
    split
    · exact noteLate_wf h _ _
    · exact h

theorem setStage_wf {s : State} (h : s.slotsWf) (x : Nat) (st : HopStage) : (s.setStage x st).slotsWf :=
  putSlot_wf (setHop_wf h _ _) _ _

theorem markStart_wf {s : State} (h : s.slotsWf) (c : CmdSpec) (x : Nat) : (s.markStart c x).slotsWf := by
  unfold State.markStart
  extract_lets s1 f s2
  have h1 : s1.slotsWf := by
    simp only [s1]
    split
    · exact foldl_wf _ (fun t a ht => refuse_wf ht _ _ _ _) _ _ h
    · exact h
  have h2 : s2.slotsWf := setHop_wf (setStage_wf h1 _ _) _ _
  split
  · exact h2
  · exact lateStart_wf h2 _

/-- Copying owners' values leaves the slots as they are (R178). -/
theorem copyEnabled_wf {s : State} (h : s.slotsWf) (axes units : Nat) : (s.copyEnabled axes units).slotsWf :=
  slotsWf_of_slots (congrArg (·.slots) (only_intake (State.copyEnabled_blank (w := [.params]) (by simp) s axes units) (by simp))) h

/-- The slots of the state on which an accepted command acts are canonical when they were. -/
theorem begun_wf {s : State} (h : cellWf s.intake.slots = true) (c : CmdSpec) (ht : ∀ t x, t.slotsWf → (c.taken t x).slotsWf) (x : Nat) :
    cellWf (s.begun c x).intake.slots = true :=
  markStart_wf (ht _ _ (stopTaken_wf (taken_wf h x) x)) c x

end Sys2Proof.Machine
end

