-- ==== Sys2Proof/Laws/State.lean ====
section
/-! SUPPORT. Laws of the small containers and of the named updates of the state: what each reads back, field by field. -/

namespace Sys2Proof

variable {α : Type}

@[simp] theorem Quad.get_set_self (q : Quad α) (n : Fin 4) (a : α) : (q.set n a).get n = a := by
  fin_cases n <;> rfl
theorem Quad.get_set (q : Quad α) (n m : Fin 4) (a : α) : (q.set n a).get m = if m = n then a else q.get m := by
  fin_cases n <;> fin_cases m <;> rfl
@[simp] theorem Quad.get_upd_self (q : Quad α) (n : Fin 4) (f : α → α) : (q.upd n f).get n = f (q.get n) := Quad.get_set_self q n _
theorem Quad.get_upd (q : Quad α) (n m : Fin 4) (f : α → α) : (q.upd n f).get m = if m = n then f (q.get n) else q.get m :=
  Quad.get_set q n m _
@[simp] theorem Quad.get_all (n : Fin 4) (a : α) : (Quad.all a).get n = a := by
  fin_cases n <;> rfl
@[simp] theorem Duo.get_set_self (q : Duo α) (n : Fin 2) (a : α) : (q.set n a).get n = a := by
  fin_cases n <;> rfl
theorem Duo.get_set (q : Duo α) (n m : Fin 2) (a : α) : (q.set n a).get m = if m = n then a else q.get m := by
  fin_cases n <;> fin_cases m <;> rfl
@[simp] theorem Duo.get_upd_self (q : Duo α) (n : Fin 2) (f : α → α) : (q.upd n f).get n = f (q.get n) := Duo.get_set_self q n _
theorem Duo.get_upd (q : Duo α) (n m : Fin 2) (f : α → α) : (q.upd n f).get m = if m = n then f (q.get n) else q.get m :=
  Duo.get_set q n m _
@[simp] theorem Duo.get_all (n : Fin 2) (a : α) : (Duo.all a).get n = a := by
  fin_cases n <;> rfl

end Sys2Proof

namespace Sys2Proof.Machine

variable (s : State)

@[simp] theorem setSeq_clock (n : Fin 4) (f) : (s.setSeq n f).clock = s.clock := rfl
@[simp] theorem setSeq_frame (n : Fin 4) (f) : (s.setSeq n f).frame = s.frame := rfl
@[simp] theorem setSeq_pins (n : Fin 4) (f) : (s.setSeq n f).pins = s.pins := rfl
@[simp] theorem setSeq_power (n : Fin 4) (f) : (s.setSeq n f).power = { s.power with axes := s.power.axes.upd n f } := rfl
@[simp] theorem setSeq_ret (n : Fin 4) (f) : (s.setSeq n f).ret = s.ret := rfl
@[simp] theorem setSeq_host (n : Fin 4) (f) : (s.setSeq n f).host = s.host := rfl
@[simp] theorem setSeq_link (n : Fin 4) (f) : (s.setSeq n f).link = s.link := rfl
@[simp] theorem setSeq_intake (n : Fin 4) (f) : (s.setSeq n f).intake = s.intake := rfl
@[simp] theorem setSeq_params (n : Fin 4) (f) : (s.setSeq n f).params = s.params := rfl
@[simp] theorem setSeq_motion (n : Fin 4) (f) : (s.setSeq n f).motion = s.motion := rfl
@[simp] theorem setSeq_cur (n : Fin 4) (f) : (s.setSeq n f).cur = s.cur := rfl
@[simp] theorem setSeq_wedge (n : Fin 4) (f) : (s.setSeq n f).wedge = s.wedge := rfl
@[simp] theorem setSeq_gate (n : Fin 4) (f) : (s.setSeq n f).gate = s.gate := rfl
@[simp] theorem setSeq_follow (n : Fin 4) (f) : (s.setSeq n f).follow = s.follow := rfl
@[simp] theorem setSeq_mon (n : Fin 4) (f) : (s.setSeq n f).mon = s.mon := rfl
@[simp] theorem setSeq_channels (n : Fin 4) (f) : (s.setSeq n f).channels = s.channels := rfl
@[simp] theorem setSeq_cmp (n : Fin 4) (f) : (s.setSeq n f).cmp = s.cmp := rfl
@[simp] theorem setSeq_divo (n : Fin 4) (f) : (s.setSeq n f).divo = s.divo := rfl
@[simp] theorem setSeq_sensor (n : Fin 4) (f) : (s.setSeq n f).sensor = s.sensor := rfl
@[simp] theorem setSeq_plan (n : Fin 4) (f) : (s.setSeq n f).plan = s.plan := rfl
@[simp] theorem setSeq_ports (n : Fin 4) (f) : (s.setSeq n f).ports = s.ports := rfl
@[simp] theorem setSeq_fab (n : Fin 4) (f) : (s.setSeq n f).fab = s.fab := rfl
@[simp] theorem setSeq_iso (n : Fin 4) (f) : (s.setSeq n f).iso = s.iso := rfl
@[simp] theorem setSeq_twin (n : Fin 4) (f) : (s.setSeq n f).twin = s.twin := rfl
@[simp] theorem setSeq_svc (n : Fin 4) (f) : (s.setSeq n f).svc = s.svc := rfl
@[simp] theorem setSeq_faults (n : Fin 4) (f) : (s.setSeq n f).faults = s.faults := rfl
@[simp] theorem setSeq_free (n : Fin 4) (f) : (s.setSeq n f).free = s.free := rfl
@[simp] theorem setSeq_pending (n : Fin 4) (f) : (s.setSeq n f).pending = s.pending := rfl

@[simp] theorem setDom_clock (d : Domain) (f) : (s.setDom d f).clock = s.clock := rfl
@[simp] theorem setDom_frame (d : Domain) (f) : (s.setDom d f).frame = s.frame := rfl
@[simp] theorem setDom_pins (d : Domain) (f) : (s.setDom d f).pins = s.pins := rfl
@[simp] theorem setDom_ret (d : Domain) (f) : (s.setDom d f).ret = s.ret := rfl
@[simp] theorem setDom_host (d : Domain) (f) : (s.setDom d f).host = s.host := rfl
@[simp] theorem setDom_link (d : Domain) (f) : (s.setDom d f).link = s.link := rfl
@[simp] theorem setDom_intake (d : Domain) (f) : (s.setDom d f).intake = s.intake := rfl
@[simp] theorem setDom_params (d : Domain) (f) : (s.setDom d f).params = s.params := rfl
@[simp] theorem setDom_motion (d : Domain) (f) : (s.setDom d f).motion = s.motion := rfl
@[simp] theorem setDom_cur (d : Domain) (f) : (s.setDom d f).cur = s.cur := rfl
@[simp] theorem setDom_wedge (d : Domain) (f) : (s.setDom d f).wedge = s.wedge := rfl
@[simp] theorem setDom_gate (d : Domain) (f) : (s.setDom d f).gate = s.gate := rfl
@[simp] theorem setDom_follow (d : Domain) (f) : (s.setDom d f).follow = s.follow := rfl
@[simp] theorem setDom_mon (d : Domain) (f) : (s.setDom d f).mon = s.mon := rfl
@[simp] theorem setDom_channels (d : Domain) (f) : (s.setDom d f).channels = s.channels := rfl
@[simp] theorem setDom_cmp (d : Domain) (f) : (s.setDom d f).cmp = s.cmp := rfl
@[simp] theorem setDom_divo (d : Domain) (f) : (s.setDom d f).divo = s.divo := rfl
@[simp] theorem setDom_sensor (d : Domain) (f) : (s.setDom d f).sensor = s.sensor := rfl
@[simp] theorem setDom_plan (d : Domain) (f) : (s.setDom d f).plan = s.plan := rfl
@[simp] theorem setDom_ports (d : Domain) (f) : (s.setDom d f).ports = s.ports := rfl
@[simp] theorem setDom_fab (d : Domain) (f) : (s.setDom d f).fab = s.fab := rfl
@[simp] theorem setDom_iso (d : Domain) (f) : (s.setDom d f).iso = s.iso := rfl
@[simp] theorem setDom_twin (d : Domain) (f) : (s.setDom d f).twin = s.twin := rfl
@[simp] theorem setDom_svc (d : Domain) (f) : (s.setDom d f).svc = s.svc := rfl
@[simp] theorem setDom_faults (d : Domain) (f) : (s.setDom d f).faults = s.faults := rfl
@[simp] theorem setDom_free (d : Domain) (f) : (s.setDom d f).free = s.free := rfl
@[simp] theorem setDom_pending (d : Domain) (f) : (s.setDom d f).pending = s.pending := rfl

@[simp] theorem updMotion_clock (n : Fin 4) (f) : (s.updMotion n f).clock = s.clock := rfl
@[simp] theorem updMotion_frame (n : Fin 4) (f) : (s.updMotion n f).frame = s.frame := rfl
@[simp] theorem updMotion_pins (n : Fin 4) (f) : (s.updMotion n f).pins = s.pins := rfl
@[simp] theorem updMotion_power (n : Fin 4) (f) : (s.updMotion n f).power = s.power := rfl
@[simp] theorem updMotion_ret (n : Fin 4) (f) : (s.updMotion n f).ret = s.ret := rfl
@[simp] theorem updMotion_host (n : Fin 4) (f) : (s.updMotion n f).host = s.host := rfl
@[simp] theorem updMotion_link (n : Fin 4) (f) : (s.updMotion n f).link = s.link := rfl
@[simp] theorem updMotion_intake (n : Fin 4) (f) : (s.updMotion n f).intake = s.intake := rfl
@[simp] theorem updMotion_params (n : Fin 4) (f) : (s.updMotion n f).params = s.params := rfl
@[simp] theorem updMotion_motion (n : Fin 4) (f) : (s.updMotion n f).motion = s.motion.upd n f := rfl
@[simp] theorem updMotion_cur (n : Fin 4) (f) : (s.updMotion n f).cur = s.cur := rfl
@[simp] theorem updMotion_wedge (n : Fin 4) (f) : (s.updMotion n f).wedge = s.wedge := rfl
@[simp] theorem updMotion_gate (n : Fin 4) (f) : (s.updMotion n f).gate = s.gate := rfl
@[simp] theorem updMotion_follow (n : Fin 4) (f) : (s.updMotion n f).follow = s.follow := rfl
@[simp] theorem updMotion_mon (n : Fin 4) (f) : (s.updMotion n f).mon = s.mon := rfl
@[simp] theorem updMotion_channels (n : Fin 4) (f) : (s.updMotion n f).channels = s.channels := rfl
@[simp] theorem updMotion_cmp (n : Fin 4) (f) : (s.updMotion n f).cmp = s.cmp := rfl
@[simp] theorem updMotion_divo (n : Fin 4) (f) : (s.updMotion n f).divo = s.divo := rfl
@[simp] theorem updMotion_sensor (n : Fin 4) (f) : (s.updMotion n f).sensor = s.sensor := rfl
@[simp] theorem updMotion_plan (n : Fin 4) (f) : (s.updMotion n f).plan = s.plan := rfl
@[simp] theorem updMotion_ports (n : Fin 4) (f) : (s.updMotion n f).ports = s.ports := rfl
@[simp] theorem updMotion_fab (n : Fin 4) (f) : (s.updMotion n f).fab = s.fab := rfl
@[simp] theorem updMotion_iso (n : Fin 4) (f) : (s.updMotion n f).iso = s.iso := rfl
@[simp] theorem updMotion_twin (n : Fin 4) (f) : (s.updMotion n f).twin = s.twin := rfl
@[simp] theorem updMotion_svc (n : Fin 4) (f) : (s.updMotion n f).svc = s.svc := rfl
@[simp] theorem updMotion_faults (n : Fin 4) (f) : (s.updMotion n f).faults = s.faults := rfl
@[simp] theorem updMotion_free (n : Fin 4) (f) : (s.updMotion n f).free = s.free := rfl
@[simp] theorem updMotion_pending (n : Fin 4) (f) : (s.updMotion n f).pending = s.pending := rfl

@[simp] theorem updCur_clock (n : Fin 4) (f) : (s.updCur n f).clock = s.clock := rfl
@[simp] theorem updCur_frame (n : Fin 4) (f) : (s.updCur n f).frame = s.frame := rfl
@[simp] theorem updCur_pins (n : Fin 4) (f) : (s.updCur n f).pins = s.pins := rfl
@[simp] theorem updCur_power (n : Fin 4) (f) : (s.updCur n f).power = s.power := rfl
@[simp] theorem updCur_ret (n : Fin 4) (f) : (s.updCur n f).ret = s.ret := rfl
@[simp] theorem updCur_host (n : Fin 4) (f) : (s.updCur n f).host = s.host := rfl
@[simp] theorem updCur_link (n : Fin 4) (f) : (s.updCur n f).link = s.link := rfl
@[simp] theorem updCur_intake (n : Fin 4) (f) : (s.updCur n f).intake = s.intake := rfl
@[simp] theorem updCur_params (n : Fin 4) (f) : (s.updCur n f).params = s.params := rfl
@[simp] theorem updCur_motion (n : Fin 4) (f) : (s.updCur n f).motion = s.motion := rfl
@[simp] theorem updCur_cur (n : Fin 4) (f) : (s.updCur n f).cur = s.cur.upd n f := rfl
@[simp] theorem updCur_wedge (n : Fin 4) (f) : (s.updCur n f).wedge = s.wedge := rfl
@[simp] theorem updCur_gate (n : Fin 4) (f) : (s.updCur n f).gate = s.gate := rfl
@[simp] theorem updCur_follow (n : Fin 4) (f) : (s.updCur n f).follow = s.follow := rfl
@[simp] theorem updCur_mon (n : Fin 4) (f) : (s.updCur n f).mon = s.mon := rfl
@[simp] theorem updCur_channels (n : Fin 4) (f) : (s.updCur n f).channels = s.channels := rfl
@[simp] theorem updCur_cmp (n : Fin 4) (f) : (s.updCur n f).cmp = s.cmp := rfl
@[simp] theorem updCur_divo (n : Fin 4) (f) : (s.updCur n f).divo = s.divo := rfl
@[simp] theorem updCur_sensor (n : Fin 4) (f) : (s.updCur n f).sensor = s.sensor := rfl
@[simp] theorem updCur_plan (n : Fin 4) (f) : (s.updCur n f).plan = s.plan := rfl
@[simp] theorem updCur_ports (n : Fin 4) (f) : (s.updCur n f).ports = s.ports := rfl
@[simp] theorem updCur_fab (n : Fin 4) (f) : (s.updCur n f).fab = s.fab := rfl
@[simp] theorem updCur_iso (n : Fin 4) (f) : (s.updCur n f).iso = s.iso := rfl
@[simp] theorem updCur_twin (n : Fin 4) (f) : (s.updCur n f).twin = s.twin := rfl
@[simp] theorem updCur_svc (n : Fin 4) (f) : (s.updCur n f).svc = s.svc := rfl
@[simp] theorem updCur_faults (n : Fin 4) (f) : (s.updCur n f).faults = s.faults := rfl
@[simp] theorem updCur_free (n : Fin 4) (f) : (s.updCur n f).free = s.free := rfl
@[simp] theorem updCur_pending (n : Fin 4) (f) : (s.updCur n f).pending = s.pending := rfl

@[simp] theorem updWedge_clock (n : Fin 4) (f) : (s.updWedge n f).clock = s.clock := rfl
@[simp] theorem updWedge_frame (n : Fin 4) (f) : (s.updWedge n f).frame = s.frame := rfl
@[simp] theorem updWedge_pins (n : Fin 4) (f) : (s.updWedge n f).pins = s.pins := rfl
@[simp] theorem updWedge_power (n : Fin 4) (f) : (s.updWedge n f).power = s.power := rfl
@[simp] theorem updWedge_ret (n : Fin 4) (f) : (s.updWedge n f).ret = s.ret := rfl
@[simp] theorem updWedge_host (n : Fin 4) (f) : (s.updWedge n f).host = s.host := rfl
@[simp] theorem updWedge_link (n : Fin 4) (f) : (s.updWedge n f).link = s.link := rfl
@[simp] theorem updWedge_intake (n : Fin 4) (f) : (s.updWedge n f).intake = s.intake := rfl
@[simp] theorem updWedge_params (n : Fin 4) (f) : (s.updWedge n f).params = s.params := rfl
@[simp] theorem updWedge_motion (n : Fin 4) (f) : (s.updWedge n f).motion = s.motion := rfl
@[simp] theorem updWedge_cur (n : Fin 4) (f) : (s.updWedge n f).cur = s.cur := rfl
@[simp] theorem updWedge_wedge (n : Fin 4) (f) : (s.updWedge n f).wedge = s.wedge.upd n f := rfl
@[simp] theorem updWedge_gate (n : Fin 4) (f) : (s.updWedge n f).gate = s.gate := rfl
@[simp] theorem updWedge_follow (n : Fin 4) (f) : (s.updWedge n f).follow = s.follow := rfl
@[simp] theorem updWedge_mon (n : Fin 4) (f) : (s.updWedge n f).mon = s.mon := rfl
@[simp] theorem updWedge_channels (n : Fin 4) (f) : (s.updWedge n f).channels = s.channels := rfl
@[simp] theorem updWedge_cmp (n : Fin 4) (f) : (s.updWedge n f).cmp = s.cmp := rfl
@[simp] theorem updWedge_divo (n : Fin 4) (f) : (s.updWedge n f).divo = s.divo := rfl
@[simp] theorem updWedge_sensor (n : Fin 4) (f) : (s.updWedge n f).sensor = s.sensor := rfl
@[simp] theorem updWedge_plan (n : Fin 4) (f) : (s.updWedge n f).plan = s.plan := rfl
@[simp] theorem updWedge_ports (n : Fin 4) (f) : (s.updWedge n f).ports = s.ports := rfl
@[simp] theorem updWedge_fab (n : Fin 4) (f) : (s.updWedge n f).fab = s.fab := rfl
@[simp] theorem updWedge_iso (n : Fin 4) (f) : (s.updWedge n f).iso = s.iso := rfl
@[simp] theorem updWedge_twin (n : Fin 4) (f) : (s.updWedge n f).twin = s.twin := rfl
@[simp] theorem updWedge_svc (n : Fin 4) (f) : (s.updWedge n f).svc = s.svc := rfl
@[simp] theorem updWedge_faults (n : Fin 4) (f) : (s.updWedge n f).faults = s.faults := rfl
@[simp] theorem updWedge_free (n : Fin 4) (f) : (s.updWedge n f).free = s.free := rfl
@[simp] theorem updWedge_pending (n : Fin 4) (f) : (s.updWedge n f).pending = s.pending := rfl

@[simp] theorem updGate_clock (n : Fin 4) (f) : (s.updGate n f).clock = s.clock := rfl
@[simp] theorem updGate_frame (n : Fin 4) (f) : (s.updGate n f).frame = s.frame := rfl
@[simp] theorem updGate_pins (n : Fin 4) (f) : (s.updGate n f).pins = s.pins := rfl
@[simp] theorem updGate_power (n : Fin 4) (f) : (s.updGate n f).power = s.power := rfl
@[simp] theorem updGate_ret (n : Fin 4) (f) : (s.updGate n f).ret = s.ret := rfl
@[simp] theorem updGate_host (n : Fin 4) (f) : (s.updGate n f).host = s.host := rfl
@[simp] theorem updGate_link (n : Fin 4) (f) : (s.updGate n f).link = s.link := rfl
@[simp] theorem updGate_intake (n : Fin 4) (f) : (s.updGate n f).intake = s.intake := rfl
@[simp] theorem updGate_params (n : Fin 4) (f) : (s.updGate n f).params = s.params := rfl
@[simp] theorem updGate_motion (n : Fin 4) (f) : (s.updGate n f).motion = s.motion := rfl
@[simp] theorem updGate_cur (n : Fin 4) (f) : (s.updGate n f).cur = s.cur := rfl
@[simp] theorem updGate_wedge (n : Fin 4) (f) : (s.updGate n f).wedge = s.wedge := rfl
@[simp] theorem updGate_gate (n : Fin 4) (f) : (s.updGate n f).gate = s.gate.upd n f := rfl
@[simp] theorem updGate_follow (n : Fin 4) (f) : (s.updGate n f).follow = s.follow := rfl
@[simp] theorem updGate_mon (n : Fin 4) (f) : (s.updGate n f).mon = s.mon := rfl
@[simp] theorem updGate_channels (n : Fin 4) (f) : (s.updGate n f).channels = s.channels := rfl
@[simp] theorem updGate_cmp (n : Fin 4) (f) : (s.updGate n f).cmp = s.cmp := rfl
@[simp] theorem updGate_divo (n : Fin 4) (f) : (s.updGate n f).divo = s.divo := rfl
@[simp] theorem updGate_sensor (n : Fin 4) (f) : (s.updGate n f).sensor = s.sensor := rfl
@[simp] theorem updGate_plan (n : Fin 4) (f) : (s.updGate n f).plan = s.plan := rfl
@[simp] theorem updGate_ports (n : Fin 4) (f) : (s.updGate n f).ports = s.ports := rfl
@[simp] theorem updGate_fab (n : Fin 4) (f) : (s.updGate n f).fab = s.fab := rfl
@[simp] theorem updGate_iso (n : Fin 4) (f) : (s.updGate n f).iso = s.iso := rfl
@[simp] theorem updGate_twin (n : Fin 4) (f) : (s.updGate n f).twin = s.twin := rfl
@[simp] theorem updGate_svc (n : Fin 4) (f) : (s.updGate n f).svc = s.svc := rfl
@[simp] theorem updGate_faults (n : Fin 4) (f) : (s.updGate n f).faults = s.faults := rfl
@[simp] theorem updGate_free (n : Fin 4) (f) : (s.updGate n f).free = s.free := rfl
@[simp] theorem updGate_pending (n : Fin 4) (f) : (s.updGate n f).pending = s.pending := rfl

@[simp] theorem updFollow_clock (n : Fin 4) (f) : (s.updFollow n f).clock = s.clock := rfl
@[simp] theorem updFollow_frame (n : Fin 4) (f) : (s.updFollow n f).frame = s.frame := rfl
@[simp] theorem updFollow_pins (n : Fin 4) (f) : (s.updFollow n f).pins = s.pins := rfl
@[simp] theorem updFollow_power (n : Fin 4) (f) : (s.updFollow n f).power = s.power := rfl
@[simp] theorem updFollow_ret (n : Fin 4) (f) : (s.updFollow n f).ret = s.ret := rfl
@[simp] theorem updFollow_host (n : Fin 4) (f) : (s.updFollow n f).host = s.host := rfl
@[simp] theorem updFollow_link (n : Fin 4) (f) : (s.updFollow n f).link = s.link := rfl
@[simp] theorem updFollow_intake (n : Fin 4) (f) : (s.updFollow n f).intake = s.intake := rfl
@[simp] theorem updFollow_params (n : Fin 4) (f) : (s.updFollow n f).params = s.params := rfl
@[simp] theorem updFollow_motion (n : Fin 4) (f) : (s.updFollow n f).motion = s.motion := rfl
@[simp] theorem updFollow_cur (n : Fin 4) (f) : (s.updFollow n f).cur = s.cur := rfl
@[simp] theorem updFollow_wedge (n : Fin 4) (f) : (s.updFollow n f).wedge = s.wedge := rfl
@[simp] theorem updFollow_gate (n : Fin 4) (f) : (s.updFollow n f).gate = s.gate := rfl
@[simp] theorem updFollow_follow (n : Fin 4) (f) : (s.updFollow n f).follow = s.follow.upd n f := rfl
@[simp] theorem updFollow_mon (n : Fin 4) (f) : (s.updFollow n f).mon = s.mon := rfl
@[simp] theorem updFollow_channels (n : Fin 4) (f) : (s.updFollow n f).channels = s.channels := rfl
@[simp] theorem updFollow_cmp (n : Fin 4) (f) : (s.updFollow n f).cmp = s.cmp := rfl
@[simp] theorem updFollow_divo (n : Fin 4) (f) : (s.updFollow n f).divo = s.divo := rfl
@[simp] theorem updFollow_sensor (n : Fin 4) (f) : (s.updFollow n f).sensor = s.sensor := rfl
@[simp] theorem updFollow_plan (n : Fin 4) (f) : (s.updFollow n f).plan = s.plan := rfl
@[simp] theorem updFollow_ports (n : Fin 4) (f) : (s.updFollow n f).ports = s.ports := rfl
@[simp] theorem updFollow_fab (n : Fin 4) (f) : (s.updFollow n f).fab = s.fab := rfl
@[simp] theorem updFollow_iso (n : Fin 4) (f) : (s.updFollow n f).iso = s.iso := rfl
@[simp] theorem updFollow_twin (n : Fin 4) (f) : (s.updFollow n f).twin = s.twin := rfl
@[simp] theorem updFollow_svc (n : Fin 4) (f) : (s.updFollow n f).svc = s.svc := rfl
@[simp] theorem updFollow_faults (n : Fin 4) (f) : (s.updFollow n f).faults = s.faults := rfl
@[simp] theorem updFollow_free (n : Fin 4) (f) : (s.updFollow n f).free = s.free := rfl
@[simp] theorem updFollow_pending (n : Fin 4) (f) : (s.updFollow n f).pending = s.pending := rfl

@[simp] theorem updChan_clock (n : Fin 4) (f) : (s.updChan n f).clock = s.clock := rfl
@[simp] theorem updChan_frame (n : Fin 4) (f) : (s.updChan n f).frame = s.frame := rfl
@[simp] theorem updChan_pins (n : Fin 4) (f) : (s.updChan n f).pins = s.pins := rfl
@[simp] theorem updChan_power (n : Fin 4) (f) : (s.updChan n f).power = s.power := rfl
@[simp] theorem updChan_ret (n : Fin 4) (f) : (s.updChan n f).ret = s.ret := rfl
@[simp] theorem updChan_host (n : Fin 4) (f) : (s.updChan n f).host = s.host := rfl
@[simp] theorem updChan_link (n : Fin 4) (f) : (s.updChan n f).link = s.link := rfl
@[simp] theorem updChan_intake (n : Fin 4) (f) : (s.updChan n f).intake = s.intake := rfl
@[simp] theorem updChan_params (n : Fin 4) (f) : (s.updChan n f).params = s.params := rfl
@[simp] theorem updChan_motion (n : Fin 4) (f) : (s.updChan n f).motion = s.motion := rfl
@[simp] theorem updChan_cur (n : Fin 4) (f) : (s.updChan n f).cur = s.cur := rfl
@[simp] theorem updChan_wedge (n : Fin 4) (f) : (s.updChan n f).wedge = s.wedge := rfl
@[simp] theorem updChan_gate (n : Fin 4) (f) : (s.updChan n f).gate = s.gate := rfl
@[simp] theorem updChan_follow (n : Fin 4) (f) : (s.updChan n f).follow = s.follow := rfl
@[simp] theorem updChan_mon (n : Fin 4) (f) : (s.updChan n f).mon = s.mon := rfl
@[simp] theorem updChan_channels (n : Fin 4) (f) : (s.updChan n f).channels = s.channels.upd n f := rfl
@[simp] theorem updChan_cmp (n : Fin 4) (f) : (s.updChan n f).cmp = s.cmp := rfl
@[simp] theorem updChan_divo (n : Fin 4) (f) : (s.updChan n f).divo = s.divo := rfl
@[simp] theorem updChan_sensor (n : Fin 4) (f) : (s.updChan n f).sensor = s.sensor := rfl
@[simp] theorem updChan_plan (n : Fin 4) (f) : (s.updChan n f).plan = s.plan := rfl
@[simp] theorem updChan_ports (n : Fin 4) (f) : (s.updChan n f).ports = s.ports := rfl
@[simp] theorem updChan_fab (n : Fin 4) (f) : (s.updChan n f).fab = s.fab := rfl
@[simp] theorem updChan_iso (n : Fin 4) (f) : (s.updChan n f).iso = s.iso := rfl
@[simp] theorem updChan_twin (n : Fin 4) (f) : (s.updChan n f).twin = s.twin := rfl
@[simp] theorem updChan_svc (n : Fin 4) (f) : (s.updChan n f).svc = s.svc := rfl
@[simp] theorem updChan_faults (n : Fin 4) (f) : (s.updChan n f).faults = s.faults := rfl
@[simp] theorem updChan_free (n : Fin 4) (f) : (s.updChan n f).free = s.free := rfl
@[simp] theorem updChan_pending (n : Fin 4) (f) : (s.updChan n f).pending = s.pending := rfl

@[simp] theorem updBrake_clock (b : Fin 4) (f) : (s.updBrake b f).clock = s.clock := rfl
@[simp] theorem updBrake_frame (b : Fin 4) (f) : (s.updBrake b f).frame = s.frame := rfl
@[simp] theorem updBrake_pins (b : Fin 4) (f) : (s.updBrake b f).pins = s.pins := rfl
@[simp] theorem updBrake_power (b : Fin 4) (f) : (s.updBrake b f).power = s.power := rfl
@[simp] theorem updBrake_ret (b : Fin 4) (f) : (s.updBrake b f).ret = s.ret := rfl
@[simp] theorem updBrake_host (b : Fin 4) (f) : (s.updBrake b f).host = s.host := rfl
@[simp] theorem updBrake_link (b : Fin 4) (f) : (s.updBrake b f).link = s.link := rfl
@[simp] theorem updBrake_intake (b : Fin 4) (f) : (s.updBrake b f).intake = s.intake := rfl
@[simp] theorem updBrake_params (b : Fin 4) (f) : (s.updBrake b f).params = s.params := rfl
@[simp] theorem updBrake_motion (b : Fin 4) (f) : (s.updBrake b f).motion = s.motion := rfl
@[simp] theorem updBrake_cur (b : Fin 4) (f) : (s.updBrake b f).cur = s.cur := rfl
@[simp] theorem updBrake_wedge (b : Fin 4) (f) : (s.updBrake b f).wedge = s.wedge := rfl
@[simp] theorem updBrake_gate (b : Fin 4) (f) : (s.updBrake b f).gate = s.gate := rfl
@[simp] theorem updBrake_follow (b : Fin 4) (f) : (s.updBrake b f).follow = s.follow := rfl
@[simp] theorem updBrake_mon (b : Fin 4) (f) : (s.updBrake b f).mon = { s.mon with brakes := s.mon.brakes.upd b f } := rfl
@[simp] theorem updBrake_channels (b : Fin 4) (f) : (s.updBrake b f).channels = s.channels := rfl
@[simp] theorem updBrake_cmp (b : Fin 4) (f) : (s.updBrake b f).cmp = s.cmp := rfl
@[simp] theorem updBrake_divo (b : Fin 4) (f) : (s.updBrake b f).divo = s.divo := rfl
@[simp] theorem updBrake_sensor (b : Fin 4) (f) : (s.updBrake b f).sensor = s.sensor := rfl
@[simp] theorem updBrake_plan (b : Fin 4) (f) : (s.updBrake b f).plan = s.plan := rfl
@[simp] theorem updBrake_ports (b : Fin 4) (f) : (s.updBrake b f).ports = s.ports := rfl
@[simp] theorem updBrake_fab (b : Fin 4) (f) : (s.updBrake b f).fab = s.fab := rfl
@[simp] theorem updBrake_iso (b : Fin 4) (f) : (s.updBrake b f).iso = s.iso := rfl
@[simp] theorem updBrake_twin (b : Fin 4) (f) : (s.updBrake b f).twin = s.twin := rfl
@[simp] theorem updBrake_svc (b : Fin 4) (f) : (s.updBrake b f).svc = s.svc := rfl
@[simp] theorem updBrake_faults (b : Fin 4) (f) : (s.updBrake b f).faults = s.faults := rfl
@[simp] theorem updBrake_free (b : Fin 4) (f) : (s.updBrake b f).free = s.free := rfl
@[simp] theorem updBrake_pending (b : Fin 4) (f) : (s.updBrake b f).pending = s.pending := rfl

@[simp] theorem updPort_clock (p : Fin 2) (f) : (s.updPort p f).clock = s.clock := rfl
@[simp] theorem updPort_frame (p : Fin 2) (f) : (s.updPort p f).frame = s.frame := rfl
@[simp] theorem updPort_pins (p : Fin 2) (f) : (s.updPort p f).pins = s.pins := rfl
@[simp] theorem updPort_power (p : Fin 2) (f) : (s.updPort p f).power = s.power := rfl
@[simp] theorem updPort_ret (p : Fin 2) (f) : (s.updPort p f).ret = s.ret := rfl
@[simp] theorem updPort_host (p : Fin 2) (f) : (s.updPort p f).host = s.host := rfl
@[simp] theorem updPort_link (p : Fin 2) (f) : (s.updPort p f).link = s.link := rfl
@[simp] theorem updPort_intake (p : Fin 2) (f) : (s.updPort p f).intake = s.intake := rfl
@[simp] theorem updPort_params (p : Fin 2) (f) : (s.updPort p f).params = s.params := rfl
@[simp] theorem updPort_motion (p : Fin 2) (f) : (s.updPort p f).motion = s.motion := rfl
@[simp] theorem updPort_cur (p : Fin 2) (f) : (s.updPort p f).cur = s.cur := rfl
@[simp] theorem updPort_wedge (p : Fin 2) (f) : (s.updPort p f).wedge = s.wedge := rfl
@[simp] theorem updPort_gate (p : Fin 2) (f) : (s.updPort p f).gate = s.gate := rfl
@[simp] theorem updPort_follow (p : Fin 2) (f) : (s.updPort p f).follow = s.follow := rfl
@[simp] theorem updPort_mon (p : Fin 2) (f) : (s.updPort p f).mon = s.mon := rfl
@[simp] theorem updPort_channels (p : Fin 2) (f) : (s.updPort p f).channels = s.channels := rfl
@[simp] theorem updPort_cmp (p : Fin 2) (f) : (s.updPort p f).cmp = s.cmp := rfl
@[simp] theorem updPort_divo (p : Fin 2) (f) : (s.updPort p f).divo = s.divo := rfl
@[simp] theorem updPort_sensor (p : Fin 2) (f) : (s.updPort p f).sensor = s.sensor := rfl
@[simp] theorem updPort_plan (p : Fin 2) (f) : (s.updPort p f).plan = s.plan := rfl
@[simp] theorem updPort_ports (p : Fin 2) (f) : (s.updPort p f).ports = s.ports.upd p f := rfl
@[simp] theorem updPort_fab (p : Fin 2) (f) : (s.updPort p f).fab = s.fab := rfl
@[simp] theorem updPort_iso (p : Fin 2) (f) : (s.updPort p f).iso = s.iso := rfl
@[simp] theorem updPort_twin (p : Fin 2) (f) : (s.updPort p f).twin = s.twin := rfl
@[simp] theorem updPort_svc (p : Fin 2) (f) : (s.updPort p f).svc = s.svc := rfl
@[simp] theorem updPort_faults (p : Fin 2) (f) : (s.updPort p f).faults = s.faults := rfl
@[simp] theorem updPort_free (p : Fin 2) (f) : (s.updPort p f).free = s.free := rfl
@[simp] theorem updPort_pending (p : Fin 2) (f) : (s.updPort p f).pending = s.pending := rfl

@[simp] theorem updCmp_clock (n : Fin 4) (u : Fin 2) (f) : (s.updCmp n u f).clock = s.clock := rfl
@[simp] theorem updCmp_frame (n : Fin 4) (u : Fin 2) (f) : (s.updCmp n u f).frame = s.frame := rfl
@[simp] theorem updCmp_pins (n : Fin 4) (u : Fin 2) (f) : (s.updCmp n u f).pins = s.pins := rfl
@[simp] theorem updCmp_power (n : Fin 4) (u : Fin 2) (f) : (s.updCmp n u f).power = s.power := rfl
@[simp] theorem updCmp_ret (n : Fin 4) (u : Fin 2) (f) : (s.updCmp n u f).ret = s.ret := rfl
@[simp] theorem updCmp_host (n : Fin 4) (u : Fin 2) (f) : (s.updCmp n u f).host = s.host := rfl
@[simp] theorem updCmp_link (n : Fin 4) (u : Fin 2) (f) : (s.updCmp n u f).link = s.link := rfl
@[simp] theorem updCmp_intake (n : Fin 4) (u : Fin 2) (f) : (s.updCmp n u f).intake = s.intake := rfl
@[simp] theorem updCmp_params (n : Fin 4) (u : Fin 2) (f) : (s.updCmp n u f).params = s.params := rfl
@[simp] theorem updCmp_motion (n : Fin 4) (u : Fin 2) (f) : (s.updCmp n u f).motion = s.motion := rfl
@[simp] theorem updCmp_cur (n : Fin 4) (u : Fin 2) (f) : (s.updCmp n u f).cur = s.cur := rfl
@[simp] theorem updCmp_wedge (n : Fin 4) (u : Fin 2) (f) : (s.updCmp n u f).wedge = s.wedge := rfl
@[simp] theorem updCmp_gate (n : Fin 4) (u : Fin 2) (f) : (s.updCmp n u f).gate = s.gate := rfl
@[simp] theorem updCmp_follow (n : Fin 4) (u : Fin 2) (f) : (s.updCmp n u f).follow = s.follow := rfl
@[simp] theorem updCmp_mon (n : Fin 4) (u : Fin 2) (f) : (s.updCmp n u f).mon = s.mon := rfl
@[simp] theorem updCmp_channels (n : Fin 4) (u : Fin 2) (f) : (s.updCmp n u f).channels = s.channels := rfl
@[simp] theorem updCmp_cmp (n : Fin 4) (u : Fin 2) (f) : (s.updCmp n u f).cmp = s.cmp.upd n (fun d => d.upd u f) := rfl
@[simp] theorem updCmp_divo (n : Fin 4) (u : Fin 2) (f) : (s.updCmp n u f).divo = s.divo := rfl
@[simp] theorem updCmp_sensor (n : Fin 4) (u : Fin 2) (f) : (s.updCmp n u f).sensor = s.sensor := rfl
@[simp] theorem updCmp_plan (n : Fin 4) (u : Fin 2) (f) : (s.updCmp n u f).plan = s.plan := rfl
@[simp] theorem updCmp_ports (n : Fin 4) (u : Fin 2) (f) : (s.updCmp n u f).ports = s.ports := rfl
@[simp] theorem updCmp_fab (n : Fin 4) (u : Fin 2) (f) : (s.updCmp n u f).fab = s.fab := rfl
@[simp] theorem updCmp_iso (n : Fin 4) (u : Fin 2) (f) : (s.updCmp n u f).iso = s.iso := rfl
@[simp] theorem updCmp_twin (n : Fin 4) (u : Fin 2) (f) : (s.updCmp n u f).twin = s.twin := rfl
@[simp] theorem updCmp_svc (n : Fin 4) (u : Fin 2) (f) : (s.updCmp n u f).svc = s.svc := rfl
@[simp] theorem updCmp_faults (n : Fin 4) (u : Fin 2) (f) : (s.updCmp n u f).faults = s.faults := rfl
@[simp] theorem updCmp_free (n : Fin 4) (u : Fin 2) (f) : (s.updCmp n u f).free = s.free := rfl
@[simp] theorem updCmp_pending (n : Fin 4) (u : Fin 2) (f) : (s.updCmp n u f).pending = s.pending := rfl

@[simp] theorem updDiv_clock (d : Fin 2) (f) : (s.updDiv d f).clock = s.clock := rfl
@[simp] theorem updDiv_frame (d : Fin 2) (f) : (s.updDiv d f).frame = s.frame := rfl
@[simp] theorem updDiv_pins (d : Fin 2) (f) : (s.updDiv d f).pins = s.pins := rfl
@[simp] theorem updDiv_power (d : Fin 2) (f) : (s.updDiv d f).power = s.power := rfl
@[simp] theorem updDiv_ret (d : Fin 2) (f) : (s.updDiv d f).ret = s.ret := rfl
@[simp] theorem updDiv_host (d : Fin 2) (f) : (s.updDiv d f).host = s.host := rfl
@[simp] theorem updDiv_link (d : Fin 2) (f) : (s.updDiv d f).link = s.link := rfl
@[simp] theorem updDiv_intake (d : Fin 2) (f) : (s.updDiv d f).intake = s.intake := rfl
@[simp] theorem updDiv_params (d : Fin 2) (f) : (s.updDiv d f).params = s.params := rfl
@[simp] theorem updDiv_motion (d : Fin 2) (f) : (s.updDiv d f).motion = s.motion := rfl
@[simp] theorem updDiv_cur (d : Fin 2) (f) : (s.updDiv d f).cur = s.cur := rfl
@[simp] theorem updDiv_wedge (d : Fin 2) (f) : (s.updDiv d f).wedge = s.wedge := rfl
@[simp] theorem updDiv_gate (d : Fin 2) (f) : (s.updDiv d f).gate = s.gate := rfl
@[simp] theorem updDiv_follow (d : Fin 2) (f) : (s.updDiv d f).follow = s.follow := rfl
@[simp] theorem updDiv_mon (d : Fin 2) (f) : (s.updDiv d f).mon = s.mon := rfl
@[simp] theorem updDiv_channels (d : Fin 2) (f) : (s.updDiv d f).channels = s.channels := rfl
@[simp] theorem updDiv_cmp (d : Fin 2) (f) : (s.updDiv d f).cmp = s.cmp := rfl
@[simp] theorem updDiv_divo (d : Fin 2) (f) : (s.updDiv d f).divo = s.divo.upd d f := rfl
@[simp] theorem updDiv_sensor (d : Fin 2) (f) : (s.updDiv d f).sensor = s.sensor := rfl
@[simp] theorem updDiv_plan (d : Fin 2) (f) : (s.updDiv d f).plan = s.plan := rfl
@[simp] theorem updDiv_ports (d : Fin 2) (f) : (s.updDiv d f).ports = s.ports := rfl
@[simp] theorem updDiv_fab (d : Fin 2) (f) : (s.updDiv d f).fab = s.fab := rfl
@[simp] theorem updDiv_iso (d : Fin 2) (f) : (s.updDiv d f).iso = s.iso := rfl
@[simp] theorem updDiv_twin (d : Fin 2) (f) : (s.updDiv d f).twin = s.twin := rfl
@[simp] theorem updDiv_svc (d : Fin 2) (f) : (s.updDiv d f).svc = s.svc := rfl
@[simp] theorem updDiv_faults (d : Fin 2) (f) : (s.updDiv d f).faults = s.faults := rfl
@[simp] theorem updDiv_free (d : Fin 2) (f) : (s.updDiv d f).free = s.free := rfl
@[simp] theorem updDiv_pending (d : Fin 2) (f) : (s.updDiv d f).pending = s.pending := rfl

@[simp] theorem updPlan_clock (f) : (s.updPlan f).clock = s.clock := rfl
@[simp] theorem updPlan_frame (f) : (s.updPlan f).frame = s.frame := rfl
@[simp] theorem updPlan_pins (f) : (s.updPlan f).pins = s.pins := rfl
@[simp] theorem updPlan_power (f) : (s.updPlan f).power = s.power := rfl
@[simp] theorem updPlan_ret (f) : (s.updPlan f).ret = s.ret := rfl
@[simp] theorem updPlan_host (f) : (s.updPlan f).host = s.host := rfl
@[simp] theorem updPlan_link (f) : (s.updPlan f).link = s.link := rfl
@[simp] theorem updPlan_intake (f) : (s.updPlan f).intake = s.intake := rfl
@[simp] theorem updPlan_params (f) : (s.updPlan f).params = s.params := rfl
@[simp] theorem updPlan_motion (f) : (s.updPlan f).motion = s.motion := rfl
@[simp] theorem updPlan_cur (f) : (s.updPlan f).cur = s.cur := rfl
@[simp] theorem updPlan_wedge (f) : (s.updPlan f).wedge = s.wedge := rfl
@[simp] theorem updPlan_gate (f) : (s.updPlan f).gate = s.gate := rfl
@[simp] theorem updPlan_follow (f) : (s.updPlan f).follow = s.follow := rfl
@[simp] theorem updPlan_mon (f) : (s.updPlan f).mon = s.mon := rfl
@[simp] theorem updPlan_channels (f) : (s.updPlan f).channels = s.channels := rfl
@[simp] theorem updPlan_cmp (f) : (s.updPlan f).cmp = s.cmp := rfl
@[simp] theorem updPlan_divo (f) : (s.updPlan f).divo = s.divo := rfl
@[simp] theorem updPlan_sensor (f) : (s.updPlan f).sensor = s.sensor := rfl
@[simp] theorem updPlan_plan (f) : (s.updPlan f).plan = f s.plan := rfl
@[simp] theorem updPlan_ports (f) : (s.updPlan f).ports = s.ports := rfl
@[simp] theorem updPlan_fab (f) : (s.updPlan f).fab = s.fab := rfl
@[simp] theorem updPlan_iso (f) : (s.updPlan f).iso = s.iso := rfl
@[simp] theorem updPlan_twin (f) : (s.updPlan f).twin = s.twin := rfl
@[simp] theorem updPlan_svc (f) : (s.updPlan f).svc = s.svc := rfl
@[simp] theorem updPlan_faults (f) : (s.updPlan f).faults = s.faults := rfl
@[simp] theorem updPlan_free (f) : (s.updPlan f).free = s.free := rfl
@[simp] theorem updPlan_pending (f) : (s.updPlan f).pending = s.pending := rfl

@[simp] theorem updIso_clock (f) : (s.updIso f).clock = s.clock := rfl
@[simp] theorem updIso_frame (f) : (s.updIso f).frame = s.frame := rfl
@[simp] theorem updIso_pins (f) : (s.updIso f).pins = s.pins := rfl
@[simp] theorem updIso_power (f) : (s.updIso f).power = s.power := rfl
@[simp] theorem updIso_ret (f) : (s.updIso f).ret = s.ret := rfl
@[simp] theorem updIso_host (f) : (s.updIso f).host = s.host := rfl
@[simp] theorem updIso_link (f) : (s.updIso f).link = s.link := rfl
@[simp] theorem updIso_intake (f) : (s.updIso f).intake = s.intake := rfl
@[simp] theorem updIso_params (f) : (s.updIso f).params = s.params := rfl
@[simp] theorem updIso_motion (f) : (s.updIso f).motion = s.motion := rfl
@[simp] theorem updIso_cur (f) : (s.updIso f).cur = s.cur := rfl
@[simp] theorem updIso_wedge (f) : (s.updIso f).wedge = s.wedge := rfl
@[simp] theorem updIso_gate (f) : (s.updIso f).gate = s.gate := rfl
@[simp] theorem updIso_follow (f) : (s.updIso f).follow = s.follow := rfl
@[simp] theorem updIso_mon (f) : (s.updIso f).mon = s.mon := rfl
@[simp] theorem updIso_channels (f) : (s.updIso f).channels = s.channels := rfl
@[simp] theorem updIso_cmp (f) : (s.updIso f).cmp = s.cmp := rfl
@[simp] theorem updIso_divo (f) : (s.updIso f).divo = s.divo := rfl
@[simp] theorem updIso_sensor (f) : (s.updIso f).sensor = s.sensor := rfl
@[simp] theorem updIso_plan (f) : (s.updIso f).plan = s.plan := rfl
@[simp] theorem updIso_ports (f) : (s.updIso f).ports = s.ports := rfl
@[simp] theorem updIso_fab (f) : (s.updIso f).fab = s.fab := rfl
@[simp] theorem updIso_iso (f) : (s.updIso f).iso = f s.iso := rfl
@[simp] theorem updIso_twin (f) : (s.updIso f).twin = s.twin := rfl
@[simp] theorem updIso_svc (f) : (s.updIso f).svc = s.svc := rfl
@[simp] theorem updIso_faults (f) : (s.updIso f).faults = s.faults := rfl
@[simp] theorem updIso_free (f) : (s.updIso f).free = s.free := rfl
@[simp] theorem updIso_pending (f) : (s.updIso f).pending = s.pending := rfl

@[simp] theorem updTwin_clock (f) : (s.updTwin f).clock = s.clock := rfl
@[simp] theorem updTwin_frame (f) : (s.updTwin f).frame = s.frame := rfl
@[simp] theorem updTwin_pins (f) : (s.updTwin f).pins = s.pins := rfl
@[simp] theorem updTwin_power (f) : (s.updTwin f).power = s.power := rfl
@[simp] theorem updTwin_ret (f) : (s.updTwin f).ret = s.ret := rfl
@[simp] theorem updTwin_host (f) : (s.updTwin f).host = s.host := rfl
@[simp] theorem updTwin_link (f) : (s.updTwin f).link = s.link := rfl
@[simp] theorem updTwin_intake (f) : (s.updTwin f).intake = s.intake := rfl
@[simp] theorem updTwin_params (f) : (s.updTwin f).params = s.params := rfl
@[simp] theorem updTwin_motion (f) : (s.updTwin f).motion = s.motion := rfl
@[simp] theorem updTwin_cur (f) : (s.updTwin f).cur = s.cur := rfl
@[simp] theorem updTwin_wedge (f) : (s.updTwin f).wedge = s.wedge := rfl
@[simp] theorem updTwin_gate (f) : (s.updTwin f).gate = s.gate := rfl
@[simp] theorem updTwin_follow (f) : (s.updTwin f).follow = s.follow := rfl
@[simp] theorem updTwin_mon (f) : (s.updTwin f).mon = s.mon := rfl
@[simp] theorem updTwin_channels (f) : (s.updTwin f).channels = s.channels := rfl
@[simp] theorem updTwin_cmp (f) : (s.updTwin f).cmp = s.cmp := rfl
@[simp] theorem updTwin_divo (f) : (s.updTwin f).divo = s.divo := rfl
@[simp] theorem updTwin_sensor (f) : (s.updTwin f).sensor = s.sensor := rfl
@[simp] theorem updTwin_plan (f) : (s.updTwin f).plan = s.plan := rfl
@[simp] theorem updTwin_ports (f) : (s.updTwin f).ports = s.ports := rfl
@[simp] theorem updTwin_fab (f) : (s.updTwin f).fab = s.fab := rfl
@[simp] theorem updTwin_iso (f) : (s.updTwin f).iso = s.iso := rfl
@[simp] theorem updTwin_twin (f) : (s.updTwin f).twin = f s.twin := rfl
@[simp] theorem updTwin_svc (f) : (s.updTwin f).svc = s.svc := rfl
@[simp] theorem updTwin_faults (f) : (s.updTwin f).faults = s.faults := rfl
@[simp] theorem updTwin_free (f) : (s.updTwin f).free = s.free := rfl
@[simp] theorem updTwin_pending (f) : (s.updTwin f).pending = s.pending := rfl

@[simp] theorem putSlot_clock (a : Nat) (l) : (s.putSlot a l).clock = s.clock := rfl
@[simp] theorem putSlot_frame (a : Nat) (l) : (s.putSlot a l).frame = s.frame := rfl
@[simp] theorem putSlot_pins (a : Nat) (l) : (s.putSlot a l).pins = s.pins := rfl
@[simp] theorem putSlot_power (a : Nat) (l) : (s.putSlot a l).power = s.power := rfl
@[simp] theorem putSlot_ret (a : Nat) (l) : (s.putSlot a l).ret = s.ret := rfl
@[simp] theorem putSlot_host (a : Nat) (l) : (s.putSlot a l).host = s.host := rfl
@[simp] theorem putSlot_link (a : Nat) (l) : (s.putSlot a l).link = s.link := rfl
@[simp] theorem putSlot_intake (a : Nat) (l) : (s.putSlot a l).intake = { s.intake with slots := cellWrite s.intake.slots a l } := rfl
@[simp] theorem putSlot_params (a : Nat) (l) : (s.putSlot a l).params = s.params := rfl
@[simp] theorem putSlot_motion (a : Nat) (l) : (s.putSlot a l).motion = s.motion := rfl
@[simp] theorem putSlot_cur (a : Nat) (l) : (s.putSlot a l).cur = s.cur := rfl
@[simp] theorem putSlot_wedge (a : Nat) (l) : (s.putSlot a l).wedge = s.wedge := rfl
@[simp] theorem putSlot_gate (a : Nat) (l) : (s.putSlot a l).gate = s.gate := rfl
@[simp] theorem putSlot_follow (a : Nat) (l) : (s.putSlot a l).follow = s.follow := rfl
@[simp] theorem putSlot_mon (a : Nat) (l) : (s.putSlot a l).mon = s.mon := rfl
@[simp] theorem putSlot_channels (a : Nat) (l) : (s.putSlot a l).channels = s.channels := rfl
@[simp] theorem putSlot_cmp (a : Nat) (l) : (s.putSlot a l).cmp = s.cmp := rfl
@[simp] theorem putSlot_divo (a : Nat) (l) : (s.putSlot a l).divo = s.divo := rfl
@[simp] theorem putSlot_sensor (a : Nat) (l) : (s.putSlot a l).sensor = s.sensor := rfl
@[simp] theorem putSlot_plan (a : Nat) (l) : (s.putSlot a l).plan = s.plan := rfl
@[simp] theorem putSlot_ports (a : Nat) (l) : (s.putSlot a l).ports = s.ports := rfl
@[simp] theorem putSlot_fab (a : Nat) (l) : (s.putSlot a l).fab = s.fab := rfl
@[simp] theorem putSlot_iso (a : Nat) (l) : (s.putSlot a l).iso = s.iso := rfl
@[simp] theorem putSlot_twin (a : Nat) (l) : (s.putSlot a l).twin = s.twin := rfl
@[simp] theorem putSlot_svc (a : Nat) (l) : (s.putSlot a l).svc = s.svc := rfl
@[simp] theorem putSlot_faults (a : Nat) (l) : (s.putSlot a l).faults = s.faults := rfl
@[simp] theorem putSlot_free (a : Nat) (l) : (s.putSlot a l).free = s.free := rfl
@[simp] theorem putSlot_pending (a : Nat) (l) : (s.putSlot a l).pending = s.pending := rfl

@[simp] theorem putBulk_clock (a : Nat) (l) : (s.putBulk a l).clock = s.clock := rfl
@[simp] theorem putBulk_frame (a : Nat) (l) : (s.putBulk a l).frame = s.frame := rfl
@[simp] theorem putBulk_pins (a : Nat) (l) : (s.putBulk a l).pins = s.pins := rfl
@[simp] theorem putBulk_power (a : Nat) (l) : (s.putBulk a l).power = s.power := rfl
@[simp] theorem putBulk_ret (a : Nat) (l) : (s.putBulk a l).ret = s.ret := rfl
@[simp] theorem putBulk_host (a : Nat) (l) : (s.putBulk a l).host = s.host := rfl
@[simp] theorem putBulk_link (a : Nat) (l) : (s.putBulk a l).link = s.link := rfl
@[simp] theorem putBulk_intake (a : Nat) (l) : (s.putBulk a l).intake = { s.intake with bulk := cellWrite s.intake.bulk a l } := rfl
@[simp] theorem putBulk_params (a : Nat) (l) : (s.putBulk a l).params = s.params := rfl
@[simp] theorem putBulk_motion (a : Nat) (l) : (s.putBulk a l).motion = s.motion := rfl
@[simp] theorem putBulk_cur (a : Nat) (l) : (s.putBulk a l).cur = s.cur := rfl
@[simp] theorem putBulk_wedge (a : Nat) (l) : (s.putBulk a l).wedge = s.wedge := rfl
@[simp] theorem putBulk_gate (a : Nat) (l) : (s.putBulk a l).gate = s.gate := rfl
@[simp] theorem putBulk_follow (a : Nat) (l) : (s.putBulk a l).follow = s.follow := rfl
@[simp] theorem putBulk_mon (a : Nat) (l) : (s.putBulk a l).mon = s.mon := rfl
@[simp] theorem putBulk_channels (a : Nat) (l) : (s.putBulk a l).channels = s.channels := rfl
@[simp] theorem putBulk_cmp (a : Nat) (l) : (s.putBulk a l).cmp = s.cmp := rfl
@[simp] theorem putBulk_divo (a : Nat) (l) : (s.putBulk a l).divo = s.divo := rfl
@[simp] theorem putBulk_sensor (a : Nat) (l) : (s.putBulk a l).sensor = s.sensor := rfl
@[simp] theorem putBulk_plan (a : Nat) (l) : (s.putBulk a l).plan = s.plan := rfl
@[simp] theorem putBulk_ports (a : Nat) (l) : (s.putBulk a l).ports = s.ports := rfl
@[simp] theorem putBulk_fab (a : Nat) (l) : (s.putBulk a l).fab = s.fab := rfl
@[simp] theorem putBulk_iso (a : Nat) (l) : (s.putBulk a l).iso = s.iso := rfl
@[simp] theorem putBulk_twin (a : Nat) (l) : (s.putBulk a l).twin = s.twin := rfl
@[simp] theorem putBulk_svc (a : Nat) (l) : (s.putBulk a l).svc = s.svc := rfl
@[simp] theorem putBulk_faults (a : Nat) (l) : (s.putBulk a l).faults = s.faults := rfl
@[simp] theorem putBulk_free (a : Nat) (l) : (s.putBulk a l).free = s.free := rfl
@[simp] theorem putBulk_pending (a : Nat) (l) : (s.putBulk a l).pending = s.pending := rfl

@[simp] theorem setHop_clock (h : Nat) (f) : (s.setHop h f).clock = s.clock := rfl
@[simp] theorem setHop_frame (h : Nat) (f) : (s.setHop h f).frame = s.frame := rfl
@[simp] theorem setHop_pins (h : Nat) (f) : (s.setHop h f).pins = s.pins := rfl
@[simp] theorem setHop_power (h : Nat) (f) : (s.setHop h f).power = s.power := rfl
@[simp] theorem setHop_ret (h : Nat) (f) : (s.setHop h f).ret = s.ret := rfl
@[simp] theorem setHop_host (h : Nat) (f) : (s.setHop h f).host = s.host := rfl
@[simp] theorem setHop_link (h : Nat) (f) : (s.setHop h f).link = s.link := rfl
@[simp] theorem setHop_intake (h : Nat) (f) : (s.setHop h f).intake = { s.intake with hops := updAt s.intake.hops h f } := rfl
@[simp] theorem setHop_params (h : Nat) (f) : (s.setHop h f).params = s.params := rfl
@[simp] theorem setHop_motion (h : Nat) (f) : (s.setHop h f).motion = s.motion := rfl
@[simp] theorem setHop_cur (h : Nat) (f) : (s.setHop h f).cur = s.cur := rfl
@[simp] theorem setHop_wedge (h : Nat) (f) : (s.setHop h f).wedge = s.wedge := rfl
@[simp] theorem setHop_gate (h : Nat) (f) : (s.setHop h f).gate = s.gate := rfl
@[simp] theorem setHop_follow (h : Nat) (f) : (s.setHop h f).follow = s.follow := rfl
@[simp] theorem setHop_mon (h : Nat) (f) : (s.setHop h f).mon = s.mon := rfl
@[simp] theorem setHop_channels (h : Nat) (f) : (s.setHop h f).channels = s.channels := rfl
@[simp] theorem setHop_cmp (h : Nat) (f) : (s.setHop h f).cmp = s.cmp := rfl
@[simp] theorem setHop_divo (h : Nat) (f) : (s.setHop h f).divo = s.divo := rfl
@[simp] theorem setHop_sensor (h : Nat) (f) : (s.setHop h f).sensor = s.sensor := rfl
@[simp] theorem setHop_plan (h : Nat) (f) : (s.setHop h f).plan = s.plan := rfl
@[simp] theorem setHop_ports (h : Nat) (f) : (s.setHop h f).ports = s.ports := rfl
@[simp] theorem setHop_fab (h : Nat) (f) : (s.setHop h f).fab = s.fab := rfl
@[simp] theorem setHop_iso (h : Nat) (f) : (s.setHop h f).iso = s.iso := rfl
@[simp] theorem setHop_twin (h : Nat) (f) : (s.setHop h f).twin = s.twin := rfl
@[simp] theorem setHop_svc (h : Nat) (f) : (s.setHop h f).svc = s.svc := rfl
@[simp] theorem setHop_faults (h : Nat) (f) : (s.setHop h f).faults = s.faults := rfl
@[simp] theorem setHop_free (h : Nat) (f) : (s.setHop h f).free = s.free := rfl
@[simp] theorem setHop_pending (h : Nat) (f) : (s.setHop h f).pending = s.pending := rfl

@[simp] theorem note_clock (c q : Nat) (x) (b) : (s.note c q x b).clock = s.clock := rfl
@[simp] theorem note_frame (c q : Nat) (x) (b) : (s.note c q x b).frame = s.frame := rfl
@[simp] theorem note_pins (c q : Nat) (x) (b) : (s.note c q x b).pins = s.pins := rfl
@[simp] theorem note_power (c q : Nat) (x) (b) : (s.note c q x b).power = s.power := rfl
@[simp] theorem note_ret (c q : Nat) (x) (b) : (s.note c q x b).ret = s.ret := rfl
@[simp] theorem note_host (c q : Nat) (x) (b) : (s.note c q x b).host = s.host := rfl
@[simp] theorem note_link (c q : Nat) (x) (b) : (s.note c q x b).link = s.link := rfl
@[simp] theorem note_intake (c q : Nat) (x) (b) : (s.note c q x b).intake = s.intake := rfl
@[simp] theorem note_params (c q : Nat) (x) (b) : (s.note c q x b).params = s.params := rfl
@[simp] theorem note_motion (c q : Nat) (x) (b) : (s.note c q x b).motion = s.motion := rfl
@[simp] theorem note_cur (c q : Nat) (x) (b) : (s.note c q x b).cur = s.cur := rfl
@[simp] theorem note_wedge (c q : Nat) (x) (b) : (s.note c q x b).wedge = s.wedge := rfl
@[simp] theorem note_gate (c q : Nat) (x) (b) : (s.note c q x b).gate = s.gate := rfl
@[simp] theorem note_follow (c q : Nat) (x) (b) : (s.note c q x b).follow = s.follow := rfl
@[simp] theorem note_mon (c q : Nat) (x) (b) : (s.note c q x b).mon = s.mon := rfl
@[simp] theorem note_channels (c q : Nat) (x) (b) : (s.note c q x b).channels = s.channels := rfl
@[simp] theorem note_cmp (c q : Nat) (x) (b) : (s.note c q x b).cmp = s.cmp := rfl
@[simp] theorem note_divo (c q : Nat) (x) (b) : (s.note c q x b).divo = s.divo := rfl
@[simp] theorem note_sensor (c q : Nat) (x) (b) : (s.note c q x b).sensor = s.sensor := rfl
@[simp] theorem note_plan (c q : Nat) (x) (b) : (s.note c q x b).plan = s.plan := rfl
@[simp] theorem note_ports (c q : Nat) (x) (b) : (s.note c q x b).ports = s.ports := rfl
@[simp] theorem note_fab (c q : Nat) (x) (b) : (s.note c q x b).fab = s.fab := rfl
@[simp] theorem note_iso (c q : Nat) (x) (b) : (s.note c q x b).iso = s.iso := rfl
@[simp] theorem note_twin (c q : Nat) (x) (b) : (s.note c q x b).twin = s.twin := rfl
@[simp] theorem note_svc (c q : Nat) (x) (b) : (s.note c q x b).svc = s.svc := rfl
@[simp] theorem note_faults (c q : Nat) (x) (b) : (s.note c q x b).faults = { s.faults with raised := s.faults.raised ++ [(c, q, x, b)] } := rfl
@[simp] theorem note_free (c q : Nat) (x) (b) : (s.note c q x b).free = s.free := rfl
@[simp] theorem note_pending (c q : Nat) (x) (b) : (s.note c q x b).pending = s.pending := rfl

@[simp] theorem noteEv_clock (c q : Nat) : (s.noteEv c q).clock = s.clock := rfl
@[simp] theorem noteEv_frame (c q : Nat) : (s.noteEv c q).frame = s.frame := rfl
@[simp] theorem noteEv_pins (c q : Nat) : (s.noteEv c q).pins = s.pins := rfl
@[simp] theorem noteEv_power (c q : Nat) : (s.noteEv c q).power = s.power := rfl
@[simp] theorem noteEv_ret (c q : Nat) : (s.noteEv c q).ret = s.ret := rfl
@[simp] theorem noteEv_host (c q : Nat) : (s.noteEv c q).host = s.host := rfl
@[simp] theorem noteEv_link (c q : Nat) : (s.noteEv c q).link = s.link := rfl
@[simp] theorem noteEv_intake (c q : Nat) : (s.noteEv c q).intake = s.intake := rfl
@[simp] theorem noteEv_params (c q : Nat) : (s.noteEv c q).params = s.params := rfl
@[simp] theorem noteEv_motion (c q : Nat) : (s.noteEv c q).motion = s.motion := rfl
@[simp] theorem noteEv_cur (c q : Nat) : (s.noteEv c q).cur = s.cur := rfl
@[simp] theorem noteEv_wedge (c q : Nat) : (s.noteEv c q).wedge = s.wedge := rfl
@[simp] theorem noteEv_gate (c q : Nat) : (s.noteEv c q).gate = s.gate := rfl
@[simp] theorem noteEv_follow (c q : Nat) : (s.noteEv c q).follow = s.follow := rfl
@[simp] theorem noteEv_mon (c q : Nat) : (s.noteEv c q).mon = s.mon := rfl
@[simp] theorem noteEv_channels (c q : Nat) : (s.noteEv c q).channels = s.channels := rfl
@[simp] theorem noteEv_cmp (c q : Nat) : (s.noteEv c q).cmp = s.cmp := rfl
@[simp] theorem noteEv_divo (c q : Nat) : (s.noteEv c q).divo = s.divo := rfl
@[simp] theorem noteEv_sensor (c q : Nat) : (s.noteEv c q).sensor = s.sensor := rfl
@[simp] theorem noteEv_plan (c q : Nat) : (s.noteEv c q).plan = s.plan := rfl
@[simp] theorem noteEv_ports (c q : Nat) : (s.noteEv c q).ports = s.ports := rfl
@[simp] theorem noteEv_fab (c q : Nat) : (s.noteEv c q).fab = s.fab := rfl
@[simp] theorem noteEv_iso (c q : Nat) : (s.noteEv c q).iso = s.iso := rfl
@[simp] theorem noteEv_twin (c q : Nat) : (s.noteEv c q).twin = s.twin := rfl
@[simp] theorem noteEv_svc (c q : Nat) : (s.noteEv c q).svc = s.svc := rfl
@[simp] theorem noteEv_faults (c q : Nat) : (s.noteEv c q).faults = { s.faults with evNext := s.faults.evNext ++ [(c, q)] } := rfl
@[simp] theorem noteEv_free (c q : Nat) : (s.noteEv c q).free = s.free := rfl
@[simp] theorem noteEv_pending (c q : Nat) : (s.noteEv c q).pending = s.pending := rfl

@[simp] theorem setTest_clock (n : Fin 4) (t) : (s.setTest n t).clock = s.clock := by unfold State.setTest; split <;> rfl
@[simp] theorem setTest_frame (n : Fin 4) (t) : (s.setTest n t).frame = s.frame := by unfold State.setTest; split <;> rfl
@[simp] theorem setTest_pins (n : Fin 4) (t) : (s.setTest n t).pins = s.pins := by unfold State.setTest; split <;> rfl
@[simp] theorem setTest_power (n : Fin 4) (t) : (s.setTest n t).power = s.power := by unfold State.setTest; split <;> rfl
@[simp] theorem setTest_ret (n : Fin 4) (t) : (s.setTest n t).ret = s.ret := by unfold State.setTest; split <;> rfl
@[simp] theorem setTest_host (n : Fin 4) (t) : (s.setTest n t).host = s.host := by unfold State.setTest; split <;> rfl
@[simp] theorem setTest_link (n : Fin 4) (t) : (s.setTest n t).link = s.link := by unfold State.setTest; split <;> rfl
@[simp] theorem setTest_intake (n : Fin 4) (t) : (s.setTest n t).intake = s.intake := by unfold State.setTest; split <;> rfl
@[simp] theorem setTest_params (n : Fin 4) (t) : (s.setTest n t).params = s.params := by unfold State.setTest; split <;> rfl
@[simp] theorem setTest_motion (n : Fin 4) (t) : (s.setTest n t).motion = s.motion := by unfold State.setTest; split <;> rfl
@[simp] theorem setTest_cur (n : Fin 4) (t) : (s.setTest n t).cur = s.cur := by unfold State.setTest; split <;> rfl
@[simp] theorem setTest_wedge (n : Fin 4) (t) : (s.setTest n t).wedge = s.wedge := by unfold State.setTest; split <;> rfl
@[simp] theorem setTest_follow (n : Fin 4) (t) : (s.setTest n t).follow = s.follow := by unfold State.setTest; split <;> rfl
@[simp] theorem setTest_channels (n : Fin 4) (t) : (s.setTest n t).channels = s.channels := by unfold State.setTest; split <;> rfl
@[simp] theorem setTest_cmp (n : Fin 4) (t) : (s.setTest n t).cmp = s.cmp := by unfold State.setTest; split <;> rfl
@[simp] theorem setTest_divo (n : Fin 4) (t) : (s.setTest n t).divo = s.divo := by unfold State.setTest; split <;> rfl
@[simp] theorem setTest_sensor (n : Fin 4) (t) : (s.setTest n t).sensor = s.sensor := by unfold State.setTest; split <;> rfl
@[simp] theorem setTest_plan (n : Fin 4) (t) : (s.setTest n t).plan = s.plan := by unfold State.setTest; split <;> rfl
@[simp] theorem setTest_ports (n : Fin 4) (t) : (s.setTest n t).ports = s.ports := by unfold State.setTest; split <;> rfl
@[simp] theorem setTest_fab (n : Fin 4) (t) : (s.setTest n t).fab = s.fab := by unfold State.setTest; split <;> rfl
@[simp] theorem setTest_iso (n : Fin 4) (t) : (s.setTest n t).iso = s.iso := by unfold State.setTest; split <;> rfl
@[simp] theorem setTest_twin (n : Fin 4) (t) : (s.setTest n t).twin = s.twin := by unfold State.setTest; split <;> rfl
@[simp] theorem setTest_svc (n : Fin 4) (t) : (s.setTest n t).svc = s.svc := by unfold State.setTest; split <;> rfl
@[simp] theorem setTest_faults (n : Fin 4) (t) : (s.setTest n t).faults = s.faults := by unfold State.setTest; split <;> rfl
@[simp] theorem setTest_free (n : Fin 4) (t) : (s.setTest n t).free = s.free := by unfold State.setTest; split <;> rfl
@[simp] theorem setTest_pending (n : Fin 4) (t) : (s.setTest n t).pending = s.pending := by unfold State.setTest; split <;> rfl
@[simp] theorem setTest_tests (n : Fin 4) (t) : (s.setTest n t).mon.tests = s.mon.tests.set n t := by
  unfold State.setTest; split <;> rfl

@[simp] theorem fresh_snd : s.fresh.2 = { s with free := s.free + 1 } := rfl

/-- The stage and the latch of a domain that is set. -/
@[simp] theorem setDom_dom (d : Domain) (f) : (s.setDom d f).dom d = f (s.dom d) := by cases d <;> rfl

@[simp] theorem setSeq_axSt (n : Fin 4) (f) : (s.setSeq n f).axSt n = f (s.axSt n) := by simp [State.axSt]
@[simp] theorem setSeq_seq (n : Fin 4) (f) : (s.setSeq n f).seq n = (f (s.axSt n)).seq := by simp [State.seq, State.axSt]

end Sys2Proof.Machine
end

