-- ==== Sys2Proof/Certificates/Slice0/Obligations.lean ====
section
/-! DEFINITION. The statements for the provers. A completion statement says where each of its commands runs to a next state and what
that state holds. Qualifiers and status bytes that the manual does not state are free in the model (log entries 2 and 15): a statement
about a record that carries one says that there is some such value. -/

open Sys2Proof Sys2Proof.Machine

/-- The crystal and its PLLs: lockstep, loss, restore, end of the settling window, lock timeouts, lock losses and relocks (R19 to R25,
R31); the LF trim, SYNC, the frame reference, standstill recalibration and the end of a calibration window (R18, R26, R33, R34, R37, R76). In part on log entry 25. -/
def Obligations.ClockComplete : Prop :=
  (∀ s : State, s.sysAwake = true →
    Answers .lockstepMismatch s (fun t => t.faults.safeDue = some 0x1202 ∧ (∃ q, t.faults.raised = s.faults.raised ++ [(0x1202, q, 0, false)]) ∧
      t.twin.acto = false ∧ (∀ n : Fin 4, (t.gate.get n).hwOff = true ∧ (t.mon.brakes.get n).on = false ∧
        ∀ b : Fin 4, t.bridge n b = (s.bridge n b).allOff s.frame.tickBase (s.ps n 0x11)))) ∧
  (∀ s : State, s.sysAwake = true → s.clock.crystal = .good →
    Answers .crystalLoss s (fun t => t.clock.crystal = .lost ∧ t.clock.onRc = true ∧ t.clock.pllc = .stopped ∧ t.clock.pllt = .stopped ∧
      t.clock.qual = 0 ∧ t.clock.lostAt = s.frame.counter ∧
      ∃ q, t.faults.raised = s.faults.raised ++ [(0x1401, q, 0, true)])) ∧
  (∀ (devs : List Nat) (s : State), s.frame.running = true → s.clock.crystal ≠ .good → s.clock.onRc = true → s.allAtRest = true → s.clock.retryAt = none →
      s.par 0x0031 ≤ s.bandRun devs →
    Answers (.crystalRestore devs) s (fun t => t.clock.crystal = .good ∧ t.clock.onRc = false ∧ t.clock.settle = some s.frame.counter ∧
      t.clock.restored = some s.frame.counter ∧ t.clock.pllm = .seeking ∧
      t.clock.pllc = (if s.domReady .net then .seeking else .stopped) ∧ t.frame = s.frame)) ∧
  (∀ (devs : List Nat) (s : State), s.frame.running = true → s.clock.crystal ≠ .good → s.clock.onRc = true → s.clock.retryAt = none →
      s.bandRun devs < s.par 0x0031 →
    exec (.crystalRestore devs) s = .next { s with clock := { s.clock with crystal := .lost, qual := s.bandRun devs } }) ∧
  (∀ (d : BitVec 32) (s : State), s.clock.settle = some d → s.frame.running = true → s.since d ≤ 10 →
    ∃ u : State, exec .clockSettlingEnd s = .next u.settle ∧ u.clock.settle = none ∧ u.clock.pllm = .locked ∧ u.clock.listen = false ∧
      (s.clock.pllc = .seeking → u.clock.pllc = .locked)) ∧
  (∀ (d : BitVec 32) (s : State), s.frame.running = true → s.clock.restored = some d → s.clock.pllc = .seeking → 10 ≤ s.since d →
    Answers (.pllLockTimeout 1) s (fun t => t.clock.crystal = .lost ∧ t.clock.pllc = .stopped ∧ t.clock.pllt = .stopped ∧
      t.clock.retryAt = some (s.frame.counter + BitVec.ofNat 32 (20 * s.par 0x0031)) ∧ t.faultActive 0x1403 = true)) ∧
  (∀ s : State, s.sysAwake = true → s.clock.pllm = .locked →
    Answers (.pllLockLoss 0) s (fun t => t.clock.pllm = .seeking ∧ t.clock.halted = true ∧ t.frame.running = false ∧
      t.faults.device = true ∧ ∀ n : Fin 4, (t.gate.get n).hwOff = true ∧ (t.mon.brakes.get n).on = false)) ∧
  (∀ s : State, s.sysAwake = true → s.clock.pllc = .locked → s.clock.crystal = .good →
    Answers (.pllLockLoss 1) s (fun t => t.clock.pllc = .seeking ∧ (∃ q, t.faults.raised = s.faults.raised ++ [(0x1403, q, 0, true)]) ∧
      ∀ p : Fin 2, (s.ports.get p).sync = .synced → (t.ports.get p).sync = .holdover)) ∧
  (∀ s : State, s.sysAwake = true → s.clock.pllt = .locked → s.clock.crystal = .good →
    Answers (.pllLockLoss 2) s (fun t => t.clock.pllt = .seeking ∧ t.twin.link = .down ∧
      ∃ q, t.faults.raised = s.faults.raised ++ [(0x1404, q, 0, true)])) ∧
  (∀ (us held periods : Nat) (s : State), s.clock.halted = true → s.clock.dead = false → us - held ≤ 10000 → 100 ≤ held →
    Answers (.pllRelock 0 us held periods) s (fun t => t.clock.pllm = .locked ∧ t.clock.halted = false ∧ t.frame.running = s.domReady .sys ∧
      t.frame.counter = s.frame.counter + BitVec.ofNat 32 (framesOf periods))) ∧
  (∀ (us held periods : Nat) (s : State), s.clock.halted = true → s.clock.dead = false → 10000 < us - held →
    exec (.pllRelock 0 us held periods) s = .next { s with clock := { s.clock with dead := true } }) ∧
  (∀ (us held periods : Nat) (s : State), s.clock.pllc = .seeking → s.clock.settle = none → s.clock.crystal = .good → 50 ≤ held →
    Answers (.pllRelock 1 us held periods) s (fun t => t.clock = { s.clock with pllc := .locked } ∧ t.frame = s.frame)) ∧
  (∀ (us held periods : Nat) (s : State), s.clock.pllt = .seeking → s.clock.crystal = .good →
    Answers (.pllRelock 2 us held periods) s (fun t => t.clock.pllt = .locked ∧ (s.unitOn 8 = true → s.twin.link = .down → t.twin.link = .training))) ∧
  (∀ (dev : Int) (s : State), s.frame.running = true → s.clock.crystal = .good → 150 < dev.natAbs →
    Answers (.lfTrim dev) s (fun t => t.clock = { s.clock with lfDev := dev } ∧ ∃ q, t.faults.raised = s.faults.raised ++ [(0x1405, q, 0, true)])) ∧
  (∀ (dev : Int) (s : State), s.frame.running = true → s.clock.crystal = .good → dev.natAbs ≤ 150 →
    Answers (.lfTrim dev) s (fun t => t.clock = { s.clock with lfDev := dev } ∧ t.faults.raised.length = s.faults.raised.length)) ∧
  (∀ (off : Nat) (s : State), s.frame.running = true → s.par 0x0010 = 2 → (∀ p, s.frame.syncLast = some p → p + 9000 ≤ s.tickAt off) →
    exec (.syncEdge off true) s = .next { s with
      pins := { s.pins with sync := true }
      frame := { s.frame with syncLast := some (s.tickAt off), syncLost := false, syncTrim := syncTrim (s.par 0x0012) (if off ≤ 5000 then off else (off : Int) - 10000) } }) ∧
  (∀ (top : Nat) (phase : Int), (syncTrim top phase).natAbs ≤ top ∧ (syncTrim top phase).natAbs ≤ phase.natAbs ∧ 0 ≤ phase * syncTrim top phase ∧
    (top ≤ phase.natAbs → (syncTrim top phase).natAbs = top)) ∧
  (∀ (off p : Nat) (s : State), s.frame.running = true → s.par 0x0010 = 2 → s.frame.syncLast = some p → s.tickAt off < p + 9000 →
    Answers (.syncEdge off true) s (fun t => t.frame = { s.frame with syncRej := true } ∧ t.clock = s.clock ∧
      t.pins = (({ s with pins := { s.pins with sync := true } } : State).bumpReject 192).pins)) ∧
  (∀ (off : Nat) (s : State), s.frame.running = true →
    exec (.syncEdge off false) s = .next { s with pins := { s.pins with sync := false } }) ∧
  (∀ (off : Nat) (s : State), s.frame.running = true → s.par 0x0010 = 2 → s.frame.syncLost = false →
      (∀ p, s.frame.syncLast = some p → p + 200000 ≤ s.tickAt off) →
    Answers (.syncReferenceLoss off) s (fun t => t.frame = { s.frame with syncLost := true, trim := 0, syncTrim := 0 } ∧
      ∃ q, t.faults.events.getLast? = some (0x1202, q, s.frame.counter))) ∧
  (∀ s : State, s.frame.running = true → s.frame.trimHeld = 20 →
    Answers .frameTrimLimit s (fun t => t.frame = { s.frame with trimHeld := 21 } ∧
      ∃ q, t.faults.events.getLast? = some (0x1201, q, s.frame.counter))) ∧
  (∀ (n : Fin 4) (s : State), s.frame.running = true → s.axReady n = true → (s.axSt n).calEnd = none → (s.motion.get n).still = true →
    s.par 0x0022 ≤ (s.motion.get n).stillF → s.par 0x0021 ≠ 0 → 20000 * s.par 0x0021 ≤ s.since (s.axSt n).calLast → s.unstarted n = false →
      s.toAct n = false → ¬ (s.ax n 0x16 = 0 ∧ s.ax n 0x1C = 0) →
    exec (.standstillRecalStart n) s =
      .next (((s.setSeq n (fun a => { a with calEnd := some (s.frame.counter + 2), recal := true })).takeAmp n 0).enterHold n .recal)) ∧
  (∀ (n : Fin 4) (e : BitVec 32) (s : State), (s.axSt n).calEnd = some e → s.ahead e ≤ 1 →
    exec (.calibrationEnd n) s = .next s.settle)

/-- Supply up and down, RESETN, brown-out and wake: what each leaves (R71, R75, R82, R84, R87, R110). In part on log entry 23. -/
def Obligations.PowerCycleComplete : Prop :=
  (∀ (vbat : Nat) (s : State), s.powered = false → 3500 < vbat →
    Answers (.powerOn vbat) s (fun t => t.power.aon = { stage := if s.pins.inReset then .down else .up 1, latched := some true } ∧
      t.power.sys.latched = some true ∧ t.power.ana.latched = some true ∧ t.power.aux.latched = some true ∧
      t.power.change = some .idle ∧ t.ret = s.ret ∧ t.host.rstCause = 1)) ∧
  (∀ (vbat : Nat) (s : State), vbat < 3000 →
    Answers (.powerOff vbat) s (fun t => t.ret = {} ∧ t.power = {} ∧ t.frame = {} ∧ t.params.copyA = s.params.copyA ∧
      t.params.copyB = s.params.copyB)) ∧
  (∀ s : State, s.pins.inReset = false →
    Answers .reset s (fun t => t.pins.inReset = true ∧ t.power.dev = .off ∧ t.ret = s.ret ∧ t.frame = {} ∧
      t.motion = Quad.all {} ∧ t.params.copyA = s.params.copyA ∧ t.params.copyB = s.params.copyB ∧ t.host.rstCause = 2)) ∧
  (∀ (tsten roleUp roleDown : Bool) (s : State), s.pins.inReset = true → s.powered = true →
    Answers (.resetRelease tsten roleUp roleDown) s (fun t => t.pins.inReset = false ∧ t.pins.testHeld = tsten ∧
      t.pins.role = (if roleUp != roleDown then .floating else if roleUp then .b else .a) ∧ t.power.aon.stage = .up 1 ∧
      t.power.change = some .idle)) ∧
  (∀ (vbat us : Nat) (s : State), (s.power.dev = .idle ∨ s.power.dev = .run ∨ s.power.dev = .standby) → vbat < 4500 → 5 ≤ us →
    Answers (.brownOut vbat us) s (fun t => t.power.dev = .sleep ∧ t.power.brownOut = true ∧ t.power.sys = {} ∧ t.power.ana = {} ∧
      t.power.aux = {} ∧ t.power.axes = Quad.all {} ∧ t.frame = {} ∧ t.ret.records.getLast? = some (0x1308, 0))) ∧
  (∀ (src : Fin 9) (periods us vbat : Nat) (level : Bool) (s : State), s.power.change = none → s.power.dev = .standby →
    s.wakeEnabled src.val .standby = true → (src ≠ 0 ∨ level = true) →
    s.wakeMet src.val (50 * s.power.timerRan + 125 * periods / 4) us vbat = true →
    Answers (.wakeSource src periods us vbat level) s (fun t => t.frame.running = true ∧ t.power.dev = .idle ∧
      t.frame.counter = s.frame.counter + BitVec.ofNat 32 (framesOf periods) ∧
      t.frame.index = (s.frame.superframe.toNat * 20 + s.frame.index + framesOf periods) % 20)) ∧
  (∀ (src : Fin 9) (periods us vbat : Nat) (level : Bool) (s : State), s.power.change = none → s.power.dev = .sleep →
    s.wakeEnabled src.val .sleep = true → (src ≠ 0 ∨ level = true) →
    s.wakeMet src.val (50 * s.power.timerRan + 125 * periods / 4) us vbat = true →
    Answers (.wakeSource src periods us vbat level) s (fun t => t.power.sys.stage = .up 1 ∧ t.power.change = some .idle ∧
      t.power.wakeRun = some src.val ∧ t.power.wakeGone = framesOf periods))

/-- Supply events: the state bits they set and the fault or event that they note for the next frame (R100 to R105, R107 to R111). -/
def Obligations.SupplyComplete : Prop :=
  (∀ (vm us : Nat) (s : State), s.power.vmUv = false → vm < 6000 → 5 ≤ us → s.domReady .sys = true →
    ∃ u, exec (.vmUndervoltage vm us) s = .next (State.settle u) ∧ ∃ q, u.faults.raised.getLast? = some (0x1306, q, 0, true)) ∧
  (∀ (vm sf : Nat) (s : State), s.power.vmUv = true → 6500 < vm → 1 ≤ sf → s.domReady .sys = true → s.domReady .aux = true →
    Answers (.vmRestored vm sf) s (fun t => t.power.vmUv = false ∧ t.power.vm = vm ∧ t.power.aux = { stage := .up 1, stepAt := s.frame.counter } ∧
      ∃ q, t.faults.evNext.getLast? = some (0x1306, q))) ∧
  (∀ (vm : Nat) (s : State), s.power.vmOv = false → s.par 0x005A < vm → s.domReady .sys = true →
    ∃ u, exec (.vmOvervoltage vm) s = .next (State.settle u) ∧ ∃ q, u.faults.raised.getLast? = some (0x1307, q, 0, true)) ∧
  (∀ (vm us : Nat) (s : State), s.power.vmOv = true → vm < s.par 0x005A - s.par 0x0059 → 50 ≤ us →
    Answers (.vmOvervoltageRelease vm us) s (fun t => t.power = { s.power with vmOv := false, vm := vm } ∧
      ∀ e ∈ t.faults.active, e.code = 0x1307 → e.acts = s.frame.counter + 1)) ∧
  (∀ (vm off : Nat) (s : State), s.domReady .aux = true → s.par 0x005D = 1 → s.power.brkg = false → s.power.brkLock = false →
    s.par 0x0058 < vm →
    Answers (.brakeChopperSwitch vm off) s (fun t => t.power = { s.power with brkg := true, vm := vm, brkOnAt := s.tickAt off, brkOnVm := vm })) ∧
  (∀ (vm off : Nat) (s : State), s.domReady .aux = true → s.power.brkg = true → vm < s.par 0x0058 - s.par 0x0059 →
    exec (.brakeChopperSwitch vm off) s = .next { s with power := { (s.power.brkgOff (s.tickAt off)) with vm := vm } }) ∧
  (∀ (off : Nat) (s : State), s.power.brkg = true →
      (200000 * s.par 0x005B ≤ s.tickAt off - s.power.brkOnAt ∨ s.par 0x005C * secondTicks < 100 * s.power.brkOnTime (s.tickAt off)) →
    Answers (.brakeChopperLimit off) s (fun t => t.power = { (s.power.brkgOff (s.tickAt off)) with brkLock := true } ∧
      ∃ q, t.faults.raised = s.faults.raised ++ [(0x130B, q, 0, false)])) ∧
  (∀ (vm off : Nat) (s : State), s.power.brkg = true → 400000 ≤ s.tickAt off - s.power.brkOnAt → s.power.brkOnVm < vm + 500 →
    Answers (.brakeDumpIneffective vm off) s (fun t => t.power = { s.power with vm := vm } ∧
      ∃ q, t.faults.raised = s.faults.raised ++ [(0x130E, q, 0, false)])) ∧
  (∀ (mv us : Nat) (s : State), (mv < 9000 ∨ 13000 < mv) → s.power.vgdLow = false → s.power.vgdHigh = false → 5 ≤ us → axes4.any (fun n => s.pastStep1 n) = true →
    ∃ u, exec (.vgdOutOfWindow mv us) s = .next (State.settle u) ∧ ∃ q, u.faults.raised.getLast? = some (0x130A, q, 0, true)) ∧
  (∀ (mv us : Nat) (s : State), 10000 ≤ mv → mv ≤ 12500 →
    Answers (.vgdOutOfWindow mv us) s (fun t => t.power = { s.power with vgdLow := false, vgdHigh := false, vgd := mv })) ∧
  (∀ (mv us : Nat) (s : State), 9000 ≤ mv → mv < 10000 → s.power.vgdLow = true → s.power.vgdHigh = false →
    Answers (.vgdOutOfWindow mv us) s (fun t => t.power = { s.power with vgd := mv })) ∧
  (∀ (which : Fin 4) (mv us : Nat) (s : State), (mv < (supplyLimits which).1.1 ∨ (supplyLimits which).2.1 < mv) →
      s.power.supLow.getLsbD which.val = false → s.power.supHigh.getLsbD which.val = false → s.domReady .sys = true → 5 ≤ us →
    Answers (.supplyWindowFault which mv us) s (fun t =>
      t.power = { s.power with supLow := t.power.supLow, supHigh := t.power.supHigh, vbat := if which = 0 then mv else s.power.vbat } ∧
      (∀ j : Fin 4, t.power.supLow.getLsbD j.val = (if j = which then decide (mv < (supplyLimits which).1.1) else s.power.supLow.getLsbD j.val) ∧
        t.power.supHigh.getLsbD j.val = (if j = which then decide ((supplyLimits which).2.1 < mv) else s.power.supHigh.getLsbD j.val)) ∧
      ∃ q, t.faults.raised = s.faults.raised ++ [(if which = 0 then 0x1309 else 0x130D, q, 0, true)])) ∧
  (∀ (rbs vbat us : Nat) (s : State), s.domReady .aon = true → s.pins.testHeld = false → 4000 ≤ rbs → vbat + 30 ≤ rbs → 10 ≤ us →
    exec (.reverseFetOn rbs vbat us) s =
      .next { s with power := { s.power with rbg := true, rbs := rbs, rbcp := rbs + 10000, vbat := vbat } }) ∧
  (∀ (rbs vbat : Nat) (s : State), s.power.rbg = true → (rbs + s.aonVal 0x005E < vbat ∨ rbs < 3000) →
    Answers (.reverseFetOff rbs vbat) s (fun t => t.power = { s.power with rbg := false, rbs := rbs, vbat := vbat, rbcp := if s.domReady .aon then rbs + 10000 else s.power.rbcp } ∧
      ∃ q, t.faults.evNext = s.faults.evNext ++ [(0x1303, q)])) ∧
  (∀ (rbs vbat rbcp sf : Nat) (s : State), s.power.rbg = true → s.domReady .sys = true → 1 ≤ sf → (vbat + 300 < rbs ∨ rbcp < rbs + 7000) →
    Answers (.reverseFetNotEnhanced rbs vbat rbcp sf) s (fun t => t.power = { s.power with rbs := rbs, rbcp := rbcp, vbat := vbat } ∧
      ∃ q, t.faults.raised = s.faults.raised ++ [(0x130C, q, 0, false)]))

/-- Checkpoints and timeouts of the domains and the start of an axis's up sequence (R89, R90, R92, R96); POWER_STATE records the change
with its wake mask and time (R86 to R88). In part on log entry 23. -/
def Obligations.SequencerComplete : Prop :=
  (∀ (k : Nat) (vals : List Int) (s : State), s.pins.inReset = false → s.power.ana.stage = .up k → 2 ≤ k → k < 4 → s.power.ana.latched = none → (s.power.wakeLatched = none ∨ s.domReady .sys = true) →
      1 ≤ s.since s.power.ana.stepAt →
    ∃ u : State, exec (.checkpointReached (.dom .ana) vals) s = .next (State.settle (State.settleDoms (State.changeStep u))) ∧
      u.power.ana = { stage := .up (k + 1), stepAt := s.frame.counter }) ∧
  (∀ (vals : List Int) (s : State), s.pins.inReset = false → s.power.ana.stage = .up 4 → s.power.ana.latched = none → (s.power.wakeLatched = none ∨ s.domReady .sys = true) →
      1 ≤ s.since s.power.ana.stepAt →
    ∃ u : State, exec (.checkpointReached (.dom .ana) vals) s = .next (State.settle (State.settleDoms (State.changeStep u))) ∧
      u.power.ana = { stage := .ready, stepAt := s.frame.counter }) ∧
  (∀ (us : Nat) (s : State), s.stepOverdue .net us = true → s.pins.inReset = false →
    ∃ u, exec (.checkpointTimeout (.dom .net) us) s = .next (State.settle u) ∧ u.power.net.stage = .failed) ∧
  (∀ (us : Nat) (s : State), s.stepOverdue .sys us = true → s.pins.inReset = false → s.svc.trial = false → 3 ≤ s.power.sysTries →
    Answers (.checkpointTimeout (.dom .sys) us) s (fun t => t.power.sys.stage = .failed ∧ t.power.sysHeld = true)) ∧
  (∀ (n : Fin 4) (s : State), axes4.find? (fun k => s.seq k == .waiting) = some n → s.mayBegin n = true → 1 ≤ s.since (s.axSt n).stepAt →
    Answers (.axisUpStart n) s (fun t => t.seq n = .up 1 ∧ t.power.keyAt = none ∧
      t.power.lastUp.get n = some s.frame.counter ∧ ∀ m, m ≠ n → t.seq m = s.seq m)) ∧
  Starts powerStateSpec .powerState (fun h b u => u = { b with power := { b.power with
    change := some (if b.p8 h 0 = 1 then .standby else .sleep), wakeMask := BitVec.ofNat 8 (b.p8 h 1), wakeTime := b.p32 h 4, timerAt := b.frame.counter, wakeLatched := none } })

/-- SEAL, PRES, the presence window and the tamper loop (R72, R73, R563, R566, R567). -/
def Obligations.PinComplete : Prop :=
  (∀ (high : Bool) (s : State), s.pins.sealed = none → exec (.sealChange high) s = .next { s with pins := { s.pins with sealPin := high } }) ∧
  (∀ (high : Bool) (s : State), s.pins.sealed.isSome = true → s.pins.sealPin ≠ high → s.aonWatches = true → s.frame.running = true →
    Answers (.sealChange high) s (fun t => t.pins = { s.pins with sealPin := high } ∧
      ∃ q, t.faults.events.getLast? = some (0x0001, q, s.frame.counter))) ∧
  (∀ s : State, s.aonWatches = true → s.pins.presLow = false → s.pins.presStuck = false → s.frame.running = true → s.domReady .sys = true →
    Answers .presPress s (fun t => t.pins.presLow = true ∧ t.svc = { s.svc with window := some (1000 * s.par 0x9000), winLen := 1000 * s.par 0x9000 } ∧
      t.faults.events.getLast? = some (0x0901, if s.svc.window.isSome then 1 else 0, s.frame.counter))) ∧
  (∀ (sec : Nat) (s : State), s.aonWatches = true → s.pins.presLow = true → s.pins.presStuck = false → s.aonVal 0x0044 ≤ sec → s.frame.running = true →
    Answers (.presStuck sec) s (fun t => t.pins = { s.pins with presStuck := true } ∧ t.svc = s.svc ∧
      ∃ q, t.faults.events.getLast? = some (0x0002, q, s.frame.counter))) ∧
  (∀ s : State, s.aonWatches = true →
    exec .presReleased s = .next { s with pins := { s.pins with presLow := false, presStuck := false } }) ∧
  (∀ (ms : Nat) (s : State), s.aonWatches = true → s.svc.window.isSome = true → s.svc.winLen ≤ ms → s.frame.running = true →
    Answers (.presenceWindowExpiry ms) s (fun t => t.svc = { s.svc with window := none } ∧
      t.faults.events.getLast? = some (0x0902, 0, s.frame.counter))) ∧
  (∀ (pulse gap : Bool × Bool) (s : State), s.loopWatched = true → loopBroken pulse gap = true → s.svc.tamper = false →
    Answers (.tamperLoopBroken pulse gap) s (fun t => t.svc.tamper = true ∧ t.svc.debug = false ∧ t.svc.window = none ∧
      t.svc.tamperAt = (if s.frame.running then s.frame.superframe else s.ret.sframes) ∧ t.svc.tamperN = min 0xFFFF (s.svc.tamperN + 1) ∧
      (s.domReady .sys = true → ∃ q, t.faults.raised = s.faults.raised ++ [(0x0901, q, 0, true)]))) ∧
  (∀ (pulse gap : Bool × Bool) (s : State), s.loopWatched = true → loopBroken pulse gap = true → s.svc.tamper = true →
    exec (.tamperLoopBroken pulse gap) s = .next { s with svc := { s.svc with loopOk := 0 } }) ∧
  (∀ (pulse gap : Bool × Bool) (s : State), loopBroken pulse gap = false → exec (.tamperLoopBroken pulse gap) s = .next s)

/-- Operations of single registers of Table HOST-6, DBELL among them: what each writes (R127, R129, R136, R138, R149, R150). -/
def Obligations.HostRegisterComplete : Prop :=
  (∀ s : State,
  (∀ v, exec (.hdoneClear v) s = .next { s with host := { s.host with hdone := s.host.hdone &&& ~~~ v } }) ∧
  (∀ v, exec (.dbrejClear v) s = .next { s with host := { s.host with dbrej := s.host.dbrej &&& ~~~ v } }) ∧
  (∀ v, exec (.attsrcClear v) s = .next { s with host := { s.host with herr := s.host.herr && !v.getLsbD 5
                                                                       wakeAtt := s.host.wakeAtt && !v.getLsbD 6 } }) ∧
  (∀ v, exec (.strstatClear v) s = .next { s with host := { s.host with
      strBrto := s.host.strBrto && !v.getLsbD 13, strBrdone := s.host.strBrdone && !v.getLsbD 14
      strOver := s.host.strOver && !v.getLsbD 15, strEarlyF := s.host.strEarlyF && !v.getLsbD 16 } }) ∧
  exec .strearlyClear s = .next { s with host := { s.host with strEarly := 0 } } ∧
  exec .crcerrClear s = .next { s with host := { s.host with crcErr := 0 } } ∧
  exec .abortwhyClear s = .next { s with host := { s.host with abortWhy := 0 } } ∧
  exec .rundrClear s = .next { s with host := { s.host with rundr := 0 } } ∧
  Answers .abortcntClear s (fun t => t.rejects 165 = 0 ∧ (∀ p, p ≠ 165 → t.rejects p = s.rejects p) ∧
    t = { s with pins := { s.pins with rejects := t.pins.rejects } }) ∧
  (∀ v, exec (.crcctlSet v) s = .next { s with host := { s.host with crcReq := s.host.crcReq || v.getLsbD 0 } }) ∧
  (∀ v, exec (.cmdqWrite v) s = .next { s with host := { s.host with cmdq := v.getLsbD 0 } }) ∧
  (∀ v, s.link.wdFired = false → exec (.hwdog v) s = .next { s with link := { s.link with wdFired := false, wdAt := s.frame.counter, wdArmed := s.link.wdArmed || s.par 0x0062 != 0 } }) ∧
  (∀ v, s.link.wdFired = true → Answers (.hwdog v) s (fun t => t.link = { s.link with wdFired := false, wdAt := s.frame.counter, wdArmed := s.link.wdArmed || s.par 0x0062 != 0 } ∧
    t.faults.events.getLast? = some (0x1001, 0, s.frame.counter))) ∧
  (∀ v, ∃ t, exec (.dbell v) s = .next t ∧ t.host.hown = s.host.hown ||| v ∧ t.host.dbrej = s.host.dbrej ||| (v &&& s.host.hown)) ∧
  (∀ us, s.link.wdArmed = true → s.par 0x0062 ≠ 0 → s.link.wdFired = false → 1000 * s.par 0x0062 ≤ us →
      us ≤ 50 * ((s.frame.counter - s.link.wdAt).toNat + 1) →
    exec (.hostWatchdogExpiry us) s = .next { s with link := { s.link with wdFired := true }
                                                     faults := { s.faults with raised := s.faults.raised ++ [(0x1001, 0, 0, true)] } }))

/-- A doorbell hands over each named slot that the host owns and refuses each that the device owns (R150). -/
def Obligations.DoorbellHandsOver : Prop :=
  (∀ (v : BitVec 16) (s : State), Answers (.dbell v) s (fun t =>
    t.host.hown = s.host.hown ||| v ∧ t.host.hdone = s.host.hdone &&& ~~~ (v &&& ~~~ s.host.hown) ∧
    t.host.dbrej = s.host.dbrej ||| (v &&& s.host.hown) ∧
    (s.intake.hops.length = 32 → ∀ k < 16, v.getLsbD k = true → s.host.hown.getLsbD k = false → t.stage k = .rung) ∧
    (∀ k, (v &&& ~~~ s.host.hown).getLsbD k = false → t.hop k = s.hop k) ∧
    (∀ k, v = BitVec.ofNat 16 (2 ^ k) → k < 16 → s.host.hown.getLsbD k = true → s.intake.rejSeen = false →
      t.faults.evNext.getLast? = some (0x1101, k))))

/-- CS0 frames: a write frame with no cause of R129 waits to be applied; a frame with a cause is aborted, counted and changes no
memory; a read samples the addressed bytes; MODE_RESET and the SCK timeout (R116, R119, R120, R126 to R132). An applied write of hopper or
bulk bytes takes effect as one update: the written bytes, and no other byte (R130). The queue of accepted writes is the model's (log entry 28). -/
def Obligations.HostFrameComplete : Prop :=
  (∀ (w : SckFrame) (f : HostFrame) (s : State), f = s.hostFrame w → s.rdy = true → f.isRead = false → abortCause s f false = 0 →
    Answers (.hostWriteFrame w) s (fun t => t.link.writes = s.link.writes ++ [{ addr := hfAddr f, data := hfData f }] ∧
      t.link.prevAbort = false ∧ t.link.prevWrite = false ∧ (s.host.cmdq = false → t.link.fstat = s.fstatNow) ∧
      t.host = { s.host with mode3 := f.fall.sckHigh } ∧ s.only [.link, .host] t)) ∧
  (∀ (w : SckFrame) (f : HostFrame) (s : State), f = s.hostFrame w → s.rdy = true → f.isRead = false → abortCause s f false ≠ 0 →
    Answers (.hostWriteFrame w) s (fun t => t.link.writes = s.link.writes ∧ t.link.prevAbort = true ∧ t.host.herr = true ∧
      t.host.abortWhy = abortCause s f false ∧ t.rejects 165 = min 0xFFFF (s.rejects 165 + 1) ∧ s.only [.link, .host, .pins, .faults, .fab] t)) ∧
  (∀ (w : SckFrame) (f : HostFrame) (s : State), f = s.hostFrame w → s.rdy = true → f.isRead = true → f.isReset = false → abortCause s f false = 0 → f.crc = false → f.late = [] →
    Answers (.hostReadFrame w) s (fun t => t.link.rdData = (List.range (hfClocked f)).map (fun i => (s.selFall f.fall).hostByte (hfAddr f + i)) ∧
      t.link.rdCrc = none ∧ t.link.prevAbort = false ∧ t.host = { s.host with mode3 := f.fall.sckHigh } ∧ s.only [.link, .host] t)) ∧
  (∀ (w : SckFrame) (f : HostFrame) (s : State), f = s.hostFrame w → s.rdy = true → f.isRead = true → 3 ≤ abortCause s f false →
    Answers (.hostReadFrame w) s (fun t => t.link.rdData = List.replicate (hfClocked f) 0 ∧ t.host.herr = true ∧
      t.host.abortWhy = abortCause s f false ∧ t.link.prevAbort = true ∧ s.only [.link, .host, .pins, .faults, .fab] t)) ∧
  (∀ (w : SelFall) (s : State), s.rdy = true → w.rdy = true → w.other = false →
    Answers (.modeReset w) s (fun t => t.host = { s.host with cmdq := false, mode3 := w.sckHigh } ∧ t.link.prevAbort = false ∧
      t.link.writes = s.link.writes ∧ s.only [.link, .host] t)) ∧
  (∀ (w : SckFrame) (f : HostFrame) (s : State), f = s.hostFrame w → s.rdy = true → 3 ≤ abortCause s f true → (f.isRead = false ∨ s.cmdUnknown f = true) →
    Answers (.hostSckTimeout w) s (fun t => t.host.abortWhy = abortCause s f true ∧ t.host.herr = true ∧
      t.link.writes = s.link.writes ∧ t.link.prevAbort = true)) ∧
  (∀ (w : HostWrite) (r : List HostWrite) (s : State), s.link.writes = w :: r → 0x0800 ≤ w.addr → w.addr + w.data.length ≤ 0x1000 → cellWf s.intake.slots = true →
    Answers .writeApplied s (fun t => t.link = { s.link with writes := r, prevWrite := !s.link.prevAbort } ∧ s.only [.link, .intake] t ∧
      t.intake.bulk = s.intake.bulk ∧ t.intake.hops = s.intake.hops ∧
      (∀ i < w.data.length, cellGet t.intake.slots (w.addr - 0x0800 + i) = w.data.getD i 0) ∧
      ∀ a, (a < w.addr - 0x0800 ∨ w.addr - 0x0800 + w.data.length ≤ a) → cellGet t.intake.slots a = cellGet s.intake.slots a)) ∧
  (∀ (w : HostWrite) (r : List HostWrite) (s : State), s.link.writes = w :: r → 0x1000 ≤ w.addr → cellWf s.intake.bulk = true →
    Answers .writeApplied s (fun t => t.link = { s.link with writes := r, prevWrite := !s.link.prevAbort } ∧ s.only [.link, .intake] t ∧
      t.intake.slots = s.intake.slots ∧ t.intake.hops = s.intake.hops ∧
      (∀ i < w.data.length, cellGet t.intake.bulk (w.addr - 0x1000 + i) = w.data.getD i 0) ∧
      ∀ a, (a < w.addr - 0x1000 ∨ w.addr - 0x1000 + w.data.length ≤ a) → cellGet t.intake.bulk a = cellGet s.intake.bulk a))

/-- CS1 streams: the sensor bridge, the snapshot record, and refused transfers (R129, R138 to R141). -/
def Obligations.StreamComplete : Prop :=
  (∀ (w : SelFall) (bits : List Bool) (s : State), s.rdy = true → cs1Cause s w = 0 → s.host.strSrc = 1 → 0 < min bits.length s.host.strlen →
    Answers (.sensorBridgeTransfer w bits) s (fun t => t.host.strBrbusy = true ∧ t.link.brSend = bits.take (min bits.length s.host.strlen) ∧
      t.link.brSel = s.host.strSsel ∧ t.sensor.bridge = true ∧ t.host.strCnt = min bits.length s.host.strlen ∧
      t.link.csOut.length = bits.length ∧ s.only [.link, .host, .sensor] t)) ∧
  (∀ (read : List Bool) (s : State), s.host.strBrbusy = true →
    Answers (.bridgeTransferDone read) s (fun t =>
      t.host = { s.host with strBrbusy := false, strBrdone := true, strBrto := s.host.strBrto || (s.readHead read).1 != 0 } ∧
      t.link.brResp.length = s.link.brSend.length ∧ ((s.readHead read).1 ≠ 0 → ∀ b ∈ t.link.brResp, b = false) ∧
      s.only [.link, .host, .sensor] t)) ∧
  (∀ (w : SelFall) (clocks : Nat) (s : State), s.rdy = true → cs1Cause s w = 0 → s.host.strSrc = 2 → s.host.strQuad = false →
    Answers (.snapshotReadout w clocks) s (fun t => t.link.csOut.length = clocks ∧
      t.link.csOut.take (min clocks s.host.strlen) = s.snapBits (min clocks s.host.strlen) ∧
      (∀ b ∈ t.link.csOut.drop (min clocks s.host.strlen), b = false) ∧ t.link.brResp = s.link.brResp ∧
      t.host.strCnt = min clocks s.host.strlen ∧ t.host.strOver = (s.host.strOver || decide (s.host.strlen < clocks)) ∧ s.only [.link, .host] t)) ∧
  (∀ (w : SelFall) (s : State), (w.rdy = true → s.rdy = true) → cs1Cause s w ≠ 0 →
    Answers (.cs1TransferRefused w) s (fun t => t.host.abortWhy = cs1Cause s w ∧ t.host.herr = true ∧
      t.rejects 165 = min 0xFFFF (s.rejects 165 + 1) ∧ t.link = s.link))

/-- SET_PARAM, GET_PARAM, SURVEY_RUN, ENABLE_UNIT, DISABLE_UNIT and VERDICT_RECOMPUTED, AUTO_ENABLE (R179, R185, R197 to R204). -/
def Obligations.ParameterComplete : Prop :=
  Starts setParamSpec .setParam (fun h b u =>
    u.intake.onVerdict.getLast?.map (fun x => x.hop) = some h.val ∧
    (b.setBarred h = [] → b.writeFindings (b.setWorking h) = [] → bit (b.p8 h 1) 0 = false → u.params = { b.params with working := b.setWorking h } ∧
      u.intake.verdict = some (b.frame.counter + BitVec.ofNat 32 b.verdictFrames)) ∧
    ((b.setBarred h ≠ [] ∨ b.writeFindings (b.setWorking h) ≠ [] ∨ bit (b.p8 h 1) 0 = true) → u.params = b.params)) ∧
  Starts getParamSpec .getParam (fun h b u => u.hb h 12 = 1 ∧ u.params = b.params) ∧
  Starts surveyRunSpec .surveyRun (fun h b u => u.hb h 12 = 1 ∧ u.params = b.params ∧ u.power = b.power) ∧
  Starts enableUnitSpec .enableUnit (fun h b u => u.params.units = b.params.units ∧
    u.params.asked = b.params.asked ||| BitVec.ofNat 10 (Nat.land (b.p16 h 0) (1023 - b.params.units.toNat)) ∧
    u.params.leaving = b.params.leaving &&& ~~~ BitVec.ofNat 10 (b.p16 h 0) ∧
    (Nat.land (b.p16 h 0) 0x200 ≠ 0 → b.power.plan.stage = .down → u.power.plan.latched = some true)) ∧
  Starts disableUnitSpec .disableUnit (fun h b u =>
    u = { b with params := { b.params with asked := b.params.asked &&& ~~~ BitVec.ofNat 10 (b.p16 h 0)
                                           leaving := b.params.leaving ||| (BitVec.ofNat 10 (b.p16 h 0) &&& b.params.units) } }) ∧
  (∀ s : State, s.intake.verdict.isSome = true ∨ s.intake.onVerdict ≠ [] →
    ∃ u : State, exec .verdictRecomputed s = .next u.settle ∧ u.intake.verdict = none ∧ u.intake.onVerdict = []) ∧
  (∀ (x : VerdictWait) (s : State), s.intake.onVerdict = [x] → s.stage x.hop = .started → x.code < 256 → cellWf s.intake.slots = true →
    ∃ u : State, exec .verdictRecomputed s = .next u.settle ∧ u.hb x.hop 12 = x.code) ∧
  (∀ (k : Nat) (s : State), s.intake.autoDue = true → [28, 29, 30, 31].find? (fun h => s.stage h == .free) = some k →
    s.intake.hops.length = 32 → cellWf s.intake.slots = true →
    Answers .autoEnable s (fun t => t.intake.autoDue = false ∧ t.intake.intSeq = s.intake.intSeq + 1 ∧ t.stage k = .rung ∧
      t.opcode k = 0x0004 ∧ t.p16 k 0 = s.par 0x0080 % 65536))

/-- The operations of CFG_IMAGE on the staging buffer and the two stored copies (R192 to R196). -/
def Obligations.ImageComplete : Prop :=
  Starts cfgClearSpec .cfgImageClear (fun h b u => u.params = { b.params with staging := [], staged := false } ∧ u.hb h 12 = 1) ∧
  Starts cfgStageSpec .cfgImageStage (fun h b u => u.hb h 12 = 1 ∧
    u.params = { b.params with staging := cellWrite b.params.staging (b.imgOffset h) (b.bulkBytes 0 b.host.bulkLen), staged := true }) ∧
  Starts cfgCheckSpec .cfgImageCheck (fun h b u => u.params = b.params ∧ u.hb h 12 = 1) ∧
  Starts cfgApplySpec .cfgImageApply (fun h b u =>
    (b.imageBarred = [] → b.writeFindings (trimSet b.imageSet) = [] → u.params = { b.params with working := trimSet b.imageSet }) ∧
    ((b.imageBarred ≠ [] ∨ b.writeFindings (trimSet b.imageSet) ≠ []) → u.params = b.params) ∧ u.intake.onVerdict.getLast?.map (fun x => x.hop) = some h.val) ∧
  Starts cfgSaveStagedSpec .cfgImageSaveStaged (fun h b u => u.hb h 12 = (if b.flashWrite.1 then 1 else 6) ∧ u.params.working = b.params.working ∧
    ∀ isA c, b.newestCopy = some (isA, c) → ∃ n : StoreCopy, (if isA then u.params.copyB else u.params.copyA) = some n ∧
      (if isA then u.params.copyA = b.params.copyA else u.params.copyB = b.params.copyB) ∧
      n.valid = b.flashWrite.1 ∧ n.saves = c.saves + 1 ∧ n.vals = b.imageSet) ∧
  Starts cfgSaveWorkingSpec .cfgImageSaveWorking (fun h b u => u.hb h 12 = (if b.flashWrite.1 then 1 else 6) ∧ u.params.working = b.params.working ∧
    (∀ isA c, b.newestCopy = some (isA, c) → ∃ n : StoreCopy, (if isA then u.params.copyB else u.params.copyA) = some n ∧
      (if isA then u.params.copyA = b.params.copyA else u.params.copyB = b.params.copyB) ∧
      n.valid = b.flashWrite.1 ∧ n.saves = c.saves + 1 ∧ n.fwMin = 2 ∧ n.vals = b.params.working) ∧
    (b.newestCopy = none → ∃ n : StoreCopy, u.params.copyA = some n ∧ u.params.copyB = b.params.copyB ∧ n.valid = b.flashWrite.1 ∧ n.vals = b.params.working)) ∧
  Starts cfgLoadStoredSpec .cfgImageLoadStored (fun h b u => u.hb h 12 = 1 ∧
    ∀ x, b.newestCopy = some x → u.params = { b.params with staging := cellWrite [] 0 (imageBytes x.2), staged := true }) ∧
  Starts cfgReadStagingSpec .cfgImageReadStaging (fun h b u => u.params = b.params ∧ u.hb h 12 = 1) ∧
  Starts cfgEraseSpec .cfgImageErase (fun h b u => u.params = { b.params with copyA := none, copyB := none } ∧ u.hb h 12 = 1)

/-- Motion commands start: an engine command names the next boundary as its start frame, and the brake of its axis is switched on first
(R147, R155, R358). STOP and HALT start; with AXENn low they are over at once (R227, R228, R319). SET_POSITION notes the new position for
the next boundary and answers the old one; AXIS_STATUS only answers (R234, Table MOT-9). -/
def Obligations.MotionStarts : Prop :=
  (∀ p ∈ [(moveToSpec, Sys2Proof.Instr.moveTo), (moveBySpec, .moveBy), (jogSpec, .jog), (followStepsSpec, .followSteps),
         (followSpeedSpec, .followSpeed), (homeFaceSpec, .homeFace)],
    Starts p.1 p.2 (fun h b u => State.only [.mon, .intake, .fab, .faults] b u ∧
      (b.intake.hops.length = 32 → b.stage h = .started ∧ (b.hop h).start = some (b.frame.counter + 1)) ∧
      (b.brakeOf (b.axisOf h) = none → u = b.lateStart h) ∧
      ∀ k, b.brakeOf (b.axisOf h) = some k →
        ((b.mon.brakes.get k).locked = true → u = b.lateStart h) ∧
        ((b.mon.brakes.get k).locked = false → (b.mon.brakes.get k).on = true → (b.mon.brakes.get k).waiter = none → u = b.lateStart h) ∧
        ((b.mon.brakes.get k).locked = false → (b.mon.brakes.get k).on = true → (b.mon.brakes.get k).waiter ≠ none →
          (u.mon.brakes.get k).waiter = some h.val ∧ (u.mon.brakes.get k).onAt = (b.mon.brakes.get k).onAt ∧
          (b.intake.hops.length = 32 → (u.hop h).start = none)) ∧
        ((b.mon.brakes.get k).locked = false → (b.mon.brakes.get k).on = false →
          (u.mon.brakes.get k).on = true ∧ (u.mon.brakes.get k).waiter = some h.val ∧
          (u.mon.brakes.get k).onAt = b.frame.counter + 1 ∧ (b.intake.hops.length = 32 → (u.hop h).start = none)))) ∧
  Starts stopSpec .stop (fun h b u => (b.intake.hops.length = 32 → b.stage h = .started ∧ (b.hop h).start = some (b.frame.counter + 1)) ∧
    (b.axen (b.axisOf h) = true → b.faults.safe.get (b.axisOf h) < 3 → u = b.lateStart h) ∧
    (b.axen (b.axisOf h) = false → b.opcode h = 0x0106 → u.hb h 12 = 1 ∧ u.motion = b.motion)) ∧
  Starts stopSpec .stop (fun h b u => b.axen (b.axisOf h) = true → 3 ≤ b.faults.safe.get (b.axisOf h) → u.hb h 12 = 1 ∧ u.motion = b.motion) ∧
  Starts haltSpec .halt (fun h b u => (b.intake.hops.length = 32 → b.stage h = .started ∧ (b.hop h).start = some (b.frame.counter + 1)) ∧
    (b.axen (b.axisOf h) = true → b.faults.safe.get (b.axisOf h) < 3 → u = b.lateStart h) ∧
    (b.axen (b.axisOf h) = false → b.opcode h = 0x0107 → u.hb h 12 = 1 ∧ (u.motion.get (b.axisOf h)).state = .halted ∧
      ∀ m, m ≠ b.axisOf h → u.motion.get m = b.motion.get m)) ∧
  Starts setPositionSpec .setPosition (fun h b u => u.hb h 12 = 1 ∧
    ((b.motion.get (b.axisOf h)).setTo = none → u = (b.updMotion (b.axisOf h) (fun m =>
      { m with setTo := some (b.pS32 h 0, bit (b.p8 h 4) 0) })).doneWith h (leS32 (b.motion.get (b.axisOf h)).p)) ∧
    (u.motion.get (b.axisOf h)) = { b.motion.get (b.axisOf h) with setTo := some (b.pS32 h 0, bit (b.p8 h 4) 0) } ∧
    ∀ m, m ≠ b.axisOf h → u.motion.get m = b.motion.get m) ∧
  Starts axisStatusSpec .axisStatus (fun h b u => u.hb h 12 = 1 ∧ u.motion = b.motion)

/-- The microstep engine: STEP pulses, microsteps, standstill and the interval unit (R67, R206, R207, R221, R226). When a microstep is due is read as log entry 20 says. -/
def Obligations.MicrostepComplete : Prop :=
  (∀ (n : Fin 4) (off high : Nat) (dir changed : Bool) (s : State), s.frame.running = true → s.pinModeV n = false → high < 40 →
    Answers (.stepPulse n off high dir changed) s (fun t => t.rejects (110 + 8 * n.val) = min 0xFFFF (s.rejects (110 + 8 * n.val) + 1) ∧
      t.motion = s.motion ∧ t.divo = s.divo)) ∧
  (∀ (n : Fin 4) (off high : Nat) (dir : Bool) (s : State), s.frame.running = true → s.pinModeV n = false → 40 ≤ high →
    (∀ t, s.pins.stepLast.get n = some t → t + 1000 ≤ 5 * s.tickAt off) → (s.motion.get n).stepWait = none →
    Answers (.stepPulse n off high dir false) s (fun t => t.motion = s.motion.upd n (fun m => { m with stepWait := some (dir, s.tickAt off + 40) }) ∧
      t.pins.stepLast.get n = some (5 * s.tickAt off) ∧ s.only [.motion, .pins] t)) ∧
  (∀ (n : Fin 4) (off acc : Nat) (up : Bool) (d : Int) (s : State), (s.motion.get n).stepWait = some (up, acc) → acc ≤ s.tickAt off →
    (s.motion.get n).state = .stepf → (s.motion.get n).lagTrip = false →
    d = (if up != (s.ax n 0x4B == 1) then (s.ax n 0x4A : Int) else -(s.ax n 0x4A : Int)) → s.beyond n d = 0 →
    (s.stepSettle n (s.tickAt off)).stepDue n (s.tickAt off) = none →
    Answers (.microstep n off) s (fun t => (t.motion.get n).stepWait = none ∧
      (t.motion.get n).pulses = ((s.motion.get n).pulses + 1) % 4294967296 ∧
      (t.motion.get n).demand = (s.motion.get n).demand + d ∧ (t.motion.get n).pulseAt = some acc ∧ (t.motion.get n).still = false ∧
      (t.motion.get n).p = (s.motion.get n).p ∧ ∀ m, m ≠ n → t.motion.get m = s.motion.get m)) ∧
  (∀ (n : Fin 4) (off : Nat) (d : Int) (s u : State), u = s.stepSettle n (s.tickAt off) → u.stepDue n (s.tickAt off) = some d →
    ¬ ((0 < d ∧ s.axI n 0x47 ≤ (s.motion.get n).p) ∨ (d < 0 ∧ (s.motion.get n).p ≤ s.axI n 0x46)) →
    Answers (.microstep n off) s (fun t => (t.motion.get n).p = (s.motion.get n).p + d ∧ (t.motion.get n).lastStep = some (s.tickAt off) ∧
      (t.motion.get n).still = false ∧ ∀ m, m ≠ n → t.motion.get m = s.motion.get m)) ∧
  (∀ (n : Fin 4) (off : Nat) (d : Int) (s u : State), u = s.stepSettle n (s.tickAt off) → u.stepDue n (s.tickAt off) = some d →
    ((0 < d ∧ s.axI n 0x47 ≤ (s.motion.get n).p) ∨ (d < 0 ∧ (s.motion.get n).p ≤ s.axI n 0x46)) →
    Answers (.microstep n off) s (fun t => ∀ m, (t.motion.get m).p = (s.motion.get m).p)) ∧
  (∀ (n : Fin 4) (s : State), exec (.intervalUnitFault n) s =
    .next { s with motion := s.motion.upd n (fun m => { m with halted := true })
                   faults := { s.faults with raised := s.faults.raised ++ [(0x0102, n.val, axBits n, false)] } }) ∧
  (∀ (n : Fin 4) (s : State), (s.motion.get n).still = false → (s.motion.get n).vel = 0 → s.ax n 0x49 ≤ (s.motion.get n).idleF →
    exec (.standstillReached n) s = .next { s with motion := s.motion.upd n (fun m => { m with still := true, stillF := 0, holdF := 0 }) })

/-- The chopper's phases, the standstill modes and the PWM period of one coil, with other axes' currents unchanged (R249 to R259, R265,
R268); the operations on Chisel tables and CUR_STATUS (R245, Tables CUR-12 to CUR-14). In part on log entries 16 and 17. -/
def Obligations.CurrentComplete : Prop :=
  (∀ (n : Fin 4) (s : State), s.pinMode n = false → (s.cur.get n).hold = .moving → (s.motion.get n).still = true → s.curMoving n = false →
    s.ax n 0x14 ≤ (s.motion.get n).holdF →
    exec (.holdDelayExpiry n) s = .next (s.updCur n (fun x => { x with hold := .ramp, rampF := 0 }))) ∧
  (∀ (n : Fin 4) (s : State), s.pinMode n = false → (s.cur.get n).hold = .ramp → s.ax n 0x15 ≤ (s.cur.get n).rampF →
    Answers (.holdRampEnd n) s (fun t => (t.cur.get n).hold = s.stillMode n ∧ (∀ m, m ≠ n → t.cur.get m = s.cur.get m) ∧
      (∀ m, m ≠ n → t.gate.get m = s.gate.get m) ∧ s.only [.cur, .gate] t)) ∧
  (∀ (n : Fin 4) (c : Fin 2) (code ton : Nat) (s : State), s.chops n = true → ((s.cur.get n).coil c.val).phase = .on →
    ((s.cur.get n).coil c.val).setp ≠ 0 → ((s.cur.get n).coil c.val).insTo = none →
    Answers (.chopperTrip n c code ton) s (fun t => ((t.cur.get n).coil c.val).sample = s.sampleOf n c code ∧
      ((t.cur.get n).coil c.val).tripQ = true ∧ ((t.cur.get n).coil c.val).seen = false ∧ ((t.cur.get n).coil c.val).phase ≠ .on ∧
      ((t.cur.get n).coil c.val).frac = min 16 (s.ax n (if ((s.cur.get n).coil c.val).falling then 0x02 else 0x01) +
        (if ((s.cur.get n).coil c.val).seen then ((s.cur.get n).coil c.val).esc else ((s.cur.get n).coil c.val).esc - 4)) ∧
      ∀ m, m ≠ n → t.cur.get m = s.cur.get m)) ∧
  (∀ (n : Fin 4) (c : Fin 2) (ton : Nat) (s : State), s.chops n = true → ((s.cur.get n).coil c.val).phase = .blank → 25 * s.ax n 0x00 ≤ ton →
    exec (.blankingEnd n c false ton) s = .next (s.updCur n (fun y => y.updCoil c.val (fun z => { z with phase := .on, seen := false }))) ∧
    (((s.cur.get n).coil c.val).insTo = none → Answers (.blankingEnd n c true ton) s (fun t => ((t.cur.get n).coil c.val).phase = .on ∧ ((t.cur.get n).coil c.val).seen = true ∧
      ((t.cur.get n).coil c.val).esc =
        min (((s.cur.get n).coil c.val).esc + 4) (16 - s.ax n (if ((s.cur.get n).coil c.val).falling then 0x02 else 0x01)) ∧
      (t.cur.get n).escs = (if ((s.cur.get n).coil c.val).esc < ((t.cur.get n).coil c.val).esc then min 0xFFFF ((s.cur.get n).escs + 1)
        else (s.cur.get n).escs) ∧
      (∀ m, m ≠ n → t.cur.get m = s.cur.get m) ∧ s.only [.cur] t))) ∧
  (∀ (n : Fin 4) (c : Fin 2) (gone : Nat) (s : State), s.chops n = true → ((s.cur.get n).coil c.val).phase = .fast →
    ((s.cur.get n).coil c.val).setp ≠ 0 → 50 * s.ax n 0x03 * ((s.cur.get n).coil c.val).frac ≤ 16 * gone →
    exec (.fastDecayEnd n c gone) s = .next (s.updCur n (fun y => y.updCoil c.val (fun z => { z with phase := .slow })))) ∧
  (∀ (n : Fin 4) (c : Fin 2) (s : State), s.chops n = true → ((s.cur.get n).coil c.val).phase = .fast →
    exec (.zeroComparatorTrip n c) s = .next (s.updCur n (fun y => y.updCoil c.val (fun z => { z with phase := .slow })))) ∧
  (∀ (n : Fin 4) (c : Fin 2) (gone : Nat) (s : State), s.chops n = true →
    (((s.cur.get n).coil c.val).phase = .fast ∨ ((s.cur.get n).coil c.val).phase = .slow) → ((s.cur.get n).coil c.val).setp ≠ 0 →
    50 * s.ax n 0x03 ≤ gone →
    Answers (.offTimeEnd n c gone) s (fun t => ((t.cur.get n).coil c.val).phase = .blank ∧ ((t.cur.get n).coil c.val).seen = false ∧
      ((t.cur.get n).coil c.val).setp = ((s.cur.get n).coil c.val).setp ∧ (∀ m, m ≠ n → t.cur.get m = s.cur.get m) ∧ s.only [.cur] t)) ∧
  (∀ (n : Fin 4) (c : Fin 2) (code ton : Nat) (s : State), s.chops n = true → ((s.cur.get n).coil c.val).phase = .on → ((s.cur.get n).coil c.val).insTo = none → 200 * s.par 0xA016 ≤ ton →
    exec (.forcedSample n c code ton) s = .next (s.coilSample n c.val (s.sampleOf n c code) ((s.cur.get n).coil c.val).setp.natAbs false)) ∧
  (∀ (n : Fin 4) (c : Fin 2) (code : Nat) (s : State), s.regulates n = true → (s.cur.get n).voltage = true → ((s.cur.get n).coil c.val).raise = none →
    Answers (.pwmPeriod n c code) s (fun t => ((t.cur.get n).coil c.val).prevSet = ((s.cur.get n).coil c.val).setp ∧
      100 * ((t.cur.get n).coil c.val).duty ≤ (s.ax n 0x26 : Nat) ∧ -((s.ax n 0x26 : Nat) : Rat) ≤ 100 * ((t.cur.get n).coil c.val).duty ∧
      4000 * ((t.cur.get n).coil c.val).ux ≤ (s.power.vm : Nat) ∧ -((s.power.vm : Nat) : Rat) ≤ 4000 * ((t.cur.get n).coil c.val).ux ∧
      ∀ m, m ≠ n → t.cur.get m = s.cur.get m)) ∧
  Starts chiselLoadSpec .chiselLoad (fun h b u => u.cur.get (b.axisOf h) = { b.cur.get (b.axisOf h) with
      userTab := some { label := BitVec.ofNat 32 (get32 (b.bulkBytes 0 chiselSize) 8), entries := fileEntries (b.bulkBytes 0 chiselSize) } } ∧
    (∀ m, m ≠ b.axisOf h → u.cur.get m = b.cur.get m) ∧ u.params = b.params ∧ u.intake.onVerdict.getLast?.map (fun x => x.hop) = some h.val) ∧
  Starts chiselValidateSpec .chiselValidate (fun h b u => u.hb h 12 = 1 ∧ u.cur = b.cur) ∧
  Starts chiselSaveSpec .chiselSave (fun h b u => u.hb h 12 = (if b.flashWrite.1 then 1 else 6) ∧
    (b.flashWrite.1 = true → u.cur.get (b.axisOf h) = { b.cur.get (b.axisOf h) with storeTab := (b.cur.get (b.axisOf h)).userTab }) ∧
    (b.flashWrite.1 = false → u.cur = b.cur) ∧
    ∀ m, m ≠ b.axisOf h → u.cur.get m = b.cur.get m) ∧
  Starts chiselReadSpec .chiselRead (fun h b u => u.hb h 12 = 1 ∧ u.cur = b.cur) ∧
  Starts chiselReloadSpec .chiselReload (fun h b u =>
    u.cur.get (b.axisOf h) = { b.cur.get (b.axisOf h) with userTab := (b.cur.get (b.axisOf h)).storeTab } ∧
    (∀ m, m ≠ b.axisOf h → u.cur.get m = b.cur.get m) ∧ u.intake.onVerdict.getLast?.map (fun x => x.hop) = some h.val) ∧
  Starts curStatusSpec .curStatus (fun h b u => u.hb h 12 = 1 ∧ u.cur = b.cur)

/-- Wedge windows, periods, homing and its commands (R275 to R278, R282, R287, R295, Table WEDGE-11). In part on log entries 7 and 18. -/
def Obligations.WedgeComplete : Prop :=
  (∀ (n : Fin 4) (va vb : Int) (x : WedgeWin) (s : State), (s.wedge.get n).due = some x → (s.wedge.get n).ended = none →
    Answers (.wedgeWindowEnd n va vb) s (fun t => (t.wedge.get n).due = none ∧ (t.wedge.get n).windows = (s.wedge.get n).windows + 1 ∧
      (t.wedge.get n).sumEs = (s.wedge.get n).sumEs + (s.windowValues n x (x.volts va vb).1 (x.volts va vb).2).1 ∧
      (t.wedge.get n).sumEc = (s.wedge.get n).sumEc + (s.windowValues n x (x.volts va vb).1 (x.volts va vb).2).2.1 ∧
      (t.wedge.get n).ended = x.fin.map (fun f => (f.1, f.2, x.dir)) ∧ (∀ m, m ≠ n → t.wedge.get m = s.wedge.get m) ∧
      (((s.power.vm + 2000 : Nat) : Rat) < ratAbs (x.volts va vb).1 → (t.wedge.get n).implaus = (s.wedge.get n).implaus + 1 ∧
        (7 ≤ (s.wedge.get n).implaus → (t.wedge.get n).suspended = true)))) ∧
  (∀ (n : Fin 4) (c : Bool) (d : Int) (s : State), (s.wedge.get n).ended = some (false, c, d) →
    exec (.wedgePeriodEnd n) s = .next (s.updWedge n (fun w => { w with ended := none, windows := 0, sumEs := 0, sumEc := 0, sumM := 0, invalid := min 0xFFFF (w.invalid + 1), dValid := false }))) ∧
  (∀ (n : Fin 4) (c : Bool) (d : Int) (s : State), (s.wedge.get n).ended = some (true, c, d) → (s.wedge.get n).perV ≠ 0 →
    Answers (.wedgePeriodEnd n) s (fun t => (t.wedge.get n).valid = min 0xFFFFFFFF ((s.wedge.get n).valid + 1) ∧ (t.wedge.get n).windows = 0 ∧
      (t.wedge.get n).dValid = true ∧ (∀ m, m ≠ n → t.wedge.get m = s.wedge.get m) ∧
      (t.wedge.get n).delta = some (loadAngle d ((s.wedge.get n).sumEs / 64) ((s.wedge.get n).sumEc / 64)))) ∧
  (∀ (n : Fin 4) (s : State), (s.wedge.get n).home.st = .settle → 4 ≤ (s.wedge.get n).home.settleF →
    Answers (.homingSettleEnd n) s (fun t => (t.wedge.get n).home = { (s.wedge.get n).home with st := .realign } ∧
      (t.motion.get n).target = (s.wedge.get n).home.xref ∧ (t.motion.get n).state = .pos ∧ (t.motion.get n).p = (s.motion.get n).p ∧
      s.only [.wedge, .motion] t)) ∧
  Starts wedgeLearnSpec .wedgeLearn (fun h b u => u.hb h 12 = 1 ∧ u.ret.wedge.get (b.axisOf h) = none ∧
    (u.wedge.get (b.axisOf h)).learn = .learning ∧ (u.wedge.get (b.axisOf h)).ke = 0 ∧ (u.wedge.get (b.axisOf h)).learnN = 0 ∧
    ∀ m, m ≠ b.axisOf h → u.wedge.get m = b.wedge.get m) ∧
  Starts wedgeStatusSpec .wedgeStatus (fun h b u => u.hb h 12 = 1 ∧ u.wedge = b.wedge)

/-- Edges of a half-bridge: a switch turns on only from its partner's off, else it waits; a plateau ends it; the dead time lets the
waiting one turn on (R300 to R308); bootstrap refresh and recharge (R309 to R314, Table GATE-5). -/
def Obligations.GateEdgeComplete : Prop :=
  (∀ (n b : Fin 4) (high : Bool) (off vds bs : Nat) (s : State), ((s.bridge n b).sw high).turning = false → s.swBlocked n b high = false →
    s.edgeCalled n b high true (s.tickAt off) = true → ((s.bridge n b).sw (!high)).phase = .off → (high = true → 7000 ≤ bs) →
    exec (.gateEdge n b high true off vds bs) s = .next (s.updBridge n b (fun y =>
      { (y.updSw high (fun x => { x with phase := .onP1, skip := decide (vds ≤ 1000) })) with
        pending := none, lowAt := if high then y.lowAt else some (s.tickAt off) }))) ∧
  (∀ (n b : Fin 4) (high : Bool) (off vds bs : Nat) (s : State), ((s.bridge n b).sw high).turning = false → s.swBlocked n b high = false →
    s.edgeCalled n b high true (s.tickAt off) = true → ((s.bridge n b).sw (!high)).phase ≠ .off →
    exec (.gateEdge n b high true off vds bs) s = .next (s.updBridge n b (fun y => { y with pending := some high }))) ∧
  (∀ (n b : Fin 4) (off vds bs : Nat) (s : State), (s.bridge n b).hi.turning = false → s.swBlocked n b true = false →
    s.edgeCalled n b true true (s.tickAt off) = true → (s.bridge n b).lo.phase = .off → bs < 7000 →
    exec (.gateEdge n b true true off vds bs) s = .next (s.updBridge n b (fun y =>
      { y with recharge := true, pending := if s.swBlocked n b false then none else some false }))) ∧
  (∀ (n b : Fin 4) (high : Bool) (off vds bs : Nat) (s : State), ((s.bridge n b).sw high).turning = true →
    s.edgeCalled n b high false (s.tickAt off) = true →
    Answers (.gateEdge n b high false off vds bs) s (fun t => ((t.bridge n b).sw high).phase = .offP1 ∧
      ((t.bridge n b).sw (!high)) = ((s.bridge n b).sw (!high)) ∧ (∀ m, m ≠ n → t.gate.get m = s.gate.get m) ∧
      (∀ k, k ≠ b → t.bridge n k = s.bridge n k) ∧ s.only [.gate] t)) ∧
  (∀ (n b : Fin 4) (high : Bool) (vds vgs len : Nat) (lag : Int) (s : State), ((s.bridge n b).sw high).phase = .onP1 → len < ((s.bridge n b).sw high).tpreOn →
    exec (.gatePlateauEnd n b high vds vgs len lag) s = .next s) ∧
  (∀ (n b : Fin 4) (high : Bool) (vds vgs len : Nat) (lag : Int) (s : State), ((s.bridge n b).sw high).phase = .onP1 → ((s.bridge n b).sw high).tpreOn ≤ len →
    exec (.gatePlateauEnd n b high vds vgs len lag) s =
      .next (s.updBridge n b (fun y => y.updSw high (fun x => { x with phase := if ((s.bridge n b).sw high).skip then .on else .onP2, skip := false })))) ∧
  (∀ (n b : Fin 4) (high : Bool) (vds vgs len : Nat) (lag : Int) (s : State), ((s.bridge n b).sw high).phase = .onP2 → s.ps n 8 ≠ 1 → (vds ≤ 1000 ∨ 7000 ≤ vgs) →
    exec (.gatePlateauEnd n b high vds vgs len lag) s =
      .next (s.updBridge n b (fun y => y.updSw high (fun x => { x with phase := .on })))) ∧
  (∀ (n b : Fin 4) (high : Bool) (vds vgs len : Nat) (lag : Int) (s : State), ((s.bridge n b).sw high).phase = .offP1 → ((s.bridge n b).sw high).fault = false → ((s.bridge n b).sw high).tpreOff ≤ len →
    exec (.gatePlateauEnd n b high vds vgs len lag) s =
      .next (s.updBridge n b (fun y => y.updSw high (fun x => { x with phase := .offP2, skip := false })))) ∧
  (∀ (n b : Fin 4) (high : Bool) (vds vgs len : Nat) (lag : Int) (s : State), ((s.bridge n b).sw high).phase = .offP2 → ((s.bridge n b).sw high).fault = false → s.ps n 8 ≠ 1 →
      (s.power.vm ≤ vds + 1000 ∨ vgs ≤ 1500) →
    exec (.gatePlateauEnd n b high vds vgs len lag) s =
      .next (s.updBridge n b (fun y => y.updSw high (fun x => { x with phase := .offP3 })))) ∧
  (∀ (n b : Fin 4) (high : Bool) (vds vgs len : Nat) (lag : Int) (s : State),
      (((s.bridge n b).sw high).phase = .offP1 ∨ ((s.bridge n b).sw high).phase = .offP2 ∨ ((s.bridge n b).sw high).phase = .offP3) → ((s.bridge n b).sw high).fault = true →
    exec (.gatePlateauEnd n b high vds vgs len lag) s =
      (if 1500 < vgs then .next s else .next (s.updBridge n b (fun y => y.updSw high (fun x => { x with fault := false, phase := .offP3 }))))) ∧
  (∀ (n b : Fin 4) (high : Bool) (vds vgs len : Nat) (lag : Int) (s : State), ((s.bridge n b).sw high).phase = .onP2 → 1000 < vds → vgs < 7000 → s.ps n 7 ≤ len →
    Answers (.gatePlateauEnd n b high vds vgs len lag) s (fun t => ((t.bridge n b).sw high).phase = .on ∧
      (t.gate.get n).platEnds = min 0xFFFF ((s.gate.get n).platEnds + 1) ∧ (t.gate.get n).platSeen = true)) ∧
  (∀ (n b : Fin 4) (high : Bool) (gone : Moment) (low vds bs : Nat) (s : State), (s.bridge n b).pending = some high → s.swBlocked n b high = false →
    ((s.bridge n b).sw (!high)).turning = false → (high = true → (s.bridge n b).insert = false) → s.ps n 0x0A ≤ gone.val → 2 ≤ low →
    (high = true → 7000 ≤ bs) →
    Answers (.deadTimeEnd n b gone low vds bs) s (fun t => (t.bridge n b).pending = none ∧ ((t.bridge n b).sw (!high)).phase = .off ∧
      ((t.bridge n b).sw high).phase = .onP1 ∧ (∀ k, k ≠ b → t.bridge n k = s.bridge n k) ∧ s.only [.gate] t)) ∧
  (∀ (n b : Fin 4) (gone : Moment) (low vds bs : Nat) (s : State), (s.bridge n b).pending = some true → s.swBlocked n b true = false →
    (s.bridge n b).lo.turning = false → (s.bridge n b).insert = true → (∀ k, (s.bridge n k).due = false) → s.ps n 0x0A ≤ gone.val → 2 ≤ low →
    7000 ≤ bs → s.pinMode n = false → (s.cur.get n).voltage = false → ((s.cur.get n).coil (coilOf b)).phase = .on →
    Answers (.deadTimeEnd n b gone low vds bs) s (fun t => (t.bridge n b).insert = false ∧ (t.bridge n b).hi.phase = .onP1 ∧
      (t.bridge n b).lo.phase = .off ∧ ((t.cur.get n).coil (coilOf b)).phase = .blank ∧ s.only [.gate, .cur] t)) ∧
  (∀ (n b : Fin 4) (high : Bool) (vgs : Nat) (len : Moment) (s : State),
    (((s.bridge n b).sw high).phase = .offP1 ∨ ((s.bridge n b).sw high).phase = .offP2 ∨ ((s.bridge n b).sw high).phase = .offP3) →
    ((s.bridge n b).sw high).cause = 0 → 1500 < vgs → s.ps n 7 + 200 ≤ len.val →
    Answers (.gateOffTimeout n b high vgs len) s (fun t => ((t.bridge n b).sw high).cause = 6 ∧ ((t.bridge n b).sw high).fault = false ∧
      (t.bridge n b).pending = none ∧
      t.faults = { s.faults with raised := s.faults.raised ++ [(0x0306, 4 * n.val + b.val, axBits n, true)] } ∧ s.only [.gate, .faults] t)) ∧
  (∀ (n b : Fin 4) (off : Nat) (s : State), (s.bridge n b).refreshAt + 200 * s.ps n 0x10 ≤ s.tickAt off → s.pinMode n = false → (s.cur.get n).voltage = true →
    (s.cur.get n).hold = .moving → s.curLive n = true →
    exec (.bootstrapRefreshTimer n b off) s = .next (s.updBridge n b (fun y => { y with altered := true }))) ∧
  (∀ (n b : Fin 4) (off : Nat) (s : State), (s.bridge n b).refreshAt + 200 * s.ps n 0x10 ≤ s.tickAt off → (s.cur.get n).voltage = false → (s.bridge n b).hi.turning = true →
    s.swBlocked n b false = false → (∀ k, (s.bridge n k).insert = false ∧ (k ≠ b → (s.bridge n k).due = false)) →
    Answers (.bootstrapRefreshTimer n b off) s (fun t => (t.bridge n b).insert = true ∧ (t.bridge n b).hi.phase = .offP1 ∧
      (t.bridge n b).pending = some false ∧ (t.gate.get n).inserts = min 0xFFFF ((s.gate.get n).inserts + 1) ∧
      (∀ k, k ≠ b → t.bridge n k = s.bridge n k) ∧ s.only [.gate] t)) ∧
  (∀ (n b k : Fin 4) (off : Nat) (s : State), (s.bridge n b).refreshAt + 200 * s.ps n 0x10 ≤ s.tickAt off → (s.cur.get n).voltage = false → (s.bridge n b).hi.turning = true →
    (s.bridge n b).insert = false → (s.bridge n k).insert = true →
    exec (.bootstrapRefreshTimer n b off) s = .next (s.updBridge n b (fun y => { y with due := true }))) ∧
  (∀ (n b : Fin 4) (off a : Nat) (s : State), (s.bridge n b).lowAt = some a → a + s.ps n 0x11 ≤ s.tickAt off → (s.bridge n b).insert = true →
    Answers (.refreshPulseEnd n b off) s (fun t => s.only [.gate] t ∧ (t.bridge n b).lo.turning = false ∧
      (t.bridge n b).refreshAt = s.tickAt off ∧ (t.bridge n b).due = false ∧ (t.bridge n b).insert = !s.swBlocked n b true ∧
      (t.bridge n b).pending = (if s.swBlocked n b true then none else some true))) ∧
  (∀ (n b : Fin 4) (off a : Nat) (s : State), (s.bridge n b).lowAt = some a → a + s.ps n 0x11 ≤ s.tickAt off → (s.bridge n b).insert = false →
    s.pinMode n = false → (s.cur.get n).hold = .quiet → (s.bridge n b).lo.turning = true →
    Answers (.refreshPulseEnd n b off) s (fun t => (t.bridge n b).lo.phase = .offP1 ∧ (t.bridge n b).hi = (s.bridge n b).hi ∧
      (t.bridge n b).refreshAt = s.tickAt off ∧ (∀ k, k ≠ b → t.bridge n k = s.bridge n k) ∧ s.only [.gate] t)) ∧
  (∀ (n b : Fin 4) (mv : Moment) (s : State), (s.bridge n b).recharge = true → 8000 ≤ mv.val → (s.bridge n b).lo.turning = true →
    Answers (.bootstrapRecharged n b mv) s (fun t => (t.bridge n b).recharge = false ∧
      (t.bridge n b).pending = (if s.swBlocked n b true then none else some true) ∧
      (t.bridge n b).lo.phase = .offP1 ∧ (t.bridge n b).hi = (s.bridge n b).hi ∧ s.only [.gate] t)) ∧
  (∀ (n b : Fin 4) (mv : Nat) (us : Moment) (s : State), (s.bridge n b).recharge = true → mv < 8000 → 20 ≤ us.val → (s.bridge n b).hi.cause = 0 →
    Answers (.bootstrapRechargeTimeout n b mv us) s (fun t => (t.bridge n b).recharge = false ∧ (t.bridge n b).pending = none ∧
      (t.bridge n b).hi.cause = 5 ∧ t.faults = { s.faults with raised := s.faults.raised ++ [(0x0308, 4 * n.val + b.val, axBits n, true)] })) ∧
  (∀ (n b : Fin 4) (mv ns : Nat) (len : Moment) (s : State), (s.bridge n b).hi.turning = true → (s.bridge n b).hi.cause = 0 → mv < 7000 → 100 ≤ ns →
    max (s.bridge n b).hi.tpreOn (compHold (16 + 4 * n.val + b.val)) ≤ len.val →
    Answers (.bootstrapUndervoltage n b mv ns len) s (fun t => (t.bridge n b).hi.cause = 4 ∧ (t.bridge n b).hi.phase = .offP1 ∧
      t.faults = { s.faults with raised := s.faults.raised ++ [(0x0305, 4 * n.val + b.val, axBits n, true)] } ∧ s.only [.gate, .faults] t)) ∧
  (∀ (n : Fin 4) (off : Nat) (s : State), (((s.cur.get n).hold = .quiet ∧ s.permHeld n = false) ∨ s.pulsesOnly n = true) →
    (s.gate.get n).quietAt + 50 * s.ps n 0x10 ≤ s.tickAt off → s.curLive n = true → s.faults.safe.get n = 0 → s.faults.device = false →
    (s.gate.get n).hwOff = false → s.mon.shut = false → (s.gate.get n).enBack = 0 → s.enableOf n (Fin.ofNat 4 (s.gate.get n).quietH) = true →
    s.power.vmOv = false → s.pinMode n = false →
    Answers (.quietRefreshPulse n off) s (fun t => (t.gate.get n).quietH = ((s.gate.get n).quietH + 1) % 4 ∧
      (t.gate.get n).quietAt = s.tickAt off ∧ s.only [.gate] t ∧
      (s.swBlocked n (Fin.ofNat 4 (s.gate.get n).quietH) false = false → (s.bridge n (Fin.ofNat 4 (s.gate.get n).quietH)).lo.turning = false →
        t.bridge n (Fin.ofNat 4 (s.gate.get n).quietH) = { s.bridge n (Fin.ofNat 4 (s.gate.get n).quietH) with pending := some false })))

/-- Switch faults, governing enables, pin mode and GATE_STATUS (R57, R58, R317 to R330, Tables GATE-7 and GATE-11). -/
def Obligations.GateInputComplete : Prop :=
  (∀ (n b : Fin 4) (high : Bool) (val : Int) (on : Nat) (len : Moment) (s : State), ((s.bridge n b).sw high).turning = true →
    ((s.bridge n b).sw high).cause = 0 → s.ps n 0x13 ≤ on → (s.ps n 0x12 : Int) < val → s.ps n 0x14 ≤ len.val →
    Answers (.switchFaultDetect n b high 0 val on len) s (fun t => ((t.bridge n b).sw high).cause = 1 ∧ ((t.bridge n b).sw high).phase = .offP1 ∧
      t.faults = { s.faults with raised := s.faults.raised ++ [(if high then 0x0301 else 0x0302, 4 * n.val + b.val, axBits n, true)] } ∧
      s.only [.gate, .faults] t)) ∧
  (∀ (n b : Fin 4) (high : Bool) (val : Int) (on : Nat) (len : Moment) (s : State), s.gateArmed n = true → (s.ps n 0x15 : Int) < val → s.ps n 0x17 ≤ len.val → s.shuntLive n b (s.tickAt len.off) = true →
    Answers (.switchFaultDetect n b high 1 val on len) s (fun t => s.only [.gate, .faults] t ∧
      (∀ k ∈ coilBridges b, (s.bridge n k).lo.turning = true → (s.bridge n k).lo.cause = 0 → (t.bridge n k).lo.cause = 2) ∧
      t.faults = { s.faults with raised := s.faults.raised ++ [(0x0303, 2 * n.val + coilOf b, axBits n, true)] })) ∧
  (∀ (n b : Fin 4) (high : Bool) (val : Int) (on : Nat) (len : Moment) (s : State), s.gateArmed n = true → val < -(s.ps n 0x16 : Int) → s.ps n 0x17 ≤ len.val → s.shuntLive n b (s.tickAt len.off) = true →
    Answers (.switchFaultDetect n b high 2 val on len) s (fun t => s.only [.gate, .faults] t ∧
      (∀ k ∈ coilBridges b, (s.bridge n k).lo.turning = true → (s.bridge n k).lo.cause = 0 → (t.bridge n k).lo.cause = 3) ∧
      t.faults = { s.faults with raised := s.faults.raised ++ [(0x0304, 2 * n.val + coilOf b, axBits n, true)] })) ∧
  (∀ (n : Fin 4) (s : State), s.pinModeV n = false → s.axen n = true →
    Answers (.governingEnableFall n none) s (fun t => t.axen n = false ∧ (∀ m, m ≠ n → t.axen m = s.axen m) ∧
      (∀ b, t.bridge n b = (s.bridge n b).allOff s.frame.tickBase (s.ps n 0x11)) ∧ (∀ m, m ≠ n → t.gate.get m = s.gate.get m) ∧
      ((s.seq n = .ready ∨ s.seq n = .d1) → (t.gate.get n).fallNote = true))) ∧
  (∀ (n b : Fin 4) (s : State), s.pinModeV n = true → (s.pins.pinEn.get n).get b = true →
    Answers (.governingEnableFall n (some b)) s (fun t => (t.pins.pinEn.get n).get b = false ∧ t.bridge n b = (s.bridge n b).allOff s.frame.tickBase (s.ps n 0x11) ∧
      (∀ k, k ≠ b → (t.pins.pinEn.get n).get k = (s.pins.pinEn.get n).get k) ∧ ∀ k, k ≠ b → t.bridge n k = s.bridge n k)) ∧
  (∀ (n : Fin 4) (s : State), s.pinModeV n = false → s.axen n = false →
    Answers (.governingEnableRise n none) s (fun t => t.axen n = true ∧ (∀ b, t.bridge n b = s.bridge n b) ∧
      (t.gate.get n).riseNote = true ∧ (s.seq n = .ready → (t.gate.get n).enBack = 2) ∧ s.only [.pins, .gate] t)) ∧
  (∀ (n b : Fin 4) (s : State), s.pinModeV n = true → (s.pins.pinEn.get n).get b = false →
    Answers (.governingEnableRise n (some b)) s (fun t => (t.pins.pinEn.get n).get b = true ∧ (t.gate.get n).enBack = (s.gate.get n).enBack ∧
      (∀ k, t.bridge n k = s.bridge n k) ∧ s.only [.pins, .gate] t)) ∧
  (∀ (n k : Fin 4) (level : Bool) (width : Moment) (vds bs : Nat) (s : State), s.pinModeV n = true → s.seq n = .ready →
    (s.pins.pinIn.get n).get k ≠ level → width.val < s.ps n 0x18 →
    Answers (.pinModeInEdge n k level width vds bs) s (fun t => t.rejects (inKey n k) = min 0xFFFF (s.rejects (inKey n k) + 1) ∧ t.gate = s.gate ∧
      t.pins.pinIn = s.pins.pinIn)) ∧
  (∀ (n k : Fin 4) (level : Bool) (width : Moment) (vds bs : Nat) (s : State), s.pinModeV n = true → s.seq n = .ready →
    (s.pins.pinIn.get n).get k ≠ level → s.ps n 0x18 ≤ width.val →
    Answers (.pinModeInEdge n k level width vds bs) s (fun t => (t.pins.pinIn.get n).get k = level ∧
      ((t.bridge n k).sw (!level)).turning = false ∧ s.only [.pins, .gate] t)) ∧
  Starts gateStatusSpec .gateStatus (fun h b u => u.hb h 12 = 1 ∧ u.gate = b.gate)

/-- ADC1, comparator windows, the ages and insertions of diagnosed items and DIAG_STATUS (R334 to R352, Tables MON-3 and MON-8); the
brake outputs (R353, R357 to R360). -/
def Obligations.MonitorComplete : Prop :=
  (∀ (conv : UnitConv) (val : Int) (slot : Option DiagSlot) (s : State), s.domReady .ana = true → s.mon.adcNext = 0 →
    Answers (.adc1Unit 0 conv val slot) s (fun t => t.power = { s.power with vm := conv.vm, vbat := val.toNat } ∧ s.only [.power, .mon, .wedge] t)) ∧
  (∀ (conv : UnitConv) (val : Int) (slot : Option DiagSlot) (s : State), s.domReady .ana = true → s.mon.adcNext ≤ 1 →
    Answers (.adc1Unit 1 conv val slot) s (fun t => t.power = { s.power with vm := conv.vm, vgd := val.toNat } ∧ s.only [.power, .mon, .wedge] t)) ∧
  (∀ (conv : UnitConv) (val : Int) (slot : Option DiagSlot) (s : State), s.domReady .ana = true → s.mon.adcNext ≤ 2 →
    Answers (.adc1Unit 2 conv val slot) s (fun t => t.power = { s.power with vm := conv.vm, vreg5 := val } ∧ s.only [.power, .mon, .wedge] t)) ∧
  (∀ (conv : UnitConv) (val : Int) (slot : Option DiagSlot) (s : State), s.domReady .ana = true → s.mon.adcNext ≤ 3 →
    Answers (.adc1Unit 3 conv val slot) s (fun t => t.power = { s.power with vm := conv.vm, vreg33 := val } ∧ s.only [.power, .mon, .wedge] t)) ∧
  (∀ (conv : UnitConv) (val : Int) (slot : Option DiagSlot) (s : State), s.domReady .ana = true → s.mon.adcNext ≤ 4 →
    Answers (.adc1Unit 4 conv val slot) s (fun t => t.power = { s.power with vm := conv.vm, vcore := val } ∧ s.only [.power, .mon, .wedge] t)) ∧
  (∀ (u : Fin 25) (w : Fin 4) (conv : UnitConv) (val : Int) (slot : Option DiagSlot) (s : State), s.domReady .ana = true → s.mon.adcNext ≤ u.val → u.val = 6 + w.val →
    Answers (.adc1Unit u conv val slot) s (fun t => t.power = { s.power with vm := conv.vm } ∧ t.mon.win = s.mon.win.set w val ∧
      t.mon.caps = fit 8 0 conv.caps ∧ t.mon.adcNext = u.val + 1 ∧
      (∀ n : Fin 4, s.mon.tests.get n = none → (s.wedge.get n).open_.isSome = true →
        t.wedge.get n = { s.wedge.get n with
          capSum := ((s.wedge.get n).capSum.1 + conv.caps.getD (2 * n.val) 0, (s.wedge.get n).capSum.2 + conv.caps.getD (2 * n.val + 1) 0), capN := (s.wedge.get n).capN + 1 }) ∧ s.only [.power, .mon, .wedge] t)) ∧
  (∀ (u : Fin 25) (conv : UnitConv) (val : Int) (slot : Option DiagSlot) (s : State), u.val < s.mon.adcNext →
    exec (.adc1Unit u conv val slot) s = .next s) ∧
  (∀ (conv : UnitConv) (val : Int) (slot : Option DiagSlot) (s : State), s.domReady .ana = true → s.mon.adcNext ≤ 5 → 1650 ≤ val → s.mon.shut = false →
    Answers (.adc1Unit 5 conv val slot) s (fun t => t.power = { s.power with vm := conv.vm, temp := val } ∧ t.mon.shut = true ∧
      (∀ n : Fin 4, (t.gate.get n).hwOff = true ∧ (t.mon.brakes.get n).on = false ∧
        ∀ b, t.bridge n b = (s.bridge n b).allOff s.frame.tickBase (s.ps n 0x11)) ∧
      t.faults.raised = s.faults.raised ++ [(0x0404, 0, 0, true)])) ∧
  (∀ (u : Fin 25) (conv : UnitConv) (uv : Nat) (val : Int) (k : Fin 2) (s : State), s.domReady .ana = true → s.mon.adcNext ≤ u.val → 10 ≤ u.val →
    (uv < 1237500 ∨ 1262500 < uv) →
    Answers (.adc1Unit u conv val (some (.reference k uv))) s (fun t => (t.item (0x20 + k.val)).state = .faulted ∧
      (t.item (0x20 + k.val)).code = 0x0403 ∧ t.faults.raised = s.faults.raised ++ [(0x0403, k.val, 0, true)])) ∧
  (∀ (w : Fin 4) (mv us : Nat) (s : State), s.par (0x4000 + 4 * w.val) ≠ 0 → s.domReady .aux = true → s.par (0x4003 + 4 * w.val) ≤ us →
    (mv < s.par (0x4001 + 4 * w.val) ∨ s.par (0x4002 + 4 * w.val) < mv) → s.mon.winOut.get w = false →
    exec (.winOutOfWindow w mv us) s = .next { s with
      mon := { s.mon with winOut := s.mon.winOut.set w true }
      faults := { s.faults with raised := s.faults.raised ++ [(0x0405, w.val, 0, true)] } }) ∧
  (∀ (w : Fin 4) (mv us : Nat) (s : State), s.par (0x4000 + 4 * w.val) ≠ 0 → s.domReady .aux = true → s.par (0x4003 + 4 * w.val) ≤ us →
    s.par (0x4001 + 4 * w.val) ≤ mv → mv ≤ s.par (0x4002 + 4 * w.val) → s.mon.winOut.get w = true →
    Answers (.winOutOfWindow w mv us) s (fun t => t.mon = { s.mon with winOut := s.mon.winOut.set w false } ∧
      t.faults.evNext = s.faults.evNext ++ [(0x0403, w.val)])) ∧
  (∀ (item : Nat) (s : State), (itemClass item = some .ref ∨ itemClass item = some .cmp) → (s.item item).state = .ok →
    (s.ageLimits ((itemClass item).getD .coil)).1 ≤ (s.item item).age →
    Answers (.diagAgeLimit item) s (fun t => (t.item item).state = .undiagnosed ∧
      ∃ a, t.faults.raised = s.faults.raised ++ [(0x0A01, item, a, true)])) ∧
  (∀ (item : Nat) (val : Int) (s : State), (s.item item).state = .ageing → (s.item item).insNow = false → insertAxis item = none →
    s.insertOk item = true → s.insertRuns item = false →
    Answers (.diagInsertion item val) s (fun t => s.only [.mon] t ∧ (t.item item).inserts = min 0xFFFF ((s.item item).inserts + 1) ∧
      (t.item item).insNow = true ∧ (itemClass item = some .brake → (t.mon.brakes.get (Fin.ofNat 4 item)).stretchAt = some (s.frame.counter + 1)))) ∧
  (∀ (item : Nat) (val : Int) (s : State), itemClass item = some .brake → s.insertRuns item = true → s.inService item = true →
    s.par (0x4026 + 8 * (item % 4)) ≤ val.toNat →
    Answers (.diagInsertion item val) s (fun t => s.only [.mon] t ∧ (t.item item).fresh = true ∧ (t.item item).byIns = true ∧
      (t.item item).last = (val.toNat : Int) ∧ (t.mon.brakes.get (Fin.ofNat 4 item)).stretchAt = none)) ∧
  Starts diagStatusSpec .diagStatus (fun h b u => u.hb h 12 = 1 ∧ u.mon = b.mon) ∧
  (∀ (b : Fin 4) (s : State), (s.mon.brakes.get b).on = true → (s.mon.brakes.get b).economy = false →
    s.ahead (s.mon.brakes.get b).onAt + (20 * s.par (0x4021 + 8 * b.val) : Nat) ≤ 0 →
    exec (.brakePullInEnd b) s = .next (s.updBrake b (fun x => { x with economy := true }))) ∧
  (∀ (b n : Fin 4) (s : State), s.par (0x4020 + 8 * b.val) = n.val → s.par (0x4025 + 8 * b.val) = 1 → (s.mon.brakes.get b).on = true →
    (s.mon.brakes.get b).waiter = none → (s.motion.get n).still = true → (s.motion.get n).state ≠ .haul →
    s.ax n 0x14 - 20 * s.par (0x4024 + 8 * b.val) ≤ (s.motion.get n).holdF →
    Answers (.brakeStillEngage b) s (fun t => (t.mon.brakes.get b).on = false ∧ (∀ c, c ≠ b → t.mon.brakes.get c = s.mon.brakes.get c) ∧ s.only [.mon] t)) ∧
  (∀ (b : Fin 4) (ma ns : Nat) (s : State), s.brakeIsOn b = true → 3000 < ma → 2000 ≤ ns →
    Answers (.hbkOvercurrent b ma ns) s (fun t => (t.mon.brakes.get b).on = false ∧ (t.mon.brakes.get b).locked = true ∧
      (∀ c, c ≠ b → t.mon.brakes.get c = s.mon.brakes.get c) ∧
      t.faults = { s.faults with raised := s.faults.raised ++ [(0x0420, b.val, s.itemAxes (8 + b.val), false)] } ∧ s.only [.mon, .faults] t)) ∧
  (∀ (b : Fin 4) (h : Nat) (s : State), (s.mon.brakes.get b).waiter = some h → s.frame.running = true → h < 32 → s.intake.hops.length = 32 →
    s.ahead (s.mon.brakes.get b).onAt + (20 * s.par (0x4023 + 8 * b.val) : Nat) ≤ 1 → s.stage h = .started →
    (∀ c, c ≠ b → (s.mon.brakes.get c).waiter ≠ some h) →
    Answers (.brakeReleaseWaitEnd b) s (fun t => (t.mon.brakes.get b).waiter = none ∧ (t.mon.brakes.get b).on = (s.mon.brakes.get b).on ∧
      (t.hop h).start = some (s.frame.counter + 1) ∧ ∀ k, k ≠ h → t.hop k = s.hop k))

/-- Off-state tests and the axis requests: enable, disable, checkpoints and the timeout of step 1 (R81, R91 to R99, R342 to R344). In part on log entry 23. -/
def Obligations.AxisSequenceComplete : Prop :=
  Starts enableAxisSpec .enableAxis (fun h b u =>
    (b.seq (b.axisOf h) = .off → u.seq (b.axisOf h) = .waiting ∧ u.power.dev = .run ∧
      (b.power.keyUsed = true → u.power.keyAt = b.power.keyAt) ∧ ∀ m, m ≠ b.axisOf h → u.seq m = b.seq m) ∧
    (b.seq (b.axisOf h) = .ready → (b.axSt (b.axisOf h)).latched = none → b.intake.hops.length = 32 → u.hb h 12 = 1 ∧ u.power = b.power) ∧
    (b.seq (b.axisOf h) = .d2 → (u.axSt (b.axisOf h)).latched = some true ∧ u.seq (b.axisOf h) = .d2)) ∧
  Starts disableAxisSpec .disableAxis (fun h b u =>
    (b.seq (b.axisOf h) = .ready → (u.axSt (b.axisOf h)).latched = some false ∧ u.seq (b.axisOf h) = .ready) ∧
    (b.seq (b.axisOf h) = .waiting → u.seq (b.axisOf h) = (if (b.axSt (b.axisOf h)).viaD3 then .d3 else .off)) ∧
    (b.seq (b.axisOf h) = .failed → u.seq (b.axisOf h) = .off) ∧
    (b.seq (b.axisOf h) = .off → b.intake.hops.length = 32 → u.hb h 12 = 1 ∧ u.seq (b.axisOf h) = .off)) ∧
  (∀ (n : Fin 4) (k : Nat) (vals : List Int) (s : State), s.seq n = .up k → k ≠ 5 → (k = 4 → (s.axSt n).bist ≠ 1) → (s.axSt n).latched = none →
    s.upDone n k vals = true → s.upVerdict n k vals = [] →
    ∃ u : State, exec (.checkpointReached (.axis n) vals) s = .next (State.settle u.settleDoms) ∧ u.seq n = .up (k + 1) ∧
      (u.axSt n).lastCp = k ∧ ∀ m, m ≠ n → u.seq m = s.seq m) ∧
  (∀ (n : Fin 4) (k code q : Nat) (rest : List (Nat × Option Nat)) (vals : List Int) (s : State), s.seq n = .up k → k ≠ 5 →
    s.upDone n k vals = true → s.upVerdict n k vals = (code, some q) :: rest →
    ∃ u : State, exec (.checkpointReached (.axis n) vals) s = .next (State.settle u.settleDoms) ∧ (u.seq n = .failed ∨ u.seq n = .off) ∧
      u.faultActive code = true) ∧
  (∀ (n : Fin 4) (vals : List Int) (s : State), s.seq n = .up 5 → (s.axSt n).latched = none → (s.axSt n).brakeAt = none →
    1 ≤ s.since (s.axSt n).stepAt →
    ∃ u : State, exec (.checkpointReached (.axis n) vals) s = .next (State.settle u.settleDoms) ∧ u.seq n = .ready ∧
      (u.motion.get n).state = .idle ∧ (u.axSt n).lastCp = 6) ∧
  (∀ (n : Fin 4) (vals : List Int) (s : State), s.seq n = .d1 → (s.axSt n).latched = none → 1 ≤ s.since (s.axSt n).stepAt → s.stillDown n = true →
    ∃ u : State, exec (.checkpointReached (.axis n) vals) s = .next (State.settle u.settleDoms) ∧ u.seq n = .d2 ∧ (u.axSt n).lastCp = 7 ∧
      ∀ b, ((u.bridge n b).hi.turning = false ∧ (u.bridge n b).lo.turning = false)) ∧
  (∀ (n : Fin 4) (vals : List Int) (s : State), s.seq n = .d2 → (s.axSt n).latched = none → 1 ≤ s.since (s.axSt n).stepAt →
    ∃ u : State, exec (.checkpointReached (.axis n) vals) s = .next (State.settle u.settleDoms) ∧ u.seq n = .d3) ∧
  (∀ (n : Fin 4) (vals : List Int) (s : State), s.seq n = .d3 → (s.axSt n).latched = none → 1 ≤ s.since (s.axSt n).stepAt →
    ∃ u : State, exec (.checkpointReached (.axis n) vals) s = .next (State.settle u.settleDoms) ∧ u.seq n = .off) ∧
  (∀ (n : Fin 4) (us : Nat) (s : State), s.seq n = .up 1 → 100 ≤ s.since (s.axSt n).stepAt →
    ∃ u : State, exec (.checkpointTimeout (.axis n) us) s = .next u.settle ∧ (u.seq n = .failed ∨ u.seq n = .off) ∧ u.faultActive 0x1301 = true) ∧
  Starts offstateTestSpec .offstateTest (fun h b u =>
    u.mon.tests.get (b.axisOf h) = some { source := 2, hop := h.val, startF := b.frame.counter + 1 } ∧
    ∀ m, m ≠ b.axisOf h → u.mon.tests.get m = b.mon.tests.get m) ∧
  (∀ (n : Fin 4) (mv : List Int) (o : OffTest) (s : State), s.mon.tests.get n = some o → o.source = 0 → s.ahead o.startF ≤ -3 →
    Answers (.offstateTestVerdict n mv) s (fun t => t.mon.tests.get n = none ∧ t.mon.rows4.get n = some (verdicts (o.averages mv)) ∧
      t.faults = s.faults ∧ ∀ m, m ≠ n → t.mon.tests.get m = s.mon.tests.get m)) ∧
  (∀ (n : Fin 4) (mv : List Int) (o : OffTest) (s : State), s.mon.tests.get n = some o → o.source = 1 → s.ahead o.startF ≤ -3 →
    Answers (.offstateTestVerdict n mv) s (fun t => t.mon.tests.get n = none ∧ ∀ m, m ≠ n → t.mon.tests.get m = s.mon.tests.get m)) ∧
  (∀ (n : Fin 4) (mv : List Int) (o : OffTest) (s : State), s.mon.tests.get n = some o → o.source = 2 → s.ahead o.startF ≤ -3 → s.stage o.hop = .started →
    cellWf s.intake.slots = true →
    ∃ u : State, exec (.offstateTestVerdict n mv) s = .next u.settle ∧ u.mon.tests.get n = none ∧ u.hb o.hop 12 = 1)

/-- Feedback channels: the majority filter and the edge-rate limit, quadrature counting, illegal transitions, timeouts, the gate, the index check and the commands (R363, R364, R366 to R391). In part on log entry 19. -/
def Obligations.FeedbackComplete : Prop :=
  (∀ (f : Nat) (l : List Bool) (was : Bool), l.length = f → majority f l was =
    (if f < 2 * (l.filter id).length then true else if 2 * (l.filter id).length < f then false else was)) ∧
  (∀ (n : Fin 4) (lines : Quad (Option LineIn)) (off : Nat) (a b : Bool) (d : Int) (s : State), s.fbMode n = 1 →
    (s.lineLevel n 0 (s.chan n).lvA (lines.get 0)).1 = a → (s.lineLevel n 1 (s.chan n).lvB (lines.get 1)).1 = b →
    (s.lineLevel n 2 (s.chan n).lvZ (lines.get 2)).1 = (s.chan n).lvZ → (s.lineLevel n 3 (s.chan n).lvX (lines.get 3)).1 = (s.chan n).lvX →
    quadStep (s.chan n).lvA (s.chan n).lvB a b = some d → d ≠ 0 →
    s.fbpI n 0x08 ≤ (s.chan n).count + (if s.fbp n 4 = 1 then -d else d) → (s.chan n).count + (if s.fbp n 4 = 1 then -d else d) ≤ s.fbpI n 0x09 →
    Answers (.feedbackEdge n lines off) s (fun t => (t.chan n).count = (s.chan n).count + (if s.fbp n 4 = 1 then -d else d) ∧
      (t.chan n).lvA = a ∧ (t.chan n).lvB = b ∧ ∀ m, m ≠ n → t.chan m = s.chan m)) ∧
  (∀ (n : Fin 4) (lines : Quad (Option LineIn)) (off : Nat) (a b : Bool) (s : State), s.fbMode n = 1 →
    (s.lineLevel n 0 (s.chan n).lvA (lines.get 0)).1 = a → (s.lineLevel n 1 (s.chan n).lvB (lines.get 1)).1 = b →
    (s.lineLevel n 2 (s.chan n).lvZ (lines.get 2)).1 = (s.chan n).lvZ → (s.lineLevel n 3 (s.chan n).lvX (lines.get 3)).1 = (s.chan n).lvX →
    quadStep (s.chan n).lvA (s.chan n).lvB a b = none →
    Answers (.feedbackEdge n lines off) s (fun t => (t.chan n).count = (s.chan n).count ∧ (t.chan n).illFlag = true ∧
      (t.chan n).ill = min 0xFFFF ((s.chan n).ill + 1) ∧ ∀ m, m ≠ n → t.chan m = s.chan m)) ∧
  (∀ (n : Fin 4) (x : LineIn) (off : Nat) (s : State), s.fbMode n ≠ 0 →
    majority (s.fbp n 2) x.samples (s.chan n).lvA = !(s.chan n).lvA → s.usesLine n 0 = true → x.held < s.fbp n 3 →
    Answers (.feedbackEdge n ⟨some x, none, none, none⟩ off) s (fun t =>
      t.rejects (113 + 8 * n.val) = min 0xFFFF (s.rejects (113 + 8 * n.val) + 1) ∧ (t.chan n).count = (s.chan n).count ∧
      (t.chan n).lvA = (s.chan n).lvA)) ∧
  (∀ (n : Fin 4) (us : Nat) (s : State), s.fbMode n = 2 → (s.chan n).lvA = (s.chan n).lvB → (s.chan n).lvB = (s.chan n).lvZ →
    s.fbp n 0x11 ≤ us → (s.chan n).causes.contains 0x0202 = false →
    Answers (.hallInvalidTimeout n us) s (fun t => t.faults = { s.faults with raised := s.faults.raised ++ [(0x0202, n.val, s.chanAxes n, true)] } ∧
      (t.chan n).causes.contains 0x0202 = true ∧ (t.chan n).count = (s.chan n).count ∧ ∀ m, m ≠ n → t.chan m = s.chan m)) ∧
  (∀ (n : Fin 4) (off : Nat) (s : State), s.fbMode n ≠ 0 → ((s.chan n).spd = .valid ∨ (s.chan n).spd = .starting) →
    5000 * s.fbp n 0x1A ≤ stampGap (s.chan n).timeFrom (stampOf (s.tickAt off)) →
    exec (.speedTimeout n off) s = .next (s.updChan n (fun c => { c with spd := .still, speed := 0 }))) ∧
  (∀ (n : Fin 4) (s : State), s.fbMode n ≠ 0 → s.fbp n 0x19 ≤ (s.chan n).gateF →
    Answers (.speedGateEnd n) s (fun t => (t.chan n).gateN = 0 ∧ (t.chan n).gateW = 0 ∧ (t.chan n).gateF = 0 ∧
      (t.chan n).count = (s.chan n).count ∧ (s.fbMode n = 5 → (t.chan n).countMode = true) ∧ ∀ m, m ≠ n → t.chan m = s.chan m)) ∧
  (∀ (n : Fin 4) (k : Nat) (pe : Int) (s : State), (s.chan n).idxCheck = some k → (s.chan n).pe = some pe → 4 ≤ k → k ≤ 20 →
    pe.natAbs ≤ s.fbp n 0x0E →
    Answers (.retainedIndexCheck n) s (fun t => (t.chan n).idxCheck = none ∧ (t.motion.get n).retained = false ∧
      ((s.motion.get n).posState = .retained → (t.motion.get n).posState = .referenced) ∧ (t.motion.get n).p = (s.motion.get n).p ∧
      ((s.motion.get n).retained = true → t.faults.events.getLast? = some (0x0103, n.val, s.frame.counter)))) ∧
  Starts fbStatusSpec .fbStatus (fun h b u => u.hb h 12 = 1 ∧
    (u.chan (Fin.ofNat 4 (b.p8 h 0))).illFlag = false ∧ (u.chan (Fin.ofNat 4 (b.p8 h 0))).count = (b.chan (Fin.ofNat 4 (b.p8 h 0))).count ∧
    (b.p8 h 1 = 1 → (u.chan (Fin.ofNat 4 (b.p8 h 0))).ill = 0 ∧ (u.chan (Fin.ofNat 4 (b.p8 h 0))).discards = 0) ∧
    ∀ m, m ≠ Fin.ofNat 4 (b.p8 h 0) → u.chan m = b.chan m) ∧
  Starts fbSetCountSpec .fbSetCount (fun h b u => u.hb h 12 = 1 ∧
    u.chan (Fin.ofNat 4 (b.p8 h 0)) = { b.chan (Fin.ofNat 4 (b.p8 h 0)) with setTo := some (b.pS32 h 4, bit (b.p8 h 1) 0) } ∧
    ∀ m, m ≠ Fin.ofNat 4 (b.p8 h 0) → u.chan m = b.chan m)

/-- Compare units and divided outputs (R392 to R403, Table CMP-9); the sensor port's reads, and the follow and port status commands
(R411 to R415, Tables CMP-5, CMP-8 and CMP-10). -/
def Obligations.CompareComplete : Prop :=
  (∀ (n : Fin 4) (u : Fin 2) (us : Nat) (s : State), (s.cmpUnit n u).pulse = true → s.cp n u 4 ≤ us →
    Answers (.comparePulseEnd n u us) s (fun t => t.cmpUnit n u = { s.cmpUnit n u with pulse := false } ∧ t.pins.aux.get n = t.auxLevel n ∧
      (∀ m, m ≠ n → t.cmp.get m = s.cmp.get m ∧ t.pins.aux.get m = s.pins.aux.get m) ∧ s.only [.cmp, .pins] t)) ∧
  (∀ (d : Fin 2) (gone : Nat) (s : State), (s.divo.get d).busy = true → s.par (divPar d 4) ≤ gone → s.par (divPar d 3) ≠ 1 → (s.divo.get d).active = true →
    Answers (.dividedOutputWidthEnd d gone) s (fun t => t.divo.get d = { s.divo.get d with active := false } ∧
      t.pins.divo.get d = (s.unitOn 4 && s.domReady .fbk && s.par (divPar d 5) == 1) ∧ s.only [.divo, .pins] t)) ∧
  (∀ (d : Fin 2) (gone : Nat) (s : State), (s.divo.get d).busy = true → s.par (divPar d 4) ≤ gone → (s.divo.get d).active = false → 0 < (s.divo.get d).backlog →
    s.par (divPar d 3) ≠ 1 →
    Answers (.dividedOutputWidthEnd d gone) s (fun t => (t.divo.get d).backlog = (s.divo.get d).backlog - 1 ∧ (t.divo.get d).active = true ∧
      t.pins.divo.get d = (s.unitOn 4 && s.domReady .fbk && s.par (divPar d 5) != 1))) ∧
  (∀ (d : Fin 2) (gone : Nat) (s : State), (s.divo.get d).busy = true → s.par (divPar d 4) ≤ gone → (s.divo.get d).active = false → (s.divo.get d).backlog = 0 →
    exec (.dividedOutputWidthEnd d gone) s = .next (s.updDiv d (fun x => { x with busy := false }))) ∧
  Starts cmpArmSpec .cmpArm (fun h b u => u.cmpUnit (b.cmpNo h).1 (b.cmpNo h).2 = { b.cmpUnit (b.cmpNo h).1 (b.cmpNo h).2 with
      arms := (b.cmpUnit (b.cmpNo h).1 (b.cmpNo h).2).arms ++ [(h.val, bit (b.p8 h 2) 0, bit (b.p8 h 2) 1, 256 * b.pS32 h 4 + (b.p8 h 3 : Int))] } ∧
    State.only [.cmp] b u) ∧
  Starts cmpStatusSpec .cmpStatus (fun h b u => u.hb h 12 = 1 ∧ u.cmp = b.cmp) ∧
  (∀ (j k : Nat) (l : List Bool) (s : State), s.unitOn 4 = true → usedSelects s.params.running = [j] → chainSlots s.params.running j = [k] →
    k < s.sensor.slots.length → l.headD true = false →
    Answers (.sensorPortRead [l]) s (fun t => (t.sensor.slots.getD k {}).status = 2 ∧
      (t.sensor.slots.getD k {}).failed = min 0xFFFF ((s.sensor.slots.getD k {}).failed + 1) ∧
      (t.sensor.slots.getD k {}).posF = (s.sensor.slots.getD k {}).posF ∧ ∀ i, i ≠ k → t.sensor.slots.getD i {} = s.sensor.slots.getD i {})) ∧
  (∀ (j k : Nat) (l : List Bool) (s : State), s.unitOn 4 = true → usedSelects s.params.running = [j] → chainSlots s.params.running j = [k] →
    k < s.sensor.slots.length → l.headD true = true → s.par 0x2404 ≠ 1 → chainTail s.params.running j ≠ 1 →
    s.slotFmt k / 65536 % 256 = 0xFF →
    Answers (.sensorPortRead [l]) s (fun t => (t.sensor.slots.getD k {}).status = 1 ∧
      (t.sensor.slots.getD k {}).failed = (s.sensor.slots.getD k {}).failed ∧ s.only [.sensor] t)) ∧
  Starts spStatusSpec .spStatus (fun h b u => u.hb h 12 = 1 ∧ u.sensor = b.sensor ∧ u.divo = b.divo) ∧
  Starts folStatusSpec .folStatus (fun h b u => u.hb h 12 = 1 ∧ u.follow = b.follow)

/-- A compare unit passes its values in the order of the count: one hit for each value inside its window, and the last value that is
reached moves on by the spacing (R394, R395). -/
def Obligations.CompareHits : Prop :=
  (∀ (n : Fin 4) (u : Fin 2) (old x : Int) (s : State), (s.cmpUnit n u).st = .armed → s.cp n u 1 = 0 → old < x →
    256 * x < (s.cmpUnit n u).v + (s.cp n u 2 : Int) → (s.cmpUnit n u).v ≤ 256 * x → s.cp n u 7 = 0 →
    vFits ((s.cmpUnit n u).v + (s.cp n u 2 : Int)) = true →
    s.cpI n u 5 ≤ passValue false (s.cmpUnit n u).v → passValue false (s.cmpUnit n u).v ≤ s.cpI n u 6 →
    ((s.cmpCountUnit n u old x).cmpUnit n u).hits = ((s.cmpUnit n u).hits + 1) % 4294967296 ∧
    ((s.cmpCountUnit n u old x).cmpUnit n u).v = (s.cmpUnit n u).v + (s.cp n u 2 : Int) ∧
    ((s.cmpCountUnit n u old x).cmpUnit n u).st = .armed)

/-- Path queries: taken into the queue, activated, ended, and ended at their deadline (R431 to R440). In part on log entry 21. -/
def Obligations.QueryComplete : Prop :=
  Starts planQuerySpec .planQuery (fun h b u => State.only [.plan] b u ∧ ∃ q : Query, u.plan = { b.plan with queue := b.plan.queue ++ [q] } ∧
    q.hop = h.val ∧ q.slot = b.p8 h 0 ∧ q.cls = b.p8 h 1 ∧ q.taken = b.frame.counter) ∧
  (∀ (q : Query) (r : List Query) (ch : Chain) (s : State), s.plan.active = none → s.plan.queue = q :: r → s.plan.chain = some ch → q.start = 1 →
    q.taken ≠ s.frame.counter → s.plan.lastEnd ≠ some s.frame.counter →
    ∃ u : State, exec .queryActivation s = .next u.settle ∧ u.plan.queue = r ∧ ∃ a : Query, u.plan.active = some a ∧ a.hop = q.hop ∧
      a.slot = q.slot ∧ a.from_ = q.given ∧ a.mapVer = s.plan.version ∧ a.active = s.frame.counter ∧ a.occ = s.plan.occ) ∧
  (∀ (q : Query) (ch : Chain) (s : State), s.plan.active = some q → s.plan.chain = some ch →
    ∃ u : State, exec .queryEnd s = .next u.settle ∧ u.plan.active = none ∧ u.plan.lastEnd = some s.frame.counter ∧ u.plan.queue = s.plan.queue ∧
      ∀ k, k ≠ Fin.ofNat 4 q.slot → u.plan.roads.get k = s.plan.roads.get k) ∧
  (∀ (q : Query) (s : State), s.plan.active = some q → s.par (0x5011 + 2 * q.cls) ≤ s.since q.active →
    ∃ u : State, exec .queryDeadline s = .next u.settle ∧ u.plan = { s.plan with active := none, lastEnd := some s.frame.counter } ∧ u.faultActive 0x0502 = true)

/-- A haul run: its start, its segments, its haul clock, holds and stops (R444 to R453, Table PLAN-6). In part on log entry 21. -/
def Obligations.RunComplete : Prop :=
  Starts planRunSpec .planRun (fun h b u => ∃ r, u.plan.run = some r ∧ r.hop = h.val ∧ r.slot = b.p8 h 0 ∧ r.seg = 0 ∧
    (r.stage = .startCheck ∨ (r.stage = .running ∧ r.lam = b.lamTop))) ∧
  (∀ (r : Run) (c : Chain) (rd : Road) (s : State), s.plan.run = some r → s.plan.chain = some c → r.stage = .startCheck →
    s.plan.roads.get (Fin.ofNat 4 r.slot) = some rd →
    (s.startChecks rd).all (fun i => match (segmentsOf rd.points)[i]? with | some e => (s.roadCtx c rd).edgeFree e.1 e.2 | none => true) = true →
    ∃ u : State, exec .runStartCheckDone s = .next u.settle ∧ ∃ r', u.plan.run = some r' ∧ r'.stage = .running ∧ r'.lam = s.lamTop ∧ r'.hop = r.hop ∧
      r'.late = s.since r.heldAt) ∧
  (∀ (r : Run) (c : Chain) (rd : Road) (f : BitVec 32) (s : State), s.plan.run = some r → s.plan.chain = some c →
    s.plan.roads.get (Fin.ofNat 4 r.slot) = some rd → r.segEnd = some f → r.stage = .running → r.heldRest = false → 0 < r.lam → s.ahead f ≤ 0 →
    (r.seg + 1 ≤ r.gen → Answers (.haulSegmentStart true) s (fun t => t.frame = s.frame ∧ t.intake = s.intake ∧ t.plan.roads = s.plan.roads ∧ t.plan.chain = s.plan.chain ∧ ∃ r', t.plan.run = some r' ∧ r'.seg = r.seg + 1 ∧ r'.haul = 0 ∧
      r'.segEnd = none ∧ r'.late = r.late + (if r.segLate then s.since f else 0))) ∧
    (∀ ready : Bool, (ready = true → r.gen < r.seg + 1) → Answers (.haulSegmentStart ready) s (fun t => t.plan.run = some { r with segLate := true } ∧ t.motion = s.motion ∧
      (r.segLate = false → t.faultActive 0x0502 = true)))) ∧
  (∀ (r : Run) (s : State), s.plan.run = some r → r.up = none → r.lam = 0 → r.stage = .stopping →
    ∃ u : State, exec .haulClockRampEnd s = .next u.settle ∧ u.plan.run = none ∧ ∀ n, (u.motion.get n).state ≠ .haul) ∧
  (∀ (r : Run) (c : Chain) (rd : Road) (s : State), s.plan.run = some r → s.plan.chain = some c → r.stage = .heldMap →
    s.plan.roads.get (Fin.ofNat 4 r.slot) = some rd →
    Answers .runRecheckDone s (fun t => ∃ r', t.plan.run = some r' ∧ r'.stage ≠ .heldMap ∧ r'.hop = r.hop ∧ r'.seg = r.seg)) ∧
  (∀ (r : Run) (s : State), s.plan.run = some r → r.stage = .heldMap → s.par 0x500E ≤ s.since r.heldAt →
    Answers .runHoldTimeout s (fun t => t.plan.run = some { r with stage := .stopping, status := 2, stopSeq := 0xFFFF })) ∧
  Starts planStopSpec .planStop (fun h b u =>
    (b.plan.run = none → u.hb h 12 = 1 ∧ u.plan = b.plan) ∧
    ∀ r, b.plan.run = some r → r.stage = .running → 
      u = { b with plan := { b.plan with run := some { r with stage := .stopping, status := 1, stopSeq := b.seqNo h, waits := r.waits ++ [(h.val, 0)] } } }) ∧
  Starts planHoldSpec .planHold (fun h b u =>
    (b.plan.run = none → u.hb h 12 = 1 ∧ u.plan = b.plan) ∧
    ∀ r, b.plan.run = some r → r.stage = .running →
      u.plan.run = some { r with stage := .heldUser, userHold := true, waits := r.waits ++ [(h.val, 1)] }) ∧
  Starts planResumeSpec .planResume (fun h b u =>
    (b.plan.run = none → u.hb h 12 = 1 ∧ u.plan = b.plan) ∧
    ∀ r, b.plan.run = some r → r.userHold = true → r.stage = .heldUser →
      (¬ (r.lam = b.lamTop ∧ r.up = none) →
        u.plan.run = some { r with stage := .running, userHold := false, waits := r.waits ++ [(h.val, 2)] }) ∧
      (r.lam = b.lamTop → r.up = none → u.plan.run = some { r with stage := .running, userHold := false } ∧ u.hb h 12 = 1))

/-- The pit map: edits, marks and loading (R420 to R426); the chain table and PLAN_ROAD (R427, R428, R442). In part on log entry 21. -/
def Obligations.MapComplete : Prop :=
  (∀ p ∈ [(0, Sys2Proof.Instr.mapEditOccupy), (1, .mapEditFree), (2, .mapEditClear)],
    Starts (mapEditSpec p.1) p.2 (fun h b u => u = { b with plan := { b.plan with edits := b.plan.edits ++ [{
      hop := h.val, op := p.1, box := b.plan.pendingDyn.voxels (decide (p.1 = 0)) (b.editBox h),
      cells := b.plan.pendingDyn.cellsOf p.1 (b.plan.pendingDyn.voxels (decide (p.1 = 0)) (b.editBox h)),
      left := b.plan.pendingDyn.cellsOf p.1 (b.plan.pendingDyn.voxels (decide (p.1 = 0)) (b.editBox h)), ready := b.frame.counter }] } })) ∧
  Starts (mapMarkSpec 3 true) .mapEditMarkValid (fun h b u => u = { b with plan := { b.plan with setValid := b.plan.setValid ++ [(h.val, true)] } }) ∧
  Starts (mapMarkSpec 4 false) .mapEditMarkInvalid (fun h b u => u = { b with plan := { b.plan with setValid := b.plan.setValid ++ [(h.val, false)] } }) ∧
  (∀ (e : Edit) (r : List Edit) (s : State), s.plan.edits = e :: r →
    s.ahead (e.ready + BitVec.ofNat 32 (1 + (e.left + 255) / 256)) ≤ 0 →
    ∃ u : State, exec .mapEditEffect s = .next u.settle ∧ u.plan.edits = updAt r 0 (fun x => x.follows e s.frame.counter) ∧ u.plan.version = s.plan.version + 1 ∧
      u.plan.dyn = s.plan.edited e.op e.box ∧ u.plan.stat = s.plan.stat ∧ u.plan.valid = s.plan.valid) ∧
  Starts mapLoadBeginSpec .mapLoadBegin (fun h b u => u.hb h 12 = 1 ∧ u.plan.loaded = false ∧ u.plan.valid = false ∧ u.plan.stat = .empty ∧
    u.plan.dyn = .empty ∧ u.plan.version = b.plan.version ∧ u.plan.stage = [] ∧ u.plan.stageLen = b.p32 h 4 ∧ u.plan.queue = [] ∧ u.plan.active = none) ∧
  Starts mapLoadCopySpec .mapLoadCopy (fun h b u => u.hb h 12 = 1 ∧
    u.plan = { b.plan with stage := cellWrite b.plan.stage (b.p32 h 4) (b.bulkBytes 0 b.host.bulkLen) }) ∧
  Starts mapLoadCommitSpec .mapLoadCommit (fun h b u =>
    (b.findingReply (readImage (cellRead b.plan.stage 0 (min mapRegion b.plan.stageLen)) b.plan.stageLen).1 = none →
      u.hb h 12 = 1 ∧ u.plan.loaded = true ∧ u.plan.version = 1 ∧ u.plan.dyn = .empty ∧ u.plan.valid = false ∧
      u.plan.stat = (readImage (cellRead b.plan.stage 0 (min mapRegion b.plan.stageLen)) b.plan.stageLen).2) ∧
    (b.findingReply (readImage (cellRead b.plan.stage 0 (min mapRegion b.plan.stageLen)) b.plan.stageLen).1 ≠ none →
      u.hb h 12 = 5 ∧ u.plan.loaded = false ∧ u.plan.valid = false)) ∧
  Starts planChainLoadSpec .planChainLoad (fun h b u => u.plan.chain = some (chainOf (b.bulkBytes 0 chainSize)) ∧ u.plan.nodes = [] ∧
    u.plan.edges = [] ∧ u.plan.storeChain = b.plan.storeChain ∧ u.intake.onVerdict.getLast?.map (fun x => x.hop) = some h.val) ∧
  Starts planChainValidateSpec .planChainValidate (fun h b u => u.hb h 12 = 1 ∧ u.plan = b.plan) ∧
  Starts planChainSaveSpec .planChainSave (fun h b u => u.hb h 12 = 1 ∧ u.plan = { b.plan with storeChain := b.plan.chain }) ∧
  Starts planChainReadSpec .planChainRead (fun h b u => u.hb h 12 = 1 ∧ u.plan = b.plan) ∧
  Starts planChainReloadSpec .planChainReload (fun h b u => u.plan.chain = b.plan.storeChain ∧ u.plan.nodes = [] ∧
    u.intake.onVerdict.getLast?.map (fun x => x.hop) = some h.val) ∧
  Starts planRoadSpec .planRoad (fun h b u => u.hb h 12 = 1 ∧ u.plan = b.plan)

/-- Bus-off of a CAN port: EV and FT at the next frame, the third within 1 s stops the port, and the recovery (R456, R516, R517). In part on log entry 22. -/
def Obligations.BusOffComplete : Prop :=
  (∀ (p : Fin 3) (tec : Nat) (s : State), p ≠ 2 → 255 < tec → s.portLive (if p = 1 then 1 else 0) = true →
    Answers (.canBusOff p tec) s (fun t => (t.ports.get (if p = 1 then 1 else 0)).busOff = true ∧
      (t.ports.get (if p = 1 then 1 else 0)).stopped = decide (3 ≤ (s.offsOf (s.ports.get (if p = 1 then 1 else 0)).offTimes).length) ∧
      (t.ports.get (if p = 1 then 1 else 0)).busOffs = inc16 (s.ports.get (if p = 1 then 1 else 0)).busOffs ∧
      ((s.ports.get (if p = 1 then 1 else 0)).claim = .held → (t.ports.get (if p = 1 then 1 else 0)).claim = .listen ∧
        (t.ports.get (if p = 1 then 1 else 0)).listenN = 4) ∧
      t.faults.raised = s.faults.raised ++ (0x0601, (if p = 1 then 2 else 1), 0, true) ::
        (if 3 ≤ (s.offsOf (s.ports.get (if p = 1 then 1 else 0)).offTimes).length then [(0x0602, (if p = 1 then 2 else 1), 0, true)] else []) ∧
      t.twin = { s.twin with pairDue := t.twin.pairDue } ∧ s.only [.ports, .twin, .faults] t)) ∧
  (∀ (tec : Nat) (s : State), 255 < tec → s.isoLive = true →
    Answers (.canBusOff 2 tec) s (fun t => t.iso.busOff = true ∧ t.iso.busOffs = inc16 s.iso.busOffs ∧ t.iso.tx = [] ∧
      t.iso.stopped = decide (3 ≤ (s.offsOf s.iso.offTimes).length) ∧ s.only [.iso, .faults, .free] t)) ∧
  (∀ (p : Fin 3) (runs : Nat) (s : State), p ≠ 2 → 128 ≤ runs → s.netOn (if p = 1 then 1 else 0) = true → (s.ports.get (if p = 1 then 1 else 0)).busOff = true →
    (s.ports.get (if p = 1 then 1 else 0)).stopped = false →
    Answers (.canBusOffRecovery p runs) s (fun t => (t.ports.get (if p = 1 then 1 else 0)).busOff = false ∧
      ((s.ports.get (if p = 1 then 1 else 0)).claim = .listen → 4 ≤ (t.ports.get (if p = 1 then 1 else 0)).listenN) ∧ s.only [.ports, .faults] t)) ∧
  (∀ (runs : Nat) (s : State), 128 ≤ runs → s.isoOn = true → s.iso.busOff = true → s.iso.stopped = false →
    Answers (.canBusOffRecovery 2 runs) s (fun t => t.iso.busOff = false ∧ t.iso.claim = .claiming ∧ t.iso.addr = s.iso.addr ∧
      t.iso.claimAt = s.frame.counter ∧ s.only [.iso, .faults] t))

/-- Index claims of a port whose segment carries no pair: listening ends, the index is held after 4 superframes, contrary claims are
answered or yielded to (Table FAB-5, R464 to R467). For a port whose segment carries no pair. In part on log entry 22. -/
def Obligations.ClaimComplete : Prop :=
  (∀ (p : Fin 2) (s : State), s.portSends p = true → (s.ports.get p).claim = .listen → (s.ports.get p).listenN = 0 →
    (s.ports.get p).barred = false → (s.ports.get p).rank = 2 →
    Answers (.claimListenEnd p) s (fun t => (t.ports.get p).claim = .claiming ∧ (t.ports.get p).want = s.par (netId p 3) ∧
      (t.ports.get p).index = s.par (netId p 3) ∧ (t.ports.get p).chunk = 0 ∧ ∀ q, q ≠ p → t.ports.get q = s.ports.get q)) ∧
  (∀ (p : Fin 2) (i : Nat) (s : State), s.portSends p = true → (s.ports.get p).claim = .listen → (s.ports.get p).listenN = 0 →
    (s.ports.get p).barred = false → (s.ports.get p).rank = 1 → (s.ports.get p).lastIdx = some i → (s.ports.get p).heard i = false →
    Answers (.claimListenEnd p) s (fun t => (t.ports.get p).claim = .claiming ∧ (t.ports.get p).want = i)) ∧
  (∀ (p : Fin 2) (s : State), s.portSends p = true → (s.ports.get p).claim = .listen → (s.ports.get p).listenN = 0 →
    (s.ports.get p).barred = false → (s.ports.get p).rank = 0 → (s.ports.get p).retry = true → (s.ports.get p).lowest = none →
    Answers (.claimListenEnd p) s (fun t => (t.ports.get p).claim = .listen ∧ (t.ports.get p).full = true ∧ (t.ports.get p).listenN = 256 ∧
      t.faultActive 0x0603 = true)) ∧
  (∀ (p : Fin 2) (s : State), s.portLive p = true → (s.ports.get p).claim = .claiming → 5 ≤ (s.ports.get p).claimN →
    Answers (.claimHeld p) s (fun t => (t.ports.get p).claim = .held ∧ (t.ports.get p).index = (s.ports.get p).want ∧
      (t.ports.get p).rank = max 1 (s.ports.get p).rank ∧
      t.ret.fabIndex.get p = some ((s.ports.get p).want, (s.portSeg p).getD 0xFFFF) ∧
      t.faults.events.getLast? = some (0x0601, ((s.portSeg p).getD 0 * 64 + (s.ports.get p).want) % 65536, s.frame.counter))) ∧
  (∀ (p : Fin 2) (f : AmFrame) (s : State), s.hears p f 1 = true → s.pairHere p = false → (s.ports.get p).claim = .held →
    getB (bodyOf f) 9 = (s.ports.get p).index → getB (bodyOf f) 8 ≠ 2 → getN (bodyOf f) 0 8 ≠ Config.uid.toNat →
    Answers (.claimReceived p f) s (fun t => (t.ports.get p).claim = .held ∧ (t.ports.get p).index = (s.ports.get p).index ∧
      (t.ports.get p).chunk = 0 ∧ (t.ports.get p).mayClaim = true ∧ ((t.ports.get p).claimDue = true ∨
        ∃ l, (t.ports.get p).queues.get 0 = l ++ asQueue none [s.claimFrame p Config.uid.toNat 0 (s.ports.get p).rank (s.ports.get p).index]))) ∧
  (∀ (p : Fin 2) (f : AmFrame) (s : State), s.hears p f 1 = true → s.pairHere p = false → (s.ports.get p).claim = .claiming →
    getB (bodyOf f) 9 = (s.ports.get p).want → (s.ports.get p).want < 64 → (s.ports.get p).rank < getB (bodyOf f) 8 → getN (bodyOf f) 0 8 ≠ Config.uid.toNat →
    Answers (.claimReceived p f) s (fun t => (t.ports.get p).claim = .listen ∧ (t.ports.get p).listenN = 4 ∧
      (t.ports.get p).heard (s.ports.get p).want = true)) ∧
  (∀ (p : Fin 2) (e : QFrame) (s : State), s.portLive p = true → ((s.ports.get p).queues.get 0).find? (fun e => (headOf e.frame).kind == 1) = some e →
    Answers (.claimErrorFrame p false) s (fun t => (t.ports.get p).mayClaim = false ∧
      (t.ports.get p).queues.get 0 = ((s.ports.get p).queues.get 0).filter (fun x => (headOf x.frame).kind != 1) ∧
      (s.pairHere p = false → (t.ports.get p).claimDue = true) ∧ s.only [.ports, .twin] t)) ∧
  (∀ (p : Fin 2) (e : QFrame) (s : State), s.portLive p = true → s.pairHere p = false →
    ((s.ports.get p).queues.get 0).find? (fun e => (headOf e.frame).kind == 1) = some e →
    Answers (.claimErrorFrame p true) s (fun t => (t.ports.get p).chunk = min 3 ((s.ports.get p).chunk + 1) ∧
      (((t.ports.get p).claimDue = true ∧ (t.ports.get p).queues.get 0 = ((s.ports.get p).queues.get 0).erase e) ∨
        (t.ports.get p).queues.get 0 = ((s.ports.get p).queues.get 0).erase e ++ asQueue none [s.claimFrame p Config.uid.toNat
          (min 3 ((s.ports.get p).chunk + 1)) (s.ports.get p).rank (if (s.ports.get p).claim = .held then (s.ports.get p).index else (s.ports.get p).want)])))

/-- Beacons: what an accepted one sets, and the timeouts (Table FAB-7, R480, R481). In part on log entry 22. -/
def Obligations.BeaconComplete : Prop :=
  (∀ (p : Fin 2) (f : AmFrame) (off : Int) (s : State), s.hears p f 0 = true → s.isRoot = false →
    (s.par (netId p 2) = 0xFFFF ∨ s.par (netId p 2) = get16 (bodyOf f) 8 % 1024) →
    (s.fab.root = none ∨ s.fab.root = some (BitVec.ofNat 64 (getN (bodyOf f) 16 8))) →
    s.acceptsBeacon p (get16 (bodyOf f) 8 / 4096) (headOf f).txidx = true →
    Answers (.beaconReceived p f off) s (fun t => (t.ports.get p).source = some (headOf f).txidx ∧
      (t.ports.get p).depth = some (get16 (bodyOf f) 8 / 4096) ∧ (t.ports.get p).bcnAt = s.frame.counter ∧
      t.fab.root = some (BitVec.ofNat 64 (getN (bodyOf f) 16 8)) ∧ ((s.ports.get p).sync ≠ .unsynced → (t.ports.get p).prevRx = some (wrapSf off)) ∧
      (s.par 0x0010 = 1 → (s.ports.get p).sync = .unsynced → (t.ports.get p).sync = .acquiring) ∧
      (∀ r, s.par 0x0010 = 1 → getB (bodyOf f) 14 % 2 = 1 → (s.ports.get p).prevRx = some r → (s.ports.get p).source = some (headOf f).txidx →
        s.since (s.ports.get p).bcnAt ≤ 25 →
        (t.ports.get p).offset = wrapSf (r - (get32 (bodyOf f) 4 : Int)) ∧
        ((s.ports.get p).sync = .acquiring → (t.ports.get p).sync =
          if (wrapSf (r - (get32 (bodyOf f) 4 : Int))).natAbs ≤ 2000 ∧ 1 ≤ (s.ports.get p).inTol then .synced else .acquiring) ∧
        ((s.ports.get p).sync = .synced ∨ (s.ports.get p).sync = .holdover → (t.ports.get p).sync =
          if 5000 < (wrapSf (r - (get32 (bodyOf f) 4 : Int))).natAbs then .acquiring else .synced)))) ∧
  (∀ (p : Fin 2) (f : AmFrame) (off : Int) (s : State), s.hears p f 0 = true → s.par (netId p 2) ≠ 0xFFFF →
    s.par (netId p 2) ≠ get16 (bodyOf f) 8 % 1024 →
    Answers (.beaconReceived p f off) s (fun t => t.faultActive 0x0604 = true ∧ (t.ports.get p).sync = (s.ports.get p).sync)) ∧
  (∀ (p : Fin 2) (s : State), s.netOn p = true → s.isRoot = false → (s.ports.get p).sync = .synced → 20 < s.since (s.ports.get p).bcnAt →
    exec (.beaconTimeout p) s = .next (s.updPort p (fun q => { q with sync := .holdover }))) ∧
  (∀ (p : Fin 2) (s : State), s.netOn p = true → s.isRoot = false → ((s.ports.get p).sync = .acquiring ∨ (s.ports.get p).sync = .holdover) →
    20 * s.par 0x6004 < s.since (s.ports.get p).bcnAt →
    Answers (.beaconTimeout p) s (fun t => (t.ports.get p).sync = .unsynced ∧ (t.ports.get p).source = none ∧ (t.ports.get p).depth = none ∧
      t.faults.events.getLast? = some (0x0603, 0, s.frame.counter)))

/-- Segments: the request of a router, the grant of the root, and its effect (R470, R471). Routes: an advertised entry is learned one
hop further, and an entry that is not refreshed becomes unreachable (R473, R474). In part on log entry 22. -/
def Obligations.SegmentComplete : Prop :=
  (∀ (p u : Fin 2) (s : State), s.upstream = some u → s.isRouter = true → s.downstream p = true → s.portSeg p = none →
    (s.ports.get p).segTimer = 0 → s.portHeld u = true → s.portSends u = true → s.portSync u = .synced → (s.ports.get u).room 0 1 = true →
    Answers (.segRequestTimer p) s (fun t => (t.ports.get p).segTimer = 64 ∧ t.fab.tag = (s.fab.tag + 1) % 256 ∧
      ((t.ports.get u).queues.get 0).length = ((s.ports.get u).queues.get 0).length + 1)) ∧
  (∀ (p : Fin 2) (f : AmFrame) (g : Nat) (s : State), s.hears p f 2 = true → (headOf f).resp = false → s.portHeld p = true → s.isRoot = true →
    s.segFor (get16 (bodyOf f) 9) = some g → (s.ports.get p).room 0 1 = true →
    Answers (.segRequest p f) s (fun t => t.fab.grants = ((g, s.frame.superframe) :: s.fab.grants).take 256 ∧
      ((t.ports.get p).queues.get 0).length = ((s.ports.get p).queues.get 0).length + 1)) ∧
  (∀ (p u : Fin 2) (f : AmFrame) (s : State), s.hears p f 2 = true → (headOf f).resp = false → s.portHeld p = true → s.isRoot = false →
    s.isRouter = true → s.upstream = some u → u ≠ p → s.portHeld u = true → (headOf f).local_ = false → (headOf f).hops ≠ 0 →
    Answers (.segRequest p f) s (fun t => t.fab.fwd = s.fab.fwd ++
      [(u, 0, p, mkFrame { headOf f with hops := (headOf f).hops - 1, nh := 0x40, txidx := (s.ports.get u).index } (bodyOf f))])) ∧
  (∀ (p d : Fin 2) (f : AmFrame) (s : State), s.hears p f 2 = true → (headOf f).resp = true → s.isRouter = true → (headOf f).dmode = 0 →
    (headOf f).dst = s.portAddr p → getN (bodyOf f) 0 8 = Config.uid.toNat → d = (if getB (bodyOf f) 8 = 2 then 1 else 0) → d ≠ p →
    get16 (bodyOf f) 9 < 1024 → s.par (netId d 2) = 0xFFFF →
    Answers (.segGrant p f) s (fun t => (t.ports.get d).segNext = some (get16 (bodyOf f) 9) ∧ s.only [.ports] t)) ∧
  (∀ (p : Fin 2) (f : AmFrame) (s : State), s.hears p f 3 = true → s.isRouter = true → get16 (bodyOf f) 0 = get16 (bodyOf f) 2 + 1 →
    6 ≤ (bodyOf f).length → both2.any (fun q => s.netOn q && s.portSeg q == some (get16 (bodyOf f) 4 / 64)) = false →
    s.fab.routes.find? (fun r => r.seg == get16 (bodyOf f) 4 / 64) = none → get16 (bodyOf f) 4 % 32 < 15 →
    Answers (.routeReceived p f) s (fun t => ∃ r ∈ t.fab.routes, r.seg = get16 (bodyOf f) 4 / 64 ∧ r.port = p.val + 1 ∧
      r.nh = (headOf f).txidx ∧ r.metric = get16 (bodyOf f) 4 % 32 + 1 ∧ r.age = 0 ∧ (t.fab.routes.length = s.fab.routes.length + 1))) ∧
  (∀ (p : Fin 2) (f : AmFrame) (s : State), s.hears p f 3 = true → s.isRouter = true → get16 (bodyOf f) 0 = get16 (bodyOf f) 2 + 1 →
    6 ≤ (bodyOf f).length → both2.any (fun q => s.netOn q && s.portSeg q == some (get16 (bodyOf f) 4 / 64)) = true →
    Answers (.routeReceived p f) s (fun t => t.fab.routes = s.fab.routes ∧ t.faultActive 0x0604 = true)) ∧
  (∀ (seg : Nat) (s : State), s.isRouter = true →
    s.fab.routes.any (fun r => r.seg == seg && decide (r.metric < 16) && decide (s.routeLife ≤ r.age)) = true →
    Answers (.routeExpiry seg) s (fun t => (∀ r ∈ t.fab.routes, r.seg = seg → r.metric = 16) ∧
      t.fab.routes.length = s.fab.routes.length ∧ ∀ r ∈ s.fab.routes, r.seg ≠ seg → r ∈ t.fab.routes))

/-- Forwarding of unicast frames, and completed transmissions (R476 to R480, R493, R496). In part on log entry 22. -/
def Obligations.ForwardComplete : Prop :=
  (∀ (p out : Fin 2) (nh : Nat) (f : AmFrame) (s : State), s.hears p f (headOf f).kind = true → s.isRouter = true →
    (headOf f).local_ = false → (headOf f).dmode = 0 → (headOf f).kind ∉ [0, 1, 3, 4, 8] → s.portHeld p = true → s.portSends p = true →
    both2.any (fun q => s.portHeld q && (headOf f).dst == s.portAddr q) = false → (headOf f).nh = (s.ports.get p).index →
    (headOf f).hops ≠ 0 → s.routeTo (headOf f).dst = some (out, nh) → s.portHeld out = true → s.par 0x6045 = 0 →
    Answers (.frameForForwarding p f) s (fun t => t.fab.fwd = s.fab.fwd ++
      [(out, Fin.ofNat 4 (headOf f).cls, p, reFrame f ((headOf f).hops - 1) nh (s.ports.get out).index)])) ∧
  (∀ (p : Fin 2) (f : AmFrame) (s : State), s.hears p f (headOf f).kind = true → s.isRouter = true →
    (headOf f).local_ = false → (headOf f).dmode = 0 → (headOf f).kind ∉ [0, 1, 3, 4, 8] → s.portHeld p = true → s.portSends p = true →
    both2.any (fun q => s.portHeld q && (headOf f).dst == s.portAddr q) = false → (headOf f).nh = (s.ports.get p).index →
    (headOf f).hops = 0 →
    Answers (.frameForForwarding p f) s (fun t => t.fab.fwd = s.fab.fwd ∧ (t.ports.get p).hopDrops = inc16 (s.ports.get p).hopDrops)) ∧
  (∀ (p : Fin 2) (f : AmFrame) (s : State), s.hears p f (headOf f).kind = true → s.isRouter = true →
    (headOf f).local_ = false → (headOf f).dmode = 0 → (headOf f).kind ∉ [0, 1, 3, 4, 8] → s.portHeld p = true → s.portSends p = true →
    both2.any (fun q => s.portHeld q && (headOf f).dst == s.portAddr q) = false → (headOf f).nh = (s.ports.get p).index →
    (headOf f).hops ≠ 0 → s.routeTo (headOf f).dst = none →
    Answers (.frameForForwarding p f) s (fun t => t.fab.fwd = s.fab.fwd ∧ (t.ports.get p).routeDrops = inc16 (s.ports.get p).routeDrops)) ∧
  (∀ (p : Fin 2) (off gone : Nat) (f : AmFrame) (s : State), s.portSends p = true → s.clock.settle = none → (s.ports.get p).bcnTx = some f →
    gone ≤ 10000 * s.frame.index + off → 10000 * s.frame.index + off < gone + 10000 →
    exec (.canFrameTransmitted p.castSucc 1 off gone) s = .next (s.updPort p (fun q =>
      { q with bcnTx := none, ptx := some ((10000 * s.frame.index + off - gone) * 2 / 5 * 25 / 2), lastTx := some f }))) ∧
  (∀ (p : Fin 2) (cls : Fin 4) (off gone : Nat) (e : QFrame) (s : State), s.offered p = some (cls, e) → s.portSends p = true →
    s.clock.settle = none → gone + 10000 * max 1 (s.cyclicWindow p) ≤ 10000 * s.frame.index + off →
    ((10000 * s.frame.index + off : Nat) : Rat) + 200 * busTime (s.par (netId p 0)) (s.par (netId p 1)) e.frame.data.length ≤ 200000 + (gone : Rat) →
    Answers (.canFrameTransmitted p.castSucc cls off gone) s (fun t => (e.hop = none → if (headOf e.frame).kind = 1 then ∀ x ∈ (t.ports.get p).queues.get 0, (headOf x.frame).kind ≠ 1
        else (t.ports.get p).queues.get cls = ((s.ports.get p).queues.get cls).erase e) ∧
      (t.ports.get p).sentN.get cls = inc16 ((s.ports.get p).sentN.get cls) ∧ (t.ports.get p).lastTx = some e.frame ∧
      ((headOf e.frame).kind = 1 → s.pairHere p = false → (t.ports.get p).chunk = 0) ∧
      (∀ h, e.hop = some h → h < 32 → e.last = true → s.stage h = .started → t.stage h ≠ .started))) ∧
  (∀ (cls : Fin 4) (off gone : Nat) (s : State), s.unitOn 7 = true → s.iso.busOff = false → s.iso.stopped = false → s.iso.listenOnly = false →
    s.clock.settle = none → s.clock.pllc = .locked →
    exec (.canFrameTransmitted 2 cls off gone) s = .next { s with iso := { s.iso with tx := s.iso.tx.drop 1 } })

/-- Messages to the device in one frame: a CMD enters a hopper or is refused, a DATA enters the queue of NET_RECV; a message that
does not complete is dropped, a CYCLIC frame is kept for the boundary and a NACK is counted (R490, R491, R494, R495, R513). In part on log entry 22. -/
def Obligations.MessageComplete : Prop :=
  (∀ (p : Fin 2) (f : AmFrame) (h : Nat) (s : State), s.hears p f 5 = true → s.forMe p (headOf f) = true → s.forPair (headOf f) = false →
    (headOf f).dmode ≠ 1 → (headOf f).dmode ≠ 2 → s.portHeld p = true → s.portSends p = true → (headOf f).fseq = 0 → (headOf f).more = false →
    s.fab.asms.find? (fun x => x.port == p.val + 1 && x.src == (headOf f).src && x.tag == (headOf f).tag) = none →
    12 + getB (bodyOf f) 6 ≤ (bodyOf f).length → s.virtualFree 16 8 = some h → s.intake.hops.length = 32 → s.virtualHeld 16 8 (headOf f).src < s.par 0x0072 →
    Answers (.fabricCmd p f) s (fun t => t.stage h = .rung ∧ (t.hop h).srcAddr = (headOf f).src ∧ (t.hop h).port = p.val + 1 ∧
      (t.hop h).tag = (headOf f).tag ∧ ∀ k, k < 32 → k ≠ h → t.hop k = s.hop k)) ∧
  (∀ (p : Fin 2) (f : AmFrame) (s : State), s.hears p f 5 = true → s.forMe p (headOf f) = true → s.forPair (headOf f) = false →
    (headOf f).dmode ≠ 1 → (headOf f).dmode ≠ 2 → s.portHeld p = true → s.portSends p = true → (headOf f).fseq = 0 → (headOf f).more = false →
    s.fab.asms.find? (fun x => x.port == p.val + 1 && x.src == (headOf f).src && x.tag == (headOf f).tag) = none →
    12 + getB (bodyOf f) 6 ≤ (bodyOf f).length → getB (bodyOf f) 6 ≤ 112 → s.virtualFree 16 8 = none →
    Answers (.fabricCmd p f) s (fun t => (t.intake.counts.get 1).refused = (s.intake.counts.get 1).refused + 1 ∧
      t.intake.slots = s.intake.slots ∧ ∀ k, t.hop k = s.hop k)) ∧
  (∀ (p : Fin 2) (f : AmFrame) (s : State), s.hears p f 0xB = true → s.forMe p (headOf f) = true → (headOf f).fseq = 0 → (headOf f).more = false →
    s.fab.asms.find? (fun x => x.port == p.val + 1 && x.src == (headOf f).src && x.tag == (headOf f).tag) = none →
    Answers (.dataReceived p f) s (fun t =>
      t.fab.recv = (if 16 ≤ s.fab.recv.length then s.fab.recv else s.fab.recv ++ [{ port := p.val + 1, src := (headOf f).src, dmode := (headOf f).dmode, cls := (headOf f).cls, body := bodyOf f }]) ∧
      t.fab.recvLost = (if 16 ≤ s.fab.recv.length then s.fab.recvLost + 1 else s.fab.recvLost))) ∧
  (∀ (p : Fin 2) (src tag : Nat) (s : State),
    s.fab.asms.any (fun x => x.port == p.val + 1 && x.src == src && x.tag == tag && decide (80 ≤ s.since x.at_)) = true →
    Answers (.reassemblyTimeout p src tag) s (fun t => (t.ports.get p).failed =
        (if s.fab.asms.any (fun x => x.port == p.val + 1 && x.src == src && x.tag == tag && !x.dead) then inc16 (s.ports.get p).failed
         else (s.ports.get p).failed) ∧
      t.fab.asms = s.fab.asms.filter (fun x => !(x.port == p.val + 1 && x.src == src && x.tag == tag)) ∧ s.only [.ports, .fab] t)) ∧
  (∀ (p : Fin 2) (f : AmFrame) (tb : Sched) (e : SchedEntry) (s : State), s.hears p f 4 = true → (s.ports.get p).sched = some tb →
    tb.entries.find? (fun e => e.slot == (headOf f).disc) = some e → (headOf f).cls = e.cls → s.consumes p e = true →
    Answers (.cyclicReceived p f) s (fun t => (t.ports.get p).rxCyc.getLast? = some (e.slot, (bodyOf f).take e.len) ∧
      (t.ports.get p).latched = (s.ports.get p).latched ∧ s.only [.ports] t)) ∧
  (∀ (p : Fin 2) (f : AmFrame) (s : State), s.hears p f 9 = true → s.forMe p (headOf f) = true → 1 ≤ getB (bodyOf f) 0 → getB (bodyOf f) 0 ≤ 4 →
    Answers (.nackReceived p f) s (fun t => (t.ports.get p).nackRx.get (Fin.ofNat 4 (getB (bodyOf f) 0 - 1)) =
      inc16 ((s.ports.get p).nackRx.get (Fin.ofNat 4 (getB (bodyOf f) 0 - 1))) ∧ t.fab.nackSeen = true ∧
      (s.fab.nackSeen = false → t.faults.events.getLast? = some (0x0628, getB (bodyOf f) 0, s.frame.counter))))

/-- Partner loss: a heartbeat keeps a watch alive, its deadline and the word of a router lose it (R508, R509, Table EDGE-3). In part on log entry 22. -/
def Obligations.WatchComplete : Prop :=
  (∀ (p : Fin 2) (f : AmFrame) (w : Nat) (s : State), s.hears p f 8 = true → w ∈ s.watchesOf (headOf f).src →
    Answers (.hbeatReceived p f) s (fun t => (t.fab.watches.getD w {}).st = .alive ∧ (t.fab.watches.getD w {}).since = s.frame.superframe ∧
      (t.fab.watches.getD w {}).period = get16 (bodyOf f) 4)) ∧
  (∀ (p : Fin 2) (addr w : Nat) (s : State), s.isRouter = false → s.netOn p = true → s.portSeg p = some (addr / 64) → w ∈ s.watchesOf addr →
    ((s.fab.watches.getD w {}).st = .unknown ∨ (s.fab.watches.getD w {}).st = .alive) →
    s.overdue (s.fab.watches.getD w {}).since (s.fab.watches.getD w {}).period = true →
    Answers (.heartbeatDeadline p addr) s (fun t => (t.fab.watches.getD w {}).st = .lost ∧
      t.faults.events.getLast? = some (0x0620, addr % 65536, s.frame.counter))) ∧
  (∀ (p : Fin 2) (f : AmFrame) (w : Nat) (s : State), s.hears p f 7 = true → (headOf f).dmode = 2 → getB (bodyOf f) 0 = 1 →
    s.remote (get16 (bodyOf f) 6) = true → w ∈ s.watchesOf (get16 (bodyOf f) 6) →
    Answers (.evtReceived p f) s (fun t => (get16 (bodyOf f) 4 = 0x0620 → (t.fab.watches.getD w {}).st = .lost) ∧
      (get16 (bodyOf f) 4 = 0x0621 → (t.fab.watches.getD w {}).st = .alive)))

/-- NET commands: what each answers and changes (R487, R493, R512; Tables FAB-8 to FAB-11). In part on log entry 22. -/
def Obligations.NetCommandComplete : Prop :=
  Starts netStatusSpec .netStatus (fun h b u => u.hb h 12 = 1 ∧ u.free = b.free + 2) ∧
  Starts netRouteSpec .netRoute (fun h b u => u.hb h 12 = 1 ∧ u.fab.routes = b.fab.routes) ∧
  Starts netQstatSpec .netQstat (fun h b u => u.hb h 12 = 1 ∧
    (h.val < 28 → b.p8 h 1 = 1 → (u.ports.get (b.portByte h)).policed = 0 ∧ (u.ports.get (b.portByte h)).nackTx = 0 ∧
      (u.ports.get (b.portByte h)).dropsPerClass = Quad.all 0 ∧ (u.ports.get (b.portByte h)).nackRx = Quad.all 0 ∧ u.fab.evtLost = 0) ∧
    (h.val < 28 → b.p8 h 1 = 0 → (u.ports.get (b.portByte h)).dropsPerClass = (b.ports.get (b.portByte h)).dropsPerClass ∧ u.fab.evtLost = b.fab.evtLost)) ∧
  Starts netWatchSpec .netWatch (fun h b u => u.hb h 12 = 1 ∧ u.fab.watches = b.fab.watches) ∧
  Starts netSendSpec .netSend (fun h b u =>
    (∀ p : Fin 2, b.p8 h 0 = p.val + 1 → b.netOn p = false → u = b.finish h 2 0xFFFF []) ∧
    (∀ (p : Fin 2) (c : Fin 4), b.p8 h 0 = p.val + 1 → b.netOn p = true → b.p8 h 5 = c.val →
      (b.ports.get p).room c (msgFrames (b.ownHead p c.val 0xB (b.p8 h 1) (b.p16 h 2) b.fab.tag false) (b.pBytes h 8 (b.p8 h 6))).length = true →
      u.fab.tag = (b.fab.tag + 1) % 256 ∧ (u.ports.get p).queues.get c = (b.ports.get p).queues.get c ++
        asQueue (some h.val) (msgFrames (b.ownHead p c.val 0xB (b.p8 h 1) (b.p16 h 2) b.fab.tag false) (b.pBytes h 8 (b.p8 h 6))))) ∧
  Starts netRecvSpec .netRecv (fun h b u => u.hb h 12 = 1 ∧ u.fab.recv = b.fab.recv.drop 1) ∧
  Starts netSchedLoadSpec .netSchedLoad (fun h b u => (u.ports.get (b.schedPort h)).sched = some (schedOf b.schedBulk) ∧
    (u.ports.get (b.schedPort h)).storeSched = (b.ports.get (b.schedPort h)).storeSched ∧
    u.intake.onVerdict.getLast?.map (fun x => x.hop) = some h.val ∧ ∀ q, q ≠ b.schedPort h → u.ports.get q = b.ports.get q) ∧
  Starts netSchedValidateSpec .netSchedValidate (fun h b u => u = b.doneWith h []) ∧
  Starts netSchedSaveSpec .netSchedSave (fun h b u => u.hb h 12 = 1 ∧
    (u.ports.get (b.schedPort h)).storeSched = (b.ports.get (b.schedPort h)).sched ∧
    (u.ports.get (b.schedPort h)).sched = (b.ports.get (b.schedPort h)).sched) ∧
  Starts netSchedReadSpec .netSchedRead (fun h b u => ∀ t, (b.ports.get (b.schedPort h)).sched = some t → u = b.doneBulk h t.bytes) ∧
  Starts netSchedReloadSpec .netSchedReload (fun h b u => (u.ports.get (b.schedPort h)).sched = (b.ports.get (b.schedPort h)).storeSched ∧
    u.intake.onVerdict.getLast?.map (fun x => x.hop) = some h.val)

/-- Network sleep: plans, sleep instants and listen windows (R498 to R505, Table EDGE-1). In part on log entry 22. -/
def Obligations.SleepComplete : Prop :=
  Starts netSleepAnnounceSpec .netSleepAnnounce (fun h b u => u.hb h 12 = 1 ∧ u.fab.plan = some (sleepPlanOf b h) ∧
    u.fab.announce = some 0 ∧ u.fab.annTimer = 4 ∧ u.ret.plan = some (sleepPlanOf b h)) ∧
  Starts netSleepCancelSpec .netSleepCancel (fun h _ u => u.hb h 12 = 1 ∧ u.fab.plan = none ∧ u.fab.announce = none ∧ u.ret.plan = none) ∧
  Starts netSleepStatusSpec .netSleepStatus (fun h b u => u.hb h 12 = 1 ∧ u.fab.plan = b.fab.plan ∧ u.ret = b.ret) ∧
  (∀ (p : Fin 2) (f : AmFrame) (s : State), s.hears p f 0xA = true → s.fab.root = some (BitVec.ofNat 64 (getN (bodyOf f) 16 8)) →
    Answers (.sleepReceived p f) s (fun t =>
      (getB (bodyOf f) 0 = 1 → t.fab.plan = none ∧ t.ret.plan = none) ∧
      (getB (bodyOf f) 0 = 0 → ∃ pl, t.fab.plan = some pl ∧ pl.awake = get16 (bodyOf f) 2 ∧ pl.start = BitVec.ofNat 32 (get32 (bodyOf f) 4) ∧
        pl.cycle = get32 (bodyOf f) 8 ∧ pl.guard = get16 (bodyOf f) 12 ∧ pl.count = get16 (bodyOf f) 14 ∧ some pl.root = s.fab.root))) ∧
  (∀ (p : Fin 2) (f : AmFrame) (s : State), s.hears p f 0xA = true → s.fab.root ≠ some (BitVec.ofNat 64 (getN (bodyOf f) 16 8)) →
    Answers (.sleepReceived p f) s (fun t => t.fab.plan = s.fab.plan ∧ (t.ports.get p).discards = inc16 (s.ports.get p).discards ∧ s.only [.ports] t)) ∧
  (∀ (pl : SleepPlan) (s : State), s.fab.plan = some pl → s.frame.running = true → s.fab.woken = false → s.unitOn 8 = false → s.instantNow pl = true →
    pl.has (s.nextWake pl) = true → s.power.dev ≠ .run → s.power.change = none → 28 * s.sleepDepth + 8 ≤ pl.awake →
    Answers .sleepInstant s (fun t => t.power.change = some (if s.par 0x6043 = 0 then .sleep else .standby) ∧ t.fab.wakeK = s.nextWake pl ∧
      t.fab.plan = some pl ∧ 1 ≤ t.power.wakeTime)) ∧
  (∀ (pl : SleepPlan) (s : State), s.fab.plan = some pl → s.frame.running = true → s.fab.woken = false → s.unitOn 8 = false → s.instantNow pl = true →
    pl.has (s.nextWake pl) = true → s.power.dev = .run →
    Answers .sleepInstant s (fun t => t.power = s.power ∧ t.fab.plan = some pl ∧
      t.faults.events.getLast? = some (0x0625, 0, s.frame.counter))) ∧
  (∀ (pl : SleepPlan) (s : State), s.fab.plan = some pl → s.frame.running = true → s.fab.woken = false → s.instantNow pl = true → pl.has (s.nextWake pl) = false →
    Answers .sleepInstant s (fun t => t.fab.plan = none ∧ t.ret.plan = none ∧ t.power = s.power)) ∧
  (∀ (pl : SleepPlan) (s : State), s.fab.plan = some pl → s.frame.running = true → s.fab.woken = true → s.fab.listening = false →
    s.fab.interim = false → 0 ≤ sgn 32 (s.frame.superframe - s.fab.winEnd).toNat → pl.cycle ≤ 2 * pl.guard * 2 ^ (s.fab.m + 1) →
    Answers .listenWindowEnd s (fun t => t.fab.m = s.fab.m + 1 ∧ t.fab.listening = true ∧ t.faultActive 0x0620 = true ∧ t.power = s.power)) ∧
  (∀ (pl : SleepPlan) (s : State), s.fab.plan = some pl → s.frame.running = true → s.fab.woken = true → s.fab.listening = false →
    s.fab.interim = false → 0 ≤ sgn 32 (s.frame.superframe - s.fab.winEnd).toNat → 2 * pl.guard * 2 ^ (s.fab.m + 1) < pl.cycle → pl.has (s.fab.wakeK + 1) = true → s.power.change = none →
    Answers .listenWindowEnd s (fun t => t.fab.m = s.fab.m + 1 ∧ t.fab.wakeK = s.fab.wakeK + 1 ∧ t.power.change.isSome = true ∧
      t.faults.events.getLast? = some (0x0624, s.fab.m % 65536, s.frame.counter))) ∧
  (∀ (pl : SleepPlan) (s : State), s.fab.plan = some pl → s.frame.running = true → s.fab.woken = true → s.fab.interim = true → pl.awake ≤ (s.frame.superframe - s.fab.wokeAt).toNat → s.power.change = none →
    Answers .interimListenEnd s (fun t => t.fab.wakeK = s.fab.wakeK ∧ t.power.change = some (if s.par 0x6043 = 0 then .sleep else .standby) ∧
      s.only [.fab, .power] t))

/-- ISOBUS address claim (R517, R518, Table EDGE-7); requests, the status message, the transport protocol, commands, speed and
ISO_STATUS (R519 to R523). In part on log entry 22. -/
def Obligations.IsoClaimComplete : Prop :=
  (∀ (f : IsoFrame) (s : State), s.isoLive = true → isoPgn f = 0xEE00 → f.data.length = 8 → f.classic = true → isoSrc f = s.iso.addr →
    (s.iso.claim = .claiming ∨ s.iso.claim = .held) → s.isoName < getN f.data 0 8 →
    Answers (.addressClaimed f) s (fun t => t.iso.claim = s.iso.claim ∧ t.iso.addr = s.iso.addr ∧
      (s.isoBarred = false → t.iso.tx = s.iso.tx ++ [isoMsg 6 0xEE00 255 s.iso.addr (leBytes 8 s.isoName)]) ∧ s.only [.iso] t)) ∧
  (∀ (f : IsoFrame) (s : State), s.isoLive = true → isoPgn f = 0xEE00 → f.data.length = 8 → f.classic = true → isoSrc f = s.iso.addr →
    (s.iso.claim = .claiming ∨ s.iso.claim = .held) → getN f.data 0 8 < s.isoName →
    Answers (.addressClaimed f) s (fun t =>
      (t.iso.claim = .claiming ∧ t.iso.addr ≠ s.iso.addr ∧ 128 ≤ t.iso.addr ∧ t.iso.addr ≤ 247 ∧ s.isoName.testBit 63 = true) ∨
      (t.iso.claim = .cannot ∧ t.iso.cannotDue = true ∧ t.faultActive 0x0703 = true))) ∧
  (∀ s : State, s.isoLive = true → s.iso.claim = .claiming → 5000 ≤ s.since s.iso.claimAt →
    Answers .isoClaimTimer s (fun t => t.iso.claim = .held ∧ t.iso.addr = s.iso.addr ∧ t.iso.heldAt = s.frame.superframe ∧
      t.faults.events.getLast? = some (0x0701, s.iso.addr % 65536, s.frame.counter))) ∧
  (∀ s : State, s.isoLive = true → s.iso.claim = .cannot → s.iso.cannotDue = true → 12 * (Config.uid.toNat % 256) ≤ s.since s.iso.cannotAt →
    Answers .cannotClaimAddress s (fun t => t.iso.cannotDue = false ∧ t.iso.claim = .cannot ∧
      (s.isoBarred = false → t.iso.tx = s.iso.tx ++ [isoMsg 6 0xEE00 255 254 (leBytes 8 s.isoName)]) ∧ s.only [.iso] t)) ∧
  (∀ (src : Nat) (data : List Byte) (s : State), s.isoLive = true → data.length = 9 → getN data 0 8 = s.isoName → src ≠ s.iso.addr →
    s.svc.winBound = true → s.svc.window.isSome = true → getB data 8 ≤ 253 →
    Answers (.commandedAddress src data) s (fun t => t.iso.claim = .claiming ∧ t.iso.addr = getB data 8 ∧ t.iso.claimAt = s.frame.counter ∧
      t.params.working = tabSet s.params.working 0x7001 (getB data 8) (pDefault 0x7001))) ∧
  (∀ (src : Nat) (data : List Byte) (s : State), s.isoLive = true → data.length = 9 → getN data 0 8 = s.isoName → src ≠ s.iso.addr →
    s.svc.window = none →
    Answers (.commandedAddress src data) s (fun t => t.iso = s.iso ∧ t.params = s.params ∧
      t.faults.events.getLast? = some (0x0703, 1, s.frame.counter))) ∧
  (∀ (f : IsoFrame) (s : State), s.isoLive = true → isoPgn f = 0xEA00 → 3 ≤ f.data.length → f.classic = true → s.iso.claim = .held → s.isoBarred = false →
    (isoDst f = s.iso.addr ∨ isoDst f = 255) → getN f.data 0 3 = 0xEE00 →
    exec (.isoRequest f) s = .next { s with iso := { s.iso with tx := s.iso.tx ++ [isoMsg 6 0xEE00 255 s.iso.addr (leBytes 8 s.isoName)] } }) ∧
  (∀ (f : IsoFrame) (s : State), s.isoLive = true → isoPgn f = 0xEA00 → 3 ≤ f.data.length → f.classic = true → s.iso.claim = .held → s.isoBarred = false →
    isoDst f = s.iso.addr → getN f.data 0 3 ≠ 0xEE00 → getN f.data 0 3 ≠ 0xFF00 + s.par 0x7002 →
    exec (.isoRequest f) s = .next { s with iso := { s.iso with tx := s.iso.tx ++
      [isoMsg 6 0xE800 255 s.iso.addr ([1, 0xFF, 0xFF, 0xFF] ++ b8 (isoSrc f) ++ pgn3 (getN f.data 0 3))] } }) ∧
  (∀ s : State, s.isoLive = true → s.iso.claim = .held → s.par 0x7003 ≠ 0 → s.frame.index = 0 →
    (s.frame.superframe - s.iso.heldAt).toNat % s.par 0x7003 = 0 → s.iso.statAt ≠ some s.frame.superframe →
    Answers .isoStatusTimer s (fun t => t.iso.statAt = some s.frame.superframe ∧ t.iso.counter = (s.iso.counter + 1) % 16 ∧
      (s.isoBarred = false → t.iso.tx.length = s.iso.tx.length + 1) ∧ s.only [.iso] t)) ∧
  (∀ (f : IsoFrame) (s : State), s.isoLive = true → f.classic = true → isoPgn f = 60416 → getB f.data 0 = 32 → isoDst f = 255 → 9 ≤ get16 f.data 1 →
    get16 f.data 1 ≤ 1785 → (s.iso.sessions.filter (fun t => t.rx && t.bam)).length < 2 →
    Answers (.isoTransportFrame f) s (fun t => t.iso.sessions.getLast? = some { peer := isoSrc f, rx := true, bam := true, pgn := getN f.data 5 3, size := get16 f.data 1, next := 1, body := [] } ∧ s.only [.iso] t)) ∧
  (∀ (peer : Nat) (rx bam : Bool) (s : State), s.iso.sessions.any (fun t => t.rx == rx && t.bam == bam && t.peer == peer) = true →
    Answers (.isoTransportTimeout peer rx bam) s (fun t => t.iso.aborts = inc16 s.iso.aborts ∧
      t.iso.sessions = s.iso.sessions.filter (fun t => !(t.rx == rx && t.bam == bam && t.peer == peer)) ∧
      t.faults.events.getLast? = some (0x0704, 3, s.frame.counter))) ∧
  (∀ (src h : Nat) (data : List Byte) (s : State), s.isoLive = true → s.par 0x7005 = 1 → (s.par 0x7006 = 255 ∨ s.par 0x7006 = src) →
    s.iso.claim = .held → data.length = 16 + getB data 10 → data.take 4 = [0x4B, 0x4D, 1, 0] → s.virtualFree 24 4 = some h →
    s.intake.hops.length = 32 → s.virtualHeld 24 4 src < 2 →
    Answers (.isoCommand src data) s (fun t => t.stage h = .rung ∧ (t.hop h).srcAddr = src ∧ ∀ k, k ≠ h → t.hop k = s.hop k)) ∧
  (∀ (src : Nat) (data : List Byte) (s : State), s.isoLive = true → s.par 0x7005 ≠ 1 →
    exec (.isoCommand src data) s = .next { s with iso := { s.iso with ignored := inc16 s.iso.ignored } }) ∧
  (∀ (f : IsoFrame) (k : Fin 2) (s : State), s.isoLive = true → isoPgn f = 65097 - k.val → f.data.length = 8 → f.classic = true →
    (s.par 0x7007 = 255 ∨ s.par 0x7007 = isoSrc f) →
    Answers (.isoSpeedMessage f) s (fun t => t.iso.speed.get k = some (get16 f.data 0, getB f.data 7 % 4, isoSrc f) ∧
      t.iso.newest = some (get16 f.data 0, isoSrc f) ∧ t.iso.spdAt.get k = s.frame.counter ∧
      ∀ j, j ≠ k → t.iso.speed.get j = s.iso.speed.get j)) ∧
  Starts isoStatusSpec .isoStatus (fun h b u => u.hb h 12 = 1 ∧ u.free = b.free + 1 ∧ u.iso.claim = b.iso.claim ∧ u.iso.addr = b.iso.addr)

/-- The twin link and its records (R528, R529, R531, R540, R542). In part on log entry 27. -/
def Obligations.TwinRecordComplete : Prop :=
  (∀ (delay : Nat) (uid : BitVec 64) (idles : Nat) (s : State), 1000 ≤ idles → s.unitOn 8 = true → s.clock.pllt = .locked → s.twin.link ≠ .up →
    Answers (.twinLinkUp delay uid idles) s (fun t => t.twin.link = .up ∧ t.twin.delay = delay ∧ t.twin.pUid = uid ∧ t.twin.accepted = 0 ∧
      t.twin.role = s.twin.role ∧ t.faults.events.getLast? = some (0x0805, 1, s.frame.counter))) ∧
  (∀ (viol ns : Nat) (s : State), s.twin.link = .up → (8 ≤ viol ∨ 2000 ≤ ns) →
    Answers (.twinLinkDown viol ns) s (fun t => t.twin.link = (if s.clock.pllt = .locked then .training else .down) ∧ t.twin.accepted = 0 ∧
      t.twin.role = s.twin.role ∧ t.faults.events.getLast? = some (0x0805, 0, s.frame.counter))) ∧
  (∀ (r : List Byte) (off : Nat) (clean : Bool) (s : State), s.unitOn 8 = true → s.twin.link = .up → s.recordBad r off clean 0x4D 448 = false →
    Answers (.mirrorRecord r off clean) s (fun t => t.twin.recNew = r ∧ t.twin.recLast = r ∧ t.twin.accepted = inc16 s.twin.accepted ∧
      t.twin.lastFrame = s.frame.counter ∧ t.twin.lastSent = some (BitVec.ofNat 32 (get32 r 4)) ∧ t.twin.mirrorSeen = true ∧
      t.twin.pStatus = false ∧ t.twin.quiet = 0 ∧ t.twin.fpOther = BitVec.ofNat 32 (get32 r 12))) ∧
  (∀ (r : List Byte) (off : Nat) (clean : Bool) (s : State), s.unitOn 8 = true → s.twin.link = .up → s.recordBad r off clean 0x53 32 = false →
    Answers (.statusRecord r off clean) s (fun t => t.twin.recNew = s.twin.recNew ∧ t.twin.accepted = inc16 s.twin.accepted ∧
      t.twin.lastFrame = s.frame.counter ∧ t.twin.lastSent = some (BitVec.ofNat 32 (get32 r 4)) ∧ t.twin.mirrors = 0 ∧
      t.twin.pStatus = true ∧ t.twin.quiet = 0 ∧ t.twin.pReady = getB r 22 / 16)) ∧
  (∀ (r : List Byte) (off : Nat) (clean mirror : Bool) (s : State), s.unitOn 8 = true → s.twin.link = .up →
    s.recordBad r off clean (if mirror then 0x4D else 0x53) (if mirror then 448 else 32) = true →
    Answers (if mirror then .mirrorRecord r off clean else .statusRecord r off clean) s (fun t => t.twin.rejected = inc16 s.twin.rejected ∧
      t.twin.accepted = 0 ∧ t.twin.mirrors = 0 ∧ t.twin.recNew = s.twin.recNew ∧ t.twin.lastSent = s.twin.lastSent ∧ t.twin.quiet = s.twin.quiet))

/-- The interlock and the roles of a pair (R536 to R538, R540, R546, R561, Table TWIN-6). In part on log entry 27. -/
def Obligations.TwinRoleComplete : Prop :=
  (∀ s : State, s.pins.acti = true →
    Answers .actiFall s (fun t => t.pins.acti = false ∧ t.twin.quietSf = 0 ∧ t.twin.role = s.twin.role ∧ s.only [.pins, .twin, .faults] t)) ∧
  (∀ s : State, s.pins.acti = false → s.unitOn 8 = true → s.twin.acto = true → s.roleB = true →
    Answers .actiRise s (fun t => t.pins.acti = true ∧ t.twin.role = .standby ∧ t.twin.acto = false ∧ t.twin.gperm = false)) ∧
  (∀ s : State, s.pins.acti = false → s.unitOn 8 = true → s.twin.acto = true → s.roleB = false →
    Answers .actiRise s (fun t => t.pins.acti = true ∧ t.twin.role = s.twin.role ∧ t.twin.acto = true ∧
      (t.faultActive 0x0802 || t.faults.raised.any (fun r => r.1 == 0x0802)) = true)) ∧
  (∀ (us : Nat) (s : State), 100 ≤ us → s.unitOn 8 = true → s.twin.acto = true → s.pins.acti = false → s.twin.gperm = false → s.twin.role = .arming →
    Answers (.gpermSet us) s (fun t => t.twin.role = .active ∧ t.twin.gperm = true ∧
      t.faults.events.getLast? = some (0x0801, s.twin.cause % 65536, s.frame.counter))) ∧
  (∀ s : State, s.unitOn 8 = true → s.frame.running = true → (s.twin.link ≠ .up ∨ 2 ≤ s.twin.noStat) → s.twin.role = .active →
    Answers .twinPartnerTimeout s (fun t => t.faultActive 0x0801 = true ∧ t.twin = s.twin ∧ s.only [.faults, .free] t)) ∧
  (∀ s : State, s.unitOn 8 = true → s.frame.running = true → (s.twin.link ≠ .up ∨ 2 ≤ s.twin.quiet) → s.twin.role = .standby → s.pins.acti = true →
    Answers .twinPartnerTimeout s (fun t => t.faultActive 0x0803 = true ∧ t.twin = s.twin ∧ s.only [.faults] t)) ∧
  (∀ s : State, s.unitOn 8 = true → s.frame.running = true → s.twin.role = .standby → s.par 0x8003 ≠ 0 → s.pins.acti = false →
    s.faults.device = false → s.twin.switch = none → s.par 0x8003 * (if s.primary then 1 else 2) ≤ s.twin.quietSf →
    Answers .twinAloneWaitExpiry s (fun t => t.twin.role = .arming ∧ t.twin.acto = true ∧ t.twin.cause = 3 ∧ t.twin.alone = true)) ∧
  (∀ (h k : Nat) (s : State), s.twin.switch = some (h, some k) → 4 ≤ k → cellWf s.intake.slots = true →
    ∃ u : State, exec .twinSwitchTimeout s = .next u.settle ∧ u.twin.switch = none ∧ u.hb h 12 = 2 ∧ u.twin.role = s.twin.role) ∧
  Starts twinStatusSpec .twinStatus (fun h b u => u.hb h 12 = 1 ∧ u.twin = b.twin) ∧
  Starts twinSwitchSpec .twinSwitch (fun h b u => u = { b with twin := { b.twin with switch := some (h.val, none) } })

/-- FW_UPDATE: every operation does its work when it starts, and waits while the flash test runs (R570 to R576, R581, Table SVC-9). In part on log entries 6 and 26. -/
def Obligations.FirmwareComplete : Prop :=
  (∀ p ∈ [(0, true, Sys2Proof.Instr.fwUpdateBegin), (1, false, .fwUpdateWrite), (2, false, .fwUpdateWriteInline), (3, false, .fwUpdateVerify),
      (4, true, .fwUpdateCommit), (5, false, .fwUpdateActivate), (6, false, .fwUpdateConfirm), (7, false, .fwUpdateAbort)],
    Starts (fwSpec p.1 p.2.1) p.2.2 (fun h b u => b.svc.bistTodo.head? = some 0 → u.hb h 7 = 2 ∧ u.svc = b.svc)) ∧
  Starts (fwSpec 0 true) .fwUpdateBegin (fun h b u => b.svc.bistTodo.head? ≠ some 0 → u.hb h 12 = 1 ∧
    u.idleBank = { st := .loading, expect := b.p32 h 4, spans := [], pkg := none } ∧ u.runBank = b.runBank) ∧
  (∀ p ∈ [(1, Sys2Proof.Instr.fwUpdateWrite), (2, .fwUpdateWriteInline)],
    Starts (fwSpec p.1 false) p.2 (fun h b u => b.svc.bistTodo.head? ≠ some 0 → u.hb h 12 = 1 ∧
      u.idleBank = { b.idleBank with spans := b.idleBank.spans ++ [(b.p32 h 4, b.fwBytes h)] } ∧ u.runBank = b.runBank)) ∧
  Starts (fwSpec 3 false) .fwUpdateVerify (fun h b u => b.svc.bistTodo.head? ≠ some 0 → u.runBank = b.runBank ∧
    match packageFinding b.idleBank.image b.idleBank.expect b.svc.rollMin (Config.freeValue b.free) with
    | none => u.hb h 12 = 1 ∧ u.idleBank = { b.idleBank with st := .verified, pkg := some (packageOf b.idleBank.image) }
    | some _ => u.hb h 12 = 5 ∧ u.idleBank = { b.idleBank with st := .invalid, pkg := none }) ∧
  Starts (fwSpec 4 true) .fwUpdateCommit (fun h b u => b.svc.bistTodo.head? ≠ some 0 → u.hb h 12 = 1 ∧
    u.idleBank = { b.idleBank with st := .pending } ∧ u.runBank = b.runBank) ∧
  Starts (fwSpec 5 false) .fwUpdateActivate (fun h b u => b.svc.bistTodo.head? ≠ some 0 → u.hb h 12 = 1 ∧ u.svc = { b.svc with restart := true }) ∧
  Starts (fwSpec 6 false) .fwUpdateConfirm (fun h b u => b.svc.bistTodo.head? ≠ some 0 → u.hb h 12 = 1 ∧ u.svc.trial = false ∧
    u.svc.rollMin = max b.svc.rollMin b.runBank.rollback ∧ u.svc.runB = b.svc.runB) ∧
  Starts (fwSpec 7 false) .fwUpdateAbort (fun h b u => b.svc.bistTodo.head? ≠ some 0 → u.hb h 12 = 1 ∧
    u.idleBank = { b.idleBank with st := .invalid, pkg := none } ∧ u.runBank = b.runBank)

/-- SVC_IDENT, SVC_OP and the self-test (R563, R568, R577 to R583). In part on log entry 26. -/
def Obligations.ServiceComplete : Prop :=
  Starts svcIdentSpec .svcIdent (fun h b u => u = b.doneWith h b.identBytes) ∧
  Starts svcCloseSpec .svcOpCloseWindow (fun h b u => u.hb h 12 = 1 ∧ u.svc.window = none ∧ u.svc.tamper = b.svc.tamper) ∧
  Starts svcTamperSpec .svcOpTamperClear (fun h b u => u.hb h 12 = 1 ∧ u.svc.tamper = false ∧ u.svc.window = b.svc.window ∧
    ∀ e ∈ u.faults.active, e.code = 0x0901 → e.going = 2) ∧
  Starts svcFactorySpec .svcOpFactoryReset (fun h b u => u.params.working = [] ∧ u.params.copyA = none ∧ u.params.copyB = none ∧
    u.plan.storeChain = none ∧ (∀ p, (u.ports.get p).storeSched = none) ∧ (∀ n, (u.cur.get n).storeTab = none) ∧
    (∀ n, (u.wedge.get n).learn = .learning) ∧ u.ret.records = b.ret.records ∧
    u.intake.onVerdict.getLast?.map (fun x => x.hop) = some h.val) ∧
  Starts svcDebugSpec .svcOpDebugEnable (fun h b u => u.hb h 12 = 1 ∧ u.svc = { b.svc with debug := true }) ∧
  Starts bistRunSpec .bistRun (fun h b u =>
    (bistTests (b.p8 h 0) (b.p8 h 1) ≠ [] → u.svc.bistHop = some h.val ∧ u.svc.bistTodo = bistTests (b.p8 h 0) (b.p8 h 1) ∧
      u.svc.bistMask = BitVec.ofNat 6 (b.p8 h 0) ∧ u.hb h 7 = 5) ∧
    (bistTests (b.p8 h 0) (b.p8 h 1) = [] → u.hb h 12 = 1 ∧ u.svc.bistHop = none)) ∧
  (∀ (t qual : Nat) (l : List Nat) (s : State), s.svc.bistTodo = t :: l → t < 6 → t ≠ 3 → bistLen t ≤ s.since s.svc.bistFrom →
    ∃ u : State, exec (.bistTestDone true qual) s = .next u.settle ∧ u.svc.bistTodo = l ∧ u.svc.failed.getLsbD t = false ∧
      ∀ k, k < 6 → k ≠ t → u.svc.failed.getLsbD k = s.svc.failed.getLsbD k) ∧
  (∀ (t qual : Nat) (l : List Nat) (s : State), s.svc.bistTodo = t :: l → t < 6 → t ≠ 3 → bistLen t ≤ s.since s.svc.bistFrom →
    (t = 0 → qual = 1 → s.idleBank.st ≠ .loading) →
    ∃ u : State, exec (.bistTestDone false qual) s = .next u.settle ∧ u.svc.bistTodo = l ∧ u.svc.failed.getLsbD t = true ∧
      u.faultActive (bistFault t) = true) ∧
  (∀ (pass : Bool) (n : Fin 4) (qual : Nat) (l : List Nat) (s : State), s.svc.bistTodo = (8 + n.val) :: l → (s.axSt n).bist ≠ 0 → s.seq n = .failed →
    ∃ u : State, exec (.bistTestDone pass qual) s = .next u.settle ∧ u.svc.bistTodo = l ∧ u.svc.failed.getLsbD 3 = true ∧
      u.svc.gateBad.getLsbD n.val = true ∧ u.seq n = .failed ∧ u.faultActive 0x0915 = true) ∧
  (∀ (pass : Bool) (n : Fin 4) (qual : Nat) (l : List Nat) (s : State), s.svc.bistTodo = (8 + n.val) :: l → (s.axSt n).bist = 2 → s.seq n = .off →
    ∃ u : State, exec (.bistTestDone pass qual) s = .next u.settle ∧ u.svc.bistTodo = l ∧ u.svc.gateBad.getLsbD n.val = false)

/-- The fault table and the event queue (R584, R596, R597, R600, Table FLT-2). -/
def Obligations.FaultTableComplete : Prop :=
  Starts faultStatusSpec .faultStatus (fun h b u => u.hb h 12 = 1 ∧ u.faults.active = b.faults.active ∧ u.faults.device = b.faults.device) ∧
  Starts faultClearSpec .faultClear (fun h b u => u.hb h 12 = 1 ∧
    (b.p16 h 0 ≠ 0xFFFF → u.faults.active = b.faults.active.map (fun e => if e.code = b.p16 h 0 then { e with going := 2 } else e)) ∧
    (b.p16 h 0 = 0xFFFF → u.faults.active = b.faults.active.map (fun e => if b.clearable e then { e with going := 2 } else e))) ∧
  Starts eventReadSpec .eventRead (fun h b u => u.hb h 12 = 1 ∧
    (h.val < 28 → u.faults.events = b.faults.events.drop (b.p8 h 0) ∧ u.faults.lost = 0))

/-- Raising a fault: its entry becomes active, its axis mask is ORed, it counts up to 255, keeps its first frame and takes the latest one
and the latest qualifier; no other entry changes and no code gets a second entry; FTSUM bit n is 1 while a fault of area n is active (R584). -/
def Obligations.FaultRaised : Prop :=
  (∀ (code qual : Nat) (axes : BitVec 4) (cond : Bool) (s : State),
    (s.raise code qual axes cond).faultActive code = true ∧
    (∀ e ∈ s.faults.active, e.code ≠ code → e ∈ (s.raise code qual axes cond).faults.active) ∧
    (∀ e ∈ (s.raise code qual axes cond).faults.active, e.code = code → e.last = s.frame.counter ∧ e.qual = qual % 65536) ∧
    (s.faultActive code = false → ∃ e ∈ (s.raise code qual axes cond).faults.active, e.code = code ∧ e.count = 1 ∧ e.first = s.frame.counter ∧ e.axes = axes) ∧
    (∀ e ∈ s.faults.active, e.code = code → ∃ e' ∈ (s.raise code qual axes cond).faults.active, e'.code = code ∧ e'.count = min 255 (e.count + 1) ∧
      e'.first = e.first ∧ e'.axes = e.axes ||| axes) ∧
    s.only [.faults] (s.raise code qual axes cond)) ∧
  (∀ (code qual : Nat) (axes : BitVec 4) (cond : Bool) (s : State), (s.faults.active.map (fun e => e.code)).Nodup →
    ((s.raise code qual axes cond).faults.active.map (fun e => e.code)).Nodup) ∧
  (∀ (s : State) (a : Nat), (s.regRead 0x040).testBit a = s.faults.active.any (fun e => e.code / 256 == a))

/-- What turns every switch of the device off in hardware: a lockstep mismatch, VM below its limit, a reset, the loss of VBAT (R31, R71,
R84, R108). SAFE is latched with its cause, every switch is off or turning off, and the axes that were up go down (R593). -/
def Obligations.SwitchesGoOff : Prop :=
  (∀ s : State, s.sysAwake = true → Answers .lockstepMismatch s (fun t => t.allQuiet = true ∧ t.twin.acto = false ∧
    t.faults.safeDue = some 0x1202 ∧ ∀ b, (t.mon.brakes.get b).on = false)) ∧
  (∀ (vm us : Nat) (s : State), s.power.vmUv = false → vm < 6000 → 5 ≤ us → s.domReady .sys = true →
    Answers (.vmUndervoltage vm us) s (fun t => t.allQuiet = true ∧ ∀ b, (t.mon.brakes.get b).on = false)) ∧
  (∀ s : State, s.pins.inReset = false → Answers .reset s (fun t => t.allQuiet = true)) ∧
  (∀ (vbat : Nat) (s : State), vbat < 3000 → Answers (.powerOff vbat) s (fun t => t.allQuiet = true)) ∧
  (∀ (code : Nat) (s : State), s.faults.device = false →
    (s.enterSafe code).faults.device = true ∧ (s.enterSafe code).faults.cause = code ∧
    (∀ n b, (((s.enterSafe code).gate.get n).br b).quiet = true) ∧
    (∀ n, (s.enterSafe code).seq n = .off ∨ (s.enterSafe code).seq n = .failed ∨ (s.enterSafe code).seq n = .d2 ∨ (s.enterSafe code).seq n = .d3) ∧
    (s.unitOn 8 = true → (s.enterSafe code).twin.role = .off ∧ (s.enterSafe code).twin.acto = false))

/-- Barriers, tagged and waiting commands, and HOP_STATUS (R156, R158, R161, R162, R172, R174, Table HOP-10). -/
def Obligations.HopperComplete : Prop :=
  Starts barrierSpec .barrier (fun _ b u => u = b) ∧
  Starts hopStatusSpec .hopStatus (fun h b u => u.hb h 12 = 1 ∧
    (b.p8 h 0 = 1 → ∀ k : Fin 4, (u.intake.counts.get k).taken = 0 ∧ (u.intake.counts.get k).refused = 0) ∧
    (b.p8 h 0 = 0 → ∀ k : Fin 4, (u.intake.counts.get k).taken = (b.intake.counts.get k).taken)) ∧
  (∀ (h : Fin 32) (s : State), s.isBarrier h = true → s.p16 h 2 ≠ 0 → s.p16 h 2 ≤ s.since (s.hop h).taken → cellWf s.intake.slots = true →
    ∃ u : State, exec (.barrierTimeout h) s = .next u.settle ∧ u.hb h 12 = 0x12 ∧
      ∀ x, x < 32 → s.stage x = .waitBarrier → s.inScope h x = true → (s.hop h).takeNo < (s.hop x).takeNo → u.hb x 12 = 3) ∧
  (∀ (h : Fin 32) (s : State), s.tagged h = true → s.laterej h = true → (s.stage h).waiting = true → s.dist h ≤ 1 → s.intake.starts = 0 →
    cellWf s.intake.slots = true →
    ∃ u : State, exec (.taggedCommandStart h) s = .next u.settle ∧ u.hb h 12 = 0x0C) ∧
  (∀ (c : CmdSpec) (h : Fin 32) (s : State), s.tagged h = true → 0 < s.intake.starts → s.specOf h = some c → s.nextStart = some h.val →
    (s.stage h).waiting = true → s.safeBars h = false → c.ready s.useStart h = none → c.own s.useStart h = none →
    exec (.taggedCommandStart h) s = .next (c.start (s.useStart.markStart c h) h).settle) ∧
  (∀ (c : CmdSpec) (h : Fin 32) (s : State), s.specOf h = some c → s.nextStart = some h.val → (s.stage h).waiting = true → s.safeBars h = false → c.ready s.useStart h = none →
    c.own s.useStart h = none → exec (.waitingCommandStart h) s = .next (c.start (s.useStart.markStart c h) h).settle)

/-- The frame boundary: counters, trim and time base of the frame that ends, the counters' wrap, and the registers that show them
(R26 to R28). Outside a restart of SYS and an entry to SLEEP. In part on log entry 29. -/
def Obligations.FrameBoundaryComplete : Prop :=
  (∀ (commit : Bool) (hbk : Quad Nat) (s : State), s.frame.running = true → s.svc.restart = false → s.power.change ≠ some .sleep →
    Answers (.frameBoundary commit hbk) s (fun t => t.frame.counter = s.frame.counter + 1 ∧
      (t.frame.superframe, t.frame.index) = (match s.frame.realign with
        | some r => (r.1, r.2 % 20)
        | none => if 19 ≤ s.frame.index then (s.frame.superframe + 1, 0) else (s.frame.superframe, s.frame.index + 1)) ∧
      t.frame.realign = none ∧ t.frame.trim = s.trimNow ∧ t.frame.tickBase = s.frame.tickBase + (10000 + s.trimNow).toNat ∧
      t.frame.commit = commit ∧ (∀ e ∈ s.faults.active, e.going = 0 → t.faultActive e.code = true))) ∧
  (∀ (commit : Bool) (hbk : Quad Nat) (s : State), s.frame.running = true → s.svc.restart = false →
    s.power.change ≠ some .sleep → s.frame.realign = none → s.frame.index < 20 →
    Answers (.frameBoundary commit hbk) s (fun t => t.frame.counter = s.frame.counter + 1 ∧
      t.frame.index = (if s.frame.index = 19 then 0 else s.frame.index + 1) ∧
      t.frame.superframe = (if s.frame.index = 19 then s.frame.superframe + 1 else s.frame.superframe))) ∧
  ((0xFFFFFFFF#32) + 1 = 0) ∧
  (∀ s : State, s.regRead 0x01C = s.frame.counter.toNat ∧ s.regRead 0x038 = s.frame.superframe.toNat ∧ s.regRead 0x03C = s.frame.index)

/-- A step takes the command at the front of the queue and runs it with the queue's rest; on an empty queue the block idles, which is
the model's choice (log entry 1). -/
def Obligations.StepTakesFront : Prop :=
  (∀ (c : Instr) (l : List Instr) (s : State), s.pending = c :: l → step s = exec c { s with pending := l }) ∧
  (∀ s : State, s.pending = [] → step s = .next s)

/-- Every command of the table runs to a next state, in every state, and leaves the queue of waiting commands alone: no command stops
the model. -/
def Obligations.EveryCommandAnswers : Prop :=
  (∀ (c : Instr) (s : State), ∃ t, exec c s = .next t ∧ t.pending = s.pending)

/-- The frame index stays 0 to 19 through every step (R27). -/
def Obligations.FrameIndexKept : Prop :=
  (∀ s t : State, s.indexOk = true → step s = .next t → t.indexOk = true)

/-- No step has both switches of a half-bridge on or turning on (R300, R307, R308, R327). -/
def Obligations.SwitchesStayApart : Prop :=
  (∀ s t : State, s.apart = true → step s = .next t → t.apart = true)

/-- The slots of the hoppers, the bulk window and the map's staging area keep their canonical form through every step. The canonical form and what an unlisted byte reads as are the model's (log entry 4). -/
def Obligations.BuffersStayCanonical : Prop :=
  (∀ s t : State, cellWf s.intake.slots = true → cellWf s.intake.bulk = true → cellWf s.plan.stage = true → step s = .next t →
    cellWf t.intake.slots = true ∧ cellWf t.intake.bulk = true ∧ cellWf t.plan.stage = true)

/-- The invariants hold at reset, where the device is without supply, no switch is on and nothing waits. State.reset is the model's
choice of a device with RESETN low and no supply (log entry 3). -/
def Obligations.ResetInvariants : Prop :=
  State.reset.indexOk = true ∧ State.reset.apart = true ∧ State.reset.allQuiet = true ∧ cellWf State.reset.intake.slots = true ∧
  cellWf State.reset.intake.bulk = true ∧ State.reset.pending = [] ∧ State.reset.powered = false

/-- Writing a range of voxels sets exactly the voxels of the range, and a voxel is occupied while either layer has it (R419, R424). -/
def Obligations.MapVoxels : Prop :=
  (∀ (d : Nat) (o new : Oct) (x v : Int × Int × Int) (r : Box), (new = .full ∨ new = .empty) → voxelIn x (2 ^ d : Nat) v = true →
    (o.paint d x r new).has d x v = if r.holds v then new == .full else o.has d x v) ∧
  (∀ (d : Nat) (a b : Oct) (x v : Int × Int × Int), voxelIn x (2 ^ d : Nat) v = true → (Oct.or d a b).has d x v = (a.has d x v || b.has d x v))

/-- The event queue (R600): a raised event is appended with its code, qualifier and frame; with 255 waiting it replaces the oldest,
which is counted; EVPEND shows how many wait; EVENT_READ removes the oldest first; raising a fault adds none. A command of the device itself, in hoppers 28 to 31, ends with an event of its own. -/
def Obligations.EventQueue : Prop :=
  (∀ (code qual : Nat) (s : State),
    (s.ev code qual).faults.events = (if 255 ≤ s.faults.events.length then s.faults.events.drop 1 else s.faults.events) ++
      [(code, qual % 65536, s.frame.counter)] ∧
    (s.ev code qual).faults.lost = (if 255 ≤ s.faults.events.length then s.faults.lost + 1 else s.faults.lost)) ∧
  (∀ s : State, s.faults.events.length ≤ 255 → s.regRead 0x044 = s.faults.events.length) ∧
  (∀ (code qual : Nat) (s : State), s.faults.events.length ≤ 255 → (s.ev code qual).faults.events.length ≤ 255) ∧
  Starts eventReadSpec .eventRead (fun h b u => u.hb h 12 = 1 ∧ (h.val < 28 → u.faults.events = b.faults.events.drop (b.p8 h 0)) ∧
    (28 ≤ h.val → ∃ e, ∃ m ≤ 1, u.faults.events = (b.faults.events.drop (b.p8 h 0)).drop m ++ [e])) ∧
  (∀ (code qual : Nat) (axes : BitVec 4) (cond : Bool) (s : State),
    (s.raise code qual axes cond).faults.events = s.faults.events ∧ (s.note code qual axes cond).faults.events = s.faults.events)

/-- A held command that has not started by its intake + 8 completes CAL_BUSY in that frame, and not before (R38). -/
def Obligations.HeldCommandEnds : Prop :=
  (∀ (h : Fin 32) (s : State), s.stage h = .held → s.frame.counter = (s.hop h).intake + 8 → cellWf s.intake.slots = true →
    ∃ u : State, exec (.heldCommandTimeout h) s = .next u.settle ∧ u.hb h 12 = 4 ∧ u.h32 h 20 = s.frame.counter.toNat) ∧
  (∀ (h : Fin 32) (s : State), s.stage h = .held → -8 < s.ahead (s.hop h).intake → exec (.heldCommandTimeout h) s = .next s)

/-- A doorbell on a slot that the device owns (R150). -/
def Obligations.DoorbellRefused : Prop :=
  (∀ (k : Nat) (v : BitVec 16) (s : State), k < 16 → v.getLsbD k = true → s.host.hown.getLsbD k = true → cellWf s.intake.slots = true →
    Answers (.dbell v) s (fun t => t.host.dbrej.getLsbD k = true ∧ t.host.hown.getLsbD k = true ∧ t.hop k = s.hop k ∧
      (∀ a, 128 * k ≤ a → a < 128 * k + 128 → cellGet t.intake.slots a = cellGet s.intake.slots a) ∧ t.intake.rejSeen = true ∧
      t.faults.events = s.faults.events ∧ (s.intake.rejSeen = true → t.faults = s.faults) ∧
      (s.intake.rejSeen = false → ∃ j < 16, v.getLsbD j = true ∧ s.host.hown.getLsbD j = true ∧
        t.faults = { s.faults with evNext := s.faults.evNext ++ [(0x1101, j)] })))

/-- A command that fails a check made when it is taken completes with that check's code, and nothing of its effect happens (R167, R168). The order of the checks is log entry 13's. -/
def Obligations.RefusedCommand : Prop :=
  (∀ (c : CmdSpec) (h code detail : Nat) (res : List Byte) (s : State), s.nextStart = some h → s.rungCmd h = true → s.opcode h = c.op →
    (∀ o, c.sub = some o → s.p8 h 0 = o) → ((s.beginTake h).hop h).doomed = none → firstChecks c (s.beginTake h) h = some (code, detail, res) →
    cellWf s.intake.slots = true →
    ∃ u : State, takeRow c h s = u.settle ∧ u.hb h 12 = code % 256 ∧
      State.only [.host, .intake, .plan, .ports, .fab, .iso, .svc, .faults] s u) ∧
  (∀ (c : CmdSpec) (h code detail : Nat) (res : List Byte) (s : State), s.nextStart = some h → s.rungCmd h = true → s.opcode h = c.op →
    (∀ o, c.sub = some o → s.p8 h 0 = o) → ((s.beginTake h).hop h).doomed = none → firstChecks c (s.beginTake h) h = none →
    lateChecks c (s.taken h) h = some (code, detail, res) → cellWf s.intake.slots = true →
    ∃ u : State, takeRow c h s = u.settle ∧ u.hb h 12 = code % 256 ∧
      State.only [.host, .intake, .plan, .ports, .fab, .iso, .svc, .faults] s u)

/-- The frame of every command: what it leaves alone of the registers, buffers, counters and latches of the block. -/
def Obligations.CommandFrames : Prop :=
  (∀ (c : Instr) (s t : State), exec c s = .next t → s.only (writes c) t)

/-- An event of one axis changes no motion engine, coil, load estimate or gate of another axis. -/
def Obligations.AxesApart : Prop :=
  (∀ (n : Fin 4) (c : Fin 2) (b k : Fin 4) (g : Option (Fin 4)) (w : Fin 3) (i j l : Nat) (u : Moment) (x y : Bool) (va vb : Int) (s t : State),
    (exec (.stepPulse n i j x y) s = .next t ∨ exec (.microstep n i) s = .next t ∨ exec (.standstillReached n) s = .next t ∨
      exec (.holdDelayExpiry n) s = .next t ∨ exec (.holdRampEnd n) s = .next t ∨ exec (.chopperTrip n c i j) s = .next t ∨
      exec (.blankingEnd n c x i) s = .next t ∨ exec (.fastDecayEnd n c i) s = .next t ∨ exec (.zeroComparatorTrip n c) s = .next t ∨
      exec (.offTimeEnd n c i) s = .next t ∨ exec (.forcedSample n c i j) s = .next t ∨ exec (.pwmPeriod n c i) s = .next t ∨
      exec (.wedgeWindowEnd n va vb) s = .next t ∨ exec (.gateEdge n b x y i j l) s = .next t ∨
      exec (.gatePlateauEnd n b x i j l va) s = .next t ∨ exec (.deadTimeEnd n b u j l i) s = .next t ∨
      exec (.gateOffTimeout n b x i u) s = .next t ∨ exec (.bootstrapUndervoltage n b i j u) s = .next t ∨
      exec (.bootstrapRecharged n b u) s = .next t ∨ exec (.switchFaultDetect n b x w va i u) s = .next t ∨
      exec (.quietRefreshPulse n i) s = .next t ∨ exec (.governingEnableFall n g) s = .next t ∨
      exec (.governingEnableRise n g) s = .next t ∨ exec (.pinModeInEdge n k x u i j) s = .next t) →
    ∀ m, m ≠ n → t.motion.get m = s.motion.get m ∧ t.cur.get m = s.cur.get m ∧ t.wedge.get m = s.wedge.get m ∧
      t.gate.get m = s.gate.get m ∧ t.follow.get m = s.follow.get m)

/-- A hit outside the window is suppressed (R395): V advances, the hit is counted as suppressed, no output event follows and the hit
count stays. `k` values are passed at once when the spacing is below one count; each of them is outside the window. -/
def Obligations.SuppressedHit : Prop :=
  (∀ (n : Fin 4) (u : Fin 2) (old x : Int) (k : Nat) (s : State), (s.cmpUnit n u).st = .armed →
    (if s.cp n u 1 = 1 then x < old else old < x) → passed (s.cp n u 1 == 1) (s.cmpUnit n u).v x (s.cp n u 2) = k → 0 < k →
    (∀ i < k, vFits (advance (s.cp n u 1 == 1) (s.cmpUnit n u).v (i + 1) (s.cp n u 2)) = true ∧
      (passValue (s.cp n u 1 == 1) (advance (s.cp n u 1 == 1) (s.cmpUnit n u).v i (s.cp n u 2)) < s.cpI n u 5 ∨
        s.cpI n u 6 < passValue (s.cp n u 1 == 1) (advance (s.cp n u 1 == 1) (s.cmpUnit n u).v i (s.cp n u 2)))) →
    ((s.cmpCountUnit n u old x).cmpUnit n u).v = advance (s.cp n u 1 == 1) (s.cmpUnit n u).v k (s.cp n u 2) ∧
    ((s.cmpCountUnit n u old x).cmpUnit n u).supp = min 0xFFFF ((s.cmpUnit n u).supp + k) ∧
    ((s.cmpCountUnit n u old x).cmpUnit n u).hits = (s.cmpUnit n u).hits % 4294967296 ∧
    ((s.cmpCountUnit n u old x).cmpUnit n u).st = .armed ∧ ((s.cmpCountUnit n u old x).cmpUnit n u).pulse = (s.cmpUnit n u).pulse ∧
    ((s.cmpCountUnit n u old x).cmpUnit n u).toggle = (s.cmpUnit n u).toggle ∧ s.only [.cmp] (s.cmpCountUnit n u old x))

/-- Bootstrap under-voltage with the high side on latches that switch off and notes FT-0x0305 (R315): BS − SH below 7.0 V for 100 ns, from
the end of the switch's P1 and of the comparator's hold; with the high side off for any other cause than a fault of the same tick, or
BS − SH not below 7.0 V, it does nothing. -/
def Obligations.BootstrapDrops : Prop :=
  (∀ (n b : Fin 4) (mv ns : Nat) (len : Moment) (s : State), (s.bridge n b).hi.turning = true → (s.bridge n b).hi.cause = 0 → mv < 7000 → 100 ≤ ns →
    max (s.bridge n b).hi.tpreOn (compHold (16 + 4 * n.val + b.val)) ≤ len.val →
    Answers (.bootstrapUndervoltage n b mv ns len) s (fun t => (t.bridge n b).hi.cause = 4 ∧ (t.bridge n b).hi.phase = .offP1 ∧ t.swBlocked n b true = true ∧
      (t.bridge n b).lo.phase = (s.bridge n b).lo.phase ∧
      ((∀ k, (s.bridge n k).due = false) → ∀ k, k ≠ b → t.bridge n k = s.bridge n k) ∧
      t.faults = { s.faults with raised := s.faults.raised ++ [(0x0305, 4 * n.val + b.val, axBits n, true)] } ∧ s.only [.gate, .faults] t)) ∧
  (∀ (n b : Fin 4) (mv ns : Nat) (len : Moment) (s : State),
    (((s.bridge n b).hi.turning = false ∧ (s.bridge n b).hi.latchAt ≠ some (s.tickAt len.off)) ∨ 7000 ≤ mv) →
    exec (.bootstrapUndervoltage n b mv ns len) s = .next s)

/-- An ineffective dump resistor (R106): BRKG on for 2 ms and VM not 0.5 V below its value at turn-on raise FT-0x130E at the next
boundary, and BRKG stays as R104 has it. The qualifier, which the manual does not state, is free (log entry 15). -/
def Obligations.DumpIneffective : Prop :=
  (∀ (vm off : Nat) (s : State), s.power.brkg = true → 400000 ≤ s.tickAt off - s.power.brkOnAt → s.power.brkOnVm < vm + 500 →
    Answers (.brakeDumpIneffective vm off) s (fun t => (∃ q, t.faults.raised = s.faults.raised ++ [(0x130E, q, 0, false)]) ∧
      t.power = { s.power with vm := vm } ∧ s.only [.power, .faults, .free] t)) ∧
  (∀ (vm off : Nat) (s : State), (s.power.brkg = false ∨ vm + 500 ≤ s.power.brkOnVm) →
    exec (.brakeDumpIneffective vm off) s = .next s)
end

