-- ==== Sys2Proof/WellFormed.lean ====
section
/-! DEFINITION. Which operands a command of the table can carry: lengths of frames and records, codes of converters, numbers of
addresses and items. A meaning is total and does not ask for it. -/

namespace Sys2Proof

/-- A CAN FD frame carries at most 64 bytes, a classic frame at most 8 (R454, R457). -/
def AmFrame.wellFormed (f : AmFrame) : Bool := decide (f.data.length ≤ if f.fd then 64 else 8)

/-- A classic CAN frame carries at most 8 bytes, a CAN FD frame at most 64 (R516). -/
def IsoFrame.wellFormed (f : IsoFrame) : Bool := decide (f.data.length ≤ if f.classic then 8 else 64)

/-- A data byte that was not fetched in time is one of those that the cycles can carry: two cycles at least for each (R126, Table
HOST-2). -/
def SckFrame.wellFormed (f : SckFrame) : Bool := f.late.all (fun i => decide (2 * i < f.cycles.length))

/-- An event within a frame lies at most 10010 ticks of 5 ns after the boundary: 10000 and the greatest trim (R26). -/
def tickOk (off : Nat) : Bool := decide (off ≤ 10010)

/-- The converter reads codes 0 to 4095 (R240). -/
def codeOk (code : Nat) : Bool := decide (code < 4096)

/-- A fabric address has 16 bits (R462). -/
def addrOk (addr : Nat) : Bool := decide (addr < 65536)

/-- A message of the ISO transport protocol has at most 1785 bytes (R520). -/
def isoBytesOk (src : Nat) (data : List Byte) : Bool := decide (src < 256) && decide (data.length ≤ 1785)

/-- The operands of a command are ones that the block can meet. -/
def Instr.wellFormed : Instr → Bool
  | .stepPulse _ off _ _ _ | .microstep _ off | .feedbackEdge _ _ off | .speedTimeout _ off => tickOk off
  | .syncEdge off _ | .syncReferenceLoss off => tickOk off
  | .brakeChopperSwitch _ off | .brakeDumpIneffective _ off => tickOk off
  | .brakeChopperLimit off => tickOk off
  | .gateEdge _ _ _ _ off _ _ => tickOk off
  | .deadTimeEnd _ _ m _ _ _ | .pinModeInEdge _ _ _ m _ _ | .gateOffTimeout _ _ _ _ m | .bootstrapRechargeTimeout _ _ _ m => tickOk m.off
  | .bootstrapUndervoltage _ _ _ _ m | .switchFaultDetect _ _ _ _ _ _ m | .bootstrapRecharged _ _ m => tickOk m.off
  | .bootstrapRefreshTimer _ _ off | .refreshPulseEnd _ _ off | .quietRefreshPulse _ off => tickOk off
  | .canFrameTransmitted _ _ off _ => tickOk off
  | .chopperTrip _ _ code _ | .forcedSample _ _ code _ => codeOk code
  | .pwmPeriod _ _ code => codeOk code
  | .resetRelease _ up down => up || !down
  | .diagAgeLimit item => decide (item < 0x73)
  | .diagInsertion item _ => decide (item < 0x73)
  | .sensorPortRead reads => decide (reads.length ≤ 4)
  | .hostWriteFrame f | .hostReadFrame f | .hostSckTimeout f => f.wellFormed
  | .beaconReceived _ f _ => f.wellFormed
  | .claimReceived _ f | .segRequest _ f | .segGrant _ f | .routeReceived _ f | .cyclicReceived _ f | .fabricCmd _ f | .dataReceived _ f
  | .sleepReceived _ f | .hbeatReceived _ f | .evtReceived _ f | .nackReceived _ f | .frameForForwarding _ f => f.wellFormed
  | .routeExpiry seg => decide (seg < 1024)
  | .reassemblyTimeout _ src tag => addrOk src && decide (tag < 256)
  | .heartbeatDeadline _ addr => addrOk addr
  | .addressClaimed f | .isoRequest f | .isoTransportFrame f | .isoSpeedMessage f => f.wellFormed
  | .commandedAddress src data => isoBytesOk src data
  | .isoCommand src data => isoBytesOk src data
  | .isoTransportTimeout peer _ _ => decide (peer < 256)
  | _ => true

end Sys2Proof
end

