-- ==== Sys2Proof/Tests/Slice0.lean ====
section
/-! SUPPORT. Tests: states that meet the hypotheses of the statements, clause by clause; worked values of the manual; the operands that
WellFormed refuses. -/

set_option Elab.async false

namespace Sys2Proof.Tests

open Sys2Proof Sys2Proof.Machine

/-! ### States the tests start from -/

/-- A device in IDLE at frame 1000: every domain at Ready, clocks locked, the units of `u` enabled, VM 24 V; axis 0 Ready and at rest. -/
def tBase : State :=
  let up : DomSt := { stage := .ready }
  { State.reset with
    clock := { State.reset.clock with crystal := .good, pllm := .locked, pllc := .locked, pllt := .locked }
    frame := { counter := 1000, index := 10, superframe := 50, running := true, commit := true, tickBase := 10000000 }
    pins := { State.reset.pins with inReset := false, pinEn := Quad.all (Quad.all true), strapsRead := true }
    power := { State.reset.power with dev := .idle, aon := { stage := .ready, latched := some true }, sys := up, ana := up, aux := up, fbk := up, net := up, twin := up, plan := up, axes := ⟨{ seq := .ready }, {}, {}, {}⟩, vm := 24000, vbat := 24000, vgd := 12000, temp := 250 }
    motion := ⟨{ still := true, stillF := 100, posState := .referenced }, {}, {}, {}⟩
    cur := ⟨{ hold := .hold }, {}, {}, {}⟩
    intake := { State.reset.intake with starts := 4 }
    host := { State.reset.host with hown := 0 } }

/-- Parameters off their defaults, in the working and the running set. -/
def tPar (l : List (Nat × Nat)) (s : State) : State :=
  { s with params := { s.params with working := l.foldl (fun t e => tabSet t e.1 e.2 (pDefault e.1)) s.params.working, running := l.foldl (fun t e => tabSet t e.1 e.2 (pDefault e.1)) s.params.running } }

def tUnits (u : BitVec 10) (s : State) : State := { s with params := { s.params with units := u } }

/-- Command `op` with payload `pl`, registered in hopper 0. -/
def tCmd (op flags ax : Nat) (pl : List Byte) (s : State) : State :=
  let b := le16 op ++ le16 1 ++ b8 flags ++ b8 ax ++ b8 pl.length ++ b8 0 ++ le32 0 ++ le32 0 ++ pl
  { s with
    host := { s.host with hown := 1 }
    intake := { s.intake with slots := cellWrite s.intake.slots 0 b, hops := updAt s.intake.hops 0 (fun _ => { stage := .registered, regNo := 1 }) } }
def tBulk (l : List Byte) (s : State) : State :=
  { s with host := { s.host with bulkValid := true, bulkSlot := 0, bulkLen := l.length }, intake := { s.intake with bulk := cellWrite s.intake.bulk 0 l } }
def tRef : Chisel := { label := 7, entries := (List.range 256).map (fun i => min 4095 (20 * i)) }
def tTab (s : State) : State := s.updCur 0 (fun c => { c with userTab := some tRef })
def tAxOff (s : State) : State := s.setSeq 0 (fun _ => {})
def tMode (s : State) : State := tPar [(axId 0 0x40, 0xFF), (axId 0 0x60, 1), (axId 0 0x46, 0xFFFF0000), (axId 0 0x47, 0x10000), (axId 0 0x11, 4000), (axId 0 0x41, 0x7FFFFFFF)] s
def tHead (a : List Byte) (b : List Byte) : List Byte := a ++ le32 (crc32 (a ++ b)) ++ b
/-- A chain table file of one joint on axis 0 and one capsule. -/
def tChainFile : List Byte :=
  tHead (le32 0x4E48434B ++ le16 1 ++ [1, 1] ++ le32 7) (List.replicate 16 0 ++ (List.replicate 16 0 ++ le32 0x10000 ++ List.replicate 12 0) ++
    List.replicate 96 0 ++ (List.replicate 28 0 ++ le32 5) ++ List.replicate 480 0)
def tChain : Chain := { bytes := [], joints := [{ axis := 0, kind := 0, dir := 0, offset := (0, 0, 0), scale := 0x10000, zero := 0 }], caps := [] }
def tRoad : Road := { points := [[0], [100]], limits := [], version := 0, boxes := [] }
def tPlan (s : State) : State := s.updPlan (fun p => { p with loaded := true, valid := true, chain := some tChain, roads := p.roads.set 0 (some tRoad), version := 1 })
/-- A schedule of one slot. -/
def tSchedFile : List Byte :=
  let e : List Byte := [3, 5, 8, 0, 0, 0, 1, 0] ++ leBytes 8 0xFF
  let a : List Byte := [0x4B, 0x53, 0x43, 0x48] ++ le16 1 ++ le16 1 ++ le16 4 ++ [0, 0, 4, 0] ++ le16 0 ++ le32 0 ++ List.replicate 8 0
  a ++ le32 (crc32 (a ++ e)) ++ e
def tSched (s : State) : State := s.updPort 0 (fun q => { q with sched := some (schedOf tSchedFile) })
def tImage : StoreCopy := { valid := true, saves := 0, label := 0, fwMin := 2, vals := [] }
def tCfg (s : State) : State := { s with params := { s.params with staging := cellWrite [] 0 (imageBytes tImage), staged := true, copyA := some tImage }, svc := { s.svc with winBound := true } }
def tBank (st : BankState) (n : Nat) (s : State) : State :=
  { s with svc := { s.svc with winBound := true, bankB := { st := st, expect := 256, spans := if n = 0 then [] else [(0, List.replicate n 0)] } } }
def tTrial (s : State) : State := { s with svc := { s.svc with trial := true } }
def tAllOff (s : State) : State := tUnits 0#10 (tAxOff s)
def tSvc (s : State) : State := tPar [(0x9001, 1)] (tAllOff { s with svc := { s.svc with winBound := true, sealBound := true, loopOk := 16, tamper := true, window := some 5 } })
def tActive (s : State) : State := tUnits 0x100#10 { s with twin := { s.twin with role := .active, link := .up, pFlags := 0xFF } }
/-- A CS0 frame of these bytes, one bit a cycle on IO0, most significant first. -/
def tSck (l : List Byte) : SckFrame :=
  { fall := { sckHigh := false, other := false, rdy := true }
    cycles := l.flatMap (fun b => (List.range 8).map (fun i => if b.getLsbD (7 - i) then 1 else 0)), late := [] }
def tQuery : Query := { hop := 0, slot := 1, cls := 0, start := 1, startSlot := 0, seed := 1, noMap := false, noLearn := false, goal := [5], given := [0], taken := 1000, active := 1000, from_ := [0], limits := [{ vmax := 1000, acc := 1000, dec := 1000, jerk := 1000 }], mapVer := 1, rmVer := 0, bias := 0, kNear := 1, shortN := 0, occ := .empty, nodes := [], edges := [] }
def tRun : Run := { hop := 0, slot := 0, stage := .running, seg := 0, segEnd := none, lam := 20, up := none, haul := 0, userHold := false, segLate := false, heldAt := 1000, heldSeg := 0, heldHaul := 0, heldRest := false, status := 0, late := 0, waits := [], stopSeq := 0xFFFF }
def tRunning (r : Run) : State := (tPlan tBase).updPlan (fun p => { p with run := some r })
/-- Both ports held: index 5 of segment 4, index 6 of segment 7. -/
def tNet : State := tUnits 0x60#10 { tBase with ports := ⟨{ claim := .held, index := 5, want := 5, seg := some 4, sync := .synced }, { claim := .held, index := 6, want := 6, seg := some 7, sync := .synced }⟩ }
def tRouter : State := tPar [(0x6000, 1)] tNet
def tHd : AmHead := { cls := 0, kind := 5, disc := 0, txidx := 9, local_ := false, ftime := false, hops := 3, dmode := 0, resp := false, more := false, fseq := 0, dst := 4 * 64 + 5, src := 4 * 64 + 9, nh := 0x40, tag := 1 }
def tIso : State := tUnits 0x80#10 (tPar [(0x7000, 0x8000000000000123), (0x7002, 5), (0x7005, 1)] { tBase with iso := { tBase.iso with claim := .held, addr := 130 } })
def tTwin : State := tUnits 0x100#10 { tBase with twin := { tBase.twin with role := .standby, link := .up } }
def tRec (a : List Byte) (n : Nat) : List Byte := let b := fit (n - 4) 0 a; b ++ le32 (crc32 b)

/-- Each command of the list is accepted in its state, where it stands registered in hopper 0. -/
def accepted (l : List (CmdSpec × State)) : Bool := l.all (fun r => r.2.accepts r.1 0 && cellWf r.2.intake.slots)

/-! ### Witnesses: for each statement, states and operands that meet the hypotheses of its clauses -/

theorem wit_ClockComplete :
    (∃ s : State, s.sysAwake = true) ∧
    (∃ s : State, s.sysAwake = true ∧ s.clock.crystal = .good) ∧
    (∃ (devs : List Nat) (s : State), s.frame.running = true ∧ s.clock.crystal ≠ .good ∧ s.clock.onRc = true ∧ s.allAtRest = true ∧ s.clock.retryAt = none ∧ s.par 0x0031 ≤ s.bandRun devs) ∧
    (∃ (devs : List Nat) (s : State), s.frame.running = true ∧ s.clock.crystal ≠ .good ∧ s.clock.onRc = true ∧ s.clock.retryAt = none ∧ s.bandRun devs < s.par 0x0031) ∧
    (∃ (d : BitVec 32) (s : State), s.clock.settle = some d ∧ s.frame.running = true ∧ s.since d ≤ 10) ∧
    (∃ (d : BitVec 32) (s : State), s.frame.running = true ∧ s.clock.restored = some d ∧ s.clock.pllc = .seeking ∧ 10 ≤ s.since d) ∧
    (∃ s : State, s.sysAwake = true ∧ s.clock.pllm = .locked) ∧
    (∃ s : State, s.sysAwake = true ∧ s.clock.pllc = .locked ∧ s.clock.crystal = .good) ∧
    (∃ s : State, s.sysAwake = true ∧ s.clock.pllt = .locked ∧ s.clock.crystal = .good) ∧
    (∃ (us held _periods : Nat) (s : State), s.clock.halted = true ∧ s.clock.dead = false ∧ us - held ≤ 10000 ∧ 100 ≤ held) ∧
    (∃ (us held _periods : Nat) (s : State), s.clock.halted = true ∧ s.clock.dead = false ∧ 10000 < us - held) ∧
    (∃ (_us held _periods : Nat) (s : State), s.clock.pllc = .seeking ∧ s.clock.settle = none ∧ s.clock.crystal = .good ∧ 50 ≤ held) ∧
    (∃ (_us _held _periods : Nat) (s : State), s.clock.pllt = .seeking ∧ s.clock.crystal = .good) ∧
    (∃ (dev : Int) (s : State), s.frame.running = true ∧ s.clock.crystal = .good ∧ 150 < dev.natAbs) ∧
    (∃ (dev : Int) (s : State), s.frame.running = true ∧ s.clock.crystal = .good ∧ dev.natAbs ≤ 150) ∧
    (∃ (off : Nat) (s : State), s.frame.running = true ∧ s.par 0x0010 = 2 ∧ (∀ p, s.frame.syncLast = some p → p + 9000 ≤ s.tickAt off)) ∧
    (∃ (off p : Nat) (s : State), s.frame.running = true ∧ s.par 0x0010 = 2 ∧ s.frame.syncLast = some p ∧ s.tickAt off < p + 9000) ∧
    (∃ (_off : Nat) (s : State), s.frame.running = true) ∧
    (∃ (off : Nat) (s : State), s.frame.running = true ∧ s.par 0x0010 = 2 ∧ s.frame.syncLost = false ∧ (∀ p, s.frame.syncLast = some p → p + 200000 ≤ s.tickAt off)) ∧
    (∃ s : State, s.frame.running = true ∧ s.frame.trimHeld = 20) ∧
    (∃ (n : Fin 4) (s : State), s.frame.running = true ∧ s.axReady n = true ∧ (s.axSt n).calEnd = none ∧ (s.motion.get n).still = true ∧ s.par 0x0022 ≤ (s.motion.get n).stillF ∧ s.par 0x0021 ≠ 0 ∧ 20000 * s.par 0x0021 ≤ s.since (s.axSt n).calLast ∧ s.unstarted n = false ∧ s.toAct n = false ∧ ¬ (s.ax n 0x16 = 0 ∧ s.ax n 0x1C = 0)) ∧
    (∃ (n : Fin 4) (e : BitVec 32) (s : State), (s.axSt n).calEnd = some e ∧ s.ahead e ≤ 1) :=
  ⟨⟨tBase, by decide +kernel⟩,
   ⟨tBase, by decide +kernel⟩,
   ⟨[0, 0], ({ (tPar [(0x31, 1)] tBase) with clock := { ((tPar [(0x31, 1)] tBase)).clock with crystal := .lost, onRc := true, lostAt := 900 } } : State), by decide +kernel⟩,
   ⟨[1001, 0], ({ (tPar [(0x31, 1)] tBase) with clock := { ((tPar [(0x31, 1)] tBase)).clock with crystal := .lost, onRc := true, lostAt := 900 } } : State), by decide +kernel⟩,
   ⟨1000, ({ tBase with clock := { (tBase).clock with settle := some 1000 } } : State), by decide +kernel⟩,
   ⟨990, ({ tBase with clock := { (tBase).clock with restored := some 990, pllc := .seeking, settle := some 990 } } : State), by decide +kernel⟩,
   ⟨tBase, by decide +kernel⟩,
   ⟨tBase, by decide +kernel⟩,
   ⟨tBase, by decide +kernel⟩,
   ⟨10100, 100, 500, ({ tBase with clock := { (tBase).clock with halted := true } } : State), by decide +kernel⟩,
   ⟨10101, 100, 500, ({ tBase with clock := { (tBase).clock with halted := true } } : State), by decide +kernel⟩,
   ⟨60, 50, 3, ({ tBase with clock := { (tBase).clock with pllc := .seeking } } : State), by decide +kernel⟩,
   ⟨60, 50, 3, ({ tBase with clock := { (tBase).clock with pllt := .seeking } } : State), by decide +kernel⟩,
   ⟨151, tBase, by decide +kernel⟩,
   ⟨-150, tBase, by decide +kernel⟩,
   ⟨7, (tPar [(0x10, 2)] tBase), by exact ⟨by decide +kernel, by decide +kernel, fun _ h => (by cases h)⟩⟩,
   ⟨8999, 10000000, ({ (tPar [(0x10, 2)] tBase) with frame := { ((tPar [(0x10, 2)] tBase)).frame with syncLast := some 10000000 } } : State), by decide +kernel⟩,
   ⟨8999, (tPar [(0x10, 2)] tBase), by decide +kernel⟩,
   ⟨0, (tPar [(0x10, 2)] tBase), by exact ⟨by decide +kernel, by decide +kernel, by decide +kernel, fun _ h => (by cases h)⟩⟩,
   ⟨({ tBase with frame := { (tBase).frame with trimHeld := 20 } } : State), by decide +kernel⟩,
   ⟨0, ({ (tPar [(axId 0 0x1C, 500)] ((tBase).updMotion 0 (fun x => { x with stillF := 2000 }))) with frame := { ((tPar [(axId 0 0x1C, 500)] ((tBase).updMotion 0 (fun x => { x with stillF := 2000 })))).frame with counter := 6000000 } } : State), by decide +kernel⟩,
   ⟨0, 1001, ((tBase).setSeq 0 (fun x => { x with calEnd := some 1001 })), by decide +kernel⟩⟩

theorem wit_PowerCycleComplete :
    (∃ (vbat : Nat) (s : State), s.powered = false ∧ 3500 < vbat) ∧
    (∃ (vbat : Nat) (_s : State), vbat < 3000) ∧
    (∃ s : State, s.pins.inReset = false) ∧
    (∃ (_tsten _roleUp _roleDown : Bool) (s : State), s.pins.inReset = true ∧ s.powered = true) ∧
    (∃ (vbat us : Nat) (s : State), (s.power.dev = .idle ∨ s.power.dev = .run ∨ s.power.dev = .standby) ∧ vbat < 4500 ∧ 5 ≤ us) ∧
    (∃ (src : Fin 9) (periods us vbat : Nat) (level : Bool) (s : State), s.power.change = none ∧ s.power.dev = .standby ∧ s.wakeEnabled src.val .standby = true ∧ (src ≠ 0 ∨ level = true) ∧ s.wakeMet src.val (50 * s.power.timerRan + 125 * periods / 4) us vbat = true) ∧
    (∃ (src : Fin 9) (periods us vbat : Nat) (level : Bool) (s : State), s.power.change = none ∧ s.power.dev = .sleep ∧ s.wakeEnabled src.val .sleep = true ∧ (src ≠ 0 ∨ level = true) ∧ s.wakeMet src.val (50 * s.power.timerRan + 125 * periods / 4) us vbat = true) :=
  ⟨⟨3501, State.reset, by decide +kernel⟩,
   ⟨2999, tBase, by decide +kernel⟩,
   ⟨tBase, by decide +kernel⟩,
   ⟨true, true, false, ({ tBase with pins := { (tBase).pins with inReset := true } } : State), by decide +kernel⟩,
   ⟨4499, 5, tBase, by decide +kernel⟩,
   ⟨6, 0, 0, 12000, true, ({ tBase with power := { (tBase).power with dev := .standby, wakeMask := 0xFF } } : State), by decide +kernel⟩,
   ⟨8, 0, 1000, 5001, true, ({ tBase with power := { (tBase).power with dev := .sleep, brownOut := true } } : State), by decide +kernel⟩⟩

theorem wit_SupplyComplete :
    (∃ (vm us : Nat) (s : State), s.power.vmUv = false ∧ vm < 6000 ∧ 5 ≤ us ∧ s.domReady .sys = true) ∧
    (∃ (vm sf : Nat) (s : State), s.power.vmUv = true ∧ 6500 < vm ∧ 1 ≤ sf ∧ s.domReady .sys = true ∧ s.domReady .aux = true) ∧
    (∃ (vm : Nat) (s : State), s.power.vmOv = false ∧ s.par 0x005A < vm ∧ s.domReady .sys = true) ∧
    (∃ (vm us : Nat) (s : State), s.power.vmOv = true ∧ vm < s.par 0x005A - s.par 0x0059 ∧ 50 ≤ us) ∧
    (∃ (vm _off : Nat) (s : State), s.domReady .aux = true ∧ s.par 0x005D = 1 ∧ s.power.brkg = false ∧ s.power.brkLock = false ∧ s.par 0x0058 < vm) ∧
    (∃ (vm _off : Nat) (s : State), s.domReady .aux = true ∧ s.power.brkg = true ∧ vm < s.par 0x0058 - s.par 0x0059) ∧
    (∃ (off : Nat) (s : State), s.power.brkg = true ∧ (200000 * s.par 0x005B ≤ s.tickAt off - s.power.brkOnAt ∨ s.par 0x005C * secondTicks < 100 * s.power.brkOnTime (s.tickAt off))) ∧
    (∃ (vm off : Nat) (s : State), s.power.brkg = true ∧ 400000 ≤ s.tickAt off - s.power.brkOnAt ∧ s.power.brkOnVm < vm + 500) ∧
    (∃ (mv us : Nat) (s : State), (mv < 9000 ∨ 13000 < mv) ∧ s.power.vgdLow = false ∧ s.power.vgdHigh = false ∧ 5 ≤ us ∧ axes4.any (fun n => s.pastStep1 n) = true) ∧
    (∃ (mv _us : Nat) (_s : State), 10000 ≤ mv ∧ mv ≤ 12500) ∧
    (∃ (mv _us : Nat) (s : State), 9000 ≤ mv ∧ mv < 10000 ∧ s.power.vgdLow = true ∧ s.power.vgdHigh = false) ∧
    (∃ (which : Fin 4) (mv us : Nat) (s : State), (mv < (supplyLimits which).1.1 ∨ (supplyLimits which).2.1 < mv) ∧ s.power.supLow.getLsbD which.val = false ∧ s.power.supHigh.getLsbD which.val = false ∧ s.domReady .sys = true ∧ 5 ≤ us) ∧
    (∃ (rbs vbat us : Nat) (s : State), s.domReady .aon = true ∧ s.pins.testHeld = false ∧ 4000 ≤ rbs ∧ vbat + 30 ≤ rbs ∧ 10 ≤ us) ∧
    (∃ (rbs vbat : Nat) (s : State), s.power.rbg = true ∧ (rbs + s.aonVal 0x005E < vbat ∨ rbs < 3000)) ∧
    (∃ (rbs vbat rbcp sf : Nat) (s : State), s.power.rbg = true ∧ s.domReady .sys = true ∧ 1 ≤ sf ∧ (vbat + 300 < rbs ∨ rbcp < rbs + 7000)) :=
  ⟨⟨5999, 5, tBase, by decide +kernel⟩,
   ⟨6501, 1, ({ tBase with power := { (tBase).power with vmUv := true } } : State), by decide +kernel⟩,
   ⟨62001, tBase, by decide +kernel⟩,
   ⟨20000, 50, ({ tBase with power := { (tBase).power with vmOv := true } } : State), by decide +kernel⟩,
   ⟨60001, 7, (tPar [(0x5D, 1)] tBase), by decide +kernel⟩,
   ⟨20000, 7, ({ tBase with power := { (tBase).power with brkg := true, brkOnAt := 10000000, brkOnVm := 24499 } } : State), by decide +kernel⟩,
   ⟨1000000000, ({ tBase with power := { (tBase).power with brkg := true, brkOnAt := 10000000, brkOnVm := 24499 } } : State), by decide +kernel⟩,
   ⟨24000, 400000, ({ tBase with power := { (tBase).power with brkg := true, brkOnAt := 10000000, brkOnVm := 24499 } } : State), by decide +kernel⟩,
   ⟨8999, 5, tBase, by decide +kernel⟩,
   ⟨10000, 5, tBase, by decide +kernel⟩,
   ⟨9500, 5, ({ tBase with power := { (tBase).power with vgdLow := true } } : State), by decide +kernel⟩,
   ⟨3, 1044, 5, tBase, by decide +kernel⟩,
   ⟨12030, 12000, 10, tBase, by decide +kernel⟩,
   ⟨2999, 2000, ({ tBase with power := { (tBase).power with rbg := true } } : State), by decide +kernel⟩,
   ⟨12301, 12000, 20000, 1, ({ tBase with power := { (tBase).power with rbg := true } } : State), by decide +kernel⟩⟩

theorem wit_SequencerComplete :
    (∃ (k : Nat) (_vals : List Int) (s : State), s.pins.inReset = false ∧ s.power.ana.stage = .up k ∧ 2 ≤ k ∧ k < 4 ∧ s.power.ana.latched = none ∧ (s.power.wakeLatched = none ∨ s.domReady .sys = true) ∧ 1 ≤ s.since s.power.ana.stepAt) ∧
    (∃ (_vals : List Int) (s : State), s.pins.inReset = false ∧ s.power.ana.stage = .up 4 ∧ s.power.ana.latched = none ∧ (s.power.wakeLatched = none ∨ s.domReady .sys = true) ∧ 1 ≤ s.since s.power.ana.stepAt) ∧
    (∃ (us : Nat) (s : State), s.stepOverdue .net us = true ∧ s.pins.inReset = false) ∧
    (∃ (us : Nat) (s : State), s.stepOverdue .sys us = true ∧ s.pins.inReset = false ∧ s.svc.trial = false ∧ 3 ≤ s.power.sysTries) ∧
    (∃ (n : Fin 4) (s : State), axes4.find? (fun k => s.seq k == .waiting) = some n ∧ s.mayBegin n = true ∧ 1 ≤ s.since (s.axSt n).stepAt) :=
  ⟨⟨3, [], ({ tBase with power := { (tBase).power with ana := { stage := .up 3, stepAt := 999 } } } : State), by decide +kernel⟩,
   ⟨[], ({ tBase with power := { (tBase).power with ana := { stage := .up 4, stepAt := 999 } } } : State), by decide +kernel⟩,
   ⟨0, ({ tBase with power := { (tBase).power with net := { stage := .up 1, stepAt := 0 } } } : State), by decide +kernel⟩,
   ⟨10000000, ({ tBase with power := { (tBase).power with sys := { stage := .up 1 }, sysTries := 3 } } : State), by decide +kernel⟩,
   ⟨0, ((tBase).setSeq 0 (fun x => { x with seq := .waiting, stepAt := 999 })), by decide +kernel⟩⟩

theorem wit_SequencerComplete_commands : accepted
    [(powerStateSpec, tCmd 0x1301 0 0 ([1, 0, 0, 0, 0, 0, 0, 0]) ((id) tBase))] = true := by decide +kernel

theorem wit_PinComplete :
    (∃ (_high : Bool) (s : State), s.pins.sealed = none) ∧
    (∃ (high : Bool) (s : State), s.pins.sealed.isSome = true ∧ s.pins.sealPin ≠ high ∧ s.aonWatches = true ∧ s.frame.running = true) ∧
    (∃ s : State, s.aonWatches = true ∧ s.pins.presLow = false ∧ s.pins.presStuck = false ∧ s.frame.running = true ∧ s.domReady .sys = true) ∧
    (∃ (sec : Nat) (s : State), s.aonWatches = true ∧ s.pins.presLow = true ∧ s.pins.presStuck = false ∧ s.aonVal 0x0044 ≤ sec ∧ s.frame.running = true) ∧
    (∃ s : State, s.aonWatches = true) ∧
    (∃ (ms : Nat) (s : State), s.aonWatches = true ∧ s.svc.window.isSome = true ∧ s.svc.winLen ≤ ms ∧ s.frame.running = true) ∧
    (∃ (pulse gap : Bool × Bool) (s : State), s.loopWatched = true ∧ loopBroken pulse gap = true ∧ s.svc.tamper = false) ∧
    (∃ (pulse gap : Bool × Bool) (s : State), s.loopWatched = true ∧ loopBroken pulse gap = true ∧ s.svc.tamper = true) ∧
    (∃ (pulse gap : Bool × Bool) (_s : State), loopBroken pulse gap = false) :=
  ⟨⟨true, tBase, by decide +kernel⟩,
   ⟨true, ({ tBase with pins := { (tBase).pins with sealed := some false, sealPin := false } } : State), by decide +kernel⟩,
   ⟨tBase, by decide +kernel⟩,
   ⟨100000, ({ tBase with pins := { (tBase).pins with presLow := true } } : State), by decide +kernel⟩,
   ⟨tBase, by decide +kernel⟩,
   ⟨100000000, ({ tBase with svc := { (tBase).svc with window := some 1 } } : State), by decide +kernel⟩,
   ⟨(false, false), (false, false), (tPar [(0x9001, 1)] tBase), by decide +kernel⟩,
   ⟨(true, true), (true, true), ({ (tPar [(0x9001, 1)] tBase) with svc := { ((tPar [(0x9001, 1)] tBase)).svc with tamper := true } } : State), by decide +kernel⟩,
   ⟨(false, true), (false, true), tBase, by decide +kernel⟩⟩

theorem wit_HostFrameComplete :
    (∃ (w : SckFrame) (f : HostFrame) (s : State), f = s.hostFrame w ∧ s.rdy = true ∧ f.isRead = false ∧ abortCause s f false = 0) ∧
    (∃ (w : SckFrame) (f : HostFrame) (s : State), f = s.hostFrame w ∧ s.rdy = true ∧ f.isRead = false ∧ abortCause s f false ≠ 0) ∧
    (∃ (w : SckFrame) (f : HostFrame) (s : State), f = s.hostFrame w ∧ s.rdy = true ∧ f.isRead = true ∧ f.isReset = false ∧ abortCause s f false = 0 ∧ f.crc = false ∧ f.late = []) ∧
    (∃ (w : SckFrame) (f : HostFrame) (s : State), f = s.hostFrame w ∧ s.rdy = true ∧ f.isRead = true ∧ 3 ≤ abortCause s f false) ∧
    (∃ (w : SelFall) (s : State), s.rdy = true ∧ w.rdy = true ∧ w.other = false) ∧
    (∃ (w : SckFrame) (f : HostFrame) (s : State), f = s.hostFrame w ∧ s.rdy = true ∧ 3 ≤ abortCause s f true ∧ (f.isRead = false ∨ s.cmdUnknown f = true)) ∧
    (∃ (w : HostWrite) (r : List HostWrite) (s : State), s.link.writes = w :: r ∧ 0x0800 ≤ w.addr ∧ w.addr + w.data.length ≤ 0x1000 ∧ cellWf s.intake.slots = true) ∧
    (∃ (w : HostWrite) (r : List HostWrite) (s : State), s.link.writes = w :: r ∧ 0x1000 ≤ w.addr ∧ cellWf s.intake.bulk = true) :=
  ⟨⟨tSck [0x14, 0x08, 0x00, 5], tBase.hostFrame (tSck [0x14, 0x08, 0x00, 5]), tBase, by decide +kernel⟩,
   ⟨{ tSck [0x14, 0x08, 0x00, 5] with cycles := (tSck [0x14, 0x08, 0x00, 5]).cycles ++ [0] }, tBase.hostFrame ({ tSck [0x14, 0x08, 0x00, 5] with cycles := (tSck [0x14, 0x08, 0x00, 5]).cycles ++ [0] }), tBase, by decide +kernel⟩,
   ⟨tSck [0x15, 0x08, 0x00, 0, 0, 0, 0], tBase.hostFrame (tSck [0x15, 0x08, 0x00, 0, 0, 0, 0]), tBase, by decide +kernel⟩,
   ⟨tSck [0x13, 0x08, 0x00, 0], tBase.hostFrame (tSck [0x13, 0x08, 0x00, 0]), tBase, by decide +kernel⟩,
   ⟨{ sckHigh := true, other := false, rdy := true }, tBase, by decide +kernel⟩,
   ⟨tSck [0x14, 0x08, 0x00, 5], tBase.hostFrame (tSck [0x14, 0x08, 0x00, 5]), tBase, by decide +kernel⟩,
   ⟨{ addr := 0xFFE, data := [1, 2] }, [], ({ tBase with link := { (tBase).link with writes := [{ addr := 0xFFE, data := [1, 2] }] } } : State), by decide +kernel⟩,
   ⟨{ addr := 0x1000, data := [1, 2] }, [], ({ tBase with link := { (tBase).link with writes := [{ addr := 0x1000, data := [1, 2] }] } } : State), by decide +kernel⟩⟩

theorem wit_StreamComplete :
    (∃ (w : SelFall) (bits : List Bool) (s : State), s.rdy = true ∧ cs1Cause s w = 0 ∧ s.host.strSrc = 1 ∧ 0 < min bits.length s.host.strlen) ∧
    (∃ (_read : List Bool) (s : State), s.host.strBrbusy = true) ∧
    (∃ (w : SelFall) (_clocks : Nat) (s : State), s.rdy = true ∧ cs1Cause s w = 0 ∧ s.host.strSrc = 2 ∧ s.host.strQuad = false) ∧
    (∃ (w : SelFall) (s : State), (w.rdy = true → s.rdy = true) ∧ cs1Cause s w ≠ 0) :=
  ⟨⟨{ sckHigh := false, other := false, rdy := true }, [true], ({ (tUnits 16#10 (tPar [(0x2406, 1)] tBase)) with host := { ((tUnits 16#10 (tPar [(0x2406, 1)] tBase))).host with strSrc := 1, strlen := 1 } } : State), by decide +kernel⟩,
   ⟨[true], ({ tBase with host := { (tBase).host with strBrbusy := true } } : State), by decide +kernel⟩,
   ⟨{ sckHigh := false, other := false, rdy := true }, 9, ({ tBase with host := { (tBase).host with strSrc := 2, strQuad := false } } : State), by decide +kernel⟩,
   ⟨{ sckHigh := false, other := true, rdy := true }, tBase, by decide +kernel⟩⟩

theorem wit_ParameterComplete :
    (∃ s : State, (s.intake.verdict.isSome = true ∨ s.intake.onVerdict ≠ [])) ∧
    (∃ (x : VerdictWait) (s : State), s.intake.onVerdict = [x] ∧ s.stage x.hop = .started ∧ x.code < 256 ∧ cellWf s.intake.slots = true) ∧
    (∃ (k : Nat) (s : State), s.intake.autoDue = true ∧ [28, 29, 30, 31].find? (fun h => s.stage h == .free) = some k ∧ s.intake.hops.length = 32 ∧ cellWf s.intake.slots = true) :=
  ⟨⟨({ tBase with intake := { (tBase).intake with verdict := some 1000 } } : State), by decide +kernel⟩,
   ⟨{ hop := 0, code := 1, detail := 0, data := [], ev := 0xFFFF, ids := [] }, ({ tBase with intake := { (tBase).intake with hops := updAt tBase.intake.hops 0 (fun _ => { stage := .started }), onVerdict := [{ hop := 0, code := 1, detail := 0, data := [], ev := 0xFFFF, ids := [] }] } } : State), by decide +kernel⟩,
   ⟨28, ({ tBase with intake := { (tBase).intake with autoDue := true } } : State), by decide +kernel⟩⟩

theorem wit_ParameterComplete_commands : accepted
    [(setParamSpec, tCmd 0x1 0 0 ([1, 0, 0, 0] ++ le16 0x81 ++ [3, 0, 7, 0, 0, 0, 0, 0, 0, 0]) ((id) tBase)),
     (getParamSpec, tCmd 0x2 0 0 ([1, 0, 0, 0] ++ le16 0x81) ((id) tBase)),
     (surveyRunSpec, tCmd 0x3 0 0 (List.replicate 4 0) ((id) tBase)),
     (enableUnitSpec, tCmd 0x4 0 0 ([64, 0, 0, 0]) ((id) tBase)),
     (disableUnitSpec, tCmd 0x5 0 0 ([64, 0, 0, 0]) ((id) tBase))] = true := by decide +kernel

theorem wit_ImageComplete_commands : accepted
    [(cfgClearSpec, tCmd 0x6 0 0 ([0, 0, 0, 0] ++ List.replicate 8 0) ((tCfg) tBase)),
     (cfgStageSpec, tCmd 0x6 8 0 ([1, 0, 0, 0] ++ List.replicate 8 0) ((tBulk (List.replicate 16 5)) tBase)),
     (cfgCheckSpec, tCmd 0x6 0 0 ([2, 0, 0, 0] ++ List.replicate 8 0) ((tCfg) tBase)),
     (cfgApplySpec, tCmd 0x6 0 0 ([3, 0, 0, 0] ++ List.replicate 8 0) ((tCfg) tBase)),
     (cfgSaveStagedSpec, tCmd 0x6 0 0 ([4, 0, 0, 0] ++ List.replicate 8 0) ((tCfg) tBase)),
     (cfgSaveWorkingSpec, tCmd 0x6 0 0 ([5, 0, 0, 0] ++ List.replicate 8 0) ((tCfg) tBase)),
     (cfgLoadStoredSpec, tCmd 0x6 0 0 ([6, 0, 0, 0] ++ List.replicate 8 0) ((tCfg) tBase)),
     (cfgReadStagingSpec, tCmd 0x6 0 0 ([7, 0, 0, 0] ++ List.replicate 8 0) ((tCfg) tBase)),
     (cfgEraseSpec, tCmd 0x6 0 0 ([8, 0, 0, 0] ++ List.replicate 8 0) ((tCfg) tBase))] = true := by decide +kernel

theorem wit_MotionStarts_commands : accepted
    [(moveToSpec, tCmd 0x103 0 1 (List.replicate 20 0) ((id) tBase)),
     (moveBySpec, tCmd 0x104 0 1 (List.replicate 20 0) ((id) tBase)),
     (jogSpec, tCmd 0x105 0 1 (List.replicate 16 0) ((id) tBase)),
     (followStepsSpec, tCmd 0x108 0 1 (List.replicate 4 0) ((tMode) tBase)),
     (followSpeedSpec, tCmd 0x220 0 1 (List.replicate 20 0) ((tUnits 0x1#10 ∘ tPar [(0x2000, 1)] ∘ tMode) tBase)),
     (homeFaceSpec, tCmd 0x140 0 1 (List.replicate 4 0 ++ le32 0x7FFFFFFF ++ le32 0 ++ le16 1000 ++ le16 256 ++ le32 0 ++ le32 1024) ((tMode) tBase)),
     (stopSpec, tCmd 0x106 0 1 (List.replicate 4 0) ((id) tBase)),
     (stopSpec, tCmd 0x106 0 1 (List.replicate 4 0) ((id) tBase)),
     (haltSpec, tCmd 0x107 0 1 ([]) ((id) tBase)),
     (setPositionSpec, tCmd 0x109 0 1 (List.replicate 8 0) ((id) tBase)),
     (axisStatusSpec, tCmd 0x10a 0 1 ([]) ((id) tBase))] = true := by decide +kernel

theorem wit_MicrostepComplete :
    (∃ (n : Fin 4) (_off high : Nat) (_dir _changed : Bool) (s : State), s.frame.running = true ∧ s.pinModeV n = false ∧ high < 40) ∧
    (∃ (n : Fin 4) (off high : Nat) (_dir : Bool) (s : State), s.frame.running = true ∧ s.pinModeV n = false ∧ 40 ≤ high ∧ (∀ t, s.pins.stepLast.get n = some t → t + 1000 ≤ 5 * s.tickAt off) ∧ (s.motion.get n).stepWait = none) ∧
    (∃ (n : Fin 4) (off acc : Nat) (up : Bool) (d : Int) (s : State), (s.motion.get n).stepWait = some (up, acc) ∧ acc ≤ s.tickAt off ∧ (s.motion.get n).state = .stepf ∧ (s.motion.get n).lagTrip = false ∧ d = (if up != (s.ax n 0x4B == 1) then (s.ax n 0x4A : Int) else -(s.ax n 0x4A : Int)) ∧ s.beyond n d = 0 ∧ (s.stepSettle n (s.tickAt off)).stepDue n (s.tickAt off) = none) ∧
    (∃ (n : Fin 4) (off : Nat) (d : Int) (s u : State), u = s.stepSettle n (s.tickAt off) ∧ u.stepDue n (s.tickAt off) = some d ∧ (¬ ((0 < d ∧ s.axI n 0x47 ≤ (s.motion.get n).p) ∨ (d < 0 ∧ (s.motion.get n).p ≤ s.axI n 0x46)))) ∧
    (∃ (n : Fin 4) (off : Nat) (d : Int) (s u : State), u = s.stepSettle n (s.tickAt off) ∧ u.stepDue n (s.tickAt off) = some d ∧ ((0 < d ∧ s.axI n 0x47 ≤ (s.motion.get n).p) ∨ (d < 0 ∧ (s.motion.get n).p ≤ s.axI n 0x46))) ∧
    (∃ (n : Fin 4) (s : State), (s.motion.get n).still = false ∧ (s.motion.get n).vel = 0 ∧ s.ax n 0x49 ≤ (s.motion.get n).idleF) :=
  ⟨⟨0, 5, 39, true, false, tBase, by decide +kernel⟩,
   ⟨0, 5, 40, true, tBase, by exact ⟨by decide +kernel, by decide +kernel, by decide +kernel, fun _ h => (by cases h), by decide +kernel⟩⟩,
   ⟨0, 100, 10000040, true, 16, (((tPar [(axId 0 0x46, 0xFFFF0000), (axId 0 0x47, 0x10000)] tBase)).updMotion 0 (fun x => { x with state := .stepf, stepWait := some (true, 10000040), lastStep := some 10000050 })), by decide +kernel⟩,
   ⟨0, 200, 1, (((tPar [(axId 0 0x46, 0xFFFF0000), (axId 0 0x47, 0x10000)] tBase)).updMotion 0 (fun x => { x with state := .stepf, demand := 1, pulseAt := some 10000000 })), ((((tPar [(axId 0 0x46, 0xFFFF0000), (axId 0 0x47, 0x10000)] tBase)).updMotion 0 (fun x => { x with state := .stepf, demand := 1, pulseAt := some 10000000 }))).stepSettle 0 (((((tPar [(axId 0 0x46, 0xFFFF0000), (axId 0 0x47, 0x10000)] tBase)).updMotion 0 (fun x => { x with state := .stepf, demand := 1, pulseAt := some 10000000 }))).tickAt 200), by exact ⟨rfl, by decide +kernel, by decide +kernel⟩⟩,
   ⟨0, 200, 1, (((tPar [(axId 0 0x46, 0xFFFF0000), (axId 0 0x47, 0x10000)] tBase)).updMotion 0 (fun x => { x with state := .stepf, demand := 1, p := 0x10000, pulseAt := some 10000000 })), ((((tPar [(axId 0 0x46, 0xFFFF0000), (axId 0 0x47, 0x10000)] tBase)).updMotion 0 (fun x => { x with state := .stepf, demand := 1, p := 0x10000, pulseAt := some 10000000 }))).stepSettle 0 (((((tPar [(axId 0 0x46, 0xFFFF0000), (axId 0 0x47, 0x10000)] tBase)).updMotion 0 (fun x => { x with state := .stepf, demand := 1, p := 0x10000, pulseAt := some 10000000 }))).tickAt 200), by exact ⟨rfl, by decide +kernel, by decide +kernel⟩⟩,
   ⟨0, ((tBase).updMotion 0 (fun x => { x with still := false, idleF := 2000 })), by decide +kernel⟩⟩

theorem wit_CurrentComplete :
    (∃ (n : Fin 4) (s : State), s.pinMode n = false ∧ (s.cur.get n).hold = .moving ∧ (s.motion.get n).still = true ∧ s.curMoving n = false ∧ s.ax n 0x14 ≤ (s.motion.get n).holdF) ∧
    (∃ (n : Fin 4) (s : State), s.pinMode n = false ∧ (s.cur.get n).hold = .ramp ∧ s.ax n 0x15 ≤ (s.cur.get n).rampF) ∧
    (∃ (n : Fin 4) (c : Fin 2) (_code _ton : Nat) (s : State), s.chops n = true ∧ ((s.cur.get n).coil c.val).phase = .on ∧ ((s.cur.get n).coil c.val).setp ≠ 0 ∧ ((s.cur.get n).coil c.val).insTo = none) ∧
    (∃ (n : Fin 4) (c : Fin 2) (ton : Nat) (s : State), s.chops n = true ∧ ((s.cur.get n).coil c.val).phase = .blank ∧ 25 * s.ax n 0x00 ≤ ton) ∧
    (∃ (n : Fin 4) (c : Fin 2) (gone : Nat) (s : State), s.chops n = true ∧ ((s.cur.get n).coil c.val).phase = .fast ∧ ((s.cur.get n).coil c.val).setp ≠ 0 ∧ 50 * s.ax n 0x03 * ((s.cur.get n).coil c.val).frac ≤ 16 * gone) ∧
    (∃ (n : Fin 4) (c : Fin 2) (s : State), s.chops n = true ∧ ((s.cur.get n).coil c.val).phase = .fast) ∧
    (∃ (n : Fin 4) (c : Fin 2) (gone : Nat) (s : State), s.chops n = true ∧ (((s.cur.get n).coil c.val).phase = .fast ∨ ((s.cur.get n).coil c.val).phase = .slow) ∧ ((s.cur.get n).coil c.val).setp ≠ 0 ∧ 50 * s.ax n 0x03 ≤ gone) ∧
    (∃ (n : Fin 4) (c : Fin 2) (_code ton : Nat) (s : State), s.chops n = true ∧ ((s.cur.get n).coil c.val).phase = .on ∧ ((s.cur.get n).coil c.val).insTo = none ∧ 200 * s.par 0xA016 ≤ ton) ∧
    (∃ (n : Fin 4) (c : Fin 2) (_code : Nat) (s : State), s.regulates n = true ∧ (s.cur.get n).voltage = true ∧ ((s.cur.get n).coil c.val).raise = none) :=
  ⟨⟨0, ((((tBase).updMotion 0 (fun x => { x with holdF := 100000 }))).updCur 0 (fun x => { x with hold := .moving })), by decide +kernel⟩,
   ⟨0, ((tBase).updCur 0 (fun x => { x with hold := .ramp, rampF := 5000 })), by decide +kernel⟩,
   ⟨0, 0, 100, 50, ((tBase).updCur 0 (fun x => { (x.updCoil 0 (fun z => { z with phase := .on, setp := 1000 })) with hold := .moving, voltage := false })), by decide +kernel⟩,
   ⟨0, 0, 1000000000, ((tBase).updCur 0 (fun x => { (x.updCoil 0 (fun z => { z with phase := .blank })) with hold := .moving, voltage := false })), by decide +kernel⟩,
   ⟨0, 0, 1000000000, ((tBase).updCur 0 (fun x => { (x.updCoil 0 (fun z => { z with phase := .fast, setp := 1000 })) with hold := .moving, voltage := false })), by decide +kernel⟩,
   ⟨0, 0, ((tBase).updCur 0 (fun x => { (x.updCoil 0 (fun z => { z with phase := .fast })) with hold := .moving, voltage := false })), by decide +kernel⟩,
   ⟨0, 0, 1000000000, ((tBase).updCur 0 (fun x => { (x.updCoil 0 (fun z => { z with phase := .slow, setp := -5 })) with hold := .moving, voltage := false })), by decide +kernel⟩,
   ⟨0, 0, 100, 1000000000, ((tBase).updCur 0 (fun x => { (x.updCoil 0 (fun z => { z with phase := .on })) with hold := .moving, voltage := false })), by decide +kernel⟩,
   ⟨0, 0, 100, ((tBase).updCur 0 (fun x => { x with hold := .moving, voltage := true })), by decide +kernel⟩⟩

theorem wit_CurrentComplete_commands : accepted
    [(chiselSaveSpec, tCmd 0x120 0 1 ([2, 0, 0, 0]) ((tAxOff ∘ tTab) tBase)),
     (chiselReadSpec, tCmd 0x120 0 1 ([3, 0, 0, 0]) ((tAxOff ∘ tTab) tBase)),
     (chiselReloadSpec, tCmd 0x120 0 1 ([4, 0, 0, 0]) ((tAxOff ∘ tTab) tBase)),
     (curStatusSpec, tCmd 0x121 0 1 ([]) ((id) tBase))] = true := by decide +kernel

theorem wit_WedgeComplete :
    (∃ (n : Fin 4) (_va _vb : Int) (x : WedgeWin) (s : State), (s.wedge.get n).due = some x ∧ (s.wedge.get n).ended = none) ∧
    (∃ (n : Fin 4) (c : Bool) (d : Int) (s : State), (s.wedge.get n).ended = some (false, c, d)) ∧
    (∃ (n : Fin 4) (c : Bool) (d : Int) (s : State), (s.wedge.get n).ended = some (true, c, d) ∧ (s.wedge.get n).perV ≠ 0) ∧
    (∃ (n : Fin 4) (s : State), (s.wedge.get n).home.st = .settle ∧ 4 ≤ (s.wedge.get n).home.settleF) :=
  ⟨⟨0, 26001, 5, { fin := some (true, false), units := 8, capA := 0, capB := 0, capN := 0, sumA := 0, sumB := 0, dA := 0, dB := 0, dt := 1000, e := 0, v := 100, p := 0, dir := 1 }, ((tBase).updWedge 0 (fun x => { x with due := some { fin := some (true, false), units := 8, capA := 0, capB := 0, capN := 0, sumA := 0, sumB := 0, dA := 0, dB := 0, dt := 1000, e := 0, v := 100, p := 0, dir := 1 }, windows := 63, implaus := 7 })), by decide +kernel⟩,
   ⟨0, true, -1, ((tBase).updWedge 0 (fun x => { x with windows := 64, ended := some (false, true, -1) })), by decide +kernel⟩,
   ⟨0, true, -1, ((tBase).updWedge 0 (fun x => { x with windows := 64, ended := some (true, true, -1), perV := 100, sumEs := 640, sumEc := 640 })), by decide +kernel⟩,
   ⟨0, ((tBase).updWedge 0 (fun x => { x with home := { x.home with st := .settle, settleF := 4 } })), by decide +kernel⟩⟩

theorem wit_WedgeComplete_commands : accepted
    [(wedgeLearnSpec, tCmd 0x141 0 1 (List.replicate 4 0) ((id) tBase)),
     (wedgeStatusSpec, tCmd 0x142 0 1 ([]) ((id) tBase))] = true := by decide +kernel

theorem wit_GateEdgeComplete :
    (∃ (n b : Fin 4) (high : Bool) (off _vds bs : Nat) (s : State), ((s.bridge n b).sw high).turning = false ∧ s.swBlocked n b high = false ∧ s.edgeCalled n b high true (s.tickAt off) = true ∧ ((s.bridge n b).sw (!high)).phase = .off ∧ (high = true → 7000 ≤ bs)) ∧
    (∃ (n b : Fin 4) (high : Bool) (off _vds _bs : Nat) (s : State), ((s.bridge n b).sw high).turning = false ∧ s.swBlocked n b high = false ∧ s.edgeCalled n b high true (s.tickAt off) = true ∧ ((s.bridge n b).sw (!high)).phase ≠ .off) ∧
    (∃ (n b : Fin 4) (off _vds bs : Nat) (s : State), (s.bridge n b).hi.turning = false ∧ s.swBlocked n b true = false ∧ s.edgeCalled n b true true (s.tickAt off) = true ∧ (s.bridge n b).lo.phase = .off ∧ bs < 7000) ∧
    (∃ (n b : Fin 4) (high : Bool) (off _vds _bs : Nat) (s : State), ((s.bridge n b).sw high).turning = true ∧ s.edgeCalled n b high false (s.tickAt off) = true) ∧
    (∃ (n b : Fin 4) (high : Bool) (_vds _vgs len : Nat) (_lag : Int) (s : State), ((s.bridge n b).sw high).phase = .onP1 ∧ len < ((s.bridge n b).sw high).tpreOn) ∧
    (∃ (n b : Fin 4) (high : Bool) (_vds _vgs len : Nat) (_lag : Int) (s : State), ((s.bridge n b).sw high).phase = .onP1 ∧ ((s.bridge n b).sw high).tpreOn ≤ len) ∧
    (∃ (n b : Fin 4) (high : Bool) (vds vgs _len : Nat) (_lag : Int) (s : State), ((s.bridge n b).sw high).phase = .onP2 ∧ s.ps n 8 ≠ 1 ∧ (vds ≤ 1000 ∨ 7000 ≤ vgs)) ∧
    (∃ (n b : Fin 4) (high : Bool) (_vds _vgs len : Nat) (_lag : Int) (s : State), ((s.bridge n b).sw high).phase = .offP1 ∧ ((s.bridge n b).sw high).fault = false ∧ ((s.bridge n b).sw high).tpreOff ≤ len) ∧
    (∃ (n b : Fin 4) (high : Bool) (vds vgs _len : Nat) (_lag : Int) (s : State), ((s.bridge n b).sw high).phase = .offP2 ∧ ((s.bridge n b).sw high).fault = false ∧ s.ps n 8 ≠ 1 ∧ (s.power.vm ≤ vds + 1000 ∨ vgs ≤ 1500)) ∧
    (∃ (n b : Fin 4) (high : Bool) (_vds _vgs _len : Nat) (_lag : Int) (s : State), (((s.bridge n b).sw high).phase = .offP1 ∨ ((s.bridge n b).sw high).phase = .offP2 ∨ ((s.bridge n b).sw high).phase = .offP3) ∧ ((s.bridge n b).sw high).fault = true) ∧
    (∃ (n b : Fin 4) (high : Bool) (vds vgs len : Nat) (_lag : Int) (s : State), ((s.bridge n b).sw high).phase = .onP2 ∧ 1000 < vds ∧ vgs < 7000 ∧ s.ps n 7 ≤ len) ∧
    (∃ (n b : Fin 4) (high : Bool) (gone : Moment) (low _vds bs : Nat) (s : State), (s.bridge n b).pending = some high ∧ s.swBlocked n b high = false ∧ ((s.bridge n b).sw (!high)).turning = false ∧ (high = true → (s.bridge n b).insert = false) ∧ s.ps n 0x0A ≤ gone.val ∧ 2 ≤ low ∧ (high = true → 7000 ≤ bs)) ∧
    (∃ (n b : Fin 4) (gone : Moment) (low _vds bs : Nat) (s : State), (s.bridge n b).pending = some true ∧ s.swBlocked n b true = false ∧ (s.bridge n b).lo.turning = false ∧ (s.bridge n b).insert = true ∧ (∀ k, (s.bridge n k).due = false) ∧ s.ps n 0x0A ≤ gone.val ∧ 2 ≤ low ∧ 7000 ≤ bs ∧ s.pinMode n = false ∧ (s.cur.get n).voltage = false ∧ ((s.cur.get n).coil (coilOf b)).phase = .on) ∧
    (∃ (n b : Fin 4) (high : Bool) (vgs : Nat) (len : Moment) (s : State), (((s.bridge n b).sw high).phase = .offP1 ∨ ((s.bridge n b).sw high).phase = .offP2 ∨ ((s.bridge n b).sw high).phase = .offP3) ∧ ((s.bridge n b).sw high).cause = 0 ∧ 1500 < vgs ∧ s.ps n 7 + 200 ≤ len.val) ∧
    (∃ (n b : Fin 4) (off : Nat) (s : State), (s.bridge n b).refreshAt + 200 * s.ps n 0x10 ≤ s.tickAt off ∧ s.pinMode n = false ∧ (s.cur.get n).voltage = true ∧ (s.cur.get n).hold = .moving ∧ s.curLive n = true) ∧
    (∃ (n b : Fin 4) (off : Nat) (s : State), (s.bridge n b).refreshAt + 200 * s.ps n 0x10 ≤ s.tickAt off ∧ (s.cur.get n).voltage = false ∧ (s.bridge n b).hi.turning = true ∧ s.swBlocked n b false = false ∧ (∀ k, (s.bridge n k).insert = false ∧ (k ≠ b → (s.bridge n k).due = false))) ∧
    (∃ (n b k : Fin 4) (off : Nat) (s : State), (s.bridge n b).refreshAt + 200 * s.ps n 0x10 ≤ s.tickAt off ∧ (s.cur.get n).voltage = false ∧ (s.bridge n b).hi.turning = true ∧ (s.bridge n b).insert = false ∧ (s.bridge n k).insert = true) ∧
    (∃ (n b : Fin 4) (off a : Nat) (s : State), (s.bridge n b).lowAt = some a ∧ a + s.ps n 0x11 ≤ s.tickAt off ∧ (s.bridge n b).insert = true) ∧
    (∃ (n b : Fin 4) (off a : Nat) (s : State), (s.bridge n b).lowAt = some a ∧ a + s.ps n 0x11 ≤ s.tickAt off ∧ (s.bridge n b).insert = false ∧ s.pinMode n = false ∧ (s.cur.get n).hold = .quiet ∧ (s.bridge n b).lo.turning = true) ∧
    (∃ (n b : Fin 4) (mv : Moment) (s : State), (s.bridge n b).recharge = true ∧ 8000 ≤ mv.val ∧ (s.bridge n b).lo.turning = true) ∧
    (∃ (n b : Fin 4) (mv : Nat) (us : Moment) (s : State), (s.bridge n b).recharge = true ∧ mv < 8000 ∧ 20 ≤ us.val ∧ (s.bridge n b).hi.cause = 0) ∧
    (∃ (n b : Fin 4) (mv ns : Nat) (len : Moment) (s : State), (s.bridge n b).hi.turning = true ∧ (s.bridge n b).hi.cause = 0 ∧ mv < 7000 ∧ 100 ≤ ns ∧ max (s.bridge n b).hi.tpreOn (compHold (16 + 4 * n.val + b.val)) ≤ len.val) ∧
    (∃ (n : Fin 4) (off : Nat) (s : State), (((s.cur.get n).hold = .quiet ∧ s.permHeld n = false) ∨ s.pulsesOnly n = true) ∧ (s.gate.get n).quietAt + 50 * s.ps n 0x10 ≤ s.tickAt off ∧ s.curLive n = true ∧ s.faults.safe.get n = 0 ∧ s.faults.device = false ∧ (s.gate.get n).hwOff = false ∧ s.mon.shut = false ∧ (s.gate.get n).enBack = 0 ∧ s.enableOf n (Fin.ofNat 4 (s.gate.get n).quietH) = true ∧ s.power.vmOv = false ∧ s.pinMode n = false) :=
  ⟨⟨0, 0, true, 7, 24000, 12000, ((tBase).updCur 0 (fun x => { (x.updCoil 0 (fun z => { z with phase := .on })) with hold := .moving, voltage := false })), by decide +kernel⟩,
   ⟨0, 0, true, 7, 24000, 12000, ((((tBase).updCur 0 (fun x => { (x.updCoil 0 (fun z => { z with phase := .on })) with hold := .moving, voltage := false }))).updBridge 0 0 (fun x => x.updSw false (fun y => { y with phase := .on }))), by decide +kernel⟩,
   ⟨0, 0, 7, 24000, 6999, ((tBase).updCur 0 (fun x => { (x.updCoil 0 (fun z => { z with phase := .on })) with hold := .moving, voltage := false })), by decide +kernel⟩,
   ⟨0, 0, true, 7, 24000, 12000, ((((tBase).updCur 0 (fun x => { x with hold := .quiet }))).updBridge 0 0 (fun x => x.updSw true (fun y => { y with phase := .on }))), by decide +kernel⟩,
   ⟨0, 0, true, 24000, 3000, 5, 0, ((tBase).updBridge 0 0 (fun x => x.updSw true (fun y => { y with phase := .onP1, tpreOn := 6 }))), by decide +kernel⟩,
   ⟨0, 0, true, 24000, 3000, 6, 0, ((tBase).updBridge 0 0 (fun x => x.updSw true (fun y => { y with phase := .onP1, tpreOn := 6 }))), by decide +kernel⟩,
   ⟨0, 0, true, 1000, 3000, 5, 0, (((tPar [(psId 0 8, 2)] tBase)).updBridge 0 0 (fun x => x.updSw true (fun y => { y with phase := .onP2 }))), by decide +kernel⟩,
   ⟨0, 0, true, 23000, 3000, 5, 0, ((tBase).updBridge 0 0 (fun x => x.updSw true (fun y => { y with phase := .offP1, tpreOff := 5 }))), by decide +kernel⟩,
   ⟨0, 0, true, 23000, 3000, 5, 0, (((tPar [(psId 0 8, 2)] tBase)).updBridge 0 0 (fun x => x.updSw true (fun y => { y with phase := .offP2 }))), by decide +kernel⟩,
   ⟨0, 0, true, 23000, 1501, 5, 0, ((tBase).updBridge 0 0 (fun x => x.updSw true (fun y => { y with phase := .offP1, fault := true }))), by decide +kernel⟩,
   ⟨0, 0, true, 1001, 6999, 1000000000, 0, (((tPar [(psId 0 8, 2)] tBase)).updBridge 0 0 (fun x => x.updSw true (fun y => { y with phase := .onP2 }))), by decide +kernel⟩,
   ⟨0, 0, true, ⟨7, 1000000000⟩, 2, 24000, 12000, ((tBase).updBridge 0 0 (fun x => { x with pending := some true })), by decide +kernel⟩,
   ⟨0, 0, ⟨7, 1000000000⟩, 2, 24000, 7000, ((((tBase).updCur 0 (fun x => { (x.updCoil 0 (fun z => { z with phase := .on })) with hold := .moving, voltage := false }))).updBridge 0 0 (fun x => { x with pending := some true, insert := true })), by decide +kernel⟩,
   ⟨0, 0, false, 1501, ⟨7, 1000000000⟩, ((tBase).updBridge 0 0 (fun x => x.updSw false (fun y => { y with phase := .offP2 }))), by decide +kernel⟩,
   ⟨0, 0, 7, ((tBase).updCur 0 (fun x => { x with voltage := true, hold := .moving })), by decide +kernel⟩,
   ⟨0, 0, 7, ((((tBase).updCur 0 (fun x => { x with voltage := false }))).updBridge 0 0 (fun x => x.updSw true (fun y => { y with phase := .on }))), by decide +kernel⟩,
   ⟨0, 0, 1, 7, ((((((tBase).updCur 0 (fun x => { x with voltage := false }))).updBridge 0 0 (fun x => x.updSw true (fun y => { y with phase := .on })))).updBridge 0 1 (fun x => { x with insert := true })), by decide +kernel⟩,
   ⟨0, 0, 7, 10, ((tBase).updBridge 0 0 (fun x => { x with insert := true, lowAt := some 10 })), by decide +kernel⟩,
   ⟨0, 0, 7, 10, ((((((tBase).updCur 0 (fun x => { x with hold := .quiet }))).updBridge 0 0 (fun x => x.updSw false (fun y => { y with phase := .on })))).updBridge 0 0 (fun x => { x with lowAt := some 10 })), by decide +kernel⟩,
   ⟨0, 0, ⟨7, 8000⟩, ((tBase).updBridge 0 0 (fun x => { (x.updSw false (fun y => { y with phase := .on })) with recharge := true })), by decide +kernel⟩,
   ⟨0, 0, 7999, ⟨7, 20⟩, ((tBase).updBridge 0 0 (fun x => { x with recharge := true })), by decide +kernel⟩,
   ⟨0, 0, 6999, 100, ⟨7, 1000000000⟩, ((tBase).updBridge 0 0 (fun x => x.updSw true (fun y => { y with phase := .on }))), by exact ⟨by decide +kernel, by decide +kernel, by decide +kernel, by decide +kernel, max_le (by decide +kernel) (le_trans (min_le_left _ _) (by decide +kernel))⟩⟩,
   ⟨0, 7, ((tBase).updCur 0 (fun x => { x with hold := .quiet })), by decide +kernel⟩⟩

theorem wit_GateInputComplete :
    (∃ (n b : Fin 4) (high : Bool) (val : Int) (on : Nat) (len : Moment) (s : State), ((s.bridge n b).sw high).turning = true ∧ ((s.bridge n b).sw high).cause = 0 ∧ s.ps n 0x13 ≤ on ∧ (s.ps n 0x12 : Int) < val ∧ s.ps n 0x14 ≤ len.val) ∧
    (∃ (n b : Fin 4) (_high : Bool) (val : Int) (_on : Nat) (len : Moment) (s : State), s.gateArmed n = true ∧ (s.ps n 0x15 : Int) < val ∧ s.ps n 0x17 ≤ len.val ∧ s.shuntLive n b (s.tickAt len.off) = true) ∧
    (∃ (n b : Fin 4) (_high : Bool) (val : Int) (_on : Nat) (len : Moment) (s : State), s.gateArmed n = true ∧ val < -(s.ps n 0x16 : Int) ∧ s.ps n 0x17 ≤ len.val ∧ s.shuntLive n b (s.tickAt len.off) = true) ∧
    (∃ (n : Fin 4) (s : State), s.pinModeV n = false ∧ s.axen n = true) ∧
    (∃ (n b : Fin 4) (s : State), s.pinModeV n = true ∧ (s.pins.pinEn.get n).get b = true) ∧
    (∃ (n : Fin 4) (s : State), s.pinModeV n = false ∧ s.axen n = false) ∧
    (∃ (n b : Fin 4) (s : State), s.pinModeV n = true ∧ (s.pins.pinEn.get n).get b = false) ∧
    (∃ (n k : Fin 4) (level : Bool) (width : Moment) (_vds _bs : Nat) (s : State), s.pinModeV n = true ∧ s.seq n = .ready ∧ (s.pins.pinIn.get n).get k ≠ level ∧ width.val < s.ps n 0x18) ∧
    (∃ (n k : Fin 4) (level : Bool) (width : Moment) (_vds _bs : Nat) (s : State), s.pinModeV n = true ∧ s.seq n = .ready ∧ (s.pins.pinIn.get n).get k ≠ level ∧ s.ps n 0x18 ≤ width.val) :=
  ⟨⟨0, 0, true, 1000000000, 1000000000, ⟨7, 1000000000⟩, ((tBase).updBridge 0 0 (fun x => x.updSw true (fun y => { y with phase := .on }))), by decide +kernel⟩,
   ⟨0, 0, true, 1000000000, 0, ⟨7, 1000000000⟩, tBase, by decide +kernel⟩,
   ⟨0, 0, true, -1000000000, 0, ⟨7, 1000000000⟩, tBase, by decide +kernel⟩,
   ⟨0, tBase, by decide +kernel⟩,
   ⟨0, 0, ({ (tPar [(psId 0 0, 1)] tBase) with pins := { ((tPar [(psId 0 0, 1)] tBase)).pins with pinEn := Quad.all (Quad.all true) } } : State), by decide +kernel⟩,
   ⟨0, ({ tBase with pins := { (tBase).pins with pinEn := Quad.all (Quad.all false) } } : State), by decide +kernel⟩,
   ⟨0, 0, ({ (tPar [(psId 0 0, 1)] tBase) with pins := { ((tPar [(psId 0 0, 1)] tBase)).pins with pinEn := Quad.all (Quad.all false) } } : State), by decide +kernel⟩,
   ⟨0, 0, true, ⟨7, 0⟩, 24000, 12000, (tPar [(psId 0 0x18, 5)] (tPar [(psId 0 0, 1)] tBase)), by decide +kernel⟩,
   ⟨0, 0, true, ⟨7, 0x1000000⟩, 24000, 7000, (tPar [(psId 0 0, 1)] tBase), by decide +kernel⟩⟩

theorem wit_GateInputComplete_commands : accepted
    [(gateStatusSpec, tCmd 0x301 0 1 ([]) ((id) tBase))] = true := by decide +kernel

theorem wit_MonitorComplete :
    (∃ (_conv : UnitConv) (_val : Int) (_slot : Option DiagSlot) (s : State), s.domReady .ana = true ∧ s.mon.adcNext = 0) ∧
    (∃ (_conv : UnitConv) (_val : Int) (_slot : Option DiagSlot) (s : State), s.domReady .ana = true ∧ s.mon.adcNext ≤ 1) ∧
    (∃ (_conv : UnitConv) (_val : Int) (_slot : Option DiagSlot) (s : State), s.domReady .ana = true ∧ s.mon.adcNext ≤ 2) ∧
    (∃ (_conv : UnitConv) (_val : Int) (_slot : Option DiagSlot) (s : State), s.domReady .ana = true ∧ s.mon.adcNext ≤ 3) ∧
    (∃ (_conv : UnitConv) (_val : Int) (_slot : Option DiagSlot) (s : State), s.domReady .ana = true ∧ s.mon.adcNext ≤ 4) ∧
    (∃ (u : Fin 25) (w : Fin 4) (_conv : UnitConv) (_val : Int) (_slot : Option DiagSlot) (s : State), s.domReady .ana = true ∧ s.mon.adcNext ≤ u.val ∧ u.val = 6 + w.val) ∧
    (∃ (u : Fin 25) (_conv : UnitConv) (_val : Int) (_slot : Option DiagSlot) (s : State), u.val < s.mon.adcNext) ∧
    (∃ (_conv : UnitConv) (val : Int) (_slot : Option DiagSlot) (s : State), s.domReady .ana = true ∧ s.mon.adcNext ≤ 5 ∧ 1650 ≤ val ∧ s.mon.shut = false) ∧
    (∃ (u : Fin 25) (_conv : UnitConv) (uv : Nat) (_val : Int) (_k : Fin 2) (s : State), s.domReady .ana = true ∧ s.mon.adcNext ≤ u.val ∧ 10 ≤ u.val ∧ (uv < 1237500 ∨ 1262500 < uv)) ∧
    (∃ (w : Fin 4) (mv us : Nat) (s : State), s.par (0x4000 + 4 * w.val) ≠ 0 ∧ s.domReady .aux = true ∧ s.par (0x4003 + 4 * w.val) ≤ us ∧ (mv < s.par (0x4001 + 4 * w.val) ∨ s.par (0x4002 + 4 * w.val) < mv) ∧ s.mon.winOut.get w = false) ∧
    (∃ (w : Fin 4) (mv us : Nat) (s : State), s.par (0x4000 + 4 * w.val) ≠ 0 ∧ s.domReady .aux = true ∧ s.par (0x4003 + 4 * w.val) ≤ us ∧ s.par (0x4001 + 4 * w.val) ≤ mv ∧ mv ≤ s.par (0x4002 + 4 * w.val) ∧ s.mon.winOut.get w = true) ∧
    (∃ (item : Nat) (s : State), (itemClass item = some .ref ∨ itemClass item = some .cmp) ∧ (s.item item).state = .ok ∧ (s.ageLimits ((itemClass item).getD .coil)).1 ≤ (s.item item).age) ∧
    (∃ (item : Nat) (_val : Int) (s : State), (s.item item).state = .ageing ∧ (s.item item).insNow = false ∧ insertAxis item = none ∧ s.insertOk item = true ∧ s.insertRuns item = false) ∧
    (∃ (item : Nat) (val : Int) (s : State), itemClass item = some .brake ∧ s.insertRuns item = true ∧ s.inService item = true ∧ s.par (0x4026 + 8 * (item % 4)) ≤ val.toNat) ∧
    (∃ (b : Fin 4) (s : State), (s.mon.brakes.get b).on = true ∧ (s.mon.brakes.get b).economy = false ∧ s.ahead (s.mon.brakes.get b).onAt + (20 * s.par (0x4021 + 8 * b.val) : Nat) ≤ 0) ∧
    (∃ (b n : Fin 4) (s : State), s.par (0x4020 + 8 * b.val) = n.val ∧ s.par (0x4025 + 8 * b.val) = 1 ∧ (s.mon.brakes.get b).on = true ∧ (s.mon.brakes.get b).waiter = none ∧ (s.motion.get n).still = true ∧ (s.motion.get n).state ≠ .haul ∧ s.ax n 0x14 - 20 * s.par (0x4024 + 8 * b.val) ≤ (s.motion.get n).holdF) ∧
    (∃ (b : Fin 4) (ma ns : Nat) (s : State), s.brakeIsOn b = true ∧ 3000 < ma ∧ 2000 ≤ ns) ∧
    (∃ (b : Fin 4) (h : Nat) (s : State), (s.mon.brakes.get b).waiter = some h ∧ s.frame.running = true ∧ h < 32 ∧ s.intake.hops.length = 32 ∧ s.ahead (s.mon.brakes.get b).onAt + (20 * s.par (0x4023 + 8 * b.val) : Nat) ≤ 1 ∧ s.stage h = .started ∧ (∀ c, c ≠ b → (s.mon.brakes.get c).waiter ≠ some h)) :=
  ⟨⟨⟨[1, 2, 3, 4, 5, 6, 7, 8], 24000⟩, 24000, none, tBase, by decide +kernel⟩,
   ⟨⟨[1, 2, 3, 4, 5, 6, 7, 8], 24000⟩, 12000, none, tBase, by decide +kernel⟩,
   ⟨⟨[1, 2, 3, 4, 5, 6, 7, 8], 24000⟩, 5000, none, tBase, by decide +kernel⟩,
   ⟨⟨[1, 2, 3, 4, 5, 6, 7, 8], 24000⟩, 3300, none, tBase, by decide +kernel⟩,
   ⟨⟨[1, 2, 3, 4, 5, 6, 7, 8], 24000⟩, 1200, none, tBase, by decide +kernel⟩,
   ⟨6, 0, ⟨[1, 2, 3, 4, 5, 6, 7, 8], 24000⟩, 500, none, ((tBase).updWedge 0 (fun x => { x with open_ := some (10000000, 0, 0) })), by decide +kernel⟩,
   ⟨5, ⟨[1, 2, 3, 4, 5, 6, 7, 8], 24000⟩, 500, none, ({ tBase with mon := { (tBase).mon with adcNext := 6 } } : State), by decide +kernel⟩,
   ⟨⟨[1, 2, 3, 4, 5, 6, 7, 8], 24000⟩, 1650, none, tBase, by decide +kernel⟩,
   ⟨10, ⟨[1, 2, 3, 4, 5, 6, 7, 8], 24000⟩, 1237499, 0, 1, tBase, by decide +kernel⟩,
   ⟨3, 1000000, 1000000000, (tPar [(0x400C, 1)] tBase), by decide +kernel⟩,
   ⟨3, 500, 1000000000, ({ (tPar [(0x400C, 1), (0x400D, 400), (0x400E, 600)] tBase) with mon := { ((tPar [(0x400C, 1), (0x400D, 400), (0x400E, 600)] tBase)).mon with winOut := Quad.all true } } : State), by decide +kernel⟩,
   ⟨0x20, (tBase.updItem 0x20 (fun x => { x with state := .ok, age := 100000000 })), by decide +kernel⟩,
   ⟨8, 500, ((tPar [(0xA012, 15), (0x4022, 10)] (tBase.updBrake 0 (fun x => { x with on := true, economy := true }))).updItem 8 (fun x => { x with state := .ageing })), by decide +kernel⟩,
   ⟨8, 500, (tPar [(0x4020, 0), (0x4026, 400)] (tBase.updBrake 0 (fun x => { x with on := true, economy := true, stretchAt := some 1000 }))), by decide +kernel⟩,
   ⟨0, ({ (tBase.updBrake 0 (fun x => { x with on := true })) with frame := { ((tBase.updBrake 0 (fun x => { x with on := true }))).frame with counter := 100000 } } : State), by decide +kernel⟩,
   ⟨0, 0, (tPar [(0x4020, 0), (0x4025, 1)] ((tBase.updBrake 0 (fun x => { x with on := true })).updMotion 0 (fun x => { x with holdF := 100000 }))), by decide +kernel⟩,
   ⟨3, 3001, 2000, (tBase.updBrake 3 (fun x => { x with on := true })), by decide +kernel⟩,
   ⟨0, 0, ({ (tBase.updBrake 0 (fun x => { x with on := true, waiter := some 0 })) with intake := { ((tBase.updBrake 0 (fun x => { x with on := true, waiter := some 0 }))).intake with hops := updAt tBase.intake.hops 0 (fun _ => { stage := .started }) } } : State), by decide +kernel⟩⟩

theorem wit_MonitorComplete_commands : accepted
    [(diagStatusSpec, tCmd 0xa01 0 0 ([0, 1]) ((id) tBase))] = true := by decide +kernel

theorem wit_AxisSequenceComplete :
    (∃ (n : Fin 4) (k : Nat) (vals : List Int) (s : State), s.seq n = .up k ∧ k ≠ 5 ∧ (k = 4 → (s.axSt n).bist ≠ 1) ∧ (s.axSt n).latched = none ∧ s.upDone n k vals = true ∧ s.upVerdict n k vals = []) ∧
    (∃ (n : Fin 4) (k code q : Nat) (rest : List (Nat × Option Nat)) (vals : List Int) (s : State), s.seq n = .up k ∧ k ≠ 5 ∧ s.upDone n k vals = true ∧ s.upVerdict n k vals = (code, some q) :: rest) ∧
    (∃ (n : Fin 4) (_vals : List Int) (s : State), s.seq n = .up 5 ∧ (s.axSt n).latched = none ∧ (s.axSt n).brakeAt = none ∧ 1 ≤ s.since (s.axSt n).stepAt) ∧
    (∃ (n : Fin 4) (_vals : List Int) (s : State), s.seq n = .d1 ∧ (s.axSt n).latched = none ∧ 1 ≤ s.since (s.axSt n).stepAt ∧ s.stillDown n = true) ∧
    (∃ (n : Fin 4) (_vals : List Int) (s : State), s.seq n = .d2 ∧ (s.axSt n).latched = none ∧ 1 ≤ s.since (s.axSt n).stepAt) ∧
    (∃ (n : Fin 4) (_vals : List Int) (s : State), s.seq n = .d3 ∧ (s.axSt n).latched = none ∧ 1 ≤ s.since (s.axSt n).stepAt) ∧
    (∃ (n : Fin 4) (_us : Nat) (s : State), s.seq n = .up 1 ∧ 100 ≤ s.since (s.axSt n).stepAt) ∧
    (∃ (n : Fin 4) (_mv : List Int) (o : OffTest) (s : State), s.mon.tests.get n = some o ∧ o.source = 0 ∧ s.ahead o.startF ≤ -3) ∧
    (∃ (n : Fin 4) (_mv : List Int) (o : OffTest) (s : State), s.mon.tests.get n = some o ∧ o.source = 1 ∧ s.ahead o.startF ≤ -3) ∧
    (∃ (n : Fin 4) (_mv : List Int) (o : OffTest) (s : State), s.mon.tests.get n = some o ∧ o.source = 2 ∧ s.ahead o.startF ≤ -3 ∧ s.stage o.hop = .started ∧ cellWf s.intake.slots = true) :=
  ⟨⟨0, 1, [10000], ((tBase).setSeq 0 (fun x => { x with seq := .up 1, stepAt := 999 })), by decide +kernel⟩,
   ⟨0, 2, 0x1302, 0, [], [8999, 9000, 9000, 9000], ((tBase).setSeq 0 (fun x => { x with seq := .up 2 })), by decide +kernel⟩,
   ⟨0, [], ((tBase).setSeq 0 (fun x => { x with seq := .up 5, stepAt := 999 })), by decide +kernel⟩,
   ⟨0, [], ((tBase).setSeq 0 (fun x => { x with seq := .d1, stepAt := 999, brakeAt := some 999 })), by decide +kernel⟩,
   ⟨0, [], ((tBase).setSeq 0 (fun x => { x with seq := .d2, stepAt := 999 })), by decide +kernel⟩,
   ⟨0, [], ((tBase).setSeq 0 (fun x => { x with seq := .d3, stepAt := 999 })), by decide +kernel⟩,
   ⟨0, 5000, ((tBase).setSeq 0 (fun x => { x with seq := .up 1, stepAt := 900 })), by decide +kernel⟩,
   ⟨0, [], { source := 0, hop := 0, startF := 996 }, ({ tBase with mon := { tBase.mon with tests := tBase.mon.tests.set 0 (some { source := 0, hop := 0, startF := 996 }) }, intake := { tBase.intake with hops := updAt tBase.intake.hops 0 (fun _ => { stage := .started }) } } : State), by decide +kernel⟩,
   ⟨0, [], { source := 1, hop := 0, startF := 996 }, ({ tBase with mon := { tBase.mon with tests := tBase.mon.tests.set 0 (some { source := 1, hop := 0, startF := 996 }) }, intake := { tBase.intake with hops := updAt tBase.intake.hops 0 (fun _ => { stage := .started }) } } : State), by decide +kernel⟩,
   ⟨0, [], { source := 2, hop := 0, startF := 996 }, ({ tBase with mon := { tBase.mon with tests := tBase.mon.tests.set 0 (some { source := 2, hop := 0, startF := 996 }) }, intake := { tBase.intake with hops := updAt tBase.intake.hops 0 (fun _ => { stage := .started }) } } : State), by decide +kernel⟩⟩

theorem wit_AxisSequenceComplete_commands : accepted
    [(enableAxisSpec, tCmd 0x101 0 2 ([]) ((id) tBase)),
     (disableAxisSpec, tCmd 0x102 0 1 ([]) ((id) tBase)),
     (offstateTestSpec, tCmd 0x401 0 1 ([]) ((fun s => s.updCur 0 (fun c => { c with hold := .quiet })) tBase))] = true := by decide +kernel

theorem wit_FeedbackComplete :
    (∃ (f : Nat) (l : List Bool) (_was : Bool), l.length = f) ∧
    (∃ (n : Fin 4) (lines : Quad (Option LineIn)) (_off : Nat) (a b : Bool) (d : Int) (s : State), s.fbMode n = 1 ∧ (s.lineLevel n 0 (s.chan n).lvA (lines.get 0)).1 = a ∧ (s.lineLevel n 1 (s.chan n).lvB (lines.get 1)).1 = b ∧ (s.lineLevel n 2 (s.chan n).lvZ (lines.get 2)).1 = (s.chan n).lvZ ∧ (s.lineLevel n 3 (s.chan n).lvX (lines.get 3)).1 = (s.chan n).lvX ∧ quadStep (s.chan n).lvA (s.chan n).lvB a b = some d ∧ d ≠ 0 ∧ s.fbpI n 0x08 ≤ (s.chan n).count + (if s.fbp n 4 = 1 then -d else d) ∧ (s.chan n).count + (if s.fbp n 4 = 1 then -d else d) ≤ s.fbpI n 0x09) ∧
    (∃ (n : Fin 4) (lines : Quad (Option LineIn)) (_off : Nat) (a b : Bool) (s : State), s.fbMode n = 1 ∧ (s.lineLevel n 0 (s.chan n).lvA (lines.get 0)).1 = a ∧ (s.lineLevel n 1 (s.chan n).lvB (lines.get 1)).1 = b ∧ (s.lineLevel n 2 (s.chan n).lvZ (lines.get 2)).1 = (s.chan n).lvZ ∧ (s.lineLevel n 3 (s.chan n).lvX (lines.get 3)).1 = (s.chan n).lvX ∧ quadStep (s.chan n).lvA (s.chan n).lvB a b = none) ∧
    (∃ (n : Fin 4) (x : LineIn) (_off : Nat) (s : State), s.fbMode n ≠ 0 ∧ majority (s.fbp n 2) x.samples (s.chan n).lvA = !(s.chan n).lvA ∧ s.usesLine n 0 = true ∧ x.held < s.fbp n 3) ∧
    (∃ (n : Fin 4) (us : Nat) (s : State), s.fbMode n = 2 ∧ (s.chan n).lvA = (s.chan n).lvB ∧ (s.chan n).lvB = (s.chan n).lvZ ∧ s.fbp n 0x11 ≤ us ∧ (s.chan n).causes.contains 0x0202 = false) ∧
    (∃ (n : Fin 4) (off : Nat) (s : State), s.fbMode n ≠ 0 ∧ ((s.chan n).spd = .valid ∨ (s.chan n).spd = .starting) ∧ 5000 * s.fbp n 0x1A ≤ stampGap (s.chan n).timeFrom (stampOf (s.tickAt off))) ∧
    (∃ (n : Fin 4) (s : State), s.fbMode n ≠ 0 ∧ s.fbp n 0x19 ≤ (s.chan n).gateF) ∧
    (∃ (n : Fin 4) (k : Nat) (pe : Int) (s : State), (s.chan n).idxCheck = some k ∧ (s.chan n).pe = some pe ∧ 4 ≤ k ∧ k ≤ 20 ∧ pe.natAbs ≤ s.fbp n 0x0E) :=
  ⟨⟨4, [true, true, false, false], true, by decide +kernel⟩,
   ⟨0, ⟨some { samples := List.replicate 15 true, held := 1000000 }, none, none, none⟩, 5, true, false, 1, (tUnits 1#10 (tPar [(0x2000, 1), (fbId 0 8, 0xFFFF0000), (fbId 0 9, 1000)] tBase)), by decide +kernel⟩,
   ⟨0, ⟨some { samples := List.replicate 15 true, held := 1000000 }, some { samples := List.replicate 15 true, held := 1000000 }, none, none⟩, 5, true, true, (tUnits 1#10 (tPar [(0x2000, 1), (fbId 0 8, 0xFFFF0000), (fbId 0 9, 1000)] tBase)), by decide +kernel⟩,
   ⟨0, { samples := List.replicate 15 true, held := 0 }, 5, (tUnits 1#10 (tPar [(0x2000, 1), (fbId 0 3, 1)] tBase)), by decide +kernel⟩,
   ⟨0, 1000000000, (tUnits 1#10 (tPar [(0x2000, 2)] tBase)), by decide +kernel⟩,
   ⟨0, 1000000000000, (((tUnits 1#10 (tPar [(0x2000, 1), (fbId 0 8, 0xFFFF0000), (fbId 0 9, 1000)] tBase))).updChan 0 (fun x => { x with spd := .valid })), by decide +kernel⟩,
   ⟨0, (((tUnits 1#10 (tPar [(0x2000, 1), (fbId 0 8, 0xFFFF0000), (fbId 0 9, 1000)] tBase))).updChan 0 (fun x => { x with gateF := 100000 })), by decide +kernel⟩,
   ⟨0, 20, -1, (((tBase.updMotion 0 (fun x => { x with retained := true, posState := .retained }))).updChan 0 (fun x => { x with idxCheck := some 20, pe := some (-1) })), by decide +kernel⟩⟩

theorem wit_FeedbackComplete_commands : accepted
    [(fbStatusSpec, tCmd 0x201 0 0 (List.replicate 4 0) ((id) tBase)),
     (fbSetCountSpec, tCmd 0x202 0 0 (List.replicate 8 0) ((tPar [(0x2000, 1)]) tBase))] = true := by decide +kernel

theorem wit_CompareComplete :
    (∃ (n : Fin 4) (u : Fin 2) (us : Nat) (s : State), (s.cmpUnit n u).pulse = true ∧ s.cp n u 4 ≤ us) ∧
    (∃ (d : Fin 2) (gone : Nat) (s : State), (s.divo.get d).busy = true ∧ s.par (divPar d 4) ≤ gone ∧ s.par (divPar d 3) ≠ 1 ∧ (s.divo.get d).active = true) ∧
    (∃ (d : Fin 2) (gone : Nat) (s : State), (s.divo.get d).busy = true ∧ s.par (divPar d 4) ≤ gone ∧ (s.divo.get d).active = false ∧ 0 < (s.divo.get d).backlog ∧ s.par (divPar d 3) ≠ 1) ∧
    (∃ (d : Fin 2) (gone : Nat) (s : State), (s.divo.get d).busy = true ∧ s.par (divPar d 4) ≤ gone ∧ (s.divo.get d).active = false ∧ (s.divo.get d).backlog = 0) ∧
    (∃ (j k : Nat) (l : List Bool) (s : State), s.unitOn 4 = true ∧ usedSelects s.params.running = [j] ∧ chainSlots s.params.running j = [k] ∧ k < s.sensor.slots.length ∧ l.headD true = false) ∧
    (∃ (j k : Nat) (l : List Bool) (s : State), s.unitOn 4 = true ∧ usedSelects s.params.running = [j] ∧ chainSlots s.params.running j = [k] ∧ k < s.sensor.slots.length ∧ l.headD true = true ∧ s.par 0x2404 ≠ 1 ∧ chainTail s.params.running j ≠ 1 ∧ s.slotFmt k / 65536 % 256 = 0xFF) :=
  ⟨⟨0, 1, 1000000000, ((tBase).updCmp 0 1 (fun x => { x with pulse := true })), by decide +kernel⟩,
   ⟨1, 1000000000, (tBase.updDiv 1 (fun x => { x with busy := true, active := true })), by decide +kernel⟩,
   ⟨1, 1000000000, (tBase.updDiv 1 (fun x => { x with busy := true, backlog := 1 })), by decide +kernel⟩,
   ⟨1, 1000000000, (tBase.updDiv 1 (fun x => { x with busy := true })), by decide +kernel⟩,
   ⟨3, 15, [false], (tUnits 16#10 (tPar [(0x2410 + 15, 8 + 3 * 2 ^ 25)] tBase)), by decide +kernel⟩,
   ⟨0, 0, [true], (tUnits 16#10 (tPar [(0x2404, 0), (0x2410, 8 + 0xFF * 65536)] tBase)), by decide +kernel⟩⟩

theorem wit_CompareComplete_commands : accepted
    [(cmpArmSpec, tCmd 0x222 0 0 ([0, 0, 0, 0, 100, 0, 0, 0]) ((fun s => s.updCmp 0 0 (fun c => { c with st := .idle })) tBase)),
     (cmpStatusSpec, tCmd 0x223 0 0 (List.replicate 4 0) ((id) tBase)),
     (spStatusSpec, tCmd 0x224 0 0 ([0, 1]) ((id) tBase)),
     (folStatusSpec, tCmd 0x221 0 1 ([]) ((id) tBase))] = true := by decide +kernel

theorem wit_CompareHits :
    ∃ (n : Fin 4) (u : Fin 2) (old x : Int) (s : State), (s.cmpUnit n u).st = .armed ∧ s.cp n u 1 = 0 ∧ old < x ∧ 256 * x < (s.cmpUnit n u).v + (s.cp n u 2 : Int) ∧ (s.cmpUnit n u).v ≤ 256 * x ∧ s.cp n u 7 = 0 ∧ vFits ((s.cmpUnit n u).v + (s.cp n u 2 : Int)) = true ∧ s.cpI n u 5 ≤ passValue false (s.cmpUnit n u).v ∧ passValue false (s.cmpUnit n u).v ≤ s.cpI n u 6 :=
  ⟨0, 0, -1, 0, (((tPar [(fbId 0 0x42, 1000), (fbId 0 0x45, 0xFFFFFF00), (fbId 0 0x46, 2147483647)] tBase)).updCmp 0 0 (fun x => { x with st := .armed, v := 0 })), by decide +kernel⟩

theorem wit_QueryComplete :
    (∃ (q : Query) (r : List Query) (ch : Chain) (s : State), s.plan.active = none ∧ s.plan.queue = q :: r ∧ s.plan.chain = some ch ∧ q.start = 1 ∧ q.taken ≠ s.frame.counter ∧ s.plan.lastEnd ≠ some s.frame.counter) ∧
    (∃ (q : Query) (ch : Chain) (s : State), s.plan.active = some q ∧ s.plan.chain = some ch) ∧
    (∃ (q : Query) (s : State), s.plan.active = some q ∧ s.par (0x5011 + 2 * q.cls) ≤ s.since q.active) :=
  ⟨⟨{ tQuery with taken := 999 }, [], tChain, (((tPlan tBase)).updPlan (fun x => { x with queue := [{ tQuery with taken := 999 }] })), by decide +kernel⟩,
   ⟨tQuery, tChain, (((tPlan tBase)).updPlan (fun x => { x with active := some tQuery })), by decide +kernel⟩,
   ⟨tQuery, { (((tPlan tBase)).updPlan (fun x => { x with active := some tQuery })) with frame := { tBase.frame with counter := 100000 } }, by decide +kernel⟩⟩

theorem wit_QueryComplete_commands : accepted
    [(planQuerySpec, tCmd 0x504 0 0 (List.replicate 44 0) ((tPlan) tBase))] = true := by decide +kernel

theorem wit_RunComplete :
    (∃ (r : Run) (c : Chain) (rd : Road) (s : State), s.plan.run = some r ∧ s.plan.chain = some c ∧ r.stage = .startCheck ∧ s.plan.roads.get (Fin.ofNat 4 r.slot) = some rd ∧ (s.startChecks rd).all (fun i => match (segmentsOf rd.points)[i]? with | some e => (s.roadCtx c rd).edgeFree e.1 e.2 | none => true) = true) ∧
    (∃ (r : Run) (c : Chain) (rd : Road) (f : BitVec 32) (s : State), s.plan.run = some r ∧ s.plan.chain = some c ∧ s.plan.roads.get (Fin.ofNat 4 r.slot) = some rd ∧ r.segEnd = some f ∧ r.stage = .running ∧ r.heldRest = false ∧ 0 < r.lam ∧ s.ahead f ≤ 0) ∧
    (∃ (r : Run) (s : State), s.plan.run = some r ∧ r.up = none ∧ r.lam = 0 ∧ r.stage = .stopping) ∧
    (∃ (r : Run) (c : Chain) (rd : Road) (s : State), s.plan.run = some r ∧ s.plan.chain = some c ∧ r.stage = .heldMap ∧ s.plan.roads.get (Fin.ofNat 4 r.slot) = some rd) ∧
    (∃ (r : Run) (s : State), s.plan.run = some r ∧ r.stage = .heldMap ∧ s.par 0x500E ≤ s.since r.heldAt) :=
  ⟨⟨{ tRun with stage := .startCheck }, tChain, tRoad, tRunning { tRun with stage := .startCheck }, by decide +kernel⟩,
   ⟨{ tRun with segEnd := some 1000 }, tChain, tRoad, 1000, tRunning { tRun with segEnd := some 1000 }, by decide +kernel⟩,
   ⟨{ tRun with stage := .stopping, lam := 0 }, tRunning { tRun with stage := .stopping, lam := 0 }, by decide +kernel⟩,
   ⟨{ tRun with stage := .heldMap }, tChain, tRoad, tRunning { tRun with stage := .heldMap }, by decide +kernel⟩,
   ⟨{ tRun with stage := .heldMap, heldAt := 4294900000 }, tRunning { tRun with stage := .heldMap, heldAt := 4294900000 }, by decide +kernel⟩⟩

theorem wit_RunComplete_commands : accepted
    [(planRunSpec, tCmd 0x505 0 1 (List.replicate 4 0) ((tPlan ∘ tMode) tBase)),
     (planStopSpec, tCmd 0x506 0 0 ([0, 0, 0, 0]) ((tPlan) tBase)),
     (planHoldSpec, tCmd 0x506 0 0 ([1, 0, 0, 0]) ((tPlan) tBase)),
     (planResumeSpec, tCmd 0x506 0 0 ([2, 0, 0, 0]) ((tPlan) tBase))] = true := by decide +kernel

theorem wit_MapComplete :
    ∃ (e : Edit) (r : List Edit) (s : State), s.plan.edits = e :: r ∧ s.ahead (e.ready + BitVec.ofNat 32 (1 + (e.left + 255) / 256)) ≤ 0 :=
  ⟨{ hop := 0, op := 0, box := { lo := (0, 0, 0), hi := (0, 0, 0) }, cells := 1, left := 1, ready := 998 }, [], (((tPlan tBase)).updPlan (fun x => { x with edits := [{ hop := 0, op := 0, box := { lo := (0, 0, 0), hi := (0, 0, 0) }, cells := 1, left := 1, ready := 998 }] })), by decide +kernel⟩

theorem wit_MapComplete_commands : accepted
    [((mapEditSpec 0), tCmd 0x502 0 0 ([0] ++ List.replicate 27 0) ((tPlan) tBase)),
     ((mapEditSpec 1), tCmd 0x502 0 0 ([1] ++ List.replicate 27 0) ((tPlan) tBase)),
     ((mapEditSpec 2), tCmd 0x502 0 0 ([2] ++ List.replicate 27 0) ((tPlan) tBase)),
     ((mapMarkSpec 3 true), tCmd 0x502 0 0 ([3] ++ List.replicate 27 0) ((tPlan) tBase)),
     ((mapMarkSpec 4 false), tCmd 0x502 0 0 ([4] ++ List.replicate 27 0) ((tPlan) tBase)),
     (mapLoadBeginSpec, tCmd 0x501 0 0 ([0, 0, 0, 0] ++ List.replicate 4 0) ((id) tBase)),
     (mapLoadCopySpec, tCmd 0x501 8 0 ([1, 0, 0, 0] ++ List.replicate 4 0) ((tBulk (List.replicate 16 5)) tBase)),
     (mapLoadCommitSpec, tCmd 0x501 0 0 ([2, 0, 0, 0] ++ List.replicate 4 0) ((id) tBase)),
     (planChainSaveSpec, tCmd 0x503 0 0 ([2, 0, 0, 0]) ((tPlan) tBase)),
     (planChainReadSpec, tCmd 0x503 0 0 ([3, 0, 0, 0]) ((tPlan) tBase)),
     (planChainReloadSpec, tCmd 0x503 0 0 ([4, 0, 0, 0]) ((tPlan) tBase)),
     (planRoadSpec, tCmd 0x507 0 0 (List.replicate 4 0) ((tPlan) tBase))] = true := by decide +kernel

theorem wit_BusOffComplete :
    (∃ (p : Fin 3) (tec : Nat) (s : State), p ≠ 2 ∧ 255 < tec ∧ s.portLive (if p = 1 then 1 else 0) = true) ∧
    (∃ (tec : Nat) (s : State), 255 < tec ∧ s.isoLive = true) ∧
    (∃ (p : Fin 3) (runs : Nat) (s : State), p ≠ 2 ∧ 128 ≤ runs ∧ s.netOn (if p = 1 then 1 else 0) = true ∧ (s.ports.get (if p = 1 then 1 else 0)).busOff = true ∧ (s.ports.get (if p = 1 then 1 else 0)).stopped = false) ∧
    (∃ (runs : Nat) (s : State), 128 ≤ runs ∧ s.isoOn = true ∧ s.iso.busOff = true ∧ s.iso.stopped = false) :=
  ⟨⟨0, 256, ((tNet).updPort 0 (fun x => { x with offTimes := [1000, 999, 998] })), by decide +kernel⟩,
   ⟨256, tIso, by decide +kernel⟩,
   ⟨1, 128, ((tNet).updPort 1 (fun x => { x with busOff := true, claim := .listen })), by decide +kernel⟩,
   ⟨128, ({ tIso with iso := { tIso.iso with busOff := true } } : State), by decide +kernel⟩⟩

theorem wit_ClaimComplete :
    (∃ (p : Fin 2) (s : State), s.portSends p = true ∧ (s.ports.get p).claim = .listen ∧ (s.ports.get p).listenN = 0 ∧ (s.ports.get p).barred = false ∧ (s.ports.get p).rank = 2) ∧
    (∃ (p : Fin 2) (i : Nat) (s : State), s.portSends p = true ∧ (s.ports.get p).claim = .listen ∧ (s.ports.get p).listenN = 0 ∧ (s.ports.get p).barred = false ∧ (s.ports.get p).rank = 1 ∧ (s.ports.get p).lastIdx = some i ∧ (s.ports.get p).heard i = false) ∧
    (∃ (p : Fin 2) (s : State), s.portSends p = true ∧ (s.ports.get p).claim = .listen ∧ (s.ports.get p).listenN = 0 ∧ (s.ports.get p).barred = false ∧ (s.ports.get p).rank = 0 ∧ (s.ports.get p).retry = true ∧ (s.ports.get p).lowest = none) ∧
    (∃ (p : Fin 2) (s : State), s.portLive p = true ∧ (s.ports.get p).claim = .claiming ∧ 5 ≤ (s.ports.get p).claimN) ∧
    (∃ (p : Fin 2) (e : QFrame) (s : State), s.portLive p = true ∧ ((s.ports.get p).queues.get 0).find? (fun e => (headOf e.frame).kind == 1) = some e) ∧
    (∃ (p : Fin 2) (e : QFrame) (s : State), s.portLive p = true ∧ s.pairHere p = false ∧ ((s.ports.get p).queues.get 0).find? (fun e => (headOf e.frame).kind == 1) = some e) :=
  ⟨⟨0, ((tNet).updPort 0 (fun x => { x with claim := .listen, listenN := 0, rank := 2 })), by decide +kernel⟩,
   ⟨0, 63, ((tNet).updPort 0 (fun x => { x with claim := .listen, listenN := 0, rank := 1, lastIdx := some 63 })), by decide +kernel⟩,
   ⟨0, ((tNet).updPort 0 (fun x => { x with claim := .listen, listenN := 0, rank := 0, retry := true, inUse := 0xFFFFFFFFFFFFFFFF })), by decide +kernel⟩,
   ⟨0, ((tNet).updPort 0 (fun x => { x with claim := .claiming, claimN := 5, want := 63 })), by decide +kernel⟩,
   ⟨0, { frame := mkFrame { tHd with kind := 1 } [], hop := none, last := true, frames := 1 }, ((tNet).updPort 0 (fun x => { x with queues := x.queues.set 0 [{ frame := mkFrame { tHd with kind := 1 } [], hop := none, last := true, frames := 1 }] })), by decide +kernel⟩,
   ⟨0, { frame := mkFrame { tHd with kind := 1 } [], hop := none, last := true, frames := 1 }, ((tNet).updPort 0 (fun x => { x with queues := x.queues.set 0 [{ frame := mkFrame { tHd with kind := 1 } [], hop := none, last := true, frames := 1 }] })), by decide +kernel⟩⟩

theorem wit_BeaconComplete :
    (∃ (p : Fin 2) (f : AmFrame) (_off : Int) (s : State), s.hears p f 0 = true ∧ s.isRoot = false ∧ (s.par (netId p 2) = 0xFFFF ∨ s.par (netId p 2) = get16 (bodyOf f) 8 % 1024) ∧ (s.fab.root = none ∨ s.fab.root = some (BitVec.ofNat 64 (getN (bodyOf f) 16 8))) ∧ s.acceptsBeacon p (get16 (bodyOf f) 8 / 4096) (headOf f).txidx = true) ∧
    (∃ (p : Fin 2) (f : AmFrame) (_off : Int) (s : State), s.hears p f 0 = true ∧ s.par (netId p 2) ≠ 0xFFFF ∧ s.par (netId p 2) ≠ get16 (bodyOf f) 8 % 1024) ∧
    (∃ (p : Fin 2) (s : State), s.netOn p = true ∧ s.isRoot = false ∧ (s.ports.get p).sync = .synced ∧ 20 < s.since (s.ports.get p).bcnAt) ∧
    (∃ (p : Fin 2) (s : State), s.netOn p = true ∧ s.isRoot = false ∧ ((s.ports.get p).sync = .acquiring ∨ (s.ports.get p).sync = .holdover) ∧ 20 * s.par 0x6004 < s.since (s.ports.get p).bcnAt) :=
  ⟨⟨0, mkFrame { tHd with kind := 0, cls := 1 } (leBytes 4 0 ++ leBytes 4 100 ++ le16 (2 * 4096 + 4) ++ leBytes 4 0 ++ [1, 0] ++ leBytes 8 77), -5, (((tPar [(0x0010, 1)] tNet)).updPort 0 (fun x => { x with prevRx := some 2100, sync := .acquiring, inTol := 1 })), by decide +kernel⟩,
   ⟨0, mkFrame { tHd with kind := 0, cls := 1 } (leBytes 4 0 ++ leBytes 4 100 ++ le16 (2 * 4096 + 4) ++ leBytes 4 0 ++ [1, 0] ++ leBytes 8 77), 1999, (tPar [(netId 0 2, 5)] tNet), by decide +kernel⟩,
   ⟨0, ((tNet).updPort 0 (fun x => { x with bcnAt := 979 })), by decide +kernel⟩,
   ⟨0, ((tNet).updPort 0 (fun x => { x with sync := .holdover, bcnAt := 4294000000 })), by decide +kernel⟩⟩

theorem wit_SegmentComplete :
    (∃ (p u : Fin 2) (s : State), s.upstream = some u ∧ s.isRouter = true ∧ s.downstream p = true ∧ s.portSeg p = none ∧ (s.ports.get p).segTimer = 0 ∧ s.portHeld u = true ∧ s.portSends u = true ∧ s.portSync u = .synced ∧ (s.ports.get u).room 0 1 = true) ∧
    (∃ (p : Fin 2) (f : AmFrame) (g : Nat) (s : State), s.hears p f 2 = true ∧ (headOf f).resp = false ∧ s.portHeld p = true ∧ s.isRoot = true ∧ s.segFor (get16 (bodyOf f) 9) = some g ∧ (s.ports.get p).room 0 1 = true) ∧
    (∃ (p u : Fin 2) (f : AmFrame) (s : State), s.hears p f 2 = true ∧ (headOf f).resp = false ∧ s.portHeld p = true ∧ s.isRoot = false ∧ s.isRouter = true ∧ s.upstream = some u ∧ u ≠ p ∧ s.portHeld u = true ∧ (headOf f).local_ = false ∧ (headOf f).hops ≠ 0) ∧
    (∃ (p : Fin 2) (f : AmFrame) (s : State), s.hears p f 3 = true ∧ s.isRouter = true ∧ get16 (bodyOf f) 0 = get16 (bodyOf f) 2 + 1 ∧ 6 ≤ (bodyOf f).length ∧ both2.any (fun q => s.netOn q && s.portSeg q == some (get16 (bodyOf f) 4 / 64)) = false ∧ s.fab.routes.find? (fun r => r.seg == get16 (bodyOf f) 4 / 64) = none ∧ get16 (bodyOf f) 4 % 32 < 15) ∧
    (∃ (p : Fin 2) (f : AmFrame) (s : State), s.hears p f 3 = true ∧ s.isRouter = true ∧ get16 (bodyOf f) 0 = get16 (bodyOf f) 2 + 1 ∧ 6 ≤ (bodyOf f).length ∧ both2.any (fun q => s.netOn q && s.portSeg q == some (get16 (bodyOf f) 4 / 64)) = true) ∧
    (∃ (seg : Nat) (s : State), s.isRouter = true ∧ s.fab.routes.any (fun r => r.seg == seg && decide (r.metric < 16) && decide (s.routeLife ≤ r.age)) = true) :=
  ⟨⟨1, 0, ((((tRouter).updPort 0 (fun x => { x with source := some 9, srcSync := true, depth := some 1 }))).updPort 1 (fun x => { x with seg := none })), by decide +kernel⟩,
   ⟨0, mkFrame { tHd with kind := 2 } (leBytes 8 77 ++ [1] ++ le16 1023), 1023, (tPar [(0x6001, 1)] tNet), by decide +kernel⟩,
   ⟨1, 0, mkFrame { tHd with kind := 2 } (leBytes 8 77 ++ [1] ++ le16 8), ((tRouter).updPort 0 (fun x => { x with source := some 9, srcSync := true, depth := some 1 })), by decide +kernel⟩,
   ⟨0, mkFrame { tHd with kind := 3 } (le16 1 ++ le16 0 ++ le16 (9 * 64 + 14)), tRouter, by decide +kernel⟩,
   ⟨0, mkFrame { tHd with kind := 3 } (le16 1 ++ le16 0 ++ le16 (7 * 64 + 1)), tRouter, by decide +kernel⟩,
   ⟨9, ({ tRouter with fab := { (tRouter).fab with routes := [{ seg := 9, port := 1, nh := 9, metric := 15, age := 1000000, changed := ⟨false, false⟩ }] } } : State), by decide +kernel⟩⟩

theorem wit_ForwardComplete :
    (∃ (p out : Fin 2) (nh : Nat) (f : AmFrame) (s : State), s.hears p f (headOf f).kind = true ∧ s.isRouter = true ∧ (headOf f).local_ = false ∧ (headOf f).dmode = 0 ∧ (headOf f).kind ∉ [0, 1, 3, 4, 8] ∧ s.portHeld p = true ∧ s.portSends p = true ∧ both2.any (fun q => s.portHeld q && (headOf f).dst == s.portAddr q) = false ∧ (headOf f).nh = (s.ports.get p).index ∧ (headOf f).hops ≠ 0 ∧ s.routeTo (headOf f).dst = some (out, nh) ∧ s.portHeld out = true ∧ s.par 0x6045 = 0) ∧
    (∃ (p : Fin 2) (f : AmFrame) (s : State), s.hears p f (headOf f).kind = true ∧ s.isRouter = true ∧ (headOf f).local_ = false ∧ (headOf f).dmode = 0 ∧ (headOf f).kind ∉ [0, 1, 3, 4, 8] ∧ s.portHeld p = true ∧ s.portSends p = true ∧ both2.any (fun q => s.portHeld q && (headOf f).dst == s.portAddr q) = false ∧ (headOf f).nh = (s.ports.get p).index ∧ (headOf f).hops = 0) ∧
    (∃ (p : Fin 2) (f : AmFrame) (s : State), s.hears p f (headOf f).kind = true ∧ s.isRouter = true ∧ (headOf f).local_ = false ∧ (headOf f).dmode = 0 ∧ (headOf f).kind ∉ [0, 1, 3, 4, 8] ∧ s.portHeld p = true ∧ s.portSends p = true ∧ both2.any (fun q => s.portHeld q && (headOf f).dst == s.portAddr q) = false ∧ (headOf f).nh = (s.ports.get p).index ∧ (headOf f).hops ≠ 0 ∧ s.routeTo (headOf f).dst = none) ∧
    (∃ (p : Fin 2) (off gone : Nat) (f : AmFrame) (s : State), s.portSends p = true ∧ s.clock.settle = none ∧ (s.ports.get p).bcnTx = some f ∧ gone ≤ 10000 * s.frame.index + off ∧ 10000 * s.frame.index + off < gone + 10000) ∧
    (∃ (p : Fin 2) (cls : Fin 4) (off gone : Nat) (e : QFrame) (s : State), s.offered p = some (cls, e) ∧ s.portSends p = true ∧ s.clock.settle = none ∧ gone + 10000 * max 1 (s.cyclicWindow p) ≤ 10000 * s.frame.index + off ∧ ((10000 * s.frame.index + off : Nat) : Rat) + 200 * busTime (s.par (netId p 0)) (s.par (netId p 1)) e.frame.data.length ≤ 200000 + (gone : Rat)) ∧
    (∃ (_cls : Fin 4) (_off _gone : Nat) (s : State), s.unitOn 7 = true ∧ s.iso.busOff = false ∧ s.iso.stopped = false ∧ s.iso.listenOnly = false ∧ s.clock.settle = none ∧ s.clock.pllc = .locked) :=
  ⟨⟨0, 1, 0x40, mkFrame { tHd with kind := 5, nh := 5, dst := 7 * 64 + 6 + 1, hops := 1 } ([1, 2]), (tPar [(0x6045, 0)] tRouter), by decide +kernel⟩,
   ⟨0, mkFrame { tHd with kind := 5, nh := 5, dst := 7 * 64 + 6 + 1, hops := 0 } ([1, 2]), tRouter, by decide +kernel⟩,
   ⟨0, mkFrame { tHd with kind := 5, nh := 5, dst := 20 * 64 } ([1, 2]), tRouter, by decide +kernel⟩,
   ⟨0, 5, 100000, mkFrame { tHd with kind := 0, cls := 0 } [1], ((tNet).updPort 0 (fun x => { x with bcnTx := some (mkFrame { tHd with kind := 0, cls := 0 } [1]) })), by decide +kernel⟩,
   ⟨0, 3, 5, 0, { frame := mkFrame { tHd with kind := 0xB, cls := 3 } [1], hop := none, last := true, frames := 1 }, ({ ((tNet).updPort 0 (fun x => { x with queues := x.queues.set 3 [{ frame := mkFrame { tHd with kind := 0xB, cls := 3 } [1], hop := none, last := true, frames := 1 }] })) with frame := { (((tNet).updPort 0 (fun x => { x with queues := x.queues.set 3 [{ frame := mkFrame { tHd with kind := 0xB, cls := 3 } [1], hop := none, last := true, frames := 1 }] }))).frame with index := 10 } } : State), by decide +kernel⟩,
   ⟨0, 5, 100000, tIso, by decide +kernel⟩⟩

theorem wit_MessageComplete :
    (∃ (p : Fin 2) (f : AmFrame) (h : Nat) (s : State), s.hears p f 5 = true ∧ s.forMe p (headOf f) = true ∧ s.forPair (headOf f) = false ∧ (headOf f).dmode ≠ 1 ∧ (headOf f).dmode ≠ 2 ∧ s.portHeld p = true ∧ s.portSends p = true ∧ (headOf f).fseq = 0 ∧ (headOf f).more = false ∧ s.fab.asms.find? (fun x => x.port == p.val + 1 && x.src == (headOf f).src && x.tag == (headOf f).tag) = none ∧ 12 + getB (bodyOf f) 6 ≤ (bodyOf f).length ∧ s.virtualFree 16 8 = some h ∧ s.intake.hops.length = 32 ∧ s.virtualHeld 16 8 (headOf f).src < s.par 0x0072) ∧
    (∃ (p : Fin 2) (f : AmFrame) (s : State), s.hears p f 5 = true ∧ s.forMe p (headOf f) = true ∧ s.forPair (headOf f) = false ∧ (headOf f).dmode ≠ 1 ∧ (headOf f).dmode ≠ 2 ∧ s.portHeld p = true ∧ s.portSends p = true ∧ (headOf f).fseq = 0 ∧ (headOf f).more = false ∧ s.fab.asms.find? (fun x => x.port == p.val + 1 && x.src == (headOf f).src && x.tag == (headOf f).tag) = none ∧ 12 + getB (bodyOf f) 6 ≤ (bodyOf f).length ∧ getB (bodyOf f) 6 ≤ 112 ∧ s.virtualFree 16 8 = none) ∧
    (∃ (p : Fin 2) (f : AmFrame) (s : State), s.hears p f 0xB = true ∧ s.forMe p (headOf f) = true ∧ (headOf f).fseq = 0 ∧ (headOf f).more = false ∧ s.fab.asms.find? (fun x => x.port == p.val + 1 && x.src == (headOf f).src && x.tag == (headOf f).tag) = none) ∧
    (∃ (p : Fin 2) (src tag : Nat) (s : State), s.fab.asms.any (fun x => x.port == p.val + 1 && x.src == src && x.tag == tag && decide (80 ≤ s.since x.at_)) = true) ∧
    (∃ (p : Fin 2) (f : AmFrame) (tb : Sched) (e : SchedEntry) (s : State), s.hears p f 4 = true ∧ (s.ports.get p).sched = some tb ∧ tb.entries.find? (fun e => e.slot == (headOf f).disc) = some e ∧ (headOf f).cls = e.cls ∧ s.consumes p e = true) ∧
    (∃ (p : Fin 2) (f : AmFrame) (s : State), s.hears p f 9 = true ∧ s.forMe p (headOf f) = true ∧ 1 ≤ getB (bodyOf f) 0 ∧ getB (bodyOf f) 0 ≤ 4) :=
  ⟨⟨0, mkFrame { tHd with kind := 5 } (le16 0x10A ++ le16 1 ++ [0, 1, 0, 0] ++ le32 0), 16, tNet, by decide +kernel⟩,
   ⟨0, mkFrame { tHd with kind := 5 } (le16 0x10A ++ le16 1 ++ [0, 1, 0, 0] ++ le32 0), ({ tNet with intake := { (tNet).intake with hops := tNet.intake.hops.map (fun _ => { stage := .started }) } } : State), by decide +kernel⟩,
   ⟨0, mkFrame { tHd with kind := 0xB, cls := 2 } ([1, 2, 3]), tNet, by decide +kernel⟩,
   ⟨0, 265, 1, ({ tNet with fab := { (tNet).fab with asms := [{ port := 1, src := 265, tag := 1, kind := 5, dmode := 0, cls := 0, next := 1, body := [], ftime := false, at_ := 920 }] } } : State), by decide +kernel⟩,
   ⟨0, mkFrame { tHd with kind := 4, disc := 3 } ([1, 2, 3, 4, 5, 6, 7, 8]), { bytes := [], segment := 4, arb := 0, data := 0, w := 4, crc := 0, entries := [{ slot := 3, tx := 9, len := 8, cls := 0, per := 0, off := 0, frame := 1, mask := 0xFFFF }] }, { slot := 3, tx := 9, len := 8, cls := 0, per := 0, off := 0, frame := 1, mask := 0xFFFF }, (((tPar [(netId 0 3, 5)] tNet)).updPort 0 (fun x => { x with sched := some { bytes := [], segment := 4, arb := 0, data := 0, w := 4, crc := 0, entries := [{ slot := 3, tx := 9, len := 8, cls := 0, per := 0, off := 0, frame := 1, mask := 0xFFFF }] } })), by decide +kernel⟩,
   ⟨0, mkFrame { tHd with kind := 9 } ([4, 0]), tNet, by decide +kernel⟩⟩

theorem wit_WatchComplete :
    (∃ (p : Fin 2) (f : AmFrame) (w : Nat) (s : State), s.hears p f 8 = true ∧ w ∈ s.watchesOf (headOf f).src) ∧
    (∃ (p : Fin 2) (addr w : Nat) (s : State), s.isRouter = false ∧ s.netOn p = true ∧ s.portSeg p = some (addr / 64) ∧ w ∈ s.watchesOf addr ∧ ((s.fab.watches.getD w {}).st = .unknown ∨ (s.fab.watches.getD w {}).st = .alive) ∧ s.overdue (s.fab.watches.getD w {}).since (s.fab.watches.getD w {}).period = true) ∧
    (∃ (p : Fin 2) (f : AmFrame) (w : Nat) (s : State), s.hears p f 7 = true ∧ (headOf f).dmode = 2 ∧ getB (bodyOf f) 0 = 1 ∧ s.remote (get16 (bodyOf f) 6) = true ∧ w ∈ s.watchesOf (get16 (bodyOf f) 6)) :=
  ⟨⟨0, mkFrame { tHd with kind := 8, cls := 2 } (leBytes 4 0 ++ le16 100), 15, ({ (tPar [(0x6050 + 4 * 15, 4 * 64 + 9)] tNet) with fab := { ((tPar [(0x6050 + 4 * 15, 4 * 64 + 9)] tNet)).fab with watches := updAt tNet.fab.watches 15 (fun x => { x with st := .lost, since := 4294900000, period := 100 }) } } : State), by decide +kernel⟩,
   ⟨0, 265, 15, ({ (tPar [(0x6050 + 4 * 15, 4 * 64 + 9)] tNet) with fab := { ((tPar [(0x6050 + 4 * 15, 4 * 64 + 9)] tNet)).fab with watches := updAt tNet.fab.watches 15 (fun x => { x with st := .alive, since := 4294900000, period := 100 }) } } : State), by decide +kernel⟩,
   ⟨0, mkFrame { tHd with kind := 7, cls := 2, dmode := 2, dst := 0 } ([1, 0, 0, 0] ++ le16 0x620 ++ le16 (9 * 64 + 9)), 15, ({ (tPar [(0x6050 + 4 * 15, 9 * 64 + 9)] tNet) with fab := { ((tPar [(0x6050 + 4 * 15, 9 * 64 + 9)] tNet)).fab with watches := updAt tNet.fab.watches 15 (fun x => { x with st := .alive }) } } : State), by decide +kernel⟩⟩

theorem wit_NetCommandComplete_commands : accepted
    [(netStatusSpec, tCmd 0x601 0 0 ([1, 0, 0, 0]) ((id) tBase)),
     (netRouteSpec, tCmd 0x602 0 0 ([0, 0, 1, 0]) ((id) tBase)),
     (netQstatSpec, tCmd 0x621 0 0 ([1, 0, 0, 0]) ((id) tBase)),
     (netWatchSpec, tCmd 0x622 0 0 ([]) ((id) tBase)),
     (netSendSpec, tCmd 0x603 0 0 ([1, 0, 0, 0, 11, 2, 1, 0, 7]) ((tUnits 0x20#10) tBase)),
     (netRecvSpec, tCmd 0x604 0 0 ([]) ((id) tBase)),
     (netSchedLoadSpec, tCmd 0x605 8 0 ([0, 1, 0, 0]) ((tBulk tSchedFile) tBase)),
     (netSchedValidateSpec, tCmd 0x605 8 0 ([1, 1, 0, 0]) ((tBulk tSchedFile) tBase)),
     (netSchedSaveSpec, tCmd 0x605 0 0 ([2, 1, 0, 0]) ((tSched) tBase)),
     (netSchedReadSpec, tCmd 0x605 0 0 ([3, 1, 0, 0]) ((tSched) tBase)),
     (netSchedReloadSpec, tCmd 0x605 0 0 ([4, 1, 0, 0]) ((tSched) tBase))] = true := by decide +kernel

theorem wit_SleepComplete :
    (∃ (p : Fin 2) (f : AmFrame) (s : State), s.hears p f 0xA = true ∧ s.fab.root = some (BitVec.ofNat 64 (getN (bodyOf f) 16 8))) ∧
    (∃ (p : Fin 2) (f : AmFrame) (s : State), s.hears p f 0xA = true ∧ s.fab.root ≠ some (BitVec.ofNat 64 (getN (bodyOf f) 16 8))) ∧
    (∃ (pl : SleepPlan) (s : State), s.fab.plan = some pl ∧ s.frame.running = true ∧ s.fab.woken = false ∧ s.unitOn 8 = false ∧ s.instantNow pl = true ∧ pl.has (s.nextWake pl) = true ∧ s.power.dev ≠ .run ∧ s.power.change = none ∧ 28 * s.sleepDepth + 8 ≤ pl.awake) ∧
    (∃ (pl : SleepPlan) (s : State), s.fab.plan = some pl ∧ s.frame.running = true ∧ s.fab.woken = false ∧ s.unitOn 8 = false ∧ s.instantNow pl = true ∧ pl.has (s.nextWake pl) = true ∧ s.power.dev = .run) ∧
    (∃ (pl : SleepPlan) (s : State), s.fab.plan = some pl ∧ s.frame.running = true ∧ s.fab.woken = false ∧ s.instantNow pl = true ∧ pl.has (s.nextWake pl) = false) ∧
    (∃ (pl : SleepPlan) (s : State), s.fab.plan = some pl ∧ s.frame.running = true ∧ s.fab.woken = true ∧ s.fab.listening = false ∧ s.fab.interim = false ∧ 0 ≤ sgn 32 (s.frame.superframe - s.fab.winEnd).toNat ∧ pl.cycle ≤ 2 * pl.guard * 2 ^ (s.fab.m + 1)) ∧
    (∃ (pl : SleepPlan) (s : State), s.fab.plan = some pl ∧ s.frame.running = true ∧ s.fab.woken = true ∧ s.fab.listening = false ∧ s.fab.interim = false ∧ 0 ≤ sgn 32 (s.frame.superframe - s.fab.winEnd).toNat ∧ 2 * pl.guard * 2 ^ (s.fab.m + 1) < pl.cycle ∧ pl.has (s.fab.wakeK + 1) = true ∧ s.power.change = none) ∧
    (∃ (pl : SleepPlan) (s : State), s.fab.plan = some pl ∧ s.frame.running = true ∧ s.fab.woken = true ∧ s.fab.interim = true ∧ pl.awake ≤ (s.frame.superframe - s.fab.wokeAt).toNat ∧ s.power.change = none) :=
  ⟨⟨0, mkFrame { tHd with kind := 0xA, cls := 1 } (leBytes 2 0 ++ le16 20 ++ le32 0 ++ le32 1000 ++ le16 50 ++ le16 0 ++ leBytes 8 77), ({ tNet with fab := { (tNet).fab with root := some 77 } } : State), by decide +kernel⟩,
   ⟨0, mkFrame { tHd with kind := 0xA, cls := 1 } (leBytes 2 0 ++ le16 20 ++ le32 0 ++ le32 1000 ++ le16 50 ++ le16 0 ++ leBytes 8 77), tNet, by decide +kernel⟩,
   ⟨{ awake := 20, start := 50, cycle := 1000, guard := 50, count := 0, root := 77 }, ({ tNet with fab := { (tNet).fab with plan := some { awake := 20, start := 50, cycle := 1000, guard := 50, count := 0, root := 77 }, woken := false } } : State), by decide +kernel⟩,
   ⟨{ awake := 20, start := 50, cycle := 1000, guard := 50, count := 0, root := 77 }, ({ ({ tNet with power := { (tNet).power with dev := .run } } : State) with fab := { (({ tNet with power := { (tNet).power with dev := .run } } : State)).fab with plan := some { awake := 20, start := 50, cycle := 1000, guard := 50, count := 0, root := 77 }, woken := false } } : State), by decide +kernel⟩,
   ⟨{ awake := 20, start := 50, cycle := 1000, guard := 50, count := 1, root := 77 }, ({ ({ tNet with frame := { (tNet).frame with superframe := 1070 } } : State) with fab := { (({ tNet with frame := { (tNet).frame with superframe := 1070 } } : State)).fab with plan := some { awake := 20, start := 50, cycle := 1000, guard := 50, count := 1, root := 77 }, woken := false } } : State), by decide +kernel⟩,
   ⟨{ awake := 20, start := 0, cycle := 1000, guard := 50, count := 0, root := 77 }, ({ tNet with fab := { (tNet).fab with plan := some { awake := 20, start := 0, cycle := 1000, guard := 50, count := 0, root := 77 }, woken := true, listening := false, interim := false, m := 3 } } : State), by decide +kernel⟩,
   ⟨{ awake := 20, start := 0, cycle := 1000, guard := 50, count := 0, root := 77 }, ({ tNet with fab := { (tNet).fab with plan := some { awake := 20, start := 0, cycle := 1000, guard := 50, count := 0, root := 77 }, woken := true, listening := false, interim := false, m := 2 } } : State), by decide +kernel⟩,
   ⟨{ awake := 20, start := 0, cycle := 1000, guard := 50, count := 0, root := 77 }, ({ tNet with fab := { (tNet).fab with plan := some { awake := 20, start := 0, cycle := 1000, guard := 50, count := 0, root := 77 }, woken := true, interim := true } } : State), by decide +kernel⟩⟩

theorem wit_SleepComplete_commands : accepted
    [(netSleepAnnounceSpec, tCmd 0x620 0 0 ([0, 0] ++ le16 20 ++ le32 100 ++ le32 1000 ++ le16 50 ++ le16 0) ((tPar [(0x6001, 1)]) tBase)),
     (netSleepCancelSpec, tCmd 0x620 0 0 ([1, 0] ++ le16 20 ++ le32 100 ++ le32 1000 ++ le16 50 ++ le16 0) ((tPar [(0x6001, 1)]) tBase)),
     (netSleepStatusSpec, tCmd 0x620 0 0 ([2, 0] ++ le16 20 ++ le32 100 ++ le32 1000 ++ le16 50 ++ le16 0) ((tPar [(0x6001, 1)]) tBase))] = true := by decide +kernel

theorem wit_IsoClaimComplete :
    (∃ (f : IsoFrame) (s : State), s.isoLive = true ∧ isoPgn f = 0xEE00 ∧ f.data.length = 8 ∧ f.classic = true ∧ isoSrc f = s.iso.addr ∧ (s.iso.claim = .claiming ∨ s.iso.claim = .held) ∧ s.isoName < getN f.data 0 8) ∧
    (∃ (f : IsoFrame) (s : State), s.isoLive = true ∧ isoPgn f = 0xEE00 ∧ f.data.length = 8 ∧ f.classic = true ∧ isoSrc f = s.iso.addr ∧ (s.iso.claim = .claiming ∨ s.iso.claim = .held) ∧ getN f.data 0 8 < s.isoName) ∧
    (∃ s : State, s.isoLive = true ∧ s.iso.claim = .claiming ∧ 5000 ≤ s.since s.iso.claimAt) ∧
    (∃ s : State, s.isoLive = true ∧ s.iso.claim = .cannot ∧ s.iso.cannotDue = true ∧ 12 * (Config.uid.toNat % 256) ≤ s.since s.iso.cannotAt) ∧
    (∃ (src : Nat) (data : List Byte) (s : State), s.isoLive = true ∧ data.length = 9 ∧ getN data 0 8 = s.isoName ∧ src ≠ s.iso.addr ∧ s.svc.winBound = true ∧ s.svc.window.isSome = true ∧ getB data 8 ≤ 253) ∧
    (∃ (src : Nat) (data : List Byte) (s : State), s.isoLive = true ∧ data.length = 9 ∧ getN data 0 8 = s.isoName ∧ src ≠ s.iso.addr ∧ s.svc.window = none) ∧
    (∃ (f : IsoFrame) (s : State), s.isoLive = true ∧ isoPgn f = 0xEA00 ∧ 3 ≤ f.data.length ∧ f.classic = true ∧ s.iso.claim = .held ∧ s.isoBarred = false ∧ (isoDst f = s.iso.addr ∨ isoDst f = 255) ∧ getN f.data 0 3 = 0xEE00) ∧
    (∃ (f : IsoFrame) (s : State), s.isoLive = true ∧ isoPgn f = 0xEA00 ∧ 3 ≤ f.data.length ∧ f.classic = true ∧ s.iso.claim = .held ∧ s.isoBarred = false ∧ isoDst f = s.iso.addr ∧ getN f.data 0 3 ≠ 0xEE00 ∧ getN f.data 0 3 ≠ 0xFF00 + s.par 0x7002) ∧
    (∃ s : State, s.isoLive = true ∧ s.iso.claim = .held ∧ s.par 0x7003 ≠ 0 ∧ s.frame.index = 0 ∧ (s.frame.superframe - s.iso.heldAt).toNat % s.par 0x7003 = 0 ∧ s.iso.statAt ≠ some s.frame.superframe) ∧
    (∃ (f : IsoFrame) (s : State), s.isoLive = true ∧ f.classic = true ∧ isoPgn f = 60416 ∧ getB f.data 0 = 32 ∧ isoDst f = 255 ∧ 9 ≤ get16 f.data 1 ∧ get16 f.data 1 ≤ 1785 ∧ (s.iso.sessions.filter (fun t => t.rx && t.bam)).length < 2) ∧
    (∃ (peer : Nat) (rx bam : Bool) (s : State), s.iso.sessions.any (fun t => t.rx == rx && t.bam == bam && t.peer == peer) = true) ∧
    (∃ (src h : Nat) (data : List Byte) (s : State), s.isoLive = true ∧ s.par 0x7005 = 1 ∧ (s.par 0x7006 = 255 ∨ s.par 0x7006 = src) ∧ s.iso.claim = .held ∧ data.length = 16 + getB data 10 ∧ data.take 4 = [0x4B, 0x4D, 1, 0] ∧ s.virtualFree 24 4 = some h ∧ s.intake.hops.length = 32 ∧ s.virtualHeld 24 4 src < 2) ∧
    (∃ (_src : Nat) (_data : List Byte) (s : State), s.isoLive = true ∧ s.par 0x7005 ≠ 1) ∧
    (∃ (f : IsoFrame) (k : Fin 2) (s : State), s.isoLive = true ∧ isoPgn f = 65097 - k.val ∧ f.data.length = 8 ∧ f.classic = true ∧ (s.par 0x7007 = 255 ∨ s.par 0x7007 = isoSrc f)) :=
  ⟨⟨{ ident := BitVec.ofNat 29 (6 * 2 ^ 26 + 0xEEFF * 256 + 130), data := leBytes 8 0xF000000000000123 }, tIso, by decide +kernel⟩,
   ⟨{ ident := BitVec.ofNat 29 (6 * 2 ^ 26 + 0xEEFF * 256 + 130), data := leBytes 8 0x123 }, tIso, by decide +kernel⟩,
   ⟨({ tIso with iso := { tIso.iso with claim := .claiming, claimAt := 4294960000 } } : State), by decide +kernel⟩,
   ⟨({ tIso with iso := { tIso.iso with claim := .cannot, cannotDue := true, cannotAt := 4294964236 } } : State), by exact ⟨by decide +kernel, by decide +kernel, by decide +kernel, le_trans (Nat.mul_le_mul_left 12 (Nat.le_of_lt_succ (Nat.mod_lt _ (by decide)))) (by decide +kernel)⟩⟩,
   ⟨9, leBytes 8 0x8000000000000123 ++ [253], { tIso with svc := { tIso.svc with winBound := true, window := some 3 } }, by decide +kernel⟩,
   ⟨9, leBytes 8 0x8000000000000123 ++ [253], tIso, by decide +kernel⟩,
   ⟨{ ident := BitVec.ofNat 29 (6 * 2 ^ 26 + 0xEAFF * 256 + 9), data := [0, 0xEE, 0] }, tIso, by decide +kernel⟩,
   ⟨{ ident := BitVec.ofNat 29 (6 * 2 ^ 26 + 0xEA82 * 256 + 9), data := [0, 0xEF, 0] }, tIso, by decide +kernel⟩,
   ⟨({ (tPar [(0x7003, 1000)] tIso) with frame := { ((tPar [(0x7003, 1000)] tIso)).frame with index := 0, superframe := 1000 } } : State), by decide +kernel⟩,
   ⟨{ ident := BitVec.ofNat 29 (6 * 2 ^ 26 + 0xECFF * 256 + 9), data := [32, 9, 0, 2, 255, 0, 0xFE, 0] }, tIso, by decide +kernel⟩,
   ⟨9, true, true, ({ tIso with iso := { tIso.iso with sessions := [{ peer := 9, rx := true, bam := true, pgn := 0, size := 9, next := 1, body := [] }] } } : State), by decide +kernel⟩,
   ⟨255, 24, [0x4B, 0x4D, 1, 0] ++ List.replicate 12 0, (tPar [(0x7006, 255)] tIso), by decide +kernel⟩,
   ⟨9, [], (tPar [(0x7005, 0)] tIso), by decide +kernel⟩,
   ⟨{ ident := BitVec.ofNat 29 (6 * 2 ^ 26 + (65097 - 1) * 256 + 9), data := [1, 0, 0, 0, 0, 0, 0, 1] }, 1, (tPar [(0x7007, 255)] tIso), by decide +kernel⟩⟩

theorem wit_IsoClaimComplete_commands : accepted
    [(isoStatusSpec, tCmd 0x701 0 0 ([]) ((id) tBase))] = true := by decide +kernel

theorem wit_TwinRecordComplete :
    (∃ (_delay : Nat) (_uid : BitVec 64) (idles : Nat) (s : State), 1000 ≤ idles ∧ s.unitOn 8 = true ∧ s.clock.pllt = .locked ∧ s.twin.link ≠ .up) ∧
    (∃ (viol ns : Nat) (s : State), s.twin.link = .up ∧ (8 ≤ viol ∨ 2000 ≤ ns)) ∧
    (∃ (r : List Byte) (off : Nat) (clean : Bool) (s : State), s.unitOn 8 = true ∧ s.twin.link = .up ∧ s.recordBad r off clean 0x4D 448 = false) ∧
    (∃ (r : List Byte) (off : Nat) (clean : Bool) (s : State), s.unitOn 8 = true ∧ s.twin.link = .up ∧ s.recordBad r off clean 0x53 32 = false) ∧
    (∃ (r : List Byte) (off : Nat) (clean mirror : Bool) (s : State), s.unitOn 8 = true ∧ s.twin.link = .up ∧ s.recordBad r off clean (if mirror then 0x4D else 0x53) (if mirror then 448 else 32) = true) :=
  ⟨⟨100, 77, 1000, ({ tTwin with twin := { (tTwin).twin with link := .down } } : State), by decide +kernel⟩,
   ⟨0, 2000, tTwin, by decide +kernel⟩,
   ⟨tRec ([0x4D, 1] ++ le16 448 ++ le32 5) 448, 2200, true, ({ tTwin with twin := { (tTwin).twin with lastSent := some 4 } } : State), by decide +kernel⟩,
   ⟨tRec ([0x53, 1] ++ le16 32 ++ le32 5) 32, 0, true, tTwin, by decide +kernel⟩,
   ⟨[], 0, true, true, tTwin, by decide +kernel⟩⟩

theorem wit_TwinRoleComplete :
    (∃ s : State, s.pins.acti = true) ∧
    (∃ s : State, s.pins.acti = false ∧ s.unitOn 8 = true ∧ s.twin.acto = true ∧ s.roleB = true) ∧
    (∃ s : State, s.pins.acti = false ∧ s.unitOn 8 = true ∧ s.twin.acto = true ∧ s.roleB = false) ∧
    (∃ (us : Nat) (s : State), 100 ≤ us ∧ s.unitOn 8 = true ∧ s.twin.acto = true ∧ s.pins.acti = false ∧ s.twin.gperm = false ∧ s.twin.role = .arming) ∧
    (∃ s : State, s.unitOn 8 = true ∧ s.frame.running = true ∧ (s.twin.link ≠ .up ∨ 2 ≤ s.twin.noStat) ∧ s.twin.role = .active) ∧
    (∃ s : State, s.unitOn 8 = true ∧ s.frame.running = true ∧ (s.twin.link ≠ .up ∨ 2 ≤ s.twin.quiet) ∧ s.twin.role = .standby ∧ s.pins.acti = true) ∧
    (∃ s : State, s.unitOn 8 = true ∧ s.frame.running = true ∧ s.twin.role = .standby ∧ s.par 0x8003 ≠ 0 ∧ s.pins.acti = false ∧ s.faults.device = false ∧ s.twin.switch = none ∧ s.par 0x8003 * (if s.primary then 1 else 2) ≤ s.twin.quietSf) ∧
    (∃ (h k : Nat) (s : State), s.twin.switch = some (h, some k) ∧ 4 ≤ k ∧ cellWf s.intake.slots = true) :=
  ⟨⟨({ tTwin with pins := { (tTwin).pins with acti := true } } : State), by decide +kernel⟩,
   ⟨({ tTwin with pins := { tTwin.pins with role := .b }, twin := { tTwin.twin with acto := true, role := .active, gperm := true } } : State), by decide +kernel⟩,
   ⟨({ tTwin with pins := { tTwin.pins with role := .a }, twin := { tTwin.twin with acto := true, role := .active, gperm := true } } : State), by decide +kernel⟩,
   ⟨100, ({ tTwin with twin := { (tTwin).twin with acto := true, gperm := false, role := .arming } } : State), by decide +kernel⟩,
   ⟨({ tTwin with twin := { (tTwin).twin with role := .active, noStat := 2 } } : State), by decide +kernel⟩,
   ⟨({ ({ tTwin with twin := { (tTwin).twin with quiet := 2 } } : State) with pins := { (({ tTwin with twin := { (tTwin).twin with quiet := 2 } } : State)).pins with acti := true } } : State), by decide +kernel⟩,
   ⟨({ (tPar [(0x8003, 50)] tTwin) with twin := { ((tPar [(0x8003, 50)] tTwin)).twin with quietSf := 60000 } } : State), by decide +kernel⟩,
   ⟨0, 4, ({ tTwin with twin := { (tTwin).twin with switch := some (0, some 4) } } : State), by decide +kernel⟩⟩

theorem wit_TwinRoleComplete_commands : accepted
    [(twinStatusSpec, tCmd 0x801 0 0 ([]) ((id) tBase)),
     (twinSwitchSpec, tCmd 0x802 0 0 (List.replicate 4 0) ((tActive) tBase))] = true := by decide +kernel

theorem wit_FirmwareComplete_commands : accepted
    [((fwSpec 0 true), tCmd 0x901 0 0 ([0, 0, 0, 0, 0, 1, 0, 0]) ((tBank .empty 0) tBase)),
     ((fwSpec 1 false), tCmd 0x901 8 0 ([1, 0, 0, 0, 0, 0, 0, 0]) ((tBulk (List.replicate 16 5) ∘ tBank .loading 0) tBase)),
     ((fwSpec 2 false), tCmd 0x901 0 0 ([2, 0, 1, 0, 0, 0, 0, 0, 7]) ((tBank .loading 0) tBase)),
     ((fwSpec 3 false), tCmd 0x901 0 0 ([3] ++ List.replicate 7 0) ((tBank .loading 256) tBase)),
     ((fwSpec 4 true), tCmd 0x901 0 0 ([4] ++ List.replicate 7 0) ((tBank .verified 0) tBase)),
     ((fwSpec 5 false), tCmd 0x901 0 0 ([5] ++ List.replicate 7 0) ((tBank .pending 0 ∘ tAxOff) tBase)),
     ((fwSpec 6 false), tCmd 0x901 0 0 ([6] ++ List.replicate 7 0) ((tTrial) tBase)),
     ((fwSpec 7 false), tCmd 0x901 0 0 ([7] ++ List.replicate 7 0) ((tBank .loading 0) tBase)),
     ((fwSpec 0 true), tCmd 0x901 0 0 ([0, 0, 0, 0, 0, 1, 0, 0]) ((tBank .empty 0) tBase)),
     ((fwSpec 3 false), tCmd 0x901 0 0 ([3] ++ List.replicate 7 0) ((tBank .loading 256) tBase)),
     ((fwSpec 4 true), tCmd 0x901 0 0 ([4] ++ List.replicate 7 0) ((tBank .verified 0) tBase)),
     ((fwSpec 5 false), tCmd 0x901 0 0 ([5] ++ List.replicate 7 0) ((tBank .pending 0 ∘ tAxOff) tBase)),
     ((fwSpec 6 false), tCmd 0x901 0 0 ([6] ++ List.replicate 7 0) ((tTrial) tBase)),
     ((fwSpec 7 false), tCmd 0x901 0 0 ([7] ++ List.replicate 7 0) ((tBank .loading 0) tBase))] = true := by decide +kernel

theorem wit_ServiceComplete :
    (∃ (t _qual : Nat) (l : List Nat) (s : State), s.svc.bistTodo = t :: l ∧ t < 6 ∧ t ≠ 3 ∧ bistLen t ≤ s.since s.svc.bistFrom) ∧
    (∃ (t qual : Nat) (l : List Nat) (s : State), s.svc.bistTodo = t :: l ∧ t < 6 ∧ t ≠ 3 ∧ bistLen t ≤ s.since s.svc.bistFrom ∧ (t = 0 → qual = 1 → s.idleBank.st ≠ .loading)) ∧
    (∃ (_pass : Bool) (n : Fin 4) (_qual : Nat) (l : List Nat) (s : State), s.svc.bistTodo = (8 + n.val) :: l ∧ (s.axSt n).bist ≠ 0 ∧ s.seq n = .failed) ∧
    (∃ (_pass : Bool) (n : Fin 4) (_qual : Nat) (l : List Nat) (s : State), s.svc.bistTodo = (8 + n.val) :: l ∧ (s.axSt n).bist = 2 ∧ s.seq n = .off) :=
  ⟨⟨5, 0, [], ({ tBase with svc := { (tBase).svc with bistTodo := [5], bistFrom := 988 } } : State), by decide +kernel⟩,
   ⟨0, 1, [1], ({ tBase with svc := { (tBase).svc with bistTodo := [0, 1] } } : State), by decide +kernel⟩,
   ⟨true, 3, 0, [], ({ ((tBase).setSeq 3 (fun x => { x with seq := .failed, bist := 1 })) with svc := { (((tBase).setSeq 3 (fun x => { x with seq := .failed, bist := 1 }))).svc with bistTodo := [11] } } : State), by decide +kernel⟩,
   ⟨false, 3, 0, [], ({ ((tBase).setSeq 3 (fun x => { x with seq := .off, bist := 2 })) with svc := { (((tBase).setSeq 3 (fun x => { x with seq := .off, bist := 2 }))).svc with bistTodo := [11], gateBad := 8#4 } } : State), by decide +kernel⟩⟩

theorem wit_ServiceComplete_commands : accepted
    [(svcIdentSpec, tCmd 0x902 0 0 ([]) ((id) tBase)),
     (svcCloseSpec, tCmd 0x903 0 0 ([1, 0, 0, 0]) ((tSvc) tBase)),
     (svcTamperSpec, tCmd 0x903 0 0 ([2, 0, 0, 0]) ((tSvc) tBase)),
     (svcFactorySpec, tCmd 0x903 0 0 ([3, 0, 0, 0]) ((tSvc) tBase)),
     (svcDebugSpec, tCmd 0x903 0 0 ([4, 0, 0, 0]) ((tSvc) tBase)),
     (bistRunSpec, tCmd 0x904 0 0 ([1, 0, 0, 0]) ((id) tBase))] = true := by decide +kernel

theorem wit_FaultTableComplete_commands : accepted
    [(faultStatusSpec, tCmd 0x10 0 0 ([0, 1, 0, 0]) ((id) tBase)),
     (faultClearSpec, tCmd 0x11 0 0 ([255, 255, 0, 0]) ((id) tBase)),
     (eventReadSpec, tCmd 0x12 0 0 ([1, 0, 0, 0]) ((id) tBase))] = true := by decide +kernel

theorem wit_FaultRaised :
    ∃ (_code _qual : Nat) (_axes : BitVec 4) (_cond : Bool) (s : State), (s.faults.active.map (fun e => e.code)).Nodup :=
  ⟨0x0901, 0, 0, true, tBase.raise 0x0901 7 0 true, by decide +kernel⟩

theorem wit_SwitchesGoOff :
    (∃ s : State, s.sysAwake = true) ∧
    (∃ (vm us : Nat) (s : State), s.power.vmUv = false ∧ vm < 6000 ∧ 5 ≤ us ∧ s.domReady .sys = true) ∧
    (∃ s : State, s.pins.inReset = false) ∧
    (∃ (vbat : Nat) (_s : State), vbat < 3000) ∧
    (∃ (_code : Nat) (s : State), s.faults.device = false) :=
  ⟨⟨tBase, by decide +kernel⟩,
   ⟨5999, 5, tBase, by decide +kernel⟩,
   ⟨tBase, by decide +kernel⟩,
   ⟨2999, tBase, by decide +kernel⟩,
   ⟨0x1202, tBase, by decide +kernel⟩⟩

theorem wit_HopperComplete :
    (∃ (h : Fin 32) (s : State), s.isBarrier h = true ∧ s.p16 h 2 ≠ 0 ∧ s.p16 h 2 ≤ s.since (s.hop h).taken ∧ cellWf s.intake.slots = true) ∧
    (∃ (h : Fin 32) (s : State), s.tagged h = true ∧ s.laterej h = true ∧ (s.stage h).waiting = true ∧ s.dist h ≤ 1 ∧ s.intake.starts = 0 ∧ cellWf s.intake.slots = true) ∧
    (∃ (c : CmdSpec) (h : Fin 32) (s : State), s.tagged h = true ∧ 0 < s.intake.starts ∧ s.specOf h = some c ∧ s.nextStart = some h.val ∧ (s.stage h).waiting = true ∧ s.safeBars h = false ∧ c.ready s.useStart h = none ∧ c.own s.useStart h = none) ∧
    (∃ (c : CmdSpec) (h : Fin 32) (s : State), s.specOf h = some c ∧ s.nextStart = some h.val ∧ (s.stage h).waiting = true ∧ s.safeBars h = false ∧ c.ready s.useStart h = none ∧ c.own s.useStart h = none) :=
  ⟨⟨0, ({ (tCmd 0x1101 0 0 [0, 0, 5, 0] tBase) with intake := { ((tCmd 0x1101 0 0 [0, 0, 5, 0] tBase)).intake with hops := updAt (tCmd 0x1101 0 0 [0, 0, 5, 0] tBase).intake.hops 0 (fun y => { y with stage := .waitBarrier, taken := 995 }) } } : State), by decide +kernel⟩,
   ⟨0, ({ ({ (tCmd 0x10A 3 1 [] tBase) with intake := { ((tCmd 0x10A 3 1 [] tBase)).intake with hops := updAt (tCmd 0x10A 3 1 [] tBase).intake.hops 0 (fun y => { y with stage := .waitTag }) } } : State) with intake := { (({ (tCmd 0x10A 3 1 [] tBase) with intake := { ((tCmd 0x10A 3 1 [] tBase)).intake with hops := updAt (tCmd 0x10A 3 1 [] tBase).intake.hops 0 (fun y => { y with stage := .waitTag }) } } : State)).intake with starts := 0 } } : State), by decide +kernel⟩,
   ⟨(({ (tCmd 0x10A 3 1 [] tBase) with intake := { ((tCmd 0x10A 3 1 [] tBase)).intake with hops := updAt (tCmd 0x10A 3 1 [] tBase).intake.hops 0 (fun y => { y with stage := .waitTag }) } } : State).specOf 0).get (by decide +kernel), 0, ({ (tCmd 0x10A 3 1 [] tBase) with intake := { ((tCmd 0x10A 3 1 [] tBase)).intake with hops := updAt (tCmd 0x10A 3 1 [] tBase).intake.hops 0 (fun y => { y with stage := .waitTag }) } } : State), by exact ⟨by decide +kernel, by decide +kernel, (Option.some_get _).symm, by decide +kernel, by decide +kernel, by decide +kernel, by decide +kernel⟩⟩,
   ⟨(({ (tCmd 0x10A 0 1 [] tBase) with intake := { ((tCmd 0x10A 0 1 [] tBase)).intake with hops := updAt (tCmd 0x10A 0 1 [] tBase).intake.hops 0 (fun y => { y with stage := .waitAxis }) } } : State).specOf 0).get (by decide +kernel), 0, ({ (tCmd 0x10A 0 1 [] tBase) with intake := { ((tCmd 0x10A 0 1 [] tBase)).intake with hops := updAt (tCmd 0x10A 0 1 [] tBase).intake.hops 0 (fun y => { y with stage := .waitAxis }) } } : State), by exact ⟨(Option.some_get _).symm, by decide +kernel, by decide +kernel, by decide +kernel, by decide +kernel⟩⟩⟩

theorem wit_HopperComplete_commands : accepted
    [(barrierSpec, tCmd 0x1101 0 0 (List.replicate 4 0) ((id) tBase)),
     (hopStatusSpec, tCmd 0x1102 0 0 (List.replicate 1 0) ((id) tBase))] = true := by decide +kernel

theorem wit_FrameBoundaryComplete :
    (∃ (_commit : Bool) (_hbk : Quad Nat) (s : State), s.frame.running = true ∧ s.svc.restart = false ∧ s.power.change ≠ some .sleep) ∧
    (∃ (_commit : Bool) (_hbk : Quad Nat) (s : State), s.frame.running = true ∧ s.svc.restart = false ∧ s.power.change ≠ some .sleep ∧ s.frame.realign = none ∧ s.frame.index < 20) :=
  ⟨⟨true, ⟨0, 0, 0, 0⟩, ({ tBase with frame := { (tBase).frame with realign := some (7, 19) } } : State), by decide +kernel⟩,
   ⟨true, ⟨0, 0, 0, 0⟩, ({ tBase with frame := { (tBase).frame with counter := 0xFFFFFFFF, index := 19, superframe := 0xFFFFFFFF } } : State), by decide +kernel⟩⟩

theorem wit_StepTakesFront :
    (∃ (c : Instr) (l : List Instr) (s : State), s.pending = c :: l) ∧
    (∃ s : State, s.pending = []) :=
  ⟨⟨.reset, [.powerOn 4000], { State.reset with pending := [.reset, .powerOn 4000] }, by decide +kernel⟩,
   ⟨State.reset, by decide +kernel⟩⟩

theorem wit_MapVoxels :
    (∃ (d : Nat) (_o new : Oct) (x v : Int × Int × Int) (_r : Box), (new = .full ∨ new = .empty) ∧ voxelIn x (2 ^ d : Nat) v = true) ∧
    (∃ (d : Nat) (_a _b : Oct) (x v : Int × Int × Int), voxelIn x (2 ^ d : Nat) v = true) :=
  ⟨⟨1, .full, .empty, (0, 0, 0), (1, 1, 1), { lo := (1, 1, 1), hi := (1, 1, 1) }, by decide +kernel⟩,
   ⟨1, .full, .empty, (0, 0, 0), (1, 0, 1), by decide +kernel⟩⟩

theorem wit_EventQueue :
    (∃ s : State, s.faults.events.length ≤ 255) ∧
    (∃ (_code _qual : Nat) (s : State), s.faults.events.length ≤ 255) :=
  ⟨⟨({ tBase with faults := { (tBase).faults with events := List.replicate 255 (1, 2, 3) } } : State), by decide +kernel⟩,
   ⟨5, 6, ({ tBase with faults := { (tBase).faults with events := List.replicate 255 (1, 2, 3) } } : State), by decide +kernel⟩⟩

theorem wit_EventQueue_commands : accepted
    [(eventReadSpec, tCmd 0x12 0 0 ([1, 0, 0, 0]) ((id) tBase))] = true := by decide +kernel

theorem wit_HeldCommandEnds :
    (∃ (h : Fin 32) (s : State), s.stage h = .held ∧ s.frame.counter = (s.hop h).intake + 8 ∧ cellWf s.intake.slots = true) ∧
    (∃ (h : Fin 32) (s : State), s.stage h = .held ∧ -8 < s.ahead (s.hop h).intake) :=
  ⟨⟨31, ({ tBase with intake := { (tBase).intake with hops := updAt tBase.intake.hops 31 (fun y => { y with stage := .held, intake := 992 }) } } : State), by decide +kernel⟩,
   ⟨0, ({ (tCmd 0x10A 0 1 [] tBase) with intake := { ((tCmd 0x10A 0 1 [] tBase)).intake with hops := updAt (tCmd 0x10A 0 1 [] tBase).intake.hops 0 (fun y => { y with stage := .held, intake := 993 }) } } : State), by decide +kernel⟩⟩

theorem wit_DoorbellRefused :
    ∃ (k : Nat) (v : BitVec 16) (s : State), k < 16 ∧ v.getLsbD k = true ∧ s.host.hown.getLsbD k = true ∧ cellWf s.intake.slots = true :=
  ⟨15, 0x8001, ({ tBase with host := { (tBase).host with hown := 0x8000 } } : State), by decide +kernel⟩

theorem wit_SuppressedHit :
    ∃ (n : Fin 4) (u : Fin 2) (old x : Int) (k : Nat) (s : State), (s.cmpUnit n u).st = .armed ∧ (if s.cp n u 1 = 1 then x < old else old < x) ∧ passed (s.cp n u 1 == 1) (s.cmpUnit n u).v x (s.cp n u 2) = k ∧ 0 < k ∧ (∀ i < k, vFits (advance (s.cp n u 1 == 1) (s.cmpUnit n u).v (i + 1) (s.cp n u 2)) = true ∧ (passValue (s.cp n u 1 == 1) (advance (s.cp n u 1 == 1) (s.cmpUnit n u).v i (s.cp n u 2)) < s.cpI n u 5 ∨ s.cpI n u 6 < passValue (s.cp n u 1 == 1) (advance (s.cp n u 1 == 1) (s.cmpUnit n u).v i (s.cp n u 2)))) :=
  ⟨0, 0, -1, 0, 1, (((tPar [(fbId 0 0x42, 1000), (fbId 0 0x45, 0xFFFFFF00), (fbId 0 0x46, 0xFFFFFFFF)] tBase)).updCmp 0 0 (fun x => { x with st := .armed, v := 0 })), by decide +kernel⟩

theorem wit_BootstrapDrops :
    (∃ (n b : Fin 4) (mv ns : Nat) (len : Moment) (s : State), (s.bridge n b).hi.turning = true ∧ (s.bridge n b).hi.cause = 0 ∧ mv < 7000 ∧ 100 ≤ ns ∧ max (s.bridge n b).hi.tpreOn (compHold (16 + 4 * n.val + b.val)) ≤ len.val) ∧
    (∃ (n b : Fin 4) (mv _ns : Nat) (len : Moment) (s : State), (((s.bridge n b).hi.turning = false ∧ (s.bridge n b).hi.latchAt ≠ some (s.tickAt len.off)) ∨ 7000 ≤ mv)) :=
  ⟨⟨0, 0, 6999, 100, ⟨7, 1000000000⟩, ((tBase).updBridge 0 0 (fun x => x.updSw true (fun y => { y with phase := .on }))), by exact ⟨by decide +kernel, by decide +kernel, by decide +kernel, by decide +kernel, max_le (by decide +kernel) (le_trans (min_le_left _ _) (by decide +kernel))⟩⟩,
   ⟨0, 0, 6999, 100, ⟨7, 50⟩, tBase, by decide +kernel⟩⟩

theorem wit_DumpIneffective :
    (∃ (vm off : Nat) (s : State), s.power.brkg = true ∧ 400000 ≤ s.tickAt off - s.power.brkOnAt ∧ s.power.brkOnVm < vm + 500) ∧
    (∃ (vm _off : Nat) (s : State), (s.power.brkg = false ∨ vm + 500 ≤ s.power.brkOnVm)) :=
  ⟨⟨24000, 400000, ({ tBase with power := { (tBase).power with brkg := true, brkOnAt := 10000000, brkOnVm := 24499 } } : State), by decide +kernel⟩,
   ⟨23999, 400000, ({ tBase with power := { (tBase).power with brkg := true, brkOnAt := 10000000, brkOnVm := 24499 } } : State), by decide +kernel⟩⟩

/-! ### Table files in the bulk window: their commands are accepted -/

theorem getB_app_right (a b : List Byte) (k : Nat) (h : a.length ≤ k) : getB (a ++ b) k = getB b (k - a.length) := by
  unfold getB; rw [List.getD_append_right _ _ _ _ h]

theorem get16_words (l : List Nat) (i : Nat) : get16 (l.flatMap le16) (2 * i) = l.getD i 0 % 65536 := by
  induction l generalizing i with
  | nil => simp [get16, getB]
  | cons v l ih =>
    cases i with
    | zero =>
      have e : (BitVec.ofNat 8 v).toNat + 256 * (BitVec.ofNat 8 (v / 256)).toNat = v % 65536 := by
        simp only [BitVec.toNat_ofNat]; omega
      simpa [get16, getB, le16, leBytes, List.flatMap_cons] using e
    | succ i =>
      have h2 : (le16 v).length = 2 := rfl
      have e : get16 ((v :: l).flatMap le16) (2 * (i + 1)) = get16 (l.flatMap le16) (2 * i) := by
        rw [List.flatMap_cons, get16, getB_app_right _ _ _ (by omega), getB_app_right _ _ _ (by omega), h2, get16]
        congr 3
      rw [e, ih]; rfl

theorem fit_self {α : Type} (n : Nat) (d : α) (l : List α) (h : l.length = n) : fit n d l = l := by
  unfold fit; rw [List.take_append_of_le_length (by omega), List.take_of_length_le (by omega)]

theorem chisel_entry (t : Chisel) (h : t.entries.length = 256) (i : Nat) : get16 (chiselBytes t) (16 + 2 * i) = t.entries.getD i 0 % 65536 := by
  unfold chiselBytes
  simp only [fit_self _ _ _ h]
  rw [← get16_words, get16, getB_app_right _ _ _ (by simp [le32, le16]), getB_app_right _ _ _ (by simp [le32, le16]; omega), get16]
  congr 3 <;> (simp only [le32, le16, List.length_append, leBytes_length, List.length_cons, List.length_nil]; omega)

theorem chisel_entries (t : Chisel) (h : t.entries.length = 256) (hs : ∀ i < 256, t.entries.getD i 0 < 4096) : fileEntries (chiselBytes t) = t.entries := by
  unfold fileEntries
  apply List.ext_getElem
  · simp [h]
  · intro i h1 h2
    have := hs i (by omega)
    rw [List.getElem_map, List.getElem_range, chisel_entry t h, Nat.mod_eq_of_lt (by omega), List.getD_eq_getElem _ _ h2]

theorem chisel_width (t : Chisel) (h : t.entries.length = 256) (hs : ∀ i < 256, t.entries.getD i 0 < 4096) : chiselWidth (chiselBytes t) = none := by
  have h6 : get16 (chiselBytes t) 6 = 0 := rfl
  unfold chiselWidth
  rw [if_neg (by rw [h6]; decide), Option.map_eq_none_iff, List.find?_eq_none]
  intro i hi
  have hi := List.mem_range.1 hi
  have := hs i hi
  rw [chisel_entry t h, Nat.mod_eq_of_lt (by omega)]
  simpa using this

theorem bulk_back (s : State) (l : List Byte) (n : Nat) (hn : l.length = n) (h : s.intake.bulk = cellWrite [] 0 l) : s.bulkBytes 0 n = l := by
  subst hn
  unfold State.bulkBytes cellRead
  rw [h]
  apply List.ext_getElem
  · simp
  · intro i h1 h2
    rw [List.getElem_map, List.getElem_range, cellGet_write _ _ _ _ rfl, if_pos (by omega), List.getD_eq_getElem _ _ (by omega)]
    congr 1; omega

theorem tRef_short : tRef.entries.length = 256 ∧ ∀ i < 256, tRef.entries.getD i 0 < 4096 := by decide +kernel
theorem tRef_file : chiselFile (chiselBytes tRef) = [] := by
  unfold chiselFile
  rw [chisel_entries tRef tRef_short.1 tRef_short.2]
  decide +kernel
theorem tRef_size : (chiselBytes tRef).length = chiselSize := by decide +kernel
theorem chisel_own (s : State) (t : Chisel) (h : s.intake.bulk = cellWrite [] 0 (chiselBytes t)) (hz : (chiselBytes t).length = chiselSize)
    (hl : t.entries.length = 256) (hs : ∀ i < 256, t.entries.getD i 0 < 4096) (hf : chiselFile (chiselBytes t) = []) : s.chiselOwn = none := by
  have e := bulk_back s _ _ hz h
  have w := chisel_width t hl hs
  unfold State.chiselOwn
  rw [e]
  generalize chiselBytes t = f at w hf
  simp only [w, hf, State.findingReply]
  split <;> simp_all

/-- What an accepted command meets before its own checks. -/
def accFirst (s : State) (c : CmdSpec) (h : Nat) : Bool :=
  let u := s.passed c h
  s.nextStart == some h && s.rungCmd h && s.opcode h == c.op && (match c.sub with | some o => s.p8 h 0 == o | none => true) &&
  ((s.beginTake h).hop h).doomed == none && firstChecks c (s.beginTake h) h == none && lateChecks c (s.taken h) h == none &&
  (s.taken h).stopOver h == none && u.waitOf h == none &&
  (if isStopOp (u.opcode h) && u.enableAhead h then none else c.ready u h) == none && !u.safeBars h

theorem accepts_of (s : State) (c : CmdSpec) (h : Nat) (hf : accFirst s c h = true) (ho : c.own (s.passed c h) h = none) :
    s.accepts c h = true := by
  have e : s.accepts c h = (accFirst s c h && c.own (s.passed c h) h == none) := rfl
  rw [e, hf, ho]; rfl

def tBulkIn (c ax : Nat) (l : List Byte) (op : Byte) : State := tCmd c 8 ax [op, 0, 0, 0] (tBulk l (tAxOff tBase))
theorem taken_bulk (s : State) (h : Nat) (hn : isStopOp ((s.taken h).opcode h) = false) : ((s.taken h).stopTaken h).intake.bulk = s.intake.bulk := by
  unfold State.stopTaken
  rw [hn, if_neg Bool.false_ne_true]
  unfold State.taken State.useBulk
  split <;> rfl
theorem tBulkIn_bulk (c ax : Nat) (l : List Byte) (op : Byte) : (tBulkIn c ax l op).intake.bulk = cellWrite [] 0 l := rfl
theorem tChisel_own (op : Byte) (hn : isStopOp (((tBulkIn 0x120 1 (chiselBytes tRef) op).taken 0).opcode 0) = false) : (((tBulkIn 0x120 1 (chiselBytes tRef) op).taken 0).stopTaken 0).chiselOwn = none :=
  chisel_own _ tRef ((taken_bulk _ _ hn).trans (tBulkIn_bulk _ _ _ _)) tRef_size tRef_short.1 tRef_short.2 tRef_file
theorem chisel_load_own (s : State) (h : Nat) (ha : s.findingReply (s.chiselAxis h) = none) (ho : s.chiselOwn = none) : chiselLoadSpec.own s h = none := by
  have e : chiselLoadSpec.own s h = (match s.findingReply (s.chiselAxis h) with | some r => some r | none => s.chiselOwn) := rfl
  rw [e, ha, ho]
theorem chisel_validate_own (s : State) (h : Nat) (ho : s.chiselOwn = none) : chiselValidateSpec.own s h = none := by
  simp only [chiselValidateSpec, ho]
theorem wit_CurrentComplete_chisel : (tBulkIn 0x120 1 (chiselBytes tRef) 0).accepts chiselLoadSpec 0 = true ∧
    (tBulkIn 0x120 1 (chiselBytes tRef) 1).accepts chiselValidateSpec 0 = true :=
  ⟨accepts_of _ _ _ (by decide +kernel) (chisel_load_own _ _ (by decide +kernel) (tChisel_own 0 (by decide +kernel))), accepts_of _ _ _ (by decide +kernel) (chisel_validate_own _ _ (tChisel_own 1 (by decide +kernel)))⟩

/-- The bytes of the chain table file, by offset. -/
def tChainByte (k : Nat) : Nat := if k < 32 then getB tChainFile k else if k = 50 then 1 else if k = 188 then 5 else 0

theorem tChain_byte (k : Nat) : getB tChainFile k = tChainByte k := by
  have e : tChainFile = tChainFile.take 32 ++ (List.range 640).map (fun i => if i = 18 then (1 : Byte) else if i = 156 then 5 else 0) := by
    decide +kernel
  have l : (tChainFile.take 32).length = 32 := by decide +kernel
  unfold tChainByte
  by_cases h : k < 32
  · rw [if_pos h]
  · rw [if_neg h, e, getB_app_right _ _ _ (by omega), l]
    unfold getB
    by_cases h2 : k - 32 < 640
    · rw [List.getD_eq_getElem _ _ (by simpa using h2), List.getElem_map, List.getElem_range]
      by_cases h50 : k = 50
      · subst h50; rfl
      · by_cases h188 : k = 188
        · subst h188; rfl
        · rw [if_neg (by omega), if_neg (by omega), if_neg h50, if_neg h188]; rfl
    · rw [List.getD_eq_default _ _ (by simpa using h2), if_neg (by omega), if_neg (by omega)]; rfl

theorem tChain_checks : (chainChecks tChainFile).find? (fun c => !c.2) = none := by
  simp only [chainChecks, get16, get32, tChain_byte]
  decide +kernel
theorem tChain_head : (get32 tChainFile 0 != 0x4E48434B) = false ∧ (get16 tChainFile 4 != 1) = false ∧
    (get32 tChainFile 12 != crc32 (tChainFile.take 12 ++ tChainFile.drop 16)) = false ∧ tChainFile.length = chainSize := by decide +kernel
theorem tChain_file : chainFindings tChainFile = [] := by
  simp only [chainFindings, tChain_head.1, tChain_head.2.1, tChain_head.2.2.1, tChain_checks]
  rfl
theorem chain_own (s : State) (f : List Byte) (h : s.intake.bulk = cellWrite [] 0 f) (hz : f.length = chainSize) (hf : chainFindings f = []) :
    s.chainOwn = none := by
  unfold State.chainOwn
  rw [bulk_back s _ _ hz h, hf]
  simp only [State.findingReply]
theorem chain_load_own (s : State) (h : Nat) (ha : s.findingReply s.planBusy = none) (ho : s.chainOwn = none) : planChainLoadSpec.own s h = none := by
  simp only [planChainLoadSpec, ha, ho]
theorem chain_validate_own (s : State) (h : Nat) (ho : s.chainOwn = none) : planChainValidateSpec.own s h = none := by
  simp only [planChainValidateSpec, ho]
theorem tChain_own (op : Byte) (hn : isStopOp (((tBulkIn 0x503 0 tChainFile op).taken 0).opcode 0) = false) :
    (((tBulkIn 0x503 0 tChainFile op).taken 0).stopTaken 0).chainOwn = none :=
  chain_own _ tChainFile ((taken_bulk _ _ hn).trans (tBulkIn_bulk _ _ _ _)) tChain_head.2.2.2 tChain_file

theorem wit_MapComplete_chain : (tBulkIn 0x503 0 tChainFile 0).accepts planChainLoadSpec 0 = true ∧
    (tBulkIn 0x503 0 tChainFile 1).accepts planChainValidateSpec 0 = true :=
  ⟨accepts_of _ _ _ (by decide +kernel) (chain_load_own _ _ (by decide +kernel) (tChain_own 0 (by decide +kernel))),
   accepts_of _ _ _ (by decide +kernel) (chain_validate_own _ _ (tChain_own 1 (by decide +kernel)))⟩

/-! ### Witnesses with a hypothesis on the device's UID, which is open: one of two frames has another UID -/

/-- A CLAIM of index 5 of rank 1 with UID `v`. -/
def tClaim (v : Nat) : AmFrame := mkFrame { tHd with kind := 1 } (leBytes 8 v ++ [1, 5, 0, 0])

theorem tClaim_other (q : AmFrame → Prop) (h0 : q (tClaim 0)) (h1 : q (tClaim 1)) :
    ∃ g, q g ∧ getN (bodyOf g) 0 8 ≠ Config.uid.toNat := by
  have e0 : getN (bodyOf (tClaim 0)) 0 8 = 0 := by decide +kernel
  have e1 : getN (bodyOf (tClaim 1)) 0 8 = 1 := by decide +kernel
  by_cases h : Config.uid.toNat = 0
  · exact ⟨tClaim 1, h1, by rw [e1, h]; decide⟩
  · exact ⟨tClaim 0, h0, by rw [e0]; exact fun e => h e.symm⟩

theorem wit_ClaimComplete_held : ∃ (p : Fin 2) (f : AmFrame) (s : State), s.hears p f 1 = true ∧ s.pairHere p = false ∧
    (s.ports.get p).claim = .held ∧ getB (bodyOf f) 9 = (s.ports.get p).index ∧ getB (bodyOf f) 8 ≠ 2 ∧
    getN (bodyOf f) 0 8 ≠ Config.uid.toNat := by
  obtain ⟨g, ⟨a, b, c, d, e⟩, u⟩ := tClaim_other (fun f => tNet.hears 0 f 1 = true ∧ tNet.pairHere 0 = false ∧
    (tNet.ports.get 0).claim = .held ∧ getB (bodyOf f) 9 = (tNet.ports.get 0).index ∧ getB (bodyOf f) 8 ≠ 2)
    (by decide +kernel) (by decide +kernel)
  exact ⟨0, g, tNet, a, b, c, d, e, u⟩

/-- Port 0 claims index 5 with rank 0. -/
def tClaiming : State := tNet.updPort 0 (fun x => { x with claim := .claiming, rank := 0 })

theorem wit_ClaimComplete_claiming : ∃ (p : Fin 2) (f : AmFrame) (s : State), s.hears p f 1 = true ∧ s.pairHere p = false ∧
    (s.ports.get p).claim = .claiming ∧ getB (bodyOf f) 9 = (s.ports.get p).want ∧ (s.ports.get p).want < 64 ∧
    (s.ports.get p).rank < getB (bodyOf f) 8 ∧ getN (bodyOf f) 0 8 ≠ Config.uid.toNat := by
  obtain ⟨g, ⟨a, b, c, d, e, i⟩, u⟩ := tClaim_other (fun f => tClaiming.hears 0 f 1 = true ∧ tClaiming.pairHere 0 = false ∧
    (tClaiming.ports.get 0).claim = .claiming ∧ getB (bodyOf f) 9 = (tClaiming.ports.get 0).want ∧ (tClaiming.ports.get 0).want < 64 ∧
    (tClaiming.ports.get 0).rank < getB (bodyOf f) 8) (by decide +kernel) (by decide +kernel)
  exact ⟨0, g, tClaiming, a, b, c, d, e, i, u⟩

/-- A grant of segment 1023 for port 2 of this device. -/
def tGrant : AmFrame := mkFrame { tHd with kind := 2, resp := true } (leBytes 8 Config.uid.toNat ++ [2] ++ le16 1023)

theorem tGrant_uid : getN (bodyOf tGrant) 0 8 = Config.uid.toNat := by
  have e : ((bodyOf tGrant).drop 0).take 8 = leBytes 8 Config.uid.toNat := rfl
  rw [getN, e, leNat_leBytes]
  exact Nat.mod_eq_of_lt Config.uid.isLt

theorem wit_SegmentComplete_grant : ∃ (p d : Fin 2) (f : AmFrame) (s : State), s.hears p f 2 = true ∧ (headOf f).resp = true ∧
    s.isRouter = true ∧ (headOf f).dmode = 0 ∧ (headOf f).dst = s.portAddr p ∧ getN (bodyOf f) 0 8 = Config.uid.toNat ∧
    d = (if getB (bodyOf f) 8 = 2 then 1 else 0) ∧ d ≠ p ∧ get16 (bodyOf f) 9 < 1024 ∧ s.par (netId d 2) = 0xFFFF :=
  ⟨0, 1, tGrant, tRouter, by decide +kernel, by decide +kernel, by decide +kernel, by decide +kernel, by decide +kernel, tGrant_uid,
    by decide +kernel, by decide +kernel, by decide +kernel, by decide +kernel⟩

/-! ### Witnesses of statements over every command or every step -/

/-- An update operation started while the flash test runs. -/
def tFlash (s : State) : State := { s with svc := { s.svc with bistTodo := [0] } }

theorem wit_FirmwareComplete_flash : (tCmd 0x901 0 0 ([0] ++ List.replicate 3 0 ++ le32 256) (tFlash (tBank .empty 0 tBase))).accepts (fwSpec 0 true) 0 = true ∧
    ((tCmd 0x901 0 0 ([0] ++ List.replicate 3 0 ++ le32 256) (tFlash (tBank .empty 0 tBase))).begun (fwSpec 0 true) 0).svc.bistTodo.head? = some 0 := by
  decide +kernel

theorem wit_HostRegisterComplete : (∃ s : State, s.link.wdFired = false) ∧ (∃ s : State, s.link.wdFired = true) ∧
    (∃ s : State, s.link.wdArmed = true ∧ s.par 0x0062 ≠ 0 ∧ s.link.wdFired = false) :=
  ⟨⟨tBase, rfl⟩, ⟨{ tBase with link := { tBase.link with wdFired := true } }, rfl⟩,
    ⟨tPar [(0x62, 50)] { tBase with link := { tBase.link with wdArmed := true } }, by decide +kernel⟩⟩

theorem wit_DoorbellHandsOver : ∃ (v : BitVec 16) (s : State), s.intake.hops.length = 32 ∧ v.getLsbD 15 = true ∧ s.host.hown.getLsbD 15 = false ∧
    v.getLsbD 0 = true ∧ s.host.hown.getLsbD 0 = true ∧ s.intake.rejSeen = false :=
  ⟨0x8001, { tBase with host := { tBase.host with hown := 1 } }, by decide +kernel⟩

theorem wit_FrameIndexKept : ∃ s t : State, s.indexOk = true ∧ step s = .next t :=
  ⟨{ tBase with pending := [.crystalLoss] }, _, by decide +kernel, rfl⟩

theorem wit_SwitchesStayApart : ∃ s t : State, s.apart = true ∧ step s = .next t :=
  ⟨{ tBase with pending := [.gateEdge 3 3 true true 0 24000 12000] }, _, by decide +kernel, rfl⟩

theorem wit_BuffersStayCanonical : ∃ s t : State, cellWf s.intake.slots = true ∧ cellWf s.intake.bulk = true ∧ cellWf s.plan.stage = true ∧
    step s = .next t :=
  ⟨{ tCmd 0x10A 0 1 [7] tBase with pending := [.writeApplied] }, _, by decide +kernel, by decide +kernel, by decide +kernel, rfl⟩

theorem wit_CommandFrames : ∃ (c : Instr) (s t : State), exec c s = .next t := ⟨.lockstepMismatch, tBase, _, rfl⟩

theorem wit_AxesApart : ∃ (n : Fin 4) (s t : State), exec (.standstillReached n) s = .next t := ⟨3, tBase, _, rfl⟩

theorem wit_FaultTableComplete : ∃ s : State, s.faults.active ≠ [] := ⟨tBase.raise 0x0901 0 0 true, by decide +kernel⟩

/-- AXIS_STATUS for no axis, and MOVE_TO for an axis without the mode permission, in hopper 0. -/
theorem wit_RefusedCommand_first : ∃ (c : CmdSpec) (h code detail : Nat) (res : List Byte) (s : State), s.nextStart = some h ∧ s.rungCmd h = true ∧
    s.opcode h = c.op ∧ (∀ o, c.sub = some o → s.p8 h 0 = o) ∧ ((s.beginTake h).hop h).doomed = none ∧
    firstChecks c (s.beginTake h) h = some (code, detail, res) ∧ cellWf s.intake.slots = true :=
  ⟨axisStatusSpec, 0, 9, 0, [], tCmd 0x10A 0 0 [] tBase, by decide +kernel, by decide +kernel, by decide +kernel, fun _ e => (by cases e),
    by decide +kernel, by decide +kernel, by decide +kernel⟩

theorem wit_RefusedCommand_late : ∃ (c : CmdSpec) (h code detail : Nat) (res : List Byte) (s : State), s.nextStart = some h ∧ s.rungCmd h = true ∧
    s.opcode h = c.op ∧ (∀ o, c.sub = some o → s.p8 h 0 = o) ∧ ((s.beginTake h).hop h).doomed = none ∧
    firstChecks c (s.beginTake h) h = none ∧ lateChecks c (s.taken h) h = some (code, detail, res) ∧ cellWf s.intake.slots = true :=
  ⟨homeFaceSpec, 0, 15, 1, [], tCmd 0x140 0 1 (List.replicate 4 0 ++ le32 1 ++ le32 0 ++ le16 1000 ++ le16 256 ++ le32 0 ++ le32 1024) (tPar [(axId 0 0x40, 0)] tBase),
    by decide +kernel, by decide +kernel, by decide +kernel, fun _ e => (by cases e), by decide +kernel, by decide +kernel, by decide +kernel,
    by decide +kernel⟩

/-! ### Worked values of the manual -/

/-- The check values of R192 and R124, over the nine bytes of 123456789. -/
theorem test_crc32 : crc32 [0x31, 0x32, 0x33, 0x34, 0x35, 0x36, 0x37, 0x38, 0x39] = 0xCBF43926 := by decide +kernel
theorem test_crc16 : crc16 [0x31, 0x32, 0x33, 0x34, 0x35, 0x36, 0x37, 0x38, 0x39] = 0x29B1 := by decide +kernel

/-- A doorbell frame: command 0x34, address 0x0020, data 1; its CRC by R124 (polynomial, initial value, check value 0x29B1) is 0x1785
(the worked case of 04 prints 0x1210, which R124 does not give: NOTES.md). -/
def tBellFrame : SckFrame := tSck [0x34, 0x00, 0x20, 1, 0, 0, 0, 0x17, 0x85]
theorem test_doorbell_frame : abortCause tBase (tBase.hostFrame tBellFrame) false = 0 := by decide +kernel
theorem test_doorbell_crc_bad : abortCause tBase (tBase.hostFrame (tSck [0x34, 0x00, 0x20, 1, 0, 0, 0, 0x17, 0x84])) false = 5 := by decide +kernel

/-- Table HOST-2, a 1-4-4 write of 0x05 at 0x0800: the command on IO0, then nibbles, the high one first, on IO3 to IO0. -/
theorem test_quad_phases :
    let w : SckFrame := { tSck [0x94] with cycles := (tSck [0x94]).cycles ++ [0, 8, 0, 0, 0, 5] }
    ((tBase.hostFrame w).cmd, (tBase.hostFrame w).addr, (tBase.hostFrame w).data, (tBase.hostFrame w).ragged) =
      (some 0x94, [0x08, 0x00], [5], false) := by decide +kernel

/-- R243: T(0) = 0, T(100) = 2358, T(156) = 3348 and T(255) = 4095. -/
theorem test_builtin_table : (builtinTable.getD 0 1, builtinTable.getD 100 0, builtinTable.getD 156 0, builtinTable.getD 255 0) = (0, 2358, 3348, 4095) := by
  decide +kernel

/-- Table CUR-1, last column. -/
theorem test_imax_limits : (imaxLimit 100 3, imaxLimit 100 2, imaxLimit 50 1, imaxLimit 500 0) = (3710, 7421, 29685, 5937) := by decide +kernel

/-- R461 and R462: fields of a frame come back from its identifier and header. -/
theorem test_frame_fields : headOf (mkFrame { tHd with kind := 4, disc := 127, txidx := 63, hops := 15, fseq := 15 } [1, 2]) =
    { tHd with kind := 4, disc := 127, txidx := 63, hops := 15, fseq := 15 } := by decide +kernel

/-- Reset: nothing waits, and a step idles. -/
theorem test_reset_idles : step State.reset = .next State.reset := rfl

/-! ### Operands that WellFormed refuses, one for each check -/

theorem test_ill_straps : (Instr.resetRelease false false true).wellFormed = false := by decide
theorem test_ill_step_tick : (Instr.stepPulse 0 10011 40 true false).wellFormed = false := by decide
theorem test_ill_microstep_tick : (Instr.microstep 0 10011).wellFormed = false := by decide
theorem test_ill_edge_tick : (Instr.feedbackEdge 0 ⟨none, none, none, none⟩ 10011).wellFormed = false := by decide
theorem test_ill_speed_tick : (Instr.speedTimeout 0 10011).wellFormed = false := by decide
theorem test_ill_sync_tick : (Instr.syncEdge 10011 true).wellFormed = false ∧ (Instr.syncReferenceLoss 10011).wellFormed = false := by decide
theorem test_ill_brake_tick : (Instr.brakeChopperSwitch 0 10011).wellFormed = false ∧ (Instr.brakeDumpIneffective 0 10011).wellFormed = false ∧
    (Instr.brakeChopperLimit 10011).wellFormed = false := by decide
theorem test_ill_gate_tick : (Instr.gateEdge 0 0 true true 10011 0 0).wellFormed = false := by decide
theorem test_ill_frame_tick : (Instr.canFrameTransmitted 0 0 10011 0).wellFormed = false := by decide
theorem test_ill_trip_code : (Instr.chopperTrip 0 0 4096 0).wellFormed = false := by decide
theorem test_ill_pwm_code : (Instr.pwmPeriod 0 0 4096).wellFormed = false := by decide
theorem test_ill_sample_code : (Instr.forcedSample 0 0 4096 0).wellFormed = false := by decide
theorem test_ill_age_item : (Instr.diagAgeLimit 0x73).wellFormed = false := by decide
theorem test_ill_insert_item : (Instr.diagInsertion 0x73 0).wellFormed = false := by decide
theorem test_ill_reads : (Instr.sensorPortRead [[], [], [], [], []]).wellFormed = false := by decide
theorem test_ill_host_late : (Instr.hostReadFrame { tSck [0x15, 0x08] with late := [8] }).wellFormed = false := by decide
theorem test_ill_fabric_frame : (Instr.fabricCmd 0 { ident := 0, data := List.replicate 65 0 }).wellFormed = false := by decide
theorem test_ill_beacon : (Instr.beaconReceived 0 { ident := 0, data := List.replicate 65 0 } 0).wellFormed = false := by decide
theorem test_ill_segment : (Instr.routeExpiry 1024).wellFormed = false := by decide
theorem test_ill_assembly : (Instr.reassemblyTimeout 0 65536 0).wellFormed = false ∧ (Instr.reassemblyTimeout 0 0 256).wellFormed = false := by decide
theorem test_ill_deadline : (Instr.heartbeatDeadline 0 65536).wellFormed = false := by decide
theorem test_ill_classic_frame : (Instr.fabricCmd 0 { ident := 0, data := List.replicate 9 0, fd := false }).wellFormed = false := by decide
theorem test_ill_iso_frame : (Instr.isoRequest { ident := 0, data := List.replicate 9 0 }).wellFormed = false := by decide
theorem test_ill_commanded : (Instr.commandedAddress 256 []).wellFormed = false := by decide
theorem test_ill_iso_command : (Instr.isoCommand 256 []).wellFormed = false := by decide
theorem test_ill_peer : (Instr.isoTransportTimeout 256 true true).wellFormed = false := by decide
theorem test_ill_iso_length : isoBytesOk 0 (List.replicate 1786 0) = false := by decide +kernel

end Sys2Proof.Tests
end

section
/-! The parts of the state that each command of the table leaves alone. -/

namespace Sys2Proof.Machine

theorem not_mem_of_contains {l : List Group} {g : Group} (h : l.contains g = false) : g ∉ l := by
  simpa using h

theorem mem_of_contains {l : List Group} {g : Group} (h : l.contains g = true) : g ∈ l := List.contains_iff_mem.mp h

/-- Each arm of `exec` has its law, `exec…_blank`, of the parts that its meaning can change; `writes` lists those parts. -/
theorem exec_ran (c : Sys2Proof.Instr) (s : State) : ran (writes c) (exec c s) = some (s.blank (writes c)) := by
  cases c <;> dsimp only [exec] <;> simp (disch := exact mem_of_contains rfl)

theorem exec_only {c : Sys2Proof.Instr} {s t : State} (h : exec c s = .next t) : s.only (writes c) t := by
  have e := exec_ran c s
  rw [h, ran_next] at e
  exact Option.some.inj e

/-- Settles O56: the law of each command's meaning, put together over the commands. -/
theorem commandFrames : Obligations.CommandFrames := fun _ _ _ h => exec_only h

end Sys2Proof.Machine
end

section
/-! The frame index stays in range: the operations that write the frame or retention keep the invariant, and the others touch neither. -/

namespace Sys2Proof.Machine

/-- Every part of the state but the two that hold a frame index. -/
def offIndex : List Group := (allBut .frame).filter (fun g => g != .ret)

@[simp] theorem mem_offIndex (g : Group) : g ∈ offIndex ↔ g ≠ .frame ∧ g ≠ .ret := by
  simp [offIndex, mem_allBut]

/-- The invariant of O47 as a proposition: the index, the one a realignment is to set and the retained one are 0 to 19 (R27, R28). -/
structure Indexed (s : State) : Prop where
  index : s.frame.index < 20
  realign : ∀ r, s.frame.realign = some r → r.2 < 20
  retained : s.ret.frIndex < 20

theorem indexOk_iff (s : State) : s.indexOk = true ↔ Indexed s := by
  unfold State.indexOk
  simp only [Bool.and_eq_true, decide_eq_true_eq]
  constructor
  · rintro ⟨⟨hi, hr⟩, hk⟩
    refine ⟨hi, fun r e => ?_, hk⟩
    simpa [e] using hr
  · rintro ⟨hi, hr, hk⟩
    refine ⟨⟨hi, ?_⟩, hk⟩
    split
    · next r e => simpa using hr r e
    · rfl

namespace Indexed

variable {s t : State}

/-- What changes neither part keeps the invariant. -/
theorem of_blank (h : Indexed s) (e : t.blank offIndex = s.blank offIndex) : Indexed t := by
  have hf : t.frame = s.frame := only_frame e (by simp)
  have hr : t.ret = s.ret := only_ret e (by simp)
  exact ⟨hf ▸ h.index, hf ▸ h.realign, hr ▸ h.retained⟩

theorem ite {c : Prop} [Decidable c] (hs : c → Indexed s) (ht : ¬ c → Indexed t) : Indexed (if c then s else t) := by
  split
  · exact hs ‹_›
  · exact ht ‹_›

theorem foldl {α : Type} {f : State → α → State} (hf : ∀ t a, Indexed t → Indexed (f t a)) (l : List α) :
    ∀ {s}, Indexed s → Indexed (l.foldl f s) := by
  induction l with
  | nil => exact fun h => h
  | cons a l ih => exact fun h => ih (hf _ a h)

theorem forAxes {f : Fin 4 → State → State} (hf : ∀ n t, Indexed t → Indexed (f n t)) (h : Indexed s) :
    Indexed (Machine.forAxes s f) := hf 3 _ (hf 2 _ (hf 1 _ (hf 0 _ h)))

theorem forPorts {f : Fin 2 → State → State} (hf : ∀ n t, Indexed t → Indexed (f n t)) (h : Indexed s) :
    Indexed (Machine.forPorts s f) := hf 1 _ (hf 0 _ h)

/-! ### The operations of the frame and of retention -/

theorem realignTo (h : Indexed s) (fsf : Nat) (off : Int) : Indexed (s.realignTo fsf off) where
  index := h.index
  realign := by
    rintro r ⟨⟩
    dsimp only
    omega
  retained := h.retained

/-- The index after a boundary is 0 to 19 (R27). -/
theorem after_index {f : FrameSt} (h : f.index < 20) : f.after.2 < 20 := by
  unfold FrameSt.after
  split
  · exact Nat.mod_lt _ (by decide)
  · split
    · exact Nat.zero_lt_succ 19
    · dsimp only
      omega

theorem tick (h : Indexed s) (commit : Bool) (trim : Int) : Indexed (s.tick commit trim) where
  index := after_index h.index
  realign := by rintro r ⟨⟩
  retained := h.retained

theorem sysClear (h : Indexed s) (cause : Nat) : Indexed (s.sysClear cause) where
  index := Nat.zero_lt_succ 19
  realign := by rintro r ⟨⟩
  retained := h.retained

theorem framesGone (h : Indexed s) (gone : Nat) (run : Bool) : Indexed (s.framesGone gone run) where
  index := Nat.mod_lt _ (by decide)
  realign := by rintro r ⟨⟩
  retained := h.retained

theorem retSave (h : Indexed s) : Indexed s.retSave := ⟨h.index, h.realign, h.index⟩

theorem alignTo (h : Indexed s) (r : List Byte) (off : Nat) : Indexed (s.alignTo r off) := by
  unfold State.alignTo
  dsimp only
  split
  · exact h.of_blank (by simp)
  · refine ⟨h.index, ?_, h.retained⟩
    rintro r ⟨⟩
    exact Nat.mod_lt _ (by decide)

theorem clearSeen (h : Indexed s) : Indexed s.clearSeen := by
  unfold State.clearSeen
  extract_lets s1 s2
  have h1 : Indexed s1 := forAxes (fun n t ht => ht.of_blank (by simp)) h
  have h2 : Indexed s2 := h1.of_blank (by simp [s2])
  exact ⟨h2.index, h2.realign, h2.retained⟩

theorem wedgeSuper (h : Indexed s) : Indexed s.wedgeSuper := by
  refine forAxes (fun n t ht => ?_) h
  dsimp only
  split
  · exact ⟨ht.index, ht.realign, ht.retained⟩
  · exact ht

theorem keepIndex (h : Indexed s) (n : Fin 4) : Indexed (s.keepIndex n) := by
  unfold State.keepIndex
  dsimp only
  split
  · exact h
  · split <;> exact ⟨h.index, h.realign, h.retained⟩

theorem endPlan (h : Indexed s) : Indexed s.endPlan := ⟨h.index, h.realign, h.retained⟩

theorem planSave (h : Indexed s) : Indexed s.planSave := ⟨h.index, h.realign, h.retained⟩

theorem addRecord (h : Indexed s) (code qual : Nat) : Indexed (s.addRecord code qual) := ⟨h.index, h.realign, h.retained⟩

theorem toHeld (h : Indexed s) (p : Fin 2) : Indexed (s.toHeld p) := by
  unfold State.toHeld
  extract_lets s1 q r s2
  have h2 : Indexed s2 := ⟨h.index, h.realign, h.retained⟩
  exact h2.of_blank (by simp)

theorem afterWake (h : Indexed s) (p : Fin 2) (k : Nat) (at_ : BitVec 32) : Indexed (s.afterWake p k at_) := by
  unfold State.afterWake
  split
  · exact h
  · extract_lets s1 gap f s2 awake r f2 s3
    have h1 : Indexed s1 := h.of_blank (by simp [s1])
    have h2 : Indexed s2 := h1.of_blank (by simp only [s2]; (repeat' split) <;> simp)
    have h3 : Indexed s3 := ⟨h2.index, h2.realign, h2.retained⟩
    split
    · exact h1
    · exact h3.of_blank (by simp)

theorem claimSeen (h : Indexed s) (p : Fin 2) (uid rank i : Nat) : Indexed (s.claimSeen p uid rank i) := by
  unfold State.claimSeen
  extract_lets q mine u t1 t2 v
  have hv : Indexed v := h.of_blank (by simp [v])
  refine ite (fun _ => h.of_blank ?_) fun _ => ite (fun _ => h) fun _ => ite (fun _ => ?_) fun _ => h.of_blank ?_
  · (repeat' split) <;> simp [u]
  · exact ite (fun _ => ite (fun _ => hv.toHeld p) fun _ => hv) fun _ => hv.of_blank (by simp)
  · (repeat' split) <;> simp

theorem takeBeacon (h : Indexed s) (p : Fin 2) (f : AmFrame) (off : Int) : Indexed (s.takeBeacon p f off) := by
  unfold State.takeBeacon
  extract_lets b i segd k flags prev o loc s1 s2 f1 s3 s4 s5 sync s6 s7 s8
  have h1 : Indexed s1 := h.afterWake p k loc
  have h3 : Indexed s3 := h1.of_blank (by simp [s3, s2])
  have h4 : Indexed s4 := h3.of_blank (by simp only [s4]; generalize o = x; cases x <;> simp)
  have h5 : Indexed s5 := h4.of_blank (by simp [s5])
  have h6 : Indexed s6 := h5.of_blank (by simp [s6])
  have h7 : Indexed s7 := by
    simp only [s7]
    split
    · exact (h6.realignTo (get32 b 0) off).of_blank (by simp)
    · exact h6
  have h8 : Indexed s8 := h7.of_blank (by simp [s8])
  split
  · exact h8.endPlan
  · exact h8

theorem portDisable (h : Indexed s) (p : Fin 2) : Indexed (s.portDisable p) := by
  unfold State.portDisable
  extract_lets l s1 s2 asms near routes f s3 f2 s4
  have h3 : Indexed s3 := h.of_blank (by simp [s3, s2, s1])
  have h4 : Indexed s4 := by
    simp only [s4]
    split
    · exact h3
    · exact endPlan (h3.of_blank (by simp))
  exact h4.of_blank (by simp)

theorem axFail (h : Indexed s) (n : Fin 4) (code : Nat) : Indexed (s.axFail n code) := by
  unfold State.axFail
  split
  · exact h
  · extract_lets s1 s2 s3 s4 s5 ons s6 s7 s8 s9 s10
    have h2 : Indexed s2 := h.of_blank (by simp [s2, s1])
    have h3 : Indexed s3 := h2.keepIndex n
    have h6 : Indexed s6 := h3.of_blank (by simp only [s6]; split <;> simp [s5, s4])
    have h10 : Indexed s10 := h6.of_blank (by simp [s10, s9, s8, s7])
    split
    · exact h10
    · exact h10.of_blank (by simp)

theorem axSupplyFail (h : Indexed s) (n : Fin 4) (code : Nat) : Indexed (s.axSupplyFail n code) := by
  unfold State.axSupplyFail
  split
  · exact h.of_blank (by simp)
  · exact h.axFail n code

theorem raiseFail (h : Indexed s) (n : Fin 4) (code qual : Nat) : Indexed (s.raiseFail n code qual) :=
  axFail (h.of_blank (by simp)) n code

/-! ### Axes and their checkpoints -/

theorem axCheckpoint (h : Indexed s) (n : Fin 4) (vals : List Int) : Indexed (s.axCheckpoint n vals) := by
  unfold State.axCheckpoint
  split
  · exact h.of_blank (by simp)
  · split
    · exact h
    · split
      · next code q rest _ =>
        have hr : Indexed (rest.foldl (fun (t : State) x => t.raise x.1 (x.2.getD 0) (axBits n) false) s) := h.of_blank (by simp)
        split
        · exact hr.raiseFail n code _
        · exact raiseFail (hr.of_blank (by simp)) n code _
      · refine h.of_blank ?_
        (repeat' split) <;> simp
  · exact h.of_blank (by simp)
  · exact h.of_blank (by simp)
  · dsimp only
    split
    · exact h
    · have hk := keepIndex (h.of_blank (t := (s.setSeq n (fun a => { a with latched := none })).setSeq n
        (fun a => { a with lastCp := 0, supply := false })) (by simp)) n
      exact ite (fun _ => hk.of_blank (by simp)) fun _ => hk.of_blank (by simp)
  · exact h

/-! ### The start of SYS -/

theorem bootSelect (h : Indexed s) (okA okB : Bool) : Indexed (s.bootSelect okA okB) := by
  unfold State.bootSelect
  extract_lets ok b v r u pend sel run w
  have hu : Indexed u := h.of_blank (by simp only [u]; split <;> simp [r, v])
  have hw : Indexed w := hu.of_blank (by simp [w])
  refine ite (fun _ => hu.of_blank (by simp [run])) fun _ => ite (fun _ => ite (fun _ => hw.of_blank (by simp [run])) fun _ => ?_) fun _ => ?_
  · have hf : Indexed (w.bankFails (!sel)) := hw.of_blank (by simp)
    exact (hf.addRecord 0x0904 0).of_blank (by simp)
  · exact (hw.addRecord 0x0904 0).of_blank (by simp)

theorem startFaults (h : Indexed s) : Indexed s.startFaults := by
  unfold State.startFaults
  extract_lets l r s1 s2
  have h1 : Indexed s1 := ⟨h.index, h.realign, h.retained⟩
  have h2 : Indexed s2 := h1.of_blank (by simp [s2])
  refine h2.of_blank ?_
  refine foldl_blank _ (fun t n => foldl_blank _ (fun t b => ?_) _ _) _ _
  dsimp only
  (repeat' split) <;> simp

theorem firmwareStart (h : Indexed s) (okA okB : Bool) : Indexed (s.firmwareStart okA okB) := by
  unfold State.firmwareStart
  have hb := h.bootSelect okA okB
  dsimp only
  refine ite (fun _ => hb) fun _ => ?_
  exact hb.startFaults.of_blank (by simp)

theorem startFromOff (h : Indexed s) (cause : Nat) : Indexed (s.startFromOff cause) := by
  unfold State.startFromOff
  exact (h.sysClear cause).of_blank (by simp)

theorem bootTestFails (h : Indexed s) (bit code : Nat) : Indexed (s.bootTestFails bit code) := by
  unfold State.bootTestFails
  extract_lets again s1 m v s2 s3
  have h1 : Indexed s1 := h.addRecord code 0
  have h2 : Indexed s2 := h1.of_blank (by simp [s2])
  exact ite (fun _ => h1.of_blank (by simp)) fun _ => (h2.sysClear 4).of_blank (by simp [s3])

/-- The frame that SYS begins with when it is Ready: the retained index, moved on by the frames that passed, or frame 0 (R28, R87). -/
theorem sysReady (h : Indexed s) (gone : Nat) : Indexed (s.sysReady gone) := by
  unfold State.sysReady
  extract_lets woke f base f2 fault strapped p q r hs s1 v s2 s3 s4 s5
  have hf2 : f2.index < 20 ∧ f2.realign = none := by
    simp only [f2]
    split
    · exact ⟨Nat.mod_lt _ (by decide), rfl⟩
    · exact ⟨Nat.zero_lt_succ 19, rfl⟩
  have h1 : Indexed s1 := ⟨hf2.1, by simp [s1, hf2.2], h.retained⟩
  have h2 : Indexed s2 := h1.of_blank (by simp only [s2]; split <;> simp)
  have h4 : Indexed s4 := h2.of_blank (by simp [s4, s3])
  have h5 : Indexed s5 := by
    simp only [s5]
    exact ite (fun _ => (forAxes (fun n t ht => ht.axSupplyFail n 0x1306) h4).of_blank (by simp)) fun _ => h4
  exact h5.of_blank (by simp)

/-! ### Units and domains -/

theorem unitStop (h : Indexed s) (b : Nat) : Indexed (s.unitStop b) := by
  unfold State.unitStop
  extract_lets off u
  have hu : Indexed u := h.of_blank (by simp [u, off])
  refine ite (fun _ => h.of_blank (by simp [off])) fun _ => ite (fun _ => hu.of_blank (by simp)) fun _ =>
    ite (fun _ => hu.of_blank (by simp)) fun _ => ite (fun _ => hu.portDisable _) fun _ => hu.of_blank (by split <;> simp)

theorem unitsService (h : Indexed s) : Indexed s.unitsService := by
  have hd : Indexed s.unitsDown := by
    unfold State.unitsDown
    extract_lets u
    have hu : Indexed u := foldl (fun t b ht => ht.unitStop b) _ h
    exact hu.of_blank (by simp)
  exact hd.of_blank (by simp [State.unitsService])

theorem domDrop (h : Indexed s) (d : Domain) (code : Nat) : Indexed (s.domDrop d code) := by
  unfold State.domDrop
  extract_lets one
  have ho {t : State} (ht : Indexed t) (d : Domain) : Indexed (one t d) := ht.of_blank (by simp [one])
  split
  · exact forAxes (fun n t ht => ht.axFail n code) (ho (ho h .aux) .ana)
  · exact forAxes (fun n t ht => ht.axFail n code) (ho h .aux)
  · exact ho h _

/-! ### Entry to STANDBY and SLEEP, and the wake (R84, R87, R95) -/

theorem changeEnd (h : Indexed s) : Indexed s.changeEnd := by
  unfold State.changeEnd
  split
  · have hr : Indexed s.retSave.timerFreeze := h.retSave.of_blank (by simp)
    exact ite (fun _ => ⟨hr.index, hr.realign, hr.retained⟩) fun _ => h
  · have hp : Indexed s.retSave.planSave.timerFreeze := h.retSave.planSave.of_blank (by simp)
    exact ite (fun _ => (hp.sysClear s.host.rstCause).of_blank (by simp)) fun _ => h
  · exact h

theorem changeStep (h : Indexed s) : Indexed s.changeStep := by
  unfold State.changeStep
  split
  · refine ite (fun _ => h) fun _ => ?_
    split
    · exact changeEnd (h.of_blank (by simp))
    · split
      · exact h.of_blank (by simp)
      · exact h.of_blank (by simp)
      · exact h
  · exact h

theorem wakeBack (h : Indexed s) (src : Nat) : Indexed (s.wakeBack src) := by
  unfold State.wakeBack
  extract_lets p s1 s2 s3
  have h2 : Indexed s2 := h.of_blank (by simp [s2, s1])
  split
  · exact (h2.retSave.planSave.sysClear 6).of_blank (by simp [s3])
  · exact ite (fun _ => h2.of_blank (by simp)) fun _ => h2

/-! ### The boundary and the domains -/

theorem superframe (h : Indexed s) : Indexed s.superframe := by
  have hi : Indexed s.clearSeen.fabSuper.twinSuper.itemsSuper := h.clearSeen.of_blank (by simp)
  exact hi.wedgeSuper.of_blank (by simp [State.superframe])

theorem cpWork (h : Indexed s) (d : Domain) (k : Nat) (vals : List Int) : Indexed (s.cpWork d k vals) := by
  unfold State.cpWork
  dsimp only
  split
  · exact h.of_blank (by simp)
  · have hr : Indexed (if vals.getD 0 0 == 1 then { s with ret := { s.ret with valid := true } } else
        { s with ret := {}, gate := Quad.all {} }) :=
      ite (fun _ => ⟨h.index, h.realign, h.retained⟩) fun _ => ⟨h.index, h.realign, Nat.zero_lt_succ 19⟩
    exact ite (fun _ => hr.addRecord 1 0) fun _ => hr
  · exact h.of_blank (by simp)
  · exact ite (fun _ => h) fun _ => h.bootTestFails 1 0x0911
  · exact ite (fun _ => h.firmwareStart _ _) fun _ => h.bootTestFails 0 0x0910
  all_goals exact h.of_blank (by simp)

theorem domUp (h : Indexed s) (d : Domain) (vals : List Int) : Indexed (s.domUp d vals) := by
  unfold State.domUp
  split
  · exact h.of_blank (by simp)
  · exact h.sysReady _
  all_goals exact h.of_blank (by simp)

theorem domCheckpoint (h : Indexed s) (d : Domain) (vals : List Int) : Indexed (s.domCheckpoint d vals) := by
  unfold State.domCheckpoint
  extract_lets x keep s0
  split
  · next k _ =>
    extract_lets s1 back s2
    have h1 : Indexed s1 := h.cpWork d k vals
    have h2 : Indexed s2 := by
      simp only [s2]
      split
      · exact h1.wakeBack _
      · exact h1
    exact ite (fun _ => h1) fun _ => ite (fun _ => h2.of_blank (by simp)) fun _ =>
      ite (fun _ => h2.of_blank (by simp)) fun _ => domUp (h2.of_blank (by simp)) d vals
  · split
    · next src _ =>
      have h0 : Indexed s0 := h.of_blank (by simp [s0])
      exact ite (fun _ => (h0.wakeBack src).of_blank (by simp)) fun _ => h0.wakeBack src
    · refine h.of_blank ?_
      (repeat' split) <;> simp
  · exact h

theorem hardBoundary (h : Indexed s) (commit : Bool) (trim : Int) (hbk : Quad Nat) : Indexed (s.hardBoundary commit trim hbk) := by
  unfold State.hardBoundary
  exact (h.tick commit trim).of_blank (by simp)

theorem activateNow (h : Indexed s) : Indexed s.activateNow := by
  have ha : Indexed (Machine.forAxes s (fun n t => if t.axOff n then t else t.switchesOff n)).brakesOff.actoClear := h.of_blank (by simp)
  exact (ha.sysClear 5).of_blank (by simp [State.activateNow])

theorem frameOpens (h : Indexed s) : Indexed s.frameOpens := by
  unfold State.frameOpens
  extract_lets s1 s2 s3 s4 s5 l s6
  have h3 : Indexed s3 := h.of_blank (by simp [s3, s2, s1])
  have h4 : Indexed s4 := ite (fun _ => h3.superframe) fun _ => h3
  have h6 : Indexed s6 := h4.of_blank (by simp [s6, s5])
  exact h6.unitsService.changeStep.of_blank (by simp)

/-! ### Commands out of a hopper -/

section
variable {c : CmdSpec} (hs : ∀ s h, Indexed s → Indexed (c.start s h))
include hs

theorem startCmd (h : Indexed s) (k : Nat) : Indexed (startCmd c k s) := by
  unfold Machine.startCmd
  dsimp only
  split
  · exact h.of_blank (by simp)
  · refine ite (fun _ => h.of_blank (by simp)) fun _ => ?_
    split
    · exact h.of_blank (by simp)
    · split
      · exact h.of_blank (by simp)
      · exact hs _ _ (h.of_blank (by simp))

theorem startRow (h : Indexed s) (k : Nat) : Indexed (startRow c k s) := by
  refine ite (fun _ => ?_) fun _ => h
  exact (startCmd hs (h.of_blank (s.useStart_blank (by simp))) k).of_blank (by simp)

theorem takeCmd (ht : ∀ s h, Indexed s → Indexed (c.taken s h)) (h : Indexed s) (k : Nat) : Indexed (takeCmd c k s) := by
  unfold Machine.takeCmd
  extract_lets s1 s2 s3
  have h1 : Indexed s1 := h.of_blank (by simp [s1])
  have h2 : Indexed s2 := h1.of_blank (by simp [s2])
  have h3 : Indexed s3 := ht _ _ (h2.of_blank (by simp))
  split
  · exact h1.of_blank (by simp)
  · split
    · exact h1.of_blank (by simp)
    · split
      · exact h2.of_blank (by simp)
      · split
        · exact h2.of_blank (by simp)
        · split
          · exact startCmd hs h3 k
          · exact h3.of_blank (by simp)
          · exact h3.of_blank (by simp)

theorem takeRow (ht : ∀ s h, Indexed s → Indexed (c.taken s h)) (h : Indexed s) (k : Nat) : Indexed (takeRow c k s) :=
  ite (fun _ => (takeCmd hs ht h k).of_blank (by simp)) fun _ => h

end

/-- LEARN of a Wedge drops the retained baseline alone. -/
theorem wedgeLearnStart (h : Indexed s) (k : Nat) : Indexed (wedgeLearnSpec.start s k) := by
  unfold wedgeLearnSpec
  dsimp -zeta only
  extract_lets n s1 s2 r s3
  have h2 : Indexed s2 := h.of_blank (by simp [s2, s1])
  have h3 : Indexed s3 := ⟨h2.index, h2.realign, h2.retained⟩
  exact h3.of_blank (by simp)

theorem netSleepAnnounceStart (h : Indexed s) (k : Nat) : Indexed (netSleepAnnounceSpec.start s k) := by
  unfold netSleepAnnounceSpec
  dsimp -zeta only
  extract_lets pl f r s1
  have h1 : Indexed s1 := ⟨h.index, h.realign, h.retained⟩
  exact h1.of_blank (by simp)

theorem netSleepCancelStart (h : Indexed s) (k : Nat) : Indexed (netSleepCancelSpec.start s k) := by
  have h1 : Indexed (s.sendSleep 1 (sleepPlanOf s k)) := h.of_blank (by simp)
  exact h1.endPlan.of_blank (by simp [netSleepCancelSpec])

/-- A factory reset clears the retained index with the rest of retention. -/
theorem svcFactoryStart (h : Indexed s) (k : Nat) : Indexed (svcFactorySpec.start s k) := by
  unfold svcFactorySpec
  dsimp -zeta only
  extract_lets keep ret p s1 s2 s3 s4 s5 s6
  have h1 : Indexed s1 := ⟨h.index, h.realign, Nat.zero_lt_succ 19⟩
  exact h1.of_blank (by simp [s6, s5, s4, s3, s2])

/-- The commands whose start writes retention. -/
def retSpecs : List CmdSpec := [wedgeLearnSpec, netSleepAnnounceSpec, netSleepCancelSpec, svcFactorySpec]

theorem retSpecs_start {c : CmdSpec} (hc : c ∈ retSpecs) : ∀ s k, Indexed s → Indexed (c.start s k) := by
  simp only [retSpecs, List.mem_cons, List.not_mem_nil, or_false] at hc
  rcases hc with rfl | rfl | rfl | rfl
  · exact fun _ k h => h.wedgeLearnStart k
  · exact fun _ k h => h.netSleepAnnounceStart k
  · exact fun _ k h => h.netSleepCancelStart k
  · exact fun _ k h => h.svcFactoryStart k

theorem specs_start_blank : ∀ c ∈ specsA ++ specsB, c ∈ retSpecs ∨ ∀ s k, (c.start s k).blank offIndex = s.blank offIndex := by
  simp [specsA, specsB, retSpecs]

theorem startNext (h : Indexed s) (k : Nat) : Indexed (s.startNext k) := by
  unfold State.startNext
  split
  · next c e =>
    refine startRow (fun s k h => ?_) h k
    rcases specs_start_blank c (List.mem_of_find?_eq_some e) with hr | hb
    · exact retSpecs_start hr s k h
    · exact h.of_blank (hb s k)
  · exact h

end Indexed

/-- Every state that the outcome goes on with has the invariant. -/
def KeepsIndex (o : Host.Outcome State Fault Refusal) : Prop := ∀ t, o = .next t → Indexed t

namespace KeepsIndex

variable {s : State}

theorem next (h : Indexed s) : KeepsIndex (.next s) := by
  rintro t ⟨⟩
  exact h

/-! ### Supplies, reset and wake -/

theorem powerOn (h : Indexed s) (vbat : Nat) : KeepsIndex (execPowerOn vbat s) := by
  refine next (.ite (fun _ => h) fun _ => .startFromOff (s := { s with
    pins := { s.pins with strapsRead := false }, power := { s.power with vbat := vbat } }) ?_ 1)
  exact h.of_blank (by simp)

theorem powerOff (h : Indexed s) (vbat : Nat) : KeepsIndex (execPowerOff vbat s) := by
  refine next (.ite (fun _ => h) fun _ => ?_)
  have hc := h.sysClear 1
  exact ⟨hc.index, hc.realign, Nat.zero_lt_succ 19⟩

theorem brownOut (h : Indexed s) (vbat us : Nat) : KeepsIndex (execBrownOut vbat us s) := by
  unfold execBrownOut
  refine next ?_
  extract_lets lists p s1 s2 rec_ ran s3 s4
  have h1 : Indexed s1 := h.of_blank (by simp [s1])
  have h2 : Indexed s2 := .forAxes (fun n t ht => .ite (fun _ => ht) fun _ => ht.keepIndex n) h1
  have h3 : Indexed s3 := .addRecord (.ite (fun _ => h2.retSave.planSave) fun _ => h2) _ _
  exact .ite (fun _ => h) fun _ => (h3.sysClear 3).of_blank (by simp [s4])

theorem reset (h : Indexed s) : KeepsIndex (execReset s) :=
  next (.ite (fun _ => h) fun _ => (h.sysClear 2).of_blank (by simp))

theorem resetRelease (h : Indexed s) (tsten up down : Bool) : KeepsIndex (execResetRelease tsten up down s) := by
  unfold execResetRelease
  refine next ?_
  extract_lets p s1
  have h1 : Indexed s1 := h.of_blank (by simp [s1])
  exact .ite (fun _ => h) fun _ => .ite (fun _ => .startFromOff (h1.of_blank (by simp)) _) fun _ => h1

theorem wakeSource (h : Indexed s) (src : Fin 9) (periods us vbat : Nat) (level : Bool) :
    KeepsIndex (execWakeSource src periods us vbat level s) := by
  unfold execWakeSource
  refine next ?_
  have h1 : Indexed (s.wakeLevel src.val us level) := h.of_blank (by simp)
  dsimp only
  refine .ite (fun _ => h1) fun _ => ?_
  split
  · exact .ite (fun _ => h1.of_blank (by simp)) fun _ => h1
  · split
    · exact .ite (fun _ => h1) fun _ => (h1.framesGone (framesOf periods) true).of_blank (by simp)
    · exact .ite (fun _ => h1) fun _ => h1.of_blank (by simp)
    · exact h1

theorem checkpointReached (h : Indexed s) (u : SeqUnit) (vals : List Int) : KeepsIndex (execCheckpointReached u vals s) := by
  unfold execCheckpointReached
  refine next ?_
  cases u with
  | axis n => exact (h.axCheckpoint n vals).of_blank (by simp)
  | dom d => exact .ite (fun _ => h) fun _ => (h.domCheckpoint d vals).changeStep.of_blank (by simp)

theorem checkpointTimeout (h : Indexed s) (u : SeqUnit) (us : Nat) : KeepsIndex (execCheckpointTimeout u us s) := by
  unfold execCheckpointTimeout
  refine next ?_
  cases u with
  | axis n =>
    have hf : Indexed s.fresh.2 := h.of_blank (by simp)
    exact .ite (fun _ => (hf.raiseFail n 0x1301 s.fresh.1).of_blank (by simp)) fun _ => h
  | dom d =>
    refine .ite (fun _ => h) fun _ => ?_
    have hd := h.domDrop d 0x1305
    split
    · refine .ite (fun _ => h.startFromOff 4) fun _ => .ite (fun _ => h.of_blank (by simp)) fun _ =>
        .startFromOff (s := { s with power := { s.power with sysTries := s.power.sysTries + 1 } }) (h.of_blank (by simp)) 4
    · exact h.of_blank (by simp)
    · exact hd.of_blank (by simp)
    · exact h

theorem vmUndervoltage (h : Indexed s) (vm us : Nat) : KeepsIndex (execVmUndervoltage vm us s) := by
  unfold execVmUndervoltage
  refine next (.ite (fun _ => h) fun _ => ?_)
  extract_lets p s1 s2
  have h1 : Indexed s1 := h.of_blank (by simp [s1])
  have h2 : Indexed s2 := h1.of_blank (by simp [s2])
  have h3 : Indexed (forAxes s2 (fun n t => t.axSupplyFail n 0x1306)) := .forAxes (fun n t ht => ht.axSupplyFail n 0x1306) h2
  exact .ite (fun _ => h1) fun _ => h3.of_blank (by simp)

theorem vmOvervoltage (h : Indexed s) (vm : Nat) : KeepsIndex (execVmOvervoltage vm s) := by
  unfold execVmOvervoltage
  refine next (.ite (fun _ => h) fun _ => ?_)
  extract_lets p s1 s2
  have h1 : Indexed s1 := h.of_blank (by simp [s1])
  have h2 : Indexed s2 := by
    refine .forAxes (fun n t ht => ?_) h1
    split
    · exact ht.axFail n 0x1307
    · exact ht.axFail n 0x1307
    · exact ht.of_blank (by simp)
    · exact ht.of_blank (by simp)
    · exact ht
  exact h2.of_blank (by simp)

theorem vgdOutOfWindow (h : Indexed s) (mv us : Nat) : KeepsIndex (execVgdOutOfWindow mv us s) := by
  unfold execVgdOutOfWindow
  refine next ?_
  extract_lets o bad trips p s1 s2
  have h1 : Indexed s1 := h.of_blank (by simp [s1])
  have h2 : Indexed s2 := h1.of_blank (by simp [s2])
  have h3 : Indexed (forAxes s2 (fun n t => t.axSupplyFail n 0x130A)) := .forAxes (fun n t ht => ht.axSupplyFail n 0x130A) h2
  exact .ite (fun _ => h) fun _ => .ite (fun _ => h3.of_blank (by simp)) fun _ => .ite (fun _ => h1.of_blank (by simp)) fun _ => h1

theorem brakeChopperSwitch (h : Indexed s) (vm off : Nat) : KeepsIndex (execBrakeChopperSwitch vm off s) := by
  unfold execBrakeChopperSwitch
  refine next ?_
  extract_lets now p s1
  have h1 : Indexed s1 := h.of_blank (by simp [s1])
  have h2 : Indexed { s1 with frame := { s1.frame with brkSeen := true } } := ⟨h1.index, h1.realign, h1.retained⟩
  exact .ite (fun _ => h) fun _ => .ite (fun _ => .ite (fun _ => h1) fun _ => h2.of_blank (State.noteEvFree_blank (by simp) (by simp) _ _)) fun _ =>
    .ite (fun _ => h.of_blank (by simp)) fun _ => h

/-! ### Clocks and the frame -/

theorem frameBoundary (h : Indexed s) (commit : Bool) (hbk : Quad Nat) : KeepsIndex (execFrameBoundary commit hbk s) := by
  have hw : Indexed s.frameWork := h.of_blank (by simp)
  have hf : Indexed ((s.frameWork.hardBoundary commit s.trimNow hbk).faultStep commit) :=
    (hw.hardBoundary commit s.trimNow hbk).of_blank (by simp)
  exact next (.ite (fun _ => h) fun _ => .ite (fun _ => h.activateNow) fun _ => hf.frameOpens)

theorem pllLockLoss (h : Indexed s) (p : Fin 3) : KeepsIndex (execPllLockLoss p s) := by
  unfold execPllLockLoss
  refine next (.ite (fun _ => h) fun _ => ?_)
  split
  · extract_lets s1 k c f i s2 x s3
    have h1 : Indexed s1 := h.of_blank (by simp [s1])
    have h2 : Indexed s2 := ⟨h1.index, h1.realign, h1.retained⟩
    exact h2.of_blank (by simp [s3, x])
  · exact h.of_blank (by simp)
  · exact h.of_blank (by simp)

theorem pllRelock (h : Indexed s) (p : Fin 3) (us held periods : Nat) : KeepsIndex (execPllRelock p us held periods s) := by
  unfold execPllRelock
  refine next ?_
  split
  · refine .ite (fun _ => h) fun _ => .ite (fun _ => h.of_blank (by simp)) fun _ => .ite (fun _ => h) fun _ => ?_
    exact Indexed.framesGone (s := { s with clock := { s.clock with pllm := .locked, halted := false } }) (h.of_blank (by simp)) _ _
  · exact h.of_blank (by simp)
  · exact h.of_blank (by simp)

theorem syncEdge (h : Indexed s) (off : Nat) (high : Bool) : KeepsIndex (execSyncEdge off high s) := by
  unfold execSyncEdge
  refine next (.ite (fun _ => h) fun _ => ?_)
  extract_lets p s1 now near s2
  have h1 : Indexed s1 := h.of_blank (by simp [s1])
  have h2 : Indexed s2 := h1.of_blank (by simp [s2])
  have h3 : Indexed { s2 with frame := { s2.frame with syncRej := true } } := ⟨h2.index, h2.realign, h2.retained⟩
  exact .ite (fun _ => h1) fun _ => .ite (fun _ => .ite (fun _ => h2) fun _ => h3.of_blank (State.evFree_blank (by simp) (by simp) (by simp) _ _)) fun _ =>
    ⟨h1.index, h1.realign, h1.retained⟩

theorem syncReferenceLoss (h : Indexed s) (off : Nat) : KeepsIndex (execSyncReferenceLoss off s) := by
  have hl : Indexed { s with frame := { s.frame with syncLost := true, trim := 0, syncTrim := 0 } } := ⟨h.index, h.realign, h.retained⟩
  exact next (.ite (fun _ => h) fun _ => hl.of_blank (by simp))

theorem frameTrimLimit (h : Indexed s) : KeepsIndex (execFrameTrimLimit s) := by
  have hl : Indexed { s with frame := { s.frame with trimHeld := 21 } } := ⟨h.index, h.realign, h.retained⟩
  exact next (.ite (fun _ => hl.of_blank (by simp)) fun _ => h)

/-! ### Fabric and twin link -/

/-- Reception of a fabric frame keeps the invariant when its handling does. -/
theorem rx {k : State → State} (hk : ∀ t, Indexed t → Indexed (k t)) (h : Indexed s) (p : Fin 2) (f : AmFrame) (kind : Nat) :
    Indexed (s.rx p f kind k) := by
  unfold State.rx
  exact .ite (fun _ => h) fun _ => .ite (fun _ => h.of_blank (by simp)) fun _ => .ite (fun _ => h.of_blank (by simp)) fun _ =>
    .ite (fun _ => h) fun _ => hk _ (h.of_blank (by simp))

theorem beaconReceived (h : Indexed s) (p : Fin 2) (f : AmFrame) (off : Int) : KeepsIndex (execBeaconReceived p f off s) := by
  refine next (rx (fun t h => ?_) h p f 0)
  extract_lets b seg root inUse u fb woke v
  have hv : Indexed v := h.takeBeacon p f off
  exact .ite (fun _ => h.of_blank (by simp)) fun _ => .ite (fun _ => h.of_blank (by simp [u])) fun _ =>
    .ite (fun _ => h) fun _ => .ite (fun _ => hv.of_blank (by simp)) fun _ => hv

theorem claimReceived (h : Indexed s) (p : Fin 2) (f : AmFrame) : KeepsIndex (execClaimReceived p f s) := by
  refine next (rx (fun t h => ?_) h p f 1)
  have ha : Indexed (t.claimsAnew p) := h.of_blank (by simp)
  exact (ha.claimSeen p (getN (bodyOf f) 0 8) (getB (bodyOf f) 8) (getB (bodyOf f) 9)).of_blank (by simp)

theorem claimHeld (h : Indexed s) (p : Fin 2) : KeepsIndex (execClaimHeld p s) :=
  next (.ite (fun _ => h.toHeld p) fun _ => h.of_blank (by simp))

theorem sleepReceived (h : Indexed s) (p : Fin 2) (f : AmFrame) : KeepsIndex (execSleepReceived p f s) := by
  refine next (rx (fun t h => ?_) h p f 0xA)
  extract_lets b root pl
  have hu : Indexed { t with fab := { t.fab with plan := some pl }, ret := { t.ret with plan := some pl } } :=
    ⟨h.index, h.realign, h.retained⟩
  exact .ite (fun _ => h.of_blank (by simp)) fun _ => .ite (fun _ => h.endPlan) fun _ => .ite (fun _ => h) fun _ =>
    .ite (fun _ => h) fun _ => hu.planSave.of_blank (State.evFree_blank (by simp) (by simp) (by simp) _ _)

theorem sleepInstant (h : Indexed s) : KeepsIndex (execSleepInstant s) := by
  unfold execSleepInstant
  refine next ?_
  split
  · exact h
  · extract_lets k s1 deepAt busy
    have h1 : Indexed s1 := h.of_blank (by simp [s1])
    exact .ite (fun _ => h) fun _ => .ite (fun _ => h1.endPlan) fun _ => h1.of_blank (by simp)

theorem listenWindowEnd (h : Indexed s) : KeepsIndex (execListenWindowEnd s) := by
  unfold execListenWindowEnd
  refine next ?_
  split
  · exact h
  · extract_lets s1 m fb s2
    have h2 : Indexed s2 := h.of_blank (by simp [s2, s1])
    exact .ite (fun _ => h) fun _ => .ite (fun _ => h2.of_blank (by simp)) fun _ => .ite (fun _ => h2.endPlan) fun _ => h2.of_blank (by simp)

/-- A record of the twin link (R534, R535). -/
theorem recordIn (h : Indexed s) (r : List Byte) (off : Nat) (clean mirror : Bool) : Indexed (s.recordIn r off clean mirror) := by
  refine .ite (fun _ => h) fun _ => .ite (fun _ => h.of_blank (by simp)) fun _ => ?_
  unfold State.takeRecord
  extract_lets fr d gap s1 rdy s2 s3 s4 s5
  have h1 : Indexed s1 := .ite (fun _ => h.alignTo r off) fun _ => h
  have h5 : Indexed s5 := h1.of_blank (by simp [s5, s4, s3, s2])
  exact .ite (fun _ => h5) fun _ => h5.of_blank (by simp)

/-! ### Commands out of a hopper -/

theorem takeRow {c : CmdSpec} (hs : ∀ s h, Indexed s → Indexed (c.start s h)) (ht : c.taken = fun s _ => s) (h : Indexed s) (k : Nat) :
    KeepsIndex (.next (Machine.takeRow c k s)) :=
  next (.takeRow hs (fun s k h => by simpa [ht] using h) h k)

theorem taggedCommandStart (h : Indexed s) (k : Fin 32) : KeepsIndex (execTaggedCommandStart k s) :=
  next (.ite (fun _ => h.of_blank (by simp)) fun _ => .ite (fun _ => h.startNext k) fun _ => h)

end KeepsIndex

theorem keepsIndex_of_writes {c : Sys2Proof.Instr} {s : State} (h : Indexed s) (hf : (writes c).contains .frame = false)
    (hr : (writes c).contains .ret = false) : KeepsIndex (exec c s) := by
  intro t e
  have ef := only_frame (exec_only e) (not_mem_of_contains hf)
  have er := only_ret (exec_only e) (not_mem_of_contains hr)
  exact ⟨ef ▸ h.index, ef ▸ h.realign, er ▸ h.retained⟩

theorem exec_keepsIndex (c : Sys2Proof.Instr) {s : State} (h : Indexed s) : KeepsIndex (exec c s) := by
  cases c with
  | powerOn vbat => exact .powerOn h vbat
  | powerOff vbat => exact .powerOff h vbat
  | brownOut vbat us => exact .brownOut h vbat us
  | reset => exact .reset h
  | resetRelease tsten up down => exact .resetRelease h tsten up down
  | wakeSource src periods us vbat level => exact .wakeSource h src periods us vbat level
  | checkpointReached u vals => exact .checkpointReached h u vals
  | checkpointTimeout u us => exact .checkpointTimeout h u us
  | vmUndervoltage vm us => exact .vmUndervoltage h vm us
  | vmOvervoltage vm => exact .vmOvervoltage h vm
  | vgdOutOfWindow mv us => exact .vgdOutOfWindow h mv us
  | brakeChopperSwitch vm off => exact .brakeChopperSwitch h vm off
  | frameBoundary commit hbk => exact .frameBoundary h commit hbk
  | pllLockLoss p => exact .pllLockLoss h p
  | pllRelock p us held periods => exact .pllRelock h p us held periods
  | syncEdge off high => exact .syncEdge h off high
  | syncReferenceLoss off => exact .syncReferenceLoss h off
  | frameTrimLimit => exact .frameTrimLimit h
  | taggedCommandStart k => exact .taggedCommandStart h k
  | waitingCommandStart k => exact .next (h.startNext k)
  | beaconReceived p f off => exact .beaconReceived h p f off
  | claimReceived p f => exact .claimReceived h p f
  | claimHeld p => exact .claimHeld h p
  | sleepReceived p f => exact .sleepReceived h p f
  | sleepInstant => exact .sleepInstant h
  | listenWindowEnd => exact .listenWindowEnd h
  | mirrorRecord r off clean => exact .next (KeepsIndex.recordIn h r off clean true)
  | statusRecord r off clean => exact .next (KeepsIndex.recordIn h r off clean false)
  | wedgeLearn k => exact .takeRow (fun _ k h => h.wedgeLearnStart k) rfl h k
  | netSleepAnnounce k => exact .takeRow (fun _ k h => h.netSleepAnnounceStart k) rfl h k
  | netSleepCancel k => exact .takeRow (fun _ k h => h.netSleepCancelStart k) rfl h k
  | svcOpFactoryReset k => exact .takeRow (fun _ k h => h.svcFactoryStart k) rfl h k
  | _ => exact keepsIndex_of_writes h rfl rfl

/-- Settles O47: every command keeps the invariant, those that write neither the frame nor retention by their frames. -/
theorem frameIndexKept : Obligations.FrameIndexKept := by
  intro s t hs e
  rw [indexOk_iff] at hs ⊢
  unfold step at e
  split at e
  · cases e
    exact hs
  · next c rest _ =>
    exact exec_keepsIndex c (s := { s with pending := rest }) ⟨hs.index, hs.realign, hs.retained⟩ t e

end Sys2Proof.Machine
end

section
/-! The frame boundary: a fault whose cause ends in the boundary's own work is gone after it. -/

namespace Sys2Proof.Machine

/-- The entry of FT-0x0220 (class A) under the reaction EVENT, its cause lasting, and not on its way out. -/
def followLoss : FaultEnt :=
  { code := 0x0220, qual := 0, axes := 1, count := 1, first := 0, last := 0, react := 0, cond := true, cls := 0, going := 0, acts := 1 }

/-- Axis 0 has left SPEEDF while its rate source was lost; FT-0x0220 of that loss is active. -/
def leftFollowing : State :=
  { State.reset with
    frame := { State.reset.frame with running := true }
    follow := State.reset.follow.set 0 { st := .lost }
    faults := { State.reset.faults with active := [followLoss] } }

/-- The fault is active after the outcome. -/
def activeAfter (code : Nat) : Host.Outcome State Fault Refusal → Bool
  | .next t => t.faultActive code
  | _ => false

/-- The boundary takes the axis out of following, which ends the cause (R410), and its step 2 clears the entry (R596). -/
theorem followLoss_gone : activeAfter 0x0220 (exec (.frameBoundary true (Quad.all 0)) leftFollowing) = false := by
  decide +kernel

/-- Refutes O44: an entry that is not going when the frame ends need not be active after the boundary. In `leftFollowing` the boundary
itself ends the cause of FT-0x0220, of class A under EVENT, and clears it in the same step. -/
theorem not_frameBoundaryComplete : ¬ Obligations.FrameBoundaryComplete := by
  rintro ⟨hb, -⟩
  obtain ⟨t, e, -, -, -, -, -, -, hactive⟩ := hb true (Quad.all 0) leftFollowing rfl rfl nofun
  have hgone := followLoss_gone
  have hstays : t.faultActive 0x0220 = true := hactive followLoss (List.mem_singleton.mpr rfl) rfl
  rw [e, activeAfter, hstays] at hgone
  contradiction

end Sys2Proof.Machine
end

section
/-! A held command that its time runs out on: its record holds CAL_BUSY and the frame, and no other completion of the step touches it. -/

namespace Sys2Proof.Machine

/-! ### Which hoppers are started after a completion -/

theorem updAt_getD {α : Type} (l : List α) (f : α → α) (d : α) (i j : Nat) :
    (updAt l i f).getD j d = if i = j ∧ j < l.length then f (l.getD j d) else l.getD j d := by
  induction l generalizing i j with
  | nil => simp [updAt]
  | cons a r ih =>
    cases i with
    | zero => cases j <;> simp [updAt]
    | succ i =>
      cases j with
      | zero => simp [updAt]
      | succ j => simpa [updAt] using ih i j

theorem hop_of_intake {s t : State} (e : t.intake.hops = s.intake.hops) (h : Nat) : t.hop h = s.hop h := by
  simp only [State.hop, e]

theorem stage_of_intake {s t : State} (e : t.intake.hops = s.intake.hops) (h : Nat) : t.stage h = s.stage h :=
  congrArg HopSt.stage (hop_of_intake e h)

theorem setHop_hop (s : State) (x h : Nat) (f : HopSt → HopSt) :
    (s.setHop x f).hop h = if x = h ∧ h < s.intake.hops.length then f (s.hop h) else s.hop h :=
  updAt_getD _ _ _ _ _

/-- An update of a hopper that starts nothing leaves no hopper started that was not. -/
theorem started_of_setHop {s : State} {x h : Nat} {f : HopSt → HopSt} (hf : ∀ y, (f y).stage = .started → y.stage = .started)
    (e : (s.setHop x f).stage h = .started) : s.stage h = .started := by
  unfold State.stage at e ⊢
  rw [setHop_hop] at e
  split at e
  · exact hf _ e
  · exact e

theorem started_of_freeHop {s : State} {x h : Nat} (e : (s.freeHop x).stage h = .started) : s.stage h = .started :=
  started_of_setHop (f := fun _ => {}) (fun _ h => by cases h) e

theorem started_of_answering {s : State} {x h : Nat}
    (e : (s.setHop x (fun y => { y with stage := .answering })).stage h = .started) : s.stage h = .started :=
  started_of_setHop (fun _ h => by cases h) e

theorem started_of_giveBack {s : State} {x h : Nat} (e : (s.giveBack x).stage h = .started) : s.stage h = .started := by
  have hf {t : State} (er : s.respondFabric x = some t) : t.intake = s.intake :=
    only_intake (State.respondFabric_blank (w := [.ports]) (by simp) er) (by simp)
  have hi {t : State} (er : s.respondIso x = some t) : t.intake = s.intake :=
    only_intake (State.respondIso_blank (w := [.iso]) (by simp) er) (by simp)
  unfold State.giveBack at e
  split at e
  · exact started_of_freeHop e
  · split at e
    · exact started_of_freeHop e
    · split at e
      · next t er => exact stage_of_intake (congrArg _ (hf er)) h ▸ started_of_freeHop e
      · exact started_of_answering e
  · split at e
    · next t er => exact stage_of_intake (congrArg _ (hi er)) h ▸ started_of_freeHop e
    · exact started_of_answering e
  · dsimp only at e
    split at e
    · exact stage_of_intake (congrArg _ (ev_intake s _ _)) h ▸ started_of_freeHop e
    · have e1 := started_of_freeHop e
      rwa [stage_of_intake (congrArg _ (evIf_intake _ _ _ _)), stage_of_intake (congrArg _ (ev_intake _ _ _))] at e1

theorem finish_hops_before_return (s : State) (x code : Nat) (res body record : List Byte) :
    (((((s.endBulk x).putResult x res).putSlot (128 * x + 6) body).putSlot (128 * x + 12) record).countBusy x code).intake.hops =
      s.intake.hops := by
  have hc (t : State) : (t.countBusy x code).intake.hops = t.intake.hops := by unfold State.countBusy; split <;> rfl
  have hr (t : State) : (t.putResult x res).intake.hops = t.intake.hops := by unfold State.putResult; split <;> rfl
  have hb : (s.endBulk x).intake.hops = s.intake.hops := by unfold State.endBulk; split <;> rfl
  rw [hc]
  exact (hr _).trans hb

/-- A completion starts no command. -/
theorem started_of_finish {s : State} {x h code detail : Nat} {res : List Byte} (e : (s.finish x code detail res).stage h = .started) :
    s.stage h = .started :=
  stage_of_intake (finish_hops_before_return s x code _ _ _) h ▸ started_of_giveBack e

/-! ### The record -/

/-- A completed hopper holds the frame of its completion in bytes 20 to 23 (R147). -/
theorem finish_endFrame (s : State) (h code detail : Nat) (res : List Byte) (hw : cellWf s.intake.slots = true) :
    (s.finish h code detail res).h32 h 20 = s.frame.counter.toNat := by
  have hl := completion_length s h code detail (s.resultOf h res)
  have h1 := cellWrite_wf s.intake.slots (128 * h + 6) (b8 (8 + (resultBody (s.resultOf h res)).length)) hw
  have hlen : 12 ≤ (s.completion h code detail (s.resultOf h res)).length := by
    simp only [State.completion, State.recordHead, b8, le16, le32, leBytes, List.length_append, List.length_cons, List.length_nil]
    omega
  have hb (i : Nat) (hi : i < 4) : (s.finish h code detail res).hb h (20 + i) =
      ((le32 s.frame.counter.toNat).getD i 0).toNat := by
    have hin : 128 * h + 12 ≤ 128 * h + (20 + i) ∧
        128 * h + (20 + i) < 128 * h + 12 + (s.completion h code detail (s.resultOf h res)).length := by omega
    have ho : 128 * h + (20 + i) - (128 * h + 12) = i + 8 := by omega
    unfold State.hb
    rw [finish_slots, cellGet_write _ _ _ _ h1, if_pos hin, ho]
    simp only [State.completion, State.recordHead, b8, le16, le32, leBytes, State.fr, List.cons_append, List.nil_append,
      List.getD_cons_succ]
    interval_cases i <;> rfl
  have hlt := s.frame.counter.isLt
  simp only [State.h32, State.h16, hb 0 (by decide), hb 1 (by decide), hb 2 (by decide), hb 3 (by decide)]
  simp [le32, leBytes]
  omega

/-- What the completion of another hopper leaves of the record of `h`. -/
structure RecordKept (h : Nat) (s t : State) : Prop where
  wf : t.slotsWf
  idle : t.stage h ≠ .started
  bytes : ∀ b, 12 ≤ b → b < 128 → t.hb h b = s.hb h b

theorem RecordKept.finish {h : Nat} {s t : State} (k : RecordKept h s t) {x : Nat} (hx : t.stage x = .started) (code detail : Nat)
    (res : List Byte) : RecordKept h s (t.finish x code detail res) where
  wf := finish_wf k.wf _ _ _ _
  idle e := k.idle (started_of_finish e)
  bytes b h1 h2 := by
    have hne : x ≠ h := fun e => k.idle (e ▸ hx)
    have hf := finish_frame t x code detail (128 * h + b) res k.wf (by omega)
    rw [← k.bytes b h1 h2]
    exact congrArg BitVec.toNat hf

/-- The commands that wait for a run that is gone complete in their own hoppers. -/
theorem runRefused_record {h : Nat} {s : State} (hw : s.slotsWf) (hn : s.stage h ≠ .started) : RecordKept h s (s.runRefused h) := by
  have hs : RecordKept h s s := ⟨hw, hn, fun _ _ _ => rfl⟩
  unfold State.runRefused
  split
  · split
    · next r _ _ =>
      have h0 : RecordKept h s { s with plan := { s.plan with run := none } } := ⟨hs.wf, hs.idle, hs.bytes⟩
      revert h0
      generalize ({ s with plan := { s.plan with run := none } } : State) = t
      induction r.waits generalizing t with
      | nil => exact id
      | cons w l ih =>
        intro ht
        refine ih _ ?_
        dsimp only
        split
        · next hst => exact ht.finish (eq_of_beq hst) _ _ _
        · exact ht
    · exact hs
  · exact hs

/-- What a refusal notes before it completes the command: an event (R564) and a dropped mark (R163). -/
def State.refusing (s : State) (h code detail : Nat) : State :=
  let s := if code = 0x0F ∧ detail = 2 ∧ !s.svc.refSeen then
      { s.ev 0x0907 (srcOf h) with svc := { (s.ev 0x0907 (srcOf h)).svc with refSeen := true } }
    else s
  if isStopOp (s.opcode h) then s.dropMark h else s

theorem refusing_frame (s : State) (h code detail : Nat) : (s.refusing h code detail).frame = s.frame :=
  only_frame (w := allBut .frame) (by simp [State.refusing]) (by simp)

theorem refusing_hops (s : State) (h code detail : Nat) : (s.refusing h code detail).intake.hops = s.intake.hops := by
  unfold State.refusing State.dropMark
  dsimp only
  (repeat' split) <;> simp [ev_intake]

theorem refusing_slots (s : State) (h code detail : Nat) : (s.refusing h code detail).intake.slots = s.intake.slots := by
  unfold State.refusing State.dropMark
  dsimp only
  (repeat' split) <;> simp [ev_intake]

/-- What a refusal completes: its hopper is not waiting for a start. -/
def State.refused (s : State) (h code detail : Nat) : State :=
  (s.refusing h code detail).setHop h (fun x => { x with start := none, late := false })

theorem refuse_eq (s : State) (h code detail : Nat) (res : List Byte) :
    s.refuse h code detail res = ((s.refused h code detail).finish h code detail res).runRefused h := rfl

theorem refused_wf {s : State} (hw : s.slotsWf) (h code detail : Nat) : (s.refused h code detail).slotsWf :=
  setHop_wf (slotsWf_of_slots (refusing_slots s h code detail) hw) _ _

theorem started_of_refused {s : State} {h code detail : Nat} (e : (s.refused h code detail).stage h = .started) : s.stage h = .started := by
  have e' := started_of_setHop (s := s.refusing h code detail) (f := fun x => { x with start := none, late := false }) (fun _ e => e) e
  rwa [stage_of_intake (refusing_hops s h code detail)] at e'

theorem refused_frame (s : State) (h code detail : Nat) : (s.refused h code detail).frame = s.frame :=
  refusing_frame s h code detail

/-- The record of a command that is refused before it has started. -/
theorem refuse_record {s : State} {h code : Nat} (detail : Nat) (res : List Byte) (hw : s.slotsWf) (hn : s.stage h ≠ .started) (hc : code < 256) :
    (s.refuse h code detail res).hb h 12 = code ∧ (s.refuse h code detail res).h32 h 20 = s.frame.counter.toNat := by
  have hwf := refused_wf hw h code detail
  have hidle : ((s.refused h code detail).finish h code detail res).stage h ≠ .started :=
    fun e => hn (started_of_refused (started_of_finish e))
  have hk := (runRefused_record (finish_wf hwf h code detail res) hidle).bytes
  rw [refuse_eq, ← refused_frame s h code detail]
  constructor
  · rw [hk 12 (by decide) (by decide), finish_code _ _ _ _ _ hc hwf]
  · rw [← finish_endFrame _ h code detail res hwf]
    simp only [State.h32, State.h16, hk 20 (by decide) (by decide), hk (20 + 1) (by decide) (by decide), hk (20 + 2) (by decide) (by decide),
      hk (20 + 2 + 1) (by decide) (by decide)]

/-- Settles O53: at its intake + 8 the command is refused with code 4, and before that the time-out does nothing. -/
theorem heldCommandEnds : Obligations.HeldCommandEnds := by
  refine ⟨fun h s hs hi hw => ?_, fun h s hs hi => ?_⟩
  · have hd : s.ahead (s.hop h).intake = -8 := by
      have e : (s.hop h).intake - ((s.hop h).intake + 8) = -8#32 := by bv_omega
      rw [State.ahead, hi, e]
      decide
    refine ⟨s.refuse h 4 (s.framesLeft h) [], ?_, refuse_record _ [] hw (by simp [hs]) (by decide)⟩
    simp [exec, execHeldCommandTimeout, hs, hd]
  · have hd : ¬ s.ahead (s.hop h).intake ≤ -8 := by omega
    simp [exec, execHeldCommandTimeout, hd]

end Sys2Proof.Machine
end

section
/-! A device in SAFE with every gate held off stays so through the completions and shutdowns of the entry to SAFE. -/

namespace Sys2Proof.Machine

/-- All parts but the gates, the brakes' and the faults'. -/
def offShut : List Group := (allBut .gate).filter (fun g => g != .mon && g != .faults)

@[simp] theorem mem_offShut (g : Group) : g ∈ offShut ↔ g ≠ .gate ∧ g ≠ .mon ∧ g ≠ .faults := by
  simp [offShut, mem_allBut]

/-- Every gate is held off by hardware and every brake output is off. -/
structure Held (s : State) : Prop where
  hwOff : ∀ n, (s.gate.get n).hwOff = true
  brakes : ∀ n, (s.mon.brakes.get n).on = false

/-- Every gate is held off by hardware, every brake output is off, and the device is in SAFE. -/
structure Shut (s : State) : Prop extends Held s where
  device : s.faults.device = true

theorem Held.of_blank {s t : State} (h : Held s) (e : t.blank (.faults :: offShut) = s.blank (.faults :: offShut)) : Held t := by
  have hg : t.gate = s.gate := only_gate e (by simp)
  have hm : t.mon = s.mon := only_mon e (by simp)
  exact ⟨hg ▸ h.hwOff, hm ▸ h.brakes⟩

namespace Shut

variable {s t : State}

/-- What changes none of the three parts keeps them. -/
theorem of_blank (h : Shut s) (e : t.blank offShut = s.blank offShut) : Shut t := by
  have hg : t.gate = s.gate := only_gate e (by simp)
  have hm : t.mon = s.mon := only_mon e (by simp)
  have hf : t.faults = s.faults := only_faults e (by simp)
  exact ⟨⟨hg ▸ h.hwOff, hm ▸ h.brakes⟩, hf ▸ h.device⟩

theorem ite {c : Prop} [Decidable c] (hs : c → Shut s) (ht : ¬ c → Shut t) : Shut (if c then s else t) := by
  split
  · exact hs ‹_›
  · exact ht ‹_›

theorem foldl {α : Type} {f : State → α → State} (hf : ∀ t a, Shut t → Shut (f t a)) (l : List α) :
    ∀ {s}, Shut s → Shut (l.foldl f s) := by
  induction l with
  | nil => exact fun h => h
  | cons a l ih => exact fun h => ih (hf _ a h)

theorem forAxes {f : Fin 4 → State → State} (hf : ∀ n t, Shut t → Shut (f n t)) (h : Shut s) :
    Shut (Machine.forAxes s f) := hf 3 _ (hf 2 _ (hf 1 _ (hf 0 _ h)))

/-! ### Gates and brakes -/

theorem updGate (h : Shut s) (n : Fin 4) {f : GateSt → GateSt} (hf : ∀ g, (f g).hwOff = g.hwOff) : Shut (s.updGate n f) where
  hwOff m := by
    rw [updGate_gate, Quad.get_upd]
    split
    · exact (hf _).trans (h.hwOff n)
    · exact h.hwOff m
  brakes := h.brakes
  device := h.device

theorem switchesOff (h : Shut s) (n : Fin 4) : Shut (s.switchesOff n) := h.updGate n fun _ => rfl

theorem updBridge (h : Shut s) (n b : Fin 4) (f : BridgeSt → BridgeSt) : Shut (s.updBridge n b f) :=
  h.updGate n fun g => by unfold GateSt.updBr; split <;> rfl

theorem clampOn (h : Shut s) (n : Fin 4) : Shut (s.clampOn n) := by
  unfold State.clampOn
  refine foldl (fun t b ht => ?_) axes4 h
  split
  · exact ht.updBridge n b _
  · exact ht.updBridge n b _

theorem clampBack (h : Shut s) (n : Fin 4) : Shut (s.clampBack n) := ite (fun _ => h.clampOn n) (fun _ => h)

theorem setSources (h : Shut s) (n : Fin 4) (a b : Option (Bool × Nat)) : Shut (s.setSources n a b) := h.updGate n fun _ => rfl

theorem setTest (h : Shut s) (n : Fin 4) (t : Option OffTest) : Shut (s.setTest n t) :=
  have ht : Shut { s with mon := { s.mon with tests := s.mon.tests.set n t } } := ⟨⟨h.hwOff, h.brakes⟩, h.device⟩
  ite (fun _ => ht.setSources n none none) (fun _ => ht)

theorem brakeOut (h : Shut s) (b : Fin 4) : Shut (s.brakeOut b) where
  hwOff := h.hwOff
  brakes m := by
    unfold State.brakeOut
    rw [updBrake_mon, Quad.get_upd]
    split
    · rfl
    · exact h.brakes m
  device := h.device

theorem brakeOff (h : Shut s) (n : Fin 4) : Shut (s.brakeOff n) := by
  unfold State.brakeOff
  split
  · exact h.brakeOut _
  · exact h

/-! ### Updates of other parts -/

theorem updMotion (h : Shut s) (n : Fin 4) (f : MotionSt → MotionSt) : Shut (s.updMotion n f) := h.of_blank (by simp)
theorem updWedge (h : Shut s) (n : Fin 4) (f : WedgeSt → WedgeSt) : Shut (s.updWedge n f) := h.of_blank (by simp)
theorem updFollow (h : Shut s) (n : Fin 4) (f : FollowSt → FollowSt) : Shut (s.updFollow n f) := h.of_blank (by simp)
theorem updCur (h : Shut s) (n : Fin 4) (f : CurrentSt → CurrentSt) : Shut (s.updCur n f) := h.of_blank (by simp)
theorem setSeq (h : Shut s) (n : Fin 4) (f : AxSeqSt → AxSeqSt) : Shut (s.setSeq n f) := h.of_blank (by simp)
theorem updTwin (h : Shut s) (f : TwinSt → TwinSt) : Shut (s.updTwin f) := h.of_blank (by simp)
theorem setHop (h : Shut s) (x : Nat) (f : HopSt → HopSt) : Shut (s.setHop x f) := h.of_blank (by simp)

/-! ### Completions -/

theorem ev (h : Shut s) (code qual : Nat) : Shut (s.ev code qual) := by
  unfold State.ev
  exact ite (fun _ => ite (fun _ => ⟨⟨h.hwOff, h.brakes⟩, h.device⟩) (fun _ => ⟨⟨h.hwOff, h.brakes⟩, h.device⟩))
    (fun _ => ⟨⟨h.hwOff, h.brakes⟩, h.device⟩)

theorem freeHop (h : Shut s) (x : Nat) : Shut (s.freeHop x) := h.of_blank (by simp)

theorem giveBack (h : Shut s) (x : Nat) : Shut (s.giveBack x) := by
  unfold State.giveBack
  split
  · exact h.of_blank (by simp)
  · split
    · exact h.freeHop x
    · split
      · next e => exact (h.of_blank (State.respondFabric_blank (by simp) e)).freeHop x
      · exact h.of_blank (by simp)
  · split
    · next e => exact (h.of_blank (State.respondIso_blank (by simp) e)).freeHop x
    · exact h.of_blank (by simp)
  · exact ite (fun _ => (h.ev _ _).freeHop x) (fun _ => (ite (fun _ => (h.ev _ _).ev _ _) (fun _ => h.ev _ _)).freeHop x)

theorem finish (h : Shut s) (x code detail : Nat) (data : List Byte) : Shut (s.finish x code detail data) :=
  (h.of_blank (by simp)).giveBack x

theorem doneWith (h : Shut s) (x : Nat) (res : List Byte) : Shut (s.doneWith x res) := h.finish x 1 0 res

theorem runRefused (h : Shut s) (x : Nat) : Shut (s.runRefused x) := by
  unfold State.runRefused
  split
  · exact ite (fun _ => foldl (fun t w ht => ite (fun _ => ht.finish _ _ _ _) (fun _ => ht)) _ (h.of_blank (by simp))) (fun _ => h)
  · exact h

theorem dropMark (h : Shut s) (x : Nat) : Shut (s.dropMark x) := h.of_blank (by simp)

theorem refusing (h : Shut s) (x code detail : Nat) : Shut (s.refusing x code detail) := by
  unfold State.refusing
  dsimp only
  refine ite (fun _ => dropMark ?_ x) (fun _ => ?_) <;>
    exact ite (fun _ => (h.ev 0x0907 (srcOf x)).of_blank (by simp)) (fun _ => h)

theorem refuse (h : Shut s) (x code detail : Nat) (res : List Byte) : Shut (s.refuse x code detail res) := by
  rw [refuse_eq]
  exact (((h.refusing x code detail).setHop x _).finish x code detail res).runRefused x

theorem endCmd (h : Shut s) (n : Fin 4) (code detail : Nat) : Shut (s.endCmd n code detail) := by
  have hw {t : State} (ht : Shut t) := (ht.updMotion n (fun m => { m with cmd := none, unavail := false })).updWedge n
    (fun w => { w with home := { w.home with st := .none } })
  have hs (c : Bool) (x : Nat) (res : List Byte) : Shut (if c then s.finish x code detail res else s) :=
    ite (fun _ => h.finish x code detail res) (fun _ => h)
  unfold State.endCmd
  dsimp only
  split
  · exact ite (fun _ => hw (hs _ _ _)) (fun _ => (hw (hs _ _ _)).updFollow n _)
  · exact ite (fun _ => hw h) (fun _ => (hw h).updFollow n _)

theorem endStop (h : Shut s) (n : Fin 4) (code detail : Nat) : Shut (s.endStop n code detail) := by
  unfold State.endStop
  dsimp only
  split
  · exact updMotion (ite (fun _ => h.finish _ _ _ _) (fun _ => h)) n _
  · exact h.updMotion n _

theorem endRun (h : Shut s) (code detail status : Nat) : Shut (s.endRun code detail status) := by
  unfold State.endRun
  split
  · exact h
  · refine foldl (fun t w ht => ite (fun _ => ht.doneWith _ _) (fun _ => ht)) _ (ite (fun _ => finish ?_ _ _ _ _) (fun _ => ?_)) <;>
      exact forAxes (fun n t ht => ht.updMotion n _) (h.of_blank (by simp))

theorem rampToRest (h : Shut s) (n : Fin 4) (d : Nat) : Shut (s.rampToRest n d) := h.of_blank (by simp)

theorem leaveRunAs (h : Shut s) (n : Fin 4) (code detail : Nat) : Shut (s.leaveRunAs n code detail) := by
  have hr := forAxes (f := fun k t => if k != n && (t.motion.get k).state == .haul then t.rampToRest k (t.ax k 0x43) else t)
    (fun k t ht => ite (fun _ => ht.rampToRest k _) (fun _ => ht)) h
  unfold State.leaveRunAs
  exact ite (fun _ => (hr.endRun code detail 3).ev _ _) (fun _ => h)

theorem dropAxis (h : Shut s) (n : Fin 4) (code detail : Nat) : Shut (s.dropAxis n code detail) :=
  (((h.leaveRunAs n 2 _).endCmd n code detail).endStop n code detail).updMotion n _

theorem endUnacted (h : Shut s) (n : Fin 4) (code detail : Nat) : Shut (s.endUnacted n code detail) :=
  foldl (fun _ _ ht => ht.refuse _ _ _ _) _ h

theorem abandonTest (h : Shut s) (n : Fin 4) (detail : Nat) : Shut (s.abandonTest n detail) := by
  unfold State.abandonTest
  split
  · exact h
  · have hc := (h.setTest n none).clampBack n
    exact ite (fun _ => h) (fun _ => ite (fun _ => hc.finish _ _ _ _) (fun _ => hc))

/-! ### The axes and the self-test -/

theorem lateStart (h : Shut s) (x : Nat) : Shut (s.lateStart x) := by
  unfold State.lateStart
  split
  · exact h
  · exact ite (fun _ => (h.of_blank (by simp)).ev _ _) (fun _ => h)

theorem reqsAct (h : Shut s) (n : Fin 4) (op : Nat) : Shut (s.reqsAct n op) := by
  unfold State.reqsAct
  refine foldl (fun t x ht => ?_) _ h
  split
  · exact ht
  · exact (ht.setHop x _).lateStart x

theorem endReqs (h : Shut s) (n : Fin 4) (op code detail : Nat) : Shut (s.endReqs n op code detail) :=
  foldl (fun _ _ ht => ht.finish _ _ _ _) _ (ite (fun _ => h.reqsAct n op) (fun _ => h))

theorem cancelOpposed (h : Shut s) (n : Fin 4) (on : Bool) : Shut (s.cancelOpposed n on) := (h.reqsAct n _).endReqs n _ _ _

theorem devIdle (h : Shut s) : Shut s.devIdle := h.of_blank (by simp)
theorem keyDrop (h : Shut s) : Shut s.keyDrop := h.of_blank (by simp)

theorem axToOff (h : Shut s) (n : Fin 4) : Shut (s.axToOff n) := by
  have hd {t : State} (ht : Shut t) : Shut (t.gatesDead n) := ht.updGate n fun _ => rfl
  unfold State.axToOff
  exact (((hd (h.setSeq n _)).cancelOpposed n false).endReqs n 0x0102 1 0).devIdle.keyDrop

theorem axSafe (h : Shut s) (n : Fin 4) (code : Nat) : Shut (s.axSafe n code) := by
  unfold State.axSafe
  split
  · exact h
  · exact h
  · have hx := (((h.switchesOff n).brakeOff n).dropAxis n 6 code).endUnacted n 6 code
    have hl := ite (c := s.axReady n = true) (fun _ => hx.of_blank (State.lostPos_blank (by simp) _ n (s.movedLately n))) (fun _ => hx)
    have hr := (((hl.abandonTest n 0xFFFF).setTest n none).switchesOff n).endReqs n 0x0101 6 code
    have hu := hr.updCur n (fun x => { x with hold := .off })
    have hm (m : BitVec 4) : ∀ {t : State}, Shut t → Shut { t with faults := { t.faults with safeAx := m } } :=
      fun ht => ⟨⟨ht.hwOff, ht.brakes⟩, ht.device⟩
    exact ite (fun _ => (hm _ hu).axToOff n) (fun _ => ite (fun _ => (hm _ hu).setSeq n _) (fun _ => (hm _ hu).setSeq n _))

theorem bistEnd (h : Shut s) : Shut s.bistEnd := by
  unfold State.bistEnd
  split
  · exact h
  · have ht : Shut { s with svc := { s.svc with bistHop := none } } := h.of_blank (by simp)
    exact ite (fun _ => h) (fun _ => ite (fun _ => ht.finish _ _ _ _) (fun _ => ite (fun _ => ht.finish _ _ _ _)
      (fun _ => (ht.ev _ _).doneWith _ _)))

theorem bistGo (h : Shut s) (old : Option Nat) (l : List Nat) : Shut (s.bistGo old l) := by
  have hl : Shut { s with svc := { s.svc with bistTodo := l } } := h.of_blank (by simp)
  exact ite (fun _ => hl) (fun _ => (hl.of_blank (State.bistBegin_blank (by simp) (by simp) _)).bistEnd)

theorem bistCancel (h : Shut s) (which : Nat → Bool) : Shut (s.bistCancel which) := by
  unfold State.bistCancel
  have hm (t : State) (k : Nat) (ht : Shut t) : Shut (t.bistMark k 3) := ht.of_blank (by simp)
  exact ite (fun _ => h) (fun _ => (foldl (fun t k ht => ite (fun _ => (hm t k ht).setSeq _ _) (fun _ => hm t k ht)) _ h).bistGo _ _)

theorem actoClear (h : Shut s) : Shut s.actoClear :=
  forAxes (fun n _ ht => ite (fun _ => ht.switchesOff n) (fun _ => ht)) (h.updTwin _)

theorem busModes (h : Shut s) : Shut s.busModes := h.of_blank (by simp)

theorem leaveActive (h : Shut s) (next : TwinRole) : Shut (s.leaveActive next) := (h.actoClear.updTwin _).busModes

end Shut

/-! ### The hardware reaction -/

theorem startOff_startOff (x : SwitchSt) : x.startOff.startOff = x.startOff := by
  by_cases h : x.turning = true
  · have e : x.startOff = { x with phase := .offP1, skip := false } := if_pos h
    rw [e]
    rfl
  · have e : x.startOff = x := if_neg h
    rw [e, e]

theorem allOff_allOff (b : BridgeSt) (T pulse : Nat) : (b.allOff T pulse).allOff T pulse = b.allOff T pulse := by
  simp only [BridgeSt.allOff, BridgeSt.startOff, if_true, Bool.false_eq_true, if_false, startOff_startOff, BridgeSt.lowEnds]
  cases b.lowAt with
  | none => simp [startOff_startOff]
  | some t => by_cases h : t + pulse ≤ T <;> simp [h, startOff_startOff]

/-- Every half-bridge turns off and hardware holds the axis off. -/
def GateSt.held (g : GateSt) (T pulse : Nat) : GateSt := { g.mapBr (fun b => b.allOff T pulse) with hwOff := true }

theorem held_mapBr (g : GateSt) (T pulse : Nat) : (g.held T pulse).mapBr (fun b => b.allOff T pulse) = g.held T pulse := by
  simp [GateSt.held, GateSt.mapBr, allOff_allOff]

/-- The gates of `t` are those of `s` turned off and held off, at the same tick and under the same parameters. -/
structure HeldFrom (s t : State) : Prop where
  gate : ∀ n, t.gate.get n = (s.gate.get n).held s.frame.tickBase (s.ps n 0x11)
  frame : t.frame = s.frame
  params : t.params = s.params

theorem HeldFrom.switchesOff {s t : State} (h : HeldFrom s t) (n : Fin 4) : HeldFrom s (t.switchesOff n) where
  gate m := by
    have hp : t.ps n 0x11 = s.ps n 0x11 := by rw [State.ps, State.par, h.params]; rfl
    rw [State.switchesOff, updGate_gate, Quad.get_upd, h.frame, hp]
    split
    · next e => rw [h.gate, held_mapBr, e]
    · exact h.gate m
  frame := h.frame
  params := h.params

theorem HeldFrom.of_blank {s t u : State} (h : HeldFrom s t) (e : u.blank [.mon, .twin] = t.blank [.mon, .twin]) : HeldFrom s u :=
  ⟨by rw [only_gate e (by simp)]; exact h.gate, (only_frame e (by simp)).trans h.frame, (only_params e (by simp)).trans h.params⟩

theorem HeldFrom.actoClear {s t : State} (h : HeldFrom s t) : HeldFrom s t.actoClear := by
  have hs (n : Fin 4) {t : State} (ht : HeldFrom s t) : HeldFrom s (if t.paired n then t.switchesOff n else t) := by
    split
    · exact ht.switchesOff n
    · exact ht
  exact hs 3 (hs 2 (hs 1 (hs 0 (h.of_blank (by simp)))))

/-- The switches of one axis turn off and hardware holds it off. -/
def State.axHeld (s : State) (n : Fin 4) : State := (s.switchesOff n).updGate n (fun g => { g with hwOff := true })

theorem axHeld_gate (s : State) (n m : Fin 4) :
    (s.axHeld n).gate.get m = if m = n then (s.gate.get n).held s.frame.tickBase (s.ps n 0x11) else s.gate.get m := by
  rw [State.axHeld, updGate_gate, Quad.get_upd, State.switchesOff, updGate_gate, Quad.get_upd, if_pos rfl, Quad.get_upd]
  split <;> rfl

theorem axHeld_frame (s : State) (n : Fin 4) : (s.axHeld n).frame = s.frame := rfl

theorem axHeld_params (s : State) (n : Fin 4) : (s.axHeld n).params = s.params := rfl

theorem axHeld_ps (s : State) (n m : Fin 4) (i : Nat) : (s.axHeld n).ps m i = s.ps m i := rfl

theorem gatesHeld (s : State) : HeldFrom s (forAxes s (fun n t => t.axHeld n)) where
  gate n := by
    simp only [forAxes, axHeld_gate, axHeld_frame, axHeld_ps]
    fin_cases n <;> rfl
  frame := by simp only [forAxes, axHeld_frame]
  params := by simp only [forAxes, axHeld_params]

theorem hardOff_eq (s : State) : s.hardOff = ((forAxes s (fun n t => t.axHeld n)).brakesOff).actoClear := rfl

theorem hardOff_heldFrom (s : State) : HeldFrom s s.hardOff := by
  rw [hardOff_eq]
  exact ((gatesHeld s).of_blank (by simp)).actoClear

theorem brakesOff_on (s : State) (n : Fin 4) : (s.brakesOff.mon.brakes.get n).on = false := by
  fin_cases n <;> rfl

theorem hardOff_held (s : State) : Held s.hardOff where
  hwOff n := by rw [(hardOff_heldFrom s).gate]; rfl
  brakes n := by
    unfold State.hardOff
    rw [only_mon (w := [.gate, .twin]) (State.actoClear_blank (by simp) (by simp) _) (by simp)]
    exact brakesOff_on _ n

theorem hardOff_bridge (s : State) (n b : Fin 4) :
    s.hardOff.bridge n b = (s.bridge n b).allOff s.frame.tickBase (s.ps n 0x11) := by
  rw [State.bridge, (hardOff_heldFrom s).gate, State.bridge]
  fin_cases b <;> rfl

theorem hardOff_acto (s : State) : s.hardOff.twin.acto = false := by
  have h (n : Fin 4) (t : State) : (if t.paired n then t.switchesOff n else t).twin = t.twin := by split <;> rfl
  exact congrArg TwinSt.acto ((h 3 _).trans ((h 2 _).trans ((h 1 _).trans (h 0 _))))

/-- A device whose gates are held off and that enters SAFE is shut. -/
theorem Held.enterSafe {s : State} (h : Held s) (code : Nat) : Shut (s.enterSafe code) := by
  unfold State.enterSafe
  split
  · next hd => exact ⟨⟨h.hwOff, h.brakes⟩, hd⟩
  · have h0 : Shut { s with faults := { s.faults with device := true, cause := code, safeDue := none } } := ⟨⟨h.hwOff, h.brakes⟩, rfl⟩
    have h1 := ((Shut.forAxes (fun n _ ht => ht.switchesOff n) h0).forAxes (fun b _ ht => ht.brakeOut b)).bistCancel (fun k => decide (8 ≤ k))
    exact ((Shut.ite (fun _ => h1.leaveActive .off) (fun _ => h1)).forAxes (fun n _ ht => ht.axSafe n code)).ev 0x0021 code

end Sys2Proof.Machine
end

section
/-! The clock rows that end in one state written out, and what notes and events leave. -/

namespace Sys2Proof.Machine

/-! ### What notes and events leave -/

theorem noteFree_faults (s : State) (code : Nat) (axes : BitVec 4) (cond : Bool) :
    (s.noteFree code axes cond).faults = { s.faults with raised := s.faults.raised ++ [(code, Config.freeValue s.free, axes, cond)] } := rfl

theorem noteFree_clock (s : State) (code : Nat) (axes : BitVec 4) (cond : Bool) : (s.noteFree code axes cond).clock = s.clock := rfl

theorem ev_events (s : State) (code qual : Nat) :
    (s.ev code qual).faults.events =
      (if 255 ≤ s.faults.events.length then s.faults.events.drop 1 else s.faults.events) ++ [(code, qual % 65536, s.frame.counter)] := by
  unfold State.ev
  dsimp only
  (repeat' split) <;> simp_all

theorem evFree_last (s : State) (code : Nat) :
    ∃ q, (s.evFree code).faults.events.getLast? = some (code, q, s.frame.counter) :=
  ⟨s.fresh.1 % 65536, by rw [State.evFree, ev_events]; simp⟩

theorem evFree_frame (s : State) (code : Nat) : (s.evFree code).frame = s.frame :=
  only_frame (w := allBut .frame) (by simp) (by simp)

theorem evFree_clock (s : State) (code : Nat) : (s.evFree code).clock = s.clock :=
  only_clock (w := allBut .clock) (by simp) (by simp)

/-! ### The crystal -/

theorem crystalLoss_noted {s : State} (hs : s.sysAwake = true) (hc : s.clock.crystal = .good) :
    exec .crystalLoss s = .next (s.crystalOff.noteFree 0x1401 0 true) := by
  simp [exec, execCrystalLoss, hs, hc]

/-- The state of a boundary at which the crystal has been measured. -/
def State.qualifying (s : State) (devs : List Nat) (c : Crystal) : State :=
  { s with clock := { s.clock with crystal := c, qual := s.bandRun devs } }

theorem crystalRestore_declared {s : State} {devs : List Nat} (hf : s.frame.running = true) (hc : s.clock.crystal ≠ .good)
    (hr : s.clock.onRc = true) (ha : s.allAtRest = true) (hn : s.clock.retryAt = none) (hq : s.par 0x0031 ≤ s.bandRun devs) :
    exec (.crystalRestore devs) s = .next (s.qualifying devs .qualified).declareRestore := by
  have hrest : (s.qualifying devs .qualified).allAtRest = true := ha
  show execCrystalRestore devs s = _
  unfold execCrystalRestore
  dsimp only
  rw [if_neg (by simp [hf, hc, hr, hn]), decide_eq_true hq, if_pos rfl]
  exact congrArg _ (if_pos hrest)

theorem crystalRestore_counting {s : State} {devs : List Nat} (hf : s.frame.running = true) (hc : s.clock.crystal ≠ .good)
    (hr : s.clock.onRc = true) (hn : s.clock.retryAt = none) (hq : s.bandRun devs < s.par 0x0031) :
    exec (.crystalRestore devs) s = .next { s with clock := { s.clock with crystal := .lost, qual := s.bandRun devs } } := by
  simp [exec, execCrystalRestore, hf, hc, hr, hn, Nat.not_le.mpr hq]

theorem declareRestore_clock (s : State) :
    s.declareRestore.clock =
      { s.clock with crystal := .good, onRc := false, qual := 0, pllm := .seeking
                     pllc := if s.domReady .net then .seeking else .stopped, pllt := if s.domReady .twin then .seeking else .stopped
                     settle := some s.frame.counter, restored := some s.frame.counter, abandoned := none, retryAt := none } :=
  evFree_clock _ _

theorem declareRestore_frame (s : State) : s.declareRestore.frame = s.frame := evFree_frame _ _

/-! ### SYNC -/

theorem syncTrim_natAbs (top : Nat) (phase : Int) :
    (syncTrim top phase).natAbs =
      if phase.natAbs = 0 then 0 else if top ≤ phase.natAbs then top else 1 + Config.syncGain phase % phase.natAbs := by
  unfold syncTrim
  dsimp only
  (repeat' split) <;> omega

theorem syncTrim_bounds (top : Nat) (phase : Int) :
    (syncTrim top phase).natAbs ≤ top ∧ (syncTrim top phase).natAbs ≤ phase.natAbs ∧ 0 ≤ phase * syncTrim top phase ∧
      (top ≤ phase.natAbs → (syncTrim top phase).natAbs = top) := by
  have hg : phase.natAbs ≠ 0 → Config.syncGain phase % phase.natAbs < phase.natAbs := fun h => Nat.mod_lt _ (by omega)
  have hsign : 0 ≤ phase * syncTrim top phase := by
    unfold syncTrim
    dsimp only
    generalize (if phase.natAbs = 0 then 0 else if top ≤ phase.natAbs then top else 1 + Config.syncGain phase % phase.natAbs) = m
    split
    · exact Int.mul_nonneg_of_nonpos_of_nonpos (by omega) (by omega)
    · exact Int.mul_nonneg (by omega) (by omega)
  rw [syncTrim_natAbs]
  refine ⟨?_, ?_, hsign, ?_⟩ <;> (repeat' split) <;> omega

/-- The input has risen. -/
def State.syncHigh (s : State) : State := { s with pins := { s.pins with sync := true } }

theorem syncEdge_accepted {s : State} {off : Nat} (hf : s.frame.running = true) (hp : s.par 0x0010 = 2)
    (hl : ∀ p, s.frame.syncLast = some p → p + 9000 ≤ s.tickAt off) :
    exec (.syncEdge off true) s = .next { s.syncHigh with
      frame := { s.frame with syncLast := some (s.tickAt off), syncLost := false, syncTrim := syncTrim (s.par 0x0012) (if off ≤ 5000 then off else (off : Int) - 10000) } } := by
  have hi : ¬ (s.par 0x0010 != 2 || !true) = true := by simp [hp]
  refine congrArg Host.Outcome.next ((if_neg (by simp [hf])).trans ((if_neg hi).trans (if_neg ?_)))
  change ¬ (match s.frame.syncLast with | some t => decide (s.tickAt off < t + 9000) | none => false) = true
  cases hsl : s.frame.syncLast with
  | none => simp
  | some p => simpa using hl p hsl

/-- An edge within 0.9 f of the last accepted one is rejected. -/
theorem syncEdge_rejected {s : State} {off p : Nat} (hf : s.frame.running = true) (hp : s.par 0x0010 = 2)
    (hl : s.frame.syncLast = some p) (hn : s.tickAt off < p + 9000) :
    exec (.syncEdge off true) s = .next (
      if (s.syncHigh.bumpReject 192).frame.syncRej then s.syncHigh.bumpReject 192
      else ({ s.syncHigh.bumpReject 192 with frame := { (s.syncHigh.bumpReject 192).frame with syncRej := true } } : State).evFree 0x0003) := by
  have hi : ¬ (s.par 0x0010 != 2 || !true) = true := by simp [hp]
  refine congrArg Host.Outcome.next ((if_neg (by simp [hf])).trans ((if_neg hi).trans (if_pos ?_)))
  change (match s.frame.syncLast with | some t => decide (s.tickAt off < t + 9000) | none => false) = true
  simp [hl, hn]

theorem syncEdge_fall {s : State} (off : Nat) (hf : s.frame.running = true) :
    exec (.syncEdge off false) s = .next { s with pins := { s.pins with sync := false } } := by
  simp [exec, execSyncEdge, hf]

end Sys2Proof.Machine
end

section
/-! Lockstep, the crystal's return, and the lock of the main PLL: what each row leaves. -/

namespace Sys2Proof.Machine

/-! ### What a raised fault leaves -/

theorem insertBy_any {α : Type} (lt : α → α → Bool) (p : α → Bool) (a : α) (l : List α) :
    (insertBy lt a l).any p = (p a || l.any p) := by
  induction l with
  | nil => rfl
  | cons b r ih =>
    unfold insertBy
    split
    · rfl
    · rw [List.any_cons, ih, List.any_cons, Bool.or_left_comm]

theorem any_code_map (l : List FaultEnt) {f : FaultEnt → FaultEnt} (hf : ∀ e, (f e).code = e.code) (k : Nat) :
    (l.map f).any (fun e => e.code == k) = l.any (fun e => e.code == k) := by
  rw [List.any_map]
  exact congrArg l.any (funext fun e => congrArg (· == k) (hf e))

/-- Raising a fault makes its code active and takes none away. -/
theorem raiseAs_faultActive (s : State) (cls : Option Nat) (code qual : Nat) (axes : BitVec 4) (cond : Bool) (k : Nat) :
    (s.raiseAs cls code qual axes cond).faultActive k = (code == k || s.faultActive k) := by
  unfold State.raiseAs State.faultActive
  dsimp only
  split
  · next h =>
    rw [any_code_map _ (fun e => by split <;> rfl)]
    by_cases hk : code = k
    · rw [← hk, h, Bool.or_true]
    · simp [hk]
  · rw [insertBy_any]

theorem raiseFree_faultActive (s : State) (code : Nat) (axes : BitVec 4) (cond : Bool) (k : Nat) :
    (s.raiseFree code axes cond).faultActive k = (code == k || s.faultActive k) := raiseAs_faultActive _ _ _ _ _ _ _

/-- Every fault that a list of PLLs raises is active afterwards. -/
theorem raised_of_mem {q : Fin 3} {l : List (Fin 3)} (hq : q ∈ l) (s : State) :
    (l.foldl (fun t q => t.raiseFree (pllFault q) 0 true) s).faultActive (pllFault q) = true := by
  have keep (l : List (Fin 3)) (s : State) (h : s.faultActive (pllFault q) = true) :
      (l.foldl (fun t q => t.raiseFree (pllFault q) 0 true) s).faultActive (pllFault q) = true := by
    induction l generalizing s with
    | nil => exact h
    | cons p r ih => exact ih _ (by rw [raiseFree_faultActive, h, Bool.or_true])
  induction l generalizing s with
  | nil => cases hq
  | cons p r ih =>
    rcases List.mem_cons.mp hq with e | hr
    · exact keep r _ (by rw [raiseFree_faultActive, e]; simp)
    · exact ih hr _

/-! ### The clock after the operations that do not move it -/

theorem busModes_clock (s : State) : s.busModes.clock = s.clock := only_clock (w := allBut .clock) (by simp) (by simp)

theorem linksLost_clock (s : State) : s.linksLost.clock = { s.clock with listen := true } := by
  unfold State.linksLost
  have h (s : State) : (if s.twin.link == .up then (s.ev 0x0805 0).updTwin (fun t => { t with link := .down })
      else s.updTwin (fun t => { t with link := .down })).clock = s.clock := only_clock (w := allBut .clock) (by simp) (by simp)
  exact (h _).trans (busModes_clock _)

theorem haltEnabled_clock (s : State) (code : Nat) : (s.haltEnabled code).clock = s.clock :=
  only_clock (w := allBut .clock) (by simp) (by simp)

theorem hardOff_clock (s : State) : s.hardOff.clock = s.clock := only_clock (w := allBut .clock) (by simp) (by simp)

theorem hardOff_faults (s : State) : s.hardOff.faults = s.faults := only_faults (w := allBut .faults) (by simp) (by simp)

theorem enterSafe_clock (s : State) (code : Nat) : (s.enterSafe code).clock = s.clock :=
  only_clock (w := allBut .clock) (by simp) (by simp)

theorem enterSafe_frame (s : State) (code : Nat) : (s.enterSafe code).frame = s.frame :=
  only_frame (w := allBut .frame) (by simp) (by simp)

theorem busModes_frame (s : State) : s.busModes.frame = s.frame := only_frame (w := allBut .frame) (by simp) (by simp)

/-! ### Lockstep -/

/-- What a mismatch notes: FT-0x1202, and SAFE in the next frame (R31). -/
def State.mismatch (s : State) : State :=
  { s.noteFree 0x1202 0 false with faults := { (s.noteFree 0x1202 0 false).faults with safeDue := some 0x1202 } }

theorem mismatch_faults (s : State) :
    s.mismatch.faults = { s.faults with raised := s.faults.raised ++ [(0x1202, Config.freeValue s.free, 0, false)], safeDue := some 0x1202 } := rfl
theorem mismatch_gate (s : State) : s.mismatch.gate = s.gate := rfl
theorem mismatch_mon (s : State) : s.mismatch.mon = s.mon := rfl
theorem mismatch_twin (s : State) : s.mismatch.twin = s.twin := rfl

theorem lockstepMismatch_eq {s : State} (hs : s.sysAwake = true) : exec .lockstepMismatch s = .next s.hardOff.mismatch := by
  change execLockstepMismatch s = _
  unfold execLockstepMismatch
  rw [hs]
  rfl

theorem lockstep_held {s : State} (hs : s.sysAwake = true) :
    Answers .lockstepMismatch s (fun t => t.faults.safeDue = some 0x1202 ∧ (∃ q, t.faults.raised = s.faults.raised ++ [(0x1202, q, 0, false)]) ∧
      t.twin.acto = false ∧ (∀ n : Fin 4, (t.gate.get n).hwOff = true ∧ (t.mon.brakes.get n).on = false ∧
        ∀ b : Fin 4, t.bridge n b = (s.bridge n b).allOff s.frame.tickBase (s.ps n 0x11))) := by
  refine ⟨_, lockstepMismatch_eq hs, ?_⟩
  dsimp only
  rw [mismatch_faults, mismatch_twin, mismatch_mon, hardOff_faults]
  refine ⟨rfl, ⟨_, rfl⟩, hardOff_acto s, fun n => ⟨?_, (hardOff_held s).brakes n, fun b => ?_⟩⟩
  · rw [mismatch_gate]
    exact (hardOff_held s).hwOff n
  · rw [State.bridge, mismatch_gate]
    exact hardOff_bridge s n b

/-! ### The crystal -/

theorem crystalLoss_lost {s : State} (hs : s.sysAwake = true) (hc : s.clock.crystal = .good) :
    Answers .crystalLoss s (fun t => t.clock.crystal = .lost ∧ t.clock.onRc = true ∧ t.clock.pllc = .stopped ∧ t.clock.pllt = .stopped ∧
      t.clock.qual = 0 ∧ t.clock.lostAt = s.frame.counter ∧
      ∃ q, t.faults.raised = s.faults.raised ++ [(0x1401, q, 0, true)]) :=
  ⟨_, crystalLoss_noted hs hc, rfl, rfl, rfl, rfl, rfl, rfl, _, rfl⟩

theorem crystalRestore_good {s : State} {devs : List Nat} (hf : s.frame.running = true) (hc : s.clock.crystal ≠ .good)
    (hr : s.clock.onRc = true) (ha : s.allAtRest = true) (hn : s.clock.retryAt = none) (hq : s.par 0x0031 ≤ s.bandRun devs) :
    Answers (.crystalRestore devs) s (fun t => t.clock.crystal = .good ∧ t.clock.onRc = false ∧ t.clock.settle = some s.frame.counter ∧
      t.clock.restored = some s.frame.counter ∧ t.clock.pllm = .seeking ∧
      t.clock.pllc = (if s.domReady .net then .seeking else .stopped) ∧ t.frame = s.frame) := by
  refine ⟨_, crystalRestore_declared hf hc hr ha hn hq, ?_⟩
  dsimp only
  rw [declareRestore_clock, declareRestore_frame]
  exact ⟨rfl, rfl, rfl, rfl, rfl, rfl, rfl⟩

/-- The clock of a settling window that ends (Table ARCH-4). -/
def ClockSt.windowEnd (c : ClockSt) : ClockSt :=
  { c with settle := none, pllm := .locked, pllc := if c.pllc == .seeking then .locked else c.pllc
           restored := if c.pllt == .seeking then c.restored else none }

/-- What a restored clock ends: the beacon's time stamps, and the causes of the clock faults. -/
def State.clockBack (s : State) : State :=
  (((forPorts s (fun p t => t.updPort p (fun q => { q with ptx := none }))).condEnd 0x1401).condEnd 0x1402).condEnd 0x1403

theorem clockBack_clock (s : State) : s.clockBack.clock = s.clock :=
  only_clock (w := allBut .clock) (by simp [State.clockBack]) (by simp)

/-- The state of a settling window that ends, before the commands it held start. -/
def State.windowEnd (s : State) : State :=
  (({ s with clock := s.clock.windowEnd } : State).busBack.evFree 0x1402).clockBack

theorem windowEnd_clock (s : State) : s.windowEnd.clock = { s.clock.windowEnd with listen := false } := by
  rw [State.windowEnd, clockBack_clock, evFree_clock, State.busBack, busModes_clock]

theorem settlingEnd_locked {s : State} {d : BitVec 32} (hd : s.clock.settle = some d) (hf : s.frame.running = true) (h10 : s.since d ≤ 10) :
    ∃ u : State, exec .clockSettlingEnd s = .next u.settle ∧ u.clock.settle = none ∧ u.clock.pllm = .locked ∧ u.clock.listen = false ∧
      (s.clock.pllc = .seeking → u.clock.pllc = .locked) := by
  refine ⟨s.windowEnd, ?_, ?_⟩
  · have hn : ¬ (!s.frame.running || decide (10 < s.since d)) = true := by simp [hf, h10]
    change execClockSettlingEnd s = _
    unfold execClockSettlingEnd
    rw [hd]
    exact congrArg Host.Outcome.next (if_neg hn)
  · rw [windowEnd_clock]
    exact ⟨rfl, rfl, rfl, fun h => by simp [ClockSt.windowEnd, h]⟩

/-! ### Lock timeouts and losses -/

/-- A failed clock return: the state of R21 is taken again, and every PLL of `bad` raises its fault. -/
def State.returnFailed (s : State) (p : Fin 3) (bad : List (Fin 3)) : State :=
  bad.foldl (fun t q => t.raiseFree (pllFault q) 0 true) (s.crystalOff.linksLost.haltEnabled (pllFault p))

theorem returnFailed_clock (s : State) (p : Fin 3) (bad : List (Fin 3)) :
    (s.returnFailed p bad).clock = { s.crystalOff.clock with listen := true } := by
  have h : (s.returnFailed p bad).clock = (s.crystalOff.linksLost.haltEnabled (pllFault p)).clock :=
    only_clock (w := allBut .clock) (by simp [State.returnFailed]) (by simp)
  rw [h, haltEnabled_clock, linksLost_clock]

theorem pllLockTimeout_eq {s : State} {d : BitVec 32} {p : Fin 3} (hf : s.frame.running = true) (hr : s.clock.restored = some d)
    (hp : s.pll p = .seeking) (h10 : 10 ≤ s.since d) :
    exec (.pllLockTimeout p) s =
      .next { s.returnFailed p ([0, 1, 2].filter (fun q => s.pll q == .seeking)) with
        clock := { (s.returnFailed p ([0, 1, 2].filter (fun q => s.pll q == .seeking))).clock with
          retryAt := some (s.frame.counter + BitVec.ofNat 32 (20 * s.par 0x0031)) } } := by
  have hn : ¬ (!s.frame.running || s.pll p != .seeking || decide (s.since d < 10)) = true := by simp [hf, hp, h10]
  change execPllLockTimeout p s = _
  unfold execPllLockTimeout
  rw [hr]
  exact congrArg Host.Outcome.next (if_neg hn)

theorem pllLockTimeout_retried {s : State} {d : BitVec 32} (hf : s.frame.running = true) (hr : s.clock.restored = some d)
    (hp : s.clock.pllc = .seeking) (h10 : 10 ≤ s.since d) :
    Answers (.pllLockTimeout 1) s (fun t => t.clock.crystal = .lost ∧ t.clock.pllc = .stopped ∧ t.clock.pllt = .stopped ∧
      t.clock.retryAt = some (s.frame.counter + BitVec.ofNat 32 (20 * s.par 0x0031)) ∧ t.faultActive 0x1403 = true) := by
  have hbad : (1 : Fin 3) ∈ ([0, 1, 2] : List (Fin 3)).filter (fun q => s.pll q == .seeking) := by simp [State.pll, hp]
  refine ⟨_, pllLockTimeout_eq hf hr hp h10, ?_⟩
  have hraised := raised_of_mem hbad (s.crystalOff.linksLost.haltEnabled (pllFault 1))
  dsimp only
  rw [returnFailed_clock]
  exact ⟨rfl, rfl, rfl, rfl, hraised⟩

/-- The state of a lost PLLM before the device enters SAFE: no frame runs and no command is taken (R25). -/
def State.pllmLost (s : State) : State :=
  let t := s.hardOff
  { t with clock := { t.clock with pllm := .seeking, halted := true }, frame := { t.frame with running := false }
           intake := { t.intake with starts := 0 } }

/-- FT-0x1402 of a lost PLLM. -/
def State.pllmFault (s : State) : State := (s.fresh.2.raiseAs (some 1) 0x1402 s.fresh.1 0 false).markLock 0x1402

theorem pllmLost_held (s : State) : Held s.pllmLost := ⟨(hardOff_held s).hwOff, (hardOff_held s).brakes⟩

theorem pllmLost_clock (s : State) : s.pllmLost.clock = { s.clock with pllm := .seeking, halted := true } := by
  rw [State.pllmLost, hardOff_clock]

theorem pllmFault_held {s : State} (h : Held s) : Held s.pllmFault := h.of_blank (by simp [State.pllmFault])

theorem pllmFault_clock (s : State) : s.pllmFault.clock = s.clock := rfl

theorem pllmFault_frame (s : State) : s.pllmFault.frame = s.frame := rfl

theorem pllLockLoss_main {s : State} (hs : s.sysAwake = true) (hp : s.clock.pllm = .locked) :
    Answers (.pllLockLoss 0) s (fun t => t.clock.pllm = .seeking ∧ t.clock.halted = true ∧ t.frame.running = false ∧
      t.faults.device = true ∧ ∀ n : Fin 4, (t.gate.get n).hwOff = true ∧ (t.mon.brakes.get n).on = false) := by
  have hn : ¬ (!s.sysAwake || s.pll 0 != .locked) = true := by simp [hs, State.pll, hp]
  have he : exec (.pllLockLoss 0) s = .next (s.pllmLost.pllmFault.enterSafe 0x1402) := congrArg Host.Outcome.next (if_neg hn)
  have hshut := (pllmFault_held (pllmLost_held s)).enterSafe 0x1402
  refine ⟨_, he, ?_⟩
  dsimp only
  rw [enterSafe_clock, enterSafe_frame, pllmFault_clock, pllmFault_frame, pllmLost_clock]
  exact ⟨rfl, rfl, rfl, hshut.device, fun n => ⟨hshut.hwOff n, hshut.brakes n⟩⟩

end Sys2Proof.Machine
end

section
/-! The lock of the CAN and twin PLLs, the relocks, the LF trim, the frame reference and calibration: what each row leaves. -/

namespace Sys2Proof.Machine

/-- The ports of a lost PLLC hold over. -/
def State.portsHoldOver (s : State) : State :=
  forPorts s (fun q t => t.updPort q (fun x => if x.sync == .synced then { x with sync := .holdover } else x))

theorem portsHoldOver_sync (s : State) (p : Fin 2) (h : (s.ports.get p).sync = .synced) : (s.portsHoldOver.ports.get p).sync = .holdover := by
  simp only [State.portsHoldOver, forPorts, updPort_ports, Duo.get_upd]
  fin_cases p <;> simp_all

theorem pllLockLoss_can {s : State} (hs : s.sysAwake = true) (hp : s.clock.pllc = .locked) (hc : s.clock.crystal = .good) :
    Answers (.pllLockLoss 1) s (fun t => t.clock.pllc = .seeking ∧ (∃ q, t.faults.raised = s.faults.raised ++ [(0x1403, q, 0, true)]) ∧
      ∀ p : Fin 2, (s.ports.get p).sync = .synced → (t.ports.get p).sync = .holdover) := by
  have hn : ¬ (!s.sysAwake || s.pll 1 != .locked) = true := by simp [hs, State.pll, hp]
  have hg : ¬ (s.clock.crystal != .good) = true := by simp [hc]
  have he : exec (.pllLockLoss 1) s =
      .next (({ s with clock := { s.clock with pllc := .seeking } } : State).portsHoldOver.noteFree 0x1403 0 true) :=
    congrArg Host.Outcome.next ((if_neg hn).trans (if_neg hg))
  exact ⟨_, he, rfl, ⟨_, rfl⟩, fun p h => portsHoldOver_sync _ p h⟩

theorem ev_raised (s : State) (code qual : Nat) : (s.ev code qual).faults.raised = s.faults.raised := by
  unfold State.ev
  dsimp only
  (repeat' split) <;> rfl

/-- The twin link is down; its loss is reported where it was up (R25). -/
def State.twinFalls (s : State) : State :=
  (if s.twin.link == .up then s.ev 0x0805 0 else s).updTwin (fun t => { t with link := .down })

theorem twinFalls_clock (s : State) : s.twinFalls.clock = s.clock := only_clock (w := allBut .clock) (by simp [State.twinFalls]) (by simp)

theorem twinFalls_raised (s : State) : s.twinFalls.faults.raised = s.faults.raised := by
  unfold State.twinFalls
  split
  · exact ev_raised s _ _
  · rfl

theorem pllLockLoss_twin {s : State} (hs : s.sysAwake = true) (hp : s.clock.pllt = .locked) (hc : s.clock.crystal = .good) :
    Answers (.pllLockLoss 2) s (fun t => t.clock.pllt = .seeking ∧ t.twin.link = .down ∧
      ∃ q, t.faults.raised = s.faults.raised ++ [(0x1404, q, 0, true)]) := by
  have hn : ¬ (!s.sysAwake || s.pll 2 != .locked) = true := by simp [hs, State.pll, hp]
  have hg : ¬ (s.clock.crystal != .good) = true := by simp [hc]
  have he : exec (.pllLockLoss 2) s =
      .next (({ s with clock := { s.clock with pllt := .seeking } } : State).twinFalls.noteFree 0x1404 0 true) :=
    congrArg Host.Outcome.next ((if_neg hn).trans (if_neg hg))
  refine ⟨_, he, ?_⟩
  dsimp only
  rw [noteFree_clock, noteFree_faults, twinFalls_clock, twinFalls_raised]
  exact ⟨rfl, rfl, _, rfl⟩

theorem pllRelock_main {s : State} {us held : Nat} (periods : Nat) (hh : s.clock.halted = true) (hd : s.clock.dead = false)
    (hu : us - held ≤ 10000) (h100 : 100 ≤ held) :
    Answers (.pllRelock 0 us held periods) s (fun t => t.clock.pllm = .locked ∧ t.clock.halted = false ∧ t.frame.running = s.domReady .sys ∧
      t.frame.counter = s.frame.counter + BitVec.ofNat 32 (framesOf periods)) := by
  have hn : ¬ (!s.clock.halted || s.clock.dead) = true := by simp [hh, hd]
  have he : exec (.pllRelock 0 us held periods) s =
      .next (({ s with clock := { s.clock with pllm := .locked, halted := false } } : State).framesGone (framesOf periods) (s.domReady .sys)) :=
    congrArg Host.Outcome.next ((if_neg hn).trans ((if_neg (Nat.not_lt.mpr hu)).trans (if_neg (Nat.not_lt.mpr h100))))
  exact ⟨_, he, rfl, rfl, rfl, rfl⟩

theorem pllRelock_dead {s : State} {us held : Nat} (periods : Nat) (hh : s.clock.halted = true) (hd : s.clock.dead = false)
    (hu : 10000 < us - held) :
    exec (.pllRelock 0 us held periods) s = .next { s with clock := { s.clock with dead := true } } := by
  have hn : ¬ (!s.clock.halted || s.clock.dead) = true := by simp [hh, hd]
  exact congrArg Host.Outcome.next ((if_neg hn).trans (if_pos hu))

theorem pllRelock_can {s : State} {held : Nat} (us periods : Nat) (hp : s.clock.pllc = .seeking) (hw : s.clock.settle = none)
    (hc : s.clock.crystal = .good) (h50 : 50 ≤ held) :
    Answers (.pllRelock 1 us held periods) s (fun t => t.clock = { s.clock with pllc := .locked } ∧ t.frame = s.frame) := by
  have hn : ¬ (s.clock.pllc != .seeking || s.clock.settle.isSome || s.clock.crystal != .good || decide (held < 50)) = true := by
    simp [hp, hw, hc, h50]
  have hclock (t : State) : (if t.isoOn then t.isoAgain else t).clock = t.clock := only_clock (w := allBut .clock) (by simp) (by simp)
  have hframe (t : State) : (if t.isoOn then t.isoAgain else t).frame = t.frame := only_frame (w := allBut .frame) (by simp) (by simp)
  refine ⟨_, congrArg Host.Outcome.next (if_neg hn), ?_, ?_⟩
  · exact (hclock _).trans (busModes_clock _)
  · exact (hframe _).trans (busModes_frame _)

/-- A twin link that is down trains when the unit is on. -/
def State.twinTrains (s : State) : State :=
  if s.unitOn 8 && s.twin.link == .down then s.updTwin (fun t => { t with link := .training }) else s

theorem twinTrains_clock (s : State) : s.twinTrains.clock = s.clock := only_clock (w := allBut .clock) (by simp [State.twinTrains]) (by simp)

theorem twinTrains_link {s : State} (hu : s.unitOn 8 = true) (hl : s.twin.link = .down) : s.twinTrains.twin.link = .training := by
  rw [State.twinTrains, if_pos (by simp [hu, hl])]
  rfl

theorem pllRelock_twin {s : State} (us held periods : Nat) (hp : s.clock.pllt = .seeking) (hc : s.clock.crystal = .good) :
    Answers (.pllRelock 2 us held periods) s (fun t => t.clock.pllt = .locked ∧
      (s.unitOn 8 = true → s.twin.link = .down → t.twin.link = .training)) := by
  have hn : ¬ (s.clock.pllt != .seeking || s.clock.crystal != .good) = true := by simp [hp, hc]
  have he : exec (.pllRelock 2 us held periods) s =
      .next (({ s with clock := { s.clock with pllt := .locked, restored := if s.clock.settle.isNone then none else s.clock.restored } } :
        State).causeEnd 0x1404).twinTrains := congrArg Host.Outcome.next (if_neg hn)
  exact ⟨_, he, congrArg ClockSt.pllt (twinTrains_clock _), fun hu hl => twinTrains_link hu hl⟩

theorem lfTrim_far {s : State} {dev : Int} (hf : s.frame.running = true) (hc : s.clock.crystal = .good) (hd : 150 < dev.natAbs) :
    Answers (.lfTrim dev) s (fun t => t.clock = { s.clock with lfDev := dev } ∧ ∃ q, t.faults.raised = s.faults.raised ++ [(0x1405, q, 0, true)]) := by
  have hn : ¬ (!s.frame.running || s.clock.crystal != .good) = true := by simp [hf, hc]
  exact ⟨({ s with clock := { s.clock with lfDev := dev } } : State).noteFree 0x1405 0 true,
    congrArg Host.Outcome.next ((if_neg hn).trans (if_pos hd)), rfl, _, rfl⟩

theorem lfTrim_near {s : State} {dev : Int} (hf : s.frame.running = true) (hc : s.clock.crystal = .good) (hd : dev.natAbs ≤ 150) :
    Answers (.lfTrim dev) s (fun t => t.clock = { s.clock with lfDev := dev } ∧ t.faults.raised.length = s.faults.raised.length) := by
  have hn : ¬ (!s.frame.running || s.clock.crystal != .good) = true := by simp [hf, hc]
  exact ⟨({ s with clock := { s.clock with lfDev := dev } } : State).causeEnd 0x1405,
    congrArg Host.Outcome.next ((if_neg hn).trans (if_neg (Nat.not_lt.mpr hd))), rfl, List.length_map ..⟩

theorem bumpReject_frame (s : State) (pin : Nat) : (s.bumpReject pin).frame = s.frame :=
  only_frame (w := allBut .frame) (by simp) (by simp)

theorem bumpReject_clock (s : State) (pin : Nat) : (s.bumpReject pin).clock = s.clock :=
  only_clock (w := allBut .clock) (by simp) (by simp)

theorem evFree_pins (s : State) (code : Nat) : (s.evFree code).pins = s.pins :=
  only_pins (w := allBut .pins) (by simp) (by simp)

theorem syncEdge_noted {s : State} {off p : Nat} (hf : s.frame.running = true) (hp : s.par 0x0010 = 2)
    (hl : s.frame.syncLast = some p) (hn : s.tickAt off < p + 9000) :
    Answers (.syncEdge off true) s (fun t => t.frame = { s.frame with syncRej := true } ∧ t.clock = s.clock ∧
      t.pins = (s.syncHigh.bumpReject 192).pins) := by
  have hframe : (s.syncHigh.bumpReject 192).frame = s.frame := bumpReject_frame _ _
  have hclock : (s.syncHigh.bumpReject 192).clock = s.clock := bumpReject_clock _ _
  refine ⟨_, syncEdge_rejected hf hp hl hn, ?_⟩
  dsimp only
  generalize s.syncHigh.bumpReject 192 = t at hframe hclock
  split
  · next hr => exact ⟨by rw [hframe, ← hframe, ← hr], hclock, rfl⟩
  · rw [evFree_frame, evFree_clock, evFree_pins]
    exact ⟨by rw [hframe], hclock, rfl⟩

theorem syncReferenceLoss_noted {s : State} {off : Nat} (hf : s.frame.running = true) (hp : s.par 0x0010 = 2) (hk : s.frame.syncLost = false)
    (hl : ∀ p, s.frame.syncLast = some p → p + 200000 ≤ s.tickAt off) :
    Answers (.syncReferenceLoss off) s (fun t => t.frame = { s.frame with syncLost := true, trim := 0, syncTrim := 0 } ∧
      ∃ q, t.faults.events.getLast? = some (0x1202, q, s.frame.counter)) := by
  have he : exec (.syncReferenceLoss off) s =
      .next (({ s with frame := { s.frame with syncLost := true, trim := 0, syncTrim := 0 } } : State).evFree 0x1202) := by
    change execSyncReferenceLoss off s = _
    unfold execSyncReferenceLoss
    cases hsl : s.frame.syncLast with
    | none => exact congrArg Host.Outcome.next (if_neg (by simp [hf, hp, hk]))
    | some p => exact congrArg Host.Outcome.next (if_neg (by simp [hf, hp, hk, hl p hsl]))
  exact ⟨_, he, evFree_frame _ _, evFree_last _ _⟩

theorem frameTrimLimit_noted {s : State} (hf : s.frame.running = true) (hh : s.frame.trimHeld = 20) :
    Answers .frameTrimLimit s (fun t => t.frame = { s.frame with trimHeld := 21 } ∧
      ∃ q, t.faults.events.getLast? = some (0x1201, q, s.frame.counter)) :=
  ⟨_, congrArg Host.Outcome.next (if_pos (by simp [hf, hh])), evFree_frame _ _, evFree_last _ _⟩

theorem standstillRecal_starts {n : Fin 4} {s : State} (hf : s.frame.running = true) (hr : s.axReady n = true) (hc : (s.axSt n).calEnd = none)
    (hs : (s.motion.get n).still = true) (hq : s.par 0x0022 ≤ (s.motion.get n).stillF) (hp : s.par 0x0021 ≠ 0)
    (hl : 20000 * s.par 0x0021 ≤ s.since (s.axSt n).calLast) (hu : s.unstarted n = false) (ht : s.toAct n = false)
    (hi : ¬ (s.ax n 0x16 = 0 ∧ s.ax n 0x1C = 0)) :
    exec (.standstillRecalStart n) s =
      .next (((s.setSeq n (fun a => { a with calEnd := some (s.frame.counter + 2), recal := true })).takeAmp n 0).enterHold n .recal) :=
  congrArg Host.Outcome.next (if_pos (by simp [hf, hr, hc, hs, hq, hp, hl, hu, ht]; tauto))

theorem calibrationEnd_settles {n : Fin 4} {e : BitVec 32} {s : State} (he : (s.axSt n).calEnd = some e) (ha : s.ahead e ≤ 1) :
    exec (.calibrationEnd n) s = .next s.settle := by
  simp [exec, execCalibrationEnd, he, ha]

/-- Settles O1: each clause by the lemma on its row. -/
theorem clockComplete : Obligations.ClockComplete :=
  ⟨fun _ => lockstep_held, fun _ => crystalLoss_lost, fun _ _ => crystalRestore_good, fun _ _ => crystalRestore_counting,
    fun _ _ => settlingEnd_locked, fun _ _ => pllLockTimeout_retried, fun _ => pllLockLoss_main, fun _ => pllLockLoss_can,
    fun _ => pllLockLoss_twin, fun _ _ periods _ => pllRelock_main periods, fun _ _ periods _ => pllRelock_dead periods,
    fun us _ periods _ => pllRelock_can us periods, fun us held periods _ => pllRelock_twin us held periods,
    fun _ _ => lfTrim_far, fun _ _ => lfTrim_near, fun _ _ => syncEdge_accepted, syncTrim_bounds, fun _ _ _ => syncEdge_noted,
    fun off _ => syncEdge_fall off, fun _ _ => syncReferenceLoss_noted, fun _ => frameTrimLimit_noted,
    fun _ _ => standstillRecal_starts, fun _ _ _ => calibrationEnd_settles⟩

end Sys2Proof.Machine
end

section
/-! STEP pulses and microsteps: what a pulse and a microstep change of the motion, and what they leave. -/

namespace Sys2Proof.Machine

/-! ### Reject counters -/

theorem tabGet_tabSet_self (l : List (Nat × Nat)) (k : Nat) {v d : Nat} (h : v ≠ d) : tabGet (tabSet l k v d) k d = v := by
  induction l with
  | nil => simp [tabSet, tabGet, h]
  | cons x r ih =>
    obtain ⟨i, w⟩ := x
    rcases Nat.lt_trichotomy i k with hi | rfl | hi
    · simp [tabSet, tabGet, hi, hi.ne, ih]
    · simp [tabSet, tabGet, h]
    · simp [tabSet, tabGet, Nat.lt_asymm hi, hi.ne', h]

theorem evIf_pins (s : State) (c : Bool) (code qual : Nat) : (s.evIf c code qual).pins = s.pins :=
  only_pins (w := allBut .pins) (by simp) (by simp)

theorem bumpReject_rejects (s : State) (pin : Nat) : (s.bumpReject pin).rejects pin = min 0xFFFF (s.rejects pin + 1) := by
  unfold State.bumpReject
  dsimp only
  rw [State.rejects, evIf_pins, tabGet_tabSet_self _ _ (by omega)]

theorem bumpReject_motion (s : State) (pin : Nat) : (s.bumpReject pin).motion = s.motion :=
  only_motion (w := allBut .motion) (by simp) (by simp)

theorem bumpReject_divo (s : State) (pin : Nat) : (s.bumpReject pin).divo = s.divo :=
  only_divo (w := allBut .divo) (by simp) (by simp)

/-! ### STEP pulses -/

/-- A pulse of less than 40 ticks is rejected and counted (R67). -/
theorem stepPulse_short {n : Fin 4} {off high : Nat} {dir changed : Bool} {s : State} (hf : s.frame.running = true)
    (hp : s.pinModeV n = false) (hh : high < 40) :
    Answers (.stepPulse n off high dir changed) s (fun t => t.rejects (110 + 8 * n.val) = min 0xFFFF (s.rejects (110 + 8 * n.val) + 1) ∧
      t.motion = s.motion ∧ t.divo = s.divo) :=
  ⟨s.bumpReject (110 + 8 * n.val), congrArg Host.Outcome.next ((if_neg (by simp [hf, hp])).trans (if_pos (by simp [hh]))),
    bumpReject_rejects _ _, bumpReject_motion _ _, bumpReject_divo _ _⟩

/-- The edge of a pulse is taken at tick `T`: the next is measured from there (R67). -/
def State.pulseEdge (s : State) (n : Fin 4) (T : Nat) : State :=
  { s with pins := { s.pins with stepLast := s.pins.stepLast.set n (some (5 * T)) } }

theorem stepSettle_idle {s : State} {n : Fin 4} (T : Nat) (h : (s.motion.get n).stepWait = none) : s.stepSettle n T = s := by
  simp [State.stepSettle, h]

/-- A pulse that comes 1,000 ns or more after the one before waits for its acceptance (R67). -/
theorem stepPulse_taken {n : Fin 4} {off high : Nat} {dir : Bool} {s : State} (hf : s.frame.running = true)
    (hp : s.pinModeV n = false) (hh : 40 ≤ high) (hl : ∀ t, s.pins.stepLast.get n = some t → t + 1000 ≤ 5 * s.tickAt off)
    (hw : (s.motion.get n).stepWait = none) :
    exec (.stepPulse n off high dir false) s =
      .next ((s.pulseEdge n (s.tickAt off)).updMotion n (fun m => { m with stepWait := some (dir, s.tickAt off + 40) })) := by
  have hspaced : (match s.pins.stepLast.get n with | some t => decide (t + 1000 ≤ 5 * s.tickAt off) | none => true) = true := by
    cases hs : s.pins.stepLast.get n with
    | none => rfl
    | some t => exact decide_eq_true (hl t hs)
  have hidle : (s.pulseEdge n (s.tickAt off)).stepSettle n (s.tickAt off) = s.pulseEdge n (s.tickAt off) := stepSettle_idle _ hw
  refine congrArg Host.Outcome.next ((if_neg (by simp [hf, hp])).trans ((if_neg ?_).trans ?_))
  · change ¬ (decide (high < 40) || !(match s.pins.stepLast.get n with | some t => decide (t + 1000 ≤ 5 * s.tickAt off) | none => true)) = true
    simp [hspaced, Nat.not_lt.mpr hh]
  · exact congrArg (fun t : State => t.updMotion n (fun m => { m with stepWait := some (dir, s.tickAt off + 40) })) hidle

theorem stepPulse_waits {n : Fin 4} {off high : Nat} {dir : Bool} {s : State} (hf : s.frame.running = true)
    (hp : s.pinModeV n = false) (hh : 40 ≤ high) (hl : ∀ t, s.pins.stepLast.get n = some t → t + 1000 ≤ 5 * s.tickAt off)
    (hw : (s.motion.get n).stepWait = none) :
    Answers (.stepPulse n off high dir false) s (fun t => t.motion = s.motion.upd n (fun m => { m with stepWait := some (dir, s.tickAt off + 40) }) ∧
      t.pins.stepLast.get n = some (5 * s.tickAt off) ∧ s.only [.motion, .pins] t) :=
  ⟨_, stepPulse_taken hf hp hh hl hw, rfl, Quad.get_set_self _ _ _, by simp [State.only, State.pulseEdge]⟩

/-! ### The acceptance of a pulse -/

theorem divCount_motion (s : State) (src m : Nat) : (s.divCount src m).motion = s.motion :=
  only_motion (w := allBut .motion) (by simp) (by simp)

theorem evIf_motion (s : State) (c : Bool) (code qual : Nat) : (s.evIf c code qual).motion = s.motion :=
  only_motion (w := allBut .motion) (by simp) (by simp)

/-- A pulse is accepted: it waits no more, and an output divider that takes the axis's STEP input counts it (R401). -/
def State.pulseIn (s : State) (n : Fin 4) : State := (s.updMotion n (fun m => { m with stepWait := none })).divCount (0x30 + n.val) 1

theorem pulseIn_motion (s : State) (n : Fin 4) : (s.pulseIn n).motion = s.motion.upd n (fun m => { m with stepWait := none }) :=
  divCount_motion _ _ _

theorem pulseIn_params (s : State) (n : Fin 4) : (s.pulseIn n).params = s.params :=
  only_params (w := allBut .params) (by simp [State.pulseIn]) (by simp)

theorem ax_of_params {s t : State} (h : t.params = s.params) (n : Fin 4) (i : Nat) : t.ax n i = s.ax n i := by
  simp only [State.ax, State.par, h]

theorem axI_of_params {s t : State} (h : t.params = s.params) (n : Fin 4) (i : Nat) : t.axI n i = s.axI n i := by
  simp only [State.axI, State.parI, h]

theorem stepSettle_due {s : State} {n : Fin 4} {up : Bool} {t T : Nat} (h : (s.motion.get n).stepWait = some (up, t)) (ht : t ≤ T) :
    s.stepSettle n T = if ((s.pulseIn n).motion.get n).state = .stepf then (s.pulseIn n).stepDemand n up t else s.pulseIn n := by
  simp only [State.stepSettle, h, if_neg (Nat.not_lt.mpr ht)]
  rfl

/-- Two motions that differ in axis `n` at most, and not in its position. -/
structure Unmoved (n : Fin 4) (a b : Quad MotionSt) : Prop where
  p : (b.get n).p = (a.get n).p
  other : ∀ m, m ≠ n → b.get m = a.get m

theorem Unmoved.refl (n : Fin 4) (a : Quad MotionSt) : Unmoved n a a := ⟨rfl, fun _ _ => rfl⟩

theorem Unmoved.trans {n : Fin 4} {a b c : Quad MotionSt} (h : Unmoved n a b) (k : Unmoved n b c) : Unmoved n a c :=
  ⟨k.p.trans h.p, fun m hm => (k.other m hm).trans (h.other m hm)⟩

theorem Unmoved.upd (n : Fin 4) (a : Quad MotionSt) {f : MotionSt → MotionSt} (hf : ∀ m, (f m).p = m.p) : Unmoved n a (a.upd n f) :=
  ⟨by rw [Quad.get_upd_self, hf], fun m hm => by rw [Quad.get_upd, if_neg hm]⟩

theorem Unmoved.updMotion (s : State) (n : Fin 4) {f : MotionSt → MotionSt} (hf : ∀ m, (f m).p = m.p) :
    Unmoved n s.motion (s.updMotion n f).motion := Unmoved.upd n _ hf

theorem Unmoved.position {n : Fin 4} {a b : Quad MotionSt} (h : Unmoved n a b) (m : Fin 4) : (b.get m).p = (a.get m).p := by
  by_cases hm : m = n
  · rw [hm, h.p]
  · rw [h.other m hm]

theorem stepDemand_unmoved (s : State) (n : Fin 4) (up : Bool) (T : Nat) : Unmoved n s.motion (s.stepDemand n up T).motion := by
  unfold State.stepDemand
  dsimp only
  split
  · exact Unmoved.updMotion s n fun _ => rfl
  · rw [apply_ite State.motion, note_motion, ite_self, evIf_motion]
    exact Unmoved.updMotion s n fun _ => rfl

theorem stepSettle_unmoved (s : State) (n : Fin 4) (T : Nat) : Unmoved n s.motion (s.stepSettle n T).motion := by
  have hin : Unmoved n s.motion (s.pulseIn n).motion := by
    rw [pulseIn_motion]
    exact Unmoved.upd n _ fun _ => rfl
  cases hw : (s.motion.get n).stepWait with
  | none => rw [stepSettle_idle T hw]; exact Unmoved.refl n _
  | some x =>
    by_cases ht : T < x.2
    · have he : s.stepSettle n T = s := by simp [State.stepSettle, hw, ht]
      rw [he]
      exact Unmoved.refl n _
    · rw [stepSettle_due (up := x.1) hw (Nat.not_lt.mp ht)]
      split
      · exact hin.trans (stepDemand_unmoved _ n x.1 x.2)
      · exact hin

theorem stepSettle_axI (s : State) (n k : Fin 4) (T i : Nat) : (s.stepSettle n T).axI k i = s.axI k i :=
  axI_of_params (only_params (w := allBut .params) (by simp) (by simp)) k i

/-- A pulse whose microsteps all lie within the Ledge limits adds them to the demand (R221). -/
theorem stepDemand_within {s : State} {n : Fin 4} {up : Bool} {T : Nat} {d : Int} (ht : (s.motion.get n).lagTrip = false)
    (hd : d = (if up != (s.ax n 0x4B == 1) then (s.ax n 0x4A : Int) else -(s.ax n 0x4A : Int))) (hb : s.beyond n d = 0) :
    ((s.stepDemand n up T).motion.get n).stepWait = (s.motion.get n).stepWait ∧
      ((s.stepDemand n up T).motion.get n).pulses = ((s.motion.get n).pulses + 1) % 4294967296 ∧
      ((s.stepDemand n up T).motion.get n).demand = (s.motion.get n).demand + d ∧
      ((s.stepDemand n up T).motion.get n).pulseAt = some T ∧ ((s.stepDemand n up T).motion.get n).still = false := by
  unfold State.stepDemand
  dsimp only
  rw [← hd, hb, ht, if_neg (by simp), apply_ite State.motion, note_motion, ite_self, evIf_motion]
  simp [State.updMotion]

theorem pulseIn_beyond (s : State) (n : Fin 4) (d : Int) : (s.pulseIn n).beyond n d = s.beyond n d := by
  simp only [State.beyond, pulseIn_motion, Quad.get_upd_self, axI_of_params (pulseIn_params s n)]

/-! ### Microsteps -/

section
variable {n : Fin 4} {off : Nat} {s : State}

theorem microstep_notDue (hd : (s.stepSettle n (s.tickAt off)).stepDue n (s.tickAt off) = none) :
    exec (.microstep n off) s = .next (s.stepSettle n (s.tickAt off)) := by
  change execMicrostep n off s = _
  simp only [execMicrostep, hd]

theorem microstep_due {d : Int} (hd : (s.stepSettle n (s.tickAt off)).stepDue n (s.tickAt off) = some d) :
    exec (.microstep n off) s = .next (
      if (0 < d ∧ s.axI n 0x47 ≤ (s.motion.get n).p) ∨ (d < 0 ∧ (s.motion.get n).p ≤ s.axI n 0x46) then
        (s.stepSettle n (s.tickAt off)).stepBarred n d
      else (s.stepSettle n (s.tickAt off)).stepIssue n d (s.tickAt off)) := by
  change execMicrostep n off s = _
  simp only [execMicrostep, hd, (stepSettle_unmoved s n _).p, stepSettle_axI]

/-- An accepted pulse in STEPF raises the demand, and the axis does not move while no microstep is due (R221). -/
theorem microstep_accepts {acc : Nat} {up : Bool} {d : Int} (hw : (s.motion.get n).stepWait = some (up, acc)) (ha : acc ≤ s.tickAt off)
    (hs : (s.motion.get n).state = .stepf) (ht : (s.motion.get n).lagTrip = false)
    (hd : d = (if up != (s.ax n 0x4B == 1) then (s.ax n 0x4A : Int) else -(s.ax n 0x4A : Int))) (hb : s.beyond n d = 0)
    (hn : (s.stepSettle n (s.tickAt off)).stepDue n (s.tickAt off) = none) :
    Answers (.microstep n off) s (fun t => (t.motion.get n).stepWait = none ∧
      (t.motion.get n).pulses = ((s.motion.get n).pulses + 1) % 4294967296 ∧
      (t.motion.get n).demand = (s.motion.get n).demand + d ∧ (t.motion.get n).pulseAt = some acc ∧ (t.motion.get n).still = false ∧
      (t.motion.get n).p = (s.motion.get n).p ∧ ∀ m, m ≠ n → t.motion.get m = s.motion.get m) := by
  have hm : (s.pulseIn n).motion.get n = { s.motion.get n with stepWait := none } := by rw [pulseIn_motion, Quad.get_upd_self]
  have he : s.stepSettle n (s.tickAt off) = (s.pulseIn n).stepDemand n up acc := by
    rw [stepSettle_due hw ha, hm]
    exact if_pos hs
  obtain ⟨hwait, hpulses, hdemand, hat, hstill⟩ := stepDemand_within (s := s.pulseIn n) (up := up) (T := acc) (d := d)
    (by rw [hm]; exact ht) (by rw [ax_of_params (pulseIn_params s n), ax_of_params (pulseIn_params s n)]; exact hd)
    (by rw [pulseIn_beyond]; exact hb)
  rw [hm] at hwait hpulses hdemand
  refine ⟨_, microstep_notDue hn, ?_, ?_, ?_, ?_, ?_, (stepSettle_unmoved s n _).p, (stepSettle_unmoved s n _).other⟩
  all_goals rw [he]
  exacts [hwait, hpulses, hdemand, hat, hstill]

/-! ### A microstep that is issued or barred -/

/-- In axis `n` the motion of `t` may have another profile, with the mark of the Ledge limit that it ends on; all else of it is that of `s`. -/
def Reprofiled (n : Fin 4) (s t : State) : Prop :=
  ∃ pr l, t.motion = s.motion.upd n (fun m => { m with profile := pr, ledge := l })

theorem Reprofiled.refl (n : Fin 4) (s : State) : Reprofiled n s s :=
  ⟨(s.motion.get n).profile, (s.motion.get n).ledge, by fin_cases n <;> rfl⟩

theorem ledgeStep_reprofiled (s : State) (n : Fin 4) (T : Nat) : Reprofiled n s (s.ledgeStep n T) := by
  have hsame := Reprofiled.refl n s
  unfold State.ledgeStep
  dsimp only
  refine iteInduction (motive := Reprofiled n s) (fun _ => ?_) (fun _ => hsame)
  split
  · exact hsame
  · exact iteInduction (fun _ => iteInduction (fun _ => ⟨_, _, rfl⟩) (fun _ => ⟨_, _, rfl⟩)) (fun _ => hsame)

theorem curMicro_motion (s : State) (n : Fin 4) (T : Nat) : (s.curMicro n T).motion = s.motion :=
  only_motion (w := allBut .motion) (by simp) (by simp)

theorem wedgeMicro_motion (s : State) (n : Fin 4) (T : Nat) : (s.wedgeMicro n T).motion = s.motion :=
  only_motion (w := allBut .motion) (by simp) (by simp)

theorem cmpCount_motion (s : State) (n : Fin 4) (src : Nat) (old x : Int) : (s.cmpCount n src old x).motion = s.motion :=
  only_motion (w := allBut .motion) (by simp) (by simp)

/-- An issued microstep moves its axis by one in its direction, and no other axis (R206, R207). -/
theorem stepIssue_moves (s : State) (n : Fin 4) (d : Int) (T : Nat) :
    ((s.stepIssue n d T).motion.get n).p = (s.motion.get n).p + d ∧ ((s.stepIssue n d T).motion.get n).lastStep = some T ∧
      ((s.stepIssue n d T).motion.get n).still = false ∧ ∀ m, m ≠ n → (s.stepIssue n d T).motion.get m = s.motion.get m := by
  unfold State.stepIssue
  dsimp only
  rw [divCount_motion, cmpCount_motion, wedgeMicro_motion, curMicro_motion, evIf_motion]
  generalize hu : State.updMotion s n _ = u
  obtain ⟨pr, l, hl⟩ := ledgeStep_reprofiled u n T
  rw [hl, ← hu]
  refine ⟨?_, ?_, ?_, fun m hm => ?_⟩
  · rw [Quad.get_upd_self, updMotion_motion, Quad.get_upd_self]
  · rw [Quad.get_upd_self, updMotion_motion, Quad.get_upd_self]
  · rw [Quad.get_upd_self, updMotion_motion, Quad.get_upd_self]
  · rw [Quad.get_upd, if_neg hm, updMotion_motion, Quad.get_upd, if_neg hm]

theorem ev_motion (s : State) (code qual : Nat) : (s.ev code qual).motion = s.motion :=
  only_motion (w := allBut .motion) (by simp) (by simp)

/-- A microstep that a Ledge limit bars moves nothing (R231 to R233). -/
theorem stepBarred_unmoved (s : State) (n : Fin 4) (d : Int) : Unmoved n s.motion (s.stepBarred n d).motion := by
  unfold State.stepBarred
  dsimp only
  split
  · rw [apply_ite State.motion, ev_motion, ite_self]
    exact Unmoved.updMotion s n fun _ => rfl
  · rw [apply_ite State.motion, note_motion, ite_self]
    exact Unmoved.refl n _
  · exact Unmoved.refl n _

theorem microstep_moves {d : Int} (hd : (s.stepSettle n (s.tickAt off)).stepDue n (s.tickAt off) = some d)
    (hl : ¬ ((0 < d ∧ s.axI n 0x47 ≤ (s.motion.get n).p) ∨ (d < 0 ∧ (s.motion.get n).p ≤ s.axI n 0x46))) :
    Answers (.microstep n off) s (fun t => (t.motion.get n).p = (s.motion.get n).p + d ∧ (t.motion.get n).lastStep = some (s.tickAt off) ∧
      (t.motion.get n).still = false ∧ ∀ m, m ≠ n → t.motion.get m = s.motion.get m) := by
  have hu := stepSettle_unmoved s n (s.tickAt off)
  obtain ⟨hp, hlast, hstill, hother⟩ := stepIssue_moves (s.stepSettle n (s.tickAt off)) n d (s.tickAt off)
  exact ⟨_, by rw [microstep_due hd, if_neg hl], by rw [hp, hu.p], hlast, hstill, fun m hm => (hother m hm).trans (hu.other m hm)⟩

theorem microstep_barred {d : Int} (hd : (s.stepSettle n (s.tickAt off)).stepDue n (s.tickAt off) = some d)
    (hl : (0 < d ∧ s.axI n 0x47 ≤ (s.motion.get n).p) ∨ (d < 0 ∧ (s.motion.get n).p ≤ s.axI n 0x46)) :
    Answers (.microstep n off) s (fun t => ∀ m, (t.motion.get m).p = (s.motion.get m).p) :=
  ⟨_, by rw [microstep_due hd, if_pos hl], ((stepSettle_unmoved s n _).trans (stepBarred_unmoved _ n d)).position⟩

theorem standstill_reached (hn : (s.motion.get n).still = false) (hv : (s.motion.get n).vel = 0)
    (hi : s.ax n 0x49 ≤ (s.motion.get n).idleF) :
    exec (.standstillReached n) s = .next { s with motion := s.motion.upd n (fun m => { m with still := true, stillF := 0, holdF := 0 }) } :=
  congrArg Host.Outcome.next (if_pos (by simp [hn, hv, hi]))

end

/-- Settles O13: each clause by the lemma on its row. -/
theorem microstepComplete : Obligations.MicrostepComplete :=
  ⟨fun _ _ _ _ _ _ => stepPulse_short, fun _ _ _ _ _ => stepPulse_waits, fun _ _ _ _ _ _ => microstep_accepts,
    fun _ _ _ _ _ hu hd => microstep_moves (hu ▸ hd), fun _ _ _ _ _ hu hd => microstep_barred (hu ▸ hd), fun _ _ => rfl,
    fun _ _ => standstill_reached⟩

end Sys2Proof.Machine
end

section
/-! SEAL, PRES, the presence window and the tamper loop: what each row leaves. -/

namespace Sys2Proof.Machine

/-! ### Events of AON -/

theorem ev_last (s : State) (code qual : Nat) :
    (s.ev code qual).faults.events.getLast? = some (code, qual % 65536, s.frame.counter) := by
  rw [ev_events]
  simp

/-- An event of AON stands at the end of the queue while frames run. -/
theorem aonEv_last {s : State} (hf : s.frame.running = true) (code : Nat) {qual : Nat} (hq : qual < 65536) :
    (s.aonEv code qual).faults.events.getLast? = some (code, qual, s.frame.counter) := by
  have hrun : s.aonEv code qual = s.ev code qual := if_pos hf
  rw [hrun, ev_last, Nat.mod_eq_of_lt hq]

theorem aonEvFree_last {s : State} (hf : s.frame.running = true) (code : Nat) :
    ∃ q, (s.aonEvFree code).faults.events.getLast? = some (code, q, s.frame.counter) :=
  ⟨_, aonEv_last (s := s.fresh.2) hf code (Nat.mod_lt _ (by decide))⟩

theorem aonEv_pins (s : State) (code qual : Nat) : (s.aonEv code qual).pins = s.pins :=
  only_pins (w := allBut .pins) (by simp) (by simp)

theorem aonEv_svc (s : State) (code qual : Nat) : (s.aonEv code qual).svc = s.svc :=
  only_svc (w := allBut .svc) (by simp) (by simp)

theorem aonEvFree_pins (s : State) (code : Nat) : (s.aonEvFree code).pins = s.pins :=
  only_pins (w := allBut .pins) (by simp) (by simp)

theorem aonEvFree_svc (s : State) (code : Nat) : (s.aonEvFree code).svc = s.svc :=
  only_svc (w := allBut .svc) (by simp) (by simp)

theorem aonEv_raised (s : State) (code qual : Nat) : (s.aonEv code qual).faults.raised = s.faults.raised := by
  unfold State.aonEv
  split
  · exact ev_raised s code qual
  · rfl

/-! ### SEAL and PRES -/

/-- Before SYS has read the strap the level of SEAL is kept and no event is raised (R72). -/
theorem sealChange_unread {high : Bool} {s : State} (hs : s.pins.sealed = none) :
    exec (.sealChange high) s = .next { s with pins := { s.pins with sealPin := high } } :=
  congrArg Host.Outcome.next (if_neg (by simp [hs]))

theorem sealChange_noted {high : Bool} {s : State} (hs : s.pins.sealed.isSome = true) (hp : s.pins.sealPin ≠ high)
    (ha : s.aonWatches = true) (hf : s.frame.running = true) :
    Answers (.sealChange high) s (fun t => t.pins = { s.pins with sealPin := high } ∧
      ∃ q, t.faults.events.getLast? = some (0x0001, q, s.frame.counter)) := by
  have hw : ({ s with pins := { s.pins with sealPin := high } } : State).aonWatches = true := ha
  refine ⟨_, congrArg Host.Outcome.next (if_pos (by simp [hs, hp, hw])), aonEvFree_pins _ _, ?_⟩
  refine aonEvFree_last ?_ _
  exact hf

/-- PRES is low, and a presence window of the full length is open. -/
def State.pressed (s : State) : State :=
  { s with pins := { s.pins with presLow := true }, svc := { s.svc with window := some s.presLength, winLen := s.presLength } }

/-- A press opens the presence window, or restarts it (R563). -/
theorem presPress_opens {s : State} (ha : s.aonWatches = true) (hl : s.pins.presLow = false) (hk : s.pins.presStuck = false)
    (hf : s.frame.running = true) (hr : s.domReady .sys = true) :
    Answers .presPress s (fun t => t.pins.presLow = true ∧ t.svc = { s.svc with window := some (1000 * s.par 0x9000), winLen := 1000 * s.par 0x9000 } ∧
      t.faults.events.getLast? = some (0x0901, if s.svc.window.isSome then 1 else 0, s.frame.counter)) := by
  have he : exec .presPress s = .next (s.pressed.aonEv 0x0901 (b01 s.svc.window.isSome)) :=
    congrArg Host.Outcome.next ((if_neg (by simp [ha, hl])).trans (if_neg (by simp [hk])))
  have hlen : s.presLength = 1000 * s.par 0x9000 := congrArg (1000 * ·) (if_pos hr)
  have hq : b01 s.svc.window.isSome < 65536 := by unfold b01; split <;> decide
  refine ⟨_, he, ?_, ?_, ?_⟩
  · rw [aonEv_pins]
    rfl
  · rw [aonEv_svc, ← hlen]
    rfl
  · exact aonEv_last (s := s.pressed) hf 0x0901 hq

theorem presStuck_noted {sec : Nat} {s : State} (ha : s.aonWatches = true) (hl : s.pins.presLow = true) (hk : s.pins.presStuck = false)
    (ht : s.aonVal 0x0044 ≤ sec) (hf : s.frame.running = true) :
    Answers (.presStuck sec) s (fun t => t.pins = { s.pins with presStuck := true } ∧ t.svc = s.svc ∧
      ∃ q, t.faults.events.getLast? = some (0x0002, q, s.frame.counter)) := by
  refine ⟨_, congrArg Host.Outcome.next (if_pos (by simp [ha, hl, hk, ht])), aonEvFree_pins _ _, aonEvFree_svc _ _, ?_⟩
  refine aonEvFree_last ?_ _
  exact hf

theorem presReleased_high {s : State} (ha : s.aonWatches = true) :
    exec .presReleased s = .next { s with pins := { s.pins with presLow := false, presStuck := false } } :=
  congrArg Host.Outcome.next (if_pos ha)

/-! ### The presence window -/

theorem closeWindow_open {s : State} (hw : s.svc.window.isSome = true) (cause : Nat) :
    s.closeWindow cause = ({ s with svc := { s.svc with window := none } } : State).aonEv 0x0902 cause :=
  if_neg (by simp [← Option.not_isSome, hw])

theorem closeWindow_svc (s : State) (cause : Nat) : (s.closeWindow cause).svc = { s.svc with window := none } := by
  unfold State.closeWindow
  split
  · next h =>
    have hn : s.svc.window = none := Option.isNone_iff_eq_none.mp h
    rw [← hn]
  · exact aonEv_svc _ _ _

theorem closeWindow_raised (s : State) (cause : Nat) : (s.closeWindow cause).faults.raised = s.faults.raised := by
  unfold State.closeWindow
  split
  · rfl
  · exact aonEv_raised _ _ _

theorem presenceWindow_expires {ms : Nat} {s : State} (ha : s.aonWatches = true) (hw : s.svc.window.isSome = true)
    (ht : s.svc.winLen ≤ ms) (hf : s.frame.running = true) :
    Answers (.presenceWindowExpiry ms) s (fun t => t.svc = { s.svc with window := none } ∧
      t.faults.events.getLast? = some (0x0902, 0, s.frame.counter)) :=
  ⟨_, congrArg Host.Outcome.next (if_pos (by simp [ha, ht])), closeWindow_svc s 0, by
    rw [closeWindow_open hw]
    refine aonEv_last ?_ 0x0902 (Nat.zero_lt_succ _)
    exact hf⟩

/-! ### The tamper loop -/

/-- The tamper latch sets: debug access is off, and the latch is counted and dated (R567). -/
def State.tamperSet (s : State) : State :=
  { s with svc := { s.svc with
      loopOk := 0, tamper := true, debug := false, tamperAt := if s.frame.running then s.frame.superframe else s.ret.sframes
      tamperN := min 0xFFFF (s.svc.tamperN + 1), tamperDue := some (min 0xFFFF (s.svc.tamperN + 1)) } }

section
variable {pulse gap : Bool × Bool} {s : State}

theorem tamperLoop_sets (hw : s.loopWatched = true) (hb : loopBroken pulse gap = true) (ht : s.svc.tamper = false) :
    exec (.tamperLoopBroken pulse gap) s = .next (
      if s.domReady .sys then (s.tamperSet.closeWindow 2).noteFree 0x0901 0 true else s.tamperSet.closeWindow 2) := by
  have hdom (t : State) (h : t.power = s.power) : t.domReady .sys = s.domReady .sys := by simp only [State.domReady, State.dom, h]
  have hc : (s.tamperSet.closeWindow 2).domReady .sys = s.domReady .sys :=
    hdom _ (only_power (a := s.tamperSet.closeWindow 2) (b := s.tamperSet) (w := allBut .power) (by simp) (by simp))
  refine congrArg Host.Outcome.next ((if_neg (by simp [hw, hb])).trans ((if_neg (by simp [ht])).trans ?_))
  rw [← hc]
  rfl

theorem tamperLoop_latches (hw : s.loopWatched = true) (hb : loopBroken pulse gap = true) (ht : s.svc.tamper = false) :
    Answers (.tamperLoopBroken pulse gap) s (fun t => t.svc.tamper = true ∧ t.svc.debug = false ∧ t.svc.window = none ∧
      t.svc.tamperAt = (if s.frame.running then s.frame.superframe else s.ret.sframes) ∧ t.svc.tamperN = min 0xFFFF (s.svc.tamperN + 1) ∧
      (s.domReady .sys = true → ∃ q, t.faults.raised = s.faults.raised ++ [(0x0901, q, 0, true)])) := by
  have hnote (t : State) : (t.noteFree 0x0901 0 true).svc = t.svc := rfl
  refine ⟨_, tamperLoop_sets hw hb ht, ?_⟩
  dsimp only
  rw [apply_ite State.svc, hnote, ite_self, closeWindow_svc]
  refine ⟨rfl, rfl, rfl, rfl, rfl, fun hr => ?_⟩
  rw [if_pos hr, noteFree_faults, closeWindow_raised]
  exact ⟨_, rfl⟩

/-- A latch that is set stays as it is (R567). -/
theorem tamperLoop_latched (hw : s.loopWatched = true) (hb : loopBroken pulse gap = true) (ht : s.svc.tamper = true) :
    exec (.tamperLoopBroken pulse gap) s = .next { s with svc := { s.svc with loopOk := 0 } } :=
  congrArg Host.Outcome.next ((if_neg (by simp [hw, hb])).trans (if_pos ht))

theorem tamperLoop_whole (hb : loopBroken pulse gap = false) : exec (.tamperLoopBroken pulse gap) s = .next s :=
  congrArg Host.Outcome.next (if_pos (by simp [hb]))

end

/-- Settles O5: each clause by the lemma on its row. -/
theorem pinComplete : Obligations.PinComplete :=
  ⟨fun _ _ => sealChange_unread, fun _ _ => sealChange_noted, fun _ => presPress_opens, fun _ _ => presStuck_noted,
    fun _ => presReleased_high, fun _ _ => presenceWindow_expires, fun _ _ _ => tamperLoop_latches, fun _ _ _ => tamperLoop_latched,
    fun _ _ _ => tamperLoop_whole⟩

end Sys2Proof.Machine
end

section
/-! Supply, RESETN, brown-out and wake: what each row leaves. -/

namespace Sys2Proof.Machine

/-! ### Starts from OFF -/

/-- What a start as from OFF leaves (R71, R84). -/
theorem startFromOff_leaves (s : State) (cause : Nat) :
    (s.startFromOff cause).power.aon = { stage := if s.pins.inReset then .down else .up 1, latched := some true } ∧
      (s.startFromOff cause).power.sys.latched = some true ∧ (s.startFromOff cause).power.ana.latched = some true ∧
      (s.startFromOff cause).power.aux.latched = some true ∧ (s.startFromOff cause).power.change = some .idle ∧
      (s.startFromOff cause).ret = s.ret ∧ (s.startFromOff cause).host.rstCause = cause :=
  ⟨rfl, rfl, rfl, rfl, rfl, rfl, rfl⟩

theorem powerOn_starts {vbat : Nat} {s : State} (hp : s.powered = false) (hv : 3500 < vbat) :
    Answers (.powerOn vbat) s (fun t => t.power.aon = { stage := if s.pins.inReset then .down else .up 1, latched := some true } ∧
      t.power.sys.latched = some true ∧ t.power.ana.latched = some true ∧ t.power.aux.latched = some true ∧
      t.power.change = some .idle ∧ t.ret = s.ret ∧ t.host.rstCause = 1) :=
  ⟨_, congrArg Host.Outcome.next (if_neg (by simp [hp, hv])), startFromOff_leaves _ 1⟩

theorem powerOff_clears {vbat : Nat} {s : State} (hv : vbat < 3000) :
    Answers (.powerOff vbat) s (fun t => t.ret = {} ∧ t.power = {} ∧ t.frame = {} ∧ t.params.copyA = s.params.copyA ∧
      t.params.copyB = s.params.copyB) :=
  ⟨_, congrArg Host.Outcome.next (if_neg (Nat.not_le.mpr hv)), rfl, rfl, rfl, rfl, rfl⟩

theorem reset_clears {s : State} (hr : s.pins.inReset = false) :
    Answers .reset s (fun t => t.pins.inReset = true ∧ t.power.dev = .off ∧ t.ret = s.ret ∧ t.frame = {} ∧
      t.motion = Quad.all {} ∧ t.params.copyA = s.params.copyA ∧ t.params.copyB = s.params.copyB ∧ t.host.rstCause = 2) :=
  ⟨_, congrArg Host.Outcome.next (if_neg (by simp [hr])), rfl, rfl, rfl, rfl, rfl, rfl, rfl, rfl⟩

theorem resetRelease_starts {tsten roleUp roleDown : Bool} {s : State} (hr : s.pins.inReset = true) (hp : s.powered = true) :
    Answers (.resetRelease tsten roleUp roleDown) s (fun t => t.pins.inReset = false ∧ t.pins.testHeld = tsten ∧
      t.pins.role = (if roleUp != roleDown then .floating else if roleUp then .b else .a) ∧ t.power.aon.stage = .up 1 ∧
      t.power.change = some .idle) :=
  ⟨_, congrArg Host.Outcome.next ((if_neg (by simp [hr])).trans (if_pos hp)), rfl, rfl, rfl, rfl, rfl⟩

/-! ### Brown-out -/

theorem addRecord_last (s : State) (code qual : Nat) : (s.addRecord code qual).ret.records.getLast? = some (code, qual) := by
  unfold State.addRecord
  dsimp only
  rw [List.getLast?_drop, if_neg (by simp only [List.length_append, List.length_singleton]; omega), List.getLast?_concat]

theorem brownOut_sleeps {vbat us : Nat} {s : State} (hd : s.power.dev = .idle ∨ s.power.dev = .run ∨ s.power.dev = .standby)
    (hv : vbat < 4500) (hu : 5 ≤ us) :
    Answers (.brownOut vbat us) s (fun t => t.power.dev = .sleep ∧ t.power.brownOut = true ∧ t.power.sys = {} ∧ t.power.ana = {} ∧
      t.power.aux = {} ∧ t.power.axes = Quad.all {} ∧ t.frame = {} ∧ t.ret.records.getLast? = some (0x1308, 0)) := by
  have hlists : (match s.power.dev with | .idle | .run | .standby => true | _ => false) = true := by
    rcases hd with h | h | h <;> simp [h]
  have hn : ¬ (!(match s.power.dev with | .idle | .run | .standby => true | _ => false) || decide (4500 ≤ vbat) || decide (us < 5)) = true := by
    simp [hlists, hv, hu]
  exact ⟨_, congrArg Host.Outcome.next (if_neg hn), rfl, rfl, rfl, rfl, rfl, rfl, rfl, addRecord_last _ _ _⟩

/-! ### Wake -/

/-- A port of a fabric under a sleep plan is silent until it hears a beacon (R504). -/
def State.portsSilent (s : State) : State :=
  forPorts s (fun p t => if (s.fab.plan.isSome && !s.isRoot) && t.netOn p then t.updPort p (fun q => { q with silent := true, sync := .unsynced }) else t)

/-- Source `src` has ended STANDBY after `periods` AONCLK periods: frames run again, and no domain is requested yet (R87). -/
def State.standbyLeft (s : State) (src periods : Nat) : State :=
  let t := s.framesGone (framesOf periods) true
  let t := { t with power := { t.power with dev := .idle, wakeRun := some src, aonCount := periods }
                    svc := { t.svc with window := t.svc.window.map (fun w => w - framesOf periods / 20) } }
  let woken := t.fab.plan.isSome && !t.isRoot
  let t := (t.shiftHeard (framesOf periods / 20)).portsSilent
  { t with fab := { t.fab with woken := woken, interim := woken && src != 4 } }

/-- Source `src` has ended SLEEP after `periods` AONCLK periods: SYS begins its up sequence (R84, R87). -/
def State.sleepLeft (s : State) (src periods : Nat) : State :=
  let t := s.requestStart.keyStart
  { t with pins := { t.pins with wake := false, presLow := false }
           power := { t.power with wakeRun := some src, wakeGone := framesOf periods, aonCount := periods, sys := { stage := .up 1 } }
           host := { t.host with rstCause := if t.power.brownOut then 3 else 6 }
           svc := { t.svc with window := t.svc.window.map (fun w => w - framesOf periods / 20) } }

section
variable {src : Fin 9} {periods us vbat : Nat} {level : Bool} {s : State}

theorem wakeLevel_power (s : State) (src us : Nat) (level : Bool) : (s.wakeLevel src us level).power = s.power := by
  unfold State.wakeLevel
  split <;> rfl

theorem wakeLevel_frame (s : State) (src us : Nat) (level : Bool) : (s.wakeLevel src us level).frame = s.frame := by
  unfold State.wakeLevel
  split <;> rfl

/-- The level that WAKE takes decides on no condition. -/
theorem wakeLevel_wakeMet (s : State) (src us : Nat) (level : Bool) (k ran u v : Nat) :
    (s.wakeLevel src us level).wakeMet k ran u v = s.wakeMet k ran u v := by
  unfold State.wakeLevel
  split <;> rfl

theorem wakeLevel_wakeEnabled (s : State) (src us : Nat) (level : Bool) (k : Nat) (d : DevPower) :
    (s.wakeLevel src us level).wakeEnabled k d = s.wakeEnabled k d := by
  simp only [State.wakeEnabled, wakeLevel_power]

theorem wakeSource_standby (hc : s.power.change = none) (hd : s.power.dev = .standby) (he : s.wakeEnabled src.val .standby = true)
    (hs : src ≠ 0 ∨ level = true) (hm : s.wakeMet src.val (50 * s.power.timerRan + 125 * periods / 4) us vbat = true) :
    exec (.wakeSource src periods us vbat level) s =
      .next ((((s.wakeLevel src.val us level).standbyLeft src.val periods).requestIdle.settleDoms).wakeEvent) := by
  have hsrc : (src == 0 && !level) = false := by rcases hs with h | h <;> simp [h]
  change execWakeSource src periods us vbat level s = _
  unfold execWakeSource
  simp only [wakeLevel_power, wakeLevel_wakeEnabled, wakeLevel_wakeMet, hc, hd, he, hm, hsrc]
  rfl

theorem wakeSource_sleep (hc : s.power.change = none) (hd : s.power.dev = .sleep) (he : s.wakeEnabled src.val .sleep = true)
    (hs : src ≠ 0 ∨ level = true) (hm : s.wakeMet src.val (50 * s.power.timerRan + 125 * periods / 4) us vbat = true) :
    exec (.wakeSource src periods us vbat level) s = .next ((s.wakeLevel src.val us level).sleepLeft src.val periods) := by
  have hsrc : (src == 0 && !level) = false := by rcases hs with h | h <;> simp [h]
  change execWakeSource src periods us vbat level s = _
  unfold execWakeSource
  simp only [wakeLevel_power, wakeLevel_wakeEnabled, wakeLevel_wakeMet, hc, hd, he, hm, hsrc]
  rfl

end

/-! ### The device power state while domains go up -/

theorem setDom_dev (s : State) (d : Domain) (f : DomSt → DomSt) : (s.setDom d f).power.dev = s.power.dev := by
  cases d <;> rfl

theorem beginStep_dev (s : State) (d : Domain) (st : DomStage) (l : Option Bool) : (s.beginStep d st l).power.dev = s.power.dev :=
  setDom_dev _ _ _

theorem domRequest_dev (s : State) (d : Domain) (on : Bool) : (s.domRequest d on).power.dev = s.power.dev := by
  unfold State.domRequest
  split
  · split <;> exact setDom_dev _ _ _
  · split <;> exact setDom_dev _ _ _
  · split
    · rfl
    · exact setDom_dev _ _ _
  · exact setDom_dev _ _ _

theorem foldl_dev {f : State → Domain → State} (hf : ∀ t d, (f t d).power.dev = t.power.dev) (l : List Domain) (s : State) :
    (l.foldl f s).power.dev = s.power.dev := by
  induction l generalizing s with
  | nil => rfl
  | cons d l ih => exact (ih _).trans (hf _ _)

theorem requestIdle_dev (s : State) : s.requestIdle.power.dev = s.power.dev := foldl_dev (fun t d => domRequest_dev t d true) _ _

theorem domBegins_dev (s : State) (d : Domain) : (s.domBegins d).power.dev = s.power.dev := by
  unfold State.domBegins
  dsimp only
  split <;> exact beginStep_dev _ _ _ _

theorem brkgOff_dev (q : PowerSt) (now : Nat) : (q.brkgOff now).dev = q.dev := by
  unfold PowerSt.brkgOff
  split <;> rfl

theorem domQuiesce_dev (s : State) (d : Domain) : (s.domQuiesce d).power.dev = s.power.dev := by
  cases d
  case aux => exact brkgOff_dev _ _
  all_goals exact congrArg PowerSt.dev (only_power (w := allBut .power) (by simp [State.domQuiesce]) (by simp))

theorem settleDoms_dev (s : State) : s.settleDoms.power.dev = s.power.dev := by
  unfold State.settleDoms
  dsimp only
  rw [foldl_dev]
  · split
    · exact beginStep_dev _ _ _ _
    · rfl
  · intro t d
    have hup (c : Bool) : (if c then t.domBegins d else t).power.dev = t.power.dev := by
      split
      · exact domBegins_dev t d
      · rfl
    split
    · exact hup _
    · exact (beginStep_dev _ _ _ _).trans (domQuiesce_dev t d)
    · rfl

theorem evNames_power (s : State) (code a b : Nat) : (s.evNames code a b).power = s.power :=
  only_power (w := allBut .power) (by simp) (by simp)

theorem wakeEvent_dev (s : State) : s.wakeEvent.power.dev = s.power.dev := by
  unfold State.wakeEvent
  split
  · rfl
  · dsimp only
    rw [evNames_power]

/-! ### The ends of STANDBY and SLEEP -/

theorem portsSilent_frame (s : State) : s.portsSilent.frame = s.frame :=
  only_frame (w := allBut .frame) (by simp [State.portsSilent]) (by simp)

theorem portsSilent_power (s : State) : s.portsSilent.power = s.power :=
  only_power (w := allBut .power) (by simp [State.portsSilent]) (by simp)

theorem standbyLeft_frame (s : State) (src periods : Nat) :
    (s.standbyLeft src periods).frame = (s.framesGone (framesOf periods) true).frame := portsSilent_frame _

theorem standbyLeft_dev (s : State) (src periods : Nat) : (s.standbyLeft src periods).power.dev = .idle :=
  congrArg PowerSt.dev (portsSilent_power _)

theorem domainsUp_frame (s : State) : s.requestIdle.settleDoms.wakeEvent.frame = s.frame :=
  only_frame (w := allBut .frame) (by simp) (by simp)

section
variable {src : Fin 9} {periods us vbat : Nat} {level : Bool} {s : State}

theorem wake_endsStandby (hc : s.power.change = none) (hd : s.power.dev = .standby) (he : s.wakeEnabled src.val .standby = true)
    (hs : src ≠ 0 ∨ level = true) (hm : s.wakeMet src.val (50 * s.power.timerRan + 125 * periods / 4) us vbat = true) :
    Answers (.wakeSource src periods us vbat level) s (fun t => t.frame.running = true ∧ t.power.dev = .idle ∧
      t.frame.counter = s.frame.counter + BitVec.ofNat 32 (framesOf periods) ∧
      t.frame.index = (s.frame.superframe.toNat * 20 + s.frame.index + framesOf periods) % 20) := by
  refine ⟨_, wakeSource_standby hc hd he hs hm, ?_⟩
  dsimp only
  rw [wakeEvent_dev, settleDoms_dev, requestIdle_dev, standbyLeft_dev, domainsUp_frame, standbyLeft_frame,
    ← wakeLevel_frame s src.val us level]
  exact ⟨rfl, rfl, rfl, rfl⟩

theorem wake_endsSleep (hc : s.power.change = none) (hd : s.power.dev = .sleep) (he : s.wakeEnabled src.val .sleep = true)
    (hs : src ≠ 0 ∨ level = true) (hm : s.wakeMet src.val (50 * s.power.timerRan + 125 * periods / 4) us vbat = true) :
    Answers (.wakeSource src periods us vbat level) s (fun t => t.power.sys.stage = .up 1 ∧ t.power.change = some .idle ∧
      t.power.wakeRun = some src.val ∧ t.power.wakeGone = framesOf periods) :=
  ⟨_, wakeSource_sleep hc hd he hs hm, rfl, rfl, rfl, rfl⟩

end

/-- Settles O2: each clause by the lemma on its row. -/
theorem powerCycleComplete : Obligations.PowerCycleComplete :=
  ⟨fun _ _ => powerOn_starts, fun _ _ => powerOff_clears, fun _ => reset_clears, fun _ _ _ _ => resetRelease_starts,
    fun _ _ _ => brownOut_sleeps, fun _ _ _ _ _ _ => wake_endsStandby, fun _ _ _ _ _ _ => wake_endsSleep⟩

end Sys2Proof.Machine
end

section
/-! The dump resistor, the checkpoints and timeouts of the domains, the start of an axis, and POWER_STATE. -/

namespace Sys2Proof.Machine

/-! ### The dump resistor -/

/-- BRKG has been on for 2 ms, and VM stands less than 0.5 V below its value at turn-on (R106). -/
theorem brakeDumpIneffective_noted {vm off : Nat} {s : State} (hb : s.power.brkg = true) (ht : 400000 ≤ s.tickAt off - s.power.brkOnAt)
    (hv : s.power.brkOnVm < vm + 500) :
    exec (.brakeDumpIneffective vm off) s = .next (({ s with power := { s.power with vm := vm } } : State).noteFree 0x130E 0 false) := by
  simp [exec, execBrakeDumpIneffective, hb, ht, hv]

theorem brakeDumpIneffective_idle {vm off : Nat} {s : State} (h : s.power.brkg = false ∨ vm + 500 ≤ s.power.brkOnVm) :
    exec (.brakeDumpIneffective vm off) s = .next s := by
  refine congrArg Host.Outcome.next (if_neg ?_)
  rcases h with hb | hv
  · simp [hb]
  · simp [Nat.not_lt.mpr hv]

/-- Settles O60: the noted fault and the measured VM, and nothing where BRKG is off or VM has fallen. -/
theorem dumpIneffective : Obligations.DumpIneffective :=
  ⟨fun _ _ _ hb ht hv => ⟨_, brakeDumpIneffective_noted hb ht hv, ⟨_, congrArg FaultSt.raised (noteFree_faults _ _ _ _)⟩, rfl,
    exec_only (brakeDumpIneffective_noted hb ht hv)⟩, fun _ _ _ => brakeDumpIneffective_idle⟩

/-! ### Checkpoints of ANA -/

/-- A request of another domain leaves SYS. -/
theorem domRequest_sys (s : State) {d : Domain} (on : Bool) (h : d ≠ .sys) : (s.domRequest d on).dom .sys = s.dom .sys := by
  have hs (f : DomSt → DomSt) : (s.setDom d f).dom .sys = s.dom .sys := by
    cases d
    case sys => exact absurd rfl h
    all_goals rfl
  unfold State.domRequest
  split
  · split <;> exact hs _
  · split <;> exact hs _
  · split
    · rfl
    · exact hs _
  · exact hs _

/-- SYS is none of the domains that IDLE requests (R84). -/
theorem requestIdle_sys (s : State) : s.requestIdle.dom .sys = s.dom .sys := by
  refine List.foldlRecOn (motive := fun t : State => t.dom .sys = s.dom .sys) _ _ rfl (fun t ht d hd => ?_)
  have hne : d ≠ .sys := by
    rintro rfl
    simp at hd
  exact (domRequest_sys t true hne).trans ht

theorem requestIdle_frame (s : State) : s.requestIdle.frame = s.frame := only_frame (w := allBut .frame) (by simp) (by simp)

theorem wakeEvent_frame (s : State) : s.wakeEvent.frame = s.frame := only_frame (w := allBut .frame) (by simp) (by simp)

/-- A wake that acts while SYS stands at Ready leaves the frame (R95). -/
theorem wakeBack_frame {s : State} (src : Nat) (h : s.domReady .sys = true) : (s.wakeBack src).frame = s.frame := by
  unfold State.wakeBack
  extract_lets q u v b
  have hv : v.frame = s.frame := requestIdle_frame u
  have hsys : v.power.sys.stage = .ready := (congrArg DomSt.stage (requestIdle_sys u)).trans (eq_of_beq h)
  simp only [hsys]
  split
  · exact (wakeEvent_frame v).trans hv
  · exact hv

theorem cpWork_ana_only (s : State) (k : Nat) (vals : List Int) : s.only [.mon] (s.cpWork .ana k vals) := by
  unfold State.only State.cpWork
  split <;> simp_all

/-- A wake that was latched on the way down acts (R95). -/
def State.wakeActs (s : State) : State := match s.power.wakeLatched with | some src => s.wakeBack src | none => s

theorem wakeActs_frame {s : State} (h : s.power.wakeLatched = none ∨ s.domReady .sys = true) : s.wakeActs.frame = s.frame := by
  unfold State.wakeActs
  split
  · next src hw => exact wakeBack_frame src (h.resolve_left (by simp [hw]))
  · rfl

/-- An up checkpoint of ANA with no request latched: its work, a latched wake, and the next step or Ready (R88, R92). -/
theorem domCheckpoint_ana {s : State} {k : Nat} (vals : List Int) (hk : s.power.ana.stage = .up k) (hl : s.power.ana.latched = none) :
    s.domCheckpoint .ana vals = (s.cpWork .ana k vals).wakeActs.beginStep .ana (if k < 4 then .up (k + 1) else .ready) none := by
  have hp : (s.cpWork .ana k vals).power = s.power := only_power (cpWork_ana_only s k vals) (by simp)
  have hx : (s.dom .ana).stage = .up k := hk
  have hy : (s.dom .ana).latched = none := hl
  have hz : ((s.cpWork .ana k vals).dom .ana).stage = .up k := (congrArg (fun q : PowerSt => q.ana.stage) hp).trans hk
  unfold State.domCheckpoint
  simp only [hx, hy, hz, upLast]
  rw [if_neg (by simp), if_neg (by simp)]
  by_cases h4 : k < 4
  · rw [if_pos h4, if_pos h4]
    rfl
  · rw [if_neg h4, if_neg h4]
    rfl

theorem checkpointReached_ana {s : State} {k : Nat} (vals : List Int) (hr : s.pins.inReset = false) (hk : s.power.ana.stage = .up k)
    (hg : 1 ≤ s.since s.power.ana.stepAt) :
    exec (.checkpointReached (.dom .ana) vals) s = .next (((s.domCheckpoint .ana vals).changeStep).settleDoms).settle := by
  have hx : (s.dom .ana).stage = .up k := hk
  have hd : s.stepDone .ana vals = true := by
    unfold State.stepDone
    exact decide_eq_true hg
  simp [exec, execCheckpointReached, hx, hr, hd]

/-- A checkpoint of ANA begins the next step, or Ready after the last, in the frame in which it is reached (R88, R89). -/
theorem ana_steps {s : State} {k : Nat} (vals : List Int) (hr : s.pins.inReset = false) (hk : s.power.ana.stage = .up k)
    (hl : s.power.ana.latched = none) (hw : s.power.wakeLatched = none ∨ s.domReady .sys = true) (hg : 1 ≤ s.since s.power.ana.stepAt) :
    ∃ u : State, exec (.checkpointReached (.dom .ana) vals) s = .next (State.settle (State.settleDoms (State.changeStep u))) ∧
      u.power.ana = { stage := if k < 4 then .up (k + 1) else .ready, stepAt := s.frame.counter } := by
  refine ⟨_, checkpointReached_ana vals hr hk hg, ?_⟩
  have hp : (s.cpWork .ana k vals).power = s.power := only_power (cpWork_ana_only s k vals) (by simp)
  have hf : (s.cpWork .ana k vals).frame = s.frame := only_frame (cpWork_ana_only s k vals) (by simp)
  have hw' : (s.cpWork .ana k vals).power.wakeLatched = none ∨ (s.cpWork .ana k vals).domReady .sys = true := by
    unfold State.domReady State.dom at hw ⊢
    rwa [hp]
  rw [domCheckpoint_ana vals hk hl, ← hf, ← wakeActs_frame hw']
  rfl

/-! ### Timeouts of the domains -/

theorem unitCmds_power (s : State) : s.unitCmds.power = s.power := only_power (w := allBut .power) (by simp) (by simp)

/-- A domain that a step `k` of too great a length has dropped fails: FT-0x1305 is raised, and its units are asked for no more (R90). -/
def State.domFails (s : State) (d : Domain) (k : Nat) : State :=
  let t := ((s.setDom d (fun _ => { stage := .failed })).raise 0x1305 (Config.nameQual 0x1305 (domNo d) k) 0 false).unitCmds
  { t with params := { t.params with asked := t.params.asked &&& ~~~ BitVec.ofNat 10 (domainUnits d) } }

theorem domFails_power (s : State) (d : Domain) (k : Nat) :
    (s.domFails d k).power = (s.setDom d (fun _ => { stage := .failed })).power := by
  unfold State.domFails
  dsimp only
  rw [unitCmds_power]
  rfl

/-- A step is overdue only while a domain goes up. -/
theorem up_of_stepOverdue {s : State} {d : Domain} {us : Nat} (h : s.stepOverdue d us = true) : ∃ k, (s.dom d).stage = .up k := by
  cases hx : (s.dom d).stage with
  | up k => exact ⟨k, rfl⟩
  | _ => simp [State.stepOverdue, hx] at h

theorem checkpointTimeout_net {us k : Nat} {s : State} (ho : s.stepOverdue .net us = true) (hr : s.pins.inReset = false)
    (hk : (s.dom .net).stage = .up k) : exec (.checkpointTimeout (.dom .net) us) s = .next ((s.domDrop .net 0x1305).domFails .net k).settle := by
  refine congrArg Host.Outcome.next ((if_neg (by simp [ho, hr])).trans ?_)
  simp only [hk]
  rfl

/-- A step of NET that has exceeded its longest duration drops the domain, which fails (R82, R90). -/
theorem netTimeout_fails {us : Nat} {s : State} (ho : s.stepOverdue .net us = true) (hr : s.pins.inReset = false) :
    ∃ u, exec (.checkpointTimeout (.dom .net) us) s = .next (State.settle u) ∧ u.power.net.stage = .failed := by
  obtain ⟨k, hk⟩ := up_of_stepOverdue ho
  exact ⟨_, checkpointTimeout_net ho hr hk, by rw [domFails_power]; rfl⟩

/-- SYS stays in reset when a step of its start has exceeded its longest duration again after three tries (R90). -/
theorem sysTimeout_held {us : Nat} {s : State} (ho : s.stepOverdue .sys us = true) (hr : s.pins.inReset = false)
    (ht : s.svc.trial = false) (hn : 3 ≤ s.power.sysTries) :
    exec (.checkpointTimeout (.dom .sys) us) s = .next s.holdSys := by
  obtain ⟨k, hk⟩ := up_of_stepOverdue ho
  refine congrArg Host.Outcome.next ((if_neg (by simp [ho, hr])).trans ?_)
  simp only [hk]
  exact (if_neg (by simp [ht])).trans (if_pos hn)

/-! ### The start of an axis -/

theorem reqsAct_power (s : State) (n : Fin 4) (op : Nat) : (s.reqsAct n op).power = s.power :=
  only_power (w := allBut .power) (by simp) (by simp)

theorem setSeq_seq_other (s : State) {n m : Fin 4} (f : AxSeqSt → AxSeqSt) (h : m ≠ n) : (s.setSeq n f).seq m = s.seq m := by
  simp [State.seq, Quad.get_upd, h]

/-- The lowest waiting axis begins step 1 by itself when it may (R88, R96). -/
theorem axisUpStart_begins {n : Fin 4} {s : State} (hf : axes4.find? (fun k => s.seq k == .waiting) = some n) (hb : s.mayBegin n = true)
    (hg : 1 ≤ s.since (s.axSt n).stepAt) : exec (.axisUpStart n) s = .next (s.beginUp n) := by
  simp [exec, execAxisUpStart, hf, hb, hg]

/-- What step 1 leaves of the power domains when it begins (R96, R97). -/
theorem beginUp_power (s : State) (n : Fin 4) :
    (s.beginUp n).power = { s.power with
      axes := s.power.axes.upd n (fun a => { a with seq := .up 1, stepAt := s.frame.counter, viaD3 := false, brakeAt := none })
      lastUp := s.power.lastUp.set n (some s.frame.counter), keyUsed := true, keyAt := none } :=
  reqsAct_power _ _ _

/-- Settles O4: the checkpoints of ANA, the timeouts of NET and SYS, the start of an axis and POWER_STATE, each by its lemma. -/
theorem sequencerComplete : Obligations.SequencerComplete := by
  refine ⟨fun k vals s hr hk _ h4 hl hw hg => ?_, fun vals s hr hk hl hw hg => ana_steps vals hr hk hl hw hg,
    fun us s ho hr => netTimeout_fails ho hr, fun us s ho hr ht hn => ⟨_, sysTimeout_held ho hr ht hn, rfl, rfl⟩,
    fun n s hf hb hg => ⟨_, axisUpStart_begins hf hb hg, ?_⟩, fun h s ha _ => ⟨_, congrArg Host.Outcome.next (takeRow_accepts ha), rfl⟩⟩
  · simpa only [if_pos h4] using ana_steps vals hr hk hl hw hg
  · simp only [State.seq, beginUp_power, Quad.get_upd_self, Quad.get_set_self, true_and]
    exact fun m hm => by rw [Quad.get_upd, if_neg hm]

end Sys2Proof.Machine
end

section
/-! Requests of an axis in flight: what marks and completions leave of a hopper's header and stage, and the completion of a request. -/

namespace Sys2Proof.Machine

/-! ### Hoppers in flight -/

theorem mem_insertBy {α : Type} (lt : α → α → Bool) (a b : α) (l : List α) : b ∈ insertBy lt a l ↔ b = a ∨ b ∈ l := by
  induction l with
  | nil => simp [insertBy]
  | cons c r ih =>
    unfold insertBy
    split
    · exact List.mem_cons
    · rw [List.mem_cons, ih, List.mem_cons, or_left_comm]

theorem mem_sortBy {α : Type} (lt : α → α → Bool) (b : α) (l : List α) : b ∈ sortBy lt l ↔ b ∈ l := by
  have h (acc : List α) : b ∈ l.foldl (fun acc a => insertBy lt a acc) acc ↔ b ∈ l ∨ b ∈ acc := by
    induction l generalizing acc with
    | nil => simp
    | cons a r ih => rw [List.foldl_cons, ih, mem_insertBy, List.mem_cons, or_left_comm, or_assoc]
  exact (h []).trans (by simp)

theorem mem_byTaking (s : State) (h : Nat) : h ∈ s.byTaking ↔ h < 32 ∧ s.flying h = true := by
  simp [State.byTaking, mem_sortBy, hops32]

theorem mem_axReqs (s : State) (n : Fin 4) (op h : Nat) :
    h ∈ s.axReqs n op ↔ h < 32 ∧ s.stage h = .started ∧ s.opcode h = op ∧ (s.axmask h).testBit n.val = true := by
  have hf : s.stage h = .started → s.flying h = true := fun e => by
    have e' : (s.hop h).stage = .started := e
    simp [State.flying, e', HopStage.inFlight]
  simp only [State.axReqs, List.mem_filter, mem_byTaking, Bool.and_eq_true, beq_iff_eq]
  tauto

/-! ### Stages and headers -/

theorem setHop_stage (s : State) (x h : Nat) {f : HopSt → HopSt} (hf : ∀ y, (f y).stage = y.stage) : (s.setHop x f).stage h = s.stage h := by
  unfold State.stage
  rw [setHop_hop]
  split
  · exact hf _
  · rfl

theorem noteLate_stage (s : State) (x n h : Nat) : (s.noteLate x n).stage h = s.stage h := by
  unfold State.noteLate
  extract_lets src counts
  rw [stage_of_intake (congrArg IntakeSt.hops (ev_intake _ _ _))]
  exact (setHop_stage _ x h (f := fun y => { y with late := true }) fun _ => rfl)

theorem noteLate_slots (s : State) (x n : Nat) : (s.noteLate x n).intake.slots = s.intake.slots := by
  unfold State.noteLate
  rw [ev_intake]
  rfl

theorem updAt_length {α : Type} (l : List α) (i : Nat) (f : α → α) : (updAt l i f).length = l.length := by
  induction l generalizing i with
  | nil => rfl
  | cons a r ih => cases i with
    | zero => rfl
    | succ i => exact congrArg (· + 1) (ih i)

theorem noteLate_hopCount (s : State) (x n : Nat) : (s.noteLate x n).intake.hops.length = s.intake.hops.length := by
  unfold State.noteLate
  rw [ev_intake]
  exact updAt_length _ _ _

/-- A late start, or none, leaves stages, slots and the number of hoppers. -/
theorem lateStart_leaves (s : State) (x : Nat) : (∀ h, (s.lateStart x).stage h = s.stage h) ∧
    (s.lateStart x).intake.slots = s.intake.slots ∧ (s.lateStart x).intake.hops.length = s.intake.hops.length := by
  unfold State.lateStart
  split
  · exact ⟨fun _ => rfl, rfl, rfl⟩
  · dsimp only
    split
    · exact ⟨noteLate_stage _ _ _, noteLate_slots _ _ _, noteLate_hopCount _ _ _⟩
    · exact ⟨fun _ => rfl, rfl, rfl⟩

theorem setStage_stage {s : State} {h : Nat} (st : HopStage) (hl : h < s.intake.hops.length) : (s.setStage h st).stage h = st :=
  congrArg HopSt.stage ((setHop_hop s h h (fun x => { x with stage := st })).trans (if_pos ⟨rfl, hl⟩))

/-- The command that starts is started (R147). -/
theorem markStart_stage {s : State} {c : CmdSpec} {h : Nat} (hl : h < (s.markStart c h).intake.hops.length) :
    (s.markStart c h).stage h = .started := by
  unfold State.markStart at hl ⊢
  extract_lets s1 f s2 at hl
  have hs : h < s2.intake.hops.length → s2.stage h = .started := fun k =>
    (setHop_stage _ h h (f := fun x => { x with start := some f, late := false }) fun _ => rfl).trans
      (setStage_stage _ (by simpa [s2, State.setStage, State.setProg, State.putSlot, updAt_length] using k))
  obtain ⟨hst, -, hln⟩ := lateStart_leaves s2 h
  split at hl
  · next hc => rw [if_pos hc, hs hl]
  · next hc => rw [if_neg hc, hst, hs (hln ▸ hl)]

/-- What a completion leaves of every slot: canonical form, and the header up to the axis mask. -/
structure HeadersKept (s t : State) : Prop where
  wf : t.slotsWf
  header : ∀ h b, b < 6 → t.hb h b = s.hb h b

namespace HeadersKept

variable {s t u : State}

theorem refl (hw : s.slotsWf) : HeadersKept s s := ⟨hw, fun _ _ _ => rfl⟩

theorem of_slots (k : HeadersKept s t) (e : u.intake.slots = t.intake.slots) : HeadersKept s u where
  wf := slotsWf_of_slots e k.wf
  header h b hb := by rw [← k.header h b hb, State.hb, State.hb, e]

theorem finish (k : HeadersKept s t) (x code detail : Nat) (res : List Byte) : HeadersKept s (t.finish x code detail res) where
  wf := finish_wf k.wf _ _ _ _
  header h b hb := by
    rw [← k.header h b hb]
    exact congrArg BitVec.toNat (finish_frame t x code detail (128 * h + b) res k.wf (by omega))

theorem foldl {α : Type} {f : State → α → State} (hf : ∀ t a, HeadersKept s t → HeadersKept s (f t a)) (l : List α) (k : HeadersKept s t) :
    HeadersKept s (l.foldl f t) :=
  List.foldlRecOn (motive := HeadersKept s) l f k fun t ht a _ => hf t a ht

theorem runRefused (k : HeadersKept s t) (x : Nat) : HeadersKept s (t.runRefused x) := by
  unfold State.runRefused
  split
  · split
    · refine foldl (fun t w ht => ?_) _ (k.of_slots rfl)
      split
      · exact ht.finish _ _ _ _
      · exact ht
    · exact k
  · exact k

theorem refuse (k : HeadersKept s t) (x code detail : Nat) (res : List Byte) : HeadersKept s (t.refuse x code detail res) := by
  have hr : HeadersKept s (t.refused x code detail) := k.of_slots (by rw [State.refused, setHop_slots, refusing_slots])
  rw [refuse_eq]
  exact (hr.finish x code detail res).runRefused x

theorem setStage (k : HeadersKept s t) (x : Nat) (st : HopStage) : HeadersKept s (t.setStage x st) where
  wf := setStage_wf k.wf x st
  header h b hb := by
    rw [← k.header h b hb]
    refine congrArg BitVec.toNat ((cellGet_write _ _ _ _ k.wf).trans (if_neg ?_))
    simp only [List.length_singleton]
    omega

theorem stopTaken (k : HeadersKept s t) (x : Nat) : HeadersKept s (t.stopTaken x) := by
  unfold State.stopTaken
  split
  · unfold State.stopWins
    extract_lets acts q hit taken untaken t1 t2
    have h1 : HeadersKept s t1 := foldl (fun t a ht => ht.refuse _ _ _ _) _ k
    have h2 : HeadersKept s t2 := foldl (fun t a ht => ht.of_slots (setHop_slots t a _)) _ h1
    exact h2.of_slots rfl
  · exact k

theorem markStart (k : HeadersKept s t) (c : CmdSpec) (x : Nat) : HeadersKept s (t.markStart c x) := by
  unfold State.markStart
  extract_lets s1 f s2
  have h1 : HeadersKept s s1 := by
    unfold s1
    split
    · exact foldl (fun t a ht => ht.refuse _ _ _ _) _ k
    · exact k
  have h2 : HeadersKept s s2 := (h1.setStage _ _).of_slots rfl
  split
  · exact h2
  · exact h2.of_slots (lateStart_leaves s2 x).2.1

theorem opcode (k : HeadersKept s t) (h : Nat) : t.opcode h = s.opcode h := by
  simp only [State.opcode, State.h16, k.header h 0 (by decide), k.header h (0 + 1) (by decide)]

theorem axmask (k : HeadersKept s t) (h : Nat) : t.axmask h = s.axmask h := by
  simp only [State.axmask, k.header h 5 (by decide)]

end HeadersKept

/-- The way of an accepted command to its start leaves the headers. -/
theorem begun_headers {s : State} (hw : s.slotsWf) {c : CmdSpec} (ht : ∀ t x, (c.taken t x).intake.slots = t.intake.slots) (h : Nat) :
    HeadersKept s (s.begun c h) := by
  have h1 : HeadersKept s (s.taken h) := (HeadersKept.refl hw).of_slots (by unfold State.taken State.useBulk; split <;> rfl)
  exact ((h1.stopTaken h).of_slots (ht _ _)).markStart c h

/-! ### A request and its completion -/

theorem giveBack_stage_other (s : State) {x h : Nat} (hx : x ≠ h) : (s.giveBack x).stage h = s.stage h := by
  have hs {t : State} {f : HopSt → HopSt} (e : t.intake = s.intake) : (t.setHop x f).stage h = s.stage h := by
    rw [State.stage, setHop_hop, if_neg fun k => hx k.1]
    exact stage_of_intake (congrArg IntakeSt.hops e) h
  unfold State.giveBack
  split
  · exact hs rfl
  · split
    · exact hs rfl
    · split
      · next e => exact hs (only_intake (State.respondFabric_blank (w := [.ports]) (by simp) e) (by simp))
      · exact hs rfl
  · split
    · next e => exact hs (only_intake (State.respondIso_blank (w := [.iso]) (by simp) e) (by simp))
    · exact hs rfl
  · dsimp only
    split
    · exact hs (ev_intake _ _ _)
    · exact hs ((evIf_intake _ _ _ _).trans (ev_intake _ _ _))

theorem finish_stage_other (s : State) {x h : Nat} (hx : x ≠ h) (code detail : Nat) (res : List Byte) :
    (s.finish x code detail res).stage h = s.stage h :=
  (giveBack_stage_other _ hx).trans (stage_of_intake (finish_hops_before_return s x code _ _ _) h)

theorem finish_code_other {s : State} (hw : s.slotsWf) {x h : Nat} (hx : x ≠ h) (code detail : Nat) (res : List Byte) :
    (s.finish x code detail res).hb h 12 = s.hb h 12 :=
  congrArg BitVec.toNat (finish_frame s x code detail (128 * h + 12) res hw (by omega))

/-- Commands that complete with one code: each of them holds it afterwards. -/
theorem foldl_finish_code {h code detail : Nat} (hc : code < 256) (res : State → List Byte) {l : List Nat} (hl : h ∈ l) {s : State}
    (hw : s.slotsWf) : (l.foldl (fun t x => t.finish x code detail (res t)) s).hb h 12 = code := by
  have keep (l : List Nat) (s : State) (hw : s.slotsWf) (hs : s.hb h 12 = code) :
      (l.foldl (fun t x => t.finish x code detail (res t)) s).hb h 12 = code := by
    induction l generalizing s with
    | nil => exact hs
    | cons x r ih =>
      refine ih _ (finish_wf hw _ _ _ _) ?_
      by_cases hx : x = h
      · rw [hx, finish_code _ _ _ _ _ hc hw]
      · rw [finish_code_other hw hx, hs]
  induction l generalizing s with
  | nil => cases hl
  | cons x r ih =>
    rcases List.mem_cons.mp hl with rfl | hr
    · exact keep r _ (finish_wf hw _ _ _ _) (finish_code _ _ _ _ _ hc hw)
    · exact ih hr (finish_wf hw _ _ _ _)

/-- Hopper `h` carries a request of axis `n` with opcode `op` that has started. -/
structure Requesting (h : Nat) (n : Fin 4) (op : Nat) (s : State) : Prop where
  num : h < 32
  wf : s.slotsWf
  started : s.stage h = .started
  opcode : s.opcode h = op
  names : (s.axmask h).testBit n.val = true

namespace Requesting

variable {h : Nat} {n : Fin 4} {op : Nat} {s t : State}

theorem mem_axReqs (r : Requesting h n op s) : h ∈ s.axReqs n op :=
  (Machine.mem_axReqs s n op h).mpr ⟨r.num, r.started, r.opcode, r.names⟩

theorem of_headers (r : Requesting h n op s) (k : HeadersKept s t) (hs : t.stage h = s.stage h) : Requesting h n op t where
  num := r.num
  wf := k.wf
  started := hs.trans r.started
  opcode := (k.opcode h).trans r.opcode
  names := (congrArg (fun m => m.testBit n.val) (k.axmask h)).trans r.names

theorem of_slots (r : Requesting h n op s) (e : t.intake.slots = s.intake.slots) (hs : t.stage h = s.stage h) : Requesting h n op t :=
  r.of_headers ((HeadersKept.refl r.wf).of_slots e) hs

theorem of_intake (r : Requesting h n op s) (e : t.intake = s.intake) : Requesting h n op t :=
  r.of_slots (congrArg IntakeSt.slots e) (stage_of_intake (congrArg IntakeSt.hops e) h)

theorem setHop (r : Requesting h n op s) (x : Nat) {f : HopSt → HopSt} (hf : ∀ y, (f y).stage = y.stage) : Requesting h n op (s.setHop x f) :=
  r.of_slots (setHop_slots s x f) (setHop_stage s x h hf)

theorem finish (r : Requesting h n op s) {x : Nat} (hx : x ≠ h) (code detail : Nat) (res : List Byte) :
    Requesting h n op (s.finish x code detail res) :=
  r.of_headers ((HeadersKept.refl r.wf).finish x code detail res) (finish_stage_other s hx code detail res)

theorem lateStart (r : Requesting h n op s) (x : Nat) : Requesting h n op (s.lateStart x) :=
  r.of_slots (lateStart_leaves s x).2.1 ((lateStart_leaves s x).1 h)

theorem reqsAct (r : Requesting h n op s) (m : Fin 4) (k : Nat) : Requesting h n op (s.reqsAct m k) := by
  unfold State.reqsAct
  refine List.foldlRecOn (motive := Requesting h n op) _ _ r fun t ht x _ => ?_
  split
  · exact ht
  · exact (ht.setHop x (f := fun y => { y with start := some t.frame.counter }) fun _ => rfl).lateStart x

/-- Requests of the other direction complete in their own hoppers. -/
theorem endReqs_other (r : Requesting h n op s) (m : Fin 4) {k : Nat} (hk : k ≠ op) (code detail : Nat) :
    Requesting h n op (s.endReqs m k code detail) := by
  unfold State.endReqs
  extract_lets u
  have hu : Requesting h n op u := by
    unfold u
    split
    · exact r.reqsAct m k
    · exact r
  refine List.foldlRecOn (motive := Requesting h n op) _ _ hu fun t ht x hx => ht.finish ?_ _ _ _
  rintro rfl
  exact hk (((Machine.mem_axReqs u m k _).mp hx).2.2.1.symm.trans hu.opcode)

/-- A domain settles: what opposes the request completes, and the request stands. -/
theorem cancelOpposed (r : Requesting h n op s) (m : Fin 4) {on : Bool} (ho : (if on then 0x0102 else 0x0101) ≠ op) :
    Requesting h n op (s.cancelOpposed m on) := (r.reqsAct m _).endReqs_other m ho _ _

/-- The requests that agree with the domain complete DONE. -/
theorem endReqs_done (r : Requesting h n op s) : (s.endReqs n op 1 0).hb h 12 = 1 :=
  foldl_finish_code (by decide) (fun t => t.reqResult n op) (r.reqsAct n op).mem_axReqs (r.reqsAct n op).wf

end Requesting

/-! ### Accepted requests -/

theorem accepts_opcode {c : CmdSpec} {h : Nat} {s : State} (a : s.accepts c h = true) : s.opcode h = c.op := by
  simp only [State.accepts, Bool.and_eq_true, beq_iff_eq] at a
  tauto

theorem accepts_firstChecks {c : CmdSpec} {h : Nat} {s : State} (a : s.accepts c h = true) : firstChecks c (s.beginTake h) h = none := by
  simp only [State.accepts, Bool.and_eq_true, beq_iff_eq] at a
  tauto

theorem axisRule_of_firstChecks {c : CmdSpec} {h : Nat} {s : State} {r : OpRow} (hr : opRow (s.opcode h) = some r) (hc : c.axisOk = none)
    (hf : firstChecks c s h = none) : axisRuleOk r.axis (s.axmask h) = true := by
  unfold firstChecks at hf
  simp only [hr, hc] at hf
  split at hf
  · cases hf
  · split at hf
    · cases hf
    · simp_all

/-- The axis of a command of one axis is the one that its mask names. -/
theorem axisOf_named {s : State} {h : Nat} (hr : axisRuleOk 1 (s.axmask h) = true) : (s.axmask h).testBit (s.axisOf h).val = true := by
  simp only [axisRuleOk, Bool.or_eq_true, beq_iff_eq] at hr
  unfold State.axisOf
  rcases hr with ((e | e) | e) | e <;> rw [e] <;> decide

/-- An accepted command of one axis is a request that has started. -/
theorem begun_requesting {c : CmdSpec} {r : OpRow} {h : Fin 32} {s : State} (hr : opRow c.op = some r) (hx : r.axis = 1) (hc : c.axisOk = none)
    (ht : ∀ t x, (c.taken t x).intake.slots = t.intake.slots) (a : s.accepts c h = true) (hw : s.slotsWf)
    (hl : (s.begun c h).intake.hops.length = 32) : Requesting h ((s.begun c h).axisOf h) c.op (s.begun c h) := by
  have k := begun_headers hw ht h
  have hrule := axisRule_of_firstChecks (s := s.beginTake h) ((congrArg opRow (accepts_opcode a)).trans hr) hc (accepts_firstChecks a)
  rw [hx] at hrule
  exact ⟨h.isLt, k.wf, markStart_stage (h.isLt.trans_eq hl.symm), (k.opcode h).trans (accepts_opcode a),
    axisOf_named ((congrArg (axisRuleOk 1) (k.axmask h)).trans hrule)⟩

end Sys2Proof.Machine
end

section
/-! ENABLE_AXIS, DISABLE_AXIS and OFFSTATE_TEST: what their starts leave. -/

namespace Sys2Proof.Machine

/-! ### The power domains through completions -/

theorem endReqs_power (s : State) (n : Fin 4) (op code detail : Nat) : (s.endReqs n op code detail).power = s.power :=
  only_power (w := allBut .power) (by simp) (by simp)

theorem cancelOpposed_power (s : State) (n : Fin 4) (on : Bool) : (s.cancelOpposed n on).power = s.power :=
  only_power (w := allBut .power) (by simp) (by simp)

theorem devIdle_axes (s : State) : s.devIdle.power.axes = s.power.axes := by
  unfold State.devIdle
  split <;> rfl

theorem keyDrop_axes (s : State) : s.keyDrop.power.axes = s.power.axes := by
  unfold State.keyDrop
  split <;> rfl

/-- The sequencer of an axis at Off (Table PWR-8). -/
def AxSeqSt.toOff (a : AxSeqSt) (f : BitVec 32) : AxSeqSt :=
  { a with seq := .off, latched := none, lastCp := 0, stepAt := f, supply := false, viaD3 := false, brakeAt := none, calEnd := none,
           recal := false }

theorem axToOff_axes (s : State) (n : Fin 4) : (s.axToOff n).power.axes = s.power.axes.upd n (fun a => a.toOff s.frame.counter) := by
  unfold State.axToOff
  rw [keyDrop_axes, devIdle_axes, endReqs_power, cancelOpposed_power]
  rfl

theorem axToOff_seq (s : State) (n : Fin 4) : (s.axToOff n).seq n = .off := by
  rw [State.seq, axToOff_axes, Quad.get_upd_self]
  rfl

/-! ### ENABLE_AXIS -/

/-- A request that has not acted has no start frame yet (R147). -/
def State.unacted (s : State) (h : Nat) : State := s.setHop h (fun x => { x with start := none })

theorem unacted_power (s : State) (h : Nat) : (s.unacted h).power = s.power := rfl

theorem Requesting.unacted {h : Nat} {n : Fin 4} {op : Nat} {s : State} (r : Requesting h n op s) (x : Nat) : Requesting h n op (s.unacted x) :=
  r.setHop x (f := fun y => { y with start := none }) fun _ => rfl

theorem axOnRequest_power (s : State) (n : Fin 4) : ∃ k, (s.power.keyUsed = true → k = s.power.keyAt) ∧
    (s.axOnRequest n).power = { s.power with
      dev := .run, keyAt := k
      axes := s.power.axes.upd n (fun a => { a with seq := .waiting, latched := none, idxByte := 0xFF, failCode := none, stepAt := s.frame.counter,
                                                    viaD3 := false, bist := 0 }) } := by
  unfold State.axOnRequest
  extract_lets delay k q t u
  have hk : (if delay then u.evNames 0x1302 k.1 k.2 else u).power = u.power := by
    split
    · exact evNames_power _ _ _ _
    · rfl
  exact ⟨_, fun hu => if_neg (by simp [delay, hu]), hk⟩

section
variable {b : State} {h : Nat}

theorem enableAxis_off (hs : b.seq (b.axisOf h) = .off) : enableAxisSpec.start b h = (b.unacted h).axOnRequest (b.axisOf h) := by
  have hs' : (b.unacted h).seq (b.axisOf h) = .off := hs
  unfold enableAxisSpec
  dsimp only
  rw [← State.unacted, hs']

theorem enableAxis_ready (hs : b.seq (b.axisOf h) = .ready) (hl : (b.axSt (b.axisOf h)).latched = none) :
    enableAxisSpec.start b h = (b.unacted h).endReqs (b.axisOf h) 0x0101 1 0 := by
  have hs' : (b.unacted h).seq (b.axisOf h) = .ready := hs
  have hl' : ((b.unacted h).axSt (b.axisOf h)).latched = none := hl
  unfold enableAxisSpec
  dsimp only
  rw [← State.unacted, hs', hl']
  rfl

theorem enableAxis_d2 (hs : b.seq (b.axisOf h) = .d2) :
    enableAxisSpec.start b h = (b.unacted h).setSeq (b.axisOf h) (fun a => { a with latched := some true }) := by
  have hs' : (b.unacted h).seq (b.axisOf h) = .d2 := hs
  unfold enableAxisSpec
  dsimp only
  rw [← State.unacted, hs']

/-- ENABLE_AXIS at Off, Ready and D2 (R91, R94, R97, Table PWR-8). -/
theorem enableAxis_starts : Starts enableAxisSpec .enableAxis (fun h b u =>
    (b.seq (b.axisOf h) = .off → u.seq (b.axisOf h) = .waiting ∧ u.power.dev = .run ∧
      (b.power.keyUsed = true → u.power.keyAt = b.power.keyAt) ∧ ∀ m, m ≠ b.axisOf h → u.seq m = b.seq m) ∧
    (b.seq (b.axisOf h) = .ready → (b.axSt (b.axisOf h)).latched = none → b.intake.hops.length = 32 → u.hb h 12 = 1 ∧ u.power = b.power) ∧
    (b.seq (b.axisOf h) = .d2 → (u.axSt (b.axisOf h)).latched = some true ∧ u.seq (b.axisOf h) = .d2)) := by
  intro h s a hw
  refine ⟨_, congrArg Host.Outcome.next (takeRow_accepts a), fun hs => ?_, fun hs hl hn => ?_, fun hs => ?_⟩
  · obtain ⟨k, hk, hp⟩ := axOnRequest_power ((s.begun enableAxisSpec h).unacted h) ((s.begun enableAxisSpec h).axisOf h)
    rw [enableAxis_off hs]
    simp only [State.seq, hp, Quad.get_upd_self, true_and]
    exact ⟨hk, fun m hm => by rw [Quad.get_upd, if_neg hm]; rfl⟩
  · have r : Requesting h _ 0x0101 _ := begun_requesting (c := enableAxisSpec) (r := ⟨0x0101, 1, true, [], 0, 0, 0, []⟩) rfl rfl rfl
      (fun t x => congrArg IntakeSt.slots (only_intake (enableAxisSpec_taken (w := allBut .intake) (by simp) t x) (by simp))) a hw hn
    rw [enableAxis_ready hs hl]
    exact ⟨(r.unacted h).endReqs_done, (endReqs_power _ _ _ _ _).trans (unacted_power _ _)⟩
  · rw [enableAxis_d2 hs, setSeq_axSt, setSeq_seq]
    exact ⟨rfl, hs⟩

/-! ### DISABLE_AXIS -/

theorem disableAxis_ready (hs : b.seq (b.axisOf h) = .ready) :
    disableAxisSpec.start b h = (b.unacted h).setSeq (b.axisOf h) (fun a => { a with latched := some false }) := by
  have hs' : (b.unacted h).seq (b.axisOf h) = .ready := hs
  unfold disableAxisSpec
  dsimp only
  rw [← State.unacted, hs']

theorem disableAxis_waiting (hs : b.seq (b.axisOf h) = .waiting) :
    disableAxisSpec.start b h = if (b.axSt (b.axisOf h)).viaD3 then ((b.unacted h).axStep (b.axisOf h) .d3).cancelOpposed (b.axisOf h) false
      else (b.unacted h).axToOff (b.axisOf h) := by
  have hs' : (b.unacted h).seq (b.axisOf h) = .waiting := hs
  unfold disableAxisSpec
  dsimp only
  rw [← State.unacted, hs']
  rfl

theorem disableAxis_rests (hs : b.seq (b.axisOf h) = .off ∨ b.seq (b.axisOf h) = .failed) :
    disableAxisSpec.start b h = (b.unacted h).axToOff (b.axisOf h) := by
  have hs' : (b.unacted h).seq (b.axisOf h) = .off ∨ (b.unacted h).seq (b.axisOf h) = .failed := hs
  unfold disableAxisSpec
  dsimp only
  rw [← State.unacted]
  rcases hs' with e | e <;> rw [e]

end

/-- An off request that waits for an axis to reach Off completes DONE there. -/
theorem axToOff_done {h : Nat} {n : Fin 4} {s : State} (r : Requesting h n 0x0102 s) : (s.axToOff n).hb h 12 = 1 := by
  have hi (t : State) : t.devIdle.keyDrop.intake = t.intake := only_intake (w := allBut .intake) (by simp) (by simp)
  have r1 : Requesting h n 0x0102 ((s.setSeq n (fun a => a.toOff s.frame.counter)).gatesDead n) := r.of_intake rfl
  have r2 := r1.cancelOpposed n (on := false) (by decide)
  have e : s.axToOff n =
      ((((s.setSeq n (fun a => a.toOff s.frame.counter)).gatesDead n).cancelOpposed n false).endReqs n 0x0102 1 0).devIdle.keyDrop := rfl
  rw [e, State.hb, hi]
  exact r2.endReqs_done

/-- DISABLE_AXIS at Ready, while the axis waits, in Failed and at Off (R91, R93, R94, Table PWR-8). -/
theorem disableAxis_starts : Starts disableAxisSpec .disableAxis (fun h b u =>
    (b.seq (b.axisOf h) = .ready → (u.axSt (b.axisOf h)).latched = some false ∧ u.seq (b.axisOf h) = .ready) ∧
    (b.seq (b.axisOf h) = .waiting → u.seq (b.axisOf h) = (if (b.axSt (b.axisOf h)).viaD3 then .d3 else .off)) ∧
    (b.seq (b.axisOf h) = .failed → u.seq (b.axisOf h) = .off) ∧
    (b.seq (b.axisOf h) = .off → b.intake.hops.length = 32 → u.hb h 12 = 1 ∧ u.seq (b.axisOf h) = .off)) := by
  intro h s a hw
  refine ⟨_, congrArg Host.Outcome.next (takeRow_accepts a), fun hs => ?_, fun hs => ?_, fun hs => ?_, fun hs hn => ?_⟩
  · rw [disableAxis_ready hs, setSeq_axSt, setSeq_seq]
    exact ⟨rfl, hs⟩
  · rw [disableAxis_waiting hs]
    split
    · rw [State.seq, cancelOpposed_power]
      exact setSeq_seq _ _ _
    · exact axToOff_seq _ _
  · rw [disableAxis_rests (.inr hs), axToOff_seq]
  · have r : Requesting h _ 0x0102 _ := begun_requesting (c := disableAxisSpec) (r := ⟨0x0102, 1, true, [], 2, 0, 0, []⟩) rfl rfl rfl
      (fun _ _ => rfl) a hw hn
    rw [disableAxis_rests (.inl hs)]
    exact ⟨axToOff_done (r.unacted h), axToOff_seq _ _⟩

/-! ### OFFSTATE_TEST -/

theorem testPhase_mon (s : State) (n : Fin 4) : (s.testPhase n).mon = s.mon := only_mon (w := allBut .mon) (by simp) (by simp)

/-- A test that begins is noted with its source, its hopper and its first frame (R342). -/
theorem beginTest_tests (s : State) (n : Fin 4) (source h : Nat) :
    (s.beginTest n source h).mon.tests =
      s.mon.tests.set n (some { source := source, hop := h, startF := if source = 0 then s.frame.counter else s.frame.counter + 1 }) := by
  unfold State.beginTest
  extract_lets q u v
  have hv : v.mon.tests = u.mon.tests.set n (some
      { source := source, hop := h, startF := if source = 0 then u.frame.counter else u.frame.counter + 1 }) := by
    rw [testPhase_mon, setTest_tests]
  split
  · exact hv
  · exact hv

theorem offstateTest_starts : Starts offstateTestSpec .offstateTest (fun h b u =>
    u.mon.tests.get (b.axisOf h) = some { source := 2, hop := h.val, startF := b.frame.counter + 1 } ∧
    ∀ m, m ≠ b.axisOf h → u.mon.tests.get m = b.mon.tests.get m) := by
  intro h s a _
  refine ⟨_, congrArg Host.Outcome.next (takeRow_accepts a), ?_⟩
  have ht := beginTest_tests (s.begun offstateTestSpec h) ((s.begun offstateTestSpec h).axisOf h) 2 h
  refine ⟨?_, fun m hm => ?_⟩
  · exact (congrArg (fun q => Quad.get q _) ht).trans (Quad.get_set_self _ _ _)
  · exact (congrArg (fun q => Quad.get q m) ht).trans ((Quad.get_set _ _ _ _).trans (if_neg hm))

end Sys2Proof.Machine
end

section
/-! The fault path of an axis: it ends in Failed or at Off, and no completion on the way takes an active fault away. -/

namespace Sys2Proof.Machine

/-! ### Active faults through completions -/

section
variable {s t : State}

theorem active_of_blank (e : t.blank (allBut .faults) = s.blank (allBut .faults)) : t.faults.active = s.faults.active :=
  congrArg FaultSt.active (only_faults e (by simp))

theorem foldl_active {α : Type} {f : State → α → State} (hf : ∀ t a, (f t a).faults.active = t.faults.active) (l : List α) (s : State) :
    (l.foldl f s).faults.active = s.faults.active := by
  induction l generalizing s with
  | nil => rfl
  | cons a r ih => exact (ih _).trans (hf s a)

theorem forAxes_active {f : Fin 4 → State → State} (hf : ∀ n t, (f n t).faults.active = t.faults.active) (s : State) :
    (forAxes s f).faults.active = s.faults.active := by simp only [forAxes, hf]

theorem ite_active {c : Prop} [Decidable c] {a b : State} (ha : a.faults.active = s.faults.active) (hb : b.faults.active = s.faults.active) :
    (if c then a else b).faults.active = s.faults.active := by
  split
  · exact ha
  · exact hb

end

theorem ev_active (s : State) (code qual : Nat) : (s.ev code qual).faults.active = s.faults.active := by
  unfold State.ev
  dsimp only
  (repeat' split) <;> rfl

theorem giveBack_active (s : State) (x : Nat) : (s.giveBack x).faults.active = s.faults.active := by
  unfold State.giveBack
  split
  · rfl
  · split
    · rfl
    · split
      · next t e =>
        have ht : t.faults.active = s.faults.active := active_of_blank (State.respondFabric_blank (by simp) e)
        exact ht
      · rfl
  · split
    · next t e =>
      have ht : t.faults.active = s.faults.active := active_of_blank (State.respondIso_blank (by simp) e)
      exact ht
    · rfl
  · exact ite_active (ev_active _ _ _) (ite_active ((ev_active _ _ _).trans (ev_active _ _ _)) (ev_active _ _ _))

theorem finish_active (s : State) (x code detail : Nat) (res : List Byte) : (s.finish x code detail res).faults.active = s.faults.active := by
  unfold State.finish
  exact (giveBack_active _ x).trans (active_of_blank (by simp))

theorem runRefused_active (s : State) (x : Nat) : (s.runRefused x).faults.active = s.faults.active := by
  unfold State.runRefused
  split
  · exact ite_active (foldl_active (fun t w => ite_active (finish_active _ _ _ _ _) rfl) _ _) rfl
  · rfl

theorem refused_active (s : State) (x code detail : Nat) : (s.refused x code detail).faults.active = s.faults.active := by
  unfold State.refused State.refusing
  dsimp only
  exact ite_active (ite_active (ev_active _ _ _) rfl) (ite_active (ev_active _ _ _) rfl)

theorem refuse_active (s : State) (x code detail : Nat) (res : List Byte) : (s.refuse x code detail res).faults.active = s.faults.active := by
  rw [refuse_eq, runRefused_active, finish_active, refused_active]

theorem endCmd_active (s : State) (n : Fin 4) (code detail : Nat) : (s.endCmd n code detail).faults.active = s.faults.active := by
  have hs (c : Bool) (x : Nat) (res : List Byte) : (if c then s.finish x code detail res else s).faults.active = s.faults.active :=
    ite_active (finish_active _ _ _ _ _) rfl
  unfold State.endCmd
  dsimp only
  split
  · exact ite_active (hs _ _ _) (hs _ _ _)
  · exact ite_active rfl rfl

theorem endStop_active (s : State) (n : Fin 4) (code detail : Nat) : (s.endStop n code detail).faults.active = s.faults.active := by
  unfold State.endStop
  dsimp only
  split
  · exact ite_active (finish_active _ _ _ _ _) rfl
  · rfl

theorem endRun_active (s : State) (code detail status : Nat) : (s.endRun code detail status).faults.active = s.faults.active := by
  unfold State.endRun
  split
  · rfl
  · exact (foldl_active (fun t w => ite_active (finish_active _ _ _ _ _) rfl) _ _).trans (ite_active (finish_active _ _ _ _ _) rfl)

theorem leaveRunAs_active (s : State) (n : Fin 4) (code detail : Nat) : (s.leaveRunAs n code detail).faults.active = s.faults.active := by
  unfold State.leaveRunAs
  refine ite_active ?_ rfl
  rw [ev_active, endRun_active]
  exact forAxes_active (fun k t => ite_active (active_of_blank (by simp)) rfl) s

theorem dropAxis_active (s : State) (n : Fin 4) (code detail : Nat) : (s.dropAxis n code detail).faults.active = s.faults.active :=
  (endStop_active _ n code detail).trans ((endCmd_active _ n code detail).trans (leaveRunAs_active s n 2 _))

theorem endUnacted_active (s : State) (n : Fin 4) (code detail : Nat) : (s.endUnacted n code detail).faults.active = s.faults.active :=
  foldl_active (fun t x => refuse_active t x code detail _) _ s

theorem setTest_active (s : State) (n : Fin 4) (t : Option OffTest) : (s.setTest n t).faults.active = s.faults.active := by rw [setTest_faults]

theorem clampBack_active (s : State) (n : Fin 4) : (s.clampBack n).faults.active = s.faults.active := active_of_blank (by simp)

theorem abandonTest_active (s : State) (n : Fin 4) (detail : Nat) : (s.abandonTest n detail).faults.active = s.faults.active := by
  have hc : ((s.setTest n none).clampBack n).faults.active = s.faults.active := (clampBack_active _ n).trans (setTest_active s n none)
  unfold State.abandonTest
  split
  · rfl
  · exact ite_active rfl (ite_active ((finish_active _ _ _ _ _).trans hc) hc)

theorem lateStart_active (s : State) (x : Nat) : (s.lateStart x).faults.active = s.faults.active := by
  unfold State.lateStart
  split
  · rfl
  · exact ite_active (ev_active _ _ _) rfl

theorem reqsAct_active (s : State) (n : Fin 4) (op : Nat) : (s.reqsAct n op).faults.active = s.faults.active := by
  refine foldl_active (fun t x => ?_) _ s
  split
  · rfl
  · exact lateStart_active _ x

theorem endReqs_active (s : State) (n : Fin 4) (op code detail : Nat) : (s.endReqs n op code detail).faults.active = s.faults.active :=
  (foldl_active (fun _ _ => finish_active _ _ _ _ _) _ _).trans (ite_active (reqsAct_active s n op) rfl)

theorem cancelOpposed_active (s : State) (n : Fin 4) (on : Bool) : (s.cancelOpposed n on).faults.active = s.faults.active :=
  (endReqs_active _ _ _ _ _).trans (reqsAct_active _ _ _)

theorem axToOff_active (s : State) (n : Fin 4) : (s.axToOff n).faults.active = s.faults.active := by
  have hd (t : State) : t.devIdle.keyDrop.faults.active = t.faults.active := active_of_blank (by simp)
  unfold State.axToOff
  rw [hd, endReqs_active, cancelOpposed_active]
  rfl

/-! ### The fault path -/

/-- An axis that its fault path stops: switches and brake off, its index kept, its test and its commands ended (R82, R91, R93). -/
def State.axStopped (s : State) (n : Fin 4) (code : Nat) : State :=
  let t := (s.switchesOff n).brakeOff n
  let t := if t.movedLately n && t.axReady n then t.updMotion n (fun m => { m with posState := .unreferenced }) else t
  let t := (((t.keepIndex n).abandonTest n 0xFFFF).setTest n none).gatesDead n
  (t.dropAxis n 6 code).endUnacted n 6 code

/-- The commands behind the latest on request are told that it has failed (R93). -/
def State.behindFailed (s : State) (n : Fin 4) : State :=
  match (s.axReqs n 0x0101).getLast? with
  | some e =>
    let q := BitVec.ofNat 16 (s.seqNo e)
    let behind := s.byTaking.filter (fun x => (s.stage x).waiting && (s.axmask x).testBit n.val && decide ((s.hop e).takeNo < (s.hop x).takeNo))
    behind.foldl (fun (t : State) x => t.setHop x (fun y => { y with failedBy := some q })) s
  | none => s

/-- The sequencer of an axis in Failed (Table PWR-8). -/
def AxSeqSt.toFailed (a : AxSeqSt) (f : BitVec 32) (code : Nat) : AxSeqSt :=
  { a with seq := .failed, latched := none, stepAt := f, supply := false, viaD3 := false, brakeAt := none, calEnd := none, recal := false,
           failCode := some code }

/-- The axis stands in Failed, and its on requests have completed. -/
def State.axFailed (s : State) (n : Fin 4) (code : Nat) : State :=
  ((((s.setSeq n (fun a => a.toFailed s.frame.counter code)).keyDrop).updCur n (fun x => { x with hold := .off })).endReqs n 0x0101 6 code)

theorem axFail_eq {s : State} {n : Fin 4} (code : Nat) (h : ¬ (s.seq n = .off ∨ s.seq n = .failed)) :
    s.axFail n code = if ((((s.axStopped n code).behindFailed n).axFailed n code).axReqs n 0x0102).isEmpty
      then ((s.axStopped n code).behindFailed n).axFailed n code else (((s.axStopped n code).behindFailed n).axFailed n code).axToOff n := by
  unfold State.axFail
  exact if_neg h

theorem axStopped_active (s : State) (n : Fin 4) (code : Nat) : (s.axStopped n code).faults.active = s.faults.active := by
  unfold State.axStopped
  extract_lets t u v
  have hu : u.faults.active = s.faults.active := ite_active (active_of_blank (by simp [t])) (active_of_blank (by simp [t]))
  have hk : (u.keepIndex n).faults.active = u.faults.active := active_of_blank (by simp)
  have hv : v.faults.active = (((u.keepIndex n).abandonTest n 0xFFFF).setTest n none).faults.active := rfl
  rw [endUnacted_active, dropAxis_active, hv, setTest_active, abandonTest_active, hk, hu]

theorem behindFailed_active (s : State) (n : Fin 4) : (s.behindFailed n).faults.active = s.faults.active := by
  unfold State.behindFailed
  split
  · exact foldl_active (fun t x => congrArg FaultSt.active (setHop_faults t x _)) _ s
  · rfl

theorem axFailed_active (s : State) (n : Fin 4) (code : Nat) : (s.axFailed n code).faults.active = s.faults.active := by
  unfold State.axFailed
  rw [endReqs_active]
  exact active_of_blank (by simp)

theorem axFailed_seq (s : State) (n : Fin 4) (code : Nat) : (s.axFailed n code).seq n = .failed := by
  have hu (t : State) : (t.updCur n (fun x => { x with hold := .off })).power = t.power := rfl
  rw [State.seq, State.axFailed, endReqs_power, hu, keyDrop_axes]
  exact setSeq_seq _ _ _

/-- The fault path of an axis takes no active fault away. -/
theorem axFail_active (s : State) (n : Fin 4) (code : Nat) : (s.axFail n code).faults.active = s.faults.active := by
  by_cases h : s.seq n = .off ∨ s.seq n = .failed
  · unfold State.axFail
    rw [if_pos h]
  · have hf : (((s.axStopped n code).behindFailed n).axFailed n code).faults.active = s.faults.active := by
      rw [axFailed_active, behindFailed_active, axStopped_active]
    rw [axFail_eq code h]
    exact ite_active hf ((axToOff_active _ n).trans hf)

/-- The fault path of an axis ends in Failed, or at Off where it stood there or an off request is in flight (Table PWR-8). -/
theorem axFail_seq (s : State) (n : Fin 4) (code : Nat) : (s.axFail n code).seq n = .failed ∨ (s.axFail n code).seq n = .off := by
  by_cases h : s.seq n = .off ∨ s.seq n = .failed
  · unfold State.axFail
    rw [if_pos h]
    exact h.symm
  · rw [axFail_eq code h]
    split
    · exact .inl (axFailed_seq _ n code)
    · exact .inr (axToOff_seq _ n)

/-- A fault that fails its axis (R90, R93). -/
theorem raiseFail_fails (s : State) (n : Fin 4) (code qual : Nat) :
    ((s.raiseFail n code qual).seq n = .failed ∨ (s.raiseFail n code qual).seq n = .off) ∧ (s.raiseFail n code qual).faultActive code = true := by
  refine ⟨axFail_seq _ n code, ?_⟩
  rw [State.faultActive, State.raiseFail, axFail_active]
  exact (raiseAs_faultActive _ _ _ _ _ _ _).trans (by rw [beq_self_eq_true, Bool.true_or])

end Sys2Proof.Machine
end

section
/-! Checkpoints of an axis domain: the step that follows, the failing step, Ready, and the steps of the way down. -/

namespace Sys2Proof.Machine

theorem checkpointReached_axis (n : Fin 4) (vals : List Int) (s : State) :
    exec (.checkpointReached (.axis n) vals) s = .next (State.settle (s.axCheckpoint n vals).settleDoms) := rfl

/-! ### Where the sequencer of an axis stands -/

/-- Checkpoint `k` is noted as the last reached (R94). -/
def State.cpNoted (s : State) (n : Fin 4) (k : Nat) : State := s.setSeq n (fun a => { a with lastCp := k })

/-- The latched request is taken (R92). -/
def State.unlatched (s : State) (n : Fin 4) : State := s.setSeq n (fun a => { a with latched := none })

/-- From `s` on, axis `n` has come to stage `q` with `cp` as its last checkpoint, and the other axes stand where they stood. -/
structure AxisAt (n : Fin 4) (q : AxSeq) (cp : Nat) (s t : State) : Prop where
  seq : t.seq n = q
  cp : (t.axSt n).lastCp = cp
  other : ∀ m, m ≠ n → t.seq m = s.seq m

theorem clampOn_power (s : State) (n : Fin 4) : (s.clampOn n).power = s.power := only_power (w := allBut .power) (by simp) (by simp)

theorem beginTest_power (s : State) (n : Fin 4) (source h : Nat) : (s.beginTest n source h).power = s.power :=
  only_power (w := allBut .power) (by simp) (by simp)

namespace AxisAt

variable {n : Fin 4} {q : AxSeq} {cp : Nat} {s t u : State}

theorem start (s : State) (n : Fin 4) : AxisAt n (s.seq n) (s.axSt n).lastCp s s := ⟨rfl, rfl, fun _ _ => rfl⟩

theorem of_power (h : AxisAt n q cp s t) (e : u.power = t.power) : AxisAt n q cp s u where
  seq := (congrArg (fun p : PowerSt => (p.axes.get n).seq) e).trans h.seq
  cp := (congrArg (fun p : PowerSt => (p.axes.get n).lastCp) e).trans h.cp
  other m hm := (congrArg (fun p : PowerSt => (p.axes.get m).seq) e).trans (h.other m hm)

theorem setSeq (h : AxisAt n q cp s t) (f : AxSeqSt → AxSeqSt) : AxisAt n (f (t.axSt n)).seq (f (t.axSt n)).lastCp s (t.setSeq n f) where
  seq := setSeq_seq t n f
  cp := congrArg AxSeqSt.lastCp (setSeq_axSt t n f)
  other m hm := (setSeq_seq_other t f hm).trans (h.other m hm)

/-- An update of the sequencer that moves neither its stage nor its checkpoint. -/
theorem keep (h : AxisAt n q cp s t) {f : AxSeqSt → AxSeqSt} (hq : ∀ a, (f a).seq = a.seq) (hc : ∀ a, (f a).lastCp = a.lastCp) :
    AxisAt n q cp s (t.setSeq n f) where
  seq := (h.setSeq f).seq.trans ((hq _).trans h.seq)
  cp := (h.setSeq f).cp.trans ((hc _).trans h.cp)
  other := (h.setSeq f).other

theorem axStep (h : AxisAt n q cp s t) (r : AxSeq) : AxisAt n r cp s (t.axStep n r) :=
  have k := h.setSeq (fun a => { a with seq := r, stepAt := t.frame.counter })
  ⟨k.seq, k.cp.trans h.cp, k.other⟩

theorem cpNoted (h : AxisAt n q cp s t) (k : Nat) : AxisAt n q k s (t.cpNoted n k) :=
  have r := h.setSeq (fun a => { a with lastCp := k })
  ⟨r.seq.trans h.seq, r.cp, r.other⟩

theorem unlatched (h : AxisAt n q cp s t) : AxisAt n q cp s (t.unlatched n) := h.keep (fun _ => rfl) (fun _ => rfl)

theorem cancelOpposed (h : AxisAt n q cp s t) (on : Bool) : AxisAt n q cp s (t.cancelOpposed n on) := h.of_power (cancelOpposed_power t n on)

/-- The step that follows checkpoint `k` begins (Table PWR-5). -/
theorem upStep (h : AxisAt n q cp s t) (k : Nat) (vals : List Int) : AxisAt n (.up (k + 1)) cp s (t.upStep n k vals) := by
  have h1 := h.axStep (.up (k + 1))
  unfold State.upStep
  extract_lets t1 a1 a2 u v c
  split
  · refine (h1.keep (f := fun a => { a with supply := true }) (fun _ => rfl) (fun _ => rfl)).of_power ?_
    split
    · rfl
    · exact clampOn_power _ _
  · exact h1.of_power rfl
  · have hu : u.power = t1.power := only_power (w := allBut .power) (by simp [u]) (by simp)
    refine ((h1.of_power hu).keep (f := fun a => { a with calEnd := some (u.frame.counter + 4), recal := false }) (fun _ => rfl)
      (fun _ => rfl)).of_power ?_
    split
    · rfl
    · exact beginTest_power _ _ _ _
  · exact h1.keep (fun _ => rfl) (fun _ => rfl)

end AxisAt

/-! ### The way up -/

/-- With diag.os_enforce = 0 the codes of step 4 are raised, and the domain proceeds (R344). -/
def State.stepNoted (s : State) (n : Fin 4) (k : Nat) : State :=
  if k = 4 then (s.stepFaults n).foldl (fun t x => t.itemFault (x.2.getD 0) x.1 (x.2.getD 0) (t.item (x.2.getD 0)).last) s else s

theorem stepNoted_power (s : State) (n : Fin 4) (k : Nat) : (s.stepNoted n k).power = s.power :=
  only_power (w := allBut .power) (by simp [State.stepNoted]) (by simp)

section
variable {s : State} {n : Fin 4} {k : Nat} {vals : List Int}

/-- Checkpoint `k` of the way up, with the step's work in order and no request latched (R88, R92, R96). -/
theorem axCheckpoint_up (hs : s.seq n = .up k) (h5 : k ≠ 5) (h4 : k = 4 → (s.axSt n).bist ≠ 1) (hl : (s.axSt n).latched = none)
    (hd : s.upDone n k vals = true) (hv : s.upVerdict n k vals = []) :
    s.axCheckpoint n vals = ((((s.stepNoted n k).cpNoted n k).unlatched n).upStep n k vals).cancelOpposed n true := by
  have hb : ¬ (k = 4 ∧ ((((s.stepNoted n k).cpNoted n k)).axSt n).bist = 1) := fun ⟨e, h⟩ => h4 e (by
    rw [← h, State.cpNoted, setSeq_axSt, State.axSt, State.axSt, stepNoted_power])
  unfold State.axCheckpoint
  simp only [hs, hd, hv, hl, Bool.not_true, Bool.false_eq_true, if_false]
  rw [if_neg (by decide)]
  exact if_neg hb

/-- Checkpoint `k` of the way up, with a fault found in the step's work (R93). -/
theorem axCheckpoint_found {code q : Nat} {rest : List (Nat × Option Nat)} (hs : s.seq n = .up k) (h5 : k ≠ 5) (hd : s.upDone n k vals = true)
    (hv : s.upVerdict n k vals = (code, some q) :: rest) :
    s.axCheckpoint n vals = (rest.foldl (fun t x => t.raise x.1 (x.2.getD 0) (axBits n) false) s).raiseFail n code q := by
  unfold State.axCheckpoint
  simp only [hs, hd, hv, Bool.not_true, Bool.false_eq_true, if_false]

/-- The last checkpoint of the way up: Ready, and ENABLE_AXIS completes (R94, Table PWR-5 step 5). -/
theorem axCheckpoint_ready (hs : s.seq n = .up 5) (hl : (s.axSt n).latched = none) (hb : (s.axSt n).brakeAt = none)
    (hg : 1 ≤ s.since (s.axSt n).stepAt) : s.axCheckpoint n vals = (((s.unlatched n).cpNoted n 6).axReadyNow n).cancelOpposed n true := by
  have hb' : (((s.unlatched n).cpNoted n 6).axSt n).brakeAt.isSome = false := by
    rw [State.cpNoted, setSeq_axSt, State.unlatched, setSeq_axSt, hb]
    rfl
  unfold State.axCheckpoint
  simp only [hs, hl, hg, decide_true, Bool.not_true, Bool.false_eq_true, if_false]
  rw [if_neg (by decide)]
  exact congrArg (fun t : State => t.cancelOpposed n true) (if_neg (by rw [← State.unlatched, ← State.cpNoted, hb']; decide))

/-- At standstill with its brake engaged an axis goes from D1 to D2: its switches turn off (Table PWR-6). -/
theorem axCheckpoint_d1 (hs : s.seq n = .d1) (hl : (s.axSt n).latched = none) (hg : 1 ≤ s.since (s.axSt n).stepAt) (hd : s.stillDown n = true) :
    s.axCheckpoint n vals = (((((s.cpNoted n 7).unlatched n).axStep n .d2).switchesOff n).setTest n none).cancelOpposed n false := by
  unfold State.axCheckpoint
  simp only [hs, hl, hg, hd, decide_true, Bool.not_true, Bool.or_false, Bool.false_eq_true, if_false]
  exact if_neg (by decide)

theorem axCheckpoint_d2 (hs : s.seq n = .d2) (hl : (s.axSt n).latched = none) (hg : 1 ≤ s.since (s.axSt n).stepAt) :
    s.axCheckpoint n vals = (((s.cpNoted n 8).unlatched n).axStep n .d3).cancelOpposed n false := by
  unfold State.axCheckpoint
  simp only [hs, hl, hg, decide_true, Bool.not_true, Bool.false_eq_true, if_false]
  exact if_neg (by decide)

theorem axCheckpoint_d3 (hs : s.seq n = .d3) (hl : (s.axSt n).latched = none) (hg : 1 ≤ s.since (s.axSt n).stepAt) :
    s.axCheckpoint n vals = (((s.unlatched n).setSeq n (fun a => { a with lastCp := 0, supply := false })).keepIndex n).axToOff n := by
  unfold State.axCheckpoint
  simp only [hs, hl, hg, decide_true, Bool.not_true, Bool.false_eq_true, if_false]
  exact if_neg (by decide)

end

end Sys2Proof.Machine
end

section
/-! An axis at Ready, its switches in D2, the timeout of step 1, and the verdicts of the off-state test. -/

namespace Sys2Proof.Machine

/-! ### The engine at Ready -/

/-- The axis's engine stands in IDLE at the Ready checkpoint, whatever index it keeps (R236, R237). -/
theorem restoreIndex_idle (s : State) (n : Fin 4) : ((s.restoreIndex n).motion.get n).state = .idle := by
  have hu {f : MotionSt → MotionSt} (hf : ∀ m, (f m).state = .idle) : ((s.updMotion n f).motion.get n).state = .idle := by
    rw [updMotion_motion, Quad.get_upd_self, hf]
  unfold State.restoreIndex
  dsimp only
  split
  · split
    · exact hu fun _ => rfl
    · exact hu fun _ => rfl
  · rw [ev_motion]
    exact hu fun _ => rfl
  · exact hu fun _ => rfl

theorem rebaseAxis_motion (s : State) (n : Fin 4) (d : Int) : (s.rebaseAxis n d).motion = s.motion :=
  only_motion (w := allBut .motion) (by simp) (by simp)

theorem chanNote_motion (s : State) (n : Fin 4) (code qual : Nat) (cond : Bool) : (s.chanNote n code qual cond).motion = s.motion :=
  only_motion (w := allBut .motion) (by simp) (by simp)

/-- A shift that references the axis leaves its motion state (R388). -/
theorem shiftRef_state (s : State) (n : Fin 4) (d : Int) (ev : Bool) : ((s.shiftRef n d ev).motion.get n).state = (s.motion.get n).state := by
  unfold State.shiftRef
  split
  · rw [chanNote_motion]
  · next t ht =>
    have hm : (t.motion.get n).state = (s.motion.get n).state := by
      unfold State.shiftAxis at ht
      dsimp only at ht
      split at ht
      · cases ht
      · obtain rfl := Option.some.inj ht
        rw [rebaseAxis_motion, updMotion_motion, Quad.get_upd_self]
        rfl
    split
    · rw [ev_motion, updMotion_motion, Quad.get_upd_self, ← hm]
    · rw [updMotion_motion, Quad.get_upd_self, ← hm]

theorem chanReady_state (s : State) (n : Fin 4) : ((s.chanReady n).motion.get n).state = (s.motion.get n).state := by
  have ha (t : State) (f : ChannelSt → ChannelSt) : ((t.alignNow n).updChan n f).motion = t.motion :=
    only_motion (w := allBut .motion) (by simp) (by simp)
  unfold State.chanReady
  split
  · rfl
  · dsimp only
    rw [ha]
    split
    · exact shiftRef_state _ _ _ _
    · rfl

/-- An axis that reaches Ready, before its requests complete: its stage, its engine, and the index byte that they return. -/
def State.readied (s : State) (n : Fin 4) : State :=
  let t := (s.axStep n .ready).cpNoted n 6
  let t := ((((t.restoreIndex n).gateReady n).curReady n).wedgeReady n).chanReady n
  t.setSeq n (fun a => { a with idxByte := b01 (t.motion.get n).retained })

theorem axReadyNow_eq (s : State) (n : Fin 4) : s.axReadyNow n = (s.readied n).endReqs n 0x0101 1 0 := rfl

theorem readied_at (s : State) (n : Fin 4) : AxisAt n .ready 6 s (s.readied n) := by
  have h0 := ((AxisAt.start s n).axStep .ready).cpNoted 6
  unfold State.readied
  extract_lets t u
  have hu : u.power = t.power := only_power (w := allBut .power) (by simp [u]) (by simp)
  exact (h0.of_power hu).keep (f := fun a => { a with idxByte := b01 (u.motion.get n).retained }) (fun _ => rfl) (fun _ => rfl)

theorem readied_idle (s : State) (n : Fin 4) : ((s.readied n).motion.get n).state = .idle := by
  have hm (t : State) : (((t.gateReady n).curReady n).wedgeReady n).motion = t.motion :=
    only_motion (w := allBut .motion) (by simp) (by simp)
  unfold State.readied
  dsimp only
  rw [setSeq_motion, chanReady_state, hm, restoreIndex_idle]

theorem endReqs_motion (s : State) (n : Fin 4) (op code detail : Nat) : (s.endReqs n op code detail).motion = s.motion :=
  only_motion (w := allBut .motion) (by simp) (by simp)

theorem cancelOpposed_motion (s : State) (n : Fin 4) (on : Bool) : (s.cancelOpposed n on).motion = s.motion :=
  only_motion (w := allBut .motion) (by simp) (by simp)

/-! ### The switches in D2 -/

theorem startOff_turning (x : SwitchSt) : x.startOff.turning = false := by
  unfold SwitchSt.startOff
  split
  · rfl
  · simpa using ‹¬ x.turning = true›

/-- Neither switch of a half-bridge is on or turning on. -/
def BridgeSt.still (b : BridgeSt) : Prop := b.hi.turning = false ∧ b.lo.turning = false

theorem allOff_still (b : BridgeSt) (T pulse : Nat) : (b.allOff T pulse).still := by
  have hl (b : BridgeSt) : (b.lowEnds T pulse).hi = b.hi ∧ (b.lowEnds T pulse).lo = b.lo := by
    unfold BridgeSt.lowEnds
    split
    · exact ⟨rfl, rfl⟩
    · split <;> exact ⟨rfl, rfl⟩
  obtain ⟨hhi, hlo⟩ := hl { b.startOff true T pulse with lo := (b.startOff true T pulse).lo.startOff }
  exact ⟨(congrArg SwitchSt.turning hhi).trans (startOff_turning _), (congrArg SwitchSt.turning hlo).trans (startOff_turning _)⟩

theorem switchesOff_still (s : State) (n b : Fin 4) : ((s.switchesOff n).bridge n b).still := by
  have hb (g : GateSt) (f : BridgeSt → BridgeSt) : (g.mapBr f).br b = f (g.br b) := by fin_cases b <;> rfl
  rw [State.bridge, State.switchesOff, updGate_gate, Quad.get_upd_self, hb]
  exact allOff_still _ _ _

theorem setSources_switches (s : State) (n b : Fin 4) (x y : Option (Bool × Nat)) :
    ((s.setSources n x y).bridge n b).hi = (s.bridge n b).hi ∧ ((s.setSources n x y).bridge n b).lo = (s.bridge n b).lo := by
  rw [State.bridge, State.setSources, updGate_gate, Quad.get_upd_self]
  fin_cases b <;> exact ⟨rfl, rfl⟩

/-- The end of a test takes its sources from the phase nodes and leaves the switches. -/
theorem setTest_still {s : State} {n b : Fin 4} (h : (s.bridge n b).still) : ((s.setTest n none).bridge n b).still := by
  have e : s.setTest n none = ({ s with mon := { s.mon with tests := s.mon.tests.set n none } } : State).setSources n none none := rfl
  obtain ⟨hhi, hlo⟩ := setSources_switches { s with mon := { s.mon with tests := s.mon.tests.set n none } } n b none none
  rw [e, BridgeSt.still, hhi, hlo]
  exact h

theorem cancelOpposed_gate (s : State) (n : Fin 4) (on : Bool) : (s.cancelOpposed n on).gate = s.gate :=
  only_gate (w := allBut .gate) (by simp) (by simp)

/-! ### Step 1 that takes too long -/

theorem axisTimeout_fails {n : Fin 4} (us : Nat) {s : State} (hs : s.seq n = .up 1) (hg : 100 ≤ s.since (s.axSt n).stepAt) :
    exec (.checkpointTimeout (.axis n) us) s = .next (s.fresh.2.raiseFail n 0x1301 s.fresh.1).settle :=
  congrArg Host.Outcome.next (if_pos (by simp [hs, hg]))

/-! ### Verdicts of the off-state test -/

theorem clampBack_mon (s : State) (n : Fin 4) : (s.clampBack n).mon = s.mon := only_mon (w := allBut .mon) (by simp) (by simp)

theorem measured_tests (s : State) (k : Nat) (last : Int) (byIns : Bool) : (s.measured k last byIns).mon.tests = s.mon.tests := by
  unfold State.measured
  split <;> rfl

/-- The outcome of a test is a matter of the coils' items (R344). -/
theorem testOutcome_tests (s : State) (n : Fin 4) (mv : List Int) (byIns : Bool) : (s.testOutcome n mv byIns).mon.tests = s.mon.tests := by
  have one (t : State) (k row : Nat) : (if row = 3 then t.measured k (t.item k).last byIns
      else t.itemFault k (verdictCode row) k (t.item k).last).mon.tests = t.mon.tests := by
    split
    · exact measured_tests _ _ _ _
    · rfl
  exact (one _ _ _).trans (one _ _ _)

/-- A test that is over: none runs on the axis, and the clamp of an axis in CLAMP closes again (R349). -/
def State.testOver (s : State) (n : Fin 4) (mv : List Int) (byIns : Bool) : State := ((s.setTest n none).clampBack n).testOutcome n mv byIns

theorem testOver_tests (s : State) (n : Fin 4) (mv : List Int) (byIns : Bool) : (s.testOver n mv byIns).mon.tests = s.mon.tests.set n none := by
  rw [State.testOver, testOutcome_tests, clampBack_mon, setTest_tests]

theorem testOver_intake (s : State) (n : Fin 4) (mv : List Int) (byIns : Bool) : (s.testOver n mv byIns).intake = s.intake :=
  only_intake (w := allBut .intake) (by simp [State.testOver]) (by simp)

/-- Result data of OFFSTATE_TEST: both verdicts, and the eight averages. -/
def testResult (mv : List Int) : List Byte :=
  b8 (verdicts mv).1 ++ b8 (verdicts mv).2 ++ (fit 8 0 mv).flatMap (fun v => le16 (satU 16 v.toNat))

/-- The test of step 4 is over: its verdict waits for the checkpoint of the step (R344). -/
def State.stepTested (s : State) (n : Fin 4) (r : Nat × Nat) : State :=
  let t := s.setTest n none
  [2 * n.val, 2 * n.val + 1].foldl (fun t k => t.updItem k (fun x => { x with age := 0 }))
    { t with mon := { t.mon with rows4 := t.mon.rows4.set n (some r) } }

section
variable {s : State} {n : Fin 4} {o : OffTest} (mv : List Int) (ho : s.mon.tests.get n = some o) (hf : s.ahead o.startF ≤ -3)
include ho hf

theorem verdict_step (h0 : o.source = 0) :
    exec (.offstateTestVerdict n mv) s = .next (s.stepTested n (verdicts (o.averages mv))) := by
  simp only [exec, execOffstateTestVerdict, ho, h0, if_neg (Int.not_lt.mpr hf)]
  rfl

theorem verdict_inserted (h1 : o.source = 1) :
    exec (.offstateTestVerdict n mv) s = .next (s.testOver n (o.averages mv) true) := by
  simp only [exec, execOffstateTestVerdict, ho, h1, if_neg (Int.not_lt.mpr hf)]
  rfl

theorem verdict_commanded (h2 : o.source = 2) (hs : s.stage o.hop = .started) :
    exec (.offstateTestVerdict n mv) s =
      .next ((s.testOver n (o.averages mv) false).finish o.hop 1 0 (testResult (o.averages mv))).settle := by
  have hs' : (s.testOver n (o.averages mv) false).stage o.hop = .started :=
    (stage_of_intake (congrArg IntakeSt.hops (testOver_intake _ _ _ _)) _).trans hs
  simp only [exec, execOffstateTestVerdict, ho, h2, if_neg (Int.not_lt.mpr hf)]
  exact congrArg Host.Outcome.next (if_pos hs')

end

end Sys2Proof.Machine
end

section
/-! The requests, checkpoints and off-state tests of an axis, each clause by the lemma on its row. -/

namespace Sys2Proof.Machine

section
variable {s : State} {n : Fin 4} {k : Nat} {vals : List Int}

theorem checkpoint_up (hs : s.seq n = .up k) (h5 : k ≠ 5) (h4 : k = 4 → (s.axSt n).bist ≠ 1) (hl : (s.axSt n).latched = none)
    (hd : s.upDone n k vals = true) (hv : s.upVerdict n k vals = []) : AxisAt n (.up (k + 1)) k s (s.axCheckpoint n vals) := by
  rw [axCheckpoint_up hs h5 h4 hl hd hv]
  exact (((((AxisAt.start s n).of_power (stepNoted_power s n k)).cpNoted k).unlatched).upStep k vals).cancelOpposed true

theorem checkpoint_ready (hs : s.seq n = .up 5) (hl : (s.axSt n).latched = none) (hb : (s.axSt n).brakeAt = none)
    (hg : 1 ≤ s.since (s.axSt n).stepAt) :
    (s.axCheckpoint n vals).seq n = .ready ∧ ((s.axCheckpoint n vals).motion.get n).state = .idle ∧
      ((s.axCheckpoint n vals).axSt n).lastCp = 6 := by
  rw [axCheckpoint_ready hs hl hb hg, axReadyNow_eq]
  have h := ((readied_at ((s.unlatched n).cpNoted n 6) n).of_power (endReqs_power _ n 0x0101 1 0)).cancelOpposed true
  exact ⟨h.seq, by rw [cancelOpposed_motion, endReqs_motion, readied_idle], h.cp⟩

theorem checkpoint_d1 (hs : s.seq n = .d1) (hl : (s.axSt n).latched = none) (hg : 1 ≤ s.since (s.axSt n).stepAt) (hd : s.stillDown n = true) :
    AxisAt n .d2 7 s (s.axCheckpoint n vals) ∧ ∀ b, ((s.axCheckpoint n vals).bridge n b).still := by
  rw [axCheckpoint_d1 hs hl hg hd]
  have h := ((((AxisAt.start s n).cpNoted 7).unlatched).axStep .d2)
  have h' := h.of_power (setTest_power ((((s.cpNoted n 7).unlatched n).axStep n .d2).switchesOff n) n none)
  refine ⟨h'.cancelOpposed false, fun b => ?_⟩
  rw [State.bridge, cancelOpposed_gate]
  exact setTest_still (switchesOff_still _ n b)

theorem checkpoint_d2 (hs : s.seq n = .d2) (hl : (s.axSt n).latched = none) (hg : 1 ≤ s.since (s.axSt n).stepAt) :
    AxisAt n .d3 8 s (s.axCheckpoint n vals) := by
  rw [axCheckpoint_d2 hs hl hg]
  exact ((((AxisAt.start s n).cpNoted 8).unlatched).axStep .d3).cancelOpposed false

theorem checkpoint_d3 (hs : s.seq n = .d3) (hl : (s.axSt n).latched = none) (hg : 1 ≤ s.since (s.axSt n).stepAt) :
    (s.axCheckpoint n vals).seq n = .off := by
  rw [axCheckpoint_d3 hs hl hg, axToOff_seq]

end

section
variable {s : State} {n : Fin 4} {o : OffTest} (mv : List Int) (ho : s.mon.tests.get n = some o) (hf : s.ahead o.startF ≤ -3)
include ho hf

theorem stepVerdict_leaves (h0 : o.source = 0) :
    Answers (.offstateTestVerdict n mv) s (fun t => t.mon.tests.get n = none ∧ t.mon.rows4.get n = some (verdicts (o.averages mv)) ∧
      t.faults = s.faults ∧ ∀ m, m ≠ n → t.mon.tests.get m = s.mon.tests.get m) := by
  refine ⟨_, verdict_step mv ho hf h0, ?_⟩
  have ht : (s.stepTested n (verdicts (o.averages mv))).mon.tests = s.mon.tests.set n none := setTest_tests s n none
  refine ⟨by rw [ht, Quad.get_set_self], Quad.get_set_self _ _ _, setTest_faults s n none, fun m hm => ?_⟩
  rw [ht, Quad.get_set, if_neg hm]

theorem insertedVerdict_leaves (h1 : o.source = 1) :
    Answers (.offstateTestVerdict n mv) s (fun t => t.mon.tests.get n = none ∧ ∀ m, m ≠ n → t.mon.tests.get m = s.mon.tests.get m) := by
  refine ⟨_, verdict_inserted mv ho hf h1, ?_⟩
  dsimp only
  rw [testOver_tests]
  exact ⟨Quad.get_set_self _ _ _, fun m hm => by rw [Quad.get_set, if_neg hm]⟩

theorem commandedVerdict_completes (h2 : o.source = 2) (hs : s.stage o.hop = .started) (hw : cellWf s.intake.slots = true) :
    ∃ u : State, exec (.offstateTestVerdict n mv) s = .next u.settle ∧ u.mon.tests.get n = none ∧ u.hb o.hop 12 = 1 := by
  have hm (t : State) (x : Nat) (res : List Byte) : (t.finish x 1 0 res).mon = t.mon := only_mon (w := allBut .mon) (by simp) (by simp)
  refine ⟨_, verdict_commanded mv ho hf h2 hs, ?_, finish_code _ _ _ _ _ (by decide) (by rw [testOver_intake, hw])⟩
  rw [hm, testOver_tests, Quad.get_set_self]

end

/-- Settles O19: requests, checkpoints, the timeout of step 1 and off-state tests, each clause by the lemma on its row. -/
theorem axisSequenceComplete : Obligations.AxisSequenceComplete := by
  refine ⟨enableAxis_starts, disableAxis_starts, fun n k vals s hs h5 h4 hl hd hv => ?_, fun n k code q rest vals s hs h5 hd hv => ?_,
    fun n vals s hs hl hb hg => ⟨_, checkpointReached_axis n vals s, checkpoint_ready hs hl hb hg⟩, fun n vals s hs hl hg hd => ?_,
    fun n vals s hs hl hg => ⟨_, checkpointReached_axis n vals s, (checkpoint_d2 hs hl hg).seq⟩,
    fun n vals s hs hl hg => ⟨_, checkpointReached_axis n vals s, checkpoint_d3 hs hl hg⟩,
    fun n us s hs hg => ⟨_, axisTimeout_fails us hs hg, raiseFail_fails _ n 0x1301 _⟩, offstateTest_starts,
    fun n mv o s ho h0 hf => stepVerdict_leaves mv ho hf h0, fun n mv o s ho h1 hf => insertedVerdict_leaves mv ho hf h1,
    fun n mv o s ho h2 hf hs hw => commandedVerdict_completes mv ho hf h2 hs hw⟩
  · have h := checkpoint_up hs h5 h4 hl hd hv
    exact ⟨_, checkpointReached_axis n vals s, h.seq, h.cp, h.other⟩
  · exact ⟨_, checkpointReached_axis n vals s, by rw [axCheckpoint_found hs h5 hd hv]; exact raiseFail_fails _ n code q⟩
  · obtain ⟨h, hb⟩ := checkpoint_d1 (vals := vals) hs hl hg hd
    exact ⟨_, checkpointReached_axis n vals s, h.seq, h.cp, hb⟩

end Sys2Proof.Machine
end

section
/-! The host port: the counter of aborted frames, CS0 frames, applied writes and CS1 streams. -/

namespace Sys2Proof.Machine

/-! ### The counter of aborted frames -/

/-- A state whose table of reject counters lists the counter of aborted frames twice. -/
def countedTwice : State := { State.reset with pins := { State.reset.pins with rejects := [(165, 1), (165, 2)] } }

/-- ABORTCNT_CLEAR drops the first entry of the counter, and the second is read from then on. -/
theorem abortcntClear_countedTwice :
    exec .abortcntClear countedTwice = .next { countedTwice with pins := { countedTwice.pins with rejects := [(165, 2)] } } := rfl

/-- Refutes O6: a state need not keep its table of reject counters canonical. In `countedTwice` the clause on ABORTCNT_CLEAR fails: the
counter reads 2 after the clear. -/
theorem not_hostRegisterComplete : ¬ Obligations.HostRegisterComplete := by
  intro h
  obtain ⟨-, -, -, -, -, -, -, -, ⟨t, e, hzero, -⟩, -⟩ := h countedTwice
  rw [abortcntClear_countedTwice] at e
  cases e
  exact absurd hzero (by decide)

/-! ### Aborted transfers -/

section
variable (s : State) (why : Nat)

theorem abort_link : (s.abort why).link = s.link := only_link (w := allBut .link) (by simp) (by simp)

theorem abort_rejects : (s.abort why).rejects 165 = min 0xFFFF (s.rejects 165 + 1) := bumpReject_rejects s 165

end

/-! ### The fall of a select -/

section
variable {s : State}

/-- The select's fall has recorded the SCK level (R116). -/
def State.fallen (s : State) (w : SelFall) : State := { s with host := { s.host with mode3 := w.sckHigh } }

theorem selFall_taken {w : SelFall} (h : w.rdy = true) : s.selFall w = s.fallen w := if_pos h

theorem selFall_link (s : State) (w : SelFall) : (s.selFall w).link = s.link := by
  unfold State.selFall
  split <;> rfl

theorem selFall_rejects (s : State) (w : SelFall) (p : Nat) : (s.selFall w).rejects p = s.rejects p := by
  unfold State.selFall
  split <;> rfl

/-- A frame that meets no cause, or one behind 0x02, began with RDY high and the other select high (R129). -/
theorem fall_of_cause {f : HostFrame} {stalled : Bool} (h : abortCause s f stalled = 0 ∨ 3 ≤ abortCause s f stalled) :
    f.fall.rdy = true ∧ f.fall.other = false := by
  unfold abortCause at h
  split at h
  · simp at h
  · next hr =>
    split at h
    · simp at h
    · next ho => exact ⟨by simpa using hr, by simpa using ho⟩

/-! ### CS0 frames -/

/-- The state of a CS0 frame between its select fall and its effect. -/
def State.cs0Begun (s : State) (f : HostFrame) (aborted : Bool) : State := (s.cs0Fall f.fall (hfHoldsIo1 f)).cs0End aborted

/-- Beside the SCK level, a frame that begins changes only what the port drives in the command phase and the marks of the last frame. -/
theorem cs0Begun_eq (s : State) (f : HostFrame) (aborted : Bool) :
    ∃ st lo, s.cs0Begun f aborted =
        { s.selFall f.fall with link := { s.link with fstat := st, io1Low := lo, prevAbort := aborted, prevWrite := false } } ∧
      (f.fall.rdy = true → f.fall.other = false → s.host.cmdq = false → st = s.fstatNow) := by
  unfold State.cs0Begun State.cs0Fall State.cs0End
  dsimp only
  split
  · exact ⟨_, _, by rw [selFall_link], fun _ _ _ => rfl⟩
  · next hc => exact ⟨_, _, by rw [selFall_link], fun hr ho hq => absurd (by simp [hr, ho, hq]) hc⟩

theorem cs0Begun_rejects (f : HostFrame) (aborted : Bool) (p : Nat) : (s.cs0Begun f aborted).rejects p = s.rejects p := by
  obtain ⟨st, lo, e, -⟩ := cs0Begun_eq s f aborted
  rw [e, ← selFall_rejects s f.fall p]
  rfl

/-- A read samples no register that the port's link holds. -/
theorem hostByte_of_link (t : State) (l : LinkSt) (a : Nat) : ({ t with link := l } : State).hostByte a = t.hostByte a := rfl

theorem cs0Begun_hostByte (f : HostFrame) (aborted : Bool) (a : Nat) : (s.cs0Begun f aborted).hostByte a = (s.selFall f.fall).hostByte a := by
  obtain ⟨st, lo, e, -⟩ := cs0Begun_eq s f aborted
  rw [e, hostByte_of_link]

section
variable {f : HostFrame} (hr : s.rdy = true)
include hr

theorem cs0Frame_aborted (hc : abortCause s f false ≠ 0) :
    s.cs0Frame f = (if f.isRead then (s.cs0Begun f true).readZeros f (abortCause s f false) else s.cs0Begun f true).abort
      (abortCause s f false) := by
  have hb : (abortCause s f false != 0) = true := bne_iff_ne.mpr hc
  simp only [State.cs0Frame, hr, hb, hc, State.cs0Begun, Bool.not_true, Bool.and_false, Bool.false_eq_true, if_false, ne_eq, not_false_eq_true, if_true]

theorem cs0Frame_taken (hc : abortCause s f false = 0) :
    s.cs0Frame f = if f.isReset then (s.cs0Begun f false).modeReset else if f.isRead then (s.cs0Begun f false).readOut f
      else (s.cs0Begun f false).acceptWrite f := by
  simp only [State.cs0Frame, hr, hc, State.cs0Begun, Bool.not_true, Bool.and_false, Bool.false_eq_true, if_false, ne_eq, not_true_eq_false, bne_self_eq_false]

/-- A write frame with no cause waits to be applied (R128, R130). -/
theorem hostWriteFrame_accepted {w : SckFrame} (hf : f = s.hostFrame w) (hd : f.isRead = false) (hc : abortCause s f false = 0) :
    Answers (.hostWriteFrame w) s (fun t => t.link.writes = s.link.writes ++ [{ addr := hfAddr f, data := hfData f }] ∧
      t.link.prevAbort = false ∧ t.link.prevWrite = false ∧ (s.host.cmdq = false → t.link.fstat = s.fstatNow) ∧
      t.host = { s.host with mode3 := f.fall.sckHigh } ∧ s.only [.link, .host] t) := by
  obtain ⟨hup, hother⟩ := fall_of_cause (.inl hc)
  have hreset : f.isReset = false := by
    unfold HostFrame.isRead at hd
    unfold HostFrame.isReset
    split at hd
    · next c e => rw [e]; exact beq_eq_false_iff_ne.mpr fun h => by cases h; simp at hd
    · next e => rw [e]; rfl
  obtain ⟨st, lo, hb, hst⟩ := cs0Begun_eq s f false
  refine ⟨(s.cs0Begun f false).acceptWrite f, ?_, ?_⟩
  · change Host.Outcome.next (s.cs0Frame (s.hostFrame w)) = _
    rw [← hf, cs0Frame_taken hr hc, if_neg (by simp [hreset]), if_neg (by simp [hd])]
  · refine ⟨?_, ?_, ?_, ?_, ?_, by simp [State.only, State.cs0Begun]⟩
    all_goals rw [hb, selFall_taken hup]
    exacts [rfl, rfl, rfl, hst hup hother, rfl]

/-- A write frame with a cause is aborted and counted, and waits for nothing (R129). -/
theorem hostWriteFrame_aborted {w : SckFrame} (hf : f = s.hostFrame w) (hd : f.isRead = false) (hc : abortCause s f false ≠ 0) :
    Answers (.hostWriteFrame w) s (fun t => t.link.writes = s.link.writes ∧ t.link.prevAbort = true ∧ t.host.herr = true ∧
      t.host.abortWhy = abortCause s f false ∧ t.rejects 165 = min 0xFFFF (s.rejects 165 + 1) ∧
      s.only [.link, .host, .pins, .faults, .fab] t) := by
  obtain ⟨st, lo, hb, -⟩ := cs0Begun_eq s f true
  refine ⟨(s.cs0Begun f true).abort (abortCause s f false), ?_, ?_, ?_, rfl, rfl, ?_, by simp [State.only, State.cs0Begun]⟩
  · change Host.Outcome.next (s.cs0Frame (s.hostFrame w)) = _
    rw [← hf, cs0Frame_aborted hr hc, if_neg (by simp [hd])]
  · rw [abort_link, hb]
  · rw [abort_link, hb]
  · rw [abort_rejects, cs0Begun_rejects]

/-- A read frame with no cause returns the bytes of its address as they are at the end of its address phase (R131). -/
theorem hostReadFrame_read {w : SckFrame} (hf : f = s.hostFrame w) (hd : f.isRead = true) (hreset : f.isReset = false)
    (hc : abortCause s f false = 0) (hcrc : f.crc = false) (hlate : f.late = []) :
    Answers (.hostReadFrame w) s (fun t => t.link.rdData = (List.range (hfClocked f)).map (fun i => (s.selFall f.fall).hostByte (hfAddr f + i)) ∧
      t.link.rdCrc = none ∧ t.link.prevAbort = false ∧ t.host = { s.host with mode3 := f.fall.sckHigh } ∧ s.only [.link, .host] t) := by
  obtain ⟨hup, -⟩ := fall_of_cause (.inl hc)
  obtain ⟨st, lo, hb, -⟩ := cs0Begun_eq s f false
  refine ⟨(s.cs0Begun f false).readOut f, ?_, ?_, ?_, ?_, ?_, by simp [State.only, State.cs0Begun]⟩
  · change Host.Outcome.next (s.cs0Frame (s.hostFrame w)) = _
    rw [← hf, cs0Frame_taken hr hc, if_neg (by simp [hreset]), if_pos hd]
  · simp [State.readOut, State.driveRead, hlate, cs0Begun_hostByte]
  · simp [State.readOut, State.driveRead, hcrc]
  · rw [hb]
    rfl
  · rw [hb, selFall_taken hup]
    simp [State.readOut, State.driveRead, State.fallen, hlate]

/-- An aborted read drives zeros (R129). -/
theorem hostReadFrame_aborted {w : SckFrame} (hf : f = s.hostFrame w) (hd : f.isRead = true) (hc : 3 ≤ abortCause s f false) :
    Answers (.hostReadFrame w) s (fun t => t.link.rdData = List.replicate (hfClocked f) 0 ∧ t.host.herr = true ∧
      t.host.abortWhy = abortCause s f false ∧ t.link.prevAbort = true ∧ s.only [.link, .host, .pins, .faults, .fab] t) := by
  obtain ⟨st, lo, hb, -⟩ := cs0Begun_eq s f true
  refine ⟨((s.cs0Begun f true).driveRead f (List.replicate (hfClocked f) 0) true).abort (abortCause s f false), ?_, ?_, rfl, rfl, ?_,
    by simp [State.only, State.cs0Begun]⟩
  · change Host.Outcome.next (s.cs0Frame (s.hostFrame w)) = _
    rw [← hf, cs0Frame_aborted hr (by omega), if_pos hd, State.readZeros, if_neg (by omega)]
  · rw [abort_link]
    rfl
  · rw [abort_link, hb]
    rfl

/-- Without an SCK edge for 500 µs a frame is aborted that is no mode reset and no read (R129). -/
theorem hostSckTimeout_aborts {w : SckFrame} (hf : f = s.hostFrame w) (hc : 3 ≤ abortCause s f true) (hd : f.isRead = false ∨ s.cmdUnknown f = true) :
    Answers (.hostSckTimeout w) s (fun t => t.host.abortWhy = abortCause s f true ∧ t.host.herr = true ∧
      t.link.writes = s.link.writes ∧ t.link.prevAbort = true) := by
  obtain ⟨st, lo, hb, -⟩ := cs0Begun_eq s f true
  refine ⟨(s.cs0Begun f true).abort (abortCause s f true), ?_, rfl, rfl, ?_, ?_⟩
  · have hgo : ¬ (!s.rdy || decide (abortCause s f true ≤ 0x02) || (f.isRead && !s.cmdUnknown f)) = true := by
      rcases hd with hd | hd <;> simp [hr, hd] <;> omega
    subst hf
    exact congrArg Host.Outcome.next (if_neg hgo)
  · rw [abort_link, hb]
  · rw [abort_link, hb]

omit f in
/-- A mode reset returns the port to single-lane commands and changes nothing else (R120). -/
theorem modeReset_resets {w : SelFall} (hup : w.rdy = true) (hother : w.other = false) :
    Answers (.modeReset w) s (fun t => t.host = { s.host with cmdq := false, mode3 := w.sckHigh } ∧ t.link.prevAbort = false ∧
      t.link.writes = s.link.writes ∧ s.only [.link, .host] t) := by
  have hc : abortCause s (modeResetFrame w) false = 0 := by
    unfold abortCause
    rw [if_neg (by simp [modeResetFrame, hup]), if_neg (by simp [modeResetFrame, hother])]
    rfl
  obtain ⟨st, lo, hb, -⟩ := cs0Begun_eq s (modeResetFrame w) false
  refine ⟨(s.cs0Begun (modeResetFrame w) false).modeReset, ?_, ?_, ?_, ?_, by simp [State.only, State.cs0Begun]⟩
  · exact congrArg Host.Outcome.next (cs0Frame_taken hr hc)
  all_goals rw [hb]
  · rw [selFall_taken (by exact hup)]
    rfl
  · rfl
  · rfl

end

/-! ### Applied writes -/

/-- Bytes that are written read back in their order, and the bytes before and behind them keep their value. -/
theorem cellWrite_reads {m : List Host.Cell} (h : cellWf m = true) (a : Nat) (l : List Byte) :
    (∀ i < l.length, cellGet (cellWrite m a l) (a + i) = l.getD i 0) ∧
      ∀ x, (x < a ∨ a + l.length ≤ x) → cellGet (cellWrite m a l) x = cellGet m x := by
  refine ⟨fun i hi => ?_, fun x hx => ?_⟩
  · rw [cellGet_write m a (a + i) l h, if_pos (by omega), Nat.add_sub_cancel_left]
  · rw [cellGet_write m a x l h, if_neg (by omega)]

theorem applyWrite_slots {w : HostWrite} (hlo : 0x0800 ≤ w.addr) (hhi : w.addr + w.data.length ≤ 0x1000) (s : State) :
    applyWrite w s = s.putSlot (w.addr - 0x0800) w.data := by
  rw [applyWrite, if_neg (by omega)]
  split
  · rfl
  · have hnone : w.data = [] := List.eq_nil_of_length_eq_zero (by omega)
    rw [hnone]
    rfl

theorem applyWrite_bulk {w : HostWrite} (hlo : 0x1000 ≤ w.addr) (s : State) : applyWrite w s = s.putBulk (w.addr - 0x1000) w.data := by
  rw [applyWrite, if_neg (by omega), if_neg (by omega)]

/-- The state after an applied write: `r` is left to apply, and FSTAT will show the write in the next frame (R119, R130). -/
def State.applied (s : State) (r : List HostWrite) : State :=
  { s with link := { s.link with writes := r, prevWrite := !s.link.prevAbort } }

section
variable {w : HostWrite} {r : List HostWrite} (hw : s.link.writes = w :: r)
include hw

theorem writeApplied_eq : exec .writeApplied s = .next (
    let t := applyWrite w { s with link := { s.link with writes := r } }
    { t with link := { t.link with prevWrite := !t.link.prevAbort } }) := by
  simp only [exec, execWriteApplied, hw]

theorem writeApplied_slots (hlo : 0x0800 ≤ w.addr) (hhi : w.addr + w.data.length ≤ 0x1000) (hwf : cellWf s.intake.slots = true) :
    Answers .writeApplied s (fun t => t.link = { s.link with writes := r, prevWrite := !s.link.prevAbort } ∧ s.only [.link, .intake] t ∧
      t.intake.bulk = s.intake.bulk ∧ t.intake.hops = s.intake.hops ∧
      (∀ i < w.data.length, cellGet t.intake.slots (w.addr - 0x0800 + i) = w.data.getD i 0) ∧
      ∀ a, (a < w.addr - 0x0800 ∨ w.addr - 0x0800 + w.data.length ≤ a) → cellGet t.intake.slots a = cellGet s.intake.slots a) := by
  refine ⟨(s.putSlot (w.addr - 0x0800) w.data).applied r, ?_, rfl, by simp [State.only, State.applied], rfl, rfl, cellWrite_reads hwf _ _⟩
  rw [writeApplied_eq hw, applyWrite_slots hlo hhi]
  rfl

theorem writeApplied_bulk (hlo : 0x1000 ≤ w.addr) (hwf : cellWf s.intake.bulk = true) :
    Answers .writeApplied s (fun t => t.link = { s.link with writes := r, prevWrite := !s.link.prevAbort } ∧ s.only [.link, .intake] t ∧
      t.intake.slots = s.intake.slots ∧ t.intake.hops = s.intake.hops ∧
      (∀ i < w.data.length, cellGet t.intake.bulk (w.addr - 0x1000 + i) = w.data.getD i 0) ∧
      ∀ a, (a < w.addr - 0x1000 ∨ w.addr - 0x1000 + w.data.length ≤ a) → cellGet t.intake.bulk a = cellGet s.intake.bulk a) := by
  refine ⟨(s.putBulk (w.addr - 0x1000) w.data).applied r, ?_, rfl, by simp [State.only, State.applied], rfl, rfl, cellWrite_reads hwf _ _⟩
  rw [writeApplied_eq hw, applyWrite_bulk hlo]
  rfl

end

end

/-- Settles O8: each clause by the lemma on its frame. -/
theorem hostFrameComplete : Obligations.HostFrameComplete :=
  ⟨fun _ _ _ hf hr => hostWriteFrame_accepted hr hf, fun _ _ _ hf hr => hostWriteFrame_aborted hr hf,
    fun _ _ _ hf hr => hostReadFrame_read hr hf, fun _ _ _ hf hr => hostReadFrame_aborted hr hf, fun _ _ hr => modeReset_resets hr,
    fun _ _ _ hf hr => hostSckTimeout_aborts hr hf, fun _ _ _ => writeApplied_slots, fun _ _ _ => writeApplied_bulk⟩

/-! ### CS1 streams -/

theorem fit_length {α : Type} (n : Nat) (d : α) (l : List α) : (fit n d l).length = n := by simp [fit]

/-- A string of `n` elements that is padded stands before the padding. -/
theorem fit_fit_take {α : Type} {n k : Nat} (h : n ≤ k) (d : α) {l : List α} (hl : l.length = n) : (fit k d (fit n d l)).take n = l := by
  unfold fit
  rw [List.take_take, Nat.min_eq_left h, List.take_append_of_le_length (by simp), List.take_take, Nat.min_self,
    List.take_append_of_le_length hl.ge, List.take_of_length_le hl.le]

/-- Beyond its `n` elements a padded string holds the padding alone. -/
theorem fit_fit_drop {α : Type} {n k : Nat} (d : α) (l : List α) : ∀ b ∈ (fit k d (fit n d l)).drop n, b = d := by
  intro b hb
  have hlen : ((l ++ List.replicate n d).take n).length = n := fit_length n d l
  unfold fit at hb
  rw [List.drop_take, List.drop_append_of_le_length (by omega), List.drop_eq_nil_of_le (by omega), List.nil_append] at hb
  exact List.eq_of_mem_replicate (List.mem_of_mem_take hb)

section
variable {s : State} {w : SelFall}

theorem up_of_cs1Cause (hc : cs1Cause s w = 0) : w.rdy = true := by
  unfold cs1Cause at hc
  split at hc
  · simp at hc
  · simpa using ‹¬(!w.rdy) = true›

theorem cs1Frame_taken (hr : s.rdy = true) (hc : cs1Cause s w = 0) (k : State → State) :
    s.cs1Frame w k = k (s.fallen w) := by
  rw [State.cs1Frame, if_neg (by simp [hr])]
  dsimp only
  rw [if_pos hc, selFall_taken (up_of_cs1Cause hc)]

/-- The bridge sends the first `n` of the bits received, and the response that was held has gone out. -/
def State.bridging (s : State) (bits : List Bool) (n : Nat) : State :=
  let t := cs1Count s bits.length s.link.brResp
  { t with host := { t.host with strBrbusy := true }
           link := { t.link with brResp := [], brSend := bits.take n, brSel := s.host.strSsel }
           sensor := { t.sensor with bridge := true } }

theorem bridgeStart_eq {bits : List Bool} (s : State) (hn : 0 < min bits.length s.host.strlen) :
    bridgeStart bits s = s.bridging bits (min bits.length s.host.strlen) := if_neg hn.ne'

/-- A release with SRC = 1 starts the transfer of its bits (R140). -/
theorem sensorBridge_starts {bits : List Bool} (hr : s.rdy = true) (hc : cs1Cause s w = 0) (hsrc : s.host.strSrc = 1)
    (hn : 0 < min bits.length s.host.strlen) :
    Answers (.sensorBridgeTransfer w bits) s (fun t => t.host.strBrbusy = true ∧ t.link.brSend = bits.take (min bits.length s.host.strlen) ∧
      t.link.brSel = s.host.strSsel ∧ t.sensor.bridge = true ∧ t.host.strCnt = min bits.length s.host.strlen ∧
      t.link.csOut.length = bits.length ∧ s.only [.link, .host, .sensor] t) :=
  ⟨(s.fallen w).bridging bits (min bits.length s.host.strlen),
    congrArg Host.Outcome.next ((cs1Frame_taken hr hc _).trans ((if_pos hsrc).trans (bridgeStart_eq _ hn))),
    rfl, rfl, rfl, rfl, rfl, fit_length _ _ _, by simp [State.only, State.bridging, State.fallen]⟩

/-- The end of a bridge transfer frees the bridge and holds the response, of zeros after a failure (R140, R417). -/
theorem bridgeTransfer_done {read : List Bool} (hb : s.host.strBrbusy = true) :
    Answers (.bridgeTransferDone read) s (fun t =>
      t.host = { s.host with strBrbusy := false, strBrdone := true, strBrto := s.host.strBrto || (s.readHead read).1 != 0 } ∧
      t.link.brResp.length = s.link.brSend.length ∧ ((s.readHead read).1 ≠ 0 → ∀ b ∈ t.link.brResp, b = false) ∧
      s.only [.link, .host, .sensor] t) := by
  refine ⟨s.bridgeEnd ((s.readHead read).1 != 0) (s.readHead read).2, rfl, ?_, ?_, fun hf => ?_, by simp [State.only]⟩
  all_goals rw [State.bridgeEnd, if_pos hb]
  · dsimp only
    split
    · exact List.length_replicate
    · exact fit_length _ _ _
  · dsimp only
    rw [if_pos (bne_iff_ne.mpr hf)]
    exact fun b => List.eq_of_mem_replicate

/-- A transfer with SRC = 2 sends the record and then zeros (R141). -/
theorem snapshotReadout_sends {clocks : Nat} (hr : s.rdy = true) (hc : cs1Cause s w = 0) (hsrc : s.host.strSrc = 2) (hq : s.host.strQuad = false) :
    Answers (.snapshotReadout w clocks) s (fun t => t.link.csOut.length = clocks ∧
      t.link.csOut.take (min clocks s.host.strlen) = s.snapBits (min clocks s.host.strlen) ∧
      (∀ b ∈ t.link.csOut.drop (min clocks s.host.strlen), b = false) ∧ t.link.brResp = s.link.brResp ∧
      t.host.strCnt = min clocks s.host.strlen ∧ t.host.strOver = (s.host.strOver || decide (s.host.strlen < clocks)) ∧ s.only [.link, .host] t) := by
  have hb : snapshotOut clocks (s.fallen w) = cs1Count (s.fallen w) clocks (s.snapBits (min clocks s.host.strlen)) := by
    have hq' : ¬ (s.fallen w).host.strQuad = true := by simp [State.fallen, hq]
    rw [snapshotOut, if_neg hq']
    rfl
  exact ⟨cs1Count (s.fallen w) clocks (s.snapBits (min clocks s.host.strlen)),
    congrArg Host.Outcome.next ((cs1Frame_taken hr hc _).trans ((if_pos hsrc).trans hb)), fit_length _ _ _,
    fit_fit_take (Nat.min_le_left _ _) _ (fit_length _ _ _), fit_fit_drop _ _, rfl, rfl, rfl, by simp [State.only, State.fallen]⟩

/-- A transfer that meets a cause is aborted and counted (R129). -/
theorem cs1Transfer_refused (hup : w.rdy = true → s.rdy = true) (hc : cs1Cause s w ≠ 0) :
    Answers (.cs1TransferRefused w) s (fun t => t.host.abortWhy = cs1Cause s w ∧ t.host.herr = true ∧
      t.rejects 165 = min 0xFFFF (s.rejects 165 + 1) ∧ t.link = s.link) := by
  refine ⟨(s.selFall w).abort (cs1Cause s w), congrArg Host.Outcome.next ((if_neg ?_).trans (if_neg hc)), rfl, rfl, ?_, ?_⟩
  · simpa using hup
  · rw [abort_rejects, selFall_rejects]
  · rw [abort_link, selFall_link]

end

/-- Settles O9: each clause by the lemma on its transfer. -/
theorem streamComplete : Obligations.StreamComplete :=
  ⟨fun _ _ _ => sensorBridge_starts, fun _ _ => bridgeTransfer_done, fun _ _ _ => snapshotReadout_sends, fun _ _ => cs1Transfer_refused⟩

end Sys2Proof.Machine
end

section
/-! The byte buffers keep their canonical form (O49). `Canonical` speaks of the state with every other part blanked, so the frame laws of the
operations off the intake and the plan rewrite it, and only the operations on these two parts need a lemma of their own: an `↔` where `simp`
sees that the buffers stay as they are, an implication elsewhere. -/

namespace Sys2Proof.Machine

/-- Every part of the state but the two that hold byte buffers. -/
def offBuffers : List Group := (allBut .intake).filter (fun g => g != .plan)

@[simp] theorem mem_offBuffers (g : Group) : g ∈ offBuffers ↔ g ≠ .intake ∧ g ≠ .plan := by
  simp [offBuffers, mem_allBut]

/-- The invariant of O49: the hopper slots, the bulk window and the map's staging area have their canonical form (R130, R144, R421). -/
structure State.BuffersOk (s : State) : Prop where
  slots : cellWf s.intake.slots = true
  bulk : cellWf s.intake.bulk = true
  stage : cellWf s.plan.stage = true

/-- The invariant, stated of the two parts that it speaks of: a step off them does not change the proposition. -/
@[simp] abbrev Canonical (s : State) : Prop := (s.blank offBuffers).BuffersOk

theorem canonical_def (s : State) : Canonical s ↔
    cellWf s.intake.slots = true ∧ cellWf s.intake.bulk = true ∧ cellWf s.plan.stage = true := by
  have hi : (s.blank offBuffers).intake = s.intake := by simp [State.blank]
  have hp : (s.blank offBuffers).plan = s.plan := by simp [State.blank]
  constructor
  · rintro ⟨hs, hb, ht⟩
    exact ⟨hi ▸ hs, hi ▸ hb, hp ▸ ht⟩
  · rintro ⟨hs, hb, ht⟩
    exact ⟨hi ▸ hs, hi ▸ hb, hp ▸ ht⟩

@[simp] theorem buffersOk_ite {c : Prop} [Decidable c] {a b : State} :
    (if c then a else b).BuffersOk ↔ if c then a.BuffersOk else b.BuffersOk := by
  split <;> rfl

/-- Of a state written out part by part, the intake and the plan decide. -/
@[simp] theorem canonical_mk {clock frame pins power ret host link intake params motion cur wedge gate follow mon channels cmp divo
    sensor plan ports fab iso twin svc faults free pending} :
    Canonical (State.mk clock frame pins power ret host link intake params motion cur wedge gate follow mon channels cmp divo
      sensor plan ports fab iso twin svc faults free pending) ↔
      cellWf intake.slots = true ∧ cellWf intake.bulk = true ∧ cellWf plan.stage = true := canonical_def _

/-- And where they are those of a state that is not written out, that state does. -/
@[simp] theorem canonical_fold (s : State) :
    (cellWf s.intake.slots = true ∧ cellWf s.intake.bulk = true ∧ cellWf s.plan.stage = true) ↔ Canonical s :=
  (canonical_def s).symm

variable {s t : State}

@[simp] theorem Canonical.slots (h : Canonical s) : cellWf s.intake.slots = true := ((canonical_def s).mp h).1

@[simp] theorem Canonical.bulk (h : Canonical s) : cellWf s.intake.bulk = true := ((canonical_def s).mp h).2.1

@[simp] theorem Canonical.stage (h : Canonical s) : cellWf s.plan.stage = true := ((canonical_def s).mp h).2.2

/-- What changes neither part keeps the invariant. -/
theorem Canonical.of_blank (h : Canonical s) (e : t.blank offBuffers = s.blank offBuffers) : Canonical t := by
  rw [Canonical, e]
  exact h

theorem Canonical.ite {c : Prop} [Decidable c] (hs : c → Canonical s) (ht : ¬ c → Canonical t) : Canonical (if c then s else t) := by
  split
  · exact hs ‹_›
  · exact ht ‹_›

theorem Canonical.foldl {α : Type} {f : State → α → State} (hf : ∀ t a, Canonical t → Canonical (f t a)) (l : List α) :
    ∀ {s}, Canonical s → Canonical (l.foldl f s) := by
  induction l with
  | nil => exact fun h => h
  | cons a l ih => exact fun h => ih (hf _ a h)

theorem Canonical.forAxes {f : Fin 4 → State → State} (hf : ∀ n t, Canonical t → Canonical (f n t)) (h : Canonical s) :
    Canonical (Machine.forAxes s f) := hf 3 _ (hf 2 _ (hf 1 _ (hf 0 _ h)))

theorem Canonical.forPorts {f : Fin 2 → State → State} (hf : ∀ n t, Canonical t → Canonical (f n t)) (h : Canonical s) :
    Canonical (Machine.forPorts s f) := hf 1 _ (hf 0 _ h)

/-! ### The slots, the bulk window and the hopper records -/

@[simp] theorem Canonical.putSlot (h : Canonical s) (a : Nat) (l : List Byte) : Canonical (s.putSlot a l) := by
  simp [State.putSlot, h, cellWrite_wf]

@[simp] theorem Canonical.putBulk (h : Canonical s) (a : Nat) (l : List Byte) : Canonical (s.putBulk a l) := by
  simp [State.putBulk, h, cellWrite_wf]

@[simp] theorem Canonical.setHop_iff (s : State) (k : Nat) (f : HopSt → HopSt) : Canonical (s.setHop k f) ↔ Canonical s := by
  simp [State.setHop]

@[simp] theorem Canonical.setProg (h : Canonical s) (k v : Nat) : Canonical (s.setProg k v) := by
  simp [State.setProg, h]

@[simp] theorem Canonical.notePeak_iff (s : State) (k : Nat) : Canonical (s.notePeak k) ↔ Canonical s := by
  simp [State.notePeak]

/-! ### Writes of the host -/

@[simp] theorem Canonical.dbellSlot (h : Canonical s) (k : Nat) : Canonical (dbellSlot s k) := by
  unfold Machine.dbellSlot
  dsimp only
  split
  · simp [h]
  · refine .putSlot (.setProg ?_ _ _) _ _
    simp [h]

@[simp] theorem Canonical.dbellWrite (h : Canonical s) (v : BitVec 16) : Canonical (dbellWrite v s) := by
  have h1 (l : List Nat) : Canonical (l.foldl Machine.dbellSlot s) := .foldl (fun _ k ht => ht.dbellSlot k) l h
  unfold Machine.dbellWrite
  generalize (List.range 16).filter (fun k => v.getLsbD k && s.host.hown.getLsbD k) = l
  cases l with
  | nil => simp [h1]
  | cons k l => refine .ite (fun _ => ?_) fun _ => ?_ <;> simp [h1]

@[simp] theorem Canonical.regWrite (h : Canonical s) (a v : Nat) : Canonical (regWrite a v s) := by
  unfold Machine.regWrite
  (repeat' split) <;> simp [h]

@[simp] theorem Canonical.applyWrite (h : Canonical s) (w : HostWrite) : Canonical (applyWrite w s) := by
  unfold Machine.applyWrite
  split
  · exact .foldl (fun t r ht => ht.regWrite r.1 r.2) _ h
  · split <;> simp [h]

/-! ### Completion of a command -/

@[simp] theorem Canonical.setStage (h : Canonical s) (k : Nat) (st : HopStage) : Canonical (s.setStage k st) := by
  simp [State.setStage, h]

@[simp] theorem Canonical.freeHop_iff (s : State) (k : Nat) : Canonical (s.freeHop k) ↔ Canonical s := by
  simp [State.freeHop]

@[simp] theorem Canonical.giveBack (h : Canonical s) (k : Nat) : Canonical (s.giveBack k) := by
  unfold State.giveBack
  split
  · simp [h]
  · split
    · simp [h]
    · split
      · next t e => exact (freeHop_iff t k).mpr (h.of_blank (State.respondFabric_blank (by simp) e))
      · simp [h]
  · split
    · next t e => exact (freeHop_iff t k).mpr (h.of_blank (State.respondIso_blank (by simp) e))
    · simp [h]
  · dsimp only
    split <;> simp [h]

@[simp] theorem Canonical.putResult (h : Canonical s) (k : Nat) (res : List Byte) : Canonical (s.putResult k res) := by
  simp [State.putResult, h, cellWrite_wf]

@[simp] theorem Canonical.countBusy_iff (s : State) (k code : Nat) : Canonical (s.countBusy k code) ↔ Canonical s := by
  simp [State.countBusy]

@[simp] theorem Canonical.finish (h : Canonical s) (k code detail : Nat) (data : List Byte) : Canonical (s.finish k code detail data) := by
  have hr : Canonical ((s.endBulk k).putResult k (s.resultOf k data)) := by simp [h]
  exact .giveBack ((countBusy_iff _ _ _).mpr ((hr.putSlot _ _).putSlot _ _)) k

@[simp] theorem Canonical.dropMark_iff (s : State) (k : Nat) : Canonical (s.dropMark k) ↔ Canonical s := by
  simp [State.dropMark]

@[simp] theorem Canonical.runRefused (h : Canonical s) (k : Nat) : Canonical (s.runRefused k) := by
  unfold State.runRefused
  split
  · refine .ite (fun _ => .foldl (fun t w ht => ?_) _ ?_) fun _ => h
    · split <;> simp [ht]
    · simp [h]
  · exact h

@[simp] theorem Canonical.refuse (h : Canonical s) (k code detail : Nat) (res : List Byte) : Canonical (s.refuse k code detail res) := by
  unfold State.refuse
  extract_lets u svc s2 s3
  have h2 : Canonical s2 := by
    simp only [s2]
    split <;> simp [u, h]
  have h3 : Canonical s3 := by
    simp only [s3]
    split <;> simp [h2]
  exact .runRefused (.finish (by simp [h3]) _ _ _ _) k

@[simp] theorem Canonical.doneBulk (h : Canonical s) (k : Nat) (res : List Byte) : Canonical (s.doneBulk k res) := by
  unfold State.doneBulk
  extract_lets s1 host s2
  have h1 : Canonical s1 := by simp [s1, h]
  have h2 : Canonical s2 := by simp [s2, host, h1]
  exact .ite (fun _ => h.finish _ _ _ _) fun _ => ((h2.putSlot _ _).putSlot _ _).giveBack k

@[simp] theorem Canonical.doneWith (h : Canonical s) (k : Nat) (res : List Byte) : Canonical (s.doneWith k res) := by
  simp [State.doneWith, h]

/-! ### Waiting and starting -/

@[simp] theorem Canonical.endBarriers (h : Canonical s) : Canonical s.endBarriers := .foldl (fun t b ht => by split <;> simp [ht]) _ h

@[simp] theorem Canonical.enterWait (h : Canonical s) (k : Nat) (st : HopStage) : Canonical (s.enterWait k st) := by
  simp [State.enterWait, h]

@[simp] theorem Canonical.repark (h : Canonical s) : Canonical s.repark := by
  refine .foldl (fun t b ht => ?_) _ h
  (repeat' split) <;> simp [ht]

@[simp] theorem Canonical.useStart_iff (s : State) : Canonical s.useStart ↔ Canonical s := by
  simp [State.useStart]

@[simp] theorem Canonical.beginTake_iff (s : State) (k : Nat) : Canonical (s.beginTake k) ↔ Canonical s := by
  simp [State.beginTake]

@[simp] theorem Canonical.stopWins (h : Canonical s) (k : Nat) : Canonical (s.stopWins k) := by
  unfold State.stopWins
  extract_lets acts q hit taken untaken s1 s2 p
  have h1 : Canonical s1 := .foldl (fun t x ht => ht.refuse x _ _ _) _ h
  have h2 : Canonical s2 := .foldl (fun t x ht => by simp [ht]) _ h1
  simp [p, h2]

@[simp] theorem Canonical.cancelWrites (h : Canonical s) (mask seq : Nat) : Canonical (s.cancelWrites mask seq) := by
  refine .foldl (fun t x ht => .finish ?_ _ _ _ _) _ ?_
  · simp [ht]
  · simp [h]

@[simp] theorem Canonical.preempts (h : Canonical s) (k : Nat) : Canonical (s.preempts k) := .foldl (fun _ x ht => ht.refuse x _ _ _) _ h

@[simp] theorem Canonical.noteLate_iff (s : State) (k n : Nat) : Canonical (s.noteLate k n) ↔ Canonical s := by
  simp [State.noteLate]

@[simp] theorem Canonical.lateStart_iff (s : State) (k : Nat) : Canonical (s.lateStart k) ↔ Canonical s := by
  unfold State.lateStart
  (repeat' split) <;> simp

@[simp] theorem Canonical.markStart (h : Canonical s) (c : CmdSpec) (k : Nat) : Canonical (s.markStart c k) := by
  simp [State.markStart, h]

@[simp] theorem Canonical.useBulk_iff (s : State) (k : Nat) : Canonical (s.useBulk k) ↔ Canonical s := by
  simp [State.useBulk]

@[simp] theorem Canonical.stopTaken (h : Canonical s) (k : Nat) : Canonical (s.stopTaken k) := by
  simp [State.stopTaken, h]

@[simp] theorem Canonical.takeUnknown (h : Canonical s) (fuel : Nat) : Canonical (s.takeUnknown fuel) := by
  induction fuel generalizing s with
  | zero => exact h
  | succ m ih =>
    unfold State.takeUnknown
    split
    · exact h
    · refine .ite (fun _ => h) fun _ => ih ?_
      (repeat' split) <;> simp [h]

@[simp] theorem Canonical.settle (h : Canonical s) : Canonical s.settle := .takeUnknown (.endBarriers (.repark (.endBarriers h))) 4

/-! ### Parameters -/

@[simp] theorem Canonical.saveAs (h : Canonical s) (k : Nat) (label : BitVec 32) (fwMin : Nat) (vals : List (Nat × Nat)) :
    Canonical (s.saveAs k label fwMin vals) := by
  simp [State.saveAs, h]

@[simp] theorem Canonical.awaitVerdict_iff (s : State) (k code detail : Nat) (data : List Byte) (ev : Nat) (ids : List Nat) :
    Canonical (s.awaitVerdict k code detail data ev ids) ↔ Canonical s := by
  simp [State.awaitVerdict]

@[simp] theorem Canonical.writeWorking (h : Canonical s) (w : List (Nat × Nat)) : Canonical (s.writeWorking w) := by
  simp [State.writeWorking, h]

@[simp] theorem Canonical.keepReport_iff (s : State) (k : Nat) (c : Cfg) : Canonical (s.keepReport k c) ↔ Canonical s := by
  simp [State.keepReport]

/-! ### Motion commands -/

@[simp] theorem Canonical.brakeWait_iff (s : State) (k : Nat) (n : Fin 4) : Canonical (s.brakeWait k n) ↔ Canonical s := by
  unfold State.brakeWait
  (repeat' split) <;> simp

@[simp] theorem Canonical.endCmd (h : Canonical s) (n : Fin 4) (code detail : Nat) : Canonical (s.endCmd n code detail) := by
  unfold State.endCmd
  dsimp only
  (repeat' split) <;> simp [h]

@[simp] theorem Canonical.endStop (h : Canonical s) (n : Fin 4) (code detail : Nat) : Canonical (s.endStop n code detail) := by
  unfold State.endStop
  dsimp only
  (repeat' split) <;> simp [h]

@[simp] theorem Canonical.endStops (h : Canonical s) (n : Fin 4) (code detail : Nat) : Canonical (s.endStops n code detail) := by
  simpa [State.endStops] using Canonical.foldl (fun t x ht => ht.finish x code detail (leS32 (t.motion.get n).p)) _ h

@[simp] theorem Canonical.endUnacted (h : Canonical s) (n : Fin 4) (code detail : Nat) :
    Canonical (s.endUnacted n code detail) := .foldl (fun _ x ht => ht.refuse x _ _ _) _ h

@[simp] theorem Canonical.endRun (h : Canonical s) (code detail status : Nat) : Canonical (s.endRun code detail status) := by
  unfold State.endRun
  split
  · exact h
  · next r _ =>
    extract_lets p s1 s2
    have h1 : Canonical s1 := by simp [s1, p, h]
    have h2 : Canonical s2 := .ite (fun _ => h1.finish _ _ _ _) fun _ => h1
    exact .foldl (fun t w ht => by split <;> simp [ht]) _ h2

@[simp] theorem Canonical.leaveRunAs (h : Canonical s) (n : Fin 4) (code detail : Nat) : Canonical (s.leaveRunAs n code detail) := by
  unfold State.leaveRunAs
  extract_lets s1
  have h1 : Canonical s1 := by simp [s1, h]
  exact .ite (fun _ => by simp [h1]) fun _ => h

@[simp] theorem Canonical.leaveRun (h : Canonical s) (n : Fin 4) (detail : Nat) : Canonical (s.leaveRun n detail) := by
  simp [State.leaveRun, h]

@[simp] theorem Canonical.dropAxis (h : Canonical s) (n : Fin 4) (code detail : Nat) : Canonical (s.dropAxis n code detail) := by
  have h1 : Canonical (((s.leaveRun n (if code = 2 then detail else 0xFFFF)).endCmd n code detail).endStop n code detail) :=
    ((h.leaveRun _ _).endCmd _ _ _).endStop _ _ _
  simp [State.dropAxis, h1]

@[simp] theorem Canonical.startMotion_iff (s : State) (k : Nat) : Canonical (startMotion s k) ↔ Canonical s := by
  simp [Machine.startMotion]

@[simp] theorem Canonical.takeOver (h : Canonical s) (n : Fin 4) (seq : Nat) :
    Canonical (s.takeOver n seq) := ((h.cancelWrites _ _).leaveRun _ _).endCmd _ _ _

@[simp] theorem Canonical.actMove (h : Canonical s) (k : Nat) : Canonical (actMove k s) := by
  simp [Machine.actMove, h]

@[simp] theorem Canonical.actJog (h : Canonical s) (k : Nat) : Canonical (actJog k s) := by
  simp [Machine.actJog, h]

theorem Canonical.stopAtOnce (h : Canonical s) {k : Nat} {n : Fin 4} (e : s.stopAtOnce k n = some t) : Canonical t := by
  unfold State.stopAtOnce at e
  extract_lets low s1 s2 at e
  have h2 : Canonical s2 := .cancelWrites (by simp only [s1]; split <;> simp [h]) _ _
  split at e
  · cases e
    simp [h2]
  · cases e

@[simp] theorem Canonical.startStop (h : Canonical s) (k : Nat) : Canonical (startStop s k) := by
  unfold Machine.startStop
  split
  · next t e => exact h.stopAtOnce e
  · simp [h]

@[simp] theorem Canonical.stopsDone (h : Canonical s) (n : Fin 4) : Canonical (s.stopsDone n) := by
  simp [State.stopsDone, h]

@[simp] theorem Canonical.stopTakes (h : Canonical s) (n : Fin 4) (seq : Nat) : Canonical (s.stopTakes n seq) := by
  have h1 : Canonical (((s.leaveRun n seq).endCmd n 2 seq).endUnacted n 2 seq) := ((h.leaveRun _ _).endCmd _ _ _).endUnacted _ _ _
  exact .ite (fun _ => h1.endStop _ _ _) fun _ => h1

@[simp] theorem Canonical.actStop (h : Canonical s) (k : Nat) : Canonical (actStop k s) := by
  unfold Machine.actStop
  extract_lets n s1 m x dec s2
  have h1 : Canonical s1 := h.cancelWrites _ _
  have h2 : Canonical s2 := h1.stopTakes _ _
  (repeat' split) <;> simp [h1, h2]

@[simp] theorem Canonical.actHalt (h : Canonical s) (k : Nat) : Canonical (actHalt k s) := by
  unfold Machine.actHalt
  extract_lets n s1 m x s2
  have h1 : Canonical s1 := h.cancelWrites _ _
  have h2 : Canonical s2 := h1.stopTakes _ _
  (repeat' split) <;> simp [h1, h2]

@[simp] theorem Canonical.actFollowSteps (h : Canonical s) (k : Nat) : Canonical (actFollowSteps k s) := by
  simp [Machine.actFollowSteps, h]

@[simp] theorem Canonical.settleAxis (h : Canonical s) (n : Fin 4) : Canonical (s.settleAxis n) := by
  unfold State.settleAxis
  dsimp only
  (repeat' split) <;> simp [h]

@[simp] theorem Canonical.boundEnable (h : Canonical s) (n : Fin 4) : Canonical (s.boundEnable n) := by
  unfold State.boundEnable
  extract_lets g live s1 s2 s3 s4 s5
  have h1 : Canonical s1 := by simp [s1, h]
  have h2 : Canonical s2 := (h1.leaveRun _ _).endCmd _ _ _
  have h3 : Canonical s3 := by simp [s3, h2]
  have h4 : Canonical s4 := by
    simp only [s4]
    (repeat' split) <;> simp [h1, h3, h]
  (repeat' split) <;> simp [s5, h4]

@[simp] theorem Canonical.abandonTest (h : Canonical s) (n : Fin 4) (detail : Nat) : Canonical (s.abandonTest n detail) := by
  unfold State.abandonTest
  (repeat' split) <;> simp [h]

@[simp] theorem Canonical.setUserTab (h : Canonical s) (k : Nat) (x : Option Chisel) : Canonical (s.setUserTab k x) := by
  simp [State.setUserTab, h]

@[simp] theorem Canonical.stallBoundary (h : Canonical s) (n : Fin 4) : Canonical (s.stallBoundary n) := by
  unfold State.stallBoundary
  split
  · exact h
  · extract_lets s1 s2 s3
    have h2 : Canonical s2 := .endCmd (.leaveRunAs (by simp [s1, h]) _ _ _) _ _ _
    simp [s3, h2]

@[simp] theorem Canonical.actHomeFace (h : Canonical s) (k : Nat) : Canonical (actHomeFace k s) := by
  simp [Machine.actHomeFace, h]

@[simp] theorem Canonical.homeBoundary (h : Canonical s) (n : Fin 4) : Canonical (s.homeBoundary n) := by
  unfold State.homeBoundary
  dsimp only
  (repeat' split) <;> simp [h]

/-! ### Feedback channels and compare units -/

@[simp] theorem Canonical.cmpDisable (h : Canonical s) (n : Fin 4) : Canonical (s.cmpDisable n) := by
  have h1 (u : Fin 2) {t : State} (ht : Canonical t) (l : List (Nat × Bool × Bool × Int)) : Canonical
      (l.foldl (fun t a => if t.stage a.1 == .started then t.finish a.1 2 0xFFFF [] else t) t) :=
    .foldl (fun t a ht => .ite (fun _ => ht.finish _ _ _ _) fun _ => ht) l ht
  simpa [State.cmpDisable] using Canonical.foldl (fun t u ht => h1 u (by simp [ht]) _) both2 h

@[simp] theorem Canonical.cmpBoundary (h : Canonical s) (n : Fin 4) (u : Fin 2) : Canonical (s.cmpBoundary n u) := by
  unfold State.cmpBoundary
  extract_lets l s1
  refine .foldl (fun t a ht => ?_) _ (by simp [s1, h])
  extract_lets t1 t2 t3 v
  have h3 : Canonical t3 := by
    simp only [t3, t2, t1]
    (repeat' split) <;> simp [ht]
  exact .ite (fun _ => h3.doneWith _ _) fun _ => h3

@[simp] theorem Canonical.chanDisable (h : Canonical s) (n : Fin 4) : Canonical (s.chanDisable n) := by
  simp [State.chanDisable, h]

@[simp] theorem Canonical.actFollowSpeed (h : Canonical s) (k : Nat) : Canonical (actFollowSpeed k s) := by
  simp [Machine.actFollowSpeed, h]

/-! ### PLAN -/

@[simp] theorem PlanSt.rmChanged_stage (p : PlanSt) : p.rmChanged.stage = p.stage := by
  simp [PlanSt.rmChanged]

@[simp] theorem PlanSt.rmClear_stage (p : PlanSt) : p.rmClear.stage = p.stage := by
  unfold PlanSt.rmClear
  split <;> simp

@[simp] theorem PlanSt.rmUncheck_stage (p : PlanSt) (b : Box) : (p.rmUncheck b).stage = p.stage := by
  simp [PlanSt.rmUncheck]

@[simp] theorem PlanSt.logEdit_stage (p : PlanSt) (b : Box) : (p.logEdit b).stage = p.stage := by
  unfold PlanSt.logEdit
  dsimp only
  split <;> rfl

/-- A change of the plan's state that leaves the staging area alone. -/
@[simp] theorem Canonical.updPlan_iff (s : State) (f : PlanSt → PlanSt) (hf : (f s.plan).stage = s.plan.stage) :
    Canonical (s.updPlan f) ↔ Canonical s := by
  simp [State.updPlan, hf]

@[simp] theorem Canonical.updRun_iff (s : State) (f : Run → Run) : Canonical (s.updRun f) ↔ Canonical s := by
  simp [State.updRun]

@[simp] theorem Canonical.rmNode_iff (s : State) (q : List Int) : Canonical (s.rmNode q) ↔ Canonical s := by
  simp [State.rmNode]

@[simp] theorem Canonical.rmEdge_iff (s : State) (c : PlanCtx) (a b : List Int) : Canonical (s.rmEdge c a b) ↔ Canonical s := by
  simp [State.rmEdge]

@[simp] theorem Canonical.rmLearn (h : Canonical s) (c : PlanCtx) (path : List (List Int)) : Canonical (s.rmLearn c path) := by
  have h1 : Canonical (path.foldl (fun t q => t.rmNode q) s) := .foldl (fun t q ht => by simp [ht]) _ h
  have h2 : Canonical ((segmentsOf path).foldl (fun t e => t.rmEdge c e.1 e.2) (path.foldl (fun t q => t.rmNode q) s)) :=
    .foldl (fun t e ht => by simp [ht]) _ h1
  unfold State.rmLearn
  dsimp only
  split <;> simp [h2]

@[simp] theorem Canonical.rmMaintain_iff (s : State) : Canonical s.rmMaintain ↔ Canonical s := by
  unfold State.rmMaintain
  (repeat' split) <;> simp

@[simp] theorem Canonical.queryEnds (h : Canonical s) (q : Query) (status n : Nat) : Canonical (s.queryEnds q status n) := by
  simp [State.queryEnds, h]

@[simp] theorem Canonical.dropActive (h : Canonical s) (status : Nat) : Canonical (s.dropActive status) := by
  unfold State.dropActive
  split
  · exact h
  · refine .queryEnds ?_ _ _ _
    simp [h]

@[simp] theorem Canonical.abortQueries (h : Canonical s) :
    Canonical s.abortQueries := .foldl (fun t q ht => ht.queryEnds _ _ _) _ (by simp [h])

@[simp] theorem Canonical.loadSegment_iff (s : State) (c : Chain) (rd : Road) (i : Nat) :
    Canonical (s.loadSegment c rd i) ↔ Canonical s := by
  simp [State.loadSegment]

@[simp] theorem Canonical.runEnds (h : Canonical s) (code detail status : Nat) : Canonical (s.runEnds code detail status) := by
  simp [State.runEnds, h]

@[simp] theorem Canonical.runStops (h : Canonical s) (status seq : Nat) : Canonical (s.runStops status seq) := by
  unfold State.runStops
  (repeat' split) <;> simp [h]

@[simp] theorem Canonical.runRamp_iff (s : State) : Canonical s.runRamp ↔ Canonical s := by
  simp [State.runRamp]

@[simp] theorem Canonical.runClock_iff (s : State) (len : Nat) : Canonical (s.runClock len) ↔ Canonical s := by
  simp [State.runClock]

@[simp] theorem Canonical.runGen_iff (s : State) : Canonical s.runGen ↔ Canonical s := by
  simp [State.runGen]

@[simp] theorem Canonical.runBoundary (h : Canonical s) : Canonical s.runBoundary := by
  unfold State.runBoundary
  (repeat' split) <;> simp [h]

@[simp] theorem Canonical.runGo (h : Canonical s) (k : Nat) : Canonical (s.runGo k) := by
  unfold State.runGo
  extract_lets s1 s2
  have h1 : Canonical s1 := by simp [s1, h]
  have h2 : Canonical s2 := by simp [s2, h1]
  have h3 : Canonical ((maskAxes (s2.axmask k)).foldl (fun t n => t.brakeWait k n) s2) := .foldl (fun t n ht => by simp [ht]) _ h2
  simp [h3]

@[simp] theorem Canonical.runEdit (h : Canonical s) (box : Box) : Canonical (s.runEdit box) := by
  unfold State.runEdit
  split
  · exact h
  · split
    · exact h
    · extract_lets first hit s1 s2
      have h2 : Canonical s2 := by simp [s2, s1, h]
      exact .ite (fun _ => .ite (fun _ => by simp [h2]) fun _ => by simp [h2]) fun _ => h

@[simp] theorem Canonical.actPlanRun_iff (s : State) (k : Nat) : Canonical (actPlanRun k s) ↔ Canonical s := by
  unfold Machine.actPlanRun
  (repeat' split) <;> simp

@[simp] theorem Canonical.waitLam_iff (s : State) (k op : Nat) : Canonical (s.waitLam k op) ↔ Canonical s := by
  simp [State.waitLam]

@[simp] theorem Canonical.putValid (h : Canonical s) (v : Bool) : Canonical (s.putValid v) := by
  simp [State.putValid, h]

@[simp] theorem Canonical.mapBoundary (h : Canonical s) : Canonical s.mapBoundary := by
  refine .foldl (fun t x ht => ?_) _ (by simp [h])
  have h1 : Canonical (t.putValid (x.2 && t.plan.loaded)) := by simp [ht]
  exact .ite (fun _ => h1.doneWith _ _) fun _ => h1

@[simp] theorem Canonical.mapClear (h : Canonical s) : Canonical s.mapClear := by
  simp [State.mapClear, h]

@[simp] theorem Canonical.setChain (h : Canonical s) (k : Nat) (c : Option Chain) : Canonical (s.setChain k c) := by
  simp [State.setChain, h]

@[simp] theorem Canonical.planReset (h : Canonical s) : Canonical s.planReset := by
  have hp := h.putValid false
  exact (canonical_def _).mpr ⟨hp.slots, hp.bulk, rfl⟩

@[simp] theorem Canonical.planLeave (h : Canonical s) : Canonical s.planLeave := by
  unfold State.planLeave
  extract_lets l s1
  have h1 : Canonical s1 := by simpa [s1] using h.abortQueries.endRun 2 0xFFFF 3
  exact .foldl (fun t x ht => .ite (fun _ => ht.refuse _ _ _ _) fun _ => ht) _ h1

/-! ### The fabric ports -/

@[simp] theorem Canonical.dropSends (h : Canonical s) (l : List QFrame) :
    Canonical (s.dropSends l) := .foldl (fun _ _ ht => .ite (fun _ => ht.finish _ _ _ _) fun _ => ht) _ h

@[simp] theorem Canonical.portDisable (h : Canonical s) (p : Fin 2) : Canonical (s.portDisable p) := by
  simp [State.portDisable, h]

theorem Canonical.dropOldest (h : Canonical s) {p : Fin 2} (e : s.dropOldest p = some t) : Canonical t := by
  unfold State.dropOldest at e
  extract_lets l at e
  split at e
  · cases e
  · cases e
    exact .dropSends (by simp [h]) _

@[simp] theorem Canonical.makeRoom (h : Canonical s) (p : Fin 2) (n : Nat) (fuel : Nat) : Canonical (s.makeRoom p n fuel) := by
  induction fuel generalizing s with
  | zero => exact h
  | succ m ih =>
    unfold State.makeRoom
    refine .ite (fun _ => h) fun _ => ?_
    split
    · next t e => exact ih (h.dropOldest e)
    · exact h

@[simp] theorem Canonical.enqueue (h : Canonical s) (p : Fin 2) (c : Fin 4) (m : List QFrame) : Canonical (s.enqueue p c m) := by
  unfold State.enqueue
  extract_lets src hb old s1
  have h1 : Canonical s1 := h.makeRoom _ _ _
  refine .ite (fun _ => by simp [h]) fun _ => .ite (fun _ => .ite (fun _ => by simp [h]) fun _ => .ite (fun _ => by simp [h1]) fun _ => ?_) fun _ => ?_
  · simp [h1]
  · simp [h]

@[simp] theorem Canonical.sendLossEvt (h : Canonical s) (code addr : Nat) : Canonical (s.sendLossEvt code addr) := by
  have ht : Canonical s.nextTag.2 := by simp [h]
  exact .ite (fun _ => h) fun _ => .forPorts (fun p t ht => .ite (fun _ => ht.enqueue _ _ _) fun _ => ht) ht

@[simp] theorem Canonical.nodeLost (h : Canonical s) (addr : Nat) : Canonical (s.nodeLost addr) := by
  simp [State.nodeLost, h]

@[simp] theorem Canonical.forwardStep (h : Canonical s) : Canonical s.forwardStep := by
  refine .foldl (fun t e ht => ?_) _ (by simp [h])
  dsimp only
  refine .ite (fun _ => ht) fun _ => .ite (fun _ => ?_) fun _ => ht.enqueue _ _ _
  split
  · next u e => exact ht.of_blank (State.queueControl_blank (by simp) e)
  · split <;> simp [ht]

@[simp] theorem Canonical.sentOffered (h : Canonical s) (p : Fin 2) (cls : Fin 4) (start : Int) :
    Canonical (s.sentOffered p cls start) := by
  unfold State.sentOffered
  (repeat' split) <;> simp [h]

@[simp] theorem Canonical.fabSent (h : Canonical s) (p : Fin 2) (cls : Fin 4) (off gone : Nat) : Canonical (s.fabSent p cls off gone) := by
  unfold State.fabSent
  dsimp only
  (repeat' split) <;> simp [h]

@[simp] theorem Canonical.handOver (h : Canonical s) (k : Nat) (x : HopSt) (cmd : List Byte) : Canonical (s.handOver k x cmd) := by
  simp [State.handOver, h]

@[simp] theorem Canonical.busyEv_iff (s : State) : Canonical s.busyEv ↔ Canonical s := by
  simp [State.busyEv]

@[simp] theorem Canonical.countRefused_iff (s : State) (k : Fin 4) : Canonical (s.countRefused k) ↔ Canonical s := by
  simp [State.countRefused]

@[simp] theorem Canonical.takeFabric (h : Canonical s) (p : Fin 2) (a : AmHead) (ftime : Bool) (body : List Byte) :
    Canonical (s.takeFabric p a ftime body) := by
  unfold State.takeFabric
  (repeat' split) <;> simp [h]

@[simp] theorem Canonical.sendHbeat (h : Canonical s) (p : Fin 2) (addr : Nat) : Canonical (s.sendHbeat p addr) := by
  simp [State.sendHbeat, h]

/-! ### The superframe of the fabric -/

@[simp] theorem Canonical.hbeatSuper (h : Canonical s) (p : Fin 2) : Canonical (s.hbeatSuper p) := by
  unfold State.hbeatSuper
  extract_lets due s1
  have h1 : Canonical s1 := .ite (fun _ => h.sendHbeat _ _) fun _ => h
  refine .ite (fun _ => h) fun _ => ?_
  split
  · extract_lets s2
    have h2 : Canonical s2 := .ite (fun _ => h1.sendHbeat _ _) fun _ => h1
    exact .ite (fun _ => h2.sendHbeat _ _) fun _ => h2
  · exact h1

@[simp] theorem Canonical.evtSuper (h : Canonical s) : Canonical s.evtSuper := by
  unfold State.evtSuper
  extract_lets l fab s1 body
  have h1 : Canonical s1 := by simp [s1, h]
  refine .ite (fun _ => h1) fun _ => ?_
  split
  · exact h1
  · refine .ite (fun _ => h1) fun _ => ?_
    extract_lets one
    have ho (t m) (ht : Canonical t) : Canonical (one t m) :=
      .ite (fun _ => ht) fun _ => .enqueue (ht.of_blank (State.nextTag_blank (by simp) t)) _ _ _
    exact ho _ _ (ho _ _ h1)

@[simp] theorem Canonical.sendSleep (h : Canonical s) (op : Nat) (pl : SleepPlan) : Canonical (s.sendSleep op pl) := by
  have ht : Canonical s.nextTag.2 := by simp [h]
  exact .forPorts (fun p t ht => .ite (fun _ => ht.enqueue _ _ _) fun _ => ht) ht

@[simp] theorem Canonical.sleepSuper (h : Canonical s) : Canonical s.sleepSuper := by
  unfold State.sleepSuper
  (repeat' split) <;> simp [h]

@[simp] theorem Canonical.portSuper (h : Canonical s) (p : Fin 2) : Canonical (s.portSuper p) := by
  simp [State.portSuper, h]

@[simp] theorem Canonical.fabSuper (h : Canonical s) : Canonical s.fabSuper := by
  unfold State.fabSuper
  extract_lets fab s1 s2
  have h2 : Canonical s2 := .forPorts (fun p t ht => ht.portSuper p) (by simp [s1, h])
  exact .evtSuper (.sleepSuper (by simp [h2]))

theorem Canonical.issueInternal (h : Canonical s) {op axes : Nat} {payload : List Byte} (e : s.issueInternal op axes payload = some t) :
    Canonical t := by
  unfold State.issueInternal at e
  split at e
  · cases e
  · cases e
    exact .handOver (by simp [h]) _ _ _

@[simp] theorem Canonical.issueActions (h : Canonical s) : Canonical s.issueActions := by
  refine .foldl (fun t e ht => ?_) _ (by simp [h])
  dsimp only
  refine .ite (fun _ => ht) fun _ => ?_
  split
  · next u e => exact ht.issueInternal e
  · simp [ht]

@[simp] theorem Canonical.setSched (h : Canonical s) (k : Nat) (x : Option Sched) : Canonical (s.setSched k x) := by
  simp [State.setSched, h]

/-! ### The sequence of an axis -/

@[simp] theorem Canonical.reqsAct (h : Canonical s) (n : Fin 4) (op : Nat) : Canonical (s.reqsAct n op) := by
  refine .foldl (fun t x ht => ?_) _ h
  split <;> simp [ht]

@[simp] theorem Canonical.endReqs (h : Canonical s) (n : Fin 4) (op code detail : Nat) :
    Canonical (s.endReqs n op code detail) := .foldl (fun _ _ ht => ht.finish _ _ _ _) _ (.ite (fun _ => h.reqsAct _ _) fun _ => h)

@[simp] theorem Canonical.cancelOpposed (h : Canonical s) (n : Fin 4) (on : Bool) : Canonical (s.cancelOpposed n on) := by
  simp [State.cancelOpposed, h]

@[simp] theorem Canonical.axToOff (h : Canonical s) (n : Fin 4) : Canonical (s.axToOff n) := by
  unfold State.axToOff
  extract_lets s1
  have h1 : Canonical (((s1.gatesDead n).cancelOpposed n false).endReqs n 0x0102 1 0) := .endReqs (.cancelOpposed (by simp [s1, h]) _ _) _ _ _ _
  simp [h1]

@[simp] theorem Canonical.axFail (h : Canonical s) (n : Fin 4) (code : Nat) : Canonical (s.axFail n code) := by
  unfold State.axFail
  refine .ite (fun _ => h) fun _ => ?_
  extract_lets s1 s2 s3 s4 s5 ons s6 s7 s8 s9 s10
  have h3 : Canonical s3 := by simp only [s3, s2]; split <;> simp [s1, h]
  have h4 : Canonical s4 := by simp [s4, h3]
  have h5 : Canonical s5 := (h4.dropAxis _ _ _).endUnacted _ _ _
  have h6 : Canonical s6 := by
    simp only [s6]
    split
    · exact .foldl (fun t x ht => by simp [ht]) _ h5
    · exact h5
  have h10 : Canonical s10 := .endReqs (by simp [s9, s8, s7, h6]) _ _ _ _
  exact .ite (fun _ => h10) fun _ => h10.axToOff n

@[simp] theorem Canonical.axSupplyFail (h : Canonical s) (n : Fin 4) (code : Nat) : Canonical (s.axSupplyFail n code) := by
  simp [State.axSupplyFail, h]

@[simp] theorem Canonical.raiseFail (h : Canonical s) (n : Fin 4) (code qual : Nat) : Canonical (s.raiseFail n code qual) := by
  simp [State.raiseFail, h]

@[simp] theorem Canonical.beginUp (h : Canonical s) (n : Fin 4) : Canonical (s.beginUp n) := by
  simp [State.beginUp, h]

@[simp] theorem Canonical.tryUp (h : Canonical s) (n : Fin 4) (d3 : Bool) : Canonical (s.tryUp n d3) := by
  simp [State.tryUp, h]

@[simp] theorem Canonical.axReadyNow (h : Canonical s) (n : Fin 4) : Canonical (s.axReadyNow n) := by
  simp [State.axReadyNow, h]

@[simp] theorem Canonical.axBack (h : Canonical s) (n : Fin 4) : Canonical (s.axBack n) := by
  simp [State.axBack, h]

@[simp] theorem Canonical.beginDown (h : Canonical s) (n : Fin 4) : Canonical (s.beginDown n) := by
  unfold State.beginDown
  extract_lets q x s1 s2 s3
  have h2 : Canonical s2 := .abandonTest (.cancelWrites (.reqsAct (by simp [s1, h]) _ _) _ _) _ _
  have h3 : Canonical s3 := (((h2.leaveRun _ _).endCmd _ _ _).endUnacted _ _ _).endStops _ _ _
  refine .ite (fun _ => h3) fun _ => ?_
  split <;> simp [h3]

@[simp] theorem Canonical.axSeqFrame (h : Canonical s) (n : Fin 4) : Canonical (s.axSeqFrame n) := by
  unfold State.axSeqFrame
  (repeat' split) <;> simp [h]

@[simp] theorem Canonical.axCheckpoint (h : Canonical s) (n : Fin 4) (vals : List Int) : Canonical (s.axCheckpoint n vals) := by
  unfold State.axCheckpoint
  extract_lets on clear frame u1 u2 d1 d1' d2 d3
  split
  · have h2 : Canonical u2 := .ite (fun _ => .axBack (by simp [u1, clear, h]) n) fun _ => .axReadyNow (by simp [u1, clear, h]) n
    refine .ite (fun _ => h) fun _ => .ite (fun _ => ?_) fun _ => h2.cancelOpposed _ _
    have h3 := Canonical.beginDown (s := u2.setSeq n (fun a => { a with latched := some false })) (by simp [h2]) n
    simp [h3]
  · refine .ite (fun _ => h) fun _ => ?_
    split
    · extract_lets s1
      have h1 : Canonical s1 := by simp [s1, h]
      split
      · exact h1.raiseFail _ _ _
      · exact .raiseFail (h1.of_blank (State.fresh_blank (by simp) s1)) _ _ _
    · extract_lets s1 s2 s3 s4 s5
      have h1 : Canonical s1 := by simp only [s1]; split <;> simp [h]
      have h2 : Canonical s2 := by simp [s2, h1]
      have h4 : Canonical s4 := by simp [s4, s3, clear, h2]
      have h5 : Canonical s5 := by simp [s5, clear, h2]
      have h6 := Canonical.cancelOpposed (s := (s4.switchesOff n).setTest n none) (by simp [h4]) n false
      refine .ite (fun _ => by simp [h6]) fun _ => .ite (fun _ => by simp [h5]) fun _ => .cancelOpposed ?_ _ _
      simp [clear, h2]
  · have h1 : Canonical d1 := by simp [d1, clear, h]
    have h2 := Canonical.cancelOpposed (s := d1.axStep n (.up 5)) (by simp [h1]) n true
    refine .ite (fun _ => h) fun _ => .ite (fun _ => by simp [h2]) fun _ => .cancelOpposed ?_ _ _
    simp [d1', h1]
  · have h1 : Canonical d2 := by simp [d2, clear, h]
    have h2 := (h1.tryUp n true).cancelOpposed n true
    exact .ite (fun _ => h) fun _ => .ite (fun _ => by simp [h2]) fun _ => .cancelOpposed (by simp [h1]) _ _
  · have h1 : Canonical d3 := by simp [d3, clear, h]
    have h2 := (h1.tryUp n false).cancelOpposed n true
    exact .ite (fun _ => h) fun _ => .ite (fun _ => by simp [h2]) fun _ => h1.axToOff n
  · exact h

/-! ### Domains and units -/

/-- The buffers of a fresh start are empty. -/
@[simp] theorem Canonical.sysClear (s : State) (cause : Nat) : Canonical (s.sysClear cause) :=
  (canonical_def _).mpr ⟨rfl, rfl, rfl⟩

@[simp] theorem Canonical.startFromOff (s : State) (cause : Nat) : Canonical (s.startFromOff cause) := by
  simp [State.startFromOff]

@[simp] theorem Canonical.bootTestFails (h : Canonical s) (bit code : Nat) : Canonical (s.bootTestFails bit code) := by
  simp [State.bootTestFails, h]

@[simp] theorem Canonical.firmwareStart_iff (s : State) (okA okB : Bool) : Canonical (s.firmwareStart okA okB) ↔ Canonical s := by
  simp [State.firmwareStart]

@[simp] theorem Canonical.sysReady (h : Canonical s) (gone : Nat) : Canonical (s.sysReady gone) := by
  unfold State.sysReady
  extract_lets woke f base f2 fault strapped p q r hs s1 v s2 s3 s4 s5
  have h1 : Canonical s1 := (canonical_def s1).mpr ⟨rfl, rfl, h.stage⟩
  have h2 : Canonical s2 := by simp only [s2]; split <;> simp [h1]
  have h4 : Canonical s4 := by simp [s4, s3, h2]
  have h5 : Canonical s5 := by
    simp only [s5]
    split
    · have h6 := Canonical.forAxes (f := fun n t => t.axSupplyFail n 0x1306) (fun n t ht => ht.axSupplyFail n _) h4
      simp [h6]
    · exact h4
  simp [h5]

@[simp] theorem Canonical.unitStop (h : Canonical s) (b : Nat) : Canonical (s.unitStop b) := by
  simp [State.unitStop, h]

@[simp] theorem Canonical.unitsUp (h : Canonical s) (mask : Nat) : Canonical (s.unitsUp mask) := by
  refine .foldl (fun t x ht => ?_) _ h
  dsimp only
  split <;> simp [ht]

@[simp] theorem Canonical.unitsDown (h : Canonical s) : Canonical s.unitsDown := by
  have h1 : Canonical ((unitsIn (s.params.leaving &&& s.params.units).toNat).foldl State.unitStop s) :=
    .foldl (fun t b ht => ht.unitStop b) _ h
  unfold State.unitsDown
  dsimp only
  refine .foldl (fun t d ht => ?_) _ h1
  split <;> simp [ht]

@[simp] theorem Canonical.unitCmds (h : Canonical s) : Canonical s.unitCmds := by
  unfold State.unitCmds
  extract_lets lastSeq s1 s2 p
  have h1 : Canonical s1 := by
    refine .foldl (fun t x ht => ?_) _ h
    dsimp only
    (repeat' split) <;> simp [ht]
  have h2 : Canonical s2 := by
    refine .foldl (fun t x ht => ?_) _ h1
    dsimp only
    (repeat' split) <;> simp [ht]
  simp [h2]

@[simp] theorem Canonical.unitsService (h : Canonical s) : Canonical s.unitsService := (h.unitsDown.unitsUp _).unitCmds

@[simp] theorem Canonical.domQuiesce (h : Canonical s) (d : Domain) : Canonical (s.domQuiesce d) := by
  unfold State.domQuiesce
  split
  · simp [h]
  · have h1 := Canonical.forPorts (f := fun p t => (t.dropSends (t.ports.get p).queues.toList.flatten).updPort p
        (fun q => { q with queues := Quad.all [] })) (fun p t ht => by simp [ht]) h
    simp [h1]
  · simp [h]
  · simp [h]
  · exact h.planLeave
  · exact h

@[simp] theorem Canonical.domOff (h : Canonical s) (d : Domain) : Canonical (s.domOff d) := by
  unfold State.domOff
  (repeat' split) <;> simp [h]

@[simp] theorem Canonical.domDrop (h : Canonical s) (d : Domain) (code : Nat) : Canonical (s.domDrop d code) := by
  unfold State.domDrop
  extract_lets one
  have ho (t d) (ht : Canonical t) : Canonical (one t d) := by
    have h1 := (ht.domQuiesce d).domOff d
    exact .ite (fun _ => ht) fun _ => by simp [h1]
  split
  · exact .forAxes (fun n t ht => ht.axFail n code) (ho _ _ (ho _ _ h))
  · exact .forAxes (fun n t ht => ht.axFail n code) (ho _ _ h)
  · exact ho _ _ h

@[simp] theorem Canonical.settleDoms (h : Canonical s) : Canonical s.settleDoms := by
  unfold State.settleDoms
  extract_lets one s1
  have h1 : Canonical s1 := by simp only [s1]; split <;> simp [h]
  refine .foldl (fun t d ht => ?_) _ h1
  simp only [one]
  (repeat' split) <;> simp [ht]

@[simp] theorem Canonical.changeEnd (h : Canonical s) : Canonical s.changeEnd := by
  unfold State.changeEnd
  (repeat' split) <;> simp [h]

@[simp] theorem Canonical.downBegins (h : Canonical s) : Canonical s.downBegins := by
  unfold State.downBegins
  have h1 := Canonical.foldl (f := fun t x => t.doneWith x []) (fun t x ht => ht.doneWith x [])
    (s.byTaking.filter fun x => s.stage x == .started && s.opcode x == 0x1301) h
  split
  · exact h1
  · exact h1
  · exact h

@[simp] theorem Canonical.changeStep (h : Canonical s) : Canonical s.changeStep := by
  unfold State.changeStep
  (repeat' split) <;> simp [h]

@[simp] theorem Canonical.wakeBack (h : Canonical s) (src : Nat) : Canonical (s.wakeBack src) := by
  unfold State.wakeBack
  dsimp only
  (repeat' split) <;> simp [h]

@[simp] theorem Canonical.cpWork (h : Canonical s) (d : Domain) (k : Nat) (vals : List Int) : Canonical (s.cpWork d k vals) := by
  unfold State.cpWork
  (repeat' split) <;> simp [h]

@[simp] theorem Canonical.domUp (h : Canonical s) (d : Domain) (vals : List Int) : Canonical (s.domUp d vals) := by
  have hu (l : List Nat) : Canonical ((l.foldl State.unitStart s).unitsUp (domainUnits d)).unitCmds :=
    .unitCmds (.unitsUp (.foldl (fun t b ht => by simp [ht]) _ h) _)
  unfold State.domUp
  cases d <;> simp [h, hu]

@[simp] theorem Canonical.domCheckpoint (h : Canonical s) (d : Domain) (vals : List Int) : Canonical (s.domCheckpoint d vals) := by
  unfold State.domCheckpoint
  extract_lets x keep s0
  split
  · extract_lets s1 back s2
    have h1 : Canonical s1 := h.cpWork _ _ _
    have h2 : Canonical s2 := by simp only [s2]; split <;> simp [h1]
    refine .ite (fun _ => h1) fun _ => .ite (fun _ => .downBegins ?_) fun _ => .ite (fun _ => by simp [h2]) fun _ => .domUp (by simp [h2]) _ _
    have h3 := h2.domQuiesce d
    simp [h3]
  · split
    · have h0 : Canonical s0 := by simp only [s0]; split <;> simp [h]
      have h1 := h0.wakeBack
      dsimp only
      split <;> simp [h1]
    · dsimp only
      (repeat' split) <;> simp [h]
  · exact h

/-! ### Sleep plans and self-tests -/

@[simp] theorem Canonical.windowLosses (h : Canonical s) (w : BitVec 32) :
    Canonical (s.windowLosses w) := .foldl (fun t a ht => ht.nodeLost a) _ (by simp [h])

@[simp] theorem Canonical.instLosses (h : Canonical s) (w : Option (BitVec 32)) : Canonical (s.instLosses w) := by
  unfold State.instLosses
  (repeat' split) <;> simp [h]

@[simp] theorem Canonical.bistEnd (h : Canonical s) : Canonical s.bistEnd := by
  unfold State.bistEnd
  (repeat' split) <;> simp [h]

@[simp] theorem Canonical.bistGo (h : Canonical s) (old : Option Nat) (l : List Nat) : Canonical (s.bistGo old l) := by
  simp [State.bistGo, h]

@[simp] theorem Canonical.bistCancel (h : Canonical s) (which : Nat → Bool) : Canonical (s.bistCancel which) := by
  unfold State.bistCancel
  extract_lets gone s1
  have h1 : Canonical s1 := by
    refine .foldl (fun t k ht => ?_) _ h
    dsimp only
    split <;> simp [ht]
  exact .ite (fun _ => h) fun _ => h1.bistGo _ _

/-! ### Safe states -/

@[simp] theorem Canonical.axSafe (h : Canonical s) (n : Fin 4) (code : Nat) : Canonical (s.axSafe n code) := by
  unfold State.axSafe
  split
  · exact h
  · exact h
  · extract_lets moved ready s1 s2 s3 s4 s5 m f s6
    have h2 : Canonical s2 := .endUnacted (.dropAxis (by simp [s1, h]) _ _ _) _ _ _
    have h3 : Canonical s3 := by simp only [s3]; split <;> simp [h2]
    have h4 : Canonical s4 := .endReqs (by simp [h3]) _ _ _ _
    have h6 : Canonical s6 := by simp [s6, f, s5, h4]
    exact .ite (fun _ => h6.axToOff n) fun _ => .ite (fun _ => by simp [h6]) fun _ => by simp [h6]

@[simp] theorem Canonical.enterSafe (h : Canonical s) (code : Nat) : Canonical (s.enterSafe code) := by
  unfold State.enterSafe
  extract_lets f s1 s2 s3
  have h2 : Canonical s2 := .bistCancel (by simp [s1, h]) _
  have h3 : Canonical s3 := by simp only [s3]; split <;> simp [h2]
  have h4 := Canonical.forAxes (f := fun n t => t.axSafe n code) (fun n t ht => ht.axSafe n code) h3
  exact .ite (fun _ => by simp [h]) fun _ => by simp [h4]

@[simp] theorem Canonical.haltEnabled (h : Canonical s) (code : Nat) : Canonical (s.haltEnabled code) := by
  refine .forAxes (fun n t ht => ?_) h
  refine .ite (fun _ => ht) fun _ => .ite (fun _ => by simp [ht]) fun _ => ?_
  have h1 := ht.abandonTest n 0xFFFF
  have h2 := (((h1.leaveRun n 0xFFFF).endCmd n 6 code).endStop n 6 code).endUnacted n 6 code
  dsimp only
  split <;> simp [h1, h2]

@[simp] theorem Canonical.crystalLost (h : Canonical s) (code : Nat) : Canonical (s.crystalLost code) := by
  simp [State.crystalLost, h]

/-! ### The twin link -/

@[simp] theorem Canonical.followSeq (h : Canonical s) : Canonical s.followSeq := by
  unfold State.followSeq
  extract_lets r
  refine .ite (fun _ => h) fun _ => .foldl (fun t n ht => ?_) _ h
  extract_lets busy q want put
  have hp {u} (hu : Canonical u) : Canonical (put u) := by simp [put, hu]
  refine .ite (fun _ => ht) fun _ => .ite (fun _ => ht) fun _ => .ite (fun _ => hp ht) fun _ => ?_
  split
  · next u e => exact hp (ht.issueInternal e)
  · exact ht

theorem Canonical.adoptHop (h : Canonical s) {n : Fin 4} {b : List Byte} {k : Nat} (e : s.adoptHop n b = some (k, t)) : Canonical t := by
  unfold State.adoptHop at e
  simp only [Option.map_eq_some_iff, Prod.mk.injEq] at e
  obtain ⟨a, -, -, e⟩ := e
  subst e
  have h1 (x r) := h.handOver a x r
  simp [h1]

@[simp] theorem Canonical.adoptAxis (h : Canonical s) (b : List Byte) (n : Fin 4) : Canonical (s.adoptAxis b n) := by
  unfold State.adoptAxis
  extract_lets op
  clear_value op
  refine .ite (fun _ => h) fun _ => ?_
  split
  · exact h
  · next k t e =>
    have ht : Canonical t := h.adoptHop e
    dsimp only
    split
    · simp [ht]
    · split <;> simp [ht]
    · split <;> simp [ht]
    · split <;> simp [ht]
    · split <;> simp [ht]
    · split <;> simp [ht]
    · simp [ht]

@[simp] theorem Canonical.adoptRun (h : Canonical s) (r : List Byte) : Canonical (s.adoptRun r) := by
  unfold State.adoptRun
  refine .ite (fun _ => h) fun _ => ?_
  extract_lets slot seg held s1 s2 end_ p
  have h1 : Canonical s1.2 := by
    rcases hn : held with _ | n
    · simpa [s1, hn] using h
    · rcases ha : s.adoptHop n ((r.drop (16 + 96 * n.val)).take 96) with _ | ⟨k, t⟩
      · simpa [s1, hn, ha] using h
      · simpa [s1, hn, ha] using h.adoptHop ha
  have he {t} (ht : Canonical t) : Canonical (end_ t) := by
    dsimp -zeta only [end_]
    extract_lets x p w u v z
    have hv : Canonical v := by simp [v, u, p, ht]
    have hz : Canonical z := by simp only [z]; split <;> simp [hv]
    simp [hz]
  split
  · next rd c k _ _ _ =>
    refine .ite (fun _ => he h1) fun _ => ?_
    extract_lets run haul s3 s4 s5
    have h3 : Canonical s3 := by simp [s3, p, s2, h1]
    have h4 : Canonical s4 := by simp [s4, h3]
    simp [s5, h4]
  · exact he h1

@[simp] theorem Canonical.adoptSeqs_iff (s : State) (r : List Byte) : Canonical (s.adoptSeqs r) ↔ Canonical s := by
  simp [State.adoptSeqs]

@[simp] theorem Canonical.takeover (h : Canonical s) (usable : Bool) : Canonical (s.takeover usable) := by
  unfold State.takeover
  extract_lets s1 s2 r d s3 s4 s5 s6 s7 u3 u4 act f u5
  have h2 : Canonical s2 := by simp [s2, s1, h]
  split
  · have h4 : Canonical s4 := by simp [s4, s3, h2]
    have h5 : Canonical s5 := by simp [s5, h4]
    have h6 : Canonical s6 := .foldl (fun t n ht => ht.adoptAxis _ n) _ h5
    have h7 : Canonical s7 := by simp [s7, h6]
    have h8 := h7.adoptRun r
    simp [h8]
  · have h5 : Canonical u5 := by simp [u5, u4, u3, h2]
    refine .forAxes (fun n t ht => ?_) h5
    have h6 := Canonical.dropAxis (s := (t.switchesOff n).brakeOff n) (by simp [ht]) n 6 0x0805
    exact .ite (fun _ => ht) fun _ => by simp [h6]

@[simp] theorem Canonical.switchStep (h : Canonical s) : Canonical s.switchStep := by
  unfold State.switchStep
  (repeat' split) <;> simp [h]

@[simp] theorem Canonical.twinBoundary (h : Canonical s) : Canonical s.twinBoundary := by
  unfold State.twinBoundary
  extract_lets s1 f s2 s3 s4
  have h3 : Canonical s3 := .switchStep (by simp [s2, s1, h])
  have h4 : Canonical s4 := by simp only [s4]; split <;> simp [h3]
  exact .ite (fun _ => h) fun _ => .followSeq (by simp [h4])

/-! ### Firmware -/

@[simp] theorem Canonical.fwBegin (h : Canonical s) (k : Nat) : Canonical (s.fwBegin k) := by
  simp [State.fwBegin, h]

@[simp] theorem Canonical.fwWrite (h : Canonical s) (k : Nat) : Canonical (s.fwWrite k) := by
  simp [State.fwWrite, h]

@[simp] theorem Canonical.fwVerify (h : Canonical s) (k : Nat) : Canonical (s.fwVerify k) := by
  unfold State.fwVerify
  dsimp only
  (repeat' split) <;> simp [h]

@[simp] theorem Canonical.fwCommit (h : Canonical s) (k : Nat) : Canonical (s.fwCommit k) := by
  simp [State.fwCommit, h]

@[simp] theorem Canonical.fwActivate (h : Canonical s) (k : Nat) : Canonical (s.fwActivate k) := by
  simp [State.fwActivate, h]

@[simp] theorem Canonical.fwConfirm (h : Canonical s) (k : Nat) : Canonical (s.fwConfirm k) := by
  simp [State.fwConfirm, h]

@[simp] theorem Canonical.fwAbort (h : Canonical s) (k : Nat) : Canonical (s.fwAbort k) := by
  simp [State.fwAbort, h]

@[simp] theorem Canonical.fwWork (h : Canonical s) (k : Nat) : Canonical (s.fwWork k) := by
  unfold State.fwWork
  (repeat' split) <;> simp [h]

@[simp] theorem Canonical.fwRun (h : Canonical s) (k : Nat) : Canonical (s.fwRun k) := by
  unfold State.fwRun
  (repeat' split) <;> simp [h]

@[simp] theorem Canonical.fwStart (h : Canonical s) (k : Nat) : Canonical (s.fwStart k) := by
  simp [State.fwStart, h]

@[simp] theorem Canonical.bistClose (h : Canonical s) (k v qual : Nat) (l : List Nat) : Canonical (s.bistClose k v qual l) := by
  unfold State.bistClose
  (repeat' split) <;> simp [h]

@[simp] theorem Canonical.bistFreed (h : Canonical s) (k : Nat) :
    Canonical (s.bistFreed k) := .ite (fun _ => .foldl (fun _ x ht => ht.fwRun x) _ h) fun _ => h

@[simp] theorem Canonical.tooLate (h : Canonical s) (k : Nat) : Canonical (s.tooLate k) := by
  simp [State.tooLate, h]

/-! ### The frame boundary -/

@[simp] theorem Canonical.lateEnds (h : Canonical s) : Canonical s.lateEnds := .foldl (fun _ x ht => ht.tooLate x) _ h

@[simp] theorem Canonical.frameWork (h : Canonical s) : Canonical s.frameWork := by
  unfold State.frameWork
  extract_lets s1 s2 s3 s4 s5
  have h4 : Canonical s4 := by simp [s4, s3, s2, s1, h]
  have h5 : Canonical s5 := by simp only [s5]; split <;> simp [h4]
  have h6 := h5.forwardStep
  exact .endBarriers (.lateEnds (by simp [h6]))

@[simp] theorem Canonical.tick_iff (s : State) (commit : Bool) (trim : Int) : Canonical (s.tick commit trim) ↔ Canonical s := by
  simp [State.tick]

@[simp] theorem Canonical.dropTests (h : Canonical s) (k : Nat) : Canonical (s.dropTests k) := .foldl (fun _ n ht => ht.abandonTest n _) _ h

@[simp] theorem Canonical.act (h : Canonical s) (k : Nat) : Canonical (s.act k) := by
  unfold State.act
  refine .ite (fun _ => h) fun _ => ?_
  extract_lets s1
  have h1 : Canonical s1 := .ite (fun _ => by simp [h]) fun _ => h
  split <;> simp [h1]

@[simp] theorem Canonical.applyShadows (h : Canonical s) : Canonical s.applyShadows := by
  unfold State.applyShadows
  extract_lets s1 s2 new
  have h2 : Canonical s2 := .foldl (fun t x ht => ht.act x) _ (by simp [s1, h])
  simp [h2]

@[simp] theorem Canonical.axisEnds (h : Canonical s) (n : Fin 4) : Canonical (s.axisEnds n) := by
  have h1 := ((h.stallBoundary n).settleAxis n).homeBoundary n
  simp [State.axisEnds, h1]

@[simp] theorem Canonical.axisTakes (h : Canonical s) (n : Fin 4) : Canonical (s.axisTakes n) := by
  unfold State.axisTakes
  extract_lets s1
  have h1 := Canonical.foldl (f := fun t u => t.cmpBoundary n u) (fun t u ht => ht.cmpBoundary n u) both2 (s := s1.chanBoundary n) (by simp [s1, h])
  simp [h1]

@[simp] theorem Canonical.axisGoes (h : Canonical s) (commit : Bool) (old : Nat) (n : Fin 4) : Canonical (s.axisGoes commit old n) := by
  simp [State.axisGoes, h]

@[simp] theorem Canonical.hardBoundary (h : Canonical s) (commit : Bool) (trim : Int) (hbk : Quad Nat) :
    Canonical (s.hardBoundary commit trim hbk) := by
  unfold State.hardBoundary
  extract_lets old s1 s2 s3 s4 s5 s6 s7 s8 m s9
  have h3 : Canonical s3 := by simp [s3, s2, s1, h]
  have h4 : Canonical s4 := .forAxes (fun n t ht => ht.axisEnds n) h3
  have h5 : Canonical s5 := .ite (fun _ => h4.applyShadows) fun _ => h4
  have h6 : Canonical s6 := .ite (fun _ => .mapBoundary (by simp [h5])) fun _ => h5
  have h7 : Canonical s7 := .forAxes (fun n t ht => ht.axisGoes commit old n) h6
  simp [s9, s8, h7]

/-! ### Faults at the boundary -/

@[simp] theorem Canonical.raiseNoted (h : Canonical s) (r : Nat × Nat × BitVec 4 × Bool) : Canonical (s.raiseNoted r) := by
  unfold State.raiseNoted
  dsimp only
  split
  · exact .crystalLost (by simp [h]) _
  · simp [h]
  · simp [h]
  · simp [h]
  · refine .forAxes (fun n t ht => ?_) (by simp [h])
    (repeat' split) <;> simp [ht]
  · simp [h]

@[simp] theorem Canonical.raiseAll (h : Canonical s) : Canonical s.raiseAll := by
  have h1 := Canonical.foldl (f := State.raiseNoted) (fun t r ht => ht.raiseNoted r) s.faults.raised
    (s := { s with faults := { s.faults with raised := [], evNext := [] } }) (by simp [h])
  exact .foldl (fun t x ht => by simp [ht]) _ h1

@[simp] theorem Canonical.deviceSafe (h : Canonical s) : Canonical s.deviceSafe := by
  unfold State.deviceSafe
  dsimp only
  (repeat' split) <;> simp [h]

@[simp] theorem Canonical.actQuiet (h : Canonical s) (n : Fin 4) (v code : Nat) : Canonical (s.actQuiet n v code) := by
  unfold State.actQuiet
  extract_lets moved s1 s2 f s3 s4
  have h2 : Canonical s2 := by simpa [s2] using ((h.dropAxis n 6 code).endUnacted n 6 code).abandonTest n 0xFFFF
  have h4 : Canonical s4 := by simp only [s4]; split <;> simp [s3, h2]
  simp [h4]

@[simp] theorem Canonical.actFaultHalt (h : Canonical s) (n : Fin 4) (code : Nat) : Canonical (s.actFaultHalt n code) := by
  have h1 := h.abandonTest n 0xFFFF
  have h2 := (((h1.leaveRun n 0xFFFF).endCmd n 6 code).endStop n 6 code).endUnacted n 6 code
  unfold State.actFaultHalt
  dsimp only
  split <;> simp [h1, h2]

@[simp] theorem Canonical.safeAxis (h : Canonical s) (gone : List FaultEnt) (n : Fin 4) : Canonical (s.safeAxis gone n) := by
  simp [State.safeAxis, h]

@[simp] theorem Canonical.stopReactions (h : Canonical s) : Canonical s.stopReactions := by
  refine .foldl (fun t e ht => .forAxes (fun n t ht => ?_) ht) _ h
  have h1 := (ht.leaveRun n 0xFFFF).endCmd n 6 e.code
  exact .ite (fun _ => by simp [h1]) fun _ => ht

@[simp] theorem Canonical.overrun (h : Canonical s) :
    Canonical s.overrun := .foldl (fun t x ht => .ite (fun _ => ht.refuse _ _ _ _) fun _ => ht) _ (.enterSafe (by simp [h]) _)

@[simp] theorem Canonical.faultStep (h : Canonical s) (commit : Bool) : Canonical (s.faultStep commit) := by
  unfold State.faultStep
  extract_lets gone s1 s2 s3 s4 s5 s6 s7
  have h1 : Canonical s1 := .raiseAll (by simp [h])
  have h2 : Canonical s2 := .ite (fun _ => h1) fun _ => h1.overrun
  have h5 : Canonical s5 := h2.twinBoundary.deviceSafe.stopReactions
  have h6 : Canonical s6 := by
    have hx := Canonical.forAxes (f := fun n t => t.safeAxis gone n) (fun n t ht => ht.safeAxis gone n) h5
    simp [s6, hx]
  have h7 : Canonical s7 := by simp only [s7]; split <;> simp [h6]
  split <;> simp [h7]

/-! ### Registration and the new frame -/

@[simp] theorem Canonical.register (h : Canonical s) (k : Nat) : Canonical (s.register k) := by
  simp [State.register, h]

@[simp] theorem Canonical.registerGroup (h : Canonical s) (was : Option (BitVec 16)) (check : Bool) (l : List Nat) :
    Canonical (s.registerGroup was check l).2 :=
  .foldl (fun _ _ ht => .ite (fun _ => ht.register _) fun _ => ht.refuse _ _ _ _) _ h

@[simp] theorem Canonical.registerFrom (h : Canonical s) (iso : Bool) (addr : Nat) (rung : List Nat) :
    Canonical (s.registerFrom iso addr rung) := by
  have h1 (was l) := h.registerGroup was true l
  unfold State.registerFrom
  dsimp only
  split <;> simp [h1]

@[simp] theorem Canonical.registerAll (h : Canonical s) : Canonical s.registerAll := by
  unfold State.registerAll
  extract_lets rung addrs host
  have hg : Canonical (if host.isEmpty then (s.intake.hostSeq, s) else s.registerGroup s.intake.hostSeq (s.par 0x0071 != 0) host).2 := by
    split <;> simp [h]
  dsimp only
  have hf (iso) (t : State) (l : List Nat) (ht : Canonical t) : Canonical (l.foldl (fun t a => t.registerFrom iso a rung) t) :=
    .foldl (fun t a ht => ht.registerFrom iso a rung) l ht
  exact .foldl (fun t x ht => ht.register x) _ (hf _ _ _ (hf _ _ _ ((canonical_def _).mpr ⟨hg.slots, hg.bulk, hg.stage⟩)))

@[simp] theorem Canonical.openIntake_iff (s : State) : Canonical s.openIntake ↔ Canonical s := by
  simp [State.openIntake]

@[simp] theorem Canonical.answerAgain (h : Canonical s) : Canonical s.answerAgain := .foldl (fun _ x ht => ht.giveBack x) _ h

@[simp] theorem Canonical.clearSeen (h : Canonical s) : Canonical s.clearSeen := by
  unfold State.clearSeen
  extract_lets s1 s2 a b c d e
  have h1 : Canonical s1 := .forAxes (fun n t ht => by simp [ht]) h
  have h2 : Canonical s2 := by simp [s2, h1]
  simp [a, b, c, d, e, h2]

@[simp] theorem Canonical.superframe (h : Canonical s) : Canonical s.superframe := by
  simp [State.superframe, h]

@[simp] theorem Canonical.activateNow (s : State) : Canonical s.activateNow := by
  simp [State.activateNow]

@[simp] theorem Canonical.frameOpens (h : Canonical s) : Canonical s.frameOpens := by
  unfold State.frameOpens
  extract_lets s1 s2 s3 s4 s5 l s6
  have h1 : Canonical s1 := .forAxes (fun n t ht => ht.axSeqFrame n) h
  have h3 : Canonical s3 := .issueActions (.registerAll (.answerAgain (by simp [h1])))
  have h4 : Canonical s4 := .ite (fun _ => h3.superframe) fun _ => h3
  have h6 : Canonical s6 := .ite (fun _ => by simp [s5, h4]) fun _ => by simp [s5, h4]
  exact h6.unitsService.changeStep.settleDoms.settle

/-! ### The start of each opcode and operation -/

@[simp] theorem Canonical.hopStatus_start (h : Canonical s) (k : Nat) : Canonical (hopStatusSpec.start s k) := by
  simp [hopStatusSpec, h]

@[simp] theorem Canonical.setParam_start (h : Canonical s) (k : Nat) : Canonical (setParamSpec.start s k) := by
  unfold setParamSpec
  dsimp only
  (repeat' split) <;> simp [h]

@[simp] theorem Canonical.getParam_start (h : Canonical s) (k : Nat) : Canonical (getParamSpec.start s k) := by
  simp [getParamSpec, h]

@[simp] theorem Canonical.surveyRun_start (h : Canonical s) (k : Nat) : Canonical (surveyRunSpec.start s k) := by
  simp [surveyRunSpec, h]

@[simp] theorem Canonical.enableUnit_start (h : Canonical s) (k : Nat) : Canonical (enableUnitSpec.start s k) := by
  simp [enableUnitSpec, h]

@[simp] theorem Canonical.cfgClear_start (h : Canonical s) (k : Nat) : Canonical (cfgClearSpec.start s k) := by
  simp [cfgClearSpec, h]

@[simp] theorem Canonical.cfgStage_start (h : Canonical s) (k : Nat) : Canonical (cfgStageSpec.start s k) := by
  simp [cfgStageSpec, h]

@[simp] theorem Canonical.cfgCheck_start (h : Canonical s) (k : Nat) : Canonical (cfgCheckSpec.start s k) := by
  simp [cfgCheckSpec, h]

@[simp] theorem Canonical.cfgApply_start (h : Canonical s) (k : Nat) : Canonical (cfgApplySpec.start s k) := by
  unfold cfgApplySpec
  dsimp only
  (repeat' split) <;> simp [h]

@[simp] theorem Canonical.cfgSaveStaged_start (h : Canonical s) (k : Nat) : Canonical (cfgSaveStagedSpec.start s k) := by
  simp [cfgSaveStagedSpec, h]

@[simp] theorem Canonical.cfgSaveWorking_start (h : Canonical s) (k : Nat) : Canonical (cfgSaveWorkingSpec.start s k) := by
  simp [cfgSaveWorkingSpec, h]

@[simp] theorem Canonical.cfgLoadStored_start (h : Canonical s) (k : Nat) : Canonical (cfgLoadStoredSpec.start s k) := by
  unfold cfgLoadStoredSpec
  dsimp only
  (repeat' split) <;> simp [h]

@[simp] theorem Canonical.cfgReadStaging_start (h : Canonical s) (k : Nat) : Canonical (cfgReadStagingSpec.start s k) := by
  simp [cfgReadStagingSpec, h]

@[simp] theorem Canonical.cfgErase_start (h : Canonical s) (k : Nat) : Canonical (cfgEraseSpec.start s k) := by
  simp [cfgEraseSpec, h]

@[simp] theorem Canonical.moveTo_start (h : Canonical s) (k : Nat) : Canonical (moveToSpec.start s k) := by
  simp [moveToSpec, h]

@[simp] theorem Canonical.moveBy_start (h : Canonical s) (k : Nat) : Canonical (moveBySpec.start s k) := by
  simp [moveBySpec, h]

@[simp] theorem Canonical.jog_start (h : Canonical s) (k : Nat) : Canonical (jogSpec.start s k) := by
  simp [jogSpec, h]

@[simp] theorem Canonical.stop_start (h : Canonical s) (k : Nat) : Canonical (stopSpec.start s k) := by
  simp [stopSpec, h]

@[simp] theorem Canonical.halt_start (h : Canonical s) (k : Nat) : Canonical (haltSpec.start s k) := by
  simp [haltSpec, h]

@[simp] theorem Canonical.followSteps_start (h : Canonical s) (k : Nat) : Canonical (followStepsSpec.start s k) := by
  simp [followStepsSpec, h]

@[simp] theorem Canonical.setPosition_start (h : Canonical s) (k : Nat) : Canonical (setPositionSpec.start s k) := by
  simp [setPositionSpec, h]

@[simp] theorem Canonical.axisStatus_start (h : Canonical s) (k : Nat) : Canonical (axisStatusSpec.start s k) := by
  simp [axisStatusSpec, h]

@[simp] theorem Canonical.gateStatus_start (h : Canonical s) (k : Nat) : Canonical (gateStatusSpec.start s k) := by
  simp [gateStatusSpec, h]

@[simp] theorem Canonical.diagStatus_start (h : Canonical s) (k : Nat) : Canonical (diagStatusSpec.start s k) := by
  simp [diagStatusSpec, h]

@[simp] theorem Canonical.chiselLoad_start (h : Canonical s) (k : Nat) : Canonical (chiselLoadSpec.start s k) := by
  simp [chiselLoadSpec, h]

@[simp] theorem Canonical.chiselValidate_start (h : Canonical s) (k : Nat) : Canonical (chiselValidateSpec.start s k) := by
  simp [chiselValidateSpec, h]

@[simp] theorem Canonical.chiselSave_start (h : Canonical s) (k : Nat) : Canonical (chiselSaveSpec.start s k) := by
  simp [chiselSaveSpec, h]

@[simp] theorem Canonical.chiselRead_start (h : Canonical s) (k : Nat) : Canonical (chiselReadSpec.start s k) := by
  unfold chiselReadSpec
  dsimp only
  (repeat' split) <;> simp [h]

@[simp] theorem Canonical.chiselReload_start (h : Canonical s) (k : Nat) : Canonical (chiselReloadSpec.start s k) := by
  simp [chiselReloadSpec, h]

@[simp] theorem Canonical.curStatus_start (h : Canonical s) (k : Nat) : Canonical (curStatusSpec.start s k) := by
  simp [curStatusSpec, h]

@[simp] theorem Canonical.homeFace_start (h : Canonical s) (k : Nat) : Canonical (homeFaceSpec.start s k) := by
  simp [homeFaceSpec, h]

@[simp] theorem Canonical.wedgeLearn_start (h : Canonical s) (k : Nat) : Canonical (wedgeLearnSpec.start s k) := by
  simp [wedgeLearnSpec, h]

@[simp] theorem Canonical.wedgeStatus_start (h : Canonical s) (k : Nat) : Canonical (wedgeStatusSpec.start s k) := by
  simp [wedgeStatusSpec, h]

@[simp] theorem Canonical.cmpStatus_start (h : Canonical s) (k : Nat) : Canonical (cmpStatusSpec.start s k) := by
  simp [cmpStatusSpec, h]

@[simp] theorem Canonical.fbStatus_start (h : Canonical s) (k : Nat) : Canonical (fbStatusSpec.start s k) := by
  simp [fbStatusSpec, h]

@[simp] theorem Canonical.fbSetCount_start (h : Canonical s) (k : Nat) : Canonical (fbSetCountSpec.start s k) := by
  simp [fbSetCountSpec, h]

@[simp] theorem Canonical.followSpeed_start (h : Canonical s) (k : Nat) : Canonical (followSpeedSpec.start s k) := by
  simp [followSpeedSpec, h]

@[simp] theorem Canonical.folStatus_start (h : Canonical s) (k : Nat) : Canonical (folStatusSpec.start s k) := by
  simp [folStatusSpec, h]

@[simp] theorem Canonical.spStatus_start (h : Canonical s) (k : Nat) : Canonical (spStatusSpec.start s k) := by
  simp [spStatusSpec, h]

@[simp] theorem Canonical.planQuery_start (h : Canonical s) (k : Nat) : Canonical (planQuerySpec.start s k) := by
  simp [planQuerySpec, h]

@[simp] theorem Canonical.planRun_start (h : Canonical s) (k : Nat) : Canonical (planRunSpec.start s k) := by
  unfold planRunSpec
  dsimp only
  (repeat' split) <;> simp [h]

@[simp] theorem Canonical.planStop_start (h : Canonical s) (k : Nat) : Canonical (planStopSpec.start s k) := by
  unfold planStopSpec
  dsimp only
  (repeat' split) <;> simp [h]

@[simp] theorem Canonical.planHold_start (h : Canonical s) (k : Nat) : Canonical (planHoldSpec.start s k) := by
  unfold planHoldSpec
  dsimp only
  (repeat' split) <;> simp [h]

@[simp] theorem Canonical.planResume_start (h : Canonical s) (k : Nat) : Canonical (planResumeSpec.start s k) := by
  unfold planResumeSpec
  dsimp only
  (repeat' split) <;> simp [h]

@[simp] theorem Canonical.mapEdit_start (h : Canonical s) (op k : Nat) : Canonical ((mapEditSpec op).start s k) := by
  simp [mapEditSpec, h]

@[simp] theorem Canonical.mapMark_start (h : Canonical s) (op : Nat) (v : Bool) (k : Nat) : Canonical ((mapMarkSpec op v).start s k) := by
  simp [mapMarkSpec, h]

@[simp] theorem Canonical.mapLoadBegin_start (h : Canonical s) (k : Nat) : Canonical (mapLoadBeginSpec.start s k) := by
  have h1 := h.abortQueries.mapClear
  have h2 : Canonical (s.abortQueries.mapClear.updPlan (fun p => { p with stage := [], stageLen := s.p32 k 4 })) :=
    (canonical_def _).mpr ⟨h1.slots, h1.bulk, rfl⟩
  exact h2.doneWith k []

@[simp] theorem Canonical.mapLoadCopy_start (h : Canonical s) (k : Nat) : Canonical (mapLoadCopySpec.start s k) := by
  have h1 : Canonical (s.updPlan (fun p => { p with stage := cellWrite p.stage (s.p32 k 4) (s.bulkBytes 0 s.host.bulkLen) })) :=
    (canonical_def _).mpr ⟨h.slots, h.bulk, cellWrite_wf _ _ _ h.stage⟩
  exact h1.doneWith k []

@[simp] theorem Canonical.mapLoadCommit_start (h : Canonical s) (k : Nat) : Canonical (mapLoadCommitSpec.start s k) := by
  unfold mapLoadCommitSpec
  dsimp only
  (repeat' split) <;> simp [h]

@[simp] theorem Canonical.planChainLoad_start (h : Canonical s) (k : Nat) : Canonical (planChainLoadSpec.start s k) := by
  simp [planChainLoadSpec, h]

@[simp] theorem Canonical.planChainValidate_start (h : Canonical s) (k : Nat) : Canonical (planChainValidateSpec.start s k) := by
  simp [planChainValidateSpec, h]

@[simp] theorem Canonical.planChainSave_start (h : Canonical s) (k : Nat) : Canonical (planChainSaveSpec.start s k) := by
  simp [planChainSaveSpec, h]

@[simp] theorem Canonical.planChainRead_start (h : Canonical s) (k : Nat) : Canonical (planChainReadSpec.start s k) := by
  simp [planChainReadSpec, h]

@[simp] theorem Canonical.planChainReload_start (h : Canonical s) (k : Nat) : Canonical (planChainReloadSpec.start s k) := by
  simp [planChainReloadSpec, h]

@[simp] theorem Canonical.planRoad_start (h : Canonical s) (k : Nat) : Canonical (planRoadSpec.start s k) := by
  unfold planRoadSpec
  dsimp only
  (repeat' split) <;> simp [h]

@[simp] theorem Canonical.netStatus_start (h : Canonical s) (k : Nat) : Canonical (netStatusSpec.start s k) := by
  simp [netStatusSpec, h]

@[simp] theorem Canonical.netRoute_start (h : Canonical s) (k : Nat) : Canonical (netRouteSpec.start s k) := by
  simp [netRouteSpec, h]

@[simp] theorem Canonical.netQstat_start (h : Canonical s) (k : Nat) : Canonical (netQstatSpec.start s k) := by
  simp [netQstatSpec, h]

@[simp] theorem Canonical.netWatch_start (h : Canonical s) (k : Nat) : Canonical (netWatchSpec.start s k) := by
  simp [netWatchSpec, h]

@[simp] theorem Canonical.netSend_start (h : Canonical s) (k : Nat) : Canonical (netSendSpec.start s k) := by
  unfold netSendSpec
  dsimp only
  (repeat' split) <;> simp [h]

@[simp] theorem Canonical.netRecv_start (h : Canonical s) (k : Nat) : Canonical (netRecvSpec.start s k) := by
  unfold netRecvSpec
  dsimp only
  (repeat' split) <;> simp [h]

@[simp] theorem Canonical.netSchedLoad_start (h : Canonical s) (k : Nat) : Canonical (netSchedLoadSpec.start s k) := by
  simp [netSchedLoadSpec, h]

@[simp] theorem Canonical.netSchedValidate_start (h : Canonical s) (k : Nat) : Canonical (netSchedValidateSpec.start s k) := by
  simp [netSchedValidateSpec, h]

@[simp] theorem Canonical.netSchedSave_start (h : Canonical s) (k : Nat) : Canonical (netSchedSaveSpec.start s k) := by
  simp [netSchedSaveSpec, h]

@[simp] theorem Canonical.netSchedRead_start (h : Canonical s) (k : Nat) : Canonical (netSchedReadSpec.start s k) := by
  simp [netSchedReadSpec, h]

@[simp] theorem Canonical.netSchedReload_start (h : Canonical s) (k : Nat) : Canonical (netSchedReloadSpec.start s k) := by
  simp [netSchedReloadSpec, h]

@[simp] theorem Canonical.isoStatus_start (h : Canonical s) (k : Nat) : Canonical (isoStatusSpec.start s k) := by
  simp [isoStatusSpec, h]

@[simp] theorem Canonical.enableAxis_start (h : Canonical s) (k : Nat) : Canonical (enableAxisSpec.start s k) := by
  unfold enableAxisSpec
  dsimp -zeta only
  extract_lets n s1
  have h1 : Canonical s1 := by simp [s1, h]
  split
  · simp [h1]
  · exact h1
  · exact h1
  · exact .ite (fun _ => .endReqs (.cancelOpposed (by simp [h1]) _ _) _ _ _ _) fun _ => h1.endReqs _ _ _ _
  · simp [h1]

@[simp] theorem Canonical.disableAxis_start (h : Canonical s) (k : Nat) : Canonical (disableAxisSpec.start s k) := by
  unfold disableAxisSpec
  dsimp only
  (repeat' split) <;> simp [h]

@[simp] theorem Canonical.netSleepAnnounce_start (h : Canonical s) (k : Nat) : Canonical (netSleepAnnounceSpec.start s k) := by
  simp [netSleepAnnounceSpec, h]

@[simp] theorem Canonical.netSleepCancel_start (h : Canonical s) (k : Nat) : Canonical (netSleepCancelSpec.start s k) := by
  simp [netSleepCancelSpec, h]

@[simp] theorem Canonical.netSleepStatus_start (h : Canonical s) (k : Nat) : Canonical (netSleepStatusSpec.start s k) := by
  simp [netSleepStatusSpec, h]

@[simp] theorem Canonical.twinStatus_start (h : Canonical s) (k : Nat) : Canonical (twinStatusSpec.start s k) := by
  simp [twinStatusSpec, h]

@[simp] theorem Canonical.fw_start (h : Canonical s) (op : Nat) (guarded : Bool) (k : Nat) : Canonical ((fwSpec op guarded).start s k) := by
  simp [fwSpec, h]

@[simp] theorem Canonical.svcIdent_start (h : Canonical s) (k : Nat) : Canonical (svcIdentSpec.start s k) := by
  simp [svcIdentSpec, h]

@[simp] theorem Canonical.svcClose_start (h : Canonical s) (k : Nat) : Canonical (svcCloseSpec.start s k) := by
  simp [svcCloseSpec, h]

@[simp] theorem Canonical.svcTamper_start (h : Canonical s) (k : Nat) : Canonical (svcTamperSpec.start s k) := by
  simp [svcTamperSpec, h]

@[simp] theorem Canonical.svcFactory_start (h : Canonical s) (k : Nat) : Canonical (svcFactorySpec.start s k) := by
  unfold svcFactorySpec
  dsimp -zeta only
  extract_lets keep ret p s1 s2 s3 s4 s5 s6
  have h3 : Canonical s3 := by simp [s3, s2, s1, h]
  have h5 : Canonical s5 := by simp [s5, s4, h3]
  simp [s6, h5]

@[simp] theorem Canonical.svcDebug_start (h : Canonical s) (k : Nat) : Canonical (svcDebugSpec.start s k) := by
  simp [svcDebugSpec, h]

@[simp] theorem Canonical.bistRun_start (h : Canonical s) (k : Nat) : Canonical (bistRunSpec.start s k) := by
  simp [bistRunSpec, h]

@[simp] theorem Canonical.faultStatus_start (h : Canonical s) (k : Nat) : Canonical (faultStatusSpec.start s k) := by
  simp [faultStatusSpec, h]

@[simp] theorem Canonical.faultClear_start (h : Canonical s) (k : Nat) : Canonical (faultClearSpec.start s k) := by
  simp [faultClearSpec, h]

@[simp] theorem Canonical.eventRead_start (h : Canonical s) (k : Nat) : Canonical (eventReadSpec.start s k) := by
  simp [eventReadSpec, h]

/-! ### Commands out of a hopper -/

/-- The start of every opcode and operation keeps the buffers canonical. -/
theorem specs_start (h : Canonical s) (k : Nat) : ∀ c ∈ specsA ++ specsB, Canonical (c.start s k) := by
  simp [specsA, specsB, h]

/-- So do the copies made when it is taken. -/
theorem specs_taken (h : Canonical s) (k : Nat) : ∀ c ∈ specsA ++ specsB, Canonical (c.taken s k) := by
  simp [specsA, specsB, surveyRunSpec, enableUnitSpec, h]

section
variable {c : CmdSpec} (hc : c ∈ specsA ++ specsB)
include hc

theorem Canonical.startCmd (h : Canonical s) (k : Nat) : Canonical (startCmd c k s) := by
  unfold Machine.startCmd
  dsimp only
  split
  · exact h.refuse _ _ _ _
  · refine .ite (fun _ => h.refuse _ _ _ _) fun _ => ?_
    split
    · exact h.refuse _ _ _ _
    · split
      · exact h.refuse _ _ _ _
      · exact specs_start (h.markStart c k) k c hc

theorem Canonical.startRow (h : Canonical s) (k : Nat) : Canonical (startRow c k s) :=
  .ite (fun _ => .settle (.startCmd hc (by simp [h]) k)) fun _ => h

theorem Canonical.takeCmd (h : Canonical s) (k : Nat) : Canonical (takeCmd c k s) := by
  unfold Machine.takeCmd
  extract_lets s1 s2 s3
  have h1 : Canonical s1 := by simp [s1, h]
  have h2 : Canonical s2 := by simp [s2, h1]
  have h3 : Canonical s3 := specs_taken (h2.stopTaken k) k c hc
  split
  · exact h1.refuse _ _ _ _
  · split
    · exact h1.refuse _ _ _ _
    · split
      · exact h2.refuse _ _ _ _
      · split
        · exact h2.refuse _ _ _ _
        · split
          · exact .startCmd hc h3 k
          · exact h3.setProg _ _
          · exact h3.enterWait _ _

theorem Canonical.takeRow (h : Canonical s) (k : Nat) : Canonical (takeRow c k s) :=
  .ite (fun _ => (Canonical.takeCmd hc h k).settle) fun _ => h

end

@[simp] theorem Canonical.startNext (h : Canonical s) (k : Nat) : Canonical (s.startNext k) := by
  unfold State.startNext
  split
  · next c e => exact .startRow (List.mem_of_find?_eq_some e) h k
  · exact h

/-! ### Rows that write the intake or the plan -/

/-- Every state that the outcome goes on with has the invariant. -/
def KeepsBuffers (o : Host.Outcome State Fault Refusal) : Prop := ∀ t, o = .next t → Canonical t

theorem KeepsBuffers.next (h : Canonical s) : KeepsBuffers (.next s) := by
  rintro t ⟨⟩
  exact h

/-- Reception of a fabric frame keeps the invariant when its handling does. -/
theorem Canonical.rx {f : State → State} (hf : ∀ t, Canonical t → Canonical (f t)) (h : Canonical s) (p : Fin 2) (a : AmFrame) (kind : Nat) :
    Canonical (s.rx p a kind f) := by
  unfold State.rx
  exact .ite (fun _ => h) fun _ => .ite (fun _ => by simp [h]) fun _ => .ite (fun _ => by simp [h]) fun _ =>
    .ite (fun _ => h) fun _ => hf _ (by simp [h])

@[simp] theorem keepsBuffers_next (s : State) : KeepsBuffers (.next s) ↔ Canonical s :=
  ⟨fun h => h s rfl, .next⟩

theorem KeepsBuffers.writeApplied (h : Canonical s) : KeepsBuffers (execWriteApplied s) := by
  unfold execWriteApplied
  (repeat' split) <;> simp [h]

theorem KeepsBuffers.dbell (h : Canonical s) (v : BitVec 16) : KeepsBuffers (execDbell v s) := by
  simp [execDbell, h]

theorem KeepsBuffers.barrierTimeout (h : Canonical s) (k : Fin 32) : KeepsBuffers (execBarrierTimeout k s) := by
  unfold execBarrierTimeout
  extract_lets m q behind s1 s2
  have h2 : Canonical s2 := .finish (by simp [s1, h]) _ _ _ _
  exact .next (.ite (fun _ => .settle (.foldl (fun t x ht => ht.refuse x _ _ _) _ h2)) fun _ => h)

theorem KeepsBuffers.heldCommandTimeout (h : Canonical s) (k : Fin 32) : KeepsBuffers (execHeldCommandTimeout k s) := by
  simp [execHeldCommandTimeout, h]

theorem KeepsBuffers.verdictRecomputed (h : Canonical s) : KeepsBuffers (execVerdictRecomputed s) := by
  unfold execVerdictRecomputed
  refine .next (.ite (fun _ => h) fun _ => .settle (.foldl (fun t x ht => ?_) _ (by simp [h])))
  exact .ite (fun _ => .finish (by simp [ht]) _ _ _ _) fun _ => ht

theorem KeepsBuffers.autoEnable (h : Canonical s) : KeepsBuffers (execAutoEnable s) := by
  unfold execAutoEnable
  (repeat' split) <;> simp [h]

theorem KeepsBuffers.queryActivation (h : Canonical s) : KeepsBuffers (execQueryActivation s) := by
  unfold execQueryActivation
  refine .next (.settle ?_)
  split
  · next q r ch _ _ _ =>
    refine .ite (fun _ => h) fun _ => ?_
    extract_lets lim s1 q1
    have h1 : Canonical s1 := by
      refine (Canonical.updPlan_iff s _ ?_).mpr h
      dsimp only
      split <;> simp
    split
    · split
      · simp [h1]
      · exact .queryEnds (by simp [h1]) _ _ _
    · simp [h1]
    · split
      · simp [h1]
      · exact .queryEnds (by simp [h1]) _ _ _
  · exact h

theorem KeepsBuffers.queryEnd (h : Canonical s) : KeepsBuffers (execQueryEnd s) := by
  unfold execQueryEnd
  refine .next (.settle ?_)
  split
  · extract_lets c cap useMap r n s1 s2 rd s3
    have h1 : Canonical s1 := by simp [s1, h]
    have h2 : Canonical s2 := .ite (fun _ => h1.rmLearn _ _) fun _ => h1
    have h3 : Canonical s3 := by simp [s3, h2]
    exact .ite (fun _ => h2.queryEnds _ _ _) fun _ => .ite (fun _ => h3.doneWith _ _) fun _ => h3
  · exact h

theorem KeepsBuffers.queryDeadline (h : Canonical s) : KeepsBuffers (execQueryDeadline s) := by
  unfold execQueryDeadline
  refine .next ?_
  split
  · exact .ite (fun _ => .settle (.dropActive (by simp [h]) _)) fun _ => h
  · exact h

theorem KeepsBuffers.haulSegmentStart (h : Canonical s) (ready : Bool) : KeepsBuffers (execHaulSegmentStart ready s) := by
  unfold execHaulSegmentStart
  (repeat' split) <;> simp [h]

theorem KeepsBuffers.haulClockRampEnd (h : Canonical s) : KeepsBuffers (execHaulClockRampEnd s) := by
  have hw (f : Run → Run) (l : List (Nat × Nat)) :
      Canonical (l.foldl (fun t w => if t.stage w.1 == .started then t.doneWith w.1 [] else t) (s.updRun f)) :=
    .foldl (fun t w ht => .ite (fun _ => ht.doneWith _ _) fun _ => ht) l (by simp [h])
  unfold execHaulClockRampEnd
  refine .next (.settle ?_)
  split
  · exact h
  · exact .ite (fun _ => h) fun _ => .ite (fun _ => .ite (fun _ => h.runEnds _ _ _) fun _ => hw _ _) fun _ =>
      .ite (fun _ => hw _ _) fun _ => h

theorem KeepsBuffers.runStartCheckDone (h : Canonical s) : KeepsBuffers (execRunStartCheckDone s) := by
  unfold execRunStartCheckDone
  refine .next (.settle ?_)
  split
  · refine .ite (fun _ => h) fun _ => ?_
    split
    · exact h
    · exact .ite (fun _ => .runGo (by simp [h]) _) fun _ => h.refuse _ _ _ _
  · exact h

theorem KeepsBuffers.runRecheckDone (h : Canonical s) : KeepsBuffers (execRunRecheckDone s) := by
  unfold execRunRecheckDone
  dsimp only
  (repeat' split) <;> simp [h]

theorem KeepsBuffers.runHoldTimeout (h : Canonical s) : KeepsBuffers (execRunHoldTimeout s) := by
  unfold execRunHoldTimeout
  (repeat' split) <;> simp [h]

theorem KeepsBuffers.mapEditEffect (h : Canonical s) : KeepsBuffers (execMapEditEffect s) := by
  unfold execMapEditEffect
  refine .next (.settle ?_)
  split
  · exact h
  · refine .ite (fun _ => h) fun _ => ?_
    extract_lets p d occ box hit s1 s2 s3 s4
    have h1 : Canonical s1 := by simp [s1, h]
    have h2 : Canonical s2 := by simp [s2, h1]
    have h3 : Canonical s3 := by simp only [s3]; split <;> simp [h2]
    have h4 : Canonical s4 := .ite (fun _ => h1) fun _ => (h3.dropActive _).runEdit _
    exact .ite (fun _ => h4.doneWith _ _) fun _ => h4

theorem KeepsBuffers.hbeatReceived (h : Canonical s) (p : Fin 2) (f : AmFrame) : KeepsBuffers (execHbeatReceived p f s) := by
  refine .next (.rx (fun t ht => ?_) h p f 8)
  extract_lets a period now here was near fab t1 ws lostW t2
  have h2 : Canonical t2 := by simp [t2, t1, ht]
  exact .ite (fun _ => .sendLossEvt (by simp [h2]) _ _) fun _ => h2

theorem KeepsBuffers.heartbeatDeadline (h : Canonical s) (p : Fin 2) (addr : Nat) : KeepsBuffers (execHeartbeatDeadline p addr s) := by
  simp [execHeartbeatDeadline, h]

theorem KeepsBuffers.canFrameTransmitted (h : Canonical s) (p : Fin 3) (cls : Fin 4) (off gone : Nat) :
    KeepsBuffers (execCanFrameTransmitted p cls off gone s) := by
  simp [execCanFrameTransmitted, h]

theorem KeepsBuffers.fabricCmd (h : Canonical s) (p : Fin 2) (f : AmFrame) : KeepsBuffers (execFabricCmd p f s) := by
  refine .next (.rx (fun t ht => ?_) h p f 5)
  have h1 : Canonical (t.assemble p f).1 := by simp [ht]
  refine .ite (fun _ => ht) fun _ => ?_
  dsimp only
  split
  · exact h1.takeFabric _ _ _ _
  · exact h1

theorem KeepsBuffers.beaconReceived (h : Canonical s) (p : Fin 2) (f : AmFrame) (off : Int) :
    KeepsBuffers (execBeaconReceived p f off s) := by
  refine .next (.rx (fun t ht => ?_) h p f 0)
  extract_lets b seg root inUse u fb woke v
  have hu : Canonical u := by simp [u, ht]
  have hv : Canonical v := by simp [v, ht]
  exact .ite (fun _ => by simp [ht]) fun _ => .ite (fun _ => .ite (fun _ => by simp [hu]) fun _ => hu) fun _ =>
    .ite (fun _ => ht) fun _ => .ite (fun _ => hv.sendHbeat _ _) fun _ => hv

theorem KeepsBuffers.commandedAddress (h : Canonical s) (src : Nat) (data : List (BitVec 8)) :
    KeepsBuffers (execCommandedAddress src data s) := by
  simp [execCommandedAddress, h]

theorem KeepsBuffers.isoCommand (h : Canonical s) (src : Nat) (data : List (BitVec 8)) : KeepsBuffers (execIsoCommand src data s) := by
  unfold execIsoCommand
  refine .next ?_
  dsimp only
  refine .ite (fun _ => h) fun _ => .ite (fun _ => by simp [h]) fun _ => ?_
  split
  · exact h.handOver _ _ _
  · have h1 : Canonical (s.busyEv.countRefused 2) := by simp [h]
    split
    · next t e => exact h1.of_blank (State.openTp_blank (by simp) e)
    · exact h1

theorem KeepsBuffers.axisUpStart (h : Canonical s) (n : Fin 4) : KeepsBuffers (execAxisUpStart n s) := by
  simp [execAxisUpStart, h]

theorem KeepsBuffers.offstateTestVerdict (h : Canonical s) (n : Fin 4) (mv : List Int) : KeepsBuffers (execOffstateTestVerdict n mv s) := by
  unfold execOffstateTestVerdict
  (repeat' split) <;> simp [h]

theorem KeepsBuffers.checkpointReached (h : Canonical s) (u : SeqUnit) (vals : List Int) :
    KeepsBuffers (execCheckpointReached u vals s) := by
  unfold execCheckpointReached
  refine .next ?_
  cases u with
  | axis n => exact (h.axCheckpoint n vals).settleDoms.settle
  | dom d => exact .ite (fun _ => h) fun _ => (h.domCheckpoint d vals).changeStep.settleDoms.settle

theorem KeepsBuffers.checkpointTimeout (h : Canonical s) (u : SeqUnit) (us : Nat) : KeepsBuffers (execCheckpointTimeout u us s) := by
  unfold execCheckpointTimeout
  refine .next ?_
  cases u with
  | axis n => exact .ite (fun _ => .settle (.raiseFail (h.of_blank (State.fresh_blank (by simp) s)) _ _ _)) fun _ => h
  | dom d =>
    refine .ite (fun _ => h) fun _ => ?_
    split
    · exact .ite (fun _ => Canonical.startFromOff s 4) fun _ => .ite (fun _ => by simp [h]) fun _ => .startFromOff _ 4
    · simp [h]
    · have h1 (d) := h.domDrop d 0x1305
      exact .settle (by simp [h1])
    · exact h

theorem KeepsBuffers.powerOn (h : Canonical s) (vbat : Nat) : KeepsBuffers (execPowerOn vbat s) := by
  simp [execPowerOn, h]

theorem KeepsBuffers.powerOff (h : Canonical s) (vbat : Nat) : KeepsBuffers (execPowerOff vbat s) := by
  simp [execPowerOff, h]

theorem KeepsBuffers.reset (h : Canonical s) : KeepsBuffers (execReset s) := by
  simp [execReset, h]

theorem KeepsBuffers.resetRelease (h : Canonical s) (tsten roleUp roleDown : Bool) :
    KeepsBuffers (execResetRelease tsten roleUp roleDown s) := by
  simp [execResetRelease, h]

theorem KeepsBuffers.brownOut (h : Canonical s) (vbat us : Nat) : KeepsBuffers (execBrownOut vbat us s) := by
  simp [execBrownOut, h]

theorem KeepsBuffers.wakeSource (h : Canonical s) (src : Fin 9) (periods us vbat : Nat) (level : Bool) :
    KeepsBuffers (execWakeSource src periods us vbat level s) := by
  unfold execWakeSource
  refine .next ?_
  extract_lets s1 ran p0 gone s2 p svc s3 woken s4 s5 fab s6 s7 x1 x2 x3 x4
  have h1 : Canonical s1 := by simp [s1, h]
  refine .ite (fun _ => h1) fun _ => ?_
  split
  · exact .ite (fun _ => by simp [h1]) fun _ => h1
  · split
    · have h3 : Canonical s3 := by simp [s3, s2, h1]
      have h6 : Canonical s6 := by simp [s6, fab, s5, s4, h3]
      have h8 := Canonical.settleDoms (s := s6.requestIdle) (by simp [h6])
      exact .ite (fun _ => h1) fun _ => by simp [h8]
    · have h7 : Canonical s7 := by simp [s7, h1]
      exact .ite (fun _ => h1) fun _ => by simp [x1, x2, x3, x4, h7]
    · exact h1

theorem KeepsBuffers.vmUndervoltage (h : Canonical s) (vm us : Nat) : KeepsBuffers (execVmUndervoltage vm us s) := by
  have hf {t} (ht : Canonical t) : Canonical (forAxes t (fun n t => t.axSupplyFail n 0x1306)) := .forAxes (fun n t ht => ht.axSupplyFail n _) ht
  unfold execVmUndervoltage
  refine .next (.ite (fun _ => h) fun _ => .ite (fun _ => by simp [h]) fun _ => .settle ?_)
  have h1 := hf (t := (forAxes { s with power := { s.power with vmUv := true, vm := vm } } (fun n t => t.switchesOff n)).brakesOff) (by simp [h])
  simp [h1]

theorem KeepsBuffers.vmOvervoltage (h : Canonical s) (vm : Nat) : KeepsBuffers (execVmOvervoltage vm s) := by
  unfold execVmOvervoltage
  refine .next (.ite (fun _ => h) fun _ => ?_)
  extract_lets p s1 s2
  have h2 : Canonical s2 := by
    refine .forAxes (fun n t ht => ?_) (by simp [s1, h])
    split <;> simp [ht]
  exact .settle (by simp [h2])

theorem KeepsBuffers.vgdOutOfWindow (h : Canonical s) (mv us : Nat) : KeepsBuffers (execVgdOutOfWindow mv us s) := by
  unfold execVgdOutOfWindow
  refine .next ?_
  extract_lets o bad trips p s1 s2
  have h1 : Canonical s1 := by simp [s1, h]
  have h3 : Canonical (forAxes s2 (fun n t => t.axSupplyFail n 0x130A)) := .forAxes (fun n t ht => ht.axSupplyFail n _) (by simp [s2, h1])
  exact .ite (fun _ => h) fun _ => .ite (fun _ => .settle (by simp [h3])) fun _ => .ite (fun _ => by simp [h1]) fun _ => h1

theorem KeepsBuffers.sleepInstant (h : Canonical s) : KeepsBuffers (execSleepInstant s) := by
  unfold execSleepInstant
  (repeat' split) <;> simp [h]

theorem KeepsBuffers.clockSettlingEnd (h : Canonical s) : KeepsBuffers (execClockSettlingEnd s) := by
  unfold execClockSettlingEnd
  refine .next ?_
  split
  · exact h
  · refine .ite (fun _ => h) fun _ => .settle ?_
    simp [h]

theorem KeepsBuffers.pllLockTimeout (h : Canonical s) (p : Fin 3) : KeepsBuffers (execPllLockTimeout p s) := by
  unfold execPllLockTimeout
  (repeat' split) <;> simp [h]

theorem KeepsBuffers.pllLockLoss (h : Canonical s) (p : Fin 3) : KeepsBuffers (execPllLockLoss p s) := by
  unfold execPllLockLoss
  (repeat' split) <;> simp [h]

theorem KeepsBuffers.calibrationEnd (h : Canonical s) (n : Fin 4) : KeepsBuffers (execCalibrationEnd n s) := by
  unfold execCalibrationEnd
  (repeat' split) <;> simp [h]

theorem KeepsBuffers.brakeReleaseWaitEnd (h : Canonical s) (b : Fin 4) : KeepsBuffers (execBrakeReleaseWaitEnd b s) := by
  unfold execBrakeReleaseWaitEnd
  dsimp only
  (repeat' split) <;> simp [h]

theorem KeepsBuffers.twinSwitchTimeout (h : Canonical s) : KeepsBuffers (execTwinSwitchTimeout s) := by
  unfold execTwinSwitchTimeout
  refine .next ?_
  split
  · exact .ite (fun _ => .settle (.finish (by simp [h]) _ _ _ _)) fun _ => h
  · exact h

theorem KeepsBuffers.bistTestDone (h : Canonical s) (pass : Bool) (qual : Nat) : KeepsBuffers (execBistTestDone pass qual s) := by
  unfold execBistTestDone
  refine .next ?_
  split
  · exact h
  · split
    · exact h
    · exact ((h.bistClose _ _ _ _).bistFreed _).settle

theorem KeepsBuffers.taggedCommandStart (h : Canonical s) (k : Fin 32) : KeepsBuffers (execTaggedCommandStart k s) := by
  simp [execTaggedCommandStart, h]

theorem KeepsBuffers.waitingCommandStart (h : Canonical s) (k : Fin 32) : KeepsBuffers (execWaitingCommandStart k s) := by
  simp [execWaitingCommandStart, h]

theorem KeepsBuffers.frameBoundary (h : Canonical s) (commit : Bool) (hbk : Quad Nat) :
    KeepsBuffers (execFrameBoundary commit hbk s) :=
  .next (.ite (fun _ => h) fun _ => .ite (fun _ => .activateNow s) fun _ =>
    ((h.frameWork.hardBoundary _ _ _).faultStep _).frameOpens)

/-! ### Every row -/

theorem keepsBuffers_of_writes {c : Sys2Proof.Instr} (h : Canonical s) (hi : (writes c).contains .intake = false)
    (hp : (writes c).contains .plan = false) : KeepsBuffers (exec c s) := by
  intro t e
  have ei := only_intake (exec_only e) (not_mem_of_contains hi)
  have ep := only_plan (exec_only e) (not_mem_of_contains hp)
  exact (canonical_def t).mpr ⟨ei ▸ h.slots, ei ▸ h.bulk, ep ▸ h.stage⟩

theorem KeepsBuffers.takeRow {c : CmdSpec} (hc : c ∈ specsA ++ specsB) (h : Canonical s) (k : Nat) :
    KeepsBuffers (.next (Machine.takeRow c k s)) := .next (.takeRow hc h k)

theorem exec_keepsBuffers (c : Sys2Proof.Instr) (h : Canonical s) : KeepsBuffers (exec c s) := by
  cases c with
  | writeApplied => exact .writeApplied h
  | dbell v => exact .dbell h v
  | barrierTimeout k => exact .barrierTimeout h k
  | heldCommandTimeout k => exact .heldCommandTimeout h k
  | verdictRecomputed => exact .verdictRecomputed h
  | autoEnable => exact .autoEnable h
  | queryActivation => exact .queryActivation h
  | queryEnd => exact .queryEnd h
  | queryDeadline => exact .queryDeadline h
  | haulSegmentStart ready => exact .haulSegmentStart h ready
  | haulClockRampEnd => exact .haulClockRampEnd h
  | runStartCheckDone => exact .runStartCheckDone h
  | runRecheckDone => exact .runRecheckDone h
  | runHoldTimeout => exact .runHoldTimeout h
  | mapEditEffect => exact .mapEditEffect h
  | hbeatReceived p f => exact .hbeatReceived h p f
  | heartbeatDeadline p addr => exact .heartbeatDeadline h p addr
  | canFrameTransmitted p cls off gone => exact .canFrameTransmitted h p cls off gone
  | fabricCmd p f => exact .fabricCmd h p f
  | beaconReceived p f off => exact .beaconReceived h p f off
  | commandedAddress src data => exact .commandedAddress h src data
  | isoCommand src data => exact .isoCommand h src data
  | axisUpStart n => exact .axisUpStart h n
  | offstateTestVerdict n mv => exact .offstateTestVerdict h n mv
  | checkpointReached u vals => exact .checkpointReached h u vals
  | checkpointTimeout u us => exact .checkpointTimeout h u us
  | powerOn vbat => exact .powerOn h vbat
  | powerOff vbat => exact .powerOff h vbat
  | reset => exact .reset h
  | resetRelease tsten roleUp roleDown => exact .resetRelease h tsten roleUp roleDown
  | brownOut vbat us => exact .brownOut h vbat us
  | wakeSource src periods us vbat level => exact .wakeSource h src periods us vbat level
  | vmUndervoltage vm us => exact .vmUndervoltage h vm us
  | vmOvervoltage vm => exact .vmOvervoltage h vm
  | vgdOutOfWindow mv us => exact .vgdOutOfWindow h mv us
  | sleepInstant => exact .sleepInstant h
  | clockSettlingEnd => exact .clockSettlingEnd h
  | pllLockTimeout p => exact .pllLockTimeout h p
  | pllLockLoss p => exact .pllLockLoss h p
  | calibrationEnd n => exact .calibrationEnd h n
  | brakeReleaseWaitEnd b => exact .brakeReleaseWaitEnd h b
  | twinSwitchTimeout => exact .twinSwitchTimeout h
  | bistTestDone pass qual => exact .bistTestDone h pass qual
  | taggedCommandStart k => exact .taggedCommandStart h k
  | waitingCommandStart k => exact .waitingCommandStart h k
  | frameBoundary commit hbk => exact .frameBoundary h commit hbk
  | barrier k | hopStatus k | setParam k | getParam k | surveyRun k | enableUnit k | disableUnit k | cfgImageClear k | cfgImageStage k
  | cfgImageCheck k | cfgImageApply k | cfgImageSaveStaged k | cfgImageSaveWorking k | cfgImageLoadStored k | cfgImageReadStaging k
  | cfgImageErase k | moveTo k | moveBy k | jog k | stop k | halt k | followSteps k | setPosition k | axisStatus k | gateStatus k
  | offstateTest k | diagStatus k | chiselLoad k | chiselValidate k | chiselSave k | chiselRead k | chiselReload k | curStatus k
  | homeFace k | wedgeLearn k | wedgeStatus k | cmpArm k | cmpStatus k | fbStatus k | fbSetCount k | followSpeed k | folStatus k
  | spStatus k | planQuery k | planRun k | planStop k | planHold k | planResume k | mapEditOccupy k | mapEditFree k | mapEditClear k
  | mapEditMarkValid k | mapEditMarkInvalid k | mapLoadBegin k | mapLoadCopy k | mapLoadCommit k | planChainLoad k | planChainValidate k
  | planChainSave k | planChainRead k | planChainReload k | planRoad k | netStatus k | netRoute k | netQstat k | netWatch k | netSend k
  | netRecv k | netSchedLoad k | netSchedValidate k | netSchedSave k | netSchedRead k | netSchedReload k | isoStatus k | enableAxis k
  | disableAxis k | powerState k | netSleepAnnounce k | netSleepCancel k | netSleepStatus k | twinStatus k | twinSwitch k | fwUpdateBegin k
  | fwUpdateWrite k | fwUpdateWriteInline k | fwUpdateVerify k | fwUpdateCommit k | fwUpdateActivate k | fwUpdateConfirm k | fwUpdateAbort k
  | svcIdent k | svcOpCloseWindow k | svcOpTamperClear k | svcOpFactoryReset k | svcOpDebugEnable k | bistRun k | faultStatus k
  | faultClear k | eventRead k =>
    exact .takeRow (by simp [specsA, specsB]) h k
  | _ => exact keepsBuffers_of_writes h rfl rfl

/-- Settles O49: every command keeps the three buffers canonical. A buffer changes by cell writes, which keep the form, or starts empty; the
rows that write neither the intake nor the plan keep it by their frames. -/
theorem buffersStayCanonical : Obligations.BuffersStayCanonical := by
  unfold Obligations.BuffersStayCanonical
  intro s t hs hb hp e
  have h : Canonical s := (canonical_def s).mpr ⟨hs, hb, hp⟩
  have ht : Canonical t := by
    unfold step at e
    split at e
    · cases e
      exact h
    · next c rest _ => exact exec_keepsBuffers c (s := { s with pending := rest }) (by simp [h]) t e
  exact ⟨ht.slots, ht.bulk, ht.stage⟩

end Sys2Proof.Machine
end

section
/-! The doorbell: what a write to DBELL leaves of each slot that it names and of each that it does not (R150). -/

namespace Sys2Proof.Machine

/-! ### One slot -/

theorem getLsbD_slotBit (n k : Nat) : (BitVec.ofNat 16 (2 ^ n)).getLsbD k = (decide (k < 16) && decide (n = k)) := by
  rw [BitVec.getLsbD_ofNat, Nat.testBit_two_pow]

/-- A slot is refused: the bit of DBREJ, and the count of its source. -/
def State.bellRefused (s : State) (k : Nat) : State :=
  { s with host := { s.host with dbrej := s.host.dbrej ||| BitVec.ofNat 16 (2 ^ k) }
           intake := { s.intake with counts := s.intake.counts.upd 0 (fun c => { c with refused := c.refused + 1 }), rejSeen := true } }

/-- A slot changes hands: HOWN is set, HDONE clears, and the hopper holds a rung command. -/
def State.bellGiven (s : State) (k : Nat) : State :=
  State.setHop { s with host := { s.host with hown := s.host.hown ||| BitVec.ofNat 16 (2 ^ k)
                                              hdone := s.host.hdone &&& ~~~ BitVec.ofNat 16 (2 ^ k) } } k (fun _ => { stage := .rung })

theorem dbellSlot_owned {s : State} {k : Nat} (h : s.host.hown.getLsbD k = true) : dbellSlot s k = s.bellRefused k := if_pos h

theorem dbellSlot_given {s : State} {k : Nat} (h : s.host.hown.getLsbD k = false) :
    dbellSlot s k = ((s.bellGiven k).setProg k 0).putSlot (128 * k + 12) [0] := if_neg (by simp [h])

/-- Two byte writes of slot `k` leave the bytes of another slot. -/
theorem bytes_of_given {s : State} (hw : s.slotsWf) {j k a : Nat} (hj : j ≠ k) (hlo : 128 * j ≤ a) (hhi : a < 128 * j + 128) :
    cellGet (((s.bellGiven k).setProg k 0).putSlot (128 * k + 12) [0]).intake.slots a = cellGet s.intake.slots a := by
  have h1 : cellWf (cellWrite s.intake.slots (128 * k + 7) [BitVec.ofNat 8 0]) = true := cellWrite_wf _ _ _ hw
  refine (cellGet_write _ _ _ _ h1).trans ((if_neg ?_).trans ((cellGet_write _ _ _ _ hw).trans (if_neg ?_))) <;>
    simp only [List.length_singleton] <;> omega

/-! ### The named slots in ascending order -/

/-- `t` is `s` after the doorbell has answered the slots of `l`. -/
structure Belled (s : State) (l : List Nat) (t : State) : Prop where
  hown : ∀ k, t.host.hown.getLsbD k = (s.host.hown.getLsbD k || decide (k ∈ l))
  hdone : ∀ k, t.host.hdone.getLsbD k = (s.host.hdone.getLsbD k && !(decide (k ∈ l) && !s.host.hown.getLsbD k))
  dbrej : ∀ k, t.host.dbrej.getLsbD k = (s.host.dbrej.getLsbD k || (decide (k ∈ l) && s.host.hown.getLsbD k))
  hopCount : t.intake.hops.length = s.intake.hops.length
  given : ∀ k ∈ l, s.host.hown.getLsbD k = false → k < s.intake.hops.length → t.stage k = .rung
  hop : ∀ k, (k ∈ l → s.host.hown.getLsbD k = true) → t.hop k = s.hop k
  rejSeen : ∀ k ∈ l, s.host.hown.getLsbD k = true → t.intake.rejSeen = true
  faults : t.faults = s.faults
  wf : s.slotsWf → t.slotsWf
  bytes : s.slotsWf → ∀ k, s.host.hown.getLsbD k = true → ∀ a, 128 * k ≤ a → a < 128 * k + 128 →
    cellGet t.intake.slots a = cellGet s.intake.slots a

namespace Belled

variable {s t : State} {l : List Nat} {n : Nat}

theorem refl (s : State) : Belled s [] s where
  hown _ := by simp
  hdone _ := by simp
  dbrej _ := by simp
  hopCount := rfl
  given := nofun
  hop _ _ := rfl
  rejSeen := nofun
  faults := rfl
  wf h := h
  bytes _ _ _ _ _ _ := rfl

/-- A further slot that the device owned before the write. -/
theorem refuse (b : Belled s l t) (hn : n < 16) (ho : s.host.hown.getLsbD n = true) : Belled s (l ++ [n]) (t.bellRefused n) where
  hown k := by
    refine (b.hown k).trans ?_
    by_cases e : k = n <;> simp [e, ho]
  hdone k := by
    refine (b.hdone k).trans ?_
    by_cases e : k = n <;> simp [e, ho]
  dbrej k := by
    simp only [State.bellRefused, BitVec.getLsbD_or, b.dbrej, getLsbD_slotBit]
    by_cases e : k = n <;> simp [e, ho, hn, Ne.symm]
  hopCount := b.hopCount
  given k hk h hl := by
    refine b.given k ((List.mem_append.mp hk).resolve_right fun e => ?_) h hl
    rw [List.mem_singleton.mp e, ho] at h
    contradiction
  hop k h := b.hop k fun hk => h (List.mem_append_left _ hk)
  rejSeen _ _ _ := rfl
  faults := b.faults
  wf h := b.wf h
  bytes := b.bytes

/-- A further slot that the host owned before the write. -/
theorem give (b : Belled s l t) (hn : n < 16) (ho : s.host.hown.getLsbD n = false) :
    Belled s (l ++ [n]) (((t.bellGiven n).setProg n 0).putSlot (128 * n + 12) [0]) where
  hown k := by
    change (t.host.hown ||| BitVec.ofNat 16 (2 ^ n)).getLsbD k = _
    rw [BitVec.getLsbD_or, b.hown, getLsbD_slotBit]
    by_cases e : k = n
    · simp [e, hn]
    · simp [e, Ne.symm e]
  hdone k := by
    change (t.host.hdone &&& ~~~ BitVec.ofNat 16 (2 ^ n)).getLsbD k = _
    rw [BitVec.getLsbD_and, BitVec.getLsbD_not, b.hdone, getLsbD_slotBit]
    by_cases e : k = n
    · rw [e, ho]
      simp [hn]
    · by_cases hk : k < 16
      · simp [e, Ne.symm e, hk]
      · simp [e, hk, BitVec.getLsbD_of_ge _ _ (Nat.le_of_not_lt hk)]
  dbrej k := by
    refine (b.dbrej k).trans ?_
    by_cases e : k = n <;> simp [e, ho]
  hopCount := (updAt_length _ _ _).trans b.hopCount
  given k hk h hl := by
    change (t.bellGiven n).stage k = _
    rw [State.stage, State.bellGiven, setHop_hop]
    split
    · rfl
    · next hc =>
      have hne : k ≠ n := fun e => hc ⟨e.symm, hl.trans_eq b.hopCount.symm⟩
      exact b.given k ((List.mem_append.mp hk).resolve_right fun e => hne (List.mem_singleton.mp e)) h hl
  hop k h := by
    change (t.bellGiven n).hop k = _
    have hne : n ≠ k := by
      rintro rfl
      simp [ho] at h
    rw [State.bellGiven, setHop_hop, if_neg fun c => hne c.1]
    exact b.hop k fun hk => h (List.mem_append_left _ hk)
  rejSeen k hk h := by
    refine b.rejSeen k ((List.mem_append.mp hk).resolve_right fun e => ?_) h
    rw [List.mem_singleton.mp e, ho] at h
    contradiction
  faults := b.faults
  wf h := putSlot_wf (putSlot_wf (b.wf h) _ _) _ _
  bytes hw k h a hlo hhi := by
    have hne : k ≠ n := by
      rintro rfl
      simp [ho] at h
    exact (bytes_of_given (b.wf hw) hne hlo hhi).trans (b.bytes hw k h a hlo hhi)

theorem slot (b : Belled s l t) (hn : n < 16) (hl : n ∉ l) : Belled s (l ++ [n]) (dbellSlot t n) := by
  have hown : t.host.hown.getLsbD n = s.host.hown.getLsbD n := by simp [b.hown, hl]
  cases ho : s.host.hown.getLsbD n with
  | true => rw [dbellSlot_owned (hown.trans ho)]; exact b.refuse hn ho
  | false => rw [dbellSlot_given (hown.trans ho)]; exact b.give hn ho

/-- Distinct slots, one after the other. -/
theorem slots (b : Belled s l t) {r : List Nat} (hr : (l ++ r).Nodup) (hb : ∀ k ∈ r, k < 16) : Belled s (l ++ r) (r.foldl dbellSlot t) := by
  induction r generalizing l t with
  | nil => rwa [List.append_nil]
  | cons n r ih =>
    have hn : n ∉ l := fun hl => (List.nodup_append.mp hr).2.2 n hl n List.mem_cons_self rfl
    rw [List.append_cons] at hr ⊢
    exact ih (b.slot (hb n List.mem_cons_self) hn) hr fun k hk => hb k (List.mem_cons_of_mem _ hk)

end Belled

/-! ### The write -/

/-- The slots that a doorbell write names. -/
def bellSlots (v : BitVec 16) : List Nat := (List.range 16).filter (fun k => v.getLsbD k)

theorem mem_bellSlots {v : BitVec 16} {k : Nat} : k ∈ bellSlots v ↔ v.getLsbD k = true := by
  rw [bellSlots, List.mem_filter, List.mem_range]
  exact ⟨And.right, fun h => ⟨BitVec.lt_of_getLsbD h, h⟩⟩

theorem decide_mem_bellSlots (v : BitVec 16) (k : Nat) : decide (k ∈ bellSlots v) = v.getLsbD k := by
  rw [Bool.eq_iff_iff, decide_eq_true_iff, mem_bellSlots]

theorem bellSlots_nodup (v : BitVec 16) : (bellSlots v).Nodup := List.nodup_range.filter _

/-- Every named slot is answered, in ascending order. -/
def State.bellSlotsAnswered (s : State) (v : BitVec 16) : State := (bellSlots v).foldl dbellSlot s

theorem belled_write (v : BitVec 16) (s : State) : Belled s (bellSlots v) (s.bellSlotsAnswered v) :=
  (Belled.refl s).slots (bellSlots_nodup v) fun _ hk => BitVec.lt_of_getLsbD (mem_bellSlots.mp hk)

/-- The first named slot that the device owns, which the event of the refusal names. -/
def State.firstRefused (s : State) (v : BitVec 16) : Option Nat := ((List.range 16).filter (fun k => v.getLsbD k && s.host.hown.getLsbD k)).head?

theorem firstRefused_spec {s : State} {v : BitVec 16} {j : Nat} (h : s.firstRefused v = some j) :
    j < 16 ∧ v.getLsbD j = true ∧ s.host.hown.getLsbD j = true := by
  simpa using List.mem_of_head? h

theorem firstRefused_exists {s : State} {v : BitVec 16} {k : Nat} (hv : v.getLsbD k = true) (ho : s.host.hown.getLsbD k = true) :
    ∃ j, s.firstRefused v = some j := by
  refine Option.ne_none_iff_exists'.mp fun e => ?_
  have hk : k ∈ (List.range 16).filter (fun k => v.getLsbD k && s.host.hown.getLsbD k) := by simp [BitVec.lt_of_getLsbD hv, hv, ho]
  rw [List.head?_eq_none_iff.mp e] at hk
  cases hk

/-- A doorbell write answers the named slots; its first refusal of a superframe notes EV-0x1101 for the next boundary (R150). -/
theorem dbellWrite_eq (v : BitVec 16) (s : State) :
    dbellWrite v s = match s.firstRefused v with
      | some k => if s.intake.rejSeen then (s.bellSlotsAnswered v).notePeak 0 else ((s.bellSlotsAnswered v).notePeak 0).noteEv 0x1101 k
      | none => (s.bellSlotsAnswered v).notePeak 0 := by
  unfold dbellWrite State.firstRefused
  dsimp only
  cases (List.range 16).filter (fun k => v.getLsbD k && s.host.hown.getLsbD k) <;> rfl

theorem dbellWrite_host (v : BitVec 16) (s : State) : (dbellWrite v s).host = (s.bellSlotsAnswered v).host := by
  rw [dbellWrite_eq]
  (repeat' split) <;> rfl

/-- Of the intake, the doorbell's own work beyond the slots changes the count of its source. -/
theorem dbellWrite_intake (v : BitVec 16) (s : State) : (dbellWrite v s).intake = ((s.bellSlotsAnswered v).notePeak 0).intake := by
  rw [dbellWrite_eq]
  (repeat' split) <;> rfl

theorem dbellWrite_hop (v : BitVec 16) (s : State) (k : Nat) : (dbellWrite v s).hop k = (s.bellSlotsAnswered v).hop k :=
  hop_of_intake (congrArg IntakeSt.hops (dbellWrite_intake v s)) k

theorem dbellWrite_faults_seen {v : BitVec 16} {s : State} (hs : s.intake.rejSeen = true) : (dbellWrite v s).faults = s.faults := by
  have hf : ((s.bellSlotsAnswered v).notePeak 0).faults = s.faults := (belled_write v s).faults
  rw [dbellWrite_eq]
  split
  · rw [if_pos hs, hf]
  · exact hf

theorem dbellWrite_faults_first {v : BitVec 16} {s : State} {j : Nat} (hj : s.firstRefused v = some j) (hs : s.intake.rejSeen = false) :
    (dbellWrite v s).faults = { s.faults with evNext := s.faults.evNext ++ [(0x1101, j)] } := by
  have hf : ((s.bellSlotsAnswered v).notePeak 0).faults = s.faults := (belled_write v s).faults
  simp only [dbellWrite_eq, hj, hs, Bool.false_eq_true, if_false, noteEv_faults, hf]

theorem dbellWrite_hown (v : BitVec 16) (s : State) : (dbellWrite v s).host.hown = s.host.hown ||| v := by
  rw [dbellWrite_host]
  exact BitVec.eq_of_getLsbD_eq fun k _ => by rw [(belled_write v s).hown, decide_mem_bellSlots, BitVec.getLsbD_or]

theorem dbellWrite_hdone (v : BitVec 16) (s : State) : (dbellWrite v s).host.hdone = s.host.hdone &&& ~~~ (v &&& ~~~ s.host.hown) := by
  rw [dbellWrite_host]
  refine BitVec.eq_of_getLsbD_eq fun k hk => ?_
  rw [(belled_write v s).hdone, decide_mem_bellSlots]
  simp [hk]

theorem dbellWrite_dbrej (v : BitVec 16) (s : State) : (dbellWrite v s).host.dbrej = s.host.dbrej ||| (v &&& s.host.hown) := by
  rw [dbellWrite_host]
  exact BitVec.eq_of_getLsbD_eq fun k _ => by rw [(belled_write v s).dbrej, decide_mem_bellSlots, BitVec.getLsbD_or, BitVec.getLsbD_and]

/-- Settles O7: each clause by the lemma on its part of the doorbell. -/
theorem doorbellHandsOver : Obligations.DoorbellHandsOver := by
  intro v s
  have b := belled_write v s
  refine ⟨_, rfl, dbellWrite_hown v s, dbellWrite_hdone v s, dbellWrite_dbrej v s, fun hl k hk hv ho => ?_, fun k hk => ?_,
    fun k hv hk ho hs => ?_⟩
  · exact (congrArg HopSt.stage (dbellWrite_hop v s k)).trans (b.given k (mem_bellSlots.mpr hv) ho (by omega))
  · rw [dbellWrite_hop]
    refine b.hop k fun hm => ?_
    have hv := mem_bellSlots.mp hm
    simpa [BitVec.getLsbD_and, hv, BitVec.lt_of_getLsbD hv] using hk
  · obtain ⟨j, hj⟩ := firstRefused_exists (v := v) (by rw [hv, getLsbD_slotBit]; simp [hk]) ho
    have hkj : k = j := by
      have hb := (firstRefused_spec hj).2.1
      rw [hv, getLsbD_slotBit] at hb
      simpa [(firstRefused_spec hj).1] using hb
    rw [dbellWrite_faults_first hj hs, hkj, List.getLast?_concat]

/-- Settles O54: the slot of a refused doorbell keeps its command and its bytes, and one event names a refused slot. -/
theorem doorbellRefused : Obligations.DoorbellRefused := by
  intro k v s hk hv ho hw
  have b := belled_write v s
  obtain ⟨j, hj⟩ := firstRefused_exists hv ho
  have hm := mem_bellSlots.mpr hv
  refine ⟨_, rfl, ?_, ?_, ?_, fun a hlo hhi => ?_, ?_, ?_, dbellWrite_faults_seen, fun hs => ?_⟩
  · rw [dbellWrite_dbrej]
    simp [BitVec.getLsbD_or, hv, ho]
  · rw [dbellWrite_hown, BitVec.getLsbD_or, ho, Bool.true_or]
  · exact (dbellWrite_hop v s k).trans (b.hop k fun _ => ho)
  · rw [dbellWrite_intake]
    exact b.bytes hw k ho a hlo hhi
  · rw [dbellWrite_intake]
    exact b.rejSeen k hm ho
  · cases hs : s.intake.rejSeen with
    | true => rw [dbellWrite_faults_seen hs]
    | false => rw [dbellWrite_faults_first hj hs]
  · obtain ⟨hlt, hjv, hjo⟩ := firstRefused_spec hj
    exact ⟨j, hlt, hjv, hjo, dbellWrite_faults_first hj hs⟩

end Sys2Proof.Machine
end

section
/-! Barriers, tagged and waiting commands: what a completion leaves of the other hoppers, and how a command that waited starts. -/

namespace Sys2Proof.Machine

/-! ### Records through the completions of other hoppers -/

/-- A hopper that the state does not hold is free. -/
theorem hop_absent {s : State} {h : Nat} (hl : ¬ h < s.intake.hops.length) : s.hop h = {} :=
  List.getD_eq_default _ _ (Nat.le_of_not_lt hl)

/-- Giving a record back changes the entry of its hopper in the intake, and frees it or leaves it answering. -/
theorem giveBack_intake (s : State) (h : Nat) : ∃ f : HopSt → HopSt, (∀ y, (f y).stage ≠ .started) ∧
    (s.giveBack h).intake = { s.intake with hops := updAt s.intake.hops h f } := by
  have free {t : State} (e : t.intake = s.intake) : ∃ f : HopSt → HopSt, (∀ y, (f y).stage ≠ .started) ∧
      (t.freeHop h).intake = { s.intake with hops := updAt s.intake.hops h f } :=
    ⟨fun _ => {}, fun _ => by simp, by rw [← e]; rfl⟩
  have answering : ∃ f : HopSt → HopSt, (∀ y, (f y).stage ≠ .started) ∧
      (s.setHop h (fun y => { y with stage := .answering })).intake = { s.intake with hops := updAt s.intake.hops h f } :=
    ⟨_, fun _ => by simp, rfl⟩
  unfold State.giveBack
  split
  · exact free rfl
  · split
    · exact free rfl
    · split
      · next e => exact free (only_intake (State.respondFabric_blank (w := [.ports]) (by simp) e) (by simp))
      · exact answering
  · split
    · next e => exact free (only_intake (State.respondIso_blank (w := [.iso]) (by simp) e) (by simp))
    · exact answering
  · dsimp only
    split
    · exact free (ev_intake _ _ _)
    · exact free ((evIf_intake _ _ _ _).trans (ev_intake _ _ _))

/-- A completed hopper is given back: it is not started any more. -/
theorem finish_idle (s : State) (h code detail : Nat) (res : List Byte) : (s.finish h code detail res).stage h ≠ .started := by
  unfold State.finish
  dsimp only
  generalize State.countBusy _ h code = t
  obtain ⟨f, hf, e⟩ := giveBack_intake t h
  have hg : (t.giveBack h).hop h = (t.setHop h f).hop h := hop_of_intake (congrArg IntakeSt.hops e) h
  rw [State.stage, hg, setHop_hop]
  split
  · exact hf _
  · next hc => simp [hop_absent fun hl => hc ⟨rfl, hl⟩]

/-- The counts of a source show a completion with CAL_BUSY only (Table HOP-10). -/
theorem finish_counts (s : State) (h detail : Nat) (res : List Byte) {code : Nat} (hc : code ≠ 4) :
    (s.finish h code detail res).intake.counts = s.intake.counts := by
  have hg (t : State) : (t.giveBack h).intake.counts = t.intake.counts := by
    obtain ⟨f, -, e⟩ := giveBack_intake t h
    rw [e]
  have hr (t : State) (r : List Byte) : (t.putResult h r).intake.counts = t.intake.counts := by unfold State.putResult; split <;> rfl
  have hb : (s.endBulk h).intake.counts = s.intake.counts := by unfold State.endBulk; split <;> rfl
  rw [State.finish, hg, State.countBusy, if_neg hc, putSlot_intake, putSlot_intake]
  dsimp only
  rw [hr, hb]

theorem doneWith_code {s : State} (hw : s.slotsWf) (h : Nat) (res : List Byte) : (s.doneWith h res).hb h 12 = 1 := by
  rw [State.doneWith, finish_code _ _ _ _ _ (by decide) hw]

namespace RecordKept

variable {h : Nat} {s t : State}

theorem refl (hw : s.slotsWf) (hn : s.stage h ≠ .started) : RecordKept h s s := ⟨hw, hn, fun _ _ _ => rfl⟩

/-- The completion of another hopper, started or not. -/
theorem finish_other (k : RecordKept h s t) {x : Nat} (hx : x ≠ h) (code detail : Nat) (res : List Byte) :
    RecordKept h s (t.finish x code detail res) where
  wf := finish_wf k.wf _ _ _ _
  idle := by rw [finish_stage_other t hx]; exact k.idle
  bytes b h1 h2 := by
    rw [← k.bytes b h1 h2]
    exact congrArg BitVec.toNat (finish_frame t x code detail (128 * h + b) res k.wf (by omega))

theorem runRefused (k : RecordKept h s t) (x : Nat) : RecordKept h s (t.runRefused x) := by
  unfold State.runRefused
  split
  · split
    · refine List.foldlRecOn (motive := RecordKept h s) _ _ ⟨k.wf, k.idle, k.bytes⟩ fun u hu w _ => ?_
      split
      · next hst => exact hu.finish (eq_of_beq hst) _ _ _
      · exact hu
    · exact k
  · exact k

theorem refused (k : RecordKept h s t) (x code detail : Nat) : RecordKept h s (t.refused x code detail) where
  wf := refused_wf k.wf x code detail
  idle := by
    have e : (t.refused x code detail).stage h = (t.refusing x code detail).stage h := setHop_stage _ x h fun _ => rfl
    rw [e, stage_of_intake (refusing_hops t x code detail)]
    exact k.idle
  bytes b h1 h2 := by
    rw [← k.bytes b h1 h2, State.hb, State.hb, State.refused, setHop_slots, refusing_slots]

theorem refuse_other (k : RecordKept h s t) {x : Nat} (hx : x ≠ h) (code detail : Nat) (res : List Byte) :
    RecordKept h s (t.refuse x code detail res) := by
  rw [refuse_eq]
  exact ((k.refused x code detail).finish_other hx code detail res).runRefused x

end RecordKept

/-- Hopper `h` has completed with `code`. -/
structure Ended (h code : Nat) (s : State) : Prop where
  wf : s.slotsWf
  idle : s.stage h ≠ .started
  code : s.hb h 12 = code

namespace Ended

variable {h code : Nat} {s : State}

theorem of_finish (hw : s.slotsWf) (hc : code < 256) (detail : Nat) (res : List Byte) : Ended h code (s.finish h code detail res) :=
  ⟨finish_wf hw _ _ _ _, finish_idle _ _ _ _ _, finish_code _ _ _ _ _ hc hw⟩

theorem of_refuse (hw : s.slotsWf) (hn : s.stage h ≠ .started) (hc : code < 256) (detail : Nat) (res : List Byte) :
    Ended h code (s.refuse h code detail res) := by
  have e : Ended h code ((s.refused h code detail).finish h code detail res) := of_finish (refused_wf hw _ _ _) hc detail res
  exact ⟨refuse_wf hw _ _ _ _, (((RecordKept.refl e.wf e.idle).runRefused h).idle), (refuse_record detail res hw hn hc).1⟩

/-- A refusal leaves an ended hopper, or ends it again with the same code. -/
theorem refuse (e : Ended h code s) {x c : Nat} (hx : x = h → c = code) (hc : c < 256) (detail : Nat) (res : List Byte) :
    Ended h code (s.refuse x c detail res) := by
  by_cases he : x = h
  · obtain rfl := hx he
    subst he
    exact of_refuse e.wf e.idle hc detail res
  · have k := (RecordKept.refl e.wf e.idle).refuse_other he c detail res
    exact ⟨k.wf, k.idle, (k.bytes 12 (by decide) (by decide)).trans e.code⟩

theorem foldl_refuse (e : Ended h code s) {l : List Nat} {c : Nat} (hl : ∀ x ∈ l, x = h → c = code) (hc : c < 256) (detail : Nat) :
    Ended h code (l.foldl (fun t x => t.refuse x c detail []) s) :=
  List.foldlRecOn (motive := Ended h code) l _ e fun _ ht x hx => ht.refuse (hl x hx) hc detail []

/-- Each of the commands that are refused together ends with their code. -/
theorem of_foldl_refuse {l : List Nat} (hl : h ∈ l) (hw : s.slotsWf) (hn : s.stage h ≠ .started) (hc : code < 256) (detail : Nat) :
    Ended h code (l.foldl (fun t x => t.refuse x code detail []) s) := by
  induction l generalizing s with
  | nil => cases hl
  | cons x r ih =>
    by_cases hx : x = h
    · subst hx
      exact (of_refuse hw hn hc detail []).foldl_refuse (fun _ _ _ => rfl) hc detail
    · have k := (RecordKept.refl hw hn).refuse_other hx code detail []
      exact ih ((List.mem_cons.mp hl).resolve_left fun e => hx e.symm) k.wf k.idle

end Ended

/-! ### BARRIER and its time-out -/

theorem barrier_starts : Starts barrierSpec .barrier (fun _ b u => u = b) :=
  fun _ _ a _ => ⟨_, congrArg Host.Outcome.next (takeRow_accepts a), rfl⟩

/-- The commands that wait behind barrier `h`, in taking order (R174). -/
def State.behind (s : State) (h : Nat) : List Nat :=
  s.byTaking.filter (fun x => s.stage x == .waitBarrier && s.inScope h x && decide ((s.hop h).takeNo < (s.hop x).takeNo))

theorem mem_behind {s : State} {h x : Nat} : x ∈ s.behind h ↔
    x < 32 ∧ s.stage x = .waitBarrier ∧ s.inScope h x = true ∧ (s.hop h).takeNo < (s.hop x).takeNo := by
  have hf : s.stage x = .waitBarrier → s.flying x = true := fun e => congrArg HopStage.inFlight e
  simp only [State.behind, List.mem_filter, mem_byTaking, Bool.and_eq_true, beq_iff_eq, decide_eq_true_eq]
  tauto

/-- A barrier has completed TIMEOUT, with EV-0x1104 (R174). -/
def State.barrierGone (s : State) (h : Nat) : State :=
  let t := s.ev 0x1104 (s.seqNo h)
  t.finish h 0x12 (t.since (t.hop h).taken) []

theorem barrierGone_ended {s : State} (hw : s.slotsWf) (h : Nat) : Ended h 0x12 (s.barrierGone h) := by
  rw [State.barrierGone]
  exact .of_finish (ev_wf hw _ _) (by decide) _ []

theorem barrierGone_stage (s : State) {h x : Nat} (hx : h ≠ x) : (s.barrierGone h).stage x = s.stage x := by
  rw [State.barrierGone, finish_stage_other _ hx, stage_of_intake (congrArg IntakeSt.hops (ev_intake _ _ _))]

theorem barrierTimeout_expired {h : Fin 32} {s : State} (hb : s.isBarrier h = true) (hp : s.p16 h 2 ≠ 0)
    (ht : s.p16 h 2 ≤ s.since (s.hop h).taken) :
    exec (.barrierTimeout h) s = .next ((s.behind h).foldl (fun t x => t.refuse x 3 (s.seqNo h) []) (s.barrierGone h)).settle :=
  congrArg Host.Outcome.next (if_pos (by simp [hb, hp, ht]))

/-- At its time-out a barrier ends TIMEOUT, and every command that waits behind it is cancelled (R174). -/
theorem barrierTimeout_ends {h : Fin 32} {s : State} (hb : s.isBarrier h = true) (hp : s.p16 h 2 ≠ 0)
    (ht : s.p16 h 2 ≤ s.since (s.hop h).taken) (hw : s.slotsWf) :
    ∃ u : State, exec (.barrierTimeout h) s = .next u.settle ∧ u.hb h 12 = 0x12 ∧
      ∀ x, x < 32 → s.stage x = .waitBarrier → s.inScope h x = true → (s.hop h).takeNo < (s.hop x).takeNo → u.hb x 12 = 3 := by
  have hgone := barrierGone_ended hw h
  refine ⟨_, barrierTimeout_expired hb hp ht, ?_, fun x hx hs hi hn => ?_⟩
  · refine (hgone.foldl_refuse (fun x hx e => ?_) (by decide) _).code
    have hlt := (mem_behind.mp hx).2.2.2
    rw [e] at hlt
    omega
  · have hne : h.val ≠ x := by
      intro e
      rw [e] at hn
      omega
    have hidle : (s.barrierGone h).stage x ≠ .started := by simp [barrierGone_stage s hne, hs]
    exact (Ended.of_foldl_refuse (mem_behind.mpr ⟨hx, hs, hi, hn⟩) hgone.wf hidle (by decide) _).code

/-! ### HOP_STATUS -/

/-- HOP_STATUS with byte 0 set clears the counts that it reports. -/
def State.countsRead (s : State) (h : Nat) : State :=
  if s.p8 h 0 = 1 then { s with intake := { s.intake with counts := Quad.all {} } } else s

theorem hopStatus_start (s : State) (h : Nat) :
    hopStatusSpec.start s h = (s.countsRead h).doneWith h ((List.range 4).flatMap (fun k => s.hopCounts k)) := by
  unfold hopStatusSpec State.countsRead
  rfl

theorem countsRead_wf {s : State} (hw : s.slotsWf) (h : Nat) : (s.countsRead h).slotsWf := by
  unfold State.countsRead
  split <;> exact hw

theorem hopStatus_starts : Starts hopStatusSpec .hopStatus (fun h b u => u.hb h 12 = 1 ∧
    (b.p8 h 0 = 1 → ∀ k : Fin 4, (u.intake.counts.get k).taken = 0 ∧ (u.intake.counts.get k).refused = 0) ∧
    (b.p8 h 0 = 0 → ∀ k : Fin 4, (u.intake.counts.get k).taken = (b.intake.counts.get k).taken)) := by
  intro h s a hw
  have hb : (s.begun hopStatusSpec h).slotsWf := begun_wf hw hopStatusSpec (fun _ _ k => k) h
  refine ⟨_, congrArg Host.Outcome.next (takeRow_accepts a), ?_⟩
  dsimp only
  rw [hopStatus_start]
  refine ⟨doneWith_code (countsRead_wf hb h) _ _, fun hp k => ?_, fun hp k => ?_⟩ <;>
    simp [State.doneWith, finish_counts, State.countsRead, hp]

/-! ### Starts of commands that waited -/

theorem startCmd_starts {c : CmdSpec} {h : Nat} {s : State} (hr : c.ready s h = none) (hs : s.safeBars h = false) (ho : c.own s h = none) :
    startCmd c h s = c.start (s.markStart c h) h := by
  simp [startCmd, hr, hs, ho]

/-- A waiting command that is the next to take a start and passes its last checks starts (R155, R156). -/
theorem startNext_starts {c : CmdSpec} {h : Nat} {s : State} (hc : s.specOf h = some c) (hn : s.nextStart = some h)
    (hw : (s.stage h).waiting = true) (hs : s.safeBars h = false) (hr : c.ready s.useStart h = none) (ho : c.own s.useStart h = none) :
    s.startNext h = (c.start (s.useStart.markStart c h) h).settle := by
  simp only [State.startNext, hc, startRow, hn, hw, beq_self_eq_true, Bool.and_self, if_true, startCmd_starts hr hs ho]

theorem waiting_idle {s : State} {h : Nat} (hw : (s.stage h).waiting = true) : s.stage h ≠ .started := by
  intro e
  rw [e] at hw
  cases hw

theorem taggedCommandStart_tooLate {h : Fin 32} {s : State} (ht : s.tagged h = true) (hl : s.laterej h = true)
    (hw : (s.stage h).waiting = true) (hd : s.dist h ≤ 1) (hn : s.intake.starts = 0) :
    exec (.taggedCommandStart h) s = .next (s.tooLate h).settle :=
  congrArg Host.Outcome.next (if_pos (by simp [ht, hl, hw, hd, hn]))

theorem taggedCommandStart_startNext {h : Fin 32} {s : State} (ht : s.tagged h = true) (hn : 0 < s.intake.starts) :
    exec (.taggedCommandStart h) s = .next (s.startNext h) :=
  congrArg Host.Outcome.next ((if_neg (by simp [Nat.ne_of_gt hn])).trans (if_pos ht))

/-- Settles O43: the rows of the hopper family, each clause by its lemma. -/
theorem hopperComplete : Obligations.HopperComplete := by
  refine ⟨barrier_starts, hopStatus_starts, fun h s hb hp ht hw => barrierTimeout_ends hb hp ht hw,
    fun h s ht hl hwait hd hn hw => ?_, fun c h s ht hn hc hnext hw hs hr ho => ?_, fun c h s hc hnext hw hs hr ho => ?_⟩
  · exact ⟨_, taggedCommandStart_tooLate ht hl hwait hd hn, (refuse_record 1 [] hw (waiting_idle hwait) (by decide)).1⟩
  · rw [taggedCommandStart_startNext ht hn, startNext_starts hc hnext hw hs hr ho]
  · exact congrArg Host.Outcome.next (startNext_starts hc hnext hw hs hr ho)

end Sys2Proof.Machine
end

section
/-! Motion, stop and position commands: what their starts leave, with and without a brake to wait for. -/

namespace Sys2Proof.Machine

/-! ### The start frame -/

theorem noteLate_start (s : State) (x n h : Nat) : ((s.noteLate x n).hop h).start = (s.hop h).start := by
  unfold State.noteLate
  extract_lets src counts
  rw [hop_of_intake (congrArg IntakeSt.hops (ev_intake _ _ _)), setHop_hop]
  split <;> rfl

/-- Counting a late start leaves the start frame. -/
theorem lateStart_start (s : State) (x h : Nat) : ((s.lateStart x).hop h).start = (s.hop h).start := by
  unfold State.lateStart
  split
  · rfl
  · dsimp only
    split
    · exact noteLate_start _ _ _ _
    · rfl

theorem lateStart_frame (s : State) (x : Nat) : (s.lateStart x).frame = s.frame := only_frame (w := allBut .frame) (by simp) (by simp)

theorem lateStart_motion (s : State) (x : Nat) : (s.lateStart x).motion = s.motion := only_motion (w := allBut .motion) (by simp) (by simp)

/-- A command without a start frame is not late yet (R358). -/
theorem lateStart_unstarted {s : State} {h : Nat} (hs : (s.hop h).start = none) : s.lateStart h = s := by
  simp [State.lateStart, hs]

/-- An engine command names the next boundary as its start frame (R147). -/
theorem markStart_engine {s : State} {c : CmdSpec} {h : Nat} (he : c.engine = true) (hl : h < (s.markStart c h).intake.hops.length) :
    ((s.markStart c h).hop h).start = some ((s.markStart c h).frame.counter + 1) := by
  unfold State.markStart at hl ⊢
  extract_lets s1 f s2 at hl
  have hf : f = s1.frame.counter + 1 := if_pos he
  have hs (k : h < s2.intake.hops.length) : (s2.hop h).start = some (s2.frame.counter + 1) := by
    have k' : h < (s1.setStage h .started).intake.hops.length := by simpa [s2, updAt_length] using k
    have e : s2.hop h = { (s1.setStage h .started).hop h with start := some f, late := false } := (setHop_hop _ _ _ _).trans (if_pos ⟨rfl, k'⟩)
    rw [e, hf]
    rfl
  split at hl
  · next hc => rw [if_pos hc, hs hl]
  · next hc => rw [if_neg hc, lateStart_start, lateStart_frame, hs ((lateStart_leaves s2 h).2.2 ▸ hl)]

/-- An accepted engine command has started, from the next boundary on (R147, R155). -/
theorem begun_engine {s : State} {c : CmdSpec} {h : Fin 32} (he : c.engine = true) (hl : (s.begun c h).intake.hops.length = 32) :
    (s.begun c h).stage h = .started ∧ ((s.begun c h).hop h).start = some ((s.begun c h).frame.counter + 1) :=
  ⟨markStart_stage (h.isLt.trans_eq hl.symm), markStart_engine he (h.isLt.trans_eq hl.symm)⟩

/-! ### The brake of the axis -/

/-- The command of `h` waits for brake `k`, which `f` sets: its start frame is open until the release (R358). -/
def State.awaits (s : State) (k : Fin 4) (f : BrakeSt → BrakeSt) (h : Nat) : State :=
  (s.updBrake k f).setHop h (fun y => { y with start := none })

theorem awaits_start (s : State) (k : Fin 4) (f : BrakeSt → BrakeSt) (h : Nat) : ((s.awaits k f h).hop h).start = none := by
  rw [State.awaits, setHop_hop]
  split
  · rfl
  · next hc => rw [hop_absent fun hl => hc ⟨rfl, hl⟩]

theorem awaits_brake (s : State) (k : Fin 4) (f : BrakeSt → BrakeSt) (h : Nat) :
    (s.awaits k f h).mon.brakes.get k = f (s.mon.brakes.get k) := Quad.get_upd_self _ _ _

section
variable {s : State} {h : Nat} {k : Fin 4}

theorem startMotion_unbraked (hk : s.brakeOf (s.axisOf h) = none) : startMotion s h = s.lateStart h := by
  simp only [startMotion, State.brakeWait, hk]

theorem startMotion_locked (hk : s.brakeOf (s.axisOf h) = some k) (hl : (s.mon.brakes.get k).locked = true) :
    startMotion s h = s.lateStart h := by
  simp [startMotion, State.brakeWait, hk, hl]

theorem startMotion_released (hk : s.brakeOf (s.axisOf h) = some k) (hl : (s.mon.brakes.get k).locked = false)
    (ho : (s.mon.brakes.get k).on = true) (hw : (s.mon.brakes.get k).waiter = none) : startMotion s h = s.lateStart h := by
  simp [startMotion, State.brakeWait, hk, hl, ho, hw]

/-- A later command takes over the wait for a brake that is releasing. -/
theorem startMotion_takesWait (hk : s.brakeOf (s.axisOf h) = some k) (hl : (s.mon.brakes.get k).locked = false)
    (ho : (s.mon.brakes.get k).on = true) (hw : (s.mon.brakes.get k).waiter ≠ none) :
    startMotion s h = s.awaits k (fun y => { y with waiter := some h }) h := by
  rw [← lateStart_unstarted (awaits_start s k (fun y => { y with waiter := some h }) h)]
  simp [startMotion, State.brakeWait, State.awaits, hk, hl, ho, Option.isSome_iff_ne_none.mpr hw]

/-- The brake turns on at the next boundary, and the command waits for it (R358). -/
theorem startMotion_turnsOn (hk : s.brakeOf (s.axisOf h) = some k) (hl : (s.mon.brakes.get k).locked = false)
    (ho : (s.mon.brakes.get k).on = false) :
    startMotion s h = s.awaits k
      (fun y => { y with on := true, economy := false, onAt := s.frame.counter + 1, waiter := some h, low := 0 }) h := by
  rw [← lateStart_unstarted (awaits_start s k
    (fun y => { y with on := true, economy := false, onAt := s.frame.counter + 1, waiter := some h, low := 0 }) h)]
  simp [startMotion, State.brakeWait, State.awaits, hk, hl, ho]

end

theorem startMotion_only (s : State) (h : Nat) : State.only [.mon, .intake, .fab, .faults] s (startMotion s h) :=
  startMotion_blank (by simp) (by simp) (by simp) (by simp) s h

/-- What the start of an engine command leaves (R147, R155, R358). -/
def MotionBegun (h : Fin 32) (b u : State) : Prop :=
  State.only [.mon, .intake, .fab, .faults] b u ∧
    (b.intake.hops.length = 32 → b.stage h = .started ∧ (b.hop h).start = some (b.frame.counter + 1)) ∧
    (b.brakeOf (b.axisOf h) = none → u = b.lateStart h) ∧
    ∀ k, b.brakeOf (b.axisOf h) = some k →
      ((b.mon.brakes.get k).locked = true → u = b.lateStart h) ∧
      ((b.mon.brakes.get k).locked = false → (b.mon.brakes.get k).on = true → (b.mon.brakes.get k).waiter = none → u = b.lateStart h) ∧
      ((b.mon.brakes.get k).locked = false → (b.mon.brakes.get k).on = true → (b.mon.brakes.get k).waiter ≠ none →
        (u.mon.brakes.get k).waiter = some h.val ∧ (u.mon.brakes.get k).onAt = (b.mon.brakes.get k).onAt ∧
        (b.intake.hops.length = 32 → (u.hop h).start = none)) ∧
      ((b.mon.brakes.get k).locked = false → (b.mon.brakes.get k).on = false →
        (u.mon.brakes.get k).on = true ∧ (u.mon.brakes.get k).waiter = some h.val ∧
        (u.mon.brakes.get k).onAt = b.frame.counter + 1 ∧ (b.intake.hops.length = 32 → (u.hop h).start = none))

/-- A command whose start is that of an engine command. -/
theorem motion_starts {c : CmdSpec} {i : Fin 32 → Sys2Proof.Instr} (hi : ∀ h s, exec (i h) s = .next (takeRow c h s)) (he : c.engine = true)
    (hs : c.start = startMotion) : Starts c i MotionBegun := by
  intro h s a _
  refine ⟨_, (hi h s).trans (congrArg Host.Outcome.next (takeRow_accepts a)), ?_⟩
  rw [hs]
  refine ⟨startMotion_only _ h, begun_engine he, startMotion_unbraked, fun k hk =>
    ⟨startMotion_locked hk, startMotion_released hk, fun hl ho hw => ?_, fun hl ho => ?_⟩⟩
  · rw [startMotion_takesWait hk hl ho hw, awaits_brake]
    exact ⟨rfl, rfl, fun _ => awaits_start _ _ _ _⟩
  · rw [startMotion_turnsOn hk hl ho, awaits_brake]
    exact ⟨rfl, rfl, rfl, fun _ => awaits_start _ _ _ _⟩

/-! ### STOP and HALT -/

theorem cancelWrites_wf {s : State} (hw : s.slotsWf) (mask seq : Nat) : (s.cancelWrites mask seq).slotsWf := by
  unfold State.cancelWrites
  refine foldl_wf _ (fun t x ht => finish_wf (slotsWf_of_slots ?_ ht) _ _ _ _) _ _ (slotsWf_of_slots rfl hw)
  exact congrArg IntakeSt.slots (only_intake (w := allBut .intake) (by simp) (by simp))

theorem cancelWrites_motion (s : State) (mask seq : Nat) : (s.cancelWrites mask seq).motion = s.motion :=
  only_motion (w := allBut .motion) (by simp) (by simp)

theorem finish_motion (s : State) (h code detail : Nat) (res : List Byte) : (s.finish h code detail res).motion = s.motion :=
  only_motion (w := allBut .motion) (by simp) (by simp)

theorem doneWith_motion (s : State) (h : Nat) (res : List Byte) : (s.doneWith h res).motion = s.motion := finish_motion _ _ _ _ _

/-- A stop completes in the frame in which it starts, and the writes of its axis that await the verdicts with it (R164, R319). -/
def State.stopEnds (s : State) (h : Nat) (n : Fin 4) : State :=
  let t := s.cancelWrites (axBit n) (s.seqNo h)
  ((t.setHop h (fun x => { x with start := some t.frame.counter })).lateStart h).doneWith h (leS32 (t.motion.get n).p)

theorem stopEnds_code {s : State} (hw : s.slotsWf) (h : Nat) (n : Fin 4) : (s.stopEnds h n).hb h 12 = 1 := by
  rw [State.stopEnds, doneWith_code (lateStart_wf (setHop_wf (cancelWrites_wf hw _ _) _ _) _)]

theorem stopEnds_motion (s : State) (h : Nat) (n : Fin 4) : (s.stopEnds h n).motion = s.motion := by
  rw [State.stopEnds, doneWith_motion, lateStart_motion, setHop_motion, cancelWrites_motion]

/-- The axis is HALTED without a ramp. -/
def State.haltedNow (s : State) (n : Fin 4) : State := s.updMotion n (fun m => { m.toIdle with state := .halted })

theorem haltedNow_wf {s : State} (hw : s.slotsWf) (n : Fin 4) : (s.haltedNow n).slotsWf := hw

theorem haltedNow_state (s : State) (n : Fin 4) : ((s.haltedNow n).motion.get n).state = .halted := by
  rw [State.haltedNow, updMotion_motion, Quad.get_upd_self]

theorem haltedNow_other (s : State) {n m : Fin 4} (hm : m ≠ n) : (s.haltedNow n).motion.get m = s.motion.get m := by
  rw [State.haltedNow, updMotion_motion, Quad.get_upd, if_neg hm]

section
variable {s : State} {h : Nat}

theorem startStop_ramps (ha : s.axen (s.axisOf h) = true) (hs : s.faults.safe.get (s.axisOf h) < 3) : startStop s h = s.lateStart h := by
  simp [startStop, State.stopAtOnce, ha, Nat.not_le.mpr hs]

/-- In QUIET or CLAMP a stop is over at once (R591). -/
theorem startStop_safe (ha : s.axen (s.axisOf h) = true) (hs : 3 ≤ s.faults.safe.get (s.axisOf h)) :
    startStop s h = s.stopEnds h (s.axisOf h) := by
  simp [startStop, State.stopAtOnce, State.stopEnds, ha, hs]

/-- With AXENn low STOP is over at once (R319). -/
theorem startStop_low (ha : s.axen (s.axisOf h) = false) (ho : s.opcode h = 0x0106) : startStop s h = s.stopEnds h (s.axisOf h) := by
  simp [startStop, State.stopAtOnce, State.stopEnds, ha, ho]

/-- With AXENn low HALT is over at once, in HALTED (R319). -/
theorem startStop_lowHalt (ha : s.axen (s.axisOf h) = false) (ho : s.opcode h = 0x0107) :
    startStop s h = (s.haltedNow (s.axisOf h)).stopEnds h (s.axisOf h) := by
  simp [startStop, State.stopAtOnce, State.stopEnds, State.haltedNow, ha, ho]

end

theorem stop_begins {h : Fin 32} {s : State} (a : s.accepts stopSpec h = true) :
    exec (.stop h) s = .next (startStop (s.begun stopSpec h) h).settle :=
  congrArg Host.Outcome.next (takeRow_accepts a)

theorem stop_starts : Starts stopSpec .stop (fun h b u =>
    (b.intake.hops.length = 32 → b.stage h = .started ∧ (b.hop h).start = some (b.frame.counter + 1)) ∧
    (b.axen (b.axisOf h) = true → b.faults.safe.get (b.axisOf h) < 3 → u = b.lateStart h) ∧
    (b.axen (b.axisOf h) = false → b.opcode h = 0x0106 → u.hb h 12 = 1 ∧ u.motion = b.motion)) := by
  intro h s a hw
  have hb : (s.begun stopSpec h).slotsWf := begun_wf hw stopSpec (fun _ _ k => k) h
  refine ⟨_, stop_begins a, begun_engine rfl, startStop_ramps, fun ha ho => ?_⟩
  rw [startStop_low ha ho]
  exact ⟨stopEnds_code hb _ _, stopEnds_motion _ _ _⟩

theorem stop_safe : Starts stopSpec .stop (fun h b u =>
    b.axen (b.axisOf h) = true → 3 ≤ b.faults.safe.get (b.axisOf h) → u.hb h 12 = 1 ∧ u.motion = b.motion) := by
  intro h s a hw
  have hb : (s.begun stopSpec h).slotsWf := begun_wf hw stopSpec (fun _ _ k => k) h
  refine ⟨_, stop_begins a, fun ha hs => ?_⟩
  rw [startStop_safe ha hs]
  exact ⟨stopEnds_code hb _ _, stopEnds_motion _ _ _⟩

theorem halt_starts : Starts haltSpec .halt (fun h b u =>
    (b.intake.hops.length = 32 → b.stage h = .started ∧ (b.hop h).start = some (b.frame.counter + 1)) ∧
    (b.axen (b.axisOf h) = true → b.faults.safe.get (b.axisOf h) < 3 → u = b.lateStart h) ∧
    (b.axen (b.axisOf h) = false → b.opcode h = 0x0107 → u.hb h 12 = 1 ∧ (u.motion.get (b.axisOf h)).state = .halted ∧
      ∀ m, m ≠ b.axisOf h → u.motion.get m = b.motion.get m)) := by
  intro h s a hw
  have hb : (s.begun haltSpec h).slotsWf := begun_wf hw haltSpec (fun _ _ k => k) h
  have he : exec (.halt h) s = .next (startStop (s.begun haltSpec h) h).settle := congrArg Host.Outcome.next (takeRow_accepts a)
  refine ⟨_, he, begun_engine rfl, startStop_ramps, fun ha ho => ?_⟩
  rw [startStop_lowHalt ha ho, stopEnds_motion]
  exact ⟨stopEnds_code (haltedNow_wf hb _) _ _, haltedNow_state _ _, fun m hm => haltedNow_other _ hm⟩

/-! ### SET_POSITION and AXIS_STATUS -/

/-- The position that SET_POSITION gives the axis at the next boundary (R234). -/
def State.positionNoted (s : State) (h : Nat) : State :=
  s.updMotion (s.axisOf h) (fun m => { m with setTo := some (s.pS32 h 0, bit (s.p8 h 4) 0) })

/-- The position that SET_POSITION answers: the one that an earlier one of the frame has noted, or the present one. -/
def State.positionWas (s : State) (h : Nat) : Int :=
  (s.motion.get (s.axisOf h)).setTo.elim (s.motion.get (s.axisOf h)).p Prod.fst

theorem setPosition_start (s : State) (h : Nat) :
    setPositionSpec.start s h = (s.positionNoted h).doneWith h (leS32 (s.positionWas h)) := by
  dsimp only [setPositionSpec, State.positionNoted, State.positionWas]
  cases (s.motion.get (s.axisOf h)).setTo <;> rfl

theorem positionNoted_wf {s : State} (hw : s.slotsWf) (h : Nat) : (s.positionNoted h).slotsWf := hw

theorem setPosition_starts : Starts setPositionSpec .setPosition (fun h b u => u.hb h 12 = 1 ∧
    ((b.motion.get (b.axisOf h)).setTo = none → u = (b.updMotion (b.axisOf h) (fun m =>
      { m with setTo := some (b.pS32 h 0, bit (b.p8 h 4) 0) })).doneWith h (leS32 (b.motion.get (b.axisOf h)).p)) ∧
    (u.motion.get (b.axisOf h)) = { b.motion.get (b.axisOf h) with setTo := some (b.pS32 h 0, bit (b.p8 h 4) 0) } ∧
    ∀ m, m ≠ b.axisOf h → u.motion.get m = b.motion.get m) := by
  intro h s a hw
  have hb : (s.begun setPositionSpec h).slotsWf := begun_wf hw setPositionSpec (fun _ _ k => k) h
  refine ⟨_, congrArg Host.Outcome.next (takeRow_accepts a), ?_⟩
  rw [setPosition_start]
  generalize s.begun setPositionSpec h = b at hb ⊢
  refine ⟨doneWith_code (positionNoted_wf hb h) _ _, fun hs => ?_, ?_, fun m hm => ?_⟩
  · simp only [State.positionWas, hs, State.positionNoted, Option.elim_none]
  · rw [doneWith_motion, State.positionNoted, updMotion_motion, Quad.get_upd_self]
  · rw [doneWith_motion, State.positionNoted, updMotion_motion, Quad.get_upd, if_neg hm]

theorem axisStatus_start (s : State) (h : Nat) : axisStatusSpec.start s h = s.doneWith h (s.axisStatus (s.axisOf h)) := rfl

theorem axisStatus_starts : Starts axisStatusSpec .axisStatus (fun h b u => u.hb h 12 = 1 ∧ u.motion = b.motion) := by
  intro h s a hw
  have hb : (s.begun axisStatusSpec h).slotsWf := begun_wf hw axisStatusSpec (fun _ _ k => k) h
  refine ⟨_, congrArg Host.Outcome.next (takeRow_accepts a), ?_⟩
  rw [axisStatus_start]
  exact ⟨doneWith_code hb _ _, doneWith_motion _ _ _⟩

/-- Settles O12: the engine commands by the brake of their axis, then the stops and the position commands, each by its lemma. -/
theorem motionStarts : Obligations.MotionStarts := by
  refine ⟨fun p hp => ?_, stop_starts, stop_safe, halt_starts, setPosition_starts, axisStatus_starts⟩
  simp only [List.mem_cons, List.not_mem_nil, or_false] at hp
  obtain rfl | rfl | rfl | rfl | rfl | rfl := hp <;> exact motion_starts (fun _ _ => rfl) rfl rfl

end Sys2Proof.Machine
end

section
/-! Parameters, units and verdicts: what a write that awaits the verdicts leaves, what the verdicts end, and what the units' commands request. -/

namespace Sys2Proof.Machine

/-! ### Accepted commands and completions -/

/-- What the effect of a command leaves of every state with canonical slots, its start leaves of the state that the command began on. -/
theorem starts_of_start {c : CmdSpec} {i : Fin 32 → Sys2Proof.Instr} {P : Fin 32 → State → State → Prop}
    (hi : ∀ h s, exec (i h) s = .next (takeRow c h s)) (ht : ∀ t x, t.slotsWf → (c.taken t x).slotsWf)
    (hp : ∀ (h : Fin 32) (b : State), b.slotsWf → P h b (c.start b h)) : Starts c i P :=
  fun h s a hw => ⟨_, (hi h s).trans (congrArg Host.Outcome.next (takeRow_accepts a)), hp h _ (begun_wf hw c ht h)⟩

theorem finish_params (s : State) (h code detail : Nat) (res : List Byte) : (s.finish h code detail res).params = s.params :=
  only_params (w := allBut .params) (by simp) (by simp)

theorem doneWith_params (s : State) (h : Nat) (res : List Byte) : (s.doneWith h res).params = s.params := finish_params _ _ _ _ _

theorem doneWith_power (s : State) (h : Nat) (res : List Byte) : (s.doneWith h res).power = s.power :=
  only_power (w := allBut .power) (by simp) (by simp)

theorem evProtected_params (s : State) (q : Nat) : (s.evProtected q).params = s.params :=
  only_params (w := allBut .params) (by simp) (by simp)

theorem evProtected_intake (s : State) (q : Nat) : (s.evProtected q).intake = s.intake := evIf_intake _ _ _ _

theorem evProtected_wf {s : State} (hw : s.slotsWf) (q : Nat) : (s.evProtected q).slotsWf :=
  slotsWf_of_slots (congrArg IntakeSt.slots (evProtected_intake s q)) hw

theorem queueRunning_intake (s : State) (ids : List Nat) : (s.queueRunning ids).intake = s.intake :=
  only_intake (w := allBut .intake) (by simp) (by simp)

/-! ### Writes that await the verdicts -/

theorem awaitVerdict_params (s : State) (h code detail : Nat) (data : List Byte) (ev : Nat) (ids : List Nat) :
    (s.awaitVerdict h code detail data ev ids).params = s.params := rfl

theorem awaitVerdict_verdict (s : State) (h code detail : Nat) (data : List Byte) (ev : Nat) (ids : List Nat) :
    (s.awaitVerdict h code detail data ev ids).intake.verdict = s.intake.verdict := rfl

theorem awaitVerdict_last (s : State) (h code detail : Nat) (data : List Byte) (ev : Nat) (ids : List Nat) :
    (s.awaitVerdict h code detail data ev ids).intake.onVerdict.getLast?.map (fun x => x.hop) = some h := by
  simp only [State.awaitVerdict, List.getLast?_concat, Option.map_some]

/-- The pins of axes that go to pin mode with the working set `w`. -/
def State.modesPinned (s : State) (w : List (Nat × Nat)) : State := forAxes s (fun n t => t.modePins w n)

theorem modesPinned_params (s : State) (w : List (Nat × Nat)) : (s.modesPinned w).params = s.params :=
  only_params (w := allBut .params) (by simp [State.modesPinned]) (by simp)

theorem modesPinned_frame (s : State) (w : List (Nat × Nat)) : (s.modesPinned w).frame = s.frame :=
  only_frame (w := allBut .frame) (by simp [State.modesPinned]) (by simp)

theorem writeWorking_params (s : State) (w : List (Nat × Nat)) : (s.writeWorking w).params = { s.params with working := w } := by
  rw [← modesPinned_params s w]
  rfl

theorem verdictFrames_of_params {s t : State} (e : t.params = s.params) : t.verdictFrames = s.verdictFrames := by
  simp only [State.verdictFrames, State.par, e]

/-- A change of the working set sets the frame by which the verdicts are complete (R185). -/
theorem writeWorking_verdict (s : State) (w : List (Nat × Nat)) :
    (s.writeWorking w).intake.verdict = some (s.frame.counter + BitVec.ofNat 32 s.verdictFrames) := by
  rw [← modesPinned_frame s w, ← verdictFrames_of_params (modesPinned_params s w)]
  rfl

/-! ### SET_PARAM -/

section
variable {s : State} {h : Nat}

/-- A write that a finding refuses waits for the verdicts with its reply, and writes nothing (R182, R200). -/
theorem setParam_refused (hf : s.setBarred h ++ s.writeFindings (s.setWorking h) ≠ []) :
    ∃ code detail data, setParamSpec.start s h = s.awaitVerdict h code detail data 0xFFFF [] := by
  dsimp only [setParamSpec]
  split
  · exact ⟨_, _, _, rfl⟩
  · next e => exact absurd e hf

theorem setParam_checked (hf : s.setBarred h ++ s.writeFindings (s.setWorking h) = []) (hc : bit (s.p8 h 1) 0 = true) :
    setParamSpec.start s h = s.awaitVerdict h 1 0 (b8 (s.setCount h)) 0xFFFF [] := by
  simp only [setParamSpec, hf, hc, if_true]

theorem setParam_written (hf : s.setBarred h ++ s.writeFindings (s.setWorking h) = []) (hc : bit (s.p8 h 1) 0 = false) :
    ∃ data ev ids, setParamSpec.start s h = (s.writeWorking (s.setWorking h)).awaitVerdict h 1 0 data ev ids := by
  simp only [setParamSpec, hf, hc, Bool.false_eq_true, if_false]
  exact ⟨_, _, _, rfl⟩

/-- A write that a finding refuses, or that is only checked, changes no value (R200, R201). -/
theorem setParam_unwritten
    (hf : s.setBarred h ++ s.writeFindings (s.setWorking h) ≠ [] ∨ bit (s.p8 h 1) 0 = true) :
    ∃ code detail data, setParamSpec.start s h = s.awaitVerdict h code detail data 0xFFFF [] := by
  by_cases e : s.setBarred h ++ s.writeFindings (s.setWorking h) = []
  · exact ⟨_, _, _, setParam_checked e (hf.resolve_left (absurd e))⟩
  · exact setParam_refused e

theorem setParam_waits : (setParamSpec.start s h).intake.onVerdict.getLast?.map (fun x => x.hop) = some h := by
  by_cases e : s.setBarred h ++ s.writeFindings (s.setWorking h) ≠ [] ∨ bit (s.p8 h 1) 0 = true
  · obtain ⟨_, _, _, hs⟩ := setParam_unwritten e
    rw [hs, awaitVerdict_last]
  · obtain ⟨hf, hc⟩ := not_or.mp e
    obtain ⟨_, _, _, hs⟩ := setParam_written (not_not.mp hf) (Bool.eq_false_of_not_eq_true hc)
    rw [hs, awaitVerdict_last]

end

theorem setParam_starts : Starts setParamSpec .setParam (fun h b u =>
    u.intake.onVerdict.getLast?.map (fun x => x.hop) = some h.val ∧
    (b.setBarred h = [] → b.writeFindings (b.setWorking h) = [] → bit (b.p8 h 1) 0 = false →
      u.params = { b.params with working := b.setWorking h } ∧
      u.intake.verdict = some (b.frame.counter + BitVec.ofNat 32 b.verdictFrames)) ∧
    ((b.setBarred h ≠ [] ∨ b.writeFindings (b.setWorking h) ≠ [] ∨ bit (b.p8 h 1) 0 = true) → u.params = b.params)) := by
  refine starts_of_start (fun _ _ => rfl) (fun _ _ k => k) fun h b _ => ⟨setParam_waits, fun hb hf hc => ?_, fun hr => ?_⟩
  · obtain ⟨_, _, _, hs⟩ := setParam_written (List.append_eq_nil_iff.mpr ⟨hb, hf⟩) hc
    rw [hs, awaitVerdict_params, awaitVerdict_verdict]
    exact ⟨writeWorking_params _ _, writeWorking_verdict _ _⟩
  · rw [← or_assoc, ← not_and_or, ← List.append_eq_nil_iff] at hr
    obtain ⟨_, _, _, hs⟩ := setParam_unwritten hr
    rw [hs, awaitVerdict_params]

/-! ### GET_PARAM and SURVEY_RUN -/

theorem getParam_starts : Starts getParamSpec .getParam (fun h b u => u.hb h 12 = 1 ∧ u.params = b.params) :=
  starts_of_start (fun _ _ => rfl) (fun _ _ k => k) fun _ _ hw => ⟨doneWith_code hw _ _, doneWith_params _ _ _⟩

theorem keepReport_wf {s : State} (hw : s.slotsWf) (h : Nat) (c : Cfg) : (s.keepReport h c).slotsWf := setHop_wf hw h _

theorem surveyRun_starts : Starts surveyRunSpec .surveyRun (fun h b u => u.hb h 12 = 1 ∧ u.params = b.params ∧ u.power = b.power) :=
  starts_of_start (fun _ _ => rfl) (fun _ _ k => keepReport_wf k _ _) fun _ _ hw =>
    ⟨doneWith_code hw _ _, doneWith_params _ _ _, doneWith_power _ _ _⟩

/-! ### ENABLE_UNIT and DISABLE_UNIT -/

/-- A request of another domain leaves PLAN. -/
theorem domRequest_plan (s : State) {d : Domain} (hd : d ≠ .plan) (on : Bool) : (s.domRequest d on).dom .plan = s.dom .plan := by
  have hs (f : DomSt → DomSt) : (s.setDom d f).dom .plan = s.dom .plan := by
    cases d
    case plan => exact absurd rfl hd
    all_goals rfl
  unfold State.domRequest
  split
  · split <;> exact hs _
  · split <;> exact hs _
  · split
    · rfl
    · exact hs _
  · exact hs _

/-- An on request of a domain that is down is latched for the next boundary (R88). -/
theorem domRequest_down {s : State} {d : Domain} (hd : (s.dom d).stage = .down) :
    ((s.domRequest d true).dom d).latched = some true := by
  simp [State.domRequest, hd]

/-- The on requests of the domains of `l` that hold a unit of the mask. -/
def State.requestOf (s : State) (mask : Nat) (l : List Domain) : State :=
  l.foldl (fun t d => if Nat.land mask (domainUnits d) != 0 then t.domRequest d true else t) s

theorem requestOf_plan (s : State) (mask : Nat) {l : List Domain} (hl : .plan ∉ l) : (s.requestOf mask l).dom .plan = s.dom .plan := by
  refine List.foldlRecOn (motive := fun t : State => t.dom .plan = s.dom .plan) _ _ rfl (fun t ht d hd => ?_)
  split
  · exact (domRequest_plan t (fun e => hl (e ▸ hd)) true).trans ht
  · exact ht

/-- The requests of units reach PLAN with bit 9 of their mask (Table PAR-2). -/
theorem requestUnits_plan {s : State} {mask : Nat} (hm : Nat.land mask 0x200 ≠ 0) (hd : s.power.plan.stage = .down) :
    (s.requestUnits mask true).power.plan.latched = some true := by
  have hs : s.requestUnits mask true = (s.requestOf mask [.fbk, .net, .twin]).domRequest .plan true := if_pos (bne_iff_ne.mpr hm)
  rw [hs]
  refine domRequest_down (d := .plan) ?_
  rw [requestOf_plan s mask (by decide)]
  exact hd

/-- The units of `m` that are not enabled are asked for, and none of them leaves (R177). -/
def State.unitsAsked (s : State) (m : Nat) : State :=
  { s with params := { s.params with
      asked := s.params.asked ||| BitVec.ofNat 10 (Nat.land m (1023 - s.params.units.toNat))
      leaving := s.params.leaving &&& ~~~ BitVec.ofNat 10 m } }

theorem enableUnit_start (s : State) (h : Nat) :
    enableUnitSpec.start s h = (s.unitsAsked (s.p16 h 0)).requestUnits (s.p16 h 0) true := rfl

theorem requestUnits_params (s : State) (mask : Nat) (on : Bool) : (s.requestUnits mask on).params = s.params :=
  only_params (w := allBut .params) (by simp) (by simp)

theorem enableUnit_starts : Starts enableUnitSpec .enableUnit (fun h b u => u.params.units = b.params.units ∧
    u.params.asked = b.params.asked ||| BitVec.ofNat 10 (Nat.land (b.p16 h 0) (1023 - b.params.units.toNat)) ∧
    u.params.leaving = b.params.leaving &&& ~~~ BitVec.ofNat 10 (b.p16 h 0) ∧
    (Nat.land (b.p16 h 0) 0x200 ≠ 0 → b.power.plan.stage = .down → u.power.plan.latched = some true)) := by
  refine starts_of_start (fun _ _ => rfl) (fun _ _ k => copyEnabled_wf (keepReport_wf k _ _) _ _) fun h b _ => ?_
  rw [enableUnit_start, requestUnits_params]
  exact ⟨rfl, rfl, rfl, requestUnits_plan (s := b.unitsAsked _)⟩

theorem disableUnit_starts : Starts disableUnitSpec .disableUnit (fun h b u =>
    u = { b with params := { b.params with asked := b.params.asked &&& ~~~ BitVec.ofNat 10 (b.p16 h 0)
                                           leaving := b.params.leaving ||| (BitVec.ofNat 10 (b.p16 h 0) &&& b.params.units) } }) :=
  starts_of_start (fun _ _ => rfl) (fun _ _ k => k) fun _ _ _ => rfl

/-! ### The verdicts -/

/-- No recomputation runs and no write waits for one. -/
def State.verdictsIn (s : State) : State := { s with intake := { s.intake with verdict := none, onVerdict := [] } }

/-- A write that waited for the verdicts completes, unless something ended it before (R179, R200). -/
def State.writeEnds (s : State) (x : VerdictWait) : State :=
  if s.stage x.hop == .started then ((s.queueRunning x.ids).evProtected x.ev).finish x.hop x.code x.detail x.data else s

theorem verdictRecomputed_eq {s : State} (hv : s.intake.verdict.isSome = true ∨ s.intake.onVerdict ≠ []) :
    exec .verdictRecomputed s = .next (s.intake.onVerdict.foldl State.writeEnds s.verdictsIn).settle := by
  have hc : ¬ ((s.intake.verdict.isNone && s.intake.onVerdict.isEmpty) = true) := by
    rw [Bool.and_eq_true, Option.isNone_iff_eq_none, List.isEmpty_iff]
    rintro ⟨h1, h2⟩
    exact hv.elim (by simp [h1]) (absurd h2)
  exact congrArg Host.Outcome.next (if_neg hc)

/-- A completion leaves the verdicts and the writes that await them. -/
theorem finish_verdicts (s : State) (h code detail : Nat) (res : List Byte) :
    (s.finish h code detail res).intake.verdict = s.intake.verdict ∧
      (s.finish h code detail res).intake.onVerdict = s.intake.onVerdict := by
  have hb : (s.endBulk h).intake = s.intake := by unfold State.endBulk; split <;> rfl
  have hr (t : State) (r : List Byte) : (t.putResult h r).intake.verdict = t.intake.verdict ∧
      (t.putResult h r).intake.onVerdict = t.intake.onVerdict := by unfold State.putResult; split <;> exact ⟨rfl, rfl⟩
  have hc (t : State) : (t.countBusy h code).intake.verdict = t.intake.verdict ∧
      (t.countBusy h code).intake.onVerdict = t.intake.onVerdict := by unfold State.countBusy; split <;> exact ⟨rfl, rfl⟩
  have hg (t : State) : (t.giveBack h).intake.verdict = t.intake.verdict ∧ (t.giveBack h).intake.onVerdict = t.intake.onVerdict := by
    obtain ⟨f, -, e⟩ := giveBack_intake t h
    rw [e]
    exact ⟨rfl, rfl⟩
  unfold State.finish
  simp only [hg, hc, putSlot_intake, hr, hb, and_self]

theorem writeEnds_verdicts (s : State) (x : VerdictWait) :
    (s.writeEnds x).intake.verdict = s.intake.verdict ∧ (s.writeEnds x).intake.onVerdict = s.intake.onVerdict := by
  unfold State.writeEnds
  split
  · simp only [finish_verdicts, evProtected_intake, queueRunning_intake, and_self]
  · exact ⟨rfl, rfl⟩

theorem writeEnds_code {s : State} {x : VerdictWait} (hw : s.slotsWf) (hs : s.stage x.hop = .started) (hc : x.code < 256) :
    (s.writeEnds x).hb x.hop 12 = x.code := by
  have hq : (s.queueRunning x.ids).slotsWf := slotsWf_of_slots (congrArg IntakeSt.slots (queueRunning_intake s x.ids)) hw
  rw [State.writeEnds, if_pos (beq_iff_eq.mpr hs), finish_code _ _ _ _ _ hc (evProtected_wf hq _)]

theorem verdictRecomputed_clears {s : State} (hv : s.intake.verdict.isSome = true ∨ s.intake.onVerdict ≠ []) :
    ∃ u : State, exec .verdictRecomputed s = .next u.settle ∧ u.intake.verdict = none ∧ u.intake.onVerdict = [] := by
  refine ⟨_, verdictRecomputed_eq hv, List.foldlRecOn
    (motive := fun t : State => t.intake.verdict = none ∧ t.intake.onVerdict = []) _ _ ⟨rfl, rfl⟩ fun t ht x _ => ?_⟩
  obtain ⟨h1, h2⟩ := writeEnds_verdicts t x
  exact ⟨h1.trans ht.1, h2.trans ht.2⟩

theorem verdictRecomputed_completes {x : VerdictWait} {s : State} (hx : s.intake.onVerdict = [x]) (hs : s.stage x.hop = .started)
    (hc : x.code < 256) (hw : cellWf s.intake.slots = true) :
    ∃ u : State, exec .verdictRecomputed s = .next u.settle ∧ u.hb x.hop 12 = x.code := by
  refine ⟨_, verdictRecomputed_eq (.inr (by simp [hx])), ?_⟩
  rw [hx]
  exact writeEnds_code (s := s.verdictsIn) hw hs hc

/-! ### AUTO_ENABLE -/

/-- The half words of bytes that are written to a slot from its start. -/
theorem putSlot_h16 {s : State} (hw : s.slotsWf) (h : Nat) {l : List Byte} {i : Nat} (hi : i + 1 < l.length) :
    (s.putSlot (128 * h) l).h16 h i = get16 l i := by
  have hr := (cellWrite_reads hw (128 * h) l).1
  simp only [State.h16, State.hb, putSlot_slots, hr i (by omega), hr (i + 1) hi, get16, getB]

/-- The bytes of ENABLE_UNIT for the units of dev.cfg.autoen, with the sequence number `q` (R197). -/
def State.autoCommand (s : State) (q : BitVec 16) : List Byte :=
  le16 4 ++ le16 q.toNat ++ [0, 0, 4, 0] ++ le32 0 ++ le32 0 ++ le16 (s.par 0x0080) ++ [0, 0]

theorem autoCommand_opcode (s : State) (q : BitVec 16) : get16 (s.autoCommand q) 0 = 4 := rfl

theorem autoCommand_units (s : State) (q : BitVec 16) : get16 (s.autoCommand q) 16 = s.par 0x0080 % 65536 := by
  simp only [State.autoCommand, get16, getB, le16, le32, leBytes, List.cons_append, List.nil_append, List.getD_cons_succ,
    List.getD_cons_zero, BitVec.toNat_ofNat]
  omega

/-- The automatic enable is no longer due, and hopper `k` is rung for it. -/
def State.autoRung (s : State) (k : Nat) : State :=
  ({ s with intake := { s.intake with autoDue := false, intSeq := s.intake.intSeq + 1 } } : State).setHop k (fun _ => { stage := .rung })

/-- The command stands in the rung hopper, and the peak of the internal source is noted. -/
def State.autoEnabled (s : State) (k : Nat) : State :=
  ((s.autoRung k).putSlot (128 * k) (s.autoCommand (s.intake.intSeq + 1))).notePeak 3

theorem autoEnable_eq {k : Nat} {s : State} (hd : s.intake.autoDue = true)
    (hk : [28, 29, 30, 31].find? (fun h => s.stage h == .free) = some k) :
    exec .autoEnable s = .next (s.autoEnabled k) := by
  simp only [exec, execAutoEnable, hd, hk]
  rfl

theorem putSlot_hops (s : State) (a : Nat) (l : List Byte) : (s.putSlot a l).intake.hops = s.intake.hops := rfl

theorem notePeak_hops (s : State) (j : Nat) : (s.notePeak j).intake.hops = s.intake.hops := rfl

theorem notePeak_h16 (s : State) (j h i : Nat) : (s.notePeak j).h16 h i = s.h16 h i := rfl

theorem autoEnabled_stage {k : Nat} {s : State} (hk : k < s.intake.hops.length) : (s.autoEnabled k).stage k = .rung := by
  have hr : (s.autoRung k).stage k = .rung := congrArg HopSt.stage ((setHop_hop _ k k _).trans (if_pos ⟨rfl, hk⟩))
  rw [State.autoEnabled, stage_of_intake (notePeak_hops _ _), stage_of_intake (putSlot_hops _ _ _), hr]

theorem autoEnabled_h16 {s : State} (hw : s.slotsWf) (k : Nat) {i : Nat} (hi : i < 19) :
    (s.autoEnabled k).h16 k i = get16 (s.autoCommand (s.intake.intSeq + 1)) i := by
  rw [State.autoEnabled, notePeak_h16]
  exact putSlot_h16 (s := s.autoRung k) hw k (by simp [State.autoCommand, le16, le32]; omega)

theorem autoEnable_rings {k : Nat} {s : State} (hd : s.intake.autoDue = true)
    (hk : [28, 29, 30, 31].find? (fun h => s.stage h == .free) = some k) (hl : s.intake.hops.length = 32)
    (hw : cellWf s.intake.slots = true) :
    Answers .autoEnable s (fun t => t.intake.autoDue = false ∧ t.intake.intSeq = s.intake.intSeq + 1 ∧ t.stage k = .rung ∧
      t.opcode k = 0x0004 ∧ t.p16 k 0 = s.par 0x0080 % 65536) := by
  have hk32 : k < 32 := by
    have hm := List.mem_of_find?_eq_some hk
    simp only [List.mem_cons, List.not_mem_nil, or_false] at hm
    omega
  exact ⟨_, autoEnable_eq hd hk, rfl, rfl, autoEnabled_stage (hl ▸ hk32),
    (autoEnabled_h16 hw k (by decide)).trans (autoCommand_opcode s _),
    (autoEnabled_h16 hw k (by decide)).trans (autoCommand_units s _)⟩

/-- Settles O10: each clause by the lemma on its command or row. -/
theorem parameterComplete : Obligations.ParameterComplete :=
  ⟨setParam_starts, getParam_starts, surveyRun_starts, enableUnit_starts, disableUnit_starts, fun _ => verdictRecomputed_clears,
    fun _ _ => verdictRecomputed_completes, fun _ _ => autoEnable_rings⟩

end Sys2Proof.Machine
end

section
/-! CFG_IMAGE: what each of its operations leaves of the staging buffer, the working set and the two stored copies. -/

namespace Sys2Proof.Machine

theorem setParams_wf {s : State} (hw : s.slotsWf) (p : ParamSt) : ({ s with params := p } : State).slotsWf := hw

/-! ### Saves -/

theorem saveCopy_intake (s : State) (good : Bool) (label : BitVec 32) (fwMin : Nat) (vals : List (Nat × Nat)) :
    (s.saveCopy good label fwMin vals).intake = s.intake := only_intake (w := allBut .intake) (by simp) (by simp)

theorem saveCopy_working (s : State) (good : Bool) (label : BitVec 32) (fwMin : Nat) (vals : List (Nat × Nat)) :
    (s.saveCopy good label fwMin vals).params.working = s.params.working := by
  unfold State.saveCopy
  split
  · dsimp only
    split <;> rfl
  · rfl

/-- A save writes the copy that is not the newest valid one, with the next SAVES, and leaves that one (R194). -/
theorem saveCopy_newest {s : State} {isA : Bool} {c : StoreCopy} (hc : s.newestCopy = some (isA, c)) (good : Bool) (label : BitVec 32)
    (fwMin : Nat) (vals : List (Nat × Nat)) :
    ∃ n : StoreCopy, (if isA then (s.saveCopy good label fwMin vals).params.copyB else (s.saveCopy good label fwMin vals).params.copyA) = some n ∧
      (if isA then (s.saveCopy good label fwMin vals).params.copyA = s.params.copyA
        else (s.saveCopy good label fwMin vals).params.copyB = s.params.copyB) ∧
      n.valid = good ∧ n.saves = c.saves + 1 ∧ n.fwMin = fwMin ∧ n.vals = vals := by
  refine ⟨{ valid := good, saves := c.saves + 1, label := label, fwMin := fwMin, vals := vals }, ?_, ?_, rfl, rfl, rfl, rfl⟩ <;>
    simp only [State.saveCopy, hc] <;> cases isA <;> rfl

/-- With no valid copy a save writes copy A (log entry 32). -/
theorem saveCopy_first {s : State} (hc : s.newestCopy = none) (good : Bool) (label : BitVec 32) (fwMin : Nat) (vals : List (Nat × Nat)) :
    ∃ n : StoreCopy, (s.saveCopy good label fwMin vals).params.copyA = some n ∧
      (s.saveCopy good label fwMin vals).params.copyB = s.params.copyB ∧ n.valid = good ∧ n.vals = vals := by
  simp only [State.saveCopy, hc]
  exact ⟨_, rfl, rfl, rfl, rfl⟩

theorem raise_params (s : State) (code qual : Nat) (axes : BitVec 4) (cond : Bool) : (s.raise code qual axes cond).params = s.params :=
  only_params (w := allBut .params) (by simp) (by simp)

theorem raise_wf {s : State} (hw : s.slotsWf) (code qual : Nat) (axes : BitVec 4) (cond : Bool) : (s.raise code qual axes cond).slotsWf :=
  slotsWf_of_slots (congrArg IntakeSt.slots (only_intake (w := allBut .intake) (by simp) (by simp))) hw

section
variable (s : State) (h : Nat) (label : BitVec 32) (fwMin : Nat) (vals : List (Nat × Nat))

/-- The state after the write to flash of a save, before its completion (R194). -/
def State.copySaved : State := s.flashWrite.2.saveCopy s.flashWrite.1 label fwMin vals

theorem saveAs_params : (s.saveAs h label fwMin vals).params = (s.copySaved label fwMin vals).params := by
  unfold State.saveAs State.copySaved
  dsimp only
  split
  · rw [doneWith_params, evProtected_params]
  · rw [finish_params, raise_params]

theorem saveAs_working : (s.saveAs h label fwMin vals).params.working = s.params.working := by
  rw [saveAs_params, State.copySaved, saveCopy_working]
  rfl

variable {s} in
/-- A save completes DONE, or FAULT where the read-back fails (log entry 33). -/
theorem saveAs_code (hw : s.slotsWf) : (s.saveAs h label fwMin vals).hb h 12 = if s.flashWrite.1 then 1 else 6 := by
  have hc : (s.copySaved label fwMin vals).slotsWf := slotsWf_of_slots (congrArg IntakeSt.slots (saveCopy_intake _ _ _ _ _)) hw
  unfold State.copySaved at hc
  unfold State.saveAs
  dsimp only
  split
  · exact doneWith_code (evProtected_wf hc _) _ _
  · exact finish_code _ _ _ _ _ (by decide) (raise_wf hc _ _ _ _)

variable {s} in
theorem saveAs_newest {isA : Bool} {c : StoreCopy} (hc : s.newestCopy = some (isA, c)) :
    ∃ n : StoreCopy, (if isA then (s.saveAs h label fwMin vals).params.copyB else (s.saveAs h label fwMin vals).params.copyA) = some n ∧
      (if isA then (s.saveAs h label fwMin vals).params.copyA = s.params.copyA
        else (s.saveAs h label fwMin vals).params.copyB = s.params.copyB) ∧
      n.valid = s.flashWrite.1 ∧ n.saves = c.saves + 1 ∧ n.fwMin = fwMin ∧ n.vals = vals := by
  rw [saveAs_params]
  exact saveCopy_newest (s := s.flashWrite.2) hc _ _ _ _

variable {s} in
theorem saveAs_first (hc : s.newestCopy = none) :
    ∃ n : StoreCopy, (s.saveAs h label fwMin vals).params.copyA = some n ∧ (s.saveAs h label fwMin vals).params.copyB = s.params.copyB ∧
      n.valid = s.flashWrite.1 ∧ n.vals = vals := by
  rw [saveAs_params]
  exact saveCopy_first (s := s.flashWrite.2) hc _ _ _ _

end

/-! ### The staging buffer -/

theorem cfgClear_starts : Starts cfgClearSpec .cfgImageClear (fun h b u =>
    u.params = { b.params with staging := [], staged := false } ∧ u.hb h 12 = 1) :=
  starts_of_start (fun _ _ => rfl) (fun _ _ k => k) fun _ _ hw => ⟨doneWith_params _ _ _, doneWith_code (setParams_wf hw _) _ _⟩

theorem cfgStage_starts : Starts cfgStageSpec .cfgImageStage (fun h b u => u.hb h 12 = 1 ∧
    u.params = { b.params with staging := cellWrite b.params.staging (b.imgOffset h) (b.bulkBytes 0 b.host.bulkLen), staged := true }) :=
  starts_of_start (fun _ _ => rfl) (fun _ _ k => k) fun _ _ hw => ⟨doneWith_code (setParams_wf hw _) _ _, doneWith_params _ _ _⟩

theorem cfgCheck_starts : Starts cfgCheckSpec .cfgImageCheck (fun h b u => u.params = b.params ∧ u.hb h 12 = 1) :=
  starts_of_start (fun _ _ => rfl) (fun _ _ k => k) fun _ _ hw => ⟨doneWith_params _ _ _, doneWith_code hw _ _⟩

theorem cfgLoadStored_starts : Starts cfgLoadStoredSpec .cfgImageLoadStored (fun h b u => u.hb h 12 = 1 ∧
    ∀ x, b.newestCopy = some x → u.params = { b.params with staging := cellWrite [] 0 (imageBytes x.2), staged := true }) := by
  refine starts_of_start (fun _ _ => rfl) (fun _ _ k => k) fun h b hw => ?_
  dsimp only [cfgLoadStoredSpec]
  cases hc : b.newestCopy with
  | none => exact ⟨doneWith_code hw _ _, nofun⟩
  | some y =>
    refine ⟨doneWith_code (setParams_wf hw _) _ _, fun x hx => ?_⟩
    obtain rfl := Option.some.inj hx
    exact doneWith_params _ _ _

theorem doneBulk_params (s : State) (h : Nat) (res : List Byte) : (s.doneBulk h res).params = s.params :=
  only_params (w := allBut .params) (by simp) (by simp)

/-- A bulk result completes DONE, in the record of a virtual hopper or in the bulk window (R166). -/
theorem doneBulk_code {s : State} (hw : s.slotsWf) (h : Nat) (res : List Byte) : (s.doneBulk h res).hb h 12 = 1 := by
  unfold State.doneBulk
  split
  · exact doneWith_code hw h res
  · have hb : (s.endBulk h).slotsWf := slotsWf_of_slots (endBulk_slots s h) hw
    have hp : ((s.endBulk h).putSlot (128 * h + 6) (b8 8)).slotsWf := putSlot_wf hb _ _
    dsimp only
    rw [State.hb, giveBack_slots, putSlot_slots]
    exact congrArg BitVec.toNat ((cellWrite_reads hp (128 * h + 12) _).1 0 (by simp [State.recordHead, b8]))

theorem cfgReadStaging_starts : Starts cfgReadStagingSpec .cfgImageReadStaging (fun h b u => u.params = b.params ∧ u.hb h 12 = 1) :=
  starts_of_start (fun _ _ => rfl) (fun _ _ k => k) fun _ _ hw => ⟨doneBulk_params _ _ _, doneBulk_code hw _ _⟩

/-! ### APPLY -/

section
variable {s : State} {h : Nat}

theorem cfgApply_refused (hf : s.imageBarred ++ s.writeFindings (trimSet s.imageSet) ≠ []) :
    ∃ code detail data, cfgApplySpec.start s h = s.awaitVerdict h code detail data 0xFFFF [] := by
  dsimp only [cfgApplySpec]
  split
  · exact ⟨_, _, _, rfl⟩
  · next e => exact absurd e hf

theorem cfgApply_written (hf : s.imageBarred ++ s.writeFindings (trimSet s.imageSet) = []) :
    ∃ ev ids, cfgApplySpec.start s h = (s.writeWorking (trimSet s.imageSet)).awaitVerdict h 1 0 [] ev ids := by
  simp only [cfgApplySpec, hf]
  exact ⟨_, _, rfl⟩

theorem cfgApply_waits : (cfgApplySpec.start s h).intake.onVerdict.getLast?.map (fun x => x.hop) = some h := by
  by_cases hf : s.imageBarred ++ s.writeFindings (trimSet s.imageSet) = []
  · obtain ⟨_, _, hs⟩ := cfgApply_written (h := h) hf
    rw [hs, awaitVerdict_last]
  · obtain ⟨_, _, _, hs⟩ := cfgApply_refused (h := h) hf
    rw [hs, awaitVerdict_last]

end

theorem cfgApply_starts : Starts cfgApplySpec .cfgImageApply (fun h b u =>
    (b.imageBarred = [] → b.writeFindings (trimSet b.imageSet) = [] → u.params = { b.params with working := trimSet b.imageSet }) ∧
    ((b.imageBarred ≠ [] ∨ b.writeFindings (trimSet b.imageSet) ≠ []) → u.params = b.params) ∧
    u.intake.onVerdict.getLast?.map (fun x => x.hop) = some h.val) := by
  refine starts_of_start (fun _ _ => rfl) (fun _ _ k => k) fun h b _ => ⟨fun hb hf => ?_, fun hr => ?_, cfgApply_waits⟩
  · obtain ⟨_, _, hs⟩ := cfgApply_written (h := h) (List.append_eq_nil_iff.mpr ⟨hb, hf⟩)
    rw [hs, awaitVerdict_params, writeWorking_params]
  · rw [← not_and_or, ← List.append_eq_nil_iff] at hr
    obtain ⟨_, _, _, hs⟩ := cfgApply_refused (h := h) hr
    rw [hs, awaitVerdict_params]

/-! ### The store -/

theorem cfgSaveStaged_starts : Starts cfgSaveStagedSpec .cfgImageSaveStaged (fun h b u =>
    u.hb h 12 = (if b.flashWrite.1 then 1 else 6) ∧ u.params.working = b.params.working ∧
    ∀ isA c, b.newestCopy = some (isA, c) → ∃ n : StoreCopy, (if isA then u.params.copyB else u.params.copyA) = some n ∧
      (if isA then u.params.copyA = b.params.copyA else u.params.copyB = b.params.copyB) ∧
      n.valid = b.flashWrite.1 ∧ n.saves = c.saves + 1 ∧ n.vals = b.imageSet) := by
  refine starts_of_start (fun _ _ => rfl) (fun _ _ k => k) fun h b hw =>
    ⟨saveAs_code _ _ _ _ hw, saveAs_working _ _ _ _ _, fun isA c hc => ?_⟩
  obtain ⟨n, hn, hother, hvalid, hsaves, -, hvals⟩ := saveAs_newest h _ _ _ hc
  exact ⟨n, hn, hother, hvalid, hsaves, hvals⟩

theorem cfgSaveWorking_starts : Starts cfgSaveWorkingSpec .cfgImageSaveWorking (fun h b u =>
    u.hb h 12 = (if b.flashWrite.1 then 1 else 6) ∧ u.params.working = b.params.working ∧
    (∀ isA c, b.newestCopy = some (isA, c) → ∃ n : StoreCopy, (if isA then u.params.copyB else u.params.copyA) = some n ∧
      (if isA then u.params.copyA = b.params.copyA else u.params.copyB = b.params.copyB) ∧
      n.valid = b.flashWrite.1 ∧ n.saves = c.saves + 1 ∧ n.fwMin = 2 ∧ n.vals = b.params.working) ∧
    (b.newestCopy = none → ∃ n : StoreCopy, u.params.copyA = some n ∧ u.params.copyB = b.params.copyB ∧
      n.valid = b.flashWrite.1 ∧ n.vals = b.params.working)) :=
  starts_of_start (fun _ _ => rfl) (fun _ _ k => k) fun h _ hw =>
    ⟨saveAs_code _ _ _ _ hw, saveAs_working _ _ _ _ _, fun _ _ => saveAs_newest h _ _ _, saveAs_first h _ _ _⟩

/-- Both stored copies are gone. -/
def State.storeErased (s : State) : State := { s with params := { s.params with copyA := none, copyB := none } }

theorem storeErased_wf {s : State} (hw : s.slotsWf) : s.storeErased.slotsWf := hw

theorem cfgErase_start (s : State) (h : Nat) :
    cfgEraseSpec.start s h = (s.storeErased.evProtected (if s.saveSealed [] then 2 else 0xFFFF)).doneWith h [] := by
  dsimp only [cfgEraseSpec, State.storeErased]

theorem cfgErase_starts : Starts cfgEraseSpec .cfgImageErase (fun h b u =>
    u.params = { b.params with copyA := none, copyB := none } ∧ u.hb h 12 = 1) :=
  starts_of_start (fun _ _ => rfl) (fun _ _ k => k) fun h b hw => by
    rw [cfgErase_start]
    exact ⟨(doneWith_params _ _ _).trans (evProtected_params _ _), doneWith_code (evProtected_wf (storeErased_wf hw) _) _ _⟩

/-- Settles O11: each operation by its lemma. The saves follow log entries 32 (the first copy) and 33 (the read-back). -/
theorem imageComplete : Obligations.ImageComplete :=
  ⟨cfgClear_starts, cfgStage_starts, cfgCheck_starts, cfgApply_starts, cfgSaveStaged_starts, cfgSaveWorking_starts,
    cfgLoadStored_starts, cfgReadStaging_starts, cfgErase_starts⟩

end Sys2Proof.Machine
end

section
/-! Axes apart: what an operation on one axis leaves of the motion engine, coils, load estimate, gate and follower of every other axis. -/

namespace Sys2Proof.Machine

/-- What the state holds of one axis. -/
structure AxisPart where
  motion : MotionSt
  cur : CurrentSt
  wedge : WedgeSt
  gate : GateSt
  follow : FollowSt

def State.axisPart (s : State) (m : Fin 4) : AxisPart :=
  ⟨s.motion.get m, s.cur.get m, s.wedge.get m, s.gate.get m, s.follow.get m⟩

/-- The parts of the state that hold nothing of `State.axisPart`. -/
def offAxes : List Group := (allBut .motion).filter (fun g => g ∉ [.cur, .wedge, .gate, .follow])

@[simp] theorem mem_offAxes (g : Group) : g ∈ offAxes ↔ g ≠ .motion ∧ g ∉ [Group.cur, .wedge, .gate, .follow] := by
  simp [offAxes]

theorem axisPart_of_blank {s t : State} (h : t.blank offAxes = s.blank offAxes) (m : Fin 4) : t.axisPart m = s.axisPart m := by
  simp only [State.axisPart, only_motion h (by simp), only_cur h (by simp), only_wedge h (by simp), only_gate h (by simp),
    only_follow h (by simp)]

/-- `t` differs from `s` in the parts of axis `n` at most: those of every other axis are the same. -/
def Beside (n : Fin 4) (s t : State) : Prop := ∀ m, m ≠ n → t.axisPart m = s.axisPart m

namespace Beside

variable {n : Fin 4} {s t : State}

theorem refl (n : Fin 4) (s : State) : Beside n s s := fun _ _ => rfl

theorem ite {a b : State} {c : Prop} [Decidable c] (ha : c → Beside n s a) (hb : ¬ c → Beside n s b) : Beside n s (if c then a else b) :=
  iteInduction ha hb

theorem foldl {α : Type} {f : State → α → State} (l : List α) (h : Beside n s t)
    (hf : ∀ u, Beside n s u → ∀ a ∈ l, Beside n s (f u a)) :
    Beside n s (l.foldl f t) :=
  List.foldlRecOn l f h hf

/-! ### The named updates -/

theorem of_blank (h : Beside n s t) {u : State} (k : u.blank offAxes = t.blank offAxes) : Beside n s u :=
  fun m hm => (axisPart_of_blank k m).trans (h m hm)

theorem updMotion (h : Beside n s t) (f : MotionSt → MotionSt) : Beside n s (t.updMotion n f) := fun m hm => by
  rw [← h m hm, State.axisPart, updMotion_motion, Quad.get_upd, if_neg hm]; rfl

theorem updCur (h : Beside n s t) (f : CurrentSt → CurrentSt) : Beside n s (t.updCur n f) := fun m hm => by
  rw [← h m hm, State.axisPart, updCur_cur, Quad.get_upd, if_neg hm]; rfl

theorem updWedge (h : Beside n s t) (f : WedgeSt → WedgeSt) : Beside n s (t.updWedge n f) := fun m hm => by
  rw [← h m hm, State.axisPart, updWedge_wedge, Quad.get_upd, if_neg hm]; rfl

theorem updGate (h : Beside n s t) (f : GateSt → GateSt) : Beside n s (t.updGate n f) := fun m hm => by
  rw [← h m hm, State.axisPart, updGate_gate, Quad.get_upd, if_neg hm]; rfl

theorem updBridge (h : Beside n s t) (b : Fin 4) (f : BridgeSt → BridgeSt) : Beside n s (t.updBridge n b f) := h.updGate _

theorem note (h : Beside n s t) (code qual : Nat) (axes : BitVec 4) (cond : Bool) : Beside n s (t.note code qual axes cond) :=
  h.of_blank (by simp)

theorem noteEv (h : Beside n s t) (code qual : Nat) : Beside n s (t.noteEv code qual) := h.of_blank (by simp)

theorem ev (h : Beside n s t) (code qual : Nat) : Beside n s (t.ev code qual) := h.of_blank (by simp)

theorem evIf (h : Beside n s t) (c : Bool) (code qual : Nat) : Beside n s (t.evIf c code qual) := h.of_blank (by simp)

theorem evFree (h : Beside n s t) (code : Nat) : Beside n s (t.evFree code) := h.of_blank (by simp)

theorem brakeOff (h : Beside n s t) : Beside n s (t.brakeOff n) := h.of_blank (by simp)

theorem cmpCount (h : Beside n s t) (src : Nat) (old x : Int) : Beside n s (t.cmpCount n src old x) := h.of_blank (by simp)

theorem divCount (h : Beside n s t) (src m : Nat) : Beside n s (t.divCount src m) := h.of_blank (by simp)

theorem coilSample (h : Beside n s t) (c : Nat) (v : Int) (E : Nat) (byIns : Bool) : Beside n s (t.coilSample n c v E byIns) :=
  h.of_blank (by simp)

/-! ### Gates -/

theorem switchesOff (h : Beside n s t) : Beside n s (t.switchesOff n) := h.updGate _

theorem clampOn (h : Beside n s t) : Beside n s (t.clampOn n) := by
  refine h.foldl axes4 fun u hu b _ => ?_
  split
  · exact hu.updBridge _ _
  · exact hu.updBridge _ _

theorem nextInsert (h : Beside n s t) : Beside n s (t.nextInsert n) := by
  refine .ite (fun _ => h) fun _ => ?_
  split
  · exact (h.updBridge _ _).updGate _
  · exact h

theorem blankAgain (h : Beside n s t) (b : Fin 4) : Beside n s (t.blankAgain n b) := .ite (fun _ => h) fun _ => h.updCur _

theorem pendingOn (h : Beside n s t) (b : Fin 4) (high : Bool) (vds bs T : Nat) : Beside n s (t.pendingOn n b high vds bs T) :=
  have ht := h.updBridge b _
  .ite (fun _ => (Beside.ite (fun _ => ht.blankAgain b) fun _ => ht).nextInsert) fun _ => ht

theorem notePlateau (h : Beside n s t) (bound : Bool) (why : Nat) : Beside n s (t.notePlateau n bound why) := by
  unfold State.notePlateau
  extract_lets u v
  have hu : Beside n s u := .ite (fun _ => (h.updGate _).evFree _) fun _ => h
  have hv : Beside n s v := hu.updGate _
  exact .ite (fun _ => .ite (fun _ => hv) fun _ => (hv.updGate _).evFree _) fun _ => hu

theorem plateau (h : Beside n s t) (b : Fin 4) (high rising : Bool) (vds vgs len : Nat) (lag : Int) :
    Beside n s (t.plateau n b high rising vds vgs len lag) := by
  unfold State.plateau
  split
  · exact h
  · exact (h.updBridge _ _).notePlateau _ _

theorem latch (h : Beside n s t) (b : Fin 4) (high : Bool) (cause T : Nat) : Beside n s (t.latch n b high cause T) :=
  .ite (fun _ => .ite (fun _ => h.updBridge _ _) fun _ => h) fun _ => ((h.updBridge _ _).updGate _).nextInsert

theorem switchFault (h : Beside n s t) (sw : List (Fin 4 × Bool)) (cause code qual T : Nat) :
    Beside n s (t.switchFault n sw cause code qual T) :=
  (h.foldl sw fun _ hu x _ => hu.latch x.1 x.2 cause T).note _ _ _ _

/-! ### Coils -/

theorem setPoints (h : Beside n s t) (T : Nat) : Beside n s (t.setPoints n T) := (h.updWedge _).updCur _

theorem wedgeSpoil (h : Beside n s t) : Beside n s (t.wedgeSpoil n) := h.updWedge _

theorem enterHold (h : Beside n s t) (x : HoldState) : Beside n s (t.enterHold n x) := by
  have hc := h.updCur
  unfold State.enterHold
  extract_lets old u
  have hu : Beside n s u := hc _
  refine .ite (fun _ => hu) fun _ => ?_
  split
  · exact hu.switchesOff.updGate _
  · exact hu.switchesOff
  · exact hu.switchesOff
  · exact hu.clampOn
  · exact .ite (fun _ => hu) fun _ => hu.switchesOff.updCur _

theorem quarterEnd (h : Beside n s t) (e : Nat) : Beside n s (t.quarterEnd n e) := by
  unfold State.quarterEnd
  extract_lets x full short one u
  have hone (c : Nat) (b : Bool) {v : State} (hv : Beside n s v) : Beside n s (one c b v) :=
    have hw := (hv.updCur _).wedgeSpoil
    .ite (fun _ => .ite (fun _ => hw) fun _ => (hw.updCur _).noteEv _ _) fun _ => hv
  exact (hone 1 _ (hone 0 _ h)).updCur _

theorem curMicro (h : Beside n s t) (T : Nat) : Beside n s (t.curMicro n T) := by
  have hp := h.setPoints T
  refine .ite (fun _ => hp) fun _ => ?_
  split
  · exact ((hp.quarterEnd _).updCur _).wedgeSpoil.noteEv _ _
  · exact hp.quarterEnd _

theorem regCheck (h : Beside n s t) (c code : Nat) (v : Int) : Beside n s (t.regCheck n c code v) :=
  have hu := h.updCur _
  .ite (fun _ => hu) fun _ => .ite (fun _ => (hu.updCur _).note _ _ _ _) fun _ => .ite (fun _ => (hu.updCur _).note _ _ _ _) fun _ => hu

theorem dropInserts (h : Beside n s t) (c : Nat) : Beside n s (t.dropInserts n c) :=
  (h.foldl _ fun _ hu _ _ => hu.updBridge _ _).nextInsert

/-! ### Motion engine and load estimate -/

theorem wedgeMicro (h : Beside n s t) (T : Nat) : Beside n s (t.wedgeMicro n T) := .ite (fun _ => h) fun _ => h.updWedge _

theorem homeContact (h : Beside n s t) : Beside n s (t.homeContact n) :=
  have hc := ((h.updWedge _).updMotion _).noteEv _ _
  .ite (fun _ => hc.noteEv _ _) fun _ => hc

theorem homeWindow (h : Beside n s t) (x : WedgeWin) (es ec mw : Rat) : Beside n s (t.homeWindow n x es ec mw) :=
  have hw := h.updWedge _
  .ite (fun _ => h) fun _ => .ite (fun _ => .ite (fun _ => hw.homeContact) fun _ => hw) fun _ => h.updWedge _

theorem stepDemand (h : Beside n s t) (up : Bool) (T : Nat) : Beside n s (t.stepDemand n up T) :=
  have hu := (h.updMotion _).evIf _ _ _
  .ite (fun _ => h.updMotion _) fun _ => .ite (fun _ => hu.note _ _ _ _) fun _ => hu

theorem stepSettle (h : Beside n s t) (T : Nat) : Beside n s (t.stepSettle n T) := by
  unfold State.stepSettle
  split
  · exact h
  · have hu : Beside n s (t.pulseIn n) := (h.updMotion _).divCount _ _
    exact .ite (fun _ => h) fun _ => .ite (fun _ => hu.stepDemand _ _) fun _ => hu

theorem ledgeStep (h : Beside n s t) (T : Nat) : Beside n s (t.ledgeStep n T) := by
  refine .ite (fun _ => ?_) fun _ => h
  split
  · exact h
  · exact .ite (fun _ => .ite (fun _ => (h.updMotion _).note _ _ _ _) fun _ => h.updMotion _) fun _ => h

theorem stepBarred (h : Beside n s t) (d : Int) : Beside n s (t.stepBarred n d) := by
  unfold State.stepBarred
  dsimp only
  split
  · exact .ite (fun _ => h.updMotion _) fun _ => (h.updMotion _).ev _ _
  · exact .ite (fun _ => h) fun _ => h.note _ _ _ _
  · exact h

theorem stepIssue (h : Beside n s t) (d : Int) (T : Nat) : Beside n s (t.stepIssue n d T) :=
  have hl := ((h.updMotion _).ledgeStep T).evIf _ _ _
  (((hl.curMicro T).wedgeMicro T).cmpCount _ _ _).divCount _ _

end Beside

/-- What a command goes on with differs from `s` in the parts of axis `n` at most. -/
def StaysBeside (n : Fin 4) (s : State) (o : Host.Outcome State Fault Refusal) : Prop := ∀ t, o = .next t → Beside n s t

namespace StaysBeside

variable {n : Fin 4} {s : State}

theorem next {t : State} (h : Beside n s t) : StaysBeside n s (.next t) := by
  rintro _ ⟨⟩
  exact h

/-! ### Motion engine and load estimate -/

theorem stepPulse (off high : Nat) (dir changed : Bool) : StaysBeside n s (execStepPulse n off high dir changed s) := by
  refine next (.ite (fun _ => .refl n s) fun _ => .ite (fun _ => (Beside.refl n s).of_blank (by simp)) fun _ => ?_)
  refine .updMotion (.stepSettle (.of_blank (t := if changed then s.fresh.2 else s) ?_ (by simp)) _) _
  exact .ite (fun _ => (Beside.refl n s).of_blank (by simp)) fun _ => .refl n s

theorem microstep (off : Nat) : StaysBeside n s (execMicrostep n off s) := by
  have hs := (Beside.refl n s).stepSettle (s.tickAt off)
  refine next ?_
  dsimp only
  split
  · exact hs
  · exact .ite (fun _ => hs.stepBarred _) fun _ => hs.stepIssue _ _

theorem standstillReached : StaysBeside n s (execStandstillReached n s) :=
  next (.ite (fun _ => (Beside.refl n s).updMotion _) fun _ => .refl n s)

theorem wedgeWindowEnd (va vb : Int) : StaysBeside n s (execWedgeWindowEnd n va vb s) := by
  refine next ?_
  dsimp only
  split
  · exact .refl n s
  · have hw := (Beside.refl n s).updWedge
    exact (Beside.ite (fun _ => (hw _).note _ _ _ _) fun _ => hw _).homeWindow _ _ _ _

/-! ### Coils -/

theorem holdDelayExpiry : StaysBeside n s (execHoldDelayExpiry n s) :=
  next (.ite (fun _ => (Beside.refl n s).updCur _) fun _ => .refl n s)

theorem holdRampEnd : StaysBeside n s (execHoldRampEnd n s) :=
  next (.ite (fun _ => ((Beside.refl n s).enterHold _).updCur _) fun _ => .refl n s)

theorem chopperTrip (c : Fin 2) (code ton : Nat) : StaysBeside n s (execChopperTrip n c code ton s) :=
  have hu := (((Beside.refl n s).updCur _).dropInserts c.val).regCheck c.val code (s.sampleOf n c code)
  next (.ite (fun _ => .ite (fun _ => hu.coilSample _ _ _ _) fun _ => hu) fun _ => .refl n s)

theorem blankingEnd (c : Fin 2) (seen : Bool) (ton : Nat) : StaysBeside n s (execBlankingEnd n c seen ton s) :=
  have hu := (Beside.refl n s).updCur
  next (.ite (fun _ => .ite (fun _ => (hu _).updCur _) fun _ => hu _) fun _ => .refl n s)

theorem fastDecayEnd (c : Fin 2) (gone : Nat) : StaysBeside n s (execFastDecayEnd n c gone s) :=
  next (.ite (fun _ => (Beside.refl n s).updCur _) fun _ => .refl n s)

theorem zeroComparatorTrip (c : Fin 2) : StaysBeside n s (execZeroComparatorTrip n c s) :=
  next (.ite (fun _ => (Beside.refl n s).updCur _) fun _ => .refl n s)

theorem offTimeEnd (c : Fin 2) (gone : Nat) : StaysBeside n s (execOffTimeEnd n c gone s) :=
  next (.ite (fun _ => (Beside.refl n s).updCur _) fun _ => .refl n s)

theorem forcedSample (c : Fin 2) (code ton : Nat) : StaysBeside n s (execForcedSample n c code ton s) :=
  next (.ite (fun _ => (Beside.refl n s).coilSample _ _ _ _) fun _ => .refl n s)

theorem pwmPeriod (c : Fin 2) (code : Nat) : StaysBeside n s (execPwmPeriod n c code s) := by
  refine next (.ite (fun _ => .refl n s) fun _ => ?_)
  have hu (f : CurrentSt → CurrentSt) := ((Beside.refl n s).updCur f).foldl (coilBridges (Fin.ofNat 4 (2 * c.val)))
    (f := fun t b => t.updBridge n b (fun y => { y with altered := false })) fun _ ht b _ => ht.updBridge b _
  exact .ite (fun _ => ((hu _).regCheck _ _ _).coilSample _ _ _ _) fun _ =>
    .ite (fun _ => ((hu _).regCheck _ _ _).coilSample _ _ _ _) fun _ => hu _

/-! ### Gates -/

theorem gateEdge (b : Fin 4) (high on : Bool) (off vds bs : Nat) : StaysBeside n s (execGateEdge n b high on off vds bs s) :=
  have hb := (Beside.refl n s).updBridge b
  next (.ite (fun _ => .ite (fun _ => hb _) fun _ => .refl n s) fun _ => .ite (fun _ => hb _) fun _ => .refl n s)

theorem gatePlateauEnd (b : Fin 4) (high : Bool) (vds vgs len : Nat) (lag : Int) :
    StaysBeside n s (execGatePlateauEnd n b high vds vgs len lag s) := by
  have h0 := Beside.refl n s
  have hb := h0.updBridge b
  refine next ?_
  dsimp only
  split
  · exact .ite (fun _ => h0) fun _ => hb _
  · exact h0.plateau b high true vds vgs len lag
  · exact h0
  · refine .ite (fun _ => .ite (fun _ => h0) fun _ => hb _) fun _ => ?_
    split
    · exact .ite (fun _ => h0) fun _ => hb _
    · exact h0.plateau b high false vds vgs len lag
    · exact h0

theorem deadTimeEnd (b : Fin 4) (gone : Moment) (low vds bs : Nat) : StaysBeside n s (execDeadTimeEnd n b gone low vds bs s) := by
  have h0 := Beside.refl n s
  refine next (.ite (fun _ => h0) fun _ => ?_)
  split
  · exact h0.updBridge b _
  · exact .ite (fun _ => (h0.updBridge b _).nextInsert) fun _ => .ite (fun _ => h0) fun _ => h0.pendingOn b _ vds bs _

theorem gateOffTimeout (b : Fin 4) (high : Bool) (vgs : Nat) (len : Moment) : StaysBeside n s (execGateOffTimeout n b high vgs len s) :=
  next (.ite (fun _ => ((Beside.refl n s).updBridge b _).switchFault _ _ _ _ _) fun _ => .refl n s)

theorem bootstrapUndervoltage (b : Fin 4) (mv ns : Nat) (len : Moment) : StaysBeside n s (execBootstrapUndervoltage n b mv ns len s) :=
  next (.ite (fun _ => (Beside.refl n s).switchFault _ _ _ _ _) fun _ => .refl n s)

theorem bootstrapRecharged (b : Fin 4) (mv : Moment) : StaysBeside n s (execBootstrapRecharged n b mv s) :=
  next (.ite (fun _ => (Beside.refl n s).updBridge b _) fun _ => .refl n s)

theorem switchFaultDetect (b : Fin 4) (high : Bool) (why : Fin 3) (val : Int) (on : Nat) (len : Moment) :
    StaysBeside n s (execSwitchFaultDetect n b high why val on len s) :=
  have h0 := Beside.refl n s
  next (.ite (fun _ => h0) fun _ => .ite (fun _ => .ite (fun _ => h0.switchFault _ _ _ _ _) fun _ => h0) fun _ =>
    .ite (fun _ => h0.switchFault _ _ _ _ _) fun _ => h0)

theorem quietRefreshPulse (off : Nat) : StaysBeside n s (execQuietRefreshPulse n off s) :=
  have hg := (Beside.refl n s).updGate
  next (.ite (fun _ => .ite (fun _ => hg _) fun _ => (hg _).updBridge _ _) fun _ => .refl n s)

theorem governingEnableFall (k : Option (Fin 4)) : StaysBeside n s (execGoverningEnableFall n k s) := by
  have h0 := Beside.refl n s
  have he : Beside n s (s.setEnable n k false) := h0.of_blank (by simp)
  refine next (.ite (fun _ => h0) fun _ => .ite (fun _ => h0.updGate _) fun _ => ?_)
  exact .ite (fun _ => (he.updGate _).brakeOff) fun _ => he.updGate _

theorem governingEnableRise (k : Option (Fin 4)) : StaysBeside n s (execGoverningEnableRise n k s) :=
  have he : Beside n s (s.setEnable n k true) := (Beside.refl n s).of_blank (by simp)
  next (.ite (fun _ => .refl n s) fun _ => he.updGate _)

theorem pinModeInEdge (k : Fin 4) (level : Bool) (width : Moment) (vds bs : Nat) :
    StaysBeside n s (execPinModeInEdge n k level width vds bs s) := by
  have hp (x : PinSt) : Beside n s { s with pins := x } := (Beside.refl n s).of_blank (by simp)
  refine next (.ite (fun _ => .refl n s) fun _ => .ite (fun _ => (hp _).evIf _ _ _) fun _ => ?_)
  have hi (f : BridgeSt → BridgeSt) := ((hp { s.pins with pinIn := s.pins.pinIn.upd n (fun q => q.set k level) }).updBridge k f).nextInsert
  exact .ite (fun _ => (hi _).updBridge k _) fun _ => hi _

end StaysBeside

section

open StaysBeside

/-- Settles O57: each event, by its lemma, writes the parts of its own axis alone. -/
theorem axesApart : Obligations.AxesApart := by
  unfold Obligations.AxesApart
  intro n c b k g w i j l u x y va vb s t he m hm
  have hb : Beside n s t := by
    rcases he with e | e | e | e | e | e | e | e | e | e | e | e | e | e | e | e | e | e | e | e | e | e | e | e
    exacts [stepPulse i j x y t e, microstep i t e, standstillReached t e, holdDelayExpiry t e, holdRampEnd t e, chopperTrip c i j t e,
      blankingEnd c x i t e, fastDecayEnd c i t e, zeroComparatorTrip c t e, offTimeEnd c i t e, forcedSample c i j t e,
      pwmPeriod c i t e, wedgeWindowEnd va vb t e, gateEdge b x y i j l t e, gatePlateauEnd b x i j l va t e,
      deadTimeEnd b u j l i t e, gateOffTimeout b x i u t e, bootstrapUndervoltage b i j u t e, bootstrapRecharged b u t e,
      switchFaultDetect b x w va i u t e, quietRefreshPulse i t e, governingEnableFall g t e, governingEnableRise g t e,
      pinModeInEdge k x u i j t e]
  exact AxisPart.mk.inj (hb m hm)

end

end Sys2Proof.Machine
end

section
/-! Current regulation: the chopper's phases, the standstill modes and the PWM period of one coil, and the commands on Chisel tables. -/

namespace Sys2Proof.Machine

/-! ### One coil of one axis -/

theorem Beside.cur_eq {n : Fin 4} {s t : State} (h : Beside n s t) (m : Fin 4) (hm : m ≠ n) : t.cur.get m = s.cur.get m :=
  congrArg AxisPart.cur (h m hm)

theorem Beside.gate_eq {n : Fin 4} {s t : State} (h : Beside n s t) (m : Fin 4) (hm : m ≠ n) : t.gate.get m = s.gate.get m :=
  congrArg AxisPart.gate (h m hm)

theorem coil_updCoil (y : CurrentSt) (c : Nat) (f : CoilSt → CoilSt) : (y.updCoil c f).coil c = f (y.coil c) := by
  unfold CurrentSt.updCoil CurrentSt.coil
  split <;> rfl

theorem updCoil_escs (y : CurrentSt) (c : Nat) (f : CoilSt → CoilSt) : (y.updCoil c f).escs = y.escs := by
  unfold CurrentSt.updCoil
  split <;> rfl

theorem updCoil_congr {y : CurrentSt} {c : Nat} {f g : CoilSt → CoilSt} (h : f (y.coil c) = g (y.coil c)) :
    y.updCoil c f = y.updCoil c g := by
  unfold CurrentSt.updCoil
  unfold CurrentSt.coil at h
  split at h
  · next hc => rw [if_pos hc, if_pos hc, h]
  · next hc => rw [if_neg hc, if_neg hc, h]

theorem updCur_congr {s : State} {n : Fin 4} {f g : CurrentSt → CurrentSt} (h : f (s.cur.get n) = g (s.cur.get n)) :
    s.updCur n f = s.updCur n g := by
  simp only [State.updCur, Quad.upd, h]

/-- Coil `c` of axis `n` is changed by `f`. -/
def State.updCoilAt (s : State) (n : Fin 4) (c : Nat) (f : CoilSt → CoilSt) : State := s.updCur n (fun y => y.updCoil c f)

theorem coil_updCoilAt (s : State) (n : Fin 4) (c : Nat) (f : CoilSt → CoilSt) :
    ((s.updCoilAt n c f).cur.get n).coil c = f ((s.cur.get n).coil c) := by
  rw [State.updCoilAt, updCur_cur, Quad.get_upd_self, coil_updCoil]

theorem coilSample_cur (s : State) (n : Fin 4) (c : Nat) (v : Int) (E : Nat) (byIns : Bool) :
    (s.coilSample n c v E byIns).cur = s.cur := only_cur (w := allBut .cur) (by simp) (by simp)

theorem dropInserts_cur (s : State) (n : Fin 4) (c : Nat) : (s.dropInserts n c).cur = s.cur :=
  only_cur (w := allBut .cur) (by simp) (by simp)

/-! ### The check of a sample -/

/-- What the check of a sample leaves of a coil: it counts, and may end the drive at duty 0 (R265). -/
structure CoilSt.Checked (x y : CoilSt) : Prop where
  sample : y.sample = x.sample
  tripQ : y.tripQ = x.tripQ
  seen : y.seen = x.seen
  frac : y.frac = x.frac
  prevSet : y.prevSet = x.prevSet
  ux : y.ux = x.ux
  phase : y.phase = x.phase ∨ y.phase = .ended
  duty : y.duty = x.duty ∨ y.duty = 0

theorem CoilSt.Checked.refl (x : CoilSt) : x.Checked x := ⟨rfl, rfl, rfl, rfl, rfl, rfl, .inl rfl, .inl rfl⟩

theorem CoilSt.Checked.trans {x y z : CoilSt} (h : x.Checked y) (k : y.Checked z) : x.Checked z where
  sample := k.sample.trans h.sample
  tripQ := k.tripQ.trans h.tripQ
  seen := k.seen.trans h.seen
  frac := k.frac.trans h.frac
  prevSet := k.prevSet.trans h.prevSet
  ux := k.ux.trans h.ux
  phase := k.phase.elim (fun e => h.phase.imp e.trans e.trans) .inr
  duty := k.duty.elim (fun e => h.duty.imp e.trans e.trans) .inr

theorem regCheck_coil (s : State) (n : Fin 4) (c code : Nat) (v : Int) :
    ((s.cur.get n).coil c).Checked (((s.regCheck n c code v).cur.get n).coil c) := by
  unfold State.regCheck
  extract_lets x lsb high sat u ends
  have hu : ((s.cur.get n).coil c).Checked ((u.cur.get n).coil c) := by
    simp only [u, updCur_cur, Quad.get_upd_self, coil_updCoil]
    exact ⟨rfl, rfl, rfl, rfl, rfl, rfl, .inl rfl, .inl rfl⟩
  have hends : ((u.cur.get n).coil c).Checked (((ends u).cur.get n).coil c) := by
    simp only [ends, updCur_cur, Quad.get_upd_self, coil_updCoil]
    exact ⟨rfl, rfl, rfl, rfl, rfl, rfl, .inr rfl, .inr rfl⟩
  split
  · exact hu
  · split
    · exact hu.trans hends
    · split
      · exact hu.trans hends
      · exact hu

/-! ### Standstill modes -/

section
variable {n : Fin 4} {s : State}

theorem holdDelayExpiry_ramps (hp : s.pinMode n = false) (hm : (s.cur.get n).hold = .moving) (hs : (s.motion.get n).still = true)
    (hc : s.curMoving n = false) (hf : s.ax n 0x14 ≤ (s.motion.get n).holdF) :
    exec (.holdDelayExpiry n) s = .next (s.updCur n (fun x => { x with hold := .ramp, rampF := 0 })) :=
  congrArg Host.Outcome.next (if_pos (by simp [hp, hm, hs, hc, hf]))

/-- Beginning to open or clamp the switches changes nothing of the currents, and beginning regulation keeps the hold state. -/
theorem enterHold_hold (s : State) (n : Fin 4) (h : HoldState) : ((s.enterHold n h).cur.get n).hold = h := by
  have hcur {t u : State} (e : u.blank (allBut .cur) = t.blank (allBut .cur)) : (u.cur.get n).hold = (t.cur.get n).hold := by
    rw [only_cur e (by simp)]
  have hbegin (t : State) (T P : Nat) : ((t.updCur n (fun x => x.begin_ T P)).cur.get n).hold = (t.cur.get n).hold := by
    rw [updCur_cur, Quad.get_upd_self]
    rfl
  unfold State.enterHold
  extract_lets old u
  have hu : (u.cur.get n).hold = h := by
    simp only [u, updCur_cur, Quad.get_upd_self]
    split <;> rfl
  split
  · exact hu
  · rw [← hu]
    split
    · exact hcur (by simp)
    · exact hcur (by simp)
    · exact hcur (by simp)
    · exact hcur (by simp)
    · split
      · rfl
      · exact (hbegin _ _ _).trans (hcur (by simp))

theorem holdRampEnd_enters (hp : s.pinMode n = false) (hr : (s.cur.get n).hold = .ramp) (hf : s.ax n 0x15 ≤ (s.cur.get n).rampF) :
    Answers (.holdRampEnd n) s (fun t => (t.cur.get n).hold = s.stillMode n ∧ (∀ m, m ≠ n → t.cur.get m = s.cur.get m) ∧
      (∀ m, m ≠ n → t.gate.get m = s.gate.get m) ∧ s.only [.cur, .gate] t) := by
  have e : exec (.holdRampEnd n) s = .next ((s.enterHold n (s.stillMode n)).updCur n (fun x => { x with rampF := 20000 })) :=
    congrArg Host.Outcome.next (if_pos (by simp [hp, hr, hf]))
  have hb := StaysBeside.holdRampEnd _ e
  refine ⟨_, e, ?_, hb.cur_eq, hb.gate_eq, exec_only e⟩
  rw [updCur_cur, Quad.get_upd_self]
  exact enterHold_hold _ _ _

end

/-! ### The chopper's phases -/

section
variable {n : Fin 4} {c : Fin 2} {s : State}

theorem fastDecayEnd_slows {gone : Nat} (hc : s.chops n = true) (hp : ((s.cur.get n).coil c.val).phase = .fast)
    (hs : ((s.cur.get n).coil c.val).setp ≠ 0) (hg : 50 * s.ax n 0x03 * ((s.cur.get n).coil c.val).frac ≤ 16 * gone) :
    exec (.fastDecayEnd n c gone) s = .next (s.updCur n (fun y => y.updCoil c.val (fun z => { z with phase := .slow }))) :=
  congrArg Host.Outcome.next (if_pos (by simp [hc, hp, hs, hg]))

theorem zeroComparatorTrip_slows (hc : s.chops n = true) (hp : ((s.cur.get n).coil c.val).phase = .fast) :
    exec (.zeroComparatorTrip n c) s = .next (s.updCur n (fun y => y.updCoil c.val (fun z => { z with phase := .slow }))) :=
  congrArg Host.Outcome.next (if_pos (by simp [hc, hp]))

theorem forcedSample_samples {code ton : Nat} (hc : s.chops n = true) (hp : ((s.cur.get n).coil c.val).phase = .on)
    (hi : ((s.cur.get n).coil c.val).insTo = none) (ht : 200 * s.par 0xA016 ≤ ton) :
    exec (.forcedSample n c code ton) s =
      .next (s.coilSample n c.val (s.sampleOf n c code) ((s.cur.get n).coil c.val).setp.natAbs false) :=
  congrArg Host.Outcome.next (if_pos (by simp [hc, hp, hi, ht]))

theorem offTimeEnd_turnsOn {gone : Nat} (hc : s.chops n = true)
    (hp : ((s.cur.get n).coil c.val).phase = .fast ∨ ((s.cur.get n).coil c.val).phase = .slow)
    (hs : ((s.cur.get n).coil c.val).setp ≠ 0) (hg : 50 * s.ax n 0x03 ≤ gone) :
    Answers (.offTimeEnd n c gone) s (fun t => ((t.cur.get n).coil c.val).phase = .blank ∧ ((t.cur.get n).coil c.val).seen = false ∧
      ((t.cur.get n).coil c.val).setp = ((s.cur.get n).coil c.val).setp ∧ (∀ m, m ≠ n → t.cur.get m = s.cur.get m) ∧ s.only [.cur] t) := by
  have e : exec (.offTimeEnd n c gone) s = .next (s.updCoilAt n c CoilSt.onPhase) :=
    congrArg Host.Outcome.next (if_pos (by simp [hc, hp, hs, hg]))
  refine ⟨_, e, ?_⟩
  dsimp only
  rw [coil_updCoilAt]
  exact ⟨rfl, rfl, rfl, (StaysBeside.offTimeEnd c gone _ e).cur_eq, exec_only e⟩

/-- Blanking ends without a trip that counts: the escalation level stays (R250). -/
theorem blankingEnd_unseen {ton : Nat} (hc : s.chops n = true) (hp : ((s.cur.get n).coil c.val).phase = .blank)
    (ht : 25 * s.ax n 0x00 ≤ ton) :
    exec (.blankingEnd n c false ton) s = .next (s.updCur n (fun y => y.updCoil c.val (fun z => { z with phase := .on, seen := false }))) := by
  refine congrArg Host.Outcome.next ((if_pos (by simp [hc, hp, ht])).trans ?_)
  simp only [Bool.false_and, Bool.false_eq_true, if_false, Nat.lt_irrefl]
  exact updCur_congr (updCoil_congr rfl)

/-- The escalation level that a trip during blanking raises by 4, to at most what makes F and the level 16 (R253). -/
def State.escRaised (s : State) (n : Fin 4) (x : CoilSt) : Nat := min (x.esc + 4) (16 - s.fastOf n x)

/-- The on phase goes on with its trip seen and the level raised. -/
def State.blankSeen (s : State) (n : Fin 4) (c : Nat) : State :=
  s.updCoilAt n c (fun z => { z with phase := .on, seen := true, esc := s.escRaised n ((s.cur.get n).coil c) })

/-- A rise of the escalation level is counted (R253). -/
def State.escCounted (s : State) (n : Fin 4) : State := s.updCur n (fun y => { y with escs := min 0xFFFF (y.escs + 1) })

theorem escCounted_coil (s : State) (n : Fin 4) (c : Nat) : ((s.escCounted n).cur.get n).coil c = (s.cur.get n).coil c := by
  rw [State.escCounted, updCur_cur, Quad.get_upd_self]
  rfl

theorem escCounted_escs (s : State) (n : Fin 4) : ((s.escCounted n).cur.get n).escs = min 0xFFFF ((s.cur.get n).escs + 1) := by
  rw [State.escCounted, updCur_cur, Quad.get_upd_self]

theorem blankSeen_escs (s : State) (n : Fin 4) (c : Nat) : ((s.blankSeen n c).cur.get n).escs = (s.cur.get n).escs := by
  rw [State.blankSeen, State.updCoilAt, updCur_cur, Quad.get_upd_self, updCoil_escs]

theorem blankingEnd_raises {ton : Nat} (hc : s.chops n = true) (hp : ((s.cur.get n).coil c.val).phase = .blank)
    (ht : 25 * s.ax n 0x00 ≤ ton) (hi : ((s.cur.get n).coil c.val).insTo = none) :
    exec (.blankingEnd n c true ton) s =
      .next (if ((s.cur.get n).coil c.val).esc < s.escRaised n ((s.cur.get n).coil c.val) then (s.blankSeen n c).escCounted n
        else s.blankSeen n c) := by
  refine congrArg Host.Outcome.next ((if_pos (by simp [hc, hp, ht])).trans ?_)
  simp only [hi, Option.isNone_none, Bool.and_true, if_true]
  rfl

theorem blankingEnd_seen {ton : Nat} (hc : s.chops n = true) (hp : ((s.cur.get n).coil c.val).phase = .blank)
    (ht : 25 * s.ax n 0x00 ≤ ton) (hi : ((s.cur.get n).coil c.val).insTo = none) :
    Answers (.blankingEnd n c true ton) s (fun t => ((t.cur.get n).coil c.val).phase = .on ∧ ((t.cur.get n).coil c.val).seen = true ∧
      ((t.cur.get n).coil c.val).esc =
        min (((s.cur.get n).coil c.val).esc + 4) (16 - s.ax n (if ((s.cur.get n).coil c.val).falling then 0x02 else 0x01)) ∧
      (t.cur.get n).escs = (if ((s.cur.get n).coil c.val).esc < ((t.cur.get n).coil c.val).esc then min 0xFFFF ((s.cur.get n).escs + 1)
        else (s.cur.get n).escs) ∧
      (∀ m, m ≠ n → t.cur.get m = s.cur.get m) ∧ s.only [.cur] t) := by
  have e := blankingEnd_raises hc hp ht hi
  have hb := (StaysBeside.blankingEnd c true ton _ e).cur_eq
  have ho := exec_only e
  have hx : ((s.blankSeen n c).cur.get n).coil c.val = _ := coil_updCoilAt s n c _
  refine ⟨_, e, ?_⟩
  by_cases hr : ((s.cur.get n).coil c.val).esc < s.escRaised n ((s.cur.get n).coil c.val)
  · rw [if_pos hr] at hb ho ⊢
    rw [escCounted_coil, escCounted_escs, blankSeen_escs, hx]
    exact ⟨rfl, rfl, rfl, (if_pos hr).symm, hb, ho⟩
  · rw [if_neg hr] at hb ho ⊢
    rw [blankSeen_escs, hx]
    exact ⟨rfl, rfl, rfl, (if_neg hr).symm, hb, ho⟩

/-- Escalation level of the off phase that a trip begins: it falls by 4 unless the trip was found already set (R253). -/
def CoilSt.escTripped (x : CoilSt) : Nat := if x.seen then x.esc else x.esc - 4

/-- Fast-decay fraction of the off phase that a trip begins, in sixteenths (R252, R253). -/
def State.fracTripped (s : State) (n : Fin 4) (x : CoilSt) : Nat := min 16 (s.fastOf n x + x.escTripped)

/-- The off phase of a trip begins, with its sample (R250, R256). -/
def State.tripped (s : State) (n : Fin 4) (c : Fin 2) (code : Nat) : State :=
  s.updCoilAt n c.val (fun z => { z with
    phase := if s.fracTripped n ((s.cur.get n).coil c.val) = 0 then .slow else .fast
    esc := ((s.cur.get n).coil c.val).escTripped
    frac := s.fracTripped n ((s.cur.get n).coil c.val)
    seen := false
    sample := s.sampleOf n c code
    tripQ := true })

theorem chopperTrip_eq {code ton : Nat} (hc : s.chops n = true) (hp : ((s.cur.get n).coil c.val).phase = .on)
    (hs : ((s.cur.get n).coil c.val).setp ≠ 0) (hi : ((s.cur.get n).coil c.val).insTo = none) :
    ∃ t, exec (.chopperTrip n c code ton) s = .next t ∧
      t.cur = ((((s.tripped n c code).dropInserts n c.val).regCheck n c.val code (s.sampleOf n c code))).cur := by
  refine ⟨_, congrArg Host.Outcome.next (if_pos (by simp [hc, hp, hs, hi])), ?_⟩
  extract_lets
  split
  · exact coilSample_cur _ _ _ _ _ _
  · rfl

theorem chopperTrip_trips {code ton : Nat} (hc : s.chops n = true) (hp : ((s.cur.get n).coil c.val).phase = .on)
    (hs : ((s.cur.get n).coil c.val).setp ≠ 0) (hi : ((s.cur.get n).coil c.val).insTo = none) :
    Answers (.chopperTrip n c code ton) s (fun t => ((t.cur.get n).coil c.val).sample = s.sampleOf n c code ∧
      ((t.cur.get n).coil c.val).tripQ = true ∧ ((t.cur.get n).coil c.val).seen = false ∧ ((t.cur.get n).coil c.val).phase ≠ .on ∧
      ((t.cur.get n).coil c.val).frac = min 16 (s.ax n (if ((s.cur.get n).coil c.val).falling then 0x02 else 0x01) +
        (if ((s.cur.get n).coil c.val).seen then ((s.cur.get n).coil c.val).esc else ((s.cur.get n).coil c.val).esc - 4)) ∧
      ∀ m, m ≠ n → t.cur.get m = s.cur.get m) := by
  obtain ⟨t, e, ht⟩ := chopperTrip_eq (code := code) (ton := ton) hc hp hs hi
  have hk := regCheck_coil ((s.tripped n c code).dropInserts n c.val) n c.val code (s.sampleOf n c code)
  rw [← ht, dropInserts_cur, State.tripped, coil_updCoilAt] at hk
  have hoff : ((t.cur.get n).coil c.val).phase ≠ .on := by
    rcases hk.phase with h | h
    · rw [h]
      dsimp only
      split <;> nofun
    · rw [h]
      nofun
  exact ⟨t, e, hk.sample, hk.tripQ, hk.seen, hoff, hk.frac, (StaysBeside.chopperTrip c code ton _ e).cur_eq⟩

end

/-! ### The PWM period -/

/-- A value that is held within `a` of 0. -/
theorem abs_held_le {a : Rat} (ha : 0 ≤ a) (x : Rat) : |max (-a) (min a x)| ≤ a :=
  abs_le.mpr ⟨le_max_left _ _, max_le (neg_le_self ha) (min_le_left _ _)⟩

theorem bridges_cur (s : State) (n : Fin 4) (l : List (Fin 4)) (f : BridgeSt → BridgeSt) :
    (l.foldl (fun t b => t.updBridge n b f) s).cur = s.cur :=
  List.foldlRecOn (motive := fun t : State => t.cur = s.cur) _ _ rfl fun _ ht _ _ => ht

section
variable {n : Fin 4} {c : Fin 2} {s : State}

/-- A PWM period gives its coil an integral term and a duty, each held within its limit (R258, R259); what the coil is after the check of
the sample follows from it by `CoilSt.Checked` (R265). -/
theorem pwmPeriod_coil {code : Nat} (hr : s.regulates n = true) (hv : (s.cur.get n).voltage = true)
    (ha : ((s.cur.get n).coil c.val).raise = none) :
    ∃ (z : CoilSt) (t : State), exec (.pwmPeriod n c code) s = .next t ∧ z.Checked ((t.cur.get n).coil c.val) ∧
      z.prevSet = ((s.cur.get n).coil c.val).setp ∧ |z.duty| ≤ (s.ax n 0x26 : Nat) / 100 ∧ |z.ux| ≤ (s.power.vm : Rat) / 1000 / 4 := by
  have e : exec (.pwmPeriod n c code) s = execPwmPeriod n c code s := rfl
  rw [e, execPwmPeriod, if_neg (by simp [hr, hv])]
  extract_lets x mag lsb P T vm valid v err step into ux0 ux m sg th ke ex vx dm raw lim d1 d2 d b1 alter cv u t
  have hd : |d| ≤ dm := by
    have h1 : |d1| ≤ dm := abs_held_le (by positivity) raw
    have h2 : d2 = d1 := by simp only [d2, x, ha]
    simp only [d, h2]
    split
    · exact abs_zero.trans_le ((abs_nonneg _).trans h1)
    · exact h1
  have hux : |ux| ≤ vm / 4 := abs_held_le (by positivity) ux0
  have hcoil : (t.cur.get n).coil c.val = (u.cur.get n).coil c.val := by simp only [t, bridges_cur]
  simp only [u, updCur_cur, Quad.get_upd_self, coil_updCoil] at hcoil
  have hchk := regCheck_coil t n c.val code v
  refine ⟨(t.cur.get n).coil c.val, _, rfl, ?_, congrArg CoilSt.prevSet hcoil, ?_, ?_⟩
  · split
    · rwa [coilSample_cur]
    · split
      · rwa [coilSample_cur]
      · exact .refl _
  · rw [hcoil]
    exact hd
  · rw [hcoil]
    exact hux

theorem pwmPeriod_regulates {code : Nat} (hr : s.regulates n = true) (hv : (s.cur.get n).voltage = true)
    (ha : ((s.cur.get n).coil c.val).raise = none) :
    Answers (.pwmPeriod n c code) s (fun t => ((t.cur.get n).coil c.val).prevSet = ((s.cur.get n).coil c.val).setp ∧
      100 * ((t.cur.get n).coil c.val).duty ≤ (s.ax n 0x26 : Nat) ∧ -((s.ax n 0x26 : Nat) : Rat) ≤ 100 * ((t.cur.get n).coil c.val).duty ∧
      4000 * ((t.cur.get n).coil c.val).ux ≤ (s.power.vm : Nat) ∧ -((s.power.vm : Nat) : Rat) ≤ 4000 * ((t.cur.get n).coil c.val).ux ∧
      ∀ m, m ≠ n → t.cur.get m = s.cur.get m) := by
  obtain ⟨z, t, e, hz, hset, hd, hu⟩ := pwmPeriod_coil (code := code) hr hv ha
  have hd' : |((t.cur.get n).coil c.val).duty| ≤ (s.ax n 0x26 : Nat) / 100 := by
    rcases hz.duty with h | h
    · rwa [h]
    · rw [h, abs_zero]
      positivity
  rw [← hz.ux] at hu
  obtain ⟨hdl, hdr⟩ := abs_le.mp hd'
  obtain ⟨hul, hur⟩ := abs_le.mp hu
  exact ⟨t, e, hz.prevSet.trans hset, by linarith, by linarith, by linarith, by linarith, (StaysBeside.pwmPeriod c code _ e).cur_eq⟩

end

/-! ### Chisel tables and CUR_STATUS -/

theorem doneWith_cur (s : State) (h : Nat) (res : List Byte) : (s.doneWith h res).cur = s.cur :=
  only_cur (w := allBut .cur) (by simp) (by simp)

theorem writeWorking_cur (s : State) (w : List (Nat × Nat)) : (s.writeWorking w).cur = s.cur :=
  only_cur (w := allBut .cur) (by simp) (by simp)

theorem get_of_upd {α : Type} {p q : Quad α} {n : Fin 4} {f : α → α} (h : q = p.upd n f) :
    q.get n = f (p.get n) ∧ ∀ m, m ≠ n → q.get m = p.get m := by
  subst h
  exact ⟨Quad.get_upd_self p n f, fun m hm => (Quad.get_upd p n m f).trans (if_neg hm)⟩

section
variable (s : State) (h : Nat) (t : Option Chisel)

theorem setUserTab_cur : (s.setUserTab h t).cur = s.cur.upd (s.axisOf h) (fun x => { x with userTab := t }) :=
  writeWorking_cur _ _

theorem setUserTab_params : (s.setUserTab h t).params = s.params := writeWorking_params _ _

theorem setUserTab_waits : (s.setUserTab h t).intake.onVerdict.getLast?.map (fun x => x.hop) = some h := awaitVerdict_last _ _ _ _ _ _ _

end

theorem chiselLoad_starts : Starts chiselLoadSpec .chiselLoad (fun h b u => u.cur.get (b.axisOf h) = { b.cur.get (b.axisOf h) with
      userTab := some { label := BitVec.ofNat 32 (get32 (b.bulkBytes 0 chiselSize) 8), entries := fileEntries (b.bulkBytes 0 chiselSize) } } ∧
    (∀ m, m ≠ b.axisOf h → u.cur.get m = b.cur.get m) ∧ u.params = b.params ∧
    u.intake.onVerdict.getLast?.map (fun x => x.hop) = some h.val) := by
  refine starts_of_start (fun _ _ => rfl) (fun _ _ k => k) fun h b _ => ?_
  obtain ⟨hown, hother⟩ := get_of_upd (setUserTab_cur b h _)
  exact ⟨hown, hother, setUserTab_params _ _ _, setUserTab_waits _ _ _⟩

theorem chiselValidate_starts : Starts chiselValidateSpec .chiselValidate (fun h b u => u.hb h 12 = 1 ∧ u.cur = b.cur) :=
  starts_of_start (fun _ _ => rfl) (fun _ _ k => k) fun _ _ hw => ⟨doneWith_code hw _ _, doneWith_cur _ _ _⟩

/-- The write to flash is good, and the stored copy becomes the working table (R274). -/
def State.tabStored (s : State) (h : Nat) : State := s.flashWrite.2.updCur (s.axisOf h) (fun x => { x with storeTab := x.userTab })

/-- The write to flash fails, and FT-0x0123 is raised (R274; log entry 33). -/
def State.tabUnstored (s : State) : State := s.flashWrite.2.raise 0x0123 0 0 false

section
variable {s : State} {h : Nat}

theorem chiselSave_good (hg : s.flashWrite.1 = true) : chiselSaveSpec.start s h = (s.tabStored h).doneWith h [] := if_pos hg

theorem chiselSave_failed (hg : s.flashWrite.1 = false) : chiselSaveSpec.start s h = s.tabUnstored.finish h 6 0x0123 [] :=
  if_neg (Bool.eq_false_iff.mp hg)

theorem tabStored_wf (hw : s.slotsWf) : (s.tabStored h).slotsWf := hw

theorem tabUnstored_wf (hw : s.slotsWf) : s.tabUnstored.slotsWf := raise_wf (s := s.flashWrite.2) hw _ _ _ _

theorem tabStored_cur :
    ((s.tabStored h).doneWith h []).cur = s.cur.upd (s.axisOf h) (fun x => { x with storeTab := x.userTab }) := doneWith_cur _ _ _

theorem tabUnstored_cur : (s.tabUnstored.finish h 6 0x0123 []).cur = s.cur :=
  (only_cur (w := allBut .cur) (by simp [State.tabUnstored]) (by simp) :
    (s.tabUnstored.finish h 6 0x0123 []).cur = s.flashWrite.2.cur)

end

theorem chiselSave_starts : Starts chiselSaveSpec .chiselSave (fun h b u => u.hb h 12 = (if b.flashWrite.1 then 1 else 6) ∧
    (b.flashWrite.1 = true → u.cur.get (b.axisOf h) = { b.cur.get (b.axisOf h) with storeTab := (b.cur.get (b.axisOf h)).userTab }) ∧
    (b.flashWrite.1 = false → u.cur = b.cur) ∧
    ∀ m, m ≠ b.axisOf h → u.cur.get m = b.cur.get m) := by
  refine starts_of_start (fun _ _ => rfl) (fun _ _ k => k) fun h b hw => ?_
  cases hg : b.flashWrite.1 with
  | true =>
    rw [chiselSave_good hg]
    obtain ⟨hown, hother⟩ := get_of_upd (tabStored_cur (s := b) (h := h.val))
    exact ⟨doneWith_code (tabStored_wf hw) _ _, fun _ => hown, nofun, hother⟩
  | false =>
    rw [chiselSave_failed hg, tabUnstored_cur]
    exact ⟨finish_code _ _ _ _ _ (by decide) (tabUnstored_wf hw), nofun, fun _ => rfl, fun _ _ => rfl⟩

theorem chiselRead_starts : Starts chiselReadSpec .chiselRead (fun h b u => u.hb h 12 = 1 ∧ u.cur = b.cur) := by
  refine starts_of_start (fun _ _ => rfl) (fun _ _ k => k) fun h b hw => ?_
  dsimp only [chiselReadSpec]
  split <;> exact ⟨doneWith_code hw _ _, doneWith_cur _ _ _⟩

theorem axisOf_of_intake {s t : State} (e : t.intake = s.intake) (h : Nat) : t.axisOf h = s.axisOf h := by
  have hm : t.axmask h = s.axmask h := congrArg (fun i : IntakeSt => (cellGet i.slots (128 * h + 5)).toNat % 16) e
  rw [State.axisOf, hm]
  rfl

/-- The event of a missing stored copy changes neither the axis of the command nor the currents. -/
theorem chiselReload_cur (s : State) (h : Nat) : (chiselReloadSpec.start s h).cur =
    s.cur.upd (s.axisOf h) (fun x => { x with userTab := (s.cur.get (s.axisOf h)).storeTab }) := by
  have hev (c : Bool) (code qual : Nat) : (s.evIf c code qual).cur = s.cur := only_cur (w := allBut .cur) (by simp) (by simp)
  dsimp only [chiselReloadSpec]
  rw [setUserTab_cur, hev, axisOf_of_intake (evIf_intake _ _ _ _)]

theorem chiselReload_starts : Starts chiselReloadSpec .chiselReload (fun h b u =>
    u.cur.get (b.axisOf h) = { b.cur.get (b.axisOf h) with userTab := (b.cur.get (b.axisOf h)).storeTab } ∧
    (∀ m, m ≠ b.axisOf h → u.cur.get m = b.cur.get m) ∧ u.intake.onVerdict.getLast?.map (fun x => x.hop) = some h.val) := by
  refine starts_of_start (fun _ _ => rfl) (fun _ _ k => k) fun h b _ => ?_
  obtain ⟨hown, hother⟩ := get_of_upd (chiselReload_cur b h)
  exact ⟨hown, hother, setUserTab_waits _ _ _⟩

theorem curStatus_starts : Starts curStatusSpec .curStatus (fun h b u => u.hb h 12 = 1 ∧ u.cur = b.cur) :=
  starts_of_start (fun _ _ => rfl) (fun _ _ k => k) fun _ _ hw => ⟨doneWith_code hw _ _, doneWith_cur _ _ _⟩

/-- Settles O14: each clause by the lemma on its row or command. It rests in part on log entries 16 and 17, and the saves on 33 (the
read-back). -/
theorem currentComplete : Obligations.CurrentComplete :=
  ⟨fun _ _ => holdDelayExpiry_ramps, fun _ _ => holdRampEnd_enters, fun _ _ _ _ _ => chopperTrip_trips,
    fun _ _ _ _ hc hp ht => ⟨blankingEnd_unseen hc hp ht, blankingEnd_seen hc hp ht⟩, fun _ _ _ _ => fastDecayEnd_slows,
    fun _ _ _ => zeroComparatorTrip_slows, fun _ _ _ _ => offTimeEnd_turnsOn, fun _ _ _ _ _ => forcedSample_samples,
    fun _ _ _ _ => pwmPeriod_regulates, chiselLoad_starts, chiselValidate_starts, chiselSave_starts, chiselRead_starts,
    chiselReload_starts, curStatus_starts⟩

end Sys2Proof.Machine
end

section
/-! Wedge: WEDGE_LEARN on an enabled axis leaves the learning state as it was until the next boundary. -/

namespace Sys2Proof.Machine

theorem settle_wedge (s : State) : s.settle.wedge = s.wedge := only_wedge (w := allBut .wedge) (by simp) (by simp)

/-- While the axis is enabled, the baseline is discarded and the learning state waits for the boundary (chapter 09, WEDGE_LEARN). -/
theorem wedgeLearn_start_wedge_of_enabled {s : State} {h : Nat} (hon : s.axOff (s.axisOf h) = false) :
    (wedgeLearnSpec.start s h).wedge = s.wedge.upd (s.axisOf h) WedgeSt.discard := by
  have hoff : ¬ (s.updWedge (s.axisOf h) WedgeSt.discard).axOff (s.axisOf h) = true := ne_true_of_eq_false hon
  have hkeep (t : State) (code qual : Nat) : ((t.ev code qual).doneWith h []).wedge = t.wedge :=
    only_wedge (w := allBut .wedge) (by simp) (by simp)
  dsimp only [wedgeLearnSpec]
  rw [hkeep, if_neg hoff]
  rfl

/-- Through the common work of the step, an accepted WEDGE_LEARN of an enabled axis keeps its learning state. -/
theorem wedgeLearn_keeps_learn {s u : State} {h : Fin 32} (ha : s.accepts wedgeLearnSpec h = true)
    (hon : (s.begun wedgeLearnSpec h).axOff ((s.begun wedgeLearnSpec h).axisOf h) = false)
    (e : exec (.wedgeLearn h) s = .next u.settle) :
    (u.wedge.get ((s.begun wedgeLearnSpec h).axisOf h)).learn =
      ((s.begun wedgeLearnSpec h).wedge.get ((s.begun wedgeLearnSpec h).axisOf h)).learn := by
  have hrow : exec (.wedgeLearn h) s = .next (wedgeLearnSpec.start (s.begun wedgeLearnSpec h) h).settle :=
    congrArg Host.Outcome.next (takeRow_accepts ha)
  have hsettled := congrArg State.wedge (Host.Outcome.next.inj (e.symm.trans hrow))
  rw [settle_wedge, settle_wedge, wedgeLearn_start_wedge_of_enabled hon] at hsettled
  rw [(get_of_upd hsettled).1, WedgeSt.discard]

/-- Axis 0 is Ready with a learned baseline, and a WEDGE_LEARN of it is registered in hopper 0. -/
def learnOfReadyAxis : State :=
  { State.reset with
    power := { State.reset.power with axes := State.reset.power.axes.set 0 { seq := .ready } }
    wedge := State.reset.wedge.set 0 { learn := .learned }
    intake := { State.reset.intake with
      starts := 1
      slots := cellWrite State.reset.intake.slots 0 (le16 wedgeLearnSpec.op ++ le16 1 ++ [0, 1])
      hops := updAt State.reset.intake.hops 0 (fun x => { x with stage := .registered }) } }

theorem learnOfReadyAxis_accepts :
    learnOfReadyAxis.accepts wedgeLearnSpec (0 : Fin 32) = true ∧ cellWf learnOfReadyAxis.intake.slots = true := by
  decide +kernel

theorem learnOfReadyAxis_begun :
    let b := learnOfReadyAxis.begun wedgeLearnSpec (0 : Fin 32)
    b.axOff (b.axisOf (0 : Fin 32)) = false ∧ (b.wedge.get (b.axisOf (0 : Fin 32))).learn = .learned := by
  decide +kernel

/-- Refutes O15: its clause on WEDGE_LEARN has the axis in LEARNING at once, but an enabled axis becomes so only at the next boundary
(chapter 09, WEDGE_LEARN). In `learnOfReadyAxis` the command is accepted and the learning state stays LEARNED. -/
theorem not_wedgeComplete : ¬ Obligations.WedgeComplete := by
  rintro ⟨-, -, -, -, hclause, -⟩
  obtain ⟨haccepts, hwf⟩ := learnOfReadyAxis_accepts
  obtain ⟨hon, hlearned⟩ := learnOfReadyAxis_begun
  obtain ⟨u, e, -, -, hlearning, -⟩ := hclause 0 learnOfReadyAxis haccepts hwf
  have hcontra : LearnState.learning = .learned := hlearning.symm.trans ((wedgeLearn_keeps_learn haccepts hon e).trans hlearned)
  contradiction

end Sys2Proof.Machine
end

section
/-! The two switches of a half-bridge are never both on or turning on (R301, O48). The frame laws carry `Apart` through the operations off
the gates, and only the operations on the gates need a lemma of their own. A switch turns on in `BridgeSt.edgeOn` alone, where its partner is off; every other operation turns switches off or leaves them. -/

namespace Sys2Proof.Machine

/-! ### One half-bridge -/

/-- No switch is on or turning on in `b'` that is not in `b`. -/
structure BridgeSt.Calms (b b' : BridgeSt) : Prop where
  hi : b'.hi.turning = true → b.hi.turning = true
  lo : b'.lo.turning = true → b.lo.turning = true

theorem BridgeSt.apart_iff (b : BridgeSt) : b.apart = true ↔ ¬ (b.lo.turning = true ∧ b.hi.turning = true) := by
  rw [BridgeSt.apart, Bool.not_eq_true', ← Bool.and_eq_true, Bool.not_eq_true]

theorem BridgeSt.apart_of_still_sw {b : BridgeSt} {high : Bool} (h : (b.sw high).turning = false) : b.apart = true := by
  cases high <;> simp_all [BridgeSt.apart, BridgeSt.sw]

theorem SwitchSt.turning_of_off {x : SwitchSt} (h : x.phase = .off) : x.turning = false := by
  simp [SwitchSt.turning, h]

namespace BridgeSt.Calms

variable {a b c : BridgeSt}

theorem refl (b : BridgeSt) : b.Calms b := ⟨id, id⟩

theorem apart (h : a.Calms b) (ha : a.apart = true) : b.apart = true := by
  rw [apart_iff] at *
  exact fun k => ha ⟨h.lo k.1, h.hi k.2⟩

theorem ite {p : Prop} [Decidable p] (hb : p → a.Calms b) (hc : ¬ p → a.Calms c) : a.Calms (if p then b else c) := by
  split
  · exact hb ‹_›
  · exact hc ‹_›

/-- The end of an interval of the low side changes neither switch. -/
theorem lowEnds (h : a.Calms b) (T pulse : Nat) : a.Calms (b.lowEnds T pulse) := by
  unfold BridgeSt.lowEnds
  split
  · exact h
  · exact ite (fun _ => ⟨h.hi, h.lo⟩) fun _ => ⟨h.hi, h.lo⟩

theorem startOff (h : a.Calms b) (high : Bool) (T pulse : Nat) : a.Calms (b.startOff high T pulse) := by
  have off (x : SwitchSt) : x.startOff.turning ≠ true := by simp [startOff_turning]
  exact ite (fun _ => ⟨fun k => absurd k (off b.hi), h.lo⟩) fun _ => lowEnds (b := { b with lo := b.lo.startOff }) ⟨h.hi, fun k => absurd k (off b.lo)⟩ T pulse

theorem turnOff (h : a.Calms b) (high : Bool) (T pulse : Nat) : a.Calms (b.turnOff high T pulse) :=
  have hs := h.startOff high T pulse
  ite (fun _ => ⟨hs.hi, hs.lo⟩) fun _ => hs

theorem allOff (h : a.Calms b) (T pulse : Nat) : a.Calms (b.allOff T pulse) :=
  have hs := (h.startOff true T pulse).startOff false T pulse
  ⟨hs.hi, hs.lo⟩

theorem lowOn (h : a.Calms b) (blocked : Bool) (T pulse : Nat) : a.Calms (b.lowOn blocked T pulse) :=
  have hs := h.startOff true T pulse
  ite (fun _ => h.allOff T pulse) fun _ => ⟨hs.hi, hs.lo⟩

theorem endRecharge (h : a.Calms b) (next : Option Bool) (T pulse : Nat) : a.Calms (b.endRecharge next T pulse) :=
  have hs := h.turnOff false T pulse
  ⟨hs.hi, hs.lo⟩

theorem dead (b : BridgeSt) : b.Calms b.dead := ⟨nofun, nofun⟩

/-- An update of one switch that does not turn it on. -/
theorem updSw (h : a.Calms b) (high : Bool) {f : SwitchSt → SwitchSt} (hf : (f (b.sw high)).turning = true → (b.sw high).turning = true) :
    a.Calms (b.updSw high f) := by
  cases high
  · exact ⟨h.hi, h.lo ∘ hf⟩
  · exact ⟨h.hi ∘ hf, h.lo⟩

end BridgeSt.Calms

theorem edgeOn_sw_partner (b : BridgeSt) (high : Bool) (vds T : Nat) : (b.edgeOn high vds T).sw (!high) = b.sw (!high) := by
  cases high <;> rfl

theorem turnOn_apart {b : BridgeSt} (h : b.apart = true) (high : Bool) (vds T : Nat) : (b.turnOn high vds T).apart = true := by
  unfold BridgeSt.turnOn
  split
  · next hoff =>
    refine BridgeSt.apart_of_still_sw (high := !high) ?_
    rw [edgeOn_sw_partner]
    exact SwitchSt.turning_of_off hoff
  · exact h

theorem startOn_apart {b : BridgeSt} (h : b.apart = true) (high blocked : Bool) (vds bs T : Nat) :
    (b.startOn high blocked vds bs T).apart = true := by
  unfold BridgeSt.startOn
  split
  · exact h
  · exact turnOn_apart h high vds T

/-! ### The gates of an axis and of the device -/

/-- No half-bridge of the axis has both its switches on or turning on. -/
structure GateSt.Apart (g : GateSt) : Prop where
  a1 : g.a1.apart = true
  a2 : g.a2.apart = true
  b1 : g.b1.apart = true
  b2 : g.b2.apart = true

namespace GateSt.Apart

variable {g : GateSt}

theorem br (h : g.Apart) (b : Fin 4) : (g.br b).apart = true :=
  match b with
  | 0 => h.a1
  | 1 => h.a2
  | 2 => h.b1
  | 3 => h.b2

theorem of_br (h : ∀ b, (g.br b).apart = true) : g.Apart := ⟨h 0, h 1, h 2, h 3⟩

theorem updBr (h : g.Apart) (b : Fin 4) {f : BridgeSt → BridgeSt} (hf : (g.br b).apart = true → (f (g.br b)).apart = true) :
    (g.updBr b f).Apart :=
  match b with
  | 0 => ⟨hf h.a1, h.a2, h.b1, h.b2⟩
  | 1 => ⟨h.a1, hf h.a2, h.b1, h.b2⟩
  | 2 => ⟨h.a1, h.a2, hf h.b1, h.b2⟩
  | 3 => ⟨h.a1, h.a2, h.b1, hf h.b2⟩

theorem mapBr (h : g.Apart) {f : BridgeSt → BridgeSt} (hf : ∀ b, BridgeSt.Calms b (f b)) : (g.mapBr f).Apart :=
  ⟨(hf _).apart h.a1, (hf _).apart h.a2, (hf _).apart h.b1, (hf _).apart h.b2⟩

theorem foldl {α : Type} {f : GateSt → α → GateSt} (hf : ∀ g a, GateSt.Apart g → (f g a).Apart) (l : List α) (h : g.Apart) :
    (l.foldl f g).Apart := List.foldlRecOn l f h fun g hg a _ => hf g a hg

end GateSt.Apart

/-- The invariant of O48 as a proposition: no half-bridge of the device has both its switches on or turning on. -/
structure Apart (s : State) : Prop where
  gates : ∀ n, (s.gate.get n).Apart

theorem apart_iff (s : State) : s.apart = true ↔ Apart s := by
  unfold State.apart
  constructor
  · intro h
    refine ⟨fun n => .of_br fun b => ?_⟩
    fin_cases n <;> fin_cases b <;> simp_all [axes4]
  · intro h
    simp only [List.all_eq_true]
    exact fun n _ b _ => (h.gates n).br b

namespace Apart

variable {s t : State}

/-- What leaves the gates alone keeps the invariant. -/
theorem of_blank (h : Apart s) (e : t.blank (allBut .gate) = s.blank (allBut .gate)) : Apart t :=
  have hg : t.gate = s.gate := only_gate e (by simp)
  ⟨hg ▸ h.gates⟩

theorem ite {c : Prop} [Decidable c] (hs : c → Apart s) (ht : ¬ c → Apart t) : Apart (if c then s else t) := iteInduction hs ht

theorem foldl {α : Type} {f : State → α → State} (hf : ∀ t a, Apart t → Apart (f t a)) (l : List α) (h : Apart s) :
    Apart (l.foldl f s) := List.foldlRecOn l f h fun t ht a _ => hf t a ht

theorem forAxes {f : Fin 4 → State → State} (hf : ∀ n t, Apart t → Apart (f n t)) (h : Apart s) :
    Apart (Machine.forAxes s f) := hf 3 _ (hf 2 _ (hf 1 _ (hf 0 _ h)))

theorem updGate_of (h : Apart s) (n : Fin 4) {f : GateSt → GateSt} (hf : (s.gate.get n).Apart → (f (s.gate.get n)).Apart) :
    Apart (s.updGate n f) := by
  refine ⟨fun m => ?_⟩
  rw [updGate_gate, Quad.get_upd]
  split
  · exact hf (h.gates n)
  · exact h.gates m

theorem updGate (h : Apart s) (n : Fin 4) {f : GateSt → GateSt} (hf : ∀ g, GateSt.Apart g → (f g).Apart) : Apart (s.updGate n f) :=
  h.updGate_of n (hf _)

theorem updBridge (h : Apart s) (n b : Fin 4) {f : BridgeSt → BridgeSt}
    (hf : (s.bridge n b).apart = true → (f (s.bridge n b)).apart = true) : Apart (s.updBridge n b f) :=
  h.updGate_of n fun hg => hg.updBr b hf

/-- An update of a half-bridge that turns no switch on. -/
theorem calm (h : Apart s) (n b : Fin 4) {f : BridgeSt → BridgeSt} (hf : (s.bridge n b).Calms (f (s.bridge n b))) :
    Apart (s.updBridge n b f) := h.updBridge n b hf.apart

/-- A new gate drive has every switch off. -/
theorem of_new {s : State} (h : s.gate = Quad.all {}) : Apart s := by
  refine ⟨fun n => ?_⟩
  rw [h, Quad.get_all]
  exact ⟨rfl, rfl, rfl, rfl⟩

end Apart

end Sys2Proof.Machine
end

section
/-! The operations of the model keep the switches of every half-bridge apart (O48). -/

namespace Sys2Proof.Machine

namespace Apart

variable {s t : State}

/-! ### Gates -/

theorem switchesOff (h : Apart s) (n : Fin 4) : Apart (s.switchesOff n) :=
  h.updGate n fun _ hg => hg.mapBr fun b => (BridgeSt.Calms.refl b).allOff _ _

theorem gatesDead (h : Apart s) (n : Fin 4) : Apart (s.gatesDead n) := h.updGate n fun _ hg => hg.mapBr BridgeSt.Calms.dead

theorem clampOn (h : Apart s) (n : Fin 4) : Apart (s.clampOn n) := by
  unfold State.clampOn
  refine foldl (fun t b ht => ?_) axes4 h
  split
  · exact ht.calm n b ((BridgeSt.Calms.refl _).lowOn _ _ _)
  · exact ht.calm n b ((BridgeSt.Calms.refl _).allOff _ _)

theorem forceWant (h : Apart s) (n : Fin 4) : Apart (s.forceWant n) := by
  unfold State.forceWant
  refine foldl (fun t b ht => ?_) axes4 h
  split
  · exact ht.calm n b ((BridgeSt.Calms.refl _).lowOn _ _ _)
  · exact ht.calm n b ((BridgeSt.Calms.refl _).allOff _ _)
  · exact ht

theorem nextInsert (h : Apart s) (n : Fin 4) : Apart (s.nextInsert n) := by
  refine .ite (fun _ => h) fun _ => ?_
  split
  · next k _ =>
    have hs := (BridgeSt.Calms.refl (s.bridge n k)).startOff true 0 0
    exact updGate (h.calm n k ⟨hs.hi, hs.lo⟩) n fun _ hg => ⟨hg.a1, hg.a2, hg.b1, hg.b2⟩
  · exact h

theorem evFree (h : Apart s) (code : Nat) : Apart (s.evFree code) := h.of_blank (by simp)

theorem note (h : Apart s) (code qual : Nat) (axes : BitVec 4) (cond : Bool) : Apart (s.note code qual axes cond) := h.of_blank (by simp)

theorem notePlateau (h : Apart s) (n : Fin 4) (bound : Bool) (why : Nat) : Apart (s.notePlateau n bound why) := by
  unfold State.notePlateau
  extract_lets u v
  have hu : Apart u := by
    refine .ite (fun _ => evFree (h.updGate n ?_) _) fun _ => h
    exact fun _ hg => ⟨hg.a1, hg.a2, hg.b1, hg.b2⟩
  have hv : Apart v := hu.updGate n fun _ hg => ⟨hg.a1, hg.a2, hg.b1, hg.b2⟩
  refine .ite (fun _ => .ite (fun _ => hv) fun _ => evFree (hv.updGate n ?_) _) fun _ => hu
  exact fun _ hg => ⟨hg.a1, hg.a2, hg.b1, hg.b2⟩

/-- The switch whose P2 ends was turning on, if it does at all. -/
theorem plateau (h : Apart s) (n b : Fin 4) (high rising : Bool) (vds vgs len : Nat) (lag : Int)
    (hr : rising = true → ((s.bridge n b).sw high).turning = true) : Apart (s.plateau n b high rising vds vgs len lag) := by
  unfold State.plateau
  split
  · exact h
  · refine notePlateau (h.calm n b ((BridgeSt.Calms.refl _).updSw high ?_)) n _ _
    cases rising
    · nofun
    · exact fun _ => hr rfl

theorem latch (h : Apart s) (n b : Fin 4) (high : Bool) (cause T : Nat) : Apart (s.latch n b high cause T) := by
  have hz := ((BridgeSt.Calms.refl (s.bridge n b)).turnOff high T (s.ps n 0x11)).updSw high
    (f := fun x => { x with cause := cause, fault := decide (cause ≠ 6), latchAt := some T }) id
  unfold State.latch
  dsimp only
  split
  · refine .ite (fun _ => h.calm n b ?_) fun _ => h
    exact (BridgeSt.Calms.refl _).updSw high id
  · refine nextInsert (updGate (h.calm n b ?_) n ?_) n
    · exact .ite (fun _ => ⟨hz.hi, hz.lo⟩) fun _ => .ite (fun _ => ⟨hz.hi, hz.lo⟩) fun _ => hz
    · exact fun _ hg => ⟨hg.a1, hg.a2, hg.b1, hg.b2⟩

theorem switchFault (h : Apart s) (n : Fin 4) (sw : List (Fin 4 × Bool)) (cause code qual T : Nat) :
    Apart (s.switchFault n sw cause code qual T) :=
  (foldl (fun _ x ht => ht.latch n x.1 x.2 cause T) sw h).note _ _ _ _

theorem pendingOn (h : Apart s) (n b : Fin 4) (high : Bool) (vds bs T : Nat) : Apart (s.pendingOn n b high vds bs T) := by
  unfold State.pendingOn
  extract_lets back low t
  have ht : Apart t := h.updBridge n b fun _ => startOn_apart (BridgeSt.apart_of_still_sw (high := !high) (by cases high <;> rfl)) _ _ _ _ _
  refine .ite (fun _ => nextInsert (.ite (fun _ => ht.of_blank ?_) fun _ => ht) n) fun _ => ht
  simp

theorem setSources (h : Apart s) (n : Fin 4) (a b : Option (Bool × Nat)) : Apart (s.setSources n a b) :=
  h.updGate n fun _ hg => ⟨hg.a1, hg.a2, hg.b1, hg.b2⟩

theorem setTest (h : Apart s) (n : Fin 4) (t : Option OffTest) : Apart (s.setTest n t) := by
  have ht : Apart { s with mon := { s.mon with tests := s.mon.tests.set n t } } := h.of_blank (by simp)
  exact .ite (fun _ => ht.setSources n none none) fun _ => ht

theorem testPhase (h : Apart s) (n : Fin 4) : Apart (s.testPhase n) := by
  unfold State.testPhase
  split
  · exact h
  · split <;> exact h.setSources n _ _

theorem clampBack (h : Apart s) (n : Fin 4) : Apart (s.clampBack n) := .ite (fun _ => h.clampOn n) fun _ => h

theorem abandonTest (h : Apart s) (n : Fin 4) (detail : Nat) : Apart (s.abandonTest n detail) := by
  unfold State.abandonTest
  split
  · exact h
  · have hc := (h.setTest n none).clampBack n
    exact .ite (fun _ => h) fun _ => .ite (fun _ => hc.of_blank (by simp)) fun _ => hc

theorem beginTest (h : Apart s) (n : Fin 4) (source k : Nat) : Apart (s.beginTest n source k) := by
  have ht : Apart { s with mon := { s.mon with rows4 := s.mon.rows4.set n none } } := h.of_blank (by simp)
  exact .ite (fun _ => ((ht.setTest n _).testPhase n).switchesOff n) fun _ => (ht.setTest n _).testPhase n

/-! ### Coils -/

theorem enterHold (h : Apart s) (n : Fin 4) (x : HoldState) : Apart (s.enterHold n x) := by
  unfold State.enterHold
  extract_lets old u
  have hu : Apart u := h.of_blank (by simp [u])
  refine .ite (fun _ => hu) fun _ => ?_
  split
  · exact (hu.switchesOff n).updGate n fun _ hg => ⟨hg.a1, hg.a2, hg.b1, hg.b2⟩
  · exact hu.switchesOff n
  · exact hu.switchesOff n
  · exact hu.clampOn n
  · exact .ite (fun _ => hu) fun _ => (hu.switchesOff n).of_blank (by simp)

theorem curBoundary (h : Apart s) (n : Fin 4) : Apart (s.curBoundary n) := by
  unfold State.curBoundary
  extract_lets x next rampF ma since s1 s2
  have h2 : Apart s2 := .ite (fun _ => h.of_blank (by simp [s1])) fun _ => h.of_blank (by simp [s1])
  exact .ite (fun _ => (h2.enterHold n .off).of_blank (by simp)) fun _ => enterHold (h2.of_blank (by simp)) n next

theorem dropInserts (h : Apart s) (n : Fin 4) (c : Nat) : Apart (s.dropInserts n c) := by
  unfold State.dropInserts
  refine nextInsert (foldl (fun t b ht => ht.calm n b ?_) _ h) n
  split
  · exact ⟨id, id⟩
  · exact .refl _

/-! ### Twin link, monitors and the axes -/

theorem actoClear (h : Apart s) : Apart s.actoClear :=
  forAxes (fun n _ ht => .ite (fun _ => ht.switchesOff n) fun _ => ht) (h.of_blank (by simp))

theorem twinDisable (h : Apart s) : Apart s.twinDisable := h.actoClear.of_blank (by simp [State.twinDisable])

theorem leaveActive (h : Apart s) (next : TwinRole) : Apart (s.leaveActive next) :=
  h.actoClear.of_blank (by simp [State.leaveActive])

theorem temperature (h : Apart s) (v : Int) : Apart (s.temperature v) := by
  unfold State.temperature
  extract_lets p s1 m s2 s3
  have h2 : Apart s2 := h.of_blank (by simp only [s2, s1, m, p]; (repeat' split) <;> simp)
  have h3 : Apart s3 := forAxes (fun n _ ht => (ht.switchesOff n).updGate n fun _ hg => ⟨hg.a1, hg.a2, hg.b1, hg.b2⟩) h2
  exact .ite (fun _ => h3.of_blank (by simp)) fun _ => h2.of_blank (by simp)

theorem insertBegin (h : Apart s) (k : Nat) : Apart (s.insertBegin k) := by
  unfold State.insertBegin
  split
  · exact .ite (fun _ => h.beginTest _ 1 0) fun _ => .ite (fun _ => h.of_blank (by simp)) fun _ => h.of_blank (by simp)
  · exact h.of_blank (by simp)
  · exact h.of_blank (by simp)
  · exact h

theorem axToOff (h : Apart s) (n : Fin 4) : Apart (s.axToOff n) := by
  unfold State.axToOff
  extract_lets s1
  have h1 : Apart s1 := h.of_blank (by simp [s1])
  exact (h1.gatesDead n).of_blank (by simp)

theorem axFail (h : Apart s) (n : Fin 4) (code : Nat) : Apart (s.axFail n code) := by
  unfold State.axFail
  extract_lets s1 s2 s3 s4 s5 ons s6 s7 s8 s9 s10
  have h1 : Apart s1 := (h.switchesOff n).of_blank (by simp [s1])
  have h3 : Apart s3 := h1.of_blank (by simp only [s3, s2]; split <;> simp)
  have h4 : Apart s4 := ((h3.abandonTest n 0xFFFF).setTest n none).gatesDead n
  have h6 : Apart s6 := h4.of_blank (by simp only [s6]; split <;> simp [s5])
  have h10 : Apart s10 := h6.of_blank (by simp [s10, s9, s8, s7])
  exact .ite (fun _ => h) fun _ => .ite (fun _ => h10) fun _ => h10.axToOff n

theorem axSupplyFail (h : Apart s) (n : Fin 4) (code : Nat) : Apart (s.axSupplyFail n code) :=
  .ite (fun _ => h.of_blank (by simp)) fun _ => h.axFail n code

theorem raiseFail (h : Apart s) (n : Fin 4) (code qual : Nat) : Apart (s.raiseFail n code qual) :=
  axFail (h.of_blank (by simp)) n code

theorem gateReady (h : Apart s) (n : Fin 4) : Apart (s.gateReady n) := h.updGate n fun _ hg => ⟨hg.a1, hg.a2, hg.b1, hg.b2⟩

theorem beginUp (h : Apart s) (n : Fin 4) : Apart (s.beginUp n) := by
  unfold State.beginUp
  extract_lets s1 s2 p s3
  have h1 : Apart s1 := (h.gateReady n).updGate n fun _ hg => ⟨hg.a1, hg.a2, hg.b1, hg.b2⟩
  exact h1.of_blank (by simp [s3, s2])

theorem tryUp (h : Apart s) (n : Fin 4) (d3 : Bool) : Apart (s.tryUp n d3) := by
  unfold State.tryUp
  extract_lets s1
  have h1 : Apart s1 := h.of_blank (by simp [s1])
  exact .ite (fun _ => h1.beginUp n) fun _ => h1

theorem axReadyNow (h : Apart s) (n : Fin 4) : Apart (s.axReadyNow n) := by
  unfold State.axReadyNow
  extract_lets s1 s2 s3
  have h1 : Apart (s1.restoreIndex n) := h.of_blank (by simp [s1])
  exact (h1.gateReady n).of_blank (by simp [s3, s2])

theorem axBack (h : Apart s) (n : Fin 4) : Apart (s.axBack n) := by
  unfold State.axBack
  extract_lets s1
  have h1 : Apart s1 := h.of_blank (by simp [s1])
  exact (h1.gateReady n).of_blank (by simp)

theorem beginDown (h : Apart s) (n : Fin 4) : Apart (s.beginDown n) := by
  unfold State.beginDown
  extract_lets q x s1 s2 s3
  have h2 : Apart s2 := abandonTest (h.of_blank (by simp [s1])) n q
  refine h2.of_blank ?_
  (repeat' split) <;> simp [s3]

theorem axSeqFrame (h : Apart s) (n : Fin 4) : Apart (s.axSeqFrame n) := by
  unfold State.axSeqFrame
  split
  · exact .ite (fun _ => h.beginDown n) fun _ => h
  · exact .ite (fun _ => h.of_blank (by simp)) fun _ => h
  · exact h

theorem upStep (h : Apart s) (n : Fin 4) (k : Nat) (vals : List Int) : Apart (s.upStep n k vals) := by
  unfold State.upStep
  extract_lets s1
  have h1 : Apart s1 := h.of_blank (by simp [s1])
  split
  · have hg := updGate (s := s1.setSeq n (fun a => { a with supply := true })) (h1.of_blank (by simp)) n
      (f := fun g => { g with fallNote := false, riseNote := false, enBack := 0, hwOff := false }) fun _ hg => ⟨hg.a1, hg.a2, hg.b1, hg.b2⟩
    exact .ite (fun _ => hg) fun _ => hg.clampOn n
  · exact h1.switchesOff n
  · have hs := of_blank (h1.switchesOff n) (t := ((axes4.foldl (fun t b => t.updItem (0x10 + 4 * n.val + b.val) (fun x => { x with age := 0 }))
      (s1.switchesOff n)).setSeq n (fun a => { a with calEnd := some (s1.frame.counter + 4), recal := false }))) (by simp)
    exact .ite (fun _ => hs) fun _ => hs.beginTest n 0 0
  · exact h1.of_blank (by simp)

/-! ### Checkpoints of an axis -/

theorem axReversed (h : Apart s) (n : Fin 4) : Apart (s.axReversed n) := h.of_blank (by simp)

/-- The way of an axis from step 1 to 4 to the next, or to D2 when a request to go down waits. -/
theorem axCheckpoint (h : Apart s) (n : Fin 4) (vals : List Int) : Apart (s.axCheckpoint n vals) := by
  unfold State.axCheckpoint
  extract_lets on clear frame up6 ready down d2 s3 off
  have hc {t : State} (ht : Apart t) : Apart (clear t) := ht.of_blank (by simp [clear])
  split
  · have h6 : Apart up6 := (hc h).of_blank (by simp [up6])
    have hr : Apart ready := .ite (fun _ => h6.axBack n) fun _ => h6.axReadyNow n
    exact .ite (fun _ => h) fun _ => .ite (fun _ => axReversed (beginDown (hr.of_blank (by simp)) n) n) fun _ => hr.of_blank (by simp)
  · next k _ _ =>
    refine .ite (fun _ => h) fun _ => ?_
    split
    · next code q rest _ =>
      have hr : Apart (rest.foldl (fun (t : State) x => t.raise x.1 (x.2.getD 0) (axBits n) false) s) := h.of_blank (by simp)
      split
      · exact hr.raiseFail n code _
      · exact raiseFail (hr.of_blank (by simp)) n code _
    · extract_lets s1 s2 s3 s4 s5
      have h2 : Apart s2 := h.of_blank (by simp only [s2, s1]; split <;> simp)
      have hu : Apart ((clear s2).upStep n k vals) := (hc h2).upStep n k vals
      have h4 : Apart s4 := (h2.upStep n k vals).of_blank (by simp [s4, s3, clear])
      have h5 : Apart s5 := hu.of_blank (by simp [s5])
      exact .ite (fun _ => ((h4.switchesOff n).setTest n none).of_blank (by simp)) fun _ =>
        .ite (fun _ => (h5.switchesOff n).setTest n none) fun _ => hu.of_blank (by simp)
  · have h1 : Apart down := hc (h.of_blank (by simp))
    have h2 : Apart d2 := switchesOff (h1.of_blank (by simp)) n
    exact .ite (fun _ => h) fun _ => .ite (fun _ => h1.of_blank (by simp)) fun _ => (h2.setTest n none).of_blank (by simp)
  · have h1 : Apart s3 := hc (h.of_blank (by simp))
    exact .ite (fun _ => h) fun _ => .ite (fun _ => (h1.tryUp n true).of_blank (by simp)) fun _ => h1.of_blank (by simp)
  · have h1 : Apart off := (hc h).of_blank (by simp [off])
    exact .ite (fun _ => h) fun _ => .ite (fun _ => (h1.tryUp n false).of_blank (by simp)) fun _ => h1.axToOff n
  · exact h

/-! ### The start of SYS -/

/-- Of the gates only the causes of latches outlast a start of SYS (R329). -/
theorem onlyLatches (g : GateSt) : g.onlyLatches.Apart := ⟨rfl, rfl, rfl, rfl⟩

theorem sysClear (s : State) (cause : Nat) : Apart (s.sysClear cause) := by
  refine ⟨fun n => ?_⟩
  fin_cases n <;> exact onlyLatches _

theorem startFromOff (s : State) (cause : Nat) : Apart (s.startFromOff cause) := by
  unfold State.startFromOff
  exact (sysClear s cause).of_blank (by simp)

theorem bootTestFails (h : Apart s) (bit code : Nat) : Apart (s.bootTestFails bit code) := by
  unfold State.bootTestFails
  extract_lets again s1 m v s2 s3
  exact .ite (fun _ => h.of_blank (by simp [s1])) fun _ => (sysClear s2 4).of_blank (by simp [s3])

theorem sysReady (h : Apart s) (gone : Nat) : Apart (s.sysReady gone) := by
  unfold State.sysReady
  extract_lets woke f base f2 fault strapped p q r hs s1 v s2 s3 s4 s5
  have h4 : Apart s4 := h.of_blank (by simp only [s4, s3, s2]; (repeat' split) <;> simp [s1])
  have h5 : Apart s5 := .ite (fun _ => (forAxes (fun n t ht => ht.axSupplyFail n 0x1306) h4).of_blank (by simp)) fun _ => h4
  exact h5.of_blank (by simp)

/-! ### Units and domains -/

theorem unitStop (h : Apart s) (b : Nat) : Apart (s.unitStop b) := by
  unfold State.unitStop
  extract_lets off u
  refine .ite (fun _ => h.twinDisable.of_blank (by simp [off])) fun _ => h.of_blank ?_
  (repeat' split) <;> simp [u, off]

theorem unitsService (h : Apart s) : Apart s.unitsService := by
  have hd : Apart s.unitsDown := by
    unfold State.unitsDown
    extract_lets u
    have hu : Apart u := foldl (fun t b ht => ht.unitStop b) _ h
    refine hu.of_blank (foldl_blank _ (fun t d => ?_) _ _)
    dsimp only
    (repeat' split) <;> simp
  exact hd.of_blank (by simp [State.unitsService])

theorem domQuiesce (h : Apart s) (d : Domain) : Apart (s.domQuiesce d) := by
  unfold State.domQuiesce
  cases d with
  | twin => exact h.actoClear.of_blank (by simp)
  | _ => exact h.of_blank (by simp)

theorem domDrop (h : Apart s) (d : Domain) (code : Nat) : Apart (s.domDrop d code) := by
  unfold State.domDrop
  extract_lets one
  have ho {t : State} (ht : Apart t) (d : Domain) : Apart (one t d) := .ite (fun _ => ht) fun _ => (ht.domQuiesce d).of_blank (by simp)
  split
  · exact forAxes (fun n t ht => ht.axFail n code) (ho (ho h .aux) .ana)
  · exact forAxes (fun n t ht => ht.axFail n code) (ho h .aux)
  · exact ho h _

theorem settleDoms (h : Apart s) : Apart s.settleDoms := by
  unfold State.settleDoms
  extract_lets one u
  have hu : Apart u := .ite (fun _ => h.of_blank (by simp)) fun _ => h
  refine foldl (fun t d ht => ?_) _ hu
  simp only [one]
  split
  · exact .ite (fun _ => ht.of_blank (by simp)) fun _ => ht
  · exact (ht.domQuiesce d).of_blank (by simp)
  · exact ht

theorem changeEnd (h : Apart s) : Apart s.changeEnd := by
  unfold State.changeEnd
  split
  · exact .ite (fun _ => h.of_blank (by simp)) fun _ => h
  · extract_lets pres wake u
    have hu : Apart u := sysClear _ _
    exact .ite (fun _ => hu.of_blank (by simp)) fun _ => h
  · exact h

theorem changeStep (h : Apart s) : Apart s.changeStep := by
  unfold State.changeStep
  split
  · refine .ite (fun _ => h) fun _ => ?_
    split
    · exact changeEnd (h.of_blank (by simp))
    · next d _ =>
      split
      · exact (h.domQuiesce d).of_blank (by simp)
      · exact h.of_blank (by simp)
      · exact h
  · exact h

theorem wakeBack (h : Apart s) (src : Nat) : Apart (s.wakeBack src) := by
  unfold State.wakeBack
  extract_lets p s1 s2 s3
  have h2 : Apart s2 := h.of_blank (by simp [s2, s1])
  split
  · exact (sysClear s2.retSave.planSave 6).of_blank (by simp [s3])
  · exact .ite (fun _ => h2.of_blank (by simp)) fun _ => h2

theorem cpWork (h : Apart s) (d : Domain) (k : Nat) (vals : List Int) : Apart (s.cpWork d k vals) := by
  unfold State.cpWork
  dsimp only
  split
  · exact h.of_blank (by simp)
  · have hr : Apart (if vals.getD 0 0 == 1 then { s with ret := { s.ret with valid := true } } else
        { s with ret := {}, gate := Quad.all {} }) := .ite (fun _ => ⟨h.gates⟩) fun _ => of_new rfl
    exact .ite (fun _ => hr.of_blank (by simp)) fun _ => hr
  · exact h.of_blank (by simp)
  · exact .ite (fun _ => h) fun _ => h.bootTestFails 1 0x0911
  · exact .ite (fun _ => h.of_blank (by simp)) fun _ => h.bootTestFails 0 0x0910
  all_goals exact h.of_blank (by simp)

theorem domUp (h : Apart s) (d : Domain) (vals : List Int) : Apart (s.domUp d vals) := by
  unfold State.domUp
  split
  · exact h.of_blank (by simp)
  · exact h.sysReady _
  all_goals exact h.of_blank (by simp)

theorem domCheckpoint (h : Apart s) (d : Domain) (vals : List Int) : Apart (s.domCheckpoint d vals) := by
  unfold State.domCheckpoint
  extract_lets x keep s0
  split
  · next k _ =>
    extract_lets s1 back s2
    have h1 : Apart s1 := h.cpWork d k vals
    have h2 : Apart s2 := by
      simp only [s2]
      split
      · exact h1.wakeBack _
      · exact h1
    exact .ite (fun _ => h1) fun _ => .ite (fun _ => (h2.domQuiesce d).of_blank (by simp)) fun _ =>
      .ite (fun _ => h2.of_blank (by simp)) fun _ => domUp (h2.of_blank (by simp)) d vals
  · split
    · next src _ =>
      have h0 : Apart s0 := h.of_blank (by simp [s0])
      exact .ite (fun _ => (h0.wakeBack src).of_blank (by simp)) fun _ => h0.wakeBack src
    · refine h.of_blank ?_
      (repeat' split) <;> simp
  · exact h

/-! ### Safe states, clocks and the twin link -/

theorem axSafe (h : Apart s) (n : Fin 4) (code : Nat) : Apart (s.axSafe n code) := by
  unfold State.axSafe
  split
  · exact h
  · exact h
  · extract_lets moved ready s1 s2 s3 s4 s5 m f s6
    have h3 : Apart s3 := by
      have h2 : Apart s2 := (h.switchesOff n).of_blank (by simp [s2, s1])
      exact .ite (fun _ => h2.of_blank (by simp)) fun _ => h2
    have h4 : Apart s4 := (((h3.abandonTest n 0xFFFF).setTest n none).switchesOff n).of_blank (by simp [s4])
    have h6 : Apart s6 := h4.of_blank (by simp [s6, s5])
    exact .ite (fun _ => h6.axToOff n) fun _ => .ite (fun _ => h6.of_blank (by simp)) fun _ => h6.of_blank (by simp)

theorem enterSafe (h : Apart s) (code : Nat) : Apart (s.enterSafe code) := by
  unfold State.enterSafe
  extract_lets f s1 s2 s3
  have h1 : Apart s1 := h.of_blank (by simp [s1])
  have h2 : Apart s2 := (forAxes (fun n _ ht => ht.switchesOff n) h1).of_blank (by simp [s2])
  have h3 : Apart s3 := .ite (fun _ => h2.leaveActive .off) fun _ => h2
  exact .ite (fun _ => h.of_blank (by simp)) fun _ => (forAxes (fun n _ ht => ht.axSafe n code) h3).of_blank (by simp)

theorem hardOff (h : Apart s) : Apart s.hardOff := by
  have hf : Apart (Machine.forAxes s fun n t => (t.switchesOff n).updGate n fun g => { g with hwOff := true }) :=
    forAxes (fun n _ ht => (ht.switchesOff n).updGate n fun _ hg => ⟨hg.a1, hg.a2, hg.b1, hg.b2⟩) h
  exact actoClear (hf.of_blank (by simp))

theorem haltEnabled (h : Apart s) (code : Nat) : Apart (s.haltEnabled code) := by
  refine forAxes (fun n t ht => .ite (fun _ => ht) fun _ => .ite (fun _ => ht.switchesOff n) fun _ => ?_) h
  refine (ht.abandonTest n 0xFFFF).of_blank ?_
  dsimp only
  (repeat' split) <;> simp

theorem crystalLost (h : Apart s) (code : Nat) : Apart (s.crystalLost code) := by
  unfold State.crystalLost
  exact haltEnabled (h.of_blank (by simp)) code

theorem takeover (h : Apart s) (usable : Bool) : Apart (s.takeover usable) := by
  unfold State.takeover
  extract_lets s1 s2 r d t1 t2 t3 t4 t5 u1 u2 act f u3
  have h2 : Apart s2 := h.of_blank (by simp [s2, s1])
  have h3 : Apart u3 := h2.of_blank (by simp [u3, u2, u1])
  refine .ite (fun _ => h2.of_blank ?_) fun _ =>
    forAxes (fun n t ht => .ite (fun _ => ht) fun _ => (ht.switchesOff n).of_blank (by simp)) h3
  simp [t5, t4, t3, t2, t1]

theorem switchStep (h : Apart s) : Apart s.switchStep := by
  unfold State.switchStep
  split
  · exact h
  · exact .ite (fun _ => h) fun _ => (h.leaveActive .standby).of_blank (by simp)
  · exact .ite (fun _ => h.of_blank (by simp)) fun _ => h.of_blank (by simp)

theorem twinBoundary (h : Apart s) : Apart s.twinBoundary := by
  unfold State.twinBoundary
  extract_lets s1 f s2 s3 s4
  have h3 : Apart s3 := switchStep (h.of_blank (by simp [s2, s1]))
  have h4 : Apart s4 := by
    simp only [s4]
    split
    · exact h3.takeover _
    · exact h3
  exact .ite (fun _ => h) fun _ => h4.of_blank (by simp)

/-! ### The boundary -/

theorem boundEnable (h : Apart s) (n : Fin 4) : Apart (s.boundEnable n) := by
  unfold State.boundEnable
  extract_lets g live s1 s2 s3 s4 s5
  have h1 : Apart s1 := of_blank (t := s1) (s := s.updGate n (fun g => { g with fallNote := false }))
    (h.updGate n fun _ hg => ⟨hg.a1, hg.a2, hg.b1, hg.b2⟩) (by simp [s1])
  have h4 : Apart s4 := by
    refine .ite (fun _ => .ite (fun _ => h1) fun _ => h1.of_blank ?_) fun _ => h
    simp [s3, s2]
  have h5 : Apart s5 := .ite (fun _ => h4.updGate n fun _ hg => ⟨hg.a1, hg.a2, hg.b1, hg.b2⟩) fun _ => h4
  refine .ite (fun _ => of_blank (h5.updGate n (f := fun g => { g with riseNote := false }) ?_) (by simp)) fun _ => h5
  exact fun _ hg => ⟨hg.a1, hg.a2, hg.b1, hg.b2⟩

theorem boundLatches (h : Apart s) (n : Fin 4) : Apart (s.boundLatches n) := by
  unfold State.boundLatches
  extract_lets g m clr s1
  have hclr (b : Fin 4) (high : Bool) (x : SwitchSt) (k : (clr b high x).turning = true) : x.turning = true := by
    simp only [clr] at k
    split at k <;> exact k
  have h1 : Apart s1 := by
    refine h.updGate n fun g hg => ?_
    have hl : (axes4.foldl (fun g b => g.updBr b (fun y => { y with lo := clr b false y.lo, hi := clr b true y.hi })) g).Apart :=
      hg.foldl (fun g b hg => hg.updBr b (BridgeSt.Calms.apart ⟨hclr b true _, hclr b false _⟩)) axes4
    exact ⟨hl.a1, hl.a2, hl.b1, hl.b2⟩
  exact .ite (fun _ => h1) fun _ => h1.of_blank (by simp)

theorem dropTests (h : Apart s) (k : Nat) : Apart (s.dropTests k) := foldl (fun _ n ht => ht.abandonTest n _) _ h

theorem act (h : Apart s) (k : Nat) : Apart (s.act k) := by
  unfold State.act
  extract_lets s1
  have h1 : Apart s1 := .ite (fun _ => (h.dropTests k).of_blank (by simp)) fun _ => h
  refine .ite (fun _ => h) fun _ => ?_
  split
  · exact h1.of_blank (by simp)
  · exact h1.of_blank (by simp)
  · exact h1.of_blank (by simp)
  · exact (h1.abandonTest (s1.axisOf k) (s1.seqNo k)).of_blank (by simp)
  · exact (h1.abandonTest (s1.axisOf k) (s1.seqNo k)).of_blank (by simp)
  all_goals exact h1.of_blank (by simp)

theorem applyShadows (h : Apart s) : Apart s.applyShadows := by
  unfold State.applyShadows
  extract_lets s1 s2 new
  have h1 : Apart s1 := h.of_blank (by simp [s1])
  have h2 : Apart s2 := foldl (fun _ k ht => ht.act k) _ h1
  exact h2.of_blank (by simp)

theorem axisGoes (h : Apart s) (commit : Bool) (old : Nat) (n : Fin 4) : Apart (s.axisGoes commit old n) := by
  unfold State.axisGoes
  extract_lets s1 s2 stepped s3 s4
  have h1 : Apart s1 := ((h.boundEnable n).boundLatches n).of_blank (by simp [s1])
  have h3 : Apart s3 := h1.of_blank (by simp only [s3, s2]; split <;> simp)
  have h4 : Apart s4 := .ite (fun _ => h3.curBoundary n) fun _ => h3
  exact h4.of_blank (by simp)

theorem hardBoundary (h : Apart s) (commit : Bool) (trim : Int) (hbk : Quad Nat) : Apart (s.hardBoundary commit trim hbk) := by
  unfold State.hardBoundary
  extract_lets old s1 s2 s3 s4 s5 s6 s7 s8 m s9
  have h4 : Apart s4 := h.of_blank (by simp [s4, s3, s2, s1])
  have h5 : Apart s5 := .ite (fun _ => h4.applyShadows) fun _ => h4
  have h6 : Apart s6 := .ite (fun _ => h5.of_blank (by simp)) fun _ => h5
  have h7 : Apart s7 := forAxes (fun n _ ht => ht.axisGoes commit old n) h6
  have h8 : Apart s8 := forAxes (fun n _ ht => ht.testPhase n) h7
  exact h8.of_blank (by simp [s9])

theorem unlock (h : Apart s) : Apart s.unlock := by
  unfold State.unlock
  extract_lets live s1 m s2 s3 s4
  have h1 : Apart s1 := by
    refine .ite (fun _ => h) fun _ => forAxes (fun n t ht => .ite (fun _ => ht.updGate n ?_) fun _ => ht) h
    exact fun _ hg => ⟨hg.a1, hg.a2, hg.b1, hg.b2⟩
  refine h1.of_blank ?_
  simp only [s4, s3, s2]
  (repeat' split) <;> simp

theorem raiseNoted (h : Apart s) (r : Nat × Nat × BitVec 4 × Bool) : Apart (s.raiseNoted r) := by
  obtain ⟨code, qual, axes, cond⟩ := r
  unfold State.raiseNoted
  dsimp -zeta only
  extract_lets s1
  have h1 : Apart s1 := h.of_blank (by simp [s1])
  split
  · exact h1.crystalLost _
  all_goals exact h1.of_blank (by simp)

theorem raiseAll (h : Apart s) : Apart s.raiseAll := by
  unfold State.raiseAll
  extract_lets l e f s1 s2
  have h2 : Apart s2 := foldl (fun _ r ht => ht.raiseNoted r) _ (h.of_blank (by simp [s1]))
  exact h2.of_blank (by simp)

theorem deviceSafe (h : Apart s) : Apart s.deviceSafe := by
  unfold State.deviceSafe
  extract_lets f s1
  have h1 : Apart s1 := .ite (fun _ => h.of_blank (by simp)) fun _ => h
  split
  · exact h1.enterSafe _
  · split
    · exact .ite (fun _ => h1) fun _ => h1.enterSafe _
    · exact h1

theorem actQuiet (h : Apart s) (n : Fin 4) (v code : Nat) : Apart (s.actQuiet n v code) := by
  unfold State.actQuiet
  extract_lets moved s1 s2 f s3 s4
  have h2 : Apart s2 := (abandonTest (h.of_blank (by simp [s1])) n 0xFFFF).switchesOff n
  have h3 : Apart s3 := h2.of_blank (by simp [s3])
  have h4 : Apart s4 := .ite (fun _ => h3.clampOn n) fun _ => h3
  exact h4.of_blank (by simp)

theorem actFaultHalt (h : Apart s) (n : Fin 4) (code : Nat) : Apart (s.actFaultHalt n code) := by
  refine (h.abandonTest n 0xFFFF).of_blank ?_
  unfold State.actFaultHalt
  dsimp only
  split <;> simp

theorem safeAxis (h : Apart s) (gone : List FaultEnt) (n : Fin 4) : Apart (s.safeAxis gone n) := by
  unfold State.safeAxis
  extract_lets old f s1 live s2 v g s3 s4
  have h1 : Apart s1 := .ite (fun _ => h.of_blank (by simp)) fun _ => h
  have h2 : Apart s2 := .ite (fun _ => .ite (fun _ => h1.actFaultHalt n _) fun _ => h1) fun _ =>
    .ite (fun _ => h1.actQuiet n _ _) fun _ => h1
  exact h2.of_blank (by simp only [s4, s3]; split <;> simp)

theorem overrun (h : Apart s) : Apart s.overrun := by
  unfold State.overrun
  extract_lets lost s1
  have h1 : Apart s1 := enterSafe (h.actoClear.of_blank (by simp)) 0x1201
  exact h1.of_blank (by simp)

theorem faultStep (h : Apart s) (commit : Bool) : Apart (s.faultStep commit) := by
  unfold State.faultStep
  extract_lets gone s1 s2 s3 s4 s5 s6 s7
  have h1 : Apart s1 := (unlock (h.of_blank (by simp))).raiseAll
  have h2 : Apart s2 := .ite (fun _ => h1) fun _ => h1.overrun
  have h5 : Apart s5 := h2.twinBoundary.deviceSafe.of_blank (by simp [s5, s4, s3])
  have h6 : Apart s6 := (forAxes (fun n _ ht => ht.safeAxis gone n) h5).of_blank (by simp [s6])
  refine h6.of_blank ?_
  (repeat' split) <;> simp [s7]

theorem clearSeen (h : Apart s) : Apart s.clearSeen := by
  unfold State.clearSeen
  extract_lets s1 s2
  have h1 : Apart s1 := by
    refine forAxes (fun n t ht => ?_) h
    refine of_blank (updGate (of_blank ht ?_) n ?_) (State.chanSuper_blank (by simp) _ n)
    · simp
    · exact fun _ hg => ⟨hg.a1, hg.a2, hg.b1, hg.b2⟩
  exact h1.of_blank (by simp [s2])

theorem superframe (h : Apart s) : Apart s.superframe := h.clearSeen.of_blank (by simp [State.superframe])

theorem activateNow (s : State) : Apart s.activateNow := by
  unfold State.activateNow
  extract_lets s1 s2
  exact (sysClear s1.brakesOff.actoClear 5).of_blank (by simp [s2])

theorem frameOpens (h : Apart s) : Apart s.frameOpens := by
  unfold State.frameOpens
  extract_lets s1 s2 s3 s4 s5 l s6
  have h1 : Apart s1 := forAxes (fun n _ ht => ht.axSeqFrame n) h
  have h3 : Apart s3 := h1.of_blank (by simp [s3, s2])
  have h4 : Apart s4 := .ite (fun _ => h3.superframe) fun _ => h3
  have h6 : Apart s6 := h4.of_blank (by simp [s6, s5])
  exact h6.unitsService.changeStep.settleDoms.of_blank (by simp)

/-! ### Commands out of a hopper -/

section
variable {c : CmdSpec} (hs : ∀ s h, Apart s → Apart (c.start s h))
include hs

theorem startCmd (h : Apart s) (k : Nat) : Apart (startCmd c k s) := by
  unfold Machine.startCmd
  dsimp only
  split
  · exact h.of_blank (by simp)
  · refine .ite (fun _ => h.of_blank (by simp)) fun _ => ?_
    split
    · exact h.of_blank (by simp)
    · split
      · exact h.of_blank (by simp)
      · exact hs _ _ (h.of_blank (by simp))

theorem startRow (h : Apart s) (k : Nat) : Apart (startRow c k s) :=
  .ite (fun _ => (startCmd hs (h.of_blank (s.useStart_blank (by simp))) k).of_blank (by simp)) fun _ => h

/-- Of a command that changes nothing when it is taken. -/
theorem takeRow (ht : c.taken = fun s _ => s) (h : Apart s) (k : Nat) : Apart (takeRow c k s) := by
  have htake : Apart (takeCmd c k s) := by
    unfold takeCmd
    extract_lets s1 s2 s3
    have h1 : Apart s1 := h.of_blank (by simp [s1])
    have h2 : Apart s2 := h1.of_blank (by simp [s2])
    have h3 : Apart s3 := h2.of_blank (by simp [s3, ht])
    split
    · exact h1.of_blank (by simp)
    · split
      · exact h1.of_blank (by simp)
      · split
        · exact h2.of_blank (by simp)
        · split
          · exact h2.of_blank (by simp)
          · split
            · exact startCmd hs h3 k
            · exact h3.of_blank (by simp)
            · exact h3.of_blank (by simp)
  exact .ite (fun _ => htake.of_blank (by simp)) fun _ => h

end

/-- A request to go down takes an axis that is off already to Off, where its gate drivers have no power. -/
theorem disableAxisStart (h : Apart s) (k : Nat) : Apart (disableAxisSpec.start s k) := by
  unfold disableAxisSpec
  dsimp -zeta only
  extract_lets n s1
  have h1 : Apart s1 := h.of_blank (by simp [s1])
  split
  · exact .ite (fun _ => h1.of_blank (by simp)) fun _ => h1.axToOff n
  · exact h1.axToOff n
  · exact h1.axToOff n
  · exact h1.of_blank (by simp)

/-- The commands whose start writes the gates. -/
def gateSpecs : List CmdSpec := [disableAxisSpec, offstateTestSpec]

theorem specs_start_blank : ∀ c ∈ specsA ++ specsB, c ∈ gateSpecs ∨ ∀ s k, (c.start s k).blank (allBut .gate) = s.blank (allBut .gate) := by
  simp [specsA, specsB, gateSpecs]

theorem specs_start {c : CmdSpec} (hc : c ∈ specsA ++ specsB) (h : Apart s) (k : Nat) : Apart (c.start s k) := by
  rcases specs_start_blank c hc with hg | hb
  · simp only [gateSpecs, List.mem_cons, List.not_mem_nil, or_false] at hg
    rcases hg with rfl | rfl
    · exact h.disableAxisStart k
    · exact h.beginTest _ 2 k
  · exact h.of_blank (hb s k)

theorem startNext (h : Apart s) (k : Nat) : Apart (s.startNext k) := by
  unfold State.startNext
  split
  · next c e => exact startRow (fun s k h => h.specs_start (List.mem_of_find?_eq_some e) k) h k
  · exact h

end Apart

end Sys2Proof.Machine
end

section
/-! Every command of the table keeps the switches of every half-bridge apart, and with it every step (O48). -/

namespace Sys2Proof.Machine

theorem Apart.wakeEvent {s : State} (h : Apart s) : Apart s.wakeEvent := h.of_blank (by simp)

/-- Every state that the outcome goes on with has the invariant. -/
def KeepsApart (o : Host.Outcome State Fault Refusal) : Prop := ∀ t, o = .next t → Apart t

namespace KeepsApart

variable {s : State}

theorem next (h : Apart s) : KeepsApart (.next s) := by
  rintro _ ⟨⟩
  exact h

/-! ### Supplies, reset and wake -/

theorem powerOn (h : Apart s) (vbat : Nat) : KeepsApart (execPowerOn vbat s) :=
  next (.ite (fun _ => h) fun _ => .startFromOff _ 1)

theorem powerOff (h : Apart s) (vbat : Nat) : KeepsApart (execPowerOff vbat s) := next (.ite (fun _ => h) fun _ => .of_new rfl)

theorem brownOut (h : Apart s) (vbat us : Nat) : KeepsApart (execBrownOut vbat us s) := by
  unfold execBrownOut
  refine next ?_
  extract_lets lists p s1 s2 rec_ ran s3 s4
  have h4 : Apart s4 := .sysClear s3 3
  exact .ite (fun _ => h) fun _ => h4.of_blank (by simp)

theorem reset (h : Apart s) : KeepsApart (execReset s) :=
  next (.ite (fun _ => h) fun _ => (Apart.sysClear s 2).of_blank (by simp))

theorem resetRelease (h : Apart s) (tsten up down : Bool) : KeepsApart (execResetRelease tsten up down s) := by
  unfold execResetRelease
  refine next ?_
  extract_lets p s1
  have h1 : Apart s1 := h.of_blank (by simp [s1])
  exact .ite (fun _ => h) fun _ => .ite (fun _ => .startFromOff _ _) fun _ => h1

theorem wakeSource (h : Apart s) (src : Fin 9) (periods us vbat : Nat) (level : Bool) :
    KeepsApart (execWakeSource src periods us vbat level s) := by
  unfold execWakeSource
  refine next ?_
  have h1 : Apart (s.wakeLevel src.val us level) := h.of_blank (by simp)
  dsimp only
  refine .ite (fun _ => h1) fun _ => ?_
  split
  · exact .ite (fun _ => h1.of_blank (by simp)) fun _ => h1
  · split
    · refine .ite (fun _ => h1) fun _ => .wakeEvent (.settleDoms (h1.of_blank ?_))
      simp
    · exact .ite (fun _ => h1) fun _ => h1.of_blank (by simp)
    · exact h1

theorem checkpointReached (h : Apart s) (u : SeqUnit) (vals : List Int) : KeepsApart (execCheckpointReached u vals s) := by
  unfold execCheckpointReached
  refine next ?_
  cases u with
  | axis n => exact (h.axCheckpoint n vals).settleDoms.of_blank (by simp)
  | dom d => exact .ite (fun _ => h) fun _ => (h.domCheckpoint d vals).changeStep.settleDoms.of_blank (by simp)

theorem checkpointTimeout (h : Apart s) (u : SeqUnit) (us : Nat) : KeepsApart (execCheckpointTimeout u us s) := by
  unfold execCheckpointTimeout
  refine next ?_
  cases u with
  | axis n =>
    have hf : Apart s.fresh.2 := h.of_blank (by simp)
    exact .ite (fun _ => (hf.raiseFail n 0x1301 s.fresh.1).of_blank (by simp)) fun _ => h
  | dom d =>
    have hd := h.domDrop d 0x1305
    refine .ite (fun _ => h) fun _ => ?_
    split
    · exact .ite (fun _ => .startFromOff s 4) fun _ => .ite (fun _ => h.of_blank (by simp)) fun _ => .startFromOff _ 4
    · exact h.of_blank (by simp)
    · exact hd.of_blank (by simp)
    · exact h

theorem vmUndervoltage (h : Apart s) (vm us : Nat) : KeepsApart (execVmUndervoltage vm us s) := by
  unfold execVmUndervoltage
  refine next (.ite (fun _ => h) fun _ => ?_)
  extract_lets p s1 s2
  have h1 : Apart s1 := h.of_blank (by simp [s1])
  have h2 : Apart s2 := (Apart.forAxes (fun n _ ht => ht.switchesOff n) h1).of_blank (by simp [s2])
  exact .ite (fun _ => h1) fun _ => (Apart.forAxes (fun n _ ht => ht.axSupplyFail n 0x1306) h2).of_blank (by simp)

theorem vmOvervoltage (h : Apart s) (vm : Nat) : KeepsApart (execVmOvervoltage vm s) := by
  unfold execVmOvervoltage
  refine next (.ite (fun _ => h) fun _ => ?_)
  extract_lets p s1 s2
  have h1 : Apart s1 := h.of_blank (by simp [s1])
  have h2 : Apart s2 := by
    refine .forAxes (fun n t ht => ?_) h1
    split
    · exact ht.axFail n 0x1307
    · exact ht.axFail n 0x1307
    · exact ht.forceWant n
    · exact ht.forceWant n
    · exact ht
  exact h2.of_blank (by simp)

theorem vgdOutOfWindow (h : Apart s) (mv us : Nat) : KeepsApart (execVgdOutOfWindow mv us s) := by
  unfold execVgdOutOfWindow
  refine next ?_
  extract_lets o bad trips p s1 s2
  have h1 : Apart s1 := h.of_blank (by simp [s1])
  have h2 : Apart s2 := .forAxes (fun n _ ht => ht.switchesOff n) h1
  exact .ite (fun _ => h) fun _ => .ite (fun _ => (Apart.forAxes (fun n _ ht => ht.axSupplyFail n 0x130A) h2).of_blank (by simp)) fun _ =>
    .ite (fun _ => h1.of_blank (by simp)) fun _ => h1

/-! ### Axes, frames and clocks -/

theorem axisUpStart (h : Apart s) (n : Fin 4) : KeepsApart (execAxisUpStart n s) := next (.ite (fun _ => h.beginUp n) fun _ => h)

theorem frameBoundary (h : Apart s) (commit : Bool) (hbk : Quad Nat) : KeepsApart (execFrameBoundary commit hbk s) := by
  have hw : Apart s.frameWork := h.of_blank (by simp)
  exact next (.ite (fun _ => h) fun _ => .ite (fun _ => .activateNow s) fun _ =>
    ((hw.hardBoundary commit s.trimNow hbk).faultStep commit).frameOpens)

theorem lockstepMismatch (h : Apart s) : KeepsApart (execLockstepMismatch s) :=
  next (.ite (fun _ => h) fun _ => h.hardOff.of_blank (by simp))

theorem pllLockTimeout (h : Apart s) (p : Fin 3) : KeepsApart (execPllLockTimeout p s) := by
  unfold execPllLockTimeout
  refine next ?_
  split
  · exact h
  · extract_lets again bad s1 s2
    have h1 : Apart s1 := .haltEnabled (h.of_blank (by simp)) _
    exact .ite (fun _ => h) fun _ => h1.of_blank (by simp [s2])

theorem pllLockLoss (h : Apart s) (p : Fin 3) : KeepsApart (execPllLockLoss p s) := by
  unfold execPllLockLoss
  refine next (.ite (fun _ => h) fun _ => ?_)
  split
  · extract_lets s1 k c f i s2 x s3
    have h1 : Apart s1 := h.hardOff
    have h3 : Apart s3 := h1.of_blank (by simp [s3, x, s2])
    exact h3.enterSafe _
  · exact h.of_blank (by simp)
  · exact h.of_blank (by simp)

theorem standstillRecalStart (h : Apart s) (n : Fin 4) : KeepsApart (execStandstillRecalStart n s) :=
  next (.ite (fun _ => .enterHold (h.of_blank (by simp)) n .recal) fun _ => h)

theorem actiRise (h : Apart s) : KeepsApart (execActiRise s) := by
  unfold execActiRise
  extract_lets p s1 s2
  have h1 : Apart s1 := h.of_blank (by simp [s1])
  have h2 : Apart s2 := h1.of_blank (by simp [s2])
  exact next (.ite (fun _ => h) fun _ => .ite (fun _ => h1) fun _ => .ite (fun _ => (h2.leaveActive .standby).of_blank (by simp)) fun _ => h2)

/-! ### Governing enables and pin mode -/

theorem governingEnableFall (h : Apart s) (n : Fin 4) (k : Option (Fin 4)) : KeepsApart (execGoverningEnableFall n k s) := by
  unfold execGoverningEnableFall
  extract_lets s1 watch moved s2
  have h2 : Apart s2 := by
    refine Apart.updGate (h.of_blank (t := s1) (by simp [s1])) n fun g hg => ?_
    have hl := hg.foldl (f := fun g b => g.updBr b (fun y => y.allOff s1.frame.tickBase (s1.ps n 0x11)))
      (fun g b hg => hg.updBr b ((BridgeSt.Calms.refl _).allOff _ _).apart) (governedBy k)
    exact ⟨hl.a1, hl.a2, hl.b1, hl.b2⟩
  refine next (.ite (fun _ => h) fun _ => .ite (fun _ => h.updGate n ?_) fun _ => .ite (fun _ => h2.of_blank (by simp)) fun _ => h2)
  exact fun _ hg => ⟨hg.a1, hg.a2, hg.b1, hg.b2⟩

theorem governingEnableRise (h : Apart s) (n : Fin 4) (k : Option (Fin 4)) : KeepsApart (execGoverningEnableRise n k s) := by
  unfold execGoverningEnableRise
  extract_lets s1 live
  refine next (.ite (fun _ => h) fun _ => .updGate (h.of_blank (t := s1) (by simp [s1])) n ?_)
  exact fun _ hg => ⟨hg.a1, hg.a2, hg.b1, hg.b2⟩

theorem pinModeInEdge (h : Apart s) (n k : Fin 4) (level : Bool) (width : Moment) (vds bs : Nat) :
    KeepsApart (execPinModeInEdge n k level width vds bs s) := by
  unfold execPinModeInEdge
  extract_lets live v p s1 s2 T s3 s4 on
  have h3 : Apart s3 := by
    refine .calm (h.of_blank (t := s2) (by simp [s2])) n k ?_
    have ho := (BridgeSt.Calms.refl (s2.bridge n k)).turnOff (!level) T (s2.ps n 0x11)
    exact .ite (fun _ => ho) fun _ => ⟨ho.hi, ho.lo⟩
  have h4 : Apart s4 := h3.nextInsert n
  refine next (.ite (fun _ => h) fun _ => .ite (fun _ => h.of_blank (by simp [s1])) fun _ => .ite (fun _ => ?_) fun _ => h4)
  exact h4.updBridge n k fun hb => startOn_apart hb _ _ _ _ _

/-! ### Edges of a half-bridge -/

theorem gateEdge (h : Apart s) (n b : Fin 4) (high on : Bool) (off vds bs : Nat) : KeepsApart (execGateEdge n b high on off vds bs s) := by
  refine next (.ite (fun _ => .ite (fun _ => h.updBridge n b ?_) fun _ => h) fun _ => .ite (fun _ => h.calm n b ?_) fun _ => h)
  · exact fun hb => startOn_apart hb _ _ _ _ _
  · exact (BridgeSt.Calms.refl _).turnOff _ _ _

/-- A phase of an edge ends: a switch that goes on was turning on. -/
theorem gatePlateauEnd (h : Apart s) (n b : Fin 4) (high : Bool) (vds vgs len : Nat) (lag : Int) :
    KeepsApart (execGatePlateauEnd n b high vds vgs len lag s) := by
  unfold execGatePlateauEnd
  extract_lets x pass
  have hp {p : GatePhase} (hx : SwitchSt.turning { x with phase := p } = true → x.turning = true) : Apart (pass p) :=
    h.calm n b ((BridgeSt.Calms.refl _).updSw high hx)
  have hturn (hx : x.phase = .onP1 ∨ x.phase = .onP2) : x.turning = true := by
    rcases hx with hx | hx <;> simp [SwitchSt.turning, hx]
  refine next ?_
  split
  · next e => exact .ite (fun _ => h) fun _ => hp fun _ => hturn (.inl e)
  · next e => exact h.plateau n b high true vds vgs len lag fun _ => hturn (.inr e)
  · exact h
  · refine .ite (fun _ => .ite (fun _ => h) fun _ => h.calm n b ((BridgeSt.Calms.refl _).updSw high ?_)) fun _ => ?_
    · split <;> nofun
    · split
      · exact .ite (fun _ => h) fun _ => hp nofun
      · exact h.plateau n b high false vds vgs len lag nofun
      · exact h

theorem deadTimeEnd (h : Apart s) (n b : Fin 4) (gone : Moment) (low vds bs : Nat) : KeepsApart (execDeadTimeEnd n b gone low vds bs s) := by
  unfold execDeadTimeEnd
  extract_lets rest
  have hr (x : SwitchSt) (k : (rest x).turning = true) : x.turning = true := by
    simp only [rest] at k
    split at k
    · assumption
    · nomatch k
  refine next (.ite (fun _ => h) fun _ => ?_)
  split
  · exact h.calm n b ⟨hr _, hr _⟩
  · exact .ite (fun _ => .nextInsert (h.calm n b ⟨id, id⟩) n) fun _ => .ite (fun _ => h) fun _ => h.pendingOn n b _ vds bs _

/-! ### Switch faults and bootstrap refresh -/

theorem gateOffTimeout (h : Apart s) (n b : Fin 4) (high : Bool) (vgs : Nat) (len : Moment) :
    KeepsApart (execGateOffTimeout n b high vgs len s) := by
  have hu := (BridgeSt.Calms.refl (s.bridge n b)).updSw high (f := fun x => { x with fault := false }) id
  exact next (.ite (fun _ => .switchFault (h.calm n b ⟨hu.hi, hu.lo⟩) n _ _ _ _ _) fun _ => h)

theorem bootstrapUndervoltage (h : Apart s) (n b : Fin 4) (mv ns : Nat) (len : Moment) :
    KeepsApart (execBootstrapUndervoltage n b mv ns len s) := next (.ite (fun _ => h.switchFault n _ _ _ _ _) fun _ => h)

theorem switchFaultDetect (h : Apart s) (n b : Fin 4) (high : Bool) (why : Fin 3) (val : Int) (on : Nat) (len : Moment) :
    KeepsApart (execSwitchFaultDetect n b high why val on len s) :=
  next (.ite (fun _ => h) fun _ => .ite (fun _ => .ite (fun _ => h.switchFault n _ _ _ _ _) fun _ => h) fun _ =>
    .ite (fun _ => h.switchFault n _ _ _ _ _) fun _ => h)

theorem bootstrapRecharged (h : Apart s) (n b : Fin 4) (mv : Moment) : KeepsApart (execBootstrapRecharged n b mv s) :=
  next (.ite (fun _ => h.calm n b ((BridgeSt.Calms.refl _).endRecharge _ _ _)) fun _ => h)

theorem bootstrapRechargeTimeout (h : Apart s) (n b : Fin 4) (mv : Nat) (us : Moment) :
    KeepsApart (execBootstrapRechargeTimeout n b mv us s) :=
  next (.ite (fun _ => .switchFault (h.calm n b ((BridgeSt.Calms.refl _).endRecharge _ _ _)) n _ _ _ _ _) fun _ => h)

theorem bootstrapRefreshTimer (h : Apart s) (n b : Fin 4) (off : Nat) : KeepsApart (execBootstrapRefreshTimer n b off s) :=
  next (.ite (fun _ => h) fun _ => .ite (fun _ => .ite (fun _ => h.calm n b ⟨id, id⟩) fun _ => h) fun _ =>
    .ite (fun _ => .nextInsert (h.calm n b ⟨id, id⟩) n) fun _ => h)

theorem refreshPulseEnd (h : Apart s) (n b : Fin 4) (off : Nat) : KeepsApart (execRefreshPulseEnd n b off s) := by
  have hs := (BridgeSt.Calms.refl (s.bridge n b)).startOff false (s.tickAt off) (s.ps n 0x11)
  exact next (.ite (fun _ => h) fun _ => .ite (fun _ => .nextInsert (h.calm n b ⟨hs.hi, hs.lo⟩) n) fun _ =>
    .ite (fun _ => h.calm n b ((BridgeSt.Calms.refl _).turnOff _ _ _)) fun _ => h)

theorem quietRefreshPulse (h : Apart s) (n : Fin 4) (off : Nat) : KeepsApart (execQuietRefreshPulse n off s) := by
  unfold execQuietRefreshPulse
  extract_lets g T due b ok s1
  have h1 : Apart s1 := h.updGate n fun _ hg => ⟨hg.a1, hg.a2, hg.b1, hg.b2⟩
  refine next (.ite (fun _ => .ite (fun _ => h1) fun _ => h1.calm n b (.ite (fun _ => .refl _) fun _ => ?_)) fun _ => h)
  exact ⟨id, id⟩

/-! ### Coils, monitors and tests -/

theorem holdRampEnd (h : Apart s) (n : Fin 4) : KeepsApart (execHoldRampEnd n s) :=
  next (.ite (fun _ => (h.enterHold n (s.stillMode n)).of_blank (by simp)) fun _ => h)

theorem chopperTrip (h : Apart s) (n : Fin 4) (c : Fin 2) (code ton : Nat) : KeepsApart (execChopperTrip n c code ton s) := by
  unfold execChopperTrip
  extract_lets x v esc f s1 s2
  have h2 : Apart s2 := .of_blank (Apart.dropInserts (h.of_blank (t := s1) (by simp [s1])) n c.val) (by simp [s2])
  exact next (.ite (fun _ => .ite (fun _ => h2.of_blank (by simp)) fun _ => h2) fun _ => h)

theorem pwmPeriod (h : Apart s) (n : Fin 4) (c : Fin 2) (code : Nat) : KeepsApart (execPwmPeriod n c code s) := by
  unfold execPwmPeriod
  refine next (.ite (fun _ => h) fun _ => ?_)
  extract_lets -usedOnly x abs lsb P T vm valid v err step into ux0 ux m sg th ke ex vx dm raw lim d1 d2 d b1 alter cv s1 s2
  have h2 : Apart s2 := .foldl (fun _ b ht => ht.calm n b ⟨id, id⟩) _ (h.of_blank (t := s1) (by simp [s1]))
  exact .ite (fun _ => h2.of_blank (by simp)) fun _ => .ite (fun _ => h2.of_blank (by simp)) fun _ => h2

theorem adc1Unit (h : Apart s) (u : Fin 25) (conv : UnitConv) (val : Int) (slot : Option DiagSlot) :
    KeepsApart (execAdc1Unit u conv val slot s) := by
  unfold execAdc1Unit
  extract_lets p m s1 s2
  have h2 : Apart s2 := h.of_blank (by simp [s2, s1])
  refine next (.ite (fun _ => h) fun _ => ?_)
  split
  case h_6 => exact h2.temperature val
  case h_7 =>
    refine .ite (fun _ => h2.of_blank (by simp)) fun _ => ?_
    split
    · exact h2.of_blank (by simp)
    · exact h2
  all_goals exact h2.of_blank (by simp)

theorem offstateTestVerdict (h : Apart s) (n : Fin 4) (mv : List Int) : KeepsApart (execOffstateTestVerdict n mv s) := by
  unfold execOffstateTestVerdict
  refine next ?_
  split
  · exact h
  · refine .ite (fun _ => h) fun _ => ?_
    extract_lets mv r s1 m s2 s3
    have h1 : Apart s1 := h.setTest n none
    split
    · exact h1.of_blank (by simp [s2])
    · exact (h1.clampBack n).of_blank (by split <;> simp [s3])
    · exact (h1.clampBack n).of_blank (by simp)

theorem diagInsertion (h : Apart s) (item : Nat) (val : Int) : KeepsApart (execDiagInsertion item val s) := by
  unfold execDiagInsertion
  extract_lets x free slow s1 m s2
  have h2 : Apart s2 := h.of_blank (by simp only [s2, s1]; split <;> simp)
  exact next (.ite (fun _ => h.of_blank (by simp)) fun _ => .ite (fun _ => h2.insertBegin item) fun _ => h)

theorem haulSegmentStart (h : Apart s) (ready : Bool) : KeepsApart (execHaulSegmentStart ready s) := by
  unfold execHaulSegmentStart
  refine next ?_
  split
  · split
    · extract_lets late s1 t
      have h1 : Apart s1 := by
        refine .foldl (fun t n ht => .curBoundary (ht.of_blank ?_) n) _ h
        simp
      exact .ite (fun _ => .ite (fun _ => h1.of_blank (by simp)) fun _ => h.of_blank (by split <;> simp [t])) fun _ => h
    · exact h
  · exact h

/-! ### Commands out of a hopper -/

theorem taggedCommandStart (h : Apart s) (k : Fin 32) : KeepsApart (execTaggedCommandStart k s) :=
  next (.ite (fun _ => h.of_blank (by simp)) fun _ => .ite (fun _ => h.startNext k) fun _ => h)

theorem takeRow {c : CmdSpec} (hc : c ∈ specsA ++ specsB) (ht : c.taken = fun s _ => s) (h : Apart s) (k : Nat) :
    KeepsApart (.next (Machine.takeRow c k s)) := next (.takeRow (fun _ k h => h.specs_start hc k) ht h k)

end KeepsApart

theorem keepsApart_of_writes {c : Sys2Proof.Instr} {s : State} (h : Apart s) (hw : (writes c).contains .gate = false) :
    KeepsApart (exec c s) := by
  intro t e
  have eg := only_gate (exec_only e) (not_mem_of_contains hw)
  exact ⟨eg ▸ h.gates⟩

theorem exec_keepsApart (c : Sys2Proof.Instr) {s : State} (h : Apart s) : KeepsApart (exec c s) := by
  cases c with
  | powerOn vbat => exact .powerOn h vbat
  | powerOff vbat => exact .powerOff h vbat
  | brownOut vbat us => exact .brownOut h vbat us
  | reset => exact .reset h
  | resetRelease tsten up down => exact .resetRelease h tsten up down
  | wakeSource src periods us vbat level => exact .wakeSource h src periods us vbat level
  | checkpointReached u vals => exact .checkpointReached h u vals
  | checkpointTimeout u us => exact .checkpointTimeout h u us
  | axisUpStart n => exact .axisUpStart h n
  | vmUndervoltage vm us => exact .vmUndervoltage h vm us
  | vmOvervoltage vm => exact .vmOvervoltage h vm
  | vgdOutOfWindow mv us => exact .vgdOutOfWindow h mv us
  | frameBoundary commit hbk => exact .frameBoundary h commit hbk
  | lockstepMismatch => exact .lockstepMismatch h
  | pllLockTimeout p => exact .pllLockTimeout h p
  | pllLockLoss p => exact .pllLockLoss h p
  | standstillRecalStart n => exact .standstillRecalStart h n
  | actiRise => exact .actiRise h
  | governingEnableFall n k => exact .governingEnableFall h n k
  | governingEnableRise n k => exact .governingEnableRise h n k
  | pinModeInEdge n k level width vds bs => exact .pinModeInEdge h n k level width vds bs
  | gateEdge n b high on off vds bs => exact .gateEdge h n b high on off vds bs
  | gatePlateauEnd n b high vds vgs len lag => exact .gatePlateauEnd h n b high vds vgs len lag
  | deadTimeEnd n b gone low vds bs => exact .deadTimeEnd h n b gone low vds bs
  | gateOffTimeout n b high vgs len => exact .gateOffTimeout h n b high vgs len
  | bootstrapUndervoltage n b mv ns len => exact .bootstrapUndervoltage h n b mv ns len
  | switchFaultDetect n b high why val on len => exact .switchFaultDetect h n b high why val on len
  | bootstrapRecharged n b mv => exact .bootstrapRecharged h n b mv
  | bootstrapRechargeTimeout n b mv us => exact .bootstrapRechargeTimeout h n b mv us
  | bootstrapRefreshTimer n b off => exact .bootstrapRefreshTimer h n b off
  | refreshPulseEnd n b off => exact .refreshPulseEnd h n b off
  | quietRefreshPulse n off => exact .quietRefreshPulse h n off
  | holdRampEnd n => exact .holdRampEnd h n
  | chopperTrip n c code ton => exact .chopperTrip h n c code ton
  | pwmPeriod n c code => exact .pwmPeriod h n c code
  | adc1Unit u conv val slot => exact .adc1Unit h u conv val slot
  | offstateTestVerdict n mv => exact .offstateTestVerdict h n mv
  | diagInsertion item val => exact .diagInsertion h item val
  | haulSegmentStart ready => exact .haulSegmentStart h ready
  | taggedCommandStart k => exact .taggedCommandStart h k
  | waitingCommandStart k => exact .next (h.startNext k)
  | disableAxis k => exact .takeRow (by simp [specsA, specsB]) rfl h k
  | offstateTest k => exact .takeRow (by simp [specsA, specsB]) rfl h k
  | _ => exact keepsApart_of_writes h rfl

/-- Settles O48: a switch turns on only where its partner is off, and every other write of the gates turns switches off or leaves them; the
commands that write no gate keep the invariant by their frames (R301). -/
theorem switchesStayApart : Obligations.SwitchesStayApart := by
  unfold Obligations.SwitchesStayApart
  intro s t hs e
  rw [apart_iff] at hs ⊢
  unfold step at e
  split at e
  · cases e
    exact hs
  · next c rest _ => exact exec_keepsApart c (s := { s with pending := rest }) ⟨hs.gates⟩ t e

end Sys2Proof.Machine
end

section
/-! SUPPORT. The half-bridges of an axis: what reading one gives after an update of the same and of another, the insertion that begins when
room is made for it (R310), and what a latch does to its switch (R328, R329). -/

namespace Sys2Proof.Machine

/-! ### Reading and updating half-bridges -/

theorem GateSt.updBr_br (g : GateSt) (b k : Fin 4) (f : BridgeSt → BridgeSt) :
    (g.updBr b f).br k = if k = b then f (g.br b) else g.br k := by
  fin_cases b <;> fin_cases k <;> rfl

@[simp] theorem GateSt.updBr_br_self (g : GateSt) (b : Fin 4) (f : BridgeSt → BridgeSt) : (g.updBr b f).br b = f (g.br b) :=
  (g.updBr_br b b f).trans (if_pos rfl)

@[simp] theorem GateSt.updBr_clearing (g : GateSt) (b : Fin 4) (f : BridgeSt → BridgeSt) : (g.updBr b f).clearing = g.clearing := by
  fin_cases b <;> rfl

theorem GateSt.updBr_const (g : GateSt) (b : Fin 4) (f : BridgeSt → BridgeSt) : g.updBr b f = g.updBr b (fun _ => f (g.br b)) := by
  fin_cases b <;> rfl

theorem GateSt.updBr_congr {g : GateSt} {b : Fin 4} {f f' : BridgeSt → BridgeSt} (h : f (g.br b) = f' (g.br b)) :
    g.updBr b f = g.updBr b f' := by
  rw [GateSt.updBr_const, h, ← GateSt.updBr_const]

section
variable {s t : State} {n b k : Fin 4} {high : Bool}

theorem bridge_updGate {f : GateSt → GateSt} (hf : ∀ g, (f g).br k = g.br k) : (s.updGate n f).bridge n k = s.bridge n k := by
  rw [State.bridge, updGate_gate, Quad.get_upd_self, hf, State.bridge]

@[simp] theorem bridge_updBridge_self (s : State) (n b : Fin 4) (f : BridgeSt → BridgeSt) :
    (s.updBridge n b f).bridge n b = f (s.bridge n b) := by
  rw [State.bridge, State.updBridge, updGate_gate, Quad.get_upd_self, GateSt.updBr_br_self, State.bridge]

theorem bridge_updBridge (s : State) (n b k : Fin 4) (f : BridgeSt → BridgeSt) :
    (s.updBridge n b f).bridge n k = if k = b then f (s.bridge n b) else s.bridge n k := by
  rw [State.bridge, State.updBridge, updGate_gate, Quad.get_upd_self, GateSt.updBr_br, State.bridge, State.bridge]

theorem bridge_updBridge_of_ne (h : k ≠ b) (f : BridgeSt → BridgeSt) : (s.updBridge n b f).bridge n k = s.bridge n k :=
  (bridge_updBridge s n b k f).trans (if_neg h)

theorem updBridge_congr {f g : BridgeSt → BridgeSt} (h : f (s.bridge n b) = g (s.bridge n b)) : s.updBridge n b f = s.updBridge n b g :=
  congrArg (fun x => { s with gate := s.gate.set n x }) (GateSt.updBr_congr h)

@[simp] theorem updBridge_clearing (s : State) (n b : Fin 4) (f : BridgeSt → BridgeSt) :
    ((s.updBridge n b f).gate.get n).clearing = (s.gate.get n).clearing := by
  rw [State.updBridge, updGate_gate, Quad.get_upd_self, GateSt.updBr_clearing]

/-- Whether a switch is blocked turns on its latch cause and on the clearing of its axis alone. -/
theorem swBlocked_congr (hc : ((t.bridge n b).sw high).cause = ((s.bridge n b).sw high).cause)
    (hg : (t.gate.get n).clearing = (s.gate.get n).clearing) : t.swBlocked n b high = s.swBlocked n b high := by
  rw [State.swBlocked, State.swBlocked, hc, hg]

/-- A latched switch is blocked. -/
theorem swBlocked_of_latched (h : ((s.bridge n b).sw high).cause ≠ 0) : s.swBlocked n b high = true := by
  rw [State.swBlocked, bne_iff_ne.mpr h, Bool.true_or]

end

/-! ### Switches of a half-bridge -/

section
variable {x : SwitchSt} {y : BridgeSt} {high : Bool}

@[simp] theorem BridgeSt.sw_updSw_self (y : BridgeSt) (high : Bool) (f : SwitchSt → SwitchSt) : (y.updSw high f).sw high = f (y.sw high) := by
  cases high <;> rfl

@[simp] theorem BridgeSt.sw_updSw_partner (y : BridgeSt) (high : Bool) (f : SwitchSt → SwitchSt) :
    (y.updSw high f).sw (!high) = y.sw (!high) := by
  cases high <;> rfl

theorem SwitchSt.startOff_phase (h : x.turning = true) : x.startOff.phase = .offP1 := by
  rw [SwitchSt.startOff, if_pos h]

@[simp] theorem SwitchSt.startOff_cause (x : SwitchSt) : x.startOff.cause = x.cause := by
  unfold SwitchSt.startOff
  split <;> rfl

@[simp] theorem BridgeSt.lowEnds_sw (y : BridgeSt) (high : Bool) (T pulse : Nat) : (y.lowEnds T pulse).sw high = y.sw high := by
  unfold BridgeSt.lowEnds
  split
  · rfl
  · split <;> rfl

/-- An interval of at least a pulse restarts the refresh timer (R309). -/
theorem BridgeSt.lowEnds_of_whole {a T pulse : Nat} (ha : y.lowAt = some a) (hw : a + pulse ≤ T) :
    y.lowEnds T pulse = { y with lowAt := none, refreshAt := T, due := false, altered := false } := by
  rw [BridgeSt.lowEnds, ha]
  exact if_pos hw

@[simp] theorem BridgeSt.startOff_sw_self (y : BridgeSt) (high : Bool) (T pulse : Nat) :
    (y.startOff high T pulse).sw high = (y.sw high).startOff := by
  cases high
  · exact BridgeSt.lowEnds_sw _ false T pulse
  · rfl

@[simp] theorem BridgeSt.startOff_sw_partner (y : BridgeSt) (high : Bool) (T pulse : Nat) :
    (y.startOff high T pulse).sw (!high) = y.sw (!high) := by
  cases high
  · exact BridgeSt.lowEnds_sw _ true T pulse
  · rfl

/-- What `BridgeSt.turnOff` keeps of the start of the turn-off: all but a turn-on that waits. -/
theorem BridgeSt.turnOff_eq (y : BridgeSt) (high : Bool) (T pulse : Nat) :
    y.turnOff high T pulse = { y.startOff high T pulse with
      pending := if (y.startOff high T pulse).pending = some high then none else (y.startOff high T pulse).pending } := by
  unfold BridgeSt.turnOff
  extract_lets b
  split <;> rfl

@[simp] theorem BridgeSt.turnOff_sw (y : BridgeSt) (high side : Bool) (T pulse : Nat) :
    (y.turnOff high T pulse).sw side = (y.startOff high T pulse).sw side := by
  rw [BridgeSt.turnOff_eq]
  rfl

end

/-! ### The next insertion (R310) -/

/-- The refresh of a half-bridge waits, and its low side may be driven for it. -/
def State.insertWaits (s : State) (n k : Fin 4) : Bool := (s.bridge n k).due && (s.bridge n k).hi.turning && !s.swBlocked n k false

/-- The insertion of a half-bridge begins. -/
def State.beginInsert (s : State) (n k : Fin 4) : State :=
  (s.updBridge n k (fun y => { y.startOff true 0 0 with insert := true, due := false, pending := some false })).updGate n
    (fun g => { g with inserts := min 0xFFFF (g.inserts + 1) })

section
variable {s : State} {n b k : Fin 4}

theorem beginInsert_bridge (s : State) (n b k : Fin 4) : (s.beginInsert n b).bridge n k =
    if k = b then { (s.bridge n b).startOff true 0 0 with insert := true, due := false, pending := some false } else s.bridge n k :=
  (bridge_updGate fun _ => by fin_cases k <;> rfl).trans (bridge_updBridge s n b k _)

/-- At most one insertion begins, that of a half-bridge that waits for it. -/
theorem nextInsert_cases (s : State) (n : Fin 4) :
    s.nextInsert n = s ∨ ∃ k, s.insertWaits n k = true ∧ s.nextInsert n = s.beginInsert n k := by
  unfold State.nextInsert
  split
  · exact .inl rfl
  · split
    · next k hk => exact .inr ⟨k, List.find?_some (p := s.insertWaits n) hk, rfl⟩
    · exact .inl rfl

/-- Nothing begins while an insertion runs, or where periods are altered instead. -/
theorem nextInsert_of_busy (h : (s.altersPeriod n || axes4.any (fun k => (s.bridge n k).insert)) = true) : s.nextInsert n = s := if_pos h

/-- Nothing begins while no refresh waits. -/
theorem nextInsert_of_none_waits (h : ∀ k, s.insertWaits n k = false) : s.nextInsert n = s :=
  (nextInsert_cases s n).resolve_right fun ⟨k, hk, _⟩ => absurd hk (by simp [h k])

theorem insertWaits_of_not_due (h : (s.bridge n k).due = false) : s.insertWaits n k = false := by simp [State.insertWaits, h]

theorem insertWaits_of_still (h : (s.bridge n k).hi.turning = false) : s.insertWaits n k = false := by simp [State.insertWaits, h]

theorem insertWaits_of_blocked (h : s.swBlocked n k false = true) : s.insertWaits n k = false := by simp [State.insertWaits, h]

/-- A half-bridge that waits for no insertion stays as it is. -/
theorem nextInsert_bridge_of_not_waits (h : s.insertWaits n k = false) : (s.nextInsert n).bridge n k = s.bridge n k := by
  obtain e | ⟨b, hb, e⟩ := nextInsert_cases s n
  · rw [e]
  · have hk : k ≠ b := fun hkb => absurd (hkb ▸ hb) (by simp [h])
    rw [e, beginInsert_bridge, if_neg hk]

/-- An insertion that begins turns a high side off, and touches no low side. -/
theorem nextInsert_lo (s : State) (n k : Fin 4) : ((s.nextInsert n).bridge n k).lo = (s.bridge n k).lo := by
  obtain e | ⟨b, -, e⟩ := nextInsert_cases s n
  · rw [e]
  · rw [e, beginInsert_bridge]
    split
    · next h => rw [h]; rfl
    · rfl

/-- With no insertion under way, the one half-bridge that waits is served. -/
theorem nextInsert_of_waits (ha : s.altersPeriod n = false) (hi : ∀ k, (s.bridge n k).insert = false) (hb : s.insertWaits n b = true)
    (ho : ∀ k, k ≠ b → s.insertWaits n k = false) : s.nextInsert n = s.beginInsert n b := by
  have hbusy : (s.altersPeriod n || axes4.any (fun k => (s.bridge n k).insert)) = false := by simp [ha, hi]
  unfold State.nextInsert
  rw [if_neg (by simp [hbusy])]
  split
  · next k hk =>
    have hw : s.insertWaits n k = true := List.find?_some (p := s.insertWaits n) hk
    have hkb : k = b := by_contra fun h => absurd hw (by simp [ho k h])
    rw [hkb]
    rfl
  · next hk => exact absurd hb (List.find?_eq_none.mp hk b (by fin_cases b <;> decide))

end

/-! ### Latches (R328, R329) -/

/-- The half-bridge whose switch is latched off at tick `T`. -/
def BridgeSt.latched (y : BridgeSt) (high : Bool) (cause T pulse : Nat) : BridgeSt :=
  let z := (y.turnOff high T pulse).updSw high (fun x => { x with cause := cause, fault := decide (cause ≠ 6), latchAt := some T })
  if high then { z with recharge := false }
  else if y.insert then { z with insert := false, pending := if z.hi.cause = 0 then some true else none }
  else z

section
variable {s : State} {n b k : Fin 4} {y : BridgeSt} {high : Bool} {cause T : Nat}

theorem latched_sw_self (y : BridgeSt) (high : Bool) (cause T pulse : Nat) : (y.latched high cause T pulse).sw high =
    { (y.sw high).startOff with cause := cause, fault := decide (cause ≠ 6), latchAt := some T } := by
  have hz := ((y.turnOff high T pulse).sw_updSw_self high
    (fun x => { x with cause := cause, fault := decide (cause ≠ 6), latchAt := some T })).trans
    (by rw [BridgeSt.turnOff_sw, BridgeSt.startOff_sw_self])
  cases high
  · exact (apply_ite (fun z : BridgeSt => z.sw false) _ _ _).trans ((ite_self _).trans hz)
  · exact hz

theorem latched_sw_partner (y : BridgeSt) (high : Bool) (cause T pulse : Nat) :
    (y.latched high cause T pulse).sw (!high) = y.sw (!high) := by
  have hz := ((y.turnOff high T pulse).sw_updSw_partner high
    (fun x => { x with cause := cause, fault := decide (cause ≠ 6), latchAt := some T })).trans
    (by rw [BridgeSt.turnOff_sw, BridgeSt.startOff_sw_partner])
  cases high
  · exact (apply_ite (fun z : BridgeSt => z.sw true) _ _ _).trans ((ite_self _).trans hz)
  · exact hz

/-- A switch is latched and counted, before room is made for an insertion. -/
def State.putLatch (s : State) (n b : Fin 4) (high : Bool) (cause T : Nat) : State :=
  (s.updBridge n b (fun y => y.latched high cause T (s.ps n 0x11))).updGate n (fun g => { g with faultsN := min 0xFFFF (g.faultsN + 1) })

theorem putLatch_bridge (s : State) (n b k : Fin 4) (high : Bool) (cause T : Nat) : (s.putLatch n b high cause T).bridge n k =
    if k = b then (s.bridge n b).latched high cause T (s.ps n 0x11) else s.bridge n k :=
  (bridge_updGate fun _ => by fin_cases k <;> rfl).trans (bridge_updBridge s n b k _)

/-- A first latch: the switch turns off, and room may be made for an insertion. -/
theorem latch_first (h : ((s.bridge n b).sw high).cause = 0) : s.latch n b high cause T = (s.putLatch n b high cause T).nextInsert n :=
  if_neg (by simp [h])

theorem latch_bridge_self (h : ((s.bridge n b).sw high).cause = 0) (hc : cause ≠ 0) :
    (s.latch n b high cause T).bridge n b = (s.bridge n b).latched high cause T (s.ps n 0x11) := by
  have hb := (putLatch_bridge s n b b high cause T).trans (if_pos rfl)
  have hsw := (congrArg (BridgeSt.sw · high) hb).trans (latched_sw_self _ high cause T _)
  rw [latch_first h]
  refine (nextInsert_bridge_of_not_waits ?_).trans hb
  cases high
  · exact insertWaits_of_blocked (swBlocked_of_latched (by rw [hsw]; exact hc))
  · exact insertWaits_of_still ((congrArg SwitchSt.turning hsw).trans (startOff_turning _))

theorem latch_cause (h : ((s.bridge n b).sw high).cause = 0) (hc : cause ≠ 0) :
    (((s.latch n b high cause T).bridge n b).sw high).cause = cause := by
  rw [latch_bridge_self h hc, latched_sw_self]

theorem latch_phase (h : ((s.bridge n b).sw high).cause = 0) (hc : cause ≠ 0) (ht : ((s.bridge n b).sw high).turning = true) :
    (((s.latch n b high cause T).bridge n b).sw high).phase = .offP1 := by
  rw [latch_bridge_self h hc, latched_sw_self]
  exact SwitchSt.startOff_phase ht

theorem latch_partner (h : ((s.bridge n b).sw high).cause = 0) (hc : cause ≠ 0) :
    ((s.latch n b high cause T).bridge n b).sw (!high) = (s.bridge n b).sw (!high) := by
  rw [latch_bridge_self h hc, latched_sw_partner]

/-- A latch leaves another half-bridge as it is while that waits for no refresh. -/
theorem latch_bridge_of_ne (h : ((s.bridge n b).sw high).cause = 0) (hd : (s.bridge n k).due = false) (hk : k ≠ b) :
    (s.latch n b high cause T).bridge n k = s.bridge n k := by
  have hb := (putLatch_bridge s n b k high cause T).trans (if_neg hk)
  rw [latch_first h, nextInsert_bridge_of_not_waits (insertWaits_of_not_due ((congrArg BridgeSt.due hb).trans hd)), hb]

/-! ### Switch faults -/

theorem latches_faults (s : State) (n : Fin 4) (l : List (Fin 4 × Bool)) (cause T : Nat) :
    (l.foldl (fun t x => t.latch n x.1 x.2 cause T) s).faults = s.faults :=
  List.foldlRecOn (motive := fun t : State => t.faults = s.faults) _ _ rfl fun t ht x _ =>
    (only_faults (w := [.gate]) (State.latch_blank (by simp) t n x.1 x.2 cause T) (by simp)).trans ht

/-- A switch fault is raised at the next boundary, with the axis as its scope. -/
theorem switchFault_faults (s : State) (n : Fin 4) (l : List (Fin 4 × Bool)) (cause code qual T : Nat) :
    (s.switchFault n l cause code qual T).faults = { s.faults with raised := s.faults.raised ++ [(code, qual, axBits n, true)] } := by
  rw [State.switchFault, note_faults, latches_faults]

theorem switchFault_only (s : State) (n : Fin 4) (l : List (Fin 4 × Bool)) (cause code qual T : Nat) :
    s.only [.gate, .faults] (s.switchFault n l cause code qual T) := by
  simp [State.only]

/-- A switch fault leaves the half-bridges as its latches do. -/
theorem switchFault_bridge (s : State) (n b k : Fin 4) (high : Bool) (cause code qual T : Nat) :
    (s.switchFault n [(b, high)] cause code qual T).bridge n k = (s.latch n b high cause T).bridge n k := rfl

end

end Sys2Proof.Machine
end

section
/-! Settles O59. -/

namespace Sys2Proof.Machine

/-- Settles O59: the fault latches the high side off (R315, R328), from the end of its P1 and of the comparator's hold (R332, log entry 16);
with the high side off for another cause than a fault of the same tick (R329), or BS − SH high enough, the event does nothing. -/
theorem bootstrapDrops : Obligations.BootstrapDrops := by
  unfold Obligations.BootstrapDrops
  refine ⟨fun n b mv ns len s ht hc hmv hns hlen => ?_, fun n b mv ns len s h => ?_⟩
  · have e : exec (.bootstrapUndervoltage n b mv ns len) s =
        .next (s.switchFault n [(b, true)] 4 0x0305 (4 * n.val + b.val) (s.tickAt len.off)) :=
      congrArg Host.Outcome.next (if_pos (by simp [SwitchSt.onAt, ht, hmv, hns, hlen]))
    have hcause := latch_cause (high := true) (T := s.tickAt len.off) hc (by decide : 4 ≠ 0)
    refine ⟨_, e, hcause, latch_phase (high := true) hc (by decide) ht, swBlocked_of_latched (hcause.trans_ne (by decide)), ?_, ?_,
      switchFault_faults .., switchFault_only ..⟩
    · exact congrArg SwitchSt.phase (latch_partner (high := true) hc (by decide))
    · exact fun hd k hk => latch_bridge_of_ne (high := true) hc (hd k) hk
  · refine congrArg Host.Outcome.next (if_neg ?_)
    obtain ⟨hoff, hlatch⟩ | hmv := h
    · simp [SwitchSt.onAt, hoff, hlatch]
    · simp [hmv]

end Sys2Proof.Machine
end

section
/-! SUPPORT. The detection of switch faults, the governing enables and the edges of pin mode (R317 to R330). -/

namespace Sys2Proof.Machine

/-! ### Rows 2 to 5 of Table GATE-7 -/

section
variable {s : State} {n b k : Fin 4} {high : Bool} {cause T : Nat}

/-- An insertion that begins gives no switch another latch cause. -/
theorem nextInsert_cause (s : State) (n k : Fin 4) (side : Bool) :
    (((s.nextInsert n).bridge n k).sw side).cause = ((s.bridge n k).sw side).cause := by
  obtain e | ⟨b, -, e⟩ := nextInsert_cases s n
  · rw [e]
  · rw [e, beginInsert_bridge]
    split
    · next h =>
      subst h
      cases side
      · rfl
      · exact SwitchSt.startOff_cause _
    · rfl

/-- A latch of a switch that is latched changes at most its cause (R329). -/
theorem latch_latched (h : ((s.bridge n b).sw high).cause ≠ 0) : s.latch n b high cause T = s ∨
    s.latch n b high cause T = s.updBridge n b (fun y => y.updSw high (fun x => { x with cause := cause })) := by
  unfold State.latch
  extract_lets x
  rw [if_pos (bne_iff_ne.mpr h)]
  exact (ite_eq_or_eq _ _ _).symm

/-- A latch leaves the cause of every other switch as it is. -/
theorem latch_cause_of_ne {side : Bool} (h : (k, side) ≠ (b, high)) :
    (((s.latch n b high cause T).bridge n k).sw side).cause = ((s.bridge n k).sw side).cause := by
  by_cases hk : k = b
  · subst hk
    obtain rfl : side = !high := Bool.eq_not_of_ne fun e => h (e ▸ rfl)
    by_cases hx : ((s.bridge n k).sw high).cause = 0
    · rw [latch_first hx, nextInsert_cause, putLatch_bridge, if_pos rfl, latched_sw_partner]
    · obtain e | e := latch_latched (cause := cause) (T := T) hx
      · rw [e]
      · rw [e, bridge_updBridge_self, BridgeSt.sw_updSw_partner]
  · by_cases hx : ((s.bridge n b).sw high).cause = 0
    · rw [latch_first hx, nextInsert_cause, putLatch_bridge, if_neg hk]
    · obtain e | e := latch_latched (cause := cause) (T := T) hx
      · rw [e]
      · rw [e, bridge_updBridge_of_ne hk]

/-- A switch that has a latch cause keeps it in a latch with the same cause. -/
theorem latch_cause_again (hc : cause ≠ 0) (h : ((s.bridge n b).sw high).cause = cause) :
    (((s.latch n b high cause T).bridge n b).sw high).cause = cause := by
  obtain e | e := latch_latched (cause := cause) (T := T) (h.trans_ne hc)
  · rw [e, h]
  · rw [e, bridge_updBridge_self, BridgeSt.sw_updSw_self]

/-- Latches of several switches with one cause give it to each of them that had none. -/
theorem latches_cause (hc : cause ≠ 0) (l : List (Fin 4 × Bool))
    (h : ((s.bridge n k).sw high).cause = cause ∨ ((s.bridge n k).sw high).cause = 0 ∧ (k, high) ∈ l) :
    (((l.foldl (fun t x => t.latch n x.1 x.2 cause T) s).bridge n k).sw high).cause = cause := by
  induction l generalizing s with
  | nil => exact h.resolve_right fun hk => absurd hk.2 List.not_mem_nil
  | cons x l ih =>
    refine ih ?_
    by_cases hx : (k, high) = x
    · subst hx
      exact .inl (h.elim (latch_cause_again hc) fun h0 => latch_cause h0.1 hc)
    · rw [latch_cause_of_ne hx]
      exact h.imp_right fun h0 => ⟨h0.1, (List.mem_cons.mp h0.2).resolve_left hx⟩

/-- A low side that is on is among the switches of a shunt fault of its coil. -/
theorem mem_shuntSwitches (hk : k ∈ coilBridges b) (ht : (s.bridge n k).lo.turning = true) : (k, false) ∈ s.shuntSwitches n b T := by
  refine List.mem_map_of_mem (f := fun k => (k, false)) ?_
  split
  · exact hk
  · exact List.mem_filter.mpr ⟨hk, by simp [SwitchSt.onAt, ht]⟩

/-- A shunt fault latches every low side of its coil that is on, and raises its fault (rows 4 and 5 of Table GATE-7). -/
theorem shuntFault_gives (hc : cause ≠ 0) (code qual : Nat) :
    s.only [.gate, .faults] (s.switchFault n (s.shuntSwitches n b T) cause code qual T) ∧
      (∀ k ∈ coilBridges b, (s.bridge n k).lo.turning = true → (s.bridge n k).lo.cause = 0 →
        ((s.switchFault n (s.shuntSwitches n b T) cause code qual T).bridge n k).lo.cause = cause) ∧
      (s.switchFault n (s.shuntSwitches n b T) cause code qual T).faults =
        { s.faults with raised := s.faults.raised ++ [(code, qual, axBits n, true)] } :=
  ⟨switchFault_only .., fun _ hk ht h0 => latches_cause (high := false) hc _ (.inr ⟨h0, mem_shuntSwitches hk ht⟩), switchFault_faults ..⟩

variable {why : Fin 3} {val : Int} {on : Nat} {len : Moment}

theorem switchFaultDetect_vds (hr : s.rowHolds n 0 val on len.val = true) (ht : ((s.bridge n b).sw high).turning = true) :
    exec (.switchFaultDetect n b high 0 val on len) s = .next (s.switchFault n [(b, high)] 1 (if high then 0x0301 else 0x0302)
      (4 * n.val + b.val) (s.tickAt len.off)) :=
  congrArg Host.Outcome.next ((if_neg (by simp [hr])).trans ((if_pos rfl).trans (if_pos (by simp [SwitchSt.onAt, ht]))))

theorem switchFaultDetect_shunt (hw : why ≠ 0) (hr : s.rowHolds n why val on len.val = true) (ha : s.gateArmed n = true)
    (hl : s.shuntLive n b (s.tickAt len.off) = true) : exec (.switchFaultDetect n b high why val on len) s =
      .next (s.switchFault n (s.shuntSwitches n b (s.tickAt len.off)) (if why = 1 then 2 else 3) (if why = 1 then 0x0303 else 0x0304)
        (2 * n.val + coilOf b) (s.tickAt len.off)) :=
  congrArg Host.Outcome.next ((if_neg (by simp [hr])).trans ((if_neg hw).trans (if_pos (by simp [ha, hl]))))

end

/-! ### Governing enables (R317 to R321) -/

section
variable {s : State} {n b : Fin 4} {k : Option (Fin 4)}

theorem setEnable_level (s : State) (n b : Fin 4) (k : Option (Fin 4)) (v : Bool) : ((s.setEnable n k v).pins.pinEn.get n).get b =
    if b = k.getD 0 then v else (s.pins.pinEn.get n).get b := by
  rw [State.setEnable, Quad.get_upd_self, Quad.get_set]

theorem setEnable_level_of_ne {m : Fin 4} (hm : m ≠ n) (v : Bool) : (s.setEnable n k v).pins.pinEn.get m = s.pins.pinEn.get m := by
  rw [State.setEnable, Quad.get_upd, if_neg hm]

theorem governed_allOff {g : GateSt} (hb : b ∈ governedBy k) (T pulse : Nat) :
    ((governedBy k).foldl (fun g b => g.updBr b (fun y => y.allOff T pulse)) g).br b = (g.br b).allOff T pulse := by
  cases k with
  | none => fin_cases b <;> rfl
  | some a =>
    obtain rfl := List.mem_singleton.mp hb
    exact GateSt.updBr_br_self g b fun y => y.allOff T pulse

theorem ungoverned_allOff {g : GateSt} (hb : b ∉ governedBy k) (T pulse : Nat) :
    ((governedBy k).foldl (fun g b => g.updBr b (fun y => y.allOff T pulse)) g).br b = g.br b := by
  cases k with
  | none => exact absurd (by fin_cases b <;> decide) hb
  | some a => exact (GateSt.updBr_br g a b fun y => y.allOff T pulse).trans (if_neg fun h => hb (List.mem_singleton.mpr h))

theorem brakeOff_gate (s : State) (n : Fin 4) : (s.brakeOff n).gate = s.gate := only_gate (w := [.mon]) (by simp) (by simp)

theorem brakeOff_pins (s : State) (n : Fin 4) : (s.brakeOff n).pins = s.pins := only_pins (w := [.mon]) (by simp) (by simp)

/-- A fall of the governing enable turns off what it governs, and is noted at Ready and in D1 (R317, R318, R321). -/
theorem governingEnableFall_gives (hf : s.enableFits n k = true) (hl : s.enableLevel n k = true) :
    Answers (.governingEnableFall n k) s (fun t => t.pins = (s.setEnable n k false).pins ∧
      (∀ b ∈ governedBy k, t.bridge n b = (s.bridge n b).allOff s.frame.tickBase (s.ps n 0x11)) ∧
      (∀ b ∉ governedBy k, t.bridge n b = s.bridge n b) ∧ ((s.seq n = .ready ∨ s.seq n = .d1) → (t.gate.get n).fallNote = true)) := by
  refine ⟨_, congrArg Host.Outcome.next ((if_neg (by simp [hf])).trans (if_neg (by simp [hl]))), ?_⟩
  extract_lets t watch moved u
  have hu (b : Fin 4) : u.bridge n b =
      ((governedBy k).foldl (fun g b => g.updBr b (fun y => y.allOff s.frame.tickBase (s.ps n 0x11))) (s.gate.get n)).br b :=
    (congrArg (GateSt.br · b) (Quad.get_upd_self s.gate n _)).trans (by fin_cases b <;> rfl)
  have hon (b : Fin 4) (hb : b ∈ governedBy k) := (hu b).trans (governed_allOff hb _ _)
  have hoff (b : Fin 4) (hb : b ∉ governedBy k) := (hu b).trans (ungoverned_allOff hb _ _)
  have hnote (hq : s.seq n = .ready ∨ s.seq n = .d1) : (u.gate.get n).fallNote = true := by
    have hw : watch = true := by
      have hs : t.seq n = s.seq n := rfl
      rcases hq with h | h <;> simp [watch, hs, h]
    exact (congrArg GateSt.fallNote (Quad.get_upd_self s.gate n _)).trans (Bool.or_eq_true_iff.mpr (.inr hw))
  cases k with
  | none =>
    have hbr (b : Fin 4) : (u.brakeOff n).bridge n b = u.bridge n b := congrArg (fun g => (g.get n).br b) (brakeOff_gate u n)
    exact ⟨brakeOff_pins u n, fun b hb => (hbr b).trans (hon b hb), fun b hb => (hbr b).trans (hoff b hb),
      fun hq => (congrArg (fun g => (g.get n).fallNote) (brakeOff_gate u n)).trans (hnote hq)⟩
  | some a => exact ⟨rfl, hon, hoff, hnote⟩

/-- A rise of the governing enable is noted; AXENn's delays regulation at Ready (R320). -/
theorem governingEnableRise_gives (hf : s.enableFits n k = true) (hl : s.enableLevel n k = false) :
    Answers (.governingEnableRise n k) s (fun t => t.pins = (s.setEnable n k true).pins ∧ (∀ b, t.bridge n b = s.bridge n b) ∧
      (k = none → (t.gate.get n).riseNote = true ∧ (s.seq n = .ready → (t.gate.get n).enBack = 2)) ∧
      (k ≠ none → (t.gate.get n).enBack = (s.gate.get n).enBack) ∧ s.only [.pins, .gate] t) := by
  refine ⟨_, congrArg Host.Outcome.next (if_neg (by simp [hf, hl])), ?_⟩
  extract_lets t live
  refine ⟨rfl, fun b => bridge_updGate fun g => by fin_cases b <;> rfl, fun hk => ?_, fun hk => ?_, ?_⟩
  · have hs : t.seq n = s.seq n := rfl
    rw [updGate_gate, Quad.get_upd_self, hk]
    exact ⟨Bool.or_true _, fun hq => if_pos (by simp [live, hs, hq])⟩
  · rw [updGate_gate, Quad.get_upd_self]
    exact if_neg (by simp [hk])
  · simp [State.only, t]

end

/-! ### Pin mode (R322 to R324) -/

section
variable {s : State} {n b k : Fin 4} {high : Bool}

/-- A half-bridge may be calmed by an insertion that begins, never turned on. -/
theorem nextInsert_calms (s : State) (n k : Fin 4) : (s.bridge n k).Calms ((s.nextInsert n).bridge n k) := by
  obtain e | ⟨b, -, e⟩ := nextInsert_cases s n
  · rw [e]
    exact .refl _
  · rw [e, beginInsert_bridge]
    refine .ite (fun h => ?_) fun _ => .refl _
    subst h
    obtain ⟨hhi, hlo⟩ := (BridgeSt.Calms.refl (s.bridge n k)).startOff true 0 0
    exact ⟨hhi, hlo⟩

theorem BridgeSt.Calms.still_sw {x y : BridgeSt} (h : x.Calms y) (hx : (x.sw high).turning = false) : (y.sw high).turning = false := by
  refine Bool.eq_false_iff.mpr fun hy => Bool.false_ne_true (hx.symm.trans ?_)
  cases high
  · exact h.2 hy
  · exact h.1 hy

/-- The start of a turn-on leaves the partner as it is. -/
theorem startOn_sw_partner (y : BridgeSt) (high blocked : Bool) (vds bs T : Nat) :
    (y.startOn high blocked vds bs T).sw (!high) = y.sw (!high) := by
  unfold BridgeSt.startOn BridgeSt.turnOn
  split
  · rfl
  · split
    · exact edgeOn_sw_partner y high vds T
    · rfl

theorem BridgeSt.turnOff_still (y : BridgeSt) (high : Bool) (T pulse : Nat) : ((y.turnOff high T pulse).sw high).turning = false := by
  rw [BridgeSt.turnOff_sw, BridgeSt.startOff_sw_self]
  exact startOff_turning _

/-- An IN pulse shorter than the filter is counted and has no other effect on pins and gates (R323). -/
theorem pinModeInEdge_short {level : Bool} {width : Moment} {vds bs : Nat} (hp : s.pinModeV n = true) (hq : s.seq n = .ready)
    (hl : (s.pins.pinIn.get n).get k ≠ level) (hw : width.val < s.ps n 0x18) :
    Answers (.pinModeInEdge n k level width vds bs) s (fun t => t.rejects (inKey n k) = min 0xFFFF (s.rejects (inKey n k) + 1) ∧
      t.gate = s.gate ∧ t.pins.pinIn = s.pins.pinIn) := by
  refine ⟨_, congrArg Host.Outcome.next ((if_neg (by simp [hp, hq, hl])).trans (if_pos hw)), ?_⟩
  extract_lets v p t
  refine ⟨?_, only_gate (w := allBut .gate) (a := t.evIf _ _ _) (b := t) (by simp) (by simp),
    (congrArg PinSt.pinIn (evIf_pins t _ _ _)).trans rfl⟩
  rw [State.rejects, evIf_pins]
  exact tabGet_tabSet_self _ _ (by omega)

/-- An IN edge that has lasted sets the level, and turns off the switch that the level does not ask for (R323, R324). -/
theorem pinModeInEdge_long {level : Bool} {width : Moment} {vds bs : Nat} (hp : s.pinModeV n = true) (hq : s.seq n = .ready)
    (hl : (s.pins.pinIn.get n).get k ≠ level) (hw : s.ps n 0x18 ≤ width.val) :
    Answers (.pinModeInEdge n k level width vds bs) s (fun t => (t.pins.pinIn.get n).get k = level ∧
      ((t.bridge n k).sw (!level)).turning = false ∧ s.only [.pins, .gate] t) := by
  refine ⟨_, congrArg Host.Outcome.next ((if_neg (by simp [hp, hq, hl])).trans (if_neg hw.not_gt)), ?_⟩
  extract_lets p t T u v on
  have ht : (t.pins.pinIn.get n).get k = level := by
    show ((s.pins.pinIn.upd n fun q => q.set k level).get n).get k = level
    rw [Quad.get_upd_self, Quad.get_set_self]
  have hu : ((u.bridge n k).sw (!level)).turning = false := by
    rw [bridge_updBridge_self]
    cases level
    · exact BridgeSt.turnOff_still _ true T _
    · exact BridgeSt.turnOff_still _ false T _
  have hv : ((v.bridge n k).sw (!level)).turning = false := (nextInsert_calms u n k).still_sw hu
  have hvp : v.pins = t.pins := only_pins (w := [.gate]) (a := v) (b := t) (by simp [v, u]) (by simp)
  have hvo : s.only [.pins, .gate] v := by simp [State.only, v, u, t]
  split
  · refine ⟨hvp.symm ▸ ht, ?_, ?_⟩
    · rw [bridge_updBridge_self, startOn_sw_partner]
      exact hv
    · simp [State.only] at hvo ⊢
      exact hvo
  · exact ⟨hvp.symm ▸ ht, hv, hvo⟩

end

end Sys2Proof.Machine
end

section
/-! Settles O17. -/

namespace Sys2Proof.Machine

/-- Settles O17: switch faults by what a latch does (R328, R329), the governing enables by what they govern (R317 to R321), edges of pin mode
by whether the level has lasted (R323, R324), and GATE_STATUS by its row. -/
theorem gateInputComplete : Obligations.GateInputComplete := by
  unfold Obligations.GateInputComplete
  refine ⟨?_, ?_, ?_, ?_, ?_, ?_, ?_, fun n k level width vds bs s hp hq hl hw => pinModeInEdge_short hp hq hl hw,
    fun n k level width vds bs s hp hq hl hw => pinModeInEdge_long hp hq hl hw, ?_⟩
  · intro n b high val on len s ht hc hon hval hlen
    exact ⟨_, switchFaultDetect_vds (by simp [State.rowHolds, hon, hval, hlen]) ht, latch_cause hc (by decide), latch_phase hc (by decide) ht,
      switchFault_faults .., switchFault_only ..⟩
  · intro n b high val on len s ha hval hlen hl
    exact ⟨_, switchFaultDetect_shunt (why := 1) (by decide) (by simp [State.rowHolds, hval, hlen]) ha hl, shuntFault_gives (by decide) _ _⟩
  · intro n b high val on len s ha hval hlen hl
    exact ⟨_, switchFaultDetect_shunt (why := 2) (by decide) (by simp [State.rowHolds, hval, hlen]) ha hl, shuntFault_gives (by decide) _ _⟩
  · intro n s hp hl
    obtain ⟨t, e, hpins, hbr, -, hnote⟩ := governingEnableFall_gives (k := none) (by simp [State.enableFits, hp]) hl
    refine ⟨t, e, ?_, fun m hm => ?_, fun b => hbr b (by fin_cases b <;> decide), (StaysBeside.governingEnableFall none _ e).gate_eq, hnote⟩
    · rw [State.axen, hpins, setEnable_level]
      rfl
    · rw [State.axen, hpins, setEnable_level_of_ne hm, State.axen]
  · intro n b s hp hl
    obtain ⟨t, e, hpins, hon, hoff, -⟩ := governingEnableFall_gives (k := some b) (by simp [State.enableFits, hp]) hl
    refine ⟨t, e, ?_, hon b (List.mem_singleton_self b), fun k hk => ?_, fun k hk => hoff k (hk ∘ List.mem_singleton.mp)⟩
    · rw [hpins, setEnable_level]
      exact if_pos rfl
    · rw [hpins, setEnable_level]
      exact if_neg hk
  · intro n s hp hl
    obtain ⟨t, e, hpins, hbr, hnone, -, honly⟩ := governingEnableRise_gives (k := none) (by simp [State.enableFits, hp]) hl
    refine ⟨t, e, ?_, hbr, (hnone rfl).1, (hnone rfl).2, honly⟩
    rw [State.axen, hpins, setEnable_level]
    rfl
  · intro n b s hp hl
    obtain ⟨t, e, hpins, hbr, -, hsome, honly⟩ := governingEnableRise_gives (k := some b) (by simp [State.enableFits, hp]) hl
    refine ⟨t, e, ?_, hsome nofun, hbr, honly⟩
    rw [hpins, setEnable_level]
    exact if_pos rfl
  · exact starts_of_start (fun _ _ => rfl) (fun _ _ k => k) fun _ _ hw => ⟨doneWith_code hw _ _,
      only_gate (w := [.host, .intake, .ports, .fab, .iso, .faults]) (by simp) (by simp)⟩

end Sys2Proof.Machine
end

section
/-! SUPPORT. The edges of a half-bridge: the start of a turn-on, the end of P2, the dead time and the refresh (R300 to R315). -/

namespace Sys2Proof.Machine

/-! ### What an update of a half-bridge leaves of its axis -/

section
variable (g : GateSt) (b : Fin 4) (f : BridgeSt → BridgeSt)

@[simp] theorem GateSt.updBr_inserts : (g.updBr b f).inserts = g.inserts := by fin_cases b <;> rfl

@[simp] theorem GateSt.updBr_platEnds : (g.updBr b f).platEnds = g.platEnds := by fin_cases b <;> rfl

@[simp] theorem GateSt.updBr_quietH : (g.updBr b f).quietH = g.quietH := by fin_cases b <;> rfl

@[simp] theorem GateSt.updBr_quietAt : (g.updBr b f).quietAt = g.quietAt := by fin_cases b <;> rfl

theorem updBridge_gate (s : State) (n : Fin 4) : (s.updBridge n b f).gate.get n = (s.gate.get n).updBr b f := Quad.get_upd_self ..

end

/-! ### The start of a turn-on (R301, R305, R307, R314) -/

section
variable {y : BridgeSt} {high blocked : Bool} {vds bs T pulse : Nat}

theorem startOn_of_partner_off (hoff : (y.sw (!high)).phase = .off) (hbs : high = true → 7000 ≤ bs) :
    y.startOn high blocked vds bs T = y.edgeOn high vds T := by
  have hc : ¬ (high && decide (bs < 7000) && (y.lo.phase == .off)) = true := by
    cases high
    · simp
    · simp [hbs rfl]
  exact (if_neg hc).trans (if_pos hoff)

theorem startOn_of_partner_on (hon : (y.sw (!high)).phase ≠ .off) :
    y.startOn high blocked vds bs T = { y with pending := some high } := by
  have hc : ¬ (high && decide (bs < 7000) && (y.lo.phase == .off)) = true := by
    cases high
    · simp
    · simp [show y.lo.phase ≠ .off from hon]
  exact (if_neg hc).trans (if_neg hon)

theorem startOn_of_discharged (hoff : y.lo.phase = .off) (hbs : bs < 7000) :
    y.startOn true blocked vds bs T = { y with recharge := true, pending := if blocked then none else some false } :=
  if_pos (by simp [hoff, hbs])

theorem edgeOn_phase (y : BridgeSt) (high : Bool) (vds T : Nat) : ((y.edgeOn high vds T).sw high).phase = .onP1 := by
  cases high <;> rfl

/-! ### Turn-offs -/

theorem lowEnds_pending (y : BridgeSt) (T pulse : Nat) : (y.lowEnds T pulse).pending = y.pending := by
  unfold BridgeSt.lowEnds
  split
  · rfl
  · split <;> rfl

theorem startOff_pending (y : BridgeSt) (high : Bool) (T pulse : Nat) : (y.startOff high T pulse).pending = y.pending := by
  cases high
  · exact lowEnds_pending _ T pulse
  · rfl

/-- A low side that was on for a pulse refreshes its half-bridge with its turn-off (R309). -/
theorem startOff_of_whole {a : Nat} (ha : y.lowAt = some a) (hw : a + pulse ≤ T) : y.startOff false T pulse =
    { y with lo := y.lo.startOff, lowAt := none, refreshAt := T, due := false, altered := false } :=
  BridgeSt.lowEnds_of_whole (y := { y with lo := y.lo.startOff }) ha hw

theorem latched_pending {cause : Nat} (hp : y.pending = none) (hi : high = false → y.insert = false) :
    (y.latched high cause T pulse).pending = none := by
  have hz : (y.turnOff high T pulse).pending = none := by
    rw [BridgeSt.turnOff_eq, startOff_pending, hp]
    rfl
  cases high
  · exact (congrArg BridgeSt.pending (if_neg (by simp [hi rfl]))).trans hz
  · exact hz

end

/-! ### The end of P2 (R303, R306) -/

section
variable {s : State} {n b : Fin 4} {high rising : Bool} {vds vgs len : Nat} {lag : Int}

/-- P2 ends at once where VDS or VGS has reached its threshold. -/
theorem plateauWhy_of_reached
    (h : (if rising then vds ≤ 1000 else s.power.vm ≤ vds + 1000) ∨ (if rising then 7000 ≤ vgs else vgs ≤ 1500)) :
    ∃ why < 4, s.plateauWhy n rising vds vgs len lag = some why := by
  by_cases hv : (if rising then decide (vds ≤ 1000) else decide (s.power.vm ≤ vds + 1000)) = true
  · refine ⟨_, ?_, if_pos hv⟩
    split
    · decide
    · split <;> decide
  · refine ⟨3, by decide, (if_neg hv).trans (if_pos ?_)⟩
    cases rising
    · simpa using h.resolve_left (by simpa using hv)
    · simpa using h.resolve_left (by simpa using hv)

/-- Neither VDS nor VGS has reached its threshold: the time limit ends P2. -/
theorem plateauWhy_of_limit (hvds : 1000 < vds) (hvgs : vgs < 7000) (hlen : s.ps n 7 ≤ len) :
    s.plateauWhy n true vds vgs len lag = some 4 :=
  (if_neg (by simpa using hvds)).trans ((if_neg (by simpa using hvgs)).trans (if_pos hlen))

/-- An end of P2 by a threshold, the pre-charge time not adapted, only begins the next phase. -/
theorem plateau_of_reached {why : Nat} (hw : s.plateauWhy n rising vds vgs len lag = some why) (hlt : why < 4) (h8 : s.ps n 8 ≠ 1) :
    s.plateau n b high rising vds vgs len lag =
      s.updBridge n b (fun y => y.updSw high (fun x => { x with phase := if rising then .on else .offP3 })) := by
  have hadapt : (decide (why ≤ 2) && s.ps n 8 == 1) = false := by simp [h8]
  have hnote (t : State) : t.notePlateau n false why = t := if_neg hlt.not_ge
  unfold State.plateau
  simp only [hw, hadapt, Bool.false_and, Bool.false_eq_true, if_false, hnote]
  refine updBridge_congr ?_
  cases high <;> cases rising <;> rfl

/-- An end of P2 by the time limit is counted, and reported once (R303). -/
theorem notePlateau_limit (s : State) (n : Fin 4) : (∀ k, (s.notePlateau n false 4).bridge n k = s.bridge n k) ∧
    ((s.notePlateau n false 4).gate.get n).platEnds = min 0xFFFF ((s.gate.get n).platEnds + 1) ∧
    ((s.notePlateau n false 4).gate.get n).platSeen = true := by
  have hev (t : State) : (t.evFree 0x0304).gate = t.gate := only_gate (w := allBut .gate) (by simp) (by simp)
  set t := s.updGate n (fun g => { g with platEnds := min 0xFFFF (g.platEnds + 1) }) with ht
  have hn : s.notePlateau n false 4 = if (t.gate.get n).platSeen then t else (t.updGate n (fun g => { g with platSeen := true })).evFree 0x0304 := rfl
  have hbr (k : Fin 4) : t.bridge n k = s.bridge n k := bridge_updGate fun _ => by fin_cases k <;> rfl
  rw [hn]
  split
  · next hseen => exact ⟨hbr, congrArg GateSt.platEnds (Quad.get_upd_self ..), hseen⟩
  · refine ⟨fun k => ?_, ?_, ?_⟩
    · refine (congrArg (fun g => (g.get n).br k) (hev _)).trans ((bridge_updGate fun _ => ?_).trans (hbr k))
      fin_cases k <;> rfl
    · rw [hev, updGate_gate, Quad.get_upd_self, ht, updGate_gate, Quad.get_upd_self]
    · rw [hev, updGate_gate, Quad.get_upd_self]

/-- The time limit ends P2 of a turn-on, adapts nothing and is noted. -/
theorem plateau_of_limit (hvds : 1000 < vds) (hvgs : vgs < 7000) (hlen : s.ps n 7 ≤ len) :
    s.plateau n b high true vds vgs len lag =
      (s.updBridge n b (fun y => y.updSw high (fun x => { x with phase := .on }))).notePlateau n false 4 := by
  unfold State.plateau
  simp only [plateauWhy_of_limit hvds hvgs hlen]
  refine congrArg (State.notePlateau · n false 4) (updBridge_congr ?_)
  cases high <;> rfl

end

end Sys2Proof.Machine
end

section
/-! What the events of a half-bridge do, and O16, which they settle. -/

namespace Sys2Proof.Machine

/-! ### Edges and plateaus -/

section
variable {n b : Fin 4} {high : Bool} {off vds vgs bs len : Nat} {lag : Int} {s : State}

theorem gateEdge_on (ht : ((s.bridge n b).sw high).turning = false) (hb : s.swBlocked n b high = false)
    (hc : s.edgeCalled n b high true (s.tickAt off) = true) : exec (.gateEdge n b high true off vds bs) s =
      .next (s.updBridge n b (fun y => y.startOn high (s.swBlocked n b false) vds bs (s.tickAt off))) :=
  congrArg Host.Outcome.next ((if_pos rfl).trans (if_pos (by simp [ht, hb, hc])))

theorem gateEdge_off (ht : ((s.bridge n b).sw high).turning = true) (hc : s.edgeCalled n b high false (s.tickAt off) = true) :
    Answers (.gateEdge n b high false off vds bs) s (fun t => ((t.bridge n b).sw high).phase = .offP1 ∧
      ((t.bridge n b).sw (!high)) = ((s.bridge n b).sw (!high)) ∧ (∀ m, m ≠ n → t.gate.get m = s.gate.get m) ∧
      (∀ k, k ≠ b → t.bridge n k = s.bridge n k) ∧ s.only [.gate] t) := by
  have e : exec (.gateEdge n b high false off vds bs) s =
      .next (s.updBridge n b (fun y => y.turnOff high (s.tickAt off) (s.ps n 0x11))) :=
    congrArg Host.Outcome.next ((if_neg (by simp)).trans (if_pos (by simp [ht, hc])))
  refine ⟨_, e, ?_, ?_, (StaysBeside.gateEdge b high false off vds bs _ e).gate_eq, fun k hk => bridge_updBridge_of_ne hk _, ?_⟩
  · rw [bridge_updBridge_self, BridgeSt.turnOff_sw, BridgeSt.startOff_sw_self]
    exact SwitchSt.startOff_phase ht
  · rw [bridge_updBridge_self, BridgeSt.turnOff_sw, BridgeSt.startOff_sw_partner]
  · simp [State.only]

theorem plateauEnd_onP1_waits (hp : ((s.bridge n b).sw high).phase = .onP1) (hl : len < ((s.bridge n b).sw high).tpreOn) :
    exec (.gatePlateauEnd n b high vds vgs len lag) s = .next s := by
  refine congrArg Host.Outcome.next ?_
  simp only [hp, if_pos hl]

theorem plateauEnd_onP1_ends (hp : ((s.bridge n b).sw high).phase = .onP1) (hl : ((s.bridge n b).sw high).tpreOn ≤ len) :
    exec (.gatePlateauEnd n b high vds vgs len lag) s = .next (s.updBridge n b (fun y => y.updSw high (fun x =>
      { x with phase := if ((s.bridge n b).sw high).skip then .on else .onP2, skip := false }))) := by
  refine congrArg Host.Outcome.next ?_
  simp only [hp, if_neg hl.not_gt]

theorem plateauEnd_onP2 (hp : ((s.bridge n b).sw high).phase = .onP2) :
    exec (.gatePlateauEnd n b high vds vgs len lag) s = .next (s.plateau n b high true vds vgs len lag) := by
  refine congrArg Host.Outcome.next ?_
  simp only [hp]

theorem plateauEnd_offP1_ends (hp : ((s.bridge n b).sw high).phase = .offP1) (hf : ((s.bridge n b).sw high).fault = false)
    (hl : ((s.bridge n b).sw high).tpreOff ≤ len) : exec (.gatePlateauEnd n b high vds vgs len lag) s =
      .next (s.updBridge n b (fun y => y.updSw high (fun x => { x with phase := .offP2, skip := false }))) := by
  refine congrArg Host.Outcome.next ?_
  simp only [hp, hf, if_neg hl.not_gt, Bool.false_eq_true, if_false]

theorem plateauEnd_offP2 (hp : ((s.bridge n b).sw high).phase = .offP2) (hf : ((s.bridge n b).sw high).fault = false) :
    exec (.gatePlateauEnd n b high vds vgs len lag) s = .next (s.plateau n b high false vds vgs len lag) := by
  refine congrArg Host.Outcome.next ?_
  simp only [hp, hf, Bool.false_eq_true, if_false]

/-- A switch that a fault turned off stays at the fault sink until its VGS is down (R328). -/
theorem plateauEnd_fault
    (hp : ((s.bridge n b).sw high).phase = .offP1 ∨ ((s.bridge n b).sw high).phase = .offP2 ∨ ((s.bridge n b).sw high).phase = .offP3)
    (hf : ((s.bridge n b).sw high).fault = true) : exec (.gatePlateauEnd n b high vds vgs len lag) s = (if 1500 < vgs then .next s
      else .next (s.updBridge n b (fun y => y.updSw high (fun x => { x with fault := false, phase := .offP3 })))) := by
  refine Eq.trans (congrArg Host.Outcome.next ?_) (apply_ite Host.Outcome.next _ _ _)
  rcases hp with hp | hp | hp <;> simp only [hp, hf, if_true] <;> rfl

theorem plateauEnd_limit (hp : ((s.bridge n b).sw high).phase = .onP2) (hvds : 1000 < vds) (hvgs : vgs < 7000) (hlen : s.ps n 7 ≤ len) :
    Answers (.gatePlateauEnd n b high vds vgs len lag) s (fun t => ((t.bridge n b).sw high).phase = .on ∧
      (t.gate.get n).platEnds = min 0xFFFF ((s.gate.get n).platEnds + 1) ∧ (t.gate.get n).platSeen = true) := by
  have e := (plateauEnd_onP2 (vds := vds) (vgs := vgs) (len := len) (lag := lag) hp).trans
    (congrArg Host.Outcome.next (plateau_of_limit hvds hvgs hlen))
  obtain ⟨hbr, hends, hseen⟩ := notePlateau_limit (s.updBridge n b (fun y => y.updSw high (fun x => { x with phase := .on }))) n
  refine ⟨_, e, ?_, ?_, hseen⟩
  · rw [hbr, bridge_updBridge_self, BridgeSt.sw_updSw_self]
  · rw [hends, updBridge_gate, GateSt.updBr_platEnds]

end

/-! ### Dead time -/

section
variable {n b : Fin 4} {high : Bool} {gone : Moment} {low vds bs T : Nat} {s : State}

theorem deadTimeEnd_goesOn (hp : (s.bridge n b).pending = some high) (hb : s.swBlocked n b high = false)
    (ht : ((s.bridge n b).sw (!high)).turning = false) (hg : s.ps n 0x0A ≤ gone.val) (hl : 2 ≤ low) :
    exec (.deadTimeEnd n b gone low vds bs) s = .next (s.pendingOn n b high vds bs (s.tickAt gone.off)) := by
  refine congrArg Host.Outcome.next ((if_neg (not_or.mpr ⟨hg.not_gt, hl.not_gt⟩)).trans ?_)
  simp only [hp]
  exact (if_neg (by simp [hb])).trans (if_neg (by simp [ht]))

/-- The half-bridge whose waiting turn-on begins, its partner off for good. -/
def BridgeSt.goesOn (y : BridgeSt) (high : Bool) (vds T : Nat) : BridgeSt :=
  ({ y.updSw (!high) (fun x => { x with phase := .off, fault := false }) with insert := y.insert && !high } : BridgeSt).edgeOn high vds T

theorem goesOn_startOn (y : BridgeSt) {low : Bool} (hbs : high = true → 7000 ≤ bs) :
    ({ y.updSw (!high) (fun x => { x with phase := .off, fault := false }) with insert := y.insert && !high } : BridgeSt).startOn high low vds bs T =
      y.goesOn high vds T :=
  startOn_of_partner_off (by cases high <;> rfl) hbs

theorem goesOn_phase (y : BridgeSt) (high : Bool) (vds T : Nat) : ((y.goesOn high vds T).sw high).phase = .onP1 := edgeOn_phase _ high vds T

theorem goesOn_partner (y : BridgeSt) (high : Bool) (vds T : Nat) : ((y.goesOn high vds T).sw (!high)).phase = .off := by
  cases high <;> rfl

/-- A turn-on that ends no insertion only changes its half-bridge (R307). -/
theorem pendingOn_plain (hi : high = true → (s.bridge n b).insert = false) (hbs : high = true → 7000 ≤ bs) :
    s.pendingOn n b high vds bs T = s.updBridge n b (fun y => y.goesOn high vds T) := by
  have hback : ¬ (high && (s.bridge n b).insert) = true := by
    cases high
    · simp
    · simp [hi rfl]
  exact (if_neg hback).trans (updBridge_congr (goesOn_startOn _ hbs))

theorem blankAgain_bridge (s : State) (n b k : Fin 4) : (s.blankAgain n b).bridge n k = s.bridge n k :=
  congrArg (fun g => (g.get n).br k) (only_gate (w := [.cur]) (a := s.blankAgain n b) (b := s) (by simp) (by simp))

/-- The return of a high side from an insertion restarts blanking, with no further insertion where none waits (R310, R311). -/
theorem pendingOn_back (hi : (s.bridge n b).insert = true) (hd : ∀ k, (s.bridge n k).due = false) (hbs : 7000 ≤ bs) :
    s.pendingOn n b true vds bs T = (s.updBridge n b (fun y => y.goesOn true vds T)).blankAgain n b := by
  have hb := bridge_updBridge_self s n b (fun y => y.goesOn true vds T)
  set t := s.updBridge n b (fun y => y.goesOn true vds T) with ht
  have hu : s.updBridge n b (fun y => ({ y.updSw (!true) (fun x => { x with phase := .off, fault := false }) with
      insert := y.insert && !true } : BridgeSt).startOn true (s.swBlocked n b false) vds bs T) = t :=
    updBridge_congr (goesOn_startOn (high := true) _ fun _ => hbs)
  have hon : (t.bridge n b).hi.turning = true := by
    rw [hb]
    rfl
  have hdue (k : Fin 4) : (t.bridge n k).due = false := by
    by_cases hk : k = b
    · rw [hk, hb]
      exact hd b
    · rw [ht, bridge_updBridge_of_ne hk]
      exact hd k
  refine (if_pos hi).trans ?_
  rw [hu, if_pos hon]
  exact nextInsert_of_none_waits fun k => insertWaits_of_not_due (by rw [blankAgain_bridge]; exact hdue k)

/-- Blanking restarts in an on phase of the chopper (R311). -/
theorem blankAgain_phase (hm : s.pinMode n = false) (hv : (s.cur.get n).voltage = false) (hp : ((s.cur.get n).coil (coilOf b)).phase = .on) :
    (((s.blankAgain n b).cur.get n).coil (coilOf b)).phase = .blank := by
  rw [State.blankAgain, if_neg (by simp [hm, hv]), updCur_cur, Quad.get_upd_self, coil_updCoil]
  simp [hp]

theorem gateOffTimeout_latches {vgs : Nat} {len : Moment}
    (hp : ((s.bridge n b).sw high).phase = .offP1 ∨ ((s.bridge n b).sw high).phase = .offP2 ∨ ((s.bridge n b).sw high).phase = .offP3)
    (hc : ((s.bridge n b).sw high).cause = 0) (hv : 1500 < vgs) (hl : s.ps n 7 + 200 ≤ len.val) :
    Answers (.gateOffTimeout n b high vgs len) s (fun t => ((t.bridge n b).sw high).cause = 6 ∧ ((t.bridge n b).sw high).fault = false ∧
      (t.bridge n b).pending = none ∧
      t.faults = { s.faults with raised := s.faults.raised ++ [(0x0306, 4 * n.val + b.val, axBits n, true)] } ∧ s.only [.gate, .faults] t) := by
  refine ⟨_, congrArg Host.Outcome.next (if_pos ⟨hp, hv, hl⟩), ?_⟩
  set u := s.updBridge n b (fun y => { y.updSw high (fun x => { x with fault := false }) with pending := none, insert := false })
  have hb : u.bridge n b = { (s.bridge n b).updSw high (fun x => { x with fault := false }) with pending := none, insert := false } :=
    bridge_updBridge_self ..
  have hcu : ((u.bridge n b).sw high).cause = 0 := by
    rw [hb]
    exact (congrArg SwitchSt.cause (BridgeSt.sw_updSw_self _ high _)).trans hc
  have hl := latch_bridge_self (T := s.tickAt len.off) hcu (by decide : 6 ≠ 0)
  refine ⟨latch_cause hcu (by decide), ?_, ?_, switchFault_faults .., ?_⟩
  · rw [switchFault_bridge, hl, latched_sw_self]
    rfl
  · rw [switchFault_bridge, hl]
    exact latched_pending (by rw [hb]) fun _ => by rw [hb]
  · simp [State.only, u]

end

/-! ### Refresh and recharge of a bootstrap (R309 to R315) -/

section
variable {n b k : Fin 4} {off mv ns : Nat} {s : State}

theorem refreshTimer_alters (hr : (s.bridge n b).refreshAt + 200 * s.ps n 0x10 ≤ s.tickAt off) (hm : s.pinMode n = false)
    (hv : (s.cur.get n).voltage = true) (hh : (s.cur.get n).hold = .moving) (hl : s.curLive n = true) :
    exec (.bootstrapRefreshTimer n b off) s = .next (s.updBridge n b (fun y => { y with altered := true })) :=
  congrArg Host.Outcome.next ((if_neg hr.not_gt).trans ((if_pos (by simp [State.altersPeriod, hm, hv, hh])).trans (if_pos hl)))

/-- In chopper mode the expiry of the refresh timer asks for an insertion (R310). -/
theorem refreshTimer_asks (hr : (s.bridge n b).refreshAt + 200 * s.ps n 0x10 ≤ s.tickAt off) (hv : (s.cur.get n).voltage = false)
    (ht : (s.bridge n b).hi.turning = true) (hi : (s.bridge n b).insert = false) : exec (.bootstrapRefreshTimer n b off) s =
      .next ((s.updBridge n b (fun y => { y with due := true })).nextInsert n) :=
  congrArg Host.Outcome.next ((if_neg hr.not_gt).trans ((if_neg (by simp [State.altersPeriod, hv])).trans (if_pos (by simp [ht, hi]))))

theorem refreshTimer_inserts (hr : (s.bridge n b).refreshAt + 200 * s.ps n 0x10 ≤ s.tickAt off) (hv : (s.cur.get n).voltage = false)
    (ht : (s.bridge n b).hi.turning = true) (hb : s.swBlocked n b false = false)
    (ho : ∀ k, (s.bridge n k).insert = false ∧ (k ≠ b → (s.bridge n k).due = false)) :
    Answers (.bootstrapRefreshTimer n b off) s (fun t => (t.bridge n b).insert = true ∧ (t.bridge n b).hi.phase = .offP1 ∧
      (t.bridge n b).pending = some false ∧ (t.gate.get n).inserts = min 0xFFFF ((s.gate.get n).inserts + 1) ∧
      (∀ k, k ≠ b → t.bridge n k = s.bridge n k) ∧ s.only [.gate] t) := by
  set u := s.updBridge n b (fun y => { y with due := true }) with hu
  have hub : u.bridge n b = { s.bridge n b with due := true } := bridge_updBridge_self s n b _
  have huo (k : Fin 4) (hk : k ≠ b) : u.bridge n k = s.bridge n k := bridge_updBridge_of_ne hk _
  have hnext : u.nextInsert n = u.beginInsert n b := by
    refine nextInsert_of_waits ?_ (fun k => ?_) ?_ fun k hk => insertWaits_of_not_due (huo k hk ▸ (ho k).2 hk)
    · exact (by simp [State.altersPeriod, hv] : s.altersPeriod n = false)
    · by_cases hk : k = b
      · rw [hk, hub]
        exact (ho b).1
      · rw [huo k hk]
        exact (ho k).1
    · have hblock : u.swBlocked n b false = false := (swBlocked_congr (by rw [hub]; rfl) (updBridge_clearing ..)).trans hb
      simp [State.insertWaits, hub, ht, hblock]
  have hb' := (beginInsert_bridge u n b b).trans (if_pos rfl)
  refine ⟨_, refreshTimer_asks hr hv ht (ho b).1, ?_⟩
  rw [← hu, hnext]
  refine ⟨?_, ?_, ?_, ?_, fun k hk => ?_, ?_⟩
  · rw [hb']
  · rw [hb', hub]
    exact SwitchSt.startOff_phase ht
  · rw [hb']
  · rw [State.beginInsert, updGate_gate, Quad.get_upd_self, updBridge_gate, GateSt.updBr_inserts, hu, updBridge_gate, GateSt.updBr_inserts]
  · rw [beginInsert_bridge, if_neg hk, huo k hk]
  · simp [State.only, State.beginInsert, u]

theorem refreshTimer_waits (hr : (s.bridge n b).refreshAt + 200 * s.ps n 0x10 ≤ s.tickAt off) (hv : (s.cur.get n).voltage = false)
    (ht : (s.bridge n b).hi.turning = true) (hi : (s.bridge n b).insert = false) (hk : (s.bridge n k).insert = true) :
    exec (.bootstrapRefreshTimer n b off) s = .next (s.updBridge n b (fun y => { y with due := true })) := by
  have hkb : k ≠ b := fun e => Bool.false_ne_true (hi.symm.trans (e ▸ hk))
  refine (refreshTimer_asks hr hv ht hi).trans (congrArg Host.Outcome.next (nextInsert_of_busy (Bool.or_eq_true_iff.mpr (.inr ?_))))
  refine List.any_eq_true.mpr ⟨k, by fin_cases k <;> decide, ?_⟩
  rw [bridge_updBridge_of_ne hkb]
  exact hk

theorem refreshPulseEnd_returns {a : Nat} (ha : (s.bridge n b).lowAt = some a) (hw : a + s.ps n 0x11 ≤ s.tickAt off)
    (hi : (s.bridge n b).insert = true) : Answers (.refreshPulseEnd n b off) s (fun t => s.only [.gate] t ∧ (t.bridge n b).lo.turning = false ∧
      (t.bridge n b).refreshAt = s.tickAt off ∧ (t.bridge n b).due = false ∧ (t.bridge n b).insert = !s.swBlocked n b true ∧
      (t.bridge n b).pending = (if s.swBlocked n b true then none else some true)) := by
  have e : exec (.refreshPulseEnd n b off) s = .next ((s.updBridge n b (fun y => { y.startOff false (s.tickAt off) (s.ps n 0x11) with
      insert := !s.swBlocked n b true, pending := if !s.swBlocked n b true then some true else none })).nextInsert n) :=
    congrArg Host.Outcome.next ((if_neg (by simp [ha, hw])).trans (if_pos hi))
  have hb := bridge_updBridge_self s n b (fun y => { y.startOff false (s.tickAt off) (s.ps n 0x11) with
      insert := !s.swBlocked n b true, pending := if !s.swBlocked n b true then some true else none })
  rw [startOff_of_whole ha hw] at hb
  have ht := (nextInsert_bridge_of_not_waits (insertWaits_of_not_due (congrArg BridgeSt.due hb))).trans hb
  refine ⟨_, e, by simp [State.only], ?_, ?_, ?_, ?_, ?_⟩
  · rw [ht]
    exact startOff_turning _
  · rw [ht]
  · rw [ht]
  · rw [ht]
  · rw [ht]
    cases s.swBlocked n b true <;> rfl

theorem refreshPulseEnd_quiet {a : Nat} (ha : (s.bridge n b).lowAt = some a) (hw : a + s.ps n 0x11 ≤ s.tickAt off)
    (hi : (s.bridge n b).insert = false) (hm : s.pinMode n = false) (hh : (s.cur.get n).hold = .quiet) (ht : (s.bridge n b).lo.turning = true) :
    Answers (.refreshPulseEnd n b off) s (fun t => (t.bridge n b).lo.phase = .offP1 ∧ (t.bridge n b).hi = (s.bridge n b).hi ∧
      (t.bridge n b).refreshAt = s.tickAt off ∧ (∀ k, k ≠ b → t.bridge n k = s.bridge n k) ∧ s.only [.gate] t) := by
  have e : exec (.refreshPulseEnd n b off) s = .next (s.updBridge n b (fun y => y.turnOff false (s.tickAt off) (s.ps n 0x11))) :=
    congrArg Host.Outcome.next ((if_neg (by simp [ha, hw])).trans ((if_neg (by simp [hi])).trans (if_pos (by simp [hm, hh]))))
  refine ⟨_, e, ?_, ?_, ?_, fun k hk => bridge_updBridge_of_ne hk _, by simp [State.only]⟩
  all_goals rw [bridge_updBridge_self, BridgeSt.turnOff_eq, startOff_of_whole ha hw]
  exact SwitchSt.startOff_phase ht

theorem recharged_gives {mv : Moment} (hr : (s.bridge n b).recharge = true) (hv : 8000 ≤ mv.val) (ht : (s.bridge n b).lo.turning = true) :
    Answers (.bootstrapRecharged n b mv) s (fun t => (t.bridge n b).recharge = false ∧
      (t.bridge n b).pending = (if s.swBlocked n b true then none else some true) ∧
      (t.bridge n b).lo.phase = .offP1 ∧ (t.bridge n b).hi = (s.bridge n b).hi ∧ s.only [.gate] t) := by
  refine ⟨_, congrArg Host.Outcome.next (if_pos (by simp [hr, hv])), ?_, ?_, ?_, ?_, by simp [State.only]⟩
  all_goals rw [bridge_updBridge_self]
  · rfl
  · rfl
  · exact ((congrArg SwitchSt.phase (BridgeSt.turnOff_sw _ false false _ _)).trans
      (congrArg SwitchSt.phase (BridgeSt.startOff_sw_self _ false _ _))).trans (SwitchSt.startOff_phase ht)
  · exact (BridgeSt.turnOff_sw _ false true _ _).trans (BridgeSt.startOff_sw_partner _ false _ _)

theorem rechargeTimeout_latches {us : Moment} (hr : (s.bridge n b).recharge = true) (hv : mv < 8000) (hu : 20 ≤ us.val)
    (hc : (s.bridge n b).hi.cause = 0) : Answers (.bootstrapRechargeTimeout n b mv us) s (fun t => (t.bridge n b).recharge = false ∧
      (t.bridge n b).pending = none ∧ (t.bridge n b).hi.cause = 5 ∧
      t.faults = { s.faults with raised := s.faults.raised ++ [(0x0308, 4 * n.val + b.val, axBits n, true)] }) := by
  refine ⟨_, congrArg Host.Outcome.next (if_pos (by simp [hr, hv, hu])), ?_⟩
  set u := s.updBridge n b (fun y => y.endRecharge none (s.tickAt us.off) (s.ps n 0x11))
  have hb : u.bridge n b = (s.bridge n b).endRecharge none (s.tickAt us.off) (s.ps n 0x11) := bridge_updBridge_self ..
  have hcu : ((u.bridge n b).sw true).cause = 0 := by
    rw [hb]
    exact (congrArg SwitchSt.cause ((BridgeSt.turnOff_sw _ false true _ _).trans (BridgeSt.startOff_sw_partner _ false _ _))).trans hc
  have hl := latch_bridge_self (T := s.tickAt us.off) hcu (by decide : 5 ≠ 0)
  refine ⟨?_, ?_, latch_cause (high := true) hcu (by decide), switchFault_faults ..⟩
  · rw [switchFault_bridge, hl]
    rfl
  · rw [switchFault_bridge, hl]
    exact latched_pending (by rw [hb]; rfl) nofun

theorem quietRefreshPulse_asks (hh : ((s.cur.get n).hold = .quiet ∧ s.permHeld n = false) ∨ s.pulsesOnly n = true)
    (hd : (s.gate.get n).quietAt + 50 * s.ps n 0x10 ≤ s.tickAt off) (hl : s.curLive n = true) (hs : s.faults.safe.get n = 0)
    (hf : s.faults.device = false) (hw : (s.gate.get n).hwOff = false) (hm : s.mon.shut = false) (he : (s.gate.get n).enBack = 0)
    (hen : s.enableOf n (Fin.ofNat 4 (s.gate.get n).quietH) = true) (hov : s.power.vmOv = false) (hp : s.pinMode n = false) :
    Answers (.quietRefreshPulse n off) s (fun t => (t.gate.get n).quietH = ((s.gate.get n).quietH + 1) % 4 ∧
      (t.gate.get n).quietAt = s.tickAt off ∧ s.only [.gate] t ∧
      (s.swBlocked n (Fin.ofNat 4 (s.gate.get n).quietH) false = false → (s.bridge n (Fin.ofNat 4 (s.gate.get n).quietH)).lo.turning = false →
        t.bridge n (Fin.ofNat 4 (s.gate.get n).quietH) = { s.bridge n (Fin.ofNat 4 (s.gate.get n).quietH) with pending := some false })) := by
  refine ⟨_, congrArg Host.Outcome.next (if_pos ?_), ?_⟩
  · rcases hh with ⟨hq, hperm⟩ | hpulse
    · simp [-Fin.ofNat_eq_cast, hq, hperm, hd, hl, hs, hf, hw, hm, he, hen, hov, hp]
    · simp [-Fin.ofNat_eq_cast, hpulse, hd, hl, hs, hf, hw, hm, he, hen, hov, hp]
  set b : Fin 4 := Fin.ofNat 4 (s.gate.get n).quietH
  set u := s.updGate n (fun g => { g with quietH := (g.quietH + 1) % 4, quietAt := s.tickAt off })
  have hg : u.gate.get n = { s.gate.get n with quietH := ((s.gate.get n).quietH + 1) % 4, quietAt := s.tickAt off } := Quad.get_upd_self ..
  have hb : u.bridge n b = s.bridge n b := bridge_updGate fun _ => by generalize b = c; fin_cases c <;> rfl
  have hblock : u.swBlocked n b false = s.swBlocked n b false := swBlocked_congr (by rw [hb]) (by rw [hg])
  dsimp only
  rw [hblock]
  split
  · next hx => exact ⟨by rw [hg], by rw [hg], by simp [State.only, u], fun h => absurd hx (by simp [h])⟩
  · refine ⟨?_, ?_, by simp [State.only, u], fun _ ht => ?_⟩
    · rw [updBridge_gate, GateSt.updBr_quietH, hg]
    · rw [updBridge_gate, GateSt.updBr_quietAt, hg]
    · rw [bridge_updBridge_self, hb]
      exact if_neg (by simp [ht])

end

/-- Settles O16: each clause by the lemma on its event. The under-voltage clause rests on what O59 says: the comparator's hold (R332, log
entry 16) is over, and the fault sink holds the latched switch (R315, R328). -/
theorem gateEdgeComplete : Obligations.GateEdgeComplete := by
  unfold Obligations.GateEdgeComplete
  refine ⟨?_, ?_, ?_, fun _ _ _ _ _ _ _ => gateEdge_off, fun _ _ _ _ _ _ _ _ => plateauEnd_onP1_waits,
    fun _ _ _ _ _ _ _ _ => plateauEnd_onP1_ends, ?_, fun _ _ _ _ _ _ _ _ => plateauEnd_offP1_ends, ?_,
    fun _ _ _ _ _ _ _ _ => plateauEnd_fault, fun _ _ _ _ _ _ _ _ => plateauEnd_limit, ?_, ?_,
    fun _ _ _ _ _ _ => gateOffTimeout_latches, fun _ _ _ _ => refreshTimer_alters, fun _ _ _ _ => refreshTimer_inserts,
    fun _ _ _ _ _ => refreshTimer_waits, fun _ _ _ _ _ => refreshPulseEnd_returns, fun _ _ _ _ _ => refreshPulseEnd_quiet,
    fun _ _ _ _ => recharged_gives, fun _ _ _ _ _ => rechargeTimeout_latches, ?_, fun _ _ _ => quietRefreshPulse_asks⟩
  · intro n b high off vds bs s ht hb hc hoff hbs
    exact (gateEdge_on ht hb hc).trans (congrArg Host.Outcome.next (updBridge_congr (startOn_of_partner_off hoff hbs)))
  · intro n b high off vds bs s ht hb hc hon
    exact (gateEdge_on ht hb hc).trans (congrArg Host.Outcome.next (updBridge_congr (startOn_of_partner_on hon)))
  · intro n b off vds bs s ht hb hc hoff hbs
    exact (gateEdge_on (high := true) ht hb hc).trans (congrArg Host.Outcome.next (updBridge_congr (startOn_of_discharged hoff hbs)))
  · intro n b high vds vgs len lag s hp h8 hr
    obtain ⟨why, hlt, hw⟩ := plateauWhy_of_reached (rising := true) hr
    exact (plateauEnd_onP2 hp).trans (congrArg Host.Outcome.next (plateau_of_reached hw hlt h8))
  · intro n b high vds vgs len lag s hp hf h8 hr
    obtain ⟨why, hlt, hw⟩ := plateauWhy_of_reached (rising := false) hr
    exact (plateauEnd_offP2 hp hf).trans (congrArg Host.Outcome.next (plateau_of_reached hw hlt h8))
  · intro n b high gone low vds bs s hp hb ht hi hg hl hbs
    refine ⟨_, (deadTimeEnd_goesOn hp hb ht hg hl).trans (congrArg Host.Outcome.next (pendingOn_plain hi hbs)), ?_, ?_, ?_,
      fun k hk => bridge_updBridge_of_ne hk _, by simp [State.only]⟩
    all_goals rw [bridge_updBridge_self]
    · rfl
    · exact goesOn_partner _ high vds _
    · exact goesOn_phase _ high vds _
  · intro n b gone low vds bs s hp hb ht hi hd hg hl hbs hm hv hphase
    refine ⟨_, (deadTimeEnd_goesOn (high := true) hp hb ht hg hl).trans (congrArg Host.Outcome.next (pendingOn_back hi hd hbs)), ?_, ?_, ?_,
      blankAgain_phase hm hv hphase, by simp [State.only]⟩
    all_goals rw [blankAgain_bridge, bridge_updBridge_self]
    · exact Bool.and_false _
    · rfl
    · rfl
  · intro n b mv ns len s ht hc hmv hns hlen
    obtain ⟨t, e, hcause, hphase, -, -, -, hfaults, honly⟩ := bootstrapDrops.1 n b mv ns len s ht hc hmv hns hlen
    exact ⟨t, e, hcause, hphase, hfaults, honly⟩

end Sys2Proof.Machine
end

section
/-! SUPPORT. Diagnosed items, their ages and insertions, and DIAG_STATUS (R346 to R356, Tables MON-7 and MON-8). -/

namespace Sys2Proof.Machine

/-! ### Items (R346, Table MON-7) -/

/-- The first element that passes a test is the inserted one, where no other passes it. -/
theorem find_insertBy {α : Type} (lt : α → α → Bool) {p : α → Bool} {a : α} {l : List α} (ha : p a = true) (hl : ∀ b ∈ l, p b = false) :
    (insertBy lt a l).find? p = some a := by
  induction l with
  | nil => simp [insertBy, ha]
  | cons b r ih =>
    obtain ⟨hb, hr⟩ := List.forall_mem_cons.mp hl
    unfold insertBy
    split
    · simp [ha]
    · simp [hb, ih hr]

section
variable {s : State} {k : Nat}

theorem item_no (s : State) (k : Nat) : (s.item k).no = k := by
  unfold State.item
  cases h : s.mon.items.find? (fun x => x.no == k) with
  | none => rfl
  | some x => simpa using List.find?_some h

theorem item_updItem_self {f : ItemSt → ItemSt} (hf : ∀ x, (f x).no = x.no) : (s.updItem k f).item k = f (s.item k) := by
  have hno : (f (s.item k)).no = k := (hf _).trans (item_no s k)
  unfold State.updItem
  rw [State.item, find_insertBy _ (by simp [hno]) (by simp)]
  rfl

theorem itemFault_item (code qual : Nat) (last : Int) :
    (s.itemFault k code qual last).item k = { s.item k with state := .faulted, code := code, last := last } :=
  item_updItem_self (f := fun x => { x with state := .faulted, code := code, last := last }) fun _ => rfl

theorem itemFault_raised (code qual : Nat) (last : Int) : (s.itemFault k code qual last).faults.raised =
    s.faults.raised ++ [(code, qual, s.itemAxes k, decide (code < 0x0410))] := rfl

theorem itemAxes_ref (hk : itemClass k = some .ref) : s.itemAxes k = 0 := by simp [State.itemAxes, hk]

theorem itemClass_ref (k : Fin 2) : itemClass (0x20 + k.val) = some .ref := by fin_cases k <;> rfl

theorem itemClass_brake (b : Fin 4) : itemClass (8 + b.val) = some .brake := by fin_cases b <;> rfl

theorem brake_of_item (b : Fin 4) : Fin.ofNat 4 (8 + b.val) = b := by fin_cases b <;> rfl

theorem exists_brake_of_itemClass (hk : itemClass k = some .brake) : ∃ b : Fin 4, k = 8 + b.val := by
  have hr : 8 ≤ k ∧ k ≤ 0x0B := by
    unfold itemClass at hk
    split at hk
    · cases hk
    · next h7 =>
      split at hk
      · next hb => exact ⟨by omega, hb⟩
      · (repeat' split at hk) <;> cases hk
  exact ⟨⟨k - 8, by omega⟩, by simp only; omega⟩

/-- An item that is overdue and has no insertion becomes UNDIAGNOSED, and FT-0x0A01 is noted (Table MON-8). -/
theorem diagAgeLimit_overdue {c : ItemClass} (hc : itemClass k = some c) (hins : c.inserts = false) (hok : (s.item k).state = .ok)
    (hage : (s.ageLimits c).1 ≤ (s.item k).age) : Answers (.diagAgeLimit k) s (fun t => (t.item k).state = .undiagnosed ∧
      ∃ a, t.faults.raised = s.faults.raised ++ [(0x0A01, k, a, true)]) := by
  set t := s.updItem k (fun x => { x with state := .undiagnosed })
  have e : exec (.diagAgeLimit k) s = .next (t.note 0x0A01 k (s.itemAxes k) true) :=
    congrArg Host.Outcome.next (by simp [hc, hok, hage, hins, t])
  have hitem : t.item k = _ := item_updItem_self (f := fun x => { x with state := .undiagnosed }) fun _ => rfl
  exact ⟨_, e, congrArg ItemSt.state hitem, _, rfl⟩

end

/-! ### Insertions (R349 to R352, R356; log entry 16) -/

section
variable {s : State} {k : Nat} {b : Fin 4}

/-- Of the items that disturb no axis, those of the brake outputs alone have an insertion. -/
theorem exists_brake_of_insertOk (ha : insertAxis k = none) (ho : s.insertOk k = true) : ∃ b : Fin 4, k = 8 + b.val := by
  refine exists_brake_of_itemClass ?_
  cases hc : itemClass k with
  | none => simp [State.insertOk, hc] at ho
  | some c => cases c with
    | coil => simp [insertAxis, hc] at ha
    | boot => simp [insertAxis, hc] at ha
    | brake => rfl
    | ref => simp [State.insertOk, hc] at ho
    | cmp => simp [State.insertOk, hc] at ho

theorem insertBegin_brake (s : State) (b : Fin 4) :
    s.insertBegin (8 + b.val) = s.updBrake b (fun x => { x with stretchAt := some (s.frame.counter + 1) }) := by
  simp only [State.insertBegin, itemClass_brake, brake_of_item]

theorem insertEnd_brake (s : State) (b : Fin 4) (val : Int) :
    s.insertEnd (8 + b.val) val = (s.brakeSample b val.toNat true).updBrake b (fun x => { x with stretchAt := none }) := by
  simp only [State.insertEnd, itemClass_brake, brake_of_item]

theorem brakeSample_good {ma : Nat} {byIns : Bool} (hs : s.inService (8 + b.val) = true) (hma : s.par (0x4026 + 8 * b.val) ≤ ma) :
    s.brakeSample b ma byIns = (s.updBrake b (fun x => { x with low := 0 })).updItem (8 + b.val)
      (fun x => { x with fresh := true, byIns := byIns, last := ma }) := by
  have hs' : (s.updBrake b (fun x => { x with low := 0 })).inService (8 + b.val) = true := hs
  simp only [State.brakeSample, hs, hma, Bool.not_true, Bool.false_eq_true, if_false, if_true, State.measured, hs']

/-- The insertion of a brake output counts, and stretches the period of the next frame (R352, R356). -/
theorem diagInsertion_begins {val : Int} (hst : (s.item k).state = .ageing) (hno : (s.item k).insNow = false) (ha : insertAxis k = none)
    (ho : s.insertOk k = true) (hr : s.insertRuns k = false) :
    Answers (.diagInsertion k val) s (fun t => s.only [.mon] t ∧ (t.item k).inserts = min 0xFFFF ((s.item k).inserts + 1) ∧
      (t.item k).insNow = true ∧ (itemClass k = some .brake → (t.mon.brakes.get (Fin.ofNat 4 k)).stretchAt = some (s.frame.counter + 1))) := by
  obtain ⟨b, rfl⟩ := exists_brake_of_insertOk ha ho
  set f : ItemSt → ItemSt := fun x => { x with insNow := true, inserts := min 0xFFFF (x.inserts + 1) }
  have e : exec (.diagInsertion (8 + b.val) val) s = .next ((s.updItem (8 + b.val) f).insertBegin (8 + b.val)) :=
    congrArg Host.Outcome.next (by simp [hr, hst, hno, ha, ho, itemClass_brake, f])
  have hitem : ((s.updItem (8 + b.val) f).insertBegin (8 + b.val)).item (8 + b.val) = f (s.item (8 + b.val)) := by
    rw [insertBegin_brake]
    exact item_updItem_self fun _ => rfl
  refine ⟨_, e, ?_, ?_, ?_, fun _ => ?_⟩
  · rw [insertBegin_brake]
    simp [State.only]
  · rw [hitem]
  · rw [hitem]
  · rw [insertBegin_brake, brake_of_item, updBrake_mon, Quad.get_upd_self]
    rfl

/-- The measurement of the stretched period refreshes the brake's item and ends the insertion (R354, R356). -/
theorem diagInsertion_measures {val : Int} (hc : itemClass k = some .brake) (hr : s.insertRuns k = true) (hs : s.inService k = true)
    (hv : s.par (0x4026 + 8 * (k % 4)) ≤ val.toNat) :
    Answers (.diagInsertion k val) s (fun t => s.only [.mon] t ∧ (t.item k).fresh = true ∧ (t.item k).byIns = true ∧
      (t.item k).last = (val.toNat : Int) ∧ (t.mon.brakes.get (Fin.ofNat 4 k)).stretchAt = none) := by
  obtain ⟨b, rfl⟩ := exists_brake_of_itemClass hc
  rw [show (8 + b.val) % 4 = b.val by omega] at hv
  set f : ItemSt → ItemSt := fun x => { x with fresh := true, byIns := true, last := val.toNat }
  set t := ((s.updBrake b (fun x => { x with low := 0 })).updItem (8 + b.val) f).updBrake b (fun x => { x with stretchAt := none })
  have e : exec (.diagInsertion (8 + b.val) val) s = .next t :=
    congrArg Host.Outcome.next ((if_pos hr).trans (by rw [insertEnd_brake, brakeSample_good hs hv]))
  have hitem : t.item (8 + b.val) = f (s.item (8 + b.val)) := item_updItem_self (s := s.updBrake b _) fun _ => rfl
  refine ⟨t, e, by simp [State.only, t], by rw [hitem], by rw [hitem], by rw [hitem], ?_⟩
  rw [brake_of_item, updBrake_mon, Quad.get_upd_self]

end

/-! ### DIAG_STATUS -/

theorem diagStatus_starts : Starts diagStatusSpec .diagStatus (fun h b u => u.hb h 12 = 1 ∧ u.mon = b.mon) :=
  starts_of_start (fun _ _ => rfl) (fun _ _ k => k) fun _ _ hw => ⟨doneWith_code hw _ _,
    only_mon (w := [.host, .intake, .ports, .fab, .iso, .faults]) (by simp [diagStatusSpec]) (by simp)⟩

end Sys2Proof.Machine
end

section
/-! SUPPORT. The units of ADC1, the shutdown at 165 °C and the WIN inputs (R334 to R341). -/

namespace Sys2Proof.Machine

/-! ### The units of ADC1 (R338 to R341, Tables MON-3 and MON-4) -/

/-- What belongs to one axis alone is, after all axes, what the step of that axis makes of it. -/
theorem forAxes_at {α : Type} {P : State → α} {f : Fin 4 → State → State} (n : Fin 4) (hf : ∀ m t, m ≠ n → P (f m t) = P t) (s : State) :
    ∃ t, P t = P s ∧ P (forAxes s f) = P (f n t) := by
  fin_cases n
  · exact ⟨s, rfl, by simp [forAxes, hf]⟩
  · exact ⟨f 0 s, by simp [hf], by simp [forAxes, hf]⟩
  · exact ⟨f 1 (f 0 s), by simp [hf], by simp [forAxes, hf]⟩
  · exact ⟨f 2 (f 1 (f 0 s)), by simp [hf], rfl⟩

/-- The captures of one axis, `x` of coil A and `y` of coil B, go to its off-state test or to its open window (R339). -/
def State.captured (s : State) (u : Nat) (x y : Int) (n : Fin 4) : State :=
  match s.mon.tests.get n with
  | some o => (match s.testFrame o with
    | some k => { s with mon := { s.mon with tests := s.mon.tests.set n (some (o.add k (u % 2 == 1) x y)) } }
    | none => s)
  | none => s.updWedge n (fun w => if w.open_.isSome then { w with capSum := (w.capSum.1 + x, w.capSum.2 + y), capN := w.capN + 1 } else w)

section
variable (s : State) (u : Nat) (x y : Int) (n : Fin 4) (caps : List Int)

theorem integrators_eq : s.integrators u caps = forAxes { s with mon := { s.mon with caps := fit 8 0 caps } } (fun n t =>
    t.captured u (caps.getD (2 * n.val) 0) (caps.getD (2 * n.val + 1) 0) n) := rfl

/-- The monitors keep all but their off-state tests. -/
theorem captured_mon : (s.captured u x y n).mon = { s.mon with tests := (s.captured u x y n).mon.tests } := by
  unfold State.captured
  (repeat' split) <;> rfl

theorem captured_other {m : Fin 4} (h : m ≠ n) :
    (s.captured u x y n).mon.tests.get m = s.mon.tests.get m ∧ (s.captured u x y n).wedge.get m = s.wedge.get m := by
  unfold State.captured
  (repeat' split) <;> simp [Quad.get_set, Quad.get_upd, h]

theorem captured_window (ht : s.mon.tests.get n = none) (ho : (s.wedge.get n).open_.isSome = true) : (s.captured u x y n).wedge.get n =
    { s.wedge.get n with capSum := ((s.wedge.get n).capSum.1 + x, (s.wedge.get n).capSum.2 + y), capN := (s.wedge.get n).capN + 1 } := by
  simp [State.captured, ht, ho]

theorem integrators_mon : (s.integrators u caps).mon =
    { s.mon with caps := fit 8 0 caps, tests := (s.integrators u caps).mon.tests } := by
  rw [integrators_eq]
  simp only [forAxes]
  rw [captured_mon, captured_mon, captured_mon, captured_mon]

/-- The open window of an axis without an off-state test adds the captures of its coils. -/
theorem integrators_window (ht : s.mon.tests.get n = none) (ho : (s.wedge.get n).open_.isSome = true) :
    (s.integrators u caps).wedge.get n =
      { s.wedge.get n with
        capSum := ((s.wedge.get n).capSum.1 + caps.getD (2 * n.val) 0, (s.wedge.get n).capSum.2 + caps.getD (2 * n.val + 1) 0)
        capN := (s.wedge.get n).capN + 1 } := by
  rw [integrators_eq]
  obtain ⟨t, hstart, hend⟩ := forAxes_at (P := fun t => (t.mon.tests.get n, t.wedge.get n)) n
    (fun m t hm => by
      obtain ⟨htests, hwedge⟩ := captured_other t u (caps.getD (2 * m.val) 0) (caps.getD (2 * m.val + 1) 0) m hm.symm
      rw [htests, hwedge])
    { s with mon := { s.mon with caps := fit 8 0 caps } }
  obtain ⟨htests, hwedge⟩ := Prod.mk.inj hstart
  obtain ⟨-, hend⟩ := Prod.mk.inj hend
  rw [hend, captured_window _ _ _ _ _ (htests.trans ht) (by rw [hwedge]; exact ho), hwedge]

end

/-- A unit has converted the integrators and VM. -/
def State.adcRead (s : State) (u : Nat) (conv : UnitConv) : State :=
  State.integrators { s with power := { s.power with vm := conv.vm }, mon := { s.mon with adcNext := u + 1 } } u conv.caps

/-- What a unit does with its housekeeping quantity and its diagnostic slot (Table MON-4). -/
def State.adcValue (s : State) (u : Nat) (val : Int) (slot : Option DiagSlot) : State :=
  match u with
  | 0 => { s with power := { s.power with vbat := val.toNat } }
  | 1 => { s with power := { s.power with vgd := val.toNat } }
  | 2 => { s with power := { s.power with vreg5 := val } }
  | 3 => { s with power := { s.power with vreg33 := val } }
  | 4 => { s with power := { s.power with vcore := val } }
  | 5 => s.temperature val
  | k =>
    if k < 10 then { s with mon := { s.mon with win := s.mon.win.set (Fin.ofNat 4 (k - 6)) val } }
    else match slot with | some d => s.diagSlot d | none => s

section
variable {s : State} {u : Fin 25} {conv : UnitConv} {val : Int} {slot : Option DiagSlot}

theorem adc1Unit_inOrder (hd : s.domReady .ana = true) (hu : s.mon.adcNext ≤ u.val) :
    exec (.adc1Unit u conv val slot) s = .next ((s.adcRead u.val conv).adcValue u.val val slot) :=
  congrArg Host.Outcome.next (if_neg (by simp [hd, hu]))

theorem adc1Unit_late (hu : u.val < s.mon.adcNext) : exec (.adc1Unit u conv val slot) s = .next s :=
  congrArg Host.Outcome.next (if_pos (by simp [hu]))

theorem adcRead_only (u : Nat) : s.only [.power, .mon, .wedge] (s.adcRead u conv) := by
  simp [State.only, State.adcRead]

theorem adcRead_power (u : Nat) : (s.adcRead u conv).power = { s.power with vm := conv.vm } :=
  only_power (w := [.mon, .wedge]) (State.integrators_blank (by simp) (by simp) _ _ _) (by simp)

theorem adcRead_mon (u : Nat) : (s.adcRead u conv).mon =
    { s.mon with adcNext := u + 1, caps := fit 8 0 conv.caps, tests := (s.adcRead u conv).mon.tests } :=
  integrators_mon _ _ _

theorem adcRead_faults (u : Nat) : (s.adcRead u conv).faults = s.faults := only_faults (adcRead_only u) (by simp)

/-- A unit whose quantity is a supply's: `p` is its place among them. -/
theorem adc1Unit_supply {p : PowerSt → PowerSt} (hd : s.domReady .ana = true) (hu : s.mon.adcNext ≤ u.val)
    (hp : ∀ t : State, t.adcValue u.val val slot = { t with power := p t.power }) :
    Answers (.adc1Unit u conv val slot) s (fun t => t.power = p { s.power with vm := conv.vm } ∧ s.only [.power, .mon, .wedge] t) := by
  refine ⟨_, adc1Unit_inOrder hd hu, ?_, ?_⟩
  · rw [hp, adcRead_power]
  · rw [hp]
    exact Eq.trans (by simp) (adcRead_only (conv := conv) u.val)

/-- Units 6 to 9 convert the WIN inputs, and the captures of the integrators go to the open windows (R339). -/
theorem adc1Unit_win {w : Fin 4} (hd : s.domReady .ana = true) (hu : s.mon.adcNext ≤ u.val) (hw : u.val = 6 + w.val) :
    Answers (.adc1Unit u conv val slot) s (fun t => t.power = { s.power with vm := conv.vm } ∧ t.mon.win = s.mon.win.set w val ∧
      t.mon.caps = fit 8 0 conv.caps ∧ t.mon.adcNext = u.val + 1 ∧
      (∀ n : Fin 4, s.mon.tests.get n = none → (s.wedge.get n).open_.isSome = true →
        t.wedge.get n = { s.wedge.get n with
          capSum := ((s.wedge.get n).capSum.1 + conv.caps.getD (2 * n.val) 0, (s.wedge.get n).capSum.2 + conv.caps.getD (2 * n.val + 1) 0)
          capN := (s.wedge.get n).capN + 1 }) ∧
      s.only [.power, .mon, .wedge] t) := by
  set r := s.adcRead u.val conv
  have e : exec (.adc1Unit u conv val slot) s = .next { r with mon := { r.mon with win := r.mon.win.set w val } } := by
    rw [adc1Unit_inOrder hd hu, hw]
    simp only [r, hw]
    fin_cases w <;> rfl
  refine ⟨_, e, adcRead_power _, congrArg (fun x => x.win.set w val) (adcRead_mon u.val), congrArg MonSt.caps (adcRead_mon u.val),
    congrArg MonSt.adcNext (adcRead_mon u.val), fun n ht ho => integrators_window _ _ n _ ht ho, ?_⟩
  exact Eq.trans (by simp [r]) (adcRead_only (conv := conv) u.val)

/-- A unit from 10 on serves its diagnostic slot. -/
theorem adc1Unit_slot {d : DiagSlot} (hd : s.domReady .ana = true) (hu : s.mon.adcNext ≤ u.val) (h10 : 10 ≤ u.val) :
    exec (.adc1Unit u conv val (some d)) s = .next ((s.adcRead u.val conv).diagSlot d) := by
  have h (t : State) {v : Nat} (hv : 10 ≤ v) : t.adcValue v val (some d) = t.diagSlot d := by
    obtain ⟨k, rfl⟩ := Nat.exists_eq_add_of_le' hv
    simp [State.adcValue]
  rw [adc1Unit_inOrder hd hu, h _ h10]

end

/-- A reference more than 1 % off its 1.25 V is a conclusive failing measurement (R340). -/
theorem diagSlot_badReference (s : State) {k : Fin 2} {uv : Nat} (h : uv < 1237500 ∨ 1262500 < uv) :
    s.diagSlot (.reference k uv) = s.itemFault (0x20 + k.val) 0x0403 k.val (uv / 1000 : Nat) :=
  if_neg (by omega)

/-- A conclusive failing measurement of a reference makes it FAULTED with FT-0x0403 (R340, Table MON-8). -/
theorem adc1Unit_badReference {s : State} {u : Fin 25} {conv : UnitConv} {uv : Nat} {val : Int} {k : Fin 2} (hd : s.domReady .ana = true)
    (hu : s.mon.adcNext ≤ u.val) (h10 : 10 ≤ u.val) (huv : uv < 1237500 ∨ 1262500 < uv) :
    Answers (.adc1Unit u conv val (some (.reference k uv))) s (fun t => (t.item (0x20 + k.val)).state = .faulted ∧
      (t.item (0x20 + k.val)).code = 0x0403 ∧ t.faults.raised = s.faults.raised ++ [(0x0403, k.val, 0, true)]) := by
  set r := s.adcRead u.val conv
  have e : exec (.adc1Unit u conv val (some (.reference k uv))) s = .next (r.itemFault (0x20 + k.val) 0x0403 k.val (uv / 1000 : Nat)) :=
    (adc1Unit_slot hd hu h10).trans (congrArg Host.Outcome.next (diagSlot_badReference r huv))
  refine ⟨_, e, by rw [itemFault_item], by rw [itemFault_item], ?_⟩
  rw [itemFault_raised, itemAxes_ref (itemClass_ref k), adcRead_faults]
  rfl

/-! ### The shutdown at 165 °C (R341) -/

/-- The temperature is kept, and 140 °C is told once (R341). -/
def State.warmed (s : State) (v : Int) : State :=
  let s := { s with power := { s.power with temp := v } }
  if s.mon.hot then s else ({ s with mon := { s.mon with hot := true } } : State).noteEv 0x0401 0

/-- Every switch turns off and is held off, and every brake output turns off. -/
def State.shutDown (s : State) : State :=
  (({ forAxes s (fun n t => t.axHeld n) with
      mon := { (forAxes s (fun n t => t.axHeld n)).mon with shut := true } } : State).brakesOff).note 0x0404 0 0 true

section
variable {s : State} {v : Int}

theorem temperature_shuts (hv : 1650 ≤ v) (hs : s.mon.shut = false) : s.temperature v = (s.warmed v).shutDown := by
  have h140 : 1400 ≤ v := by omega
  have h130 : ¬ v < 1300 := by omega
  cases hh : s.mon.hot <;> simp [State.temperature, State.warmed, hv, hs, h140, h130, hh] <;> rfl

theorem warmed_power : (s.warmed v).power = { s.power with temp := v } := by unfold State.warmed; dsimp only; split <;> rfl

theorem warmed_raised : (s.warmed v).faults.raised = s.faults.raised := by unfold State.warmed; dsimp only; split <;> rfl

theorem HeldFrom.bridge {t : State} (h : HeldFrom s t) (n b : Fin 4) :
    t.bridge n b = (s.bridge n b).allOff s.frame.tickBase (s.ps n 0x11) := by
  rw [State.bridge, h.gate, State.bridge]
  fin_cases b <;> rfl

/-- The gates, the tick and the parameters that a turn-off starts from may be those of an earlier state. -/
theorem HeldFrom.of_start {r t : State} (h : HeldFrom t r) (e : t.blank [.power, .mon, .wedge, .faults] = s.blank [.power, .mon, .wedge, .faults]) :
    HeldFrom s r := by
  have hf := only_frame e (by simp)
  have hp := only_params e (by simp)
  refine ⟨fun n => ?_, h.frame.trans hf, h.params.trans hp⟩
  rw [h.gate, only_gate e (by simp), hf, State.ps, State.par, hp]
  rfl

theorem shutDown_held (s : State) : HeldFrom s s.shutDown := by
  have e : s.shutDown.blank [.mon, .faults] = (forAxes s (fun n t => t.axHeld n)).blank [.mon, .faults] := by simp [State.shutDown]
  have h := gatesHeld s
  exact ⟨fun n => by rw [only_gate e (by simp), h.gate], (only_frame e (by simp)).trans h.frame, (only_params e (by simp)).trans h.params⟩

theorem shutDown_shut (s : State) : s.shutDown.mon.shut = true := rfl

theorem shutDown_brakes (s : State) (n : Fin 4) : (s.shutDown.mon.brakes.get n).on = false := brakesOff_on _ n

theorem shutDown_power (s : State) : s.shutDown.power = s.power :=
  only_power (w := [.gate, .mon, .faults]) (by simp [State.shutDown, State.axHeld]) (by simp)

theorem shutDown_raised (s : State) : s.shutDown.faults.raised = s.faults.raised ++ [(0x0404, 0, 0, true)] := rfl

/-- Unit 5 converts the temperature; from 165 °C on every switch and every brake output turns off, and FT-0x0404 is noted (R341). -/
theorem adc1Unit_shutsDown {conv : UnitConv} {slot : Option DiagSlot} (hd : s.domReady .ana = true) (hu : s.mon.adcNext ≤ 5) (hv : 1650 ≤ v)
    (hs : s.mon.shut = false) :
    Answers (.adc1Unit 5 conv v slot) s (fun t => t.power = { s.power with vm := conv.vm, temp := v } ∧ t.mon.shut = true ∧
      (∀ n : Fin 4, (t.gate.get n).hwOff = true ∧ (t.mon.brakes.get n).on = false ∧
        ∀ b, t.bridge n b = (s.bridge n b).allOff s.frame.tickBase (s.ps n 0x11)) ∧
      t.faults.raised = s.faults.raised ++ [(0x0404, 0, 0, true)]) := by
  set r := s.adcRead 5 conv
  have hshut : r.mon.shut = false := (congrArg MonSt.shut (adcRead_mon 5)).trans hs
  have e : exec (.adc1Unit 5 conv v slot) s = .next (r.warmed v).shutDown :=
    (adc1Unit_inOrder hd hu).trans (congrArg Host.Outcome.next (temperature_shuts hv hshut))
  have hwarm : (r.warmed v).blank [.power, .mon, .wedge, .faults] = s.blank [.power, .mon, .wedge, .faults] := by
    simp [r, State.warmed, State.adcRead, apply_ite (State.blank _)]
  have hheld := (shutDown_held (r.warmed v)).of_start hwarm
  refine ⟨_, e, ?_, shutDown_shut _, fun n => ⟨?_, shutDown_brakes _ n, hheld.bridge n⟩, ?_⟩
  · rw [shutDown_power, warmed_power, adcRead_power]
  · rw [hheld.gate]
    rfl
  · rw [shutDown_raised, warmed_raised, adcRead_faults]

end

/-! ### Windows of the WIN inputs (R334) -/

section
variable {s : State} {w : Fin 4} {mv us : Nat}

theorem winOutOfWindow_leaves (hm : s.par (0x4000 + 4 * w.val) ≠ 0) (hd : s.domReady .aux = true) (hus : s.par (0x4003 + 4 * w.val) ≤ us)
    (hmv : mv < s.par (0x4001 + 4 * w.val) ∨ s.par (0x4002 + 4 * w.val) < mv) (hin : s.mon.winOut.get w = false) :
    exec (.winOutOfWindow w mv us) s =
      .next (({ s with mon := { s.mon with winOut := s.mon.winOut.set w true } } : State).note 0x0405 w.val 0 true) := by
  have hout : (decide (mv < s.par (0x4001 + 4 * w.val)) || decide (s.par (0x4002 + 4 * w.val) < mv)) = true := by simpa using hmv
  simp only [exec, execWinOutOfWindow, hout, if_true]
  rw [if_neg (by simp [hm, hd, hus, hin])]

theorem winOutOfWindow_returns (hm : s.par (0x4000 + 4 * w.val) ≠ 0) (hd : s.domReady .aux = true) (hus : s.par (0x4003 + 4 * w.val) ≤ us)
    (hlo : s.par (0x4001 + 4 * w.val) ≤ mv) (hhi : mv ≤ s.par (0x4002 + 4 * w.val)) (hout : s.mon.winOut.get w = true) :
    Answers (.winOutOfWindow w mv us) s (fun t => t.mon = { s.mon with winOut := s.mon.winOut.set w false } ∧
      t.faults.evNext = s.faults.evNext ++ [(0x0403, w.val)]) := by
  have hin : (decide (mv < s.par (0x4001 + 4 * w.val)) || decide (s.par (0x4002 + 4 * w.val) < mv)) = false := by simp [hlo, hhi]
  refine ⟨_, congrArg Host.Outcome.next ((if_neg ?_).trans (if_neg ?_)), ?_, ?_⟩
  · simp only [hin]
    simp [hm, hd, hus, hout]
  · simp [hin]
  all_goals
    simp only [hin]
    split <;> rfl

end

end Sys2Proof.Machine
end

section
/-! SUPPORT. The brake outputs: engagement at standstill, over-current, and the release that a command waits for (R357 to R360). -/

namespace Sys2Proof.Machine

theorem any_toList_eq_false {α : Type} {q : Quad α} {p : α → Bool} (h : ∀ n, p (q.get n) = false) : q.toList.any p = false := by
  simp only [Quad.toList, List.any_cons, List.any_nil, Bool.or_false, Bool.or_eq_false_iff]
  exact ⟨h 0, h 1, h 2, h 3⟩

section
variable {s : State} {b : Fin 4}

theorem updBrake_brake_of_ne {c : Fin 4} (h : c ≠ b) (f : BrakeSt → BrakeSt) : (s.updBrake b f).mon.brakes.get c = s.mon.brakes.get c :=
  (Quad.get_upd _ _ _ _).trans (if_neg h)

theorem brakeOut_on (s : State) (b : Fin 4) : ((s.brakeOut b).mon.brakes.get b).on = false := congrArg BrakeSt.on (Quad.get_upd_self _ _ _)

theorem brakeStillEngage_engages {n : Fin 4} (hp : s.par (0x4020 + 8 * b.val) = n.val) (hm : s.par (0x4025 + 8 * b.val) = 1)
    (hon : (s.mon.brakes.get b).on = true) (hw : (s.mon.brakes.get b).waiter = none) (hs : (s.motion.get n).still = true)
    (hh : (s.motion.get n).state ≠ .haul) (ht : s.ax n 0x14 - 20 * s.par (0x4024 + 8 * b.val) ≤ (s.motion.get n).holdF) :
    exec (.brakeStillEngage b) s = .next (s.brakeOut b) := by
  have hn : Fin.ofNat 4 n.val = n := by fin_cases n <;> rfl
  refine congrArg Host.Outcome.next (if_pos ?_)
  rw [hp, hn]
  exact ⟨n.isLt, hm, hon, by rw [hw]; rfl, hs, hh, ht⟩

theorem hbkOvercurrent_locks {ma ns : Nat} (hon : s.brakeIsOn b = true) (hma : 3000 < ma) (hns : 2000 ≤ ns) :
    exec (.hbkOvercurrent b ma ns) s =
      .next (((s.brakeOut b).updBrake b (fun x => { x with locked := true })).note 0x0420 b.val (s.itemAxes (8 + b.val)) false) :=
  congrArg Host.Outcome.next (if_pos (by simp [hon, hma, hns]))

theorem noteLate_hop_of_ne {h k n : Nat} (hk : k ≠ h) : (s.noteLate h n).hop k = s.hop k := by
  unfold State.noteLate
  extract_lets src counts
  rw [hop_of_intake (congrArg IntakeSt.hops (ev_intake _ _ _)), setHop_hop, if_neg fun e => hk e.1.symm]
  rfl

theorem lateStart_hop_of_ne {h k : Nat} (hk : k ≠ h) : (s.lateStart h).hop k = s.hop k := by
  unfold State.lateStart
  split
  · rfl
  · dsimp only
    split
    · exact noteLate_hop_of_ne hk
    · rfl

theorem lateStart_mon (s : State) (h : Nat) : (s.lateStart h).mon = s.mon := only_mon (w := allBut .mon) (by simp) (by simp)

/-- The brake of a waiting command has released, and the command waits for no other: it starts at the next boundary (R358). -/
theorem brakeReleaseWaitEnd_starts {h : Nat} (hw : (s.mon.brakes.get b).waiter = some h) (hf : s.frame.running = true)
    (ht : s.ahead (s.mon.brakes.get b).onAt + (20 * s.par (0x4023 + 8 * b.val) : Nat) ≤ 1) (hs : s.stage h = .started)
    (hc : ∀ c, c ≠ b → (s.mon.brakes.get c).waiter ≠ some h) :
    exec (.brakeReleaseWaitEnd b) s = .next (((s.updBrake b (fun y => { y with waiter := none })).setHop h
      (fun y => { y with start := some (s.frame.counter + 1) })).lateStart h) := by
  set t := s.updBrake b (fun y => { y with waiter := none })
  have hst : t.stage h = .started := hs
  have hwait : t.mon.brakes.toList.any (fun y => y.waiter == some h) = false := any_toList_eq_false fun c => by
    by_cases e : c = b
    · subst e
      simp [t]
    · rw [updBrake_brake_of_ne e]
      exact beq_false_of_ne (hc c e)
  simp only [exec, execBrakeReleaseWaitEnd, hw]
  rw [if_neg (by simpa [hf] using ht), if_neg (by rw [hst, hwait]; decide)]
  rfl

end

end Sys2Proof.Machine
end

section
/-! Settles O18. -/

namespace Sys2Proof.Machine

/-- Settles O18: the units of ADC1 by their quantity, the windows, ages and insertions by the item they are of, DIAG_STATUS by its row, and
the brake outputs by the event. That a first DIAG_INSERTION begins and the second brings the measurement is log entry 16. -/
theorem monitorComplete : Obligations.MonitorComplete := by
  unfold Obligations.MonitorComplete
  refine ⟨fun conv val slot s hd hu => adc1Unit_supply (u := 0) (p := fun x => { x with vbat := val.toNat }) hd (by simp [hu]) fun _ => rfl,
    fun conv val slot s hd hu => adc1Unit_supply (u := 1) (p := fun x => { x with vgd := val.toNat }) hd hu fun _ => rfl,
    fun conv val slot s hd hu => adc1Unit_supply (u := 2) (p := fun x => { x with vreg5 := val }) hd hu fun _ => rfl,
    fun conv val slot s hd hu => adc1Unit_supply (u := 3) (p := fun x => { x with vreg33 := val }) hd hu fun _ => rfl,
    fun conv val slot s hd hu => adc1Unit_supply (u := 4) (p := fun x => { x with vcore := val }) hd hu fun _ => rfl,
    fun _ _ _ _ _ _ => adc1Unit_win, fun _ _ _ _ _ => adc1Unit_late, fun _ _ _ _ => adc1Unit_shutsDown, fun _ _ _ _ _ _ => adc1Unit_badReference,
    fun _ _ _ _ => winOutOfWindow_leaves, fun _ _ _ _ => winOutOfWindow_returns, ?_,
    fun _ _ _ => diagInsertion_begins, fun _ _ _ => diagInsertion_measures, diagStatus_starts, ?_, ?_, ?_, ?_⟩
  · intro item s hc hok hage
    obtain hc | hc := hc
    all_goals
      rw [hc, Option.getD_some] at hage
      exact diagAgeLimit_overdue hc rfl hok hage
  · intro b s hon heco ht
    exact congrArg Host.Outcome.next (if_pos (by simpa [hon, heco] using ht))
  · intro b n s hp hm hon hw hs hh ht
    exact ⟨_, brakeStillEngage_engages hp hm hon hw hs hh ht, brakeOut_on s b, fun c hc => updBrake_brake_of_ne hc _, by simp [State.only]⟩
  · intro b ma ns s hon hma hns
    refine ⟨_, hbkOvercurrent_locks hon hma hns, ?_, ?_, fun c hc => ?_, rfl, by simp [State.only]⟩
    · exact (congrArg BrakeSt.on (Quad.get_upd_self _ _ _)).trans (brakeOut_on s b)
    · exact congrArg BrakeSt.locked (Quad.get_upd_self _ _ _)
    · exact (updBrake_brake_of_ne hc _).trans (updBrake_brake_of_ne hc _)
  · intro b h s hw hf h32 hl ht hs hc
    refine ⟨_, brakeReleaseWaitEnd_starts hw hf ht hs hc, ?_, ?_, ?_, fun k hk => ?_⟩
    · rw [lateStart_mon, setHop_mon, updBrake_mon, Quad.get_upd_self]
    · rw [lateStart_mon, setHop_mon, updBrake_mon, Quad.get_upd_self]
    · rw [lateStart_start, setHop_hop, if_pos ⟨rfl, by rw [updBrake_intake, hl]; exact h32⟩]
    · rw [lateStart_hop_of_ne hk, setHop_hop, if_neg fun e => hk e.1.symm]
      rfl

end Sys2Proof.Machine
end

section
/-! Every command answers, and a step takes the front of the queue. -/

namespace Sys2Proof.Machine

/-- No command writes the queue of waiting commands. -/
theorem pending_not_written (c : Sys2Proof.Instr) : Group.pending ∉ writes c := by
  cases c <;> exact not_mem_of_contains rfl

/-- Settles O46: a meaning is known to run (`exec_ran`), and it leaves every part of the state that it does not write. -/
theorem everyCommandAnswers : Obligations.EveryCommandAnswers := by
  intro c s
  obtain ⟨t, e, h⟩ := only_of_ran (exec_ran c s)
  exact ⟨t, e, only_pending h (pending_not_written c)⟩

theorem step_cons {c : Sys2Proof.Instr} {l : List Sys2Proof.Instr} {s : State} (h : s.pending = c :: l) :
    step s = exec c { s with pending := l } := by rw [step, h]

theorem step_nil {s : State} (h : s.pending = []) : step s = .next s := by rw [step, h]

/-- Settles O45: the two cases of the queue. -/
theorem stepTakesFront : Obligations.StepTakesFront := ⟨fun _ _ _ => step_cons, fun _ => step_nil⟩

end Sys2Proof.Machine
end

section
/-! The fault table and the event queue: what raising a fault, raising an event and the commands on both leave. -/

namespace Sys2Proof.Machine

/-! ### Entries -/

/-- The entry of a fault that is raised again (R584). -/
def FaultEnt.again (e : FaultEnt) (s : State) (cls : Option Nat) (code qual : Nat) (axes : BitVec 4) (cond : Bool) : FaultEnt :=
  let grp := match faultGroup code with | some p => s.par p | none => 0xFE
  { e with
    qual := qual % 65536, axes := e.axes ||| axes, count := min 255 (e.count + 1), last := s.frame.counter,
    react := strongerReact e.react grp, cond := cond, cls := cls.getD e.cls,
    going := goingOf (cls.getD e.cls) (strongerReact e.react grp) cond,
    acts := if strongerReact e.react grp = e.react then e.acts else s.frame.counter + 1 }

/-- The entry of a fault that was not active (R584). -/
def FaultEnt.fresh (s : State) (cls : Option Nat) (code qual : Nat) (axes : BitVec 4) (cond : Bool) : FaultEnt :=
  let grp := match faultGroup code with | some p => s.par p | none => 0xFE
  { code := code, qual := qual % 65536, axes := axes, count := 1, first := s.frame.counter, last := s.frame.counter, react := grp,
    cond := cond, cls := cls.getD (faultClass code), going := goingOf (cls.getD (faultClass code)) grp cond, acts := s.frame.counter + 1 }

section
variable {s : State} {cls : Option Nat} {code qual : Nat} {axes : BitVec 4} {cond : Bool}

/-- Raising an active fault updates the entries of its code. -/
theorem raiseAs_active_again (h : s.faultActive code = true) : (s.raiseAs cls code qual axes cond).faults.active =
    s.faults.active.map (fun e => if e.code = code then e.again s cls code qual axes cond else e) := by
  unfold State.raiseAs
  exact if_pos h

/-- Raising an inactive fault adds an entry. -/
theorem raiseAs_active_fresh (h : s.faultActive code = false) : (s.raiseAs cls code qual axes cond).faults.active =
    insertBy (fun a b => decide (a.code < b.code)) (.fresh s cls code qual axes cond) s.faults.active := by
  unfold State.raiseAs
  exact if_neg (by simpa [State.faultActive] using h)

theorem code_ne_of_inactive (h : s.faultActive code = false) {e : FaultEnt} (he : e ∈ s.faults.active) : e.code ≠ code := by
  simp only [State.faultActive, List.any_eq_false, beq_iff_eq] at h
  exact h e he

theorem raise_keeps_others {e : FaultEnt} (he : e ∈ s.faults.active) (hc : e.code ≠ code) :
    e ∈ (s.raise code qual axes cond).faults.active := by
  rw [State.raise]
  cases h : s.faultActive code with
  | true =>
    rw [raiseAs_active_again h]
    exact List.mem_map.mpr ⟨e, he, if_neg hc⟩
  | false =>
    rw [raiseAs_active_fresh h]
    exact (mem_insertBy _ _ _ _).mpr (.inr he)

/-- An entry of the raised code after the raising is the fresh one or an updated one. -/
theorem raise_entry {e : FaultEnt} (he : e ∈ (s.raise code qual axes cond).faults.active) (hc : e.code = code) :
    e.last = s.frame.counter ∧ e.qual = qual % 65536 := by
  rw [State.raise] at he
  cases h : s.faultActive code with
  | true =>
    rw [raiseAs_active_again h] at he
    obtain ⟨x, -, rfl⟩ := List.mem_map.mp he
    split at hc
    · next hx => simp [if_pos hx, FaultEnt.again]
    · next hx => exact absurd hc hx
  | false =>
    rw [raiseAs_active_fresh h] at he
    obtain rfl | hm := (mem_insertBy _ _ _ _).mp he
    · exact ⟨rfl, rfl⟩
    · exact absurd hc (code_ne_of_inactive h hm)

theorem raise_fresh (h : s.faultActive code = false) : ∃ e ∈ (s.raise code qual axes cond).faults.active,
    e.code = code ∧ e.count = 1 ∧ e.first = s.frame.counter ∧ e.axes = axes := by
  refine ⟨.fresh s none code qual axes cond, ?_, rfl, rfl, rfl, rfl⟩
  rw [State.raise, raiseAs_active_fresh h]
  exact (mem_insertBy _ _ _ _).mpr (.inl rfl)

theorem raise_again {e : FaultEnt} (he : e ∈ s.faults.active) (hc : e.code = code) :
    ∃ e' ∈ (s.raise code qual axes cond).faults.active, e'.code = code ∧ e'.count = min 255 (e.count + 1) ∧ e'.first = e.first ∧
      e'.axes = e.axes ||| axes := by
  have h : s.faultActive code = true := List.any_eq_true.mpr ⟨e, he, by simp [hc]⟩
  refine ⟨e.again s none code qual axes cond, ?_, hc, rfl, rfl, rfl⟩
  rw [State.raise, raiseAs_active_again h]
  exact List.mem_map.mpr ⟨e, he, if_pos hc⟩

theorem insertBy_perm {α : Type} (lt : α → α → Bool) (a : α) (l : List α) : (insertBy lt a l).Perm (a :: l) := by
  induction l with
  | nil => exact .refl _
  | cons b r ih =>
    unfold insertBy
    split
    · exact .refl _
    · exact (ih.cons b).trans (.swap a b r)

/-- No code gets a second entry. -/
theorem raise_codes_nodup (hn : (s.faults.active.map (fun e => e.code)).Nodup) :
    ((s.raise code qual axes cond).faults.active.map (fun e => e.code)).Nodup := by
  rw [State.raise]
  cases h : s.faultActive code with
  | true =>
    have hcode (e : FaultEnt) : (if e.code = code then e.again s none code qual axes cond else e).code = e.code := by
      split <;> rfl
    rw [raiseAs_active_again h, List.map_map]
    simpa only [Function.comp_def, hcode] using hn
  | false =>
    rw [raiseAs_active_fresh h, ((insertBy_perm _ _ _).map _).nodup_iff, List.map_cons, List.nodup_cons]
    refine ⟨fun hm => ?_, hn⟩
    obtain ⟨e, he, hc⟩ := List.mem_map.mp hm
    exact code_ne_of_inactive h he hc

end

/-! ### FTSUM -/

theorem foldl_lor_testBit (l : List Nat) (acc a : Nat) : (l.foldl Nat.lor acc).testBit a = (acc.testBit a || l.any (fun v => v.testBit a)) := by
  induction l generalizing acc with
  | nil => simp
  | cons v l ih =>
    rw [List.foldl_cons, ih, List.any_cons, ← Bool.or_assoc]
    exact congrArg (· || _) (Nat.testBit_or acc v a)

/-- FTSUM shows the areas of the active faults (R584). -/
theorem regRead_ftsum (s : State) (a : Nat) : (s.regRead 0x040).testBit a = s.faults.active.any (fun e => e.code / 256 == a) := by
  have h : s.regRead 0x040 = s.ftsum := rfl
  rw [h, State.ftsum, foldl_lor_testBit, Nat.zero_testBit, Bool.false_or, List.any_map]
  refine congrArg s.faults.active.any (funext fun e => ?_)
  simp only [Function.comp_apply, Nat.testBit_two_pow, beq_eq_decide]

/-- Settles O41: the entries by the two ways of raising, and FTSUM by its fold. -/
theorem faultRaised : Obligations.FaultRaised :=
  ⟨fun code qual axes cond s => ⟨by rw [State.raise, raiseAs_faultActive, beq_self_eq_true, Bool.true_or], fun _ => raise_keeps_others,
      fun _ => raise_entry, raise_fresh, fun _ => raise_again, by simp [State.only]⟩,
    fun _ _ _ _ _ => raise_codes_nodup, regRead_ftsum⟩

/-! ### Events -/

/-- Of the faults, an event changes the queue and the count of the events that it replaced (R600). -/
theorem ev_faults (s : State) (code qual : Nat) : (s.ev code qual).faults = { s.faults with
    events := (if 255 ≤ s.faults.events.length then s.faults.events.drop 1 else s.faults.events) ++ [(code, qual % 65536, s.frame.counter)]
    lost := if 255 ≤ s.faults.events.length then s.faults.lost + 1 else s.faults.lost } := by
  unfold State.ev
  dsimp only
  (repeat' split) <;> simp_all

theorem regRead_evpend {s : State} (h : s.faults.events.length ≤ 255) : s.regRead 0x044 = s.faults.events.length := Nat.min_eq_right h

theorem ev_events_length {s : State} (h : s.faults.events.length ≤ 255) (code qual : Nat) : (s.ev code qual).faults.events.length ≤ 255 := by
  rw [ev_events, List.length_append, List.length_singleton]
  split
  · rw [List.length_drop]; omega
  · omega

/-- A full queue drops its oldest record for the new one, another queue none. -/
theorem ev_drops (s : State) (code qual : Nat) : ∃ e, ∃ m ≤ 1, (s.ev code qual).faults.events = s.faults.events.drop m ++ [e] := by
  rw [ev_events]
  split
  · exact ⟨_, 1, le_rfl, rfl⟩
  · exact ⟨_, 0, Nat.zero_le 1, rfl⟩

/-! ### Faults and events through a completion -/

/-- Of the faults, `t` differs from `s` in the event queue and its count of replaced events at most. -/
def EventsOnly (s t : State) : Prop := ∃ l n, t.faults = { s.faults with events := l, lost := n }

namespace EventsOnly

variable {s t u : State}

theorem of_faults (e : t.faults = s.faults) : EventsOnly s t := ⟨s.faults.events, s.faults.lost, e⟩

theorem trans (a : EventsOnly s t) (b : EventsOnly t u) : EventsOnly s u := by
  obtain ⟨l, n, e⟩ := a
  obtain ⟨l', n', e'⟩ := b
  exact ⟨l', n', by rw [e', e]⟩

theorem ev (s : State) (code qual : Nat) : EventsOnly s (s.ev code qual) := ⟨_, _, ev_faults s code qual⟩

theorem evIf (s : State) (c : Bool) (code qual : Nat) : EventsOnly s (s.evIf c code qual) := by
  unfold State.evIf
  split
  · exact ev s code qual
  · exact of_faults rfl

theorem ite {c : Prop} [Decidable c] {a b : State} (ha : EventsOnly s a) (hb : EventsOnly s b) : EventsOnly s (if c then a else b) := by
  split
  · exact ha
  · exact hb

theorem device (h : EventsOnly s t) : t.faults.device = s.faults.device := by
  obtain ⟨l, n, e⟩ := h
  rw [e]

end EventsOnly

theorem srcOf_cases (h : Nat) : srcOf h = 0 ∨ srcOf h = 1 ∨ srcOf h = 2 ∨ srcOf h = 3 := by
  unfold srcOf
  split_ifs <;> simp

theorem srcOf_external {h : Nat} (hh : h < 28) : srcOf h ≠ 3 := by
  unfold srcOf
  split_ifs <;> simp

theorem srcOf_internal {h : Nat} (hh : 28 ≤ h) : srcOf h = 3 := by
  unfold srcOf
  rw [if_neg (by omega), if_neg (by omega), if_neg (by omega)]

/-- Returning a record of the host, of a fabric node or of an ISOBUS node raises no event (Table HOP-8). -/
theorem giveBack_faults_external {h : Nat} (hs : srcOf h ≠ 3) (s : State) : (s.giveBack h).faults = s.faults := by
  unfold State.giveBack
  split
  · rfl
  · split
    · rfl
    · split
      · next t e =>
        have ht : t.faults = s.faults := only_faults (w := [.ports]) (State.respondFabric_blank (by simp) e) (by simp)
        exact ht
      · rfl
  · split
    · next t e =>
      have ht : t.faults = s.faults := only_faults (w := [.iso]) (State.respondIso_blank (by simp) e) (by simp)
      exact ht
    · rfl
  · next h0 h1 h2 =>
    have := srcOf_cases h
    tauto

/-- Returning a record of the device's own command raises EV-0x0806 for a twin's answer, and EV-0x1105 for any other (R151). -/
theorem giveBack_internal {h : Nat} (hs : srcOf h = 3) (s : State) : s.giveBack h =
    if (s.hop h).adopted == some 0 then (s.ev 0x0806 (s.seqNo h)).freeHop h
    else ((s.ev 0x1105 (s.hb h 12 * 256 + s.seqNo h % 256)).evIf (s.opcode h == 0x0004 && s.hb h 12 == 5) 0x0011
      ((s.ev 0x1105 (s.hb h 12 * 256 + s.seqNo h % 256)).h16 h 14)).freeHop h := by
  unfold State.giveBack
  rw [hs]
  rfl

theorem EventsOnly.giveBack (s : State) (h : Nat) : EventsOnly s (s.giveBack h) := by
  by_cases hs : srcOf h = 3
  · rw [giveBack_internal hs]
    exact .ite ((EventsOnly.ev _ _ _).trans (.of_faults rfl)) (((EventsOnly.ev _ _ _).trans (.evIf _ _ _ _)).trans (.of_faults rfl))
  · exact .of_faults (giveBack_faults_external hs s)

/-- Returning a record of the device's own command that completed with another code than SURVEY raises one event (R151). -/
theorem giveBack_events_internal {h : Nat} (hs : srcOf h = 3) {s : State} (hc : s.hb h 12 ≠ 5) :
    ∃ code qual, (s.giveBack h).faults = (s.ev code qual).faults := by
  rw [giveBack_internal hs]
  split
  · exact ⟨_, _, rfl⟩
  · refine ⟨0x1105, s.hb h 12 * 256 + s.seqNo h % 256, ?_⟩
    rw [State.evIf, if_neg (by simp [hc])]
    rfl

/-- The state in which a completed record is given back. -/
def State.recorded (s : State) (h code detail : Nat) (data : List Byte) : State :=
  ((((s.endBulk h).putResult h (s.resultOf h data)).putSlot (128 * h + 6) (b8 (8 + (resultBody (s.resultOf h data)).length))).putSlot
    (128 * h + 12) (s.completion h code detail (s.resultOf h data))).countBusy h code

theorem finish_eq (s : State) (h code detail : Nat) (data : List Byte) : s.finish h code detail data = (s.recorded h code detail data).giveBack h :=
  rfl

theorem recorded_faults (s : State) (h code detail : Nat) (data : List Byte) : (s.recorded h code detail data).faults = s.faults := by
  unfold State.recorded
  exact only_faults (w := allBut .faults) (by simp) (by simp)

theorem EventsOnly.finish (s : State) (h code detail : Nat) (data : List Byte) : EventsOnly s (s.finish h code detail data) := by
  rw [finish_eq]
  exact (EventsOnly.of_faults (recorded_faults _ _ _ _ _)).trans (.giveBack _ _)

theorem finish_faults_external {h : Nat} (hh : h < 28) (s : State) (code detail : Nat) (res : List Byte) :
    (s.finish h code detail res).faults = s.faults := by
  rw [finish_eq, giveBack_faults_external (srcOf_external hh), recorded_faults]

theorem finish_events_internal {h : Nat} (hh : 28 ≤ h) {s : State} (hw : s.slotsWf) {code : Nat} (hc : code < 256) (h5 : code ≠ 5)
    (detail : Nat) (res : List Byte) :
    ∃ e, ∃ m ≤ 1, (s.finish h code detail res).faults.events = s.faults.events.drop m ++ [e] := by
  have hb : (s.recorded h code detail res).hb h 12 = code := by
    have hfinish := finish_code s h code detail res hc hw
    rwa [finish_eq, State.hb, giveBack_slots] at hfinish
  obtain ⟨c, q, e⟩ := giveBack_events_internal (srcOf_internal hh) (s := s.recorded h code detail res) (by rwa [hb])
  obtain ⟨x, m, hm, hx⟩ := ev_drops (s.recorded h code detail res) c q
  exact ⟨x, m, hm, by rw [finish_eq, e, hx, recorded_faults]⟩

/-! ### FAULT_STATUS, FAULT_CLEAR and EVENT_READ -/

theorem doneWith_active (s : State) (h : Nat) (res : List Byte) : (s.doneWith h res).faults.active = s.faults.active := finish_active _ _ _ _ _

theorem faultStatus_starts : Starts faultStatusSpec .faultStatus (fun h b u => u.hb h 12 = 1 ∧ u.faults.active = b.faults.active ∧
    u.faults.device = b.faults.device) :=
  starts_of_start (fun _ _ => rfl) (fun _ _ k => k) fun _ _ hw => ⟨doneWith_code hw _ _, doneWith_active _ _ _, (EventsOnly.finish _ _ _ _ _).device⟩

theorem markCleared_wf {s : State} (hw : s.slotsWf) (p : FaultEnt → Bool) : (s.markCleared p).slotsWf := hw

theorem faultClear_one {s : State} {h : Nat} (hc : s.p16 h 0 ≠ 0xFFFF) :
    faultClearSpec.start s h = (s.markCleared (fun e => e.code == s.p16 h 0)).doneWith h [] := if_neg hc

theorem faultClear_all {s : State} {h : Nat} (hc : s.p16 h 0 = 0xFFFF) :
    ∃ res, faultClearSpec.start s h = (s.markCleared s.clearable).doneWith h res := ⟨_, if_pos hc⟩

theorem faultClear_starts : Starts faultClearSpec .faultClear (fun h b u => u.hb h 12 = 1 ∧
    (b.p16 h 0 ≠ 0xFFFF → u.faults.active = b.faults.active.map (fun e => if e.code = b.p16 h 0 then { e with going := 2 } else e)) ∧
    (b.p16 h 0 = 0xFFFF → u.faults.active = b.faults.active.map (fun e => if b.clearable e then { e with going := 2 } else e))) := by
  refine starts_of_start (fun _ _ => rfl) (fun _ _ k => k) fun h b hw => ?_
  by_cases hc : b.p16 h 0 = 0xFFFF
  · obtain ⟨res, e⟩ := faultClear_all hc
    rw [e]
    exact ⟨doneWith_code (markCleared_wf hw _) _ _, absurd hc, fun _ => doneWith_active _ _ _⟩
  · rw [faultClear_one hc]
    refine ⟨doneWith_code (markCleared_wf hw _) _ _, fun _ => ?_, fun k => absurd k hc⟩
    rw [doneWith_active, State.markCleared]
    simp only [beq_iff_eq]

/-- The event queue without its `n` oldest records, and no replaced record to report. -/
def State.eventsRead (s : State) (n : Nat) : State := { s with faults := { s.faults with events := s.faults.events.drop n, lost := 0 } }

theorem eventRead_start (s : State) (h : Nat) : ∃ res, eventReadSpec.start s h = (s.eventsRead (s.p8 h 0)).doneWith h res := by
  unfold eventReadSpec State.eventsRead
  exact ⟨_, rfl⟩

/-- EVENT_READ takes the oldest records; a command of the device itself then adds its own (R600, R151). -/
theorem eventRead_leaves (h : Fin 32) (b : State) (hw : b.slotsWf) : (eventReadSpec.start b h).hb h 12 = 1 ∧
    (h.val < 28 → (eventReadSpec.start b h).faults = (b.eventsRead (b.p8 h 0)).faults) ∧
    (28 ≤ h.val → ∃ e, ∃ m ≤ 1, (eventReadSpec.start b h).faults.events = (b.faults.events.drop (b.p8 h 0)).drop m ++ [e]) := by
  obtain ⟨res, e⟩ := eventRead_start b h
  have hw' : (b.eventsRead (b.p8 h 0)).slotsWf := hw
  rw [e]
  exact ⟨doneWith_code hw' _ _, fun hh => finish_faults_external hh _ _ _ _, fun hh => finish_events_internal hh hw' (by decide) (by decide) _ _⟩

/-- Settles O40: the status by what a completion leaves, clearing by the entries it marks, reading by the queue it drops from. -/
theorem faultTableComplete : Obligations.FaultTableComplete := by
  refine ⟨faultStatus_starts, faultClear_starts, starts_of_start (fun _ _ => rfl) (fun _ _ k => k) fun h b hw => ?_⟩
  obtain ⟨hc, hx, -⟩ := eventRead_leaves h b hw
  exact ⟨hc, fun hh => by rw [hx hh]; exact ⟨rfl, rfl⟩⟩

/-- Settles O52: the queue by what an event changes of the faults, EVENT_READ by the completion of its source. -/
theorem eventQueue : Obligations.EventQueue := by
  refine ⟨fun code qual s => ⟨ev_events s code qual, by rw [ev_faults]⟩, fun s => regRead_evpend, fun _ _ _ k => ev_events_length k _ _,
    starts_of_start (fun _ _ => rfl) (fun _ _ k => k) fun h b hw => ?_, fun _ _ _ _ _ => ⟨rfl, rfl⟩⟩
  obtain ⟨hc, hx, hi⟩ := eventRead_leaves h b hw
  exact ⟨hc, fun hh => by rw [hx hh]; rfl, hi⟩

end Sys2Proof.Machine
end

section
/-! The pit map: what painting a box and joining the layers leave at each voxel (R419, R424). -/

namespace Sys2Proof.Machine

/-- Every voxel of a cell lies in one of its children. -/
theorem voxelIn_kid {d : Nat} {x v : Int × Int × Int} (h : voxelIn x (2 ^ (d + 1) : Nat) v = true) :
    ∃ c, c < 8 ∧ voxelIn (kidAt x d c) (2 ^ d : Nat) v = true := by
  have half (a w e : Int) (h1 : a ≤ w) (h2 : w < a + 2 * e) : ∃ b : Nat, b < 2 ∧ a + b * e ≤ w ∧ w < a + b * e + e := by
    by_cases k : w < a + e
    · exact ⟨0, by decide, by simpa using h1, by simpa using k⟩
    · exact ⟨1, by decide, by push_cast; omega, by push_cast; omega⟩
  have he : ((2 ^ (d + 1) : Nat) : Int) = 2 * (2 ^ d : Nat) := by rw [pow_succ]; push_cast; ring
  simp only [voxelIn, decide_eq_true_eq, he] at h
  obtain ⟨hx, hx', hy, hy', hz, hz'⟩ := h
  obtain ⟨i, hi, ix, ix'⟩ := half _ _ _ hx hx'
  obtain ⟨j, hj, jy, jy'⟩ := half _ _ _ hy hy'
  obtain ⟨k, hk, kz, kz'⟩ := half _ _ _ hz hz'
  refine ⟨i + 2 * j + 4 * k, by omega, ?_⟩
  have e1 : (i + 2 * j + 4 * k) % 2 = i := by omega
  have e2 : (i + 2 * j + 4 * k) / 2 % 2 = j := by omega
  have e3 : (i + 2 * j + 4 * k) / 4 = k := by omega
  simp only [voxelIn, kidAt, decide_eq_true_eq, e1, e2, e3]
  exact ⟨ix, ix', jy, jy', kz, kz'⟩

theorem child_full (c : Nat) : Oct.full.child c = .full := rfl
theorem child_empty (c : Nat) : Oct.empty.child c = .empty := rfl

/-- The children of a merged node are the ones it was made of. -/
theorem child_octMake (f : Nat → Oct) {c : Nat} (hc : c < 8) : (octMake f).child c = f c := by
  have hall (k : Oct) (h : ((List.range 8).map f).all (fun o => o == k) = true) : f c = k := by
    simp only [List.all_map, List.all_eq_true, List.mem_range, Function.comp_apply, beq_iff_eq] at h
    exact h c hc
  unfold octMake
  dsimp only
  split
  · next h => rw [child_empty, hall _ h]
  · split
    · next h => rw [child_full, hall _ h]
    · interval_cases c <;> rfl

theorem has_empty (d : Nat) (x v : Int × Int × Int) : Oct.empty.has d x v = false := by
  induction d generalizing x with
  | zero => rfl
  | succ d ih => simp [Oct.has, child_empty, ih]

theorem has_full {d : Nat} {x v : Int × Int × Int} (h : voxelIn x (2 ^ d : Nat) v = true) : Oct.full.has d x v = true := by
  induction d generalizing x with
  | zero => rfl
  | succ d ih =>
    obtain ⟨c, hc, hv⟩ := voxelIn_kid h
    rw [Oct.has, List.any_eq_true]
    exact ⟨c, List.mem_range.mpr hc, by rw [hv, child_full, ih hv, Bool.and_self]⟩

theorem has_leaf {d : Nat} {o : Oct} (ho : o = .full ∨ o = .empty) {x v : Int × Int × Int} (h : voxelIn x (2 ^ d : Nat) v = true) :
    o.has d x v = (o == .full) := by
  obtain rfl | rfl := ho
  · rw [has_full h]; rfl
  · rw [has_empty]; rfl

/-- A merged node shows at a voxel what the child that holds the voxel shows. -/
theorem has_octMake (d : Nat) (f : Nat → Oct) (x v : Int × Int × Int) : (octMake f).has (d + 1) x v =
    (List.range 8).any (fun c => voxelIn (kidAt x d c) (2 ^ d : Nat) v && (f c).has d (kidAt x d c) v) := by
  rw [Oct.has, Bool.eq_iff_iff]
  simp only [List.any_eq_true, List.mem_range]
  constructor <;> rintro ⟨c, hc, h⟩ <;> exact ⟨c, hc, by rwa [child_octMake f hc] at *⟩

/-- Painting a box with a leaf sets exactly the voxels of the box (R424). -/
theorem has_paint {new : Oct} (hn : new = .full ∨ new = .empty) (r : Box) {d : Nat} (o : Oct) {x v : Int × Int × Int}
    (h : voxelIn x (2 ^ d : Nat) v = true) : (o.paint d x r new).has d x v = if r.holds v then new == .full else o.has d x v := by
  induction d generalizing o x with
  | zero =>
    have hv : r.holds v = !cellOut x 1 r := by
      simp only [voxelIn, Box.holds, cellOut, Nat.pow_zero, Nat.cast_one, decide_eq_true_eq] at h ⊢
      rw [Bool.eq_iff_iff]
      simp only [decide_eq_true_eq, Bool.not_eq_true', decide_eq_false_iff_not]
      omega
    rw [Oct.paint, hv]
    cases cellOut x 1 r <;> rfl
  | succ d ih =>
    rw [Oct.paint]
    split
    · next ho =>
      have hv : r.holds v = false := by
        simp only [voxelIn, Box.holds, cellOut, decide_eq_true_eq, decide_eq_false_iff_not] at h ho ⊢
        omega
      rw [hv]; rfl
    · split
      · next hi =>
        have hv : r.holds v = true := by
          simp only [voxelIn, Box.holds, cellIn, decide_eq_true_eq] at h hi ⊢
          omega
        rw [hv, if_pos rfl, has_leaf hn h]
      · have kid (c : Nat) : (voxelIn (kidAt x d c) (2 ^ d : Nat) v && ((o.child c).paint d (kidAt x d c) r new).has d (kidAt x d c) v) =
            (voxelIn (kidAt x d c) (2 ^ d : Nat) v && if r.holds v then new == .full else (o.child c).has d (kidAt x d c) v) := by
          cases hk : voxelIn (kidAt x d c) (2 ^ d : Nat) v with
          | true => rw [ih _ hk]
          | false => rfl
        obtain ⟨c, hc, hv⟩ := voxelIn_kid h
        simp only [has_octMake, kid]
        cases r.holds v with
        | false => rfl
        | true =>
          rw [if_pos rfl]
          cases new == .full with
          | false => simp
          | true => exact List.any_eq_true.mpr ⟨c, List.mem_range.mpr hc, by rw [hv]; rfl⟩

theorem any_or_distrib {α : Type} (l : List α) (p q : α → Bool) : l.any (fun c => p c || q c) = (l.any p || l.any q) := by
  induction l with
  | nil => rfl
  | cons a l ih => simp only [List.any_cons, ih, Bool.or_assoc, Bool.or_left_comm]

/-- A voxel is occupied while either layer has it (R419). -/
theorem has_or {d : Nat} (a b : Oct) {x v : Int × Int × Int} (h : voxelIn x (2 ^ d : Nat) v = true) :
    (Oct.or d a b).has d x v = (a.has d x v || b.has d x v) := by
  induction d generalizing a b x with
  | zero =>
    rw [Oct.or]
    split
    · next hf => obtain rfl | rfl := hf <;> simp [Oct.has]
    · next hf =>
      rw [not_or] at hf
      simp only [Oct.has, beq_eq_false_iff_ne.mpr hf.1, beq_eq_false_iff_ne.mpr hf.2]
      rfl
  | succ d ih =>
    rw [Oct.or]
    split
    · next hf => obtain rfl | rfl := hf <;> simp [has_full h]
    · split
      · next ha => rw [ha, has_empty, Bool.false_or]
      · split
        · next hb => rw [hb, has_empty, Bool.or_false]
        · have kid (c : Nat) : (voxelIn (kidAt x d c) (2 ^ d : Nat) v && (Oct.or d (a.child c) (b.child c)).has d (kidAt x d c) v) =
              (voxelIn (kidAt x d c) (2 ^ d : Nat) v && (a.child c).has d (kidAt x d c) v ||
                voxelIn (kidAt x d c) (2 ^ d : Nat) v && (b.child c).has d (kidAt x d c) v) := by
            cases hk : voxelIn (kidAt x d c) (2 ^ d : Nat) v with
            | true => rw [ih _ _ hk]; rfl
            | false => rfl
          rw [has_octMake]
          simp only [kid, any_or_distrib, Oct.has]

/-- Settles O51: painting by the recursion on the depth of the cell, and the layers by the same recursion. -/
theorem mapVoxels : Obligations.MapVoxels :=
  ⟨fun _ o _ _ _ r hn h => has_paint hn r o h, fun _ a b _ _ h => has_or a b h⟩

end Sys2Proof.Machine
end

section
/-! Compare units: hits outside the window are suppressed (R395). -/

namespace Sys2Proof.Machine

theorem advance_one (neg : Bool) (v : Int) (i sp : Nat) : advance neg (advance neg v i sp) 1 sp = advance neg v (i + 1) sp := by
  unfold advance
  split <;> push_cast <;> ring

@[simp] theorem updCmp_cmpUnit (s : State) (n : Fin 4) (u : Fin 2) (f : CmpSt → CmpSt) : (s.updCmp n u f).cmpUnit n u = f (s.cmpUnit n u) := by
  simp [State.updCmp, State.cmpUnit]

/-- One value that a unit passes: the hits and suppressed hits so far, V, and the qualifier of EV-0x0222 once the unit is done. -/
def passOne (neg : Bool) (sp : Nat) (lo hi : Int) (limit hits : Nat) (a : Nat × Nat × Int × Option Nat) : Nat × Nat × Int × Option Nat :=
  match a.2.2.2 with
  | some _ => a
  | none =>
    let pv := passValue neg a.2.2.1
    let inWin := decide (lo ≤ pv) && decide (pv ≤ hi)
    let h := if inWin then a.1 + 1 else a.1
    let sup := if inWin then a.2.1 else a.2.1 + 1
    let v := advance neg a.2.2.1 1 sp
    if !vFits v then (h, sup, a.2.2.1, some 1)
    else if inWin && limit != 0 && decide (limit ≤ hits + h) then (h, sup, v, some 0)
    else (h, sup, v, none)

/-- What passing `k` values comes to, from V on. -/
def passAll (neg : Bool) (sp : Nat) (lo hi : Int) (limit hits : Nat) (v : Int) (k : Nat) : Nat × Nat × Int × Option Nat :=
  (List.range k).foldl (fun a _ => passOne neg sp lo hi limit hits a) (0, 0, v, none)

/-- A value outside the window is suppressed, and V advances (R395). -/
theorem passOne_outside {neg : Bool} {sp : Nat} {lo hi v : Int} (hv : passValue neg v < lo ∨ hi < passValue neg v)
    (hf : vFits (advance neg v 1 sp) = true) (limit hits h sup : Nat) :
    passOne neg sp lo hi limit hits (h, sup, v, none) = (h, sup + 1, advance neg v 1 sp, none) := by
  have hw : (decide (lo ≤ passValue neg v) && decide (passValue neg v ≤ hi)) = false := by
    rw [Bool.and_eq_false_iff, decide_eq_false_iff_not, decide_eq_false_iff_not]
    omega
  simp [passOne, hw, hf]

theorem passAll_outside {neg : Bool} {sp : Nat} {lo hi v : Int} {k : Nat} (limit hits : Nat)
    (h : ∀ i < k, vFits (advance neg v (i + 1) sp) = true ∧
      (passValue neg (advance neg v i sp) < lo ∨ hi < passValue neg (advance neg v i sp))) :
    passAll neg sp lo hi limit hits v k = (0, k, advance neg v k sp, none) := by
  induction k with
  | zero => simp [passAll, advance]
  | succ k ih =>
    obtain ⟨hf, hv⟩ := h k k.lt_succ_self
    have hk := ih fun i hi => h i (hi.trans k.lt_succ_self)
    rw [passAll, List.range_succ, List.foldl_append, List.foldl_cons, List.foldl_nil]
    change passOne neg sp lo hi limit hits (passAll neg sp lo hi limit hits v k) = _
    rw [hk, passOne_outside hv (by rwa [advance_one]), advance_one]

/-- The unit takes over what its passed values came to, with the output events and the event of its end (R394, R398). -/
def State.passTaken (s : State) (n : Fin 4) (u : Fin 2) (r : Nat × Nat × Int × Option Nat) : State :=
  let t := s.updCmp n u (fun x => { x with
    v := r.2.2.1, hits := (x.hits + r.1) % 4294967296, supp := min 0xFFFF (x.supp + r.2.1)
    st := if r.2.2.2.isSome then .done else .armed })
  let t := if 0 < r.1 then (t.cmpEvent n u).cmpMerged n u (r.1 - 1) else t
  match r.2.2.2 with | some q => t.noteEv 0x0222 q | none => t

/-- A unit whose passed values are all suppressed. -/
theorem cmpCountUnit_suppressed {s : State} {n : Fin 4} {u : Fin 2} {old x : Int} {k : Nat} (hs : (s.cmpUnit n u).st = .armed)
    (hx : if s.cp n u 1 = 1 then x < old else old < x) (hk : passed (s.cp n u 1 == 1) (s.cmpUnit n u).v x (s.cp n u 2) = k) (h0 : 0 < k)
    (ho : ∀ i < k, vFits (advance (s.cp n u 1 == 1) (s.cmpUnit n u).v (i + 1) (s.cp n u 2)) = true ∧
      (passValue (s.cp n u 1 == 1) (advance (s.cp n u 1 == 1) (s.cmpUnit n u).v i (s.cp n u 2)) < s.cpI n u 5 ∨
        s.cpI n u 6 < passValue (s.cp n u 1 == 1) (advance (s.cp n u 1 == 1) (s.cmpUnit n u).v i (s.cp n u 2)))) :
    s.cmpCountUnit n u old x = s.updCmp n u (fun y => { y with
      v := advance (s.cp n u 1 == 1) (s.cmpUnit n u).v k (s.cp n u 2), hits := y.hits % 4294967296, supp := min 0xFFFF (y.supp + k), st := .armed }) := by
  have hp := passAll_outside (s.cp n u 7) (s.cmpUnit n u).hits ho
  have hdir : ((s.cmpUnit n u).st != .armed || (if (s.cp n u 1 == 1) = true then decide (old ≤ x) else decide (x ≤ old))) = false := by
    by_cases h1 : s.cp n u 1 = 1 <;> simp [hs, h1] at hx ⊢ <;> exact hx
  unfold State.cmpCountUnit
  dsimp only
  rw [hdir, if_neg (by decide), hk, if_neg (Nat.ne_of_gt h0)]
  change s.passTaken n u (passAll (s.cp n u 1 == 1) (s.cp n u 2) (s.cpI n u 5) (s.cpI n u 6) (s.cp n u 7) (s.cmpUnit n u).hits (s.cmpUnit n u).v k) = _
  rw [hp]
  rfl

/-- Settles O58: the unit passes `k` values outside its window, and nothing else of the block changes. -/
theorem suppressedHit : Obligations.SuppressedHit := by
  intro n u old x k s hs hx hk h0 ho
  rw [cmpCountUnit_suppressed hs hx hk h0 ho, updCmp_cmpUnit]
  exact ⟨rfl, rfl, rfl, rfl, rfl, rfl, by simp [State.only]⟩

end Sys2Proof.Machine
end

section
/-! Feedback channels: what decoding an edge leaves of the counter, the accepted levels and the illegal transitions of a channel, and of
the other channels. -/

namespace Sys2Proof.Machine

/-! ### Parameters and units through operations that leave them -/

section
variable {s t : State} (h : t.params = s.params)
include h

theorem par_of_params (i : Nat) : t.par i = s.par i := by unfold State.par; rw [h]
theorem fbp_of_params (n : Fin 4) (i : Nat) : t.fbp n i = s.fbp n i := par_of_params h _
theorem fbpI_of_params (n : Fin 4) (i : Nat) : t.fbpI n i = s.fbpI n i := by unfold State.fbpI State.parI; rw [h]
theorem unitOn_of_params (b : Nat) : t.unitOn b = s.unitOn b := by unfold State.unitOn; rw [h]
theorem fbMode_of_params (n : Fin 4) : t.fbMode n = s.fbMode n := by
  rw [State.fbMode, State.fbMode, unitOn_of_params h, fbp_of_params h]

end

/-! ### The majority filter (R363) -/

theorem majority_full {f : Nat} {l : List Bool} (h : l.length = f) (was : Bool) : majority f l was =
    if f < 2 * (l.filter id).length then true else if 2 * (l.filter id).length < f then false else was := by
  have hfit : fit f was l.reverse = l.reverse := by
    rw [fit, List.take_append_of_le_length (by simp [h]), List.take_of_length_le (by simp [h])]
  simp only [majority, hfit, List.filter_reverse, List.length_reverse]

/-! ### One channel -/

@[simp] theorem updChan_chan (s : State) (n : Fin 4) (f : ChannelSt → ChannelSt) : (s.updChan n f).chan n = f (s.chan n) := by
  simp [State.chan, State.updChan]

theorem updChan_chan_of_ne {n m : Fin 4} (h : m ≠ n) (s : State) (f : ChannelSt → ChannelSt) : (s.updChan n f).chan m = s.chan m := by
  simp [State.chan, State.updChan, Quad.get_upd, h]

theorem chan_of_channels {s t : State} (h : t.channels = s.channels) (m : Fin 4) : t.chan m = s.chan m := by
  unfold State.chan
  rw [h]

/-- The counter, the accepted levels of FA and FB, and the illegal transitions of a channel. -/
def ChannelSt.core (c : ChannelSt) : Int × Bool × Bool × Bool × Nat := (c.count, c.lvA, c.lvB, c.illFlag, c.ill)

/-- Every part of the state but the channels and the parameters. -/
def offChannels : List Group := (allBut .channels).filter (fun g => g != .params)

@[simp] theorem mem_offChannels (g : Group) : g ∈ offChannels ↔ g ≠ .channels ∧ g ≠ .params := by
  simp [offChannels, mem_allBut]

/-- From `s` to `t`, channel `n` keeps its core, the other channels keep everything, and no parameter changes. -/
structure ChanKept (n : Fin 4) (s t : State) : Prop where
  params : t.params = s.params
  core : (t.chan n).core = (s.chan n).core
  others : ∀ m, m ≠ n → t.chan m = s.chan m

namespace ChanKept

variable {n : Fin 4} {s t u : State}

theorem refl (n : Fin 4) (s : State) : ChanKept n s s := ⟨rfl, rfl, fun _ _ => rfl⟩

theorem of_blank (h : ChanKept n s t) (e : u.blank offChannels = t.blank offChannels) : ChanKept n s u where
  params := (only_params e (by simp)).trans h.params
  core := (congrArg ChannelSt.core (chan_of_channels (only_channels e (by simp)) n)).trans h.core
  others m hm := (chan_of_channels (only_channels e (by simp)) m).trans (h.others m hm)

theorem updChan (h : ChanKept n s t) {f : ChannelSt → ChannelSt} (hf : ∀ c, (f c).core = c.core) : ChanKept n s (t.updChan n f) where
  params := h.params
  core := by rw [updChan_chan, hf, h.core]
  others m hm := (updChan_chan_of_ne hm _ _).trans (h.others m hm)

theorem ite {c : Prop} [Decidable c] (ht : c → ChanKept n s t) (hu : ¬ c → ChanKept n s u) : ChanKept n s (if c then t else u) := by
  split
  · exact ht ‹_›
  · exact hu ‹_›

theorem evFree (h : ChanKept n s t) (code : Nat) : ChanKept n s (t.evFree code) := h.of_blank (by simp)

theorem note (h : ChanKept n s t) (code qual : Nat) (axes : BitVec 4) (cond : Bool) : ChanKept n s (t.note code qual axes cond) :=
  h.of_blank (by simp)

theorem cmpCount (h : ChanKept n s t) (m : Fin 4) (src : Nat) (old x : Int) : ChanKept n s (t.cmpCount m src old x) := h.of_blank (by simp)

theorem divCount (h : ChanKept n s t) (src k : Nat) : ChanKept n s (t.divCount src k) := h.of_blank (by simp)

theorem unref (h : ChanKept n s t) : ChanKept n s (t.unref n) := h.updChan fun _ => rfl

theorem reversal (h : ChanKept n s t) (neg event : Bool) (T : Nat) : ChanKept n s (t.reversal n neg event T) := by
  unfold State.reversal
  refine .ite (fun _ => ?_) fun _ => h.updChan fun _ => rfl
  refine ChanKept.evFree ?_ _
  exact h.updChan fun _ => rfl

theorem countDir (h : ChanKept n s t) (d : Int) (T : Nat) : ChanKept n s (t.countDir n d T) := by
  unfold State.countDir
  exact (ChanKept.ite (fun _ => h.reversal _ _ _) fun _ => h).updChan fun _ => rfl

theorem speedEdge (h : ChanKept n s t) (w T : Nat) : ChanKept n s (t.speedEdge n w T) := h.updChan fun _ => rfl

theorem chanCause (h : ChanKept n s t) (code : Nat) : ChanKept n s (t.chanCause n code) := (h.note _ _ _ _).updChan fun _ => rfl

theorem indexMissing (h : ChanKept n s t) : ChanKept n s (t.indexMissing n) := by
  have hc : ChanKept n s ((t.updChan n fun c => { c with travel := 0 }).chanCause n 0x0204) := by
    refine ChanKept.chanCause ?_ _
    exact h.updChan fun _ => rfl
  unfold State.indexMissing
  exact .ite (fun _ => .ite (fun _ => hc.unref) fun _ => hc) fun _ => h

theorem rejectLines (h : ChanKept n s t) (bad : Quad Bool) : ChanKept n s (t.rejectLines n bad) := h.of_blank (by simp)

end ChanKept

/-! ### Counts and illegal transitions -/

/-- A count that stays within the limits moves the counter by itself (R377). -/
theorem chanCount_within {n : Fin 4} {s : State} {d : Int} (hd : d ≠ 0) (hlo : s.fbpI n 0x08 ≤ (s.chan n).count + d)
    (hhi : (s.chan n).count + d ≤ s.fbpI n 0x09) :
    ChanKept n (s.updChan n (fun c => { c with count := c.count + d })) (s.chanCount n d) := by
  have hv : clampI (min (s.fbpI n 0x08) (s.chan n).count) (max (s.fbpI n 0x09) (s.chan n).count) ((s.chan n).count + d) =
      (s.chan n).count + d := by unfold clampI; omega
  have hne : (s.chan n).count + d ≠ (s.chan n).count := by omega
  simp only [State.chanCount, if_neg hd, hv, Int.sub_self, Int.natAbs_zero, Nat.lt_irrefl, false_and, if_false, hne]
  have kept (f : ChannelSt → ChannelSt) (hf : (f (s.chan n)).core = ChannelSt.core { s.chan n with count := (s.chan n).count + d }) :
      ChanKept n (s.updChan n (fun c => { c with count := c.count + d })) (s.updChan n f) :=
    ⟨rfl, by simp only [updChan_chan, hf], fun m hm => by rw [updChan_chan_of_ne hm, updChan_chan_of_ne hm]⟩
  refine .divCount (.cmpCount ?_ _ _ _ _) _ _
  exact kept _ rfl

/-- An illegal transition is marked and counted; the counter stays (R367). -/
theorem illegal_marks (n : Fin 4) (s : State) :
    ChanKept n (s.updChan n (fun c => { c with illFlag := true, ill := min 0xFFFF (c.ill + 1) })) (s.illegal n) := by
  have h0 : ChanKept n (s.updChan n (fun c => { c with illFlag := true, ill := min 0xFFFF (c.ill + 1) }))
      (s.updChan n (fun c => { c with illFlag := true, ill := min 0xFFFF (c.ill + 1), illSf := c.illSf + 1, illSeen := true })) :=
    ⟨rfl, by simp only [updChan_chan]; rfl, fun m hm => by rw [updChan_chan_of_ne hm, updChan_chan_of_ne hm]⟩
  have h1 := ChanKept.ite (c := (s.chan n).illSeen = true) (fun _ => h0) fun _ => h0.evFree 0x0207
  unfold State.illegal
  exact .ite (fun _ => h1.unref.note _ _ _ _) fun _ => h1

/-! ### FEEDBACK_EDGE -/

/-- The channel's levels after an edge, the discarded ones counted for their pins (R364). -/
def State.edgeSeen (s : State) (n : Fin 4) (lines : Quad (Option LineIn)) : State :=
  let l (k : Fin 4) (was : Bool) := s.lineLevel n k was (lines.get k)
  let c := s.chan n
  (s.rejectLines n ⟨(l 0 c.lvA).2, (l 1 c.lvB).2, (l 2 c.lvZ).2, (l 3 c.lvX).2⟩).updChan n
    (fun x => { x with lvA := (l 0 c.lvA).1, lvB := (l 1 c.lvB).1, lvZ := (l 2 c.lvZ).1, lvX := (l 3 c.lvX).1 })

section
variable {n : Fin 4} {lines : Quad (Option LineIn)} {off : Nat} {a b : Bool} {s : State}

theorem feedbackEdge_decodes (hm : s.fbMode n ≠ 0) (hx : (s.lineLevel n 3 (s.chan n).lvX (lines.get 3)).1 = (s.chan n).lvX) :
    exec (.feedbackEdge n lines off) s = .next ((s.edgeSeen n lines).decodeLines n (s.chan n)
      (s.lineLevel n 0 (s.chan n).lvA (lines.get 0)).1 (s.lineLevel n 1 (s.chan n).lvB (lines.get 1)).1
      (s.lineLevel n 2 (s.chan n).lvZ (lines.get 2)).1 ((s.edgeSeen n lines).stampAt n off) off) :=
  congrArg Host.Outcome.next ((if_neg hm).trans (if_neg (by rw [hx]; simp)))

theorem edgeSeen_params : (s.edgeSeen n lines).params = s.params := only_params (w := allBut .params) (by simp [State.edgeSeen]) (by simp)

theorem rejectLines_chan (s : State) (n m : Fin 4) (bad : Quad Bool) : (s.rejectLines n bad).chan m = s.chan m :=
  chan_of_channels (only_channels (w := allBut .channels) (by simp) (by simp)) m

theorem edgeSeen_chan : (s.edgeSeen n lines).chan n = { s.chan n with
    lvA := (s.lineLevel n 0 (s.chan n).lvA (lines.get 0)).1, lvB := (s.lineLevel n 1 (s.chan n).lvB (lines.get 1)).1,
    lvZ := (s.lineLevel n 2 (s.chan n).lvZ (lines.get 2)).1, lvX := (s.lineLevel n 3 (s.chan n).lvX (lines.get 3)).1 } := by
  rw [State.edgeSeen, updChan_chan, rejectLines_chan]

theorem edgeSeen_others (m : Fin 4) (hm : m ≠ n) : (s.edgeSeen n lines).chan m = s.chan m := by
  rw [State.edgeSeen, updChan_chan_of_ne hm, rejectLines_chan]

/-- The quadrature decoding of an edge of FA and FB after the step itself (R366, R368). -/
theorem decodeQuad_kept {t u : State} {c : ChannelSt} {z : Bool} {T : Nat} (hz : z = c.lvZ)
    (h : ChanKept n t (match quadStep c.lvA c.lvB a b with
      | none => u.illegal n
      | some 0 => u
      | some d =>
        let k := if u.fbp n 4 = 1 then -d else d
        (u.countDir n k T).chanCount n k)) : ChanKept n t (u.decodeQuad n c a b z T) := by
  unfold State.decodeQuad
  dsimp only
  refine ChanKept.indexMissing ?_
  rw [if_neg (by simp [hz])]
  exact .ite (fun _ => h.speedEdge _ _) fun _ => h

theorem feedbackEdge_quad (hm : s.fbMode n = 1) (hx : (s.lineLevel n 3 (s.chan n).lvX (lines.get 3)).1 = (s.chan n).lvX) :
    exec (.feedbackEdge n lines off) s = .next ((s.edgeSeen n lines).decodeQuad n (s.chan n)
      (s.lineLevel n 0 (s.chan n).lvA (lines.get 0)).1 (s.lineLevel n 1 (s.chan n).lvB (lines.get 1)).1
      (s.lineLevel n 2 (s.chan n).lvZ (lines.get 2)).1 ((s.edgeSeen n lines).stampAt n off)) := by
  rw [feedbackEdge_decodes (by rw [hm]; decide) hx]
  simp only [State.decodeLines, fbMode_of_params edgeSeen_params, hm]

variable (hm : s.fbMode n = 1) (ha : (s.lineLevel n 0 (s.chan n).lvA (lines.get 0)).1 = a)
  (hb : (s.lineLevel n 1 (s.chan n).lvB (lines.get 1)).1 = b)
  (hz : (s.lineLevel n 2 (s.chan n).lvZ (lines.get 2)).1 = (s.chan n).lvZ)
  (hx : (s.lineLevel n 3 (s.chan n).lvX (lines.get 3)).1 = (s.chan n).lvX)
include hm ha hb hz hx

/-- A step of Table FBK-2 counts one, in the direction that fbn.dir gives (R366). -/
theorem feedbackEdge_counts {d : Int} (hq : quadStep (s.chan n).lvA (s.chan n).lvB a b = some d) (hd : d ≠ 0)
    (hlo : s.fbpI n 0x08 ≤ (s.chan n).count + (if s.fbp n 4 = 1 then -d else d))
    (hhi : (s.chan n).count + (if s.fbp n 4 = 1 then -d else d) ≤ s.fbpI n 0x09) :
    Answers (.feedbackEdge n lines off) s (fun t => (t.chan n).count = (s.chan n).count + (if s.fbp n 4 = 1 then -d else d) ∧
      (t.chan n).lvA = a ∧ (t.chan n).lvB = b ∧ ∀ m, m ≠ n → t.chan m = s.chan m) := by
  refine ⟨_, feedbackEdge_quad hm hx, ?_⟩
  subst ha hb
  have hk0 : (if s.fbp n 4 = 1 then -d else d) ≠ 0 := by split <;> omega
  generalize hk : (if s.fbp n 4 = 1 then -d else d) = k at hk0 hlo hhi ⊢
  have hp : (s.edgeSeen n lines).params = s.params := edgeSeen_params
  have hdir := (ChanKept.refl n (s.edgeSeen n lines)).countDir k ((s.edgeSeen n lines).stampAt n off)
  set v := (s.edgeSeen n lines).countDir n k ((s.edgeSeen n lines).stampAt n off) with hv
  have hcore : (v.chan n).core = ((s.edgeSeen n lines).chan n).core := hdir.core
  rw [edgeSeen_chan] at hcore
  simp only [ChannelSt.core, Prod.mk.injEq] at hcore
  obtain ⟨c1, c2, c3, -, -⟩ := hcore
  have hcount := chanCount_within (n := n) (s := v) hk0 (by rwa [fbpI_of_params (hdir.params.trans hp), c1])
    (by rwa [fbpI_of_params (hdir.params.trans hp), c1])
  have hall := decodeQuad_kept (a := (s.lineLevel n 0 (s.chan n).lvA (lines.get 0)).1) (b := (s.lineLevel n 1 (s.chan n).lvB (lines.get 1)).1)
    (u := s.edgeSeen n lines) (T := (s.edgeSeen n lines).stampAt n off) hz (by
      rw [hq]
      split
      · contradiction
      · next e => exact absurd (Option.some.inj e) hd
      · next e =>
        cases e
        rw [fbp_of_params hp]
        dsimp only
        rw [hk, ← hv]
        exact hcount)
  have hc := hall.core
  rw [updChan_chan] at hc
  simp only [ChannelSt.core, Prod.mk.injEq, c1, c2, c3] at hc
  obtain ⟨e1, e2, e3, -, -⟩ := hc
  exact ⟨e1, e2, e3, fun m h => ((hall.others m h).trans (updChan_chan_of_ne h _ _)).trans ((hdir.others m h).trans (edgeSeen_others m h))⟩

/-- An illegal transition is marked and counted (R367). -/
theorem feedbackEdge_illegal (hq : quadStep (s.chan n).lvA (s.chan n).lvB a b = none) :
    Answers (.feedbackEdge n lines off) s (fun t => (t.chan n).count = (s.chan n).count ∧ (t.chan n).illFlag = true ∧
      (t.chan n).ill = min 0xFFFF ((s.chan n).ill + 1) ∧ ∀ m, m ≠ n → t.chan m = s.chan m) := by
  refine ⟨_, feedbackEdge_quad hm hx, ?_⟩
  subst ha hb
  have hall := decodeQuad_kept (a := (s.lineLevel n 0 (s.chan n).lvA (lines.get 0)).1) (b := (s.lineLevel n 1 (s.chan n).lvB (lines.get 1)).1)
    (u := s.edgeSeen n lines) (T := (s.edgeSeen n lines).stampAt n off) hz (by
      rw [hq]
      exact illegal_marks n (s.edgeSeen n lines))
  have hc := hall.core
  rw [updChan_chan, edgeSeen_chan] at hc
  simp only [ChannelSt.core, Prod.mk.injEq] at hc
  obtain ⟨e1, -, -, e4, e5⟩ := hc
  exact ⟨e1, e4, e5, fun m h => ((hall.others m h).trans (updChan_chan_of_ne h _ _)).trans (edgeSeen_others m h)⟩

end

/-! ### A level that does not hold long enough (R364) -/

theorem lineLevel_discarded {n k : Fin 4} {was : Bool} {x : LineIn} {s : State} (hv : majority (s.fbp n 2) x.samples was = !was)
    (hu : s.usesLine n k = true) (hh : x.held < s.fbp n 3) : s.lineLevel n k was (some x) = (was, true) := by
  simp [State.lineLevel, hv, hu, hh]

theorem quadStep_still (a b : Bool) : quadStep a b a b = some 0 := by cases a <;> cases b <;> rfl

theorem lineLevel_none (s : State) (n k : Fin 4) (was : Bool) : s.lineLevel n k was none = (was, false) := rfl

/-- Decoding levels that did not change leaves the counter and the levels. -/
theorem decodeLines_still {n : Fin 4} {u : State} {c : ChannelSt} {T off : Nat} : ChanKept n u (u.decodeLines n c c.lvA c.lvB c.lvZ T off) := by
  unfold State.decodeLines
  split
  · exact decodeQuad_kept rfl (by rw [quadStep_still]; exact .refl n u)
  · simp only [bne_self_eq_false, Bool.or_self, Bool.false_eq_true, if_false]
    exact .refl n u
  · simp only [Bool.and_not_self, Bool.false_eq_true, if_false]
    exact .refl n u
  · simp only [Bool.and_not_self, Bool.false_eq_true, if_false]
    exact .refl n u
  · exact .refl n u

theorem indexMissing_pins (s : State) (n : Fin 4) : (s.indexMissing n).pins = s.pins := only_pins (w := allBut .pins) (by simp) (by simp)

theorem decodeLines_still_pins {n : Fin 4} {u : State} {c : ChannelSt} {T off : Nat} :
    (u.decodeLines n c c.lvA c.lvB c.lvZ T off).pins = u.pins := by
  unfold State.decodeLines
  split
  · unfold State.decodeQuad
    simp [quadStep_still, indexMissing_pins]
  · simp
  · simp
  · simp
  · rfl

theorem feedbackEdge_discards {n : Fin 4} {x : LineIn} {off : Nat} {s : State} (hm : s.fbMode n ≠ 0)
    (hv : majority (s.fbp n 2) x.samples (s.chan n).lvA = !(s.chan n).lvA) (hu : s.usesLine n 0 = true) (hh : x.held < s.fbp n 3) :
    Answers (.feedbackEdge n ⟨some x, none, none, none⟩ off) s (fun t =>
      t.rejects (113 + 8 * n.val) = min 0xFFFF (s.rejects (113 + 8 * n.val) + 1) ∧ (t.chan n).count = (s.chan n).count ∧
      (t.chan n).lvA = (s.chan n).lvA) := by
  have hl : s.lineLevel n 0 (s.chan n).lvA (some x) = ((s.chan n).lvA, true) := lineLevel_discarded hv hu hh
  have hrej : (s.edgeSeen n ⟨some x, none, none, none⟩).pins = (s.bumpReject (113 + 8 * n.val)).pins := by
    simp [State.edgeSeen, Quad.get, hl, lineLevel_none, State.rejectLines, axes4, State.updChan]
  refine ⟨_, feedbackEdge_decodes (lines := ⟨some x, none, none, none⟩) hm rfl, ?_⟩
  simp only [Quad.get, hl, lineLevel_none]
  have hk := decodeLines_still (n := n) (u := s.edgeSeen n ⟨some x, none, none, none⟩) (c := s.chan n)
    (T := (s.edgeSeen n ⟨some x, none, none, none⟩).stampAt n off) (off := off)
  have hc := hk.core
  rw [edgeSeen_chan] at hc
  simp only [ChannelSt.core, Quad.get, hl, Prod.mk.injEq] at hc
  obtain ⟨e1, e2, -⟩ := hc
  exact ⟨by rw [← bumpReject_rejects, State.rejects, State.rejects, decodeLines_still_pins, hrej], e1, e2⟩

/-! ### Timeouts, the gate and the index check -/

theorem evIf_channels (s : State) (c : Bool) (code qual : Nat) : (s.evIf c code qual).channels = s.channels :=
  only_channels (w := allBut .channels) (by simp) (by simp)

theorem hallInvalid_noted {n : Fin 4} {us : Nat} {s : State} (hm : s.fbMode n = 2) (hab : (s.chan n).lvA = (s.chan n).lvB)
    (hbz : (s.chan n).lvB = (s.chan n).lvZ) (hu : s.fbp n 0x11 ≤ us) (hc : (s.chan n).causes.contains 0x0202 = false) :
    Answers (.hallInvalidTimeout n us) s (fun t => t.faults = { s.faults with raised := s.faults.raised ++ [(0x0202, n.val, s.chanAxes n, true)] } ∧
      (t.chan n).causes.contains 0x0202 = true ∧ (t.chan n).count = (s.chan n).count ∧ ∀ m, m ≠ n → t.chan m = s.chan m) := by
  have hk := (ChanKept.refl n s).chanCause 0x0202
  have hcount := hk.core
  simp only [ChannelSt.core, Prod.mk.injEq] at hcount
  obtain ⟨e1, -⟩ := hcount
  refine ⟨s.chanCause n 0x0202, congrArg Host.Outcome.next (if_pos ⟨hm, hab, hbz, hu, by rw [hc]; rfl⟩), rfl, ?_, e1, hk.others⟩
  rw [State.chanCause, updChan_chan]
  simp

theorem speedGate_restarts {n : Fin 4} {s : State} (hm : s.fbMode n ≠ 0) (hg : s.fbp n 0x19 ≤ (s.chan n).gateF) :
    Answers (.speedGateEnd n) s (fun t => (t.chan n).gateN = 0 ∧ (t.chan n).gateW = 0 ∧ (t.chan n).gateF = 0 ∧
      (t.chan n).count = (s.chan n).count ∧ (s.fbMode n = 5 → (t.chan n).countMode = true) ∧ ∀ m, m ≠ n → t.chan m = s.chan m) := by
  refine ⟨_, congrArg Host.Outcome.next (if_neg (by simp [hm, hg])), ?_⟩
  have kept (u : State) (c : Bool) (a b : Nat) (m : Fin 4) : (u.evIf c a b).chan m = u.chan m := chan_of_channels (evIf_channels u c a b) m
  simp only [kept, updChan_chan]
  exact ⟨trivial, trivial, trivial, trivial, fun h => if_pos h, fun m hmn => updChan_chan_of_ne hmn _ _⟩

theorem indexCheck_confirms {n : Fin 4} {k : Nat} {pe : Int} {s : State} (hk : (s.chan n).idxCheck = some k) (hpe : (s.chan n).pe = some pe)
    (h4 : 4 ≤ k) (h20 : k ≤ 20) (hp : pe.natAbs ≤ s.fbp n 0x0E) :
    Answers (.retainedIndexCheck n) s (fun t => (t.chan n).idxCheck = none ∧ (t.motion.get n).retained = false ∧
      ((s.motion.get n).posState = .retained → (t.motion.get n).posState = .referenced) ∧ (t.motion.get n).p = (s.motion.get n).p ∧
      ((s.motion.get n).retained = true → t.faults.events.getLast? = some (0x0103, n.val, s.frame.counter))) := by
  have hx : execRetainedIndexCheck n s = .next ((s.updChan n (fun c => { c with idxCheck := none })).confirmIndex n) := by
    unfold execRetainedIndexCheck
    simp only [hk, hpe]
    exact congrArg Host.Outcome.next ((if_neg (by omega)).trans (if_pos hp))
  refine ⟨_, hx, ?_⟩
  have hm : (((s.updChan n (fun c => { c with idxCheck := none })).confirmIndex n).motion.get n) = { s.motion.get n with
      retained := false, posState := if (s.motion.get n).posState = .retained then .referenced else (s.motion.get n).posState } := by
    simp [State.confirmIndex, evIf_motion, State.updMotion, State.updChan]
  refine ⟨?_, by rw [hm], fun h => by rw [hm]; exact if_pos h, by rw [hm], fun h => ?_⟩
  · rw [State.confirmIndex, chan_of_channels (evIf_channels _ _ _ _)]
    exact congrArg ChannelSt.idxCheck (updChan_chan s n _)
  · have hr : ((s.updChan n (fun c => { c with idxCheck := none })).motion.get n).retained = true := h
    rw [State.confirmIndex, hr, State.evIf, if_pos rfl, ev_last, Nat.mod_eq_of_lt (by omega)]
    rfl

/-! ### FB_STATUS and FB_SET_COUNT -/

theorem doneWith_chan (s : State) (h : Nat) (res : List Byte) (m : Fin 4) : (s.doneWith h res).chan m = s.chan m :=
  chan_of_channels (only_channels (w := allBut .channels) (by simp) (by simp)) m

/-- Reading FB_STATUS clears the flag of the illegal transitions. -/
def ChannelSt.flagRead (c : ChannelSt) : ChannelSt := { c with illFlag := false }

/-- Clearing starts the counts of Table FBK-9 over. -/
def ChannelSt.countsCleared (c : ChannelSt) : ChannelSt := { c with ill := 0, revs := 0, discards := 0, ssiRej := 0 }

/-- The channel as FB_STATUS leaves it. -/
def ChannelSt.read (c : ChannelSt) (clear : Bool) : ChannelSt := if clear then c.flagRead.countsCleared else c.flagRead

theorem updChan_updChan (s : State) (n : Fin 4) (f g : ChannelSt → ChannelSt) :
    (s.updChan n f).updChan n g = s.updChan n (fun c => g (f c)) := by
  simp only [State.updChan]
  congr 1
  fin_cases n <;> rfl

theorem fbStatus_eq (b : State) (h : Nat) : fbStatusSpec.start b h =
    (b.updChan (Fin.ofNat 4 (b.p8 h 0)) (fun c => c.read (b.p8 h 1 == 1))).doneWith h (b.fbStatus (Fin.ofNat 4 (b.p8 h 0))) := by
  have kept (n : Fin 4) (f : ChannelSt → ChannelSt) : (b.updChan n f).p8 h 1 = b.p8 h 1 := rfl
  unfold fbStatusSpec
  simp only [kept, updChan_updChan]
  by_cases h1 : b.p8 h 1 = 1
  · simp only [h1, if_true, beq_self_eq_true]
    rfl
  · simp only [h1, if_false, beq_eq_false_iff_ne.mpr h1]
    rfl

theorem fbStatus_starts : Starts fbStatusSpec .fbStatus (fun h b u => u.hb h 12 = 1 ∧
    (u.chan (Fin.ofNat 4 (b.p8 h 0))).illFlag = false ∧ (u.chan (Fin.ofNat 4 (b.p8 h 0))).count = (b.chan (Fin.ofNat 4 (b.p8 h 0))).count ∧
    (b.p8 h 1 = 1 → (u.chan (Fin.ofNat 4 (b.p8 h 0))).ill = 0 ∧ (u.chan (Fin.ofNat 4 (b.p8 h 0))).discards = 0) ∧
    ∀ m, m ≠ Fin.ofNat 4 (b.p8 h 0) → u.chan m = b.chan m) := by
  refine starts_of_start (fun _ _ => rfl) (fun _ _ k => k) fun h b hw => ?_
  rw [fbStatus_eq]
  refine ⟨doneWith_code (s := b.updChan _ _) hw _ _, ?_, ?_, fun h1 => ?_, fun m hm => ?_⟩
  · rw [doneWith_chan, updChan_chan, ChannelSt.read]
    split <;> rfl
  · rw [doneWith_chan, updChan_chan, ChannelSt.read]
    split <;> rfl
  · rw [doneWith_chan, updChan_chan, ChannelSt.read, h1]
    exact ⟨rfl, rfl⟩
  · rw [doneWith_chan, updChan_chan_of_ne hm]

theorem fbSetCount_starts : Starts fbSetCountSpec .fbSetCount (fun h b u => u.hb h 12 = 1 ∧
    u.chan (Fin.ofNat 4 (b.p8 h 0)) = { b.chan (Fin.ofNat 4 (b.p8 h 0)) with setTo := some (b.pS32 h 4, bit (b.p8 h 1) 0) } ∧
    ∀ m, m ≠ Fin.ofNat 4 (b.p8 h 0) → u.chan m = b.chan m) :=
  starts_of_start (fun _ _ => rfl) (fun _ _ k => k) fun _ b hw => ⟨doneWith_code (s := b.updChan _ _) hw _ _,
    (doneWith_chan _ _ _ _).trans (updChan_chan b _ _), fun _ hm => (doneWith_chan _ _ _ _).trans (updChan_chan_of_ne hm b _)⟩

/-- Settles O20, a channel's decoding seen through what it leaves of the counter and the accepted levels. -/
theorem feedbackComplete : Obligations.FeedbackComplete := by
  unfold Obligations.FeedbackComplete
  exact ⟨fun _ _ _ h => majority_full h _,
    fun _ _ _ _ _ _ _ hm ha hb hz hx hq hd hlo hhi => feedbackEdge_counts hm ha hb hz hx hq hd hlo hhi,
    fun _ _ _ _ _ _ hm ha hb hz hx hq => feedbackEdge_illegal hm ha hb hz hx hq,
    fun _ _ _ _ hm hv hu hh => feedbackEdge_discards hm hv hu hh,
    fun _ _ _ hm hab hbz hu hc => hallInvalid_noted hm hab hbz hu hc,
    fun _ _ _ hm hs hg => congrArg Host.Outcome.next (if_pos ⟨hm, hs, decide_eq_true hg⟩),
    fun _ _ hm hg => speedGate_restarts hm hg,
    fun _ _ _ _ hk hpe h4 h20 hp => indexCheck_confirms hk hpe h4 h20 hp,
    fbStatus_starts, fbSetCount_starts⟩

end Sys2Proof.Machine
end

section
/-! Compare units, divided outputs, and the reads of the sensor port: what each event and command changes. -/

namespace Sys2Proof.Machine

/-! ### Compare pulses (R398) -/

theorem comparePulseEnd_ends {n : Fin 4} {u : Fin 2} {us : Nat} {s : State} (hp : (s.cmpUnit n u).pulse = true) (hw : s.cp n u 4 ≤ us) :
    Answers (.comparePulseEnd n u us) s (fun t => t.cmpUnit n u = { s.cmpUnit n u with pulse := false } ∧ t.pins.aux.get n = t.auxLevel n ∧
      (∀ m, m ≠ n → t.cmp.get m = s.cmp.get m ∧ t.pins.aux.get m = s.pins.aux.get m) ∧ s.only [.cmp, .pins] t) := by
  refine ⟨(s.updCmp n u (fun x => { x with pulse := false })).driveAux n, congrArg Host.Outcome.next (if_pos (by simp [hp, hw])),
    updCmp_cmpUnit s n u _, Quad.get_set_self _ _ _, fun m hm => ⟨?_, ?_⟩, rfl⟩
  · exact (Quad.get_upd _ _ _ _).trans (if_neg hm)
  · exact (Quad.get_set _ _ _ _).trans (if_neg hm)

/-! ### Divided outputs (R403) -/

@[simp] theorem updDiv_get (s : State) (d : Fin 2) (f : DivSt → DivSt) : (s.updDiv d f).divo.get d = f (s.divo.get d) := Duo.get_upd_self _ _ _

/-- The level of a divided output: idle by sp.divd.pol, inverted while active (Table PIN-4). -/
theorem driveDiv_pin (s : State) (d : Fin 2) : (s.driveDiv d).pins.divo.get d =
    (s.unitOn 4 && s.domReady .fbk && ((s.divo.get d).active != (s.par (divPar d 5) == 1))) := Duo.get_set_self _ _ _

section
variable {d : Fin 2} {gone : Nat} {s : State} (hb : (s.divo.get d).busy = true) (hg : s.par (divPar d 4) ≤ gone)
include hb hg

/-- Past the width, the event acts by the state of the output. -/
theorem widthEnd_acts : exec (.dividedOutputWidthEnd d gone) s = .next (
    if s.par (divPar d 3) ≠ 1 ∧ (s.divo.get d).active then (s.updDiv d (fun x => { x with active := false })).driveDiv d
    else if 0 < (s.divo.get d).backlog then (s.updDiv d (fun x => { x with backlog := x.backlog - 1 })).divEmit d
    else s.updDiv d (fun x => { x with busy := false })) :=
  congrArg Host.Outcome.next (if_neg (by simp [hb, hg]))

theorem widthEnd_idles (hm : s.par (divPar d 3) ≠ 1) (ha : (s.divo.get d).active = true) :
    Answers (.dividedOutputWidthEnd d gone) s (fun t => t.divo.get d = { s.divo.get d with active := false } ∧
      t.pins.divo.get d = (s.unitOn 4 && s.domReady .fbk && s.par (divPar d 5) == 1) ∧ s.only [.divo, .pins] t) := by
  refine ⟨(s.updDiv d (fun x => { x with active := false })).driveDiv d, ?_, updDiv_get s d _, ?_, rfl⟩
  · rw [widthEnd_acts hb hg, if_pos ⟨hm, ha⟩]
  · rw [driveDiv_pin, updDiv_get, Bool.false_bne]
    rfl

theorem widthEnd_emits (ha : (s.divo.get d).active = false) (hk : 0 < (s.divo.get d).backlog) (hm : s.par (divPar d 3) ≠ 1) :
    Answers (.dividedOutputWidthEnd d gone) s (fun t => (t.divo.get d).backlog = (s.divo.get d).backlog - 1 ∧ (t.divo.get d).active = true ∧
      t.pins.divo.get d = (s.unitOn 4 && s.domReady .fbk && s.par (divPar d 5) != 1)) := by
  have he : ((s.updDiv d (fun x => { x with backlog := x.backlog - 1 })).divEmit d).divo.get d =
      { s.divo.get d with backlog := (s.divo.get d).backlog - 1, active := true, busy := true } := by
    refine (updDiv_get _ _ _).trans ?_
    rw [updDiv_get]
    exact congrArg (fun a => { s.divo.get d with backlog := (s.divo.get d).backlog - 1, active := a, busy := true }) (if_neg hm)
  refine ⟨(s.updDiv d (fun x => { x with backlog := x.backlog - 1 })).divEmit d, ?_, by rw [he], by rw [he], ?_⟩
  · rw [widthEnd_acts hb hg, if_neg (by simp [ha]), if_pos hk]
  · refine (driveDiv_pin _ d).trans ?_
    have hact := congrArg DivSt.active he
    exact (congrArg (fun a => s.unitOn 4 && s.domReady .fbk && (a != (s.par (divPar d 5) == 1))) hact).trans (by rw [Bool.true_bne]; rfl)

theorem widthEnd_rests (ha : (s.divo.get d).active = false) (hk : (s.divo.get d).backlog = 0) :
    exec (.dividedOutputWidthEnd d gone) s = .next (s.updDiv d (fun x => { x with busy := false })) := by
  rw [widthEnd_acts hb hg, if_neg (by simp [ha]), if_neg (by omega)]

end

/-! ### The sensor port (R411 to R415) -/

/-- The status of Table CMP-5 that a read of select `j` gives to the whole select; 0 for none. -/
def State.selectStatus (s : State) (j : Nat) (l : List Bool) : Nat :=
  if (s.readHead l).1 ≠ 0 then (s.readHead l).1
  else if (chainTail s.params.running j == 1 && ((s.readHead l).2.drop (chainBits s.params.running j)).headD false) = true then 5 else 0

/-- With one slot on the one select in use, the port reads that slot. -/
theorem sensorPortRead_slot {j k : Nat} {l : List Bool} {s : State} (hu : s.unitOn 4 = true) (hj : usedSelects s.params.running = [j])
    (hk : chainSlots s.params.running j = [k]) :
    ∃ bits T, exec (.sensorPortRead [l]) s = .next (s.slotRead k bits (s.selectStatus j l) T) := by
  have hx : exec (.sensorPortRead [l]) s = .next (s.readSelects (100 * s.par 0x2402) (usedSelects s.params.running) [l]) :=
    congrArg Host.Outcome.next (if_pos hu)
  rw [hx, hj]
  simp only [State.readSelects, State.selectRead, hk, State.splitRead]
  exact ⟨_, _, rfl⟩

/-- The record of a slot that the status `st` of Table CMP-5 was found for, not 1: the position stays (R414). -/
def SlotSt.failedWith (x : SlotSt) (st : Nat) (fresh : Bool × Nat × Nat × List Int) : SlotSt :=
  { x with status := st, failed := min 0xFFFF (x.failed + 1), fresh := some fresh }

theorem slotRead_fails (s : State) (k : Nat) (bits : List Bool) {whole : Nat} (h0 : whole ≠ 0) (h1 : whole ≠ 1) (T : Nat) :
    ∃ fresh, (s.slotRead k bits whole T).sensor.slots = updAt s.sensor.slots k (fun x => x.failedWith whole fresh) := by
  unfold State.slotRead
  simp only [if_pos h0, if_neg h1]
  split <;> exact ⟨_, rfl⟩

theorem slotRead_reads {s : State} {k : Nat} (bits : List Bool) (T : Nat) (he : s.slotFmt k / 65536 % 256 = 0xFF) :
    ∃ field posF ps, s.slotRead k bits 0 T = { s with sensor := { s.sensor with slots := updAt s.sensor.slots k (fun x =>
      { x with status := 1, posF := posF, fresh := some (false, field, stampOf T, ps) }) } } := by
  unfold State.slotRead
  simp only [he, bne_self_eq_false, Bool.false_and, ne_eq, not_true_eq_false, if_false, false_and, Bool.false_eq_true, if_true]
  exact ⟨_, _, _, rfl⟩

section
variable {j k : Nat} {l : List Bool} {s : State} (hu : s.unitOn 4 = true) (hj : usedSelects s.params.running = [j])
  (hk : chainSlots s.params.running j = [k]) (hl : k < s.sensor.slots.length)
include hu hj hk hl

/-- SSDI low at the start fails the read (Table CMP-5). -/
theorem sensorPortRead_low (hs : l.headD true = false) :
    Answers (.sensorPortRead [l]) s (fun t => (t.sensor.slots.getD k {}).status = 2 ∧
      (t.sensor.slots.getD k {}).failed = min 0xFFFF ((s.sensor.slots.getD k {}).failed + 1) ∧
      (t.sensor.slots.getD k {}).posF = (s.sensor.slots.getD k {}).posF ∧ ∀ i, i ≠ k → t.sensor.slots.getD i {} = s.sensor.slots.getD i {}) := by
  obtain ⟨bits, T, hx⟩ := sensorPortRead_slot (l := l) hu hj hk
  have hst : s.selectStatus j l = 2 := by
    simp only [State.selectStatus, State.readHead, hs]
    rfl
  rw [hst] at hx
  obtain ⟨fresh, hr⟩ := slotRead_fails s k bits (whole := 2) (by decide) (by decide) T
  refine ⟨_, hx, ?_⟩
  simp only [hr]
  have hself : (updAt s.sensor.slots k (fun x => x.failedWith 2 fresh)).getD k {} = (s.sensor.slots.getD k {}).failedWith 2 fresh := by
    rw [updAt_getD, if_pos ⟨rfl, hl⟩]
  refine ⟨by rw [hself]; rfl, by rw [hself]; rfl, by rw [hself]; rfl, fun i hi => ?_⟩
  rw [updAt_getD, if_neg fun e => hi e.1.symm]

/-- A read that no rule of Table CMP-5 fails gives the slot its position. -/
theorem sensorPortRead_good (hs : l.headD true = true) (hack : s.par 0x2404 ≠ 1) (htail : chainTail s.params.running j ≠ 1)
    (he : s.slotFmt k / 65536 % 256 = 0xFF) :
    Answers (.sensorPortRead [l]) s (fun t => (t.sensor.slots.getD k {}).status = 1 ∧
      (t.sensor.slots.getD k {}).failed = (s.sensor.slots.getD k {}).failed ∧ s.only [.sensor] t) := by
  obtain ⟨bits, T, hx⟩ := sensorPortRead_slot (l := l) hu hj hk
  have hst : s.selectStatus j l = 0 := by simp [State.selectStatus, State.readHead, hs, hack, htail, -List.headD_eq_head?_getD]
  rw [hst] at hx
  obtain ⟨field, posF, ps, hr⟩ := slotRead_reads bits T he
  rw [hr] at hx
  refine ⟨_, hx, ?_, ?_, rfl⟩ <;> simp only [updAt_getD, hl, and_self, if_true]

end

/-! ### Commands -/

theorem cmpArm_starts : Starts cmpArmSpec .cmpArm (fun h b u => u.cmpUnit (b.cmpNo h).1 (b.cmpNo h).2 = { b.cmpUnit (b.cmpNo h).1 (b.cmpNo h).2 with
      arms := (b.cmpUnit (b.cmpNo h).1 (b.cmpNo h).2).arms ++ [(h.val, bit (b.p8 h 2) 0, bit (b.p8 h 2) 1, 256 * b.pS32 h 4 + (b.p8 h 3 : Int))] } ∧
    State.only [.cmp] b u) :=
  starts_of_start (fun _ _ => rfl) (fun _ _ k => k) fun _ b _ => ⟨updCmp_cmpUnit b _ _ _, rfl⟩

theorem doneWith_cmp (s : State) (h : Nat) (res : List Byte) : (s.doneWith h res).cmp = s.cmp :=
  only_cmp (w := allBut .cmp) (by simp) (by simp)

theorem doneWith_sensor (s : State) (h : Nat) (res : List Byte) : (s.doneWith h res).sensor = s.sensor :=
  only_sensor (w := allBut .sensor) (by simp) (by simp)

theorem doneWith_divo (s : State) (h : Nat) (res : List Byte) : (s.doneWith h res).divo = s.divo :=
  only_divo (w := allBut .divo) (by simp) (by simp)

theorem doneWith_follow (s : State) (h : Nat) (res : List Byte) : (s.doneWith h res).follow = s.follow :=
  only_follow (w := allBut .follow) (by simp) (by simp)

/-- Settles O21: each event acts on its own unit, output or slot. -/
theorem compareComplete : Obligations.CompareComplete := by
  unfold Obligations.CompareComplete
  exact ⟨fun _ _ _ _ hp hw => comparePulseEnd_ends hp hw, fun _ _ _ hb hg hm ha => widthEnd_idles hb hg hm ha,
    fun _ _ _ hb hg ha hk hm => widthEnd_emits hb hg ha hk hm, fun _ _ _ hb hg ha hk => widthEnd_rests hb hg ha hk, cmpArm_starts,
    starts_of_start (fun _ _ => rfl) (fun _ _ k => k) fun _ _ hw => ⟨doneWith_code hw _ _, doneWith_cmp _ _ _⟩,
    fun _ _ _ _ hu hj hk hl hs => sensorPortRead_low hu hj hk hl hs,
    fun _ _ _ _ hu hj hk hl hs hack htail he => sensorPortRead_good hu hj hk hl hs hack htail he,
    starts_of_start (fun _ _ => rfl) (fun _ _ k => k) fun _ _ hw => ⟨doneWith_code hw _ _, doneWith_sensor _ _ _, doneWith_divo _ _ _⟩,
    starts_of_start (fun _ _ => rfl) (fun _ _ k => k) fun _ _ hw => ⟨doneWith_code hw _ _, doneWith_follow _ _ _⟩⟩

end Sys2Proof.Machine
end

section
/-! Path queries: what taking, activating and ending one changes in the planner. -/

namespace Sys2Proof.Machine

/-! ### The planner beside its roadmap -/

/-- The planner without its roadmap. -/
def PlanSt.offRoadmap (p : PlanSt) : PlanSt := { p with nodes := [], edges := [], rmVer := 0, rmSeen := false, rmLimits := [] }

theorem rmClear_offRoadmap (p : PlanSt) : p.rmClear.offRoadmap = p.offRoadmap := by
  unfold PlanSt.rmClear
  split <;> rfl

theorem evFree_plan (s : State) (code : Nat) : (s.evFree code).plan = s.plan := only_plan (w := allBut .plan) (by simp) (by simp)

theorem rmNode_offRoadmap (s : State) (q : List Int) : (s.rmNode q).plan.offRoadmap = s.plan.offRoadmap := by
  unfold State.rmNode
  dsimp only
  split
  · rfl
  · split
    · rfl
    · split
      · rfl
      · rw [evFree_plan]
        rfl

theorem rmEdge_offRoadmap (s : State) (c : PlanCtx) (a b : List Int) : (s.rmEdge c a b).plan.offRoadmap = s.plan.offRoadmap := by
  unfold State.rmEdge
  dsimp only
  split <;> rfl

/-- What every step of a fold leaves, the fold leaves. -/
theorem foldl_keeps {α β : Type} (g : State → β) {f : State → α → State} (hf : ∀ s a, g (f s a) = g s) (l : List α) (s : State) :
    g (l.foldl f s) = g s := by
  induction l generalizing s with
  | nil => rfl
  | cons a r ih => exact (ih _).trans (hf s a)

/-- Learning a path changes the roadmap only (R441). -/
theorem rmLearn_offRoadmap (s : State) (c : PlanCtx) (path : List (List Int)) : (s.rmLearn c path).plan.offRoadmap = s.plan.offRoadmap := by
  have h : ((segmentsOf path).foldl (fun t e => t.rmEdge c e.1 e.2) (path.foldl (fun t q => t.rmNode q) s)).plan.offRoadmap =
      s.plan.offRoadmap :=
    (foldl_keeps (fun t => t.plan.offRoadmap) (fun t (e : List Int × List Int) => rmEdge_offRoadmap t c e.1 e.2) _ _).trans
      (foldl_keeps (fun t => t.plan.offRoadmap) rmNode_offRoadmap _ _)
  unfold State.rmLearn
  dsimp only
  split
  · exact h
  · exact h

theorem queryEnds_plan (s : State) (q : Query) (status n : Nat) : (s.queryEnds q status n).plan = s.plan :=
  only_plan (w := allBut .plan) (by simp) (by simp)

theorem doneWith_plan (s : State) (h : Nat) (res : List Byte) : (s.doneWith h res).plan = s.plan :=
  only_plan (w := allBut .plan) (by simp) (by simp)

/-! ### Activation (R431, R434, R438) -/

/-- The planner once the first query leaves the queue: limits that differ from those of the roadmap clear it (R442). -/
def PlanSt.relimited (p : PlanSt) (lim : List Limits) (r : List Query) : PlanSt :=
  { (if p.rmLimits = lim then p else p.rmClear) with queue := r, rmLimits := lim }

/-- A query with a given start as it becomes active: what it latches, and its start. -/
def State.latched (s : State) (q : Query) (lim : List Limits) (start : List Int) : Query :=
  { q with
    start := 1
    active := s.frame.counter
    limits := lim
    mapVer := s.plan.version
    rmVer := s.plan.rmVer
    bias := s.par 0x5004
    kNear := s.par 0x5007
    shortN := s.par 0x5008
    occ := s.plan.occ
    nodes := s.plan.nodes
    edges := s.plan.edges
    from_ := start }

/-- The state in which the query `q` with a given start has become active. -/
def State.activated (s : State) (q : Query) (r : List Query) (ch : Chain) : State :=
  let t := s.updPlan (fun p => p.relimited (s.captureLimits ch) r)
  t.updPlan (fun p => { p with active := some (t.latched q (s.captureLimits ch) q.given) })

theorem relimited_off (p : PlanSt) (lim : List Limits) (r : List Query) : (p.relimited lim r).offRoadmap = { p.offRoadmap with queue := r } := by
  unfold PlanSt.relimited
  split
  · rfl
  · exact congrArg (fun p => { p with queue := r }) (rmClear_offRoadmap p)

theorem queryActivation_given {q : Query} {r : List Query} {ch : Chain} {s : State} (ha : s.plan.active = none) (hq : s.plan.queue = q :: r)
    (hc : s.plan.chain = some ch) (hs : q.start = 1) (ht : q.taken ≠ s.frame.counter) (he : s.plan.lastEnd ≠ some s.frame.counter) :
    exec .queryActivation s = .next (s.activated q r ch).settle := by
  refine congrArg Host.Outcome.next (congrArg State.settle ?_)
  simp only [ha, hq, hc, hs, ht, he, or_self, if_false]
  rfl

theorem activated_query (s : State) (q : Query) (r : List Query) (ch : Chain) :
    (s.activated q r ch).plan.queue = r ∧ ∃ a : Query, (s.activated q r ch).plan.active = some a ∧ a.hop = q.hop ∧
      a.slot = q.slot ∧ a.from_ = q.given ∧ a.mapVer = s.plan.version ∧ a.active = s.frame.counter ∧ a.occ = s.plan.occ := by
  have hoff := relimited_off s.plan (s.captureLimits ch) r
  have hver : (s.plan.relimited (s.captureLimits ch) r).version = s.plan.version := (congrArg PlanSt.version hoff :)
  have hocc : (s.plan.relimited (s.captureLimits ch) r).occ = s.plan.occ := (congrArg PlanSt.occ hoff :)
  exact ⟨rfl, _, rfl, rfl, rfl, rfl, hver, rfl, hocc⟩

/-! ### The end (R436, R439, R440) -/

/-- The planner as a query that ends leaves it. -/
def PlanSt.ended (p : PlanSt) (now : BitVec 32) : PlanSt := { p with active := none, lastEnd := some now }

/-- The query's answer in the state `t`: a status other than FOUND ends it, else its road `rd` is written (R436). -/
def State.queryAnswer (t : State) (q : Query) (status n : Nat) (rd : Road) (res : List Byte) : State :=
  if status ≠ 0 then t.queryEnds q status n
  else
    let t := t.updPlan (fun p => { p with roads := p.roads.set (Fin.ofNat 4 q.slot) (some rd) })
    if t.stage q.hop == .started then t.doneWith q.hop res else t

theorem queryAnswer_plan (t : State) (q : Query) (status n : Nat) (rd : Road) (res : List Byte) :
    (t.queryAnswer q status n rd res).plan = t.plan ∨
    (t.queryAnswer q status n rd res).plan = { t.plan with roads := t.plan.roads.set (Fin.ofNat 4 q.slot) (some rd) } := by
  unfold State.queryAnswer
  dsimp only
  split
  · exact .inl (queryEnds_plan _ _ _ _)
  · right
    split
    · exact doneWith_plan _ _ _
    · rfl

/-- The state after a query's end, before its answer: the roadmap learns the path (R441). -/
def State.learned (s : State) (learn : Bool) (c : PlanCtx) (path : List (List Int)) : State :=
  let t := s.updPlan (fun p => p.ended s.frame.counter)
  if learn then t.rmLearn c path else t

theorem learned_offRoadmap (s : State) (learn : Bool) (c : PlanCtx) (path : List (List Int)) :
    (s.learned learn c path).plan.offRoadmap = (s.plan.ended s.frame.counter).offRoadmap := by
  unfold State.learned
  dsimp only
  split
  · exact rmLearn_offRoadmap _ _ _
  · rfl

theorem queryEnd_eq {q : Query} {ch : Chain} {s : State} (ha : s.plan.active = some q) (hc : s.plan.chain = some ch) :
    ∃ learn c path status n rd res, execQueryEnd s = .next (((s.learned learn c path).queryAnswer q status n rd res)).settle := by
  unfold execQueryEnd
  simp only [ha, hc]
  exact ⟨_, _, _, _, _, _, _, rfl⟩

theorem queryEnd_ends {q : Query} {ch : Chain} {s : State} (ha : s.plan.active = some q) (hc : s.plan.chain = some ch) :
    ∃ u : State, exec .queryEnd s = .next u.settle ∧ u.plan.active = none ∧ u.plan.lastEnd = some s.frame.counter ∧ u.plan.queue = s.plan.queue ∧
      ∀ k, k ≠ Fin.ofNat 4 q.slot → u.plan.roads.get k = s.plan.roads.get k := by
  obtain ⟨learn, c, path, status, n, rd, res, hx⟩ := queryEnd_eq ha hc
  have hoff := learned_offRoadmap s learn c path
  have hactive : (s.learned learn c path).plan.active = none := (congrArg PlanSt.active hoff :)
  have hlast : (s.learned learn c path).plan.lastEnd = some s.frame.counter := (congrArg PlanSt.lastEnd hoff :)
  have hqueue : (s.learned learn c path).plan.queue = s.plan.queue := (congrArg PlanSt.queue hoff :)
  have hroads : (s.learned learn c path).plan.roads = s.plan.roads := (congrArg PlanSt.roads hoff :)
  refine ⟨_, hx, ?_⟩
  obtain e | e := queryAnswer_plan (s.learned learn c path) q status n rd res
  · rw [e]
    exact ⟨hactive, hlast, hqueue, fun k _ => by rw [hroads]⟩
  · rw [e]
    exact ⟨hactive, hlast, hqueue, fun k hk => by rw [Quad.get_set, if_neg hk, hroads]⟩

theorem raiseFree_plan (s : State) (code : Nat) (axes : BitVec 4) (cond : Bool) : (s.raiseFree code axes cond).plan = s.plan :=
  only_plan (w := allBut .plan) (by simp) (by simp)

theorem raiseFree_frame (s : State) (code : Nat) (axes : BitVec 4) (cond : Bool) : (s.raiseFree code axes cond).frame = s.frame :=
  only_frame (w := allBut .frame) (by simp) (by simp)

theorem queryEnds_faultActive (s : State) (q : Query) (status n k : Nat) : (s.queryEnds q status n).faultActive k = s.faultActive k := by
  unfold State.queryEnds
  split
  · exact congrArg (fun l : List FaultEnt => l.any _) (doneWith_active s q.hop _)
  · rfl

theorem dropActive_some {q : Query} {s : State} (ha : s.plan.active = some q) (status : Nat) :
    (s.dropActive status).plan = s.plan.ended s.frame.counter ∧ ∀ k, (s.dropActive status).faultActive k = s.faultActive k := by
  unfold State.dropActive
  simp only [ha]
  exact ⟨queryEnds_plan _ _ _ _, queryEnds_faultActive _ _ _ _⟩

theorem queryDeadline_ends {q : Query} {s : State} (ha : s.plan.active = some q) (ht : s.par (0x5011 + 2 * q.cls) ≤ s.since q.active) :
    ∃ u : State, exec .queryDeadline s = .next u.settle ∧ u.plan = { s.plan with active := none, lastEnd := some s.frame.counter } ∧
      u.faultActive 0x0502 = true := by
  have hx : execQueryDeadline s = .next ((s.raiseFree 0x0502 0 false).dropActive 3).settle := by
    simp only [execQueryDeadline, ha, if_pos ht]
  obtain ⟨hp, hf⟩ := dropActive_some (s := s.raiseFree 0x0502 0 false) ((congrArg PlanSt.active (raiseFree_plan _ _ _ _)).trans ha) 3
  refine ⟨_, hx, ?_, ?_⟩
  · rw [hp, raiseFree_plan, raiseFree_frame]
    rfl
  · rw [hf, raiseFree_faultActive]
    rfl

/-- Settles O23: the query at the front is taken, activated and ended by what each event leaves of the planner. -/
theorem queryComplete : Obligations.QueryComplete := by
  unfold Obligations.QueryComplete
  exact ⟨starts_of_start (fun _ _ => rfl) (fun _ _ k => k) fun _ _ _ => ⟨rfl, _, rfl, rfl, rfl, rfl, rfl⟩,
    fun _ _ _ _ ha hq hc hs ht he => ⟨_, queryActivation_given ha hq hc hs ht he, activated_query _ _ _ _⟩,
    fun _ _ _ ha hc => queryEnd_ends ha hc, fun _ _ ha ht => queryDeadline_ends ha ht⟩

end Sys2Proof.Machine
end

section
/-! A haul run: its start, its segments, and what holds, releases and ends it. -/

namespace Sys2Proof.Machine

/-! ### Operations that leave the planner as it is -/

section
variable (s : State)

theorem ev_plan (code qual : Nat) : (s.ev code qual).plan = s.plan := only_plan (w := allBut .plan) (by simp) (by simp)
theorem noteFree_plan (code : Nat) (axes : BitVec 4) (cond : Bool) : (s.noteFree code axes cond).plan = s.plan :=
  only_plan (w := allBut .plan) (by simp) (by simp)
theorem noteEvFree_plan (code : Nat) : (s.noteEvFree code).plan = s.plan := only_plan (w := allBut .plan) (by simp) (by simp)
theorem finish_plan (h code detail : Nat) (res : List Byte) : (s.finish h code detail res).plan = s.plan :=
  only_plan (w := allBut .plan) (by simp) (by simp)

end

theorem updRun_run {r : Run} {s : State} (hr : s.plan.run = some r) (f : Run → Run) : (s.updRun f).plan.run = some (f r) := by
  simp [State.updRun, State.updPlan, hr]

theorem evFree_params (s : State) (code : Nat) : (s.evFree code).params = s.params := only_params (w := allBut .params) (by simp) (by simp)

theorem raiseFree_motion (s : State) (code : Nat) (axes : BitVec 4) (cond : Bool) : (s.raiseFree code axes cond).motion = s.motion :=
  only_motion (w := allBut .motion) (by simp) (by simp)

/-! ### The start (R448 to R450) -/

theorem lateStart_plan (s : State) (h : Nat) : (s.lateStart h).plan = s.plan := only_plan (w := allBut .plan) (by simp) (by simp)
theorem brakeWait_plan (s : State) (h : Nat) (n : Fin 4) : (s.brakeWait h n).plan = s.plan :=
  only_plan (w := allBut .plan) (by simp) (by simp)

/-- A run that goes is RUNNING with the haul clock at 1; its brakes and its late start leave the planner. -/
theorem runGo_run {r : Run} {s : State} (hr : s.plan.run = some r) (h : Nat) :
    (s.runGo h).plan.run = some { r with stage := .running, lam := s.lamTop } := by
  unfold State.runGo
  dsimp only
  rw [lateStart_plan, foldl_keeps State.plan (fun t n => brakeWait_plan t h n)]
  exact updRun_run (s := (s.setHop h _).setProg h 5) hr _

/-- The run that PLAN_RUN in hopper `h` brings, before its start check. -/
def State.runTaken (s : State) (h : Nat) : Run :=
  { hop := h, slot := s.p8 h 0, stage := .startCheck, seg := 0, segEnd := none, lam := 0, up := none, haul := 0, userHold := false,
    segLate := false, heldAt := s.frame.counter, heldSeg := 0, heldHaul := 0, heldRest := false, status := 0, late := 0, waits := [],
    stopSeq := 0xFFFF }

/-- PLAN_RUN taken: its check is under way where `again` tells that segments must be checked again, else it goes (R449). -/
def State.runBegun (s : State) (h : Nat) (again : Bool) : State :=
  let t := s.updPlan (fun p => { p with run := some (s.runTaken h) })
  if again then (t.setHop h (fun x => { x with start := none })).setProg h 1 else t.runGo h

theorem runBegun_run (s : State) (h : Nat) (again : Bool) : ∃ r, (s.runBegun h again).plan.run = some r ∧ r.hop = h ∧ r.slot = s.p8 h 0 ∧
    r.seg = 0 ∧ (r.stage = .startCheck ∨ (r.stage = .running ∧ r.lam = s.lamTop)) := by
  unfold State.runBegun
  dsimp only
  split
  · exact ⟨s.runTaken h, rfl, rfl, rfl, rfl, .inl rfl⟩
  · exact ⟨{ s.runTaken h with stage := .running, lam := s.lamTop },
      runGo_run (s := s.updPlan (fun p => { p with run := some (s.runTaken h) })) rfl _, rfl, rfl, rfl, .inr ⟨rfl, rfl⟩⟩

theorem planRun_starts : Starts planRunSpec .planRun (fun h b u => ∃ r, u.plan.run = some r ∧ r.hop = h.val ∧ r.slot = b.p8 h 0 ∧ r.seg = 0 ∧
    (r.stage = .startCheck ∨ (r.stage = .running ∧ r.lam = b.lamTop))) :=
  starts_of_start (fun _ _ => rfl) (fun _ _ k => k) fun h b _ => runBegun_run b h _

theorem runStartCheck_passes {r : Run} {c : Chain} {rd : Road} {s : State} (hr : s.plan.run = some r) (hc : s.plan.chain = some c)
    (hs : r.stage = .startCheck) (hrd : s.plan.roads.get (Fin.ofNat 4 r.slot) = some rd)
    (hok : (s.startChecks rd).all (fun i => match (segmentsOf rd.points)[i]? with
      | some e => (s.roadCtx c rd).edgeFree e.1 e.2 | none => true) = true) :
    ∃ u : State, exec .runStartCheckDone s = .next u.settle ∧ ∃ r', u.plan.run = some r' ∧ r'.stage = .running ∧ r'.lam = s.lamTop ∧
      r'.hop = r.hop ∧ r'.late = s.since r.heldAt := by
  have hx : execRunStartCheckDone s =
      .next (((s.updRun (fun x => { x with late := s.since r.heldAt })).evFree 0x0508).runGo r.hop).settle := by
    unfold execRunStartCheckDone
    simp only [hr, hc, hs, hrd, ne_eq, not_true_eq_false, if_false]
    exact congrArg (fun u : State => Host.Outcome.next u.settle) (if_pos hok)
  have hrun : ((s.updRun (fun x => { x with late := s.since r.heldAt })).evFree 0x0508).plan.run = some { r with late := s.since r.heldAt } := by
    rw [evFree_plan, updRun_run hr]
  have hlam : ((s.updRun (fun x => { x with late := s.since r.heldAt })).evFree 0x0508).lamTop = s.lamTop := by
    exact congrArg (10000 * ·) (par_of_params (evFree_params _ _) _)
  exact ⟨_, hx, _, runGo_run hrun r.hop, rfl, hlam, rfl, rfl⟩

/-! ### Segments (R444 to R446) -/

theorem loadSegment_plan (s : State) (c : Chain) (rd : Road) (i : Nat) : (s.loadSegment c rd i).plan =
    { s.plan with run := s.plan.run.map (fun x => { x with seg := i, haul := 0, segEnd := none, segLate := false }) } := by
  have loaded (u : State) (hu : u.plan = s.plan) (f : Run → Run) : (u.updRun f).plan = { s.plan with run := s.plan.run.map f } := by
    rw [State.updRun, State.updPlan, hu]
  refine loaded _ (foldl_keeps State.plan ?_ _ _) _
  exact fun _ _ => rfl

theorem loadSegment_frame (s : State) (c : Chain) (rd : Road) (i : Nat) : (s.loadSegment c rd i).frame = s.frame :=
  only_frame (w := allBut .frame) (by simp) (by simp)

theorem loadSegment_intake (s : State) (c : Chain) (rd : Road) (i : Nat) : (s.loadSegment c rd i).intake = s.intake :=
  only_intake (w := allBut .intake) (by simp) (by simp)

/-- The chain axes hold their current as a motion command asks before it acts (R358). -/
def State.chainWoken (s : State) (c : Chain) : State :=
  (chainAxes c).foldl (fun t n =>
    ((t.updCur n (fun x => { x with woken := true })).updMotion n (fun m => { m with holdF := 0 })).curBoundary n) s

theorem chainWoken_plan (s : State) (c : Chain) : (s.chainWoken c).plan = s.plan :=
  only_plan (w := allBut .plan) (by simp [State.chainWoken]) (by simp)

theorem chainWoken_frame (s : State) (c : Chain) : (s.chainWoken c).frame = s.frame :=
  only_frame (w := allBut .frame) (by simp [State.chainWoken]) (by simp)

theorem chainWoken_intake (s : State) (c : Chain) : (s.chainWoken c).intake = s.intake :=
  only_intake (w := allBut .intake) (by simp [State.chainWoken]) (by simp)

section
variable {r : Run} {c : Chain} {rd : Road} {f : BitVec 32} {s : State} (hr : s.plan.run = some r) (hc : s.plan.chain = some c)
  (hrd : s.plan.roads.get (Fin.ofNat 4 r.slot) = some rd) (hf : r.segEnd = some f) (hs : r.stage = .running) (hrest : r.heldRest = false)
  (hl : 0 < r.lam) (ha : s.ahead f ≤ 0)
include hr hc hrd hf hs hrest hl ha

/-- A segment that is due either starts or is late (R445). -/
theorem haulSegmentStart_acts (ready : Bool) : exec (.haulSegmentStart ready) s = .next (
    if ready && decide (r.seg + 1 ≤ r.gen) then
      ((s.chainWoken c).loadSegment c rd (r.seg + 1)).updRun (fun x => { x with late := x.late + if r.segLate then s.since f else 0 })
    else if r.segLate then s.updRun (fun r => { r with segLate := true })
    else (s.updRun (fun r => { r with segLate := true })).raiseFree 0x0502 0 false) := by
  change execHaulSegmentStart ready s = _
  unfold execHaulSegmentStart
  simp only [hr, hc, hrd, hf]
  exact congrArg Host.Outcome.next (if_pos ⟨by rw [hs]; decide, by rw [hrest]; decide, hl, ha⟩)

theorem haulSegmentStart_next (hg : r.seg + 1 ≤ r.gen) : Answers (.haulSegmentStart true) s (fun t => t.frame = s.frame ∧ t.intake = s.intake ∧
    t.plan.roads = s.plan.roads ∧ t.plan.chain = s.plan.chain ∧ ∃ r', t.plan.run = some r' ∧ r'.seg = r.seg + 1 ∧ r'.haul = 0 ∧
      r'.segEnd = none ∧ r'.late = r.late + (if r.segLate then s.since f else 0)) := by
  refine ⟨_, (haulSegmentStart_acts hr hc hrd hf hs hrest hl ha true).trans (congrArg Host.Outcome.next (if_pos (by simp [hg]))), ?_⟩
  have hp : ((s.chainWoken c).loadSegment c rd (r.seg + 1)).plan =
      { s.plan with run := some { r with seg := r.seg + 1, haul := 0, segEnd := none, segLate := false } } := by
    rw [loadSegment_plan, chainWoken_plan, hr]
    rfl
  refine ⟨(loadSegment_frame _ _ _ _).trans (chainWoken_frame _ _), (loadSegment_intake _ _ _ _).trans (chainWoken_intake _ _),
    (congrArg PlanSt.roads hp :), (congrArg PlanSt.chain hp :), _, updRun_run (congrArg PlanSt.run hp :) _, rfl, rfl, rfl, rfl⟩

theorem haulSegmentStart_late (ready : Bool) (hg : ready = true → r.gen < r.seg + 1) : Answers (.haulSegmentStart ready) s (fun t =>
    t.plan.run = some { r with segLate := true } ∧ t.motion = s.motion ∧ (r.segLate = false → t.faultActive 0x0502 = true)) := by
  have hno : ¬ (ready && decide (r.seg + 1 ≤ r.gen)) = true := by
    cases ready
    · simp
    · simpa using hg rfl
  refine ⟨_, (haulSegmentStart_acts hr hc hrd hf hs hrest hl ha ready).trans (congrArg Host.Outcome.next (if_neg hno)), ?_⟩
  split
  case isTrue h => exact ⟨updRun_run hr _, rfl, fun hn => absurd hn (by rw [h]; decide)⟩
  case isFalse => exact ⟨by rw [raiseFree_plan, updRun_run hr], raiseFree_motion _ _ _ _, fun _ => by rw [raiseFree_faultActive]; rfl⟩

end

/-! ### The haul clock at 0 and holds (R446, R451, Table PLAN-6) -/

theorem endRun_run (s : State) (code detail status : Nat) : (s.endRun code detail status).plan.run = none := by
  unfold State.endRun
  split
  case h_1 h => exact h
  case h_2 r h =>
    dsimp only
    rw [foldl_keeps State.plan fun t (w : Nat × Nat) => by split; exacts [doneWith_plan _ _ _, rfl]]
    split
    · rw [finish_plan]
      rfl
    · rfl

/-- Every axis still in HAUL becomes IDLE. -/
def State.haulIdled (s : State) : State := forAxes s (fun n t => if (t.motion.get n).state == .haul then t.updMotion n MotionSt.toIdle else t)

theorem haulIdled_plan (s : State) : s.haulIdled.plan = s.plan := only_plan (w := allBut .plan) (by simp [State.haulIdled]) (by simp)

theorem idledAxis_state (t : State) (n m : Fin 4) (h : n = m ∨ (t.motion.get m).state ≠ .haul) :
    ((if (t.motion.get n).state == .haul then t.updMotion n MotionSt.toIdle else t).motion.get m).state ≠ .haul := by
  split
  case isTrue hn =>
    rw [updMotion_motion, Quad.get_upd]
    split
    · exact nofun
    · next hmn => exact h.resolve_left (Ne.symm hmn)
  case isFalse hn =>
    rcases h with rfl | h
    · exact fun e => hn (by rw [e]; rfl)
    · exact h

theorem haulIdled_state (s : State) (n : Fin 4) : (s.haulIdled.motion.get n).state ≠ .haul := by
  unfold State.haulIdled forAxes
  fin_cases n
  · exact idledAxis_state _ _ _ (.inr (idledAxis_state _ _ _ (.inr (idledAxis_state _ _ _ (.inr (idledAxis_state _ _ _ (.inl rfl)))))))
  · exact idledAxis_state _ _ _ (.inr (idledAxis_state _ _ _ (.inr (idledAxis_state _ _ _ (.inl rfl)))))
  · exact idledAxis_state _ _ _ (.inr (idledAxis_state _ _ _ (.inl rfl)))
  · exact idledAxis_state _ _ _ (.inl rfl)

theorem haulClockRampEnd_stops {r : Run} {s : State} (hr : s.plan.run = some r) (hu : r.up = none) (hl : r.lam = 0) (hs : r.stage = .stopping) :
    ∃ u : State, exec .haulClockRampEnd s = .next u.settle ∧ u.plan.run = none ∧ ∀ n, (u.motion.get n).state ≠ .haul := by
  have hx : execHaulClockRampEnd s = .next (s.endRun 2 r.stopSeq r.status).haulIdled.settle := by
    unfold execHaulClockRampEnd
    simp only [hr, hu, hl, hs, Option.isSome_none, Bool.false_eq_true, if_false, if_true]
    rfl
  exact ⟨_, hx, (congrArg PlanSt.run (haulIdled_plan _)).trans (endRun_run _ _ _ _), haulIdled_state _⟩

/-- A run past its start check that is not stopping yet stops. -/
theorem runStops_plan {r : Run} {s : State} (hr : s.plan.run = some r) (h1 : r.stage ≠ .startCheck) (h2 : r.stage ≠ .stopping) (status seq : Nat) :
    s.runStops status seq = { s with plan := { s.plan with run := some { r with stage := .stopping, status := status, stopSeq := seq } } } := by
  unfold State.runStops
  simp only [hr, if_neg h1, State.updRun, State.updPlan, Option.map_some, if_neg h2]

/-- What the recheck of a map hold brings: `part` and `rest` tell that the part of the path stop, and the rest, are free (R452). -/
def State.rechecked (s : State) (part rest user : Bool) : State :=
  if !part then (s.noteFree 0x0503 (BitVec.ofNat 4 s.chainMask) false).runStops 5 0xFFFF
  else if !rest then (s.evFree 0x0504).runStops 2 0xFFFF
  else if user then s.updRun (fun r => { r with stage := .heldUser, heldRest := false })
  else (s.updRun (fun r => { r with stage := .running, heldRest := false })).noteEvFree 0x0503

theorem runRecheckDone_eq {r : Run} {c : Chain} {rd : Road} {s : State} (hr : s.plan.run = some r) (hc : s.plan.chain = some c)
    (hs : r.stage = .heldMap) (hrd : s.plan.roads.get (Fin.ofNat 4 r.slot) = some rd) :
    ∃ part rest, execRunRecheckDone s = .next (s.rechecked part rest r.userHold) := by
  unfold execRunRecheckDone
  simp only [hr, hc, hs, hrd, ne_eq, not_true_eq_false, if_false]
  exact ⟨_, _, rfl⟩

theorem rechecked_run {r : Run} {s : State} (hr : s.plan.run = some r) (hs : r.stage = .heldMap) (part rest user : Bool) :
    ∃ r', (s.rechecked part rest user).plan.run = some r' ∧ r'.stage ≠ .heldMap ∧ r'.hop = r.hop ∧ r'.seg = r.seg := by
  have stops (u : State) (hu : u.plan = s.plan) (status seq : Nat) :
      ∃ r', (u.runStops status seq).plan.run = some r' ∧ r'.stage ≠ .heldMap ∧ r'.hop = r.hop ∧ r'.seg = r.seg := by
    rw [runStops_plan ((congrArg PlanSt.run hu).trans hr) (by rw [hs]; decide) (by rw [hs]; decide)]
    exact ⟨_, rfl, nofun, rfl, rfl⟩
  unfold State.rechecked
  split
  · exact stops _ (noteFree_plan _ _ _ _) _ _
  split
  · exact stops _ (evFree_plan _ _) _ _
  split
  · exact ⟨_, updRun_run hr _, nofun, rfl, rfl⟩
  · exact ⟨_, (congrArg PlanSt.run (noteEvFree_plan _ _)).trans (updRun_run hr _), nofun, rfl, rfl⟩

theorem runRecheck_goesOn {r : Run} {c : Chain} {rd : Road} {s : State} (hr : s.plan.run = some r) (hc : s.plan.chain = some c)
    (hs : r.stage = .heldMap) (hrd : s.plan.roads.get (Fin.ofNat 4 r.slot) = some rd) :
    Answers .runRecheckDone s (fun t => ∃ r', t.plan.run = some r' ∧ r'.stage ≠ .heldMap ∧ r'.hop = r.hop ∧ r'.seg = r.seg) := by
  obtain ⟨part, rest, hx⟩ := runRecheckDone_eq hr hc hs hrd
  exact ⟨_, hx, rechecked_run hr hs part rest _⟩

theorem runHoldTimeout_stops {r : Run} {s : State} (hr : s.plan.run = some r) (hs : r.stage = .heldMap) (ht : s.par 0x500E ≤ s.since r.heldAt) :
    Answers .runHoldTimeout s (fun t => t.plan.run = some { r with stage := .stopping, status := 2, stopSeq := 0xFFFF }) := by
  have hx : execRunHoldTimeout s = .next ((s.evFree 0x0504).runStops 2 0xFFFF) := by
    unfold execRunHoldTimeout
    simp only [hr]
    exact congrArg Host.Outcome.next (if_pos ⟨hs, ht⟩)
  refine ⟨_, hx, ?_⟩
  rw [runStops_plan ((congrArg PlanSt.run (evFree_plan s _)).trans hr) (by rw [hs]; decide) (by rw [hs]; decide)]

/-! ### PLAN_STOP (R446, R447) -/

theorem planStop_starts : Starts planStopSpec .planStop (fun h b u =>
    (b.plan.run = none → u.hb h 12 = 1 ∧ u.plan = b.plan) ∧
    ∀ r, b.plan.run = some r → r.stage = .running →
      u = { b with plan := { b.plan with run := some { r with stage := .stopping, status := 1, stopSeq := b.seqNo h, waits := r.waits ++ [(h.val, 0)] } } }) := by
  refine starts_of_start (fun _ _ => rfl) (fun _ _ k => k) fun h b hw => ⟨fun hn => ?_, fun r hr hs => ?_⟩
  · simp only [planStopSpec, hn]
    exact ⟨doneWith_code hw _ _, doneWith_plan _ _ _⟩
  · simp only [planStopSpec, hr, hs]
    rw [runStops_plan hr (by rw [hs]; decide) (by rw [hs]; decide)]
    rfl

theorem planHold_starts : Starts planHoldSpec .planHold (fun h b u =>
    (b.plan.run = none → u.hb h 12 = 1 ∧ u.plan = b.plan) ∧
    ∀ r, b.plan.run = some r → r.stage = .running →
      u.plan.run = some { r with stage := .heldUser, userHold := true, waits := r.waits ++ [(h.val, 1)] }) := by
  refine starts_of_start (fun _ _ => rfl) (fun _ _ k => k) fun h b hw => ⟨fun hn => ?_, fun r hr hs => ?_⟩
  · simp only [planHoldSpec, hn]
    exact ⟨doneWith_code hw _ _, doneWith_plan _ _ _⟩
  · simp only [planHoldSpec, hr, hs]
    exact updRun_run (updRun_run (s := b) hr _) _

theorem planResume_starts : Starts planResumeSpec .planResume (fun h b u =>
    (b.plan.run = none → u.hb h 12 = 1 ∧ u.plan = b.plan) ∧
    ∀ r, b.plan.run = some r → r.userHold = true → r.stage = .heldUser →
      (¬ (r.lam = b.lamTop ∧ r.up = none) →
        u.plan.run = some { r with stage := .running, userHold := false, waits := r.waits ++ [(h.val, 2)] }) ∧
      (r.lam = b.lamTop → r.up = none → u.plan.run = some { r with stage := .running, userHold := false } ∧ u.hb h 12 = 1)) := by
  refine starts_of_start (fun _ _ => rfl) (fun _ _ k => k) fun h b hw => ⟨fun hn => ?_, fun r hr huh hs => ⟨fun hl => ?_, fun hl hup => ?_⟩⟩
  · simp only [planResumeSpec, hn]
    exact ⟨doneWith_code hw _ _, doneWith_plan _ _ _⟩
  · simp only [planResumeSpec, hr, hs, huh, Bool.not_true, Bool.false_eq_true, if_false, if_neg hl]
    exact updRun_run ((congrArg PlanSt.run (noteEvFree_plan _ _)).trans (updRun_run hr _)) _
  · simp only [planResumeSpec, hr, hs, huh, Bool.not_true, Bool.false_eq_true, if_false]
    rw [if_pos ⟨hl, hup⟩]
    exact ⟨by rw [doneWith_plan, noteEvFree_plan, updRun_run hr], doneWith_code (s := (b.updRun _).noteEvFree _) hw _ _⟩

/-- Settles O24: each event and command of a run told by what it makes of the run. -/
theorem runComplete : Obligations.RunComplete := by
  unfold Obligations.RunComplete
  exact ⟨planRun_starts, fun _ _ _ _ hr hc hs hrd hok => runStartCheck_passes hr hc hs hrd hok,
    fun _ _ _ _ _ hr hc hrd hf hs hrest hl ha => ⟨fun hg => haulSegmentStart_next hr hc hrd hf hs hrest hl ha hg,
      fun ready hg => haulSegmentStart_late hr hc hrd hf hs hrest hl ha ready hg⟩,
    fun _ _ hr hu hl hs => haulClockRampEnd_stops hr hu hl hs, fun _ _ _ _ hr hc hs hrd => runRecheck_goesOn hr hc hs hrd,
    fun _ _ hr hs ht => runHoldTimeout_stops hr hs ht, planStop_starts, planHold_starts, planResume_starts⟩

end Sys2Proof.Machine
end

section
/-! The pit map: what its edits, its loading and the chain table change in the planner, and that the answers stand. -/

namespace Sys2Proof.Machine

/-! ### The planner beside its run, and the map beside the planner's work -/

/-- The planner without its run. -/
def PlanSt.offRun (p : PlanSt) : PlanSt := { p with run := none }

/-- The planner without its queries, its run, its roadmap and the log of edits: the map, the chain table, the roads and what waits for them. -/
def PlanSt.offWork (p : PlanSt) : PlanSt :=
  { p with active := none, queue := [], lastEnd := none, run := none, nodes := [], edges := [], rmVer := 0, rmSeen := false, rmLimits := [],
           log := [], lostUpTo := 0 }

theorem offWork_of_offRun {p q : PlanSt} (h : p.offRun = q.offRun) : p.offWork = q.offWork := (congrArg PlanSt.offWork h :)

theorem offWork_of_offRoadmap {p q : PlanSt} (h : p.offRoadmap = q.offRoadmap) : p.offWork = q.offWork := (congrArg PlanSt.offWork h :)

/-- A refused PLAN_RUN gives its run up; a refusal leaves the planner otherwise. -/
theorem refuse_offRun (s : State) (h code detail : Nat) (res : List Byte) : (s.refuse h code detail res).plan.offRun = s.plan.offRun := by
  have hr (t : State) : (t.runRefused h).plan.offRun = t.plan.offRun := by
    unfold State.runRefused
    split
    · split
      · rw [foldl_keeps State.plan fun t (w : Nat × Nat) => by split; exacts [finish_plan _ _ _ _ _, rfl]]
        rfl
      · rfl
    · rfl
  rw [refuse_eq, hr, finish_plan]
  exact congrArg PlanSt.offRun (only_plan (w := allBut .plan) (by simp [State.refused, State.refusing]) (by simp))

theorem evIf_plan (s : State) (c : Bool) (code qual : Nat) : (s.evIf c code qual).plan = s.plan :=
  only_plan (w := allBut .plan) (by simp) (by simp)

theorem runStops_offRun (s : State) (status seq : Nat) : (s.runStops status seq).plan.offRun = s.plan.offRun := by
  unfold State.runStops
  split
  · rfl
  split
  · split
    · exact refuse_offRun _ _ _ _ _
    · rfl
  · rfl

/-- What an edit that meets the road ahead brings to the run: a stop or a hold (R452). -/
def State.runHit (s : State) : State :=
  let s := s.ev 0x0502 0
  let s := s.updRun (fun r => { r with heldRest := r.segEnd.isSome })
  if s.par 0x500D = 1 then (s.runStops 2 0xFFFF).runRamp
  else (s.updRun (fun r =>
    { r with stage := .heldMap, heldAt := s.frame.counter, heldSeg := r.seg, heldHaul := r.haul,
             userHold := r.userHold || r.stage == .heldUser })).runRamp

theorem runEdit_eq (s : State) (b : Box) : s.runEdit b = s ∨ s.runEdit b = s.runHit := by
  unfold State.runEdit State.runHit
  split
  · exact .inl rfl
  split
  · exact .inl rfl
  · dsimp only
    exact (ite_eq_or_eq _ _ _).symm

theorem updRun_offRun (s : State) (f : Run → Run) : (s.updRun f).plan.offRun = s.plan.offRun := rfl

theorem runHit_offRun (s : State) : s.runHit.plan.offRun = s.plan.offRun := by
  have event : (s.ev 0x0502 0).plan.offRun = s.plan.offRun := congrArg PlanSt.offRun (ev_plan s _ _)
  unfold State.runHit State.runRamp
  dsimp only
  split
  · rw [updRun_offRun, runStops_offRun, updRun_offRun, event]
  · rw [updRun_offRun, updRun_offRun, updRun_offRun, event]

theorem runEdit_offRun (s : State) (b : Box) : (s.runEdit b).plan.offRun = s.plan.offRun := by
  obtain e | e := runEdit_eq s b
  · rw [e]
  · rw [e, runHit_offRun]

theorem dropActive_offWork (s : State) (status : Nat) : (s.dropActive status).plan.offWork = s.plan.offWork := by
  unfold State.dropActive
  split
  · rfl
  · dsimp only
    rw [queryEnds_plan]
    rfl

/-! ### Edits (R422 to R426) -/

theorem mapEdit_starts (op : Nat) {i : Fin 32 → Sys2Proof.Instr} (hi : ∀ h s, exec (i h) s = .next (takeRow (mapEditSpec op) h s)) :
    Starts (mapEditSpec op) i (fun h b u => u = { b with plan := { b.plan with edits := b.plan.edits ++ [{
      hop := h.val, op := op, box := b.plan.pendingDyn.voxels (decide (op = 0)) (b.editBox h),
      cells := b.plan.pendingDyn.cellsOf op (b.plan.pendingDyn.voxels (decide (op = 0)) (b.editBox h)),
      left := b.plan.pendingDyn.cellsOf op (b.plan.pendingDyn.voxels (decide (op = 0)) (b.editBox h)), ready := b.frame.counter }] } }) :=
  starts_of_start hi (fun _ _ k => k) fun _ _ _ => rfl

/-- The oldest edit `e` has taken effect, the edits `r` after it wait on (R424). -/
def State.editTaken (s : State) (e : Edit) (r : List Edit) : State :=
  s.updPlan (fun p => { p with edits := updAt r 0 (fun x => x.follows e s.frame.counter), dyn := s.plan.edited e.op e.box, version := p.version + 1 })

/-- What an occupying edit does besides: the log, the roadmap's edges, the active query and the run (R426, R440, R442). -/
def State.editOccupies (s : State) (box : Box) (hit : List RmEdge) : State :=
  let s := s.updPlan (fun p => p.logEdit box)
  let s := if hit.isEmpty then s else (s.updPlan (fun p => p.rmUncheck box)).ev 0x0506 (min 0xFFFF hit.length)
  (s.dropActive 4).runEdit box

theorem logEdit_offWork (p : PlanSt) (b : Box) : (p.logEdit b).offWork = p.offWork := by
  unfold PlanSt.logEdit
  dsimp only
  split <;> rfl

theorem editOccupies_offWork (s : State) (box : Box) (hit : List RmEdge) : (s.editOccupies box hit).plan.offWork = s.plan.offWork := by
  unfold State.editOccupies
  dsimp only
  rw [offWork_of_offRun (runEdit_offRun _ _), dropActive_offWork]
  split
  · exact logEdit_offWork _ _
  · rw [ev_plan]
    exact logEdit_offWork _ _

/-- The answer of an edit that a command still waits for. -/
def State.editAnswered (s : State) (e : Edit) : State := if s.stage e.hop == .started then s.doneWith e.hop (s.editResult e.cells) else s

theorem editAnswered_plan (s : State) (e : Edit) : (s.editAnswered e).plan = s.plan := by
  unfold State.editAnswered
  split
  · exact doneWith_plan _ _ _
  · rfl

theorem mapEditEffect_eq {e : Edit} {r : List Edit} {s : State} (he : s.plan.edits = e :: r)
    (ha : s.ahead (e.ready + BitVec.ofNat 32 (1 + (e.left + 255) / 256)) ≤ 0) :
    ∃ (occ : Bool) (box : Box) (hit : List RmEdge),
      execMapEditEffect s = .next ((if !occ then s.editTaken e r else (s.editTaken e r).editOccupies box hit).editAnswered e).settle := by
  unfold execMapEditEffect
  simp only [he, gt_iff_lt, if_neg (not_lt.mpr ha)]
  exact ⟨_, _, _, rfl⟩

theorem mapEditEffect_acts {e : Edit} {r : List Edit} {s : State} (he : s.plan.edits = e :: r)
    (ha : s.ahead (e.ready + BitVec.ofNat 32 (1 + (e.left + 255) / 256)) ≤ 0) :
    ∃ u : State, exec .mapEditEffect s = .next u.settle ∧ u.plan.edits = updAt r 0 (fun x => x.follows e s.frame.counter) ∧
      u.plan.version = s.plan.version + 1 ∧ u.plan.dyn = s.plan.edited e.op e.box ∧ u.plan.stat = s.plan.stat ∧
      u.plan.valid = s.plan.valid := by
  obtain ⟨occ, box, hit, hx⟩ := mapEditEffect_eq he ha
  refine ⟨_, hx, ?_⟩
  rw [editAnswered_plan]
  have hw : (if !occ then s.editTaken e r else (s.editTaken e r).editOccupies box hit).plan.offWork = (s.editTaken e r).plan.offWork := by
    split
    · rfl
    · exact editOccupies_offWork _ _ _
  exact ⟨(congrArg PlanSt.edits hw :), (congrArg PlanSt.version hw :), (congrArg PlanSt.dyn hw :), (congrArg PlanSt.stat hw :),
    (congrArg PlanSt.valid hw :)⟩

/-! ### Loading (R420, R421, R423) -/

theorem evIf_wf {s : State} (hw : s.slotsWf) (c : Bool) (code qual : Nat) : (s.evIf c code qual).slotsWf :=
  slotsWf_of_slots (congrArg (·.slots) (evIf_intake _ _ _ _)) hw

theorem runStops_wf {s : State} (hw : s.slotsWf) (status seq : Nat) : (s.runStops status seq).slotsWf := by
  unfold State.runStops
  split
  · exact hw
  split
  · split
    · exact refuse_wf hw _ _ _ _
    · exact hw
  · exact hw

theorem putValid_wf {s : State} (hw : s.slotsWf) (v : Bool) : (s.putValid v).slotsWf := by
  unfold State.putValid
  dsimp only
  split
  · exact runStops_wf (evIf_wf (s := s.updPlan _) hw _ _ _) _ _
  · exact evIf_wf (s := s.updPlan _) hw _ _ _

theorem putValid_offRun (s : State) (v : Bool) : (s.putValid v).plan.offRun = { s.plan with valid := v }.offRun := by
  unfold State.putValid
  dsimp only
  split
  · rw [runStops_offRun, evIf_plan]
    rfl
  · rw [evIf_plan]
    rfl

theorem mapClear_wf {s : State} (hw : s.slotsWf) : s.mapClear.slotsWf := putValid_wf hw false

/-- The cleared map: nothing loaded, both layers empty, not valid; the version and the queries stand (R423). -/
theorem mapClear_plan (s : State) : s.mapClear.plan.loaded = false ∧ s.mapClear.plan.valid = false ∧ s.mapClear.plan.stat = .empty ∧
    s.mapClear.plan.dyn = .empty ∧ s.mapClear.plan.version = s.plan.version ∧ s.mapClear.plan.queue = s.plan.queue ∧
    s.mapClear.plan.active = s.plan.active := by
  have h : (s.putValid false).plan.rmClear.offRoadmap.offRun = { s.plan with valid := false }.offRoadmap.offRun :=
    (congrArg PlanSt.offRun (rmClear_offRoadmap _)).trans (congrArg PlanSt.offRoadmap (putValid_offRun s false) :)
  exact ⟨rfl, (congrArg PlanSt.valid h :), rfl, rfl, (congrArg PlanSt.version h :), (congrArg PlanSt.queue h :), (congrArg PlanSt.active h :)⟩

theorem queryEnds_wf {s : State} (hw : s.slotsWf) (q : Query) (status n : Nat) : (s.queryEnds q status n).slotsWf := by
  unfold State.queryEnds
  split
  · exact finish_wf hw _ _ _ _
  · exact hw

theorem dropActive_wf {s : State} (hw : s.slotsWf) (status : Nat) : (s.dropActive status).slotsWf := by
  unfold State.dropActive
  split
  · exact hw
  · exact queryEnds_wf (s := s.fresh.2.updPlan _) hw _ _ _

theorem abortQueries_wf {s : State} (hw : s.slotsWf) : s.abortQueries.slotsWf :=
  foldl_wf _ (fun _ _ ht => queryEnds_wf ht _ _ _) _ _ (dropActive_wf hw 6)

theorem dropActive_active (s : State) (status : Nat) : (s.dropActive status).plan.active = none := by
  unfold State.dropActive
  split
  · assumption
  · dsimp only
    rw [queryEnds_plan]
    rfl

/-- All queries end; the map stands (R440). -/
theorem abortQueries_plan (s : State) : s.abortQueries.plan.queue = [] ∧ s.abortQueries.plan.active = none ∧
    s.abortQueries.plan.version = s.plan.version := by
  have h : s.abortQueries.plan = { (s.dropActive 6).plan with queue := [] } :=
    foldl_keeps State.plan (fun t (q : Query) => queryEnds_plan t _ _ _) _ _
  rw [h]
  exact ⟨rfl, dropActive_active s 6, (congrArg PlanSt.version (dropActive_offWork s 6) :)⟩

theorem mapLoadBegin_starts : Starts mapLoadBeginSpec .mapLoadBegin (fun h b u => u.hb h 12 = 1 ∧ u.plan.loaded = false ∧ u.plan.valid = false ∧
    u.plan.stat = .empty ∧ u.plan.dyn = .empty ∧ u.plan.version = b.plan.version ∧ u.plan.stage = [] ∧ u.plan.stageLen = b.p32 h 4 ∧
    u.plan.queue = [] ∧ u.plan.active = none) := by
  refine starts_of_start (fun _ _ => rfl) (fun _ _ k => k) fun h b hw => ?_
  obtain ⟨hl, hv, hs, hd, hver, hq, ha⟩ := mapClear_plan b.abortQueries
  obtain ⟨eq, ea, ever⟩ := abortQueries_plan b
  refine ⟨doneWith_code (s := b.abortQueries.mapClear.updPlan _) (mapClear_wf (abortQueries_wf hw)) _ _, ?_⟩
  simp only [mapLoadBeginSpec, doneWith_plan]
  exact ⟨hl, hv, hs, hd, hver.trans ever, rfl, rfl, hq.trans eq, ha.trans ea⟩

theorem mapLoadCopy_starts : Starts mapLoadCopySpec .mapLoadCopy (fun h b u => u.hb h 12 = 1 ∧
    u.plan = { b.plan with stage := cellWrite b.plan.stage (b.p32 h 4) (b.bulkBytes 0 b.host.bulkLen) }) :=
  starts_of_start (fun _ _ => rfl) (fun _ _ k => k) fun _ b hw => ⟨doneWith_code (s := b.updPlan _) hw _ _, doneWith_plan _ _ _⟩

/-- A refusal completes its own hopper with its code, whatever the run does. -/
theorem refuse_code {s : State} (hw : s.slotsWf) (h : Nat) {code : Nat} (hc : code < 256) (detail : Nat) (res : List Byte) :
    (s.refuse h code detail res).hb h 12 = code := by
  have e := Ended.of_finish (h := h) (refused_wf hw h code detail) hc detail res
  rw [refuse_eq, (runRefused_record e.wf e.idle).bytes 12 (by decide) (by decide), e.code]

theorem findingReply_code {s : State} {l : List Finding} {x : Nat × Nat × List Byte} (h : s.findingReply l = some x) : x.1 = 5 := by
  unfold State.findingReply at h
  split at h
  · cases h
  · obtain rfl := Option.some.inj h
    rfl

theorem mapLoadCommit_starts : Starts mapLoadCommitSpec .mapLoadCommit (fun h b u =>
    (b.findingReply (readImage (cellRead b.plan.stage 0 (min mapRegion b.plan.stageLen)) b.plan.stageLen).1 = none →
      u.hb h 12 = 1 ∧ u.plan.loaded = true ∧ u.plan.version = 1 ∧ u.plan.dyn = .empty ∧ u.plan.valid = false ∧
      u.plan.stat = (readImage (cellRead b.plan.stage 0 (min mapRegion b.plan.stageLen)) b.plan.stageLen).2) ∧
    (b.findingReply (readImage (cellRead b.plan.stage 0 (min mapRegion b.plan.stageLen)) b.plan.stageLen).1 ≠ none →
      u.hb h 12 = 5 ∧ u.plan.loaded = false ∧ u.plan.valid = false)) := by
  refine starts_of_start (fun _ _ => rfl) (fun _ _ k => k) fun h b hw => ?_
  obtain ⟨hl, hv, -, hd, -, -, -⟩ := mapClear_plan b
  cases hf : b.findingReply (readImage (cellRead b.plan.stage 0 (min mapRegion b.plan.stageLen)) b.plan.stageLen).1 with
  | none =>
    refine ⟨fun _ => ?_, fun hn => absurd rfl hn⟩
    simp only [mapLoadCommitSpec, hf, doneWith_plan]
    exact ⟨doneWith_code (s := b.mapClear.updPlan _) (mapClear_wf hw) _ _, rfl, rfl, hd, hv, rfl⟩
  | some x =>
    refine ⟨nofun, fun _ => ?_⟩
    simp only [mapLoadCommitSpec, hf]
    have hoff := refuse_offRun b.mapClear h x.1 x.2.1 x.2.2
    have hx := findingReply_code hf
    refine ⟨?_, (congrArg PlanSt.loaded hoff).trans hl, (congrArg PlanSt.valid hoff :).trans hv⟩
    rw [hx]
    exact refuse_code (mapClear_wf hw) h (by decide) _ _

/-! ### The chain table and roads (R427, R428, R442) -/

theorem rmClear_empty (p : PlanSt) : p.rmClear.nodes = [] ∧ p.rmClear.edges = [] := by
  unfold PlanSt.rmClear
  split
  case isTrue h => simpa using h
  case isFalse => exact ⟨rfl, rfl⟩

theorem setChain_plan (s : State) (h : Nat) (c : Option Chain) : (s.setChain h c).plan = { s.plan.rmClear with chain := c } := by
  have hw (t : State) (w : List (Nat × Nat)) : (t.writeWorking w).plan = t.plan := only_plan (w := allBut .plan) (by simp) (by simp)
  exact hw _ _

theorem setChain_waits (s : State) (h : Nat) (c : Option Chain) : (s.setChain h c).intake.onVerdict.getLast?.map (fun x => x.hop) = some h :=
  awaitVerdict_last _ _ _ _ _ _ _

theorem planChainLoad_starts : Starts planChainLoadSpec .planChainLoad (fun h b u => u.plan.chain = some (chainOf (b.bulkBytes 0 chainSize)) ∧
    u.plan.nodes = [] ∧ u.plan.edges = [] ∧ u.plan.storeChain = b.plan.storeChain ∧
    u.intake.onVerdict.getLast?.map (fun x => x.hop) = some h.val) := by
  refine starts_of_start (fun _ _ => rfl) (fun _ _ k => k) fun h b _ => ?_
  have hp := setChain_plan b h (some (chainOf (b.bulkBytes 0 chainSize)))
  obtain ⟨hn, he⟩ := rmClear_empty b.plan
  have hstore : b.plan.rmClear.storeChain = b.plan.storeChain := (congrArg PlanSt.storeChain (rmClear_offRoadmap b.plan) :)
  simp only [planChainLoadSpec, hp]
  exact ⟨trivial, hn, he, hstore, setChain_waits _ _ _⟩

theorem planChainReload_starts : Starts planChainReloadSpec .planChainReload (fun h b u => u.plan.chain = b.plan.storeChain ∧ u.plan.nodes = [] ∧
    u.intake.onVerdict.getLast?.map (fun x => x.hop) = some h.val) := by
  refine starts_of_start (fun _ _ => rfl) (fun _ _ k => k) fun h b _ => ?_
  simp only [planChainReloadSpec, setChain_plan b h b.plan.storeChain]
  exact ⟨trivial, (rmClear_empty b.plan).1, setChain_waits _ _ _⟩

theorem doneBulk_plan (s : State) (h : Nat) (res : List Byte) : (s.doneBulk h res).plan = s.plan :=
  only_plan (w := allBut .plan) (by simp) (by simp)

theorem planRoad_starts : Starts planRoadSpec .planRoad (fun h b u => u.hb h 12 = 1 ∧ u.plan = b.plan) := by
  refine starts_of_start (fun _ _ => rfl) (fun _ _ k => k) fun h b hw => ?_
  dsimp only [planRoadSpec]
  split <;> exact ⟨doneBulk_code hw _ _, doneBulk_plan _ _ _⟩

/-- Settles O25: edits by the mark they set, loads by the stage they fill, and the chain table by its stored copies. -/
theorem mapComplete : Obligations.MapComplete := by
  unfold Obligations.MapComplete
  refine ⟨?_, starts_of_start (fun _ _ => rfl) (fun _ _ k => k) fun _ _ _ => rfl, starts_of_start (fun _ _ => rfl) (fun _ _ k => k) fun _ _ _ => rfl,
    fun _ _ _ he ha => mapEditEffect_acts he ha, mapLoadBegin_starts, mapLoadCopy_starts, mapLoadCommit_starts, planChainLoad_starts,
    starts_of_start (fun _ _ => rfl) (fun _ _ k => k) fun _ _ hw => ⟨doneWith_code hw _ _, doneWith_plan _ _ _⟩,
    starts_of_start (fun _ _ => rfl) (fun _ _ k => k) fun _ b hw => ⟨doneWith_code (s := b.updPlan _) hw _ _, doneWith_plan _ _ _⟩,
    starts_of_start (fun _ _ => rfl) (fun _ _ k => k) fun _ _ hw => ⟨doneBulk_code hw _ _, doneBulk_plan _ _ _⟩,
    planChainReload_starts, planRoad_starts⟩
  simp only [List.forall_mem_cons]
  exact ⟨mapEdit_starts 0 fun _ _ => rfl, mapEdit_starts 1 fun _ _ => rfl, mapEdit_starts 2 fun _ _ => rfl, nofun⟩

end Sys2Proof.Machine
end

section
/-! CAN ports: bus-off and its recovery (R456, R516). -/

namespace Sys2Proof.Machine

@[simp] theorem updPort_get (s : State) (p : Fin 2) (f : PortSt → PortSt) : (s.updPort p f).ports.get p = f (s.ports.get p) :=
  Duo.get_upd_self _ _ _

theorem updPort_get_of_ne {p q : Fin 2} (h : q ≠ p) (s : State) (f : PortSt → PortSt) : (s.updPort p f).ports.get q = s.ports.get q :=
  (Duo.get_upd _ _ _ _).trans (if_neg h)

/-- The fabric port that a number of CAN_BUS_OFF names. -/
def netPort (p : Fin 3) : Fin 2 := if p = 1 then 1 else 0

theorem netPort_succ (p : Fin 3) : (netPort p).val + 1 = if p = 1 then 2 else 1 := by
  unfold netPort
  split <;> rfl

/-- A port in bus-off: a held index is given up for LISTEN, an own CLAIM is due again (R456, R467). -/
def PortSt.wentOff (x : PortSt) (l : List (BitVec 32)) : PortSt :=
  let x := { x with busOff := true, stopped := decide (3 ≤ l.length), offTimes := l, busOffs := inc16 x.busOffs }
  if x.claim = .held then { x.toListen 4 false with inUse := x.inUse &&& ~~~ BitVec.ofNat 64 (2 ^ x.index) }
  else if x.claim = .claiming then { x with claimN := 0, claimDue := true } else x

theorem wentOff_bus (x : PortSt) (l : List (BitVec 32)) :
    (x.wentOff l).busOff = true ∧ (x.wentOff l).stopped = decide (3 ≤ l.length) ∧ (x.wentOff l).busOffs = inc16 x.busOffs := by
  unfold PortSt.wentOff
  dsimp only
  split
  · exact ⟨rfl, rfl, rfl⟩
  · split <;> exact ⟨rfl, rfl, rfl⟩

theorem wentOff_held {x : PortSt} (h : x.claim = .held) (l : List (BitVec 32)) : (x.wentOff l).claim = .listen ∧ (x.wentOff l).listenN = 4 := by
  unfold PortSt.wentOff
  dsimp only
  rw [if_pos h]
  exact ⟨rfl, rfl⟩

/-! ### CLAIMs taken back (R465) -/

/-- The entry is a CLAIM. -/
def QFrame.isClaim (e : QFrame) : Bool := (headOf e.frame).kind == 1

/-- A CLAIM of the port's own index waits in its control queue. -/
def State.claimWaits (s : State) (p : Fin 2) : Bool :=
  (((s.ports.get p).queues.get 0).filter QFrame.isClaim).any (fun e => !s.isPairClaim p e)

/-- The port with its waiting CLAIMs taken back; one of its own is due again. -/
def PortSt.recalled (q : PortSt) (own : Bool) : PortSt :=
  { q with queues := q.queues.set 0 ((q.queues.get 0).filter (fun e => (headOf e.frame).kind != 1)), claimDue := q.claimDue || own }

theorem recallClaims_get (s : State) (p : Fin 2) : (s.recallClaims p).ports.get p = (s.ports.get p).recalled (s.claimWaits p) :=
  updPort_get s p _

theorem recallClaims_other {p q : Fin 2} (h : q ≠ p) (s : State) : (s.recallClaims p).ports.get q = s.ports.get q :=
  updPort_get_of_ne h s _

/-! ### CAN_BUS_OFF -/

section
variable {q : Fin 2} {tec : Nat} {s : State}

/-- The port in bus-off before its faults. -/
def State.portOff (s : State) (q : Fin 2) : State := (s.recallClaims q).updPort q (fun x => x.wentOff (s.offsOf (s.ports.get q).offTimes))

theorem portOff_get (s : State) (q : Fin 2) : (s.portOff q).ports.get q =
    ((s.recallClaims q).ports.get q).wentOff (s.offsOf (s.ports.get q).offTimes) := updPort_get _ _ _

theorem busOff_notes {p : Fin 3} (hp : p ≠ 2) (ht : 255 < tec) (hl : s.portLive (netPort p) = true) : exec (.canBusOff p tec) s = .next (
    let t := (s.portOff (netPort p)).note 0x0601 ((netPort p).val + 1) 0 true
    if decide (3 ≤ (s.offsOf (s.ports.get (netPort p)).offTimes).length) then t.note 0x0602 ((netPort p).val + 1) 0 true else t) := by
  have hlive : ¬ (!s.portLive (netPort p)) = true := by rw [hl]; decide
  exact congrArg Host.Outcome.next ((if_neg (not_le.mpr ht)).trans ((if_neg hp).trans (if_neg hlive)))

theorem portOff_port (s : State) (q : Fin 2) : ((s.portOff q).ports.get q).busOff = true ∧
    ((s.portOff q).ports.get q).stopped = decide (3 ≤ (s.offsOf (s.ports.get q).offTimes).length) ∧
    ((s.portOff q).ports.get q).busOffs = inc16 (s.ports.get q).busOffs ∧
    ((s.ports.get q).claim = .held → ((s.portOff q).ports.get q).claim = .listen ∧ ((s.portOff q).ports.get q).listenN = 4) := by
  rw [portOff_get, recallClaims_get]
  obtain ⟨h1, h2, h3⟩ := wentOff_bus ((s.ports.get q).recalled (s.claimWaits q)) (s.offsOf (s.ports.get q).offTimes)
  exact ⟨h1, h2, h3, fun hh => wentOff_held (x := (s.ports.get q).recalled _) hh _⟩

theorem canBusOff_port {p : Fin 3} (hp : p ≠ 2) (ht : 255 < tec) (hl : s.portLive (netPort p) = true) :
    Answers (.canBusOff p tec) s (fun t => (t.ports.get (netPort p)).busOff = true ∧
      (t.ports.get (netPort p)).stopped = decide (3 ≤ (s.offsOf (s.ports.get (netPort p)).offTimes).length) ∧
      (t.ports.get (netPort p)).busOffs = inc16 (s.ports.get (netPort p)).busOffs ∧
      ((s.ports.get (netPort p)).claim = .held → (t.ports.get (netPort p)).claim = .listen ∧ (t.ports.get (netPort p)).listenN = 4) ∧
      t.faults.raised = s.faults.raised ++ (0x0601, (if p = 1 then 2 else 1), 0, true) ::
        (if 3 ≤ (s.offsOf (s.ports.get (netPort p)).offTimes).length then [(0x0602, (if p = 1 then 2 else 1), 0, true)] else []) ∧
      t.twin = { s.twin with pairDue := t.twin.pairDue } ∧ s.only [.ports, .twin, .faults] t) := by
  obtain ⟨h1, h2, h3, h4⟩ := portOff_port s (netPort p)
  have hr : (s.portOff (netPort p)).faults.raised = s.faults.raised := rfl
  refine ⟨_, busOff_notes hp ht hl, ?_⟩
  rw [netPort_succ]
  by_cases h3o : 3 ≤ (s.offsOf (s.ports.get (netPort p)).offTimes).length
  · simp only [h3o, decide_true, if_true]
    refine ⟨h1, h2.trans (decide_eq_true h3o), h3, h4, ?_, rfl, by simp [State.only, State.portOff]⟩
    simp [State.note, hr]
  · simp only [h3o, decide_false, if_false, Bool.false_eq_true]
    refine ⟨h1, h2.trans (decide_eq_false h3o), h3, h4, ?_, rfl, by simp [State.only, State.portOff]⟩
    simp [State.note, hr]

end

theorem canBusOff_iso {tec : Nat} {s : State} (ht : 255 < tec) (hl : s.isoLive = true) :
    Answers (.canBusOff 2 tec) s (fun t => t.iso.busOff = true ∧ t.iso.busOffs = inc16 s.iso.busOffs ∧ t.iso.tx = [] ∧
      t.iso.stopped = decide (3 ≤ (s.offsOf s.iso.offTimes).length) ∧ s.only [.iso, .faults, .free] t) := by
  have hx : execCanBusOff 2 tec s = .next (
      let t := (s.updIso (fun i => { i with
        busOff := true, stopped := decide (3 ≤ (s.offsOf s.iso.offTimes).length), offTimes := s.offsOf s.iso.offTimes,
        busOffs := inc16 i.busOffs, tx := [] })).noteFree 0x0701 0 true
      if 3 ≤ (s.offsOf s.iso.offTimes).length then t.noteFree 0x0702 0 true else t) := by
    unfold execCanBusOff
    simp only [if_neg (not_le.mpr ht), if_true, hl, Bool.not_true, Bool.false_eq_true, if_false, decide_eq_true_eq]
  refine ⟨_, hx, ?_⟩
  dsimp only
  split <;> exact ⟨rfl, rfl, rfl, rfl, by simp [State.only]⟩

theorem busRecovered_ports (s : State) : s.busRecovered.ports = s.ports := only_ports (w := allBut .ports) (by simp) (by simp)

/-- A port back from bus-off; while it listens it does so for 4 superframes at least (R456). -/
def PortSt.recovered (x : PortSt) : PortSt :=
  { x with busOff := false, listenN := if x.claim = .listen ∧ x.rank ≠ 2 then max 4 x.listenN
      else if x.claim = .listen then 4 else x.listenN }

theorem recovered_listens {x : PortSt} (h : x.claim = .listen) : 4 ≤ x.recovered.listenN := by
  have hn : x.recovered.listenN = if x.claim = .listen ∧ x.rank ≠ 2 then max 4 x.listenN else if x.claim = .listen then 4 else x.listenN := rfl
  rw [hn]
  split
  · exact le_max_left _ _
  · exact le_refl 4

theorem recovery_port {p : Fin 3} {runs : Nat} {s : State} (hp : p ≠ 2) (hr : 128 ≤ runs) (hn : s.netOn (netPort p) = true)
    (hb : (s.ports.get (netPort p)).busOff = true) (hs : (s.ports.get (netPort p)).stopped = false) :
    Answers (.canBusOffRecovery p runs) s (fun t => (t.ports.get (netPort p)).busOff = false ∧
      ((s.ports.get (netPort p)).claim = .listen → 4 ≤ (t.ports.get (netPort p)).listenN) ∧ s.only [.ports, .faults] t) := by
  have hoff : ¬ (!s.netOn (netPort p) || !(s.ports.get (netPort p)).busOff || (s.ports.get (netPort p)).stopped) = true := by
    rw [hn, hb, hs]
    decide
  refine ⟨(s.updPort (netPort p) PortSt.recovered).busRecovered,
    congrArg Host.Outcome.next ((if_neg (not_lt.mpr hr)).trans ((if_neg hp).trans (if_neg hoff))), ?_⟩
  simp only [busRecovered_ports, updPort_get]
  exact ⟨rfl, recovered_listens, by simp [State.only]⟩

theorem recovery_iso {runs : Nat} {s : State} (hr : 128 ≤ runs) (hn : s.isoOn = true) (hb : s.iso.busOff = true) (hs : s.iso.stopped = false) :
    Answers (.canBusOffRecovery 2 runs) s (fun t => t.iso.busOff = false ∧ t.iso.claim = .claiming ∧ t.iso.addr = s.iso.addr ∧
      t.iso.claimAt = s.frame.counter ∧ s.only [.iso, .faults] t) := by
  have hx : execCanBusOffRecovery 2 runs s = .next (((s.updIso (fun i => { i with busOff := false })).isoClaimAt s.iso.addr).condEnd 0x0701) := by
    unfold execCanBusOffRecovery
    simp [hn, hb, hs, if_neg (not_lt.mpr hr)]
  refine ⟨_, hx, ?_⟩
  unfold State.isoClaimAt State.sendClaimed State.isoSend
  split <;> exact ⟨rfl, rfl, rfl, rfl, by simp [State.only]⟩

/-- Settles O26: the bus-offs of the last second decide between recovery and a stop. -/
theorem busOffComplete : Obligations.BusOffComplete := by
  unfold Obligations.BusOffComplete
  exact ⟨fun _ _ _ hp ht hl => canBusOff_port hp ht hl, fun _ _ ht hl => canBusOff_iso ht hl,
    fun _ _ _ hp hr hn hb hs => recovery_port hp hr hn hb hs, fun _ _ hr hn hb hs => recovery_iso hr hn hb hs⟩

end Sys2Proof.Machine
end

section
/-! Index claims of a port: listening, holding, answering and yielding (Table FAB-5, R464 to R467). -/

namespace Sys2Proof.Machine

/-! ### What a port's address and its CLAIM depend on -/

section
variable {p : Fin 2} {s t : State} (hp : t.params = s.params) (hs : (t.ports.get p).seg = (s.ports.get p).seg)
include hp hs

theorem portSeg_of : t.portSeg p = s.portSeg p := by rw [State.portSeg, State.portSeg, par_of_params hp, hs]

theorem pairHere_of : t.pairHere p = s.pairHere p := by
  have ha : t.pairAddr = s.pairAddr := by rw [State.pairAddr, State.pairAddr, unitOn_of_params hp, par_of_params hp]
  rw [State.pairHere, State.pairHere, ha, portSeg_of hp hs]

theorem claimFrame_of (hi : (t.ports.get p).index = (s.ports.get p).index) (uid chunk rank want : Nat) :
    t.claimFrame p uid chunk rank want = s.claimFrame p uid chunk rank want := by
  simp only [State.claimFrame, State.ownHead, State.portAddr, portSeg_of hp hs, hi, if_neg (show ¬ (1 : Nat) = 0 by decide)]

end

/-! ### Sending CLAIMs -/

/-- The CLAIM of the port as it now stands (R464). -/
def State.ownClaim (s : State) (p : Fin 2) : AmFrame :=
  s.claimFrame p Config.uid.toNat (s.ports.get p).chunk (s.ports.get p).rank
    (if (s.ports.get p).claim = .held then (s.ports.get p).index else (s.ports.get p).want)

/-- The port with its CLAIM queued. -/
def PortSt.claimSent (q : PortSt) (f : AmFrame) : PortSt := { q.push 0 (asQueue none [f]) with claimDue := false }

theorem queueControl_some {s t : State} {p : Fin 2} {fs : List AmFrame} (h : s.queueControl p fs = some t) :
    t = s.updPort p (fun q => q.push 0 (asQueue none fs)) := by
  unfold State.queueControl at h
  split at h
  · exact (Option.some.inj h).symm
  · cases h

/-- A CLAIM that is due is queued, or waits on. -/
theorem sendClaim_eq (s : State) (p : Fin 2) : s.sendClaim p = s ∨
    ((s.ports.get p).claimDue = true ∧
      s.sendClaim p = (s.updPort p (fun q => q.push 0 (asQueue none [s.ownClaim p]))).updPort p (fun q => { q with claimDue := false })) := by
  have hx : s.sendClaim p = if (s.ports.get p).claimDue && (s.ports.get p).mayClaim && s.portSends p then
      (match s.queueControl p [s.ownClaim p] with
        | some t => t.updPort p (fun q => { q with claimDue := false })
        | none => s) else s := rfl
  rw [hx]
  split
  case isFalse => exact .inl rfl
  case isTrue h =>
    simp only [Bool.and_eq_true] at h
    cases hq : s.queueControl p [s.ownClaim p] with
    | none => exact .inl rfl
    | some t =>
      obtain rfl := queueControl_some hq
      exact .inr ⟨h.1.1, rfl⟩

theorem claimSent_get (s : State) (p : Fin 2) (f : AmFrame) :
    ((s.updPort p (fun q => q.push 0 (asQueue none [f]))).updPort p (fun q => { q with claimDue := false })).ports.get p =
      (s.ports.get p).claimSent f := by
  rw [updPort_get, updPort_get]
  rfl

/-- Of the port, a CLAIM sent changes the control queue and its counters only. -/
theorem sendClaim_keeps {α : Type} (g : PortSt → α) (hg : ∀ q f, g (PortSt.claimSent q f) = g q) (s : State) (p : Fin 2) :
    g ((s.sendClaim p).ports.get p) = g (s.ports.get p) := by
  rcases sendClaim_eq s p with h | ⟨-, h⟩
  · rw [h]
  · rw [h, claimSent_get, hg]

theorem sendClaim_other {p q : Fin 2} (hq : q ≠ p) (s : State) : (s.sendClaim p).ports.get q = s.ports.get q := by
  rcases sendClaim_eq s p with h | ⟨-, h⟩
  · rw [h]
  · rw [h, updPort_get_of_ne hq, updPort_get_of_ne hq]

theorem sendClaim_params (s : State) (p : Fin 2) : (s.sendClaim p).params = s.params :=
  only_params (w := allBut .params) (by simp) (by simp)

/-- A CLAIM that is not due is not sent. -/
theorem sendClaim_idle {p : Fin 2} {s : State} (h : (s.ports.get p).claimDue = false) : s.sendClaim p = s :=
  (sendClaim_eq s p).resolve_right fun ⟨hd, _⟩ => by simp [h] at hd

/-- A due CLAIM waits on, or stands in the control queue. -/
theorem sendClaim_queue {p : Fin 2} {s : State} (h : (s.ports.get p).claimDue = true) :
    (((s.sendClaim p).ports.get p).claimDue = true ∧ ((s.sendClaim p).ports.get p).queues.get 0 = (s.ports.get p).queues.get 0) ∨
      ((s.sendClaim p).ports.get p).queues.get 0 = (s.ports.get p).queues.get 0 ++ asQueue none [s.ownClaim p] := by
  rcases sendClaim_eq s p with he | ⟨-, he⟩
  · exact .inl (by rw [he]; exact ⟨h, rfl⟩)
  · refine .inr ?_
    rw [he, claimSent_get]
    rfl

theorem sendPairClaim_none {p : Fin 2} {s : State} (h : s.pairHere p = false) : s.sendPairClaim p = s := by
  unfold State.sendPairClaim
  split
  · simp [h]
  · rfl

/-! ### CLAIM_LISTEN_END (Table FAB-5) -/

/-- The port as it begins to claim index `i`. -/
def PortSt.claims (q : PortSt) (i : Nat) : PortSt :=
  { q with claim := .claiming, want := i, index := i, claimN := 0, claimDue := true, chunk := 0, full := false }

/-- The port as it finds no index free and listens on. -/
def PortSt.finds (q : PortSt) : PortSt := { q with inUse := 0, listenN := 256, full := true }

theorem raise_ports (s : State) (code qual : Nat) (axes : BitVec 4) (cond : Bool) : (s.raise code qual axes cond).ports = s.ports :=
  only_ports (w := allBut .ports) (by simp) (by simp)

section
variable {p : Fin 2} {s : State} (hs : s.portSends p = true) (hc : (s.ports.get p).claim = .listen)
  (hn : (s.ports.get p).listenN = 0) (hb : (s.ports.get p).barred = false)
include hs hc hn hb

theorem listenEnd_goes : ¬ (!s.portSends p || (s.ports.get p).claim != .listen || (s.ports.get p).listenN != 0 || (s.ports.get p).barred) = true := by
  rw [hs, hc, hn, hb]
  decide

/-- With a wanted index listening ends with the CLAIM for it. -/
theorem listenEnd_wants {i : Nat} (hr : (s.ports.get p).rank = 2 ∧ i = s.par (netId p 3) ∨
      (s.ports.get p).rank = 1 ∧ (s.ports.get p).lastIdx = some i ∧ (s.ports.get p).heard i = false) :
    exec (.claimListenEnd p) s = .next ((s.updPort p (fun _ => (s.ports.get p).claims i)).sendClaim p) := by
  refine congrArg Host.Outcome.next ((if_neg (listenEnd_goes hs hc hn hb)).trans ?_)
  rcases hr with ⟨hr, hi⟩ | ⟨hr, hl, hh⟩
  · simp only [hr, hi, show ((2 : Nat) == 1) = false from rfl, Bool.false_and, Bool.false_eq_true, if_false, PortSt.claims]
  · simp only [hr, hl, hh, Bool.and_false, Bool.false_eq_true, if_false, PortSt.claims]

theorem claimListenEnd_fixed (hr : (s.ports.get p).rank = 2) : Answers (.claimListenEnd p) s (fun t =>
    (t.ports.get p).claim = .claiming ∧ (t.ports.get p).want = s.par (netId p 3) ∧ (t.ports.get p).index = s.par (netId p 3) ∧
      (t.ports.get p).chunk = 0 ∧ ∀ q, q ≠ p → t.ports.get q = s.ports.get q) := by
  refine ⟨_, listenEnd_wants hs hc hn hb (.inl ⟨hr, rfl⟩), ?_, ?_, ?_, ?_, fun q hq => ?_⟩
  · rw [sendClaim_keeps PortSt.claim (fun _ _ => rfl), updPort_get]
    rfl
  · rw [sendClaim_keeps PortSt.want (fun _ _ => rfl), updPort_get]
    rfl
  · rw [sendClaim_keeps PortSt.index (fun _ _ => rfl), updPort_get]
    rfl
  · rw [sendClaim_keeps PortSt.chunk (fun _ _ => rfl), updPort_get]
    rfl
  · rw [sendClaim_other hq, updPort_get_of_ne hq]

theorem claimListenEnd_again {i : Nat} (hr : (s.ports.get p).rank = 1) (hl : (s.ports.get p).lastIdx = some i)
    (hh : (s.ports.get p).heard i = false) :
    Answers (.claimListenEnd p) s (fun t => (t.ports.get p).claim = .claiming ∧ (t.ports.get p).want = i) := by
  refine ⟨_, listenEnd_wants hs hc hn hb (.inr ⟨hr, hl, hh⟩), ?_, ?_⟩
  · rw [sendClaim_keeps PortSt.claim (fun _ _ => rfl), updPort_get]
    rfl
  · rw [sendClaim_keeps PortSt.want (fun _ _ => rfl), updPort_get]
    rfl

theorem claimListenEnd_full (hr : (s.ports.get p).rank = 0) (ht : (s.ports.get p).retry = true) (hl : (s.ports.get p).lowest = none) :
    Answers (.claimListenEnd p) s (fun t => (t.ports.get p).claim = .listen ∧ (t.ports.get p).full = true ∧
      (t.ports.get p).listenN = 256 ∧ t.faultActive 0x0603 = true) := by
  have hx : exec (.claimListenEnd p) s = .next ((s.updPort p (fun _ =>
      (s.ports.get p).finds)).raise 0x0603 1 0 true) := by
    refine congrArg Host.Outcome.next ((if_neg (listenEnd_goes hs hc hn hb)).trans ?_)
    simp only [hr, ht, hl, show ((0 : Nat) == 1) = false from rfl, Bool.false_and, Bool.false_eq_true, if_false, if_true, PortSt.finds]
  refine ⟨_, hx, ?_⟩
  simp only [raise_ports, updPort_get]
  exact ⟨hc, rfl, rfl, (raiseAs_faultActive ..).trans rfl⟩

end

/-! ### CLAIM_HELD (R467) -/

theorem ev_ports (s : State) (code qual : Nat) : (s.ev code qual).ports = s.ports := only_ports (w := allBut .ports) (by simp) (by simp)
theorem ev_ret (s : State) (code qual : Nat) : (s.ev code qual).ret = s.ret := only_ret (w := allBut .ret) (by simp) (by simp)

theorem claimRecovered_events (s : State) : s.claimRecovered.faults.events = s.faults.events := by
  unfold State.claimRecovered
  split <;> rfl

theorem claimRecovered_ports (s : State) : s.claimRecovered.ports = s.ports := only_ports (w := allBut .ports) (by simp) (by simp)
theorem claimRecovered_ret (s : State) : s.claimRecovered.ret = s.ret := only_ret (w := allBut .ret) (by simp) (by simp)

/-- The port as it holds its wanted index. -/
def PortSt.holds (q : PortSt) : PortSt :=
  { q with claim := .held, index := q.want, rank := max 1 q.rank, lastIdx := some q.want, claimN := 0, claimDue := false, retry := false }

/-- The port holds its index, and retention keeps it with the segment. -/
def State.heldAt (s : State) (p : Fin 2) : State :=
  let t := s.updPort p PortSt.holds
  { t with ret := { t.ret with fabIndex := t.ret.fabIndex.set p (some ((t.ports.get p).index, (t.portSeg p).getD 0xFFFF)) } }

theorem toHeld_eq (s : State) (p : Fin 2) : s.toHeld p = ((s.heldAt p).ev 0x0601 ((s.heldAt p).portAddr p)).claimRecovered := rfl

theorem heldAt_get (s : State) (p : Fin 2) : (s.heldAt p).ports.get p = (s.ports.get p).holds := updPort_get s p PortSt.holds

theorem holds_seg (s : State) (p : Fin 2) : (s.updPort p PortSt.holds).portSeg p = s.portSeg p :=
  portSeg_of rfl (by rw [updPort_get]; rfl)

theorem heldAt_addr (s : State) (p : Fin 2) : (s.heldAt p).portAddr p = (s.portSeg p).getD 0 * 64 + (s.ports.get p).want := by
  have hs : (s.heldAt p).portSeg p = s.portSeg p := holds_seg s p
  rw [State.portAddr, hs, heldAt_get]
  rfl

theorem heldAt_ret (s : State) (p : Fin 2) :
    (s.heldAt p).ret.fabIndex.get p = some ((s.ports.get p).want, (s.portSeg p).getD 0xFFFF) := by
  refine (Duo.get_set_self _ _ _).trans ?_
  rw [holds_seg, updPort_get]
  rfl

theorem claimHeld_holds {p : Fin 2} {s : State} (hl : s.portLive p = true) (hc : (s.ports.get p).claim = .claiming) (hn : 5 ≤ (s.ports.get p).claimN) :
    Answers (.claimHeld p) s (fun t => (t.ports.get p).claim = .held ∧ (t.ports.get p).index = (s.ports.get p).want ∧
      (t.ports.get p).rank = max 1 (s.ports.get p).rank ∧
      t.ret.fabIndex.get p = some ((s.ports.get p).want, (s.portSeg p).getD 0xFFFF) ∧
      t.faults.events.getLast? = some (0x0601, ((s.portSeg p).getD 0 * 64 + (s.ports.get p).want) % 65536, s.frame.counter)) := by
  have hx : exec (.claimHeld p) s = .next (s.toHeld p) := congrArg Host.Outcome.next (if_pos (by simp [hl, hc, hn]))
  refine ⟨_, hx, ?_⟩
  simp only [toHeld_eq, claimRecovered_ports, claimRecovered_ret, claimRecovered_events, ev_ports, ev_ret, heldAt_get, ev_last, heldAt_addr]
  exact ⟨rfl, rfl, rfl, heldAt_ret s p, rfl⟩

/-! ### CLAIM_RECEIVED and CLAIM_ERROR_FRAME (R465, R466) -/

/-- The port with the transmitter of a frame heard in use. -/
def State.heardTx (s : State) (p : Fin 2) (f : AmFrame) : State :=
  s.updPort p (fun q => if q.claim = .listen ∨ (headOf f).txidx ≠ q.index then
    { q with inUse := q.inUse ||| BitVec.ofNat 64 (2 ^ (headOf f).txidx) } else q)

theorem rx_hears {p : Fin 2} {f : AmFrame} {k : Nat} {s : State} (h : s.hears p f k = true) (g : State → State) :
    s.rx p f k g = g (s.heardTx p f) := by
  simp only [State.hears, Bool.and_eq_true, beq_iff_eq] at h
  obtain ⟨⟨⟨hl, hf⟩, hk⟩, ho⟩ := h
  unfold State.rx
  simp only [hl, hf, hk, ho, Bool.not_true, Bool.false_eq_true, if_false, bne_self_eq_false]
  rfl

/-- Of the port, a frame heard changes the indexes in use only. -/
theorem heardTx_keeps {α : Type} (g : PortSt → α) (hg : ∀ q b, g { q with inUse := b } = g q) (s : State) (p : Fin 2) (f : AmFrame) :
    g ((s.heardTx p f).ports.get p) = g (s.ports.get p) := by
  rw [State.heardTx, updPort_get]
  split
  · exact hg _ _
  · rfl

/-- An index given up is heard in use. -/
theorem heard_lose (q : PortSt) {i : Nat} (h : i < 64) : (q.lose i).heard i = true := by
  have hb : ((q.inUse ||| BitVec.ofNat 64 (2 ^ i)).toNat).testBit i = true := by
    rw [BitVec.toNat_or, BitVec.toNat_ofNat, Nat.mod_eq_of_lt (Nat.pow_lt_pow_right (by decide) h), Nat.testBit_or, Nat.testBit_two_pow_self, Bool.or_true]
  exact hb

/-- The port at chunk 0 of its next attempt, with its waiting CLAIMs taken back. -/
def PortSt.anew (q : PortSt) (own : Bool) : PortSt := { q.recalled own with chunk := 0, mayClaim := true }

theorem claimsAnew_of {p : Fin 2} {s : State} (h : s.pairHere p = false) :
    s.claimsAnew p = (s.recallClaims p).updPort p (fun q => { q with chunk := 0, mayClaim := true }) := by
  have hg : ((s.recallClaims p).updPort p (fun q => { q with chunk := 0, mayClaim := true })).pairHere p = s.pairHere p :=
    pairHere_of rfl (by rw [updPort_get, recallClaims_get]; rfl)
  refine if_neg ?_
  rw [hg, h]
  decide

theorem claimsAnew_get {p : Fin 2} {s : State} (h : s.pairHere p = false) :
    (s.claimsAnew p).ports.get p = (s.ports.get p).anew (s.claimWaits p) := by
  rw [claimsAnew_of h, updPort_get, recallClaims_get]
  rfl

theorem claimSeen_other {p : Fin 2} {s : State} (h : s.pairHere p = false) {uid rank i : Nat} (hu : uid ≠ Config.uid.toNat)
    (hi : i = if (s.ports.get p).claim = .held then (s.ports.get p).index else (s.ports.get p).want)
    (hc : (s.ports.get p).claim ≠ .listen) : s.claimSeen p uid rank i =
      if rank = 2 ∧ (s.ports.get p).rank = 2 then
        (let t := s.raise 0x0603 0 0 (decide (uid < Config.uid.toNat))
        if Config.uid.toNat < uid then (if (s.ports.get p).claim = .claiming then t.toHeld p else t)
        else t.updPort p (fun q => { q.lose i with barred := true }))
      else if (s.ports.get p).claim = .claiming then
        if (s.ports.get p).rank < rank ∨ (rank = (s.ports.get p).rank ∧ (s.ports.get p).claimN = 0) then s.updPort p (fun q => q.lose i)
        else if rank = (s.ports.get p).rank then s.updPort p (fun q => { q with claimN := 0, claimDue := true })
        else s
      else if rank = 2 then (s.evFree 0x0602).updPort p (fun q => q.lose i)
      else s.updPort p (fun q => { q with claimDue := true }) := by
  have hn : ¬ (uid = Config.uid.toNat ∨ (s.ports.get p).claim = .listen ∨
      i ≠ (if (s.ports.get p).claim = .held then (s.ports.get p).index else (s.ports.get p).want)) := by
    simp [hu, hc, hi]
  have hp : ¬ (s.pairHere p && s.twin.pairClaim != .listen && i == s.par 0x8005 % 64 && uid != s.pairUid) = true := by simp [h]
  exact (if_neg hp).trans (if_neg hn)

/-- The state in which a CLAIM that is heard is judged. -/
def State.claimHeard (s : State) (p : Fin 2) (f : AmFrame) : State := (s.heardTx p f).claimsAnew p

section
variable {p : Fin 2} {f : AmFrame} {s : State} (hp : s.pairHere p = false)
include hp

theorem heardTx_pairHere : (s.heardTx p f).pairHere p = false := 
  (pairHere_of (s := s) (t := s.heardTx p f) rfl (heardTx_keeps PortSt.seg (fun _ _ => rfl) s p f)).trans hp

theorem claimHeard_get : (s.claimHeard p f).ports.get p = ((s.heardTx p f).ports.get p).anew ((s.heardTx p f).claimWaits p) :=
  claimsAnew_get (heardTx_pairHere hp)

theorem claimHeard_keeps {α : Type} (g : PortSt → α) (hi : ∀ q b, g { q with inUse := b } = g q) (ha : ∀ q b, g (PortSt.anew q b) = g q) :
    g ((s.claimHeard p f).ports.get p) = g (s.ports.get p) := by
  rw [claimHeard_get hp, ha, heardTx_keeps g hi]

theorem claimHeard_pairHere : (s.claimHeard p f).pairHere p = false := by
  refine (pairHere_of ?_ (claimHeard_keeps hp PortSt.seg (fun _ _ => rfl) fun _ _ => rfl)).trans hp
  rw [State.claimHeard, claimsAnew_of (heardTx_pairHere hp)]
  rfl

/-- The port's own CLAIM after one that is heard: that of the same index, rank and chunk 0. -/
theorem claimReceived_next (hh : s.hears p f 1 = true) {t : State}
    (ht : (s.claimHeard p f).claimSeen p (getN (bodyOf f) 0 8) (getB (bodyOf f) 8) (getB (bodyOf f) 9) = t)
    (hq : t.params = s.params) (hs : (t.ports.get p).seg = (s.ports.get p).seg) :
    exec (.claimReceived p f) s = .next (t.sendClaim p) := by
  have hx : exec (.claimReceived p f) s = .next ((((s.claimHeard p f).claimSeen p (getN (bodyOf f) 0 8) (getB (bodyOf f) 8)
      (getB (bodyOf f) 9)).sendClaim p).sendPairClaim p) := congrArg Host.Outcome.next (rx_hears hh _)
  rw [hx, ht, sendPairClaim_none]
  refine (pairHere_of ((sendClaim_params t p).trans hq) ?_).trans hp
  rw [sendClaim_keeps PortSt.seg fun _ _ => rfl, hs]

theorem claimHeard_params : (s.claimHeard p f).params = s.params := by
  rw [State.claimHeard, claimsAnew_of (heardTx_pairHere hp)]
  rfl

variable (hh : s.hears p f 1 = true) (hu : getN (bodyOf f) 0 8 ≠ Config.uid.toNat)
include hh hu

/-- A held index is defended against a CLAIM of rank 0 or 1 (R466). -/
theorem claimReceived_defends (hc : (s.ports.get p).claim = .held) (hi : getB (bodyOf f) 9 = (s.ports.get p).index) (hr : getB (bodyOf f) 8 ≠ 2) :
    Answers (.claimReceived p f) s (fun t => (t.ports.get p).claim = .held ∧ (t.ports.get p).index = (s.ports.get p).index ∧
      (t.ports.get p).chunk = 0 ∧ (t.ports.get p).mayClaim = true ∧ ((t.ports.get p).claimDue = true ∨
        ∃ l, (t.ports.get p).queues.get 0 = l ++ asQueue none [s.claimFrame p Config.uid.toNat 0 (s.ports.get p).rank (s.ports.get p).index])) := by
  have kc : ((s.claimHeard p f).ports.get p).claim = .held := (claimHeard_keeps hp PortSt.claim (fun _ _ => rfl) fun _ _ => rfl).trans hc
  have ki : ((s.claimHeard p f).ports.get p).index = (s.ports.get p).index := claimHeard_keeps hp PortSt.index (fun _ _ => rfl) fun _ _ => rfl
  have ks : ((s.claimHeard p f).ports.get p).seg = (s.ports.get p).seg := claimHeard_keeps hp PortSt.seg (fun _ _ => rfl) fun _ _ => rfl
  have kr : ((s.claimHeard p f).ports.get p).rank = (s.ports.get p).rank := claimHeard_keeps hp PortSt.rank (fun _ _ => rfl) fun _ _ => rfl
  have k0 : ((s.claimHeard p f).ports.get p).chunk = 0 := by rw [claimHeard_get hp]; rfl
  have km : ((s.claimHeard p f).ports.get p).mayClaim = true := by rw [claimHeard_get hp]; rfl
  have hx := claimReceived_next hp hh (t := (s.claimHeard p f).updPort p (fun q => { q with claimDue := true }))
    ((claimSeen_other (claimHeard_pairHere hp) hu (by rw [if_pos kc, ki, hi]) (by simp [kc])).trans
      (by simp [hr, kc])) (claimHeard_params hp) (by rw [updPort_get, ks])
  refine ⟨_, hx, ?_, ?_, ?_, ?_, ?_⟩
  · rw [sendClaim_keeps PortSt.claim fun _ _ => rfl, updPort_get, kc]
  · rw [sendClaim_keeps PortSt.index fun _ _ => rfl, updPort_get, ki]
  · rw [sendClaim_keeps PortSt.chunk fun _ _ => rfl, updPort_get, k0]
  · rw [sendClaim_keeps PortSt.mayClaim fun _ _ => rfl, updPort_get, km]
  · have ho : ((s.claimHeard p f).updPort p (fun q => { q with claimDue := true })).ownClaim p =
        s.claimFrame p Config.uid.toNat 0 (s.ports.get p).rank (s.ports.get p).index := by
      rw [State.ownClaim, claimFrame_of (s := s) (t := (s.claimHeard p f).updPort p (fun q => { q with claimDue := true }))
        (claimHeard_params hp) (by rw [updPort_get, ks]) (by rw [updPort_get, ki])]
      simp only [updPort_get, k0, kr, kc, ki, if_true]
    rw [← ho]
    exact (sendClaim_queue (by rw [updPort_get])).imp And.left fun hq => ⟨_, hq⟩

/-- A wanted index is given up to a CLAIM of higher rank (R465). -/
theorem claimReceived_yields (hc : (s.ports.get p).claim = .claiming) (hi : getB (bodyOf f) 9 = (s.ports.get p).want)
    (hw : (s.ports.get p).want < 64) (hr : (s.ports.get p).rank < getB (bodyOf f) 8) :
    Answers (.claimReceived p f) s (fun t => (t.ports.get p).claim = .listen ∧ (t.ports.get p).listenN = 4 ∧
      (t.ports.get p).heard (s.ports.get p).want = true) := by
  have kc : ((s.claimHeard p f).ports.get p).claim = .claiming := (claimHeard_keeps hp PortSt.claim (fun _ _ => rfl) fun _ _ => rfl).trans hc
  have kw : ((s.claimHeard p f).ports.get p).want = (s.ports.get p).want := claimHeard_keeps hp PortSt.want (fun _ _ => rfl) fun _ _ => rfl
  have kr : ((s.claimHeard p f).ports.get p).rank = (s.ports.get p).rank := claimHeard_keeps hp PortSt.rank (fun _ _ => rfl) fun _ _ => rfl
  have ks : ((s.claimHeard p f).ports.get p).seg = (s.ports.get p).seg := claimHeard_keeps hp PortSt.seg (fun _ _ => rfl) fun _ _ => rfl
  have hn : ¬ (getB (bodyOf f) 8 = 2 ∧ ((s.claimHeard p f).ports.get p).rank = 2) := by
    rw [kr]
    omega
  have hx := claimReceived_next hp hh (t := (s.claimHeard p f).updPort p (fun q => q.lose (getB (bodyOf f) 9)))
    ((claimSeen_other (claimHeard_pairHere hp) hu (by rw [kc, kw, hi]; rfl) (by simp [kc])).trans
      ((if_neg hn).trans ((if_pos kc).trans (if_pos (.inl (kr ▸ hr)))))) (claimHeard_params hp) (by rw [updPort_get]; exact ks)
  rw [sendClaim_idle (by rw [updPort_get]; rfl)] at hx
  refine ⟨_, hx, ?_⟩
  simp only [updPort_get, hi]
  exact ⟨rfl, rfl, heard_lose _ hw⟩

end

/-! ### CLAIM_ERROR_FRAME -/

section
variable {p : Fin 2} {e : QFrame} {s : State} (hl : s.portLive p = true)
  (he : ((s.ports.get p).queues.get 0).find? (fun e => (headOf e.frame).kind == 1) = some e)
include hl he

theorem claimErrorFrame_others : Answers (.claimErrorFrame p false) s (fun t => (t.ports.get p).mayClaim = false ∧
      (t.ports.get p).queues.get 0 = ((s.ports.get p).queues.get 0).filter (fun x => (headOf x.frame).kind != 1) ∧
      (s.pairHere p = false → (t.ports.get p).claimDue = true) ∧ s.only [.ports, .twin] t) := by
  have hlive : ¬ (!s.portLive p) = true := by rw [hl]; decide
  have hx : execClaimErrorFrame p false s = .next ((s.recallClaims p).updPort p (fun q => { q with mayClaim := false })) := by
    unfold execClaimErrorFrame
    rw [if_neg hlive]
    simp only [he, Bool.not_false, if_true]
  refine ⟨_, hx, ?_, ?_, fun hp => ?_, by simp [State.only]⟩
  · simp only [updPort_get]
  · simp only [updPort_get, recallClaims_get]
    rfl
  · simp only [updPort_get, recallClaims_get]
    have hw : s.claimWaits p = true := by
      refine List.any_eq_true.mpr ⟨e, List.mem_filter.mpr ⟨List.mem_of_find?_eq_some he, ?_⟩, ?_⟩
      · have hk := List.find?_some he
        exact hk
      · simp [State.isPairClaim, hp]
    simp [PortSt.recalled, hw]

/-- The state in which a CLAIM that met an error frame is due again, at its next chunk. -/
def State.nextChunk (s : State) (p : Fin 2) (e : QFrame) : State :=
  (s.updPort p (fun q => { q with queues := q.queues.set 0 (((s.ports.get p).queues.get 0).erase e) })).updPort p
    (fun q => { q with chunk := min 3 (q.chunk + 1), claimDue := true })

omit hl he in
theorem nextChunk_get : (s.nextChunk p e).ports.get p = { s.ports.get p with
    queues := (s.ports.get p).queues.set 0 (((s.ports.get p).queues.get 0).erase e), chunk := min 3 ((s.ports.get p).chunk + 1), claimDue := true } := by
  rw [State.nextChunk, updPort_get, updPort_get]

theorem claimErrorFrame_own (hp : s.pairHere p = false) : Answers (.claimErrorFrame p true) s (fun t =>
    (t.ports.get p).chunk = min 3 ((s.ports.get p).chunk + 1) ∧
      (((t.ports.get p).claimDue = true ∧ (t.ports.get p).queues.get 0 = ((s.ports.get p).queues.get 0).erase e) ∨
        (t.ports.get p).queues.get 0 = ((s.ports.get p).queues.get 0).erase e ++ asQueue none [s.claimFrame p Config.uid.toNat
          (min 3 ((s.ports.get p).chunk + 1)) (s.ports.get p).rank (if (s.ports.get p).claim = .held then (s.ports.get p).index else (s.ports.get p).want)])) := by
  have hlive : ¬ (!s.portLive p) = true := by rw [hl]; decide
  have ks : ((s.nextChunk p e).ports.get p).seg = (s.ports.get p).seg := by rw [nextChunk_get]
  have ki : ((s.nextChunk p e).ports.get p).index = (s.ports.get p).index := by rw [nextChunk_get]
  have hpair : ((s.nextChunk p e).sendClaim p).pairHere p = false := by
    refine (pairHere_of (s := s) (sendClaim_params (s.nextChunk p e) p) ?_).trans hp
    rw [sendClaim_keeps PortSt.seg fun _ _ => rfl, ks]
  have hq : (s.updPort p (fun q => { q with queues := q.queues.set 0 (((s.ports.get p).queues.get 0).erase e) })).isPairClaim p e = false := by
    rw [State.isPairClaim, pairHere_of (s := s)
      (t := s.updPort p (fun q => { q with queues := q.queues.set 0 (((s.ports.get p).queues.get 0).erase e) })) rfl (by rw [updPort_get]), hp]
    rfl
  have hx : execClaimErrorFrame p true s = .next ((s.nextChunk p e).sendClaim p) := by
    unfold execClaimErrorFrame
    rw [if_neg hlive]
    simp only [he, Bool.not_true, Bool.false_eq_true, if_false, hq]
    exact congrArg Host.Outcome.next (sendPairClaim_none hpair)
  refine ⟨_, hx, ?_, ?_⟩
  · rw [sendClaim_keeps PortSt.chunk fun _ _ => rfl, nextChunk_get]
  · have ho : (s.nextChunk p e).ownClaim p = s.claimFrame p Config.uid.toNat (min 3 ((s.ports.get p).chunk + 1)) (s.ports.get p).rank
        (if (s.ports.get p).claim = .held then (s.ports.get p).index else (s.ports.get p).want) := by
      rw [State.ownClaim, claimFrame_of (s := s) (t := s.nextChunk p e) rfl ks ki, nextChunk_get]
    have h0 : ((s.nextChunk p e).ports.get p).queues.get 0 = ((s.ports.get p).queues.get 0).erase e := by
      rw [nextChunk_get]
      rfl
    rw [← ho, ← h0]
    exact sendClaim_queue (by rw [nextChunk_get])

end

/-- Settles O27: each event by the claim state of its port; a contrary claim is decided by the UIDs. -/
theorem claimComplete : Obligations.ClaimComplete := by
  unfold Obligations.ClaimComplete
  exact ⟨fun _ _ hs hc hn hb hr => claimListenEnd_fixed hs hc hn hb hr, fun _ _ _ hs hc hn hb hr hl hh => claimListenEnd_again hs hc hn hb hr hl hh,
    fun _ _ hs hc hn hb hr ht hl => claimListenEnd_full hs hc hn hb hr ht hl, fun _ _ hl hc hn => claimHeld_holds hl hc hn,
    fun _ _ _ hh hp hc hi hr hu => claimReceived_defends hp hh hu hc hi hr,
    fun _ _ _ hh hp hc hi hw hr hu => claimReceived_yields hp hh hu hc hi hw hr,
    fun _ _ _ hl he => claimErrorFrame_others hl he, fun _ _ _ hl hp he => claimErrorFrame_own hl he hp⟩

end Sys2Proof.Machine
end

section
/-! What sending leaves: of a port all but its class queues and their counters, of the fabric all but the tag and the events to be sent. -/

namespace Sys2Proof.Machine

/-- A port apart from its class queues and their counters. -/
def PortSt.offQueues (q : PortSt) : PortSt :=
  { q with queues := Quad.all [], queuedN := Quad.all 0, peaks := Quad.all 0, dropsPerClass := Quad.all 0 }

/-- The fabric state apart from the tag of the next message, the drops seen in this superframe and the events to be sent. -/
def FabSt.offSends (f : FabSt) : FabSt := { f with tag := 0, evts := [], evtLost := 0, dropSeen := Quad.all false }

/-- Frames may have been queued, dropped or answered; nothing else of the ports and of the fabric differs. -/
structure SendOnly (s t : State) : Prop where
  port : ∀ q, (t.ports.get q).offQueues = (s.ports.get q).offQueues
  fab : t.fab.offSends = s.fab.offSends

/-- The drops of a class counted, and seen in this superframe. -/
def State.countDrops (s : State) (p : Fin 2) (c : Fin 4) (n : Nat) : State :=
  let t := s.updPort p (fun q => { q with dropsPerClass := q.dropsPerClass.upd c (fun v => min 0xFFFF (v + n)) })
  { t with fab := { t.fab with dropSeen := t.fab.dropSeen.set c true } }

theorem dropOldest_some {s t : State} {p : Fin 2} (h : s.dropOldest p = some t) : ∃ rest gone,
    t = ((s.updPort p (fun q => { q with queues := q.queues.set 2 rest })).dropped p 2 gone.length).dropSends gone := by
  unfold State.dropOldest at h
  dsimp only at h
  split at h
  · cases h
  · exact ⟨_, _, (Option.some.inj h).symm⟩

theorem evFree_ports (s : State) (code : Nat) : (s.evFree code).ports = s.ports := only_ports (w := allBut .ports) (by simp) (by simp)

namespace SendOnly

variable {s t u : State}

theorem refl (s : State) : SendOnly s s := ⟨fun _ => rfl, rfl⟩

theorem trans (h : SendOnly s t) (k : SendOnly t u) : SendOnly s u := ⟨fun q => (k.port q).trans (h.port q), k.fab.trans h.fab⟩

theorem of_eq (hp : t.ports = s.ports) (hf : t.fab = s.fab) : SendOnly s t := ⟨fun q => by rw [hp], by rw [hf]⟩

theorem portField {α : Type} (h : SendOnly s t) (g : PortSt → α) (hg : ∀ q, g (PortSt.offQueues q) = g q) (q : Fin 2) :
    g (t.ports.get q) = g (s.ports.get q) := by rw [← hg, h.port, hg]

theorem fabField {α : Type} (h : SendOnly s t) (g : FabSt → α) (hg : ∀ f, g (FabSt.offSends f) = g f) : g t.fab = g s.fab := by
  rw [← hg, h.fab, hg]

/-- Work of one port on its queues. -/
theorem updPort (s : State) (p : Fin 2) {f : PortSt → PortSt} (hf : ∀ q, (f q).offQueues = q.offQueues) : SendOnly s (s.updPort p f) where
  port q := by
    by_cases h : q = p
    · rw [h, updPort_get, hf]
    · rw [updPort_get_of_ne h]
  fab := rfl

theorem ev (s : State) (code qual : Nat) : SendOnly s (s.ev code qual) where
  port q := by rw [ev_ports]
  fab := by
    unfold State.ev
    dsimp only
    repeat' split
    all_goals rfl

theorem evIf (s : State) (c : Bool) (code qual : Nat) : SendOnly s (s.evIf c code qual) := by
  unfold State.evIf
  split
  · exact ev _ _ _
  · exact refl _

theorem evFree (s : State) (code : Nat) : SendOnly s (s.evFree code) :=
  trans (t := s.fresh.2) (of_eq rfl rfl) (ev s.fresh.2 code s.fresh.1)

theorem queueControl {p : Fin 2} {fs : List AmFrame} (h : s.queueControl p fs = some t) : SendOnly s t := by
  rw [queueControl_some h]
  exact updPort _ _ fun _ => rfl

theorem respondIso {h : Nat} (e : s.respondIso h = some t) : SendOnly s t := by
  have hb := fun w (hw : Group.iso ∈ w) => State.openTp_blank (w := w) hw e
  exact of_eq (only_ports (hb (allBut .ports) (by simp)) (by simp)) (only_fab (hb (allBut .fab) (by simp)) (by simp))

theorem giveBack (s : State) (h : Nat) : SendOnly s (s.giveBack h) := by
  unfold State.giveBack
  split
  · exact of_eq rfl rfl
  · split
    · exact of_eq rfl rfl
    · split
      next e => exact (queueControl e).trans (of_eq rfl rfl)
      next => exact of_eq rfl rfl
  · split
    next e => exact (respondIso e).trans (of_eq rfl rfl)
    next => exact of_eq rfl rfl
  · dsimp only
    split
    · exact (ev _ _ _).trans (of_eq rfl rfl)
    · exact (ev _ _ _).trans ((evIf _ _ _ _).trans (of_eq rfl rfl))

theorem finish (s : State) (h code detail : Nat) (data : List Byte) : SendOnly s (s.finish h code detail data) := by
  refine trans (of_eq ?_ ?_) (giveBack _ h)
  · exact only_ports (w := allBut .ports) (by simp) (by simp)
  · exact only_fab (w := allBut .fab) (by simp) (by simp)

theorem doneWith (s : State) (h : Nat) (data : List Byte) : SendOnly s (s.doneWith h data) := finish _ _ _ _ _

theorem foldl {α : Type} {f : State → α → State} (hf : ∀ s a, SendOnly s (f s a)) (l : List α) (s : State) : SendOnly s (l.foldl f s) := by
  induction l generalizing s with
  | nil => exact refl s
  | cons a l ih => exact (hf s a).trans (ih _)

theorem dropSends (s : State) (l : List QFrame) : SendOnly s (s.dropSends l) := by
  refine foldl (fun t h => ?_) _ _
  split
  · exact finish _ _ _ _ _
  · exact refl t

theorem dropped (s : State) (p : Fin 2) (c : Fin 4) (n : Nat) : SendOnly s (s.dropped p c n) := by
  have hu : SendOnly s (s.countDrops p c n) :=
    ⟨(updPort s p (f := fun q => { q with dropsPerClass := q.dropsPerClass.upd c (fun v => min 0xFFFF (v + n)) }) fun _ => rfl).port, rfl⟩
  exact hu.trans (evIf (s.countDrops p c n) _ _ _)

theorem dropOldest {p : Fin 2} (h : s.dropOldest p = some t) : SendOnly s t := by
  obtain ⟨rest, gone, rfl⟩ := dropOldest_some h
  have hu : SendOnly s (s.updPort p (fun q => { q with queues := q.queues.set 2 rest })) :=
    updPort s p (f := fun q => { q with queues := q.queues.set 2 rest }) fun _ => rfl
  exact hu.trans ((dropped _ p 2 gone.length).trans (dropSends _ gone))

theorem makeRoom (s : State) (p : Fin 2) (n k : Nat) : SendOnly s (s.makeRoom p n k) := by
  induction k generalizing s with
  | zero => exact refl s
  | succ k ih =>
    unfold State.makeRoom
    split
    · exact refl s
    · split
      next e => exact (dropOldest e).trans (ih _)
      next => exact refl s

theorem enqueue (s : State) (p : Fin 2) (c : Fin 4) (m : List QFrame) : SendOnly s (s.enqueue p c m) := by
  unfold State.enqueue
  dsimp only
  split
  · exact updPort _ _ fun _ => rfl
  · split
    · split
      · exact updPort _ _ fun _ => rfl
      · split
        · exact (makeRoom _ _ _ _).trans (updPort _ _ fun _ => rfl)
        · exact (makeRoom _ _ _ _).trans ((dropped _ _ _ _).trans (dropSends _ _))
    · exact (dropped _ _ _ _).trans (dropSends _ _)

theorem nextTag (s : State) : SendOnly s s.nextTag.2 := ⟨fun _ => rfl, rfl⟩

theorem sendHbeat (s : State) (p : Fin 2) (addr : Nat) : SendOnly s (s.sendHbeat p addr) := (nextTag s).trans (enqueue _ _ _ _)

theorem sendLossEvt (s : State) (code addr : Nat) : SendOnly s (s.sendLossEvt code addr) := by
  have hp (tag : Nat) (p : Fin 2) (t : State) : SendOnly t (if t.portHeld p then
      t.enqueue p 2 (asQueue none [mkFrame (t.ownHead p 2 7 2 0 tag false) ([1, 0, 0, 0] ++ le16 code ++ le16 addr ++ le32 t.fr)]) else t) := by
    split
    · exact enqueue _ _ _ _
    · exact refl t
  unfold State.sendLossEvt
  split
  · exact refl s
  · exact (nextTag s).trans ((hp _ 0 _).trans (hp _ 1 _))

end SendOnly

end Sys2Proof.Machine
end

section
/-! Beacons: what an accepted one sets, and the timeouts of the sync state (Table FAB-7, R480, R481). -/

namespace Sys2Proof.Machine

/-! ### The parts of an accepted beacon -/

/-- Offset of a beacon from a source whose last one is stamped (R481). -/
def State.beaconOffset (s : State) (p : Fin 2) (f : AmFrame) : Option Int :=
  let prev := if (s.ports.get p).source = some (headOf f).txidx ∧ s.since (s.ports.get p).bcnAt ≤ 25 then (s.ports.get p).prevRx else none
  if bit (getB (bodyOf f) 14) 0 then prev.map (fun r => wrapSf (r - (get32 (bodyOf f) 4 : Int))) else none

/-- The port with the source and the stamp of an accepted beacon at frame `now`. -/
def PortSt.stamped (q : PortSt) (f : AmFrame) (off : Int) (now : BitVec 32) : PortSt :=
  { q with source := some (headOf f).txidx, depth := some (get16 (bodyOf f) 8 / 4096), srcSync := bit (getB (bodyOf f) 14) 1, bcnAt := now,
           scrc := BitVec.ofNat 32 (get32 (bodyOf f) 10), bcnFlags := getB (bodyOf f) 14, prevRx := some (wrapSf off) }

/-- The port with an offset taken at frame `now`. -/
def PortSt.offsetAt (q : PortSt) (v : Int) (now : BitVec 32) : PortSt :=
  { q with offset := v, offAt := some now, offsets := (v :: q.offsets).take 8 }

/-- An accepted beacon in the port and the root in use. -/
def State.beaconIn (s : State) (p : Fin 2) (f : AmFrame) (off : Int) : State :=
  let t := s.updPort p (fun q => q.stamped f off s.frame.counter)
  { t with fab := { t.fab with root := some (BitVec.ofNat 64 (getN (bodyOf f) 16 8)), lastBcn := t.frame.counter } }

/-- The offset, where there is one. -/
def State.offsetIn (s : State) (p : Fin 2) (o : Option Int) : State :=
  match o with
  | some v => s.updPort p (fun q => q.offsetAt v s.frame.counter)
  | none => s

/-- The segment that a beacon names, for a port that learns it (R469). -/
def State.segIn (s : State) (p : Fin 2) (f : AmFrame) : State :=
  if s.par (netId p 2) = 0xFFFF ∧ !s.downstream p then s.updPort p (fun q => { q with seg := some (get16 (bodyOf f) 8 % 1024) }) else s

/-- The frame counter realigned by the first beacon of the upstream port. -/
def State.realignIn (s : State) (p : Fin 2) (f : AmFrame) (off : Int) (first : Bool) : State :=
  if s.beaconTrim && first && s.upstream == some p then
    (s.realignTo (get32 (bodyOf f) 0) off).updPort p (fun q => { q with prevRx := some (wrapSf (off - 50000 * ((off + 25000) / 50000))) })
  else s

/-- The sync state and the realignment. -/
def State.syncIn (s : State) (p : Fin 2) (f : AmFrame) (off : Int) (o : Option Int) : State :=
  (if s.beaconTrim then s.syncStep p o else s).realignIn p f off ((s.ports.get p).sync == .unsynced)

/-- What follows from the schedule's checksum and the plan's flag. -/
def State.flagsIn (s : State) (p : Fin 2) (f : AmFrame) : State :=
  let t := s.checkCyc p (get16 (bodyOf f) 8 % 1024)
  if !bit (getB (bodyOf f) 14) 2 && t.fab.plan.isSome then t.endPlan else t

/-- The state in which the sync state follows a beacon. -/
def State.beaconSeen (s : State) (p : Fin 2) (f : AmFrame) (off : Int) : State :=
  (((s.afterWake p (get16 (bodyOf f) 8 / 4096) (BitVec.ofInt 32 ((s.frame.superframe.toNat : Int) + off / 1000000))).beaconIn p f off).offsetIn p
    (s.beaconOffset p f)).segIn p f

theorem takeBeacon_eq (s : State) (p : Fin 2) (f : AmFrame) (off : Int) :
    s.takeBeacon p f off = ((s.beaconSeen p f off).syncIn p f off (s.beaconOffset p f)).flagsIn p f := rfl

/-! ### Before the sync state -/

/-- The ports that send again with a beacon after a wake. -/
def State.unsilenced (s : State) (p : Fin 2) : State :=
  forPorts s (fun x t => if x == p || t.downstream x then t.updPort x (fun q => { q with silent := false }) else t)

theorem afterWake_ports (s : State) (p : Fin 2) (h : Nat) (at_ : BitVec 32) :
    (s.afterWake p h at_).ports = s.ports ∨ (s.afterWake p h at_).ports = (s.unsilenced p).ports := by
  unfold State.afterWake
  dsimp only
  split
  · exact .inl rfl
  · refine .inr ?_
    rw [show forPorts s (fun x t => if x == p || t.downstream x then t.updPort x (fun q => { q with silent := false }) else t) = s.unsilenced p from rfl]
    generalize s.unsilenced p = t
    split
    · rfl
    · refine only_ports (w := allBut .ports) ?_ (by simp)
      repeat' split
      all_goals simp

/-- Of a port a wake's first beacon changes only that it sends again. -/
theorem afterWake_port {α : Type} (g : PortSt → α) (hg : ∀ q, g { (q : PortSt) with silent := false } = g q) (s : State) (p : Fin 2) (h : Nat)
    (at_ : BitVec 32) (q : Fin 2) : g ((s.afterWake p h at_).ports.get q) = g (s.ports.get q) := by
  have step (x : Fin 2) (t : State) :
      g ((if x == p || t.downstream x then t.updPort x (fun q => { q with silent := false }) else t).ports.get q) = g (t.ports.get q) := by
    split
    · by_cases hq : q = x
      · rw [hq, updPort_get, hg]
      · rw [updPort_get_of_ne hq]
    · rfl
  rcases afterWake_ports s p h at_ with hw | hw
  · rw [hw]
  · rw [hw]
    exact (step 1 _).trans (step 0 _)

theorem afterWake_frame (s : State) (p : Fin 2) (h : Nat) (at_ : BitVec 32) : (s.afterWake p h at_).frame = s.frame :=
  only_frame (w := allBut .frame) (by simp) (by simp)

theorem afterWake_params (s : State) (p : Fin 2) (h : Nat) (at_ : BitVec 32) : (s.afterWake p h at_).params = s.params :=
  only_params (w := allBut .params) (by simp) (by simp)

/-- What an accepted beacon leaves of a port, apart from the segment it learns. -/
theorem segIn_port {α : Type} (g : PortSt → α) (hg : ∀ q v, g { (q : PortSt) with seg := v } = g q) (s : State) (p : Fin 2) (f : AmFrame) :
    g ((s.segIn p f).ports.get p) = g (s.ports.get p) := by
  unfold State.segIn
  split
  · rw [updPort_get, hg]
  · rfl

theorem offsetIn_port {α : Type} (g : PortSt → α) (hg : ∀ q v now, g (PortSt.offsetAt q v now) = g q) (s : State) (p : Fin 2) (o : Option Int) :
    g ((s.offsetIn p o).ports.get p) = g (s.ports.get p) := by
  unfold State.offsetIn
  split
  · rw [updPort_get, hg]
  · rfl

section
variable (s : State) (p : Fin 2) (f : AmFrame) (off : Int)

theorem beaconIn_get : ((s.beaconIn p f off).ports.get p) = (s.ports.get p).stamped f off s.frame.counter := updPort_get _ _ _

/-- The stamps of a beacon stand when the sync state follows it. -/
theorem beaconSeen_stamped {α : Type} (g : PortSt → α) (hs : ∀ q v, g { (q : PortSt) with seg := v } = g q)
    (ho : ∀ q v now, g (PortSt.offsetAt q v now) = g q) {v : BitVec 32 → α} (hv : ∀ q now, g (PortSt.stamped q f off now) = v now) :
    g ((s.beaconSeen p f off).ports.get p) = v s.frame.counter := by
  rw [State.beaconSeen, segIn_port g hs, offsetIn_port g ho, beaconIn_get, hv, afterWake_frame]

/-- What the beacon does not touch stands as before. -/
theorem beaconSeen_keeps {α : Type} (g : PortSt → α) (hs : ∀ q v, g { (q : PortSt) with seg := v } = g q)
    (ho : ∀ q v now, g (PortSt.offsetAt q v now) = g q) (hv : ∀ q now, g (PortSt.stamped q f off now) = g q)
    (hw : ∀ q, g { (q : PortSt) with silent := false } = g q) : g ((s.beaconSeen p f off).ports.get p) = g (s.ports.get p) := by
  rw [State.beaconSeen, segIn_port g hs, offsetIn_port g ho, beaconIn_get, hv, afterWake_port g hw]

variable {s p f} in
theorem beaconSeen_offset {v : Int} (h : s.beaconOffset p f = some v) : ((s.beaconSeen p f off).ports.get p).offset = v := by
  rw [State.beaconSeen, segIn_port PortSt.offset (fun _ _ => rfl), h]
  exact congrArg PortSt.offset (updPort_get _ _ _)

theorem offsetIn_off (o : Option Int) : (s.offsetIn p o).params = s.params ∧ (s.offsetIn p o).fab = s.fab := by
  unfold State.offsetIn
  split <;> exact ⟨rfl, rfl⟩

theorem segIn_off : (s.segIn p f).params = s.params ∧ (s.segIn p f).fab = s.fab := by
  unfold State.segIn
  split <;> exact ⟨rfl, rfl⟩

theorem beaconSeen_params : (s.beaconSeen p f off).params = s.params :=
  (segIn_off _ _ _).1.trans ((offsetIn_off _ _ _).1.trans (afterWake_params s p _ _))

theorem beaconSeen_root : (s.beaconSeen p f off).fab.root = some (BitVec.ofNat 64 (getN (bodyOf f) 16 8)) :=
  congrArg FabSt.root ((segIn_off _ _ _).2.trans (offsetIn_off _ _ _).2)

end

/-! ### The sync state (Table FAB-7) -/

/-- Reception begins the sync state, or ends HOLDOVER. -/
def State.syncFirst (s : State) (p : Fin 2) : State :=
  match (s.ports.get p).sync with
  | .unsynced => s.updPort p (fun q => { q with sync := .acquiring, inTol := 0 })
  | .holdover => s.updPort p (fun q => { q with sync := .synced })
  | _ => s

/-- Offset `v` judged in SYNCED or ACQUIRING. -/
def State.syncJudge (s : State) (p : Fin 2) (v : Int) : State :=
  match (s.ports.get p).sync with
  | .synced => if 5000 < v.natAbs then (s.updPort p (fun q => { q with sync := .acquiring, inTol := 0 })).syncEv 1 else s
  | .acquiring =>
    if v.natAbs ≤ 2000 then
      if 2 ≤ (s.ports.get p).inTol + 1 then (s.updPort p (fun q => { q with sync := .synced, inTol := 0 })).syncEv 2
      else s.updPort p (fun q => { q with inTol := (s.ports.get p).inTol + 1 })
    else s.updPort p (fun q => { q with inTol := 0 })
  | _ => s

theorem syncStep_none (s : State) (p : Fin 2) : s.syncStep p none = s.syncFirst p := rfl
theorem syncStep_some (s : State) (p : Fin 2) (v : Int) : s.syncStep p (some v) = (s.syncFirst p).syncJudge p v := rfl

/-- A port after reception began the sync state. -/
def PortSt.syncFirst (q : PortSt) : PortSt :=
  match q.sync with
  | .unsynced => { q with sync := .acquiring, inTol := 0 }
  | .holdover => { q with sync := .synced }
  | _ => q

theorem syncFirst_get (s : State) (p : Fin 2) : (s.syncFirst p).ports.get p = (s.ports.get p).syncFirst := by
  unfold State.syncFirst PortSt.syncFirst
  split
  · rw [updPort_get]
  · rw [updPort_get]
  · rfl

theorem syncEv_ports (s : State) (k : Nat) : (s.syncEv k).ports = s.ports := ev_ports _ _ _

theorem syncJudge_synced {s : State} {p : Fin 2} (h : (s.ports.get p).sync = .synced) (v : Int) :
    ((s.syncJudge p v).ports.get p).sync = if 5000 < v.natAbs then .acquiring else .synced := by
  unfold State.syncJudge
  simp only [h]
  split
  · rw [syncEv_ports, updPort_get]
  · exact h

theorem syncJudge_acquiring {s : State} {p : Fin 2} (h : (s.ports.get p).sync = .acquiring) (v : Int) :
    ((s.syncJudge p v).ports.get p).sync = if v.natAbs ≤ 2000 ∧ 1 ≤ (s.ports.get p).inTol then .synced else .acquiring := by
  unfold State.syncJudge
  simp only [h]
  by_cases hv : v.natAbs ≤ 2000
  · by_cases hn : 1 ≤ (s.ports.get p).inTol
    · rw [if_pos hv, if_pos (Nat.succ_le_succ hn), if_pos ⟨hv, hn⟩, syncEv_ports, updPort_get]
    · rw [if_pos hv, if_neg (by omega), if_neg (fun k => hn k.2), updPort_get]
      exact h
  · rw [if_neg hv, if_neg (fun k => hv k.1), updPort_get]
    exact h

theorem syncStep_acquiring {s : State} {p : Fin 2} (h : (s.ports.get p).sync = .acquiring) (v : Int) :
    ((s.syncStep p (some v)).ports.get p).sync = if v.natAbs ≤ 2000 ∧ 1 ≤ (s.ports.get p).inTol then .synced else .acquiring := by
  have hf : (s.syncFirst p).ports.get p = s.ports.get p := by rw [syncFirst_get, PortSt.syncFirst, h]
  rw [syncStep_some, syncJudge_acquiring (by rw [hf, h]), hf]

theorem syncStep_synced {s : State} {p : Fin 2} (h : (s.ports.get p).sync = .synced ∨ (s.ports.get p).sync = .holdover) (v : Int) :
    ((s.syncStep p (some v)).ports.get p).sync = if 5000 < v.natAbs then .acquiring else .synced := by
  rw [syncStep_some, syncJudge_synced]
  rw [syncFirst_get, PortSt.syncFirst]
  rcases h with h | h <;> simp only [h]

theorem syncStep_unsynced {s : State} {p : Fin 2} (h : (s.ports.get p).sync = .unsynced) (o : Option Int) :
    ((s.syncStep p o).ports.get p).sync = .acquiring := by
  have hf : (s.syncFirst p).ports.get p = { s.ports.get p with sync := .acquiring, inTol := 0 } := by rw [syncFirst_get, PortSt.syncFirst, h]
  cases o with
  | none => rw [syncStep_none, hf]
  | some v =>
    rw [syncStep_some, syncJudge_acquiring (by rw [hf]), hf]
    simp

/-- Of a port the sync step changes the sync state and its count only. -/
theorem syncStep_port {α : Type} (g : PortSt → α) (hg : ∀ q y n, g { (q : PortSt) with sync := y, inTol := n } = g q) (s : State) (p : Fin 2)
    (o : Option Int) : g ((s.syncStep p o).ports.get p) = g (s.ports.get p) := by
  have hf (t : State) : g ((t.syncFirst p).ports.get p) = g (t.ports.get p) := by
    rw [syncFirst_get, PortSt.syncFirst]
    split
    · exact hg _ _ _
    · exact hg _ _ _
    · rfl
  cases o with
  | none => exact hf s
  | some v =>
    refine Eq.trans ?_ (hf s)
    rw [syncStep_some]
    unfold State.syncJudge
    split
    · split
      · rw [syncEv_ports, updPort_get, hg]
      · rfl
    · split
      · split
        · rw [syncEv_ports, updPort_get, hg]
        · rw [updPort_get]
          exact hg _ _ _
      · rw [updPort_get]
        exact hg _ _ _
    · rfl

theorem syncStep_fab (s : State) (p : Fin 2) (o : Option Int) : (s.syncStep p o).fab.offSends = s.fab.offSends := by
  have hf (t : State) : (t.syncFirst p).fab = t.fab := by
    unfold State.syncFirst
    split <;> rfl
  have hj (t : State) (v : Int) : (t.syncJudge p v).fab.offSends = t.fab.offSends := by
    unfold State.syncJudge
    split
    · split
      · exact (SendOnly.ev _ _ _).fab
      · rfl
    · split
      · split
        · exact (SendOnly.ev _ _ _).fab
        · rfl
      · rfl
    · rfl
  cases o with
  | none => exact congrArg FabSt.offSends (hf s)
  | some v => exact (hj _ v).trans (congrArg FabSt.offSends (hf s))

/-! ### The whole beacon -/

/-- Of a port the realignment changes the stamp only. -/
theorem realignIn_port {α : Type} (g : PortSt → α) (hg : ∀ q v, g { (q : PortSt) with prevRx := v } = g q) (s : State) (p : Fin 2) (f : AmFrame)
    (off : Int) (first : Bool) : g ((s.realignIn p f off first).ports.get p) = g (s.ports.get p) := by
  unfold State.realignIn
  split
  · rw [updPort_get, hg]
    rfl
  · rfl

theorem realignIn_fab (s : State) (p : Fin 2) (f : AmFrame) (off : Int) (first : Bool) : (s.realignIn p f off first).fab = s.fab := by
  unfold State.realignIn
  split <;> rfl

/-- A port apart from its class queues and the standing of its schedule. -/
def PortSt.offFlags (q : PortSt) : PortSt := { q.offQueues with cycBad := false }

theorem checkCyc_port (s : State) (p : Fin 2) (seg : Nat) : ((s.checkCyc p seg).ports.get p).offFlags = (s.ports.get p).offFlags := by
  unfold State.checkCyc
  dsimp only
  split
  · rfl
  · split
    · rfl
    · split
      · rw [evFree_ports, updPort_get]
        rfl
      · rw [updPort_get]
        rfl

theorem checkCyc_root (s : State) (p : Fin 2) (seg : Nat) : (s.checkCyc p seg).fab.root = s.fab.root := by
  unfold State.checkCyc
  dsimp only
  split
  · rfl
  · split
    · rfl
    · split
      · exact (SendOnly.evFree _ _).fabField FabSt.root fun _ => rfl
      · rfl

theorem flagsIn_port (s : State) (p : Fin 2) (f : AmFrame) : ((s.flagsIn p f).ports.get p).offFlags = (s.ports.get p).offFlags := by
  unfold State.flagsIn
  dsimp only
  split <;> exact checkCyc_port _ _ _

theorem flagsIn_root (s : State) (p : Fin 2) (f : AmFrame) : (s.flagsIn p f).fab.root = s.fab.root := by
  unfold State.flagsIn
  dsimp only
  split <;> exact checkCyc_root _ _ _

theorem acceptsBeacon_heardTx (s : State) (p : Fin 2) (f : AmFrame) (h i : Nat) :
    (s.heardTx p f).acceptsBeacon p h i = s.acceptsBeacon p h i := by
  have hs := heardTx_keeps PortSt.source (fun _ _ => rfl) s p f
  have hb := heardTx_keeps PortSt.bcnAt (fun _ _ => rfl) s p f
  have hd := heardTx_keeps PortSt.depth (fun _ _ => rfl) s p f
  have hn (v : BitVec 32) : (s.heardTx p f).since v = s.since v := rfl
  unfold State.acceptsBeacon
  simp only [hs, hb, hd, hn]

theorem beaconOffset_heardTx (s : State) (p : Fin 2) (f : AmFrame) : (s.heardTx p f).beaconOffset p f = s.beaconOffset p f := by
  have hs := heardTx_keeps PortSt.source (fun _ _ => rfl) s p f
  have hb := heardTx_keeps PortSt.bcnAt (fun _ _ => rfl) s p f
  have hr := heardTx_keeps PortSt.prevRx (fun _ _ => rfl) s p f
  have hn (v : BitVec 32) : (s.heardTx p f).since v = s.since v := rfl
  unfold State.beaconOffset
  simp only [hs, hb, hr, hn]

/-- An accepted beacon is taken; an HBEAT may follow it (R507). -/
theorem beaconReceived_takes {p : Fin 2} {f : AmFrame} {off : Int} {s : State} (hh : s.hears p f 0 = true) (hr : s.isRoot = false)
    (hs : s.par (netId p 2) = 0xFFFF ∨ s.par (netId p 2) = get16 (bodyOf f) 8 % 1024)
    (ho : s.fab.root = none ∨ s.fab.root = some (BitVec.ofNat 64 (getN (bodyOf f) 16 8)))
    (ha : s.acceptsBeacon p (get16 (bodyOf f) 8 / 4096) (headOf f).txidx = true) :
    ∃ t, exec (.beaconReceived p f off) s = .next t ∧ SendOnly ((s.heardTx p f).takeBeacon p f off) t := by
  have hseg : ¬ ((s.heardTx p f).par (netId p 2) ≠ 0xFFFF ∧ (s.heardTx p f).par (netId p 2) ≠ get16 (bodyOf f) 8 % 1024) := fun k =>
    hs.elim k.1 k.2
  have hroot : ¬ ((if (s.heardTx p f).isRoot then some Config.uid else (s.heardTx p f).fab.root).isSome ∧
      (if (s.heardTx p f).isRoot then some Config.uid else (s.heardTx p f).fab.root) ≠ some (BitVec.ofNat 64 (getN (bodyOf f) 16 8))) := by
    rw [show (s.heardTx p f).isRoot = false from hr, show (s.heardTx p f).fab.root = s.fab.root from rfl]
    rcases ho with ho | ho <;> simp [ho]
  have hacc : ¬ ((s.heardTx p f).isRoot || !(s.heardTx p f).acceptsBeacon p (get16 (bodyOf f) 8 / 4096) (headOf f).txidx) = true := by
    rw [show (s.heardTx p f).isRoot = false from hr, acceptsBeacon_heardTx, ha]
    decide
  refine ⟨_, congrArg Host.Outcome.next ((rx_hears hh _).trans ((if_neg hseg).trans ((if_neg hroot).trans (if_neg hacc)))), ?_⟩
  dsimp only
  split
  · exact SendOnly.sendHbeat _ _ _
  · exact SendOnly.refl _

/-- Of a port the sync state and the realignment change that state, its count and the stamp only. -/
theorem syncIn_port {α : Type} (g : PortSt → α) (hg : ∀ q y n v, g { (q : PortSt) with sync := y, inTol := n, prevRx := v } = g q) (s : State)
    (p : Fin 2) (f : AmFrame) (off : Int) (o : Option Int) : g ((s.syncIn p f off o).ports.get p) = g (s.ports.get p) := by
  unfold State.syncIn
  rw [realignIn_port g fun q v => hg q q.sync q.inTol v]
  split
  · exact syncStep_port g (fun q y n => hg q y n q.prevRx) s p o
  · rfl

theorem syncIn_root (s : State) (p : Fin 2) (f : AmFrame) (off : Int) (o : Option Int) : (s.syncIn p f off o).fab.root = s.fab.root := by
  unfold State.syncIn
  rw [realignIn_fab]
  split
  · exact (congrArg FabSt.root (syncStep_fab s p o) :)
  · rfl

/-- The stamp stands where the beacon is not the first one. -/
theorem syncIn_prevRx {s : State} {p : Fin 2} (h : (s.ports.get p).sync ≠ .unsynced) (f : AmFrame) (off : Int) (o : Option Int) :
    ((s.syncIn p f off o).ports.get p).prevRx = (s.ports.get p).prevRx := by
  have hf : ((s.ports.get p).sync == .unsynced) = false := beq_false_of_ne h
  unfold State.syncIn State.realignIn
  rw [hf, Bool.and_false, Bool.false_and, if_neg Bool.false_ne_true]
  split
  · exact syncStep_port PortSt.prevRx (fun _ _ _ => rfl) s p o
  · rfl

theorem syncIn_sync {s : State} (h : s.par 0x0010 = 1) (p : Fin 2) (f : AmFrame) (off : Int) (o : Option Int) :
    ((s.syncIn p f off o).ports.get p).sync = ((s.syncStep p o).ports.get p).sync := by
  have ht : s.beaconTrim = true := beq_iff_eq.mpr h
  rw [State.syncIn, ht, if_pos rfl, realignIn_port PortSt.sync fun _ _ => rfl]

/-- The state after the sync state of an accepted beacon. -/
def State.beaconJudged (s : State) (p : Fin 2) (f : AmFrame) (off : Int) : State :=
  ((s.heardTx p f).beaconSeen p f off).syncIn p f off (s.beaconOffset p f)

section
variable {p : Fin 2} {f : AmFrame} {off : Int} {s t : State} (ht : SendOnly ((s.heardTx p f).takeBeacon p f off) t)
include ht

theorem taken_port {α : Type} (g : PortSt → α) (hg : ∀ q, g (PortSt.offFlags q) = g q) :
    g (t.ports.get p) = g ((s.beaconJudged p f off).ports.get p) := by
  have hq (q : PortSt) : g q.offQueues = g q := (hg q.offQueues).symm.trans (hg q)
  rw [ht.portField g hq, takeBeacon_eq, ← hg, flagsIn_port, hg, beaconOffset_heardTx]
  rfl

theorem taken_root : t.fab.root = some (BitVec.ofNat 64 (getN (bodyOf f) 16 8)) := by
  rw [ht.fabField FabSt.root fun _ => rfl, takeBeacon_eq, flagsIn_root, syncIn_root, beaconSeen_root]

omit ht in
theorem seen_sync : (((s.heardTx p f).beaconSeen p f off).ports.get p).sync = (s.ports.get p).sync :=
  (beaconSeen_keeps _ p f off PortSt.sync (fun _ _ => rfl) (fun _ _ _ => rfl) (fun _ _ => rfl) fun _ => rfl).trans
    (heardTx_keeps PortSt.sync (fun _ _ => rfl) s p f)

omit ht in
theorem seen_inTol : (((s.heardTx p f).beaconSeen p f off).ports.get p).inTol = (s.ports.get p).inTol :=
  (beaconSeen_keeps _ p f off PortSt.inTol (fun _ _ => rfl) (fun _ _ _ => rfl) (fun _ _ => rfl) fun _ => rfl).trans
    (heardTx_keeps PortSt.inTol (fun _ _ => rfl) s p f)

omit ht in
theorem seen_trim (hp : s.par 0x0010 = 1) : ((s.heardTx p f).beaconSeen p f off).par 0x0010 = 1 :=
  (par_of_params (beaconSeen_params (s.heardTx p f) p f off) _).trans hp

theorem taken_stamps : (t.ports.get p).source = some (headOf f).txidx ∧ (t.ports.get p).depth = some (get16 (bodyOf f) 8 / 4096) ∧
    (t.ports.get p).bcnAt = s.frame.counter ∧ ((s.ports.get p).sync ≠ .unsynced → (t.ports.get p).prevRx = some (wrapSf off)) := by
  refine ⟨?_, ?_, ?_, fun hn => ?_⟩
  · rw [taken_port ht PortSt.source fun _ => rfl, State.beaconJudged, syncIn_port PortSt.source fun _ _ _ _ => rfl]
    exact beaconSeen_stamped _ p f off PortSt.source (fun _ _ => rfl) (fun _ _ _ => rfl) (v := fun _ => _) fun _ _ => rfl
  · rw [taken_port ht PortSt.depth fun _ => rfl, State.beaconJudged, syncIn_port PortSt.depth fun _ _ _ _ => rfl]
    exact beaconSeen_stamped _ p f off PortSt.depth (fun _ _ => rfl) (fun _ _ _ => rfl) (v := fun _ => _) fun _ _ => rfl
  · rw [taken_port ht PortSt.bcnAt fun _ => rfl, State.beaconJudged, syncIn_port PortSt.bcnAt fun _ _ _ _ => rfl]
    exact beaconSeen_stamped _ p f off PortSt.bcnAt (fun _ _ => rfl) (fun _ _ _ => rfl) (v := id) fun _ _ => rfl
  · rw [taken_port ht PortSt.prevRx fun _ => rfl, State.beaconJudged, syncIn_prevRx (by rwa [seen_sync])]
    exact beaconSeen_stamped _ p f off PortSt.prevRx (fun _ _ => rfl) (fun _ _ _ => rfl) (v := fun _ => _) fun _ _ => rfl

theorem taken_sync (hp : s.par 0x0010 = 1) : (t.ports.get p).sync =
    ((((s.heardTx p f).beaconSeen p f off).syncStep p (s.beaconOffset p f)).ports.get p).sync := by
  rw [taken_port ht PortSt.sync fun _ => rfl, State.beaconJudged, syncIn_sync (seen_trim hp)]

theorem taken_offset {v : Int} (hv : s.beaconOffset p f = some v) : (t.ports.get p).offset = v := by
  rw [taken_port ht PortSt.offset fun _ => rfl, State.beaconJudged, syncIn_port PortSt.offset fun _ _ _ _ => rfl]
  exact beaconSeen_offset off ((beaconOffset_heardTx s p f).trans hv)

end

theorem beaconOffset_some {p : Fin 2} {f : AmFrame} {s : State} {r : Int} (hb : getB (bodyOf f) 14 % 2 = 1) (hr : (s.ports.get p).prevRx = some r)
    (hs : (s.ports.get p).source = some (headOf f).txidx) (ha : s.since (s.ports.get p).bcnAt ≤ 25) :
    s.beaconOffset p f = some (wrapSf (r - (get32 (bodyOf f) 4 : Int))) := by
  have hbit : bit (getB (bodyOf f) 14) 0 = true := by rw [bit, Nat.testBit_zero, hb]; rfl
  rw [State.beaconOffset, hbit, if_pos rfl, if_pos ⟨hs, ha⟩, hr]
  rfl

/-! ### A beacon of another segment, and the timeouts -/

theorem beaconReceived_foreign {p : Fin 2} {f : AmFrame} {off : Int} {s : State} (hh : s.hears p f 0 = true) (hn : s.par (netId p 2) ≠ 0xFFFF)
    (hs : s.par (netId p 2) ≠ get16 (bodyOf f) 8 % 1024) :
    Answers (.beaconReceived p f off) s (fun t => t.faultActive 0x0604 = true ∧ (t.ports.get p).sync = (s.ports.get p).sync) := by
  have hseg : (s.heardTx p f).par (netId p 2) ≠ 0xFFFF ∧ (s.heardTx p f).par (netId p 2) ≠ get16 (bodyOf f) 8 % 1024 := ⟨hn, hs⟩
  refine ⟨_, congrArg Host.Outcome.next ((rx_hears hh _).trans (if_pos hseg)), (raiseAs_faultActive ..).trans rfl, ?_⟩
  rw [raise_ports]
  exact heardTx_keeps PortSt.sync (fun _ _ => rfl) s p f

/-- The port without reception, and without sync. -/
def PortSt.unsynced (q : PortSt) : PortSt :=
  { q with sync := .unsynced, source := none, depth := none, srcSync := false, prevRx := none, inTol := 0 }

theorem beaconTimeout_ends {p : Fin 2} {s : State} (hn : s.netOn p = true) (hr : s.isRoot = false)
    (hs : (s.ports.get p).sync = .acquiring ∨ (s.ports.get p).sync = .holdover) (hg : 20 * s.par 0x6004 < s.since (s.ports.get p).bcnAt) :
    Answers (.beaconTimeout p) s (fun t => (t.ports.get p).sync = .unsynced ∧ (t.ports.get p).source = none ∧ (t.ports.get p).depth = none ∧
      t.faults.events.getLast? = some (0x0603, 0, s.frame.counter)) := by
  have hx : execBeaconTimeout p s = .next (
      let t := (s.updPort p PortSt.unsynced).syncEv 0
      if both2.all (fun p => (t.ports.get p).source.isNone) then { t with fab := { t.fab with root := none } } else t) := by
    unfold execBeaconTimeout
    rcases hs with hs | hs <;> simp only [hn, hr, hs, if_pos hg, Bool.not_true, Bool.or_false, Bool.false_eq_true, if_false] <;> rfl
  have hport : (((s.updPort p PortSt.unsynced).syncEv 0).ports.get p) = (s.ports.get p).unsynced := by rw [syncEv_ports, updPort_get]
  have hlast : ((s.updPort p PortSt.unsynced).syncEv 0).faults.events.getLast? = some (0x0603, 0, s.frame.counter) := ev_last _ _ _
  refine ⟨_, hx, ?_⟩
  dsimp only
  split <;> (simp only [hport, hlast]; exact ⟨rfl, rfl, rfl, trivial⟩)

theorem beaconTimeout_holds {p : Fin 2} {s : State} (hn : s.netOn p = true) (hr : s.isRoot = false) (hs : (s.ports.get p).sync = .synced)
    (hg : 20 < s.since (s.ports.get p).bcnAt) : exec (.beaconTimeout p) s = .next (s.updPort p (fun q => { q with sync := .holdover })) := by
  change execBeaconTimeout p s = _
  unfold execBeaconTimeout
  simp only [hn, hr, hs, if_pos hg, Bool.not_true, Bool.or_false, Bool.false_eq_true, if_false]

/-- Settles O28: what a beacon stamps, how it steps the synchronisation, and what its absence ends. -/
theorem beaconComplete : Obligations.BeaconComplete := by
  unfold Obligations.BeaconComplete
  refine ⟨fun p f off s hh hr hs ho ha => ?_, fun _ _ _ _ hh hn hs => beaconReceived_foreign hh hn hs,
    fun _ _ hn hr hs hg => beaconTimeout_holds hn hr hs hg, fun _ _ hn hr hs hg => beaconTimeout_ends hn hr hs hg⟩
  obtain ⟨t, hx, ht⟩ := beaconReceived_takes hh hr hs ho ha
  obtain ⟨h1, h2, h3, h4⟩ := taken_stamps ht
  refine ⟨t, hx, h1, h2, h3, taken_root ht, h4, fun hp hu => ?_, fun r hp hb hv hsrc hage => ?_⟩
  · rw [taken_sync ht hp]
    exact syncStep_unsynced (seen_sync.trans hu) _
  · have hv := beaconOffset_some hb hv hsrc hage
    refine ⟨taken_offset ht hv, fun hy => ?_, fun hy => ?_⟩
    · rw [taken_sync ht hp, hv, syncStep_acquiring (seen_sync.trans hy), seen_inTol]
    · rw [taken_sync ht hp, hv, syncStep_synced]
      rwa [seen_sync]

end Sys2Proof.Machine
end

section
/-! Segments: a SEG request that a router's policing drops. -/

namespace Sys2Proof.Machine

/-- A router whose upstream port is NET2, both ports held; NET1 has no token left for the commands of source 0x109. -/
def policedRouter : State :=
  { State.reset with
    clock := { State.reset.clock with pllc := .locked }
    params := { State.reset.params with running := [(0x6000, 1)], units := 0x60 }
    ports := ⟨{ claim := .held, index := 5, want := 5, seg := some 4,
                buckets := [{ src := 0x109, cmd := true, tokens := 0, last := 0 }, { src := 0x109, cmd := false, tokens := 0, last := 0 }] },
              { claim := .held, index := 6, want := 6, seg := some 7, source := some 1, depth := some 0, srcSync := true, sync := .synced }⟩ }

/-- A SEG request of node 0x109. -/
def segAsked : AmFrame :=
  mkFrame { cls := 0, kind := 2, disc := 0, txidx := 9, local_ := false, ftime := false, hops := 15, dmode := 1, resp := false, more := false,
            fseq := 0, dst := 0, src := 0x109, nh := 0x40, tag := 0 } (segBody 1 1 0xFFFF)

theorem policedRouter_meets : policedRouter.hears 0 segAsked 2 = true ∧ (headOf segAsked).resp = false ∧ policedRouter.portHeld 0 = true ∧
    policedRouter.isRoot = false ∧ policedRouter.isRouter = true ∧ policedRouter.upstream = some 1 ∧ policedRouter.portHeld 1 = true ∧
    (headOf segAsked).local_ = false ∧ (headOf segAsked).hops ≠ 0 := by
  decide +kernel

/-- Nothing is set aside for the next frame. -/
theorem policedRouter_drops : (match exec (.segRequest 0 segAsked) policedRouter with | .next t => t.fab.fwd.length | _ => 0) = 0 := by
  decide +kernel

/-- Refutes O29: its clause on a request that a router forwards leaves out policing (R514). In `policedRouter`, where policing is on as
its default is, the source has no token left and the request is dropped. -/
theorem not_segmentComplete : ¬ Obligations.SegmentComplete := by
  rintro ⟨-, -, hclause, -⟩
  obtain ⟨hh, hresp, hheld, hroot, hrouter, hup, hupHeld, hlocal, hhops⟩ := policedRouter_meets
  obtain ⟨t, ht, hfwd⟩ := hclause 0 1 segAsked policedRouter hh hresp hheld hroot hrouter hup (by decide) hupHeld hlocal hhops
  have hnone := policedRouter_drops
  rw [ht] at hnone
  simp [hfwd] at hnone

end Sys2Proof.Machine
end

section
/-! Forwarding of unicast frames with their drops, and completed transmissions (R476 to R480, R493, R496). -/

namespace Sys2Proof.Machine

/-! ### NACKs leave the rest -/

/-- A port apart from its class queues and its NACKs. -/
def PortSt.offNacks (q : PortSt) : PortSt := { q.offQueues with nacks := [], nackTx := 0 }

/-- A NACK may have been queued; nothing else of the ports and of the fabric differs. -/
structure NackOnly (s t : State) : Prop where
  port : ∀ q, (t.ports.get q).offNacks = (s.ports.get q).offNacks
  fab : t.fab.offSends = s.fab.offSends

namespace NackOnly

variable {s t u : State}

theorem trans (h : NackOnly s t) (k : NackOnly t u) : NackOnly s u := ⟨fun q => (k.port q).trans (h.port q), k.fab.trans h.fab⟩

theorem of_send (h : SendOnly s t) : NackOnly s t :=
  ⟨fun q => h.portField PortSt.offNacks (fun _ => rfl) q, h.fab⟩

theorem refl (s : State) : NackOnly s s := of_send (SendOnly.refl s)

theorem updPort (s : State) (p : Fin 2) {f : PortSt → PortSt} (hf : ∀ q, (f q).offNacks = q.offNacks) : NackOnly s (s.updPort p f) where
  port q := by
    by_cases h : q = p
    · rw [h, updPort_get, hf]
    · rw [updPort_get_of_ne h]
  fab := rfl

theorem portField {α : Type} (h : NackOnly s t) (g : PortSt → α) (hg : ∀ q, g (PortSt.offNacks q) = g q) (q : Fin 2) :
    g (t.ports.get q) = g (s.ports.get q) := by rw [← hg, h.port, hg]

theorem fabField {α : Type} (h : NackOnly s t) (g : FabSt → α) (hg : ∀ f, g (FabSt.offSends f) = g f) : g t.fab = g s.fab := by
  rw [← hg, h.fab, hg]

theorem sendNack (s : State) (p by_ : Fin 2) (a : AmHead) (reason where_ drops : Nat) : NackOnly s (s.sendNack p by_ a reason where_ drops) := by
  unfold State.sendNack
  split
  · exact refl s
  · refine trans (t := s.nextTag.2) (of_send (SendOnly.nextTag s)) ?_
    dsimp only
    split
    next e => exact (of_send (SendOnly.queueControl e)).trans (updPort _ _ fun _ => rfl)
    next => exact of_send (SendOnly.dropped _ _ _ _)

theorem nackDrop (s : State) (p by_ : Fin 2) (a : AmHead) (reason : Nat) : NackOnly s (s.nackDrop p by_ a reason) := by
  have put (l : List (Nat × Nat × Nat × Bool)) : NackOnly s (s.updPort by_ (fun q => { q with nacks := l })) :=
    updPort s by_ (f := fun q => { q with nacks := l }) fun _ => rfl
  unfold State.nackDrop
  dsimp only
  split
  · exact refl s
  · split
    · split
      · exact put _
      · exact (put _).trans (sendNack _ _ _ _ _ _ _)
    · exact (put _).trans (sendNack _ _ _ _ _ _ _)

end NackOnly

/-! ### FRAME_FOR_FORWARDING -/

theorem heardTx_portSeg (s : State) (p : Fin 2) (f : AmFrame) (q : Fin 2) : (s.heardTx p f).portSeg q = s.portSeg q := by
  by_cases h : q = p
  · rw [h]
    exact portSeg_of (s := s) (t := s.heardTx p f) rfl (heardTx_keeps PortSt.seg (fun _ _ => rfl) s p f)
  · exact portSeg_of (s := s) (t := s.heardTx p f) rfl (by rw [State.heardTx, updPort_get_of_ne h])

/-- What a port's indexes in use do not enter stands after a frame is heard, on either port. -/
theorem heardTx_port {α : Type} (g : PortSt → α) (hg : ∀ q b, g { q with inUse := b } = g q) (s : State) (p : Fin 2) (f : AmFrame) (q : Fin 2) :
    g ((s.heardTx p f).ports.get q) = g (s.ports.get q) := by
  by_cases h : q = p
  · rw [h]
    exact heardTx_keeps g hg s p f
  · rw [State.heardTx, updPort_get_of_ne h]

section
variable (s : State) (p : Fin 2) (f : AmFrame)

theorem heardTx_portAddr (q : Fin 2) : (s.heardTx p f).portAddr q = s.portAddr q := by
  rw [State.portAddr, State.portAddr, heardTx_portSeg, heardTx_port PortSt.index fun _ _ => rfl]

theorem heardTx_portHeld (q : Fin 2) : (s.heardTx p f).portHeld q = s.portHeld q := by
  rw [State.portHeld, State.portHeld, heardTx_port PortSt.claim fun _ _ => rfl]
  rfl

theorem heardTx_portSends (q : Fin 2) : (s.heardTx p f).portSends q = s.portSends q := by
  unfold State.portSends State.portLive
  dsimp only
  rw [heardTx_port PortSt.busOff fun _ _ => rfl, heardTx_port PortSt.stopped fun _ _ => rfl, heardTx_port PortSt.listenOnly fun _ _ => rfl,
    heardTx_port PortSt.silent fun _ _ => rfl]
  rfl

theorem heardTx_routeTo (dst : Nat) : (s.heardTx p f).routeTo dst = s.routeTo dst := by
  unfold State.routeTo
  simp only [heardTx_portSeg]
  rfl

end

/-- What a router does with a unicast frame for another node. -/
def State.relay (s : State) (p : Fin 2) (f : AmFrame) : State :=
  let t := s.heardTx p f
  if (headOf f).hops == 0 then ((t.updPort p (fun q => { q with hopDrops := inc16 q.hopDrops })).fwdEv 0).nackDrop p p (headOf f) 3
  else match s.routeTo (headOf f).dst with
    | none => ((t.updPort p (fun q => { q with routeDrops := inc16 q.routeDrops })).fwdEv 1).nackDrop p p (headOf f) 2
    | some (out, nh) => if s.portHeld out then t.forwardOn p out nh f else t

/-- A unicast frame that a router may forward. -/
def AmHead.relayed (a : AmHead) : Prop := a.local_ = false ∧ a.dmode = 0 ∧ a.kind ∉ [0, 1, 3, 4, 8]

/-- A drop's event and NACK leave the port's counters and the frames set aside. -/
theorem dropEv_then (p : Fin 2) (a : AmHead) (reason : Nat) (k : Fin 2) (s : State) :
    (∀ {α : Type} (g : PortSt → α), (∀ q, g (PortSt.offNacks q) = g q) → g ((((s.fwdEv k).nackDrop p p a reason)).ports.get p) = g (s.ports.get p)) ∧
      ((s.fwdEv k).nackDrop p p a reason).fab.fwd = s.fab.fwd := by
  have hn := NackOnly.nackDrop (s.fwdEv k) p p a reason
  have he := SendOnly.evIf ({ s with fab := { s.fab with fwdSeen := s.fab.fwdSeen.set k true } } : State) (!s.fab.fwdSeen.get k) 0x0607 k.val
  exact ⟨fun g hg => (hn.portField g hg p).trans ((NackOnly.of_send he).portField g hg p),
    (hn.fabField FabSt.fwd fun _ => rfl).trans (he.fabField FabSt.fwd fun _ => rfl)⟩

section
variable {p : Fin 2} {f : AmFrame} {s : State} (hh : s.hears p f (headOf f).kind = true) (hr : s.isRouter = true) (ha : (headOf f).relayed)
  (hp : s.portHeld p = true) (hs : s.portSends p = true) (ho : both2.any (fun q => s.portHeld q && (headOf f).dst == s.portAddr q) = false)
  (hn : (headOf f).nh = (s.ports.get p).index)
include hh hr ha hp hs ho hn

theorem forwarding_eq : exec (.frameForForwarding p f) s = .next (s.relay p f) := by
  obtain ⟨hl, hd, hk⟩ := ha
  simp only [List.mem_cons, List.not_mem_nil, or_false, not_or] at hk
  obtain ⟨k0, k1, k3, k4, k8⟩ := hk
  change execFrameForForwarding p f s = _
  have hrt : (s.heardTx p f).isRouter = true := hr
  unfold execFrameForForwarding
  rw [rx_hears hh]
  simp only [heardTx_portHeld, heardTx_portAddr, heardTx_portSends, heardTx_routeTo, heardTx_port PortSt.index fun _ _ => rfl, hrt, hl, hd, hp, hs, ho,
    hn, beq_false_of_ne k0, beq_false_of_ne k1, beq_false_of_ne k3, beq_false_of_ne k4, beq_false_of_ne k8, Bool.not_true, Bool.or_false,
    bne_self_eq_false, Bool.false_eq_true, if_false, beq_self_eq_true, if_true, show ((0 : Nat) == 1) = false from rfl]
  rfl

theorem forwarding_sets {out : Fin 2} {nh : Nat} (h0 : (headOf f).hops ≠ 0) (hroute : s.routeTo (headOf f).dst = some (out, nh))
    (hout : s.portHeld out = true) (hpol : s.par 0x6045 = 0) :
    Answers (.frameForForwarding p f) s (fun t => t.fab.fwd = s.fab.fwd ++
      [(out, Fin.ofNat 4 (headOf f).cls, p, reFrame f ((headOf f).hops - 1) nh (s.ports.get out).index)]) := by
  refine ⟨_, forwarding_eq hh hr ha hp hs ho hn, ?_⟩
  have hpo (src : Nat) (cmd : Bool) : (s.heardTx p f).police p src cmd = (s.heardTx p f, true) := if_pos hpol
  simp only [State.relay, beq_false_of_ne h0, Bool.false_eq_true, if_false, hroute, hout, if_true]
  unfold State.forwardOn
  simp only [hpo, ite_self, if_true, heardTx_port PortSt.index fun _ _ => rfl]
  rfl

theorem forwarding_hops (h0 : (headOf f).hops = 0) : Answers (.frameForForwarding p f) s (fun t => t.fab.fwd = s.fab.fwd ∧
    (t.ports.get p).hopDrops = inc16 (s.ports.get p).hopDrops) := by
  refine ⟨_, forwarding_eq hh hr ha hp hs ho hn, ?_⟩
  simp only [State.relay, h0, beq_self_eq_true, if_true]
  have hd := dropEv_then p (headOf f) 3 0 ((s.heardTx p f).updPort p (fun q => { q with hopDrops := inc16 q.hopDrops }))
  refine ⟨hd.2, (hd.1 PortSt.hopDrops fun _ => rfl).trans ?_⟩
  rw [updPort_get, heardTx_port PortSt.hopDrops fun _ _ => rfl]

theorem forwarding_lost (h0 : (headOf f).hops ≠ 0) (hroute : s.routeTo (headOf f).dst = none) :
    Answers (.frameForForwarding p f) s (fun t => t.fab.fwd = s.fab.fwd ∧ (t.ports.get p).routeDrops = inc16 (s.ports.get p).routeDrops) := by
  refine ⟨_, forwarding_eq hh hr ha hp hs ho hn, ?_⟩
  simp only [State.relay, beq_false_of_ne h0, Bool.false_eq_true, if_false, hroute]
  have hd := dropEv_then p (headOf f) 2 1 ((s.heardTx p f).updPort p (fun q => { q with routeDrops := inc16 q.routeDrops }))
  refine ⟨hd.2, (hd.1 PortSt.routeDrops fun _ => rfl).trans ?_⟩
  rw [updPort_get, heardTx_port PortSt.routeDrops fun _ _ => rfl]

end

/-! ### CAN_FRAME_TRANSMITTED -/

theorem transmitted_fab (p : Fin 2) (cls : Fin 4) (off gone : Nat) (s : State) :
    exec (.canFrameTransmitted p.castSucc cls off gone) s = .next (s.fabSent p cls off gone) := by
  match p with
  | 0 => rfl
  | 1 => rfl

/-- Start of frame, in ticks after the last superframe boundary. -/
def State.sofAt (s : State) (off gone : Nat) : Int := 10000 * (s.frame.index : Int) + off - gone

section
variable {p : Fin 2} {off gone : Nat} {s : State} (hs : s.portSends p = true) (hc : s.clock.settle = none)
include hs hc

theorem fabSent_live : ¬ (!s.portSends p ∨ s.clock.settle.isSome) := by simp [hs, hc]

/-- The beacon of this superframe, begun in frame 0. -/
theorem fabSent_beacon {f : AmFrame} (hb : (s.ports.get p).bcnTx = some f) (h0 : gone ≤ 10000 * s.frame.index + off)
    (h1 : 10000 * s.frame.index + off < gone + 10000) : s.fabSent p 1 off gone = s.updPort p (fun q =>
      { q with bcnTx := none, ptx := some ((10000 * s.frame.index + off - gone) * 2 / 5 * 25 / 2), lastTx := some f }) := by
  have hlow : (0 : Int) ≤ 10000 * (s.frame.index : Int) + off - gone := by omega
  have hhigh : 10000 * (s.frame.index : Int) + off - gone < 10000 := by omega
  have hst : (10000 * (s.frame.index : Int) + off - gone).toNat = 10000 * s.frame.index + off - gone := by omega
  unfold State.fabSent
  simp only [if_neg (fabSent_live hs hc), hlow, hhigh, and_self, if_true, hb, hst]

/-- A frame begun in the event window is the offered one. -/
theorem fabSent_offered (cls : Fin 4) (hw : gone + 10000 * max 1 (s.cyclicWindow p) ≤ 10000 * s.frame.index + off) :
    s.fabSent p cls off gone = s.sentOffered p cls (s.sofAt off gone) := by
  have hb : ¬ (cls = 1 ∧ (0 : Int) ≤ 10000 * (s.frame.index : Int) + off - gone ∧ 10000 * (s.frame.index : Int) + off - gone < 10000) := by
    omega
  have hcyc : ¬ ((0 : Int) ≤ 10000 * (s.frame.index : Int) + off - gone ∧
      10000 * (s.frame.index : Int) + off - gone < 10000 * (s.cyclicWindow p : Int)) := by omega
  unfold State.fabSent
  simp only [if_neg (fabSent_live hs hc), if_neg hb, if_neg hcyc]
  rfl

end

/-! ### A frame of the class queues completes -/

/-- The port with a queued frame sent. -/
def PortSt.sent (q : PortSt) (c : Fin 4) (e : QFrame) : PortSt :=
  { q with queues := q.queues.set c ((q.queues.get c).erase e), sentN := q.sentN.upd c inc16, lastTx := some e.frame }

/-- The own CLAIM or the pair's has completed (R465, R467). -/
def State.claimOut (s : State) (p : Fin 2) (pair : Bool) : State :=
  let s := s.claimsAnew p
  if pair then { s with twin := { s.twin with pairN := if s.twin.pairClaim = .claiming then 1 else 0 } }
  else s.updPort p (fun q => { q with claimN := if q.claim = .claiming then 1 else 0 })

/-- The state after a queued frame is sent, before its command completes. -/
def State.frameOut (s : State) (p : Fin 2) (c : Fin 4) (e : QFrame) : State :=
  let t := s.updPort p (fun q => q.sent c e)
  if (headOf e.frame).kind ≠ 1 then t else t.claimOut p (t.isPairClaim p e)

/-- The command that queued the frame completes with its last one. -/
def State.hopOut (s : State) (e : QFrame) : State :=
  match e.hop with
  | some h => if e.last ∧ s.stage h = .started then s.doneWith h (le32 s.fr) else s
  | none => s

theorem sentOffered_eq {p : Fin 2} {cls : Fin 4} {start : Int} {e : QFrame} {s : State} (ho : s.offered p = some (cls, e))
    (hw : 10000 * (s.cyclicWindow p : Int) ≤ start)
    (ht : (start : Rat) + 200 * busTime (s.par (netId p 0)) (s.par (netId p 1)) e.frame.data.length ≤ 200000) :
    s.sentOffered p cls start = (s.frameOut p cls e).hopOut e := by
  have hin : ¬ (cls ≠ cls ∨ start < 10000 * (s.cyclicWindow p : Int) ∨
      200000 < (start : Rat) + 200 * busTime (s.par (netId p 0)) (s.par (netId p 1)) e.frame.data.length) := by
    simp only [not_or, not_not, not_lt]
    exact ⟨trivial, hw, ht⟩
  unfold State.sentOffered
  simp only [ho, if_neg hin]
  rfl

theorem hopOut_sends (s : State) (e : QFrame) : SendOnly s (s.hopOut e) := by
  unfold State.hopOut
  split
  · split
    · exact SendOnly.doneWith _ _ _
    · exact SendOnly.refl s
  · exact SendOnly.refl s

/-- A command that its last frame completes is no longer started. -/
theorem hopOut_stage {s : State} {e : QFrame} {h : Nat} (he : e.hop = some h) (hl : e.last = true) : (s.hopOut e).stage h ≠ .started := by
  unfold State.hopOut
  simp only [he, hl, true_and]
  split
  · exact finish_idle _ _ _ _ _
  next hn => exact hn

theorem claimsAnew_port (s : State) (p : Fin 2) : (s.claimsAnew p).ports.get p = (s.ports.get p).anew (s.claimWaits p) := by
  have hg : ((s.recallClaims p).updPort p (fun q => { q with chunk := 0, mayClaim := true })).ports.get p = (s.ports.get p).anew (s.claimWaits p) := by
    rw [updPort_get, recallClaims_get]
    rfl
  unfold State.claimsAnew
  dsimp only
  split <;> exact hg

theorem claimOut_port {α : Type} (g : PortSt → α) (hg : ∀ q n, g { (q : PortSt) with claimN := n } = g q) (s : State) (p : Fin 2) (pair : Bool) :
    g ((s.claimOut p pair).ports.get p) = g ((s.ports.get p).anew (s.claimWaits p)) := by
  unfold State.claimOut
  dsimp only
  split
  · exact congrArg g (claimsAnew_port s p)
  · rw [updPort_get, hg, claimsAnew_port]

section
variable {p : Fin 2} {c : Fin 4} {e : QFrame} {s : State}

theorem frameOut_other (hk : (headOf e.frame).kind ≠ 1) : (s.frameOut p c e).ports.get p = (s.ports.get p).sent c e := by
  rw [State.frameOut, if_pos hk, updPort_get]

theorem frameOut_claim {α : Type} (g : PortSt → α) (hg : ∀ q n, g { (q : PortSt) with claimN := n } = g q) (hk : (headOf e.frame).kind = 1) :
    ∃ own, g ((s.frameOut p c e).ports.get p) = g (((s.ports.get p).sent c e).anew own) := by
  refine ⟨(s.updPort p (fun q => q.sent c e)).claimWaits p, ?_⟩
  rw [State.frameOut, if_neg (not_not.mpr hk), claimOut_port g hg, updPort_get]

/-- What taking CLAIMs back leaves of the port is as the frame sent leaves it. -/
theorem frameOut_keeps {α : Type} (g : PortSt → α) (hg : ∀ q n, g { (q : PortSt) with claimN := n } = g q) (ha : ∀ q own, g (PortSt.anew q own) = g q) :
    g ((s.frameOut p c e).ports.get p) = g ((s.ports.get p).sent c e) := by
  by_cases hk : (headOf e.frame).kind = 1
  · obtain ⟨own, h⟩ := frameOut_claim (s := s) (p := p) (c := c) g hg hk
    rw [h, ha]
  · rw [frameOut_other hk]

theorem frameOut_queue : if (headOf e.frame).kind = 1 then ∀ x ∈ ((s.frameOut p c e).ports.get p).queues.get 0, (headOf x.frame).kind ≠ 1
    else ((s.frameOut p c e).ports.get p).queues.get c = ((s.ports.get p).queues.get c).erase e := by
  split
  next hk =>
    obtain ⟨own, h⟩ := frameOut_claim (s := s) (p := p) (c := c) PortSt.queues (fun _ _ => rfl) hk
    have h0 (q : PortSt) : (q.anew own).queues.get 0 = (q.queues.get 0).filter (fun e => (headOf e.frame).kind != 1) := rfl
    rw [h, h0]
    intro x hx
    exact bne_iff_ne.mp (List.mem_filter.mp hx).2
  next hk =>
    rw [frameOut_other hk]
    exact Quad.get_set_self _ _ _

theorem frameOut_intake : (s.frameOut p c e).intake = s.intake := by
  refine only_intake (w := allBut .intake) ?_ (by simp)
  unfold State.frameOut State.claimOut
  dsimp only
  repeat' split
  all_goals simp

end

theorem transmitted_queued {p : Fin 2} {cls : Fin 4} {off gone : Nat} {e : QFrame} {s : State} (ho : s.offered p = some (cls, e))
    (hs : s.portSends p = true) (hc : s.clock.settle = none)
    (hw : gone + 10000 * max 1 (s.cyclicWindow p) ≤ 10000 * s.frame.index + off)
    (ht : ((10000 * s.frame.index + off : Nat) : Rat) + 200 * busTime (s.par (netId p 0)) (s.par (netId p 1)) e.frame.data.length ≤ 200000 + (gone : Rat)) :
    Answers (.canFrameTransmitted p.castSucc cls off gone) s (fun t => (e.hop = none → if (headOf e.frame).kind = 1 then ∀ x ∈ (t.ports.get p).queues.get 0, (headOf x.frame).kind ≠ 1
        else (t.ports.get p).queues.get cls = ((s.ports.get p).queues.get cls).erase e) ∧
      (t.ports.get p).sentN.get cls = inc16 ((s.ports.get p).sentN.get cls) ∧ (t.ports.get p).lastTx = some e.frame ∧
      ((headOf e.frame).kind = 1 → s.pairHere p = false → (t.ports.get p).chunk = 0) ∧
      (∀ h, e.hop = some h → h < 32 → e.last = true → s.stage h = .started → t.stage h ≠ .started)) := by
  have hstart : 10000 * (s.cyclicWindow p : Int) ≤ s.sofAt off gone := by
    unfold State.sofAt
    omega
  have hend : (s.sofAt off gone : Rat) + 200 * busTime (s.par (netId p 0)) (s.par (netId p 1)) e.frame.data.length ≤ 200000 := by
    unfold State.sofAt
    push_cast at ht ⊢
    linarith
  refine ⟨(s.frameOut p cls e).hopOut e, ?_, fun hn => ?_, ?_, ?_, fun hk _ => ?_, fun h he _ hl _ => hopOut_stage he hl⟩
  · rw [transmitted_fab, fabSent_offered hs hc cls hw, sentOffered_eq ho hstart hend]
  · have hid : (s.frameOut p cls e).hopOut e = s.frameOut p cls e := by rw [State.hopOut, hn]
    rw [hid]
    exact frameOut_queue
  · rw [(hopOut_sends _ e).portField PortSt.sentN fun _ => rfl, frameOut_keeps PortSt.sentN (fun _ _ => rfl) fun _ _ => rfl]
    exact Quad.get_upd_self _ _ _
  · rw [(hopOut_sends _ e).portField PortSt.lastTx fun _ => rfl, frameOut_keeps PortSt.lastTx (fun _ _ => rfl) fun _ _ => rfl]
    rfl
  · rw [(hopOut_sends _ e).portField PortSt.chunk fun _ => rfl]
    obtain ⟨own, h⟩ := frameOut_claim (s := s) (p := p) (c := cls) PortSt.chunk (fun _ _ => rfl) hk
    rw [h]
    rfl

theorem transmitted_iso {cls : Fin 4} {off gone : Nat} {s : State} (hu : s.unitOn 7 = true) (hb : s.iso.busOff = false) (hst : s.iso.stopped = false)
    (hl : s.iso.listenOnly = false) (hc : s.clock.settle = none) (hp : s.clock.pllc = .locked) :
    exec (.canFrameTransmitted 2 cls off gone) s = .next { s with iso := { s.iso with tx := s.iso.tx.drop 1 } } := by
  have hx : exec (.canFrameTransmitted 2 cls off gone) s = .next s.isoSent := rfl
  rw [hx, State.isoSent]
  simp [hu, hb, hst, hl, hc, hp]

/-- Settles O30: a frame is forwarded, or dropped and answered; a sent frame completes by its kind. -/
theorem forwardComplete : Obligations.ForwardComplete := by
  unfold Obligations.ForwardComplete
  exact ⟨fun _ _ _ _ _ hh hr hl hd hk hp hs ho hn h0 hroute hout hpol => forwarding_sets hh hr ⟨hl, hd, hk⟩ hp hs ho hn h0 hroute hout hpol,
    fun _ _ _ hh hr hl hd hk hp hs ho hn h0 => forwarding_hops hh hr ⟨hl, hd, hk⟩ hp hs ho hn h0,
    fun _ _ _ hh hr hl hd hk hp hs ho hn h0 hroute => forwarding_lost hh hr ⟨hl, hd, hk⟩ hp hs ho hn h0 hroute,
    fun _ _ _ _ _ hs hc hb h0 h1 => (transmitted_fab _ _ _ _ _).trans (congrArg Host.Outcome.next (fabSent_beacon hs hc hb h0 h1)),
    fun _ _ _ _ _ _ ho hs hc hw ht => transmitted_queued ho hs hc hw ht, fun _ _ _ _ hu hb hst hl hc hp => transmitted_iso hu hb hst hl hc hp⟩

end Sys2Proof.Machine
end

section
/-! Fabric messages to the device in one frame (R490, R491, R494, R495, R513). -/

namespace Sys2Proof.Machine

theorem heardTx_forMe (s : State) (p : Fin 2) (f : AmFrame) (a : AmHead) : (s.heardTx p f).forMe p a = s.forMe p a := by
  have hn (q : Fin 2) : (s.heardTx p f).netOn q = s.netOn q := rfl
  have hp : (s.heardTx p f).forPair a = s.forPair a := rfl
  have hg (g : Nat) : (s.heardTx p f).inGroup g = s.inGroup g := rfl
  unfold State.forMe
  simp only [heardTx_portSeg, heardTx_portAddr, heardTx_port PortSt.index fun _ _ => rfl, hn, hp, hg]

/-- A message in one frame needs no assembly. -/
theorem assemble_single {s : State} {p : Fin 2} {f : AmFrame} (h0 : (headOf f).fseq = 0) (hm : (headOf f).more = false)
    (hn : s.fab.asms.find? (fun x => x.port == p.val + 1 && x.src == (headOf f).src && x.tag == (headOf f).tag) = none) :
    s.assemble p f = (s, some (bodyOf f)) := by
  unfold State.assemble
  simp only [hn, h0, hm, if_true, Bool.false_eq_true, if_false]

/-! ### CMD -/

/-- The intake after a command of the fabric is refused. -/
def IntakeSt.fabricRefused (i : IntakeSt) : IntakeSt :=
  { i with busySeen := true, counts := i.counts.upd 1 (fun c => { c with refused := c.refused + 1 }) }

/-- A CMD in one frame, addressed to the device itself, on a port that is held and sends. -/
structure State.CmdHeard (s : State) (p : Fin 2) (f : AmFrame) : Prop where
  hears : s.hears p f 5 = true
  mine : s.forMe p (headOf f) = true
  alone : s.forPair (headOf f) = false
  notLocal : (headOf f).dmode ≠ 1
  notFabric : (headOf f).dmode ≠ 2
  held : s.portHeld p = true
  sends : s.portSends p = true
  first : (headOf f).fseq = 0
  last : (headOf f).more = false
  fresh : s.fab.asms.find? (fun x => x.port == p.val + 1 && x.src == (headOf f).src && x.tag == (headOf f).tag) = none
  whole : 12 + getB (bodyOf f) 6 ≤ (bodyOf f).length

section
variable {s : State} {p : Fin 2} {f : AmFrame} (h : s.CmdHeard p f)
include h

theorem fabricCmd_takes : exec (.fabricCmd p f) s = .next ((s.heardTx p f).takeFabric p (headOf f) (headOf f).ftime (bodyOf f)) := by
  have hgo : ¬ (!(s.heardTx p f).forMe p (headOf f) || (headOf f).dmode == 1 || (headOf f).dmode == 2 || !(s.heardTx p f).portHeld p ||
      !(s.heardTx p f).portSends p) = true := by
    rw [heardTx_forMe, heardTx_portHeld, heardTx_portSends, h.mine, h.held, h.sends]
    simp [h.notLocal, h.notFabric]
  have has : (s.heardTx p f).assemble p f = (s.heardTx p f, some (bodyOf f)) := assemble_single h.first h.last h.fresh
  change execFabricCmd p f s = _
  unfold execFabricCmd
  rw [rx_hears h.hears]
  dsimp only
  rw [if_neg hgo, has]

/-- Whole, and for the device itself, the command is taken or refused. -/
theorem takeFabric_eq : (s.heardTx p f).takeFabric p (headOf f) (headOf f).ftime (bodyOf f) =
    match s.virtualFree 16 8, decide (s.virtualHeld 16 8 (headOf f).src < s.par 0x0072) with
    | some k, true => (s.heardTx p f).handOver k
        { srcAddr := (headOf f).src, port := p.val + 1, tag := (headOf f).tag, pair := false, mute := false, ftime := (headOf f).ftime } (bodyOf f)
    | _, _ =>
      let t := (s.heardTx p f).busyEv.countRefused 1
      if (headOf f).dmode ≠ 0 then t else t.sendNack p p (headOf f) 1 1 1 := by
  have hw : ¬ ((bodyOf f).length < 12 + getB (bodyOf f) 6 ∨ 112 < getB (bodyOf f) 6 ∧ (bodyOf f).length < 124) := by
    have := h.whole
    omega
  have hp : (s.heardTx p f).forPair (headOf f) = false := h.alone
  unfold State.takeFabric
  simp only [if_neg hw, hp, Bool.false_and, Bool.false_eq_true, if_false, or_false]
  rfl

omit h in
theorem handOver_hop (s : State) (k : Nat) (x : HopSt) (cmd : List Byte) (j : Nat) :
    (s.handOver k x cmd).hop j = if k = j ∧ j < s.intake.hops.length then { x with stage := .rung } else s.hop j :=
  setHop_hop s k j _

/-- A free hopper takes the command (R495). -/
theorem fabricCmd_enters {k : Nat} (hk : s.virtualFree 16 8 = some k) (hl : s.intake.hops.length = 32)
    (hn : s.virtualHeld 16 8 (headOf f).src < s.par 0x0072) :
    Answers (.fabricCmd p f) s (fun t => t.stage k = .rung ∧ (t.hop k).srcAddr = (headOf f).src ∧ (t.hop k).port = p.val + 1 ∧
      (t.hop k).tag = (headOf f).tag ∧ ∀ j, j < 32 → j ≠ k → t.hop j = s.hop j) := by
  have hlt : k < 32 := by
    obtain ⟨i, hi, rfl⟩ := List.mem_map.mp (List.mem_of_find?_eq_some hk)
    have := List.mem_range.mp hi
    omega
  refine ⟨_, fabricCmd_takes h, ?_⟩
  rw [takeFabric_eq h, hk, decide_eq_true hn]
  have hself := handOver_hop (s.heardTx p f) k { srcAddr := (headOf f).src, port := p.val + 1, tag := (headOf f).tag, pair := false, mute := false, ftime := (headOf f).ftime } (bodyOf f) k
  rw [if_pos ⟨rfl, show k < (s.heardTx p f).intake.hops.length from hl ▸ hlt⟩] at hself
  exact ⟨congrArg HopSt.stage hself, congrArg HopSt.srcAddr hself, congrArg HopSt.port hself, congrArg HopSt.tag hself,
    fun j _ hj => (handOver_hop _ _ _ _ _).trans (if_neg fun e => hj e.1.symm)⟩

/-- With no hopper free the command is refused, and counted (R170). -/
theorem fabricCmd_refused (hk : s.virtualFree 16 8 = none) :
    Answers (.fabricCmd p f) s (fun t => (t.intake.counts.get 1).refused = (s.intake.counts.get 1).refused + 1 ∧
      t.intake.slots = s.intake.slots ∧ ∀ j, t.hop j = s.hop j) := by
  have he (t : State) (code : Nat) : (t.evFree code).intake = t.intake := only_intake (w := allBut .intake) (by simp) (by simp)
  have hb : (s.heardTx p f).busyEv.intake = { s.intake with busySeen := true } := by
    unfold State.busyEv
    dsimp only
    split
    · rfl
    · exact he _ _
  have hc : ((s.heardTx p f).busyEv.countRefused 1).intake = s.intake.fabricRefused := by
    rw [State.countRefused, hb]
    rfl
  have hnack (t : State) : (t.sendNack p p (headOf f) 1 1 1).intake = t.intake := only_intake (w := allBut .intake) (by simp) (by simp)
  refine ⟨_, fabricCmd_takes h, ?_⟩
  rw [takeFabric_eq h, hk]
  have hi : (let t := (s.heardTx p f).busyEv.countRefused 1
      if (headOf f).dmode ≠ 0 then t else t.sendNack p p (headOf f) 1 1 1).intake = ((s.heardTx p f).busyEv.countRefused 1).intake := by
    dsimp only
    split
    · rfl
    · exact hnack _
  refine ⟨?_, ?_, fun j => hop_of_intake ?_ j⟩
  · rw [hi, hc]
    rfl
  · rw [hi, hc]
    rfl
  · rw [hi, hc]
    rfl

end

/-! ### DATA -/

theorem dataReceived_queues {s : State} {p : Fin 2} {f : AmFrame} (hh : s.hears p f 0xB = true) (hm : s.forMe p (headOf f) = true)
    (h0 : (headOf f).fseq = 0) (hl : (headOf f).more = false)
    (hn : s.fab.asms.find? (fun x => x.port == p.val + 1 && x.src == (headOf f).src && x.tag == (headOf f).tag) = none) :
    Answers (.dataReceived p f) s (fun t =>
      t.fab.recv = (if 16 ≤ s.fab.recv.length then s.fab.recv else s.fab.recv ++ [{ port := p.val + 1, src := (headOf f).src, dmode := (headOf f).dmode, cls := (headOf f).cls, body := bodyOf f }]) ∧
      t.fab.recvLost = (if 16 ≤ s.fab.recv.length then s.fab.recvLost + 1 else s.fab.recvLost)) := by
  have has : (s.heardTx p f).assemble p f = (s.heardTx p f, some (bodyOf f)) := assemble_single h0 hl hn
  have hgo : ¬ (!(s.heardTx p f).forMe p (headOf f)) = true := by rw [heardTx_forMe, hm]; decide
  have hx : exec (.dataReceived p f) s = .next (
      let t := s.heardTx p f
      if 16 ≤ s.fab.recv.length then { t with fab := { t.fab with recvLost := t.fab.recvLost + 1 } }
      else
        let u : State := { t with fab := { t.fab with recv := t.fab.recv ++ [{ port := p.val + 1, src := (headOf f).src, dmode := (headOf f).dmode, cls := (headOf f).cls, body := bodyOf f }] } }
        if s.fab.recv.isEmpty then u.noteEvFree 0x0608 else u) := by
    change execDataReceived p f s = _
    unfold execDataReceived
    rw [rx_hears hh]
    dsimp only
    rw [if_neg hgo, has]
    rfl
  refine ⟨_, hx, ?_⟩
  dsimp only
  split
  · exact ⟨rfl, rfl⟩
  · split <;> exact ⟨rfl, rfl⟩

/-! ### Reassembly, CYCLIC and NACK -/

theorem reassemblyTimeout_drops {p : Fin 2} {src tag : Nat} {s : State}
    (h : s.fab.asms.any (fun x => x.port == p.val + 1 && x.src == src && x.tag == tag && decide (80 ≤ s.since x.at_)) = true) :
    Answers (.reassemblyTimeout p src tag) s (fun t => (t.ports.get p).failed =
        (if s.fab.asms.any (fun x => x.port == p.val + 1 && x.src == src && x.tag == tag && !x.dead) then inc16 (s.ports.get p).failed
         else (s.ports.get p).failed) ∧
      t.fab.asms = s.fab.asms.filter (fun x => !(x.port == p.val + 1 && x.src == src && x.tag == tag)) ∧ s.only [.ports, .fab] t) := by
  refine ⟨_, congrArg Host.Outcome.next (if_pos h), ?_⟩
  dsimp only
  split
  · exact ⟨congrArg PortSt.failed (updPort_get _ _ _), rfl, by simp [State.only, State.asmFailed]⟩
  · exact ⟨rfl, rfl, rfl⟩

theorem cyclicReceived_keeps {p : Fin 2} {f : AmFrame} {tb : Sched} {e : SchedEntry} {s : State} (hh : s.hears p f 4 = true)
    (ht : (s.ports.get p).sched = some tb) (he : tb.entries.find? (fun e => e.slot == (headOf f).disc) = some e)
    (hc : (headOf f).cls = e.cls) (hu : s.consumes p e = true) :
    Answers (.cyclicReceived p f) s (fun t => (t.ports.get p).rxCyc.getLast? = some (e.slot, (bodyOf f).take e.len) ∧
      (t.ports.get p).latched = (s.ports.get p).latched ∧ s.only [.ports] t) := by
  have hu' : (s.heardTx p f).consumes p e = true := hu
  have hx : exec (.cyclicReceived p f) s = .next ((s.heardTx p f).updPort p (fun q =>
      { q with rxCyc := q.rxCyc.filter (fun x => x.1 != e.slot) ++ [(e.slot, (bodyOf f).take e.len)] })) := by
    change execCyclicReceived p f s = _
    unfold execCyclicReceived
    rw [rx_hears hh]
    simp only [heardTx_port PortSt.sched fun _ _ => rfl, ht, he, hc, ne_eq, not_true_eq_false, if_false, hu', if_true]
  refine ⟨_, hx, ?_, ?_, by simp [State.only, State.heardTx]⟩
  · rw [updPort_get]
    exact List.getLast?_concat
  · rw [updPort_get]
    exact heardTx_port PortSt.latched (fun _ _ => rfl) s p f p

theorem nackReceived_counts {p : Fin 2} {f : AmFrame} {s : State} (hh : s.hears p f 9 = true) (hm : s.forMe p (headOf f) = true)
    (h1 : 1 ≤ getB (bodyOf f) 0) (h4 : getB (bodyOf f) 0 ≤ 4) :
    Answers (.nackReceived p f) s (fun t => (t.ports.get p).nackRx.get (Fin.ofNat 4 (getB (bodyOf f) 0 - 1)) =
      inc16 ((s.ports.get p).nackRx.get (Fin.ofNat 4 (getB (bodyOf f) 0 - 1))) ∧ t.fab.nackSeen = true ∧
      (s.fab.nackSeen = false → t.faults.events.getLast? = some (0x0628, getB (bodyOf f) 0, s.frame.counter))) := by
  have hgo : ¬ (!(s.heardTx p f).forMe p (headOf f) || getB (bodyOf f) 0 == 0 || decide (4 < getB (bodyOf f) 0)) = true := by
    rw [heardTx_forMe, hm]
    simp
    omega
  have hx : exec (.nackReceived p f) s = .next (
      let t := (s.heardTx p f).updPort p (fun q => { q with nackRx := q.nackRx.upd (Fin.ofNat 4 (getB (bodyOf f) 0 - 1)) inc16 })
      ({ t with fab := { t.fab with nackSeen := true } } : State).evIf (!s.fab.nackSeen) 0x0628 (getB (bodyOf f) 0)) :=
    congrArg Host.Outcome.next ((rx_hears hh _).trans (if_neg hgo))
  refine ⟨_, hx, ?_, ?_, fun hn => ?_⟩
  · rw [(SendOnly.evIf _ _ _ _).portField PortSt.nackRx fun _ => rfl]
    have hn : (((s.heardTx p f).updPort p (fun q => { q with nackRx := q.nackRx.upd (Fin.ofNat 4 (getB (bodyOf f) 0 - 1)) inc16 })).ports.get p).nackRx =
        ((s.heardTx p f).ports.get p).nackRx.upd (Fin.ofNat 4 (getB (bodyOf f) 0 - 1)) inc16 := congrArg PortSt.nackRx (updPort_get _ _ _)
    refine (congrArg (fun x => Quad.get x (Fin.ofNat 4 (getB (bodyOf f) 0 - 1))) hn).trans ?_
    rw [Quad.get_upd_self, heardTx_port PortSt.nackRx fun _ _ => rfl]
  · exact (SendOnly.evIf _ _ _ _).fabField FabSt.nackSeen fun _ => rfl
  · simp only [hn, State.evIf, Bool.not_false, if_true, ev_last]
    rw [Nat.mod_eq_of_lt (by omega)]
    rfl

/-- Settles O31: a frame for the device reassembles to itself, and goes by its kind. -/
theorem messageComplete : Obligations.MessageComplete := by
  unfold Obligations.MessageComplete
  exact ⟨fun _ _ _ _ hh hm ha h1 h2 hp hs h0 hl hn hw hk hlen hheld => fabricCmd_enters ⟨hh, hm, ha, h1, h2, hp, hs, h0, hl, hn, hw⟩ hk hlen hheld,
    fun _ _ _ hh hm ha h1 h2 hp hs h0 hl hn hw _ hk => fabricCmd_refused ⟨hh, hm, ha, h1, h2, hp, hs, h0, hl, hn, hw⟩ hk,
    fun _ _ _ hh hm h0 hl hn => dataReceived_queues hh hm h0 hl hn, fun _ _ _ _ h => reassemblyTimeout_drops h,
    fun _ _ _ _ _ hh ht he hc hu => cyclicReceived_keeps hh ht he hc hu, fun _ _ _ hh hm h1 h4 => nackReceived_counts hh hm h1 h4⟩

end Sys2Proof.Machine
end

section
/-! Partner loss and return: what heartbeats, their deadlines and the word of a router do to a watch (R508, R509, Table EDGE-3). -/

namespace Sys2Proof.Machine

/-! ### One watch -/

/-- Watch `w`. -/
def State.watch (s : State) (w : Nat) : WatchSt := s.fab.watches.getD w {}

section
variable {s t : State} {w v : Nat}

theorem watch_of_fab (h : t.fab.watches = s.fab.watches) (w : Nat) : t.watch w = s.watch w := by rw [State.watch, State.watch, h]

theorem updWatch_other (h : v ≠ w) (f : WatchSt → WatchSt) : (s.updWatch v f).watch w = s.watch w :=
  (updAt_getD _ _ _ _ _).trans (if_neg fun k => h k.1)

/-- A watch that is not off stands in the table. -/
theorem updWatch_self (h : (s.watch w).st ≠ .off) (f : WatchSt → WatchSt) : (s.updWatch w f).watch w = f (s.watch w) := by
  refine (updAt_getD _ _ _ _ _).trans (if_pos ⟨rfl, ?_⟩)
  by_contra hl
  exact h (congrArg WatchSt.st (List.getD_eq_default _ _ (not_lt.mp hl)))

theorem ev_watch (s : State) (code qual w : Nat) : (s.ev code qual).watch w = s.watch w :=
  watch_of_fab ((SendOnly.ev s code qual).fabField FabSt.watches fun _ => rfl) w

theorem evIf_watch (s : State) (c : Bool) (code qual w : Nat) : (s.evIf c code qual).watch w = s.watch w :=
  watch_of_fab ((SendOnly.evIf s c code qual).fabField FabSt.watches fun _ => rfl) w

theorem watchAction_watch (s : State) (v w : Nat) : (s.watchAction v).watch w = s.watch w := by
  unfold State.watchAction
  dsimp only
  split <;> rfl

theorem watchLost_other (h : v ≠ w) (quiet : Bool) : (s.watchLost v quiet).watch w = s.watch w := by
  unfold State.watchLost
  dsimp only
  split
  · rw [watchAction_watch, evIf_watch, updWatch_other h]
  · rfl

theorem watchBack_other (h : v ≠ w) (quiet : Bool) : (s.watchBack v quiet).watch w = s.watch w := by
  unfold State.watchBack
  dsimp only
  split
  · rfl
  · rw [evIf_watch, updWatch_other h]
  · rw [updWatch_other h]

/-- Lost, a watch is LOST. -/
theorem watchLost_self (h : (s.watch w).st ≠ .off) (quiet : Bool) : ((s.watchLost w quiet).watch w).st = .lost := by
  unfold State.watchLost
  dsimp only
  split
  · rw [watchAction_watch, evIf_watch, updWatch_self h]
  next hn =>
    change ¬ ((s.watch w).st == .unknown || (s.watch w).st == .alive) = true at hn
    cases hs : (s.watch w).st <;> simp_all

/-- Back, a watch is ALIVE. -/
theorem watchBack_self (h : (s.watch w).st ≠ .off) (quiet : Bool) : ((s.watchBack w quiet).watch w).st = .alive := by
  unfold State.watchBack
  dsimp only
  split
  next hs => exact absurd hs h
  · rw [evIf_watch, updWatch_self h]
  · rw [updWatch_self h]

end

/-! ### The watches of an address -/

theorem watchesOf_of {s t : State} (hp : t.params = s.params) (hw : t.fab.watches = s.fab.watches) (addr : Nat) :
    t.watchesOf addr = s.watchesOf addr := by
  unfold State.watchesOf
  simp only [par_of_params hp, hw]

theorem on_of_watchesOf {s : State} {addr w : Nat} (h : w ∈ s.watchesOf addr) : (s.watch w).st ≠ .off := by
  have hb := (List.mem_filter.mp h).2
  simp only [Bool.and_eq_true, bne_iff_ne] at hb
  exact hb.2

section
variable {F : State → Nat → State} {w : Nat} {Q : WatchSt → Prop} (hother : ∀ t v, v ≠ w → (F t v).watch w = t.watch w)
  (hself : ∀ t, (t.watch w).st ≠ .off → Q ((F t w).watch w)) (hon : ∀ x, Q x → x.st ≠ .off)
include hother hself hon

theorem foldl_watch_stays (l : List Nat) {s : State} (h : Q (s.watch w)) : Q ((l.foldl F s).watch w) := by
  induction l generalizing s with
  | nil => exact h
  | cons v l ih =>
    refine ih ?_
    by_cases hv : v = w
    · rw [hv]
      exact hself s (hon _ h)
    · rwa [hother s v hv]

/-- Work on a list of watches brings each of them where the work on it alone does. -/
theorem foldl_watch {l : List Nat} (hw : w ∈ l) {s : State} (h : (s.watch w).st ≠ .off) : Q ((l.foldl F s).watch w) := by
  induction l generalizing s with
  | nil => cases hw
  | cons v l ih =>
    by_cases hv : v = w
    · rw [hv]
      exact foldl_watch_stays hother hself hon l (hself s h)
    · refine ih ((List.mem_cons.mp hw).resolve_left fun e => hv e.symm) ?_
      rwa [hother s v hv]

end

/-! ### HBEAT_RECEIVED -/

/-- A heartbeat heard with period `n` at superframe `now` keeps watch `w` alive. -/
def State.watchHeard (now : BitVec 32) (n : Nat) (s : State) (w : Nat) : State :=
  (s.watchBack w true).updWatch w (fun x => { x with since := now, period := n })

/-- A list of watches after a heartbeat of their address. -/
def State.beaten (s : State) (l : List Nat) (now : BitVec 32) (n : Nat) : State := l.foldl (State.watchHeard now n) s

def State.withNeighbours (s : State) (l : List Neighbour) : State := { s with fab := { s.fab with neighbours := l } }

theorem beaten_watch {s : State} {l : List Nat} {now : BitVec 32} {n w : Nat} (hw : w ∈ l) (h : (s.watch w).st ≠ .off) :
    ((s.beaten l now n).watch w).st = .alive ∧ ((s.beaten l now n).watch w).since = now ∧ ((s.beaten l now n).watch w).period = n := by
  refine foldl_watch (F := State.watchHeard now n) (Q := fun x => x.st = .alive ∧ x.since = now ∧ x.period = n) (fun t v hv => ?_) (fun t ht => ?_)
    (fun x hx => ?_) hw h
  · rw [State.watchHeard, updWatch_other hv, watchBack_other hv]
  · have hb := watchBack_self ht true
    rw [State.watchHeard, updWatch_self (by rw [hb]; decide)]
    exact ⟨hb, rfl, rfl⟩
  · rw [hx.1]
    decide

theorem lossTold_watch (s : State) (code addr w : Nat) : ((s.noteEv code addr).sendLossEvt code addr).watch w = s.watch w :=
  watch_of_fab ((SendOnly.sendLossEvt (s.noteEv code addr) code addr).fabField FabSt.watches fun _ => rfl) w

theorem hbeatReceived_eq {p : Fin 2} {f : AmFrame} {s : State} (hh : s.hears p f 8 = true) : ∃ (near : List Neighbour) (c : Bool), exec (.hbeatReceived p f) s = .next (
    let t := (s.heardTx p f).withNeighbours near
    let u := t.beaten (t.watchesOf (headOf f).src) s.frame.superframe (get16 (bodyOf f) 4)
    if c then (u.noteEv 0x0621 (headOf f).src).sendLossEvt 0x0621 (headOf f).src else u) :=
  ⟨_, _, congrArg Host.Outcome.next (rx_hears hh _)⟩

theorem hbeatReceived_alive {p : Fin 2} {f : AmFrame} {w : Nat} {s : State} (hh : s.hears p f 8 = true) (hw : w ∈ s.watchesOf (headOf f).src) :
    Answers (.hbeatReceived p f) s (fun t => (t.fab.watches.getD w {}).st = .alive ∧ (t.fab.watches.getD w {}).since = s.frame.superframe ∧
      (t.fab.watches.getD w {}).period = get16 (bodyOf f) 4) := by
  obtain ⟨near, c, hx⟩ := hbeatReceived_eq hh
  have hb := beaten_watch (s := (s.heardTx p f).withNeighbours near) (now := s.frame.superframe) (n := get16 (bodyOf f) 4) hw (on_of_watchesOf hw)
  refine ⟨_, hx, ?_⟩
  dsimp only
  split
  · rw [← lossTold_watch _ 0x0621 (headOf f).src] at hb
    exact hb
  · exact hb

/-! ### HEARTBEAT_DEADLINE -/

theorem foldl_lost {l : List Nat} {w : Nat} (hw : w ∈ l) (quiet : Bool) {s : State} (h : (s.watch w).st ≠ .off) :
    ((l.foldl (fun t v => t.watchLost v quiet) s).watch w).st = .lost :=
  foldl_watch (F := fun t v => t.watchLost v quiet) (Q := fun x => x.st = .lost) (fun _ _ hv => watchLost_other hv quiet)
    (fun _ ht => watchLost_self ht quiet) (fun _ hx => by rw [hx]; decide) hw h

/-- A quiet loss raises nothing. -/
theorem watchLost_faults (s : State) (w : Nat) : (s.watchLost w true).faults = s.faults := by
  unfold State.watchLost State.watchAction
  dsimp only
  split
  · split <;> rfl
  · rfl

theorem sendLossEvt_noRouter {s : State} (h : s.isRouter = false) (code addr : Nat) : s.sendLossEvt code addr = s := by
  unfold State.sendLossEvt
  rw [h]
  rfl

theorem ev_params (s : State) (code qual : Nat) : (s.ev code qual).params = s.params := only_params (w := allBut .params) (by simp) (by simp)

/-- Without routing, a lost node is told by the event, and its watches are LOST. -/
theorem nodeLost_eq {s : State} (h : s.isRouter = false) (addr : Nat) :
    s.nodeLost addr = (s.watchesOf addr).foldl (fun t w => t.watchLost w true) (s.ev 0x0620 addr) := by
  have hp := ev_params s 0x0620 addr
  have hr : (s.ev 0x0620 addr).isRouter = false := by
    have hn (q : Fin 2) : (s.ev 0x0620 addr).netOn q = s.netOn q := unitOn_of_params hp _
    rw [State.isRouter, par_of_params hp, hn, hn]
    exact h
  have hw := watchesOf_of hp ((SendOnly.ev s 0x0620 addr).fabField FabSt.watches fun _ => rfl) addr
  rw [State.nodeLost, sendLossEvt_noRouter hr, hw]

theorem heartbeatDeadline_loses {p : Fin 2} {addr w : Nat} {s : State} (hr : s.isRouter = false) (hn : s.netOn p = true)
    (hp : s.portSeg p = some (addr / 64)) (hw : w ∈ s.watchesOf addr)
    (hst : (s.fab.watches.getD w {}).st = .unknown ∨ (s.fab.watches.getD w {}).st = .alive)
    (ho : s.overdue (s.fab.watches.getD w {}).since (s.fab.watches.getD w {}).period = true) :
    Answers (.heartbeatDeadline p addr) s (fun t => (t.fab.watches.getD w {}).st = .lost ∧
      t.faults.events.getLast? = some (0x0620, addr % 65536, s.frame.counter)) := by
  have hdue : w ∈ (s.watchesOf addr).filter (fun v =>
      ((s.fab.watches.getD v {}).st == .unknown || (s.fab.watches.getD v {}).st == .alive) &&
        s.overdue (s.fab.watches.getD v {}).since (s.fab.watches.getD v {}).period) := by
    refine List.mem_filter.mpr ⟨hw, ?_⟩
    rw [ho, Bool.and_true]
    rcases hst with h | h <;> rw [h] <;> rfl
  have hsome := List.isEmpty_eq_false_iff_exists_mem.mpr ⟨w, hdue⟩
  have hx : ∃ near, exec (.heartbeatDeadline p addr) s = .next ((s.withNeighbours near).nodeLost addr) := by
    refine ⟨_, congrArg Host.Outcome.next (if_pos ?_)⟩
    simp only [hn, hp, hsome, beq_self_eq_true, Bool.not_false, Bool.and_true, Bool.or_true]
  obtain ⟨near, hx⟩ := hx
  have hroute : (s.withNeighbours near).isRouter = false := hr
  refine ⟨_, hx, ?_⟩
  rw [nodeLost_eq hroute]
  refine ⟨foldl_lost (show w ∈ (s.withNeighbours near).watchesOf addr from hw) true ?_, ?_⟩
  · rw [ev_watch]
    exact on_of_watchesOf hw
  · rw [foldl_keeps (fun t => t.faults.events) fun t v => congrArg (·.events) (watchLost_faults t v), ev_last]
    rfl

/-! ### EVT_RECEIVED -/

/-- A router's word of code `code` on a watch. -/
def State.watchTold (code : Nat) (s : State) (w : Nat) : State :=
  if code = 0x0620 then (s.watchLost w false).updWatch w (fun x => { x with back := none })
  else if code = 0x0621 then s.watchBack w false
  else s

theorem watchTold_other (code : Nat) {s : State} {v w : Nat} (h : v ≠ w) : (s.watchTold code v).watch w = s.watch w := by
  unfold State.watchTold
  split
  · rw [updWatch_other h, watchLost_other h]
  · split
    · exact watchBack_other h _
    · rfl

theorem evtReceived_eq {p : Fin 2} {f : AmFrame} {s : State} (hh : s.hears p f 7 = true) (hd : (headOf f).dmode = 2)
    (hb : getB (bodyOf f) 0 = 1) (hr : s.remote (get16 (bodyOf f) 6) = true) : exec (.evtReceived p f) s =
      .next ((s.watchesOf (get16 (bodyOf f) 6)).foldl (State.watchTold (get16 (bodyOf f) 4)) (s.heardTx p f)) := by
  have hrt : (s.heardTx p f).remote (get16 (bodyOf f) 6) = true := by
    have hn (q : Fin 2) : (s.heardTx p f).netOn q = s.netOn q := rfl
    rw [← hr]
    unfold State.remote
    simp only [heardTx_portSeg, hn]
  change execEvtReceived p f s = _
  unfold execEvtReceived
  rw [rx_hears hh]
  simp only [hb, hd, ne_eq, not_true_eq_false, if_false, show List.range (min 6 1) = [0] from rfl, List.foldl_cons, List.foldl_nil, hrt, Bool.not_true,
    Bool.false_eq_true, Nat.mul_zero, Nat.add_zero]
  rfl

theorem evtReceived_tells {p : Fin 2} {f : AmFrame} {w : Nat} {s : State} (hh : s.hears p f 7 = true) (hd : (headOf f).dmode = 2)
    (hb : getB (bodyOf f) 0 = 1) (hr : s.remote (get16 (bodyOf f) 6) = true) (hw : w ∈ s.watchesOf (get16 (bodyOf f) 6)) :
    Answers (.evtReceived p f) s (fun t => (get16 (bodyOf f) 4 = 0x0620 → (t.fab.watches.getD w {}).st = .lost) ∧
      (get16 (bodyOf f) 4 = 0x0621 → (t.fab.watches.getD w {}).st = .alive)) := by
  have hon : ((s.heardTx p f).watch w).st ≠ .off := on_of_watchesOf hw
  refine ⟨_, evtReceived_eq hh hd hb hr, fun hc => ?_, fun hc => ?_⟩
  · refine foldl_watch (F := State.watchTold (get16 (bodyOf f) 4)) (Q := fun x => x.st = .lost) (fun _ _ hv => watchTold_other _ hv) (fun t ht => ?_)
      (fun _ hx => by rw [hx]; decide) hw hon
    have hl := watchLost_self ht false
    rw [State.watchTold, if_pos hc, updWatch_self (by rw [hl]; decide)]
    exact hl
  · refine foldl_watch (F := State.watchTold (get16 (bodyOf f) 4)) (Q := fun x => x.st = .alive) (fun _ _ hv => watchTold_other _ hv) (fun t ht => ?_)
      (fun _ hx => by rw [hx]; decide) hw hon
    rw [State.watchTold, hc, if_neg (by decide), if_pos rfl]
    exact watchBack_self ht false

/-- Settles O32: the watch of a partner by what each frame and the deadline leave of it. -/
theorem watchComplete : Obligations.WatchComplete := by
  unfold Obligations.WatchComplete
  exact ⟨fun _ _ _ _ hh hw => hbeatReceived_alive hh hw, fun _ _ _ _ hr hn hp hw hst ho => heartbeatDeadline_loses hr hn hp hw hst ho,
    fun _ _ _ _ hh hd hb hr hw => evtReceived_tells hh hd hb hr hw⟩

end Sys2Proof.Machine
end

section
/-! NET commands: what each answers and changes (R487, R493, R512; Tables FAB-8 to FAB-11). -/

namespace Sys2Proof.Machine

/-! ### Status and queue counters -/

theorem doneWith_free (s : State) (h : Nat) (res : List Byte) : (s.doneWith h res).free = s.free :=
  only_free (w := allBut .free) (by simp) (by simp)

theorem netStatus_starts : Starts netStatusSpec .netStatus (fun h b u => u.hb h 12 = 1 ∧ u.free = b.free + 2) :=
  starts_of_start (fun _ _ => rfl) (fun _ _ k => k) fun h b hw =>
    ⟨doneWith_code (s := (b.netStatus (b.portByte h)).2) hw _ _, doneWith_free (b.netStatus (b.portByte h)).2 _ _⟩

theorem doneWith_routes (s : State) (h : Nat) (res : List Byte) : (s.doneWith h res).fab.routes = s.fab.routes :=
  (SendOnly.doneWith s h res).fabField FabSt.routes fun _ => rfl

theorem netRoute_starts : Starts netRouteSpec .netRoute (fun h b u => u.hb h 12 = 1 ∧ u.fab.routes = b.fab.routes) :=
  starts_of_start (fun _ _ => rfl) (fun _ _ k => k) fun _ _ hw => ⟨doneWith_code hw _ _, doneWith_routes _ _ _⟩

theorem netWatch_starts : Starts netWatchSpec .netWatch (fun h b u => u.hb h 12 = 1 ∧ u.fab.watches = b.fab.watches) :=
  starts_of_start (fun _ _ => rfl) (fun _ _ k => k) fun b _ hw =>
    ⟨doneWith_code hw _ _, (SendOnly.doneWith _ b _).fabField FabSt.watches fun _ => rfl⟩

/-- A port apart from what a queued frame changes. -/
def PortSt.offPush (q : PortSt) : PortSt := { q with queues := Quad.all [], queuedN := Quad.all 0, peaks := Quad.all 0 }

theorem queueControl_offPush {s t : State} {p : Fin 2} {fs : List AmFrame} (h : s.queueControl p fs = some t) (q : Fin 2) :
    (t.ports.get q).offPush = (s.ports.get q).offPush ∧ t.fab = s.fab := by
  rw [queueControl_some h]
  refine ⟨?_, rfl⟩
  by_cases hq : q = p
  · rw [hq, updPort_get]
    rfl
  · rw [updPort_get_of_ne hq]

theorem respondIso_off {s t : State} {h : Nat} (e : s.respondIso h = some t) : t.ports = s.ports ∧ t.fab = s.fab := by
  have hb := fun w (hw : Group.iso ∈ w) => State.openTp_blank (w := w) hw e
  exact ⟨only_ports (hb (allBut .ports) (by simp)) (by simp), only_fab (hb (allBut .fab) (by simp)) (by simp)⟩

theorem srcOf_lt {h : Nat} (hh : h < 28) : srcOf h = 0 ∨ srcOf h = 1 ∨ srcOf h = 2 := by
  unfold srcOf
  split
  · exact .inl rfl
  · split
    · exact .inr (.inl rfl)
    · exact .inr (.inr rfl)

/-- A command from outside the device is answered in the slot, by a frame of its port, or over ISOBUS. -/
theorem giveBack_offPush {h : Nat} (hh : h < 28) (s : State) (q : Fin 2) :
    ((s.giveBack h).ports.get q).offPush = (s.ports.get q).offPush ∧ (s.giveBack h).fab = s.fab := by
  unfold State.giveBack
  rcases srcOf_lt hh with e | e | e <;> simp only [e]
  · exact ⟨rfl, rfl⟩
  · split
    · exact ⟨rfl, rfl⟩
    · split
      next e => exact queueControl_offPush e q
      next => exact ⟨rfl, rfl⟩
  · split
    next e =>
      obtain ⟨hp, hf⟩ := respondIso_off e
      exact ⟨congrArg (fun x => (Duo.get x q).offPush) hp, hf⟩
    next => exact ⟨rfl, rfl⟩

theorem doneWith_offPush {h : Nat} (hh : h < 28) (s : State) (res : List Byte) (q : Fin 2) :
    ((s.doneWith h res).ports.get q).offPush = (s.ports.get q).offPush ∧ (s.doneWith h res).fab = s.fab := by
  obtain ⟨hp, hf⟩ := giveBack_offPush hh (((((s.endBulk h).putResult h (s.resultOf h res)).putSlot (128 * h + 6)
    (b8 (8 + (resultBody (s.resultOf h res)).length))).putSlot (128 * h + 12) (s.completion h 1 0 (s.resultOf h res))).countBusy h 1) q
  refine ⟨hp.trans ?_, hf.trans ?_⟩
  · rw [only_ports (w := allBut .ports) (b := s) (by simp) (by simp)]
  · exact only_fab (w := allBut .fab) (by simp) (by simp)

theorem doneWith_port {α : Type} (g : PortSt → α) (hg : ∀ q, g (PortSt.offPush q) = g q) {h : Nat} (hh : h < 28) (s : State) (res : List Byte)
    (q : Fin 2) : g ((s.doneWith h res).ports.get q) = g (s.ports.get q) := by rw [← hg, (doneWith_offPush hh s res q).1, hg]

/-- A port with the counters of NET_QSTAT cleared. -/
def PortSt.qstatCleared (q : PortSt) : PortSt :=
  { q with queuedN := Quad.all 0, sentN := Quad.all 0, dropsPerClass := Quad.all 0, policed := 0, nackTx := 0, nackRx := Quad.all 0,
           peaks := q.queues.map (·.length) }

/-- The counters of a port and the lost events cleared by NET_QSTAT. -/
def State.qstatCleared (s : State) (p : Fin 2) : State :=
  let t := s.updPort p PortSt.qstatCleared
  { t with fab := { t.fab with evtLost := 0 } }

theorem qstatCleared_get (s : State) (p : Fin 2) : (s.qstatCleared p).ports.get p = (s.ports.get p).qstatCleared := updPort_get _ _ _

theorem netQstat_start (b : State) (h : Nat) : netQstatSpec.start b h =
    (if b.p8 h 1 = 1 then b.qstatCleared (b.portByte h) else b).doneWith h (b.netQstat (b.portByte h)) := by
  dsimp only [netQstatSpec]
  rfl

theorem netQstat_starts : Starts netQstatSpec .netQstat (fun h b u => u.hb h 12 = 1 ∧
    (h.val < 28 → b.p8 h 1 = 1 → (u.ports.get (b.portByte h)).policed = 0 ∧ (u.ports.get (b.portByte h)).nackTx = 0 ∧
      (u.ports.get (b.portByte h)).dropsPerClass = Quad.all 0 ∧ (u.ports.get (b.portByte h)).nackRx = Quad.all 0 ∧ u.fab.evtLost = 0) ∧
    (h.val < 28 → b.p8 h 1 = 0 → (u.ports.get (b.portByte h)).dropsPerClass = (b.ports.get (b.portByte h)).dropsPerClass ∧ u.fab.evtLost = b.fab.evtLost)) := by
  refine starts_of_start (fun _ _ => rfl) (fun _ _ k => k) fun h b hw => ?_
  rw [netQstat_start]
  refine ⟨?_, fun hh h1 => ?_, fun hh h0 => ?_⟩
  · split
    · exact doneWith_code (s := b.qstatCleared _) hw _ _
    · exact doneWith_code hw _ _
  · rw [if_pos h1]
    have hf := congrArg FabSt.evtLost (doneWith_offPush hh (b.qstatCleared (b.portByte h)) (b.netQstat (b.portByte h)) (b.portByte h)).2
    rw [doneWith_port PortSt.policed (fun _ => rfl) hh, doneWith_port PortSt.nackTx (fun _ => rfl) hh,
      doneWith_port PortSt.dropsPerClass (fun _ => rfl) hh, doneWith_port PortSt.nackRx (fun _ => rfl) hh, qstatCleared_get]
    exact ⟨rfl, rfl, rfl, rfl, hf⟩
  · rw [if_neg (by omega)]
    exact ⟨doneWith_port PortSt.dropsPerClass (fun _ => rfl) hh _ _ _,
      congrArg FabSt.evtLost (doneWith_offPush hh b (b.netQstat (b.portByte h)) (b.portByte h)).2⟩

/-! ### NET_SEND and NET_RECV -/

theorem netRecv_starts : Starts netRecvSpec .netRecv (fun h b u => u.hb h 12 = 1 ∧ u.fab.recv = b.fab.recv.drop 1) := by
  refine starts_of_start (fun _ _ => rfl) (fun _ _ k => k) fun h b hw => ?_
  have hd (s : State) (res : List Byte) : (s.doneWith h res).fab.recv = s.fab.recv := (SendOnly.doneWith s h res).fabField FabSt.recv fun _ => rfl
  dsimp only [netRecvSpec]
  split
  next e => exact ⟨doneWith_code hw _ _, by rw [hd, e]; rfl⟩
  next d r e => exact ⟨doneWith_code (s := { b with fab := { b.fab with recv := r } }) hw _ _, by rw [hd, e]; rfl⟩

theorem asQueue_length (hop : Option Nat) (fs : List AmFrame) : (asQueue hop fs).length = fs.length := by
  simp [asQueue]

/-- A message for which a class queue has room enters it whole. -/
theorem enqueue_room {s : State} {p : Fin 2} {c : Fin 4} {m : List QFrame} (h : (s.ports.get p).room c m.length = true) :
    s.enqueue p c m = s.updPort p (fun q => q.push c m) := if_pos h

/-- The frames of NET_SEND. -/
def State.sendFrames (s : State) (h : Nat) (p : Fin 2) (c : Fin 4) : List AmFrame :=
  msgFrames (s.ownHead p c.val 0xB (s.p8 h 1) (s.p16 h 2) s.fab.tag false) (s.pBytes h 8 (s.p8 h 6))

theorem netSend_port {b : State} {h : Fin 32} {p : Fin 2} (hp : b.p8 h 0 = p.val + 1) : netSendSpec.start b h =
    if !b.netOn p then b.finish h 2 0xFFFF []
    else b.nextTag.2.enqueue p (if b.p8 h 5 = 2 then 2 else 3) (asQueue (some h.val) (b.sendFrames h p (if b.p8 h 5 = 2 then 2 else 3))) := by
  match p with
  | 0 =>
    dsimp only [netSendSpec]
    rw [hp]
    rfl
  | 1 =>
    dsimp only [netSendSpec]
    rw [hp]
    rfl

/-! An accepted NET_SEND names class 2 or 3 (SV-0x060A). -/

theorem accepts_lateChecks {c : CmdSpec} {h : Nat} {s : State} (a : s.accepts c h = true) : lateChecks c (s.taken h) h = none := by
  simp only [State.accepts, Bool.and_eq_true, beq_iff_eq] at a
  tauto

/-- The survey of an accepted command finds nothing. -/
theorem judge_of_lateChecks {c : CmdSpec} {s : State} {h : Nat} {g : Cfg} {l : List Finding} (hl : lateChecks c s h = none)
    (hj : c.judge s h = some (g, l)) : l = [] := by
  cases l with
  | nil => rfl
  | cons f l =>
    unfold lateChecks at hl
    rw [hj] at hl
    repeat' split at hl
    all_goals simp_all

theorem taken_slots (s : State) (h : Nat) : (s.taken h).intake.slots = s.intake.slots := by
  unfold State.taken State.useBulk
  split <;> rfl

/-- PREEMPT stands with MOVE_TO and MOVE_BY only (R160). -/
theorem preempt_of_firstChecks {c : CmdSpec} {s : State} {h : Nat} (hf : firstChecks c s h = none) (h3 : s.opcode h ≠ 0x0103) (h4 : s.opcode h ≠ 0x0104) :
    s.preempt h = false := by
  by_contra hp
  unfold firstChecks at hf
  split at hf
  · cases hf
  next r hr =>
    have hb : ∃ o, s.headerBad h c.need r.bulk = some o := by
      unfold State.headerBad
      dsimp only
      split
      · exact ⟨_, rfl⟩
      · rw [if_pos ⟨Bool.eq_true_of_not_eq_false hp, h3, h4⟩]
        exact ⟨_, rfl⟩
    obtain ⟨o, ho⟩ := hb
    simp only [ho] at hf
    cases hf

theorem passed_slots {c : CmdSpec} {h : Nat} {s : State} (a : s.accepts c h = true) (ht : ∀ t x, (c.taken t x).intake.slots = t.intake.slots)
    (hs : isStopOp c.op = false) : (s.passed c h).intake.slots = s.intake.slots := by
  have hop : (s.taken h).opcode h = c.op := by
    rw [State.opcode, State.h16, State.hb, State.hb, taken_slots]
    exact accepts_opcode a
  rw [State.passed, ht, State.stopTaken, hop, hs, if_neg Bool.false_ne_true, taken_slots]

/-- An accepted command that is no move does not preempt. -/
theorem passed_preempt {c : CmdSpec} {h : Nat} {s : State} (a : s.accepts c h = true) (ht : ∀ t x, (c.taken t x).intake.slots = t.intake.slots)
    (hs : isStopOp c.op = false) (h3 : c.op ≠ 0x0103) (h4 : c.op ≠ 0x0104) : (s.passed c h).preempt h = false := by
  have ho := accepts_opcode a
  have hb : (s.beginTake h).preempt h = false :=
    preempt_of_firstChecks (accepts_firstChecks a) (fun k => h3 (ho.symm.trans k)) (fun k => h4 (ho.symm.trans k))
  have hbt : (s.beginTake h).preempt h = (s.passed c h).preempt h := by
    rw [State.preempt, State.preempt, State.flags, State.flags, State.hb, State.hb, passed_slots a ht hs]
    rfl
  rw [← hbt, hb]

/-- An accepted command that neither stops nor preempts begins with its slot as it was registered, but for the progress byte. -/
theorem begun_slots {c : CmdSpec} {h : Nat} {s : State} (a : s.accepts c h = true) (ht : ∀ t x, (c.taken t x).intake.slots = t.intake.slots)
    (hs : isStopOp c.op = false) (h3 : c.op ≠ 0x0103) (h4 : c.op ≠ 0x0104) :
    (s.begun c h).intake.slots = cellWrite s.intake.slots (128 * h + 7) [BitVec.ofNat 8 5] := by
  have hmark : ((s.passed c h).setStage h .started).intake.slots = cellWrite s.intake.slots (128 * h + 7) [BitVec.ofNat 8 5] := by
    rw [← passed_slots a ht hs]
    rfl
  have hlate (b : Bool) (t : State) : (if b then t else t.lateStart h).intake.slots = t.intake.slots := by
    split
    · rfl
    · exact (lateStart_leaves t h).2.1
  unfold State.begun State.markStart
  simp only [passed_preempt a ht hs h3 h4, Bool.false_eq_true, if_false]
  exact (hlate _ _).trans hmark

theorem begun_p8 {c : CmdSpec} {h : Nat} {s : State} (hw : cellWf s.intake.slots = true) (a : s.accepts c h = true)
    (ht : ∀ t x, (c.taken t x).intake.slots = t.intake.slots) (hs : isStopOp c.op = false) (h3 : c.op ≠ 0x0103) (h4 : c.op ≠ 0x0104) (i : Nat) :
    (s.begun c h).p8 h i = s.p8 h i := by
  unfold State.p8 State.hb
  rw [begun_slots a ht hs h3 h4, cellGet_write _ _ _ _ hw, if_neg]
  simp only [List.length_singleton]
  omega

theorem netSend_class {h : Fin 32} {s : State} (hw : cellWf s.intake.slots = true) (a : s.accepts netSendSpec h = true) :
    (s.begun netSendSpec h).p8 h 5 = 2 ∨ (s.begun netSendSpec h).p8 h 5 = 3 := by
  have hl := judge_of_lateChecks (accepts_lateChecks a) (g := (s.taken h).cfg)
    (l := surveyCfg (s.taken h) (s.taken h).params.running (s.taken h).cfg ++ (s.taken h).sendFindings h) rfl
  have hf : (s.taken h).sendFindings h = [] := (List.append_eq_nil_iff.mp hl).2
  have hc : (s.taken h).p8 h 5 = 2 ∨ (s.taken h).p8 h 5 = 3 := by
    by_contra hn
    obtain ⟨h2, h3⟩ := not_or.mp hn
    simp [State.sendFindings, fnd, h2, h3] at hf
  rw [begun_p8 hw a (fun _ _ => rfl) rfl (by decide) (by decide)]
  rwa [State.p8, State.hb, taken_slots] at hc

theorem push_get (q : PortSt) (c : Fin 4) (fs : List QFrame) : (q.push c fs).queues.get c = q.queues.get c ++ fs := Quad.get_set_self _ _ _

/-- A message of class 2 or 3 enters its queue with a tag of its own. -/
theorem netSend_queues {b : State} {h : Fin 32} {p : Fin 2} {c : Fin 4} (hp : b.p8 h 0 = p.val + 1) (hn : b.netOn p = true) (hc : b.p8 h 5 = c.val)
    (hcls : b.p8 h 5 = 2 ∨ b.p8 h 5 = 3) (hr : (b.ports.get p).room c (b.sendFrames h p c).length = true) :
    (netSendSpec.start b h).fab.tag = (b.fab.tag + 1) % 256 ∧ ((netSendSpec.start b h).ports.get p).queues.get c =
      (b.ports.get p).queues.get c ++ asQueue (some h.val) (b.sendFrames h p c) := by
  have hc2 : (if b.p8 h 5 = 2 then (2 : Fin 4) else 3) = c := by
    rcases hcls with k | k
    · rw [if_pos k]
      exact Fin.ext (k.symm.trans hc)
    · rw [if_neg (by omega)]
      exact Fin.ext (k.symm.trans hc)
  have hroom : (b.nextTag.2.ports.get p).room c (asQueue (some h.val) (b.sendFrames h p c)).length = true := by
    rw [asQueue_length]
    exact hr
  rw [netSend_port hp, hn, hc2, Bool.not_true, if_neg Bool.false_ne_true, enqueue_room hroom, updPort_get, push_get]
  exact ⟨rfl, rfl⟩

theorem netSend_starts : Starts netSendSpec .netSend (fun h b u =>
    (∀ p : Fin 2, b.p8 h 0 = p.val + 1 → b.netOn p = false → u = b.finish h 2 0xFFFF []) ∧
    (∀ (p : Fin 2) (c : Fin 4), b.p8 h 0 = p.val + 1 → b.netOn p = true → b.p8 h 5 = c.val →
      (b.ports.get p).room c (msgFrames (b.ownHead p c.val 0xB (b.p8 h 1) (b.p16 h 2) b.fab.tag false) (b.pBytes h 8 (b.p8 h 6))).length = true →
      u.fab.tag = (b.fab.tag + 1) % 256 ∧ (u.ports.get p).queues.get c = (b.ports.get p).queues.get c ++
        asQueue (some h.val) (msgFrames (b.ownHead p c.val 0xB (b.p8 h 1) (b.p16 h 2) b.fab.tag false) (b.pBytes h 8 (b.p8 h 6))))) := by
  intro h s a hw
  have hcls := netSend_class hw a
  refine ⟨_, congrArg Host.Outcome.next (takeRow_accepts a), fun p hp hn => ?_, fun p c hp hn hc hr => ?_⟩
  · rw [netSend_port hp, hn]
    rfl
  · exact netSend_queues hp hn hc hcls hr

/-! ### NET_SCHED -/

theorem writeWorking_ports (s : State) (w : List (Nat × Nat)) : (s.writeWorking w).ports = s.ports :=
  only_ports (w := allBut .ports) (by simp) (by simp)

theorem awaitVerdict_ports (s : State) (h code detail : Nat) (data : List Byte) (ev : Nat) (ids : List Nat) :
    (s.awaitVerdict h code detail data ev ids).ports = s.ports := only_ports (w := allBut .ports) (by simp) (by simp)

section
variable (b : State) (h : Nat) (t : Option Sched)

theorem setSched_ports : (b.setSched h t).ports = (b.updPort (b.schedPort h) (fun q => { q with sched := t })).ports := by
  rw [State.setSched, awaitVerdict_ports, writeWorking_ports]

theorem setSched_get : (b.setSched h t).ports.get (b.schedPort h) = { b.ports.get (b.schedPort h) with sched := t } := by
  rw [setSched_ports, updPort_get]

theorem setSched_other {q : Fin 2} (hq : q ≠ b.schedPort h) : (b.setSched h t).ports.get q = b.ports.get q := by
  rw [setSched_ports, updPort_get_of_ne hq]

theorem setSched_waits : (b.setSched h t).intake.onVerdict.getLast?.map (fun x => x.hop) = some h := awaitVerdict_last _ _ _ _ _ _ _

end

theorem netSchedLoad_starts : Starts netSchedLoadSpec .netSchedLoad (fun h b u => (u.ports.get (b.schedPort h)).sched = some (schedOf b.schedBulk) ∧
    (u.ports.get (b.schedPort h)).storeSched = (b.ports.get (b.schedPort h)).storeSched ∧
    u.intake.onVerdict.getLast?.map (fun x => x.hop) = some h.val ∧ ∀ q, q ≠ b.schedPort h → u.ports.get q = b.ports.get q) := by
  refine starts_of_start (fun _ _ => rfl) (fun _ _ k => k) fun h b _ => ?_
  have hx : netSchedLoadSpec.start b h = b.setSched h (some (schedOf b.schedBulk)) := rfl
  rw [hx, setSched_get]
  exact ⟨rfl, rfl, setSched_waits _ _ _, fun q hq => setSched_other _ _ _ hq⟩

theorem netSchedReload_starts : Starts netSchedReloadSpec .netSchedReload (fun h b u =>
    (u.ports.get (b.schedPort h)).sched = (b.ports.get (b.schedPort h)).storeSched ∧
    u.intake.onVerdict.getLast?.map (fun x => x.hop) = some h.val) := by
  refine starts_of_start (fun _ _ => rfl) (fun _ _ k => k) fun h b _ => ?_
  have hx : netSchedReloadSpec.start b h = b.setSched h (b.ports.get (b.schedPort h)).storeSched := rfl
  rw [hx, setSched_get]
  exact ⟨rfl, setSched_waits _ _ _⟩

theorem netSchedValidate_starts : Starts netSchedValidateSpec .netSchedValidate (fun h b u => u = b.doneWith h []) :=
  starts_of_start (fun _ _ => rfl) (fun _ _ k => k) fun _ _ _ => rfl

theorem netSchedSave_starts : Starts netSchedSaveSpec .netSchedSave (fun h b u => u.hb h 12 = 1 ∧
    (u.ports.get (b.schedPort h)).storeSched = (b.ports.get (b.schedPort h)).sched ∧
    (u.ports.get (b.schedPort h)).sched = (b.ports.get (b.schedPort h)).sched) := by
  refine starts_of_start (fun _ _ => rfl) (fun _ _ k => k) fun h b hw => ?_
  have hx : netSchedSaveSpec.start b h = (b.updPort (b.schedPort h) (fun q => { q with storeSched := q.sched })).doneWith h [] := rfl
  rw [hx]
  refine ⟨doneWith_code (s := b.updPort _ _) hw _ _, ?_, ?_⟩
  · rw [(SendOnly.doneWith _ h []).portField PortSt.storeSched fun _ => rfl, updPort_get]
  · rw [(SendOnly.doneWith _ h []).portField PortSt.sched fun _ => rfl, updPort_get]

theorem netSchedRead_starts : Starts netSchedReadSpec .netSchedRead (fun h b u =>
    ∀ t, (b.ports.get (b.schedPort h)).sched = some t → u = b.doneBulk h t.bytes) := by
  refine starts_of_start (fun _ _ => rfl) (fun _ _ k => k) fun h b _ t ht => ?_
  dsimp only [netSchedReadSpec]
  rw [ht]

/-- Settles O33: each command by the row of its table. -/
theorem netCommandComplete : Obligations.NetCommandComplete := by
  unfold Obligations.NetCommandComplete
  exact ⟨netStatus_starts, netRoute_starts, netQstat_starts, netWatch_starts, netSend_starts, netRecv_starts, netSchedLoad_starts,
    netSchedValidate_starts, netSchedSave_starts, netSchedRead_starts, netSchedReload_starts⟩

end Sys2Proof.Machine
end

section
/-! Network sleep: plans, sleep instants and listen windows (R498 to R505, Table EDGE-1). -/

namespace Sys2Proof.Machine

/-! ### Sending keeps the slots canonical -/

section
variable {s t : State}

theorem dropSends_wf (h : s.slotsWf) (l : List QFrame) : (s.dropSends l).slotsWf := by
  refine foldl_wf _ (fun t x ht => ?_) _ _ h
  split
  · exact finish_wf ht _ _ _ _
  · exact ht

theorem dropped_wf (h : s.slotsWf) (p : Fin 2) (c : Fin 4) (n : Nat) : (s.dropped p c n).slotsWf := by
  have hi : (s.dropped p c n).intake = s.intake := only_intake (w := allBut .intake) (by simp) (by simp)
  exact slotsWf_of_slots (congrArg (·.slots) hi) h

theorem dropOldest_wf {p : Fin 2} (e : s.dropOldest p = some t) (h : s.slotsWf) : t.slotsWf := by
  obtain ⟨rest, gone, rfl⟩ := dropOldest_some e
  have hu : (s.updPort p (fun q => { q with queues := q.queues.set 2 rest })).slotsWf := h
  exact dropSends_wf (dropped_wf hu p 2 gone.length) gone

theorem makeRoom_wf (h : s.slotsWf) (p : Fin 2) (n k : Nat) : (s.makeRoom p n k).slotsWf := by
  induction k generalizing s with
  | zero => exact h
  | succ k ih =>
    unfold State.makeRoom
    split
    · exact h
    · split
      next e => exact ih (dropOldest_wf e h)
      next => exact h

theorem enqueue_wf (h : s.slotsWf) (p : Fin 2) (c : Fin 4) (m : List QFrame) : (s.enqueue p c m).slotsWf := by
  unfold State.enqueue
  dsimp only
  split
  · exact slotsWf_of_slots rfl h
  · split
    · split
      · exact slotsWf_of_slots rfl h
      · split
        · exact slotsWf_of_slots rfl (makeRoom_wf h _ _ _)
        · exact dropSends_wf (dropped_wf (makeRoom_wf h _ _ _) _ _ _) _
    · exact dropSends_wf (dropped_wf h _ _ _) _

end

/-! ### SLEEP frames and the commands -/

/-- One port's SLEEP frame. -/
def State.sleepOn (op : Nat) (pl : SleepPlan) (tag : Nat) (p : Fin 2) (t : State) : State :=
  if t.netOn p then t.enqueue p 1 (asQueue none [mkFrame (t.ownHead p 1 0xA 2 0 tag false) (sleepBody op pl)]) else t

theorem sendSleep_eq (s : State) (op : Nat) (pl : SleepPlan) :
    s.sendSleep op pl = (s.nextTag.2.sleepOn op pl s.fab.tag 0).sleepOn op pl s.fab.tag 1 := rfl

section
variable (s : State) (op : Nat) (pl : SleepPlan)

theorem sleepOn_sends (tag : Nat) (p : Fin 2) : SendOnly s (s.sleepOn op pl tag p) := by
  unfold State.sleepOn
  split
  · exact SendOnly.enqueue _ _ _ _
  · exact SendOnly.refl s

theorem sendSleep_sends : SendOnly s (s.sendSleep op pl) :=
  (SendOnly.nextTag s).trans ((sleepOn_sends _ _ _ _ 0).trans (sleepOn_sends _ _ _ _ 1))

variable {s}

theorem sleepOn_wf (h : s.slotsWf) (tag : Nat) (p : Fin 2) : (s.sleepOn op pl tag p).slotsWf := by
  unfold State.sleepOn
  split
  · exact enqueue_wf h _ _ _
  · exact h

theorem sendSleep_wf (h : s.slotsWf) : (s.sendSleep op pl).slotsWf := sleepOn_wf op pl (sleepOn_wf op pl (s := s.nextTag.2) h _ 0) _ 1

theorem sendSleep_ret : (s.sendSleep op pl).ret = s.ret := only_ret (w := allBut .ret) (by simp) (by simp)

end

theorem doneWith_ret (s : State) (h : Nat) (res : List Byte) : (s.doneWith h res).ret = s.ret := only_ret (w := allBut .ret) (by simp) (by simp)

/-- The state in which the root announces a plan. -/
def State.planHeld (s : State) (pl : SleepPlan) : State :=
  { s with fab := { s.fab with plan := some pl, announce := some 0, annTimer := 4 }, ret := { s.ret with plan := some pl } }

theorem netSleepAnnounce_start (b : State) (h : Nat) : netSleepAnnounceSpec.start b h =
    ((b.planHeld (sleepPlanOf b h)).sendSleep 0 (sleepPlanOf b h)).doneWith h [] := by
  dsimp only [netSleepAnnounceSpec]
  rfl

theorem netSleepAnnounce_starts : Starts netSleepAnnounceSpec .netSleepAnnounce (fun h b u => u.hb h 12 = 1 ∧ u.fab.plan = some (sleepPlanOf b h) ∧
    u.fab.announce = some 0 ∧ u.fab.annTimer = 4 ∧ u.ret.plan = some (sleepPlanOf b h)) := by
  refine starts_of_start (fun _ _ => rfl) (fun _ _ k => k) fun h b hw => ?_
  rw [netSleepAnnounce_start]
  have hs := (sendSleep_sends (b.planHeld (sleepPlanOf b h)) 0 (sleepPlanOf b h)).trans (SendOnly.doneWith _ h [])
  refine ⟨doneWith_code (sendSleep_wf _ _ (s := b.planHeld (sleepPlanOf b h)) hw) _ _, hs.fabField FabSt.plan fun _ => rfl,
    hs.fabField FabSt.announce fun _ => rfl, hs.fabField FabSt.annTimer fun _ => rfl, ?_⟩
  rw [doneWith_ret, sendSleep_ret]
  rfl

theorem netSleepCancel_starts : Starts netSleepCancelSpec .netSleepCancel
    (fun h _ u => u.hb h 12 = 1 ∧ u.fab.plan = none ∧ u.fab.announce = none ∧ u.ret.plan = none) := by
  refine starts_of_start (fun _ _ => rfl) (fun _ _ k => k) fun h b hw => ?_
  have hx : netSleepCancelSpec.start b h = ((b.sendSleep 1 (sleepPlanOf b h)).endPlan).doneWith h [] := rfl
  rw [hx]
  have hs := SendOnly.doneWith ((b.sendSleep 1 (sleepPlanOf b h)).endPlan) h []
  refine ⟨doneWith_code (s := (b.sendSleep 1 (sleepPlanOf b h)).endPlan) (sendSleep_wf _ _ hw) _ _, hs.fabField FabSt.plan fun _ => rfl,
    hs.fabField FabSt.announce fun _ => rfl, ?_⟩
  rw [doneWith_ret]
  rfl

theorem netSleepStatus_starts : Starts netSleepStatusSpec .netSleepStatus
    (fun h b u => u.hb h 12 = 1 ∧ u.fab.plan = b.fab.plan ∧ u.ret = b.ret) :=
  starts_of_start (fun _ _ => rfl) (fun _ _ k => k) fun _ b hw =>
    ⟨doneWith_code hw _ _, (SendOnly.doneWith b _ _).fabField FabSt.plan fun _ => rfl, doneWith_ret _ _ _⟩

/-! ### SLEEP_RECEIVED -/

/-- The plan that a SLEEP describes. -/
def sleepPlanIn (f : AmFrame) : SleepPlan :=
  { awake := get16 (bodyOf f) 2, start := BitVec.ofNat 32 (get32 (bodyOf f) 4), cycle := get32 (bodyOf f) 8, guard := get16 (bodyOf f) 12,
    count := get16 (bodyOf f) 14, root := BitVec.ofNat 64 (getN (bodyOf f) 16 8) }

section
variable {p : Fin 2} {f : AmFrame} {s : State} (hh : s.hears p f 0xA = true)
include hh

theorem sleepReceived_plan (hr : s.fab.root = some (BitVec.ofNat 64 (getN (bodyOf f) 16 8))) : Answers (.sleepReceived p f) s (fun t =>
      (getB (bodyOf f) 0 = 1 → t.fab.plan = none ∧ t.ret.plan = none) ∧
      (getB (bodyOf f) 0 = 0 → ∃ pl, t.fab.plan = some pl ∧ pl.awake = get16 (bodyOf f) 2 ∧ pl.start = BitVec.ofNat 32 (get32 (bodyOf f) 4) ∧
        pl.cycle = get32 (bodyOf f) 8 ∧ pl.guard = get16 (bodyOf f) 12 ∧ pl.count = get16 (bodyOf f) 14 ∧ some pl.root = s.fab.root)) := by
  have hroot : ¬ (s.heardTx p f).fab.root ≠ some (BitVec.ofNat 64 (getN (bodyOf f) 16 8)) := not_not.mpr hr
  have hx : exec (.sleepReceived p f) s = .next (
      let t := s.heardTx p f
      if getB (bodyOf f) 0 = 1 then t.endPlan
      else if getB (bodyOf f) 0 ≠ 0 then t
      else if t.fab.plan = some (sleepPlanIn f) then t
      else (({ t with fab := { t.fab with plan := some (sleepPlanIn f) }, ret := { t.ret with plan := some (sleepPlanIn f) } } : State).planSave).evFree 0x0622) :=
    congrArg Host.Outcome.next ((rx_hears hh _).trans (if_neg hroot))
  refine ⟨_, hx, fun h1 => ?_, fun h0 => ⟨sleepPlanIn f, ?_, rfl, rfl, rfl, rfl, rfl, hr.symm⟩⟩
  · dsimp only
    rw [if_pos h1]
    exact ⟨rfl, rfl⟩
  · dsimp only
    rw [if_neg (by omega), if_neg (not_not.mpr h0)]
    split
    next hs => exact hs
    next => exact (SendOnly.evFree _ _).fabField FabSt.plan fun _ => rfl

theorem sleepReceived_foreign (hr : s.fab.root ≠ some (BitVec.ofNat 64 (getN (bodyOf f) 16 8))) : Answers (.sleepReceived p f) s (fun t =>
    t.fab.plan = s.fab.plan ∧ (t.ports.get p).discards = inc16 (s.ports.get p).discards ∧ s.only [.ports] t) := by
  have hroot : (s.heardTx p f).fab.root ≠ some (BitVec.ofNat 64 (getN (bodyOf f) 16 8)) := hr
  refine ⟨_, congrArg Host.Outcome.next ((rx_hears hh _).trans (if_pos hroot)), rfl, ?_, by simp [State.only, State.heardTx]⟩
  rw [updPort_get]
  exact congrArg inc16 (heardTx_port PortSt.discards (fun _ _ => rfl) s p f p)

end

/-! ### What the losses of a window leave -/

/-- The fabric state apart from what the loss of nodes changes. -/
def FabSt.offLosses (f : FabSt) : FabSt := { f.offSends with watches := [], actions := [], neighbours := [] }

/-- Nodes may have been lost and told of; nothing else of the ports and of the fabric differs. -/
structure LossOnly (s t : State) : Prop where
  port : ∀ q, (t.ports.get q).offQueues = (s.ports.get q).offQueues
  fab : t.fab.offLosses = s.fab.offLosses

namespace LossOnly

variable {s t u : State}

theorem trans (h : LossOnly s t) (k : LossOnly t u) : LossOnly s u := ⟨fun q => (k.port q).trans (h.port q), k.fab.trans h.fab⟩

theorem of_send (h : SendOnly s t) : LossOnly s t := ⟨h.port, h.fabField FabSt.offLosses fun _ => rfl⟩

theorem refl (s : State) : LossOnly s s := of_send (SendOnly.refl s)

theorem of_fab (hp : t.ports = s.ports) (hf : t.fab.offLosses = s.fab.offLosses) : LossOnly s t := ⟨fun q => by rw [hp], hf⟩

theorem foldl {α : Type} {f : State → α → State} (hf : ∀ s a, LossOnly s (f s a)) (l : List α) (s : State) : LossOnly s (l.foldl f s) := by
  induction l generalizing s with
  | nil => exact refl s
  | cons a l ih => exact (hf s a).trans (ih _)

theorem watchAction (s : State) (w : Nat) : LossOnly s (s.watchAction w) := by
  unfold State.watchAction
  dsimp only
  split
  · exact refl s
  · exact of_fab rfl rfl

theorem watchLost (s : State) (w : Nat) (quiet : Bool) : LossOnly s (s.watchLost w quiet) := by
  unfold State.watchLost
  dsimp only
  split
  · refine trans ?_ (trans (of_send (SendOnly.evIf _ _ _ _)) (watchAction _ _))
    exact of_fab rfl rfl
  · exact refl s

theorem nodeLost (s : State) (addr : Nat) : LossOnly s (s.nodeLost addr) :=
  (of_send ((SendOnly.ev _ _ _).trans (SendOnly.sendLossEvt _ _ _))).trans (foldl (fun t w => watchLost t w true) _ _)

theorem windowLosses (s : State) (w : BitVec 32) : LossOnly s (s.windowLosses w) := by
  unfold State.windowLosses
  dsimp only
  refine trans ?_ (foldl nodeLost _ _)
  exact of_fab rfl rfl

theorem portField {α : Type} (h : LossOnly s t) (g : PortSt → α) (hg : ∀ q, g (PortSt.offQueues q) = g q) (q : Fin 2) :
    g (t.ports.get q) = g (s.ports.get q) := by rw [← hg, h.port, hg]

theorem fabField {α : Type} (h : LossOnly s t) (g : FabSt → α) (hg : ∀ f, g (FabSt.offLosses f) = g f) : g t.fab = g s.fab := by
  rw [← hg, h.fab, hg]

end LossOnly

/-- The sleep instant is judged once. -/
def State.instJudged (s : State) : State := { s with fab := { s.fab with instAt := some s.frame.superframe, awakeAt := none } }

section
variable (s : State) (w : Option (BitVec 32))

theorem instLosses_losses : LossOnly s.instJudged (s.instLosses w) := by
  unfold State.instLosses
  dsimp only
  split
  · exact LossOnly.windowLosses _ _
  · exact LossOnly.refl _

theorem instLosses_plan : (s.instLosses w).fab.plan = s.fab.plan := (instLosses_losses s w).fabField FabSt.plan fun _ => rfl
theorem instLosses_power : (s.instLosses w).power = s.power := only_power (w := allBut .power) (by simp) (by simp)
theorem instLosses_params : (s.instLosses w).params = s.params := only_params (w := allBut .params) (by simp) (by simp)
theorem instLosses_frame : (s.instLosses w).frame = s.frame := only_frame (w := allBut .frame) (by simp) (by simp)

theorem instLosses_sleepDepth : (s.instLosses w).sleepDepth = s.sleepDepth := by
  have hp := instLosses_params s w
  have hd (q : Fin 2) : ((s.instLosses w).ports.get q).depth = (s.ports.get q).depth := (instLosses_losses s w).portField PortSt.depth (fun _ => rfl) q
  have hn (q : Fin 2) : (s.instLosses w).netOn q = s.netOn q := unitOn_of_params hp _
  have hr : (s.instLosses w).isRoot = s.isRoot := by rw [State.isRoot, State.isRoot, par_of_params hp]
  unfold State.sleepDepth
  simp only [hr, hn, hd]

end

/-! ### Entering sleep -/

section
variable {s : State} (pl : SleepPlan) (k : Nat) (h : s.power.change = none)
include h

/-- What entering sleep for the window of wake point `k` leaves. -/
theorem sleepFor_enters : (s.sleepFor pl k).power.change = some (if s.par 0x6043 = 0 then .sleep else .standby) ∧
    (s.sleepFor pl k).fab.wakeK = k ∧ (s.sleepFor pl k).fab.plan = s.fab.plan ∧ (s.sleepFor pl k).fab.m = s.fab.m ∧
    1 ≤ (s.sleepFor pl k).power.wakeTime := by
  have hc : ¬ s.power.change.isSome = true := by rw [h]; decide
  unfold State.sleepFor
  simp only [if_neg hc]
  refine ⟨?_, trivial, trivial, trivial, ?_⟩
  · by_cases h0 : s.par 0x6043 = 0
    · simp [h0]
    · simp [h0]
  · omega

end

theorem sleepFor_faults (s : State) (pl : SleepPlan) (k : Nat) : (s.sleepFor pl k).faults = s.faults :=
  only_faults (w := allBut .faults) (by simp) (by simp)

/-! ### SLEEP_INSTANT (R501, R502) -/

/-- The window whose end a sleep instant judges. -/
def State.windowBefore (s : State) (pl : SleepPlan) : Option (BitVec 32) :=
  match s.fab.awakeAt with
  | some w => some w
  | none => if 1 < s.nextWake pl then some (wakePoint pl (s.nextWake pl - 1)) else none

/-- The state after the losses of a sleep instant. -/
def State.instDone (s : State) (pl : SleepPlan) : State := s.instLosses (s.windowBefore pl)

section
variable {pl : SleepPlan} {s : State} (hp : s.fab.plan = some pl) (hf : s.frame.running = true) (hw : s.fab.woken = false)
  (hi : s.instantNow pl = true)
include hp hf hw hi

theorem sleepInstant_eq : exec .sleepInstant s = .next (
    let t := s.instDone pl
    let deepAt := pl.awake < 28 * t.sleepDepth + 8
    let busy := t.power.dev == .run || t.power.change.isSome
    if !pl.has (s.nextWake pl) then t.endPlan
    else if t.unitOn 8 then
      if busy || deepAt || !(t.twin.lastSent.isSome && t.twin.pFlags.getLsbD 4) then t.ev 0x0625 0 else t.sleepFor pl (s.nextWake pl)
    else if busy then t.ev 0x0625 0
    else if deepAt then t.ev 0x0625 1
    else t.sleepFor pl (s.nextWake pl)) := by
  have hgo : ¬ (!s.frame.running || s.fab.woken || !s.instantNow pl) = true := by
    rw [hf, hw, hi]
    decide
  change execSleepInstant s = _
  unfold execSleepInstant
  simp only [hp, if_neg hgo]
  rfl

theorem sleepInstant_ends (hh : pl.has (s.nextWake pl) = false) :
    Answers .sleepInstant s (fun t => t.fab.plan = none ∧ t.ret.plan = none ∧ t.power = s.power) := by
  refine ⟨_, sleepInstant_eq hp hf hw hi, ?_⟩
  simp only [hh, Bool.not_false, if_true]
  exact ⟨rfl, rfl, instLosses_power _ _⟩

variable (hu : s.unitOn 8 = false) (hh : pl.has (s.nextWake pl) = true)
include hu hh

theorem sleepInstant_sleeps (hd : s.power.dev ≠ .run) (hc : s.power.change = none) (ha : 28 * s.sleepDepth + 8 ≤ pl.awake) :
    Answers .sleepInstant s (fun t => t.power.change = some (if s.par 0x6043 = 0 then .sleep else .standby) ∧ t.fab.wakeK = s.nextWake pl ∧
      t.fab.plan = some pl ∧ 1 ≤ t.power.wakeTime) := by
  have hpow : (s.instDone pl).power = s.power := instLosses_power _ _
  have hpar : (s.instDone pl).params = s.params := instLosses_params _ _
  have hunit : (s.instDone pl).unitOn 8 = false := (unitOn_of_params hpar 8).trans hu
  have hdepth : ¬ pl.awake < 28 * (s.instDone pl).sleepDepth + 8 := by
    have hs : (s.instDone pl).sleepDepth = s.sleepDepth := instLosses_sleepDepth _ _
    rw [hs]
    omega
  have hbusy : ((s.instDone pl).power.dev == .run || (s.instDone pl).power.change.isSome) = false := by
    rw [hpow, hc]
    simp [hd]
  obtain ⟨h1, h2, h3, -, h5⟩ := sleepFor_enters pl (s.nextWake pl) ((congrArg (·.change) hpow).trans hc)
  refine ⟨_, sleepInstant_eq hp hf hw hi, ?_⟩
  simp only [hh, hunit, hbusy, if_neg hdepth, Bool.not_true, Bool.false_eq_true, if_false]
  refine ⟨h1.trans ?_, h2, h3.trans ((instLosses_plan _ _).trans hp), h5⟩
  rw [par_of_params hpar]

theorem sleepInstant_busy (hd : s.power.dev = .run) : Answers .sleepInstant s (fun t => t.power = s.power ∧ t.fab.plan = some pl ∧
    t.faults.events.getLast? = some (0x0625, 0, s.frame.counter)) := by
  have hpow : (s.instDone pl).power = s.power := instLosses_power _ _
  have hunit : (s.instDone pl).unitOn 8 = false := (unitOn_of_params (instLosses_params _ _) 8).trans hu
  have hbusy : ((s.instDone pl).power.dev == .run || (s.instDone pl).power.change.isSome) = true := by
    rw [hpow, hd]
    rfl
  have hframe : (s.instDone pl).frame = s.frame := instLosses_frame _ _
  have hevp : ((s.instDone pl).ev 0x0625 0).power = (s.instDone pl).power := only_power (w := allBut .power) (by simp) (by simp)
  have hplan : ((s.instDone pl).ev 0x0625 0).fab.plan = (s.instDone pl).fab.plan := (SendOnly.ev _ _ _).fabField FabSt.plan fun _ => rfl
  refine ⟨_, sleepInstant_eq hp hf hw hi, ?_⟩
  simp only [hh, hunit, hbusy, Bool.not_true, Bool.false_eq_true, if_false, if_true]
  refine ⟨hevp.trans hpow, hplan.trans ((instLosses_plan _ _).trans hp), ?_⟩
  rw [ev_last, hframe]

end

/-! ### Listen windows (R503, R505) -/

section
variable {pl : SleepPlan} {s : State} (hp : s.fab.plan = some pl) (hf : s.frame.running = true) (hw : s.fab.woken = true)
include hp hf hw

/-- The state after a window without a beacon. -/
def State.windowMissed (s : State) : State :=
  let t := s.ev 0x0624 s.fab.m
  { t with fab := { t.fab with m := t.fab.m + 1 } }

omit hp hf hw in
theorem windowMissed_fab : s.windowMissed.fab.m = s.fab.m + 1 ∧ s.windowMissed.fab.wakeK = s.fab.wakeK :=
  ⟨congrArg (· + 1) ((SendOnly.ev s 0x0624 s.fab.m).fabField FabSt.m fun _ => rfl), (SendOnly.ev s 0x0624 s.fab.m).fabField FabSt.wakeK fun _ => rfl⟩

theorem listenWindowEnd_eq (hl : s.fab.listening = false) (hi : s.fab.interim = false)
    (he : 0 ≤ sgn 32 (s.frame.superframe - s.fab.winEnd).toNat) : exec .listenWindowEnd s = .next (
      let t := s.windowMissed
      if pl.cycle ≤ 2 * pl.guard * 2 ^ t.fab.m then
        ({ t with fab := { t.fab with listening := true } } : State).raiseFree 0x0620 0 true
      else if !pl.has (t.fab.wakeK + 1) then t.endPlan
      else t.sleepFor pl (t.fab.wakeK + 1)) := by
  have hgo : ¬ (!s.frame.running || !s.fab.woken || s.fab.listening || s.fab.interim ||
      decide (sgn 32 (s.frame.superframe - s.fab.winEnd).toNat < 0)) = true := by
    rw [hf, hw, hl, hi]
    simpa using he
  change execListenWindowEnd s = _
  unfold execListenWindowEnd
  simp only [hp, if_neg hgo]
  rfl

theorem listenWindowEnd_listens (hl : s.fab.listening = false) (hi : s.fab.interim = false)
    (he : 0 ≤ sgn 32 (s.frame.superframe - s.fab.winEnd).toNat) (hc : pl.cycle ≤ 2 * pl.guard * 2 ^ (s.fab.m + 1)) :
    Answers .listenWindowEnd s (fun t => t.fab.m = s.fab.m + 1 ∧ t.fab.listening = true ∧ t.faultActive 0x0620 = true ∧ t.power = s.power) := by
  have hr (t : State) : (t.raiseFree 0x0620 0 true).fab = t.fab ∧ (t.raiseFree 0x0620 0 true).power = t.power :=
    ⟨only_fab (w := allBut .fab) (by simp) (by simp), only_power (w := allBut .power) (by simp) (by simp)⟩
  have hpow : s.windowMissed.power = s.power := only_power (w := allBut .power) (by simp [State.windowMissed]) (by simp)
  refine ⟨_, listenWindowEnd_eq hp hf hw hl hi he, ?_⟩
  simp only [windowMissed_fab, if_pos hc, hr]
  exact ⟨trivial, trivial, (raiseFree_faultActive ..).trans rfl, hpow⟩

theorem listenWindowEnd_sleeps (hl : s.fab.listening = false) (hi : s.fab.interim = false)
    (he : 0 ≤ sgn 32 (s.frame.superframe - s.fab.winEnd).toNat) (hc : 2 * pl.guard * 2 ^ (s.fab.m + 1) < pl.cycle)
    (hh : pl.has (s.fab.wakeK + 1) = true) (hn : s.power.change = none) :
    Answers .listenWindowEnd s (fun t => t.fab.m = s.fab.m + 1 ∧ t.fab.wakeK = s.fab.wakeK + 1 ∧ t.power.change.isSome = true ∧
      t.faults.events.getLast? = some (0x0624, s.fab.m % 65536, s.frame.counter)) := by
  have hpow : s.windowMissed.power = s.power := only_power (w := allBut .power) (by simp [State.windowMissed]) (by simp)
  have hlast : s.windowMissed.faults.events.getLast? = some (0x0624, s.fab.m % 65536, s.frame.counter) := ev_last s 0x0624 s.fab.m
  obtain ⟨h1, h2, -, h4, -⟩ := sleepFor_enters pl (s.fab.wakeK + 1) ((congrArg (·.change) hpow).trans hn)
  refine ⟨_, listenWindowEnd_eq hp hf hw hl hi he, ?_⟩
  simp only [windowMissed_fab, if_neg (not_le.mpr hc), hh, Bool.not_true, Bool.false_eq_true, if_false, sleepFor_faults]
  exact ⟨h4.trans windowMissed_fab.1, h2, by rw [h1]; rfl, hlast⟩

theorem interimListenEnd_sleeps (hi : s.fab.interim = true) (ha : pl.awake ≤ (s.frame.superframe - s.fab.wokeAt).toNat)
    (hn : s.power.change = none) : Answers .interimListenEnd s (fun t => t.fab.wakeK = s.fab.wakeK ∧
      t.power.change = some (if s.par 0x6043 = 0 then .sleep else .standby) ∧ s.only [.fab, .power] t) := by
  obtain ⟨h1, h2, -⟩ := sleepFor_enters pl s.fab.wakeK hn
  have hx : execInterimListenEnd s = .next (s.sleepFor pl s.fab.wakeK) := by
    unfold execInterimListenEnd
    simp only [hp, hf, hw, hi, decide_eq_true ha, Bool.and_self, if_true]
  exact ⟨_, hx, h2, h1, by simp [State.only]⟩

end

/-- Settles O34: plans by what they leave of the fabric, instants and windows by the tests that decide them. -/
theorem sleepComplete : Obligations.SleepComplete := by
  unfold Obligations.SleepComplete
  exact ⟨netSleepAnnounce_starts, netSleepCancel_starts, netSleepStatus_starts, fun _ _ _ hh hr => sleepReceived_plan hh hr,
    fun _ _ _ hh hr => sleepReceived_foreign hh hr,
    fun _ _ hp hf hw hu hi hh hd hc ha => sleepInstant_sleeps hp hf hw hi hu hh hd hc ha,
    fun _ _ hp hf hw hu hi hh hd => sleepInstant_busy hp hf hw hi hu hh hd, fun _ _ hp hf hw hi hh => sleepInstant_ends hp hf hw hi hh,
    fun _ _ hp hf hw hl hi he hc => listenWindowEnd_listens hp hf hw hl hi he hc,
    fun _ _ hp hf hw hl hi he hc hh hn => listenWindowEnd_sleeps hp hf hw hl hi he hc hh hn,
    fun _ _ hp hf hw hi ha hn => interimListenEnd_sleeps hp hf hw hi ha hn⟩

end Sys2Proof.Machine
end

section
/-! The ISOBUS port: address claim, requests, status, transport protocol, commands and speed (R517 to R523). -/

namespace Sys2Proof.Machine

/-! ### Sending and receiving -/

theorem leNat_lt (l : List Byte) : leNat l < 256 ^ l.length := by
  induction l with
  | nil => decide
  | cons b l ih =>
    have hb : b.toNat < 256 := b.isLt
    have he : leNat (b :: l) = b.toNat + 256 * leNat l := rfl
    rw [he, List.length_cons, pow_succ]
    omega

/-- A NAME fits its 64 bits. -/
theorem name_toNat (d : List Byte) : (BitVec.ofNat 64 (getN d 0 8)).toNat = getN d 0 8 := by
  rw [BitVec.toNat_ofNat, Nat.mod_eq_of_lt]
  refine lt_of_lt_of_le (leNat_lt _) (le_trans (Nat.pow_le_pow_right (by decide) (List.length_take_le 8 _)) (by decide))

/-- A live port that is not barred sends. -/
def IsoSt.withTx (i : IsoSt) (f : IsoFrame) : IsoSt := { i with tx := i.tx ++ [f] }

section
variable {s : State}

theorem isoLive_runs (h : s.isoLive = true) : s.iso.busOff = false ∧ s.iso.stopped = false := by
  simp only [State.isoLive, Bool.and_eq_true, Bool.not_eq_true'] at h
  exact ⟨h.1.1.2, h.1.2⟩

theorem isoSend_sends (hl : s.iso.busOff = false ∧ s.iso.stopped = false) (hb : s.isoBarred = false) (f : IsoFrame) :
    s.isoSend f = { s with iso := s.iso.withTx f } :=
  if_neg (by rw [hl.1, hl.2, hb]; decide)

/-- Of the port, sending changes the queue only. -/
theorem isoSend_iso {α : Type} (g : IsoSt → α) (hg : ∀ i f, g (IsoSt.withTx i f) = g i) (s : State) (f : IsoFrame) : g (s.isoSend f).iso = g s.iso := by
  unfold State.isoSend
  split
  · rfl
  · exact hg _ _

theorem isoSend_rest (s : State) (f : IsoFrame) : (s.isoSend f).params = s.params ∧ (s.isoSend f).faults = s.faults ∧ (s.isoSend f).frame = s.frame := by
  unfold State.isoSend
  split <;> exact ⟨rfl, rfl, rfl⟩

theorem isoRx_takes {f : IsoFrame} (hl : s.isoLive = true) (hf : f.classic = true) (k : State → State) : s.isoRx f k = k s := by
  unfold State.isoRx
  simp only [hl, hf, Bool.not_true, Bool.false_eq_true, if_false]

end

/-! ### ADDRESS_CLAIMED (R517) -/

/-- The claims heard on the bus, with one from `src` of NAME `n`. -/
def IsoSt.hears (i : IsoSt) (src : Nat) (n : BitVec 64) : IsoSt :=
  { i with heard := if src < 254 then i.heard.filter (fun e => e.2 != n && e.1 != src) ++ [(src, n)] else i.heard.filter (fun e => e.2 != n && e.1 != src) }

section
variable {f : IsoFrame} {s : State} (hl : s.isoLive = true) (hp : isoPgn f = 0xEE00) (hd : f.data.length = 8) (hc : f.classic = true)
  (ha : isoSrc f = s.iso.addr) (hst : s.iso.claim = .claiming ∨ s.iso.claim = .held)
include hl hp hd hc ha hst

/-- The state after a contrary claim is noted. -/
def State.rivalHeard (s : State) (f : IsoFrame) : State := s.updIso (fun i => i.hears (isoSrc f) (BitVec.ofNat 64 (getN f.data 0 8)))

theorem addressClaimed_eq (hn : getN f.data 0 8 ≠ s.isoName) : exec (.addressClaimed f) s = .next (
    let t := s.rivalHeard f
    if s.isoName < getN f.data 0 8 then t.sendClaimed (isoSrc f)
    else match (if s.isoName.testBit 63 then t.nextIsoAddr else none) with
      | some a => (if s.iso.claim = .held then t.evFree 0x0702 else t).isoClaimAt a
      | none => (t.updIso (fun i => { i with claim := .cannot, cannotDue := true, cannotAt := s.frame.counter })).raiseFree 0x0703 0 true) := by
  have hgo : ¬ (isoPgn f != 0xEE00 || f.data.length != 8 || (BitVec.ofNat 64 (getN f.data 0 8)).toNat == s.isoName) = true := by
    rw [name_toNat, hp, hd]
    simp [hn]
  have hmine : ¬ (isoSrc f ≠ s.iso.addr ∨ (s.iso.claim ≠ .claiming ∧ s.iso.claim ≠ .held)) := by
    rcases hst with h | h <;> simp [ha, h]
  have hname : (s.rivalHeard f).isoName = s.isoName := rfl
  refine congrArg Host.Outcome.next ((isoRx_takes hl hc _).trans ((if_neg hgo).trans ((if_neg hmine).trans ?_)))
  rw [name_toNat]
  rfl

theorem addressClaimed_answers (hn : s.isoName < getN f.data 0 8) : Answers (.addressClaimed f) s (fun t =>
    t.iso.claim = s.iso.claim ∧ t.iso.addr = s.iso.addr ∧
      (s.isoBarred = false → t.iso.tx = s.iso.tx ++ [isoMsg 6 0xEE00 255 s.iso.addr (leBytes 8 s.isoName)]) ∧ s.only [.iso] t) := by
  refine ⟨_, addressClaimed_eq hl hp hd hc ha hst (by omega), ?_⟩
  simp only [if_pos hn]
  unfold State.sendClaimed
  refine ⟨isoSend_iso IsoSt.claim (fun _ _ => rfl) _ _, isoSend_iso IsoSt.addr (fun _ _ => rfl) _ _, fun hb => ?_, by simp [State.only, State.rivalHeard]⟩
  rw [isoSend_sends (s := s.rivalHeard f) (isoLive_runs hl) hb, ha]
  rfl

omit hl hp hd hc ha hst in
/-- The next address is another one, from 128 to 247. -/
theorem nextIsoAddr_range {t : State} {a : Nat} (h : t.nextIsoAddr = some a) : a ≠ t.iso.addr ∧ 128 ≤ a ∧ a ≤ 247 := by
  have hne := List.find?_some h
  obtain ⟨k, -, rfl⟩ := List.mem_map.mp (List.mem_of_find?_eq_some h)
  simp only [Bool.and_eq_true, bne_iff_ne] at hne
  exact ⟨hne.1, by omega, by omega⟩

omit hl hp hd hc ha hst in
/-- A claim sets the port claiming the address. -/
theorem isoClaimAt_claims (t : State) (a : Nat) : (t.isoClaimAt a).iso.claim = .claiming ∧ (t.isoClaimAt a).iso.addr = a ∧
    (t.isoClaimAt a).iso.claimAt = t.frame.counter ∧ (t.isoClaimAt a).params = t.params :=
  ⟨isoSend_iso IsoSt.claim (fun _ _ => rfl) _ _, isoSend_iso IsoSt.addr (fun _ _ => rfl) _ _, isoSend_iso IsoSt.claimAt (fun _ _ => rfl) _ _,
    (isoSend_rest _ _).1⟩

theorem addressClaimed_yields (hn : getN f.data 0 8 < s.isoName) : Answers (.addressClaimed f) s (fun t =>
      (t.iso.claim = .claiming ∧ t.iso.addr ≠ s.iso.addr ∧ 128 ≤ t.iso.addr ∧ t.iso.addr ≤ 247 ∧ s.isoName.testBit 63 = true) ∨
      (t.iso.claim = .cannot ∧ t.iso.cannotDue = true ∧ t.faultActive 0x0703 = true)) := by
  have hr (t : State) : (t.raiseFree 0x0703 0 true).iso = t.iso := only_iso (w := allBut .iso) (by simp) (by simp)
  refine ⟨_, addressClaimed_eq hl hp hd hc ha hst (by omega), ?_⟩
  simp only [if_neg (not_lt.mpr hn.le)]
  split
  next a hx =>
    refine .inl ?_
    split at hx
    next hbit =>
      obtain ⟨h1, h2, h3⟩ := nextIsoAddr_range hx
      obtain ⟨k1, k2, -⟩ := isoClaimAt_claims (if s.iso.claim = .held then (s.rivalHeard f).evFree 0x0702 else s.rivalHeard f) a
      rw [k2]
      exact ⟨k1, h1, h2, h3, hbit⟩
    next => cases hx
  next =>
    refine .inr ?_
    rw [hr]
    exact ⟨rfl, rfl, (raiseFree_faultActive ..).trans rfl⟩

end

/-! ### The claim's timers, and a commanded address (R517, R518) -/

theorem isoClaimTimer_holds {s : State} (hl : s.isoLive = true) (hc : s.iso.claim = .claiming) (ht : 5000 ≤ s.since s.iso.claimAt) :
    Answers .isoClaimTimer s (fun t => t.iso.claim = .held ∧ t.iso.addr = s.iso.addr ∧ t.iso.heldAt = s.frame.superframe ∧
      t.faults.events.getLast? = some (0x0701, s.iso.addr % 65536, s.frame.counter)) := by
  have he (t : State) (code qual : Nat) : (t.ev code qual).iso = t.iso := only_iso (w := allBut .iso) (by simp) (by simp)
  have hi (t : State) (code : Nat) : (t.condEnd code).iso = t.iso ∧ (t.condEnd code).faults.events = t.faults.events := ⟨rfl, rfl⟩
  refine ⟨_, congrArg Host.Outcome.next (if_pos (by simp [hl, hc, ht])), ?_⟩
  simp only [hi, he, ev_last]
  exact ⟨rfl, rfl, rfl, rfl⟩

theorem cannotClaim_sends {s : State} (hl : s.isoLive = true) (hc : s.iso.claim = .cannot) (hd : s.iso.cannotDue = true)
    (ht : 12 * (Config.uid.toNat % 256) ≤ s.since s.iso.cannotAt) :
    Answers .cannotClaimAddress s (fun t => t.iso.cannotDue = false ∧ t.iso.claim = .cannot ∧
      (s.isoBarred = false → t.iso.tx = s.iso.tx ++ [isoMsg 6 0xEE00 255 254 (leBytes 8 s.isoName)]) ∧ s.only [.iso] t) := by
  refine ⟨_, congrArg Host.Outcome.next (if_pos (by simp [hl, hc, hd, ht])), ?_⟩
  unfold State.sendClaimed
  refine ⟨isoSend_iso IsoSt.cannotDue (fun _ _ => rfl) _ _, (isoSend_iso IsoSt.claim (fun _ _ => rfl) _ _).trans hc, fun hb => ?_, by simp [State.only]⟩
  rw [isoSend_sends (s := s.updIso fun i => { i with cannotDue := false }) (show _ ∧ _ from isoLive_runs hl) hb]
  rfl

section
variable {src : Nat} {data : List Byte} {s : State} (hl : s.isoLive = true) (hd : data.length = 9) (hn : getN data 0 8 = s.isoName) (hs : src ≠ s.iso.addr)
include hl hd hn hs

theorem commanded_judged : ¬ (!s.isoLive || data.length != 9 || getN data 0 8 != s.isoName || src == s.iso.addr) = true := by
  simp [hl, hd, hn, hs]

theorem commandedAddress_claims (hb : s.svc.winBound = true) (hw : s.svc.window.isSome = true) (ha : getB data 8 ≤ 253) :
    Answers (.commandedAddress src data) s (fun t => t.iso.claim = .claiming ∧ t.iso.addr = getB data 8 ∧ t.iso.claimAt = s.frame.counter ∧
      t.params.working = tabSet s.params.working 0x7001 (getB data 8) (pDefault 0x7001)) := by
  have hx : exec (.commandedAddress src data) s = .next
      (((s.writeWorking (tabSet s.params.working 0x7001 (getB data 8) (pDefault 0x7001))).ev 0x0703 0).isoClaimAt (getB data 8)) :=
    congrArg Host.Outcome.next ((if_neg (commanded_judged hl hd hn hs)).trans (if_pos (by simp [hb, hw, ha])))
  have hf (w : List (Nat × Nat)) : ((s.writeWorking w).ev 0x0703 0).frame = s.frame := only_frame (w := allBut .frame) (by simp) (by simp)
  obtain ⟨h1, h2, h3, h4⟩ := isoClaimAt_claims
    ((s.writeWorking (tabSet s.params.working 0x7001 (getB data 8) (pDefault 0x7001))).ev 0x0703 0) (getB data 8)
  refine ⟨_, hx, h1, h2, h3.trans (congrArg (·.counter) (hf _)), ?_⟩
  rw [h4, ev_params, writeWorking_params]

theorem commandedAddress_refused (hw : s.svc.window = none) : Answers (.commandedAddress src data) s (fun t => t.iso = s.iso ∧ t.params = s.params ∧
    t.faults.events.getLast? = some (0x0703, 1, s.frame.counter)) :=
  ⟨_, congrArg Host.Outcome.next ((if_neg (commanded_judged hl hd hn hs)).trans (if_neg (by simp [hw]))),
    only_iso (w := allBut .iso) (by simp) (by simp), ev_params _ _ _, ev_last _ _ _⟩

end

/-! ### Requests and the status message (R519, R522) -/

section
variable {f : IsoFrame} {s : State} (hl : s.isoLive = true) (hp : isoPgn f = 0xEA00) (hd : 3 ≤ f.data.length) (hc : f.classic = true)
  (hst : s.iso.claim = .held) (hb : s.isoBarred = false)
include hl hp hd hc hst hb

theorem isoRequest_claim (hdst : isoDst f = s.iso.addr ∨ isoDst f = 255) (hn : getN f.data 0 3 = 0xEE00) :
    exec (.isoRequest f) s = .next { s with iso := { s.iso with tx := s.iso.tx ++ [isoMsg 6 0xEE00 255 s.iso.addr (leBytes 8 s.isoName)] } } := by
  have hx : exec (.isoRequest f) s = .next (s.sendClaimed s.iso.addr) := by
    change execIsoRequest f s = _
    unfold execIsoRequest
    rw [isoRx_takes hl hc]
    rcases hdst with h | h <;> simp [hp, hd, hst, hn, h]
  rw [hx, State.sendClaimed, isoSend_sends (isoLive_runs hl) hb]
  rfl

theorem isoRequest_denied (hdst : isoDst f = s.iso.addr) (hn : getN f.data 0 3 ≠ 0xEE00) (hs : getN f.data 0 3 ≠ 0xFF00 + s.par 0x7002) :
    exec (.isoRequest f) s = .next { s with iso := { s.iso with tx := s.iso.tx ++
      [isoMsg 6 0xE800 255 s.iso.addr ([1, 0xFF, 0xFF, 0xFF] ++ b8 (isoSrc f) ++ pgn3 (getN f.data 0 3))] } } := by
  have hx : exec (.isoRequest f) s = .next (s.isoSend (isoMsg 6 0xE800 255 s.iso.addr
      ([1, 0xFF, 0xFF, 0xFF] ++ b8 (isoSrc f) ++ pgn3 (getN f.data 0 3)))) := by
    change execIsoRequest f s = _
    unfold execIsoRequest
    rw [isoRx_takes hl hc]
    simp [hp, hd, hst, hn, hs, hdst]
  rw [hx, isoSend_sends (isoLive_runs hl) hb]
  rfl

end

/-- The status message leaves the port counting one more. -/
theorem sendStatus_counts (s : State) : s.sendStatus.iso.counter = (s.iso.counter + 1) % 16 :=
  congrArg (fun n => (n + 1) % 16) (isoSend_iso IsoSt.counter (fun _ _ => rfl) s _)

theorem sendStatus_sends {s : State} (hl : s.isoLive = true) (hb : s.isoBarred = false) : s.sendStatus.iso.tx.length = s.iso.tx.length + 1 := by
  have htx (f : IsoFrame) : ((s.isoSend f).updIso fun i => { i with counter := (i.counter + 1) % 16 }).iso.tx = (s.isoSend f).iso.tx := rfl
  unfold State.sendStatus
  dsimp only
  rw [htx, isoSend_sends (isoLive_runs hl) hb]
  exact List.length_append

theorem isoStatusTimer_sends {s : State} (hl : s.isoLive = true) (hc : s.iso.claim = .held) (hp : s.par 0x7003 ≠ 0) (hi : s.frame.index = 0)
    (hm : (s.frame.superframe - s.iso.heldAt).toNat % s.par 0x7003 = 0) (hn : s.iso.statAt ≠ some s.frame.superframe) :
    Answers .isoStatusTimer s (fun t => t.iso.statAt = some s.frame.superframe ∧ t.iso.counter = (s.iso.counter + 1) % 16 ∧
      (s.isoBarred = false → t.iso.tx.length = s.iso.tx.length + 1) ∧ s.only [.iso] t) :=
  ⟨_, congrArg Host.Outcome.next (if_pos (by simp only [hm]; simp [hl, hc, hp, hi, hn])), rfl, sendStatus_counts s, fun hb => sendStatus_sends hl hb,
    by simp [State.only]⟩

/-! ### The transport protocol (R520) -/

/-- The session of a broadcast announcement. -/
def bamSession (f : IsoFrame) : TpSession :=
  { peer := isoSrc f, rx := true, bam := true, pgn := getN f.data 5 3, size := get16 f.data 1, next := 1, body := [] }

/-- A broadcast announcement is taken while fewer than two are open. -/
theorem isoTransportFrame_opens {f : IsoFrame} {s : State} (hl : s.isoLive = true) (hc : f.classic = true) (hp : isoPgn f = 60416)
    (hk : getB f.data 0 = 32) (hd : isoDst f = 255) (hlo : 9 ≤ get16 f.data 1) (hhi : get16 f.data 1 ≤ 1785)
    (ho : (s.iso.sessions.filter (fun t => t.rx && t.bam)).length < 2) :
    Answers (.isoTransportFrame f) s (fun t => t.iso.sessions.getLast? = some (bamSession f) ∧ s.only [.iso] t) := by
  have hsize : ¬ (get16 f.data 1 < 9 ∨ 1785 < get16 f.data 1) := by omega
  have hroom (p : TpSession → Bool) : ((s.iso.sessions.filter p).filter (fun t => t.rx && t.bam == true)).length < 2 := by
    simp only [beq_true]
    exact lt_of_le_of_lt (List.filter_sublist.filter _).length_le ho
  have hx : ∃ l, exec (.isoTransportFrame f) s = .next (s.setSessions (l ++ [bamSession f])) := by
    refine ⟨s.iso.sessions.filter fun t => !(t.rx && t.bam == true && t.peer == isoSrc f), ?_⟩
    refine congrArg Host.Outcome.next ((isoRx_takes hl hc _).trans ?_)
    simp only [hp]
    unfold State.tpManage
    simp only [hk, if_pos hd]
    unfold State.tpOpen
    simp only [if_neg hsize, if_true, if_pos (hroom _)]
    rfl
  obtain ⟨l, hl⟩ := hx
  exact ⟨_, hl, List.getLast?_concat, by simp [State.only]⟩

/-- A session that times out is dropped, counted and told. -/
theorem isoTransportTimeout_drops {peer : Nat} {rx bam : Bool} {s : State}
    (ha : s.iso.sessions.any (fun t => t.rx == rx && t.bam == bam && t.peer == peer) = true) :
    Answers (.isoTransportTimeout peer rx bam) s (fun t => t.iso.aborts = inc16 s.iso.aborts ∧
      t.iso.sessions = s.iso.sessions.filter (fun t => !(t.rx == rx && t.bam == bam && t.peer == peer)) ∧
      t.faults.events.getLast? = some (0x0704, 3, s.frame.counter)) := by
  have he (t : State) (code qual : Nat) : (t.ev code qual).iso = t.iso := only_iso (w := allBut .iso) (by simp) (by simp)
  obtain ⟨x, hx⟩ := Option.isSome_iff_exists.mp ((List.find?_isSome).mpr (List.any_eq_true.mp ha))
  refine ⟨_, rfl, ?_⟩
  simp only [hx]
  have hlost : ((s.setSessions (s.iso.sessions.filter fun t => !(t.rx == rx && t.bam == bam && t.peer == peer))).tpLost 3).iso.aborts = inc16 s.iso.aborts ∧
      ((s.setSessions (s.iso.sessions.filter fun t => !(t.rx == rx && t.bam == bam && t.peer == peer))).tpLost 3).iso.sessions =
        s.iso.sessions.filter (fun t => !(t.rx == rx && t.bam == bam && t.peer == peer)) ∧
      ((s.setSessions (s.iso.sessions.filter fun t => !(t.rx == rx && t.bam == bam && t.peer == peer))).tpLost 3).faults.events.getLast? =
        some (0x0704, 3, s.frame.counter) := by
    unfold State.tpLost
    exact ⟨congrArg IsoSt.aborts (he _ _ _), congrArg IsoSt.sessions (he _ _ _), ev_last _ _ _⟩
  split
  · exact hlost
  · unfold State.sendCm
    rw [isoSend_iso IsoSt.aborts (fun _ _ => rfl), isoSend_iso IsoSt.sessions (fun _ _ => rfl), (isoSend_rest _ _).2.1]
    exact hlost

/-! ### Commands and speed (R521, R523) -/

theorem virtualFree_lt {s : State} {lo n k : Nat} (h : s.virtualFree lo n = some k) : k < lo + n := by
  obtain ⟨i, hi, rfl⟩ := List.mem_map.mp (List.mem_of_find?_eq_some h)
  have := List.mem_range.mp hi
  omega

theorem isoCommand_enters {src h : Nat} {data : List Byte} {s : State} (hl : s.isoLive = true) (h5 : s.par 0x7005 = 1)
    (h6 : s.par 0x7006 = 255 ∨ s.par 0x7006 = src) (hc : s.iso.claim = .held) (hn : data.length = 16 + getB data 10)
    (hm : data.take 4 = [0x4B, 0x4D, 1, 0]) (hk : s.virtualFree 24 4 = some h) (hh : s.intake.hops.length = 32) (hv : s.virtualHeld 24 4 src < 2) :
    Answers (.isoCommand src data) s (fun t => t.stage h = .rung ∧ (t.hop h).srcAddr = src ∧ ∀ k, k ≠ h → t.hop k = s.hop k) := by
  have hbyte : getB (data.drop 4) 6 = getB data 10 := by simp [getB]
  have hgo : ¬ (s.par 0x7005 ≠ 1 ∨ (s.par 0x7006 ≠ 255 ∧ s.par 0x7006 ≠ src) ∨ s.iso.claim ≠ .held ∨
      data.length ≠ 16 + getB (data.drop 4) 6 ∨ data.take 4 ≠ [0x4B, 0x4D, 1, 0]) := by
    rw [hbyte]
    rcases h6 with h6 | h6 <;> simp [h5, h6, hc, hn, hm]
  have hx : exec (.isoCommand src data) s = .next (s.handOver h { srcAddr := src } (data.drop 4)) := by
    refine congrArg Host.Outcome.next ((if_neg (by simp [hl])).trans ((if_neg hgo).trans ?_))
    simp only [hk, decide_eq_true hv]
  have hself := handOver_hop s h { srcAddr := src } (data.drop 4) h
  rw [if_pos ⟨rfl, hh.symm ▸ (virtualFree_lt hk).trans (by decide)⟩] at hself
  exact ⟨_, hx, congrArg HopSt.stage hself, congrArg HopSt.srcAddr hself, fun k hkh => (handOver_hop _ _ _ _ _).trans (if_neg fun e => hkh e.1.symm)⟩

theorem isoCommand_ignored {src : Nat} {data : List Byte} {s : State} (hl : s.isoLive = true) (h5 : s.par 0x7005 ≠ 1) :
    exec (.isoCommand src data) s = .next { s with iso := { s.iso with ignored := inc16 s.iso.ignored } } :=
  congrArg Host.Outcome.next ((if_neg (by simp [hl])).trans (if_pos (.inl h5)))

/-- The port with a speed read from the bus. -/
def State.spedBy (s : State) (f : IsoFrame) (k : Fin 2) : State :=
  s.updIso fun i => { i with
    speed := i.speed.set k (some (get16 f.data 0, getB f.data 7 % 4, isoSrc f))
    spdAt := i.spdAt.set k s.frame.counter
    spdSrc := i.spdSrc.set k (some (isoSrc f))
    newest := some (get16 f.data 0, isoSrc f) }

theorem isoSpeedMessage_reads {f : IsoFrame} {k : Fin 2} {s : State} (hl : s.isoLive = true) (hp : isoPgn f = 65097 - k.val)
    (hd : f.data.length = 8) (hc : f.classic = true) (h7 : s.par 0x7007 = 255 ∨ s.par 0x7007 = isoSrc f) :
    Answers (.isoSpeedMessage f) s (fun t => t.iso.speed.get k = some (get16 f.data 0, getB f.data 7 % 4, isoSrc f) ∧
      t.iso.newest = some (get16 f.data 0, isoSrc f) ∧ t.iso.spdAt.get k = s.frame.counter ∧
      ∀ j, j ≠ k → t.iso.speed.get j = s.iso.speed.get j) := by
  have he (t : State) (c : Bool) (code qual : Nat) : (t.evIf c code qual).iso = t.iso := only_iso (w := allBut .iso) (by simp) (by simp)
  have hgo : ¬ (f.data.length != 8 || (s.par 0x7007 != 255 && s.par 0x7007 != isoSrc f)) = true := by
    rcases h7 with h | h <;> simp [hd, h]
  have hx : exec (.isoSpeedMessage f) s = .next ((s.spedBy f k).evIf
      ((s.iso.spdSrc.get k).isSome && s.iso.spdSrc.get k != some (isoSrc f)) 0x0705 (isoSrc f)) := by
    refine congrArg Host.Outcome.next ((isoRx_takes hl hc _).trans ?_)
    match k, hp with
    | 0, hp =>
      simp only [show isoPgn f = 65097 from hp, if_neg hgo]
      rfl
    | 1, hp =>
      simp only [show isoPgn f = 65096 from hp, if_neg hgo]
      rfl
  refine ⟨_, hx, ?_⟩
  dsimp only
  rw [he]
  exact ⟨Duo.get_set_self _ _ _, rfl, Duo.get_set_self _ _ _, fun j hj => by simp [State.spedBy, State.updIso, Duo.get_set, hj]⟩

/-! ### ISO_STATUS -/

/-- The port without its transport sessions and queued frames, which a completion may change. -/
def IsoSt.offLink (i : IsoSt) : IsoSt := { i with sessions := [], tx := [] }

theorem isoSend_offLink (s : State) (f : IsoFrame) : (s.isoSend f).iso.offLink = s.iso.offLink := by
  unfold State.isoSend
  split <;> rfl

theorem openTp_offLink {s t : State} {dst pgn : Nat} {body : List Byte} (h : s.openTp dst pgn body = some t) : t.iso.offLink = s.iso.offLink := by
  unfold State.openTp at h
  dsimp only at h
  split at h
  · cases h
  · obtain rfl := Option.some.inj h
    exact isoSend_offLink _ _

/-- Returning a record touches the sessions and the queue of the port only. -/
theorem giveBack_offLink (s : State) (h : Nat) : (s.giveBack h).iso.offLink = s.iso.offLink := by
  unfold State.giveBack
  dsimp only
  split
  case h_1 => rfl
  case h_2 =>
    refine congrArg IsoSt.offLink ?_
    split
    · rfl
    · split
      next t ht =>
        exact (only_iso (State.respondFabric_blank (w := [.ports]) (by simp) ht) (by simp) : t.iso = s.iso)
      next => rfl
  case h_3 =>
    split
    next t ht => exact (openTp_offLink ht : t.iso.offLink = s.iso.offLink)
    next => rfl
  case h_4 =>
    refine congrArg IsoSt.offLink ?_
    split <;> exact only_iso (w := allBut .iso) (by simp) (by simp)

theorem doneWith_offLink (s : State) (h : Nat) (res : List Byte) : (s.doneWith h res).iso.offLink = s.iso.offLink := by
  refine (giveBack_offLink _ h).trans (congrArg IsoSt.offLink ?_)
  exact only_iso (w := allBut .iso) (by simp) (by simp)

theorem isoStatus_starts : Starts isoStatusSpec .isoStatus (fun h b u => u.hb h 12 = 1 ∧ u.free = b.free + 1 ∧ u.iso.claim = b.iso.claim ∧
    u.iso.addr = b.iso.addr) :=
  starts_of_start (fun _ _ => rfl) (fun _ _ k => k) fun h b hw =>
    have hi := doneWith_offLink b.isoReport.2 h b.isoReport.1
    ⟨doneWith_code (s := b.isoReport.2) hw _ _, doneWith_free b.isoReport.2 _ _, (congrArg IsoSt.claim hi).trans rfl, (congrArg IsoSt.addr hi).trans rfl⟩

/-- Settles O35: each event acts on the port alone, by the claim it holds. -/
theorem isoClaimComplete : Obligations.IsoClaimComplete := by
  unfold Obligations.IsoClaimComplete
  exact ⟨fun _ _ hl hp hd hc ha hst hn => addressClaimed_answers hl hp hd hc ha hst hn,
    fun _ _ hl hp hd hc ha hst hn => addressClaimed_yields hl hp hd hc ha hst hn,
    fun _ hl hc ht => isoClaimTimer_holds hl hc ht, fun _ hl hc hd ht => cannotClaim_sends hl hc hd ht,
    fun _ _ _ hl hd hn hs hb hw ha => commandedAddress_claims hl hd hn hs hb hw ha,
    fun _ _ _ hl hd hn hs hw => commandedAddress_refused hl hd hn hs hw,
    fun _ _ hl hp hd hc hst hb hdst hn => isoRequest_claim hl hp hd hc hst hb hdst hn,
    fun _ _ hl hp hd hc hst hb hdst hn hs => isoRequest_denied hl hp hd hc hst hb hdst hn hs,
    fun _ hl hc hp hi hm hn => isoStatusTimer_sends hl hc hp hi hm hn,
    fun _ _ hl hc hp hk hd hlo hhi ho => isoTransportFrame_opens hl hc hp hk hd hlo hhi ho,
    fun _ _ _ _ ha => isoTransportTimeout_drops ha,
    fun _ _ _ _ hl h5 h6 hc hn hm hk hh hv => isoCommand_enters hl h5 h6 hc hn hm hk hh hv,
    fun _ _ _ hl h5 => isoCommand_ignored hl h5, fun _ _ _ hl hp hd hc h7 => isoSpeedMessage_reads hl hp hd hc h7, isoStatus_starts⟩

end Sys2Proof.Machine
end

section
/-! The twin link and its records (R528 to R542). -/

namespace Sys2Proof.Machine

/-! ### What keeps the pair -/

theorem ev_twin (s : State) (code qual : Nat) : (s.ev code qual).twin = s.twin := only_twin (w := allBut .twin) (by simp) (by simp)
theorem evFree_twin (s : State) (code : Nat) : (s.evFree code).twin = s.twin := only_twin (w := allBut .twin) (by simp) (by simp)
theorem twinFault_twin (s : State) (code : Nat) : (s.twinFault code).twin = s.twin := only_twin (w := allBut .twin) (by simp) (by simp)
theorem causeEnd_twin (s : State) (code : Nat) : (s.causeEnd code).twin = s.twin := rfl

/-! ### The link (R528, R529) -/

theorem twinLinkUp_trains {delay : Nat} {uid : BitVec 64} {idles : Nat} {s : State} (hi : 1000 ≤ idles) (hu : s.unitOn 8 = true)
    (hp : s.clock.pllt = .locked) (hl : s.twin.link ≠ .up) :
    Answers (.twinLinkUp delay uid idles) s (fun t => t.twin.link = .up ∧ t.twin.delay = delay ∧ t.twin.pUid = uid ∧ t.twin.accepted = 0 ∧
      t.twin.role = s.twin.role ∧ t.faults.events.getLast? = some (0x0805, 1, s.frame.counter)) := by
  refine ⟨_, congrArg Host.Outcome.next (if_neg (by simp [hu, hp, hl, hi])), ?_⟩
  simp only [ev_twin]
  exact ⟨rfl, rfl, rfl, rfl, rfl, ev_last _ _ _⟩

theorem twinLinkDown_trains {viol ns : Nat} {s : State} (hl : s.twin.link = .up) (hv : 8 ≤ viol ∨ 2000 ≤ ns) :
    Answers (.twinLinkDown viol ns) s (fun t => t.twin.link = (if s.clock.pllt = .locked then .training else .down) ∧ t.twin.accepted = 0 ∧
      t.twin.role = s.twin.role ∧ t.faults.events.getLast? = some (0x0805, 0, s.frame.counter)) := by
  refine ⟨_, congrArg Host.Outcome.next (if_neg (by rcases hv with h | h <;> simp [hl, h])), ?_⟩
  simp only [ev_twin, beq_iff_eq]
  exact ⟨rfl, rfl, rfl, ev_last _ _ _⟩

/-! ### Records (R531, R535, R540, R542) -/

/-- The pair without its alignment to the partner's boundary. -/
def TwinSt.offAlign (t : TwinSt) : TwinSt := { t with align := 0, aligns := [] }

theorem TwinSt.of_offAlign {α : Type} (g : TwinSt → α) (hg : ∀ t, g (TwinSt.offAlign t) = g t) {a b : TwinSt} (h : a.offAlign = b.offAlign) :
    g a = g b := by rw [← hg a, h, hg]

theorem alignTo_offAlign (s : State) (r : List Byte) (off : Nat) : (s.alignTo r off).twin.offAlign = s.twin.offAlign := by
  unfold State.alignTo
  dsimp only
  split <;> rfl

theorem alignTo_counter (s : State) (r : List Byte) (off : Nat) : (s.alignTo r off).frame.counter = s.frame.counter := by
  unfold State.alignTo
  dsimp only
  split <;> rfl

/-- The pair once record `r` is accepted, in frame `now`. -/
def TwinSt.takes (t : TwinSt) (r : List Byte) (mirror gap : Bool) (rdy : Nat) (now d : BitVec 32) : TwinSt :=
  { t with accepted := inc16 t.accepted, mirrors := if mirror then (if gap then 1 else inc16 t.mirrors) else 0,
           mirrorSeen := t.mirrorSeen || mirror, lastFrame := now, lastSent := some (BitVec.ofNat 32 (get32 r 4)), d := d,
           fpOther := BitVec.ofNat 32 (get32 r 12), pFlags := BitVec.ofNat 8 (getB r 10), pAxes := BitVec.ofNat 8 (getB r 11),
           pReady := rdy, pStatus := !mirror, noStat := if mirror then t.noStat else 0, quiet := 0, quietSf := 0,
           recNew := if mirror then r else t.recNew, recLast := if mirror then r else t.recLast,
           recD := if mirror then (d, t.recD.2.1, d) else t.recD }

/-- Axes that a record shows Ready. -/
def readyOf (r : List Byte) (mirror : Bool) : Nat :=
  if mirror then maskOf (axes4.map (fun n => (getB r 11).testBit n.val && recSeq r n == 6)) else getB r 22 / 16

/-- An accepted record sets the pair by its own bytes, the alignment aside. -/
theorem takeRecord_takes (s : State) (r : List Byte) (off : Nat) (mirror : Bool) : ∃ a : State, a.twin.offAlign = s.twin.offAlign ∧
    (s.takeRecord r off mirror).twin = a.twin.takes r mirror (s.twin.lastSent != some (BitVec.ofNat 32 (get32 r 4) - 1)) (readyOf r mirror)
      s.frame.counter (s.frame.counter - BitVec.ofNat 32 (get32 r 4)) := by
  have hc (c : Bool) (t : State) (code : Nat) : (if c then t.twinFault code else t.causeEnd code).twin = t.twin := by
    split
    · exact twinFault_twin _ _
    · rfl
  have ha : (if s.twin.role != .active && (mirror || s.roleB) then s.alignTo r off else s).twin.offAlign = s.twin.offAlign ∧
      (if s.twin.role != .active && (mirror || s.roleB) then s.alignTo r off else s).frame.counter = s.frame.counter := by
    split
    · exact ⟨alignTo_offAlign s r off, alignTo_counter s r off⟩
    · exact ⟨rfl, rfl⟩
  refine ⟨_, ha.1, ?_⟩
  unfold State.takeRecord
  dsimp only
  have hm (t : State) : (if mirror = true then t else t.causeEnd 0x0801).twin = t.twin := by split <;> rfl
  rw [hm, causeEnd_twin, hc, hc, ha.2]
  rfl

section
variable {r : List Byte} {off : Nat} {clean : Bool} {s : State} (hu : s.unitOn 8 = true) (hl : s.twin.link = .up)
include hu hl

theorem recordIn_live : ¬ (!s.unitOn 8 || s.twin.link != .up) = true := by simp [hu, hl]

theorem mirrorRecord_accepted (hb : s.recordBad r off clean 0x4D 448 = false) :
    Answers (.mirrorRecord r off clean) s (fun t => t.twin.recNew = r ∧ t.twin.recLast = r ∧ t.twin.accepted = inc16 s.twin.accepted ∧
      t.twin.lastFrame = s.frame.counter ∧ t.twin.lastSent = some (BitVec.ofNat 32 (get32 r 4)) ∧ t.twin.mirrorSeen = true ∧
      t.twin.pStatus = false ∧ t.twin.quiet = 0 ∧ t.twin.fpOther = BitVec.ofNat 32 (get32 r 12)) := by
  have hx : exec (.mirrorRecord r off clean) s = .next (s.takeRecord r off true) :=
    congrArg Host.Outcome.next ((if_neg (recordIn_live hu hl)).trans (if_neg (by simp [hb])))
  obtain ⟨a, ha, ht⟩ := takeRecord_takes s r off true
  refine ⟨_, hx, ?_⟩
  dsimp only
  rw [ht]
  have hacc : a.twin.accepted = s.twin.accepted := TwinSt.of_offAlign TwinSt.accepted (fun _ => rfl) ha
  exact ⟨rfl, rfl, congrArg inc16 hacc, rfl, rfl, Bool.or_true _, rfl, rfl, rfl⟩

theorem statusRecord_accepted (hb : s.recordBad r off clean 0x53 32 = false) :
    Answers (.statusRecord r off clean) s (fun t => t.twin.recNew = s.twin.recNew ∧ t.twin.accepted = inc16 s.twin.accepted ∧
      t.twin.lastFrame = s.frame.counter ∧ t.twin.lastSent = some (BitVec.ofNat 32 (get32 r 4)) ∧ t.twin.mirrors = 0 ∧
      t.twin.pStatus = true ∧ t.twin.quiet = 0 ∧ t.twin.pReady = getB r 22 / 16) := by
  have hx : exec (.statusRecord r off clean) s = .next (s.takeRecord r off false) :=
    congrArg Host.Outcome.next ((if_neg (recordIn_live hu hl)).trans (if_neg (by simp [hb])))
  obtain ⟨a, ha, ht⟩ := takeRecord_takes s r off false
  refine ⟨_, hx, ?_⟩
  dsimp only
  rw [ht]
  have hacc : a.twin.accepted = s.twin.accepted := TwinSt.of_offAlign TwinSt.accepted (fun _ => rfl) ha
  have hnew : a.twin.recNew = s.twin.recNew := TwinSt.of_offAlign TwinSt.recNew (fun _ => rfl) ha
  exact ⟨hnew, congrArg inc16 hacc, rfl, rfl, rfl, rfl, rfl, rfl⟩

theorem record_rejected {mirror : Bool} (hb : s.recordBad r off clean (if mirror then 0x4D else 0x53) (if mirror then 448 else 32) = true) :
    Answers (if mirror then .mirrorRecord r off clean else .statusRecord r off clean) s (fun t => t.twin.rejected = inc16 s.twin.rejected ∧
      t.twin.accepted = 0 ∧ t.twin.mirrors = 0 ∧ t.twin.recNew = s.twin.recNew ∧ t.twin.lastSent = s.twin.lastSent ∧ t.twin.quiet = s.twin.quiet) := by
  have hx : exec (if mirror then .mirrorRecord r off clean else .statusRecord r off clean) s = .next s.rejectRecord := by
    have hin : s.recordIn r off clean mirror = s.rejectRecord := (if_neg (recordIn_live hu hl)).trans (if_pos hb)
    cases mirror <;> exact congrArg Host.Outcome.next hin
  have ht : s.rejectRecord.twin = { s.twin with rejected := inc16 s.twin.rejected, rejSeen := true, accepted := 0, mirrors := 0 } := by
    unfold State.rejectRecord
    dsimp only
    split
    · rfl
    · exact evFree_twin _ _
  refine ⟨_, hx, ?_⟩
  dsimp only
  rw [ht]
  exact ⟨rfl, rfl, rfl, rfl, rfl, rfl⟩

end

/-- Settles O36: the link keeps the role, and a record is told by its test alone. -/
theorem twinRecordComplete : Obligations.TwinRecordComplete := by
  unfold Obligations.TwinRecordComplete
  exact ⟨fun _ _ _ _ hi hu hp hl => twinLinkUp_trains hi hu hp hl, fun _ _ _ hl hv => twinLinkDown_trains hl hv,
    fun _ _ _ _ hu hl hb => mirrorRecord_accepted hu hl hb, fun _ _ _ _ hu hl hb => statusRecord_accepted hu hl hb,
    fun _ _ _ _ _ hu hl hb => record_rejected hu hl hb⟩

end Sys2Proof.Machine
end

section
/-! The interlock, the roles and the switch of a pair (R536 to R561). -/

namespace Sys2Proof.Machine

/-! ### What a change of role leaves -/

theorem busModes_twin (s : State) : s.busModes.twin = s.twin := only_twin (w := allBut .twin) (by simp) (by simp)
theorem busModes_faults (s : State) : s.busModes.faults = s.faults := only_faults (w := allBut .faults) (by simp) (by simp)
theorem actoClear_twin (s : State) : s.actoClear.twin = { s.twin with acto := false, gperm := false } :=
  only_twin (a := s.actoClear) (b := s.updTwin fun t => { t with acto := false, gperm := false }) (w := [.gate])
    (by unfold State.actoClear; simp [apply_ite (State.blank _)]) (by simp)

/-- A device that gives its role up drops ACTO and GPERM. -/
theorem leaveActive_drops (s : State) (r : TwinRole) : (s.leaveActive r).twin.role = r ∧ (s.leaveActive r).twin.acto = false ∧
    (s.leaveActive r).twin.gperm = false := by
  unfold State.leaveActive
  simp only [busModes_twin]
  exact ⟨rfl, congrArg TwinSt.acto (actoClear_twin s), congrArg TwinSt.gperm (actoClear_twin s)⟩

/-! ### ACTI (R537, R538) -/

theorem actiFall_falls {s : State} (h : s.pins.acti = true) : Answers .actiFall s (fun t => t.pins.acti = false ∧ t.twin.quietSf = 0 ∧
    t.twin.role = s.twin.role ∧ s.only [.pins, .twin, .faults] t) :=
  ⟨_, congrArg Host.Outcome.next (if_neg (by simp [h])), rfl, rfl, rfl, by simp [State.only]⟩

/-- The state in which ACTI has risen. -/
def State.actiHigh (s : State) : State :=
  ({ s with pins := { s.pins with acti := true } } : State).updTwin (fun t => { t with quietSf := 0, fell := false })

section
variable {s : State} (h : s.pins.acti = false) (hu : s.unitOn 8 = true) (ha : s.twin.acto = true)
include h hu ha

theorem actiRise_eq : exec .actiRise s = .next (if s.roleB then
    (((s.actiHigh.twinFault 0x0802).leaveActive .standby).noteEv 0x0802 2).causeEnd 0x0802 else s.actiHigh.twinFault 0x0802) := by
  have hgo : ¬ (!s.actiHigh.unitOn 8 || !s.actiHigh.twin.acto) = true := by
    rw [show s.actiHigh.unitOn 8 = true from hu, show s.actiHigh.twin.acto = true from ha]
    decide
  have hb : (s.actiHigh.twinFault 0x0802).roleB = s.roleB := by
    have hp : (s.actiHigh.twinFault 0x0802).pins = s.actiHigh.pins := only_pins (w := allBut .pins) (by simp) (by simp)
    unfold State.roleB
    rw [hp]
    rfl
  refine congrArg Host.Outcome.next ((if_neg (by simp [h])).trans ((if_neg hgo).trans ?_))
  dsimp only
  rw [← hb]
  rfl

theorem actiRise_yields (hb : s.roleB = true) : Answers .actiRise s (fun t => t.pins.acti = true ∧ t.twin.role = .standby ∧
    t.twin.acto = false ∧ t.twin.gperm = false) := by
  have hp : ((s.actiHigh.twinFault 0x0802).leaveActive .standby).pins.acti = true := by
    rw [show ((s.actiHigh.twinFault 0x0802).leaveActive .standby).pins = s.actiHigh.pins from only_pins (w := allBut .pins) (by simp) (by simp)]
    rfl
  obtain ⟨h1, h2, h3⟩ := leaveActive_drops (s.actiHigh.twinFault 0x0802) .standby
  refine ⟨_, (actiRise_eq h hu ha).trans (congrArg Host.Outcome.next (if_pos hb)), hp, h1, h2, h3⟩

omit h hu ha in
/-- A fault of the pair stands, or is noted for the boundary. -/
theorem twinFault_stands (t : State) (code : Nat) :
    ((t.twinFault code).faultActive code || (t.twinFault code).faults.raised.any (fun r => r.1 == code)) = true := by
  unfold State.twinFault
  split
  next hc => exact hc
  next => simp [State.noteFree, State.note]

theorem actiRise_stays (hb : s.roleB = false) : Answers .actiRise s (fun t => t.pins.acti = true ∧ t.twin.role = s.twin.role ∧
    t.twin.acto = true ∧ (t.faultActive 0x0802 || t.faults.raised.any (fun r => r.1 == 0x0802)) = true) := by
  have hf : (s.actiHigh.twinFault 0x0802).pins = s.actiHigh.pins := only_pins (w := allBut .pins) (by simp) (by simp)
  refine ⟨_, (actiRise_eq h hu ha).trans (congrArg Host.Outcome.next (if_neg (by simp [hb]))), (congrArg (·.acti) hf).trans rfl, ?_⟩
  rw [twinFault_twin]
  exact ⟨rfl, ha, twinFault_stands _ _⟩

end

/-! ### GPERM and the timeouts (R536, R540, Table TWIN-6) -/

theorem gpermSet_activates {us : Nat} {s : State} (ht : 100 ≤ us) (hu : s.unitOn 8 = true) (ha : s.twin.acto = true) (hp : s.pins.acti = false)
    (hg : s.twin.gperm = false) (hr : s.twin.role = .arming) :
    Answers (.gpermSet us) s (fun t => t.twin.role = .active ∧ t.twin.gperm = true ∧
      t.faults.events.getLast? = some (0x0801, s.twin.cause % 65536, s.frame.counter)) := by
  have hf (t : State) : t.busModes.frame = t.frame := only_frame (w := allBut .frame) (by simp) (by simp)
  refine ⟨_, congrArg Host.Outcome.next ((if_neg (by simp [hu, ha, hp, hg]; omega)).trans (if_neg (by simp [State.updTwin, hr]))), ?_⟩
  simp only [ev_twin, causeEnd_twin, busModes_twin]
  refine ⟨rfl, rfl, (ev_last _ _ _).trans ?_⟩
  rw [show ∀ t : State, (t.causeEnd 0x0803).frame = t.frame from fun _ => rfl, hf]
  rfl

section
variable {s : State} (hu : s.unitOn 8 = true) (hr : s.frame.running = true)
include hu hr

/-- An ACTIVE device without status records stands alone. -/
theorem partnerTimeout_active (hl : s.twin.link ≠ .up ∨ 2 ≤ s.twin.noStat) (ha : s.twin.role = .active) :
    Answers .twinPartnerTimeout s (fun t => t.faultActive 0x0801 = true ∧ t.twin = s.twin ∧ s.only [.faults, .free] t) := by
  have hlate : (s.twin.link != .up || decide (2 ≤ s.twin.noStat)) = true := by simpa using hl
  refine ⟨_, congrArg Host.Outcome.next (if_neg (by simp [hu, hr])), ?_⟩
  simp only [ha, hlate, Bool.not_true, Bool.or_false]
  split
  next hf => exact ⟨hf, rfl, rfl⟩
  next => exact ⟨(raiseFree_faultActive ..).trans rfl, only_twin (w := allBut .twin) (by simp) (by simp), by simp [State.only]⟩

/-- A STANDBY whose partner is lost while ACTI is high. -/
theorem partnerTimeout_standby (hl : s.twin.link ≠ .up ∨ 2 ≤ s.twin.quiet) (ha : s.twin.role = .standby) (hp : s.pins.acti = true) :
    Answers .twinPartnerTimeout s (fun t => t.faultActive 0x0803 = true ∧ t.twin = s.twin ∧ s.only [.faults] t) := by
  have hlate : (s.twin.link != .up || decide (2 ≤ s.twin.quiet)) = true := by simpa using hl
  refine ⟨_, congrArg Host.Outcome.next (if_neg (by simp [hu, hr])), ?_⟩
  simp only [ha, hlate, hp, Bool.not_true, Bool.false_or]
  split
  next hf => exact ⟨hf, rfl, rfl⟩
  next => exact ⟨(raiseAs_faultActive ..).trans rfl, only_twin (w := allBut .twin) (by simp) (by simp), by simp [State.only]⟩

end

theorem isoClaimAt_twin (s : State) (a : Nat) : (s.isoClaimAt a).twin = s.twin := only_twin (w := allBut .twin) (by simp) (by simp)

/-- A device arms while ACTI is low: ACTO goes high. -/
theorem arm_twin {s : State} (h : s.pins.acti = false) (cause : Nat) : (s.arm cause).twin =
    { s.twin with role := .arming, acto := true, cause := cause, alone := cause == 3, ready := false } := by
  unfold State.arm
  rw [h]
  dsimp only
  split
  next hc => exact absurd hc (by decide)
  next =>
    split
    · rw [isoClaimAt_twin, busModes_twin]
      rfl
    · rw [busModes_twin]
      rfl

theorem aloneWait_arms {s : State} (hu : s.unitOn 8 = true) (hr : s.frame.running = true) (ho : s.twin.role = .standby) (hw : s.par 0x8003 ≠ 0)
    (hp : s.pins.acti = false) (hd : s.faults.device = false) (hs : s.twin.switch = none)
    (ht : s.par 0x8003 * (if s.primary then 1 else 2) ≤ s.twin.quietSf) :
    Answers .twinAloneWaitExpiry s (fun t => t.twin.role = .arming ∧ t.twin.acto = true ∧ t.twin.cause = 3 ∧ t.twin.alone = true) := by
  have hne : s.par 0x8003 * (if s.primary then 1 else 2) ≠ 0 := by split <;> omega
  refine ⟨_, congrArg Host.Outcome.next (if_pos (by simp only [hu, hr, ho, hp, hd, hs, bne_iff_ne.mpr hne, decide_eq_true ht]; rfl)), ?_⟩
  dsimp only
  rw [arm_twin hp]
  exact ⟨rfl, rfl, rfl, rfl⟩

/-! ### TWIN_SWITCH and TWIN_STATUS (R546, R561) -/

theorem finish_twin (s : State) (h code detail : Nat) (res : List Byte) : (s.finish h code detail res).twin = s.twin :=
  only_twin (w := allBut .twin) (by simp) (by simp)

/-- A switch that the partner does not take is cancelled. -/
theorem switchTimeout_cancels {h k : Nat} {s : State} (hs : s.twin.switch = some (h, some k)) (hk : 4 ≤ k) (hw : cellWf s.intake.slots = true) :
    ∃ u : State, exec .twinSwitchTimeout s = .next u.settle ∧ u.twin.switch = none ∧ u.hb h 12 = 2 ∧ u.twin.role = s.twin.role := by
  have hx : exec .twinSwitchTimeout s = .next ((s.updTwin fun t => { t with switch := none }).finish h 2 0xFFFF []).settle := by
    change execTwinSwitchTimeout s = _
    unfold execTwinSwitchTimeout
    rw [hs]
    exact congrArg Host.Outcome.next (if_pos hk)
  refine ⟨_, hx, ?_, finish_code _ _ _ _ _ (by decide) hw, ?_⟩ <;> rw [finish_twin] <;> rfl

theorem twinStatus_starts : Starts twinStatusSpec .twinStatus (fun h b u => u.hb h 12 = 1 ∧ u.twin = b.twin) :=
  starts_of_start (fun _ _ => rfl) (fun _ _ k => k) fun _ _ hw => ⟨doneWith_code hw _ _, finish_twin _ _ _ _ _⟩

theorem twinSwitch_starts : Starts twinSwitchSpec .twinSwitch (fun h b u => u = { b with twin := { b.twin with switch := some (h.val, none) } }) :=
  starts_of_start (fun _ _ => rfl) (fun _ _ k => k) fun _ _ _ => rfl

/-- Settles O37: ACTI decides which device keeps ACTO, GPERM completes arming, and a lost partner is told once. -/
theorem twinRoleComplete : Obligations.TwinRoleComplete := by
  unfold Obligations.TwinRoleComplete
  exact ⟨fun _ h => actiFall_falls h, fun _ h hu ha hb => actiRise_yields h hu ha hb, fun _ h hu ha hb => actiRise_stays h hu ha hb,
    fun _ _ ht hu ha hp hg hr => gpermSet_activates ht hu ha hp hg hr, fun _ hu hr hl ha => partnerTimeout_active hu hr hl ha,
    fun _ hu hr hl ha hp => partnerTimeout_standby hu hr hl ha hp,
    fun _ hu hr ho hw hp hd hs ht => aloneWait_arms hu hr ho hw hp hd hs ht,
    fun _ _ _ hs hk hw => switchTimeout_cancels hs hk hw, twinStatus_starts, twinSwitch_starts⟩

end Sys2Proof.Machine
end

section
/-! FW_UPDATE: the banks, and the wait behind the flash test (R570 to R581). -/

namespace Sys2Proof.Machine

/-! ### Banks -/

theorem idleBank_of {s t : State} (h : t.svc = s.svc) : t.idleBank = s.idleBank := congrArg (fun v => SvcSt.bank v (!v.runB)) h
theorem runBank_of {s t : State} (h : t.svc = s.svc) : t.runBank = s.runBank := congrArg (fun v => SvcSt.bank v v.runB) h

theorem updBank_runB (v : SvcSt) (x : Bool) (f : Bank → Bank) : (v.updBank x f).runB = v.runB := by cases x <;> rfl
theorem updBank_same (v : SvcSt) (x : Bool) (f : Bank → Bank) : (v.updBank x f).bank x = f (v.bank x) := by cases x <;> rfl
theorem updBank_other (v : SvcSt) (x : Bool) (f : Bank → Bank) : (v.updBank (!x) f).bank x = v.bank x := by cases x <;> rfl

theorem updIdle_idle (s : State) (f : Bank → Bank) : (s.updIdle f).idleBank = f s.idleBank := by
  unfold State.idleBank State.updIdle
  rw [updBank_runB, updBank_same]

theorem updIdle_run (s : State) (f : Bank → Bank) : (s.updIdle f).runBank = s.runBank := by
  unfold State.runBank State.updIdle
  rw [updBank_runB, updBank_other]

theorem finish_svc (s : State) (h code detail : Nat) (res : List Byte) : (s.finish h code detail res).svc = s.svc :=
  only_svc (w := allBut .svc) (by simp) (by simp)
theorem doneWith_svc (s : State) (h : Nat) (res : List Byte) : (s.doneWith h res).svc = s.svc := finish_svc _ _ _ _ _
theorem ev_svc (s : State) (code qual : Nat) : (s.ev code qual).svc = s.svc := only_svc (w := allBut .svc) (by simp) (by simp)
theorem evFree_svc (s : State) (code : Nat) : (s.evFree code).svc = s.svc := only_svc (w := allBut .svc) (by simp) (by simp)
theorem evFree_wf {s : State} (h : s.slotsWf) (code : Nat) : (s.evFree code).slotsWf :=
  ev_wf (s := s.fresh.2) h _ _

/-! ### A command that neither stops nor preempts begins -/

section
variable {c : CmdSpec} {h : Nat} {s : State} (hw : cellWf s.intake.slots = true) (a : s.accepts c h = true) (ht : ∀ t x, c.taken t x = t)
  (hs : isStopOp c.op = false) (h3 : c.op ≠ 0x0103) (h4 : c.op ≠ 0x0104)
include hw a ht hs h3 h4

/-- A byte of its slot other than the progress byte is as registered. -/
theorem begun_hb {i : Nat} (hi : i ≠ 7) : (s.begun c h).hb h i = s.hb h i := by
  unfold State.hb
  rw [begun_slots a (fun t x => by rw [ht]) hs h3 h4, cellGet_write _ _ _ _ hw, if_neg]
  simp only [List.length_singleton]
  omega

omit hw in
/-- What begins differs from the taken command in the intake, the events and their notes only. -/
theorem begun_blank {w : List Group} (hin : Group.intake ∈ w) (hfab : Group.fab ∈ w) (hfl : Group.faults ∈ w) :
    (s.begun c h).blank w = (s.taken h).blank w := by
  have hop : (s.taken h).opcode h = c.op := by
    rw [State.opcode, State.h16, State.hb, State.hb, taken_slots]
    exact accepts_opcode a
  have hpass : s.passed c h = s.taken h := by
    rw [State.passed, ht, State.stopTaken, hop, hs, if_neg Bool.false_ne_true]
  have hpre : (s.taken h).preempt h = false := hpass ▸ passed_preempt a (fun t x => by rw [ht]) hs h3 h4
  unfold State.begun State.markStart
  simp only [hpass, hpre, Bool.false_eq_true, if_false, apply_ite (State.blank w), State.lateStart_blank hin hfab hfl, State.setHop_blank hin,
    State.setStage_blank hin, ite_self]

end

/-! ### What an operation of FW_UPDATE starts on -/

/-- The findings of an operation depend on the banks, the axes' domains, the pair and the command. -/
theorem fwFindings_of {s t : State} {h : Nat} (hv : t.svc = s.svc) (hp : t.power = s.power) (ht : t.twin = s.twin) (hr : t.params = s.params)
    (hh : t.host = s.host) (hb : ∀ i, i ≠ 7 → t.hb h i = s.hb h i) : t.fwFindings h = s.fwFindings h := by
  have h8 (i : Nat) : t.p8 h i = s.p8 h i := hb _ (by omega)
  have h16 (i : Nat) : t.p16 h i = s.p16 h i := by
    unfold State.p16 State.h16
    rw [hb _ (by omega), hb _ (by omega)]
  have h32 (i : Nat) : t.p32 h i = s.p32 h i := by
    unfold State.p32 State.h32 State.h16
    rw [hb _ (by omega), hb _ (by omega), hb _ (by omega), hb _ (by omega)]
  unfold State.fwFindings
  simp only [h8, h16, h32, idleBank_of hv, hv, hh, State.axOff, State.seq, hp, ht, State.paired, State.unitOn, State.par, hr]

/-- FW_UPDATE is no move. -/
theorem fw_op_ne : (0x0901 : Nat) ≠ 0x0103 ∧ (0x0901 : Nat) ≠ 0x0104 := by decide

section
variable {op : Nat} {g : Bool} {h : Nat} {s : State} (hw : cellWf s.intake.slots = true) (a : s.accepts (fwSpec op g) h = true)
include hw a

theorem fw_begun_op : (s.begun (fwSpec op g) h).p8 h 0 = op := by
  have ho : s.p8 h 0 = op := by
    simp only [State.accepts, Bool.and_eq_true] at a
    obtain ⟨⟨⟨⟨⟨⟨⟨⟨⟨⟨⟨-, -⟩, -⟩, ho⟩, -⟩, -⟩, -⟩, -⟩, -⟩, -⟩, -⟩, -⟩ := a
    exact beq_iff_eq.mp ho
  exact (begun_hb hw a (fun _ _ => rfl) rfl fw_op_ne.1 fw_op_ne.2 (by decide)).trans ho

/-- An accepted operation has no finding when it starts. -/
theorem fw_begun_clean : (s.begun (fwSpec op g) h).fwFindings h = [] := by
  have hb := fun {w : List Group} (h1 : Group.intake ∈ w) (h2 : Group.fab ∈ w) (h3 : Group.faults ∈ w) =>
    begun_blank (c := fwSpec op g) a (fun _ _ => rfl) rfl fw_op_ne.1 fw_op_ne.2 h1 h2 h3
  have hbyte (i : Nat) (hi : i ≠ 7) : (s.begun (fwSpec op g) h).hb h i = (s.taken h).hb h i :=
    (begun_hb hw a (fun _ _ => rfl) rfl fw_op_ne.1 fw_op_ne.2 hi).trans (by rw [State.hb, State.hb, taken_slots])
  have hclean : (s.taken h).fwFindings h = [] := judge_of_lateChecks (accepts_lateChecks a) rfl
  rw [← hclean]
  exact fwFindings_of (only_svc (hb (w := allBut .svc) (by simp) (by simp) (by simp)) (by simp))
    (only_power (hb (w := allBut .power) (by simp) (by simp) (by simp)) (by simp))
    (only_twin (hb (w := allBut .twin) (by simp) (by simp) (by simp)) (by simp))
    (only_params (hb (w := allBut .params) (by simp) (by simp) (by simp)) (by simp))
    (only_host (hb (w := allBut .host) (by simp) (by simp) (by simp)) (by simp)) hbyte

end

/-- An operation acts when no flash test runs. -/
theorem fw_starts {op : Nat} {g : Bool} {i : Fin 32 → Sys2Proof.Instr} {P : Fin 32 → State → State → Prop}
    (hi : ∀ h s, exec (i h) s = .next (takeRow (fwSpec op g) h s))
    (hp : ∀ (h : Fin 32) (b : State), b.slotsWf → b.p8 h 0 = op → P h b (b.fwWork h)) :
    Starts (fwSpec op g) i (fun h b u => b.svc.bistTodo.head? ≠ some 0 → P h b u) := by
  intro h s a hw
  refine ⟨_, (hi h s).trans (congrArg Host.Outcome.next (takeRow_accepts a)), fun hn => ?_⟩
  have hrun : (fwSpec op g).start (s.begun (fwSpec op g) h) h = (s.begun (fwSpec op g) h).fwWork h := by
    change State.fwStart _ _ = _
    unfold State.fwStart State.fwRun
    rw [if_neg (by simpa using hn), fw_begun_clean hw a]
    rfl
  rw [hrun]
  exact hp h _ (begun_wf hw _ (fun _ _ k => k) h) (fw_begun_op hw a)

/-- Behind the flash test an operation waits. -/
theorem fw_waits {op : Nat} {g : Bool} {i : Fin 32 → Sys2Proof.Instr} (hi : ∀ h s, exec (i h) s = .next (takeRow (fwSpec op g) h s)) :
    Starts (fwSpec op g) i (fun h b u => b.svc.bistTodo.head? = some 0 → u.hb h 7 = 2 ∧ u.svc = b.svc) := by
  refine starts_of_start hi (fun _ _ k => k) fun h b hw hf => ?_
  have hstart : (fwSpec op g).start b h = b.setProg h 2 := if_pos (by rw [hf]; rfl)
  rw [hstart]
  refine ⟨?_, rfl⟩
  unfold State.hb State.setProg
  rw [putSlot_slots, cellGet_write _ _ _ _ hw, if_pos (by simp)]
  simp

/-! ### The operations (Table SVC-3) -/

/-- A bank once images below the rollback minimum `m` are no longer valid. -/
def Bank.judged (b : Bank) (m : Nat) : Bank := if b.st != .empty && decide (b.rollback < m) then { b with st := .invalid } else b

/-- The state in which the running image is confirmed (R575). -/
def State.confirmed (s : State) : State :=
  { s with svc := { s.svc with
      trial := false, rollMin := max s.svc.rollMin s.runBank.rollback
      bankA := s.svc.bankA.judged (max s.svc.rollMin s.runBank.rollback), bankB := s.svc.bankB.judged (max s.svc.rollMin s.runBank.rollback) } }

section
variable {h : Nat} {b : State} (hw : b.slotsWf)
include hw

theorem fwBegin_loads : (b.fwBegin h).hb h 12 = 1 ∧
    (b.fwBegin h).idleBank = { st := .loading, expect := b.p32 h 4, spans := [], pkg := none } ∧ (b.fwBegin h).runBank = b.runBank := by
  have hv := (doneWith_svc ((b.updIdle fun _ => { st := .loading, expect := b.p32 h 4, spans := [], pkg := none }).ev 0x0903 0) h []).trans (ev_svc _ _ _)
  exact ⟨doneWith_code (ev_wf (s := b.updIdle _) hw _ _) _ _, (idleBank_of hv).trans (updIdle_idle _ _), (runBank_of hv).trans (updIdle_run _ _)⟩

theorem fwWrite_adds : (b.fwWrite h).hb h 12 = 1 ∧
    (b.fwWrite h).idleBank = { b.idleBank with spans := b.idleBank.spans ++ [(b.p32 h 4, b.fwBytes h)] } ∧ (b.fwWrite h).runBank = b.runBank := by
  have hv := doneWith_svc (b.updIdle fun k => { k with spans := k.spans ++ [(b.p32 h 4, b.fwBytes h)] }) h []
  exact ⟨doneWith_code (s := b.updIdle _) hw _ _, (idleBank_of hv).trans (updIdle_idle _ _), (runBank_of hv).trans (updIdle_run _ _)⟩

theorem fwVerify_judges : (b.fwVerify h).runBank = b.runBank ∧
    match packageFinding b.idleBank.image b.idleBank.expect b.svc.rollMin (Config.freeValue b.free) with
    | none => (b.fwVerify h).hb h 12 = 1 ∧ (b.fwVerify h).idleBank = { b.idleBank with st := .verified, pkg := some (packageOf b.idleBank.image) }
    | some _ => (b.fwVerify h).hb h 12 = 5 ∧ (b.fwVerify h).idleBank = { b.idleBank with st := .invalid, pkg := none } := by
  unfold State.fwVerify
  dsimp only
  rw [show b.fresh.1 = Config.freeValue b.free from rfl]
  cases packageFinding b.idleBank.image b.idleBank.expect b.svc.rollMin (Config.freeValue b.free) with
  | none =>
    have hv := doneWith_svc (b.updIdle fun k => { k with st := .verified, pkg := some (packageOf b.idleBank.image) }) h
    exact ⟨(runBank_of (hv _)).trans (updIdle_run _ _), doneWith_code (s := b.updIdle _) hw _ _, (idleBank_of (hv _)).trans (updIdle_idle _ _)⟩
  | some q =>
    have hv := finish_svc (b.fresh.2.updIdle fun k => { k with st := .invalid, pkg := none }) h
    exact ⟨(runBank_of (hv _ _ _)).trans (updIdle_run _ _), finish_code (b.fresh.2.updIdle _) _ 5 _ _ (by decide) hw,
      (idleBank_of (hv _ _ _)).trans (updIdle_idle _ _)⟩

theorem fwCommit_pends : (b.fwCommit h).hb h 12 = 1 ∧ (b.fwCommit h).idleBank = { b.idleBank with st := .pending } ∧
    (b.fwCommit h).runBank = b.runBank := by
  have hv := (doneWith_svc ((b.updIdle fun k => { k with st := .pending }).ev 0x0903 0) h []).trans (ev_svc _ _ _)
  exact ⟨doneWith_code (ev_wf (s := b.updIdle _) hw _ _) _ _, (idleBank_of hv).trans (updIdle_idle _ _), (runBank_of hv).trans (updIdle_run _ _)⟩

theorem fwActivate_restarts : (b.fwActivate h).hb h 12 = 1 ∧ (b.fwActivate h).svc = { b.svc with restart := true } :=
  ⟨doneWith_code (s := { b with svc := { b.svc with restart := true } }) hw _ _, doneWith_svc _ _ _⟩

theorem fwConfirm_keeps : (b.fwConfirm h).hb h 12 = 1 ∧ (b.fwConfirm h).svc.trial = false ∧
    (b.fwConfirm h).svc.rollMin = max b.svc.rollMin b.runBank.rollback ∧ (b.fwConfirm h).svc.runB = b.svc.runB := by
  have hx : b.fwConfirm h = (b.confirmed.evFree 0x0905).doneWith h [] := rfl
  have hv : (b.fwConfirm h).svc = b.confirmed.svc := by rw [hx, doneWith_svc, evFree_svc]
  rw [hv, hx]
  exact ⟨doneWith_code (evFree_wf (s := b.confirmed) hw _) _ _, rfl, rfl, rfl⟩

theorem fwAbort_drops : (b.fwAbort h).hb h 12 = 1 ∧ (b.fwAbort h).idleBank = { b.idleBank with st := .invalid, pkg := none } ∧
    (b.fwAbort h).runBank = b.runBank := by
  have hv := doneWith_svc (b.updIdle fun k => { k with st := .invalid, pkg := none }) h []
  exact ⟨doneWith_code (s := b.updIdle _) hw _ _, (idleBank_of hv).trans (updIdle_idle _ _), (runBank_of hv).trans (updIdle_run _ _)⟩

end

/-- Settles O38: an operation waits behind the flash test, and else acts on the idle bank. -/
theorem firmwareComplete : Obligations.FirmwareComplete := by
  unfold Obligations.FirmwareComplete
  refine ⟨fun p hp => ?_, fw_starts (fun _ _ => rfl) fun h b hw ho => ?_, fun p hp => ?_, fw_starts (fun _ _ => rfl) fun h b hw ho => ?_,
    fw_starts (fun _ _ => rfl) fun h b hw ho => ?_, fw_starts (fun _ _ => rfl) fun h b hw ho => ?_,
    fw_starts (fun _ _ => rfl) fun h b hw ho => ?_, fw_starts (fun _ _ => rfl) fun h b hw ho => ?_⟩
  · fin_cases hp <;> exact fw_waits fun _ _ => rfl
  · rw [State.fwWork, ho]
    exact fwBegin_loads hw
  · fin_cases hp <;> refine fw_starts (fun _ _ => rfl) fun h b hw ho => ?_ <;> rw [State.fwWork, ho] <;> exact fwWrite_adds hw
  · rw [State.fwWork, ho]
    exact fwVerify_judges hw
  · rw [State.fwWork, ho]
    exact fwCommit_pends hw
  · rw [State.fwWork, ho]
    exact fwActivate_restarts hw
  · rw [State.fwWork, ho]
    exact fwConfirm_keeps hw
  · rw [State.fwWork, ho]
    exact fwAbort_drops hw

end Sys2Proof.Machine
end

section
/-! SVC_IDENT, SVC_OP and the self-test (R563 to R583). -/

namespace Sys2Proof.Machine

/-! ### SVC_OP -/

theorem EventsOnly.active {s t : State} (h : EventsOnly s t) : t.faults.active = s.faults.active := by
  obtain ⟨l, n, e⟩ := h
  rw [e]

theorem EventsOnly.faultActive {s t : State} (h : EventsOnly s t) (code : Nat) : t.faultActive code = s.faultActive code := by
  unfold State.faultActive
  rw [h.active]

theorem EventsOnly.evFree (s : State) (code : Nat) : EventsOnly s (s.evFree code) :=
  (EventsOnly.of_faults (show s.fresh.2.faults = s.faults from rfl)).trans (.ev _ _ _)

theorem closeWindow_wf {s : State} (h : s.slotsWf) (cause : Nat) : (s.closeWindow cause).slotsWf :=
  slotsWf_of_slots (congrArg IntakeSt.slots (only_intake (w := allBut .intake) (by simp) (by simp))) h

theorem svcClose_starts : Starts svcCloseSpec .svcOpCloseWindow (fun h b u => u.hb h 12 = 1 ∧ u.svc.window = none ∧ u.svc.tamper = b.svc.tamper) :=
  starts_of_start (fun _ _ => rfl) (fun _ _ k => k) fun h b hw => by
    have hs : (svcCloseSpec.start b h).svc = { b.svc with window := none } := (doneWith_svc _ _ _).trans (closeWindow_svc _ _)
    rw [hs]
    exact ⟨doneWith_code (closeWindow_wf hw _) _ _, rfl, rfl⟩

/-- The state in which the tamper latch is cleared. -/
def State.tamperCleared (s : State) : State :=
  { s with
      svc := { s.svc with tamper := false, tamperAt := 0, tamperN := 0, tamperDue := none, tamperRec := none }
      faults := { s.faults with active := s.faults.active.map (fun e => if e.code = 0x0901 then { e with cond := false, going := 2 } else e) } }

theorem tamperCleared_going (s : State) : ∀ e ∈ s.tamperCleared.faults.active, e.code = 0x0901 → e.going = 2 := by
  intro e he hc
  obtain ⟨x, -, rfl⟩ := List.mem_map.mp he
  split at hc
  next hx => rw [if_pos hx]
  next hx => exact absurd hc hx

theorem svcTamper_start (b : State) (h : Nat) :
    svcTamperSpec.start b h = ((b.tamperCleared.evFree 0x0904).ev 0x0903 5).doneWith h [] := by
  dsimp only [svcTamperSpec]
  rfl

theorem svcTamper_starts : Starts svcTamperSpec .svcOpTamperClear (fun h b u => u.hb h 12 = 1 ∧ u.svc.tamper = false ∧
    u.svc.window = b.svc.window ∧ ∀ e ∈ u.faults.active, e.code = 0x0901 → e.going = 2) :=
  starts_of_start (fun _ _ => rfl) (fun _ _ k => k) fun h b hw => by
    have hx := svcTamper_start b h
    have hs : (svcTamperSpec.start b h).svc = b.tamperCleared.svc := by rw [hx, doneWith_svc, ev_svc, evFree_svc]
    have hf : (svcTamperSpec.start b h).faults.active = b.tamperCleared.faults.active := by
      rw [hx, doneWith_active, ev_active, (EventsOnly.evFree _ _).active]
    have hw1 : (b.tamperCleared.evFree 0x0904).slotsWf := evFree_wf (show b.tamperCleared.slotsWf from hw) 0x0904
    rw [hs, hf, hx]
    exact ⟨doneWith_code (ev_wf hw1 0x0903 5) h [], rfl, rfl, tamperCleared_going b⟩

/-- The state in which debug is enabled. -/
def State.debugOn (s : State) : State := { s with svc := { s.svc with debug := true } }

theorem svcDebug_start (b : State) (h : Nat) : svcDebugSpec.start b h = ((b.debugOn.evFree 0x0906).ev 0x0903 3).doneWith h [] := by
  dsimp only [svcDebugSpec]
  rfl

theorem svcDebug_starts : Starts svcDebugSpec .svcOpDebugEnable (fun h b u => u.hb h 12 = 1 ∧ u.svc = { b.svc with debug := true }) :=
  starts_of_start (fun _ _ => rfl) (fun _ _ k => k) fun h b hw => by
    have hx := svcDebug_start b h
    have hs : (svcDebugSpec.start b h).svc = b.debugOn.svc := by rw [hx, doneWith_svc, ev_svc, evFree_svc]
    have hw1 : (b.debugOn.evFree 0x0906).slotsWf := evFree_wf (show b.debugOn.slotsWf from hw) 0x0906
    rw [hs, hx]
    exact ⟨doneWith_code (ev_wf hw1 0x0903 3) h [], rfl⟩

/-! ### Factory reset (R583) -/

/-- The stores erased: copies, chain tables, schedules, current tables and what Wedge has learned. -/
def State.storesErased (s : State) : State :=
  forPorts (forAxes { s with ret := { valid := s.ret.valid, records := s.ret.records }, params := { s.params with copyA := none, copyB := none } }
    (fun n t => (t.updCur n (fun c => { c with storeTab := none })).updWedge n (fun w =>
      { w with learn := .learning, ke := 0, source := 0, learnN := 0, learnFrom := 0, learnSum := 0, toRet := false })))
    (fun p t => t.updPort p (fun q => { q with storeSched := none }))

/-- The working tables erased with them. -/
def State.tablesErased (s : State) : State :=
  (forPorts (forAxes s (fun n t => t.updCur n (fun c => { c with userTab := none }))) (fun p t => t.updPort p (fun q => { q with sched := none }))).updPlan
    (fun p => { p.rmClear with storeChain := none, chain := none })

/-- The device with nothing stored. -/
def State.factoryNew (s : State) : State := s.storesErased.tablesErased

theorem factoryNew_params (s : State) : s.factoryNew.params = { s.params with copyA := none, copyB := none } := rfl
theorem factoryNew_ret (s : State) : s.factoryNew.ret.records = s.ret.records := rfl
theorem factoryNew_chain (s : State) : s.factoryNew.plan.storeChain = none := rfl

theorem factoryNew_sched (s : State) (p : Fin 2) : (s.factoryNew.ports.get p).storeSched = none :=
  match p with
  | 0 => rfl
  | 1 => rfl

theorem factoryNew_tab (s : State) (n : Fin 4) : (s.factoryNew.cur.get n).storeTab = none ∧ (s.factoryNew.wedge.get n).learn = .learning :=
  match n with
  | 0 => ⟨rfl, rfl⟩
  | 1 => ⟨rfl, rfl⟩
  | 2 => ⟨rfl, rfl⟩
  | 3 => ⟨rfl, rfl⟩

theorem svcFactory_starts : Starts svcFactorySpec .svcOpFactoryReset (fun h b u => u.params.working = [] ∧ u.params.copyA = none ∧
    u.params.copyB = none ∧ u.plan.storeChain = none ∧ (∀ p, (u.ports.get p).storeSched = none) ∧ (∀ n, (u.cur.get n).storeTab = none) ∧
    (∀ n, (u.wedge.get n).learn = .learning) ∧ u.ret.records = b.ret.records ∧ u.intake.onVerdict.getLast?.map (fun x => x.hop) = some h.val) :=
  starts_of_start (fun _ _ => rfl) (fun _ _ k => k) fun h b _ => by
    have hx : svcFactorySpec.start b h = (b.factoryNew.writeWorking []).awaitVerdict h 1 0 [] 4 [] := rfl
    have hpar : (svcFactorySpec.start b h).params = { b.factoryNew.params with working := [] } := by
      rw [hx, awaitVerdict_params, writeWorking_params]
    have hplan : (svcFactorySpec.start b h).plan = b.factoryNew.plan := hx ▸ only_plan (w := allBut .plan) (by simp) (by simp)
    have hports : (svcFactorySpec.start b h).ports = b.factoryNew.ports := hx ▸ only_ports (w := allBut .ports) (by simp) (by simp)
    have hcur : (svcFactorySpec.start b h).cur = b.factoryNew.cur := hx ▸ only_cur (w := allBut .cur) (by simp) (by simp)
    have hwedge : (svcFactorySpec.start b h).wedge = b.factoryNew.wedge := hx ▸ only_wedge (w := allBut .wedge) (by simp) (by simp)
    have hret : (svcFactorySpec.start b h).ret = b.factoryNew.ret := hx ▸ only_ret (w := allBut .ret) (by simp) (by simp)
    rw [hpar, hplan, hports, hcur, hwedge, hret, factoryNew_params]
    exact ⟨rfl, rfl, rfl, factoryNew_chain b, factoryNew_sched b, fun n => (factoryNew_tab b n).1, fun n => (factoryNew_tab b n).2,
      factoryNew_ret b, hx ▸ awaitVerdict_last ..⟩

end Sys2Proof.Machine
end

section
/-! The self-test (R577 to R581). -/

namespace Sys2Proof.Machine

/-! ### What the sequence of tests leaves -/

/-- The service state without what going on with the tests changes. -/
def SvcSt.offRun (v : SvcSt) : SvcSt := { v with bistHop := none, bistFrom := 0 }

theorem bistBegin_offRun (s : State) : s.bistBegin.svc.offRun = s.svc.offRun := by
  unfold State.bistBegin
  dsimp only
  split
  · split <;> rfl
  · rfl

theorem bistEnd_offRun (s : State) : s.bistEnd.svc.offRun = s.svc.offRun := by
  unfold State.bistEnd
  dsimp only
  split
  · rfl
  · split
    · rfl
    · split
      · rw [finish_svc]
        rfl
      · split
        · rw [finish_svc]
          rfl
        · rw [doneWith_svc, ev_svc]
          rfl

/-- Of the service state, going on sets the tests left, and the run's own marks. -/
theorem bistGo_svc {α : Type} (g : SvcSt → α) (hg : ∀ v, g (SvcSt.offRun v) = g v) (s : State) (old : Option Nat) (l : List Nat) :
    g (s.bistGo old l).svc = g { s.svc with bistTodo := l } := by
  unfold State.bistGo
  dsimp only
  split
  · rfl
  · rw [← hg, bistEnd_offRun, bistBegin_offRun, hg]

theorem bistBegin_faults (s : State) : s.bistBegin.faults = s.faults := only_faults (w := allBut .faults) (by simp) (by simp)

/-- A step that adds events only may follow one that leaves the faults. -/
theorem EventsOnly.after {s t u : State} (k : EventsOnly t u) (e : t.faults = s.faults) : EventsOnly s u := (EventsOnly.of_faults e).trans k

theorem EventsOnly.bistEnd (s : State) : EventsOnly s s.bistEnd := by
  unfold State.bistEnd
  dsimp only
  split
  · exact .of_faults rfl
  · refine .ite (.of_faults rfl) (.ite ?_ (.ite ?_ ?_))
    · exact (EventsOnly.finish _ _ _ _ _).after rfl
    · exact (EventsOnly.finish _ _ _ _ _).after rfl
    · exact EventsOnly.trans ((EventsOnly.ev { s with svc := { s.svc with bistHop := none } } _ _).after rfl) (EventsOnly.finish _ _ _ _ _)

theorem EventsOnly.bistGo (s : State) (old : Option Nat) (l : List Nat) : EventsOnly s (s.bistGo old l) := by
  unfold State.bistGo
  dsimp only
  exact .ite (.of_faults rfl) ((EventsOnly.bistEnd _).after (bistBegin_faults _))

/-- Only an axis at Off is taken up by a gate test. -/
theorem bistGo_failed {s : State} {n : Fin 4} (h : s.seq n = .failed) (old : Option Nat) (l : List Nat) : (s.bistGo old l).seq n = .failed := by
  have hend (t : State) : t.bistEnd.seq n = t.seq n := congrArg (fun p : PowerSt => (p.axes.get n).seq) (only_power (w := allBut .power) (by simp) (by simp))
  unfold State.bistGo
  dsimp only
  split
  · exact h
  · rw [hend]
    unfold State.bistBegin
    dsimp only
    split
    next t r hl =>
      split
      next hc =>
        have hne : n ≠ Fin.ofNat 4 (t - 8) := by
          rintro rfl
          have ho := hc.2
          simp only [State.axOff, State.seq] at ho h
          rw [h] at ho
          cases ho
        simp only [State.seq, setSeq_power, Quad.get_upd, if_neg hne]
        exact h
      next => exact h
    next => exact h

/-! ### The update operations that waited (R581) -/

/-- The service state without what an update operation changes. -/
def SvcSt.offBanks (v : SvcSt) : SvcSt := { v with bankA := {}, bankB := {}, trial := false, rollMin := 0, restart := false }

theorem updIdle_offBanks (s : State) (f : Bank → Bank) : (s.updIdle f).svc.offBanks = s.svc.offBanks := by
  unfold State.updIdle SvcSt.updBank
  split <;> rfl

/-- Of the service state `t` has at most other banks than `s`, and the active faults are those of `s`. -/
def BanksOnly (s t : State) : Prop := t.svc.offBanks = s.svc.offBanks ∧ t.faults.active = s.faults.active

theorem BanksOnly.doneWith {s t : State} (k : BanksOnly s t) (h : Nat) (res : List Byte) : BanksOnly s (t.doneWith h res) :=
  ⟨(congrArg SvcSt.offBanks (doneWith_svc t h res)).trans k.1, (doneWith_active t h res).trans k.2⟩

theorem BanksOnly.finish {s t : State} (k : BanksOnly s t) (h code detail : Nat) (res : List Byte) : BanksOnly s (t.finish h code detail res) :=
  ⟨(congrArg SvcSt.offBanks (finish_svc t h code detail res)).trans k.1, (finish_active t h code detail res).trans k.2⟩

theorem BanksOnly.ev {s t : State} (k : BanksOnly s t) (code qual : Nat) : BanksOnly s (t.ev code qual) :=
  ⟨(congrArg SvcSt.offBanks (ev_svc t code qual)).trans k.1, (ev_active t code qual).trans k.2⟩

theorem BanksOnly.updIdle (s : State) (f : Bank → Bank) : BanksOnly s (s.updIdle f) := ⟨updIdle_offBanks s f, rfl⟩

theorem BanksOnly.fwVerify (s : State) (h : Nat) : BanksOnly s (s.fwVerify h) := by
  unfold State.fwVerify
  dsimp only
  split
  · exact .finish (.updIdle s.fresh.2 _) _ _ _ _
  · exact .doneWith (.updIdle s _) _ _

theorem BanksOnly.fwConfirm (s : State) (h : Nat) : BanksOnly s (s.fwConfirm h) := by
  have hx : s.fwConfirm h = (s.confirmed.evFree 0x0905).doneWith h [] := rfl
  have he : BanksOnly s s.confirmed.fresh.2 := ⟨rfl, rfl⟩
  rw [hx]
  exact .doneWith (he.ev _ _) _ _

theorem BanksOnly.fwWork (s : State) (h : Nat) : BanksOnly s (s.fwWork h) := by
  have ha : BanksOnly s { s with svc := { s.svc with restart := true } } := ⟨rfl, rfl⟩
  unfold State.fwWork
  split
  case h_1 => exact .doneWith (.ev (.updIdle s _) _ _) _ _
  case h_2 => exact .doneWith (.updIdle s _) _ _
  case h_3 => exact .doneWith (.updIdle s _) _ _
  case h_4 => exact .fwVerify s h
  case h_5 => exact .doneWith (.ev (.updIdle s _) _ _) _ _
  case h_6 => exact .doneWith ha _ _
  case h_7 => exact .fwConfirm s h
  case h_8 => exact .doneWith (.updIdle s _) _ _

theorem BanksOnly.fwRun (s : State) (h : Nat) : BanksOnly s (s.fwRun h) := by
  unfold State.fwRun
  split
  · exact .finish ⟨rfl, rfl⟩ _ _ _ _
  · exact .fwWork s h

theorem bistFreed_svc {α : Type} (g : SvcSt → α) (hg : ∀ v, g (SvcSt.offBanks v) = g v) (s : State) (t : Nat) : g (s.bistFreed t).svc = g s.svc := by
  unfold State.bistFreed
  split
  · exact foldl_keeps (fun u => g u.svc) (fun u h => by rw [← hg, (BanksOnly.fwRun u h).1, hg]) _ _
  · rfl

theorem bistFreed_faultActive (s : State) (t code : Nat) : (s.bistFreed t).faultActive code = s.faultActive code := by
  unfold State.bistFreed
  split
  · exact foldl_keeps (fun u => u.faultActive code)
      (fun u h => congrArg (fun l : List FaultEnt => l.any (fun e => e.code == code)) (BanksOnly.fwRun u h).2) _ _
  · rfl

end Sys2Proof.Machine
end

section
/-! The verdicts of the self-test, and BIST_RUN (R577 to R583). -/

namespace Sys2Proof.Machine

/-! ### BIST_RUN (R577, R578) -/

/-- The state in which the tests `l` are asked for by the command of hopper `h`. -/
def State.bistAsked (s : State) (h : Nat) (l : List Nat) : State :=
  { s with svc := { s.svc with
      bistHop := some h, bistTodo := l, bistRes := List.replicate 6 0, bistCode := 0, bistQual := 0
      bistAt := s.frame.counter, bistMask := BitVec.ofNat 6 (s.p8 h 0) } }

theorem bistRun_start (b : State) (h : Nat) : bistRunSpec.start b h =
    ((b.bistAsked h (bistTests (b.p8 h 0) (b.p8 h 1))).setProg h 5).bistGo none (bistTests (b.p8 h 0) (b.p8 h 1)) := rfl

/-- The first of the tests begins. -/
theorem bistGo_first (s : State) : s.bistGo none s.svc.bistTodo = s.bistBegin.bistEnd := by
  unfold State.bistGo
  exact if_neg (by simp)

theorem bistBegin_intake (s : State) : s.bistBegin.intake = s.intake := only_intake (w := allBut .intake) (by simp) (by simp)

/-- While tests are left the run goes on. -/
theorem bistEnd_runs {s : State} (h : s.svc.bistTodo ≠ []) : s.bistEnd = s := by
  unfold State.bistEnd
  split
  · rfl
  · rw [if_pos (by simp [h])]

theorem bistBegin_svc (s : State) : s.bistBegin.svc = { s.svc with bistFrom := s.frame.counter } := by
  unfold State.bistBegin
  dsimp only
  split
  · split <;> rfl
  · rfl

theorem setProg_prog {s : State} (hw : s.slotsWf) (h v : Nat) : (s.setProg h v).hb h 7 = v % 256 := by
  unfold State.hb State.setProg
  rw [putSlot_slots, cellGet_write _ _ _ _ hw, if_pos (by simp)]
  simp

theorem bistRun_tests {b : State} {h : Nat} (hw : b.slotsWf) (hl : bistTests (b.p8 h 0) (b.p8 h 1) ≠ []) :
    (bistRunSpec.start b h).svc.bistHop = some h ∧ (bistRunSpec.start b h).svc.bistTodo = bistTests (b.p8 h 0) (b.p8 h 1) ∧
      (bistRunSpec.start b h).svc.bistMask = BitVec.ofNat 6 (b.p8 h 0) ∧ (bistRunSpec.start b h).hb h 7 = 5 := by
  generalize hL : bistTests (b.p8 h 0) (b.p8 h 1) = l at hl
  have hx : bistRunSpec.start b h = ((b.bistAsked h l).setProg h 5).bistBegin := by
    rw [bistRun_start, hL]
    exact (bistGo_first ((b.bistAsked h l).setProg h 5)).trans (bistEnd_runs (by rw [bistBegin_svc]; exact hl))
  have hs : ((b.bistAsked h l).setProg h 5).bistBegin.svc = _ := bistBegin_svc _
  rw [hx, hs, State.hb, bistBegin_intake]
  exact ⟨rfl, rfl, rfl, setProg_prog (s := b.bistAsked h l) hw h 5⟩

/-- The state in which no command waits for the tests. -/
def State.bistIdle (s : State) : State := { s with svc := { s.svc with bistHop := none } }

/-- With no test left and no failure or cancellation the command is done. -/
theorem bistEnd_done {s : State} {h : Nat} (hh : s.svc.bistHop = some h) (ht : s.svc.bistTodo = []) (hc : s.svc.bistCode = 0)
    (hr : s.svc.bistRes.any (fun v => v == 3) = false) :
    s.bistEnd = (s.bistIdle.ev 0x0908 s.svc.bistMask.toNat).doneWith h s.bistResult := by
  unfold State.bistEnd
  rw [hh]
  exact (if_neg (by simp [ht])).trans ((if_neg (by simp [hc])).trans (if_neg (by simp [hr])))

/-- With no test to run the command is done at once. -/
theorem bistRun_none {b : State} {h : Nat} (hw : b.slotsWf) (hl : bistTests (b.p8 h 0) (b.p8 h 1) = []) :
    (bistRunSpec.start b h).hb h 12 = 1 ∧ (bistRunSpec.start b h).svc.bistHop = none := by
  have hv : ((b.bistAsked h []).setProg h 5).bistBegin.svc = { (b.bistAsked h []).svc with bistFrom := b.frame.counter } := bistBegin_svc _
  have hx : bistRunSpec.start b h = ((b.bistAsked h []).setProg h 5).bistBegin.bistEnd := by
    rw [bistRun_start, hl]
    exact bistGo_first ((b.bistAsked h []).setProg h 5)
  have hi : ((b.bistAsked h []).setProg h 5).bistBegin.bistIdle.slotsWf :=
    slotsWf_of_slots (congrArg IntakeSt.slots (bistBegin_intake _)) (putSlot_wf (s := b.bistAsked h []) hw _ _)
  rw [hx, bistEnd_done (h := h) (by rw [hv]; rfl) (by rw [hv]; rfl) (by rw [hv]; rfl) (by rw [hv]; rfl), doneWith_svc, ev_svc]
  exact ⟨doneWith_code (ev_wf hi _ _) _ _, rfl⟩

theorem bistRun_starts : Starts bistRunSpec .bistRun (fun h b u =>
    (bistTests (b.p8 h 0) (b.p8 h 1) ≠ [] → u.svc.bistHop = some h.val ∧ u.svc.bistTodo = bistTests (b.p8 h 0) (b.p8 h 1) ∧
      u.svc.bistMask = BitVec.ofNat 6 (b.p8 h 0) ∧ u.hb h 7 = 5) ∧
    (bistTests (b.p8 h 0) (b.p8 h 1) = [] → u.hb h 12 = 1 ∧ u.svc.bistHop = none)) :=
  starts_of_start (fun _ _ => rfl) (fun _ _ k => k) fun _ _ hw => ⟨bistRun_tests hw, bistRun_none hw⟩

/-! ### A test is over (R579, R580) -/

theorem bistTestDone_closes {pass : Bool} {t v qual : Nat} {l : List Nat} {s : State} (hl : s.svc.bistTodo = t :: l)
    (hv : s.bistVerdict t pass qual = some v) : exec (.bistTestDone pass qual) s = .next ((s.bistClose t v qual l).bistFreed t).settle := by
  change execBistTestDone pass qual s = _
  unfold execBistTestDone
  rw [hl]
  simp only [hv]

/-- The verdict of a test that is no gate test is its finding, once its time is over. -/
theorem bistVerdict_timed {pass : Bool} {t qual : Nat} {s : State} (ht : t < 6) (hd : bistLen t ≤ s.since s.svc.bistFrom)
    (hs : pass = false → t = 0 → qual = 1 → s.idleBank.st ≠ .loading) : s.bistVerdict t pass qual = some (if pass then 1 else 2) := by
  have hskip : (decide (t = 0) && !pass && decide (qual = 1) && s.idleBank.st == .loading) = false := by
    simpa using fun h0 hp h1 => hs hp h0 h1
  unfold State.bistVerdict
  simp only [hskip, if_neg (show ¬ 8 ≤ t by omega)]
  exact if_pos ⟨hd, by decide⟩

/-- The state in which test `t` is told with status `v`. -/
def State.bistTold (s : State) (t v qual : Nat) : State := match v with | 1 => s.bistPass t | 2 => s.bistFail t qual | _ => s.bistMark t 3

theorem bistClose_svc {α : Type} (g : SvcSt → α) (hg : ∀ v, g (SvcSt.offRun v) = g v) (s : State) (t v qual : Nat) (l : List Nat) :
    g (s.bistClose t v qual l).svc = g { (s.bistTold t v qual).svc with bistTodo := l } := by
  have hset (c : Prop) [Decidable c] (u : State) (n : Fin 4) (f) : (if c then u.setSeq n f else u).svc = u.svc := by split <;> rfl
  unfold State.bistClose
  dsimp only
  rw [bistGo_svc g hg, hset]
  rfl

theorem bistClose_faultActive (s : State) (t v qual : Nat) (l : List Nat) (code : Nat) : (s.bistClose t v qual l).faultActive code =
    (s.bistTold t v qual).faultActive code := by
  have hset (c : Prop) [Decidable c] (u : State) (n : Fin 4) (f) : (if c then u.setSeq n f else u).faultActive code = u.faultActive code := by split <;> rfl
  unfold State.bistClose
  dsimp only
  rw [(EventsOnly.bistGo _ _ _).faultActive, hset]
  rfl

/-- Clearing one bit of six. -/
theorem clearBit (x : BitVec 6) {t k : Nat} (hk : k < 6) : (x &&& ~~~ BitVec.ofNat 6 (2 ^ t)).getLsbD k = (x.getLsbD k && !decide (t = k)) := by
  rw [BitVec.getLsbD_and, BitVec.getLsbD_not, BitVec.getLsbD_ofNat, Nat.testBit_two_pow, decide_eq_true hk, Bool.true_and, Bool.true_and]

/-- Setting one bit of six. -/
theorem setBit (x : BitVec 6) {t : Nat} (ht : t < 6) : (x ||| BitVec.ofNat 6 (2 ^ t)).getLsbD t = true := by
  rw [BitVec.getLsbD_or, BitVec.getLsbD_ofNat, Nat.testBit_two_pow, decide_eq_true ht, decide_eq_true rfl, Bool.true_and, Bool.or_true]

theorem bistPass_failed {s : State} {t : Nat} (ht : t < 6) : (s.bistPass t).svc.failed = s.svc.failed &&& ~~~ BitVec.ofNat 6 (2 ^ t) := by
  unfold State.bistPass
  dsimp only
  rw [if_neg (by omega)]
  rfl

/-- The qualifier of a failure: the axis of a gate test, the finding of the flash and clock tests, else a free value. -/
def State.bistQualOf (s : State) (t qual : Nat) : Nat := if 8 ≤ t then t - 8 else if t = 0 ∨ t = 2 then qual else Config.freeValue s.free % 65536

/-- The state in which the failure of test `t` is marked, and kept for the result when it is the first. -/
def State.failMarked (s : State) (t qual : Nat) : State :=
  let u := { s.bistMark t 2 with svc := { (s.bistMark t 2).svc with failed := s.svc.failed ||| BitVec.ofNat 6 (2 ^ bistBit t) } }
  let u := if 8 ≤ t ∨ t = 0 ∨ t = 2 then u else u.fresh.2
  if u.svc.bistCode = 0 then { u with svc := { u.svc with bistCode := bistFault t, bistQual := s.bistQualOf t qual } } else u

/-- A gate test that fails bars its axis. -/
def State.gateMarked (s : State) (n : Fin 4) : State := { s with svc := { s.svc with gateBad := s.svc.gateBad ||| axBits n } }

/-- What a failed test that is no gate test does beside its fault. -/
def State.failReact (s : State) (t q : Nat) : State :=
  if t = 0 ∧ q = 1 then s.updIdle (fun b => { b with st := .invalid })
  else if t ≤ 2 then
    { s with faults := { s.faults with safeDue := some (bistFault t) }, svc := { s.svc with flashSafe := s.svc.flashSafe || t == 0 } }
  else s

theorem bistFail_eq (s : State) (t qual : Nat) : s.bistFail t qual =
    if 8 ≤ t then ((s.failMarked t qual).gateMarked (Fin.ofNat 4 (t - 8))).raise 0x0915 (Fin.ofNat 4 (t - 8)).val (axBits (Fin.ofNat 4 (t - 8))) true
    else ((s.failMarked t qual).raise (bistFault t) (s.bistQualOf t qual) 0 true).failReact t (s.bistQualOf t qual) := rfl

theorem raise_svc (s : State) (code qual : Nat) (axes : BitVec 4) (cond : Bool) : (s.raise code qual axes cond).svc = s.svc :=
  only_svc (w := allBut .svc) (by simp) (by simp)

theorem failMarked_failed (s : State) (t qual : Nat) : (s.failMarked t qual).svc.failed = s.svc.failed ||| BitVec.ofNat 6 (2 ^ bistBit t) := by
  unfold State.failMarked
  dsimp only
  split <;> split <;> rfl

theorem failReact_failed (s : State) (t q : Nat) : (s.failReact t q).svc.failed = s.svc.failed := by
  have hb : (s.updIdle (fun b => { b with st := .invalid })).svc.failed = s.svc.failed := by
    unfold State.updIdle SvcSt.updBank
    split <;> rfl
  unfold State.failReact
  split
  · exact hb
  · split <;> rfl

theorem failReact_faultActive (s : State) (t q code : Nat) : (s.failReact t q).faultActive code = s.faultActive code := by
  unfold State.failReact
  split
  · rfl
  · split <;> rfl

/-- A raised fault is active. -/
theorem raise_active (s : State) (code qual : Nat) (axes : BitVec 4) (cond : Bool) : (s.raise code qual axes cond).faultActive code = true :=
  (raiseAs_faultActive ..).trans (by rw [beq_self_eq_true, Bool.true_or])

/-- A test that fails marks its bit. -/
theorem bistFail_failed (s : State) (t qual : Nat) : (s.bistFail t qual).svc.failed = s.svc.failed ||| BitVec.ofNat 6 (2 ^ bistBit t) := by
  rw [bistFail_eq, ← failMarked_failed s t qual]
  split
  · rw [raise_svc]
    rfl
  · rw [failReact_failed, raise_svc]

/-- A test that fails raises its fault. -/
theorem bistFail_faultActive (s : State) (t qual : Nat) : (s.bistFail t qual).faultActive (bistFault t) = true := by
  rw [bistFail_eq]
  split
  next h => rw [bistFault, if_pos h, raise_active]
  next => rw [failReact_faultActive, raise_active]

section
variable {t qual : Nat} {l : List Nat} {s : State} (hl : s.svc.bistTodo = t :: l) (ht : t < 6) (hd : bistLen t ≤ s.since s.svc.bistFrom)
include hl ht hd

theorem test_passes : ∃ u : State, exec (.bistTestDone true qual) s = .next u.settle ∧ u.svc.bistTodo = l ∧ u.svc.failed.getLsbD t = false ∧
    ∀ k, k < 6 → k ≠ t → u.svc.failed.getLsbD k = s.svc.failed.getLsbD k := by
  have hf : ((s.bistClose t 1 qual l).bistFreed t).svc.failed = s.svc.failed &&& ~~~ BitVec.ofNat 6 (2 ^ t) := by
    rw [bistFreed_svc SvcSt.failed (fun _ => rfl), bistClose_svc SvcSt.failed (fun _ => rfl)]
    exact bistPass_failed ht
  refine ⟨_, bistTestDone_closes hl (bistVerdict_timed ht hd (by simp)), ?_, ?_, fun k hk hne => ?_⟩
  · rw [bistFreed_svc SvcSt.bistTodo (fun _ => rfl), bistClose_svc SvcSt.bistTodo (fun _ => rfl)]
  · rw [if_pos rfl, hf, clearBit _ ht]
    simp
  · rw [if_pos rfl, hf, clearBit _ hk]
    simp [Ne.symm hne]

theorem test_fails (hs : t = 0 → qual = 1 → s.idleBank.st ≠ .loading) : ∃ u : State, exec (.bistTestDone false qual) s = .next u.settle ∧
    u.svc.bistTodo = l ∧ u.svc.failed.getLsbD t = true ∧ u.faultActive (bistFault t) = true := by
  have hn : ¬ 8 ≤ t := by omega
  refine ⟨_, bistTestDone_closes hl (bistVerdict_timed ht hd fun _ => hs), ?_, ?_, ?_⟩
  · rw [bistFreed_svc SvcSt.bistTodo (fun _ => rfl), bistClose_svc SvcSt.bistTodo (fun _ => rfl)]
  · rw [if_neg Bool.false_ne_true, bistFreed_svc SvcSt.failed (fun _ => rfl), bistClose_svc SvcSt.failed (fun _ => rfl)]
    refine (congrArg (fun x : BitVec 6 => x.getLsbD t) (bistFail_failed s t qual)).trans ?_
    rw [bistBit, if_neg hn, setBit _ ht]
  · rw [if_neg Bool.false_ne_true, bistFreed_faultActive, bistClose_faultActive]
    exact bistFail_faultActive s t qual

end

/-! ### Gate tests (Table SVC-4, R580) -/

section
variable {n : Fin 4}

theorem gateAxis : Fin.ofNat 4 (8 + n.val - 8) = n := by
  rw [Nat.add_sub_cancel_left]
  exact Fin.ofNat_val_eq_self n

theorem gateTest : 8 ≤ 8 + n.val := Nat.le_add_right _ _

/-- The verdict of a gate test is where its axis stands. -/
theorem bistVerdict_gate (s : State) (pass : Bool) (qual : Nat) : s.bistVerdict (8 + n.val) pass qual = s.gateTestOver n := by
  unfold State.bistVerdict
  simp only [if_pos gateTest, gateAxis]

/-- A gate test does not free update operations. -/
theorem bistFreed_gate (s : State) : s.bistFreed (8 + n.val) = s := if_neg (by omega)

theorem setGate (x : BitVec 4) : (x ||| axBits n).getLsbD n.val = true := by
  rw [axBits, BitVec.getLsbD_or, BitVec.getLsbD_ofNat, Nat.testBit_two_pow, decide_eq_true n.isLt, decide_eq_true rfl, Bool.true_and, Bool.or_true]

theorem clearGate (x : BitVec 4) : (x &&& ~~~ BitVec.ofNat 4 (2 ^ n.val)).getLsbD n.val = false := by
  rw [BitVec.getLsbD_and, BitVec.getLsbD_not, BitVec.getLsbD_ofNat, Nat.testBit_two_pow, decide_eq_true n.isLt, decide_eq_true rfl, Bool.true_and,
    Bool.true_and, Bool.not_true, Bool.and_false]

theorem bistFail_gate (s : State) (qual : Nat) : ∃ u : State, s.bistFail (8 + n.val) qual = (u.gateMarked n).raise 0x0915 n.val (axBits n) true := by
  refine ⟨s.failMarked (8 + n.val) qual, ?_⟩
  rw [bistFail_eq, if_pos gateTest, gateAxis]

theorem bistPass_gate (s : State) : (s.bistPass (8 + n.val)).svc.gateBad = s.svc.gateBad &&& ~~~ BitVec.ofNat 4 (2 ^ n.val) := by
  unfold State.bistPass
  dsimp only
  rw [if_pos gateTest, Nat.add_sub_cancel_left]
  split <;> rfl

/-- A failed gate test leaves the sequencers. -/
theorem bistFail_seq (s : State) (t qual : Nat) (m : Fin 4) : (s.bistFail t qual).seq m = s.seq m :=
  congrArg (fun p : PowerSt => (p.axes.get m).seq) (only_power (w := allBut .power) (by simp) (by simp))

variable {pass : Bool} {qual : Nat} {l : List Nat} {s : State} (hl : s.svc.bistTodo = (8 + n.val) :: l)
include hl

theorem gateTest_fails (hb : (s.axSt n).bist ≠ 0) (hq : s.seq n = .failed) : ∃ u : State, exec (.bistTestDone pass qual) s = .next u.settle ∧
    u.svc.bistTodo = l ∧ u.svc.failed.getLsbD 3 = true ∧ u.svc.gateBad.getLsbD n.val = true ∧ u.seq n = .failed ∧ u.faultActive 0x0915 = true := by
  have hv : s.bistVerdict (8 + n.val) pass qual = some 2 := by
    rw [bistVerdict_gate, State.gateTestOver, if_neg hb, show (s.axSt n).seq = .failed from hq]
  have hbit : bistBit (8 + n.val) = 3 := if_pos gateTest
  have hcode : bistFault (8 + n.val) = 0x0915 := if_pos gateTest
  obtain ⟨w, hw⟩ := bistFail_gate (n := n) s qual
  have hx := bistTestDone_closes (pass := pass) hl hv
  rw [bistFreed_gate] at hx
  refine ⟨_, hx, ?_, ?_, ?_, ?_, ?_⟩
  · rw [bistClose_svc SvcSt.bistTodo (fun _ => rfl)]
  · rw [bistClose_svc SvcSt.failed (fun _ => rfl)]
    refine (congrArg (fun x : BitVec 6 => x.getLsbD 3) (bistFail_failed s (8 + n.val) qual)).trans ?_
    rw [hbit, setBit _ (by decide)]
  · rw [bistClose_svc SvcSt.gateBad (fun _ => rfl)]
    change (s.bistFail (8 + n.val) qual).svc.gateBad.getLsbD n.val = true
    rw [hw, raise_svc]
    exact setGate _
  · unfold State.bistClose
    refine bistGo_failed ?_ _ _
    rw [if_pos gateTest, gateAxis]
    simp only [State.seq, setSeq_power, Quad.get_upd_self]
    exact (bistFail_seq s (8 + n.val) qual n).trans hq
  · rw [bistClose_faultActive, ← hcode]
    exact bistFail_faultActive s (8 + n.val) qual

theorem gateTest_passes (hb : (s.axSt n).bist = 2) (hq : s.seq n = .off) : ∃ u : State, exec (.bistTestDone pass qual) s = .next u.settle ∧
    u.svc.bistTodo = l ∧ u.svc.gateBad.getLsbD n.val = false := by
  have hv : s.bistVerdict (8 + n.val) pass qual = some 1 := by
    rw [bistVerdict_gate, State.gateTestOver, if_neg (by rw [hb]; decide), show (s.axSt n).seq = .off from hq, hb]
    rfl
  refine ⟨_, bistTestDone_closes hl hv, ?_, ?_⟩
  · rw [bistFreed_gate, bistClose_svc SvcSt.bistTodo (fun _ => rfl)]
  · rw [bistFreed_gate, bistClose_svc SvcSt.gateBad (fun _ => rfl)]
    exact (congrArg (fun x : BitVec 4 => x.getLsbD n.val) (bistPass_gate s)).trans (clearGate _)

end

/-- Settles O39: each operation acts at its start, and a test's verdict sets its own bits. -/
theorem serviceComplete : Obligations.ServiceComplete := by
  unfold Obligations.ServiceComplete
  exact ⟨starts_of_start (fun _ _ => rfl) (fun _ _ k => k) fun _ _ _ => rfl, svcClose_starts, svcTamper_starts, svcFactory_starts, svcDebug_starts,
    bistRun_starts, fun _ _ _ _ hl ht _ hd => test_passes hl ht hd, fun _ _ _ _ hl ht _ hd hs => test_fails hl ht hd hs,
    fun _ _ _ _ _ hl hb hq => gateTest_fails hl hb hq, fun _ _ _ _ _ hl hb hq => gateTest_passes hl hb hq⟩

end Sys2Proof.Machine
end
